-- ==== Sys2Proof/Word.lean ====
section
/-!
DEFINITION. The word of the host window and of every Broesh message (R132, R157, R161), and the containers the
state is built from: one place per host port, and sparse tables by key.
-/
namespace Sys2Proof

/-- A 32-bit window word, message word or record word. -/
abbrev Word := BitVec 32

/-- A sparse table: key and value pairs, the keys strictly rising. -/
abbrev Tbl (α : Type) := List (Nat × α)

/-- One value for each of the four host ports H0 to H3 (R123). -/
structure Quad (α : Type) where
  h0 : α
  h1 : α
  h2 : α
  h3 : α
  deriving DecidableEq, Repr, Inhabited

/-- The value of one port. -/
def Quad.get {α : Type} (q : Quad α) (p : Fin 4) : α :=
  if p.val = 0 then q.h0 else if p.val = 1 then q.h1 else if p.val = 2 then q.h2 else q.h3

/-- The value of one port replaced. -/
def Quad.put {α : Type} (q : Quad α) (p : Fin 4) (v : α) : Quad α :=
  if p.val = 0 then { q with h0 := v } else if p.val = 1 then { q with h1 := v }
  else if p.val = 2 then { q with h2 := v } else { q with h3 := v }

/-- The value of one port changed by a function. -/
def Quad.upd {α : Type} (q : Quad α) (p : Fin 4) (f : α → α) : Quad α := q.put p (f (q.get p))

/-- Every port's value changed by a function. -/
def Quad.map {α β : Type} (q : Quad α) (f : α → β) : Quad β := ⟨f q.h0, f q.h1, f q.h2, f q.h3⟩

/-- The same value on every port. -/
def Quad.all {α : Type} (v : α) : Quad α := ⟨v, v, v, v⟩

end Sys2Proof
end

