-- ==== Sys2Proof/Syntax.lean ====
section
/-!
DEFINITION. The commands the block takes from outside and the events that happen to it: one constructor per row of the spec's
table. A command or event carries what comes from outside (a port, a word, a measured quantity, the outcome of a physical
process); everything else it needs stands in State. A Broesh command's row has no operands: it executes the first request
that has been taken with its opcode (R137, R159), whose words stand in State.
-/
namespace Sys2Proof

/-- How a window register is accessed: a whole word, or one half of it over H2 (R129, R131). -/
inductive Lane where
  | word | low | high
  deriving DecidableEq, Repr, Inhabited

/-- An access to a port's window that no row of its own stands for: a write or a read of a word, or of one half of it, or a serial
transaction, given by the levels of its lines at each rising edge of SCK (R124 to R131). -/
inductive Access where
  | write (lane : Lane)
  | read (lane : Lane)
  | serial (clocks : List (BitVec 4))
  deriving DecidableEq, Repr, Inhabited

/-- The last of the three samples of the straps (R37), and VIN as it is measured then (R45), in 10 mV. -/
structure LastSample where
  straps : BitVec 8
  vin : Nat
  deriving DecidableEq, Repr, Inhabited

/-- What LATTICE_RESTORE finds (R287): whether the seal of DRAM holds, and the pages of the checkpoint that are lost. -/
structure Restored where
  sealOk : Bool
  lost : List Nat
  deriving DecidableEq, Repr, Inhabited

/-- The crystal oscillator as it is found (R98, R107): whether it runs, and how many ms ago its last edge was. -/
structure OscSeen where
  runs : Bool
  ms : Nat
  deriving DecidableEq, Repr, Inhabited

/-- A frame that arrives on air: the octets of its PSDU, whether its PHR says that the FCS has 4 of them (R188), the power on each branch
in dBm and the combined SNR in 0.25 dB (R191). -/
structure AirFrame where
  psdu : List (BitVec 8)
  fcs4 : Bool
  rssi0 : Int
  rssi1 : Int
  snr : Int
  deriving DecidableEq, Repr, Inhabited

/-- What the feedback receiver measures on a carrier (R206, R212): VSWR × 10, ACLR and mask margin in 0.1 dB, and mean output
in 0.1 dBm. -/
structure TxMeas where
  vswr : Nat
  aclrLo : Nat
  aclrHi : Nat
  margin : Int
  mean : Int
  deriving DecidableEq, Repr, Inhabited

/-- What a calibration sweep measures (R213, RAD.CAL_SWEEP words 5 to 9). -/
structure SweepMeas where
  result : Nat
  gainErr : Nat
  nf : Nat
  iqAmp : Int
  iqPhase : Int
  dcI : Int
  dcQ : Int
  aclrLo : Nat
  aclrHi : Nat
  pMax : Nat
  fbrErr : Int
  deriving DecidableEq, Repr, Inhabited

/-- One output sample of a phase's filter chain (R329, R332), in 2^−23 of full scale: the voltage, the voltage a quarter of the cycle
earlier, and the current with the phase coefficient's delay. -/
structure MtrSample where
  v : Int
  vq : Int
  i : Int
  deriving DecidableEq, Repr, Inhabited

/-- The samples of one feeder that belong to one cycle: its three phases, and its neutral current. -/
structure FeederCycle where
  phases : List (List MtrSample)
  neutral : List Int
  deriving DecidableEq, Repr, Inhabited

/-- How a CAN transmission attempt ends (R390 to R392): sent; lost in arbitration; no acknowledgement, with whether a dominant bit was
detected during the passive error flag; another error, with whether ISO 11898-1 exempts it from the transmit error count. -/
inductive CanEnd where
  | sent | lost | ackErr (dominant : Bool) | error (exempt : Bool)
  deriving DecidableEq, Repr, Inhabited

/-- A CAN frame (R386): format bits, DLC, identifier, the TT of its start of frame, and its data words. -/
structure CanStored where
  fdf : Bool
  brs : Bool
  esi : Bool
  rtr : Bool
  ide : Bool
  dlc : Nat
  id : Nat
  sof : Nat
  data : List Word
  deriving DecidableEq, Repr, Inhabited

/-- One qualifying period of a string (R359): on-time and off-time in ns, whether LGk is at its maximum at the end of the on-time, and LSk
there and at its lowest in the off-time, in µV. -/
structure StringPeriod where
  onNs : Nat
  offNs : Nat
  gateMax : Bool
  lsEndUv : Nat
  lsOffUv : Nat
  deriving DecidableEq, Repr, Inhabited

/-- One period of a sink (R360): its on-time in ns, its current at the end of it in 0.1 mA, and its pad in mV. -/
structure SinkPeriod where
  onNs : Nat
  cur : Nat
  padMv : Nat
  deriving DecidableEq, Repr, Inhabited

/-- An edge on SYNC_IN: its direction, and how long the new level is held (R366). -/
structure SyncEdge where
  rising : Bool
  heldNs : Nat
  deriving DecidableEq, Repr, Inhabited

/-- What a read of the light sensor brings: R, G, B and clear, a NACK, or a bus timeout (R368). -/
inductive SensorRead where
  | ok (m : List Nat) | nack | timeout
  deriving DecidableEq, Repr, Inhabited

/-- What the checker of a memory makes of a word that is read (R443). -/
inductive Verdict where
  | clean | corrected (bit : Nat) | uncorrectable
  deriving DecidableEq, Repr, Inhabited

/-- A word of a memory that is read, by a consumer or by scrubbing (R443, R453): its address as MEM.ERRORS gives it, its DRAM region
(0x1F for the other memories), the object that it belongs to (by memory or region: an engine, a buffer, a record, a slot; `sub` tells
which part of it, `idx` its place), the checker's verdict, whether it is the word that an armed flip has corrupted, and the error it
holds besides that. -/
structure MemRead where
  addr : Nat
  region : Nat
  obj : Nat
  sub : Nat
  idx : Nat
  v : Verdict
  injected : Bool
  real : Verdict
  deriving DecidableEq, Repr, Inhabited

/-- A step of NAND reclaim (R403, R462 to R464, R515): it starts; a block's surviving pages are copied, which frees pages; a block is
refreshed, for the bits corrected in a codeword or for its age; a block is retired, cause 0 program, 1 erase, 2 refresh; a page proves
uncorrectable, with the sequence numbers or indices it held; it ends. -/
inductive NandJob where
  | start | copied (freed : Nat) | refreshed (bits : Nat) (aged : Bool) | bad (cause : Nat) | lost (page : Nat) (items : List Nat) | finish
  deriving DecidableEq, Repr, Inhabited

/-- The commands and events of the block: one constructor per row of the spec's table of operations and events. -/
inductive Instr where
  /-- VIN_ON_RISE (R63): VIN reaches VIN_ON from KEEP, SHELF or unpowered; the shelf latch releases and BOOT begins with its power-up reset cause. -/
  | vinOnRise (vin : Nat)
  /-- RAILS_GOOD (R44): Internal rails come within limits in BOOT step 2; PGOOD is released and V33_AUX switches on. -/
  | railsGood
  /-- STRAP_SAMPLE (R37): At the end of the BOOT reset phase the straps are sampled three times with 2-of-3 majority and V_PFW_EFF is set. -/
  | strapSample (a b : BitVec 8) (c : LastSample)
  /-- FUSE_MAP_LOAD (R455): BOOT step 3 loads spare rows, columns, remap tables and the DRAM retirement list, then tests the repaired memories. -/
  | fuseMapLoad (usable : Bool)
  /-- RETENTION_CHECK (R53): BOOT step 4: the secure pair checks the retention token, reads the backup memory, the key area and world configuration, and handles RETL. -/
  | retentionCheck (ok0 ok1 memOk : Bool)
  /-- VBAK_MEASURE (R120): At BOOT step 4 and every 3,600 s, VBAK is measured under 1 mA and CELL_LOW is set or cleared. -/
  | vbakMeasure (mv : Nat)
  /-- BANK_VERIFY (R59): BOOT step 5 verifies the candidate bank, applies the rollback rule and floor, falls back to the other bank or halts BOOT. -/
  | bankVerify (candOk otherOk : Bool) (crcBad : List Nat)
  /-- WINDOW_ALIVE (R58): BOOT step 6 starts firmware and microcode; host windows come alive, Tether enters FREE, the reservation is written and metering restores. -/
  | windowAlive (f0 f1 : Nat)
  /-- LATTICE_RESTORE (R287): BOOT step 7 restores Lattice from the DRAM seal or NAND checkpoint and starts the event recorder, resuming log numbering. -/
  | latticeRestore (x : Restored)
  /-- BOOT_END (R60): BOOT ends: the mode is chosen, the boot notification is placed on every port, pending key commits are posted and held requests start being taken. -/
  | bootEnd
  /-- PFW_ASSERT (R48): VIN falls below V_PFW_EFF; PFW_N asserts and the flush sequence of transmit stop, saves, log append and clean-shutdown mark runs. -/
  | pfwAssert (vin steps : Nat)
  /-- PFW_ABORT (R49): VIN rises to V_PFW_EFF plus hysteresis after the flush; PFW clears and transmission restarts. -/
  | pfwAbort (vin : Nat)
  /-- BROWN_OUT (R49): After 200 ms of VIN between VIN_OFF and the release level, V_PFW_EFF is lowered and full service resumes. -/
  | brownOut (vin : Nat)
  /-- VIN_LOSS (R63): VIN falls below VIN_OFF; the module enters KEEP, or SHELF if the latch is armed. -/
  | vinLoss (vin : Nat)
  /-- PFW_EFF_RESTORE (R45): After 60 s with VIN at or above PFW_THRESHOLD + 0.5 V, V_PFW_EFF returns to PFW_THRESHOLD. -/
  | pfwEffRestore (vin : Nat)
  /-- EV_VIN_SURGE (R43): VIN above 75 V for more than 1 ms is logged once per excursion. -/
  | evVinSurge (vin : Nat)
  /-- VIOH_CHANGE (R28): VIOH falls below or returns above 1.6 V; host pads go high-impedance or regain access without losing queued messages. -/
  | viohChange (good : Bool)
  /-- RESET_N_ASSERT (R54): RESET_N held low for at least 10 µs resets the module, which stays in reset while it is low. -/
  | resetNAssert (us : Nat)
  /-- RESET_N_RELEASE (R56): Release of RESET_N enters BOOT with cause 0x03 or the interrupted power-up's cause. -/
  | resetNRelease
  /-- RAIL_FAULT (R55): An internal rail fault with VIN present causes a cold reset with cause 0x02. -/
  | railFault
  /-- CORE_WATCHDOG_EXPIRY (R55): The control-core watchdog, unserviced for 2 s, causes a warm reset with cause 0x05. -/
  | coreWatchdogExpiry
  /-- LOCKSTEP_MISMATCH (R55): A lockstep mismatch in a control pair (warm, 0x06) or in the secure pair (cold, 0x07) resets the module. -/
  | lockstepMismatch (securePair : Bool)
  /-- FIREWALL_VIOLATION (R433): A firmware access outside its world is refused, EV_WORLD_VIOLATION is logged and a warm reset with cause 0x0D follows. -/
  | firewallViolation (part : Bool) (item block inst : Nat)
  /-- RETENTION_TOKEN_LOSS (R52): BAK below V_RET for more than 50 µs, or below 1.2 V, destroys the retention token, leaving RETL for the next BOOT. -/
  | retentionTokenLoss (us mv : Nat)
  /-- BAK_SWITCH_OVER (R109): The BAK feed changes from VIN to VBAK; SWO_COUNT increments and SWO_STAMP is latched if not valid. -/
  | bakSwitchOver
  /-- HOST_WATCHDOG_EXPIRY (R69): A port's watchdog expires; EV_HOST_SILENT and HOST_SILENT are produced and AUTONOMOUS is evaluated. -/
  | hostWatchdogExpiry (p : Fin 4)
  /-- ZC_EDGE (R73): An edge on ZC_IN is stamped and judged as glitch or crossing; qualification, phase error, lock, slew and frequency are updated. -/
  | zcEdge (rising : Bool)
  /-- METER_CROSSING (R72): A positive-going crossing interpolated from a feeder voltage channel is judged as a Tether source crossing. -/
  | meterCrossing (src : Nat)
  /-- HOLDOVER_ENTRY (R79): Four consecutive cycles without a qualified crossing from any usable source put Tether in HOLDOVER. -/
  | holdoverEntry
  /-- SECONDARY_SWITCH (R75): After four cycles without a primary crossing and a qualified secondary, Tether switches to the secondary at the next boundary. -/
  | secondarySwitch
  /-- PRIMARY_RETURN (R75): After 256 consecutive qualified primary crossings Tether returns to the primary at the next cycle boundary. -/
  | primaryReturn
  /-- EV_TT_HOLDOVER_LONG (R80): Holdover lasting HOLD_ALARM_MIN minutes is logged once. -/
  | evTtHoldoverLong
  /-- RESERVATION_WRITE (R83): When CYCLE reaches a multiple of 2^20, Tether writes a new ceiling to both NOR rings. -/
  | reservationWrite (f0 f1 : Nat)
  /-- EV_TT_RESERVE_FAIL (R83): A ceiling write unconfirmed 2^19 cycles past its boundary is logged, and again every 2^19 cycles. -/
  | evTtReserveFail
  /-- RESERVE_CEILING_REACHED (R83): CYCLE reaching the confirmed ceiling sets RESERVE_LOST while counting continues. -/
  | reserveCeilingReached
  /-- ANCHOR_CAPTURE (R91): At phase 0 of every 1,024th cycle TT and RTC are latched into the anchor ring with their flags. -/
  | anchorCapture
  /-- TT_CONFIG_APPLY (R95): A stored Tether configuration is applied as a rank 0 entry, invalidating the learned offset and measuring against the new reference. -/
  | ttConfigApply
  /-- CONFIG_ENTRY_APPLY (R89): A stored setting change of a configuration command takes effect at its cycle boundary as a rank 3 entry. -/
  | configEntryApply
  /-- TT_ALARM_FIRE (R88): A host alarm entry fires as rank 7 and a notification goes to the requesting port, freeing the handle. -/
  | ttAlarmFire
  /-- TT_SNAP_LO_READ (R94): A read of TT_SNAP_LO captures the whole TT for the port and returns its low word. -/
  | ttSnapLoRead (p : Fin 4) (lane : Lane)
  /-- TT_STATUS (R95): Returns Tether state, frequency, phase error, holdover figures and queue use. -/
  | ttStatus
  /-- TT_CONFIG (R95): Stores the zero-cross sources, line, polarity, delay and holdover alarm for the next boundary. -/
  | ttConfig
  /-- TT_CONVERT (R92): Converts between TT and RTC by anchor interpolation or extrapolation with an error bound. -/
  | ttConvert
  /-- TT_ANCHORS (R95): Returns the anchor ring, newest first. -/
  | ttAnchors
  /-- TT_ALARM (R95): Posts a host alarm at a target TT and returns its handle. -/
  | ttAlarm
  /-- TT_ALARM_CANCEL (R95): Removes an alarm or reports that it fired. -/
  | ttAlarmCancel
  /-- TT_QUEUE (R95): Returns timeline event queue use per share and per block. -/
  | ttQueue
  /-- RTC_CORRECTION_WINDOW (R99): At the start of each 2^21-tick window the RTC correction is computed, AGING updated and ticks inserted or dropped. -/
  | rtcCorrectionWindow (m temp : Int) (bakOk : Bool)
  /-- RTC_SHADOW_READ (R100): A read of an RTC shadow register freezes or serves the port's copy and releases it when all three are read or STALE is shown. -/
  | rtcShadowRead (p : Fin 4) (reg : Fin 3) (lane : Lane)
  /-- RTC_SHADOW_TIMEOUT (R101): A frozen RTC copy is released 1 s after its first read, so that the next copy carries STALE. -/
  | rtcShadowTimeout (p : Fin 4)
  /-- RTC_SET_COMMIT (R104): A staged RTC write commits on its tick: seconds set, fraction 0, LBV cleared, anchor captured, event and notification produced. -/
  | rtcSetCommit
  /-- OSC_STOP_DETECT (R107): No crystal edge for 1 ms, or a crystal error beyond ±100 ppm, sets OSF and LBV. -/
  | oscStopDetect (x : OscSeen) (ppm : Int)
  /-- EV_LBV (R107): BAK below V_LBV for more than 1 ms while fed from VBAK sets LBV. -/
  | evLbv (bakMv us : Nat)
  /-- TAMPER_SAMPLE (R115): Every 1,024 ticks each armed tamper input is pulsed and sampled and its filter advanced. -/
  | tamperSample (open0 open1 : Bool)
  /-- RTC_STATUS (R121): Returns RTC, flags, compensation, cell, switch-over and tamper state latched on one tick. -/
  | rtcStatus
  /-- RTC_SET (R104): Stages, applies at once or cancels an RTC write by MODE. -/
  | rtcSet
  /-- RTC_FLAGS (R110): Returns switch-over stamp and flags and clears the requested flags, stamp or tamper latch on one tick. -/
  | rtcFlags
  /-- RTC_TRIM (R99): Stores the user RTC trim for use from the next window. -/
  | rtcTrim
  /-- BRAM_READ (R111): Returns a range of backup RAM words latched on one tick. -/
  | bramRead
  /-- BRAM_WRITE (R111): Writes a range of backup RAM words on one tick. -/
  | bramWrite
  /-- TAMPER_CONFIG (R114): Sets the mode and filter of both tamper inputs from the next sample. -/
  | tamperConfig
  /-- REQ_DATA_PUSH (R133): A write to REQ_DATA stages one word or poisons the queue. -/
  | reqDataPush (p q : Fin 4) (w : Word)
  /-- REQ_COMMIT (R134): A write to REQ_COMMIT checks the staged message and commits it or reports a framing error. -/
  | reqCommit (p q : Fin 4) (w : Word)
  /-- REQ_ABORT (R134): A write to REQ_COMMIT with ABORT discards the staged words and clears POISONED. -/
  | reqAbort (p q : Fin 4)
  /-- RSP_DATA_POP (R146): A read of RSP_DATA pops the next word of the head return message and frees it when complete. -/
  | rspDataPop (p : Fin 4) (r : Fin 2) (lane : Lane)
  /-- RSP_DISCARD_HEAD (R146): Writing HEAD discards the rest of the head return message. -/
  | rspDiscardHead (p : Fin 4) (r : Fin 2)
  /-- RSP_DISCARD_ALL (R146): Writing ALL discards every message in the return queue. -/
  | rspDiscardAll (p : Fin 4) (r : Fin 2)
  /-- PORT_FLUSH (R147): Writing FLUSH discards the port's staged and untaken requests and all return messages, ends freezes and sets, and logs counts. -/
  | portFlush (p : Fin 4)
  /-- INT_STAT_CLEAR (R149): Writing 1 to INT_STAT bits clears them, level bits reasserting while their condition holds. -/
  | intStatClear (p : Fin 4) (w : Word)
  /-- REGISTER_WRITE (R132): A write to a window register without behaviour of its own, such as PORT_CTRL PAUSE or IRQ_OUT_EN, updates it or is ignored. The row carries, besides, the accesses that have no row of their own. -/
  | registerWrite (p : Fin 4) (off : Nat) (w : Word) (a : Access)
  /-- REQUEST_TAKE (R138): The module takes the next committed request by queue and port order once its return reservation fits. -/
  | requestTake
  /-- ORDERED_EXECUTION_START (R159): An ORDERED request begins execution and its checks once every earlier ordered request of its port has completed. -/
  | orderedExecutionStart
  /-- HELD_MESSAGE_PLACE (R143): A held response or completion notification is placed when room appears in its queue. -/
  | heldMessagePlace (p : Fin 4) (r : Fin 2)
  /-- NTF_LOST_PLACE (R145): When room next appears after drops, one NTF_LOST notification with the dropped count is placed. -/
  | ntfLostPlace (p : Fin 4)
  /-- SYS_NOP (R176): Returns OK and restarts the port's watchdog. -/
  | sysNop
  /-- SYS_IDENT (R176): Returns EUI, versions, reset cause, bank, straps, epoch and uptime. -/
  | sysIdent
  /-- SYS_CAPS (R168): Returns CAPS0, CAPS1, engine masks and PHY modes. -/
  | sysCaps
  /-- SYS_STATUS (R176): Returns mode, flags, port states, watchdog time left and set states. -/
  | sysStatus
  /-- SYS_RESET (R55): Answers OK and schedules a warm reset with cause 0x04 10 ms later. -/
  | sysReset
  /-- SOFTWARE_RESET (R55): 10 ms after SYS.RESET the module begins a warm reset with cause 0x04. -/
  | softwareReset
  /-- SYS_SHELF (R64): Arms the shelf latch if no key slot has ever been committed. -/
  | sysShelf
  /-- SYS_WATCHDOG (R68): Reads or sets a port watchdog timeout and restarts a running watchdog. -/
  | sysWatchdog
  /-- SYS_MODE (R63): Ends COMMISSION into RUN or returns to COMMISSION, discarding sets. -/
  | sysMode
  /-- SYS_POWER (R45): Reads power figures or writes PFW_THRESHOLD and recomputes V_PFW_EFF. -/
  | sysPower
  /-- SYS_CFG_BEGIN (R169): Opens a configuration set on the port. -/
  | sysCfgBegin
  /-- SYS_CFG_COMMIT (R171): Closes and checks the open set and posts its application. -/
  | sysCfgCommit
  /-- SYS_CFG_ABORT (R174): Discards the port's open or accepted set. -/
  | sysCfgAbort
  /-- SYS_SETTINGS (R175): Lists the settings sets reachable by the port with state, schema and CRC. -/
  | sysSettings
  /-- SYS_SETTINGS_RESET (R175): Returns a settings set to defaults at the next boundary. -/
  | sysSettingsReset
  /-- CFG_SET_APPLY (R172): An accepted set is re-checked and applied all or nothing as one rank 3 entry, with its completion notification. -/
  | cfgSetApply (media : Bool)
  /-- CFG_SET_TIMEOUT (R174): An open set is discarded 600 s after its last staged command. -/
  | cfgSetTimeout (p : Fin 4)
  /-- RAD_STATUS (R214): Returns live radio state, engine configuration or the band plan. -/
  | radStatus
  /-- RAD_BAND_PLAN (R196): Stores a delivered or custom band plan. -/
  | radBandPlan
  /-- RAD_FE_CONFIG (R185): Stores a front end's centre, role, antenna figures and gain mode. -/
  | radFeConfig
  /-- RAD_ENGINE_CONFIG (R194): Stores an engine's enable, PHY, channel, power, duty share and listen-before-talk settings. -/
  | radEngineConfig
  /-- RAD_CAL_STATUS (R214): Returns live calibration state of both front ends. -/
  | radCalStatus
  /-- RAD_CAL_SWEEP (R213): Starts a non-live calibration sweep that withdraws a front end under Ballast. -/
  | radCalSweep
  /-- RAD_TX_TEST (R214): Starts or stops a continuous transmit test on an OFF engine in COMMISSION. -/
  | radTxTest
  /-- CAL_SWEEP_END (R213): A sweep completes or aborts, the front end returns to service and the result is reported. -/
  | calSweepEnd (fe : Fin 2) (m : SweepMeas)
  /-- TX_TEST_END (R214): A transmit test ends by duration, foldback, PFW or request and reports its outcome. -/
  | txTestEnd (n : Nat) (m : TxMeas)
  /-- FE_RETUNE (R185): A new centre or role is applied once the front end's last carrier ends, invalidating its branches for up to 200 µs. -/
  | feRetune (fe : Fin 2) (us : Nat)
  /-- SHR_DETECT (R194): An engine detects an SHR on a valid branch and enters RECEIVE. -/
  | shrDetect (n : Nat) (br : Fin 2)
  /-- FRAME_RECEIVED (R191): A received frame ends; metadata is recorded, it is moved to the ring, filtered, verified and dispatched. -/
  | frameReceived (n : Nat) (f : AirFrame)
  /-- ENHANCED_ACK (R223): T_TA after a qualifying frame the engine sends an Enhanced ACK with pending bit and Ack IE, or skips it. -/
  | enhancedAck (n : Nat)
  /-- ACK_RECEIVED (R223): An Enhanced ACK answering a sent frame is accepted within its window, with any Confirm IE. -/
  | ackReceived (n : Nat) (f : AirFrame)
  /-- ACK_TIMEOUT (R223): No valid ACK within the answer window leaves the frame NO_ACK. -/
  | ackTimeout (n : Nat)
  /-- CARRIER_ADMIT (R204): The head waiting frame on a front end is admitted when carriers and power allow, re-evaluated as carriers end or foldback changes. -/
  | carrierAdmit (fe : Fin 2)
  /-- LBT_ATTEMPT (R199): A listen-before-talk attempt ends clear, starting the carrier, or busy, scheduling a further back-off or CHANNEL_BUSY. -/
  | lbtAttempt (n : Nat) (br : Fin 2) (peak : Int)
  /-- TRANSMIT_END (R193): A carrier ends; the frame leaves with SENT and foldback measurements are updated. -/
  | transmitEnd (n : Nat) (m : TxMeas)
  /-- FRAME_DEADLINE (R193): A staged frame reaches its deadline and leaves with DEADLINE, DUTY or TX_DISABLED. -/
  | frameDeadline (n : Nat)
  /-- DUTY_BIN_ADVANCE (R200): Each second the duty-cycle window advances a bin and held frames may be released. -/
  | dutyBinAdvance
  /-- VSWR_RECOVERY (R206): After 60 s of low VSWR the VSWR foldback returns to 0. -/
  | vswrRecovery (fe : Fin 2)
  /-- PA_TEMPERATURE_CHANGE (R207): A change of power-amplifier die temperature sets thermal foldback or stops and resumes transmission. -/
  | paTemperatureChange (fe : Fin 2) (t : Int)
  /-- RX_CAL_PUBLISH (R209): Live calibration publishes a new receive IQ and DC set for a front end. -/
  | rxCalPublish (fe : Fin 2) (amp phase dcI dcQ : Int)
  /-- RX_CAL_ADOPT (R209): An engine changes to the published set at its first instant outside RECEIVE. -/
  | rxCalAdopt (n : Nat)
  /-- GAIN_STEP_CHANGE (R210): An automatic gain change is made at the first instant it splits no single-branch frame. -/
  | gainStepChange (fe : Fin 2) (step : Fin 16) (headroom : Nat)
  /-- EV_FE_GAIN_FORCED (R210): A gain change waiting 50 ms, or clipping on 64 samples, is forced and frames lost are counted. -/
  | evFeGainForced (fe : Fin 2) (clip : Bool)
  /-- DPD_APPLY (R211): A published predistortion set is applied at an instant with no carrier active. -/
  | dpdApply (fe : Fin 2) (state : Fin 3)
  /-- DPD_TIMEOUT (R211): After 10 s without a free instant the front end stops admitting data, train and beacon carriers. -/
  | dpdTimeout (fe : Fin 2)
  /-- EV_FE_FAULT (R215): A synthesiser unlock or PA fault turns the front end OFF until relock. -/
  | evFeFault (fe : Fin 2) (pa : Bool)
  /-- FE_RELOCK_RETRY (R215): Every 1 s a faulted front end tries to relock. -/
  | feRelockRetry (fe : Fin 2) (ok : Bool)
  /-- BEACON_DUE (R230): At each period's nominal start the engine stages an Enhanced Beacon with its Tether IE and window deadline. -/
  | beaconDue (n : Nat)
  /-- BACKUP_BEACON (R232): With M ≥ 3, a beacon not sent by half its window is sent on the backup channel. -/
  | backupBeacon (n : Nat)
  /-- EXTRA_BEACON (R230): A Beacon Request outside a window is answered with one extra beacon within 50 cycles. -/
  | extraBeacon (n : Nat)
  /-- LINK_SWEEP (R239): Each link's guard is recomputed at least every 4,096 cycles, moving TRACKED links to ADRIFT. -/
  | linkSweep (n : Nat)
  /-- POLL_MISS (R246): POLL_MISS poll intervals without a frame move a POLL link to RESYNC. -/
  | pollMiss (ep : Nat)
  /-- GREETING_ROUND (R244): While links are in RESYNC, a greeting train and beacon are sent each GREET_INT, or the round is skipped; unanswered links go LOST. -/
  | greetingRound (n : Nat)
  /-- MAC_ENGINE_STATUS (R249): Returns an engine's MAC state and counters. -/
  | macEngineStatus
  /-- MAC_BEACON_CONFIG (R231): Stores an engine's PAN, address, beacon schedule, backup channel and keys. -/
  | macBeaconConfig
  /-- MAC_SLEEPY_CONFIG (R249): Stores an engine's sleepy-endpoint parameters. -/
  | macSleepyConfig
  /-- MAC_LINK_STATE (R245): Returns a sleepy endpoint's link state and guard. -/
  | macLinkState
  /-- MAC_RAW_SEND (R249): Transmits a host-built MAC frame, optionally after a wake train and waiting for an ACK. -/
  | macRawSend
  /-- JOIN_REQ (R256): A JOIN_REQ is accepted or refused; on acceptance an address is assigned, the record written and JOIN_RSP started. -/
  | joinReq (n : Nat) (media : Bool)
  /-- REJOIN (R257): A REJOIN is accepted, possibly changing engine, parent and route and resending pending transactions. -/
  | rejoin (n : Nat) (media : Bool)
  /-- CONFIRM (R264): A CONFIRM message or Confirm IE ends the matching transaction with OK or ABANDONED. -/
  | confirm (n : Nat)
  /-- ENERGY (R263): An ENERGY report updates the endpoint's ENERGY and ENERGY_CYC. -/
  | energy (n : Nat)
  /-- DETECT (R315): A DETECT report creates or re-anchors waves on enabled corridors or feeds the lux median. -/
  | detect (n : Nat)
  /-- IMAGE_NACK (R283): A NACK message records the blocks a target is missing. -/
  | imageNack (n : Nat)
  /-- IMG_REPORT (R283): A target reports verified, signature failed or incomplete for an image. -/
  | imgReport (n : Nat)
  /-- REPORT (R289): A host-defined endpoint message is delivered as a REPORT notification or answers a query. -/
  | report (n : Nat)
  /-- TXN_ATTEMPT (R270): A QUEUED transaction whose record is ACTIVE and link usable makes an attempt and stages its frame. -/
  | txnAttempt (id : Nat)
  /-- TXN_CONFIRM_TIMEOUT (R271): T_CF expires in AWAIT and the transaction enters BACKOFF. -/
  | txnConfirmTimeout (id : Nat)
  /-- TXN_BACKOFF_END (R271): The backoff elapses and the transaction is queued again or ends ABANDONED. -/
  | txnBackoffEnd (id : Nat)
  /-- TXN_DEADLINE (R272): A transaction's deadline passes and it reaches its final status. -/
  | txnDeadline (id : Nat)
  /-- SEQ_WAIT_EXPIRY (R274): A command held for its sequence number for SEQ_WAIT cycles ends with SEQ_GAP. -/
  | seqWaitExpiry (p : Fin 4)
  /-- GROUP_REPEAT (R273): Each repetition of a native group broadcast is sent 2 cycles apart; after the last, compensating unicasts follow. -/
  | groupRepeat (id : Nat)
  /-- LINK_KEY_OVERLAP_END (R259): At OVERLAP_END the previous link key and its counter are zeroised as a rank 4 entry. -/
  | linkKeyOverlapEnd
  /-- LINK_KEY_LOAD_APPLY (R259): A loaded link key is applied at its cycle boundary, moving the current key to previous. -/
  | linkKeyLoadApply (media : Bool)
  /-- BACKGROUND_CHECKPOINT (R285): Every CKPT_H hours the volatile Lattice fields are written to the checkpoint. -/
  | backgroundCheckpoint
  /-- JOURNAL_PAGE_WRITE (R286): A journal page is written when full or 64 cycles after its first entry. -/
  | journalPageWrite
  /-- JOIN_PERMIT_EXPIRY (R255): After DURATION seconds PERMIT changes from 1 to 2. -/
  | joinPermitExpiry
  /-- IMAGE_PHASE (R283): An image distribution advances through announce, blocks, repair rounds, verification and activation. -/
  | imagePhase (id : Nat)
  /-- LAT_ADD (R289): Adds a PROVISIONED endpoint record. -/
  | latAdd (media : Bool)
  /-- LAT_REMOVE (R258): Removes an endpoint, optionally after a LEAVE. -/
  | latRemove (media : Bool)
  /-- LAT_READ (R289): Returns an endpoint record. -/
  | latRead
  /-- LAT_UPDATE (R289): Updates selected fields of an endpoint record. -/
  | latUpdate (media : Bool)
  /-- LAT_FIND (R289): Finds an endpoint by EUI-64 or by engine and short address. -/
  | latFind
  /-- LAT_JOIN_POLICY (R255): Stores the join policy, masks, image key and checkpoint interval. -/
  | latJoinPolicy
  /-- LAT_KEY_LOAD (R259): Loads a wrapped link key for an endpoint with an overlap window. -/
  | latKeyLoad
  /-- LAT_ROUTE_READ (R289): Returns an endpoint's or a route's entries. -/
  | latRouteRead
  /-- LAT_IMAGE_LOAD (R282): Loads a chunk of an endpoint image into a cache slot, verifying at LAST. -/
  | latImageLoad
  /-- LAT_IMAGE_SEND (R283): Starts distribution of a cached image to a group. -/
  | latImageSend
  /-- LAT_CHECKPOINT (R285): Writes a Lattice checkpoint on demand. -/
  | latCheckpoint
  /-- TXN_SEND (R290): Starts a host-defined control or query transaction to an endpoint. -/
  | txnSend
  /-- TXN_LEVEL (R290): Starts a confirmed LEVEL transaction to a lantern. -/
  | txnLevel
  /-- TXN_GROUP_LEVEL (R273): Sends a level to a group by broadcast, or by member transactions in compatibility ordering. -/
  | txnGroupLevel
  /-- TXN_CANCEL (R290): Cancels the port's unfinished transactions carrying a tag. -/
  | txnCancel
  /-- TXN_STATUS (R290): Returns transaction engine state and counters. -/
  | txnStatus
  /-- TXN_ORDER_MODE (R276): Stores the ordering mode and SEQ_WAIT. -/
  | txnOrderMode
  /-- TXN_RETRY_POLICY (R290): Stores the retry, reroute, backoff, deadline, lead and hop budget policy. -/
  | txnRetryPolicy
  /-- SCH_DECIDE (R306): Each cycle the schedule engine or fallback decides levels for cycle c + SCH_LEAD and sends changes or resyncs. -/
  | schDecide
  /-- CHD_EVALUATION (R321): Chord evaluates waves every E cycles and on wave changes, issuing LEVEL transactions. -/
  | chdEvaluation
  /-- WAVE_END (R319): A wave ends at phase 0 of END_CYC and its lanterns return to their base levels. -/
  | waveEnd
  /-- SCH_GROUP_SET (R292): Defines, changes or deletes a group's owner mask and default level. -/
  | schGroupSet
  /-- SCH_GROUP_MEMBERS (R293): Adds or removes endpoints in a group's slots. -/
  | schGroupMembers (media : Bool)
  /-- SCH_GROUP_READ (R324): Returns a group's fields and members. -/
  | schGroupRead
  /-- SCH_ENTRY_SET (R300): Stores a schedule entry. -/
  | schEntrySet
  /-- SCH_ENTRY_CLEAR (R324): Clears a schedule entry. -/
  | schEntryClear
  /-- SCH_ENTRY_READ (R324): Returns a schedule entry and its state. -/
  | schEntryRead
  /-- SCH_SITE (R299): Stores the site, sun elevation, SCH_LEAD and LUX_AGE. -/
  | schSite
  /-- SCH_TZ_RULE (R297): Stores or clears a time-zone rule. -/
  | schTzRule
  /-- SCH_FALLBACK (R309): Stores the autonomous fallback program. -/
  | schFallback
  /-- SCH_EVALUATE (R324): Returns current level, sun events, lux or local time. -/
  | schEvaluate
  /-- CHD_CORRIDOR_SET (R313): Loads a corridor image chunk, checking it at LAST. -/
  | chdCorridorSet
  /-- CHD_CORRIDOR_CLEAR (R325): Clears a corridor, ending its waves. -/
  | chdCorridorClear
  /-- CHD_CORRIDOR_READ (R325): Returns a corridor image. -/
  | chdCorridorRead
  /-- CHD_CONFIG (R325): Stores Chord's evaluation interval, lead and forwarding delay. -/
  | chdConfig
  /-- CHD_WAVES (R325): Returns wave descriptors. -/
  | chdWaves
  /-- CHD_INJECT (R325): Injects a detection into a corridor. -/
  | chdInject
  /-- METER_CYCLE_END (R332): At each cycle boundary metering integrates the cycle into the registers, writes the residue and accrues pulses. -/
  | meterCycleEnd (c : List FeederCycle)
  /-- EV_METER_OVERRANGE (R335): Stream density out of range in a 1 ms span flags over-range. -/
  | evMeterOverrange (k density : Nat)
  /-- EV_METER_INPUT_FAULT (R335): No transition for 256 bit periods or loss of Manchester lock faults an input. -/
  | evMeterInputFault (k idle : Nat) (locked : Bool)
  /-- INTERVAL_CLOSE (R339): An interval closes as rank 4; a record per feeder is written and an earlier interval's balance is judged. -/
  | intervalClose
  /-- METER_SAVE (R344): Every SAVE_MIN minutes, or when the residue nears its limit, metering saves its state. -/
  | meterSave (fails : Nat)
  /-- METER_SAVE_RETRY (R344): After three failed saves the save is retried every 60 s. -/
  | meterSaveRetry (fails : Nat)
  /-- PULSE_START (R343): A pulse output starts a pulse when one is owed and the previous low time has ended. -/
  | pulseStart (k : Nat)
  /-- METER_CAL_APPLY (R338): New calibration coefficients take effect at phase 0 of the target cycle. -/
  | meterCalApply
  /-- METER_MEASURE_END (R338): A calibration measurement run completes after N cycles and reports. -/
  | meterMeasureEnd (f : Nat)
  /-- MTR_INPUT_CONFIG (R352): Stores modulator input, clock or global metering settings. -/
  | mtrInputConfig
  /-- MTR_FEEDER_CONFIG (R352): Stores a feeder's channels, scales, ratings and balance tolerances. -/
  | mtrFeederConfig
  /-- MTR_READ (R352): Returns a feeder's registers latched on one boundary. -/
  | mtrRead
  /-- MTR_INTERVALS (R352): Returns interval records. -/
  | mtrIntervals
  /-- MTR_PULSE_CONFIG (R352): Stores a pulse output's quantity, constant and width. -/
  | mtrPulseConfig
  /-- MTR_CALIBRATE (R338): Applies, measures or resets calibration of one phase under Ballast. -/
  | mtrCalibrate
  /-- MTR_BALANCE (R352): Returns the latest feeder balance results. -/
  | mtrBalance
  /-- SGN_CYCLE_UPDATE (R356): At each cycle boundary the sign recomputes every output's duty and applies levels and flashing. -/
  | sgnCycleUpdate (cur : List Nat)
  /-- STRING_FAULT (R359): An open or short on a string qualifies after three qualifying periods. -/
  | stringFault (k : Nat) (ps : List StringPeriod)
  /-- SINK_FAULT (R360): An open or short on an indicator sink qualifies after three periods. -/
  | sinkFault (k : Nat) (ps : List SinkPeriod)
  /-- FAILURE_RECORD_WRITE (R363): The sign failure record is written to NOR within 1 s of a change. -/
  | failureRecordWrite (f0 f1 : Nat)
  /-- SGN_LEVEL_APPLY (R373): A function level takes effect as a rank 6 entry. -/
  | sgnLevelApply
  /-- MATRIX_LATCH (R366): The flip latch pulse is given at the target or a qualified SYNC_IN edge, exchanging the buffers and sending FLIPPED. -/
  | matrixLatch (e : Option SyncEdge)
  /-- SYNC_TIMEOUT (R366): No qualified SYNC_IN edge within SYNC_TIMEOUT cycles latches at phase 0 and logs the timeout. -/
  | syncTimeout
  /-- MATRIX_SHIFT_END (R366): A frame shift finishes; a latch already due follows and the flip is reported late. -/
  | matrixShiftEnd
  /-- MATRIX_REFRESH (R367): Every MX_REFRESH cycles the front buffer is shifted and latched again. -/
  | matrixRefresh
  /-- SENSOR_READ (R369): Every SNS_CYC cycles the light sensor is read and the colour gains tracked. -/
  | sensorRead (r : SensorRead)
  /-- SENSOR_RETRY (R368): After a sensor fault the module re-initialises and retries every 1 s. -/
  | sensorRetry (r : SensorRead)
  /-- NTC_MEASURE (R370): Each cycle each NTC is measured and a fault detected. -/
  | ntcMeasure (n x : Nat)
  /-- DERATE_UPDATE (R371): Every 64 cycles the derating factor of each enabled NTC is updated. -/
  | derateUpdate
  /-- SGN_STRING_CONFIG (R373): Stores a string, sink, matrix or sensor configuration. -/
  | sgnStringConfig
  /-- SGN_FUNCTION (R362): Defines, deletes or retests a sign function. -/
  | sgnFunction
  /-- SGN_FRAME_LOAD (R366): Loads a chunk of a frame into the back buffer. -/
  | sgnFrameLoad
  /-- SGN_FLIP (R366): Arms a frame flip and starts the shift. -/
  | sgnFlip
  /-- SGN_LEVEL (R373): Sets a function level at a target cycle. -/
  | sgnLevel
  /-- SGN_STATUS (R373): Returns sign outputs, faults, temperatures and gains. -/
  | sgnStatus
  /-- SGN_DERATE (R371): Stores an NTC's derating curve. -/
  | sgnDerate
  /-- DIN_SAMPLE (R377): At each DIN sample instant inputs are sampled and qualified, producing edges. -/
  | dinSample (levels edges : Nat)
  /-- EV_DIN_STUCK (R378): An input active for STUCK_S seconds is reported stuck. -/
  | evDinStuck (k : Nat)
  /-- CHATTER_WINDOW_END (R378): At the end of each chatter window the count is judged and EV_DIN_CHATTER logged. -/
  | chatterWindowEnd (k : Nat)
  /-- EV_DOUT_FAULT (R379): Overcurrent or overheating opens and latches a DOUT switch. -/
  | evDoutFault (k : Nat) (thermal : Bool)
  /-- DOUT_APPLY (R381): A DOUT value takes effect at its target or take, refusing held outputs. -/
  | doutApply
  /-- DOUT_RETURN (R381): After DUR cycles an output returns to its previous commanded value. -/
  | doutReturn
  /-- IO_DIN_CONFIG (R394): Stores a digital input's configuration. -/
  | ioDinConfig
  /-- IO_DIN_READ (R394): Returns digital input state latched at one sample. -/
  | ioDinRead
  /-- IO_DOUT_SET (R381): Sets digital outputs now or at a target. -/
  | ioDoutSet
  /-- IO_DOUT_CONFIG (R380): Stores an output's safe state and clears its fault latch. -/
  | ioDoutConfig
  /-- IO_STATUS (R394): Returns output states and input edge counts. -/
  | ioStatus
  /-- CAN_FRAME_RECEIVED (R386): A received CAN frame is stored in the first accepting free buffer, dropped or discarded, and notified. -/
  | canFrameReceived (p : Nat) (f : CanStored)
  /-- CAN_ATTEMPT_END (R391): A transmission attempt ends in success, lost arbitration or error, deciding the frame's outcome. -/
  | canAttemptEnd (p sof : Nat) (e : CanEnd)
  /-- CAN_RECOVERED (R392): After 128 occurrences of 11 recessive bits the port returns to error active and notifies. -/
  | canRecovered (p : Nat)
  /-- CAN_DETECT_DWELL (R385): In DETECT, the dwell time expires and the next candidate rate is tried. -/
  | canDetectDwell (p : Nat)
  /-- CAN_CONFIG (R395): Stores a CAN port's mode and bit timing. -/
  | canConfig
  /-- CAN_BUFFER_CONFIG (R395): Stores a CAN buffer's kind and filter. -/
  | canBufferConfig
  /-- CAN_SEND (R389): Places a frame in a transmit buffer. -/
  | canSend
  /-- CAN_CANCEL (R391): Cancels a pending CAN frame and reports its outcome. -/
  | canCancel (started : Bool)
  /-- CAN_READ (R388): Returns a stored frame and locks its buffer. -/
  | canRead
  /-- CAN_STATUS (R395): Returns a CAN port's state and counters. -/
  | canStatus
  /-- CAN_RECOVER (R392): Starts bus-off recovery monitoring. -/
  | canRecover
  /-- APPENDER_RUN (R402): The appender moves staged records into the log in sequence order, displacing or dropping by severity. -/
  | appenderRun
  /-- PAGE_PROGRAM (R404): A log page is programmed when full, 64 cycles after its first record, or in the flush. -/
  | pageProgram (ok : Bool)
  /-- FREEZE_EXPIRY (R408): A port's freeze ends when its DURATION expires. -/
  | freezeExpiry (p : Fin 4)
  /-- LOG_STATUS (R414): Returns log state and counters. -/
  | logStatus
  /-- LOG_READ (R410): Returns filtered records from a sequence number. -/
  | logRead
  /-- LOG_FREEZE (R407): Gives the port a freeze of the log. -/
  | logFreeze
  /-- LOG_THAW (R408): Ends the port's freeze. -/
  | logThaw
  /-- LOG_SEVERITY (R413): Sets or restores an event severity or sets MIN_SEV. -/
  | logSeverity
  /-- LOG_APPEND (R414): Creates a host record in the log. -/
  | logAppend
  /-- KEY_COMMIT_ENTRY (R423): A pending key commit takes effect as a rank 1 entry, opening an overlap window and locking debug on first commit. -/
  | keyCommitEntry
  /-- KEY_OVERLAP_END (R423): At the window end the previous key of a slot is zeroised. -/
  | keyOverlapEnd
  /-- KEK_REWRAP_COMPLETE (R425): Lattice finishes rewrapping link keys under a new KEK and the rotation ends. -/
  | kekRewrapComplete
  /-- KEY_GENERATE_COMPLETE (R422): A key generation completes with a pairwise test and the slot becomes VERIFIED. -/
  | keyGenerateComplete (pairOk : Bool) (f0 f1 : Nat)
  /-- KEY_GENERATE (R439): Starts generation of an AGREE key pair. -/
  | keyGenerate
  /-- KEY_IMPORT (R421): Imports a key into the shadow of an empty or lost slot. -/
  | keyImport (f0 f1 : Nat)
  /-- KEY_STAGE (R421): Stages a replacement key into an active slot. -/
  | keyStage (f0 f1 : Nat)
  /-- KEY_VERIFY (R422): Proves the staged key by challenge. -/
  | keyVerify (f0 f1 : Nat)
  /-- KEY_COMMIT (R423): Posts a verified shadow for commit at a cycle under Ballast. -/
  | keyCommit (f0 f1 : Nat)
  /-- KEY_ATTEST (R431): Returns a signed statement about a key. -/
  | keyAttest
  /-- KEY_INFO (R440): Returns slot information or exports a key under a transport key. -/
  | keyInfo
  /-- KEY_DESTROY (R428): Destroys a slot's shadow or whole contents. -/
  | keyDestroy (f0 f1 : Nat)
  /-- KEY_WORLD_SET (R434): Reads or writes the stored world configuration. -/
  | keyWorldSet (f0 f1 : Nat)
  /-- SCRUB_READ (R444): Hardware scrubbing reads SRAM and privileged words periodically and writes back corrections. -/
  | scrubRead (mem : Nat) (m : MemRead)
  /-- DRAM_PATROL (R459): The DRAM patrol scrub reads words at the normal or high rate, ending passes. -/
  | dramPatrol (words : Nat) (m : MemRead) (f0 f1 : Nat)
  /-- FLIP_TIMEOUT (R453): An armed flip not written within 1 s or not read within 60 s ends and the true word is restored. -/
  | flipTimeout (writtenAt : Option Nat)
  /-- MEM_REPAIR_COMPLETE (R457): A field repair's fuse programming and application complete. -/
  | memRepairComplete (programmed : Bool) (f0 f1 : Nat)
  /-- NAND_RECLAIM (R403): Internal NAND reclaim copies surviving data, refreshes and replaces blocks, and erases freed blocks. -/
  | nandReclaim (part block erases : Nat) (job : NandJob)
  /-- LAT_COMPACT (R488): After a checkpoint finding much superseded data, Lattice rewrites its live pages. -/
  | latCompact
  /-- MEM_STATUS (R468): Returns memory integrity status. -/
  | memStatus
  /-- MEM_ERRORS (R467): Returns a memory's error table or the retirement list. -/
  | memErrors
  /-- MEM_FLIP (R452): Arms one corrupted write for a checker test. -/
  | memFlip
  /-- MEM_REPAIR (R457): Orders a row, column, remap or page repair. -/
  | memRepair
  /-- MEM_SCRUB (R459): Sets scrub parameters or starts or stops a high-rate pass. -/
  | memScrub
  /-- MEM_WITHDRAW (R492): Withdraws a block from service at the next boundary. -/
  | memWithdraw
  /-- MEM_RESTORE (R493): Ends a withdrawal at the next boundary. -/
  | memRestore
  /-- MEM_ACTIVITY (R498): Returns Ballast activities and withdrawals. -/
  | memActivity
  /-- WITHDRAWAL_APPLY (R492): A withdrawal takes effect as a rank 3 entry and the module enters SERVICE. -/
  | withdrawalApply (fails : Nat)
  /-- WITHDRAWAL_END (R493): A withdrawal ends by restore or LIMIT_S expiry at a boundary and the block resumes. -/
  | withdrawalEnd
  /-- INTERNAL_ACTIVITY_RESTART (R489): A stopped internal activity restarts when the matrix allows it. -/
  | internalActivityRestart (act inst : Nat)
  /-- UPD_BEGIN (R474): Checks a manifest and begins an update session. -/
  | updBegin (f : Nat)
  /-- UPD_CHUNK (R477): Writes in-order part data to the session bank. -/
  | updChunk (f : Nat)
  /-- UPD_VERIFY (R478): Starts the read-back of every part. -/
  | updVerify
  /-- UPD_VERIFY_COMPLETE (R478): Read-back ends with the session VERIFIED or FAILED. -/
  | updVerifyComplete (matched : Nat) (readOk : Bool)
  /-- UPD_ACTIVATE (R479): Starts preparation of an activation or confirms a trial set. -/
  | updActivate
  /-- UPD_STATUS (R496): Returns update session and bank state. -/
  | updStatus
  /-- UPD_ROLLBACK (R485): Hands over to the STANDBY set. -/
  | updRollback
  /-- UPD_ABORT (R495): Abandons an update session or a prepared activation. -/
  | updAbort
  /-- PREPARATION_COMPLETE (R479): Preloading into shadow stores completes and the window opening is posted. -/
  | preparationComplete
  /-- PREPARATION_DEADLINE (R479): Preparation incomplete at target − 1 cycle ends the activation ABANDONED. -/
  | preparationDeadline
  /-- HANDOVER_OPEN (R480): The handover window opens as a rank 2 entry; the mode becomes HANDOVER and parts change over. -/
  | handoverOpen
  /-- ENGINE_CHANGEOVER (R480): A busy engine switches to new microcode at the end of its frame. -/
  | engineChangeover (n : Nat)
  /-- FIRMWARE_READY (R481): The new firmware reports ready after taking the handover record. -/
  | firmwareReady
  /-- HANDOVER_CLOSE (R481): The window closes; the bank is recorded active on trial, settings follow R482 and held work runs. -/
  | handoverClose (crcBad : List Nat)
  /-- HANDOVER_TIMEOUT (R481): No ready report by target + 7 resumes the old firmware or resets with cause 0x08. -/
  | handoverTimeout (resumes : Bool) (crcBad : List Nat)
  /-- TRIAL_CONFIRM (R483): A trial set running TRIAL_S seconds is confirmed and the floor raised. -/
  | trialConfirm
  /-- INDIRECT_ATTEMPT_EXPIRY (R271): An attempt to a direct POLL endpoint fails when POLL_MISS poll intervals pass without delivery from the indirect queue, and the transaction enters BACKOFF. -/
  | indirectAttemptExpiry (id : Nat)
  /-- DATA_TIMING_SEARCH_END (R385): In DETECT, if no BRS frame has arrived 4 × DWELL after the nominal timing was fixed, the data timing is left unset, RATE_FOUND is set and CAN_RATE is sent. -/
  | dataTimingSearchEnd (p : Nat)
  /-- CAN_RECEIVE_ERROR (R392): A reception error or error frame on the bus raises the receive error count, possibly moving the port to or from error passive and logging EV_CAN_PASSIVE. -/
  | canReceiveError (p : Nat) (eight brs : Bool)
  /-- CHECKPOINT_COMPLETE (R285): A Lattice checkpoint finishes writing, produces the final response or completion of LAT.CHECKPOINT, logs EV_LAT_CHECKPOINT and may start compaction. -/
  | checkpointComplete (media : Bool)
  deriving DecidableEq, Repr

end Sys2Proof
end

