-- ==== Sys2Proof/Decode.lean ====
section
/-!
DEFINITION. The decoder of the table's words. Every row of the spec's table has an empty list of bit fields, so no word spells a command:
commands come from outside as such (the host windows carry the words of Broesh requests, which REQ_DATA_PUSH brings).
-/
namespace Sys2Proof

/-- The command that a word spells by the table's bits: none, for no row gives any. -/
def decodeTableWord (_nbits _w : Nat) : Option Instr := none

end Sys2Proof
end

