-- ==== Sys2Proof/Machine/Operands.lean ====
section
/-!
DEFINITION. Bit fields of words, two's complement, CRC-32C, rounding, and the operations on sparse tables and lists:
the operand forms that every command and event of the spec is read through.
-/
namespace Sys2Proof.Machine

/-- Bits `hi` to `lo` of a word, as a number ("[hi:lo]" of the spec's layouts). -/
def fld (w : Word) (hi lo : Nat) : Nat := (w.toNat >>> lo) % 2 ^ (hi + 1 - lo)

/-- One bit of a word. -/
def bit (w : Word) (i : Nat) : Bool := w.toNat.testBit i

/-- Two's complement of `n` bits read as an integer. -/
def toSigned (n v : Nat) : Int := if v < 2 ^ (n - 1) then (v : Int) else (v : Int) - 2 ^ n

/-- A signed field of a word. -/
def sfld (w : Word) (hi lo : Nat) : Int := toSigned (hi + 1 - lo) (fld w hi lo)

/-- An integer as `n` bits of two's complement. -/
def ofSigned (n : Nat) (i : Int) : Nat := (i % (2 ^ n : Int)).toNat

/-- Saturation at `n` bits. -/
def sat (n v : Nat) : Nat := if v < 2 ^ n then v else 2 ^ n - 1

/-- A word from a number (modulo 2^32). -/
def wd (n : Nat) : Word := BitVec.ofNat 32 n

/-- A word from fields, each given as its value and the place of its lowest bit. -/
def packW (fs : List (Nat × Nat)) : Word := wd ((fs.map fun f => f.1 <<< f.2).sum)

/-- 1 for true. -/
def b2n (b : Bool) : Nat := if b then 1 else 0

/-- A word of a message, 0 when the message is shorter. -/
def wAt (ws : List Word) (i : Nat) : Word := ws.getD i 0

/-- A number of 64 bits as its high and low words. -/
def hi32 (n : Nat) : Word := wd (n / 2 ^ 32)
/-- The low word of a number. -/
def lo32 (n : Nat) : Word := wd n

/-- Round to nearest, halves up, of a quotient by a positive divisor. -/
def roundDiv (a : Int) (b : Nat) : Int := (2 * a + b) / (2 * b)

/-- A clamp of an integer. -/
def clampI (lo hi x : Int) : Int := if x < lo then lo else if hi < x then hi else x

/-! ### CRC-32C (R345, R397, R171) -/

/-- One bit step of the reflected CRC-32C polynomial 0x82F6_3B78. -/
def crcBit (c : Word) : Word := if c.getLsbD 0 then (c >>> 1) ^^^ 0x82F63B78#32 else c >>> 1

/-- One octet into a CRC-32C. -/
def crcByte (c : Word) (b : BitVec 8) : Word :=
  let x := c ^^^ b.zeroExtend 32
  crcBit (crcBit (crcBit (crcBit (crcBit (crcBit (crcBit (crcBit x)))))))

/-- One word into a CRC-32C, bits [31:24] first. -/
def crcWord (c w : Word) : Word :=
  crcByte (crcByte (crcByte (crcByte c (w.extractLsb' 24 8)) (w.extractLsb' 16 8)) (w.extractLsb' 8 8))
    (w.extractLsb' 0 8)

/-- CRC-32C of words: initial value 0xFFFF_FFFF, final XOR 0xFFFF_FFFF. -/
def crc32c (ws : List Word) : Word := (ws.foldl crcWord 0xFFFFFFFF#32) ^^^ 0xFFFFFFFF#32

/-! ### Lists and tables -/

/-- The entry at a place changed by a function; a place past the end changes nothing. -/
def updAt {α : Type} : List α → Nat → (α → α) → List α
  | [], _, _ => []
  | x :: xs, 0, f => f x :: xs
  | x :: xs, n + 1, f => x :: updAt xs n f

/-- The value of a key of a sparse table. -/
def tget {α : Type} : Tbl α → Nat → Option α
  | [], _ => none
  | (k', v) :: t, k => if k' = k then some v else if k < k' then none else tget t k

/-- A key set to a value, in place or inserted where the keys keep rising. -/
def tset {α : Type} : Tbl α → Nat → α → Tbl α
  | [], k, v => [(k, v)]
  | (k', v') :: t, k, v =>
    if k' = k then (k, v) :: t else if k < k' then (k, v) :: (k', v') :: t else (k', v') :: tset t k v

/-- A key removed. -/
def tdel {α : Type} : Tbl α → Nat → Tbl α
  | [], _ => []
  | (k', v') :: t, k => if k' = k then t else (k', v') :: tdel t k

/-- The keys strictly rise: the one canonical form of a table. -/
def Tbl.rising {α : Type} : Tbl α → Bool
  | [] => true
  | [_] => true
  | a :: b :: t => decide (a.1 < b.1) && Tbl.rising (b :: t)

/-- A key changed by a function of its value, from a default where the key is absent. -/
def tupd {α : Type} (t : Tbl α) (k : Nat) (d : α) (f : α → α) : Tbl α := tset t k (f ((tget t k).getD d))

/-- The numbers below `n` that satisfy a test, rising. -/
def numsBelow (n : Nat) (p : Nat → Bool) : List Nat := (List.range n).filter p

/-- A mask of `n` bits from a test of the bit number. -/
def maskOf (n : Nat) (p : Nat → Bool) : Nat := ((numsBelow n p).map fun i => 2 ^ i).sum

/-- Set or clear one bit of a mask. -/
def setBit (m i : Nat) (b : Bool) : Nat :=
  if m.testBit i = b then m else if b then m + 2 ^ i else m - 2 ^ i

/-- The number of bits set in the low `n` bits. -/
def popCount (n m : Nat) : Nat := (numsBelow n fun i => m.testBit i).length

end Sys2Proof.Machine
end

