-- ==== Sys2Proof/Machine/Crypto.lean ====
section
/-!
DEFINITION. The cryptographic functions of R418, as the standards it names define them: AES (FIPS 197) and its key wrap (RFC 3394),
SHA-256 (FIPS 180-4), HKDF-SHA-256 (RFC 5869), and P-256 with ECDH and ECDSA (SP 800-56A, FIPS 186-5). Octets are numbers below 256;
a key, a digest or a signature is words whose first octet is in bits [31:24].
-/
namespace Sys2Proof.Machine

/-! ### Octets -/

/-- The octets of words, bits [31:24] first. -/
def octetsOfWords (ws : List Word) : List Nat := (ws.map fun w => [fld w 31 24, fld w 23 16, fld w 15 8, fld w 7 0]).flatten

/-- Words of octets; a last word that is not full is filled with zeros. -/
def wordsOfOctets : List Nat → List Word
  | [] => []
  | [a] => [packW [(a, 24)]]
  | [a, b] => [packW [(a, 24), (b, 16)]]
  | [a, b, c] => [packW [(a, 24), (b, 16), (c, 8)]]
  | a :: b :: c :: d :: t => packW [(a, 24), (b, 16), (c, 8), (d, 0)] :: wordsOfOctets t

/-- A number as `n` octets, the most significant first. -/
def octetsOfNat (n v : Nat) : List Nat := (List.range n).map fun i => v / 256 ^ (n - 1 - i) % 256

/-- The number that octets spell, the most significant first. -/
def natOfOctets (l : List Nat) : Nat := l.foldl (fun a o => a * 256 + o) 0

/-- Octets combined one by one. -/
def xorOctets (a b : List Nat) : List Nat := List.zipWith (fun x y => x ^^^ y) a b

/-! ### AES -/

/-- Multiplication by x in GF(2^8). -/
def gfX (a : Nat) : Nat := (2 * a % 256) ^^^ (a / 128 * 0x1B)

/-- The S-box of FIPS 197, 16 octets a row. -/
def aesSbox : List Nat :=
  [0x63, 0x7c, 0x77, 0x7b, 0xf2, 0x6b, 0x6f, 0xc5, 0x30, 0x01, 0x67, 0x2b, 0xfe, 0xd7, 0xab, 0x76] ++
  [0xca, 0x82, 0xc9, 0x7d, 0xfa, 0x59, 0x47, 0xf0, 0xad, 0xd4, 0xa2, 0xaf, 0x9c, 0xa4, 0x72, 0xc0] ++
  [0xb7, 0xfd, 0x93, 0x26, 0x36, 0x3f, 0xf7, 0xcc, 0x34, 0xa5, 0xe5, 0xf1, 0x71, 0xd8, 0x31, 0x15] ++
  [0x04, 0xc7, 0x23, 0xc3, 0x18, 0x96, 0x05, 0x9a, 0x07, 0x12, 0x80, 0xe2, 0xeb, 0x27, 0xb2, 0x75] ++
  [0x09, 0x83, 0x2c, 0x1a, 0x1b, 0x6e, 0x5a, 0xa0, 0x52, 0x3b, 0xd6, 0xb3, 0x29, 0xe3, 0x2f, 0x84] ++
  [0x53, 0xd1, 0x00, 0xed, 0x20, 0xfc, 0xb1, 0x5b, 0x6a, 0xcb, 0xbe, 0x39, 0x4a, 0x4c, 0x58, 0xcf] ++
  [0xd0, 0xef, 0xaa, 0xfb, 0x43, 0x4d, 0x33, 0x85, 0x45, 0xf9, 0x02, 0x7f, 0x50, 0x3c, 0x9f, 0xa8] ++
  [0x51, 0xa3, 0x40, 0x8f, 0x92, 0x9d, 0x38, 0xf5, 0xbc, 0xb6, 0xda, 0x21, 0x10, 0xff, 0xf3, 0xd2] ++
  [0xcd, 0x0c, 0x13, 0xec, 0x5f, 0x97, 0x44, 0x17, 0xc4, 0xa7, 0x7e, 0x3d, 0x64, 0x5d, 0x19, 0x73] ++
  [0x60, 0x81, 0x4f, 0xdc, 0x22, 0x2a, 0x90, 0x88, 0x46, 0xee, 0xb8, 0x14, 0xde, 0x5e, 0x0b, 0xdb] ++
  [0xe0, 0x32, 0x3a, 0x0a, 0x49, 0x06, 0x24, 0x5c, 0xc2, 0xd3, 0xac, 0x62, 0x91, 0x95, 0xe4, 0x79] ++
  [0xe7, 0xc8, 0x37, 0x6d, 0x8d, 0xd5, 0x4e, 0xa9, 0x6c, 0x56, 0xf4, 0xea, 0x65, 0x7a, 0xae, 0x08] ++
  [0xba, 0x78, 0x25, 0x2e, 0x1c, 0xa6, 0xb4, 0xc6, 0xe8, 0xdd, 0x74, 0x1f, 0x4b, 0xbd, 0x8b, 0x8a] ++
  [0x70, 0x3e, 0xb5, 0x66, 0x48, 0x03, 0xf6, 0x0e, 0x61, 0x35, 0x57, 0xb9, 0x86, 0xc1, 0x1d, 0x9e] ++
  [0xe1, 0xf8, 0x98, 0x11, 0x69, 0xd9, 0x8e, 0x94, 0x9b, 0x1e, 0x87, 0xe9, 0xce, 0x55, 0x28, 0xdf] ++
  [0x8c, 0xa1, 0x89, 0x0d, 0xbf, 0xe6, 0x42, 0x68, 0x41, 0x99, 0x2d, 0x0f, 0xb0, 0x54, 0xbb, 0x16]

/-- The inverse S-box of FIPS 197. -/
def aesInvSbox : List Nat :=
  [0x52, 0x09, 0x6a, 0xd5, 0x30, 0x36, 0xa5, 0x38, 0xbf, 0x40, 0xa3, 0x9e, 0x81, 0xf3, 0xd7, 0xfb] ++
  [0x7c, 0xe3, 0x39, 0x82, 0x9b, 0x2f, 0xff, 0x87, 0x34, 0x8e, 0x43, 0x44, 0xc4, 0xde, 0xe9, 0xcb] ++
  [0x54, 0x7b, 0x94, 0x32, 0xa6, 0xc2, 0x23, 0x3d, 0xee, 0x4c, 0x95, 0x0b, 0x42, 0xfa, 0xc3, 0x4e] ++
  [0x08, 0x2e, 0xa1, 0x66, 0x28, 0xd9, 0x24, 0xb2, 0x76, 0x5b, 0xa2, 0x49, 0x6d, 0x8b, 0xd1, 0x25] ++
  [0x72, 0xf8, 0xf6, 0x64, 0x86, 0x68, 0x98, 0x16, 0xd4, 0xa4, 0x5c, 0xcc, 0x5d, 0x65, 0xb6, 0x92] ++
  [0x6c, 0x70, 0x48, 0x50, 0xfd, 0xed, 0xb9, 0xda, 0x5e, 0x15, 0x46, 0x57, 0xa7, 0x8d, 0x9d, 0x84] ++
  [0x90, 0xd8, 0xab, 0x00, 0x8c, 0xbc, 0xd3, 0x0a, 0xf7, 0xe4, 0x58, 0x05, 0xb8, 0xb3, 0x45, 0x06] ++
  [0xd0, 0x2c, 0x1e, 0x8f, 0xca, 0x3f, 0x0f, 0x02, 0xc1, 0xaf, 0xbd, 0x03, 0x01, 0x13, 0x8a, 0x6b] ++
  [0x3a, 0x91, 0x11, 0x41, 0x4f, 0x67, 0xdc, 0xea, 0x97, 0xf2, 0xcf, 0xce, 0xf0, 0xb4, 0xe6, 0x73] ++
  [0x96, 0xac, 0x74, 0x22, 0xe7, 0xad, 0x35, 0x85, 0xe2, 0xf9, 0x37, 0xe8, 0x1c, 0x75, 0xdf, 0x6e] ++
  [0x47, 0xf1, 0x1a, 0x71, 0x1d, 0x29, 0xc5, 0x89, 0x6f, 0xb7, 0x62, 0x0e, 0xaa, 0x18, 0xbe, 0x1b] ++
  [0xfc, 0x56, 0x3e, 0x4b, 0xc6, 0xd2, 0x79, 0x20, 0x9a, 0xdb, 0xc0, 0xfe, 0x78, 0xcd, 0x5a, 0xf4] ++
  [0x1f, 0xdd, 0xa8, 0x33, 0x88, 0x07, 0xc7, 0x31, 0xb1, 0x12, 0x10, 0x59, 0x27, 0x80, 0xec, 0x5f] ++
  [0x60, 0x51, 0x7f, 0xa9, 0x19, 0xb5, 0x4a, 0x0d, 0x2d, 0xe5, 0x7a, 0x9f, 0x93, 0xc9, 0x9c, 0xef] ++
  [0xa0, 0xe0, 0x3b, 0x4d, 0xae, 0x2a, 0xf5, 0xb0, 0xc8, 0xeb, 0xbb, 0x3c, 0x83, 0x53, 0x99, 0x61] ++
  [0x17, 0x2b, 0x04, 0x7e, 0xba, 0x77, 0xd6, 0x26, 0xe1, 0x69, 0x14, 0x63, 0x55, 0x21, 0x0c, 0x7d]

/-- The S-box of an octet. -/
def aesS (a : Nat) : Nat := aesSbox.getD a 0

/-- The inverse S-box of an octet. -/
def aesSinv (a : Nat) : Nat := aesInvSbox.getD a 0

/-- The key schedule, words of four octets, newest first: `nk` words of key. -/
def aesExpand (nk : Nat) : Nat → Nat → List (List Nat) → List (List Nat)
  | 0, _, w => w
  | k + 1, rcon, w =>
    let i := w.length
    let t := w.headD []
    let t' :=
      if i % nk = 0 then
        (match t with
         | [a, b, c, d] => [aesS b ^^^ rcon, aesS c, aesS d, aesS a]
         | _ => t)
      else if 6 < nk ∧ i % nk = 4 then t.map aesS else t
    aesExpand nk k (if i % nk = 0 then gfX rcon else rcon) (xorOctets (w.getD (nk - 1) []) t' :: w)

/-- Octets cut into fours. -/
def fours : List Nat → List (List Nat)
  | a :: b :: c :: d :: t => [a, b, c, d] :: fours t
  | _ => []

/-- The round keys of 16 octets of a key of 16 or 32 octets. -/
def aesRoundKeys (key : List Nat) : List (List Nat) :=
  let nk := key.length / 4
  let w := (aesExpand nk (4 * (nk + 7) - nk) 1 (fours key).reverse).reverse
  (List.range (nk + 7)).map fun r => ((w.drop (4 * r)).take 4).flatten

/-- Rows shifted left by their number; `back` shifts right. -/
def aesShift (back : Bool) (st : List Nat) : List Nat :=
  (List.range 16).map fun i =>
    let r := i % 4
    let c := i / 4
    st.getD (4 * ((if back then c + 4 - r else c + r) % 4) + r) 0

/-- A column times the matrix of 02 03 01 01. -/
def aesMixColumn : List Nat → List Nat
  | [a, b, c, d] =>
    [gfX a ^^^ gfX b ^^^ b ^^^ c ^^^ d, a ^^^ gfX b ^^^ gfX c ^^^ c ^^^ d, a ^^^ b ^^^ gfX c ^^^ gfX d ^^^ d, gfX a ^^^ a ^^^ b ^^^ c ^^^ gfX d]
  | x => x

/-- A column times the matrix of 0e 0b 0d 09, which is that of 02 03 01 01 times that of 05 00 04 00. -/
def aesUnmixColumn : List Nat → List Nat
  | [a, b, c, d] =>
    let u := gfX (gfX (a ^^^ c))
    let v := gfX (gfX (b ^^^ d))
    aesMixColumn [a ^^^ u, b ^^^ v, c ^^^ u, d ^^^ v]
  | x => x

/-- MixColumns. -/
def aesMix (st : List Nat) : List Nat := ((fours st).map aesMixColumn).flatten

/-- InvMixColumns. -/
def aesUnmix (st : List Nat) : List Nat := ((fours st).map aesUnmixColumn).flatten

/-- One AES block. -/
def aesEnc (key block : List Nat) : List Nat :=
  match aesRoundKeys key with
  | [] => block
  | k0 :: ks =>
    let last := ks.getLastD []
    let s := ks.dropLast.foldl (fun s k => xorOctets (aesMix (aesShift false (s.map aesS))) k) (xorOctets block k0)
    xorOctets (aesShift false (s.map aesS)) last

/-- One AES block deciphered. -/
def aesDec (key block : List Nat) : List Nat :=
  match (aesRoundKeys key).reverse with
  | [] => block
  | k0 :: ks =>
    let last := ks.getLastD []
    let s := ks.dropLast.foldl (fun s k => aesUnmix (xorOctets ((aesShift true s).map aesSinv) k)) (xorOctets block k0)
    xorOctets ((aesShift true s).map aesSinv) last

/-! ### Key wrap (RFC 3394) -/

/-- Octets cut into eights. -/
def eights : List Nat → List (List Nat)
  | a :: b :: c :: d :: e :: f :: g :: h :: t => [a, b, c, d, e, f, g, h] :: eights t
  | _ => []

/-- The initial value of RFC 3394. -/
def kwIv : List Nat := List.replicate 8 0xA6

/-- One step of the wrap. -/
def kwStep (kek : List Nat) (n : Nat) (ar : List Nat × List (List Nat)) (t : Nat) : List Nat × List (List Nat) :=
  let i := (t - 1) % n
  let b := aesEnc kek (ar.1 ++ ar.2.getD i [])
  (xorOctets (b.take 8) (octetsOfNat 8 t), updAt ar.2 i fun _ => b.drop 8)

/-- One step of the unwrap. -/
def kwUnstep (kek : List Nat) (n : Nat) (ar : List Nat × List (List Nat)) (t : Nat) : List Nat × List (List Nat) :=
  let i := (t - 1) % n
  let b := aesDec kek (xorOctets ar.1 (octetsOfNat 8 t) ++ ar.2.getD i [])
  (b.take 8, updAt ar.2 i fun _ => b.drop 8)

/-- A key wrapped under a key, in words. -/
def kwWrap (kek key : List Word) : List Word :=
  let r := eights (octetsOfWords key)
  let (a, r') := ((List.range (6 * r.length)).map (· + 1)).foldl (kwStep (octetsOfWords kek) r.length) (kwIv, r)
  wordsOfOctets (a ++ r'.flatten)

/-- A wrapped key unwrapped: none where the integrity check fails. -/
def kwUnwrap (kek blob : List Word) : Option (List Word) :=
  match eights (octetsOfWords blob) with
  | [] => none
  | a :: r =>
    let (a', r') := (((List.range (6 * r.length)).map (· + 1)).reverse).foldl (kwUnstep (octetsOfWords kek) r.length) (a, r)
    if a' = kwIv ∧ r ≠ [] then some (wordsOfOctets r'.flatten) else none

/-! ### SHA-256, HMAC, HKDF -/

/-- The constants K of SHA-256. -/
def shaK : List Word :=
  [0x428A2F98#32, 0x71374491#32, 0xB5C0FBCF#32, 0xE9B5DBA5#32, 0x3956C25B#32, 0x59F111F1#32, 0x923F82A4#32, 0xAB1C5ED5#32] ++
  [0xD807AA98#32, 0x12835B01#32, 0x243185BE#32, 0x550C7DC3#32, 0x72BE5D74#32, 0x80DEB1FE#32, 0x9BDC06A7#32, 0xC19BF174#32] ++
  [0xE49B69C1#32, 0xEFBE4786#32, 0x0FC19DC6#32, 0x240CA1CC#32, 0x2DE92C6F#32, 0x4A7484AA#32, 0x5CB0A9DC#32, 0x76F988DA#32] ++
  [0x983E5152#32, 0xA831C66D#32, 0xB00327C8#32, 0xBF597FC7#32, 0xC6E00BF3#32, 0xD5A79147#32, 0x06CA6351#32, 0x14292967#32] ++
  [0x27B70A85#32, 0x2E1B2138#32, 0x4D2C6DFC#32, 0x53380D13#32, 0x650A7354#32, 0x766A0ABB#32, 0x81C2C92E#32, 0x92722C85#32] ++
  [0xA2BFE8A1#32, 0xA81A664B#32, 0xC24B8B70#32, 0xC76C51A3#32, 0xD192E819#32, 0xD6990624#32, 0xF40E3585#32, 0x106AA070#32] ++
  [0x19A4C116#32, 0x1E376C08#32, 0x2748774C#32, 0x34B0BCB5#32, 0x391C0CB3#32, 0x4ED8AA4A#32, 0x5B9CCA4F#32, 0x682E6FF3#32] ++
  [0x748F82EE#32, 0x78A5636F#32, 0x84C87814#32, 0x8CC70208#32, 0x90BEFFFA#32, 0xA4506CEB#32, 0xBEF9A3F7#32, 0xC67178F2#32]

/-- The initial hash value of SHA-256. -/
def shaH : List Word :=
  [0x6A09E667#32, 0xBB67AE85#32, 0x3C6EF372#32, 0xA54FF53A#32, 0x510E527F#32, 0x9B05688C#32, 0x1F83D9AB#32, 0x5BE0CD19#32]

/-- The message schedule continued, newest first. -/
def shaSched : Nat → List Word → List Word
  | 0, w => w
  | k + 1, w =>
    let x := w.getD 14 0
    let y := w.getD 1 0
    let s0 := x.rotateRight 7 ^^^ x.rotateRight 18 ^^^ (x >>> 3)
    let s1 := y.rotateRight 17 ^^^ y.rotateRight 19 ^^^ (y >>> 10)
    shaSched k ((w.getD 15 0 + s0 + w.getD 6 0 + s1) :: w)

/-- One round of SHA-256. -/
def shaRound (h : List Word) (kw : Word × Word) : List Word :=
  match h with
  | [a, b, c, d, e, f, g, hh] =>
    let t1 := hh + (e.rotateRight 6 ^^^ e.rotateRight 11 ^^^ e.rotateRight 25) + ((e &&& f) ^^^ (~~~e &&& g)) + kw.1 + kw.2
    let t2 := (a.rotateRight 2 ^^^ a.rotateRight 13 ^^^ a.rotateRight 22) + ((a &&& b) ^^^ (a &&& c) ^^^ (b &&& c))
    [t1 + t2, a, b, c, d + t1, e, f, g]
  | _ => h

/-- One block of 16 words. -/
def shaBlock (h blk : List Word) : List Word :=
  List.zipWith (· + ·) h ((shaK.zip (shaSched 48 blk.reverse).reverse).foldl shaRound h)

/-- The blocks of a padded message. -/
def shaBlocks : Nat → List Word → List Word → List Word
  | 0, _, h => h
  | k + 1, ws, h => shaBlocks k (ws.drop 16) (shaBlock h (ws.take 16))

/-- SHA-256 of octets, as 8 words. -/
def sha256 (msg : List Nat) : List Word :=
  let n := msg.length
  let pad := (119 - n % 64) % 64
  let ws := wordsOfOctets (msg ++ [0x80] ++ List.replicate pad 0 ++ octetsOfNat 8 (8 * n))
  shaBlocks (ws.length / 16) ws shaH

/-- HMAC-SHA-256, in octets. -/
def hmac (key msg : List Nat) : List Nat :=
  let k := if 64 < key.length then octetsOfWords (sha256 key) else key
  let k := k ++ List.replicate (64 - k.length) 0
  octetsOfWords (sha256 (k.map (· ^^^ 0x5C) ++ octetsOfWords (sha256 (k.map (· ^^^ 0x36) ++ msg))))

/-- HKDF-SHA-256 with 32 octets of output. -/
def hkdf (ikm salt info : List Nat) : List Nat := hmac (hmac salt ikm) (info ++ [1])

/-! ### P-256 -/

/-- The prime of the field. -/
def p256P : Nat := 2 ^ 256 - 2 ^ 224 + 2 ^ 192 + 2 ^ 96 - 1
/-- The order of the base point. -/
def p256N : Nat := 0xFFFFFFFF00000000FFFFFFFFFFFFFFFFBCE6FAADA7179E84F3B9CAC2FC632551
/-- The coefficient b; a is −3. -/
def p256B : Nat := 0x5AC635D8AA3A93E7B3EBBD55769886BC651D06B0CC53B0F63BCE3C3E27D2604B
/-- The base point. -/
def p256G : Nat × Nat :=
  (0x6B17D1F2E12C4247F8BCE6E563A440F277037D812DEB33A0F4A13945D898C296,
   0x4FE342E2FE1A7F9B8EE7EB4A7C0F9E162BCE33576B315ECECBB6406837BF51F5)

/-- A power modulo m, over the low bits of the exponent. -/
def powMod (m : Nat) : Nat → Nat → Nat → Nat → Nat
  | 0, _, _, r => r
  | k + 1, b, e, r => powMod m k (b * b % m) (e / 2) (if e % 2 = 1 then r * b % m else r)

/-- An inverse modulo a prime of 256 bits. -/
def invMod (m a : Nat) : Nat := powMod m 256 (a % m) (m - 2) 1

/-- A point of the curve other than infinity. -/
def onCurve (q : Nat × Nat) : Bool :=
  decide (q.1 < p256P) && decide (q.2 < p256P) &&
    q.2 * q.2 % p256P == (q.1 * q.1 * q.1 + (p256P - 3) * q.1 + p256B) % p256P

/-- The sum of two points; none is infinity. -/
def ecAdd (a b : Option (Nat × Nat)) : Option (Nat × Nat) :=
  match a, b with
  | none, q => q
  | q, none => q
  | some (x1, y1), some (x2, y2) =>
    if x1 = x2 ∧ (y1 + y2) % p256P = 0 then none
    else
      let l := (if x1 = x2 then (3 * x1 * x1 + (p256P - 3)) * invMod p256P (2 * y1)
        else (y2 + p256P - y1) * invMod p256P (x2 + p256P - x1)) % p256P
      let x := (l * l + 2 * p256P - x1 - x2) % p256P
      some (x, (l * (x1 + p256P - x) + p256P - y1) % p256P)

/-- A multiple of a point, over the low bits of the number. -/
def ecMul : Nat → Nat → Option (Nat × Nat) → Option (Nat × Nat) → Option (Nat × Nat)
  | 0, _, _, r => r
  | k + 1, n, q, r => if n = 0 then r else ecMul k (n / 2) (ecAdd q q) (if n % 2 = 1 then ecAdd r q else r)

/-- A multiple of a point. -/
def ecTimes (n : Nat) (q : Nat × Nat) : Option (Nat × Nat) := ecMul 256 n (some q) none

/-- A point as 16 words, X ‖ Y. -/
def pointWords (q : Option (Nat × Nat)) : List Word :=
  match q with
  | some (x, y) => wordsOfOctets (octetsOfNat 32 x ++ octetsOfNat 32 y)
  | none => List.replicate 16 0

/-- The point that 16 words spell. -/
def wordsPoint (ws : List Word) : Nat × Nat :=
  (natOfOctets (octetsOfWords (ws.take 8)), natOfOctets (octetsOfWords ((ws.drop 8).take 8)))

/-- The public key of a private key, as words. -/
def p256Public (d : List Word) : List Word := pointWords (ecTimes (natOfOctets (octetsOfWords d)) p256G)

/-- Z's x-coordinate of ECDH, as octets; none where there is no point. -/
def ecdhX (d q : List Word) : Option (List Nat) :=
  if onCurve (wordsPoint q) then
    (ecTimes (natOfOctets (octetsOfWords d)) (wordsPoint q)).map fun z => octetsOfNat 32 z.1
  else none

/-- ECDSA with SHA-256: a signature r ‖ s, under a number k. -/
def ecdsaSign (d : List Word) (k : Nat) (msg : List Word) : List Word :=
  let e := natOfOctets (octetsOfWords (sha256 (octetsOfWords msg)))
  let r := (match ecTimes k p256G with | some q => q.1 | none => 0) % p256N
  let s := invMod p256N k * (e + r * natOfOctets (octetsOfWords d)) % p256N
  wordsOfOctets (octetsOfNat 32 r ++ octetsOfNat 32 s)

/-- ECDSA verification under a public key of a signature over a hash of 8 words. -/
def ecdsaVerifyHash (pub hash sig : List Word) : Bool :=
  let (r, s) := wordsPoint sig
  let q := wordsPoint pub
  if onCurve q && decide (1 ≤ r) && decide (r < p256N) && decide (1 ≤ s) && decide (s < p256N) then
    let e := natOfOctets (octetsOfWords hash)
    let w := invMod p256N s
    match ecAdd (ecTimes (e * w % p256N) p256G) (ecTimes (r * w % p256N) q) with
    | some z => z.1 % p256N == r
    | none => false
  else false

/-- ECDSA verification of a message in words. -/
def ecdsaVerify (pub msg sig : List Word) : Bool := ecdsaVerifyHash pub (sha256 (octetsOfWords msg)) sig

end Sys2Proof.Machine
end

