-- ==== Sys2Proof/Machine/StPorts.lean ====
section
/-!
DEFINITION. State of the host ports and mailboxes, of the commands in execution, of the timeline event queue, and of the
event recorder (05, 06, 03 R86 to R90, 14).
-/
namespace Sys2Proof.Machine

/-- A request taken from a port (R157, R141). -/
structure Req where
  port : Fin 4
  queue : Nat
  words : List Word
  /-- The target cycle reconstructed at the take (R158), when `AAC` is 1 and the tag was ahead. -/
  target : Option Nat
  /-- The number the model gives the request, in take order. -/
  id : Nat
  /-- Execution may begin (R159). -/
  ready : Bool
  /-- Words reserved in the holding area for the response and for the completion notification (R141). -/
  resRsp : Nat
  resNtf : Nat
  /-- It is checked again at the application of its set: steps 1 to 5 of R167 are past (R172). -/
  again : Bool := false
  deriving DecidableEq, Repr, Inhabited

/-- What a command that completes later keeps of its request (R163). -/
structure Origin where
  port : Fin 4
  tag : Word
  id : Nat
  ntf : Bool
  resNtf : Nat
  opcode : Nat
  deriving DecidableEq, Repr, Inhabited

/-- A message of a return queue (R140). `canLock` is the CAN port and buffer whose lock its removal releases (R388). -/
structure RMsg where
  words : List Word
  canLock : Option (Nat × Nat)
  deriving DecidableEq, Repr, Inhabited

/-- A message in the holding area (R143): what it frees, and the request it answers. -/
structure Held where
  msg : RMsg
  frees : Nat
  id : Nat
  /-- It is the response (not the completion notification) of its request. -/
  isRsp : Bool
  deriving DecidableEq, Repr, Inhabited

/-- One request queue (R133 to R136). -/
structure ReqQueue where
  staged : List Word
  poisoned : Bool
  /-- Committed messages not yet taken, in commit order. -/
  msgs : List (List Word)
  /-- Consecutive takes from the port that passed this queue over (R138). -/
  passed : Nat
  deriving DecidableEq, Repr, Inhabited

/-- One return queue (R140). `popped` counts the words of the head message already read. -/
structure RetQueue where
  msgs : List RMsg
  popped : Nat
  held : List Held
  deriving DecidableEq, Repr, Inhabited

/-- An open configuration set (R169 to R171). -/
structure CfgSet where
  id : Nat
  count : Nat
  staged : List Req
  /-- Number of the first refused command, and its status and detail. -/
  broken : Option Nat
  /-- Words staged. -/
  words : Nat
  /-- TCXO tick of the last staging. -/
  since : Nat
  deriving DecidableEq, Repr, Inhabited

/-- An accepted set that awaits its entry (R172). -/
structure Accepted where
  id : Nat
  staged : List Req
  origin : Origin
  deriving DecidableEq, Repr, Inhabited

/-- One port's window and queues (05), with its watchdog's host-side state. -/
structure PortSt where
  pause : Bool
  irqOutEn : Bool
  takeBlocked : Bool
  /-- The queue whose request waits for its reservation while `takeBlocked` is set (R142). -/
  blockedQ : Nat
  inflight : Nat
  q0 : ReqQueue
  q1 : ReqQueue
  q2 : ReqQueue
  q3 : ReqQueue
  rsp : RetQueue
  ntf : RetQueue
  /-- Words of the holding area reserved (R141). -/
  reserved : Nat
  intStat : Word
  intEn : Word
  frameErrs : Nat
  lastErr : Nat
  lastErrQ : Nat
  ntfLost : Nat
  /-- Dropped since the previous NTF_LOST notification (R145). -/
  lostSince : Nat
  nseq : Nat
  /-- H2 half accesses (R131): the latched high half with the word it belongs to, and the held low half. -/
  readLatch : Option (Nat × Nat)
  writeLatch : Option (Nat × Nat)
  /-- TT snapshot: the whole TT of the last capture since BOOT (R94). -/
  snap : Nat
  /-- The model's own: the word the last read of this port returned. -/
  readData : Word
  /-- The model's own: what the last serial transaction shifted out, clock by clock; none: it was ignored, and its lines stay
  high-impedance, H3_MISO low (R124). -/
  shifted : Option (List Nat)
  openSet : Option CfgSet
  /-- Accepted sets not yet applied, oldest first. -/
  accepted : List Accepted
  /-- ID of the last accepted set. -/
  lastSet : Option Nat
  deriving DecidableEq, Repr, Inhabited

/-- What a timeline entry does when it fires (R89). Numbers name slots, blocks, ports, endpoints, outputs or records
kept by the owning unit. -/
inductive TlKind where
  | ttConfig
  | source (secondary : Bool)
  | keyCommit (slot : Nat)
  | handover
  | config (r : Req)
  | cfgSet (p : Fin 4) (commit : Nat)
  | settingsReset (setId : Nat)
  | withdraw (block half : Nat)
  | withdrawEnd (block half : Nat)
  | keyOverlapEnd (slot : Nat)
  | linkKeyLoad (r : Req)
  | linkKeyEnd (ep : Nat)
  | interval
  | waveEnd (wave : Nat)
  | calApply (feeder : Nat)
  | sgnLevel (fn level : Nat)
  | sgnFlip
  | dout (id : Nat)
  | doutReturn (id out : Nat)
  | alarm (p : Fin 4) (handle : Nat)
  deriving DecidableEq, Repr

/-- An entry of the timeline event queue (R86 to R89); `target` in pu, `seq` the order of posting. `active` is false
while the entry is only reserved by an earlier one (R87). -/
structure TlEntry where
  target : Nat
  rank : Nat
  seq : Nat
  block : Nat
  secureShare : Bool
  kind : TlKind
  active : Bool
  deriving DecidableEq, Repr

structure Timeline where
  entries : List TlEntry
  nextSeq : Nat
  peak : Nat
  deriving DecidableEq, Repr, Inhabited

/-- Commands in execution (06). -/
structure CmdSt where
  /-- Requests taken and not yet executed, in take order. -/
  taken : List Req
  /-- Requests with `ORDERED` taken and not yet completed, as port and number, in take order (R159). -/
  ordered : List (Fin 4 × Nat)
  nextId : Nat
  /-- The ports last served by the round-robins of R138: for Q0, and for the other queues. -/
  rrUrgent : Nat
  rrOther : Nat
  /-- State of each settings set by its ID: 0 default (not listed), 1 stored, 2 reset by update, 3 reset by command. -/
  setState : Tbl Nat
  deriving DecidableEq, Repr, Inhabited

/-- A log record (R397), as its words. -/
structure Rec where
  seq : Nat
  sev : Nat
  words : List Word
  deriving DecidableEq, Repr, Inhabited

/-- The TT and RTC stamp of a record (R397), with the state bits it carries. -/
structure Stamp where
  tt : Nat
  epoch : Nat
  sec : Nat
  frac : Nat
  unlocked : Bool
  osf : Bool
  lbv : Bool
  deriving DecidableEq, Repr, Inhabited

/-- An event that arose before the recorder could number it: without a stamp before BOOT step 6, when it is recorded with `DEFERRED`
(R65, R397), or with its stamp between steps 6 and 7. -/
structure Deferred where
  stamp : Option Stamp
  /-- It is recorded with `DEFERRED`. -/
  late : Bool
  code : Nat
  inst : Nat
  content : List Word
  deriving DecidableEq, Repr, Inhabited

/-- A limited event's last record and the count since it (R156, R415). -/
structure Limit where
  last : Option Nat
  count : Nat
  deriving DecidableEq, Repr, Inhabited

/-- A port's freeze (R407). -/
structure Freeze where
  /-- TCXO tick at which it expires. -/
  until_ : Nat
  staged : Nat
  lost : Nat
  deriving DecidableEq, Repr, Inhabited

/-- Counters a summary page stores (R406). -/
structure LogCounters where
  drop : List Nat
  stgOvf : List Nat
  filtered : Nat
  displaced : Nat
  pages : Nat
  nextSeq : Nat
  deriving DecidableEq, Repr, Inhabited

structure Recorder where
  /-- Staging has begun (BOOT step 6). -/
  staging : Bool
  /-- The recorder runs (BOOT step 7): appends may be permitted. -/
  started : Bool
  /-- Records held in the log, oldest first. -/
  log : List Rec
  /-- Records of the open page, in placing order, and the cycle at which its first record was placed. -/
  page : List Rec
  pageCyc : Nat
  staged : List Rec
  stagePeak : Nat
  cnt : LogCounters
  /-- The newest valid summary page. -/
  summary : LogCounters
  /-- Events that wait for a number, oldest first. -/
  deferred : List Deferred
  freeze : Quad (Option Freeze)
  /-- Severity overrides by code (R413), and `MIN_SEV`. -/
  sevOver : Tbl Nat
  minSev : Nat
  appendBlocked : Bool
  /-- TCXO tick since when appends have been blocked. -/
  blockedSince : Nat
  /-- Record pages of the partition still free, and pages freed blocks would give back (R403). -/
  freePages : Nat
  pagesInBlock : Nat
  /-- Counts not yet reported by EV_LOG_DROP and EV_LOG_STAGE_OVF, with their last record's cycle. -/
  dropSince : List Nat
  ovfSince : List Nat
  /-- Limited events by code × 256 + instance. -/
  limits : Tbl Limit
  /-- Uncorrectable pages: spans of lost sequence numbers (R404, R410). -/
  lost : List (Nat × Nat)
  deriving DecidableEq, Repr, Inhabited

end Sys2Proof.Machine
end

