-- ==== Sys2Proof/Machine/StRadio.lean ====
section
/-!
DEFINITION. State of the radio front ends and channel engines (07).
-/
namespace Sys2Proof.Machine

/-- A sub-band of a band plan (R196): edges in kHz, power limit in dBm, duty limit in 0.01 %. -/
structure SubBand where
  lower : Nat
  upper : Nat
  pmax : Int
  lbt : Bool
  /-- Threshold magnitude: −thr dBm. -/
  thr : Nat
  conducted : Bool
  duty : Nat
  deriving DecidableEq, Repr, Inhabited

/-- A band plan (R196): `id` 0 to 2 delivered, 3 custom; times in µs. -/
structure BandPlan where
  id : Nat
  tListen : Nat
  backoffMax : Nat
  subs : List SubBand
  deriving DecidableEq, Repr, Inhabited

/-- The configuration of a front end (RAD.FE_CONFIG). -/
structure FeCfg where
  role : Nat
  protect : Bool
  centre : Nat
  gain : Int
  loss : Nat
  gainMode : Bool
  gainStep : Nat
  deriving DecidableEq, Repr, Inhabited

/-- The configuration of an engine (RAD.ENGINE_CONFIG); power in 0.5 dBm. -/
structure CeCfg where
  enable : Bool
  txFe : Nat
  phy : Nat
  preamble : Nat
  freq : Nat
  power : Int
  share : Nat
  fec : Bool
  lbtEn : Bool
  tries : Nat
  deriving DecidableEq, Repr, Inhabited

/-- An address of a MAC frame (R218). -/
inductive Addr where
  | absent | short (a : Nat) | ext (eui : Nat)
  deriving DecidableEq, Repr, Inhabited

/-- A Link IE (R229). -/
structure LinkIe where
  alignAge : Nat
  alignSrc : Nat
  mains : Bool
  resync : Bool
  zcCyc : Nat
  deriving DecidableEq, Repr, Inhabited

/-- What a staged data frame carries before frame security: its destination, header IEs and MAC payload as octets; of a MAC.RAW_SEND
frame, all its octets. -/
structure TxBody where
  dst : Addr
  ies : List Nat
  payload : List Nat
  deriving DecidableEq, Repr, Inhabited

/-- Who placed a frame, or what a carrier carries. -/
inductive FrameSrc where
  /-- The beacon of the period with this nominal start cycle (R230), on the backup channel or not (R232). -/
  | beacon (start : Nat) (backup : Bool)
  /-- The extra beacon that answers a Beacon Request (R230). -/
  | extra
  /-- A greeting round: train and beacon (R244). -/
  | greeting
  /-- A MAC.RAW_SEND frame, by the model's number. -/
  | raw (id : Nat)
  /-- An attempt of a transaction (R270). -/
  | txn (id : Nat)
  /-- A repetition of a native group message on this engine (R273). -/
  | group (id : Nat)
  /-- A message of an image distribution (R283), by the model's number. -/
  | image (id : Nat)
  /-- An empty data frame to a sleepy endpoint (R226). -/
  | empty (ep : Nat)
  /-- An unconfirmed copy from the indirect queue (R273). -/
  | copy (ep : Nat)
  /-- An Enhanced ACK (R223). -/
  | ack
  /-- A test of RAD.TX_TEST. -/
  | test
  deriving DecidableEq, Repr, Inhabited

/-- A frame in a transmit buffer (R193). Class 0 beacon, 1 wake train, 2 data. -/
structure Frame where
  cls : Nat
  /-- Deadline, TT in pu. -/
  deadline : Nat
  /-- PSDU octets with FCS. -/
  octets : Nat
  /-- Length of the wake train before it, in µs; 0 for none (R238). -/
  trainUs : Nat
  src : FrameSrc
  /-- The backup channel's centre, for a beacon on it (R232). -/
  freq : Option Nat
  /-- Destination endpoint index of an acknowledged unicast frame, and its sequence number. -/
  ackFrom : Option Nat
  dsn : Nat
  /-- Busy listen-before-talk attempts so far (R199). -/
  busy : Nat
  /-- The endpoint whose link key secures the frame; none for a beacon, a broadcast or a raw frame. -/
  peer : Option Nat
  body : TxBody
  deriving DecidableEq, Repr, Inhabited

/-- A frame admitted on a front end, listening or about to start (R199, R203). -/
structure Admission where
  fe : Nat
  frame : Frame
  /-- Power admitted, 0.5 dBm. -/
  power : Int
  /-- TCXO tick at which the engine begins to listen, and at which the attempt ends, as far as it can listen. -/
  listen : Nat
  due : Nat
  deriving DecidableEq, Repr, Inhabited

/-- An active carrier of a front end (R202): its engine, power and times in TCXO ticks. -/
structure Carrier where
  ce : Nat
  src : FrameSrc
  ack : Bool
  power : Int
  freq : Nat
  start : Nat
  stop : Nat
  deriving DecidableEq, Repr, Inhabited

/-- A frame being received (R190): the branches that still carry it, and those that a gain change inside the frame has made invalid
for the rest of it (R183, R210); the TCXO tick of the end of its PHR, and what stood at that instant: the TT, and whether a receive
buffer was free (R191, R192). -/
structure Reception where
  fe0 : Bool
  fe1 : Bool
  gain0 : Bool
  gain1 : Bool
  phr : Nat
  phrTt : Option Nat
  full : Bool
  deriving DecidableEq, Repr, Inhabited

/-- States of an engine that is enabled (R194): `rest` is IDLE or LISTEN, by its branches. -/
inductive CeSt where
  | rest | receive | access | transmit
  deriving DecidableEq, Repr, Inhabited

/-- A message that an engine received, in its ring or a receive buffer (R191, R192). -/
structure RxMsg where
  /-- Endpoint that sent the application message, if known. -/
  ep : Option Nat
  /-- EUI-64 of a frame from an unknown source. -/
  eui : Nat
  /-- The frame's security, as a join needs it (R256): level, key mode, counter, verified. -/
  level : Nat
  counter : Nat
  verified : Bool
  /-- TT at the end of the PHR. -/
  tt : Nat
  /-- RSSI on each branch, by front end (R191). -/
  rssi0 : Int
  rssi1 : Int
  /-- RSSI of the frame: the larger of the branches used. -/
  rssi : Int
  snr : Int
  /-- Branches used: bit 0 FE0, bit 1 FE1; the PHY code, and the FCS result (R191). -/
  mask : Nat
  phy : Nat
  fcsOk : Bool
  /-- The MAC command of the frame, if it is one (R216). -/
  cmd : Option Nat
  /-- Route record of a routed message, nearest the origin first (R262): short addresses. -/
  route : List Nat
  /-- It came through a router. -/
  routed : Bool
  /-- It came through the engine and the router that the record of its sender names (R219, R257). -/
  own : Bool
  /-- Application octets from `OP` (R263). -/
  app : List Nat
  /-- Link IE of a contact received during HANDOVER, processed at its close (R247). -/
  contact : Option LinkIe
  deriving DecidableEq, Repr, Inhabited

/-- A transmit test (RAD.TX_TEST). -/
structure TxTest where
  fe : Nat
  pattern : Nat
  freq : Nat
  power : Int
  start : Nat
  stop : Nat
  stopReq : Bool
  peakTemp : Int
  org : Origin
  deriving DecidableEq, Repr, Inhabited

/-- A channel engine. -/
structure Engine where
  /-- Configuration in force, if one has been stored. -/
  cfg : Option CeCfg
  /-- Configuration that waits for the engine's carrier to end (RAD.ENGINE_CONFIG). -/
  next : Option CeCfg
  st : CeSt
  tx : List Frame
  /-- Order of entry to ACCESS (R204). -/
  entered : Nat
  adm : Option Admission
  rx : Option Reception
  /-- Receive ring (256) and, beyond, the two receive buffers (R192). -/
  ring : List RxMsg
  /-- Receive calibration sets in use, by front end (R209). -/
  rxSet0 : Nat
  rxSet1 : Nat
  /-- On-air time in TCXO ticks by second (R200). -/
  duty : Tbl Nat
  /-- What each of the 3,600 bins that the reset filled holds, in ticks: the allotment at the reset, spread evenly (R200). -/
  fill : Nat
  /-- Second in which EV_CE_DUTY_EXHAUSTED was last logged. -/
  dutyLogged : Option Nat
  rssi : Int
  snr : Int
  overruns : Nat
  txFailed : Nat
  /-- Frames since the last EV_CE_TX_WITHDRAWN, by outcome 1 to 5. -/
  outcomes : List Nat
  fcsFailed : Nat
  test : Option TxTest
  deriving DecidableEq, Repr, Inhabited

/-- A calibration sweep in progress (R213). -/
structure Sweep where
  full : Bool
  start : Nat
  org : Origin
  deriving DecidableEq, Repr, Inhabited

/-- A radio front end. -/
structure FrontEnd where
  /-- Configuration stored and in force, if any (R180, R197). -/
  cfg : Option FeCfg
  /-- Centre in kHz and role to which the hardware is tuned (R185). -/
  centre : Nat
  role : Nat
  /-- TCXO tick until which a retune keeps the branches invalid. -/
  retuneUntil : Nat
  fault : Bool
  faultTick : Nat
  carriers : List Carrier
  /-- TCXO tick until which the front end stays blanked after its last carrier (R182). -/
  blankUntil : Nat
  fbV : Nat
  fbT : Nat
  fbD : Nat
  /-- Consecutive carriers at 3.0:1 or more, and at 6.0:1 or more; ticks of measured carriers below 2.5:1, newest first, and of
  the last one not below (R206). -/
  vswr30 : Nat
  vswr60 : Nat
  vswrLow : List Nat
  vswrBad : Nat
  vswr : Nat
  paTemp : Int
  thermStop : Bool
  /-- Consecutive carriers with a margin below 1.0 dB, and of at least 3.0 dB (R212). -/
  dpdBad : Nat
  dpdGood : Nat
  started : Nat
  ackSkipped : Nat
  lostBlank : Nat
  lostGain : Nat
  gainStep : Nat
  headroom : Nat
  gainChanges : Nat
  forced : Nat
  branchDrops : Nat
  clips : Nat
  /-- A gain change that waits: its step and the tick at which it was called for (R210). -/
  gainPend : Option (Nat × Nat)
  /-- Receive sets published since BOOT, and the newest: amplitude and phase imbalance, DC offsets, cycle (R209). -/
  rxSets : Nat
  iqAmp : Int
  iqPhase : Int
  dcI : Int
  dcQ : Int
  rxCyc : Nat
  /-- Predistortion sets published since BOOT, the tick of one that waits, and whether admissions have stopped for it (R211). -/
  dpdSets : Nat
  dpdState : Nat
  dpdPend : Option Nat
  dpdStop : Bool
  dpdCyc : Nat
  aclrLo : Nat
  aclrHi : Nat
  margin : Int
  sweep : Option Sweep
  /-- Amplitude and phase imbalance and DC offsets in the tables of the last successful sweep (R213). -/
  swept : Int × Int × Int × Int
  sweepSec : Nat
  sweepRes : Nat
  sweeps : Nat
  deriving DecidableEq, Repr, Inhabited

structure Radio where
  /-- The band plan stored (R197). -/
  stored : Option BandPlan
  fe0 : FrontEnd
  fe1 : FrontEnd
  /-- CE0 to CE63. -/
  ces : List Engine
  /-- Order numbers of entries to ACCESS. -/
  nextEntry : Nat
  /-- Second of TCXO time to which the duty windows have advanced, and bins of the reset fill still in them (R200). -/
  dutySec : Nat
  fillLeft : Nat
  /-- On-air time of transmit tests: channel centre in Hz, second, ticks. -/
  testAir : List (Nat × Nat × Nat)
  deriving DecidableEq, Repr, Inhabited

end Sys2Proof.Machine
end

