-- ==== Sys2Proof/Machine/FrameFormat.lean ====
section
/-!
DEFINITION. The octets of frames (08 R216, R217, R220, R227; 09 R261): the frame formats of IEEE 802.15.4-2020, its frame check
sequences and AES-CCM*. The spec names the standard and repeats none of its formats: PRESUMED (log entry 52, on frame formats). Frames are
lists of numbers below 256 in the order in which they are sent.
-/
namespace Sys2Proof.Machine

/-! ### Octets, least significant first (R216) -/

/-- A number as `k` octets. -/
def octLe : Nat → Nat → List Nat
  | 0, _ => []
  | k + 1, v => v % 256 :: octLe k (v / 256)

/-- The number that octets spell. -/
def natLe : List Nat → Nat
  | [] => 0
  | o :: t => o + 256 * natLe t

/-- 16 bits as two octets. -/
def oct16 (n : Nat) : List Nat := [n % 256, n / 256 % 256]

/-- The 16-bit number at a place. -/
def le16 (l : List Nat) (i : Nat) : Nat := l.getD i 0 + 256 * l.getD (i + 1) 0

/-- The 32-bit number at the head of a list. -/
def le32 (l : List Nat) : Nat := le16 l 0 + 65536 * le16 l 2

/-! ### The frame check sequence (R188) -/

/-- One octet through a reflected CRC, over its bits. -/
def crcShift (poly : Nat) : Nat → Nat → Nat
  | 0, c => c
  | k + 1, c => crcShift poly k (if c % 2 = 1 then (c / 2) ^^^ poly else c / 2)

/-- Octets through a reflected CRC. -/
def crcOver (poly init : Nat) (l : List Nat) : Nat := l.foldl (fun c o => crcShift poly 8 (c ^^^ o)) init

/-- The 2-octet FCS: the CRC of ITU-T. -/
def fcs2 (l : List Nat) : List Nat := octLe 2 (crcOver 0x8408 0 l)

/-- The 4-octet FCS; octets shorter than it are extended with zeros. -/
def fcs4 (l : List Nat) : List Nat :=
  octLe 4 (crcOver 0xEDB88320 0xFFFFFFFF (l ++ List.replicate (4 - l.length) 0) ^^^ 0xFFFFFFFF)

/-! ### AES-CCM* (R220) -/

/-- Octets of the MIC at a security level. -/
def micLen (level : Nat) : Nat := if level % 4 = 1 then 4 else if level % 4 = 2 then 8 else if level % 4 = 3 then 16 else 0

/-- The nonce: source EUI-64, frame counter, security level. -/
def ccmNonce (eui ctr level : Nat) : List Nat := octetsOfNat 8 eui ++ octetsOfNat 4 ctr ++ [level]

/-- Octets filled with zeros to whole blocks. -/
def padBlock (l : List Nat) : List Nat := l ++ List.replicate ((16 - l.length % 16) % 16) 0

/-- Octets cut into blocks of 16. The fuel is their number. -/
def blocks16 : Nat → List Nat → List (List Nat)
  | 0, _ => []
  | k + 1, l => if l.isEmpty then [] else l.take 16 :: blocks16 k (l.drop 16)

/-- The tag before its encryption, over what is only authenticated and what is also encrypted. -/
def ccmTag (key nonce a m : List Nat) (len : Nat) : List Nat :=
  let flags := 64 * b2n (!a.isEmpty) + 8 * ((len - 2) / 2) + 1
  let data := padBlock (if a.isEmpty then [] else octetsOfNat 2 a.length ++ a) ++ padBlock m
  ((blocks16 data.length data).foldl (fun x b => aesEnc key (xorOctets x b)) (aesEnc key (flags :: nonce ++ octetsOfNat 2 m.length))).take len

/-- Block `i` of the key stream. -/
def ccmStream (key nonce : List Nat) (i : Nat) : List Nat := aesEnc key (1 :: nonce ++ octetsOfNat 2 i)

/-- Octets under the key stream from block 1: their encryption, and its inverse. -/
def ccmCrypt (key nonce m : List Nat) : List Nat :=
  (((blocks16 m.length m).zipIdx 1).map fun x => xorOctets x.1 (ccmStream key nonce x.2)).flatten

/-- What a level encrypts of a payload, and what it only authenticates with the header. -/
def ccmParts (level : Nat) (a p : List Nat) : List Nat × List Nat := if 4 ≤ level then (a, p) else (a ++ p, [])

/-- The MIC as it is sent. -/
def ccmMic (key : List Nat) (eui ctr level : Nat) (a p : List Nat) : List Nat :=
  let (a', m) := ccmParts level a p
  let nonce := ccmNonce eui ctr level
  xorOctets (ccmTag key nonce a' m (micLen level)) (ccmStream key nonce 0)

/-- A payload secured: encrypted where the level says so, and followed by its MIC. -/
def ccmSeal (key : List Nat) (eui ctr level : Nat) (a p : List Nat) : List Nat :=
  (if 4 ≤ level then ccmCrypt key (ccmNonce eui ctr level) p else p) ++ ccmMic key eui ctr level a p

/-- A secured payload with its MIC verified: the payload in clear, none where the MIC fails. -/
def ccmOpen (key : List Nat) (eui ctr level : Nat) (a c : List Nat) : Option (List Nat) :=
  let n := c.length - micLen level
  let x := c.take n
  let p := if 4 ≤ level then ccmCrypt key (ccmNonce eui ctr level) x else x
  if micLen level ≤ c.length ∧ ccmMic key eui ctr level a p = c.drop n then some p else none

/-! ### The MAC header -/

/-- A MAC header read (version 0b10), the information elements apart. -/
structure Mhr where
  type : Nat
  version : Nat
  pending : Bool
  ackReq : Bool
  ie : Bool
  seq : Nat
  dstMode : Nat
  srcMode : Nat
  /-- PAN identifiers that the frame carries (the standard's PAN ID compression rules). -/
  dstPan : Option Nat
  srcPan : Option Nat
  dst : Addr
  src : Addr
  /-- Octets up to the source address, and octets of the whole. -/
  srcEnd : Nat
  len : Nat
  level : Nat
  keyMode : Nat
  keyIdx : Nat
  counter : Nat
  /-- Frame Counter Suppression, or the ASN in the nonce, which TSCH uses. -/
  unsupported : Bool
  deriving DecidableEq, Repr, Inhabited

/-- Octets of an address in an addressing mode. -/
def addrLen (mode : Nat) : Nat := if mode = 2 then 2 else if mode = 3 then 8 else 0

/-- The address in an addressing mode. -/
def addrOf (mode : Nat) (l : List Nat) : Addr :=
  if mode = 2 then .short (natLe (l.take 2)) else if mode = 3 then .ext (natLe (l.take 8)) else .absent

/-- The destination PAN ID is present, by the addressing modes and PAN ID compression. -/
def hasDstPan (dm sm : Nat) (comp : Bool) : Bool :=
  if dm = 0 then sm == 0 && comp
  else if sm = 0 ∨ (dm = 3 ∧ sm = 3) then !comp
  else true

/-- The source PAN ID is present. -/
def hasSrcPan (dm sm : Nat) (comp : Bool) : Bool := sm != 0 && !(dm == 3 && sm == 3) && !comp

/-- The MAC header at the head of a frame. Octets past its end read as 0: `len` then exceeds the frame. -/
def readMhr (l : List Nat) : Mhr :=
  let fc := le16 l 0
  let dm := fc / 1024 % 4
  let sm := fc / 16384
  let comp := fc.testBit 6
  let o1 := if fc.testBit 8 then 2 else 3
  let o2 := o1 + 2 * b2n (hasDstPan dm sm comp)
  let o3 := o2 + addrLen dm
  let o4 := o3 + 2 * b2n (hasSrcPan dm sm comp)
  let o5 := o4 + addrLen sm
  let sec := fc.testBit 3
  let sc := l.getD o5 0
  let o6 := o5 + 1 + 4 * b2n (!sc.testBit 5)
  let km := sc / 8 % 4
  let kl := if km = 0 then 0 else if km = 1 then 1 else if km = 2 then 5 else 9
  { type := fc % 8, version := fc / 4096 % 4, pending := fc.testBit 4, ackReq := fc.testBit 5, ie := fc.testBit 9
    seq := if fc.testBit 8 then 0 else l.getD 2 0, dstMode := dm, srcMode := sm
    dstPan := if hasDstPan dm sm comp then some (le16 l o1) else none
    srcPan := if hasSrcPan dm sm comp then some (le16 l o3) else none
    dst := addrOf dm (l.drop o2), src := addrOf sm (l.drop o4), srcEnd := o5, len := if sec then o6 + kl else o5
    level := if sec then sc % 8 else 0, keyMode := if sec then km else 0, keyIdx := if sec && km != 0 then l.getD (o6 + kl - 1) 0 else 0
    counter := if sec then natLe ((l.drop (o5 + 1)).take 4) else 0, unsupported := sec && (sc.testBit 5 || sc.testBit 6) }

/-- The MAC header of a frame that the module sends, version 0b10: its type, its bits, sequence number, PAN ID and addresses, and the
auxiliary security header of a level, with key identifier mode 1 where it names a key index. -/
def mhrOctets (type : Nat) (pending ackReq ie : Bool) (seq pan : Nat) (dst src : Addr) (level ctr : Nat) (keyIdx : Option Nat) : List Nat :=
  let mode := fun (a : Addr) => match a with | .short _ => 2 | .ext _ => 3 | .absent => 0
  let addr := fun (a : Addr) => match a with | .short x => octLe 2 x | .ext x => octLe 8 x | .absent => []
  let comp := mode dst != 0 && mode src != 0
  let fc := type + 8 * b2n (level != 0) + 16 * b2n pending + 32 * b2n ackReq + 64 * b2n comp + 512 * b2n ie + 1024 * mode dst + 8192 +
    16384 * mode src
  oct16 fc ++ [seq % 256] ++ oct16 pan ++ addr dst ++ addr src ++
    (if level = 0 then [] else
      [level + 8 * b2n keyIdx.isSome] ++ octLe 4 ctr ++ keyIdx.toList)

/-! ### Information elements (R217, R227) -/

/-- A header IE. -/
def headerIe (id : Nat) (content : List Nat) : List Nat := oct16 (content.length + 128 * id) ++ content

/-- A Dunurnos Vendor Specific Header IE (R227). -/
def vendorIe (sub : Nat) (content : List Nat) : List Nat := headerIe 0 ([0x6A, 0xD4, 0xE1, sub] ++ content)

/-- What ends the header IEs before a payload. -/
def ieEnd : List Nat := headerIe 0x7F []

/-- How a list of IEs was read: each element with its content, what follows the list, whether payload IEs follow, and that it parses. -/
structure IeList where
  elems : List (Nat × List Nat)
  rest : List Nat
  payloadIes : Bool
  ok : Bool
  deriving DecidableEq, Repr, Inhabited

/-- Header IEs, each skipped by its length, up to a termination or the end of the frame (R217). The fuel is the number of octets. -/
def readHeaderIes : Nat → List Nat → IeList
  | 0, l => ⟨[], l, false, l.isEmpty⟩
  | k + 1, l =>
    if l.isEmpty then ⟨[], [], false, true⟩
    else
      let d := le16 l 0
      let n := d % 128
      let id := d / 128 % 256
      let t := l.drop (2 + n)
      if l.length < 2 + n ∨ 32768 ≤ d then ⟨[], [], false, false⟩
      else if id = 0x7E then ⟨[], t, true, true⟩
      else if id = 0x7F then ⟨[], t, false, true⟩
      else let r := readHeaderIes k t; { r with elems := (id, (l.drop 2).take n) :: r.elems }

/-- Payload IEs likewise. -/
def readPayloadIes : Nat → List Nat → IeList
  | 0, l => ⟨[], l, false, l.isEmpty⟩
  | k + 1, l =>
    if l.isEmpty then ⟨[], [], false, true⟩
    else
      let d := le16 l 0
      let n := d % 2048
      let t := l.drop (2 + n)
      if l.length < 2 + n ∨ d < 32768 then ⟨[], [], false, false⟩
      else if d / 2048 % 16 = 15 then ⟨[], t, false, true⟩
      else let r := readPayloadIes k t; { r with elems := (d / 2048 % 16, (l.drop 2).take n) :: r.elems }

/-- Header IEs of TSCH and DSME: the DSME PAN descriptors and the time correction (R216). -/
def ieUnsupported (id : Nat) : Bool := id == 0x1C || id == 0x1E || id == 0x21

/-- The nested short MLME elements of TSCH in a payload IE of group 1 (R216). The fuel is the number of octets. -/
def mlmeTsch : Nat → List Nat → Bool
  | 0, _ => false
  | k + 1, l =>
    if l.length < 2 then false
    else
      let d := le16 l 0
      if 32768 ≤ d then mlmeTsch k (l.drop (2 + d % 2048))
      else (0x1A ≤ d / 256 && d / 256 ≤ 0x1C : Bool) || mlmeTsch k (l.drop (2 + d % 256))

/-- The content of the module's own IE of a sub-type, from its octet 1. -/
def vendorOf (ies : List (Nat × List Nat)) (sub : Nat) : Option (List Nat) :=
  (ies.find? fun e => e.1 == 0 && e.2.take 4 == [0x6A, 0xD4, 0xE1, sub]).map fun e => e.2.drop 4

/-- The Link IE (R229). -/
def linkIeOf (ies : List (Nat × List Nat)) : Option LinkIe :=
  match vendorOf ies 3 with
  | none => none
  | some c => if c.length < 5 then none else
    some ⟨le16 c 0, c.getD 2 0 % 4, (c.getD 2 0).testBit 2, (c.getD 2 0).testBit 3, le16 c 3⟩

/-- The Confirm IE (R264): `TID`, result, level. -/
def confirmIeOf (ies : List (Nat × List Nat)) : Option (Nat × Nat × Nat) :=
  match vendorOf ies 4 with
  | none => none
  | some c => if c.length < 4 then none else some (c.getD 0 0, c.getD 1 0, le16 c 2)

/-! ### A wake-up frame (R238) -/

/-- A wake-up frame: a multipurpose frame with a long frame control field and no sequence number, the destination PAN ID and short
address, the Rendezvous Time IE and the FCS. DESIGN CHOICE: its frame version is the 0b10 of R216 (log entry 52, on frame formats). -/
def wakeFrame (pan dst rz : Nat) : List Nat :=
  let l := oct16 (5 + 8 + 32 + 256 + 1024 + 8192 + 32768) ++ oct16 pan ++ oct16 dst ++ headerIe 0x1D (oct16 (rz % 65536))
  l ++ fcs4 l

end Sys2Proof.Machine
end

