-- ==== Sys2Proof/Config.lean ====
section
/-!
DEFINITION. What an implementation fixes and the spec leaves open: free values, without a body, so that nothing can be proved
of them but what holds of every value.
-/
namespace Sys2Proof

/-- A free number, a fresh one for each value of the state's counter. -/
opaque Config.freeNat : Nat → Nat

/-- A free choice: whether a RESET_N pulse between 1 and 10 µs resets (R54: "may or may not"). -/
opaque Config.pulseResets : Nat → Bool

/-- `FACTORY(T)` of R99: the fused crystal error, in 0.01 ppm, by temperature in 0.1 °C. -/
opaque Config.factory : Int → Int

/-- The loop's frequency estimate from the one before and the period of a crossing in TCXO ticks (R77: the filter is not
given), in Hz × 65,536. -/
opaque Config.loopFreq : Nat → Nat → Nat

/-- The loop's phase correction from e, in pu, before its limit of 4 pu per cycle (R77). -/
opaque Config.loopPhase : Int → Int

/-- The mark of an outlier in EV_TT_PHASE_STEP (R96: its form is not given). -/
opaque Config.outlierMark : Word

/-- The rows of the concurrency matrix that a type 7 part spells, by activity (R491): the form of the part is not given. -/
opaque Config.matrixRows : List Word → Nat → Nat

/-- CRC-32C of the stored contents of a settings set (R175): the storage layout is not given. -/
opaque Config.settingsCrc : Nat → Nat → Word

/-- The code of an enumerated content item of an event, by event code and case: the spec names the cases and not their codes. -/
opaque Config.itemCode : Nat → Nat → Word

/-- IEEE 802.15.4-2020 defines the pair of an OFDM option (1 to 4) and MCS (R186). -/
opaque Config.ofdmPair : Nat → Nat → Bool

/-- OFDM symbols of the SHR, PHR and payload of a PSDU of some octets under a PHY code (R189: "the standard gives the count"). -/
opaque Config.ofdmSymbols : Nat → Nat → Nat

/-- The cost of the radio link into a router, from the router's index and the cycle at which the route was learned (R265 gives the
range 1 to 255 and not the measure). -/
opaque Config.linkCost : Nat → Nat → Nat

/-- OFDM symbols of the PHR under a PHY code (R188). -/
opaque Config.ofdmPhr : Nat → Nat

/-- A memory, by its ID, has a row and column or a word at an address (R457: the sizes of the SRAMs and of the privileged memories are
not given). -/
opaque Config.memAddr : Nat → Nat → Bool

end Sys2Proof
end

