-- ==== Sys2Proof/Machine/Codes.lean ====
section
/-!
DEFINITION. The codes of the spec: events with their default severities (R411, R412 and the tables it names), statuses
(R177), and the opcode index (R178).
-/
namespace Sys2Proof.Machine

/-- EV_MODE_CHANGE, default severity 2. -/
def evModeChange : Nat := 0x0001
/-- EV_PFW, default severity 4. -/
def evPfw : Nat := 0x0002
/-- EV_RESET, default severity 3. -/
def evReset : Nat := 0x0003
/-- EV_FLUSH_INCOMPLETE, default severity 6. -/
def evFlushIncomplete : Nat := 0x0004
/-- EV_PFW_LOWERED, default severity 4. -/
def evPfwLowered : Nat := 0x0005
/-- EV_HOST_SILENT, default severity 4. -/
def evHostSilent : Nat := 0x0006
/-- EV_HOST_RESUMED, default severity 2. -/
def evHostResumed : Nat := 0x0007
/-- EV_BOOT_FALLBACK, default severity 5. -/
def evBootFallback : Nat := 0x0008
/-- EV_VIN_SURGE, default severity 4. -/
def evVinSurge : Nat := 0x0009
/-- EV_SHELF_EXIT, default severity 2. -/
def evShelfExit : Nat := 0x000A
/-- EV_CFG_COMMIT, default severity 2. -/
def evCfgCommit : Nat := 0x000B
/-- EV_CFG_DISCARDED, default severity 3. -/
def evCfgDiscarded : Nat := 0x000C
/-- EV_SETTINGS_RESET, default severity 4. -/
def evSettingsReset : Nat := 0x000D
/-- EV_WATCHDOG_SET, default severity 2. -/
def evWatchdogSet : Nat := 0x000E
/-- EV_STRAP_UNSTABLE, default severity 4. -/
def evStrapUnstable : Nat := 0x0010
/-- EV_TT_LOCKED, default severity 2. -/
def evTtLocked : Nat := 0x0101
/-- EV_TT_HOLDOVER, default severity 4. -/
def evTtHoldover : Nat := 0x0102
/-- EV_TT_SLEW, default severity 3. -/
def evTtSlew : Nat := 0x0103
/-- EV_TT_PHASE_STEP, default severity 4. -/
def evTtPhaseStep : Nat := 0x0104
/-- EV_TT_SOURCE, default severity 3. -/
def evTtSource : Nat := 0x0105
/-- EV_TT_NOMINAL_MISMATCH, default severity 5. -/
def evTtNominalMismatch : Nat := 0x0106
/-- EV_TT_QUEUE_FULL, default severity 4. -/
def evTtQueueFull : Nat := 0x0107
/-- EV_TT_HOLDOVER_LONG, default severity 4. -/
def evTtHoldoverLong : Nat := 0x0108
/-- EV_TT_RESERVE_FAIL, default severity 6. -/
def evTtReserveFail : Nat := 0x0109
/-- EV_TT_CONFIG, default severity 2. -/
def evTtConfig : Nat := 0x010A
/-- EV_RETENTION_LOST, default severity 6. -/
def evRetentionLost : Nat := 0x0201
/-- EV_RTC_OSC_FAULT, default severity 6. -/
def evRtcOscFault : Nat := 0x0202
/-- EV_LBV, default severity 4. -/
def evLbv : Nat := 0x0203
/-- EV_RTC_SET, default severity 3. -/
def evRtcSet : Nat := 0x0204
/-- EV_TAMPER, default severity 7. -/
def evTamper : Nat := 0x0205
/-- EV_RTC_FLAGS_CLEAR, default severity 4. -/
def evRtcFlagsClear : Nat := 0x0206
/-- EV_VBAK_LOW, default severity 4. -/
def evVbakLow : Nat := 0x0207
/-- EV_RTC_TRIM, default severity 2. -/
def evRtcTrim : Nat := 0x0208
/-- EV_TAMPER_CONFIG, default severity 3. -/
def evTamperConfig : Nat := 0x0209
/-- EV_HOST_FRAMING, default severity 3. -/
def evHostFraming : Nat := 0x0301
/-- EV_NTF_LOST, default severity 3. -/
def evNtfLost : Nat := 0x0302
/-- EV_PORT_FLUSH, default severity 2. -/
def evPortFlush : Nat := 0x0303
/-- EV_FE_VSWR, default severity 4. -/
def evFeVswr : Nat := 0x0401
/-- EV_FE_THERMAL, default severity 4. -/
def evFeThermal : Nat := 0x0402
/-- EV_FE_GAIN_FORCED, default severity 3. -/
def evFeGainForced : Nat := 0x0403
/-- EV_FE_DPD_BACKOFF, default severity 4. -/
def evFeDpdBackoff : Nat := 0x0404
/-- EV_FE_SWEEP, default severity 3. -/
def evFeSweep : Nat := 0x0405
/-- EV_FE_CONFIG, default severity 2. -/
def evFeConfig : Nat := 0x0406
/-- EV_FE_FAULT, default severity 6. -/
def evFeFault : Nat := 0x0407
/-- EV_RAD_BAND_PLAN, default severity 3. -/
def evRadBandPlan : Nat := 0x0408
/-- EV_CE_CONFIG, default severity 2. -/
def evCeConfig : Nat := 0x0601
/-- EV_CE_UNPLANNED, default severity 4. -/
def evCeUnplanned : Nat := 0x0602
/-- EV_CE_UNCOVERED, default severity 4. -/
def evCeUncovered : Nat := 0x0603
/-- EV_CE_DUTY_EXHAUSTED, default severity 3. -/
def evCeDutyExhausted : Nat := 0x0604
/-- EV_CE_RX_OVERRUN, default severity 3. -/
def evCeRxOverrun : Nat := 0x0605
/-- EV_CE_TX_WITHDRAWN, default severity 2. -/
def evCeTxWithdrawn : Nat := 0x0606
/-- EV_CE_TX_TEST, default severity 3. -/
def evCeTxTest : Nat := 0x0607
/-- EV_BEACON_LOST, default severity 3. -/
def evBeaconLost : Nat := 0x0610
/-- EV_BEACON_RESTORED, default severity 2. -/
def evBeaconRestored : Nat := 0x0611
/-- EV_BACKUP_BEACON_FAIL, default severity 4. -/
def evBackupBeaconFail : Nat := 0x0612
/-- EV_LINK_ADRIFT, default severity 2. -/
def evLinkAdrift : Nat := 0x0613
/-- EV_LINK_RESYNC, default severity 3. -/
def evLinkResync : Nat := 0x0614
/-- EV_LINK_LOST, default severity 4. -/
def evLinkLost : Nat := 0x0615
/-- EV_GREETING, default severity 2. -/
def evGreeting : Nat := 0x0616
/-- EV_SEC_FAIL, default severity 3. -/
def evSecFail : Nat := 0x0617
/-- EV_POLL_DENIED, default severity 2. -/
def evPollDenied : Nat := 0x0618
/-- EV_MAC_CONFIG, default severity 2. -/
def evMacConfig : Nat := 0x0619
/-- EV_POLL_REVOKED, default severity 3. -/
def evPollRevoked : Nat := 0x061A
/-- EV_EP_JOINED, default severity 2. -/
def evEpJoined : Nat := 0x0701
/-- EV_EP_JOIN_REFUSED, default severity 3. -/
def evEpJoinRefused : Nat := 0x0702
/-- EV_EP_REJOINED, default severity 2. -/
def evEpRejoined : Nat := 0x0703
/-- EV_EP_REMOVED, default severity 2. -/
def evEpRemoved : Nat := 0x0704
/-- EV_EP_KEY_EXHAUSTED, default severity 5. -/
def evEpKeyExhausted : Nat := 0x0705
/-- EV_LINK_KEY_LOADED, default severity 3. -/
def evLinkKeyLoaded : Nat := 0x0706
/-- EV_REROUTE, default severity 3. -/
def evReroute : Nat := 0x0707
/-- EV_ROUTE_BROKEN, default severity 4. -/
def evRouteBroken : Nat := 0x0708
/-- EV_ROUTE_RESTORED, default severity 2. -/
def evRouteRestored : Nat := 0x0709
/-- EV_IMAGE_LOADED, default severity 2. -/
def evImageLoaded : Nat := 0x070A
/-- EV_IMAGE_SEND, default severity 3. -/
def evImageSend : Nat := 0x070B
/-- EV_LAT_CHECKPOINT, default severity 2. -/
def evLatCheckpoint : Nat := 0x070C
/-- EV_LAT_RESTORE, default severity 3. -/
def evLatRestore : Nat := 0x070D
/-- EV_TXN_ABANDONED, default severity 3. -/
def evTxnAbandoned : Nat := 0x0801
/-- EV_TXN_FULL, default severity 4. -/
def evTxnFull : Nat := 0x0802
/-- EV_SEQ_GAP, default severity 3. -/
def evSeqGap : Nat := 0x0803
/-- EV_ORDER_MODE, default severity 3. -/
def evOrderMode : Nat := 0x0804
/-- EV_RETRY_POLICY, default severity 2. -/
def evRetryPolicy : Nat := 0x0805
/-- EV_TXN_LOST, default severity 4. -/
def evTxnLost : Nat := 0x0806
/-- EV_SCH_CHANGE, default severity 1. -/
def evSchChange : Nat := 0x0901
/-- EV_SCH_CONFIG, default severity 2. -/
def evSchConfig : Nat := 0x0902
/-- EV_SCH_NO_SOLAR, default severity 3. -/
def evSchNoSolar : Nat := 0x0903
/-- EV_SCH_LUX_STALE, default severity 3. -/
def evSchLuxStale : Nat := 0x0904
/-- EV_SCH_RESYNC, default severity 2. -/
def evSchResync : Nat := 0x0905
/-- EV_SCH_FALLBACK, default severity 4. -/
def evSchFallback : Nat := 0x0906
/-- EV_SCH_TZ, default severity 2. -/
def evSchTz : Nat := 0x0907
/-- EV_GROUP_MEMBERS, default severity 2. -/
def evGroupMembers : Nat := 0x0908
/-- EV_MEMBERSHIP_FAIL, default severity 3. -/
def evMembershipFail : Nat := 0x0909
/-- EV_CHD_CORRIDOR, default severity 2. -/
def evChdCorridor : Nat := 0x0A01
/-- EV_CHD_WAVE_LIMIT, default severity 4. -/
def evChdWaveLimit : Nat := 0x0A02
/-- EV_CHD_LATE, default severity 3. -/
def evChdLate : Nat := 0x0A03
/-- EV_CHD_UNKNOWN, default severity 2. -/
def evChdUnknown : Nat := 0x0A04
/-- EV_CHD_CONFIG, default severity 2. -/
def evChdConfig : Nat := 0x0A05
/-- EV_CHD_SHRUNK, default severity 3. -/
def evChdShrunk : Nat := 0x0A06
/-- EV_CHD_BACKLOG, default severity 4. -/
def evChdBacklog : Nat := 0x0A07
/-- EV_METER_GAP, default severity 6. -/
def evMeterGap : Nat := 0x0B01
/-- EV_METER_RESTORE, default severity 2. -/
def evMeterRestore : Nat := 0x0B02
/-- EV_METER_SAVE_FAIL, default severity 5. -/
def evMeterSaveFail : Nat := 0x0B03
/-- EV_METER_INPUT_FAULT, default severity 6. -/
def evMeterInputFault : Nat := 0x0B04
/-- EV_METER_OVERRANGE, default severity 4. -/
def evMeterOverrange : Nat := 0x0B05
/-- EV_METER_PHASE_LOSS, default severity 4. -/
def evMeterPhaseLoss : Nat := 0x0B06
/-- EV_METER_CAL, default severity 4. -/
def evMeterCal : Nat := 0x0B07
/-- EV_FEEDER_BALANCE, default severity 5. -/
def evFeederBalance : Nat := 0x0B08
/-- EV_METER_CONFIG, default severity 3. -/
def evMeterConfig : Nat := 0x0B09
/-- EV_METER_CLEAR, default severity 5. -/
def evMeterClear : Nat := 0x0B0A
/-- EV_PULSE_OWED, default severity 3. -/
def evPulseOwed : Nat := 0x0B0B
/-- EV_SGN_FUNCTION_FAILED, default severity 5. -/
def evSgnFunctionFailed : Nat := 0x0C01
/-- EV_SGN_STRING_FAULT, default severity 4. -/
def evSgnStringFault : Nat := 0x0C02
/-- EV_SGN_RETEST, default severity 2. -/
def evSgnRetest : Nat := 0x0C03
/-- EV_SGN_DERATE, default severity 4. -/
def evSgnDerate : Nat := 0x0C04
/-- EV_SGN_NTC_FAULT, default severity 5. -/
def evSgnNtcFault : Nat := 0x0C05
/-- EV_SGN_SENSOR_FAULT, default severity 4. -/
def evSgnSensorFault : Nat := 0x0C06
/-- EV_SGN_COLOUR_RANGE, default severity 4. -/
def evSgnColourRange : Nat := 0x0C07
/-- EV_SGN_SYNC_TIMEOUT, default severity 3. -/
def evSgnSyncTimeout : Nat := 0x0C08
/-- EV_SGN_CONFIG, default severity 2. -/
def evSgnConfig : Nat := 0x0C09
/-- EV_CAN_PASSIVE, default severity 3. -/
def evCanPassive : Nat := 0x0D01
/-- EV_CAN_BUS_OFF, default severity 5. -/
def evCanBusOff : Nat := 0x0D02
/-- EV_CAN_RECOVERED, default severity 3. -/
def evCanRecovered : Nat := 0x0D03
/-- EV_CAN_LONE, default severity 4. -/
def evCanLone : Nat := 0x0D04
/-- EV_CAN_RATE_FOUND, default severity 2. -/
def evCanRateFound : Nat := 0x0D05
/-- EV_CAN_OVERRUN, default severity 3. -/
def evCanOverrun : Nat := 0x0D06
/-- EV_CAN_CONFIG, default severity 2. -/
def evCanConfig : Nat := 0x0D07
/-- EV_DIN_EDGE, default severity 1. -/
def evDinEdge : Nat := 0x0F01
/-- EV_DIN_STUCK, default severity 3. -/
def evDinStuck : Nat := 0x0F02
/-- EV_DIN_CHATTER, default severity 3. -/
def evDinChatter : Nat := 0x0F03
/-- EV_DOUT_FAULT, default severity 4. -/
def evDoutFault : Nat := 0x0F04
/-- EV_DOUT_SAFE, default severity 2. -/
def evDoutSafe : Nat := 0x0F05
/-- EV_DOUT_REFUSED, default severity 3. -/
def evDoutRefused : Nat := 0x0F06
/-- EV_IO_CONFIG, default severity 2. -/
def evIoConfig : Nat := 0x0F07
/-- EV_LOG_FREEZE, default severity 2. -/
def evLogFreeze : Nat := 0x1001
/-- EV_LOG_THAW, default severity 2. -/
def evLogThaw : Nat := 0x1002
/-- EV_LOG_DROP, default severity 4. -/
def evLogDrop : Nat := 0x1003
/-- EV_LOG_STAGE_OVF, default severity 4. -/
def evLogStageOvf : Nat := 0x1004
/-- EV_LOG_SEVERITY, default severity 2. -/
def evLogSeverity : Nat := 0x1005
/-- EV_LOG_BLOCKED, default severity 5. -/
def evLogBlocked : Nat := 0x1006
/-- EV_LOG_MEDIA, default severity 5. -/
def evLogMedia : Nat := 0x1007
/-- EV_LOG_RESTORE, default severity 2. -/
def evLogRestore : Nat := 0x1008
/-- EV_KEY_STORE_LOST, default severity 6. -/
def evKeyStoreLost : Nat := 0x1101
/-- EV_KEY_IMPORTED, default severity 3. -/
def evKeyImported : Nat := 0x1102
/-- EV_KEY_GENERATED, default severity 3. -/
def evKeyGenerated : Nat := 0x1103
/-- EV_KEY_STAGED, default severity 3. -/
def evKeyStaged : Nat := 0x1104
/-- EV_KEY_VERIFY_FAIL, default severity 5. -/
def evKeyVerifyFail : Nat := 0x1105
/-- EV_KEY_COMMITTED, default severity 3. -/
def evKeyCommitted : Nat := 0x1106
/-- EV_KEY_OVERLAP_END, default severity 2. -/
def evKeyOverlapEnd : Nat := 0x1107
/-- EV_KEY_DESTROYED, default severity 3. -/
def evKeyDestroyed : Nat := 0x1108
/-- EV_DEBUG_LOCKED, default severity 4. -/
def evDebugLocked : Nat := 0x1109
/-- EV_WORLD_SET, default severity 4. -/
def evWorldSet : Nat := 0x110A
/-- EV_KEK_REWRAP, default severity 3. -/
def evKekRewrap : Nat := 0x110B
/-- EV_KEY_EXPORTED, default severity 4. -/
def evKeyExported : Nat := 0x110C
/-- EV_WORLD_VIOLATION, default severity 6. -/
def evWorldViolation : Nat := 0x110D
/-- EV_WORLD_CONFIG_REPAIRED, default severity 4. -/
def evWorldConfigRepaired : Nat := 0x110E
/-- EV_WORLD_CONFIG_LOST, default severity 6. -/
def evWorldConfigLost : Nat := 0x110F
/-- EV_UPD_BEGIN, default severity 3. -/
def evUpdBegin : Nat := 0x1201
/-- EV_UPD_LOAD_FAIL, default severity 5. -/
def evUpdLoadFail : Nat := 0x1202
/-- EV_UPD_VERIFIED, default severity 3. -/
def evUpdVerified : Nat := 0x1203
/-- EV_UPD_ACTIVATE, default severity 4. -/
def evUpdActivate : Nat := 0x1204
/-- EV_UPD_CONFIRMED, default severity 3. -/
def evUpdConfirmed : Nat := 0x1205
/-- EV_UPD_ROLLBACK, default severity 5. -/
def evUpdRollback : Nat := 0x1206
/-- EV_UPD_ABORT, default severity 3. -/
def evUpdAbort : Nat := 0x1207
/-- EV_UPD_FLOOR_FULL, default severity 5. -/
def evUpdFloorFull : Nat := 0x1208
/-- EV_MEM_CE, default severity 2. -/
def evMemCe : Nat := 0x1301
/-- EV_MEM_UE, default severity 5. -/
def evMemUe : Nat := 0x1302
/-- EV_MEM_REPAIR_DUE, default severity 4. -/
def evMemRepairDue : Nat := 0x1303
/-- EV_MEM_REPAIRED, default severity 3. -/
def evMemRepaired : Nat := 0x1304
/-- EV_MEM_FLIP, default severity 2. -/
def evMemFlip : Nat := 0x1305
/-- EV_MEM_CHECKER_FAULT, default severity 6. -/
def evMemCheckerFault : Nat := 0x1306
/-- EV_DRAM_RETIRED, default severity 3. -/
def evDramRetired : Nat := 0x1307
/-- EV_DRAM_RETIRE_FULL, default severity 5. -/
def evDramRetireFull : Nat := 0x1308
/-- EV_SCRUB, default severity 2. -/
def evScrub : Nat := 0x1309
/-- EV_NAND_BAD_BLOCK, default severity 4. -/
def evNandBadBlock : Nat := 0x130A
/-- EV_NAND_SPARE_LOW, default severity 5. -/
def evNandSpareLow : Nat := 0x130B
/-- EV_NAND_REFRESH, default severity 2. -/
def evNandRefresh : Nat := 0x130C
/-- EV_NOR_SECTOR, default severity 4. -/
def evNorSector : Nat := 0x130D
/-- EV_NAND_UE, default severity 5. -/
def evNandUe : Nat := 0x130E
/-- EV_MEM_CONFIG, default severity 2. -/
def evMemConfig : Nat := 0x130F
/-- EV_BALLAST_REFUSED, default severity 3. -/
def evBallastRefused : Nat := 0x1401
/-- EV_BLOCK_WITHDRAWN, default severity 4. -/
def evBlockWithdrawn : Nat := 0x1402
/-- EV_BLOCK_RESTORED, default severity 3. -/
def evBlockRestored : Nat := 0x1403
/-- EV_ACTIVITY_PREEMPTED, default severity 2. -/
def evActivityPreempted : Nat := 0x1404
/-- EV_BALLAST_MATRIX, default severity 3. -/
def evBallastMatrix : Nat := 0x1405

/-- Events of source 0x00 with their default severities. -/
def evTable00 : List (Nat × Nat) :=
  [(0x0001, 2), (0x0002, 4), (0x0003, 3), (0x0004, 6), (0x0005, 4), (0x0006, 4), (0x0007, 2), (0x0008, 5), (0x0009, 4), (0x000A, 2), (0x000B, 2), (0x000C, 3), (0x000D, 4), (0x000E, 2), (0x0010, 4)]
/-- Events of source 0x01 with their default severities. -/
def evTable01 : List (Nat × Nat) :=
  [(0x0101, 2), (0x0102, 4), (0x0103, 3), (0x0104, 4), (0x0105, 3), (0x0106, 5), (0x0107, 4), (0x0108, 4), (0x0109, 6), (0x010A, 2)]
/-- Events of source 0x02 with their default severities. -/
def evTable02 : List (Nat × Nat) :=
  [(0x0201, 6), (0x0202, 6), (0x0203, 4), (0x0204, 3), (0x0205, 7), (0x0206, 4), (0x0207, 4), (0x0208, 2), (0x0209, 3)]
/-- Events of source 0x03 with their default severities. -/
def evTable03 : List (Nat × Nat) :=
  [(0x0301, 3), (0x0302, 3), (0x0303, 2)]
/-- Events of source 0x04 with their default severities. -/
def evTable04 : List (Nat × Nat) :=
  [(0x0401, 4), (0x0402, 4), (0x0403, 3), (0x0404, 4), (0x0405, 3), (0x0406, 2), (0x0407, 6), (0x0408, 3)]
/-- Events of source 0x05 with their default severities. -/
def evTable05 : List (Nat × Nat) :=
  [(0x0501, 4), (0x0502, 4), (0x0503, 3), (0x0504, 4), (0x0505, 3), (0x0506, 2), (0x0507, 6), (0x0508, 3)]
/-- Events of source 0x06 with their default severities. -/
def evTable06 : List (Nat × Nat) :=
  [(0x0601, 2), (0x0602, 4), (0x0603, 4), (0x0604, 3), (0x0605, 3), (0x0606, 2), (0x0607, 3), (0x0610, 3), (0x0611, 2), (0x0612, 4), (0x0613, 2), (0x0614, 3), (0x0615, 4), (0x0616, 2), (0x0617, 3), (0x0618, 2), (0x0619, 2), (0x061A, 3)]
/-- Events of source 0x07 with their default severities. -/
def evTable07 : List (Nat × Nat) :=
  [(0x0701, 2), (0x0702, 3), (0x0703, 2), (0x0704, 2), (0x0705, 5), (0x0706, 3), (0x0707, 3), (0x0708, 4), (0x0709, 2), (0x070A, 2), (0x070B, 3), (0x070C, 2), (0x070D, 3)]
/-- Events of source 0x08 with their default severities. -/
def evTable08 : List (Nat × Nat) :=
  [(0x0801, 3), (0x0802, 4), (0x0803, 3), (0x0804, 3), (0x0805, 2), (0x0806, 4)]
/-- Events of source 0x09 with their default severities. -/
def evTable09 : List (Nat × Nat) :=
  [(0x0901, 1), (0x0902, 2), (0x0903, 3), (0x0904, 3), (0x0905, 2), (0x0906, 4), (0x0907, 2), (0x0908, 2), (0x0909, 3)]
/-- Events of source 0x0A with their default severities. -/
def evTable0A : List (Nat × Nat) :=
  [(0x0A01, 2), (0x0A02, 4), (0x0A03, 3), (0x0A04, 2), (0x0A05, 2), (0x0A06, 3), (0x0A07, 4)]
/-- Events of source 0x0B with their default severities. -/
def evTable0B : List (Nat × Nat) :=
  [(0x0B01, 6), (0x0B02, 2), (0x0B03, 5), (0x0B04, 6), (0x0B05, 4), (0x0B06, 4), (0x0B07, 4), (0x0B08, 5), (0x0B09, 3), (0x0B0A, 5), (0x0B0B, 3)]
/-- Events of source 0x0C with their default severities. -/
def evTable0C : List (Nat × Nat) :=
  [(0x0C01, 5), (0x0C02, 4), (0x0C03, 2), (0x0C04, 4), (0x0C05, 5), (0x0C06, 4), (0x0C07, 4), (0x0C08, 3), (0x0C09, 2)]
/-- Events of source 0x0D with their default severities. -/
def evTable0D : List (Nat × Nat) :=
  [(0x0D01, 3), (0x0D02, 5), (0x0D03, 3), (0x0D04, 4), (0x0D05, 2), (0x0D06, 3), (0x0D07, 2)]
/-- Events of source 0x0E with their default severities. -/
def evTable0E : List (Nat × Nat) :=
  [(0x0E01, 3), (0x0E02, 5), (0x0E03, 3), (0x0E04, 4), (0x0E05, 2), (0x0E06, 3), (0x0E07, 2)]
/-- Events of source 0x0F with their default severities. -/
def evTable0F : List (Nat × Nat) :=
  [(0x0F01, 1), (0x0F02, 3), (0x0F03, 3), (0x0F04, 4), (0x0F05, 2), (0x0F06, 3), (0x0F07, 2)]
/-- Events of source 0x10 with their default severities. -/
def evTable10 : List (Nat × Nat) :=
  [(0x1001, 2), (0x1002, 2), (0x1003, 4), (0x1004, 4), (0x1005, 2), (0x1006, 5), (0x1007, 5), (0x1008, 2)]
/-- Events of source 0x11 with their default severities. -/
def evTable11 : List (Nat × Nat) :=
  [(0x1101, 6), (0x1102, 3), (0x1103, 3), (0x1104, 3), (0x1105, 5), (0x1106, 3), (0x1107, 2), (0x1108, 3), (0x1109, 4), (0x110A, 4), (0x110B, 3), (0x110C, 4), (0x110D, 6), (0x110E, 4), (0x110F, 6)]
/-- Events of source 0x12 with their default severities. -/
def evTable12 : List (Nat × Nat) :=
  [(0x1201, 3), (0x1202, 5), (0x1203, 3), (0x1204, 4), (0x1205, 3), (0x1206, 5), (0x1207, 3), (0x1208, 5)]
/-- Events of source 0x13 with their default severities. -/
def evTable13 : List (Nat × Nat) :=
  [(0x1301, 2), (0x1302, 5), (0x1303, 4), (0x1304, 3), (0x1305, 2), (0x1306, 6), (0x1307, 3), (0x1308, 5), (0x1309, 2), (0x130A, 4), (0x130B, 5), (0x130C, 2), (0x130D, 4), (0x130E, 5), (0x130F, 2)]
/-- Events of source 0x14 with their default severities. -/
def evTable14 : List (Nat × Nat) :=
  [(0x1401, 3), (0x1402, 4), (0x1403, 3), (0x1404, 2), (0x1405, 3)]

/-- Default severity of an event code; none: no such event exists (R412). -/
def defaultSev (code : Nat) : Option Nat :=
  (match code / 256 with
    | 0x00 => evTable00.lookup code
    | 0x01 => evTable01.lookup code
    | 0x02 => evTable02.lookup code
    | 0x03 => evTable03.lookup code
    | 0x04 => evTable04.lookup code
    | 0x05 => evTable05.lookup code
    | 0x06 => evTable06.lookup code
    | 0x07 => evTable07.lookup code
    | 0x08 => evTable08.lookup code
    | 0x09 => evTable09.lookup code
    | 0x0A => evTable0A.lookup code
    | 0x0B => evTable0B.lookup code
    | 0x0C => evTable0C.lookup code
    | 0x0D => evTable0D.lookup code
    | 0x0E => evTable0E.lookup code
    | 0x0F => evTable0F.lookup code
    | 0x10 => evTable10.lookup code
    | 0x11 => evTable11.lookup code
    | 0x12 => evTable12.lookup code
    | 0x13 => evTable13.lookup code
    | 0x14 => evTable14.lookup code
    | _ => none)
/-- Status OK (R177). -/
def stOk : Nat := 0x0000
/-- Status ACCEPTED (R177). -/
def stAccepted : Nat := 0x0001
/-- Status BUSY (R177). -/
def stBusy : Nat := 0x0101
/-- Status BUSY_MAINT (R177). -/
def stBusyMaint : Nat := 0x0102
/-- Status HANDOVER (R177). -/
def stHandover : Nat := 0x0103
/-- Status BAD_OPCODE (R177). -/
def stBadOpcode : Nat := 0x0201
/-- Status BAD_LENGTH (R177). -/
def stBadLength : Nat := 0x0202
/-- Status BAD_PARAM (R177). -/
def stBadParam : Nat := 0x0203
/-- Status BAD_STATE (R177). -/
def stBadState : Nat := 0x0204
/-- Status ABSENT (R177). -/
def stAbsent : Nat := 0x0301
/-- Status WORLD (R177). -/
def stWorld : Nat := 0x0302
/-- Status LOCKED (R177). -/
def stLocked : Nat := 0x0303
/-- Status NOT_OWNER (R177). -/
def stNotOwner : Nat := 0x0304
/-- Status NO_ENDPOINT (R177). -/
def stNoEndpoint : Nat := 0x0401
/-- Status UNREACHABLE (R177). -/
def stUnreachable : Nat := 0x0402
/-- Status ABANDONED (R177). -/
def stAbandoned : Nat := 0x0403
/-- Status ORDER_HELD (R177). -/
def stOrderHeld : Nat := 0x0404
/-- Status KEY_INVALID (R177). -/
def stKeyInvalid : Nat := 0x0501
/-- Status VERIFY_FAIL (R177). -/
def stVerifyFail : Nat := 0x0502
/-- Status FULL (R177). -/
def stFull : Nat := 0x0601
/-- Status MEDIA (R177). -/
def stMedia : Nat := 0x0701
/-- Status AAC_LATE (R177). -/
def stAacLate : Nat := 0x0110
/-- Status WRONG_QUEUE (R177). -/
def stWrongQueue : Nat := 0x0111
/-- Status SET_OPEN (R177). -/
def stSetOpen : Nat := 0x0112
/-- Status NO_SET (R177). -/
def stNoSet : Nat := 0x0113
/-- Status SET_BROKEN (R177). -/
def stSetBroken : Nat := 0x0114
/-- Status LATE (R177). -/
def stLate : Nat := 0x0210
/-- Status OUT_OF_EPOCH (R177). -/
def stOutOfEpoch : Nat := 0x0211
/-- Status FIRED (R177). -/
def stFired : Nat := 0x0212
/-- Status PENDING (R177). -/
def stPending : Nat := 0x0213
/-- Status NO_BAND_PLAN (R177). -/
def stNoBandPlan : Nat := 0x0310
/-- Status CARRIER_LIMIT (R177). -/
def stCarrierLimit : Nat := 0x0311
/-- Status REGULATORY (R177). -/
def stRegulatory : Nat := 0x0312
/-- Status POLL_LIMIT (R177). -/
def stPollLimit : Nat := 0x0410
/-- Status ADRIFT (R177). -/
def stAdrift : Nat := 0x0411
/-- Status DUPLICATE (R177). -/
def stDuplicate : Nat := 0x0510
/-- Status IMAGE_BAD (R177). -/
def stImageBad : Nat := 0x0511
/-- Status ROUTE_FULL (R177). -/
def stRouteFull : Nat := 0x0512
/-- Status SEQ_GAP (R177). -/
def stSeqGap : Nat := 0x0610
/-- Status DEFERRED (R177). -/
def stDeferred : Nat := 0x0611
/-- Status NO_SOLAR_EVENT (R177). -/
def stNoSolarEvent : Nat := 0x0710
/-- Status WAVE_LIMIT (R177). -/
def stWaveLimit : Nat := 0x0801
/-- Status GEOMETRY (R177). -/
def stGeometry : Nat := 0x0802
/-- Status CAL_RANGE (R177). -/
def stCalRange : Nat := 0x0901
/-- Status FEEDER_UNCONFIGURED (R177). -/
def stFeederUnconfigured : Nat := 0x0902
/-- Status FUNCTION_FAILED (R177). -/
def stFunctionFailed : Nat := 0x0A01
/-- Status DERATED (R177). -/
def stDerated : Nat := 0x0A02
/-- Status BUS_OFF (R177). -/
def stBusOff : Nat := 0x0B01
/-- Status CANCELLED (R177). -/
def stCancelled : Nat := 0x0B02
/-- Status LONE_NODE (R177). -/
def stLoneNode : Nat := 0x0B03
/-- Status FROZEN (R177). -/
def stFrozen : Nat := 0x0C01
/-- Status OVERWRITTEN (R177). -/
def stOverwritten : Nat := 0x0C02
/-- Status SLOT_STATE (R177). -/
def stSlotState : Nat := 0x0D01
/-- Status NOT_EXPORTABLE (R177). -/
def stNotExportable : Nat := 0x0D02
/-- Status NOT_VERIFIED (R177). -/
def stNotVerified : Nat := 0x0D03
/-- Status FUSE_EXHAUSTED (R177). -/
def stFuseExhausted : Nat := 0x0E01
/-- Status REMAP_FULL (R177). -/
def stRemapFull : Nat := 0x0E02
/-- Status NOT_WITHDRAWN (R177). -/
def stNotWithdrawn : Nat := 0x0E03
/-- Status ROLLBACK_FLOOR (R177). -/
def stRollbackFloor : Nat := 0x0F01
/-- Status MANIFEST (R177). -/
def stManifest : Nat := 0x0F02
/-- Status NO_IMAGE (R177). -/
def stNoImage : Nat := 0x0F03
/-- Status SAFE_STATE (R177). -/
def stSafeState : Nat := 0x1001

/-- A row of the opcode index (R178): home queue (none: any), the marks, and the lengths reserved. -/
structure OpRow where
  code : Nat
  home : Option Nat
  markS : Bool
  markA : Bool
  markN : Bool
  markR : Bool
  rsp : Nat
  ntf : Nat
  deriving DecidableEq, Repr, Inhabited

/-- Opcodes of class 0x01 (R178). -/
def opClass01 : List OpRow :=
  [
    ⟨0x0100, none, false, false, false, false, 4, 0⟩, -- SYS.NOP
    ⟨0x0101, some 1, false, false, false, false, 9, 0⟩, -- SYS.IDENT
    ⟨0x0102, some 1, false, false, false, false, 10, 0⟩, -- SYS.CAPS
    ⟨0x0103, some 1, false, false, false, false, 10, 0⟩, -- SYS.STATUS
    ⟨0x0104, some 3, false, false, false, false, 4, 0⟩, -- SYS.RESET
    ⟨0x0105, some 3, false, false, false, false, 4, 0⟩, -- SYS.SHELF
    ⟨0x0106, some 1, false, false, false, false, 4, 0⟩, -- SYS.WATCHDOG
    ⟨0x0107, some 1, false, false, false, false, 4, 0⟩, -- SYS.MODE
    ⟨0x0108, some 1, true, false, false, false, 6, 0⟩, -- SYS.POWER
    ⟨0x0109, some 1, false, false, false, false, 4, 0⟩, -- SYS.CFG_BEGIN
    ⟨0x010A, some 1, false, true, true, false, 4, 6⟩, -- SYS.CFG_COMMIT
    ⟨0x010B, some 1, false, false, false, false, 4, 0⟩, -- SYS.CFG_ABORT
    ⟨0x010C, some 1, false, false, false, false, 46, 0⟩, -- SYS.SETTINGS
    ⟨0x010D, some 3, false, false, false, false, 4, 0⟩ -- SYS.SETTINGS_RESET
  ]
/-- Opcodes of class 0x02 (R178). -/
def opClass02 : List OpRow :=
  [
    ⟨0x0201, some 1, false, false, false, false, 11, 0⟩, -- TT.STATUS
    ⟨0x0202, some 1, true, false, false, false, 4, 0⟩, -- TT.CONFIG
    ⟨0x0203, some 1, false, false, false, false, 7, 0⟩, -- TT.CONVERT
    ⟨0x0204, some 1, false, false, false, false, 260, 0⟩, -- TT.ANCHORS
    ⟨0x0205, some 1, false, false, false, false, 4, 0⟩, -- TT.ALARM
    ⟨0x0206, some 1, false, false, false, false, 4, 0⟩, -- TT.ALARM_CANCEL
    ⟨0x0207, some 1, false, false, false, false, 15, 0⟩, -- TT.QUEUE
    ⟨0x0220, some 1, false, false, false, false, 11, 0⟩, -- TT.RTC_STATUS
    ⟨0x0221, some 1, false, false, true, false, 7, 7⟩, -- TT.RTC_SET
    ⟨0x0222, some 1, false, false, false, false, 6, 0⟩, -- TT.RTC_FLAGS
    ⟨0x0223, some 1, true, false, false, false, 4, 0⟩, -- TT.RTC_TRIM
    ⟨0x0224, some 1, false, false, false, false, 19, 0⟩, -- TT.BRAM_READ
    ⟨0x0225, some 1, false, false, false, false, 4, 0⟩, -- TT.BRAM_WRITE
    ⟨0x0226, some 1, false, false, false, false, 4, 0⟩ -- TT.TAMPER_CONFIG
  ]
/-- Opcodes of class 0x03 (R178). -/
def opClass03 : List OpRow :=
  [
    ⟨0x0301, some 1, false, false, false, false, 140, 0⟩, -- RAD.STATUS
    ⟨0x0302, some 1, true, false, false, false, 4, 0⟩, -- RAD.BAND_PLAN
    ⟨0x0303, some 1, true, false, false, false, 4, 0⟩, -- RAD.FE_CONFIG
    ⟨0x0304, some 1, true, false, false, false, 4, 0⟩, -- RAD.ENGINE_CONFIG
    ⟨0x0305, some 1, false, false, false, false, 70, 0⟩, -- RAD.CAL_STATUS
    ⟨0x0306, some 3, false, false, true, false, 4, 12⟩, -- RAD.CAL_SWEEP
    ⟨0x0307, some 3, false, false, true, false, 4, 8⟩ -- RAD.TX_TEST
  ]
/-- Opcodes of class 0x04 (R178). -/
def opClass04 : List OpRow :=
  [
    ⟨0x0401, some 1, false, false, false, false, 36, 0⟩, -- MAC.ENGINE_STATUS
    ⟨0x0402, some 1, true, false, false, false, 4, 0⟩, -- MAC.BEACON_CONFIG
    ⟨0x0403, some 1, true, false, false, false, 4, 0⟩, -- MAC.SLEEPY_CONFIG
    ⟨0x0404, some 1, false, false, false, false, 12, 0⟩, -- MAC.LINK_STATE
    ⟨0x0405, some 1, false, false, true, false, 4, 8⟩ -- MAC.RAW_SEND
  ]
/-- Opcodes of class 0x05 (R178). -/
def opClass05 : List OpRow :=
  [
    ⟨0x0501, some 1, true, false, false, false, 4, 0⟩, -- LAT.ADD
    ⟨0x0502, some 1, true, false, false, false, 4, 0⟩, -- LAT.REMOVE
    ⟨0x0503, some 1, false, false, false, false, 35, 0⟩, -- LAT.READ
    ⟨0x0504, some 1, true, false, false, false, 4, 0⟩, -- LAT.UPDATE
    ⟨0x0505, some 1, false, false, false, false, 8, 0⟩, -- LAT.FIND
    ⟨0x0506, some 1, true, false, false, false, 4, 0⟩, -- LAT.JOIN_POLICY
    ⟨0x0507, some 1, true, false, false, false, 4, 0⟩, -- LAT.KEY_LOAD
    ⟨0x0508, some 1, false, false, false, false, 40, 0⟩, -- LAT.ROUTE_READ
    ⟨0x0509, some 2, false, false, false, false, 4, 0⟩, -- LAT.IMAGE_LOAD
    ⟨0x050A, some 1, false, false, true, false, 4, 12⟩, -- LAT.IMAGE_SEND
    ⟨0x050B, some 3, false, false, true, false, 4, 6⟩ -- LAT.CHECKPOINT
  ]
/-- Opcodes of class 0x06 (R178). -/
def opClass06 : List OpRow :=
  [
    ⟨0x0601, some 1, false, true, true, false, 4, 260⟩, -- TXN.SEND
    ⟨0x0602, some 1, false, true, true, false, 4, 8⟩, -- TXN.LEVEL
    ⟨0x0603, some 1, false, true, true, false, 4, 8⟩, -- TXN.GROUP_LEVEL
    ⟨0x0604, some 0, false, false, false, false, 4, 0⟩, -- TXN.CANCEL
    ⟨0x0605, some 1, false, false, false, false, 20, 0⟩, -- TXN.STATUS
    ⟨0x0606, some 1, true, false, false, false, 4, 0⟩, -- TXN.ORDER_MODE
    ⟨0x0607, some 1, true, false, false, false, 4, 0⟩ -- TXN.RETRY_POLICY
  ]
/-- Opcodes of class 0x07 (R178). -/
def opClass07 : List OpRow :=
  [
    ⟨0x0701, some 1, true, false, false, false, 4, 0⟩, -- SCH.GROUP_SET
    ⟨0x0702, some 2, true, false, false, false, 4, 0⟩, -- SCH.GROUP_MEMBERS
    ⟨0x0703, some 1, false, false, false, false, 1024, 0⟩, -- SCH.GROUP_READ
    ⟨0x0704, some 1, true, false, false, false, 4, 0⟩, -- SCH.ENTRY_SET
    ⟨0x0705, some 1, true, false, false, false, 4, 0⟩, -- SCH.ENTRY_CLEAR
    ⟨0x0706, some 1, false, false, false, false, 12, 0⟩, -- SCH.ENTRY_READ
    ⟨0x0707, some 1, true, false, false, false, 4, 0⟩, -- SCH.SITE
    ⟨0x0708, some 1, true, false, false, false, 4, 0⟩, -- SCH.TZ_RULE
    ⟨0x0709, some 1, true, false, false, false, 4, 0⟩, -- SCH.FALLBACK
    ⟨0x070A, some 1, false, false, false, false, 20, 0⟩ -- SCH.EVALUATE
  ]
/-- Opcodes of class 0x08 (R178). -/
def opClass08 : List OpRow :=
  [
    ⟨0x0801, some 2, true, false, false, false, 4, 0⟩, -- CHD.CORRIDOR_SET
    ⟨0x0802, some 1, true, false, false, false, 4, 0⟩, -- CHD.CORRIDOR_CLEAR
    ⟨0x0803, some 1, false, false, false, false, 1024, 0⟩, -- CHD.CORRIDOR_READ
    ⟨0x0804, some 1, true, false, false, false, 4, 0⟩, -- CHD.CONFIG
    ⟨0x0805, some 1, false, false, false, false, 1024, 0⟩, -- CHD.WAVES
    ⟨0x0806, some 1, false, true, false, false, 6, 0⟩ -- CHD.INJECT
  ]
/-- Opcodes of class 0x09 (R178). -/
def opClass09 : List OpRow :=
  [
    ⟨0x0901, some 1, true, false, false, false, 4, 0⟩, -- MTR.INPUT_CONFIG
    ⟨0x0902, some 1, true, false, false, false, 4, 0⟩, -- MTR.FEEDER_CONFIG
    ⟨0x0903, some 1, false, false, false, false, 100, 0⟩, -- MTR.READ
    ⟨0x0904, some 1, false, false, false, false, 1024, 0⟩, -- MTR.INTERVALS
    ⟨0x0905, some 1, true, false, false, false, 4, 0⟩, -- MTR.PULSE_CONFIG
    ⟨0x0906, some 3, false, true, true, false, 4, 20⟩, -- MTR.CALIBRATE
    ⟨0x0907, some 1, false, false, false, false, 40, 0⟩ -- MTR.BALANCE
  ]
/-- Opcodes of class 0x0A (R178). -/
def opClass0A : List OpRow :=
  [
    ⟨0x0A01, some 1, true, false, false, false, 4, 0⟩, -- SGN.STRING_CONFIG
    ⟨0x0A02, some 1, true, false, false, false, 4, 0⟩, -- SGN.FUNCTION
    ⟨0x0A03, some 2, false, false, false, false, 4, 0⟩, -- SGN.FRAME_LOAD
    ⟨0x0A04, some 1, false, true, false, false, 4, 0⟩, -- SGN.FLIP
    ⟨0x0A05, some 1, false, true, false, false, 4, 0⟩, -- SGN.LEVEL
    ⟨0x0A06, some 1, false, false, false, false, 40, 0⟩, -- SGN.STATUS
    ⟨0x0A07, some 1, true, false, false, false, 4, 0⟩ -- SGN.DERATE
  ]
/-- Opcodes of class 0x0B (R178). -/
def opClass0B : List OpRow :=
  [
    ⟨0x0B01, some 1, true, false, false, false, 4, 0⟩, -- CAN.CONFIG
    ⟨0x0B02, some 1, true, false, false, false, 4, 0⟩, -- CAN.BUFFER_CONFIG
    ⟨0x0B03, some 1, false, false, true, false, 4, 6⟩, -- CAN.SEND
    ⟨0x0B04, some 0, false, false, false, false, 4, 0⟩, -- CAN.CANCEL
    ⟨0x0B05, some 1, false, false, false, false, 22, 0⟩, -- CAN.READ
    ⟨0x0B06, some 1, false, false, false, false, 10, 0⟩, -- CAN.STATUS
    ⟨0x0B07, some 1, false, false, false, false, 4, 0⟩ -- CAN.RECOVER
  ]
/-- Opcodes of class 0x0C (R178). -/
def opClass0C : List OpRow :=
  [
    ⟨0x0C01, some 1, false, false, false, false, 30, 0⟩, -- LOG.STATUS
    ⟨0x0C02, some 2, false, false, false, false, 1024, 0⟩, -- LOG.READ
    ⟨0x0C03, some 1, false, false, false, false, 4, 0⟩, -- LOG.FREEZE
    ⟨0x0C04, some 1, false, false, false, false, 4, 0⟩, -- LOG.THAW
    ⟨0x0C05, some 1, true, false, false, false, 4, 0⟩, -- LOG.SEVERITY
    ⟨0x0C06, some 1, false, false, false, false, 4, 0⟩ -- LOG.APPEND
  ]
/-- Opcodes of class 0x0D (R178). -/
def opClass0D : List OpRow :=
  [
    ⟨0x0D01, some 1, false, false, true, false, 4, 8⟩, -- KEY.GENERATE
    ⟨0x0D02, some 1, false, false, false, false, 4, 0⟩, -- KEY.IMPORT
    ⟨0x0D03, some 1, false, false, false, false, 4, 0⟩, -- KEY.STAGE
    ⟨0x0D04, some 1, false, false, false, false, 4, 0⟩, -- KEY.VERIFY
    ⟨0x0D05, some 1, false, true, true, false, 4, 6⟩, -- KEY.COMMIT
    ⟨0x0D06, some 1, false, false, false, false, 64, 0⟩, -- KEY.ATTEST
    ⟨0x0D07, some 1, false, false, false, false, 12, 0⟩, -- KEY.INFO
    ⟨0x0D08, some 1, false, false, false, false, 4, 0⟩, -- KEY.DESTROY
    ⟨0x0D09, some 1, false, false, false, false, 4, 0⟩ -- KEY.WORLD_SET
  ]
/-- Opcodes of class 0x0E (R178). -/
def opClass0E : List OpRow :=
  [
    ⟨0x0E01, some 3, false, false, false, false, 40, 0⟩, -- MEM.STATUS
    ⟨0x0E02, some 3, false, false, false, false, 200, 0⟩, -- MEM.ERRORS
    ⟨0x0E03, some 3, false, false, false, false, 4, 0⟩, -- MEM.FLIP
    ⟨0x0E04, some 3, false, false, true, false, 4, 8⟩, -- MEM.REPAIR
    ⟨0x0E05, some 3, false, false, false, false, 4, 0⟩, -- MEM.SCRUB
    ⟨0x0E06, some 3, false, false, false, false, 4, 0⟩, -- MEM.WITHDRAW
    ⟨0x0E07, some 3, false, false, false, false, 4, 0⟩, -- MEM.RESTORE
    ⟨0x0E08, some 3, false, false, false, false, 20, 0⟩ -- MEM.ACTIVITY
  ]
/-- Opcodes of class 0x0F (R178). -/
def opClass0F : List OpRow :=
  [
    ⟨0x0F01, some 2, false, false, false, true, 4, 0⟩, -- UPD.BEGIN
    ⟨0x0F02, some 2, false, false, false, true, 4, 0⟩, -- UPD.CHUNK
    ⟨0x0F03, some 1, false, false, true, true, 4, 12⟩, -- UPD.VERIFY
    ⟨0x0F04, some 1, false, true, true, true, 4, 8⟩, -- UPD.ACTIVATE
    ⟨0x0F05, some 1, false, false, false, true, 40, 0⟩, -- UPD.STATUS
    ⟨0x0F06, some 3, false, false, true, false, 4, 6⟩, -- UPD.ROLLBACK
    ⟨0x0F07, some 1, false, false, false, true, 4, 0⟩ -- UPD.ABORT
  ]
/-- Opcodes of class 0x10 (R178). -/
def opClass10 : List OpRow :=
  [
    ⟨0x1001, some 1, true, false, false, false, 4, 0⟩, -- IO.DIN_CONFIG
    ⟨0x1002, some 1, false, false, false, false, 8, 0⟩, -- IO.DIN_READ
    ⟨0x1003, some 1, false, true, false, false, 4, 0⟩, -- IO.DOUT_SET
    ⟨0x1004, some 1, true, false, false, false, 4, 0⟩, -- IO.DOUT_CONFIG
    ⟨0x1005, some 1, false, false, false, false, 12, 0⟩ -- IO.STATUS
  ]

/-- The rows of a class of the opcode index. -/
def opClass (c : Nat) : List OpRow :=
  match c with
  | 0x01 => opClass01
  | 0x02 => opClass02
  | 0x03 => opClass03
  | 0x04 => opClass04
  | 0x05 => opClass05
  | 0x06 => opClass06
  | 0x07 => opClass07
  | 0x08 => opClass08
  | 0x09 => opClass09
  | 0x0A => opClass0A
  | 0x0B => opClass0B
  | 0x0C => opClass0C
  | 0x0D => opClass0D
  | 0x0E => opClass0E
  | 0x0F => opClass0F
  | 0x10 => opClass10
  | _ => []

/-- The row of an opcode; none: no such opcode exists (R178). -/
def opRow (code : Nat) : Option OpRow := (opClass (code / 256)).find? fun r => r.code == code

end Sys2Proof.Machine
end

