-- ==== Sys2Proof/Machine/StIo.lean ====
section
/-!
DEFINITION. State of cabinet I/O and of the two CAN FD controllers (13).
-/
namespace Sys2Proof.Machine

/-- A digital input's configuration (R394). -/
structure DinCfg where
  enable : Bool
  pol : Bool
  ntf : Bool
  deb : Nat
  stuckS : Nat
  chatWin : Nat
  chatMin : Nat
  deriving DecidableEq, Repr, Inhabited

/-- A digital input (R376 to R378). -/
structure Din where
  cfg : DinCfg
  /-- The last sample, 1 active, the run of equal samples that ends with it, and the TT of the run's first sample. -/
  raw : Bool
  run : Nat
  runTt : Nat
  /-- The qualified level. -/
  level : Bool
  valid : Bool
  edges : Nat
  stuck : Bool
  /-- TCXO tick since when it has been qualified active. -/
  activeTick : Nat
  chatCount : Nat
  chatter : Bool
  /-- k of the chatter window being counted. -/
  chatK : Nat
  deriving DecidableEq, Repr, Inhabited

/-- A digital output (R379 to R381). `safe`: 0 off, 1 on, 2 hold. -/
structure Dout where
  safe : Nat
  autoSafe : Bool
  /-- The last value commanded, and the value that rows 4 to 7 of R380 give. -/
  cmd : Bool
  out : Bool
  fault : Bool
  deriving DecidableEq, Repr, Inhabited

/-- A DOUT command that waits for its target, or whose outputs have yet to return (R381). -/
structure DoutCmd where
  mask : Nat
  value : Nat
  dur : Nat
  /-- Previous commanded values, and the outputs that return. -/
  prev : Nat
  back : Nat
  deriving DecidableEq, Repr, Inhabited

/-- A notification held back until a HANDOVER window closes (R377, R384) or BOOT ends: its ports, and the match buffer it empties. -/
structure HeldNtf where
  ports : Nat
  code : Nat
  src : Nat
  payload : List Word
  buf : Option (Nat × Nat)
  /-- The cycle in which it arose, for its header. -/
  cyc : Nat
  deriving DecidableEq, Repr, Inhabited

structure IoSt where
  din : List Din
  /-- TT of the last sample instant, and its index TT / 64. -/
  sampleTt : Nat
  sampleIdx : Option Nat
  dout : List Dout
  douts : Tbl DoutCmd
  nextDout : Nat
  held : List HeldNtf
  deriving DecidableEq, Repr, Inhabited

/-- A bit timing (R383). -/
structure CanTiming where
  brp : Nat
  ts1 : Nat
  ts2 : Nat
  sjw : Nat
  deriving DecidableEq, Repr, Inhabited

/-- A CAN port's configuration (CAN.CONFIG). -/
structure CanCfg where
  opmode : Nat
  fdEn : Bool
  tdcEn : Bool
  tdco : Nat
  nom : CanTiming
  data : CanTiming
  dwell : Nat
  deriving DecidableEq, Repr, Inhabited

/-- A frame to be sent (CAN.SEND). -/
structure CanTx where
  org : Origin
  ide : Bool
  fdf : Bool
  brs : Bool
  rtr : Bool
  dlc : Nat
  id : Nat
  data : List Word
  attempts : Nat
  ackErrs : Nat
  /-- TT at which it was placed. -/
  since : Nat
  /-- CAN.CANCELs that wait for the end of an attempt that has begun (R391). -/
  cancels : List Req
  deriving DecidableEq, Repr, Inhabited

/-- A buffer (R386). `kind`: 0 unused, 1 receive, 2 transmit. -/
structure CanBuf where
  kind : Nat
  ide : Bool
  ntf : Bool
  ports : Nat
  acceptRtr : Bool
  id : Nat
  mask : Nat
  frame : Option CanStored
  locked : Bool
  /-- Frames dropped at this buffer since its last read. -/
  dropped : Nat
  tx : Option CanTx
  deriving DecidableEq, Repr, Inhabited

/-- Bus states beyond the operating mode. -/
inductive CanBus where
  | on | off | recovering
  deriving DecidableEq, Repr, Inhabited

/-- The rate search of DETECT (R385): the candidate, since when, and what has been found. -/
structure CanDetect where
  cand : Nat
  since : Nat
  nom : Option CanTiming
  dataCand : Nat
  data : Option CanTiming
  found : Bool
  deriving DecidableEq, Repr, Inhabited

structure CanPort where
  cfg : CanCfg
  bufs : List CanBuf
  bus : CanBus
  tec : Nat
  rec_ : Nat
  lone : Bool
  ackRun : Nat
  detect : CanDetect
  sent : Nat
  received : Nat
  errFrames : Nat
  unmatched : Nat
  overruns : Nat
  /-- TCXO tick of the entry to bus-off, and the port whose CAN.RECOVER runs. -/
  offSince : Nat
  recoverPort : Fin 4
  deriving DecidableEq, Repr, Inhabited

end Sys2Proof.Machine
end

