-- ==== Sys2Proof/Machine/StWorld.lean ====
section
/-!
DEFINITION. State of worlds and of Ballast's withdrawals (15 R432 to R437, 17 R488 to R493), which every command's checks read.
-/
namespace Sys2Proof.Machine

/-- A world configuration (R432, R434): bit set is secure. Blocks 0x01 to 0x10 by number, engines CE0 to CE63, ports H1 to H3. -/
structure Worlds where
  blocks : Nat
  engines : Nat
  ports : Nat
  deriving DecidableEq, Repr, Inhabited

/-- A withdrawal of a block, or of a half of one, from service (R492). -/
structure Withdrawal where
  block : Nat
  half : Nat
  port : Fin 4
  limitS : Nat
  /-- The MEM.WITHDRAW that waits for its boundary, and the MEM.RESTOREs that wait for theirs (R492, R493). -/
  req : Option Req
  restores : List Req
  /-- It has taken effect (the rank 3 entry has fired). -/
  active : Bool
  /-- TCXO tick at which it took effect. -/
  since : Nat
  /-- It is a radio calibration sweep (R213), not a MEM.WITHDRAW. -/
  sweep : Bool
  /-- A restore has been requested and waits for its boundary. -/
  ending : Bool
  deriving DecidableEq, Repr, Inhabited

/-- A running instance of an activity (R488): the activity's code and the instance. -/
structure Activity where
  act : Nat
  inst : Nat
  deriving DecidableEq, Repr, Inhabited

/-- Ballast (R488 to R493). -/
structure Ballast where
  /-- Running instances, in the order in which they started. -/
  running : List Activity
  /-- Refused starts since BOOT of activities 1 to 10 (R498). -/
  refusals : List Nat
  /-- LAT_COMPACT and NAND_RECLAIM waiting (R489, R498). -/
  waitCompact : Bool
  waitReclaim : Bool
  /-- Version of the matrix in force, and its rows 1 to 10 as masks of the allowed activities (R490, R491). -/
  matrixVer : Nat
  matrix : List Nat
  withdrawals : List Withdrawal
  deriving DecidableEq, Repr, Inhabited

end Sys2Proof.Machine
end

