-- ==== Sys2Proof/Machine/StKey.lean ====
section
/-!
DEFINITION. State of the key store (15).
-/
namespace Sys2Proof.Machine

/-- States of a key slot (R427); a slot that is not listed is EMPTY. -/
inductive SlotSt where
  | empty | active | staged | verified | pending | overlap | lost
  deriving DecidableEq, Repr, Inhabited

/-- A commit that is posted (R423, R426): its original target cycle, the cycle of its entry in this BOOT, its place in posting order,
W, and the request to complete, if this BOOT took it. -/
structure KeyPend where
  target : Nat
  cyc : Nat
  order : Nat
  w : Nat
  org : Option Origin
  deriving DecidableEq, Repr, Inhabited

/-- A key slot (R419 to R428). A key is words whose first octet is in [31:24]: 4 for AES-128, 8 for AES-256 and for a P-256 private
key, 16 for a P-256 public key. -/
structure KeySlot where
  st : SlotSt
  usage : Nat
  alg : Nat
  origin : Nat
  exportable : Bool
  engines : Nat
  active : Option (List Word)
  prev : Option (List Word)
  shadow : Option (List Word)
  /-- Origin of the shadow. -/
  shadowOrigin : Nat
  gen : Nat
  vfail : Nat
  commitCyc : Nat
  commitSec : Nat
  overlapEnd : Nat
  /-- W of the overlap in progress (R426). -/
  w : Nat
  pend : Option KeyPend
  deriving DecidableEq, Repr, Inhabited

/-- A KEY.GENERATE in progress, and the TCXO tick of its start. -/
structure Generating where
  slot : Nat
  org : Origin
  since : Nat
  deriving DecidableEq, Repr, Inhabited

/-- A rewrap of the link keys under a slot (R425), and the TCXO tick of the commit. -/
structure Rewrap where
  slot : Nat
  since : Nat
  /-- The overlap window ended before the rewrap. -/
  extended : Bool
  deriving DecidableEq, Repr, Inhabited

structure Keys where
  /-- The world configuration in force (R434, R435). -/
  worlds : Worlds
  /-- The copies of the stored world configuration on the two NOR devices, with their write counts (R435). -/
  copy0 : Nat × Worlds
  copy1 : Nat × Worlds
  /-- A slot from 1 to 1,023 has been committed: the one-time fuse (R420, R423, R64). -/
  everCommitted : Bool
  /-- The debug lock's fuse, and whether the debug port is open now (R40). -/
  debugLock : Bool
  debugOpen : Bool
  /-- Slots 1 to 1,023 that are not EMPTY, by number. -/
  slots : Tbl KeySlot
  /-- Private key of the identity key pair of slot 0 (R417), fixed at manufacture. -/
  identity : List Word
  gens : List Generating
  rewraps : List Rewrap
  /-- Posting order of the next commit. -/
  nextOrder : Nat
  deriving DecidableEq, Repr, Inhabited

end Sys2Proof.Machine
end

