-- ==== Sys2Proof/Machine/StMac.lean ====
section
/-!
DEFINITION. State of the lower MAC: beacons, sleepy links, indirect queues, acknowledgements (08).
-/
namespace Sys2Proof.Machine

/-- MAC.BEACON_CONFIG of an engine. -/
structure BcnCfg where
  en : Bool
  sec : Nat
  pan : Nat
  short : Nat
  bp : Nat
  offset : Nat
  phase : Nat
  backup : Nat
  keySlot : Nat
  keyIdx : Nat
  window : Nat
  grpSlot : Nat
  grpIdx : Nat
  deriving DecidableEq, Repr, Inhabited

/-- MAC.SLEEPY_CONFIG of an engine. -/
structure SlpCfg where
  force : Bool
  defSp : Nat
  resyncSp : Nat
  pollMiss : Nat
  trainFail : Nat
  greetTries : Nat
  greetInt : Nat
  spread : Nat
  preamble : Nat
  deriving DecidableEq, Repr, Inhabited

/-- Link states (R245). -/
inductive LinkSt where
  | none | poll | tracked | adrift | resync | lost
  deriving DecidableEq, Repr, Inhabited

/-- The link of a sleepy endpoint (R239, R245). TT values in pu. -/
structure Link where
  st : LinkSt
  contactTt : Nat
  /-- Contact time less `ALIGN_AGE`. -/
  base : Nat
  /-- Phase 0 of the last zero crossing reported, and of the last one reported before HOLD was set (R240). -/
  zc : Option Nat
  zcClean : Option Nat
  alignSrc : Nat
  mains : Bool
  fails : Nat
  rounds : Nat
  /-- Cycle of the last authenticated frame, for polls and R232. -/
  heard : Nat
  rssi : Int
  snr : Int
  deriving DecidableEq, Repr, Inhabited

/-- A frame that waits for a sleepy endpoint (R225). -/
structure Indirect where
  ep : Nat
  src : FrameSrc
  octets : Nat
  ackReq : Bool
  /-- TCXO tick at which it was queued; cycle at which it expires. -/
  since : Nat
  until_ : Nat
  body : TxBody
  deriving DecidableEq, Repr, Inhabited

/-- A frame taken out of an indirect queue lately, for the instant of R225. -/
structure Gone where
  ep : Nat
  since : Nat
  until_ : Nat
  deriving DecidableEq, Repr, Inhabited

/-- An Enhanced ACK that is due (R223 to R225). -/
structure AckDue where
  /-- TCXO tick at which its SHR starts. -/
  at_ : Nat
  ep : Nat
  seq : Nat
  level : Nat
  pendingBit : Bool
  /-- The address that the acknowledged frame came from, and its group key index, if it was under the group key (R224). -/
  dst : Addr
  keyIdx : Option Nat
  deriving DecidableEq, Repr, Inhabited

/-- A frame sent with the ACK Request bit that waits for its answer (R223). -/
structure AckWait where
  frame : Frame
  /-- TCXO tick of the end of the frame. -/
  since : Nat
  deriving DecidableEq, Repr, Inhabited

/-- Counters of MAC.ENGINE_STATUS since BOOT. -/
structure MacCnt where
  bcnSent : Nat
  bcnBackup : Nat
  bcnMissed : Nat
  bcnCyc : Nat
  ackSent : Nat
  ackPending : Nat
  rxOk : Nat
  filtFormat : Nat
  filtAddr : Nat
  secKey : Nat
  secMic : Nat
  secReplay : Nat
  unknownSrc : Nat
  dataReq : Nat
  emptySent : Nat
  trainsUni : Nat
  trainsBc : Nat
  trainMs : Nat
  greetSent : Nat
  greetSkip : Nat
  trainFails : Nat
  unwraps : Nat
  /-- Frames of other network types discarded (R262). -/
  netOther : Nat
  gMax : Nat
  direct : Nat
  indirectExp : Nat
  deriving DecidableEq, Repr, Inhabited

/-- A link key in an engine's cache (R221): its endpoint, the wrapped words it came from, and the key. -/
structure CachedKey where
  ep : Nat
  wrapped : List Word
  key : List Word
  deriving DecidableEq, Repr, Inhabited

/-- What a frame is stamped with at the end of its PHR (R228, R229): nothing, the Tether IE of a beacon (sent as a greeting, or on the
backup channel), or the Ack IE. -/
inductive AirStamp where
  | plain | tether (greeting backup : Bool) | ack
  deriving DecidableEq, Repr, Inhabited

/-- The frame that an engine is sending: the TCXO ticks at which its carrier started and at which the PHR of the frame ends, its
sequence number, the octets before its IEs, its stamp, its other IEs and payload, and what secures it. -/
structure AirTx where
  start : Nat
  phr : Nat
  /-- Wake-up frames before it, and the ticks of each (R238), with their destination. -/
  wakes : Nat
  wakeTicks : Nat
  wakeDst : Nat
  seq : Nat
  head : List Nat
  stamp : AirStamp
  ies : List Nat
  payload : List Nat
  level : Nat
  counter : Nat
  key : List Word
  deriving DecidableEq, Repr, Inhabited

/-- A MAC.RAW_SEND in progress. -/
structure RawSend where
  id : Nat
  waitAck : Bool
  org : Origin
  /-- The octets of the frame, and the destination of its train (R249). -/
  psdu : List Nat
  trainDst : Nat
  /-- The train lasts as R241 has it. -/
  auto : Bool
  /-- TT at the end of the PHR, RSSI, SNR and octets of the ACK, on-air µs. -/
  phr : Nat
  airUs : Nat
  deriving DecidableEq, Repr, Inhabited

/-- The MAC of one engine. -/
structure MacEng where
  bcn : Option BcnCfg
  slp : Option SlpCfg
  /-- Cycle from which nominal starts count (R231), and the nominal start last dealt with. -/
  from_ : Nat
  lastStart : Option Nat
  /-- A period whose primary attempt has failed with M ≥ 3: its nominal start and outcome (R232). -/
  half : Option (Nat × Nat)
  misses : Nat
  /-- Outcome codes of the last misses, newest first, and the nominal start of the first. -/
  causes : List Nat
  firstMiss : Nat
  onBackup : Bool
  /-- Beacons sent on the backup channel since the loss. -/
  backups : Nat
  /-- A Beacon Request waits: its cycle; and the period in which an extra beacon was sent (R230). -/
  request : Option Nat
  extraIn : Option Nat
  /-- Greeting rounds (R244): the cycle at which the next is due, rounds so far, links answered since the last. -/
  greetAt : Option Nat
  /-- The greetings of this BOOT have not begun (R247). -/
  fresh : Bool
  greetRound : Nat
  answered : Nat
  indirect : List Indirect
  gone : List Gone
  ack : Option AckDue
  wait : Option AckWait
  /-- The next MAC sequence number. -/
  dsn : Nat
  raws : List RawSend
  /-- Key cache (R221), the most recently used first. -/
  cache : List CachedKey
  /-- The frame in the air or the last one, and the PSDU last sent, whole from the end of its PHR. -/
  air : Option AirTx
  sent : List Nat
  cnt : MacCnt
  /-- TCXO ticks between which the pending bitmap reads as all ones (R450). -/
  ones : Nat × Nat
  /-- Failures since the last EV_SEC_FAIL: key, MIC, counter. -/
  secSince : List Nat
  deriving DecidableEq, Repr, Inhabited

structure Mac where
  engs : List MacEng
  /-- Links by endpoint index. -/
  links : Tbl Link
  nextRaw : Nat
  /-- Lowest counters acceptable next under the group key and its previous one, by endpoint (R222). -/
  grpIn : Tbl (Nat × Nat)
  /-- The next outgoing counter under the key of a slot: group and beacon keys (R222). -/
  grpOut : Tbl Nat
  deriving DecidableEq, Repr, Inhabited

end Sys2Proof.Machine
end

