-- ==== Sys2Proof/Machine/StLattice.lean ====
section
/-!
DEFINITION. State of Lattice and the transaction engine (09).
-/
namespace Sys2Proof.Machine

/-- States of an endpoint record (R251). -/
inductive EpSt where
  | provisioned | active | orphan | removing
  deriving DecidableEq, Repr, Inhabited

/-- An endpoint record (R252); an index that is not listed is EMPTY. Keys are wrapped, six words; `keyCur` none: not loaded. -/
structure EpRec where
  st : EpSt
  router : Bool
  owner : Nat
  cls : Nat
  short : Nat
  eui : Nat
  engine : Nat
  sleepy : Nat
  mains : Bool
  viaRouter : Bool
  hops : Nat
  parent : Nat
  route : Nat
  sp : Nat
  pollInt : Nat
  eps : Nat
  secLevel : Nat
  prevValid : Bool
  kekSlot : Nat
  overlapEnd : Nat
  keyCur : Option (List Word)
  keyPrev : Option (List Word)
  inCur : Nat
  inPrev : Nat
  outCtr : Nat
  feeder : Nat
  line : Nat
  fwVer : Nat
  /-- Eight group slots, 0xFFF when empty. -/
  groups : List Nat
  energy : Nat
  energyCyc : Nat
  level : Nat
  tid : Nat
  fails : Nat
  heardCyc : Nat
  deriving DecidableEq, Repr, Inhabited

/-- States of a route (R265). -/
inductive RouteSt where
  | valid | suspect | broken
  deriving DecidableEq, Repr, Inhabited

/-- A route entry (R265); a route ID that is not listed is FREE. `hops` gives cost and router index, the engine side first. -/
structure Route where
  st : RouteSt
  engine : Nat
  last : Nat
  hops : List (Nat × Nat)
  alt : Nat
  users : Nat
  learnCyc : Nat
  okCyc : Nat
  fails : Nat
  reroutes : Nat
  /-- The primary route of its router, not the alternate (R265, R266). -/
  primary : Bool
  deriving DecidableEq, Repr, Inhabited

/-- The Lattice policy (R255). -/
structure JoinPolicy where
  permit : Nat
  duration : Nat
  engines : Nat
  classes : Nat
  imgSlot : Nat
  ckptH : Nat
  deriving DecidableEq, Repr, Inhabited

/-- An image in the cache (R282). -/
structure Image where
  words : List Word
  total : Nat
  /-- Verified: it may be sent. -/
  ok : Bool
  deriving DecidableEq, Repr, Inhabited

/-- Phases of an image distribution (R283). -/
inductive ImgPhase where
  | announce | blocks (next : Nat) | query (round : Nat) | repair (round : Nat) (left : List Nat) | verify | activate | done
  deriving DecidableEq, Repr, Inhabited

/-- A target of a distribution: blocks missing, and its report. -/
structure ImgTarget where
  ep : Nat
  missing : List Nat
  complete : Bool
  report : Option Nat
  deriving DecidableEq, Repr, Inhabited

/-- An image distribution (LAT.IMAGE_SEND). -/
structure ImgSend where
  slot : Nat
  activate : Bool
  actDelay : Nat
  group : Nat
  block : Nat
  rounds : Nat
  spread : Nat
  phase : ImgPhase
  /-- Cycle at which the phase may go on. -/
  at_ : Nat
  targets : List ImgTarget
  /-- Blocks sent, repair rounds begun, activation cycle. -/
  sent : Nat
  used : Nat
  actCyc : Nat
  org : Origin
  deriving DecidableEq, Repr, Inhabited

/-- The reservation, snapshot and journal of the counters (R260, R286). -/
structure CtrStore where
  ceilings : Tbl Nat
  /-- A ceiling whose write is not confirmed. -/
  pend : Tbl Nat
  snapshot : Tbl (Nat × Nat)
  /-- Pages written since the snapshot, each a list of (index, key, `IN`). -/
  pages : List (List (Nat × Nat × Nat))
  openPage : List (Nat × Nat × Nat)
  openCyc : Nat
  deriving DecidableEq, Repr, Inhabited

/-- A checkpoint in progress: on demand (LAT.CHECKPOINT), or in the background (no origin). -/
structure Ckpt where
  org : Option Origin
  /-- TCXO tick of its start, cycle of the consistency point, and the records at it. -/
  start : Nat
  cyc : Nat
  snap : Tbl EpRec
  deriving DecidableEq, Repr, Inhabited

/-- Kinds of a module-initiated transaction (R268). -/
inductive TxnKind where
  | send | level | member (group : Nat) | schedule | chord | joinRsp (rejoin : Bool) | modeGrant | membership | leave (port : Fin 4) | image
  deriving DecidableEq, Repr, Inhabited

/-- States of a transaction that is not DONE (R269). -/
inductive TxnSt where
  | queued | held | deferred | sent | await | backoff
  deriving DecidableEq, Repr, Inhabited

/-- A module-initiated transaction (R268 to R278). Cycles and TT as numbers. -/
structure Txn where
  id : Nat
  kind : TxnKind
  ep : Nat
  org : Option Origin
  query : Bool
  strict : Bool
  /-- `OP` and payload octets. -/
  app : List Nat
  target : Option Nat
  deadline : Nat
  /-- It was taken under `MODE` 1 (R276). -/
  compat : Bool
  st : TxnSt
  attempts : Nat
  tid : Nat
  cancelled : Bool
  route : Option Nat
  /-- Cycle at which the wait of its state ends. -/
  until_ : Nat
  hops : Nat
  deriving DecidableEq, Repr, Inhabited

/-- A group message in native ordering (R273), or the group command of compatibility ordering (R276). -/
structure GroupMsg where
  id : Nat
  group : Nat
  app : List Nat
  org : Option Origin
  compat : Bool
  strict : Bool
  target : Option Nat
  deadline : Nat
  repeat_ : Nat
  sent : Nat
  /-- Cycle of the next repetition. -/
  at_ : Nat
  members : Nat
  confirmed : Nat
  failed : Nat
  engines : List Nat
  /-- Frames of the last repetition still in transmit buffers. -/
  out : Nat
  /-- A broadcast of the schedule engine, which Chord compensates (R322). -/
  sched : Bool
  /-- `SCOPE` of its Group IE (R295). -/
  scope : Nat
  deriving DecidableEq, Repr, Inhabited

/-- A command held for its sequence number (R274). -/
structure SeqHeld where
  req : Req
  /-- Cycle of its take. -/
  cyc : Nat
  /-- Taken under compatibility ordering (R276). -/
  compat : Bool
  /-- Cycle of its take + `LEAD` (R276). -/
  lead : Nat
  deriving DecidableEq, Repr, Inhabited

/-- TXN.RETRY_POLICY. -/
structure RetryPolicy where
  maxTries : Nat
  rerouteAfter : Nat
  backoff : Nat
  deadline : Nat
  lead : Nat
  repeat_ : Nat
  hopBudget : Nat
  deriving DecidableEq, Repr, Inhabited

structure Lattice where
  recs : Tbl EpRec
  routes : Tbl Route
  policy : JoinPolicy
  /-- TCXO tick at which `PERMIT` becomes 2. -/
  permitEnd : Option Nat
  /-- The policy with `PERMIT` as stored by the command. -/
  images : Tbl Image
  sends : List ImgSend
  /-- The LATTICE partition: records as written, with the volatile fields of the last checkpoint; counters. -/
  nand : Tbl EpRec
  ctr : CtrStore
  ckpt : Option Ckpt
  /-- TCXO tick of the last background checkpoint. -/
  ckptTick : Nat
  /-- Record pages superseded since the last compaction, for LAT_COMPACT (R488). -/
  superseded : Nat
  floodSeq : Nat
  /-- The transaction journal of R48 step 6: an endpoint for each control transaction in it. -/
  journal : List Nat
  /-- Endpoints with a control transaction when the module was reset (R287). -/
  unsettled : List Nat
  deriving DecidableEq, Repr, Inhabited

/-- A transaction of the module's own that the limit of R268 does not leave room for yet. -/
structure TxnWait where
  kind : TxnKind
  ep : Nat
  app : List Nat
  target : Option Nat
  deriving DecidableEq, Repr, Inhabited

/-- The transaction engine. -/
structure TxnEng where
  txns : List Txn
  /-- Transactions of the module's own that wait for room (R268), oldest first. -/
  waits : List TxnWait
  groups : List GroupMsg
  nextId : Nat
  /-- `MODE`, `SEQ_WAIT` as stored, none for the default (R39, R290). -/
  mode : Option Nat
  seqWait : Nat
  retry : RetryPolicy
  /-- Expected sequence number E and commands held, by port (R274). -/
  expect : Quad Nat
  seqHeld : Quad (List SeqHeld)
  peak : Nat
  okCnt : Nat
  abandoned : Nat
  otherEnd : Nat
  attempts : Nat
  reroutes : Nat
  /-- Transactions counted in the current and the last 1,024 cycles: module-initiated, endpoint-initiated (TXN.STATUS). -/
  window : Nat
  modNow : Nat
  epNow : Nat
  modLast : Nat
  epLast : Nat
  /-- Target last applied by endpoint (R277). -/
  lastTarget : Tbl Nat
  /-- Counts of EV_TXN_ABANDONED by cause 1 to 5 since its last record. -/
  causes : List Nat
  deriving DecidableEq, Repr, Inhabited

end Sys2Proof.Machine
end

