-- ==== Sys2Proof/Machine/StMem.lean ====
section
/-!
DEFINITION. State of memory integrity (16).
-/
namespace Sys2Proof.Machine

/-- An entry of a memory's address table (R445). -/
structure MemEntry where
  addr : Nat
  /-- Bit of the last correction, 0xFF for an uncorrectable error. -/
  bit : Nat
  count : Nat
  first : Nat
  last : Nat
  /-- A repair candidate (R447); an uncorrectable error has been detected. -/
  cand : Bool
  ue : Bool
  deriving DecidableEq, Repr, Inhabited

/-- A field repair of a memory: `KIND` and address, and whether it is in force (R457). -/
structure Repair where
  kind : Nat
  addr : Nat
  applied : Bool
  deriving DecidableEq, Repr, Inhabited

/-- What is kept of one memory (R442, R445, R446, R455 to R457). `rows` counts spare rows or remap words left. -/
structure MemState where
  ce : Nat
  ue : Nat
  table : List MemEntry
  ovf : Bool
  rows : Nat
  cols : Nat
  repairs : List Repair
  deriving DecidableEq, Repr, Inhabited

/-- An entry of the retirement list (R460): page, cause, and whether both NOR devices hold it. -/
structure Retired where
  page : Nat
  cause : Nat
  stored : Bool
  deriving DecidableEq, Repr, Inhabited

/-- A flip armed by MEM.FLIP (R452, R453). -/
structure FlipArm where
  count : Nat
  target : Nat
  b0 : Nat
  b1 : Nat
  region : Nat
  port : Fin 4
  /-- TCXO tick of the arming. -/
  since : Nat
  deriving DecidableEq, Repr, Inhabited

/-- A MEM.REPAIR in progress. -/
structure RepairRun where
  org : Origin
  mem : Nat
  kind : Nat
  addr : Nat
  since : Nat
  deriving DecidableEq, Repr, Inhabited

structure MemInt where
  /-- Memories 0x00 to 0x0F. -/
  mems : List MemState
  /-- MEM.SCRUB. -/
  scrubH : Nat
  retireAt : Nat
  repairAt : Nat
  high : Bool
  /-- TCXO tick at which the high-rate pass began. -/
  highSince : Nat
  /-- Words of DRAM the patrol has read in this pass, and errors found in it. -/
  passAt : Nat
  passErrs : Nat
  passes : Nat
  passCyc : Nat
  flip : Option FlipArm
  /-- `FLIP_MASK` as last written, bits [30:6], and `RESULT`. -/
  flipMask : Nat
  flipResult : Nat
  flips : Nat
  /-- Detections of injected errors (R453): corrected, uncorrectable. -/
  testCe : Nat
  testUe : Nat
  /-- Field fuse entries left (R455). -/
  fieldLeft : Nat
  retired : List Retired
  fullLogged : Bool
  runs : List RepairRun
  nandSpare : Nat
  nandBad : Nat
  nandErase : Nat
  bchMax : Nat
  spareLow : Bool
  /-- Spare sectors left on each NOR device (R465). -/
  norSpare0 : Nat
  norSpare1 : Nat
  deriving DecidableEq, Repr, Inhabited

end Sys2Proof.Machine
end

