-- ==== Sys2Proof/Machine/StMeter.lean ====
section
/-!
DEFINITION. State of feeder metering (11).
-/
namespace Sys2Proof.Machine

/-- A modulator input (R327, R329). `osr` is the code of the oversampling ratio. -/
structure MtrInput where
  enable : Bool
  lvds : Bool
  manch : Bool
  clk : Nat
  edge : Bool
  delay : Nat
  osr : Nat
  deriving DecidableEq, Repr, Inhabited

/-- A modulator clock (R328). -/
structure MtrClock where
  enable : Bool
  lvds : Bool
  div : Nat
  deriving DecidableEq, Repr, Inhabited

/-- The global settings of MTR.INPUT_CONFIG. -/
structure MtrGlobal where
  intMin : Nat
  saveMin : Nat
  balDelay : Nat
  deriving DecidableEq, Repr, Inhabited

/-- A feeder's configuration (R330, R352). -/
structure FeederCfg where
  enable : Bool
  neutral : Bool
  /-- Inputs of V1 to V3 and of I1 to I3. -/
  v : List Nat
  i : List Nat
  inN : Nat
  vFs : Nat
  iFs : Nat
  pRated : Nat
  loss : Nat
  tolRel : Nat
  tolAbs : Nat
  covMin : Nat
  deriving DecidableEq, Repr, Inhabited

/-- The coefficients of one phase (R338): gains in 0.001 %, phase in 0.001°. -/
structure Coef where
  vGain : Int
  iGain : Int
  phase : Int
  deriving DecidableEq, Repr, Inhabited

/-- Energy registers of a phase or of the total (R333, R334): active import and export, reactive positive and negative, apparent,
each in the model's finest unit, so that every sub-µ remainder is carried. -/
structure Energies where
  ai : Nat
  ae : Nat
  rp : Nat
  rn : Nat
  ap : Nat
  deriving DecidableEq, Repr, Inhabited

/-- One phase's registers, counts and last cycle. -/
structure PhaseReg where
  e : Energies
  impCyc : Nat
  expCyc : Nat
  /-- Mean squares of the last cycle and its active energy: V_rms in mV, I_rms in mA, P in mW. -/
  vMv : Nat
  iMa : Nat
  pMw : Int
  /-- Consecutive cycles with low voltage, and a phase loss in force. -/
  lowRun : Nat
  lossOn : Bool
  deriving DecidableEq, Repr, Inhabited

/-- An open interval of a feeder (R339, R340). -/
structure Interval where
  /-- k of the interval to which its first cycle belongs, under the length in force. -/
  k : Nat
  intMin : Nat
  startSec : Nat
  startCyc : Nat
  quality : Nat
  cycles : Nat
  /-- The total registers at its start. -/
  start : Energies
  deriving DecidableEq, Repr, Inhabited

/-- A closed interval kept for the balance (R349, R350). -/
structure Closed where
  seq : Nat
  startSec : Nat
  quality : Nat
  intMin : Nat
  cyc0 : Nat
  cyc1 : Nat
  /-- AI − AE in mWh. -/
  net : Int
  deriving DecidableEq, Repr, Inhabited

/-- The latest balance result of a feeder (MTR.BALANCE). -/
structure Balance where
  result : Nat
  quality : Nat
  seq : Nat
  startSec : Nat
  ef : Int
  eEst : Int
  d : Int
  nAll : Nat
  nCov : Nat
  tol : Int
  deriving DecidableEq, Repr, Inhabited

/-- A calibration accepted and not completed (R338). -/
structure CalRun where
  org : Origin
  word3 : Word
  mode : Nat
  phase : Nat
  coef : Coef
  /-- First cycle with the new coefficients, or of the measurement. -/
  target : Nat
  n : Nat
  /-- Cycles measured and their sums. -/
  done : Nat
  p : Int
  q : Int
  vSum : Nat
  iSum : Nat
  deriving DecidableEq, Repr, Inhabited

/-- One feeder. -/
structure Feeder where
  cfg : FeederCfg
  coef : List Coef
  ph : List PhaseReg
  total : Energies
  inMa : Nat
  interval : Option Interval
  /-- Flags with which the open interval has to close at the next occasion (R339); 0: none. -/
  closeFlags : Nat
  cal : Option CalRun
  /-- The cycle from which new coefficients hold, until its interval carries `CAL` (R338). -/
  calMark : Option Nat
  /-- Closed intervals, newest first. -/
  closed : List Closed
  balance : Option Balance
  deriving DecidableEq, Repr, Inhabited

/-- A pulse output (R342, R343). -/
structure PulseOut where
  enable : Bool
  feeder : Nat
  phase : Nat
  quantity : Nat
  const : Nat
  width : Nat
  /-- The accumulator, in the finest unit times `CONST`. -/
  acc : Nat
  owed : Nat
  /-- Width of the pulses of this cycle, in TCXO ticks. -/
  w : Nat
  /-- The last pulse ends and its low time ends at these ticks. -/
  highTo : Nat
  lowTo : Nat
  deriving DecidableEq, Repr, Inhabited

/-- A save of the METER partition (R344). -/
structure MtrSave where
  seq : Nat
  feeders : List (List PhaseReg × Energies × Option Interval)
  owed : List Nat
  cyc : Nat
  epoch : Nat
  sec : Nat
  frac : Nat
  flags : Nat
  deriving DecidableEq, Repr, Inhabited

structure Meter where
  inputs : List MtrInput
  clocks : List MtrClock
  global : MtrGlobal
  feeders : List Feeder
  pulses : List PulseOut
  /-- Inputs in fault (R335). -/
  faults : Nat
  /-- The boundary up to which cycles are integrated; none before the first whole cycle. -/
  cyc : Option Nat
  /-- RTC latched at that boundary: seconds, fraction, flags (R339), and the TCXO tick. -/
  latch : Nat × Nat × Nat
  tick : Nat
  /-- RTC commits of this BOOT already served by a close. -/
  stepSeen : Nat
  nextSeq : Nat
  /-- Records cut and not yet written, and the ring of interval records, oldest first. -/
  cut : List (List Word)
  ring : List (List Word)
  /-- Confirmed saves, newest first; the save slot to be written next. -/
  saves : List MtrSave
  saveSlot : Nat
  saveSeq : Nat
  lastSave : Nat
  /-- A save is wanted at once, and a retry is due at a tick (R344, R346). -/
  saveDue : Bool
  retryAt : Option Nat
  /-- The save the residue continues: its `SAVE_SEQ`, its total import and export registers, and the boundaries since. -/
  baseSeq : Nat
  base : List (Nat × Nat)
  baseN : Nat
  /-- A save has been confirmed since the last boundary. -/
  rebase : Bool
  /-- Owed pulses that a reset discarded, by output, to be logged (R343). -/
  owedLost : List Nat
  /-- An uncorrectable error has spoilt the cycle in progress (R449), or the metering state, which is restored at the next boundary
  (R450). -/
  discard : Bool
  reload : Bool
  /-- Reports of the endpoints for the balance, oldest first: cycle and `ENERGY` (R349). -/
  reports : Tbl (List (Nat × Nat))
  deriving DecidableEq, Repr, Inhabited

end Sys2Proof.Machine
end

