-- ==== Sys2Proof/Machine/StPower.lean ====
section
/-!
DEFINITION. State of the part itself, of its clocks, and of supply, power loss, modes and resets (01, 02).
-/
namespace Sys2Proof.Machine

/-- The three variants (00_scope, "Variants"). -/
inductive Variant where
  | a | b | c
  deriving DecidableEq, Repr, Inhabited

/-- What one part fixes at manufacture (R43, R176). -/
structure Device where
  variant : Variant
  /-- Module EUI-64 (SYS.IDENT). -/
  eui : Nat
  /-- Thresholds of R43, in 10 mV, within the ranges of its table. -/
  vinOn : Nat
  vinOff : Nat
  pfwHyst : Nat
  /-- Public part of the Miolhan update key in the ROM of the secure pair (R473): 16 words. -/
  updateKey : List Word
  deriving DecidableEq, Repr, Inhabited

/-- The oscillators' time. `ticks` counts 25 ns ticks of the TCXO (R71); the accumulators carry the parts of a
phase unit and of a crystal tick not yet counted. -/
structure Clock where
  ticks : Nat
  ttAcc : Nat
  rtcAcc : Nat
  /-- Crystal ticks counted (the RTC's and the tamper inputs' time base). -/
  xtal : Nat
  /-- The model's own: a counter that every free value of the spec reads and advances. -/
  free : Nat
  deriving DecidableEq, Repr, Inhabited

/-- The eight modes of R61, by code. -/
inductive Mode where
  | shelf | keep | boot | commission | run | degraded | service | handover
  deriving DecidableEq, Repr, Inhabited

/-- How far BOOT has come (the steps of the BOOT table): `off` unpowered, `inReset` RESET_N low, `rails` step 1,
`phase` step 2, `fuses` step 3, `secure` step 4, `verify` step 5, `load` step 6, `restore` step 7, `finish` step 8,
`done` after BOOT, `halted` by R59. -/
inductive BootStep where
  | off | inReset | rails | phase | fuses | secure | verify | load | restore | finish | done | halted
  deriving DecidableEq, Repr, Inhabited

/-- The flush sequence and its wait (R48, R49). -/
structure Flush where
  /-- The `PFW` flag: set from the assertion until one of the three outcomes. -/
  pfw : Bool
  /-- The last step completed, 0 to 7. -/
  step : Nat
  /-- TCXO tick of the assertion. -/
  since : Nat
  deriving DecidableEq, Repr, Inhabited

/-- Supply, straps, modes and resets. -/
structure Power where
  /-- The level of the pin VIN, 10 mV: each row that carries VIN tells it, PFW_ABORT also where it has no other effect. -/
  vin : Nat
  /-- Internal rails good; PGOOD released (R44). -/
  pgood : Bool
  /-- V33_AUX on (R27). -/
  v33aux : Bool
  /-- PFW_N pad level: true is released (R46). -/
  pfwN : Bool
  /-- VIOH at or above 1.6 V (R28). -/
  viohGood : Bool
  /-- RESET_N held low (R54). -/
  resetLow : Bool
  bootStep : BootStep
  mode : Mode
  /-- Sampled strap word (R37, R39). -/
  straps : BitVec 8
  /-- `PFW_THRESHOLD` stored in settings set 0xFF, in 0.1 V; none: the strap default (R45). -/
  pfwStored : Option Nat
  /-- V_PFW_EFF, in 0.1 V (R45). -/
  vPfwEff : Nat
  /-- TCXO tick since when VIN can have stayed at or above `PFW_THRESHOLD` + 0.5 V: the last setting of V_PFW_EFF, or the last time VIN
  was seen below it (R45). -/
  pfwOkSince : Option Nat
  flush : Flush
  /-- The clean-shutdown mark: the last step it names (R48, R50); none: no mark. -/
  mark : Option Nat
  /-- Reset cause of the current BOOT (R55). -/
  cause : Nat
  /-- The power-up cause kept across a RESET_N interruption of the BOOT it began (R56). -/
  puCause : Option Nat
  /-- Flags of the boot notification, word 4 [31:24] (R165). -/
  bootFlags : Nat
  /-- DRAM was sealed at the warm reset (R57). -/
  sealed : Bool
  /-- The shelf latch (R56, R64). -/
  shelfArmed : Bool
  /-- This power-up found the shelf latch armed (R56, R64). -/
  fromShelf : Bool
  /-- The commissioned flag, stored (R60, R63). -/
  commissioned : Bool
  /-- The condition flags AUTONOMOUS and BOOT_HALT; HOLD and SLEW are Tether's, PFW is the flush's (R61). -/
  autonomous : Bool
  bootHalt : Bool
  /-- Warm reset scheduled by SYS.RESET: TCXO tick at which it begins (R176). -/
  resetAt : Option Nat
  /-- Cycle at the end of BOOT, for `UPTIME` (R176). -/
  bootEndCyc : Nat
  deriving DecidableEq, Repr, Inhabited

/-- One port's watchdog (R68, R69). -/
structure Watchdog where
  /-- Stored timeout in s, settings set 0xFF. -/
  timeout : Nat
  running : Bool
  expired : Bool
  /-- TCXO tick at which it expires. -/
  deadline : Nat
  deriving DecidableEq, Repr, Inhabited

end Sys2Proof.Machine
end

