-- ==== Sys2Proof/Machine/StSched.lean ====
section
/-!
DEFINITION. State of the schedule engine and of Chord (10).
-/
namespace Sys2Proof.Machine

/-- A group's fields (R292); a group that is not listed has the defaults. -/
structure Group where
  owner : Nat
  level : Nat
  deriving DecidableEq, Repr, Inhabited

/-- A schedule entry: the words E0 to E7 (R300), and its lux gate (R302). -/
structure SchEntry where
  words : List Word
  gateOpen : Bool
  deriving DecidableEq, Repr, Inhabited

/-- A transition rule (R297): `month` 0 is none. -/
structure DstRule where
  month : Nat
  week : Nat
  weekday : Nat
  minute : Nat
  utc : Bool
  deriving DecidableEq, Repr, Inhabited

/-- A time-zone rule (R297); offsets in minutes. -/
structure TzRule where
  validFrom : Nat
  std : Int
  delta : Nat
  start : DstRule
  stop : DstRule
  deriving DecidableEq, Repr, Inhabited

/-- SCH.SITE: µdeg, 0.01°, cyc, s. -/
structure Site where
  lat : Int
  lon : Int
  h0 : Int
  lead : Nat
  luxAge : Nat
  deriving DecidableEq, Repr, Inhabited

/-- SCH.FALLBACK (R309). -/
structure Fallback where
  dusk : Nat
  night : Nat
  luxGroup : Nat
  onOff : Int
  offOff : Int
  nightFrom : Nat
  nightTo : Nat
  luxOn : Nat
  luxOff : Nat
  fade : Nat
  deriving DecidableEq, Repr, Inhabited

/-- The latest lux report of an endpoint (R302): CYCLE and TCXO tick of its receipt. -/
structure LuxRep where
  lux : Nat
  cyc : Nat
  tick : Nat
  deriving DecidableEq, Repr, Inhabited

/-- What was last decided for a group (R305, R306): its level, the winning entry and its fade. -/
structure Decided where
  level : Nat
  winner : Option Nat
  fade : Nat
  deriving DecidableEq, Repr, Inhabited

/-- What the schedule engine does (R311): nothing decided, the table, the fallback program, withdrawn. -/
inductive SchRun where
  | idle | table | fallback | out
  deriving DecidableEq, Repr, Inhabited

/-- A change decided under HOLD that is sent later without a target (R306): its cycle, group, level, fade, `SCOPE`. -/
structure SchLater where
  at_ : Nat
  group : Nat
  level : Nat
  fade : Nat
  scope : Nat
  deriving DecidableEq, Repr, Inhabited

structure Sched where
  groups : Tbl Group
  entries : Tbl SchEntry
  site : Option Site
  tz : Tbl TzRule
  fallback : Option Fallback
  /-- Lux reports by endpoint. -/
  lux : Tbl LuxRep
  run : SchRun
  /-- Levels last decided, by group; 4,095 among them. -/
  decided : Tbl Decided
  /-- The last cycle at which levels were decided (R306). -/
  lastCyc : Nat
  /-- A changed site or time-zone rule waits for its resync (R307). -/
  resync : Bool
  /-- The fallback level last decided, and its gate (R309). -/
  fbLevel : Nat
  fbGate : Bool
  /-- Groups whose lack of a lux report has been logged (R302). -/
  stale : List Nat
  /-- The rule in force and whether daylight saving was in effect when last seen (R297). -/
  tzSeen : Option (Option Nat × Bool)
  /-- Entries and dates whose empty window has been logged (R301); 0xFFFF for the fallback program. -/
  solarSeen : List (Nat × Int)
  later : List SchLater
  deriving DecidableEq, Repr, Inhabited

/-- A sensor of a corridor (R312). -/
structure ChdSensor where
  flip : Bool
  ep : Nat
  pos : Nat
  deriving DecidableEq, Repr, Inhabited

/-- A lantern of a corridor. -/
structure ChdLantern where
  ep : Nat
  pos : Nat
  deriving DecidableEq, Repr, Inhabited

/-- A corridor (R312). -/
structure Corridor where
  owner : Nat
  enable : Bool
  dirMask : Nat
  gate : Bool
  gateGroup : Nat
  lit : Nat
  length : Nat
  mergeGap : Nat
  ahead : Nat
  behind : Nat
  hold : Nat
  fadeUp : Nat
  fadeDown : Nat
  vDefault : Nat
  vMin : Nat
  vMax : Nat
  sensors : List ChdSensor
  lanterns : List ChdLantern
  deriving DecidableEq, Repr, Inhabited

/-- A wave (R316): its anchor position, instant (TT in pu) and speed. -/
structure Wave where
  traffic : Bool
  /-- Towards decreasing position. -/
  down : Bool
  injected : Bool
  corridor : Nat
  pos : Nat
  speed : Nat
  anchor : Nat
  source : Nat
  endCyc : Nat
  merges : Nat
  issued : Nat
  deriving DecidableEq, Repr, Inhabited

/-- A change of level that Chord has issued to a lantern (R321): target cycle, level, fade, the corridor that gives it (none: the base
level), and its transaction; none while HOLD makes it wait for the cycle before its target (R306). -/
structure Issued where
  target : Nat
  level : Nat
  fade : Nat
  corridor : Option Nat
  txn : Option Nat
  deriving DecidableEq, Repr, Inhabited

/-- A corridor image that is being loaded (CHD.CORRIDOR_SET). -/
structure ChdLoad where
  port : Nat
  corridor : Nat
  total : Nat
  words : List Word
  deriving DecidableEq, Repr, Inhabited

structure Chord where
  corridors : Tbl Corridor
  /-- CHD.CONFIG: `E`, `CHD_LEAD`, `FWD_CYC`, enabled. -/
  every : Nat
  lead : Nat
  fwd : Nat
  on : Bool
  waves : Tbl Wave
  /-- Changes issued by lantern, in the order of their targets. -/
  issued : Tbl (List Issued)
  loads : List ChdLoad
  lastEval : Nat
  /-- Detections counted and discarded in COMMISSION (R311). -/
  discarded : Nat
  deriving DecidableEq, Repr, Inhabited

end Sys2Proof.Machine
end

