-- ==== Sys2Proof/Machine/StSign.lean ====
section
/-!
DEFINITION. State of the sign and beacon drive (12).
-/
namespace Sys2Proof.Machine

/-- A string's configuration (R355, R373). `colour`: 0 none, 1 R, 2 G, 3 B; `ntc`: 0 none, 1 NTC0, 2 NTC1. -/
structure StringCfg where
  enable : Bool
  iSet : Nat
  mohm : Nat
  colour : Nat
  ntc : Nat
  deriving DecidableEq, Repr, Inhabited

/-- An indicator sink's configuration (R357). -/
structure SinkCfg where
  enable : Bool
  iSet : Nat
  ntc : Nat
  deriving DecidableEq, Repr, Inhabited

/-- The matrix configuration (R365 to R367). -/
structure MatrixCfg where
  enable : Bool
  len : Nat
  div : Nat
  refresh : Nat
  syncTimeout : Nat
  ntc : Nat
  syncPol : Bool
  deriving DecidableEq, Repr, Inhabited

/-- The light sensor's configuration (R368). -/
structure SensorCfg where
  enable : Bool
  addr : Nat
  fast : Bool
  reg : Nat
  initReg : Nat
  initVal : Nat
  cyc : Nat
  learn : Bool
  deriving DecidableEq, Repr, Inhabited

/-- An NTC's derating curve (SGN.DERATE). -/
structure DerateCfg where
  enable : Bool
  r25 : Nat
  beta : Nat
  knee : Int
  off : Int
  slope : Nat
  fMin : Nat
  deriving DecidableEq, Repr, Inhabited

/-- A defined function (R358). Members: strings in bits 0 to 15, sinks in bits 16 to 23, the matrix in bit 24. -/
structure SgnFn where
  members : Nat
  on : Nat
  off : Nat
  offset : Nat
  cut : Nat
  deriving DecidableEq, Repr, Inhabited

/-- A latched function of the failure record (R361, R363): faulty members as masks like `members`. -/
structure Failed where
  members : Nat
  cut : Nat
  openM : Nat
  shortM : Nat
  deriving DecidableEq, Repr, Inhabited

/-- The failure record: latched functions, and the latched members outside any function with their faults. -/
structure FailRecord where
  fns : Tbl Failed
  looseOpen : Nat
  looseShort : Nat
  deriving DecidableEq, Repr, Inhabited

/-- One NTC (R370, R371). -/
structure Ntc where
  cfg : DerateCfg
  /-- The last readings, newest first, at most 64. -/
  readings : List Nat
  fault : Bool
  /-- Consecutive cycles with a valid reading. -/
  validRun : Nat
  /-- T in 0.1 °C, f per mille, shutdown, and derating reported. -/
  temp : Int
  f : Nat
  shutdown : Bool
  derating : Bool
  deriving DecidableEq, Repr, Inhabited

/-- An armed flip (R366). -/
structure Flip where
  mode : Nat
  target : Nat
  /-- The latch instant has come while the shift was not finished, and it was the timeout's. -/
  due : Bool
  timeout : Bool
  deriving DecidableEq, Repr, Inhabited

structure Sign where
  strings : List StringCfg
  sinks : List SinkCfg
  matrix : MatrixCfg
  sensor : SensorCfg
  /-- `TARGET` of R, G, B as fractions (R369). -/
  target : List (Int × Nat)
  fns : Tbl SgnFn
  /-- Function levels. -/
  levels : List Nat
  rec_ : FailRecord
  /-- The failure record as the NOR devices hold it, and the TCXO tick of the first change not yet written. -/
  nor : FailRecord
  dirty : Option Nat
  /-- D of every output: strings 0 to 15, sinks 16 to 23, the matrix 24; the current measured at the last on-time. -/
  duty : List Nat
  current : List Nat
  /-- Cycles without a qualifying on-time, by string (R359). -/
  untested : List Nat
  ntc : List Ntc
  lastDerate : Nat
  gains : List Nat
  dark : List Nat
  nackRun : Nat
  sensorFault : Bool
  /-- The register and the value written to the sensor since BOOT or its last fault (R368). -/
  sensorInit : Option (Nat × Nat)
  sensorTick : Nat
  sensorFaults : Nat
  lastRead : Nat
  /-- Since the last read: a coloured string was lit; one had D below 102; a D, a gain or a failure changed. -/
  anyLit : Bool
  anyLow : Bool
  changed : Bool
  /-- Consecutive updates with a gain held at 2,048, by channel. -/
  heldRun : List Nat
  /-- The two frame buffers, and which one is shown. -/
  frame0 : List Word
  frame1 : List Word
  shown : Bool
  loading : Bool
  ready : Bool
  flip : Option Flip
  /-- TCXO tick at which the shift in progress ends. -/
  shiftEnd : Option Nat
  lastLatch : Nat
  lastSync : Nat
  lastSyncTick : Option Nat
  syncTimeouts : Nat
  refreshes : Nat
  lastRefresh : Nat
  /-- The last cycle whose update has been made. -/
  lastCyc : Option Nat
  deriving DecidableEq, Repr, Inhabited

end Sys2Proof.Machine
end

