-- ==== Sys2Proof/Machine/StTether.lean ====
section
/-!
DEFINITION. State of Tether, its timeline event queue, and the RTC and backup domain (03, 04).
-/
namespace Sys2Proof.Machine

/-- Lock states of Tether, by code (R78). -/
inductive Lock where
  | free | locked | holdover | slew
  deriving DecidableEq, Repr, Inhabited

/-- The configuration of TT.CONFIG (R95). -/
structure TtCfg where
  primary : Nat
  secondary : Nat
  zcLine : Nat
  zcPol : Bool
  zcDelay : Nat
  holdAlarm : Nat
  deriving DecidableEq, Repr, Inhabited

/-- One zero-cross source (R73). Stamps are TCXO ticks, already corrected by `ZC_DELAY`. -/
structure Source where
  /-- Stamp of the last crossing. -/
  last : Option Nat
  /-- The last qualified period, while the last crossing was qualified. -/
  period : Option Nat
  /-- Crossings in the current run. -/
  run : Nat
  qualified : Bool
  /-- Cycle of the last qualified crossing (nearest cycle). -/
  lastQual : Option Nat
  /-- Qualified crossings without a break, for the return to the primary (R75). -/
  streak : Nat
  /-- The cycle before the one from which it is watched: without a qualified crossing, four failed cycles are counted from there. -/
  since : Nat
  deriving DecidableEq, Repr, Inhabited

/-- An anchor of TT against RTC (R91). -/
structure Anchor where
  tt : Nat
  sec : Nat
  frac : Nat
  locked : Bool
  stepped : Bool
  osf : Bool
  lbv : Bool
  /-- Holdover drift figure at the capture, in µs (R80, R92). -/
  driftUs : Nat
  /-- The RTC scale it was taken on: the number of commits before it in this BOOT (R93). -/
  scale : Nat
  deriving DecidableEq, Repr, Inhabited

/-- The reservation record of R83, and the epoch (R84): the confirmed ceiling in force, and the ring of 64 slots of each NOR device with
the slot that is written next. A slot holds the ceiling and the epoch of a write that reads back; one that is not listed holds none. -/
structure Reserve where
  ceiling : Nat
  ring0 : Tbl (Nat × Nat)
  ring1 : Tbl (Nat × Nat)
  slot : Nat
  epoch : Nat
  /-- A ceiling whose write is not yet confirmed, with the CYCLE of its trigger. -/
  pend : Option (Nat × Nat)
  /-- 2^19-cycle marks already logged for that write. -/
  logged : Nat
  lost : Bool
  deriving DecidableEq, Repr, Inhabited

structure Tether where
  /-- TT in phase units: CYCLE × 4,096 + PHASE (R11). -/
  tt : Nat
  /-- The count has been released (R83). -/
  running : Bool
  state : Lock
  /-- SLEW was entered from FREE or HOLDOVER (R78). -/
  slewHold : Bool
  cfg : TtCfg
  /-- Stored configuration awaiting its rank 0 entry. -/
  cfgNext : Option TtCfg
  prim : Source
  sec : Source
  onSecondary : Bool
  /-- A switch of the source has been posted for the next boundary (R75). -/
  switching : Bool
  /-- Learned offset: sum of the last measurements, newest first, at most 64 (R75). -/
  offsets : List Int
  /-- `FREQ`, Hz × 65,536 (R77). -/
  freq : Nat
  /-- Rate of the count, Hz × 65,536 (R78). -/
  rate : Nat
  /-- Pu by which TT falls behind (positive) or gains on the mains in the current cycle of `rate` (R77, R81). -/
  cycAdj : Int
  /-- In SLEW, the part of that cycle that has passed, in `rate` × TCXO ticks. -/
  slewAcc : Nat
  /-- Last e (R77). -/
  phaseErr : Int
  slewLeft : Nat
  slewPos : Bool
  /-- Consecutive crossings with |e| ≤ 8 pu. -/
  good : Nat
  /-- Consecutive bad crossings while LOCKED: e, or none for an outlier, newest first (R79). -/
  bad : List (Option Int)
  nomMismatch : Bool
  /-- Cycle at entry to the current state. -/
  since : Nat
  /-- TCXO tick of the last qualified crossing of an active source, for `HOLD_DRIFT_US`. -/
  lastQualTick : Nat
  /-- TCXO tick at entry to HOLDOVER, and EV_TT_HOLDOVER_LONG logged. -/
  holdTick : Nat
  longLogged : Bool
  reserve : Reserve
  /-- TT at which the count of this epoch was released (R83). -/
  epochStart : Nat
  anchors : List Anchor
  /-- Last cycle at which an anchor was captured. -/
  anchorCyc : Option Nat
  /-- RTC commits since BOOT (the scale of the next anchor, R93). -/
  scale : Nat
  deriving DecidableEq, Repr, Inhabited

/-- A host alarm of a port (R95). -/
inductive AlarmState where
  | never | armed (target cookie : Nat) | fired | cancelled
  deriving DecidableEq, Repr, Inhabited

/-- A staged RTC write (R104). -/
structure RtcWrite where
  mode : Nat
  sec : Nat
  /-- `S_AT` for `MODE` 1, the target TT in pu for `MODE` 2. -/
  at_ : Nat
  clearOsf : Bool
  org : Origin
  deriving DecidableEq, Repr, Inhabited

/-- The crystal oscillator (R98, R107): it runs, has stopped, or has stopped and the stop has set OSF. -/
inductive OscSt where
  | runs | stopped | faulted
  deriving DecidableEq, Repr, Inhabited

/-- The backup domain (R97), with the module's measurement of its cell. -/
structure Rtc where
  /-- The retention-valid token (R52). -/
  token : Bool
  sec : Nat
  frac : Nat
  osf : Bool
  lbv : Bool
  /-- Consecutive crystal ticks still to be inserted or dropped are spread over the window: ticks into the
  window, and the corrections of the window (positive inserted, negative dropped). -/
  winTick : Nat
  corrN : Int
  osc : OscSt
  /-- c of the window, 0.01 ppm. -/
  corr : Int
  corrSrc : Nat
  /-- The current window has been measured whole so far (VIN and TCXO present from its start). -/
  winWhole : Bool
  /-- `AGING` in 1/1,024 of 0.01 ppm. -/
  aging : Int
  trim : Int
  temp : Int
  swoStamp : Nat × Nat
  swoCount : Nat
  swoValid : Bool
  /-- BAK is fed from VBAK. -/
  onCell : Bool
  tampCfg : Nat
  tampLatched : Nat
  tampered : Bool
  tampStamp : Nat × Nat
  /-- Consecutive samples in the tamper state, and the last sampled state, per input. -/
  tampRun : Nat × Nat
  tampLevel : Nat
  /-- The pads of the two inputs now, bit set is open: each TAMPER_SAMPLE tells them, also between two samples. -/
  tampOpen : Nat
  /-- Crystal tick of the last tamper sample. -/
  tampTick : Nat
  bram : List Word
  /-- The 32-byte metering residue block (R112), as its 8 words; none: discarded. -/
  residue : Option (List Word)
  /-- The root secret is not zero (R113). Its value is the key store's. -/
  rootSecret : Nat
  vbakMv : Nat
  cellLow : Bool
  /-- TCXO tick of the last VBAK measurement. -/
  vbakTick : Nat
  staged : Option RtcWrite
  /-- The tick at which the staged write commits has come (R104). -/
  commitDue : Bool
  /-- Outcome of the last staged write: 0 none since BOOT, 1 committed, 2 cancelled. -/
  lastWrite : Nat
  /-- `MODE` 3 requests that wait for the commit of a `MODE` 0 write. -/
  waitCancel : List Req
  deriving DecidableEq, Repr, Inhabited

/-- One port's RTC shadow (R100, R101). -/
structure Shadow where
  frozen : Bool
  /-- Registers of the copy read so far: [0] SEC_LO, [1] SEC_HI, [2] FRAC_FLAGS. -/
  readMask : Nat
  /-- TCXO tick of the first read. -/
  since : Nat
  staleNext : Bool
  /-- The most recent copy: `RTC_SEC_LO`, `RTC_SEC_HI`, `RTC_FRAC_FLAGS`. -/
  lo : Word
  hi : Word
  ff : Word
  deriving DecidableEq, Repr, Inhabited

end Sys2Proof.Machine
end

