-- ==== Sys2Proof/Machine/StUpd.lean ====
section
/-!
DEFINITION. The contents of the settings sets (06 R175), and the state of Bridle (17).
-/
namespace Sys2Proof.Machine

/-- The stored contents of every settings set (R175), each as its owning chapter lists them. Sets 0x02, 0x03, 0x07, 0x11, 0x12 and
0x14 hold nothing. -/
structure Settings where
  /-- 0x01. -/
  tt : TtCfg
  /-- 0x04 to 0x06 (R197, R215, R249). -/
  plan : Option BandPlan
  fe0 : Option FeCfg
  fe1 : Option FeCfg
  ces : List (Option CeCfg)
  bcns : List (Option BcnCfg)
  slps : List (Option SlpCfg)
  /-- 0x08. -/
  txnMode : Option Nat
  seqWait : Nat
  retry : RetryPolicy
  /-- 0x09. -/
  groups : Tbl Group
  entries : Tbl SchEntry
  site : Option Site
  tz : Tbl TzRule
  fallback : Option Fallback
  /-- 0x0A. -/
  corridors : Tbl Corridor
  chdEvery : Nat
  chdLead : Nat
  chdFwd : Nat
  chdOn : Bool
  /-- 0x0B. -/
  mtrInputs : List MtrInput
  mtrClocks : List MtrClock
  mtrGlobal : MtrGlobal
  feeders : List (FeederCfg × List Coef)
  pulses : List PulseOut
  /-- 0x0C. -/
  strings : List StringCfg
  sinks : List SinkCfg
  matrix : MatrixCfg
  sensor : SensorCfg
  target : List (Int × Nat)
  fns : Tbl SgnFn
  derate : List DerateCfg
  /-- 0x0D and 0x0E. -/
  can : List (CanCfg × List CanBuf)
  /-- 0x0F. -/
  din : List DinCfg
  dout : List (Nat × Bool)
  /-- 0x10. -/
  sevOver : Tbl Nat
  minSev : Nat
  /-- 0x13. -/
  scrubH : Nat
  retireAt : Nat
  repairAt : Nat
  /-- 0xFF. -/
  pfw : Option Nat
  wd : Quad Nat
  deriving DecidableEq, Repr, Inhabited

/-- States of an update session, by code (R475). -/
inductive SessSt where
  | idle | loading | loaded | verifying | verified | preparing | handover | trial | failed
  deriving DecidableEq, Repr, Inhabited

/-- States of the bank that is not active (R470). -/
inductive BankSt where
  | empty | standby | session | rejected
  deriving DecidableEq, Repr, Inhabited

/-- The update session (R475 to R478). -/
structure Session where
  st : SessSt
  port : Fin 4
  /-- The manifest, M0 on. -/
  man : List Word
  /-- Words received of each part. -/
  parts : List (List Word)
  /-- Parts read back and matched, as a mask. -/
  verified : Nat
  /-- A NOR write has failed: the next UPD command of the session returns MEDIA (R477). -/
  media : Bool
  /-- The UPD.VERIFY in progress and the TCXO tick of its take. -/
  verify : Option (Origin × Nat)
  deriving DecidableEq, Repr, Inhabited

/-- An activation or a rollback accepted and not settled (R479 to R481, R485). -/
structure Activation where
  rollback : Bool
  org : Origin
  /-- The cycle at which the window is to open, once it is known. -/
  target : Option Nat
  prepared : Bool
  /-- `TRIAL_S`, for an activation. -/
  trialS : Nat
  /-- The cycle in which the new firmware has reported ready. -/
  ready : Option Nat
  /-- The report did not come in time: the old firmware resumes (R481). -/
  timedOut : Bool
  deriving DecidableEq, Repr, Inhabited

structure Upd where
  /-- The handover window is open, since this cycle. -/
  windowOpen : Bool
  openCyc : Nat
  /-- The active bank: 0 A, 1 B. -/
  bank : Nat
  /-- Manifest of the active set, and of the other bank's set (none: empty list). -/
  active : List Word
  otherMan : List Word
  other : BankSt
  /-- Settings that the other bank holds, with the states of its sets (R482). -/
  otherSettings : Settings
  otherStates : Tbl Nat
  /-- Concurrency matrix of the other bank's set: version and rows (R491). -/
  otherMatrix : Nat × List Nat
  /-- The active set is on trial: `TRIAL_S`, TCXO ticks of trial run, BOOTs of the set since its activation (R483, R484). -/
  trial : Bool
  trialS : Nat
  trialRun : Nat
  trialBoots : Nat
  session : Session
  act : Option Activation
  /-- The anti-rollback floor and its fuse entries left (R483). -/
  floor : Nat
  floorLeft : Nat
  /-- Engines not yet changed over, as a mask; they change to the new set, or back (R480). -/
  late : Nat
  lastOpen : Nat
  lastReset : Nat
  lastLate : Nat
  lastOutcome : Nat
  deriving DecidableEq, Repr, Inhabited

end Sys2Proof.Machine
end

