-- ==== Sys2Proof/Machine/Initial.lean ====
section
/-!
DEFINITION. The delivered module, unit by unit: the defaults of every setting, and what each unit holds before its first BOOT. A reset
takes the volatile part of a unit from here again.
-/
namespace Sys2Proof.Machine

/-! ### Supply, clocks, Tether, RTC (02 to 04) -/

/-- The part: variant A with the typical thresholds of R43, EUI-64 0, and the public key of the private key 1 as update key
(DESIGN CHOICE: which part it is). -/
def initDev : Device :=
  { variant := .a, eui := 0, vinOn := 750, vinOff := 680, pfwHyst := 50
    updateKey := [0x6B17D1F2, 0xE12C4247, 0xF8BCE6E5, 0x63A440F2, 0x77037D81, 0x2DEB33A0, 0xF4A13945, 0xD898C296,
      0x4FE342E2, 0xFE1A7F9B, 0x8EE7EB4A, 0x7C0F9E16, 0x2BCE3357, 0x6B315ECE, 0xCBB64068, 0x37BF51F5] }

/-- No time has passed. -/
def initClock : Clock := { ticks := 0, ttAcc := 0, rtcAcc := 0, xtal := 0, free := 0 }

/-- No flush sequence. -/
def initFlush : Flush := { pfw := false, step := 0, since := 0 }

/-- Unpowered as delivered: the shelf latch disarmed, a clean-shutdown mark naming step 7 (R50). -/
def initPower : Power :=
  { vin := 0, pgood := false, v33aux := false, pfwN := false, viohGood := true, resetLow := false
    bootStep := .off, mode := .keep, straps := 0, pfwStored := none, vPfwEff := 90, pfwOkSince := none
    flush := initFlush, mark := some 7, cause := 0, puCause := none, bootFlags := 0, sealed := false
    shelfArmed := false, fromShelf := false, commissioned := false, autonomous := false, bootHalt := false, resetAt := none
    bootEndCyc := 0 }

/-- A watchdog with its default timeout (R68), not running. -/
def initWd : Watchdog := { timeout := 900, running := false, expired := false, deadline := 0 }

/-- TT.CONFIG's defaults (R95). -/
def initTtCfg : TtCfg := { primary := 1, secondary := 0, zcLine := 1, zcPol := false, zcDelay := 0, holdAlarm := 60 }

/-- A source without crossings. -/
def initSource : Source := { last := none, period := none, run := 0, qualified := false, lastQual := none, streak := 0, since := 0 }

/-- The delivered reservation: R is 0 and `EPOCH` is 0 (R83, R84). -/
def initReserve : Reserve :=
  { ceiling := 0, ring0 := [], ring1 := [], slot := 0, epoch := 0, pend := none, logged := 0, lost := false }

/-- Tether before its count is released: nominal 50 Hz. -/
def initTether : Tether :=
  { tt := 0, running := false, state := .free, slewHold := false, cfg := initTtCfg, cfgNext := none, prim := initSource
    sec := initSource, onSecondary := false, switching := false, offsets := [], freq := 50 * 65536, rate := 50 * 65536, cycAdj := 0, slewAcc := 0
    phaseErr := 0, slewLeft := 0
    slewPos := false, good := 0, bad := [], nomMismatch := false, since := 0, lastQualTick := 0, holdTick := 0
    longLogged := false, reserve := initReserve, epochStart := 0
    anchors := [], anchorCyc := none, scale := 0 }

/-- An empty timeline event queue. -/
def initTimeline : Timeline := { entries := [], nextSeq := 0, peak := 0 }

/-- No alarm has been set (R95). -/
def initAlarms : Quad (List AlarmState) := Quad.all (List.replicate 16 .never)

/-- A backup domain without a token, its crystal running. Its first window is still to open, on the curve (R99). -/
def initRtc : Rtc :=
  { token := false, sec := 0, frac := 0, osf := true, lbv := false, winTick := 2 ^ 21, corrN := 0, osc := .runs, corr := 0, corrSrc := 1
    winWhole := false, aging := 0, trim := 0, temp := 0, swoStamp := (0, 0), swoCount := 0, swoValid := false, onCell := true
    tampCfg := 0, tampLatched := 0, tampered := false, tampStamp := (0, 0), tampRun := (0, 0), tampLevel := 0, tampOpen := 0
    tampTick := 0, bram := List.replicate 16 0, residue := none, rootSecret := 0, vbakMv := 0, cellLow := false, vbakTick := 0
    staged := none, commitDue := false, lastWrite := 0, waitCancel := [] }

/-- A shadow before BOOT step 6 (R100). -/
def initShadow : Shadow := { frozen := false, readMask := 0, since := 0, staleNext := false, lo := 0, hi := 0, ff := 0 }

/-! ### Ports, commands, recorder (05, 06, 14) -/

/-- An empty request queue. -/
def emptyReqQ : ReqQueue := ⟨[], false, [], 0⟩
/-- An empty return queue. -/
def emptyRetQ : RetQueue := ⟨[], 0, []⟩

/-- A port's window at its reset values (05, "The host window"). -/
def initPort : PortSt :=
  { pause := false, irqOutEn := true, takeBlocked := false, blockedQ := 0, inflight := 0, q0 := emptyReqQ, q1 := emptyReqQ, q2 := emptyReqQ
    q3 := emptyReqQ, rsp := emptyRetQ, ntf := emptyRetQ, reserved := 0, intStat := 0, intEn := 0x8003#32, frameErrs := 0
    lastErr := 0, lastErrQ := 0, ntfLost := 0, lostSince := 0, nseq := 0, readLatch := none, writeLatch := none, snap := 0
    readData := 0, shifted := none, openSet := none, accepted := [], lastSet := none }

/-- No command in execution; every settings set at its defaults. -/
def initCmd : CmdSt := { taken := [], ordered := [], nextId := 0, rrUrgent := 3, rrOther := 3, setState := [] }

/-- Recorder counters as delivered (R406). -/
def initCounters : LogCounters :=
  { drop := List.replicate 8 0, stgOvf := List.replicate 8 0, filtered := 0, displaced := 0, pages := 0, nextSeq := 0 }

/-- An empty log. -/
def initLog : Recorder :=
  { staging := false, started := false, log := [], page := [], pageCyc := 0, staged := [], stagePeak := 0, cnt := initCounters
    summary := initCounters, deferred := [], freeze := Quad.all none, sevOver := [], minSev := 0, appendBlocked := false
    blockedSince := 0, freePages := 96768, pagesInBlock := 0, dropSince := List.replicate 8 0, ovfSince := List.replicate 8 0
    limits := [], lost := [] }

/-! ### Radio and MAC (07, 08) -/

/-- A front end without a configuration of its own, no carrier and no foldback. -/
def initFe : FrontEnd :=
  { (default : FrontEnd) with vswrLow := [], carriers := [] }

/-- An engine nothing has been placed in. -/
def Engine.empty : Engine :=
  ⟨none, none, .rest, [], 0, none, none, [], 0, 0, [], 0, none, 0, 0, 0, 0, [0, 0, 0, 0, 0], 0, none⟩

/-- No band plan stored; the duty windows filled as after a reset (R200). -/
def initRadio : Radio :=
  { stored := none, fe0 := initFe, fe1 := initFe, ces := List.replicate 64 Engine.empty, nextEntry := 0, dutySec := 0
    fillLeft := 3600, testAir := [] }

/-- The MAC of an engine without a configuration of its own, greetings not begun. -/
def initMacEng : MacEng := { (default : MacEng) with fresh := true, secSince := [0, 0, 0] }

/-- No link. -/
def initMac : Mac := { engs := List.replicate 64 initMacEng, links := [], nextRaw := 0, grpIn := [], grpOut := [] }

/-! ### Lattice, transactions, schedules, Chord (09, 10) -/

/-- The Lattice policy as delivered (R255, LAT.JOIN_POLICY). -/
def initPolicy : JoinPolicy := { permit := 1, duration := 0, engines := 2 ^ 64 - 1, classes := 0x7E, imgSlot := 0, ckptH := 24 }

/-- Every record EMPTY, every counter store at its start. -/
def initLattice : Lattice :=
  { recs := [], routes := [], policy := initPolicy, permitEnd := none, images := [], sends := [], nand := []
    ctr := { ceilings := [], pend := [], snapshot := [], pages := [], openPage := [], openCyc := 0 }
    ckpt := none, ckptTick := 0, superseded := 0, floodSeq := 0, journal := [], unsettled := [] }

/-- TXN.RETRY_POLICY's defaults (R290). -/
def initRetry : RetryPolicy :=
  { maxTries := 4, rerouteAfter := 2, backoff := 5, deadline := 3000, lead := 10, repeat_ := 2, hopBudget := 50 }

/-- No transaction. -/
def initTxn : TxnEng :=
  { txns := [], waits := [], groups := [], nextId := 0, mode := none, seqWait := 250, retry := initRetry, expect := Quad.all 0
    seqHeld := Quad.all [], peak := 0, okCnt := 0, abandoned := 0, otherEnd := 0, attempts := 0, reroutes := 0, window := 0
    modNow := 0, epNow := 0, modLast := 0, epLast := 0, lastTarget := [], causes := List.replicate 5 0 }

/-- No group, entry, site or rule. -/
def initSched : Sched :=
  { groups := [], entries := [], site := none, tz := [], fallback := none, lux := [], run := .idle, decided := [], lastCyc := 0
    resync := false, fbLevel := 0, fbGate := true, stale := [], tzSeen := none, solarSeen := [], later := [] }

/-- No corridor; CHD.CONFIG's defaults (R325). -/
def initChord : Chord :=
  { corridors := [], every := 5, lead := 10, fwd := 1, on := true, waves := [], issued := [], loads := [], lastEval := 0
    discarded := 0 }

/-! ### Metering (11) -/

/-- No energy. -/
def initEnergies : Energies := { ai := 0, ae := 0, rp := 0, rn := 0, ap := 0 }

/-- A disabled feeder configuration with the defaults of MTR.FEEDER_CONFIG. -/
def initFeederCfg : FeederCfg :=
  { enable := false, neutral := false, v := [0, 0, 0], i := [0, 0, 0], inN := 0, vFs := 0, iFs := 0, pRated := 0, loss := 0
    tolRel := 20, tolAbs := 50, covMin := 900 }

/-- Unity coefficients (R338). -/
def initCoef : Coef := { vGain := 0, iGain := 0, phase := 0 }

/-- A phase without energy. -/
def initPhase : PhaseReg :=
  { e := initEnergies, impCyc := 0, expCyc := 0, vMv := 0, iMa := 0, pMw := 0, lowRun := 0, lossOn := false }

/-- A feeder as delivered. -/
def initFeeder : Feeder :=
  { cfg := initFeederCfg, coef := List.replicate 3 initCoef, ph := List.replicate 3 initPhase, total := initEnergies, inMa := 0
    interval := none, closeFlags := 0, cal := none, calMark := none, closed := [], balance := none }

/-- A pulse output as delivered. -/
def initPulse : PulseOut :=
  { enable := false, feeder := 0, phase := 0, quantity := 0, const := 0, width := 80, acc := 0, owed := 0, w := 3200000
    highTo := 0, lowTo := 0 }

/-- Metering as delivered. -/
def initMeter : Meter :=
  { inputs := List.replicate 32 ⟨false, false, false, 0, false, 0, 0⟩, clocks := List.replicate 4 ⟨false, false, 0⟩
    global := ⟨15, 15, 1⟩, feeders := List.replicate 4 initFeeder, pulses := List.replicate 8 initPulse, faults := 0, cyc := none
    latch := (0, 0, 0), tick := 0, stepSeen := 0, nextSeq := 0, cut := [], ring := [], saves := [], saveSlot := 0, saveSeq := 0
    lastSave := 0, saveDue := false, retryAt := none, baseSeq := 0, base := List.replicate 4 (0, 0), baseN := 0, rebase := false
    owedLost := [], discard := false, reload := false, reports := [] }

/-! ### Sign drive, cabinet I/O, CAN (12, 13) -/

/-- SGN.DERATE's defaults. -/
def initDerate : DerateCfg :=
  { enable := false, r25 := 1000, beta := 3435, knee := 600, off := 950, slope := 250, fMin := 300 }

/-- An NTC without a reading. -/
def initNtc : Ntc :=
  { cfg := initDerate, readings := [], fault := false, validRun := 0, temp := 0, f := 1000, shutdown := false, derating := false }

/-- A failure record without a failure. -/
def initFail : FailRecord := { fns := [], looseOpen := 0, looseShort := 0 }

/-- The sign drive as delivered (SGN.STRING_CONFIG's defaults). -/
def initSign : Sign :=
  { strings := List.replicate 16 ⟨false, 0, 0, 0, 0⟩, sinks := List.replicate 8 ⟨false, 0, 0⟩
    matrix := ⟨false, 0, 0, 0, 50, 0, false⟩, sensor := ⟨false, 0, false, 0, 0, 0, 25, false⟩, target := List.replicate 3 (0, 1)
    fns := [], levels := List.replicate 32 0, rec_ := initFail, nor := initFail, dirty := none, duty := List.replicate 25 0
    current := [], untested := List.replicate 16 0, ntc := [initNtc, initNtc], lastDerate := 0, gains := [4096, 4096, 4096]
    dark := [0, 0, 0, 0], nackRun := 0, sensorFault := false, sensorTick := 0, sensorFaults := 0, sensorInit := none, lastRead := 0, anyLit := false
    anyLow := false, changed := false, heldRun := [0, 0, 0], frame0 := [], frame1 := [], shown := false, loading := false
    ready := false, flip := none, shiftEnd := none, lastLatch := 0, lastSync := 0, lastSyncTick := none, syncTimeouts := 0
    refreshes := 0, lastRefresh := 0, lastCyc := none }

/-- IO.DIN_CONFIG's defaults. -/
def initDinCfg : DinCfg :=
  { enable := true, pol := false, ntf := false, deb := 4, stuckS := 0, chatWin := 3000, chatMin := 1 }

/-- An input not yet sampled. -/
def initDin : Din :=
  { cfg := initDinCfg, raw := false, run := 0, runTt := 0, level := false, valid := false, edges := 0, stuck := false
    activeTick := 0, chatCount := 0, chatter := false, chatK := 0 }

/-- An output as delivered: `SAFE` off. -/
def initDout : Dout := { safe := 0, autoSafe := false, cmd := false, out := false, fault := false }

/-- Cabinet I/O as delivered. -/
def initIo : IoSt :=
  { din := List.replicate 16 initDin, sampleTt := 0, sampleIdx := none, dout := List.replicate 8 initDout, douts := [], nextDout := 0
    held := [] }

/-- CAN.CONFIG's defaults (R383). -/
def initCanCfg : CanCfg :=
  { opmode := 0, fdEn := true, tdcEn := true, tdco := 15, nom := ⟨1, 63, 16, 16⟩, data := ⟨1, 14, 5, 5⟩, dwell := 500 }

/-- An unused buffer. -/
def initCanBuf : CanBuf :=
  { kind := 0, ide := false, ntf := false, ports := 0, acceptRtr := false, id := 0, mask := 0, frame := none, locked := false
    dropped := 0, tx := none }

/-- A CAN port as delivered. -/
def initCan : CanPort := { (default : CanPort) with cfg := initCanCfg, bufs := List.replicate 64 initCanBuf }

/-! ### Keys, memories, maintenance (15 to 17) -/

/-- The delivered world configuration (R434): the memory, update and key blocks are secure by nature, metering by configuration, and
H3. -/
def initWorlds : Worlds := { blocks := 2 ^ 0x0B, engines := 0, ports := 8 }

/-- The key store as delivered: only the factory identity of slot 0 (R417). The private key is fixed at manufacture and open. -/
def initKeys : Keys :=
  { worlds := initWorlds, copy0 := (0, initWorlds), copy1 := (0, initWorlds), everCommitted := false, debugLock := false
    debugOpen := false, slots := [], identity := [0, 0, 0, 0, 0, 0, 0, 1], gens := [], rewraps := [], nextOrder := 0 }

/-- A memory as delivered (R455): 4 spare rows and 2 spare columns for an SRAM, 8 remap words for a privileged memory. -/
def initMem (k : Nat) : MemState :=
  { ce := 0, ue := 0, table := [], ovf := false, rows := if k = 0 then 0 else if k < 0x0D then 4 else 8
    cols := if k = 0 ∨ 0x0D ≤ k then 0 else 2, repairs := [] }

/-- Memory integrity as delivered. -/
def initMemInt : MemInt :=
  { mems := (List.range 16).map initMem, scrubH := 24, retireAt := 4, repairAt := 8, high := false, highSince := 0, passAt := 0, passErrs := 0
    passes := 0, passCyc := 0, flip := none, flipMask := 0, flipResult := 0, flips := 0, testCe := 0, testUe := 0, fieldLeft := 64
    retired := [], fullLogged := false, runs := [], nandSpare := 160, nandBad := 0, nandErase := 0, bchMax := 0, spareLow := false
    norSpare0 := 8, norSpare1 := 8 }

/-- Settings at their defaults (R175). -/
def initSettings : Settings :=
  { tt := initTtCfg, plan := none, fe0 := none, fe1 := none, ces := List.replicate 64 none, bcns := List.replicate 64 none
    slps := List.replicate 64 none, txnMode := none, seqWait := 250, retry := initRetry, groups := [], entries := [], site := none
    tz := [], fallback := none, corridors := [], chdEvery := 5, chdLead := 10, chdFwd := 1, chdOn := true
    mtrInputs := initMeter.inputs, mtrClocks := initMeter.clocks, mtrGlobal := initMeter.global
    feeders := List.replicate 4 (initFeederCfg, List.replicate 3 initCoef), pulses := initMeter.pulses, strings := initSign.strings
    sinks := initSign.sinks, matrix := initSign.matrix, sensor := initSign.sensor, target := initSign.target, fns := []
    derate := [initDerate, initDerate], can := List.replicate 2 (initCanCfg, List.replicate 64 initCanBuf)
    din := List.replicate 16 initDinCfg, dout := List.replicate 8 (0, false), sevOver := [], minSev := 0, scrubH := 24, retireAt := 4
    repairAt := 8, pfw := none, wd := Quad.all 900 }

/-- No session. -/
def initSession : Session :=
  { st := .idle, port := 0, man := [], parts := [], verified := 0, media := false, verify := none }

/-- Bridle as delivered: bank A active with a manifest the model does not fill, bank B EMPTY. -/
def initUpd : Upd :=
  { windowOpen := false, openCyc := 0, bank := 0, active := [], otherMan := [], other := .empty, otherSettings := initSettings
    otherStates := [], otherMatrix := (0, []), trial := false, trialS := 0, trialRun := 0, trialBoots := 0, session := initSession, act := none, floor := 0
    floorLeft := 32, late := 0, lastOpen := 0, lastReset := 0, lastLate := 0, lastOutcome := 0xFF }

/-- The delivered matrix, version 1 (R490): row a, bit b set where the pair a, b is allowed. -/
def matrixV1 : List Nat :=
  [ maskOf 11 fun b => b == 2 || b == 3 || (5 ≤ b && b ≤ 10),
    maskOf 11 fun b => b == 1 || (7 ≤ b && b ≤ 10),
    maskOf 11 fun b => b == 1 || (3 ≤ b && b ≤ 7) || b == 9 || b == 10,
    maskOf 11 fun b => b == 3 || b == 7 || b == 10,
    maskOf 11 fun b => b == 1 || b == 3 || (5 ≤ b && b ≤ 10),
    maskOf 11 fun b => b == 1 || b == 3 || b == 5 || (7 ≤ b && b ≤ 10),
    maskOf 11 fun b => 1 ≤ b && b ≤ 10,
    maskOf 11 fun b => b == 1 || b == 2 || (5 ≤ b && b ≤ 7) || b == 10,
    maskOf 11 fun b => b == 1 || b == 2 || b == 3 || (5 ≤ b && b ≤ 7) || b == 10,
    maskOf 11 fun b => 1 ≤ b && b ≤ 10 ]

/-- Ballast as delivered. -/
def initBallast : Ballast :=
  { running := [], refusals := List.replicate 10 0, waitCompact := false, waitReclaim := false, matrixVer := 1, matrix := matrixV1
    withdrawals := [] }

end Sys2Proof.Machine
end

