-- ==== Sys2Proof/Machine/State.lean ====
section
/-!
DEFINITION. The state of the block, the reasons a step can stop, and the state after reset.
-/
namespace Sys2Proof.Machine

structure State where
  dev : Device
  clk : Clock
  pwr : Power
  wd : Quad Watchdog
  tt : Tether
  tl : Timeline
  alarms : Quad (List AlarmState)
  rtc : Rtc
  shadow : Quad Shadow
  ports : Quad PortSt
  cmd : CmdSt
  log : Recorder
  rad : Radio
  mac : Mac
  lat : Lattice
  txn : TxnEng
  sch : Sched
  chd : Chord
  mtr : Meter
  sgn : Sign
  io : IoSt
  /-- CAN0 and CAN1. -/
  can : List CanPort
  key : Keys
  mem : MemInt
  upd : Upd
  bal : Ballast
  /-- Commands waiting, first in, first out. -/
  pending : List Instr
  deriving DecidableEq, Repr

/-- Why a step stops with a fault. No command of the spec does: every command and event has an effect or, where its
condition does not hold, none. -/
inductive Fault where
  /-- Raised by nobody; the type has to have a value to be written. Safe. -/
  | unreachable
  deriving DecidableEq, Repr

/-- Why a command is refused by the model. -/
inductive Refusal where
  /-- An arm of `exec` that has no meaning yet raises it. Safe: the machine stops. -/
  | notModelled (mnemonic : String)
  deriving DecidableEq, Repr

/-- The delivered module, unpowered, before its first BOOT: every unit as `Initial` gives it, no command waiting. -/
def State.reset : State :=
  { dev := initDev, clk := initClock, pwr := initPower, wd := Quad.all initWd, tt := initTether, tl := initTimeline
    alarms := initAlarms, rtc := initRtc, shadow := Quad.all initShadow, ports := Quad.all initPort, cmd := initCmd, log := initLog
    rad := initRadio, mac := initMac, lat := initLattice, txn := initTxn, sch := initSched, chd := initChord, mtr := initMeter
    sgn := initSign, io := initIo, can := [initCan, initCan], key := initKeys, mem := initMemInt, upd := initUpd
    bal := initBallast, pending := [] }

end Sys2Proof.Machine
end

