-- ==== Sys2Proof/Machine/Flags.lean ====
section
/-!
DEFINITION. Computed conditions: TT's parts, the condition flags, the mode R62 gives, presence, worlds, lighting ownership and
AUTONOMOUS.
-/
namespace Sys2Proof.Machine

/-- CYCLE of a TT value (R11). -/
def ttCyc (tt : Nat) : Nat := tt / 4096
/-- PHASE of a TT value (R11). -/
def ttPh (tt : Nat) : Nat := tt % 4096
/-- The current CYCLE. -/
def cycOf (s : State) : Nat := s.tt.tt / 4096
/-- The TT value of phase 0 of the next cycle. -/
def nextBoundary (s : State) : Nat := (cycOf s + 1) * 4096
/-- The current CYCLE[31:0]. -/
def cycLo (s : State) : Word := wd (cycOf s)

/-- HOLD of R78. -/
def holdFlag (s : State) : Bool :=
  s.tt.running && (match s.tt.state with
    | .free => true | .holdover => true | .locked => false | .slew => s.tt.slewHold)

/-- SLEW of R78. -/
def slewFlag (s : State) : Bool :=
  s.tt.running && (match s.tt.state with | .slew => true | _ => false)

/-- The flags byte of the MODE notification (R165). -/
def flagsByte (s : State) : Nat :=
  b2n (holdFlag s) + 2 * b2n (slewFlag s) + 4 * b2n s.pwr.autonomous + 8 * b2n s.pwr.flush.pfw + 16 * b2n s.pwr.bootHalt

/-- Mode codes of R61. -/
def modeCode : Mode → Nat
  | .shelf => 0 | .keep => 1 | .boot => 2 | .commission => 3 | .run => 4 | .degraded => 5 | .service => 6 | .handover => 7

/-- Codes of the lock states (R78). -/
def lockCode : Lock → Nat
  | .free => 0 | .locked => 1 | .holdover => 2 | .slew => 3

/-- The variant lacks blocks 0x0B, 0x0C or 0x0E (R7). -/
def blockPresent (v : Variant) (b : Nat) : Bool :=
  1 ≤ b && b ≤ 0x14 &&
    (match v with
      | .a => true
      | .b => b != 0x0C
      | .c => b != 0x0B && b != 0x0C && b != 0x0E)

/-- Channel engines present (R3). -/
def engineCount : Variant → Nat
  | .a => 64 | .b => 32 | .c => 64

/-- A port is present: H2 with STRAP4 (R123, R39). -/
def portPresent (s : State) (p : Fin 4) : Bool := p.val != 2 || s.pwr.straps.getLsbD 4

/-- A port is secure: H0 by STRAP3, the others by the world configuration in force (R40). -/
def portSecure (s : State) (p : Fin 4) : Bool :=
  if p.val = 0 then !s.pwr.straps.getLsbD 3 else s.key.worlds.ports.testBit p.val

/-- A block is secure: 0x11 to 0x14 always (R7), 0x06 where any present engine is secure (R433), the others as configured. -/
def blockSecure (s : State) (b : Nat) : Bool :=
  0x11 ≤ b || (if b = 0x06 then s.key.worlds.engines % 2 ^ engineCount s.dev.variant != 0 else s.key.worlds.blocks.testBit b)

/-- A port's world reaches a block (R153). -/
def reaches (s : State) (p : Fin 4) (b : Nat) : Bool := portSecure s p || !blockSecure s b

/-- A port's world reaches a channel engine. -/
def reachesEngine (s : State) (p : Fin 4) (n : Nat) : Bool := portSecure s p || !s.key.worlds.engines.testBit n

/-- A port's world reaches the log records of a source and instance (R410, R433): those of source 0x00 always; of 0x03 by the world of the
port they name; of 0x06 by the world of the engine they name; all others by their block's world. -/
def reachesRecord (s : State) (p : Fin 4) (src inst : Nat) : Bool :=
  if src = 0 then true
  else if src = 0x03 then portSecure s p || decide (4 ≤ inst) || !portSecure s (Fin.ofNat 4 inst)
  else if src = 0x06 && decide (inst < engineCount s.dev.variant) then reachesEngine s p inst
  else reaches s p src

/-- A port holds lighting ownership (R69): a bit in the owner mask of a group, a corridor or a LANTERN endpoint; an absent
port never does (R154). -/
def lightOwner (s : State) (p : Fin 4) : Bool :=
  portPresent s p &&
    (s.sch.groups.any (fun g => g.2.owner.testBit p.val) ||
     s.chd.corridors.any (fun c => c.2.owner.testBit p.val) ||
     s.lat.recs.any (fun e => e.2.cls == 1 && e.2.owner.testBit p.val))

/-- The four ports. -/
def allPorts : List (Fin 4) := [0, 1, 2, 3]

/-- The condition of AUTONOMOUS (R69): some host holds lighting ownership and every such host is silent. -/
def autoCond (s : State) : Bool :=
  allPorts.any (lightOwner s) && allPorts.all (fun p => !lightOwner s p || (s.wd.get p).expired)

/-- A block is withdrawn from service now (R492, R213); `half` 0 names the whole block. -/
def withdrawn (s : State) (b : Nat) : Bool := s.bal.withdrawals.any fun w => w.active && w.block == b

/-- The mode R62 gives among the powered modes after BOOT. -/
def modeNow (s : State) : Mode :=
  if s.upd.windowOpen then .handover
  else if !s.pwr.commissioned then .commission
  else if s.bal.withdrawals.any (fun w => w.active) then .service
  else if holdFlag s || s.pwr.autonomous then .degraded
  else .run

/-- The module is powered and past BOOT. -/
def served (s : State) : Bool := s.pwr.bootStep == .done

/-- The host windows are alive: from step 6 of BOOT (R132). -/
def windowAlive (s : State) : Bool :=
  match s.pwr.bootStep with
  | .restore => true | .finish => true | .done => true | .halted => true
  | _ => false

/-- A port's accesses reach its window: the window is alive, the port present, and VIOH good (R132, R28). -/
def portUp (s : State) (p : Fin 4) : Bool := windowAlive s && portPresent s p && s.pwr.viohGood

/-- The stamp of this instant. -/
def stampOf (s : State) : Stamp :=
  ⟨s.tt.tt, s.tt.reserve.epoch, s.rtc.sec, s.rtc.frac, !(s.tt.running && s.tt.state == .locked), s.rtc.osf, s.rtc.lbv⟩

end Sys2Proof.Machine
end

