-- ==== Sys2Proof/Machine/Ops.lean ====
section
/-!
DEFINITION. The operations every unit shares: creating and staging a record (R397 to R405), messages and notifications
(R140 to R145, R161 to R165), mode and flag changes (R65, R68, R69), the timeline event queue (R86 to R90), and the
serving of a taken request (R158 to R167).
-/
namespace Sys2Proof.Machine

/-! ### Records -/

/-- Octets of a record. -/
def octets (r : Rec) : Nat := 4 * r.words.length

/-- Octets of a list of records. -/
def octetsOf (l : List Rec) : Nat := (l.map octets).sum

/-- The staging area's size (R405). -/
def stagingCap : Nat := 262144

/-- The severity an event is created with (R400). -/
def sevOf (lg : Recorder) (code : Nat) : Nat := (tget lg.sevOver code).getD ((defaultSev code).getD 0)

/-- The words of a record (R397). -/
def recWords (st : Stamp) (sev : Nat) (host deferred : Bool) (code inst seq : Nat) (content : List Word) : List Word :=
  let body : List Word :=
    [packW [(8 + content.length, 24), (sev, 21), (b2n host, 20), (b2n deferred, 19), (b2n st.unlocked, 18), (b2n st.osf, 17),
        (b2n st.lbv, 16), (code, 0)],
     wd seq,
     packW [(seq / 2 ^ 32 % 2 ^ 16, 16), (ttCyc st.tt / 2 ^ 32 % 2 ^ 16, 0)],
     wd (ttCyc st.tt),
     packW [(ttPh st.tt, 20), (st.epoch % 256, 12), (st.sec / 2 ^ 32 % 256, 0)],
     wd st.sec,
     packW [(st.frac, 16), (inst % 256, 8)]] ++ content
  body ++ [crc32c body]

/-- The least severity, at most `s`, of the records of a list. -/
def minSevUpTo (s : Nat) (l : List Rec) : Option Nat :=
  ((l.filter fun r => decide (r.sev ≤ s)).map fun r => r.sev).foldl
    (fun m x => match m with | none => some x | some y => some (Nat.min x y)) none

/-- The first record of a severity taken out of a list. -/
def takeFirst (v : Nat) : List Rec → Option (Rec × List Rec)
  | [] => none
  | r :: t => if r.sev = v then some (r, t) else (takeFirst v t).map fun (x, t') => (x, r :: t')

/-- Records displaced from staging until at most `room` octets are left: the lowest severity first, then the oldest,
considering only severities at most `s` (R405). The fuel is the number of records. -/
def displaceStaged (s room : Nat) : Nat → List Rec → List Rec → List Rec × List Rec
  | 0, l, gone => (l, gone)
  | n + 1, l, gone =>
    if octetsOf l ≤ room then (l, gone)
    else match minSevUpTo s l with
      | none => (l, gone)
      | some v => match takeFirst v l with
        | none => (l, gone)
        | some (x, l') => displaceStaged s room n l' (gone ++ [x])

/-- A record put into staging, displacing others or being refused (R405): the new staging and the records lost. -/
def stageRec (r : Rec) (l : List Rec) : List Rec × List Rec :=
  let n := octets r
  if octetsOf l + n ≤ stagingCap then (l ++ [r], [])
  else
    let elig := octetsOf (l.filter fun x => decide (x.sev ≤ r.sev))
    if octetsOf l + n - stagingCap ≤ elig then
      let (l', gone) := displaceStaged r.sev (stagingCap - n) l.length l []
      (l' ++ [r], gone)
    else (l, [r])

/-- Add 1, saturating at 32 bits. -/
def inc32 (n : Nat) : Nat := sat 32 (n + 1)

/-- Counts by severity, raised by the records of a list. -/
def countSev (c : List Nat) (l : List Rec) : List Nat := l.foldl (fun c r => updAt c r.sev inc32) c

/-- Records lost from staging, counted by severity and for every freeze (R405, R414). -/
def Recorder.lose (gone : List Rec) (lg : Recorder) : Recorder :=
  { lg with
    cnt := { lg.cnt with stgOvf := countSev lg.cnt.stgOvf gone }
    ovfSince := countSev lg.ovfSince gone
    freeze := lg.freeze.map fun f => f.map fun f => { f with lost := f.lost + gone.length } }

/-- A created record enters staging, where it may displace others or be refused (R405); the freezes count it (R414). -/
def Recorder.enter (lg : Recorder) (r : Rec) : Recorder :=
  let (st, gone) := stageRec r lg.staged
  let kept := b2n !(gone.any fun x => x.seq == r.seq)
  Recorder.lose gone { lg with
    staged := st
    stagePeak := Nat.max lg.stagePeak (octetsOf st)
    freeze := lg.freeze.map fun f => f.map fun f => { f with staged := f.staged + kept } }

/-- An event becomes a record, or is filtered by `MIN_SEV` (R399, R400). -/
def Recorder.create (st : Stamp) (sev : Nat) (host deferred : Bool) (code inst : Nat) (content : List Word)
    (lg : Recorder) : Recorder :=
  if sev < lg.minSev then { lg with cnt := { lg.cnt with filtered := inc32 lg.cnt.filtered } }
  else
    let seq := lg.cnt.nextSeq
    let r : Rec := ⟨seq, sev, recWords st sev host deferred code inst seq content⟩
    Recorder.enter { lg with cnt := { lg.cnt with nextSeq := (seq + 1) % 2 ^ 48 } } r

/-- A limited event may be logged again: 1,024 cycles have passed since its last record (R156, R415). -/
def limitOpen (last : Option Nat) (cyc : Nat) : Bool :=
  match last with | none => true | some c => decide (c + 1024 ≤ cyc)

/-- The limited-event record under a key. -/
def Recorder.limit (lg : Recorder) (key : Nat) : Limit := (tget lg.limits key).getD ⟨none, 0⟩

/-- EV_LOG_STAGE_OVF after records have been lost from staging (R405, R415). -/
def Recorder.reportOvf (st : Stamp) (lg : Recorder) : Recorder :=
  let key := evLogStageOvf * 256
  if lg.ovfSince.all (· == 0) || !limitOpen (lg.limit key).last (ttCyc st.tt) then lg
  else
    let counts := lg.ovfSince
    Recorder.create st (sevOf lg evLogStageOvf) false false evLogStageOvf 0xFF (counts.map wd)
      { lg with ovfSince := List.replicate 8 0, limits := tset lg.limits key ⟨some (ttCyc st.tt), 0⟩ }

/-- An event is reported to the recorder. Before staging begins it waits without a stamp, to be recorded with `DEFERRED` (R65, R397);
until numbering resumes at BOOT step 7 it waits with its stamp (R406). -/
def Recorder.event (st : Stamp) (code inst : Nat) (content : List Word) (lg : Recorder) : Recorder :=
  if lg.started then
    (Recorder.create st (sevOf lg code) false false code inst content lg).reportOvf st
  else { lg with deferred := lg.deferred ++ [⟨if lg.staging then some st else none, !lg.staging, code, inst, content⟩] }

/-- Log an event: code, `INSTANCE` (0xFF if its content names none) and content items. -/
def logEv (code inst : Nat) (content : List Word) (s : State) : State :=
  { s with log := s.log.event (stampOf s) code inst content }

/-- Log an event whose content is a list of numbers. -/
def logNs (code inst : Nat) (content : List Nat) (s : State) : State := logEv code inst (content.map wd) s

/-- Log a limited event, at most once per 1,024 cycles under its limit's key, its content a function of the count since the previous
record. -/
def logLimK (code key inst n : Nat) (content : Nat → List Word) (s : State) : State :=
  let key := code * 256 + key
  let l := s.log.limit key
  let c := sat 32 (l.count + n)
  if limitOpen l.last (cycOf s) then
    logEv code inst (content c) { s with log := { s.log with limits := tset s.log.limits key ⟨some (cycOf s), 0⟩ } }
  else { s with log := { s.log with limits := tset s.log.limits key ⟨l.last, c⟩ } }

/-- Log a limited event whose limit is its instance's. -/
def logLimN (code inst n : Nat) (content : Nat → List Word) (s : State) : State := logLimK code inst inst n content s

/-- Log a limited event for one occurrence. -/
def logLim (code inst : Nat) (content : Nat → List Word) (s : State) : State := logLimN code inst 1 content s

/-- The words of an RTC value in a record (R398). -/
def rtcWords (sec frac : Nat) : List Word := [wd sec, packW [(frac, 16), (sec / 2 ^ 32 % 256, 0)]]

/-- The words of a TT value (R398). -/
def ttWords (tt : Nat) : List Word := [lo32 tt, hi32 tt]

/-! ### Return queues -/

/-- Capacity of a return queue in words (05, "Return queues"). -/
def retCap (r : Nat) : Nat := if r = 0 then 8192 else 16384

/-- Words that the messages of a return queue occupy (R146). -/
def retUsed (q : RetQueue) : Nat := (q.msgs.map fun m => m.words.length).sum

/-- Capacity of a request queue in words (05, "Sending a request"). -/
def reqCap (q : Nat) : Nat := if q = 0 then 256 else if q = 1 then 4096 else if q = 2 then 16384 else 1024

/-- A request queue of a port. -/
def PortSt.req (p : PortSt) (q : Nat) : ReqQueue :=
  if q = 0 then p.q0 else if q = 1 then p.q1 else if q = 2 then p.q2 else p.q3

/-- A request queue replaced. -/
def PortSt.setReq (p : PortSt) (q : Nat) (v : ReqQueue) : PortSt :=
  if q = 0 then { p with q0 := v } else if q = 1 then { p with q1 := v } else if q = 2 then { p with q2 := v }
  else { p with q3 := v }

/-- A return queue of a port: 0 responses, 1 notifications. -/
def PortSt.ret (p : PortSt) (r : Nat) : RetQueue := if r = 0 then p.rsp else p.ntf

/-- A return queue replaced. -/
def PortSt.setRet (p : PortSt) (r : Nat) (v : RetQueue) : PortSt := if r = 0 then { p with rsp := v } else { p with ntf := v }

/-- `FREE` of a request queue (REQ_SPACE). -/
def reqFree (p : PortSt) (q : Nat) : Nat :=
  reqCap q - (p.req q).staged.length - ((p.req q).msgs.map List.length).sum

/-- The level bits of `INT_RAW` (R148). -/
def levelBits (p : PortSt) : Word :=
  packW [(b2n (decide (reqCap 3 ≤ 2 * reqFree p 3)), 7), (b2n (decide (reqCap 2 ≤ 2 * reqFree p 2)), 6),
      (b2n (decide (reqCap 1 ≤ 2 * reqFree p 1)), 5), (b2n (decide (reqCap 0 ≤ 2 * reqFree p 0)), 4),
      (b2n (!p.ntf.msgs.isEmpty), 1), (b2n (!p.rsp.msgs.isEmpty), 0)]

/-- `INT_STAT` takes every level bit whose condition holds (R149). -/
def PortSt.refresh (p : PortSt) : PortSt := { p with intStat := p.intStat ||| levelBits p }

/-- An event bit of `INT_STAT` set. -/
def PortSt.setInt (p : PortSt) (i : Nat) : PortSt := { p with intStat := p.intStat ||| wd (2 ^ i) }

/-- A message placed in a return queue. -/
def PortSt.putMsg (p : PortSt) (r : Nat) (m : RMsg) : PortSt :=
  (p.setRet r { p.ret r with msgs := (p.ret r).msgs ++ [m] }).refresh

/-- A message fits in a return queue. -/
def PortSt.fits (p : PortSt) (r : Nat) (m : RMsg) : Bool := decide (retUsed (p.ret r) + m.words.length ≤ retCap r)

/-- A completion notification waits for the placing of its ACCEPTED response (R144). -/
def PortSt.mayPlace (p : PortSt) (r : Nat) (h : Held) : Bool :=
  p.fits r h.msg && (h.isRsp || !(p.rsp.held.any fun x => x.isRsp && x.id == h.id))

/-- A response or completion notification placed: its reservation is released (R141) and a response leaves `INFLIGHT`. -/
def PortSt.placeHeld (p : PortSt) (r : Nat) (h : Held) : PortSt :=
  { (p.putMsg r h.msg) with reserved := p.reserved - h.frees, inflight := p.inflight - b2n h.isRsp }

/-- A response or completion notification produced: placed, or held in order (R143). -/
def PortSt.produce (p : PortSt) (r : Nat) (h : Held) : PortSt :=
  if (p.ret r).held.isEmpty && p.mayPlace r h then p.placeHeld r h
  else p.setRet r { p.ret r with held := (p.ret r).held ++ [h] }

/-- One port's state changed. -/
def onPort (p : Fin 4) (f : PortSt → PortSt) (s : State) : State := { s with ports := s.ports.upd p f }

/-- A spontaneous notification on one port (R145, R164): placed, with its event bit of `INT_STAT` if it has one (R148), or
dropped and counted. -/
def PortSt.notify (p : PortSt) (code src : Nat) (cyc : Word) (payload : List Word) (intBit : Option Nat) : PortSt :=
  let m : RMsg := ⟨packW [(1, 31), (code, 16), (payload.length, 0)] :: packW [(src, 24), (p.nseq, 0)] :: cyc :: payload, none⟩
  let p1 := { p with nseq := (p.nseq + 1) % 2 ^ 24 }
  if p1.fits 1 m then (match intBit with | none => p1.putMsg 1 m | some i => (p1.putMsg 1 m).setInt i)
  else ({ p1 with ntfLost := sat 16 (p1.ntfLost + 1), lostSince := p1.lostSince + 1 }).setInt 13

/-- A spontaneous notification that arose in a cycle, to one port; a drop is logged as EV_NTF_LOST, limited per port (R145). -/
def notifyAt (cyc : Word) (p : Fin 4) (code src : Nat) (payload : List Word) (s : State) (intBit : Option Nat := none) : State :=
  let old := (s.ports.get p).lostSince
  let s1 := onPort p (fun q => q.notify code src cyc payload intBit) s
  if (s1.ports.get p).lostSince = old then s1
  else logLim evNtfLost p.val (fun n => [wd p.val, wd n]) s1

/-- A spontaneous notification to one port. -/
def notify (p : Fin 4) (code src : Nat) (payload : List Word) (s : State) (intBit : Option Nat := none) : State :=
  notifyAt (cycLo s) p code src payload s intBit

/-- A spontaneous notification to every present port that a test admits. -/
def notifyPorts (test : Fin 4 → Bool) (code src : Nat) (payload : List Word) (s : State) : State :=
  allPorts.foldl (fun s p => if portPresent s p && test p then notify p code src payload s else s) s

/-- A spontaneous notification of a block: to the ports that its world admits (R153). -/
def notifyBlock (block code : Nat) (payload : List Word) (s : State) : State :=
  notifyPorts (fun p => reaches s p block) code block payload s

/-! ### Modes and flags -/

/-- A watchdog restarted with its full timeout (R68). -/
def Watchdog.restart (w : Watchdog) (ticks : Nat) : Watchdog :=
  { w with running := true, expired := false, deadline := ticks + w.timeout * 40000000 }

/-- Every present port's watchdog restarted (R68). -/
def restartAll (s : State) : State :=
  allPorts.foldl (fun s p => if portPresent s p then { s with wd := s.wd.upd p fun w => w.restart s.clk.ticks } else s) s

/-- A watchdog set running without a restart: its time starts, and a silence stands. -/
def Watchdog.resume (w : Watchdog) (ticks : Nat) : Watchdog :=
  { w with running := true, deadline := ticks + w.timeout * 40000000 }

/-- The mode is one in which the watchdogs restart on entry from BOOT or COMMISSION. -/
def wdMode (m : Mode) : Bool := match m with | .run => true | .degraded => true | .service => true | _ => false

/-- EV_MODE_CHANGE and the mode notification, when the mode or a flag differs from before (R65). -/
def reportMode (oldMode : Mode) (oldFlags cause : Nat) (s : State) : State :=
  if oldMode = s.pwr.mode ∧ oldFlags = flagsByte s then s
  else
    let s1 := logNs evModeChange 0xFF [modeCode oldMode, modeCode s.pwr.mode, oldFlags, flagsByte s, cause] s
    if oldMode = .boot ∨ s.pwr.mode = .boot then s1
    else
      allPorts.foldl (fun s' p =>
        if portPresent s' p then
          notify p 0x0102 0 [packW [(modeCode oldMode, 24), (modeCode s.pwr.mode, 16), (oldFlags, 8), (flagsByte s, 0)],
              wd cause] s' (some 14)
        else s') s1

/-- The mode and the watchdogs follow a change already made to the state (R62, R65, R68): `old` is the state before it. In a HANDOVER window
opened from COMMISSION the watchdogs run; DESIGN CHOICE (log entry 21, on the watchdogs): with their full timeouts, and a silence stands, since
R68 names no restart there. -/
def settleMode (old : State) (cause : Nat) (s : State) : State :=
  if !served s then reportMode old.pwr.mode (flagsByte old) cause s
  else
    let m := modeNow s
    let s1 :=
      if wdMode m && allPorts.all (fun p => !(s.wd.get p).running) then
        let s' := restartAll s
        { s' with pwr := { s'.pwr with autonomous := autoCond s' } }
      else if m = .commission then { s with wd := s.wd.map fun w => { w with running := false } }
      else if m = .handover && allPorts.all (fun p => !(s.wd.get p).running) then
        allPorts.foldl (fun s p => if portPresent s p then { s with wd := s.wd.upd p fun w => w.resume s.clk.ticks } else s) s
      else s
    reportMode old.pwr.mode (flagsByte old) cause { s1 with pwr := { s1.pwr with mode := modeNow s1 } }

/-- `SAFE` applied to the outputs of a mask (R380): off, on, or hold, which is off where no prior state stands; logged with its cause. -/
def applySafe (cause mask : Nat) (prior : Bool) (s : State) : State :=
  if mask = 0 then s
  else
    let d := (List.range 8).map fun k =>
      let o := s.io.dout.getD k default
      if mask.testBit k then { o with out := if o.safe = 1 then true else if o.safe = 2 then o.out && prior else false } else o
    logEv evDoutSafe 0xFF [wd cause, wd mask] { s with io := { s.io with dout := d } }

/-- AUTONOMOUS evaluated (R69): `clearCause` is the cause of a clearing. Its entry applies `SAFE` to the outputs with `AUTO_SAFE`,
whose cause is numbered 2 (R380). -/
def evalAuto (clearCause : Nat) (s : State) : State :=
  let a := autoCond s
  if a = s.pwr.autonomous then s
  else
    let s1 := settleMode s (if a then evHostSilent else clearCause) { s with pwr := { s.pwr with autonomous := a } }
    if a && !withdrawn s 0x0F then applySafe 2 (maskOf 8 fun k => (s.io.dout.getD k default).autoSafe) true s1 else s1

/-! ### The timeline event queue -/

/-- Entries of the secure reserve, of the shared share, and of one port's alarms in use (R86). -/
def tlSecureUsed (t : Timeline) : Nat := (t.entries.filter fun e => e.secureShare).length
/-- Host alarms in use. -/
def tlAlarms (t : Timeline) : Nat := (t.entries.filter fun e => match e.kind with | .alarm _ _ => true | _ => false).length
/-- Shared entries in use. -/
def tlSharedUsed (t : Timeline) : Nat := t.entries.length - tlSecureUsed t - tlAlarms t

/-- `n` entries of a block find room (R86, R87). -/
def tlRoom (t : Timeline) (block n : Nat) : Bool :=
  let sec := if 0x11 ≤ block then 1024 - tlSecureUsed t else 0
  decide (n ≤ sec + (7104 - tlSharedUsed t))

/-- A refusal for lack of space is logged (R87): the shares are numbered 0 secure reserve, 1 host alarms, 2 shared. -/
def tlFull (block share : Nat) (s : State) : State :=
  logLim evTtQueueFull 0xFF (fun n => [wd block, wd share, wd n]) s

/-- A target TT that a post may name: later than now and at most 2^32 cycles ahead (R87). -/
def tlTargetOk (s : State) (target : Nat) : Bool :=
  decide (s.tt.tt < target) && decide (target ≤ s.tt.tt + 2 ^ 32 * 4096)

/-- An entry put into the queue. -/
def tlPut (target rank block : Nat) (kind : TlKind) (active : Bool) (s : State) : State :=
  let t := s.tl
  let secure := decide (0x11 ≤ block) && decide (tlSecureUsed t < 1024)
  let entries := t.entries ++ [⟨target, rank, t.nextSeq, block, secure, kind, active⟩]
  { s with tl := ⟨entries, t.nextSeq + 1, Nat.max t.peak entries.length⟩ }

/-- A post for the next boundary or a later target: none where it is refused for lack of space, which is logged. -/
def tlPost (target rank block : Nat) (kind : TlKind) (s : State) : Option State :=
  if tlRoom s.tl block 1 then some (tlPut target rank block kind true s) else none

/-- An entry whose action is carried out in hardware during HANDOVER (R90): key commits, flips and DOUT, and Tether's own switch of its
source, since Tether runs in hardware (R66). -/
def tlHardware (k : TlKind) : Bool :=
  match k with
  | .source _ => true | .keyCommit _ => true | .sgnFlip => true | .dout _ => true | .doutReturn _ _ => true | _ => false

/-- Entry `a` fires before entry `b` (R88). -/
def tlBefore (a b : TlEntry) : Bool :=
  decide (a.target < b.target) ||
    (a.target == b.target && (decide (a.rank < b.rank) || (a.rank == b.rank && decide (a.seq < b.seq))))

/-- The entry that fires now, if one is due (R88, R90). -/
def tlDue (s : State) : Option TlEntry :=
  (s.tl.entries.filter fun e =>
      e.active && decide (e.target ≤ s.tt.tt) && (!s.upd.windowOpen || tlHardware e.kind)).foldl
    (fun m e => match m with | none => some e | some x => if tlBefore e x then some e else some x) none

/-- An entry removed. -/
def tlRemove (seq : Nat) (s : State) : State :=
  { s with tl := { s.tl with entries := s.tl.entries.filter fun e => e.seq != seq } }

/-- The entries of a kind removed. -/
def tlCancel (p : TlKind → Bool) (s : State) : State :=
  { s with tl := { s.tl with entries := s.tl.entries.filter fun e => !p e.kind } }

/-- An entry of the queue is due that comes before an action of some target and rank (R88, R89). -/
def tlAhead (s : State) (target rank : Nat) : Bool :=
  match tlDue s with
  | some e => decide (e.target < target) || (e.target == target && decide (e.rank < rank))
  | none => false

/-- Fire the due entry if `f` has a meaning for its kind; otherwise nothing happens. -/
def tlFire (f : TlKind → TlEntry → Option (State → State)) (s : State) : State :=
  match tlDue s with
  | none => s
  | some e => match f e.kind e with
    | none => s
    | some g => g (tlRemove e.seq s)

/-! ### Requests -/

/-- Fields of a request's header (R157). -/
def Req.opcode (r : Req) : Nat := fld (wAt r.words 0) 31 16
/-- `LEN`. -/
def Req.len (r : Req) : Nat := fld (wAt r.words 0) 15 0
/-- `TAG`. -/
def Req.tag (r : Req) : Word := wAt r.words 1
/-- `ORDERED`. -/
def Req.orderedF (r : Req) : Bool := bit (wAt r.words 2) 31
/-- `AAC`. -/
def Req.aac (r : Req) : Bool := bit (wAt r.words 2) 30
/-- `NTF`. -/
def Req.ntf (r : Req) : Bool := bit (wAt r.words 2) 29
/-- `CSEQ`. -/
def Req.cseq (r : Req) : Bool := bit (wAt r.words 2) 28
/-- `SEQ`. -/
def Req.seqNo (r : Req) : Nat := fld (wAt r.words 2) 27 16
/-- A word of the request, by the spec's numbering (payload from word 3). -/
def Req.w (r : Req) (i : Nat) : Word := wAt r.words i

/-- What a failed check answers: its place in R167, the status, and the detail word's fields (R162). -/
structure Fail where
  chk : Nat
  status : Nat
  word : Nat
  cause : Nat
  deriving DecidableEq, Repr

/-- A check of R167: a failure unless the condition holds. -/
def need (chk : Nat) (ok : Bool) (status : Nat) (word : Nat := 0xFFFF) (cause : Nat := 0) : Option Fail :=
  if ok then none else some ⟨chk, status, word, cause⟩

/-- The failure names a request word, where it names none yet (R162). -/
def inWord (i : Nat) (f : Option Fail) : Option Fail := f.map fun x => if x.word = 0xFFFF then { x with word := i } else x

/-- The failure that comes first: that of the earlier check of R167, or the one listed first among those of one check. -/
def firstOf (f : Fail) : Option Fail → Fail
  | none => f
  | some g => if g.chk < f.chk then g else f

/-- The first failure of a list of checks, in the order of R167. -/
def firstFail : List (Option Fail) → Option Fail
  | [] => none
  | some f :: t => some (firstOf f (firstFail t))
  | none :: t => firstFail t

/-- Modes in which commands are served (R66, R176): the general rule. -/
def modeServed (s : State) : Bool :=
  !s.pwr.bootHalt && (match s.pwr.mode with
    | .commission => true | .run => true | .degraded => true | .service => true | _ => false)

/-- Checks 2 to 5 of R167: home queue, mode, length, header word 2 (R158, R160). `aacOk` and `seqOk` tell whether the command
takes `AAC` and `CSEQ`. -/
def headChecks (r : Req) (row : OpRow) (modeOk : Bool) (lenOk : Bool) (s : State) : Option Fail :=
  let w2 := r.w 2
  let seqCmd := decide (0x0601 ≤ row.code) && decide (row.code ≤ 0x0603) && !(row.code == 0x0601 && bit (r.w 3) 31)
  if r.again then none
  else firstFail
    [ need 2 (match row.home with | none => true | some q => q == r.queue) stWrongQueue,
      need 3 ((s.pwr.bootHalt && row.markR && portSecure s r.port) || (!s.pwr.bootHalt && modeOk)) stBadState,
      need 4 lenOk stBadLength 0,
      need 5 ((!r.aac || row.markA) && (!r.cseq || seqCmd) && (r.cseq || fld w2 27 16 == 0) && (r.aac || fld w2 15 0 == 0))
        stBadParam 2 ]

/-- Check 9's `AAC` part (R158, R159): the target was 1 to 32,767 cycles ahead at the take and is still ahead. -/
def aacCheck (r : Req) (s : State) : Option Fail :=
  need 9 (!r.aac || (match r.target with | none => false | some t => decide (cycOf s < t))) stAacLate 2

/-- The target of an `AAC` request, or the next cycle (R172 and the owning chapters). -/
def targetCyc (r : Req) (s : State) : Nat :=
  match r.target with | some t => t | none => cycOf s + 1

/-- Check 7 for a command that requires a secure host, naming a block (0 for a SYS command, R162). -/
def needSecure (r : Req) (s : State) (block : Nat) : Option Fail :=
  need 7 (portSecure s r.port) stWorld 0xFFFF (block * 256 + 0xFF)

/-- Check 7 for a block. -/
def needWorld (r : Req) (s : State) (block : Nat) (inst : Nat := 0xFF) : Option Fail :=
  need 7 (reaches s r.port block) stWorld 0xFFFF (block * 256 + inst)

/-- Check 6 for a block. -/
def needPresent (s : State) (block : Nat) : Option Fail :=
  need 6 (blockPresent s.dev.variant block) stAbsent 0xFFFF (block * 256 + 0xFF)

/-- Check 8 for a block: withdrawn under Ballast (activity code 1 to 3 of a block withdrawal is `cause`). -/
def needInService (s : State) (block cause : Nat) : Option Fail :=
  need 8 (!withdrawn s block) stBusyMaint 0xFFFF cause

/-- Check 6 for a new owner mask: no bit of an absent port (R154). -/
def needOwnerPorts (s : State) (mask : Nat) : Option Fail :=
  match allPorts.find? fun p => mask.testBit p.val && !portPresent s p with
  | some p => some ⟨6, stAbsent, 0xFFFF, 0x0300 + p.val⟩
  | none => none

/-- Check 11: the port's bit in an owner mask, which is the cause (R154, R162). -/
def needOwner (r : Req) (mask : Nat) : Option Fail := need 11 (mask.testBit r.port.val) stNotOwner 0xFFFF mask

/-- OWNER_CHANGE to every present port of the old or new mask (R155, R165): object type 1 group, 2 corridor, 3 endpoint. -/
def ownerChange (type id : Nat) (r : Req) (old new : Nat) (s : State) : State :=
  if old = new then s
  else notifyPorts (fun p => old.testBit p.val || new.testBit p.val) 0x0106 0
    [packW [(type, 28), (r.port.val, 26), (old, 20), (new, 16)], wd id] s

/-- A status's message: header and payload (R161). -/
def rspWords (status : Nat) (tag : Word) (cyc : Word) (payload : List Word) : List Word :=
  packW [(status, 16), (payload.length, 0)] :: tag :: cyc :: payload

/-- The detail word (R162). -/
def detail (f : Fail) : Word := packW [(f.word, 16), (f.cause, 0)]

/-- A request's completion ends its hold on the fence (R159). -/
def endOrdered (p : Fin 4) (id : Nat) (s : State) : State :=
  { s with cmd := { s.cmd with ordered := s.cmd.ordered.filter fun x => !(x.1 == p && x.2 == id) } }

/-- The final response of a request: its whole reservation goes with it. -/
def respondMsg (r : Req) (status : Nat) (payload : List Word) (lock : Option (Nat × Nat)) (s : State) : State :=
  endOrdered r.port r.id
    (onPort r.port (fun p => p.produce 0 ⟨⟨rspWords status r.tag (cycLo s) payload, lock⟩, r.resRsp + r.resNtf, r.id, true⟩) s)

/-- The final response of a request. -/
def respond (r : Req) (status : Nat) (payload : List Word) (s : State) : State := respondMsg r status payload none s

/-- OK with a payload. -/
def ok (r : Req) (payload : List Word) (s : State) : State := respond r stOk payload s

/-- The final response of a failed check: the detail word, but none for BAD_OPCODE (R161). -/
def failReq (r : Req) (f : Fail) (s : State) : State :=
  respond r f.status (if f.status = stBadOpcode then [] else [detail f]) s

/-- ACCEPTED: the reservation of the completion notification stays (R163). -/
def accept (r : Req) (s : State) : State :=
  onPort r.port (fun p => p.produce 0 ⟨⟨rspWords stAccepted r.tag (cycLo s) [], none⟩, r.resRsp, r.id, true⟩) s

/-- What a command that completes later keeps (R163). -/
def Req.origin (r : Req) (always : Bool := false) : Origin :=
  ⟨r.port, r.tag, r.id, r.ntf || always, if r.ntf || always then r.resNtf else r.resRsp + r.resNtf, r.opcode⟩

/-- ACCEPTED where the request asked for completion by notification; nothing yet otherwise (R163). -/
def acceptN (r : Req) (s : State) : State := if r.ntf then accept r s else s

/-- The completion of a command: a completion notification, or the final response (R163, R164). -/
def complete (o : Origin) (status : Nat) (payload : List Word) (s : State) : State :=
  let words := rspWords status o.tag (cycLo s) payload
  endOrdered o.port o.id
    (onPort o.port (fun p =>
      if o.ntf then p.produce 1 ⟨⟨words, none⟩, o.resNtf, o.id, false⟩
      else p.produce 0 ⟨⟨words, none⟩, o.resNtf, o.id, true⟩) s)

/-- Completion with a failure's detail word. -/
def completeFail (o : Origin) (f : Fail) (s : State) : State := complete o f.status [detail f] s

/-- The success of a command marked N that completes at once (R163): with `NTF` = 1 ACCEPTED and a completion notification. -/
def okN (r : Req) (payload : List Word) (s : State) : State :=
  if r.ntf then complete r.origin stOk payload (accept r s) else ok r payload s

/-- The later failure of a command marked N, which `NTF` = 1 has had answered ACCEPTED. -/
def failN (r : Req) (f : Fail) (s : State) : State := if r.ntf then completeFail r.origin f s else failReq r f s

/-- The first request that may execute now: requests execute in take order (05, "How the module takes requests"). -/
def firstReady (l : List Req) : Option Req := l.find? fun r => r.ready

/-- Serve the first ready request if its opcode is the one the row names: check it, answer a failure, or act. In a HANDOVER window requests
are held (R66), those already taken too. -/
def serve (code : Nat) (chk : Req → State → Option Fail) (act : Req → State → State) (s : State) : State :=
  match firstReady s.cmd.taken with
  | none => s
  | some r =>
    if r.opcode = code ∧ s.upd.windowOpen = false then
      let s1 := { s with cmd := { s.cmd with taken := s.cmd.taken.filter fun x => x.id != r.id } }
      match chk r s1 with
      | some f => failReq r f s1
      | none => act r s1
    else s

/-- A setting change accepted outside a set: it takes effect at the next cycle boundary as a rank 3 entry (R89); a post
refused for lack of space answers FULL at check 13 (R87). -/
def storeAtBoundary (block : Nat) (r : Req) (s : State) : State :=
  match tlPost (nextBoundary s) 3 block (.config r) s with
  | some s1 => ok r [] s1
  | none => failReq r ⟨13, stFull, 0xFFFF, 0⟩ (tlFull block 2 s)

/-- A settings set now holds stored contents (R175). -/
def markStored (setId : Nat) (s : State) : State := { s with cmd := { s.cmd with setState := tset s.cmd.setState setId 1 } }

/-- A fresh free number (never one the model picks): the counter advances. -/
def freshNat (s : State) : Nat × State :=
  (Config.freeNat s.clk.free, { s with clk := { s.clk with free := s.clk.free + 1 } })

end Sys2Proof.Machine
end

