-- ==== Sys2Proof/Machine/Admission.lean ====
section
/-!
DEFINITION. Ballast's admissions: the concurrency matrix, starting and stopping activities (R488 to R490).
-/
namespace Sys2Proof.Machine

/-- The matrix in force allows activities `a` and `b` together. -/
def allowed (b : Ballast) (x y : Nat) : Bool := (b.matrix.getD (x - 1) 0).testBit y

/-- An activity's 16-bit code (R488). -/
def actCode (a : Activity) : Nat := a.act * 256 + a.inst

/-- Running instances that forbid a start of an activity, in the order in which they started. -/
def blockers (b : Ballast) (act : Nat) : List Activity := b.running.filter fun x => !allowed b act x.act

/-- An internal activity, which a host's request may stop (R489). -/
def internal (a : Activity) : Bool := a.act == 8 || a.act == 9

/-- A running instance ended. -/
def stopAct (act inst : Nat) (s : State) : State :=
  { s with bal := { s.bal with running := s.bal.running.filter fun x => !(x.act == act && x.inst == inst) } }

/-- A running instance begun. -/
def startAct (act inst : Nat) (s : State) : State :=
  { s with bal := { s.bal with running := s.bal.running ++ [⟨act, inst⟩] } }

/-- An internal activity stopped for a host's request: it waits, and EV_ACTIVITY_PREEMPTED is logged (R489). -/
def preempt (code : Nat) (a : Activity) (s : State) : State :=
  let s1 := stopAct a.act a.inst s
  logLim evActivityPreempted 0xFF (fun n => [wd (actCode a), wd code, wd n])
    { s1 with bal := { s1.bal with
      waitCompact := s1.bal.waitCompact || a.act == 8, waitReclaim := s1.bal.waitReclaim || a.act == 9 } }

/-- A refused start counted and logged (R489, R498). -/
def refuseAct (act inst blocker : Nat) (s : State) : State :=
  logLim evBallastRefused 0xFF (fun n => [wd (act * 256 + inst), wd blocker, wd n])
    { s with bal := { s.bal with refusals := updAt s.bal.refusals (act - 1) fun n => sat 16 (n + 1) } }

/-- The start of an activity (R489): admitted, with the internal activities in its way stopped, or refused with the code of the
blocker that started first. -/
def admitAct (act inst : Nat) (s : State) : Except (Nat × State) State :=
  let bs := blockers s.bal act
  let hard := bs.filter fun a => !internal a
  if hard.isEmpty && act != 8 && act != 9 then
    .ok (startAct act inst (bs.foldl (fun s a => preempt (act * 256 + inst) a s) s))
  else match bs.head? with
    | none => .ok (startAct act inst s)
    | some b => .error (actCode b, refuseAct act inst (actCode b) s)

/-- A command that starts an activity goes on, or answers BUSY_MAINT at check 13 (R489). -/
def admitReq (act inst : Nat) (r : Req) (k : State → State) (s : State) : State :=
  match admitAct act inst s with
  | .ok s1 => k s1
  | .error (c, s1) => failReq r ⟨13, stBusyMaint, 0xFFFF, c⟩ s1

/-- One running instance ended where several may share a code: an instance of KEY_ROTATION carries only bits [7:0] of its slot. -/
def stopOne (act inst : Nat) (s : State) : State :=
  { s with bal := { s.bal with running := s.bal.running.erase ⟨act, inst⟩ } }

/-! ### Writes to NOR (R465) -/

/-- One sector of a device fails in an area (numbered by the model for EV_NOR_SECTOR: 0 firmware set, 1 settings, 2 key area, 3 integrity
area, 4 Tether reservation ring, 5 sign failure record): a spare replaces it, which is logged; with none left the write fails. -/
def norSector (dev area : Nat) (a : State × Bool) : State × Bool :=
  let s := a.1
  let left := if dev = 0 then s.mem.norSpare0 else s.mem.norSpare1
  let (sector, s0) := freshNat s
  let left' := left - 1
  let s1 := { s0 with mem := if dev = 0 then { s0.mem with norSpare0 := left' } else { s0.mem with norSpare1 := left' } }
  (logEv evNorSector 0xFF [wd dev, Config.itemCode evNorSector area, wd (sector % 768), wd left'] s1, a.2 && decide (0 < left))

/-- A write to one NOR device in which `f` sectors failed to erase or program; whether it succeeded. -/
def norOn (dev area f : Nat) (s : State) : State × Bool := (List.range f).foldl (fun a _ => norSector dev area a) (s, true)

/-- A write to both NOR devices, in which `f0` and `f1` sectors of devices 0 and 1 failed to erase or program; whether it succeeded
on both. -/
def norWrite (area f0 f1 : Nat) (s : State) : State × Bool :=
  let a := norOn 0 area f0 s
  let b := norOn 1 area f1 a.1
  (b.1, a.2 && b.2)

end Sys2Proof.Machine
end

