-- ==== Sys2Proof/Machine/Tether.lean ====
section
/-!
DEFINITION. Tether: zero-cross sources, lock, holdover and slew, the reservation, anchors, and the TT commands (03).
-/
namespace Sys2Proof.Machine

/-! ### Sources (R71 to R75) -/

/-- A source from which nothing has been seen, watched from a cycle on. -/
def Source.fresh (cyc : Nat) : Source := ⟨none, none, 0, false, none, 0, cyc - 1⟩

/-- A period, in TCXO ticks, qualifies: [1/65.5 s, 1/44.5 s) (R73). -/
def periodOk (p : Nat) : Bool := decide (400000000 ≤ p * 655) && decide (p * 445 < 400000000)

/-- The cycle nearest to a TT value. -/
def nearCyc (tt : Nat) : Nat := (tt + 2048) / 4096

/-- The source has delivered no qualified crossing in four consecutive cycles (R73), counted from when it came to be watched. -/
def Source.silent (x : Source) (cyc : Nat) : Bool := decide (x.lastQual.getD x.since + 5 ≤ cyc)

/-- The source is qualified now (R73). -/
def Source.live (x : Source) (cyc : Nat) : Bool := x.qualified && !x.silent cyc

/-- A crossing falls within the glitch filter (R73). -/
def Source.glitch (x : Source) (stamp : Nat) : Bool :=
  match x.period, x.last with
  | some q, some l => decide (4 * (stamp - l) < 3 * q)
  | _, _ => false

/-- The period from the previous crossing of the same source. -/
def Source.periodAt (x : Source) (stamp : Nat) : Option Nat := x.last.map fun l => stamp - l

/-- A crossing judged (R73): the source after it, and its period if it is qualified. -/
def Source.judge (x : Source) (stamp tt cyc : Nat) : Source × Option Nat :=
  let x := if x.silent cyc then { x with qualified := false } else x
  match x.periodAt stamp with
  | some p =>
    if periodOk p then
      ({ x with last := some stamp, period := some p, run := x.run + 1, qualified := x.qualified || decide (16 ≤ x.run + 1),
                lastQual := some (nearCyc tt), streak := x.streak + 1 }, some p)
    else ({ x with last := some stamp, period := none, run := 1, streak := 0 }, none)
  | none => ({ x with last := some stamp, period := none, run := 1, streak := 0 }, none)

/-- Wrapped into −2,048 to +2,047 pu (R77). -/
def wrapPu (x : Int) : Int := (x + 2048) % 4096 - 2048

/-- Code of the active source. DESIGN CHOICE (log entry 24, on the sources): the configured source stays the active one, and `SOURCE` of TT.STATUS
gives its code, also in FREE and HOLDOVER while nothing is seen of it; R95 does not say when no source is active. -/
def activeCode (t : Tether) : Nat := if t.onSecondary then t.cfg.secondary else t.cfg.primary

/-- Line of a source code: the declared line of ZC_IN, or p of a metering source (R74). -/
def sourceLine (c : TtCfg) (code : Nat) : Nat := if code = 1 then c.zcLine else code % 4

/-- The nominal offset of the secondary: 0, 1,365 or 2,731 pu (R75). -/
def nominalOffset (c : TtCfg) : Int :=
  let d := (sourceLine c c.secondary + 3 - sourceLine c c.primary) % 3
  if d = 0 then 0 else if d = 1 then 1365 else 2731

/-- The learned offset, valid after 64 measurements (R75): their mean, taken about the oldest. -/
def learnedOffset (t : Tether) : Option Int :=
  if t.offsets.length = 64 then
    match t.offsets.getLast? with
    | none => none
    | some r => some (wrapPu (r + roundDiv ((t.offsets.map fun x => wrapPu (x - r)).foldl (· + ·) 0) 64))
  else none

/-- The offset a secondary crossing is corrected by (R75). -/
def usedOffset (t : Tether) : Int := (learnedOffset t).getD (nominalOffset t.cfg)

/-! ### Lock states (R77 to R81) -/

/-- `HOLD_DRIFT_US` (R80): 0.5 ppm of the time since the last qualified crossing, in µs. -/
def driftUs (s : State) : Nat := (s.clk.ticks - s.tt.lastQualTick) / 80000000

/-- The frequency lies outside the range of STRAP2 (R76). -/
def nomMismatch (s : State) (freq : Nat) : Bool :=
  if s.pwr.straps.getLsbD 2 then decide (freq < 55 * 65536) || decide (65 * 65536 < freq)
  else decide (freq < 45 * 65536) || decide (55 * 65536 < freq)

/-- NOM_MISMATCH set and logged once per BOOT (R76). -/
def checkNominal (s : State) : State :=
  if nomMismatch s s.tt.freq && !s.tt.nomMismatch then
    logNs evTtNominalMismatch 0xFF [b2n (s.pwr.straps.getLsbD 2), s.tt.freq]
      { s with tt := { s.tt with nomMismatch := true } }
  else s

/-- HOLD clears: the deferred transactions are QUEUED (R270). -/
def undefer (s : State) : State :=
  { s with txn := { s.txn with txns := s.txn.txns.map fun t => if t.st == .deferred then { t with st := .queued } else t } }

/-- Entry to LOCKED (R79): HOLD and SLEW clear. -/
def enterLocked (s : State) : State :=
  let s1 := undefer { s with tt := { s.tt with
    state := .locked, since := cycOf s, slewLeft := 0, slewAcc := 0, cycAdj := 0, good := 0, bad := [] } }
  checkNominal (settleMode s evTtLocked
    (logNs evTtLocked 0xFF [lockCode s.tt.state, s1.tt.freq, activeCode s.tt] s1))

/-- A slew that removes `e` begins (R81): the first cycle takes 32 pu of it, or all that there is. -/
def Tether.startSlew (e : Int) (t : Tether) : Tether :=
  let d : Int := (Nat.min 32 e.natAbs : Nat)
  { t with slewLeft := e.natAbs, slewPos := decide (0 < e), cycAdj := if 0 < e then d else -d, slewAcc := 0 }

/-- A cycle of a slew has passed (R81): what it removed is no longer left, and the next takes up to 32 pu. -/
def Tether.slewNext (t : Tether) : Tether :=
  let left := t.slewLeft - t.cycAdj.natAbs
  let d : Int := (Nat.min 32 left : Nat)
  { t with slewLeft := left, cycAdj := if t.slewPos then d else -d }

/-- Entry to SLEW (R79, R81): the slew removes `e`, at the measured frequency; HOLD is kept when entered from FREE or HOLDOVER. -/
def enterSlew (e : Int) (s : State) : State :=
  let hold := match s.tt.state with | .free => true | .holdover => true | _ => false
  let s1 := { s with tt := { Tether.startSlew e s.tt with
    state := .slew, slewHold := hold, since := cycOf s, rate := s.tt.freq, good := 0, bad := [] } }
  if hold then
    settleMode s evTtSlew (logNs evTtSlew 0xFF [ofSigned 32 e, lockCode s.tt.state] s1)
  else
    let marks := s.tt.bad.reverse.map fun x => match x with | some v => wd (ofSigned 32 v) | none => Config.outlierMark
    settleMode s evTtPhaseStep (logEv evTtPhaseStep 0xFF marks s1)

/-- The frequency of a period of `p` TCXO ticks, Hz × 65,536. -/
def periodFreq (p : Nat) : Nat := 65536 * 40000000 / p

/-- The phase correction of one cycle while LOCKED, limited to 4 pu (R77): the loop's own within the lock limit of 8 pu, all of the 4 pu
towards the mains beyond it. DEDUCED (log entry 23, on the loop): with less, the count would not follow 2 Hz/s. -/
def lockAdj (e : Int) : Int := if 8 < e then 4 else if e < -8 then -4 else clampI (-4) 4 (Config.loopPhase e)

/-- The loop follows a qualified crossing of period `p` with phase error `e` (R77, R78): the estimate is the loop's, the count follows the
mains. DEDUCED (log entry 23, on the loop): it follows the last period, so that a change of up to 2 Hz/s moves e by no more than about 4 pu a
cycle, which the correction takes back. -/
def followLoop (e : Int) (p : Nat) (t : Tether) : Tether :=
  { t with freq := Config.loopFreq t.freq p, rate := periodFreq p, cycAdj := lockAdj e }

/-- Is |e| within the lock limit of 8 pu? -/
def inLock (e : Int) : Bool := decide (e.natAbs ≤ 8)

/-- A qualified crossing of the active, qualified source, with phase error `e` (R77, R79). -/
def phaseStep (e : Int) (p : Nat) (s : State) : State :=
  let s := { s with tt := { s.tt with phaseErr := e, lastQualTick := s.clk.ticks } }
  match s.tt.state with
  | .locked =>
    let out := decide (512 < e.natAbs)
    let t := if out then s.tt else followLoop e p s.tt
    let bad := if out then none :: t.bad else if 64 < e.natAbs then some e :: t.bad else []
    let s1 := { s with tt := { t with bad := bad } }
    if 4 ≤ bad.length then enterSlew e s1 else checkNominal s1
  | .slew =>
    let f := Config.loopFreq s.tt.freq p
    let t := { s.tt with freq := f, rate := f }
    let good := if inLock e then t.good + 1 else 0
    let t := if t.slewLeft = 0 && !inLock e then Tether.startSlew e t else t
    let s1 := { s with tt := { t with good := good } }
    if t.slewLeft = 0 && decide (8 ≤ good) then enterLocked { s1 with tt := { s1.tt with rate := periodFreq p } } else s1
  | _ =>
    let t := { s.tt with freq := Config.loopFreq s.tt.freq p }
    if inLock e then
      let s1 := { s with tt := { t with good := t.good + 1 } }
      if 8 ≤ s1.tt.good then enterLocked { s1 with tt := { s1.tt with rate := periodFreq p } } else s1
    else enterSlew e { s with tt := t }

/-- TT at an earlier TCXO tick, by the rate of the count. -/
def ttAt (s : State) (stamp : Nat) : Nat :=
  s.tt.tt - (s.clk.ticks - stamp) * s.tt.rate * (4096 - s.tt.cycAdj).toNat / (65536 * 40000000)

/-- Length of a TT cycle in TCXO ticks, at the rate in force: with each slewed cycle (R85). -/
def cycleTicks (s : State) : Nat := 4096 * (65536 * 40000000) / Nat.max 1 (s.tt.rate * (4096 - s.tt.cycAdj).toNat)

/-- A crossing of the primary (`isSec` false) or the secondary source, stamped at a TCXO tick. -/
def crossing (isSec : Bool) (stamp : Nat) (s : State) : State :=
  let x := if isSec then s.tt.sec else s.tt.prim
  if x.glitch stamp then s
  else
    let at_ := ttAt s stamp
    let (x', per) := x.judge stamp at_ (cycOf s)
    let t := if isSec then { s.tt with sec := x' } else { s.tt with prim := x' }
    let phase : Int := ttPh at_
    let learn := isSec && per.isSome && t.state == .locked && t.prim.live (cycOf s) && x'.live (cycOf s)
    let t := if learn then { t with offsets := (wrapPu phase :: t.offsets).take 64 } else t
    let s1 := { s with tt := t }
    match per with
    | none => if isSec == t.onSecondary then { s1 with tt := { s1.tt with good := 0 } } else s1
    | some p =>
      if isSec == t.onSecondary && x'.live (cycOf s) then
        phaseStep (wrapPu (phase - (if isSec then usedOffset t else 0))) p s1
      else s1

/-- ZC_EDGE (R71, R73): an edge on ZC_IN. Only the edge `ZC_POL` names is used, and only while ZC_IN is a configured source. -/
def execZcEdge (rising : Bool) (s : State) : Host.Outcome State Fault Refusal :=
  .next
    (let c := s.tt.cfg
     let stamp := s.clk.ticks - c.zcDelay * 40
     if s.tt.running && (rising != c.zcPol) then
       if c.primary = 1 then crossing false stamp s
       else if c.secondary = 1 then crossing true stamp s
       else s
     else s)

/-- A metering source is usable: its voltage channel is configured and running (R72). -/
def meterSourceOk (s : State) (code : Nat) : Bool := decide (code % 4 ≠ 0) && (s.mtr.feeders.getD (code % 16 / 4) default).cfg.enable && !withdrawn s 0x0B

/-- METER_CROSSING (R72): a crossing interpolated from a feeder's voltage channel. -/
def execMeterCrossing (src : Nat) (s : State) : Host.Outcome State Fault Refusal :=
  .next
    (if s.tt.running && decide (0x11 ≤ src) && decide (src ≤ 0x1F) && meterSourceOk s src then
       if s.tt.cfg.primary = src then crossing false s.clk.ticks s
       else if s.tt.cfg.secondary = src then crossing true s.clk.ticks s
       else s
     else s)

/-- The active source and any other usable one have been silent for four cycles (R79). DESIGN CHOICE (log entry 24, on the sources): the other
source is usable while it is qualified. -/
def noSource (s : State) : Bool :=
  let act := if s.tt.onSecondary then s.tt.sec else s.tt.prim
  let oth := if s.tt.onSecondary then s.tt.prim else s.tt.sec
  let othCode := if s.tt.onSecondary then s.tt.cfg.primary else s.tt.cfg.secondary
  act.silent (cycOf s) && (othCode == 0 || !oth.live (cycOf s))

/-- HOLDOVER_ENTRY (R79, R80). -/
def execHoldoverEntry (s : State) : Host.Outcome State Fault Refusal :=
  .next
    (let from_ := match s.tt.state with | .locked => true | .slew => true | _ => false
     let act := if s.tt.onSecondary then s.tt.sec else s.tt.prim
     if s.tt.running && from_ && noSource s then
       let s1 := { s with tt := { s.tt with
         state := .holdover, since := cycOf s, rate := s.tt.freq, slewLeft := 0, slewAcc := 0, cycAdj := 0, good := 0, bad := []
         holdTick := s.clk.ticks, longLogged := false } }
       settleMode s evTtHoldover (logNs evTtHoldover 0xFF [s1.tt.freq, act.lastQual.getD 0] s1)
     else s)

/-- EV_TT_SOURCE for a switch (R75, R96): the offset used, and 0 learned or 1 nominal. -/
def logSwitch (oldSrc newSrc : Nat) (off : Int) (learned : Bool) (s : State) : State :=
  logNs evTtSource 0xFF [oldSrc, newSrc, ofSigned 32 off, b2n (!learned)] s

/-- The switch to a source, at its boundary (R75). The eight crossings towards LOCKED begin anew. DESIGN CHOICE (log entry 24, on the sources): on
the return to the primary EV_TT_SOURCE gives an offset of 0, with the mark of the offset that the secondary was corrected by. -/
def switchSource (toSec : Bool) (s : State) : State :=
  let c := s.tt.cfg
  let learned := (learnedOffset s.tt).isSome
  let s1 := { s with tt := { s.tt with onSecondary := toSec, switching := false, good := 0 } }
  if toSec then logSwitch c.primary c.secondary (usedOffset s.tt) learned s1 else logSwitch c.secondary c.primary 0 learned s1

/-- A switch is posted for the next cycle boundary, as a rank 0 entry (R75, R89). -/
def postSwitch (toSec : Bool) (s : State) : State :=
  match tlPost (nextBoundary s) 0 1 (.source toSec) s with
  | some s1 => { s1 with tt := { s1.tt with switching := true } }
  | none => tlFull 1 2 s

/-- The entry of a switch fires, if it is due. -/
def fireSwitch (toSec : Bool) (s : State) : State :=
  tlFire (fun k _ => match k with | .source b => if b = toSec then some (switchSource toSec) else none | _ => none) s

/-- SECONDARY_SWITCH (R75): the primary has failed and the secondary is qualified, and the switch is posted for the next boundary; or the
entry posted for it fires. -/
def execSecondarySwitch (s : State) : Host.Outcome State Fault Refusal :=
  .next
    (if s.tt.running && !s.tt.onSecondary && !s.tt.switching && s.tt.cfg.secondary != 0 && s.tt.prim.silent (cycOf s) &&
        s.tt.sec.live (cycOf s) then postSwitch true s
     else fireSwitch true s)

/-- PRIMARY_RETURN (R75): after 256 consecutive qualified primary crossings, the last of them recent, the return is posted for the next
boundary; or the entry posted for it fires. -/
def execPrimaryReturn (s : State) : Host.Outcome State Fault Refusal :=
  .next
    (if s.tt.running && s.tt.onSecondary && !s.tt.switching && decide (256 ≤ s.tt.prim.streak) && !s.tt.prim.silent (cycOf s) then
       postSwitch false s
     else fireSwitch false s)

/-- EV_TT_HOLDOVER_LONG (R80): once, after `HOLD_ALARM_MIN` minutes of holdover. -/
def execEvTtHoldoverLong (s : State) : Host.Outcome State Fault Refusal :=
  .next
    (let mins := (s.clk.ticks - s.tt.holdTick) / 2400000000
     if s.tt.running && s.tt.state == .holdover && s.tt.cfg.holdAlarm != 0 && !s.tt.longLogged &&
        decide (s.tt.cfg.holdAlarm ≤ mins) then
       logNs evTtHoldoverLong 0xFF [mins, driftUs s] { s with tt := { s.tt with longLogged := true } }
     else s)

/-! ### The reservation (R83) -/

/-- A slot of a ring after a write: the record, or nothing where the write does not read back. -/
def putRing (slot : Nat) (v : Nat × Nat) (ok : Bool) (ring : Tbl (Nat × Nat)) : Tbl (Nat × Nat) :=
  if ok then tset ring slot v else tdel ring slot

/-- The record written to the next slot of both rings (R83): confirmed when it reads back from at least one, and a failed write is retried
in the slot after. -/
def Reserve.write (c : Nat) (ok0 ok1 : Bool) (r : Reserve) : Reserve :=
  { r with
    ring0 := putRing r.slot (c, r.epoch) ok0 r.ring0, ring1 := putRing r.slot (c, r.epoch) ok1 r.ring1, slot := (r.slot + 1) % 64
    ceiling := if ok0 || ok1 then c else r.ceiling }

/-- The larger confirmed R of the two rings (R83): 0 where neither holds one. -/
def Reserve.boot (r : Reserve) : Nat := ((r.ring0 ++ r.ring1).map fun x => x.2.1).foldl Nat.max 0

/-- The ceiling that the count's last multiple of 2^20 calls for. -/
def ceilingDue (s : State) : Nat := (cycOf s / 2 ^ 20 + 2) * 2 ^ 20

/-- RESERVATION_WRITE (R83, R465): a ceiling is written to both rings; it is confirmed when it reads back from at least one. `f0` and
`f1`: sectors that failed on each device. -/
def execReservationWrite (f0 f1 : Nat) (s : State) : Host.Outcome State Fault Refusal :=
  .next
    (if s.tt.running && decide (s.tt.reserve.ceiling < ceilingDue s) then
       let a := norOn 0 4 f0 s
       let b := norOn 1 4 f1 a.1
       let r := b.1.tt.reserve.write (ceilingDue s) a.2 b.2
       let r' := if a.2 || b.2 then { r with pend := none, logged := 0 }
         else { r with pend := some (ceilingDue s, r.pend.elim (cycOf s / 2 ^ 20 * 2 ^ 20) Prod.snd) }
       { b.1 with tt := { b.1.tt with reserve := r' } }
     else s)

/-- EV_TT_RESERVE_FAIL: 2^19 cycles past the boundary of an unconfirmed write, and every 2^19 cycles. -/
def execEvTtReserveFail (s : State) : Host.Outcome State Fault Refusal :=
  .next
    (match s.tt.reserve.pend with
     | none => s
     | some (c, trig) =>
       if trig + 2 ^ 19 * (s.tt.reserve.logged + 1) ≤ cycOf s then
         logNs evTtReserveFail 0xFF [c, cycOf s - trig]
           { s with tt := { s.tt with reserve := { s.tt.reserve with logged := s.tt.reserve.logged + 1 } } }
       else s)

/-- RESERVE_CEILING_REACHED: the count keeps on, and `RESERVE_LOST` is set. -/
def execReserveCeilingReached (s : State) : Host.Outcome State Fault Refusal :=
  .next
    (if s.tt.running && decide (s.tt.reserve.ceiling ≤ cycOf s) then
       { s with tt := { s.tt with reserve := { s.tt.reserve with lost := true } } }
     else s)

/-! ### Anchors (R91 to R93) -/

/-- The anchor of this instant. -/
def anchorNow (s : State) : Anchor :=
  ⟨s.tt.tt, s.rtc.sec, s.rtc.frac, s.tt.state == .locked, false, s.rtc.osf, s.rtc.lbv, driftUs s, s.tt.scale⟩

/-- An anchor into the ring, newest first, 64 kept. -/
def pushAnchor (s : State) : State := { s with tt := { s.tt with anchors := (anchorNow s :: s.tt.anchors).take 64 } }

/-- ANCHOR_CAPTURE: at phase 0 of a cycle that is a multiple of 1,024, once. -/
def execAnchorCapture (s : State) : Host.Outcome State Fault Refusal :=
  .next
    (if s.tt.running && ttPh s.tt.tt == 0 && cycOf s % 1024 == 0 && s.tt.anchorCyc != some (cycOf s) then
       let s1 := pushAnchor s
       { s1 with tt := { s1.tt with anchorCyc := some (cycOf s) } }
     else s)

/-- An anchor's RTC in 1/65,536 s. -/
def Anchor.rtcU (a : Anchor) : Int := a.sec * 65536 + a.frac

/-- The result of a conversion: the value, the anchors used, and whether it was extrapolated. -/
structure Conv where
  val : Int
  used : List Anchor
  extra : Bool
  deriving DecidableEq, Repr

/-- A line through two points, or through one at a rate `rn / rd`, evaluated and rounded to a grid `g` (halves up). -/
def lineAt (x0 y0 rn : Int) (rd : Nat) (x : Int) (g : Nat) : Int :=
  g * roundDiv (y0 * rd + (x - x0) * rn) (rd * g)

/-- Interpolate or extrapolate along anchors given oldest first, between coordinates `fx` and `fy` (R92). `rn / rd` is the
rate used while there is a single anchor. DESIGN CHOICE (log entry 27, on the anchors): an extrapolation counts the nearest anchor alone as used
(`OSF`, `HOLD_SPAN`, `ERR_BOUND_US`), not the other anchor of the pair that gives the rate. -/
def convertAlong (fx fy : Anchor → Int) (rn : Int) (rd : Nat) (g : Nat) (x : Int) (as : List Anchor) : Option Conv :=
  match as.getLast? with
  | none => none
  | some newest =>
    let below := (as.filter fun a => decide (fx a ≤ x)).getLast?
    let above := (as.filter fun a => decide (x < fx a)).head?
    let prev := (as.dropLast).getLast?
    let rate : Int × Nat := match prev with
      | some p => if fx p < fx newest then (fy newest - fy p, (fx newest - fx p).toNat) else (rn, rd)
      | none => (rn, rd)
    match below, above with
    | some a, some b => some ⟨lineAt (fx a) (fy a) (fy b - fy a) (fx b - fx a).toNat x g, [a, b], false⟩
    | some a, none =>
      if fx a = x then some ⟨g * roundDiv (fy a) g, [a], false⟩
      else some ⟨lineAt (fx a) (fy a) rate.1 rate.2 x g, [a], true⟩
    | none, some b => some ⟨lineAt (fx b) (fy b) rate.1 rate.2 x g, [b], true⟩
    | none, none => none

/-- `ERR_BOUND_US` (R92). `distUs` is the distance from the nearest anchor in µs for an extrapolation. -/
def errBound (c : Conv) (distUs : Nat) : Nat :=
  let base := if c.used.all fun a => a.locked then 1000 else (c.used.map fun a => a.driftUs).sum + 1000
  sat 32 (base + if c.extra then distUs / 100 else 0)

/-! ### Commands of the TT class (R95) -/

/-- Checks every TT command begins with: modes, length, header, the world of its block. -/
def ttChecks (code n block : Nat) (r : Req) (s : State) : Option Fail :=
  match opRow code with
  | none => none
  | some row => firstFail [headChecks r row (modeServed s) (r.len == n) s, needWorld r s block]

/-- TT.STATUS, its checks passed. -/
def actTtStatus (r : Req) (s : State) : State :=
  let t := s.tt
  let act := if t.onSecondary then t.sec else t.prim
  let hc := match t.state with | .free => cycOf s - t.since | .holdover => cycOf s - t.since | _ => 0
  ok r [ packW [(lockCode t.state, 28), (b2n (holdFlag s), 27), (b2n (slewFlag s), 26), (b2n t.nomMismatch, 25),
           (b2n t.onSecondary, 24), (t.reserve.epoch, 16), (activeCode t, 8), (sat 8 act.run, 0)],
         wd t.freq,
         packW [(ofSigned 16 t.phaseErr, 16), (if t.state == .slew then t.slewLeft else 0, 0)],
         wd (sat 32 hc), wd (sat 32 (driftUs s)), wd t.since,
         packW [(s.tl.entries.length, 16), (s.tl.peak, 0)],
         packW [(b2n t.reserve.lost, 17), (b2n (learnedOffset t).isSome, 16),
           (ofSigned 16 ((learnedOffset t).getD 0), 0)] ] s

/-- TT.STATUS (0x0201). -/
def execTtStatus (s : State) : Host.Outcome State Fault Refusal :=
  .next (serve 0x0201 (ttChecks 0x0201 0 1) actTtStatus s)

/-- A source code is one of the table's (03, "Zero-cross sources"). -/
def sourceCodeOk (c : Nat) : Bool := c == 1 || (decide (0x11 ≤ c) && decide (c ≤ 0x1F) && c % 4 != 0)

/-- The configuration a TT.CONFIG request carries. -/
def ttCfgOf (r : Req) : TtCfg :=
  ⟨fld (r.w 3) 31 24, fld (r.w 3) 23 16, fld (r.w 3) 15 14, bit (r.w 3) 13, fld (r.w 4) 31 16, fld (r.w 5) 31 16⟩

/-- The configuration words of TT.CONFIG. -/
def ttCfgWords (c : TtCfg) : List Word :=
  [packW [(c.primary, 24), (c.secondary, 16), (c.zcLine, 14), (b2n c.zcPol, 13)], packW [(c.zcDelay, 16)],
   packW [(c.holdAlarm, 16)]]

/-- Checks of TT.CONFIG. An absent metering source is named by block 0x0B and its feeder (R162). -/
def chkTtConfig (r : Req) (s : State) : Option Fail :=
  match opRow 0x0202 with
  | none => none
  | some row =>
    let c := ttCfgOf r
    let meterC := fun code => decide (0x11 ≤ code) && decide (code ≤ 0x1F)
    let absent := fun code => need 6 (!(meterC code && s.dev.variant == .c)) stAbsent 3 (0x0B00 + code % 16 / 4)
    let running := fun code => need 12 (!meterC code || meterSourceOk s code) stBadState 3
    firstFail
      [ headChecks r row (modeServed s) (r.len == 3) s, absent c.primary, absent c.secondary, needWorld r s 1, needSecure r s 1,
        need 9 (sourceCodeOk c.primary && (c.secondary == 0 || sourceCodeOk c.secondary) && c.primary != c.secondary &&
          c.zcLine != 0 && fld (r.w 3) 12 0 == 0) stBadParam 3,
        need 9 (decide (c.zcDelay ≤ 2000) && fld (r.w 4) 15 0 == 0) stBadParam 4,
        need 9 (decide (c.holdAlarm ≤ 1440) && fld (r.w 5) 15 0 == 0) stBadParam 5,
        running c.primary, running c.secondary ]

/-- A configuration applied (R95): a source that changes begins anew, and a change of the active source or of the reference
phase invalidates the learned offset. DESIGN CHOICE (log entry 24, on the sources): where the primary or the secondary changes while the secondary
is active, or a switch is posted, the primary is the active source at once, and the switch falls away. -/
def applyTtCfg (c : TtCfg) (s : State) : State :=
  let t := s.tt
  let primNew := c.primary != t.cfg.primary
  let secNew := c.secondary != t.cfg.secondary
  let lineNew := sourceLine c c.primary != sourceLine t.cfg t.cfg.primary
  let s1 := { s with tt := { t with
      cfg := c
      cfgNext := none
      prim := if primNew then Source.fresh (cycOf s) else t.prim
      sec := if secNew then Source.fresh (cycOf s) else t.sec
      onSecondary := t.onSecondary && !secNew && !primNew
      switching := t.switching && !secNew && !primNew
      good := if primNew then 0 else t.good
      offsets := if primNew || secNew || lineNew then [] else t.offsets } }
  if primNew || secNew then tlCancel (fun k => match k with | .source _ => true | _ => false) s1 else s1

/-- TT.CONFIG, its checks passed. -/
def actTtConfig (r : Req) (s : State) : State :=
  match tlPost (nextBoundary s) 0 1 .ttConfig s with
  | none => failReq r ⟨13, stFull, 0xFFFF, 0⟩ (tlFull 1 2 s)
  | some s1 =>
    let old := s1.tt.cfgNext.getD s1.tt.cfg
    ok r [] (logEv evTtConfig r.port.val ([wd r.port.val] ++ ttCfgWords old ++ ttCfgWords (ttCfgOf r))
      (markStored 1 { s1 with tt := { s1.tt with cfgNext := some (ttCfgOf r) } }))

/-- TT.CONFIG (0x0202) outside a set: stored, and applied at the next boundary as a rank 0 entry. -/
def execTtConfig (s : State) : Host.Outcome State Fault Refusal :=
  .next (serve 0x0202 chkTtConfig actTtConfig s)

/-- TT.CONFIG at the application of its set (R172). -/
def applyTtConfig (r : Req) (s : State) : State :=
  let s1 := logEv evTtConfig r.port.val ([wd r.port.val] ++ ttCfgWords s.tt.cfg ++ ttCfgWords (ttCfgOf r)) s
  markStored 1 (applyTtCfg (ttCfgOf r) s1)

/-- TT_CONFIG_APPLY: the rank 0 entry. -/
def execTtConfigApply (s : State) : Host.Outcome State Fault Refusal :=
  .next (tlFire (fun k _ => match k with
    | .ttConfig => some fun s => match s.tt.cfgNext with | some c => applyTtCfg c s | none => s
    | _ => none) s)

/-- The anchors of the scale that an instant of TT falls on, oldest first, and whether that scale has been left (R93). -/
def scaleOf (tt : Nat) (as : List Anchor) : List Anchor :=
  let old := as.reverse
  let sc := match (old.filter fun a => decide (a.tt ≤ tt)).getLast? with
    | some a => some a.scale
    | none => (old.head?).map fun a => a.scale
  old.filter fun a => some a.scale == sc

/-- Checks and result of TT.CONVERT (R92, R93). -/
def convertReq (r : Req) (s : State) : Except Fail (Conv × List Word × Nat) :=
  let dir := bit (r.w 3) 0
  let a := (r.w 4).toNat
  let b := (r.w 5).toNat
  let rateN : Int := s.tt.freq * 4096
  if !dir && decide (2 ^ 60 ≤ b * 2 ^ 32 + a) then .error ⟨9, stBadParam, 5, 0⟩
  else match s.tt.anchors.head? with
  | none => .error ⟨12, stBadState, 0xFFFF, 0⟩
  | some newest =>
    if dir then
      let u : Int := ((fld (r.w 5) 7 0 * 2 ^ 32 + a) * 65536 + fld (r.w 5) 31 16 : Nat)
      match convertAlong Anchor.rtcU (fun x => (x.tt : Int)) rateN (65536 * 65536) 1 u
          (s.tt.anchors.reverse.filter fun x => x.scale == s.tt.scale) with
      | none => .error ⟨12, stBadState, 0xFFFF, 0⟩
      | some c =>
        if (c.val - newest.tt).natAbs > 2 ^ 32 * 4096 then .error ⟨9, stBadParam, 4, 0⟩
        else if c.val < s.tt.epochStart then .error ⟨12, stOutOfEpoch, 4, 0⟩
        else
          let near := c.used.foldl (fun m x => Nat.min m (u - x.rtcU).natAbs) (2 ^ 64)
          .ok (c, ttWords c.val.toNat, near * 1000000 / 65536)
    else
      let t : Nat := b * 2 ^ 32 + a
      if ((t : Int) - newest.tt).natAbs > 2 ^ 32 * 4096 then .error ⟨9, stBadParam, 4, 0⟩
      else if t < s.tt.epochStart then .error ⟨12, stOutOfEpoch, 4, 0⟩
      else
        match convertAlong (fun x => (x.tt : Int)) Anchor.rtcU (65536 * 65536) (s.tt.freq * 4096) 2 (t : Int) (scaleOf t s.tt.anchors) with
        | none => .error ⟨12, stBadState, 0xFFFF, 0⟩
        | some c =>
          let near := c.used.foldl (fun m x => Nat.min m ((t : Int) - x.tt).natAbs) (2 ^ 64)
          let v := (c.val % 2 ^ 56).toNat
          .ok (c, [wd (v / 65536), packW [(v % 65536, 16), (v / 2 ^ 48 % 256, 0)]],
            if s.tt.freq = 0 then 0 else near * 1000000 * 65536 / (s.tt.freq * 4096))

/-- Checks of TT.CONVERT. -/
def chkTtConvert (r : Req) (s : State) : Option Fail :=
  firstFail
    [ ttChecks 0x0203 3 1 r s, need 9 (fld (r.w 3) 31 1 == 0) stBadParam 3,
      need 9 (!bit (r.w 3) 0 || fld (r.w 5) 15 8 == 0) stBadParam 5,
      (match convertReq r s with | .error f => some f | .ok _ => none) ]

/-- TT.CONVERT, its checks passed. -/
def actTtConvert (r : Req) (s : State) : State :=
  match convertReq r s with
  | .error f => failReq r f s
  | .ok (c, out, distUs) =>
    ok r ([packW [(b2n (c.used.any fun a => a.osf), 3), (b2n (c.used.any fun a => a.stepped), 2),
            (b2n (c.used.any fun a => !a.locked), 1), (b2n c.extra, 0)]] ++ out ++ [wd (errBound c distUs)]) s

/-- TT.CONVERT (0x0203). -/
def execTtConvert (s : State) : Host.Outcome State Fault Refusal :=
  .next (serve 0x0203 chkTtConvert actTtConvert s)

/-- The words of an anchor (TT.ANCHORS). -/
def anchorWords (a : Anchor) : List Word :=
  ttWords a.tt ++ [wd a.sec, packW [(a.frac, 16), (b2n a.lbv, 11), (b2n a.osf, 10), (b2n a.stepped, 9), (b2n a.locked, 8),
    (a.sec / 2 ^ 32 % 256, 0)]]

/-- TT.ANCHORS, its checks passed. -/
def actTtAnchors (r : Req) (s : State) : State :=
  ok r (wd s.tt.anchors.length :: (s.tt.anchors.map anchorWords).flatten) s

/-- TT.ANCHORS (0x0204). -/
def execTtAnchors (s : State) : Host.Outcome State Fault Refusal :=
  .next (serve 0x0204 (ttChecks 0x0204 0 1) actTtAnchors s)

/-- The alarms of a port. -/
def alarmsOf (s : State) (p : Fin 4) : List AlarmState := s.alarms.get p

/-- The lowest free handle of a port (TT.ALARM): one that holds no armed alarm. -/
def freeHandle (l : List AlarmState) : Option Nat :=
  (List.range 16).find? fun i => match l.getD i .never with | .armed _ _ => false | _ => true

/-- An alarm's state set. -/
def setAlarm (p : Fin 4) (h : Nat) (a : AlarmState) (s : State) : State :=
  { s with alarms := s.alarms.upd p fun l => updAt l h fun _ => a }

/-- The target TT that a TT.ALARM request names. -/
def alarmTarget (r : Req) : Nat := (r.w 4).toNat * 2 ^ 32 + (r.w 3).toNat

/-- Checks of TT.ALARM. -/
def chkTtAlarm (r : Req) (s : State) : Option Fail :=
  firstFail
    [ ttChecks 0x0205 3 1 r s,
      need 9 (fld (r.w 4) 31 28 == 0) stBadParam 4,
      need 9 (decide (s.tt.tt < alarmTarget r)) stLate 3,
      need 9 (decide (alarmTarget r ≤ s.tt.tt + 2 ^ 32 * 4096)) stBadParam 4 ]

/-- TT.ALARM, its checks passed. -/
def actTtAlarm (r : Req) (s : State) : State :=
  match freeHandle (alarmsOf s r.port) with
  | none => failReq r ⟨13, stFull, 0xFFFF, 0⟩ (tlFull 3 1 s)
  | some h =>
    ok r [wd h] (tlPut (alarmTarget r) 7 3 (.alarm r.port h) true
      (setAlarm r.port h (.armed (alarmTarget r) (r.w 5).toNat) s))

/-- TT.ALARM (0x0205). -/
def execTtAlarm (s : State) : Host.Outcome State Fault Refusal :=
  .next (serve 0x0205 chkTtAlarm actTtAlarm s)

/-- TT_ALARM_FIRE: a rank 7 entry; the notification carries the firing TT. -/
def execTtAlarmFire (s : State) : Host.Outcome State Fault Refusal :=
  .next (tlFire (fun k e => match k with
    | .alarm p h => some fun s =>
      match (alarmsOf s p).getD h .never with
      | .armed _ cookie =>
        notify p 0x0201 1 ([wd h, wd cookie] ++ ttWords e.target) (setAlarm p h .fired s)
      | _ => s
    | _ => none) s)

/-- Checks of TT.ALARM_CANCEL. -/
def chkTtAlarmCancel (r : Req) (s : State) : Option Fail :=
  let a := (alarmsOf s r.port).getD (fld (r.w 3) 3 0) .never
  firstFail
    [ ttChecks 0x0206 1 1 r s, need 9 (fld (r.w 3) 31 4 == 0) stBadParam 3,
      need 9 (match a with | .never => false | .cancelled => false | _ => true) stBadParam 3,
      need 12 (match a with | .fired => false | _ => true) stFired ]

/-- TT.ALARM_CANCEL, its checks passed. -/
def actTtAlarmCancel (r : Req) (s : State) : State :=
  let h := fld (r.w 3) 3 0
  ok r [] (setAlarm r.port h .cancelled
    (tlCancel (fun k => match k with | .alarm p h' => p == r.port && h' == h | _ => false) s))

/-- TT.ALARM_CANCEL (0x0206). -/
def execTtAlarmCancel (s : State) : Host.Outcome State Fault Refusal :=
  .next (serve 0x0206 chkTtAlarmCancel actTtAlarmCancel s)

/-- Entries in use by a block (TT.QUEUE): host alarms count under 0x03. -/
def tlUsedBy (t : Timeline) (b : Nat) : Nat := (t.entries.filter fun e => e.block == b).length

/-- TT.QUEUE, its checks passed. -/
def actTtQueue (r : Req) (s : State) : State :=
  ok r
    ([packW [(s.tl.entries.length, 16), (s.tl.peak, 0)],
      packW [(7104 - tlSharedUsed s.tl, 16), (1024 - tlSecureUsed s.tl, 0)]] ++
     (List.range 10).map fun k => packW [(tlUsedBy s.tl (2 * k + 1), 16), (tlUsedBy s.tl (2 * k + 2), 0)]) s

/-- TT.QUEUE (0x0207). -/
def execTtQueue (s : State) : Host.Outcome State Fault Refusal :=
  .next (serve 0x0207 (ttChecks 0x0207 0 1) actTtQueue s)

end Sys2Proof.Machine
end

