-- ==== Sys2Proof/Machine/Radio.lean ====
section
/-!
DEFINITION. The radio: band plans, PHY modes and air times, coverage and branches, duty accounting, power, carriers and the
admission of frames (07, R179 to R213).
-/
namespace Sys2Proof.Machine

/-! ### Band plans and configurations in force (R180, R196, R197) -/

/-- A sub-band of plan 0: range, power, duty. -/
def sb0 (lower upper : Nat) (pmax : Int) (duty : Nat) : SubBand := ⟨lower, upper, pmax, true, 85, false, duty⟩

/-- The delivered plans (R196). -/
def deliveredPlan (k : Nat) : BandPlan :=
  ⟨k, 160, 5000,
   if k = 0 then
     [ sb0 863000 865000 14 10, sb0 865000 868000 14 100, sb0 868000 868600 14 100, sb0 868700 869200 14 10,
       sb0 869400 869650 27 1000, sb0 869700 870000 7 10000, sb0 870000 875600 14 100 ]
   else if k = 1 then [⟨902000, 928000, 30, false, 85, true, 10000⟩]
   else [⟨915000, 928000, 30, false, 85, true, 10000⟩]⟩

/-- The strap default of the plan (R39, R197). -/
def strapPlan (s : State) : Option BandPlan :=
  let k := s.pwr.straps.toNat % 4
  if k = 3 then none else some (deliveredPlan k)

/-- The band plan in force (R197). -/
def planOf (s : State) : Option BandPlan := s.rad.stored.or (strapPlan s)

/-- `PLAN` of RAD.STATUS. -/
def planCode (p : Option BandPlan) : Nat := match p with | none => 0xFF | some b => b.id

/-- A front end. -/
def feOf (s : State) (k : Nat) : FrontEnd := if k = 0 then s.rad.fe0 else s.rad.fe1

/-- A front end changed. -/
def updFe (k : Nat) (f : FrontEnd → FrontEnd) (s : State) : State :=
  { s with rad := if k = 0 then { s.rad with fe0 := f s.rad.fe0 } else { s.rad with fe1 := f s.rad.fe1 } }

/-- An engine. -/
def ceOf (s : State) (n : Nat) : Engine := s.rad.ces.getD n Engine.empty

/-- An engine changed. -/
def updCe (n : Nat) (f : Engine → Engine) (s : State) : State := { s with rad := { s.rad with ces := updAt s.rad.ces n f } }

/-- A front end's default configuration under a plan (R180, RAD.FE_CONFIG). Under no plan, and under a custom one, it is OFF. -/
def feDefault (k plan : Nat) : FeCfg :=
  let centre := if plan = 1 then 915000 else if plan = 2 then 921500 else 869500
  ⟨if 2 < plan then 2 else if k = 0 then 0 else 1, true, centre, 0, 0, false, 0⟩

/-- A front end's configuration in force. -/
def feCfg (s : State) (k : Nat) : FeCfg := (feOf s k).cfg.getD (feDefault k (planCode (planOf s)))

/-- An engine's default configuration under a plan (RAD.ENGINE_CONFIG): only CE0 is enabled, under a delivered plan. -/
def ceDefault (n plan : Nat) : CeCfg :=
  if n = 0 ∧ plan < 3 then
    ⟨true, 0, 0, 8, if plan = 0 then 869525000 else if plan = 1 then 902200000 else 915200000, 28, 1000, false, false, 3⟩
  else ⟨false, 0, 0, 8, 0, 0, 0, false, false, 3⟩

/-- An engine's configuration in force. -/
def ceCfg (s : State) (n : Nat) : CeCfg := (ceOf s n).cfg.getD (ceDefault n (planCode (planOf s)))

/-! ### PHY modes (R186 to R189) -/

/-- Bit rate of an FSK code in kbit/s. -/
def fskRate (phy : Nat) : Option Nat :=
  if phy = 0 then some 50 else if phy = 1 then some 100 else if phy = 2 then some 150 else if phy = 3 then some 200
  else if phy = 0x10 then some 200 else if phy = 0x11 then some 300 else if phy = 0x12 then some 400 else none

/-- An OFDM code (R186). -/
def isOfdm (phy : Nat) : Bool := decide (0x80 ≤ phy) && decide (phy < 0xC0) && decide (phy % 16 ≤ 6)

/-- A PHY code is valid. -/
def phyOk (phy : Nat) : Bool :=
  (fskRate phy).isSome || (isOfdm phy && Config.ofdmPair (phy / 16 % 4 + 1) (phy % 16))

/-- Allocation width W in Hz (R187). -/
def phyWidth (phy : Nat) : Nat :=
  if phy = 0 then 200000 else if phy = 1 then 400000 else if phy = 2 then 400000 else if phy = 3 then 600000
  else if phy = 0x10 then 400000 else if phy = 0x11 then 600000 else if phy = 0x12 then 800000
  else match phy / 16 % 4 with | 0 => 1200000 | 1 => 800000 | 2 => 400000 | _ => 200000

/-- TCXO ticks of `n` octets at an FSK rate. -/
def octetTicks (rate n : Nat) : Nat := n * 320000 / rate

/-- On-air time of a PPDU in TCXO ticks (R189). -/
def airTicks (c : CeCfg) (preamble octets : Nat) : Nat :=
  match fskRate c.phy with
  | some r => octetTicks r (preamble + 2 + (if c.fec then 2 * (2 + octets) + 2 else 2 + octets))
  | none => Config.ofdmSymbols c.phy octets * 4800

/-- Ticks from the end of the PHR to the end of the PPDU. -/
def payloadTicks (c : CeCfg) (octets : Nat) : Nat :=
  match fskRate c.phy with
  | some r => octetTicks r (if c.fec then 2 * octets + 2 else octets)
  | none => (Config.ofdmSymbols c.phy octets - Config.ofdmSymbols c.phy 0) * 4800

/-- Ticks from the end of the SHR to the end of the PHR (R188, R191). -/
def phrTicks (c : CeCfg) : Nat :=
  match fskRate c.phy with
  | some r => octetTicks r (if c.fec then 4 else 2)
  | none => Config.ofdmPhr c.phy * 4800

/-- On-air time of a wake train of at least some µs (R238): whole wake-up frames, and the 1,000 µs to the data frame. -/
def trainTicks (c : CeCfg) (wufPreamble us : Nat) : Nat :=
  let one := Nat.max 1 (airTicks c wufPreamble 14)
  if us = 0 then 0 else (us * 40 + one - 1) / one * one + 40000

/-! ### Coverage and branches (R181 to R183) -/

/-- A channel lies in the usable window of a centre in kHz. -/
def inWindow (centre f w : Nat) : Bool :=
  decide (2000 * centre + w ≤ 2 * f + 27000000) && decide (2 * f + w ≤ 2000 * centre + 27000000)

/-- A front end covers a channel (R181). -/
def feCovers (fe : FrontEnd) (f w : Nat) : Bool := fe.role != 2 && inWindow fe.centre f w

/-- A front end is in service: neither withdrawn nor faulted. -/
def feServes (s : State) (k : Nat) : Bool := !withdrawn s (4 + k) && !(feOf s k).fault

/-- The half of block 0x06 that holds an engine, as a withdrawal names it. -/
def ceHalf (n : Nat) : Nat := if n < 32 then 1 else 2

/-- The half of an engine is withdrawn (R492). -/
def halfOut (s : State) (half : Nat) : Bool := s.bal.withdrawals.any fun w => w.active && w.block == 6 && w.half == half

/-- An engine is on: present, enabled, and its half in service (R194, R492). -/
def ceOn (s : State) (n : Nat) : Bool :=
  decide (n < engineCount s.dev.variant) && (ceCfg s n).enable && !halfOut s (ceHalf n)

/-- The front end is blanked (R182). -/
def blanked (s : State) (k : Nat) : Bool := !(feOf s k).carriers.isEmpty || decide (s.clk.ticks < (feOf s k).blankUntil)

/-- The other front end has a carrier within 2 MHz (R183). -/
def shadowed (s : State) (k f : Nat) : Bool :=
  (feOf s (1 - k)).carriers.any fun c => decide (c.freq ≤ f + 2000000) && decide (f ≤ c.freq + 2000000)

/-- A branch through a front end is valid at a channel (R183), the gain condition apart, which concerns one reception. -/
def branchAt (s : State) (k f w : Nat) : Bool :=
  feCovers (feOf s k) f w && feServes s k && decide ((feOf s k).retuneUntil ≤ s.clk.ticks) && !blanked s k && !shadowed s k f

/-- The engine attempts or sends a beacon on the backup channel: no branch on its primary channel is valid (R233). -/
def onBackupNow (e : Engine) : Bool := match e.adm with | some a => a.frame.freq.isSome | none => false

/-- A gain change inside the frame that the engine is receiving has made its branch invalid (R183, R210). -/
def gainBad (e : Engine) (k : Nat) : Bool :=
  match e.rx with | some r => if k = 0 then r.gain0 else r.gain1 | none => false

/-- An engine's branch through a front end is valid (R183). -/
def branch (s : State) (n k : Nat) : Bool :=
  let c := ceCfg s n
  ceOn s n && !onBackupNow (ceOf s n) && !gainBad (ceOf s n) k && branchAt s k c.freq (phyWidth c.phy)

/-- Some front end in service covers the engine's channel. -/
def covered (s : State) (n : Nat) : Bool :=
  let c := ceCfg s n
  [0, 1].any fun k => feServes s k && feCovers (feOf s k) c.freq (phyWidth c.phy)

/-- `BRANCH` of RAD.STATUS. -/
def branchMask (s : State) (n : Nat) : Nat := b2n (branch s n 0) + 2 * b2n (branch s n 1)

/-- State code of an engine (R194). -/
def ceCode (s : State) (n : Nat) : Nat :=
  if !ceOn s n then 0
  else match (ceOf s n).st with
    | .rest => if branchMask s n = 0 then 1 else 2
    | .receive => 3
    | .access => 4
    | .transmit => 5

/-! ### Sub-bands, powers and duty (R196, R198, R200, R201, R203) -/

/-- A channel lies in a sub-band (R196). -/
def inSub (b : SubBand) (f w : Nat) : Bool := decide (2000 * b.lower + w ≤ 2 * f) && decide (2 * f + w ≤ 2000 * b.upper)

/-- The sub-band of a channel under a plan. -/
def subOf (p : Option BandPlan) (f w : Nat) : Option SubBand :=
  match p with | none => none | some b => b.subs.find? fun x => inSub x f w

/-- The number of a channel's sub-band. -/
def subIdx (p : Option BandPlan) (f w : Nat) : Nat :=
  match p with | none => 0xFF | some b => b.subs.findIdx fun x => inSub x f w

/-- The sub-band of an engine's channel. -/
def ceSub (s : State) (n : Nat) : Option SubBand := let c := ceCfg s n; subOf (planOf s) c.freq (phyWidth c.phy)

/-- The front ends that an engine may transmit through: fixed, or any for automatic (R205). -/
def txFes (c : CeCfg) : List Nat := if c.txFe = 2 then [0, 1] else [c.txFe]

/-- A front end can carry an engine's transmissions at a channel: role RXTX, covering, in service. -/
def feSends (s : State) (k f w : Nat) : Bool := (feOf s k).role == 0 && feCovers (feOf s k) f w && feServes s k

/-- The front ends that serve an engine's transmissions. -/
def sendFes (s : State) (n : Nat) : List Nat :=
  let c := ceCfg s n
  (txFes c).filter fun k => feSends s k c.freq (phyWidth c.phy)

/-- The transmit-disable reason (R194, R207, R208); the first that holds. -/
def txd (s : State) (n : Nat) : Nat :=
  if (ceSub s n).isNone then 1
  else if (sendFes s n).isEmpty then 2
  else if s.pwr.flush.pfw then 3
  else if (sendFes s n).all fun k => (feOf s k).thermStop then 4
  else 0

/-- P_cap in 0.5 dBm (R198). -/
def pCap (b : SubBand) (fe : FeCfg) : Int :=
  let p : Int := if b.conducted then (10 * b.pmax - (if 60 < fe.gain then fe.gain - 60 else 0)) / 5
    else (20 * b.pmax + 43 - 2 * fe.gain + 2 * fe.loss) / 10
  if 60 < p then 60 else p

/-- Foldback FB of a front end in dB (R203). -/
def foldback (fe : FrontEnd) : Nat := fe.fbV + fe.fbT + fe.fbD

/-- P_eff of a power through a front end, in 0.5 dBm (R203). -/
def pEff (s : State) (k : Nat) (b : SubBand) (power : Int) : Int :=
  let cap := pCap b (feCfg s k)
  (if power < cap then power else cap) - 2 * foldback (feOf s k)

/-- 10^(r/20) × 10^9 for r = 0 to 19. -/
def mwTable : List Nat :=
  [1000000000, 1122018454, 1258925412, 1412537545, 1584893192, 1778279410, 1995262315, 2238721139, 2511886432, 2818382931,
   3162277660, 3548133892, 3981071706, 4466835922, 5011872336, 5623413252, 6309573445, 7079457844, 7943282347, 8912509381]

/-- A power in 0.5 dBm as pW: mW × 10^9, to nine digits. -/
def pw (p : Int) : Nat :=
  let m := mwTable.getD (p % 20).toNat 0
  let e := p / 20
  if 0 ≤ e then m * 10 ^ e.toNat else m / 10 ^ (-e).toNat

/-- S of a front end in pW, admitted carriers not yet started among them (R203). -/
def pSum (s : State) (k : Nat) : Nat :=
  ((feOf s k).carriers.map fun c => pw c.power).sum +
  (s.rad.ces.map fun e => match e.adm with
    | some a => if a.fe = k && e.st != .transmit then pw a.power else 0
    | none => 0).sum

/-- Carriers of a front end other than ACKs, admitted ones among them. -/
def dataCount (s : State) (k : Nat) : Nat :=
  ((feOf s k).carriers.filter fun c => !c.ack).length +
  (s.rad.ces.filter fun e => match e.adm with | some a => a.fe == k && e.st != .transmit | none => false).length

/-- All carriers of a front end. -/
def carrierCount (s : State) (k : Nat) : Nat := dataCount s k + ((feOf s k).carriers.filter fun c => c.ack).length

/-- P_AGG of a front end in pW. -/
def pAgg (s : State) (k : Nat) : Nat := pw (60 - 2 * foldback (feOf s k))

/-- The engines that may transmit through a front end, with their powers (R203). -/
def pRes (s : State) (k : Nat) : Nat :=
  ((List.range (engineCount s.dev.variant)).map fun n =>
    if ceOn s n && (sendFes s n).contains k then
      match ceSub s n with | some b => pw (pEff s k b (ceCfg s n).power) | none => 0
    else 0).foldl Nat.max 0

/-- An engine's allotment A in TCXO ticks, in a duty-limited sub-band (R200): share/1000 × duty/10000 × 3,600 s. -/
def allotment (s : State) (n : Nat) : Option Nat :=
  match ceSub s n with
  | some b => if b.duty < 10000 then some ((ceCfg s n).share * b.duty * 14400) else none
  | none => none

/-- The window's total in ticks: what remains of the fill made at the reset, and the time on air (R200). -/
def dutyUsed (s : State) (n : Nat) : Nat :=
  (ceOf s n).fill * s.rad.fillLeft + ((ceOf s n).duty.map fun b => b.2).sum

/-- A frame of a class, lasting some ticks, is held for lack of allotment (R200). -/
def dutyHeld (s : State) (n cls ticks : Nat) : Bool :=
  match allotment s n with
  | none => false
  | some a =>
    let u := dutyUsed s n
    if cls = 0 then decide (a ≤ u) else decide (19 * a ≤ 20 * u) || decide (a ≤ u + ticks)

/-- On-air time put into the bins of the seconds it spans (R200). The fuel is the number of seconds. -/
def addAir : Nat → Nat → Nat → Tbl Nat → Tbl Nat
  | 0, _, _, t => t
  | k + 1, a, b, t =>
    let sec := a / 40000000
    let lim := (sec + 1) * 40000000
    if b ≤ lim then tupd t sec 0 fun x => x + (b - a) else addAir k lim b (tupd t sec 0 fun x => x + (lim - a))

/-- A beacon that waits and is held for lack of allotment is logged, once in a window (R200). -/
def noteDuty (n : Nat) (s : State) : State :=
  let e := ceOf s n
  let waits := e.tx.any fun f => f.cls == 0 && (e.adm.map fun a => a.frame) != some f
  let open_ := match e.dutyLogged with | some t => decide (t + 3600 ≤ s.rad.dutySec) | none => true
  if waits && dutyHeld s n 0 0 && open_ then
    let c := ceCfg s n
    logNs evCeDutyExhausted n [n, subIdx (planOf s) c.freq (phyWidth c.phy), (allotment s n).getD 0 / 40000000]
      (updCe n (fun e => { e with dutyLogged := some s.rad.dutySec }) s)
  else s

/-- An engine's transmission from tick `a` to tick `b` counted. -/
def countAir (n a b : Nat) (s : State) : State := noteDuty n (updCe n (fun e => { e with duty := addAir 700 a b e.duty }) s)

/-- The combined window of a sub-band in ticks, tests among it (RAD.TX_TEST). -/
def subUsed (s : State) (b : SubBand) : Nat :=
  ((List.range (engineCount s.dev.variant)).map fun n =>
    if ceOn s n && ceSub s n == some b then dutyUsed s n else 0).sum +
  ((s.rad.testAir.filter fun t => inSub b t.1 0).map fun t => t.2.2).sum

/-- The shares of the enabled engines in one duty-limited sub-band stay within 1,000 (R201). -/
def sharesOk (p : Option BandPlan) (cfgs : List CeCfg) : Bool :=
  match p with
  | none => true
  | some bp => bp.subs.all fun b => b.duty == 10000 ||
      decide (((cfgs.filter fun c => c.enable && inSub b c.freq (phyWidth c.phy)).map fun c => c.share).sum ≤ 1000)

/-- The configurations of the engines present. -/
def ceCfgs (s : State) : List CeCfg := (List.range (engineCount s.dev.variant)).map (ceCfg s)

/-- The channels of two configurations overlap (R195). -/
def chanOverlap (f w g v : Nat) : Bool := decide (2 * f < 2 * g + w + v) && decide (2 * g < 2 * f + w + v)

/-! ### Reception -/

/-- A reception whose last branch is gone ends; the engine rests. -/
def endRx (n : Nat) (s : State) : State := updCe n (fun e => { e with rx := none, st := .rest }) s

/-- One engine's reception loses a branch through front end `k`; a frame left without one is lost and counted (R185, R190). -/
def dropRx (k : Nat) (gain : Bool) (n : Nat) (s : State) : State :=
  match (ceOf s n).rx with
  | none => s
  | some r =>
    let r' : Reception := if k = 0 then { r with fe0 := false } else { r with fe1 := false }
    if r' == r then s
    else if r'.fe0 || r'.fe1 then updCe n (fun e => { e with rx := some r' }) s
    else updFe k (fun f => if gain then { f with lostGain := sat 16 (f.lostGain + 1) }
      else { f with lostBlank := sat 16 (f.lostBlank + 1) }) (endRx n s)

/-- Every branch that has become invalid leaves the receptions in progress. -/
def dropInvalid (s : State) : State :=
  [0, 1].foldl (fun s k =>
    (List.range 64).foldl (fun s' n =>
      if (ceOf s' n).rx.isSome && !branch s' n k then dropRx k false n s' else s') s) s

/-- Engines that are receiving a frame through one front end alone (R184, R210). -/
def soleRx (s : State) (k : Nat) : List Nat :=
  (List.range 64).filter fun n => match (ceOf s n).rx with
    | some r => if k = 0 then r.fe0 && !r.fe1 else r.fe1 && !r.fe0
    | none => false

/-- An engine changes to the newest receive sets (R209). -/
def adoptRx (n : Nat) (s : State) : State :=
  updCe n (fun e => { e with rxSet0 := s.rad.fe0.rxSets, rxSet1 := s.rad.fe1.rxSets }) s

/-! ### Access and carriers (R194, R199, R202 to R205) -/

/-- The frame an engine would send next: its best class, the oldest within it (R204). -/
def nextFrame (e : Engine) : Option Frame :=
  e.tx.foldl (fun m f => match m with | none => some f | some g => if f.cls < g.cls then some f else some g) none

/-- An engine that listens with a frame staged and no transmit-disable reason enters ACCESS (R194). -/
def enterAccess (n : Nat) (s : State) : State :=
  let e := ceOf s n
  if ceOn s n && e.st == .rest && !e.tx.isEmpty && branchMask s n != 0 && txd s n == 0 then
    let s1 := updCe n (fun e => { e with st := .access, entered := s.rad.nextEntry }) s
    { s1 with rad := { s1.rad with nextEntry := s1.rad.nextEntry + 1 } }
  else s

/-- Every engine that may enter ACCESS does. -/
def enterAll (s : State) : State := (List.range 64).foldl (fun s n => enterAccess n s) s

/-- An engine leaves a reception, an attempt or a carrier: it rests, adopts new receive sets, and enters ACCESS if it may. -/
def settleCe (n : Nat) (s : State) : State :=
  enterAccess n (adoptRx n (updCe n (fun e => { e with st := .rest, rx := none, adm := none }) s))

/-- The wake-up frame preamble of an engine; its place is the MAC's. -/
def wufOf (s : State) (n : Nat) : Nat := ((s.mac.engs.getD n default).slp.map fun c => c.preamble).getD 4

/-- Ticks that a frame lasts on air, train included (R238). -/
def frameTicks (s : State) (n : Nat) (f : Frame) : Nat :=
  let c := ceCfg s n
  trainTicks c (wufOf s n) f.trainUs + airTicks c c.preamble f.octets

/-- The channel a frame is sent on. -/
def frameFreq (s : State) (n : Nat) (f : Frame) : Nat := f.freq.getD (ceCfg s n).freq

/-- The power of an engine's frame through a front end, 0.5 dBm. -/
def framePower (s : State) (k n : Nat) (f : Frame) : Int :=
  let c := ceCfg s n
  match subOf (planOf s) (frameFreq s n f) (phyWidth c.phy) with
  | some b => pEff s k b c.power
  | none => -2 * foldback (feOf s k)

/-- The front end admits no new carrier: a retune waits (R185), the power amplifier is too hot (R207), it is out of service. -/
def feClosed (s : State) (k : Nat) : Bool :=
  let fe := feOf s k
  let c := feCfg s k
  !feServes s k || fe.centre != c.centre || fe.role != c.role || decide (s.clk.ticks < fe.retuneUntil) || fe.thermStop

/-- A data, wake-train or beacon carrier of a power is admitted (R202, R203, R211). -/
def admits (s : State) (k : Nat) (p : Int) : Bool :=
  !feClosed s k && !(feOf s k).dpdStop && decide (dataCount s k < 7) && decide (carrierCount s k < 8) &&
    decide (pSum s k + pw p + pRes s k ≤ pAgg s k)

/-- A frame admitted on a front end that has since closed waits for admission again, in its place (R185, R207, R213). -/
def revokeAdm (s : State) : State :=
  { s with rad := { s.rad with ces := s.rad.ces.map fun e => match e.adm with
    | some a => if e.st == .access && feClosed s a.fe then { e with adm := none } else e
    | none => e } }

/-- R184: a data or beacon carrier waits for a frame that this front end alone receives. -/
def protects (s : State) (k : Nat) (f : Frame) : Bool := (feCfg s k).protect && f.cls != 1 && !(soleRx s k).isEmpty

/-- A carrier starts 20 µs from now; blanking begins (R182). -/
def launch (n k : Nat) (src : FrameSrc) (ack : Bool) (p : Int) (freq ticks : Nat) (s : State) : State :=
  let start := s.clk.ticks + 800
  let s1 := updFe k (fun f => { f with
    carriers := f.carriers ++ [⟨n, src, ack, p, freq, start, start + ticks⟩], started := inc32 f.started }) s
  dropInvalid (updCe n (fun e => { e with st := .transmit, rx := none }) s1)

/-- The engine must listen before this frame (R199). -/
def needsLbt (s : State) (n : Nat) (f : Frame) : Bool :=
  let c := ceCfg s n
  c.lbtEn || (match subOf (planOf s) (frameFreq s n f) (phyWidth c.phy) with | some b => b.lbt | none => false)

/-- A random time in [0, `BACKOFF_MAX`) µs, in ticks: a free value below the bound (R199). -/
def randWait (s : State) : Nat × State :=
  let m := match planOf s with | some p => p.backoffMax | none => 0
  let (v, s1) := freshNat s
  (if m = 0 then 0 else v % m * 40, s1)

/-- The listen time of a new attempt, in ticks. -/
def listenTicks (s : State) : Nat := match planOf s with | some p => p.tListen * 40 | none => 0

/-- A frame placed in an engine's transmit buffer (R193): there are two. -/
def stageFrame (n : Nat) (f : Frame) (s : State) : State :=
  enterAccess n (noteDuty n (updCe n (fun e => { e with tx := e.tx ++ [f] }) s))

/-- A transmit buffer is free. -/
def txRoom (s : State) (n : Nat) : Bool := decide ((ceOf s n).tx.length < 2)

/-- A frame leaves its buffer: counted by outcome, and outcomes 1 to 5 logged, limited per engine (R193, R215). -/
def dropFrame (n : Nat) (f : Frame) (out : Nat) (s : State) : State :=
  let s1 := updCe n (fun e => { e with tx := e.tx.erase f }) s
  if out = 0 then s1
  else
    let s2 := updCe n (fun e => { e with
      txFailed := sat 8 (e.txFailed + 1), outcomes := updAt e.outcomes (out - 1) fun x => x + 1 }) s1
    let key := evCeTxWithdrawn * 256 + n
    if limitOpen (s2.log.limit key).last (cycOf s2) then
      let o := (ceOf s2 n).outcomes
      logLim evCeTxWithdrawn n (fun _ => wd n :: o.map wd) (updCe n (fun e => { e with outcomes := [0, 0, 0, 0, 0] }) s2)
    else logLim evCeTxWithdrawn n (fun _ => []) s2

/-- The carrier of an engine on a front end taken off it: blanking lasts 20 µs more after the last (R182). -/
def endCarrier (n k : Nat) (s : State) : State :=
  updFe k (fun f =>
    let rest := f.carriers.filter fun c => c.ce != n
    { f with carriers := rest, blankUntil := if rest.isEmpty then s.clk.ticks + 800 else f.blankUntil }) s

/-- The carrier of an engine, with its front end. -/
def carrierOf (s : State) (n : Nat) : Option (Nat × Carrier) :=
  match s.rad.fe0.carriers.find? fun c => c.ce == n with
  | some c => some (0, c)
  | none => (s.rad.fe1.carriers.find? fun c => c.ce == n).map fun c => (1, c)

end Sys2Proof.Machine
end

