-- ==== Sys2Proof/Machine/Endpoint.lean ====
section
/-!
DEFINITION. Endpoint records, routes, link keys and counters, sleepy links and their guards, and indirect queues: what the MAC,
Lattice and the transaction engine share (08 R225, R239 to R246; 09 R252 to R267).
-/
namespace Sys2Proof.Machine

/-! ### Accessors -/

/-- An endpoint record; none is EMPTY. -/
def epOf (s : State) (ep : Nat) : Option EpRec := tget s.lat.recs ep

/-- A record changed; an EMPTY index stays EMPTY. -/
def updEp (ep : Nat) (f : EpRec → EpRec) (s : State) : State :=
  match tget s.lat.recs ep with
  | none => s
  | some r => { s with lat := { s.lat with recs := tset s.lat.recs ep (f r) } }

/-- The MAC of an engine. -/
def mdOf (s : State) (n : Nat) : MacEng := s.mac.engs.getD n default

/-- The MAC of an engine changed. -/
def updMd (n : Nat) (f : MacEng → MacEng) (s : State) : State := { s with mac := { s.mac with engs := updAt s.mac.engs n f } }

/-- The counters of an engine changed. -/
def updCnt (n : Nat) (f : MacCnt → MacCnt) (s : State) : State := updMd n (fun m => { m with cnt := f m.cnt }) s

/-- An engine's beacon configuration (MAC.BEACON_CONFIG, its defaults). -/
def bcnOf (s : State) (n : Nat) : BcnCfg :=
  (mdOf s n).bcn.getD ⟨true, 0, 0xD600 + n, 0, 1500, 7 * n % 1500, 1024, 0, 0, 1, 10, 0, 2⟩

/-- An engine's sleepy configuration (MAC.SLEEPY_CONFIG, its defaults). -/
def slpOf (s : State) (n : Nat) : SlpCfg := (mdOf s n).slp.getD ⟨false, 50, 250, 3, 3, 3, 6000, 500, 4⟩

/-- A link; an endpoint without one has state NONE. -/
def linkOf (s : State) (ep : Nat) : Option Link := tget s.mac.links ep

/-- The link state of an endpoint. -/
def linkSt (s : State) (ep : Nat) : LinkSt := match linkOf s ep with | some l => l.st | none => .none

/-- A link changed. -/
def updLink (ep : Nat) (f : Link → Link) (s : State) : State :=
  match linkOf s ep with
  | none => s
  | some l => { s with mac := { s.mac with links := tset s.mac.links ep (f l) } }

/-- Codes of the link states (R245). -/
def linkCode : LinkSt → Nat
  | .none => 0 | .poll => 1 | .tracked => 2 | .adrift => 3 | .resync => 4 | .lost => 5

/-- The engine of an endpoint. -/
def engOf (s : State) (ep : Nat) : Nat := match epOf s ep with | some r => r.engine | none => 0

/-- The links of an engine. -/
def linksOn (s : State) (n : Nat) : List (Nat × Link) := s.mac.links.filter fun x => engOf s x.1 == n

/-- Links of an engine in a state. -/
def linkCount (s : State) (n : Nat) (st : LinkSt) : Nat := ((linksOn s n).filter fun x => x.2.st == st).length

/-- The sleepy population of an engine (R234). -/
def sleepyPop (s : State) (n : Nat) : Nat := (linksOn s n).length

/-- POLL is permitted on an engine whose population would be `pop` (R234). -/
def pollOk (s : State) (n pop : Nat) : Bool := decide (pop ≤ 4096) && !(slpOf s n).force

/-! ### Times (R239) -/

/-- A number of pu in µs at the current `FREQ`. -/
def puUs (s : State) (pu : Nat) : Nat := pu * 16000000 / s.tt.freq

/-- A number of µs in pu at the current `FREQ`. -/
def usPu (s : State) (us : Nat) : Nat := us * s.tt.freq / 16000000

/-- t_align of a link, TT in pu (R239, R240). -/
def tAlign (s : State) (l : Link) : Nat :=
  if l.mains then
    if holdFlag s then Nat.max (l.zcClean.getD 0) l.base else l.zc.getD l.base
  else l.base

/-- The guard G in µs of a link with ε_ep in 0.1 ppm (R239, R240). -/
def guardUs (s : State) (l : Link) (eps : Nat) : Nat :=
  300 + (eps + 5) * (s.tt.tt - tAlign s l) * 8 / (5 * s.tt.freq) +
    if slewFlag s && l.mains then puUs s s.tt.slewLeft else 0

/-- A sample period in µs. -/
def spUs (s : State) (sp : Nat) : Nat := puUs s (sp * 4096)

/-- G ≤ SP/2. -/
def inGuard (s : State) (l : Link) (r : EpRec) : Bool := decide (2 * guardUs s l r.eps ≤ spUs s r.sp)

/-- The length of a train sent now to a link, in µs (R241); 0 in POLL and LOST. -/
def trainUs (s : State) (l : Link) (r : EpRec) : Nat :=
  match l.st with
  | .tracked => spUs s r.sp + guardUs s l r.eps
  | .adrift => spUs s r.sp + spUs s r.sp / 2
  | .resync => if r.sp = 0 then 0 else spUs s r.sp + spUs s r.sp / 2
  | _ => 0

/-- The state a contact gives a link, by its mode and G (R246). -/
def awakeSt (s : State) (l : Link) (r : EpRec) : LinkSt :=
  if r.sleepy = 1 then .poll else if inGuard s l r then .tracked else .adrift

/-! ### Link transitions (R246) -/

/-- Links enter RESYNC; cause 0 polls missed, 1 trains unanswered, 2 beacons lost, 3 configuration: a code of its own event. -/
def toResync (n cause : Nat) (eps : List Nat) (s : State) : State :=
  let go := eps.filter fun e => match linkSt s e with | .poll => true | .tracked => true | .adrift => true | _ => false
  if go.isEmpty then s
  else
    logLimN evLinkResync n go.length (fun c => [wd c, Config.itemCode evLinkResync cause])
      (go.foldl (fun s e => updLink e (fun l => { l with st := .resync, rounds := 0, fails := 0 }) s) s)

/-- A link becomes LOST: logged, and notified (R246, R249). -/
def toLost (n ep : Nat) (s : State) : State :=
  match linkOf s ep with
  | none => s
  | some l =>
    let s1 := logNs evLinkLost n [ep, l.contactTt / 4096] (updLink ep (fun l => { l with st := .lost }) s)
    notifyPorts (fun p => reachesEngine s p n) 0x0402 0x06 [packW [(n, 26), (ep, 0)]] s1

/-- EV_LINK_ADRIFT: links that entered ADRIFT are counted (R243). -/
def noteAdrift (n k : Nat) (s : State) : State := logLimN evLinkAdrift n k (fun c => [wd c]) s

/-- TRACKED links whose guard exceeds SP/2 move to ADRIFT (R243). -/
def driftLinks (n : Nat) (eps : List Nat) (s : State) : State :=
  let go := eps.filter fun e => match linkOf s e, epOf s e with
    | some l, some r => l.st == .tracked && !inGuard s l r
    | _, _ => false
  if go.isEmpty then s
  else noteAdrift n go.length (go.foldl (fun s e => updLink e (fun l => { l with st := .adrift }) s) s)

/-- The zero crossing that a Link IE reports: phase 0 of the latest cycle, not later than the frame, whose low 16 bits match
(R239). -/
def zcTt (tt zc : Nat) : Nat := let c := tt / 4096; (c - (c + 65536 - zc % 65536) % 65536) * 4096

/-- A contact (R239, R246): an authenticated frame with a Link IE, its PHR ended at `tt`. -/
def contact (ep : Nat) (ie : LinkIe) (tt : Nat) (s : State) : State :=
  match linkOf s ep, epOf s ep with
  | some l, some r =>
    let z := if ie.mains then some (zcTt tt ie.zcCyc) else l.zc
    let l1 := { l with
      contactTt := tt, base := tt - ie.alignAge * 4096, alignSrc := ie.alignSrc, mains := ie.mains, zc := z
      zcClean := if ie.mains && !holdFlag s then z else l.zcClean, fails := 0, rounds := 0, heard := tt / 4096 }
    let greeted := l.st == .resync
    let st := awakeSt s l1 r
    let s1 := updLink ep (fun _ => { l1 with st := st }) s
    let s2 := if st == .adrift && l.st != .adrift then noteAdrift r.engine 1 s1 else s1
    if greeted then updMd r.engine (fun m => { m with answered := m.answered + 1 }) s2 else s2
  | _, _ => s

/-- An authenticated frame that is no contact: a LOST link returns (R246). -/
def heardFrom (ep tt : Nat) (rssi snr : Int) (s : State) : State :=
  match linkOf s ep, epOf s ep with
  | some l, some r =>
    let l1 := { l with heard := tt / 4096, rssi := rssi, snr := snr }
    updLink ep (fun _ => if l.st == .lost then { l1 with st := awakeSt s l1 r, rounds := 0, fails := 0 } else l1) s
  | _, _ => s

/-- An endpoint becomes a sleepy child of its engine, with a first contact now, or changes its mode (R246). -/
def openLink (ep : Nat) (s : State) : State :=
  match epOf s ep with
  | none => s
  | some r =>
    if r.sleepy = 0 || r.viaRouter then { s with mac := { s.mac with links := tdel s.mac.links ep } }
    else
      let l := (linkOf s ep).getD ⟨.none, s.tt.tt, s.tt.tt, none, none, 0, r.mains, 0, 0, cycOf s, 0, 0⟩
      { s with mac := { s.mac with links := tset s.mac.links ep { l with st := awakeSt s l r } } }

/-- The link state becomes NONE. -/
def closeLink (ep : Nat) (s : State) : State := { s with mac := { s.mac with links := tdel s.mac.links ep } }

/-! ### Indirect queues (R225) -/

/-- Frames of an endpoint in its engine's indirect queue. -/
def indirectOf (s : State) (n ep : Nat) : List Indirect := (mdOf s n).indirect.filter fun i => i.ep == ep

/-- A frame put into an indirect queue: the pending bit of its address is 1. -/
def putIndirect (n ep : Nat) (src : FrameSrc) (octets : Nat) (body : TxBody) (until_ : Nat) (s : State) : State :=
  updMd n (fun m => { m with indirect := m.indirect ++ [⟨ep, src, octets, true, s.clk.ticks, until_, body⟩] }) s

/-- Frames taken out of an indirect queue. -/
def takeIndirect (n : Nat) (p : Indirect → Bool) (s : State) : State :=
  updMd n (fun m => { m with
    indirect := m.indirect.filter fun i => !p i
    gone := ((m.indirect.filter p).map fun i => ⟨i.ep, i.since, s.clk.ticks⟩) ++
      m.gone.filter fun g => decide (s.clk.ticks < g.until_ + 40000000) }) s

/-- The pending bit of an endpoint at a past TCXO tick (R225). -/
def pendingAt (s : State) (n ep t : Nat) : Bool :=
  (decide ((mdOf s n).ones.1 ≤ t) && decide (t < (mdOf s n).ones.2)) ||
  ((mdOf s n).indirect.any fun i => i.ep == ep && decide (i.since ≤ t)) ||
  ((mdOf s n).gone.any fun g => g.ep == ep && decide (g.since ≤ t) && decide (t < g.until_))

/-! ### Keys and counters (R220 to R222, R259, R260) -/

/-- A key slot. -/
def slotOf (s : State) (k : Nat) : Option KeySlot := tget s.key.slots k

/-- The active and the previous key of a slot of a usage that an engine may use (R221, R424). -/
def slotKeys (s : State) (k usage : Nat) (engine : Option Nat) : List (List Word) :=
  match slotOf s k with
  | none => []
  | some x =>
    if x.usage = usage && (match engine with | some e => x.engines.testBit e | none => true) then
      x.active.toList ++ x.prev.toList
    else []

/-- A slot holds an active key of a usage that an engine may use. -/
def slotUsable (s : State) (k usage : Nat) (engine : Option Nat) : Bool :=
  match slotOf s k with
  | none => false
  | some x => x.usage == usage && x.active.isSome && (match engine with | some e => x.engines.testBit e | none => true)

/-- A wrapped link key in clear, for an engine: from its cache, or unwrapped under the active key of the slot or the previous one (R221,
R424). -/
def linkKeyOf (s : State) (n ep : Nat) (r : EpRec) (wrapped : List Word) : Option (List Word) :=
  match (mdOf s n).cache.find? fun c => c.ep == ep && c.wrapped == wrapped with
  | some c => some c.key
  | none => (slotKeys s r.kekSlot 1 (some n)).findSome? fun kek => kwUnwrap kek wrapped

/-- The current link key of an endpoint in clear, while an engine may use it (R221). -/
def curKey (s : State) (n ep : Nat) (r : EpRec) : Option (List Word) :=
  if slotUsable s r.kekSlot 1 (some n) then r.keyCur.bind (linkKeyOf s n ep r) else none

/-- The previous link key of an endpoint, inside its overlap window (R222). -/
def prevKey (s : State) (n ep : Nat) (r : EpRec) : Option (List Word) :=
  if slotUsable s r.kekSlot 1 (some n) && r.prevValid then r.keyPrev.bind (linkKeyOf s n ep r) else none

/-- The link key of an endpoint is usable by its engine (R221). -/
def linkKeyUsable (s : State) (ep : Nat) : Bool :=
  match epOf s ep with | none => false | some r => (curKey s r.engine ep r).isSome

/-- A link key used by an engine: unwrapped on a miss, the least recently used of 2,048 replaced (R221). -/
def useKey (n ep : Nat) (wrapped key : List Word) (s : State) : State :=
  updMd n (fun m =>
    let hit := m.cache.any fun c => c.ep == ep && c.wrapped == wrapped
    { m with
      cache := (⟨ep, wrapped, key⟩ :: m.cache.filter fun c => !(c.ep == ep && c.wrapped == wrapped)).take 2048
      cnt := if hit then m.cnt else { m.cnt with unwraps := sat 16 (m.cnt.unwraps + 1) } }) s

/-- The current link key of an endpoint used by an engine. -/
def useCur (n ep : Nat) (s : State) : State :=
  match epOf s ep with
  | none => s
  | some r => match r.keyCur, curKey s n ep r with
    | some w, some k => useKey n ep w k s
    | _, _ => s

/-- Ceiling of an endpoint's outgoing counter, as confirmed in NAND (R260). -/
def ceilingOf (s : State) (ep : Nat) : Nat := (tget s.lat.ctr.ceilings ep).getD 0

/-- An outgoing counter is exhausted (R260). -/
def keyExhausted (r : EpRec) : Bool := decide (0xFFFFF000 ≤ r.outCtr)

/-- The next frame to an endpoint would not take its counter to the ceiling; otherwise the frame waits (R260). -/
def outReady (s : State) (ep : Nat) : Bool :=
  match epOf s ep with | none => true | some r => decide (r.outCtr + 1 < ceilingOf s ep) && !keyExhausted r

/-- The next outgoing counter of an endpoint taken (R260): where it reaches the ceiling − 1,024 the write of a new one begins. -/
def takeOut (ep : Nat) (s : State) : State :=
  match epOf s ep with
  | none => s
  | some r =>
    let c := ceilingOf s ep
    let s1 := if c ≤ r.outCtr + 1025 ∧ (tget s.lat.ctr.pend ep).isNone then
        { s with lat := { s.lat with ctr := { s.lat.ctr with pend := tset s.lat.ctr.pend ep (c + 4096) } } }
      else s
    updEp ep (fun r => { r with outCtr := r.outCtr + 1 }) s1

/-- The writes of new ceilings are confirmed. DESIGN CHOICE: with the next page of the journal, or step 3 of R48 (log entry 55, on reservation
ceilings). -/
def confirmCeilings (s : State) : State :=
  { s with lat := { s.lat with ctr := { s.lat.ctr with
    ceilings := s.lat.ctr.pend.foldl (fun t x => tset t x.1 x.2) s.lat.ctr.ceilings, pend := [] } } }

/-- The next outgoing counter under the key of a slot, for groups and beacons (R222). DESIGN CHOICE: it counts from 0, by slot, and is kept
over a reset: the spec names its counter and no reservation for it (log entry 55, on group counters). -/
def slotCtr (s : State) (k : Nat) : Nat := (tget s.mac.grpOut k).getD 0

/-- The next outgoing counter of a slot's key taken. -/
def takeSlot (k : Nat) (s : State) : State := { s with mac := { s.mac with grpOut := tupd s.mac.grpOut k 0 fun c => c + 1 } }

/-- The stored incoming counters of an endpoint replaced, with a new key or the end of one: the snapshot takes them, and older journal
entries go. -/
def resetIn (ep cur prev : Nat) (s : State) : State :=
  let c := s.lat.ctr
  let keep := fun (l : List (Nat × Nat × Nat)) => l.filter fun e => e.1 != ep
  { s with lat := { s.lat with ctr := { c with
    snapshot := tset c.snapshot ep (cur, prev), pages := c.pages.map keep, openPage := keep c.openPage } } }

/-- The counters of an endpoint that is removed (R258). -/
def forgetCtr (ep : Nat) (s : State) : State :=
  let c := s.lat.ctr
  let keep := fun (l : List (Nat × Nat × Nat)) => l.filter fun e => e.1 != ep
  { s with lat := { s.lat with ctr := { c with
    ceilings := tdel c.ceilings ep, pend := tdel c.pend ep, snapshot := tdel c.snapshot ep, pages := c.pages.map keep, openPage := keep c.openPage } } }

/-- Entries of a journal page (R286): 2 KiB of 8 octets. -/
def pageEntries : Nat := 256

/-- The open journal page written; the snapshot is rewritten when the ring of 512 pages is half full (R286). -/
def writeJournal (s : State) : State :=
  let c := s.lat.ctr
  if c.openPage.isEmpty then s
  else
    let pages := c.pages ++ [c.openPage]
    let full := decide (256 ≤ pages.length)
    { s with lat := { s.lat with ctr := { c with
      openPage := []
      pages := if full then [] else pages
      snapshot := if full then s.lat.recs.map (fun x => (x.1, (x.2.inCur, x.2.inPrev))) else c.snapshot } } }

/-- An incoming counter accepted: the record's value, and a journal entry (R260, R286). Key 0 current, 1 previous. -/
def acceptCtr (ep key ctr : Nat) (s : State) : State :=
  let s1 := updEp ep (fun r => if key = 0 then { r with inCur := ctr + 1 } else { r with inPrev := ctr + 1 }) s
  let c := s1.lat.ctr
  let s2 := { s1 with lat := { s1.lat with ctr := { c with
    openPage := c.openPage ++ [(ep, key, ctr + 1)], openCyc := if c.openPage.isEmpty then cycOf s else c.openCyc } } }
  if pageEntries ≤ s2.lat.ctr.openPage.length then writeJournal s2 else s2

/-- Which key a counter is accepted under (R222, R260): the new key first, then the previous one within its overlap. -/
def ctrKey (r : EpRec) (micCur micPrev : Bool) (ctr : Nat) : Option Nat :=
  if ctr = 0xFFFFFFFF then none
  else if micCur && decide (r.inCur ≤ ctr) then some 0
  else if micPrev && r.prevValid && decide (r.inPrev ≤ ctr) then some 1
  else none

/-! ### Addresses and routes (R253, R265 to R267) -/

/-- The endpoint of an engine with a short address, joined, or joining under the address that JOIN_RSP gave it (R256). -/
def byShort (s : State) (n a : Nat) : Option (Nat × EpRec) :=
  s.lat.recs.find? fun x => x.2.engine == n && x.2.short == a && a != 0xFFFE && x.2.st != .removing

/-- The endpoint with an EUI-64. -/
def byEui (s : State) (eui : Nat) : Option (Nat × EpRec) := s.lat.recs.find? fun x => x.2.eui == eui

/-- The lowest short address from 0x0001 to 0xFFFD that is free in an engine's PAN (R253, R256). The fuel bounds the search. -/
def freeShort (used : List Nat) : Nat → Nat → Nat
  | 0, a => a
  | k + 1, a => if used.contains a then freeShort used k (a + 1) else a

/-- The short address assigned to a new child of an engine: free of the joined and of the joining records (R253, R256). -/
def newShort (s : State) (n : Nat) : Nat :=
  let used := (bcnOf s n).short :: ((s.lat.recs.filter fun x => x.2.engine == n && x.2.short != 0xFFFE).map fun x => x.2.short)
  freeShort used used.length 1

/-- A route. -/
def routeOf (s : State) (id : Nat) : Option Route := tget s.lat.routes id

/-- A route changed. -/
def updRoute (id : Nat) (f : Route → Route) (s : State) : State :=
  match routeOf s id with
  | none => s
  | some r => { s with lat := { s.lat with routes := tset s.lat.routes id (f r) } }

/-- The primary route of a router. -/
def primaryOf (s : State) (router : Nat) : Option Nat :=
  (s.lat.routes.find? fun x => x.2.last == router && x.2.primary).map fun x => x.1

/-- The lowest free route ID. -/
def freeRoute (s : State) : Nat := freeShort (s.lat.routes.map fun x => x.1) s.lat.routes.length 0

/-- Endpoints whose `ROUTE_ID` names a route. -/
def usersOf (s : State) (id : Nat) : List Nat := (s.lat.recs.filter fun x => x.2.viaRouter && x.2.route == id).map fun x => x.1

/-- Endpoints whose parent is a router, by the state of their record. -/
def childrenOf (s : State) (router : Nat) (p : EpSt → Bool) : List Nat :=
  (s.lat.recs.filter fun x => x.2.viaRouter && x.2.parent == router && p x.2.st).map fun x => x.1

/-- Ports that Lattice notifies of an endpoint: in its `OWNER`, present, their world reaching block 0x07 (R289). -/
def notifyOwners (owner code : Nat) (payload : List Word) (s : State) : State :=
  notifyPorts (fun p => owner.testBit p.val && reaches s p 0x07) code 0x07 payload s

/-- `USERS` of every route counted anew (R265). -/
def countUsers (s : State) : State :=
  { s with lat := { s.lat with routes := s.lat.routes.map fun x => (x.1, { x.2 with users := sat 16 (usersOf s x.1).length }) } }

/-- An endpoint's route served by another engine: a short address of its own there, as at a change of engine (R253, R257). -/
def moveTo (n ep : Nat) (s : State) : State :=
  match epOf s ep with
  | none => s
  | some r => if r.engine = n then s else updEp ep (fun r => { r with engine := n, short := newShort s n }) s

/-- A route becomes BROKEN: its users become ORPHAN and their owners are told (R267). -/
def breakRoute (id : Nat) (s : State) : State :=
  let us := usersOf s id
  let orphaned := us.filter fun e => match epOf s e with | some r => r.st == .active | none => false
  let s1 := updRoute id (fun r => { r with st := .broken }) s
  let s2 := orphaned.foldl (fun s e => match epOf s e with
    | some r => notifyOwners r.owner 0x0502 [wd e] (updEp e (fun r => { r with st := .orphan }) s)
    | none => s) s1
  logNs evRouteBroken 0xFF [id, orphaned.length] s2

/-- A failed attempt on a route (R267): at `REROUTE_AFTER` it is SUSPECT, and is exchanged with a VALID alternate or breaks. -/
def routeFailed (id : Nat) (s : State) : State :=
  let s1 := updRoute id (fun r => { r with fails := r.fails + 1 }) s
  match routeOf s1 id with
  | none => s1
  | some r =>
    if r.fails < s.txn.retry.rerouteAfter || r.st != .valid then s1
    else match routeOf s1 r.alt with
      | some a =>
        if a.st == .valid then
          let us := usersOf s1 id
          let s2 := updRoute r.alt (fun a => { a with primary := true, alt := id })
            (updRoute id (fun r => { r with
              st := .suspect, primary := false, alt := 0xFFFF, reroutes := sat 16 (r.reroutes + 1) }) s1)
          let s3 := countUsers (us.foldl (fun s e =>
            moveTo a.engine e (updEp e (fun x => { x with route := r.alt, hops := a.hops.length + 1 }) s)) s2)
          logNs evReroute 0xFF [id, r.alt, us.length] { s3 with txn := { s3.txn with reroutes := inc32 s3.txn.reroutes } }
        else breakRoute id s1
      | none => breakRoute id s1

/-- A confirmed delivery over a route. -/
def routeOk (id : Nat) (s : State) : State := updRoute id (fun r => { r with fails := 0, okCyc := cycOf s }) s

/-- A path learned from a qualifying frame (R266): `path` lists the routers, the engine side first. -/
def learnRoute (n router : Nat) (path : List Nat) (s : State) : State :=
  let same := match primaryOf s router with
    | some id => (match routeOf s id with | some r => r.hops.map Prod.snd == path && r.engine == n | none => false)
    | none => false
  let s1 :=
    if same then s
    else
      let old := primaryOf s router
      let oldAlt := match old with | some id => (match routeOf s id with | some r => r.alt | none => 0xFFFF) | none => 0xFFFF
      let s0 := if oldAlt = 0xFFFF then s else { s with lat := { s.lat with routes := tdel s.lat.routes oldAlt } }
      let id := freeRoute s0
      let us := childrenOf s0 router fun t => t != .provisioned
      let s2 := match old with
        | some o => updRoute o (fun r => { r with primary := false, alt := 0xFFFF }) s0
        | none => s0
      let rt : Route := ⟨.valid, n, router, path.map fun h => (1 + Config.linkCost h (cycOf s) % 255, h), old.getD 0xFFFF, sat 16 us.length, cycOf s, 0, 0, 0, true⟩
      let s3 := { s2 with lat := { s2.lat with routes := tset s2.lat.routes id rt } }
      countUsers (us.foldl (fun s e => moveTo n e (updEp e (fun x => { x with route := id, hops := path.length + 1 }) s)) s3)
  match primaryOf s1 router with
  | none => s1
  | some id => match routeOf s1 id with
    | none => s1
    | some r =>
      let back := childrenOf s1 router fun t => t == .orphan
      if r.st == .valid && back.isEmpty then s1
      else
        let s2 := back.foldl (fun s e => updEp e (fun x => { x with st := .active, route := id }) s)
          (updRoute id (fun r => { r with st := .valid, fails := 0 }) s1)
        logNs evRouteRestored 0xFF [id, back.length] s2

/-- An endpoint leaves a corridor (R313): one left with no sensor or no lantern has `ENABLE` cleared. -/
def dropFromCorridor (ep id : Nat) (s : State) : State :=
  match tget s.chd.corridors id with
  | none => s
  | some c =>
    if !(c.sensors.any (fun x => x.ep == ep) || c.lanterns.any (fun x => x.ep == ep)) then s
    else
      let ss := c.sensors.filter fun x => x.ep != ep
      let ls := c.lanterns.filter fun x => x.ep != ep
      let off := ss.isEmpty || ls.isEmpty
      let c' := { c with sensors := ss, lanterns := ls, enable := c.enable && !off }
      logNs evChdShrunk 0xFF [id, ep, b2n off] { s with chd := { s.chd with corridors := tset s.chd.corridors id c' } }

/-- An endpoint leaves every corridor (R258, R313), and its lux report goes. -/
def dropFromCorridors (ep : Nat) (s : State) : State :=
  let s1 := (s.chd.corridors.map Prod.fst).foldl (fun s id => dropFromCorridor ep id s) s
  { s1 with chd := { s1.chd with issued := tdel s1.chd.issued ep }, sch := { s1.sch with lux := tdel s1.sch.lux ep } }

/-! ### Durable writes (R285) -/

/-- A record's durable write to the LATTICE partition: what it now holds. -/
def writeRec (ep : Nat) (s : State) : State :=
  { s with lat := { s.lat with
    nand := match epOf s ep with
      | some r =>
        let v := tget s.lat.nand ep
        tset s.lat.nand ep (match v with
          | some o => { r with
              mains := o.mains, inCur := o.inCur, inPrev := o.inPrev, outCtr := o.outCtr, fwVer := o.fwVer, energy := o.energy
              energyCyc := o.energyCyc, level := o.level, tid := o.tid, fails := o.fails, heardCyc := o.heardCyc }
          | none => r)
      | none => tdel s.lat.nand ep
    superseded := s.lat.superseded + 1 } }

end Sys2Proof.Machine
end

