-- ==== Sys2Proof/Machine/Txn.lean ====
section
/-!
DEFINITION. The transaction engine: starting, attempting, failing, confirming and ending transactions, and group messages (09,
R262 to R278).
-/
namespace Sys2Proof.Machine

/-! ### Frames (R261 to R263, R294, R295) -/

/-- Octets of an address. -/
def addrOctets : Addr → Nat
  | .absent => 0
  | .short _ => 2
  | .ext _ => 8

/-- PSDU octets of a data frame at a security level (R279): MAC header, auxiliary security header, IEs, payload, MIC and FCS; under the
group key the auxiliary security header names its index. -/
def psduOctets (b : TxBody) (level : Nat) (grp : Bool) : Nat :=
  7 + addrOctets b.dst + 5 + b2n grp + b.ies.length + b.payload.length + micLen level + 4

/-- An application message (R263): `OP`, `TID`, `FLAGS`, the tag of its target (R13), and its payload. -/
def appOctets (app : List Nat) (tid : Nat) (confirm : Bool) (target : Option Nat) : List Nat :=
  [app.headD 0, tid % 256, b2n target.isSome + 2 * b2n confirm] ++
    (match target with | some t => oct16 t | none => []) ++ app.tail

/-- The Membership IE of an endpoint (R294, R295): slot 0, and the occupied ones of the others. -/
def membershipIe (r : EpRec) : List Nat :=
  let l := r.groups.headD 0xFFF :: r.groups.tail.filter fun g => g != 0xFFF
  vendorIe 6 (l.length :: (l.map oct16).flatten)

/-- The Group IE of a broadcast (R295). -/
def groupIe (group scope : Nat) : List Nat := vendorIe 5 (oct16 (group + 4096 * scope))

/-- The hop limit that the module gives a flood: the routers on the longest path (R265). DESIGN CHOICE: R262 names no value (log entry 52, on
frame formats). -/
def floodHops : Nat := 8

/-- The network header of a broadcast (R262): local, or a flood with the next sequence number. -/
def bcastHdr (flood : Bool) (s : State) : List Nat :=
  if flood then [0x30, floodHops] ++ oct16 s.lat.floodSeq else [0]

/-- A flood takes its sequence number. -/
def takeFlood (flood : Bool) (s : State) : State :=
  if flood then { s with lat := { s.lat with floodSeq := (s.lat.floodSeq + 1) % 65536 } } else s

/-- `MODE` in force (R39: STRAP5 unless stored). -/
def orderMode (s : State) : Nat := s.txn.mode.getD (b2n (s.pwr.straps.getLsbD 5))

/-! ### The list of transactions -/

/-- A transaction. -/
def txnOf (s : State) (id : Nat) : Option Txn := s.txn.txns.find? fun t => t.id == id

/-- A transaction changed. -/
def updTxn (id : Nat) (f : Txn → Txn) (s : State) : State :=
  { s with txn := { s.txn with txns := s.txn.txns.map fun t => if t.id = id then f t else t } }

/-- A control transaction mutates (R268). -/
def Txn.control (t : Txn) : Bool := !t.query

/-- An earlier control transaction to the same endpoint holds this one (R275, R276). -/
def heldBy (l : List Txn) (t : Txn) : Bool :=
  t.control && l.any fun u => u.ep == t.ep && u.control && decide (u.id < t.id)

/-- Transactions no longer held become QUEUED (R270). -/
def releaseHeld (s : State) : State :=
  { s with txn := { s.txn with
    txns := s.txn.txns.map fun t => if t.st == .held && !heldBy s.txn.txns t then { t with st := .queued } else t } }

/-- Counts of the transactions of the last 1,024 cycles rolled forward (TXN.STATUS). -/
def rollRates (s : State) : State :=
  let w := cycOf s / 1024
  if w = s.txn.window then s
  else
    let next := w == s.txn.window + 1
    { s with txn := { s.txn with
      window := w, modLast := if next then s.txn.modNow else 0, epLast := if next then s.txn.epNow else 0, modNow := 0
      epNow := 0 } }

/-- A transaction enters issue order (R274): HELD or QUEUED (R270), under the ordering mode in force at its take (R276). -/
def startTxnIn (compat : Bool) (kind : TxnKind) (ep : Nat) (org : Option Origin) (query strict : Bool) (app : List Nat)
    (target : Option Nat) (deadline : Nat) (s : State) : State :=
  let id := s.txn.nextId
  let t : Txn := ⟨id, kind, ep, org, query, strict, app, target, deadline, compat, .queued, 0, 0, false, none, 0, 0⟩
  let t' := if heldBy s.txn.txns t then { t with st := .held } else t
  let l := s.txn.txns ++ [t']
  { s with txn := { s.txn with txns := l, nextId := id + 1, peak := Nat.max s.txn.peak l.length } }

/-- A transaction issued under the ordering mode in force (R276). -/
def startTxn (kind : TxnKind) (ep : Nat) (org : Option Origin) (query strict : Bool) (app : List Nat) (target : Option Nat)
    (deadline : Nat) (s : State) : State :=
  startTxnIn (orderMode s == 1) kind ep org query strict app target deadline s

/-- The deadline of one of the module's own transactions: the policy's default (R271). -/
def ownDeadline (s : State) : Nat := cycOf s + s.txn.retry.deadline

/-- Room for `n` more transactions (R268). -/
def txnRoom (s : State) (n : Nat) : Bool := decide (s.txn.txns.length + n ≤ 32768)

/-- A transaction of the module's own: one that finds no room waits for it. DESIGN CHOICE: R268 has a command answer FULL and does not
say what becomes of the module's own (log entry 58, on the module's own transactions). -/
def startOwn (kind : TxnKind) (ep : Nat) (app : List Nat) (target : Option Nat) (s : State) : State :=
  if txnRoom s 1 && s.txn.waits.isEmpty then startTxn kind ep none false false app target (ownDeadline s) s
  else { s with txn := { s.txn with waits := s.txn.waits ++ [⟨kind, ep, app, target⟩] } }

/-- The transactions that wait for room started as far as there is room, oldest first. -/
def startWaits (s : State) : State :=
  let n := 32768 - s.txn.txns.length
  (s.txn.waits.take n).foldl (fun s w => startTxn w.kind w.ep none false false w.app w.target (ownDeadline s) s)
    { s with txn := { s.txn with waits := s.txn.waits.drop n } }

/-- A grant of SAMPLED is under way to an endpoint, or waits for room. -/
def granting (s : State) (ep : Nat) : Bool :=
  (s.txn.txns.any fun t => t.ep == ep && t.kind == .modeGrant) || s.txn.waits.any fun w => w.ep == ep && w.kind == .modeGrant

/-! ### Removal of an endpoint (R258) -/

/-- What a transaction's end brings: response octets, confirmed level, cycle, signal. -/
structure TxnRes where
  resp : List Nat
  level : Nat
  cyc : Nat
  rssi : Int
  snr : Int
  deriving DecidableEq, Repr, Inhabited

/-- Octets packed into words, the first in [31:24], pad 0. The fuel is the number of octets. -/
def packOctets : Nat → List Nat → List Word
  | 0, _ => []
  | k + 1, l => match l with
    | [] => []
    | l => packW [(l.getD 0 0 % 256, 24), (l.getD 1 0 % 256, 16), (l.getD 2 0 % 256, 8), (l.getD 3 0 % 256, 0)] :: packOctets k (l.drop 4)

/-- The octets of words, the first in [31:24]. -/
def unpackOctets (ws : List Word) : List Nat := (ws.map fun w => [fld w 31 24, fld w 23 16, fld w 15 8, fld w 7 0]).flatten

/-- The final payload of an OK transaction (R290). -/
def txnWords (t : Txn) (x : TxnRes) : List Word :=
  let w3 := fun low => packW [(sat 8 t.attempts, 24), (t.hops, 20), (low, 0)]
  let tgt := wd (t.target.getD 0)
  match t.kind with
  | .level => [w3 x.level, tgt, wd x.cyc, wd t.ep, packW [(ofSigned 8 x.rssi, 24), (ofSigned 8 x.snr, 16)]]
  | _ => let r := x.resp.take 1020; w3 r.length :: tgt :: packOctets r.length r

/-- A group message changed. -/
def updGroup (id : Nat) (f : GroupMsg → GroupMsg) (s : State) : State :=
  { s with txn := { s.txn with groups := s.txn.groups.map fun g => if g.id = id then f g else g } }

/-- The final payload of a group command (TXN.GROUP_LEVEL). -/
def groupWords (g : GroupMsg) : List Word :=
  [wd g.members, wd (g.target.getD 0), wd (if g.compat then g.confirmed else g.sent), wd g.failed, wd g.engines.length]

/-- A group message's end: its command completes (R273, R276). -/
def endGroup (g : GroupMsg) (status cause : Nat) (s : State) : State :=
  let s1 := { s with txn := { s.txn with groups := s.txn.groups.filter fun x => x.id != g.id } }
  match g.org with
  | none => s1
  | some o => complete o status (if status = stOk then groupWords g else [packW [(0xFFFF, 16), (cause, 0)]]) s1

/-- A member copy of a compatibility group command has ended; with the last, the command completes (R290): OK with one member confirmed,
else DEFERRED where the last was deferred, else ABANDONED. `eng`: an engine that it was attempted on. -/
def groupMember (gid : Nat) (ok : Bool) (status cause : Nat) (eng : Option Nat) (s : State) : State :=
  let s1 := updGroup gid (fun g => { g with
    confirmed := g.confirmed + b2n ok, failed := g.failed + b2n (!ok)
    engines := match eng with | some n => if g.engines.contains n then g.engines else g.engines ++ [n] | none => g.engines }) s
  match s1.txn.groups.find? fun g => g.id == gid with
  | none => s1
  | some g =>
    if g.confirmed + g.failed < g.members then s1
    else if g.confirmed = 0 ∧ g.failed ≠ 0 then
      (if status = stDeferred then endGroup g stDeferred 0 s1
       else endGroup g stAbandoned (if status = stAbandoned then cause else 5) s1)
    else endGroup g stOk 0 s1

/-- A record becomes EMPTY with all that hangs on it: its link, its queue, its corridors, the routes through it and its counters. -/
def dropEp (ep : Nat) (s : State) : State :=
  match epOf s ep with
  | none => s
  | some r =>
    let broken := if r.router then
        (s.lat.routes.filter fun x => x.2.st != .broken && x.2.hops.any fun h => h.2 == ep).map fun x => x.1 else []
    let s1 := dropFromCorridors ep (closeLink ep s)
    let s2 := updMd r.engine (fun m => { m with
      cache := m.cache.filter fun c => c.ep != ep, indirect := m.indirect.filter fun i => i.ep != ep }) s1
    let s3 := writeRec ep (forgetCtr ep { s2 with
      txn := { s2.txn with waits := s2.txn.waits.filter fun w => w.ep != ep }
      lat := { s2.lat with recs := tdel s2.lat.recs ep }, mac := { s2.mac with grpIn := tdel s2.mac.grpIn ep } })
    countUsers (broken.foldl (fun s id => breakRoute id s) s3)

/-- A short address, the keys and counters and the group slots go, and the record becomes EMPTY (R258). DESIGN CHOICE: an endpoint's
end is no change of its owner mask, so no OWNER_CHANGE follows (log entry 38, on owner changes). -/
def eraseEp (ep : Nat) (port : Nat) (confirmed : Bool) (s : State) : State :=
  if (epOf s ep).isNone then s else evalAuto 0 (logNs evEpRemoved port [ep, port, b2n confirmed] (dropEp ep s))

/-- The end of a LEAVE: the record becomes EMPTY and is written (R258, R285). DESIGN CHOICE: whether that write succeeds is a free value;
where it fails, NAND keeps the record as REMOVING, and the next BOOT that reads it completes the removal (log entry 57, on removals). -/
def leftEp (ep : Nat) (port : Nat) (confirmed : Bool) (s : State) : State :=
  let (w, s1) := freshNat s
  let s2 := eraseEp ep port confirmed s1
  if w % 2 = 0 then s2 else { s2 with lat := { s2.lat with nand := match tget s1.lat.nand ep with
    | some r => tset s2.lat.nand ep r
    | none => s2.lat.nand } }

/-- The removals that a reset cut short are completed (R258): the LEAVE ended with the reset. DESIGN CHOICE: EV_EP_REMOVED names no
port, 0xFF (log entry 57, on removals). -/
def endRemovals (s : State) : State :=
  (s.lat.recs.filter fun x => x.2.st == .removing).foldl (fun s x => logNs evEpRemoved 0xFF [x.1, 0xFF, 0] (dropEp x.1 s)) s

/-- EV_TXN_ABANDONED: counts per cause, limited (R291). -/
def noteAbandoned (cause : Nat) (s : State) : State :=
  let c := updAt s.txn.causes (cause - 1) fun x => x + 1
  let key := evTxnAbandoned * 256 + 0xFF
  let open_ := limitOpen (s.log.limit key).last (cycOf s)
  logLim evTxnAbandoned 0xFF (fun _ => c.map wd)
    { s with txn := { s.txn with causes := if open_ then [0, 0, 0, 0, 0] else c, abandoned := inc32 s.txn.abandoned } }

/-- What follows the end of one of Lattice's own transactions (R235, R256, R258). -/
def afterTxn (t : Txn) (ok : Bool) (s : State) : State :=
  match t.kind with
  | .joinRsp rejoin =>
    match epOf s t.ep with
    | none => s
    | some r =>
      if rejoin then s
      else if ok then
        let s1 := openLink t.ep (updEp t.ep (fun r => { r with st := .active }) s)
        notifyOwners r.owner 0x0501 [packW [(r.engine, 26), (t.ep, 0)], wd r.short]
          (logNs evEpJoined r.engine [t.ep, r.engine, r.hops, r.sleepy] (writeRec t.ep s1))
      else countUsers (writeRec t.ep (updEp t.ep (fun r => { r with short := 0xFFFE }) s))
  | .modeGrant =>
    if ok then
      openLink t.ep (writeRec t.ep (updEp t.ep (fun r => { r with
        sleepy := t.app.getD 1 0, sp := le16 t.app 2, pollInt := le16 t.app 4 }) s))
    else s
  | .membership => if ok then s else logLim evMembershipFail 0xFF (fun c => [wd t.ep, wd c]) s
  | .leave p => leftEp t.ep p.val ok s
  | _ => s

/-- A transaction becomes DONE with its one final status (R272): its frames still staged or queued go, those it held go on. -/
def finishTxn (t : Txn) (status cause : Nat) (x : TxnRes) (s : State) : State :=
  let n := engOf s t.ep
  let s1 := rollRates { s with txn := { s.txn with txns := s.txn.txns.filter fun u => u.id != t.id } }
  let s2 := updCe n (fun e => { e with tx := e.tx.filter fun f => f.src != .txn t.id || (match e.adm with
      | some a => a.frame == f | none => false) }) (takeIndirect n (fun i => i.src == .txn t.id) s1)
  let isOk := status == stOk
  let s3 := { s2 with txn := { s2.txn with
    modNow := s2.txn.modNow + 1, okCnt := if isOk then inc32 s2.txn.okCnt else s2.txn.okCnt
    lastTarget := match t.target with | some g => tset s2.txn.lastTarget t.ep g | none => s2.txn.lastTarget
    otherEnd := if status = stUnreachable ∨ status = stOrderHeld ∨ status = stDeferred then inc32 s2.txn.otherEnd
      else s2.txn.otherEnd } }
  let s4 := if status = stAbandoned then noteAbandoned cause s3 else s3
  let s5 := match t.org with
    | some o => complete o status (if isOk then txnWords t x else [packW [(0xFFFF, 16), (cause, 0)]]) s4
    | none => s4
  let s6 := match t.kind with | .member g => groupMember g isOk status cause (if t.attempts = 0 then none else some n) s5 | _ => s5
  startWaits (releaseHeld (afterTxn t isOk s6))

/-- An empty result. -/
def noRes : TxnRes := ⟨[], 0, 0, 0, 0⟩

/-! ### Attempts (R270, R271, R277) -/

/-- The path of an endpoint: the routers on its route, the engine side first. -/
def pathOf (s : State) (r : EpRec) : List Nat :=
  if r.viaRouter then (match routeOf s r.route with | some x => x.hops.map Prod.snd | none => []) else []

/-- T_CF in pu (R271). -/
def tCf (s : State) (r : EpRec) : Nat :=
  usPu s (2 * r.hops * s.txn.retry.hopBudget * 1000) +
    (if r.sleepy = 2 then r.sp * 4096 else if r.sleepy = 1 then r.pollInt * 4096 else 0)

/-- The back-off after failed attempt `n`, in cycles (R271). -/
def backoffCyc (p : RetryPolicy) (n : Nat) : Nat := Nat.min (p.backoff * 2 ^ (n - 1)) (64 * p.backoff)

/-- An attempt fails: BACKOFF, with the route's failure counted; a cancelled transaction ends (R267, R270 to R272). -/
def failTxn (id : Nat) (s : State) : State :=
  match txnOf s id with
  | none => s
  | some t =>
    let s1 := takeIndirect (engOf s t.ep) (fun i => i.src == .txn id)
      (updEp t.ep (fun r => { r with fails := sat 8 (r.fails + 1) }) s)
    let s2 := match t.route with | some rt => routeFailed rt s1 | none => s1
    if t.cancelled then finishTxn t stAbandoned 2 noRes s2
    else updTxn id (fun t => { t with
      st := .backoff, until_ := s.tt.tt + backoffCyc s.txn.retry t.attempts * 4096 }) s2

/-- Is the next attempt to be made now, or does R278 defer it? -/
def deferNow (s : State) (t : Txn) (r : EpRec) : Bool := t.target.isSome && r.mains && holdFlag s

/-- In COMMISSION the engines send beacons, ACKs and the joining exchanges only (R66, R230). -/
def kindInMode (s : State) (t : Txn) : Bool :=
  s.pwr.mode != .commission || (match t.kind with | .joinRsp _ => true | .modeGrant => true | .membership => true | _ => false)

/-- The record, link and engine admit an attempt (R270). -/
def reachable (s : State) (t : Txn) (r : EpRec) : Bool :=
  (r.st == .active || (match t.kind with
    | .joinRsp _ => r.st == .provisioned || r.st == .orphan | .leave _ => r.st == .removing && r.short != 0xFFFE | _ => false)) &&
  linkSt s t.ep != .lost && !halfOut s (ceHalf r.engine)

/-- The frame goes to its endpoint at once: a routed or an always-on one, and the answer to a joining one, which listens. -/
def goesNow (t : Txn) (r : EpRec) : Bool :=
  r.viaRouter || r.sleepy == 0 || (match t.kind with | .joinRsp _ => true | _ => false)

/-- The MAC peer of an attempt: the first router on the route, or the endpoint. -/
def peerOf (s : State) (t : Txn) (r : EpRec) : Nat := (pathOf s r).headD t.ep

/-- The short address of an endpoint. -/
def shortOf (s : State) (ep : Nat) : Nat := match epOf s ep with | some r => r.short | none => 0xFFFE

/-- The header IEs of an attempt: the Membership IE in JOIN_RSP and in a MODE_GRANT that tells of changed slots (R294). -/
def txnIes (t : Txn) (r : EpRec) : List Nat :=
  match t.kind with | .joinRsp _ => membershipIe r ++ ieEnd | .membership => membershipIe r ++ ieEnd | _ => []

/-- What the frame of an attempt carries (R261, R262): the answer to a joining endpoint goes to its extended address; behind a router the
message is protected end to end under the endpoint's own key, with the next of its counters. DESIGN CHOICE: nothing but the message is
authenticated there (log entry 52, on frame formats). -/
def txnBody (t : Txn) (r : EpRec) (s : State) : TxBody :=
  let app := appOctets t.app t.tid t.control t.target
  match pathOf s r with
  | [] => ⟨(match t.kind with | .joinRsp _ => .ext r.eui | _ => .short r.short), txnIes t r, 0 :: app⟩
  | h :: path =>
    let hops := path.map (shortOf s) ++ [r.short]
    let key := octetsOfWords ((curKey s r.engine t.ep r).getD [])
    ⟨.short (shortOf s h), txnIes t r,
      [16 + hops.length] ++ (hops.map oct16).flatten ++ octLe 4 r.outCtr ++ ccmSeal key r.eui r.outCtr r.secLevel [] app⟩

/-- Security level of an endpoint. -/
def levelOf (s : State) (ep : Nat) : Nat := match epOf s ep with | some r => r.secLevel | none => 5

/-- The frame of an attempt staged with its engine, or queued for a sleepy endpoint (R236, R242, R271). -/
def stageTxn (t : Txn) (r : EpRec) (s : State) : State :=
  let n := r.engine
  let routed := r.viaRouter
  let peer := peerOf s t r
  let body := txnBody t r s
  let oct := psduOctets body (levelOf s peer) false
  let s1 := if routed then takeOut t.ep s else s
  let f : Frame := ⟨2, t.deadline * 4096, oct, 0, .txn t.id, none, if routed then none else some t.ep, t.tid, 0, some peer, body⟩
  if goesNow t r then stageFrame n f s1
  else
    let s2 := putIndirect n t.ep (.txn t.id) oct body t.deadline s1
    match r.sleepy, linkOf s2 t.ep with
    | 2, some l => stageFrame n { f with cls := 1, trainUs := trainUs s2 l r } s2
    | _, _ => updTxn t.id (fun t => { t with until_ := s.tt.tt + (slpOf s n).pollMiss * r.pollInt * 4096 }) s2

/-- The earliest target an attempt may carry now (R277). -/
def retag (s : State) (t : Txn) (tgt : Nat) : Nat :=
  Nat.max (Nat.max tgt (cycOf s + s.txn.retry.lead)) ((tget s.txn.lastTarget t.ep).getD 0)

/-- The outgoing counter of an endpoint is exhausted. -/
def exhaustedAt (s : State) (ep : Nat) : Bool := match epOf s ep with | some r => keyExhausted r | none => false

/-- The target of a transaction has come within `LEAD` (R272, R277). -/
def lateTarget (s : State) (t : Txn) : Bool :=
  match t.target with | some g => decide (g < cycOf s + s.txn.retry.lead) | none => false

/-- An attempt starts on a transaction: behind a router it waits while its counter would reach the ceiling (R260). -/
def attemptTxn (t : Txn) (s : State) : State :=
  match epOf s t.ep with
  | none => s
  | some r =>
    if deferNow s t r then updTxn t.id (fun t => { t with st := .deferred }) s
    else if !(reachable s t r && kindInMode s t && ((!goesNow t r && r.sleepy == 1) || txRoom s r.engine)) then s
    else if keyExhausted r then finishTxn t stKeyInvalid 0 noRes (logNs evEpKeyExhausted 0xFF [t.ep] s)
    else if exhaustedAt s (peerOf s t r) then finishTxn t stKeyInvalid 0 noRes (logNs evEpKeyExhausted 0xFF [peerOf s t r] s)
    else if !linkKeyUsable s t.ep || !linkKeyUsable s (peerOf s t r) then finishTxn t stKeyInvalid 0 noRes s
    else if r.viaRouter && !outReady s t.ep then s
    else
      let late := lateTarget s t
      if late && t.strict then
        if t.attempts = 0 then finishTxn t stDeferred 0 noRes s else finishTxn t stAbandoned 1 noRes s
      else
        let tid := if t.attempts = 0 then (r.tid + 1) % 256 else t.tid
        let t1 := { t with
          st := .sent, attempts := t.attempts + 1, tid := tid, hops := r.hops, until_ := 0
          route := if r.viaRouter then some r.route else none
          target := if late then t.target.map (retag s t) else t.target }
        stageTxn t1 r (updTxn t.id (fun _ => t1)
          (updEp t.ep (fun r => { r with tid := tid })
            { s with txn := { s.txn with attempts := inc32 s.txn.attempts } }))

/-- TXN_ATTEMPT (R270): a QUEUED transaction, or one in DEFER after HOLD has cleared. In HANDOVER retries wait for the close
(R66). -/
def execTxnAttempt (id : Nat) (s : State) : Host.Outcome State Fault Refusal :=
  .next
    (match txnOf s id with
     | none => s
     | some t =>
       if s.upd.windowOpen then s
       else match t.st with
         | .queued => attemptTxn t s
         | .deferred => if holdFlag s then s else attemptTxn t s
         | _ => s)

/-- TXN_CONFIRM_TIMEOUT (R271): T_CF has expired in AWAIT. -/
def execTxnConfirmTimeout (id : Nat) (s : State) : Host.Outcome State Fault Refusal :=
  .next
    (match txnOf s id with
     | none => s
     | some t => if t.st == .await && decide (t.until_ ≤ s.tt.tt) then failTxn id s else s)

/-- INDIRECT_ATTEMPT_EXPIRY (R271): `POLL_MISS` poll intervals have passed without delivery. -/
def execIndirectAttemptExpiry (id : Nat) (s : State) : Host.Outcome State Fault Refusal :=
  .next
    (match txnOf s id with
     | none => s
     | some t => if t.st == .sent && t.until_ != 0 && decide (t.until_ ≤ s.tt.tt) then failTxn id s else s)

/-- TXN_BACKOFF_END (R270): queued again, or ABANDONED after `MAX_TRIES` attempts. -/
def execTxnBackoffEnd (id : Nat) (s : State) : Host.Outcome State Fault Refusal :=
  .next
    (match txnOf s id with
     | none => s
     | some t =>
       if t.st != .backoff then s
       else if s.txn.retry.maxTries ≤ t.attempts then finishTxn t stAbandoned 1 noRes s
       else if t.until_ ≤ s.tt.tt then updTxn id (fun t => { t with st := .queued }) s
       else s)

/-- TXN_DEADLINE (R272): the first row that applies. A frame that still waits in the indirect queue counts in INDIRECT_EXP (R249). -/
def execTxnDeadline (id : Nat) (s : State) : Host.Outcome State Fault Refusal :=
  .next
    (match txnOf s id with
     | none => s
     | some t =>
       let n := engOf s t.ep
       let s0 := if (mdOf s n).indirect.any fun i => i.src == .txn t.id then
           updCnt n (fun c => { c with indirectExp := inc32 c.indirectExp }) s else s
       if cycOf s < t.deadline then s
       else if t.st == .deferred || (t.strict && t.attempts == 0 && lateTarget s t) then finishTxn t stDeferred 0 noRes s0
       else if t.st == .held then finishTxn t stOrderHeld 0 noRes s0
       else if t.attempts = 0 then finishTxn t stUnreachable 0 noRes s0
       else finishTxn t stAbandoned (if t.cancelled then 2 else 5) noRes s0)

/-- The first hop of an attempt is done: it waits for its CONFIRM or response (R270, R271). -/
def awaitTxn (id : Nat) (s : State) : State :=
  match txnOf s id with
  | none => s
  | some t => match epOf s t.ep with
    | none => s
    | some r => updTxn id (fun t => { t with st := .await, until_ := s.tt.tt + tCf s r }) s

/-- A CONFIRM for a transaction: result 0 ends it OK, 1 or 2 ABANDONED with cause 4 (R263, R272). -/
def confirmTxn (t : Txn) (result : Nat) (x : TxnRes) (s : State) : State :=
  let s1 := match t.route with | some rt => routeOk rt s | none => s
  let s2 := updEp t.ep (fun r => { r with
    fails := 0, level := if result = 0 && t.app.getD 0 0 == 1 then x.level else r.level }) s1
  if result = 0 then finishTxn t stOk 0 x s2 else finishTxn t stAbandoned (if t.cancelled then 2 else 4) noRes s2

/-- The transaction that a `TID` of an endpoint answers. -/
def byTid (s : State) (ep tid : Nat) (query : Bool) : Option Txn :=
  s.txn.txns.find? fun t => t.ep == ep && t.tid == tid && decide (0 < t.attempts) && t.query == query

/-! ### Group messages (R273) -/

/-- An endpoint's schedule group, 0xFFF for none (R293). -/
def EpRec.slot0 (r : EpRec) : Nat := r.groups.getD 0 0xFFF

/-- An endpoint applies a broadcast to a group with a `SCOPE` (R296). -/
def inScope (r : EpRec) (g scope : Nat) : Bool :=
  if scope = 0 then g == 4095 || r.groups.contains g else if g = 4095 then r.slot0 == 0xFFF else r.slot0 == g

/-- The members of a group that a level reaches: LANTERN and ACTIVE. -/
def lanterns (s : State) (g scope : Nat) : List (Nat × EpRec) :=
  s.lat.recs.filter fun x => x.2.cls == 1 && x.2.st == .active && inScope x.2 g scope

/-- The engines that send a group message: those with always-on or SAMPLED members, and those whose routers flood it. -/
def groupEngines (s : State) (g scope : Nat) : List Nat :=
  let m := lanterns s g scope
  (List.range (engineCount s.dev.variant)).filter fun n =>
    ceOn s n && slotUsable s (bcnOf s n).grpSlot 2 (some n) &&
      m.any fun x => x.2.engine == n && (x.2.viaRouter || x.2.sleepy != 1)

/-- The train an engine's broadcast needs: the largest any SAMPLED member there requires (R241). -/
def groupTrain (s : State) (g scope n : Nat) : Nat :=
  ((lanterns s g scope).map fun x =>
    if x.2.engine = n && !x.2.viaRouter && x.2.sleepy = 2 then
      match linkOf s x.1 with | some l => trainUs s l x.2 | none => 0
    else 0).foldl Nat.max 0

/-- The train that wakes an engine's SAMPLED targets. -/
def imgTrain (s : State) (x : ImgSend) (n : Nat) : Nat :=
  (x.targets.map fun t => match epOf s t.ep, linkOf s t.ep with
    | some r, some l => if r.engine = n && !r.viaRouter && r.sleepy = 2 then trainUs s l r else 0
    | _, _ => 0).foldl Nat.max 0

/-- What a group broadcast carries: its Group IE, and a LEVEL message that asks for no confirmation (R273, R295). DESIGN CHOICE: its `TID` is
0 (log entry 52, on frame formats). -/
def groupBody (g : GroupMsg) (flood : Bool) (s : State) : TxBody :=
  ⟨.short 0xFFFF, groupIe g.group g.scope ++ ieEnd, bcastHdr flood s ++ appOctets g.app 0 false g.target⟩

/-- One repetition staged on an engine: a wake train goes with the first (R273). -/
def stageGroup (g : GroupMsg) (n : Nat) (s : State) : State :=
  let flood := (lanterns s g.group g.scope).any fun x => x.2.engine == n && x.2.viaRouter
  let tr := if g.sent = 0 then groupTrain s g.group g.scope n else 0
  let dl := match g.target with | some t => (t - 1) * 4096 | none => g.deadline * 4096
  let body := groupBody g flood s
  stageFrame n ⟨if tr = 0 then 2 else 1, dl, psduOctets body 5 true, tr, .group g.id, none, none, 0, 0, none, body⟩ (takeFlood flood s)

/-- The unconfirmed copies of POLL members (R273). -/
def pollCopies (g : GroupMsg) (s : State) : State :=
  (lanterns s g.group g.scope).foldl (fun s x =>
    if x.2.sleepy = 1 && !x.2.viaRouter then
      let body : TxBody := ⟨.short x.2.short, [], 0 :: appOctets g.app 0 false g.target⟩
      putIndirect x.2.engine x.1 (.copy x.1) (psduOctets body x.2.secLevel false) body
        (match g.target with | some t => t - 1 | none => g.deadline) s
    else s) s

/-- A repetition sent: on every engine that has room in its buffers. -/
def sendRepeat (g : GroupMsg) (s : State) : State :=
  let es := (groupEngines s g.group g.scope).filter (txRoom s)
  let s1 := es.foldl (fun s n => stageGroup g n s) (if g.sent = 0 then pollCopies g s else s)
  updGroup g.id (fun g => { g with
    sent := g.sent + 1, at_ := cycOf s + 2, engines := g.engines ++ es.filter fun n => !g.engines.contains n
    out := g.out + es.length }) s1

end Sys2Proof.Machine
end

