-- ==== Sys2Proof/Machine/Mac.lean ====
section
/-!
DEFINITION. Beacons, greeting rounds, link sweeps, and the outcomes of frames reported to the units that placed them (08 R223 to
R244; 07 R193).
-/
namespace Sys2Proof.Machine

/-! ### Beacons (R230, R232, R233) -/

/-- The nominal start of a period as TT, from its cycle. -/
def startTt (c : BcnCfg) (cyc : Nat) : Nat := cyc * 4096 + c.phase

/-- The latest nominal start at or before now, as its cycle; none before the first (R230). -/
def latestStart (s : State) (c : BcnCfg) : Option Nat :=
  let k := cycOf s
  let k := if c.phase ≤ ttPh s.tt.tt then some k else if k = 0 then none else some (k - 1)
  match k with
  | none => none
  | some k => if k < c.offset % c.bp then none else some (k - (k - c.offset % c.bp) % c.bp)

/-- The cycle that names the beacon period now: its nominal start, 0 before the first. -/
def periodOf (s : State) (c : BcnCfg) : Nat := (latestStart s c).getD 0

/-- The first nominal start at or after now (R231). -/
def nextStart (s : State) (c : BcnCfg) : Nat :=
  match latestStart s c with
  | none => c.offset % c.bp
  | some k => if startTt c k = s.tt.tt then k else k + c.bp

/-- The beacon key is usable: none is needed at level 0 (R230). -/
def bcnKeyOk (s : State) (n : Nat) (c : BcnCfg) : Bool := c.sec == 0 || slotUsable s c.keySlot 2 (some n)

/-- A period missed (R232): at the third, BEACON_LOST is logged and sent, and links not heard since the first move to RESYNC. -/
def missPeriod (n start code : Nat) (s : State) : State :=
  let m := mdOf s n
  let cs := (code :: m.causes).take 3
  let first := if m.misses = 0 then start else m.firstMiss
  let s1 := updMd n (fun m => { m with
    misses := m.misses + 1, causes := cs, firstMiss := first, half := none
    cnt := { m.cnt with bcnMissed := inc32 m.cnt.bcnMissed } }) s
  if m.misses + 1 ≠ 3 then s1
  else
    let bk := (bcnOf s n).backup != 0
    let s2 := logNs evBeaconLost n (cs.reverse ++ [b2n bk]) (updMd n (fun m => { m with backups := 0 }) s1)
    let s3 := notifyPorts (fun p => reachesEngine s2 p n) 0x0401 0x06
      [packW [(n, 26), (b2n m.onBackup, 25), (3, 0)]] s2
    toResync n 2 (((linksOn s3 n).filter fun x => decide (x.2.heard < first)).map fun x => x.1) s3

/-- The beacon of a period left with an outcome (R232). -/
def beaconOut (n start : Nat) (backup : Bool) (out : Nat) (s : State) : State :=
  let m := mdOf s n
  if out = 0 then
    if backup then
      updMd n (fun m => { m with
        half := none, onBackup := true, backups := m.backups + 1
        cnt := { m.cnt with bcnBackup := inc32 m.cnt.bcnBackup, bcnCyc := cycOf s } }) s
    else
      let s1 := updMd n (fun m => { m with
        half := none, onBackup := false, misses := 0, causes := []
        greetAt := if m.greetAt.isNone && !m.fresh && !(linksOn s n).all (fun x => x.2.st != .resync) then some (cycOf s) else m.greetAt
        cnt := { m.cnt with bcnSent := inc32 m.cnt.bcnSent, bcnCyc := cycOf s } }) s
      if 3 ≤ m.misses then logNs evBeaconRestored n [m.misses, m.backups] s1 else s1
  else if backup then
    let s1 := missPeriod n start out s
    let prim := match m.half with | some (_, c) => c | none => out
    logLim evBackupBeaconFail n (fun k => [wd prim, wd out, wd k]) s1
  else if 3 ≤ m.misses && (bcnOf s n).backup != 0 then updMd n (fun m => { m with half := some (start, out) }) s
  else missPeriod n start out s

/-- PSDU octets of an Enhanced Beacon (R228, R230): MAC header, auxiliary security header with a key index, Tether IE, MIC and FCS. -/
def beaconOctets (sec : Nat) : Nat := 7 + (if sec = 0 then 0 else 6) + 28 + micLen sec + 4

/-- A beacon frame (R230). -/
def bcnFrame (c : BcnCfg) (src : FrameSrc) (deadline : Nat) (freq : Option Nat) : Frame :=
  ⟨0, deadline, beaconOctets c.sec, 0, src, freq, none, 0, 0, none, ⟨.absent, [], []⟩⟩

/-- BEACON_DUE (R230): at a period's nominal start its beacon is staged, with half the window where M ≥ 3 (R232). The Tether IE is
stamped at its PHR (R14, R228). -/
def execBeaconDue (n : Nat) (s : State) : Host.Outcome State Fault Refusal :=
  .next
    (let c := bcnOf s n
     let m := mdOf s n
     match latestStart s c with
     | none => s
     | some st =>
       if !(served s && ceOn s n && c.en && decide (m.from_ ≤ st) && m.lastStart != some st && s.tt.running) then s
       else
         let wdw := if 3 ≤ m.misses then c.window / 2 else c.window
         let dl := startTt c st + wdw * 4096
         let s1 := updMd n (fun m => { m with lastStart := some st }) s
         if !bcnKeyOk s n c then missPeriod n st (Config.itemCode evBeaconLost 0).toNat s1
         else if dl ≤ s.tt.tt then beaconOut n st false 2 s1
         else if txRoom s n then stageFrame n (bcnFrame c (.beacon st false) dl none) s1
         else s)

/-- BACKUP_BEACON (R232): with M ≥ 3, once half the window has passed without a primary beacon, the rest of it on the backup channel. -/
def execBackupBeacon (n : Nat) (s : State) : Host.Outcome State Fault Refusal :=
  .next
    (let c := bcnOf s n
     let m := mdOf s n
     match m.half with
     | none => s
     | some (st, _) =>
       let dl := startTt c st + c.window * 4096
       if c.backup = 0 || dl ≤ s.tt.tt then beaconOut n st true 2 s
       else if s.tt.tt < startTt c st + c.window / 2 * 4096 then s
       else if !bcnKeyOk s n c then beaconOut n st true (Config.itemCode evBeaconLost 0).toNat s
       else if txRoom s n && !(ceOf s n).tx.any (fun f => f.src == .beacon st true) && ceOn s n then
         stageFrame n (bcnFrame c (.beacon st true) dl (some c.backup)) s
       else s)

/-- EXTRA_BEACON (R230): a Beacon Request received outside a window, once per period, within 50 cycles. -/
def execExtraBeacon (n : Nat) (s : State) : Host.Outcome State Fault Refusal :=
  .next
    (let c := bcnOf s n
     let m := mdOf s n
     match m.request with
     | none => s
     | some r =>
       let s1 := updMd n (fun m => { m with request := none }) s
       if !(ceOn s n && c.en && bcnKeyOk s n c) || m.extraIn == some (periodOf s c) || decide (r + 50 ≤ cycOf s) then s1
       else if txRoom s n then
         stageFrame n (bcnFrame c .extra ((r + 50) * 4096) none) (updMd n (fun m => { m with extraIn := some (periodOf s c) }) s1)
       else s)

/-! ### Links (R239, R243, R244, R246) -/

/-- LINK_SWEEP (R239): every link's guard is computed. No sweep starts in HANDOVER (R247). -/
def execLinkSweep (n : Nat) (s : State) : Host.Outcome State Fault Refusal :=
  .next
    (if s.upd.windowOpen then s
     else
       let ls := linksOn s n
       let s1 := driftLinks n (ls.map fun x => x.1) s
       let g := ((linksOn s1 n).map fun x => match epOf s x.1 with
         | some r => if x.2.st == .tracked then guardUs s x.2 r.eps else 0
         | none => 0).foldl Nat.max 0
       let old := (mdOf s1 n).indirect.filter fun i => (match i.src with | .copy _ => true | _ => false) && decide (i.until_ ≤ cycOf s)
       let s2 := takeIndirect n (fun i => old.contains i) s1
       updCnt n (fun c => { c with gMax := sat 32 g, indirectExp := sat 32 (c.indirectExp + old.length) }) s2)

/-- POLL_MISS (R246): `POLL_MISS` poll intervals without a frame from a POLL endpoint. -/
def execPollMiss (ep : Nat) (s : State) : Host.Outcome State Fault Refusal :=
  .next
    (match linkOf s ep, epOf s ep with
     | some l, some r =>
       if l.st == .poll && decide (l.heard + (slpOf s r.engine).pollMiss * r.pollInt ≤ cycOf s) && !s.upd.windowOpen then
         toResync r.engine 0 [ep] s
       else s
     | _, _ => s)

/-- The RESYNC links of an engine. -/
def resyncOn (s : State) (n : Nat) : List (Nat × Link) := (linksOn s n).filter fun x => x.2.st == .resync

/-- A greeting round ended: sent, or skipped (R244). -/
def greetOut (n : Nat) (sent : Bool) (s : State) : State :=
  let m := mdOf s n
  let rs := resyncOn s n
  let s1 := if sent then rs.foldl (fun s x => updLink x.1 (fun l => { l with rounds := l.rounds + 1 }) s) s else s
  logNs evGreeting n [m.greetRound, rs.length, m.answered, b2n (!sent)]
    (updMd n (fun m => { m with
      answered := 0
      cnt := if sent then { m.cnt with greetSent := sat 16 (m.cnt.greetSent + 1) }
        else { m.cnt with greetSkip := sat 16 (m.cnt.greetSkip + 1) } }) s1)

/-- The greetings of an engine are due: their cycle has come, or after BOOT the mode is RUN or DEGRADED (R244, R247). In COMMISSION an
engine sends none (R230). -/
def greetDue (s : State) (n : Nat) : Bool :=
  match (mdOf s n).greetAt with
  | some c => decide (c ≤ cycOf s) && s.pwr.mode != .commission
  | none => (mdOf s n).fresh && (s.pwr.mode == .run || s.pwr.mode == .degraded)

/-- GREETING_ROUND (R244): links unanswered for `GREET_TRIES` rounds become LOST; for the others a train of one and a half times
the largest SP, and a beacon with `GREETING`, are staged. -/
def execGreetingRound (n : Nat) (s : State) : Host.Outcome State Fault Refusal :=
  .next
    (if s.upd.windowOpen || !ceOn s n || !greetDue s n || (ceOf s n).tx.any (fun f => f.src == .greeting) then s
     else
       let c := slpOf s n
       let s0 := updMd n (fun m => { m with fresh := false }) s
       let s1 := ((resyncOn s n).filter fun x => decide (c.greetTries ≤ x.2.rounds)).foldl (fun s x => toLost n x.1 s) s0
       let rs := resyncOn s1 n
       if rs.isEmpty then updMd n (fun m => { m with greetAt := none, greetRound := 0 }) s1
       else
         let sp := (rs.map fun x => match epOf s x.1 with | some r => r.sp | none => 0).foldl Nat.max c.resyncSp
         let s2 := updMd n (fun m => { m with greetAt := some (cycOf s + c.greetInt), greetRound := m.greetRound + 1 }) s1
         let f : Frame := { bcnFrame (bcnOf s n) .greeting (s.tt.tt + c.greetInt * 2048) none with cls := 1, trainUs := spUs s sp * 3 / 2 }
         if txRoom s2 n && bcnKeyOk s2 n (bcnOf s2 n) then stageFrame n f s2 else greetOut n false s2)

/-! ### Outcomes (R193) -/

/-- The words of MAC.RAW_SEND's completion. -/
def rawWords (x : RawSend) (out phr : Nat) (rssi snr : Int) (octets : Nat) : List Word :=
  [packW [(out, 24)], wd (phr / 4096), wd (phr % 4096), packW [(ofSigned 8 rssi, 24), (ofSigned 8 snr, 16), (octets, 0)], wd x.airUs]

/-- A raw frame's command completes. -/
def rawDone (n id out : Nat) (rssi snr : Int) (octets : Nat) (s : State) : State :=
  match (mdOf s n).raws.find? fun x => x.id == id with
  | none => s
  | some x =>
    complete x.org stOk (rawWords x out x.phr rssi snr octets)
      (updMd n (fun m => { m with raws := m.raws.filter fun y => y.id != id }) s)

/-- The destination of the wake-up frames of a train (R238): an endpoint's short address, or 0xFFFF for all. -/
def wakeDst (s : State) (n : Nat) (f : Frame) : Nat :=
  match f.src with
  | .raw id => (match (mdOf s n).raws.find? fun x => x.id == id with | some x => x.trainDst | none => 0xFFFF)
  | _ => match f.ackFrom with | some ep => shortOf s ep | none => 0xFFFF

/-- The sleepy link with a short address on an engine. -/
def trainLink (s : State) (n a : Nat) : Option (Nat × Link) :=
  (linksOn s n).find? fun x => match epOf s x.1 with | some r => r.short == a | none => false

/-- A train counted (MAC.ENGINE_STATUS). -/
def countTrain (n : Nat) (f : Frame) (s : State) : State :=
  let uni := wakeDst s n f != 0xFFFF
  if f.cls != 1 then s
  else updCnt n (fun c => { c with
    trainsUni := if uni then inc32 c.trainsUni else c.trainsUni
    trainsBc := if uni then c.trainsBc else inc32 c.trainsBc
    trainMs := sat 32 (c.trainMs + f.trainUs / 1000) }) s

/-- A frame's answer is awaited, under the sequence number it was sent with (R223). -/
def waitAck (n : Nat) (f : Frame) (s : State) : State :=
  updMd n (fun m => { m with wait := some ⟨{ f with dsn := (m.air.map fun x => x.seq).getD f.dsn }, s.clk.ticks⟩ }) s

/-- A frame has been transmitted to its end: its unit is told (R193). -/
def sentFrame (n : Nat) (f : Frame) (s : State) : State :=
  let s := countTrain n f s
  match f.src with
  | .beacon st bk => beaconOut n st bk 0 s
  | .greeting => greetOut n true s
  | .raw id =>
    let c := ceCfg s n
    let s1 := updMd n (fun m => { m with raws := m.raws.map fun x => if x.id = id then { x with
      phr := ttAt s (s.clk.ticks - payloadTicks c f.octets), airUs := frameTicks s n f / 40 } else x }) s
    if f.ackFrom.isSome then waitAck n f s1 else rawDone n id 0 0 0 0 s1
  | .txn id => if f.ackFrom.isSome then waitAck n f s else awaitTxn id s
  | .group id => updGroup id (fun g => { g with out := g.out - 1 }) s
  | .empty _ => waitAck n f (updCnt n (fun c => { c with emptySent := inc32 c.emptySent }) s)
  | .copy _ => waitAck n f s
  | _ => s

/-- A transaction whose target R278 defers: its endpoint senses mains and HOLD is set. -/
def heldNow (s : State) (src : FrameSrc) : Bool :=
  match src with
  | .txn id => (match txnOf s id with
    | some t => (match epOf s t.ep with | some r => deferNow s t r | none => false)
    | none => false)
  | _ => false

/-- A wake train scheduled for the first frame that waits for a SAMPLED endpoint, if none is staged (R237, R242); without a free buffer
the attempt fails. -/
def restageTrain (n ep : Nat) (s : State) : State :=
  match (indirectOf s n ep).head?, epOf s ep, linkOf s ep with
  | some i, some r, some l =>
    if r.sleepy != 2 || (ceOf s n).tx.any (fun f => f.src == i.src) then s
    else match i.src with
      | .txn id =>
        if txRoom s n then
          stageFrame n ⟨1, i.until_ * 4096, psduOctets i.body r.secLevel false, trainUs s l r, i.src, none, some ep, 0, 0, some ep, i.body⟩ s
        else failTxn id s
      | _ => s
  | _, _, _ => s

/-- A frame has left with outcome 1 to 5: its unit is told (R193). A frame of the indirect queue stays for the next opportunity (R236): a
SAMPLED endpoint's by a wake train (R237). One that a change of configuration withdraws stays there too (R231). -/
def failedFrame (n : Nat) (f : Frame) (out : Nat) (s : State) : State :=
  match f.src with
  | .beacon st bk => beaconOut n st bk out s
  | .greeting => greetOut n false s
  | .raw id => rawDone n id out 0 0 0 s
  | .txn id =>
    if (mdOf s n).indirect.any (fun i => i.src == .txn id) && (f.cls != 1 || out == 5) then
      (match f.ackFrom with | some ep => if out = 5 then s else restageTrain n ep s | none => s)
    else failTxn id s
  | .group id => updGroup id (fun g => { g with out := g.out - 1 }) s
  | _ => s

/-- A frame leaves its transmit buffer with its one outcome (R193). -/
def frameLeft (n : Nat) (f : Frame) (out : Nat) (s : State) : State :=
  let s1 := dropFrame n f out s
  if out = 0 then sentFrame n f s1 else failedFrame n f out s1

/-- Frames withdrawn from an engine's buffers with an outcome, the one in the air apart. -/
def withdrawFrames (n out : Nat) (p : Frame → Bool) (s : State) : State :=
  let e := ceOf s n
  let air := match e.adm with | some a => if e.st == .transmit then some a.frame else none | none => none
  let go := e.tx.filter fun f => p f && air != some f
  let s1 := updCe n (fun e => if e.st == .transmit then e
    else match e.adm with | some a => if p a.frame then { e with adm := none } else e | none => e) s
  let s2 := go.foldl (fun s f => frameLeft n f out s) s1
  if (ceOf s2 n).st == .access && (ceOf s2 n).tx.isEmpty then updCe n (fun e => { e with st := .rest, adm := none }) s2 else s2

/-- Staged frames leave with TX_DISABLED at once where `TXD` has become 1 or 2 (R194). `old` is the state before the change. -/
def purgeDisabled (old : State) (s : State) : State :=
  (List.range (engineCount s.dev.variant)).foldl (fun s n =>
    let t := txd s n
    let o := txd old n
    if (t = 1 ∨ t = 2) ∧ ¬ (o = 1 ∨ o = 2) ∧ ¬ (ceOf s n).tx.isEmpty then withdrawFrames n 4 (fun _ => true) s else s) s

/-- What goes with a change of an engine's channel or address (R231): staged beacons, and data and trains, withdrawn ABORTED, its
sleepy links in RESYNC, a new schedule. -/
def restartMac (n : Nat) (data : Bool) (s : State) : State :=
  let s1 := withdrawFrames n 5 (fun f => data || f.cls == 0) s
  let c := bcnOf s1 n
  let s2 := updMd n (fun m => { m with
    from_ := nextStart s1 c
    lastStart := none, half := none, misses := 0, causes := [] }) s1
  if data then toResync n 3 ((linksOn s2 n).map fun x => x.1) s2 else s2

/-! ### Direct delivery (R226, R236, R237) -/

/-- Staged trains for an endpoint that has made contact are withdrawn: their frames stand in the indirect queue (R242). -/
def withdrawTrain (n ep : Nat) (s : State) : State :=
  let e := ceOf s n
  let air := match e.adm with | some a => if e.st == .transmit then some a.frame else none | none => none
  let mine := fun f : Frame => f.cls == 1 && f.ackFrom == some ep && (match f.src with | .txn _ => true | _ => false) && air != some f
  let s1 := updCe n (fun e => { e with
    tx := e.tx.filter fun f => !mine f
    adm := match e.adm with | some a => if mine a.frame then none else some a | none => none }) s
  if (ceOf s1 n).st == .access && (ceOf s1 n).tx.isEmpty then updCe n (fun e => { e with st := .rest, adm := none }) s1 else s1

/-- The first frame of an endpoint's indirect queue is sent, with a deadline 15 ms after the ACK; an empty data frame where the
queue has emptied (R226, R236). A frame that HOLD keeps is passed over (R278). -/
def deliver (n ep : Nat) (s : State) : State :=
  let s1 := withdrawTrain n ep s
  let dl := s.tt.tt + usPu s 15000
  let q := indirectOf s1 n ep
  let lvl := levelOf s ep
  let body : TxBody := ⟨.short (shortOf s ep), [], []⟩
  let f := match q.find? fun i => !heldNow s1 i.src with
    | some i => some (⟨2, dl, psduOctets i.body lvl false, 0, i.src, none, some ep, 0, 0, some ep, i.body⟩ : Frame)
    | none => if q.isEmpty then some ⟨2, dl, psduOctets body lvl false, 0, .empty ep, none, some ep, 0, 0, some ep, body⟩ else none
  match f with
  | some f => if txRoom s1 n && !(ceOf s1 n).tx.any (fun g => g.src == f.src) then stageFrame n f s1 else restageTrain n ep s1
  | none => restageTrain n ep s1

/-- A frame of the indirect queue has been delivered; `train`: by a wake train. -/
def delivered (n ep : Nat) (src : FrameSrc) (train : Bool) (s : State) : State :=
  let s1 := takeIndirect n (fun i => i.ep == ep && i.src == src) s
  match linkOf s ep, epOf s ep with
  | some _, some r => if r.sleepy = 2 && !train then updCnt n (fun c => { c with direct := inc32 c.direct }) s1 else s1
  | _, _ => s1

/-- A unicast train went unanswered (R242, R246). -/
def trainFailed (n ep : Nat) (s : State) : State :=
  let s1 := updLink ep (fun l => { l with fails := l.fails + 1 }) (updCnt n (fun c => { c with trainFails := inc32 c.trainFails }) s)
  match linkOf s1 ep with
  | some l => if (slpOf s n).trainFail ≤ l.fails then toResync n 1 [ep] s1 else s1
  | none => s1

end Sys2Proof.Machine
end

