-- ==== Sys2Proof/Machine/Access.lean ====
section
/-!
DEFINITION. Access to the air (07 R202 to R205; 08 R227 to R230, R238, R242): the trains of staged frames, the frames as they are sent, and
the admission of carriers.
-/
namespace Sys2Proof.Machine

/-! ### Trains (R239, R241 to R243) -/

/-- The links that a staged train is meant for. -/
def trainLinks (s : State) (n : Nat) (f : Frame) : List Nat :=
  match f.src with
  | .txn _ => f.ackFrom.toList
  | .group id => (match s.txn.groups.find? fun g => g.id == id with
    | some g => ((lanterns s g.group g.scope).filter fun x => x.2.engine == n && x.2.sleepy == 2).map fun x => x.1
    | none => [])
  | .image id => (match s.lat.sends.find? fun x => x.org.id == id with
    | some x => (x.targets.map fun t => t.ep).filter fun e => engOf s e == n
    | none => [])
  | .raw id => (match (mdOf s n).raws.find? fun x => x.id == id with
    | some x => if x.auto then ((trainLink s n x.trainDst).map fun y => y.1).toList else []
    | none => [])
  | _ => []

/-- The largest train that some links require (R241). -/
def trainOver (s : State) (eps : List Nat) : Nat :=
  (eps.map fun ep => match linkOf s ep, epOf s ep with | some l, some r => trainUs s l r | _, _ => 0).foldl Nat.max 0

/-- A train scheduled at its admission (R242): the guards of its links are computed then, links beyond them move to ADRIFT (R239, R243), and
the train takes the length that R241 gives it. -/
def schedTrain (n : Nat) (f : Frame) (s : State) : Frame × State :=
  let eps := trainLinks s n f
  if f.cls != 1 || f.trainUs == 0 || eps.isEmpty then (f, s)
  else
    let s1 := driftLinks n eps s
    let g := { f with trainUs := Nat.max 1 (trainOver s1 eps) }
    (g, updCe n (fun e => { e with tx := e.tx.map fun x => if x == f then g else x }) s1)

/-! ### Frames as they are sent (R223, R224, R228 to R230, R238) -/

/-- A frame about to be sent, with what it is made of. -/
def setAir (n : Nat) (x : AirTx) (s : State) : State := updMd n (fun m => { m with air := some x }) s

/-- The engine's next sequence number taken. DESIGN CHOICE: one counter serves beacons and data (log entry 52, on frame formats). -/
def takeSeq (n : Nat) (s : State) : State := updMd n (fun m => { m with dsn := (m.dsn + 1) % 256 }) s

/-- Wake-up frames of a train (R238): whole frames, the last of which first reaches the length. -/
def wakeCount (c : CeCfg) (wufPreamble us : Nat) : Nat :=
  let one := Nat.max 1 (airTicks c wufPreamble 14)
  (us * 40 + one - 1) / one

/-- The frame of an engine formed as its carrier starts, at a tick: its addresses, security under the key in force (R220, R222), and the
next outgoing counter of that key. -/
def formFrame (n : Nat) (f : Frame) (start : Nat) (s : State) : State :=
  let c := ceCfg s n
  let b := bcnOf s n
  let seq := (mdOf s n).dsn
  let base : AirTx := ⟨start, start + frameTicks s n f - payloadTicks c f.octets, wakeCount c (wufOf s n) f.trainUs,
    Nat.max 1 (airTicks c (wufOf s n) 14), wakeDst s n f, seq, [], .plain, f.body.ies, f.body.payload, 0, 0, []⟩
  let ie := !f.body.ies.isEmpty
  let beacon := fun (greeting backup : Bool) =>
    let k := b.keySlot
    let x := { base with
      head := mhrOctets 0 false false true seq b.pan .absent (.short b.short) b.sec (slotCtr s k) (some b.keyIdx)
      stamp := .tether greeting backup, level := b.sec, counter := slotCtr s k, key := (slotKeys s k 2 (some n)).headD [] }
    setAir n x (takeSeq n (if b.sec = 0 then s else takeSlot k s))
  match f.src with
  | .raw _ => setAir n { base with seq := f.dsn } s
  | .beacon _ backup => beacon false backup
  | .extra => beacon false false
  | .greeting => beacon true false
  | _ => match f.peer with
    | some ep => (match epOf s ep with
      | none => setAir n base s
      | some r =>
        let x := { base with
          head := mhrOctets 1 false f.ackFrom.isSome ie seq b.pan f.body.dst (.short b.short) r.secLevel r.outCtr none
          level := r.secLevel, counter := r.outCtr, key := (curKey s n ep r).getD [] }
        setAir n x (takeSeq n (takeOut ep (useCur n ep s))))
    | none =>
      let k := b.grpSlot
      let x := { base with
        head := mhrOctets 1 false false ie seq b.pan f.body.dst (.short b.short) 5 (slotCtr s k) (some b.grpIdx)
        level := 5, counter := slotCtr s k, key := (slotKeys s k 2 (some n)).headD [] }
      setAir n x (takeSeq n (takeSlot k s))

/-- PSDU octets of an Enhanced ACK of the module (R224): MAC header, auxiliary security header, Ack IE, MIC and FCS. -/
def ackOctets (a : AckDue) : Nat := 7 + addrOctets a.dst + 5 + b2n a.keyIdx.isSome + 11 + micLen a.level + 4

/-- The Enhanced ACK of an engine formed as its carrier starts: at the level of the acknowledged frame, under the link key or the group key
as that frame was (R224). DESIGN CHOICE: under the current one of the two link keys, the only one with an outgoing counter (log entry 52, on
frame formats). -/
def formAck (n : Nat) (a : AckDue) (start ticks : Nat) (s : State) : State :=
  let b := bcnOf s n
  let c := ceCfg s n
  let base : AirTx := ⟨start, start + ticks - payloadTicks c (ackOctets a), 0, 1, 0xFFFF, a.seq, [], .ack, [], [], a.level, 0, []⟩
  let head := fun ctr => mhrOctets 2 a.pendingBit false true a.seq b.pan a.dst (.short b.short) a.level ctr a.keyIdx
  match a.keyIdx, epOf s a.ep with
  | none, some r =>
    setAir n { base with head := head r.outCtr, counter := r.outCtr, key := (curKey s n a.ep r).getD [] } (takeOut a.ep (useCur n a.ep s))
  | _, _ =>
    let k := b.grpSlot
    setAir n { base with head := head (slotCtr s k), counter := slotCtr s k, key := (slotKeys s k 2 (some n)).headD [] } (takeSlot k s)

/-- The Tether IE of a beacon, from the state at the end of its PHR (R14, R228). `LATE` keeps its low 8 bits. -/
def tetherIe (s : State) (n : Nat) (greeting backup : Bool) : List Nat :=
  let b := bcnOf s n
  let c := slpOf s n
  let permit := s.lat.policy.permit == 1 && s.lat.policy.engines.testBit n
  vendorIe 1
    (octLe 4 (cycOf s) ++ oct16 (ttPh s.tt.tt + 4096 * lockCode s.tt.state) ++ [s.tt.reserve.epoch % 256] ++ oct16 b.bp ++ [b.window % 256] ++
      [(cycOf s - periodOf s b) % 256] ++ oct16 (s.tt.freq / 128) ++
      [128 * b2n (s.pwr.mode == .commission) + 64 * b2n permit + 32 * b2n greeting + 16 * b2n backup + 8 * b2n (s.pwr.straps.getLsbD 2)] ++
      [n % 64] ++ octLe 3 ((ceCfg s n).freq / 1000) ++ oct16 c.resyncSp ++ oct16 c.spread)

/-- The Ack IE, from the state at the end of the ACK's PHR (R229). -/
def ackIe (s : State) : List Nat :=
  vendorIe 2 (oct16 (cycOf s) ++ oct16 (ttPh s.tt.tt + 4096 * lockCode s.tt.state) ++ [s.tt.reserve.epoch % 256])

/-- The whole PSDU of a frame whose PHR ends now, its FCS included (R216). -/
def psduOf (s : State) (n : Nat) (x : AirTx) : List Nat :=
  let ies := (match x.stamp with | .plain => [] | .tether g b => tetherIe s n g b | .ack => ackIe s) ++ x.ies
  let a := x.head ++ ies
  let l := if x.level = 0 then a ++ x.payload
    else a ++ ccmSeal (octetsOfWords x.key) s.dev.eui x.counter x.level a x.payload
  l ++ fcs4 l

/-- Ticks of ten symbol periods of a PHY mode: the unit of the rendezvous time (R238). -/
def tenSymbols (phy : Nat) : Nat :=
  match fskRate phy with
  | some r => 400000 / (if phy < 0x10 then r else r / 2)
  | none => 48000

/-- The rendezvous time of wake-up frame `i` of a train (R238): from its end to the start of the data frame. -/
def rendezvous (phy : Nat) (x : AirTx) (i : Nat) : Nat := ((x.wakes - 1 - i) * x.wakeTicks + 40000) / tenSymbols phy

/-- What an engine sends at this tick: a wake-up frame of its train, or its frame, whole from the end of its PHR. -/
def airNow (s : State) (n : Nat) (x : AirTx) : Option (List Nat) :=
  let t := s.clk.ticks
  let c := ceCfg s n
  let i := (t - x.start) / x.wakeTicks
  if t = x.phr then some (psduOf s n x)
  else if x.start ≤ t ∧ i < x.wakes ∧ (t - x.start) % x.wakeTicks = x.wakeTicks - payloadTicks c 14 then
    some (wakeFrame (bcnOf s n).pan x.wakeDst (rendezvous c.phy x i))
  else none

/-- The engines that are sending stamp and send their frames (R14, R228, R229). -/
def stampAir (s : State) : State :=
  (List.range 64).foldl (fun s n =>
    match (ceOf s n).st, (mdOf s n).air with
    | .transmit, some x => (match airNow s n x with | some l => updMd n (fun m => { m with sent := l }) s | none => s)
    | _, _ => s) s

/-! ### Admission (R202 to R205) -/

/-- A frame may be sent now: HOLD does not defer its transaction (R278), and its counter stays below the ceiling (R260). -/
def sendable (s : State) (f : Frame) : Bool := !heldNow s f.src && (match f.peer with | some ep => outReady s ep | none => true)

/-- The engine's head frame may go through front end `k` now: a covering sender, the plan's sub-band, no duty hold, and nothing that keeps
the frame itself. -/
def candidate (s : State) (k n : Nat) : Option Frame :=
  let e := ceOf s n
  let c := ceCfg s n
  if e.st == .access && e.adm.isNone && txd s n == 0 && (txFes c).contains k then
    match nextFrame e with
    | some f =>
      if feSends s k (frameFreq s n f) (phyWidth c.phy) && !dutyHeld s n f.cls (frameTicks s n f) && sendable s f then some f else none
    | none => none
  else none

/-- The head of a front end's queue: beacons, then trains, then data, each in order of entry to ACCESS (R204). -/
def headOf (s : State) (k : Nat) : Option (Nat × Frame) :=
  ((List.range 64).filterMap fun n => (candidate s k n).map fun f => (n, f)).foldl
    (fun m x => match m with
      | none => some x
      | some y =>
        if x.2.cls < y.2.cls || (x.2.cls == y.2.cls && decide ((ceOf s x.1).entered < (ceOf s y.1).entered)) then some x
        else some y) none

/-- Frames waiting for admission on a front end (`QUEUED`). -/
def queuedOn (s : State) (k : Nat) : Nat := ((List.range 64).filter fun n => (candidate s k n).isSome).length

/-- The engine's admitted frame starts. -/
def startFrame (n : Nat) (a : Admission) (s : State) : State :=
  launch n a.fe a.frame.src false a.power (frameFreq s n a.frame) (frameTicks s n a.frame) (formFrame n a.frame (s.clk.ticks + 800) s)

/-- CARRIER_ADMIT (R203 to R205): the head frame of a front end's queue is admitted when carriers and power allow. An automatic
engine is admitted on FE0 where both admit it. A wake train is scheduled then (R242). -/
def execCarrierAdmit (fe : Fin 2) (s : State) : Host.Outcome State Fault Refusal :=
  .next
    (let s := enterAll (revokeAdm s)
     match headOf s fe.val with
     | none => s
     | some (n, f) =>
       let k := if fe.val = 1 && (ceCfg s n).txFe = 2 && headOf s 0 == some (n, f) && admits s 0 (framePower s 0 n f) then 0
         else fe.val
       let p := framePower s k n f
       if admits s k p && !(protects s k f) then
         let (f, s) := schedTrain n f s
         if needsLbt s n f then
           let (r, s1) := randWait s
           updCe n (fun e => { e with adm := some ⟨k, f, p, s1.clk.ticks, s1.clk.ticks + listenTicks s1 + r⟩ }) s1
         else
           let a : Admission := ⟨k, f, p, s.clk.ticks, s.clk.ticks⟩
           startFrame n a (updCe n (fun e => { e with adm := some a }) s)
       else s)

end Sys2Proof.Machine
end

