-- ==== Sys2Proof/Machine/Air.lean ====
section
/-!
DEFINITION. What happens on air and in the front ends: listen-before-talk, the end of a carrier, deadlines, acknowledgements, duty
windows, foldbacks, live calibration, faults, and the application of radio configurations (07 R185 to R213; 08 R223).
-/
namespace Sys2Proof.Machine

/-! ### Applying configurations (R185, R194, R196, RAD.ENGINE_CONFIG) -/

/-- Words 3 to 5 of RAD.ENGINE_CONFIG. -/
def ceWords (n : Nat) (c : CeCfg) : List Word :=
  [ packW [(n, 26), (b2n c.enable, 25), (c.txFe, 23), (c.phy, 8), (c.preamble, 0)], wd c.freq,
    packW [(ofSigned 8 c.power, 24), (c.share, 14), (b2n c.fec, 13), (b2n c.lbtEn, 12), (c.tries, 8)] ]

/-- Words 3 to 5 of RAD.FE_CONFIG. -/
def feWords (k : Nat) (c : FeCfg) : List Word :=
  [ packW [(k, 31), (c.role, 29), (b2n c.protect, 28), (c.centre, 0)], packW [(ofSigned 16 c.gain, 16), (c.loss, 0)],
    packW [(b2n c.gainMode, 31), (c.gainStep, 27)] ]

/-- An engine's configuration takes effect: a frame in progress is abandoned; a change of `ENABLE`, `PHY` or `FREQ_HZ` withdraws
the staged frames and restarts its MAC (R231). -/
def putCe (n : Nat) (c : CeCfg) (s : State) : State :=
  let old := ceCfg s n
  let big := old.enable != c.enable || old.phy != c.phy || old.freq != c.freq
  let s0 := if (ceOf s n).st == .receive then endRx n s else s
  let s1 := if big then withdrawFrames n 5 (fun _ => true) s0 else s0
  let s2 := updCe n (fun e => { e with
    cfg := some c, next := none
    adm := if e.st == .transmit then e.adm else none, st := if e.st == .transmit then e.st else .rest }) s1
  purgeDisabled s (noteDuty n (settleIfIdle n (if big then restartMac n true s2 else s2)))
where
  /-- An engine that is not transmitting enters ACCESS again if it may. -/
  settleIfIdle (n : Nat) (s : State) : State := if (ceOf s n).st == .rest then enterAccess n s else s

/-- A change to a transmitting engine waits until its carrier ends (RAD.ENGINE_CONFIG). -/
def applyCe (n : Nat) (c : CeCfg) (s : State) : State :=
  if (ceOf s n).st == .transmit then updCe n (fun e => { e with next := some c }) s else putCe n c s

/-- Engines that have lost all coverage since `old` are logged (R185). -/
def logUncovered (old : State) (cause : Nat) (s : State) : State :=
  (List.range (engineCount s.dev.variant)).foldl (fun s n =>
    if ceOn old n && ceOn s n && covered old n && !covered s n then
      logEv evCeUncovered n [wd n, Config.itemCode evCeUncovered cause] s else s) s

/-- FE_RETUNE (R185): once the last carrier has ended the hardware takes the new centre and role; its branches are invalid for at
most 200 µs. -/
def execFeRetune (fe : Fin 2) (us : Nat) (s : State) : Host.Outcome State Fault Refusal :=
  .next
    (let k := fe.val
     let f := feOf s k
     let c := feCfg s k
     if f.carriers.isEmpty && (f.centre != c.centre || f.role != c.role) then
       let s1 := updFe k (fun f => { f with
         centre := c.centre, role := c.role, retuneUntil := s.clk.ticks + Nat.min us 200 * 40 }) s
       purgeDisabled s (logUncovered s 0 (dropInvalid s1))
     else s)

/-! ### Measurements on a carrier (R206, R207, R212) -/

/-- FB_V set, and logged when it changes. -/
def setFbV (k v : Nat) (s : State) : State :=
  let o := (feOf s k).fbV
  if o = v then s
  else logNs (evFeVswr + 256 * k) 0xFF [o, v, (feOf s k).vswr] (updFe k (fun f => { f with fbV := v }) s)

/-- The VSWR of a carrier longer than 1 ms (R206). -/
def measureVswr (k v : Nat) (s : State) : State :=
  let s1 := updFe k (fun f => { f with
    vswr := v, vswr30 := if 30 ≤ v then f.vswr30 + 1 else 0, vswr60 := if 60 ≤ v then f.vswr60 + 1 else 0
    vswrLow := if v < 25 then (s.clk.ticks :: f.vswrLow).take 10 else f.vswrLow
    vswrBad := if v < 25 then f.vswrBad else s.clk.ticks }) s
  let f := feOf s1 k
  if 3 ≤ f.vswr60 then setFbV k 10 s1
  else if 10 ≤ f.vswr30 then setFbV k (Nat.max 3 f.fbV) s1
  else s1

/-- The ACLR margin of a carrier, in 0.1 dB (R212). -/
def measureAclr (k : Nat) (m : TxMeas) (s : State) : State :=
  let f := feOf s k
  let bad := if m.margin < 10 then f.dpdBad + 1 else 0
  let good := if 30 ≤ m.margin then f.dpdGood + 1 else 0
  let s1 := updFe k (fun f => { f with
    aclrLo := m.aclrLo, aclrHi := m.aclrHi, margin := m.margin, dpdBad := if bad = 5 then 0 else bad
    dpdGood := if good = 100 then 0 else good }) s
  if bad = 5 && decide (f.fbD < 3) then
    logNs (evFeDpdBackoff + 256 * k) 0xFF [f.fbD, f.fbD + 1, ofSigned 32 m.margin] (updFe k (fun f => { f with fbD := f.fbD + 1 }) s1)
  else if good = 100 then updFe k (fun f => { f with fbD := f.fbD - 1 }) s1
  else s1

/-- What the feedback receiver finds on a carrier of some ticks (R206, R212). -/
def measureCarrier (k ticks : Nat) (m : TxMeas) (s : State) : State :=
  measureAclr k m (if 40000 < ticks then measureVswr k m.vswr s else s)

/-- What the feedback receiver finds on a carrier that is cut short: free values. -/
def freshMeas (s : State) : TxMeas × State :=
  let (vswr, s1) := freshNat s
  let (lo, s2) := freshNat s1
  let (hi, s3) := freshNat s2
  let (up, s4) := freshNat s3
  let (down, s5) := freshNat s4
  (⟨vswr, lo, hi, (up : Int) - (down : Int), 0⟩, s5)

/-- VSWR_RECOVERY (R206): 60 s with at least 10 measured carriers, every one below 2.5:1. -/
def execVswrRecovery (fe : Fin 2) (s : State) : Host.Outcome State Fault Refusal :=
  .next
    (let f := feOf s fe.val
     let w := s.clk.ticks - 2400000000
     if f.fbV != 0 && decide (f.vswrBad ≤ w) && decide (2400000000 ≤ s.clk.ticks) &&
        (match f.vswrLow.getD 9 0 with | 0 => false | t => decide (w ≤ t)) then
       setFbV fe.val 0 s
     else s)

/-- PA_TEMPERATURE_CHANGE (R207). -/
def execPaTemperatureChange (fe : Fin 2) (t : Int) (s : State) : Host.Outcome State Fault Refusal :=
  .next
    (let k := fe.val
     let f := feOf s k
     let fb := if t ≤ 105 then 0 else ((t - 105 + 1) / 2).toNat
     let stop := if 125 ≤ t then true else if t < 115 then false else f.thermStop
     let s1 := updFe k (fun f => { f with paTemp := t, fbT := fb, thermStop := stop }) s
     let s2 := { s1 with rad := { s1.rad with ces := s1.rad.ces.map fun e => { e with
       test := e.test.map fun x => if x.fe = k then { x with peakTemp := max x.peakTemp t } else x } } }
     if fb != f.fbT || stop != f.thermStop then
       logNs (evFeThermal + 256 * k) 0xFF [fb, ofSigned 32 t, b2n (!stop)] s2
     else s2)

/-! ### Carriers and frames (R193, R199, R204) -/

/-- What follows the end of an engine's carrier: a waiting configuration is applied, or the engine rests. -/
def afterCarrier (n : Nat) (s : State) : State :=
  match (ceOf s n).next with
  | some c => putCe n c (updCe n (fun e => { e with st := .rest, adm := none, rx := none }) s)
  | none => settleCe n s

/-- A carrier taken off the air at this instant: its time counted. -/
def stopCarrier (n k : Nat) (c : Carrier) (s : State) : State :=
  countAir n c.start (Nat.min c.stop s.clk.ticks) (endCarrier n k s)

/-- A carrier cut short at this instant: what was measured on it counts (R206, R212). -/
def cutCarrier (n k : Nat) (c : Carrier) (s : State) : State :=
  let s1 := stopCarrier n k c s
  let t := Nat.min c.stop s.clk.ticks - c.start
  if t = 0 then s1 else let (m, s2) := freshMeas s1; measureCarrier k t m s2

/-- An Enhanced ACK has been sent: the frames it announced follow (R236, R237). A frame queued just after the pending bit was read waits for
the next opportunity: a SAMPLED endpoint's for its train (R226, R242). -/
def ackSent (n : Nat) (s : State) : State :=
  match (mdOf s n).ack with
  | none => s
  | some a =>
    let s1 := updMd n (fun m => { m with
      ack := none
      cnt := { m.cnt with ackSent := inc32 m.cnt.ackSent, ackPending := if a.pendingBit then inc32 m.cnt.ackPending else m.cnt.ackPending } }) s
    if a.pendingBit then deliver n a.ep s1 else restageTrain n a.ep s1

/-- TRANSMIT_END (R193): the carrier has lasted its time; the frame leaves with SENT, and the feedback receiver has measured. -/
def execTransmitEnd (n : Nat) (m : TxMeas) (s : State) : Host.Outcome State Fault Refusal :=
  .next
    (match carrierOf s n with
     | none => s
     | some (k, c) =>
       if c.src == .test || decide (s.clk.ticks < c.stop) then s
       else
         let s1 := measureCarrier k (c.stop - c.start) m (stopCarrier n k c s)
         if c.ack then ackSent n (afterCarrier n s1)
         else match (ceOf s1 n).adm with
           | some a => frameLeft n a.frame 0 (afterCarrier n s1)
           | none => afterCarrier n s1)

/-- LBT_ATTEMPT (R199): the attempt has listened for its time; `peak` is the largest block's power on a branch, at the pad, in 0.1
dBm. -/
def execLbtAttempt (n : Nat) (br : Fin 2) (peak : Int) (s : State) : Host.Outcome State Fault Refusal :=
  .next
    (let s := revokeAdm s
     let e := ceOf s n
     let c := ceCfg s n
     match e.adm with
     | none => s
     | some a =>
       let f := frameFreq s n a.frame
       let w := phyWidth c.phy
       if e.st != .access || decide (s.clk.ticks < a.due) || !branchAt s br.val f w then s
       else
         let fe := feCfg s br.val
         let thr : Int := match subOf (planOf s) f w with | some b => b.thr | none => 85
         if peak - fe.gain + fe.loss < -10 * thr then
           if protects s a.fe a.frame || !(feSends s a.fe f w) || txd s n != 0 then s else startFrame n a s
         else
           let g := { a.frame with busy := a.frame.busy + 1 }
           let s1 := updCe n (fun e => { e with tx := e.tx.map fun x => if x == a.frame then g else x }) s
           if c.tries ≤ g.busy then
             frameLeft n g 1 (updCe n (fun e => { e with st := .rest, adm := none }) s1) |> enterAccess n
           else
             let (w1, s2) := randWait s1
             let (w2, s3) := randWait s2
             updCe n (fun e => { e with adm := some { a with
                frame := g, listen := s.clk.ticks + w1, due := s.clk.ticks + w1 + listenTicks s + w2 } }) s3)

/-- The outcome of a frame at its deadline (R193, R194, R200). -/
def deadlineOut (s : State) (n : Nat) (f : Frame) : Nat :=
  if txd s n != 0 then 4 else if dutyHeld s n f.cls (frameTicks s n f) then 3 else 2

/-- FRAME_DEADLINE (R193): the first staged frame whose deadline has passed, the one in the air apart, leaves. -/
def execFrameDeadline (n : Nat) (s : State) : Host.Outcome State Fault Refusal :=
  .next
    (let e := ceOf s n
     let air := match e.adm with | some a => if e.st == .transmit then some a.frame else none | none => none
     match e.tx.find? fun f => decide (f.deadline ≤ s.tt.tt) && air != some f with
     | none => s
     | some f =>
       let out := deadlineOut s n f
       let s1 := updCe n (fun e => match e.adm with
         | some a => if a.frame == f && e.st == .access then { e with adm := none, st := .rest } else e
         | none => if e.st == .access && nextFrame e == some f then { e with st := .rest } else e) s
       enterAccess n (frameLeft n f out s1))

/-- SHR_DETECT (R190, R194): an SHR on a valid branch; during listen-before-talk the attempt counts as busy. A second branch
joins. -/
def execShrDetect (n : Nat) (br : Fin 2) (s : State) : Host.Outcome State Fault Refusal :=
  .next
    (let e := ceOf s n
     if !branch s n br.val then s
     else
       let r : Reception := match e.rx with
         | some r => r | none => ⟨false, false, false, false, s.clk.ticks + phrTicks (ceCfg s n), none, false⟩
       let r' : Reception := if br.val = 0 then { r with fe0 := true } else { r with fe1 := true }
       match e.st with
       | .transmit => s
       | .receive => updCe n (fun e => { e with rx := some r' }) s
       | _ =>
         let s1 := adoptRx n s
         match e.adm with
         | none => updCe n (fun e => { e with st := .receive, rx := some r' }) s1
         | some a =>
           let g := { a.frame with busy := a.frame.busy + 1 }
           let s2 := updCe n (fun e => { e with
             st := .receive, rx := some r', adm := none, tx := e.tx.map fun x => if x == a.frame then g else x }) s1
           if (ceCfg s n).tries ≤ g.busy then frameLeft n g 1 s2 else s2)

/-! ### Acknowledgements (R202, R203, R223, R224) -/

/-- The power an Enhanced ACK may be sent at, if it fits (R203). -/
def ackPower (s : State) (k n : Nat) : Option Int :=
  let c := ceCfg s n
  match ceSub s n with
  | none => none
  | some b =>
    let p := pEff s k b c.power
    if feClosed s k || !feSends s k c.freq (phyWidth c.phy) || decide (8 ≤ carrierCount s k) then none
    else (List.range 21).findSome? fun (d : Nat) => if pSum s k + pw (p - d) ≤ pAgg s k then some (p - (d : Int)) else none

/-- The engine's state keeps an ACK from starting (R194): it receives, transmits or is idle. -/
def ackBlocked (s : State) (n : Nat) : Bool :=
  match (ceOf s n).st with | .rest => branchMask s n == 0 | .receive => true | .access => false | .transmit => true

/-- ENHANCED_ACK (R223): at T_TA the ACK starts, on the front end that admits it, or is skipped and counted (R202). DESIGN CHOICE: so it
is where the engine has begun to receive another frame, or has no valid branch left, and where its counter would reach the ceiling (log
entry 49, on acknowledgements). -/
def execEnhancedAck (n : Nat) (s : State) : Host.Outcome State Fault Refusal :=
  .next
    (match (mdOf s n).ack with
     | none => s
     | some a =>
       if s.clk.ticks + 800 < a.at_ then s
       else
         let c := ceCfg s n
         let late := decide (a.at_ + 400 < s.clk.ticks + 800)
         let held := txd s n != 0 || dutyHeld s n 0 0 || ackBlocked s n || (a.keyIdx.isNone && !outReady s a.ep)
         match (sendFes s n).findSome? fun k => (ackPower s k n).map fun p => (k, p) with
         | some (k, p) =>
           if late || held then skip n k s
           else
             let t := airTicks c c.preamble (ackOctets a)
             launch n k .ack true p c.freq t (formAck n a (s.clk.ticks + 800) t (updCe n (fun e => { e with adm := none }) s))
         | none => skip n ((sendFes s n).headD 0) s)
where
  /-- The ACK is not sent; a frame that waits for a SAMPLED endpoint is sent with a train. -/
  skip (n k : Nat) (s : State) : State :=
    let s1 := updFe k (fun f => { f with ackSkipped := sat 16 (f.ackSkipped + 1) }) (updMd n (fun m => { m with ack := none }) s)
    match (mdOf s n).ack with | some a => restageTrain n a.ep s1 | none => s1

/-- ACK_TIMEOUT (R223): the answer window has closed without a valid ACK. -/
def execAckTimeout (n : Nat) (s : State) : Host.Outcome State Fault Refusal :=
  .next
    (match (mdOf s n).wait with
     | none => s
     | some w =>
       if s.clk.ticks < w.since + 50000 then s
       else
         let s1 := updMd n (fun m => { m with wait := none }) s
         let s2 := match w.frame.cls, w.frame.ackFrom with
           | 1, some ep => trainFailed n ep s1
           | _, _ => s1
         match w.frame.src with
         | .txn id => failTxn id s2
         | .raw id => rawDone n id 7 0 0 0 s2
         | _ => s2)

/-! ### Duty windows (R200) -/

/-- DUTY_BIN_ADVANCE (R200): a second of TCXO time passes; bins older than 3,600 s leave the window. -/
def execDutyBinAdvance (s : State) : Host.Outcome State Fault Refusal :=
  .next
    (if s.rad.dutySec < s.clk.ticks / 40000000 then
       let d := s.rad.dutySec + 1
       { s with rad := { s.rad with
         dutySec := d, fillLeft := s.rad.fillLeft - 1
         ces := s.rad.ces.map fun e => { e with duty := e.duty.filter fun b => decide (d < b.1 + 3600) }
         testAir := s.rad.testAir.filter fun t => decide (d < t.2.1 + 3600) } }
     else s)

/-! ### Live calibration (R209 to R211) -/

/-- RX_CAL_PUBLISH (R209): a new receive set; engines that are not receiving change to it. -/
def execRxCalPublish (fe : Fin 2) (amp phase dcI dcQ : Int) (s : State) : Host.Outcome State Fault Refusal :=
  .next
    (let s1 := updFe fe.val (fun f => { f with
       rxSets := f.rxSets + 1, iqAmp := amp, iqPhase := phase, dcI := dcI, dcQ := dcQ, rxCyc := cycOf s }) s
     (List.range 64).foldl (fun s n => if (ceOf s n).st == .receive then s else adoptRx n s) s1)

/-- RX_CAL_ADOPT (R209): an engine's first instant outside RECEIVE. -/
def execRxCalAdopt (n : Nat) (s : State) : Host.Outcome State Fault Refusal :=
  .next (if (ceOf s n).st == .receive then s else adoptRx n s)

/-- The branch through front end `k` marked invalid for the rest of the frame in progress (R183). -/
def markGain (k n : Nat) (s : State) : State :=
  updCe n (fun e => { e with rx := e.rx.map fun r => if k = 0 then { r with gain0 := true } else { r with gain1 := true } }) s

/-- A gain change made: for every engine that is receiving, this front end's branch is invalid for the rest of the frame; a frame that
has no other branch is lost and counted (R183, R210). -/
def changeGain (k step : Nat) (s : State) : State :=
  let rx := (List.range 64).filter fun n => (ceOf s n).rx.isSome
  let drops := rx.filter fun n => branch s n k
  let s1 := rx.foldl (fun s n => dropRx k true n (markGain k n s)) s
  updFe k (fun f => { f with
    gainStep := step, gainChanges := sat 20 (f.gainChanges + 1), gainPend := none
    branchDrops := sat 16 (f.branchDrops + drops.length) }) s1

/-- GAIN_STEP_CHANGE (R210): a step called for is made when it splits no frame received here alone; otherwise it waits. -/
def execGainStepChange (fe : Fin 2) (step : Fin 16) (headroom : Nat) (s : State) : Host.Outcome State Fault Refusal :=
  .next
    (let k := fe.val
     let s1 := updFe k (fun f => { f with headroom := headroom }) s
     if (feCfg s k).gainMode || decide ((feOf s k).gainStep = step.val) then s1
     else if (soleRx s k).isEmpty then changeGain k step.val s1
     else updFe k (fun f => { f with
       gainPend := some (step.val, match f.gainPend with | some (_, t) => t | none => s.clk.ticks) }) s1)

/-- EV_FE_GAIN_FORCED (R210): a change has waited 50 ms, or the ADC has clipped on 64 consecutive samples. With a fixed step,
clipping is only counted. -/
def execEvFeGainForced (fe : Fin 2) (clip : Bool) (s : State) : Host.Outcome State Fault Refusal :=
  .next
    (let k := fe.val
     let f := feOf s k
     let s0 := if clip then updFe k (fun f => { f with clips := f.clips + 1 }) s else s
     match f.gainPend with
     | none => s0
     | some (step, t) =>
       if (feCfg s k).gainMode || !(clip || decide (t + 2000000 ≤ s.clk.ticks)) then s0
       else
         let lost := (soleRx s k).length
         let s1 := updFe k (fun f => { f with forced := sat 16 (f.forced + 1) }) (changeGain k step s0)
         logLim (evFeGainForced + 256 * k) 0xFF (fun c => [wd (b2n clip), wd lost, wd c]) s1)

/-- DPD_APPLY (R211): a predistortion set is published, and applied at an instant with no carrier active. -/
def execDpdApply (fe : Fin 2) (state : Fin 3) (s : State) : Host.Outcome State Fault Refusal :=
  .next
    (let k := fe.val
     let f := feOf s k
     let sets := if f.dpdPend.isNone then f.dpdSets + 1 else f.dpdSets
     if f.carriers.isEmpty then
       updFe k (fun f => { f with dpdSets := sets, dpdPend := none, dpdStop := false, dpdCyc := cycOf s, dpdState := state.val }) s
     else updFe k (fun f => { f with dpdSets := sets, dpdPend := f.dpdPend.or (some s.clk.ticks), dpdState := 3 }) s)

/-- DPD_TIMEOUT (R211): no free instant for 10 s after publication; the front end admits no data, train or beacon carrier. -/
def execDpdTimeout (fe : Fin 2) (s : State) : Host.Outcome State Fault Refusal :=
  .next
    (match (feOf s fe.val).dpdPend with
     | some t => if t + 400000000 ≤ s.clk.ticks then updFe fe.val (fun f => { f with dpdStop := true }) s else s
     | none => s)

/-! ### Faults (R215) and the flush sequence (R208) -/

/-- Every carrier of a front end stops; its frames leave with an outcome. -/
def stopAll (k out : Nat) (s : State) : State :=
  (feOf s k).carriers.foldl (fun s c =>
    if c.src == .test then s
    else
      let s1 := cutCarrier c.ce k c s
      if c.ack then afterCarrier c.ce (updMd c.ce (fun m => { m with ack := none }) s1)
      else match (ceOf s1 c.ce).adm with
        | some a => frameLeft c.ce a.frame out (afterCarrier c.ce s1)
        | none => afterCarrier c.ce s1) s

/-- EV_FE_FAULT (R215): synthesiser unlock or power-amplifier fault; the front end is OFF until it relocks. -/
def execEvFeFault (fe : Fin 2) (pa : Bool) (s : State) : Host.Outcome State Fault Refusal :=
  .next
    (let k := fe.val
     if (feOf s k).fault then s
     else
       let s1 := stopAll k 4 (updFe k (fun f => { f with fault := true, faultTick := s.clk.ticks }) s)
       logNs (evFeFault + 256 * k) 0xFF [b2n pa] (purgeDisabled s (dropInvalid s1)))

/-- FE_RELOCK_RETRY (R215): every 1 s. -/
def execFeRelockRetry (fe : Fin 2) (ok : Bool) (s : State) : Host.Outcome State Fault Refusal :=
  .next
    (let f := feOf s fe.val
     if f.fault && decide (f.faultTick + 40000000 ≤ s.clk.ticks) then
       updFe fe.val (fun f => { f with fault := !ok, faultTick := s.clk.ticks }) s
     else s)

/-- At the assertion of PFW_N every frame in the air stops with ABORTED, ACKs too (R208). -/
def radioAbort (s : State) : State := stopAll 1 5 (stopAll 0 5 s)

end Sys2Proof.Machine
end

