-- ==== Sys2Proof/Machine/RadCmd.lean ====
section
/-!
DEFINITION. The RAD commands, calibration sweeps and transmit tests (07 R213, R214).
-/
namespace Sys2Proof.Machine

/-! ### Checks shared by the blocks that can be withdrawn (R167, R492) -/

/-- Check 8 for a block, or for a half of block 0x06: the activity code of the withdrawal in its way. -/
def needSvc (s : State) (block : Nat) (half : Nat := 0) : Option Fail :=
  match s.bal.withdrawals.find? fun w => w.active && w.block == block && (half == 0 || w.half == half) with
  | none => none
  | some w => some ⟨8, stBusyMaint, 0xFFFF,
      if w.sweep then 0x0600 + (block - 4) else 0x0A00 + block + (if w.half = 2 then 0x80 else 0)⟩

/-- Checks 2 to 5 for a command of fixed length, in the modes of the general rule. -/
def stdHead (code n : Nat) (r : Req) (s : State) : Option Fail :=
  match opRow code with
  | none => none
  | some row => headChecks r row (modeServed s) (r.len == n) s

/-- Checks that a command naming an engine makes: it is present, in reach, its half in service. -/
def needEngine (r : Req) (s : State) (n : Nat) : List (Option Fail) :=
  [ need 6 (decide (n < engineCount s.dev.variant)) stAbsent 3 (0x0600 + n),
    need 7 (reachesEngine s r.port n) stWorld 3 (0x0600 + n), inWord 3 (needSvc s 0x06 (ceHalf n)) ]

/-! ### Stored configurations: those that wait for their boundary count (R214) -/

/-- The last setting request that waits for its entry and satisfies a test. -/
def waitingCfg (s : State) (p : Req → Bool) : Option Req :=
  (s.tl.entries.filterMap fun e => match e.kind with | .config r => if p r then some r else none | _ => none).getLast?

/-- The engine configuration of a request. -/
def ceCfgOf (r : Req) : CeCfg :=
  ⟨bit (r.w 3) 25, fld (r.w 3) 24 23, fld (r.w 3) 15 8, fld (r.w 3) 7 0, (r.w 4).toNat, sfld (r.w 5) 31 24, fld (r.w 5) 23 14,
   bit (r.w 5) 13, bit (r.w 5) 12, fld (r.w 5) 11 8⟩

/-- The front-end configuration of a request. -/
def feCfgOf (r : Req) : FeCfg :=
  ⟨fld (r.w 3) 30 29, bit (r.w 3) 28, fld (r.w 3) 19 0, sfld (r.w 4) 31 16, fld (r.w 4) 15 0, bit (r.w 5) 31, fld (r.w 5) 30 27⟩

/-- The sub-bands of a custom plan. -/
def customSubs (r : Req) (n : Nat) : List SubBand :=
  (List.range n).map fun k =>
    let x := r.w (7 + 3 * k)
    ⟨(r.w (5 + 3 * k)).toNat, (r.w (6 + 3 * k)).toNat, sfld x 31 24, bit x 23, fld x 22 16, bit x 15, fld x 13 0⟩

/-- The band plan of a request. -/
def planOfReq (r : Req) : BandPlan :=
  let p := fld (r.w 3) 31 24
  if p < 3 then deliveredPlan p else ⟨3, fld (r.w 4) 31 16, fld (r.w 4) 15 0, customSubs r (fld (r.w 3) 23 16)⟩

/-- The plan as stored. -/
def storedPlan (s : State) : Option BandPlan :=
  match waitingCfg s fun r => r.opcode == 0x0302 with | some r => some (planOfReq r) | none => planOf s

/-- An engine's configuration as stored. -/
def storedCe (s : State) (n : Nat) : CeCfg :=
  match waitingCfg s fun r => r.opcode == 0x0304 && fld (r.w 3) 31 26 == n with
  | some r => ceCfgOf r
  | none => (ceOf s n).next.getD ((ceOf s n).cfg.getD (ceDefault n (planCode (storedPlan s))))

/-- A front end's configuration as stored. -/
def storedFe (s : State) (k : Nat) : FeCfg :=
  match waitingCfg s fun r => r.opcode == 0x0303 && fld (r.w 3) 31 31 == k with
  | some r => feCfgOf r
  | none => (feOf s k).cfg.getD (feDefault k (planCode (storedPlan s)))

/-- The stored configurations of the engines present. -/
def storedCes (s : State) : List CeCfg := (List.range (engineCount s.dev.variant)).map (storedCe s)

/-! ### RAD.STATUS, RAD.CAL_STATUS -/

/-- The four words of a front end's live state. -/
def feStatus (s : State) (k : Nat) : List Word :=
  let f := feOf s k
  [ packW [(carrierCount s k, 28), (sat 8 (queuedOn s k), 20), (sat 4 (foldback f), 16), (ofSigned 8 f.paTemp, 8), (sat 8 f.vswr, 0)],
    packW [(sat 16 (((f.carriers.map fun c => pw c.power).sum + 50000000) / 100000000), 16), (f.ackSkipped, 0)], wd f.started,
    packW [(f.lostBlank, 16), (f.lostGain, 0)] ]

/-- The two words of an engine's live state; 0 for an absent engine. -/
def ceStatus (s : State) (n : Nat) : List Word :=
  if engineCount s.dev.variant ≤ n then [0, 0]
  else
    let e := ceOf s n
    let used := match allotment s n with | some a => if a = 0 then 1023 else sat 10 (dutyUsed s n * 1000 / a) | none => 0
    [ packW [(ceCode s n, 29), (txd s n, 26), (branchMask s n, 24), ((ceCfg s n).phy, 16), (used, 0)],
      packW [(ofSigned 8 e.rssi, 24), (ofSigned 8 e.snr, 16), (e.overruns, 8), (e.txFailed, 0)] ]

/-- The three words of a sub-band. -/
def subWords (b : SubBand) : List Word :=
  [wd b.lower, wd b.upper, packW [(ofSigned 8 b.pmax, 24), (b2n b.lbt, 23), (b.thr, 16), (b2n b.conducted, 15), (b.duty, 0)]]

/-- The configuration words of a front end (RAD.STATUS `VIEW` 1, 2). -/
def feCfgWords (c : FeCfg) : List Word :=
  [ packW [(c.centre, 12), (c.role, 10), (b2n c.protect, 9), (b2n c.gainMode, 8), (c.gainStep, 4)],
    packW [(ofSigned 16 c.gain, 16), (c.loss, 0)] ]

/-- Checks of RAD.STATUS. -/
def chkRadStatus (r : Req) (s : State) : Option Fail :=
  let v := fld (r.w 3) 1 0
  firstFail
    [ stdHead 0x0301 1 r s, need 6 (!(v == 2 && s.dev.variant == .b)) stAbsent 3 0x06FF, needWorld r s 0x04,
      needWorld r s 0x05, needWorld r s 0x06, needSvc s 0x04, needSvc s 0x05, needSvc s 0x06,
      need 9 (fld (r.w 3) 31 2 == 0) stBadParam 3 ]

/-- RAD.STATUS, its checks passed. -/
def actRadStatus (r : Req) (s : State) : State :=
  let v := fld (r.w 3) 1 0
  let p := planOf s
  let n := match p with | some b => b.subs.length | none => 0
  let w3 := packW [(planCode p, 24), (n, 16), (v, 8)]
  let body := match v with
    | 0 => feStatus s 0 ++ feStatus s 1 ++ ((List.range 64).map (ceStatus s)).flatten
    | 3 => (match p with
      | some b => packW [(b.tListen, 16), (b.backoffMax, 0)] :: (b.subs.map subWords).flatten
      | none => [0])
    | _ => feCfgWords (feCfg s 0) ++ feCfgWords (feCfg s 1) ++
        ((List.range 32).map fun k =>
          let i := 32 * (v - 1) + k
          if i < engineCount s.dev.variant then ceWords i (ceCfg s i) else [0, 0, 0]).flatten
  ok r (w3 :: body) s

/-- RAD.STATUS (0x0301). -/
def execRadStatus (s : State) : Host.Outcome State Fault Refusal :=
  .next (serve 0x0301 chkRadStatus actRadStatus s)

/-- The twelve words of a front end's calibration state. -/
def calWords (s : State) (k : Nat) : List Word :=
  let f := feOf s k
  [ packW [(f.gainStep, 28), (sat 8 f.headroom, 20), (f.gainChanges, 0)], packW [(f.forced, 16), (f.branchDrops, 0)],
    packW [(ofSigned 16 f.iqAmp, 16), (ofSigned 16 f.iqPhase, 0)], packW [(ofSigned 16 f.dcI, 16), (ofSigned 16 f.dcQ, 0)],
    wd f.rxCyc, wd f.dpdState, wd f.dpdCyc, packW [(f.aclrLo, 16), (f.aclrHi, 0)],
    packW [(ofSigned 16 f.margin, 16), (f.fbD, 8)], wd f.sweepSec,
    packW [(f.sweepRes, 24), (f.sweepSec / 2 ^ 32 % 256, 16), (sat 16 f.sweeps, 0)], 0 ]

/-- Checks of RAD.CAL_STATUS. -/
def chkRadCalStatus (r : Req) (s : State) : Option Fail :=
  firstFail [stdHead 0x0305 0 r s, needWorld r s 0x04, needWorld r s 0x05, needSvc s 0x04, needSvc s 0x05]

/-- RAD.CAL_STATUS, its checks passed. -/
def actRadCalStatus (r : Req) (s : State) : State :=
  ok r (packW [(s.rad.fe0.rxSets + s.rad.fe1.rxSets, 16), (s.rad.fe0.dpdSets + s.rad.fe1.dpdSets, 0)] ::
    (calWords s 0 ++ calWords s 1)) s

/-- RAD.CAL_STATUS (0x0305). -/
def execRadCalStatus (s : State) : Host.Outcome State Fault Refusal :=
  .next (serve 0x0305 chkRadCalStatus actRadCalStatus s)

/-! ### RAD.BAND_PLAN (R196, R197, R201) -/

/-- The fields of a custom plan: the word at fault, 0 for none. -/
def customFault (r : Req) (n : Nat) : Nat :=
  if !(decide (100 ≤ fld (r.w 4) 31 16) && decide (fld (r.w 4) 31 16 ≤ 10000) && decide (fld (r.w 4) 15 0 ≤ 50000)) then 4
  else
    (List.range n).foldl (fun m k =>
      if m != 0 then m
      else
        let b := (customSubs r n).getD k default
        let low := if k = 0 then 769000 else ((customSubs r n).getD (k - 1) default).upper
        if b.lower < low ∨ b.upper ≤ b.lower then 5 + 3 * k
        else if 960000 < b.upper then 6 + 3 * k
        else if !(decide (-10 ≤ b.pmax) && decide (b.pmax ≤ 30) && decide (60 ≤ b.thr) && decide (b.thr ≤ 120) &&
            !bit (r.w (7 + 3 * k)) 14 && decide (1 ≤ b.duty) && decide (b.duty ≤ 10000)) then 7 + 3 * k
        else 0) 0

/-- The channels of the enabled engines do not overlap (R195). -/
def chansApart : List CeCfg → Bool
  | [] => true
  | c :: t => t.all (fun o => !(c.enable && o.enable && chanOverlap c.freq (phyWidth c.phy) o.freq (phyWidth o.phy))) && chansApart t

/-- Checks of RAD.BAND_PLAN. -/
def chkRadBandPlan (r : Req) (s : State) : Option Fail :=
  let p := fld (r.w 3) 31 24
  let n := fld (r.w 3) 23 16
  let wordAt := if p = 3 then customFault r n else 0
  let old := planCode (storedPlan s)
  let cfgs := (List.range (engineCount s.dev.variant)).map fun i =>
    let c := storedCe s i
    if (ceOf s i).cfg.isNone && c == ceDefault i old then ceDefault i p else c
  firstFail
    [ stdHead 0x0302 (if p = 3 then 2 + 3 * n else 1) r s, needWorld r s 0x04, needSecure r s 0x04, needSvc s 0x04,
      need 9 (fld (r.w 3) 15 0 == 0 && decide (p ≤ 3) && (if p = 3 then decide (1 ≤ n) && decide (n ≤ 8) else n == 0)) stBadParam 3,
      need 9 (wordAt == 0) stBadParam wordAt, need 12 (chansApart cfgs) stBadParam 4, need 12 (sharesOk (some (planOfReq r)) cfgs) stRegulatory ]

/-- Engines that a change of plan leaves without a sub-band. -/
def unplanned (p : Option BandPlan) (s : State) : List Nat :=
  let s1 := { s with rad := { s.rad with stored := p } }
  (List.range (engineCount s.dev.variant)).filter fun n => ceOn s1 n && (ceSub s1 n).isNone && (ceSub s n).isSome

/-- A band plan stored; engines left without a sub-band are logged. -/
def storePlan (p : Option BandPlan) (s : State) : State :=
  (unplanned p s).foldl (fun s n => logNs evCeUnplanned n [n, (ceCfg s n).freq] s) { s with rad := { s.rad with stored := p } }

/-- A band plan applied (RAD.BAND_PLAN): engines left without a sub-band lose their staged frames. -/
def applyPlan (port : Nat) (p : Option BandPlan) (s : State) : State :=
  let s1 := storePlan p s
  enterAll (purgeDisabled s (logNs evRadBandPlan port [port, planCode (planOf s), planCode (planOf s1), (unplanned p s).length] s1))

/-- RAD.BAND_PLAN takes effect. -/
def applyRadBandPlan (r : Req) (s : State) : State := markStored 0x04 (applyPlan r.port.val (some (planOfReq r)) s)

/-- RAD.BAND_PLAN (0x0302). -/
def execRadBandPlan (s : State) : Host.Outcome State Fault Refusal :=
  .next (serve 0x0302 chkRadBandPlan (storeAtBoundary 0x04) s)

/-! ### RAD.FE_CONFIG (R185) -/

/-- A test of RAD.TX_TEST runs on a front end. -/
def testOnFe (s : State) (k : Nat) : Bool := s.rad.ces.any fun e => match e.test with | some t => t.fe == k | none => false

/-- An enabled engine whose `TX_FE` is fixed to front end `k` has it as a covering RXTX front end when `k` becomes `c`. -/
def keepsSender (k : Nat) (c : FeCfg) (e : CeCfg) : Bool :=
  !(e.enable && e.txFe == k) || (c.role == 0 && inWindow c.centre e.freq (phyWidth e.phy))

/-- Checks of RAD.FE_CONFIG. -/
def chkRadFeConfig (r : Req) (s : State) : Option Fail :=
  let c := feCfgOf r
  let k := fld (r.w 3) 31 31
  firstFail
    [ stdHead 0x0303 3 r s, inWord 3 (needWorld r s (4 + k)), needSecure r s (4 + k), inWord 3 (needSvc s (4 + k)),
      need 9 (c.role != 3 && fld (r.w 3) 27 20 == 0 && decide (783000 ≤ c.centre) && decide (c.centre ≤ 946000)) stBadParam 3,
      need 9 (decide (-100 ≤ c.gain) && decide (c.gain ≤ 150) && decide (c.loss ≤ 200)) stBadParam 4,
      need 9 (fld (r.w 5) 26 0 == 0) stBadParam 5,
      need 12 ((storedCes s).all (keepsSender k c) && !testOnFe s k) stBadState ]

/-- A fixed gain step is taken at once (R210). DESIGN CHOICE: inside a frame it is a gain change like another (log entry 48, on gain). -/
def fixGain (k : Nat) (c : FeCfg) (s : State) : State :=
  if c.gainMode && (feOf s k).gainStep != c.gainStep then changeGain k c.gainStep s else s

/-- RAD.FE_CONFIG takes effect: the retune follows when the last carrier ends (R185). -/
def applyRadFeConfig (r : Req) (s : State) : State :=
  let k := fld (r.w 3) 31 31
  let c := feCfgOf r
  let s0 := updFe k (fun f => { f with cfg := some c, gainPend := none }) s
  let s1 := fixGain k c s0
  logEv (evFeConfig + 256 * k) r.port.val ([wd r.port.val] ++ feWords k (feCfg s k) ++ feWords k c) (markStored (4 + k) s1)

/-- RAD.FE_CONFIG (0x0303). -/
def execRadFeConfig (s : State) : Host.Outcome State Fault Refusal :=
  .next (serve 0x0303 chkRadFeConfig (fun r => storeAtBoundary (4 + fld (r.w 3) 31 31) r) s)

/-! ### RAD.ENGINE_CONFIG -/

/-- Fields of a channel: the range R187 gives it (RAD.ENGINE_CONFIG word 4). -/
def freqOk (f w : Nat) : Bool := decide (1538000000 + w ≤ 2 * f) && decide (2 * f + w ≤ 1920000000)

/-- Some front end, as stored, covers a channel. -/
def storedCovers (s : State) (f w : Nat) : Bool :=
  [0, 1].any fun k => let c := storedFe s k; c.role != 2 && inWindow c.centre f w

/-- The front end that `TX_FE` fixes is RXTX and covers the channel. -/
def storedSends (s : State) (txFe f w : Nat) : Bool :=
  txFe == 2 || (let c := storedFe s txFe; c.role == 0 && inWindow c.centre f w)

/-- Checks of RAD.ENGINE_CONFIG. -/
def chkRadEngineConfig (r : Req) (s : State) : Option Fail :=
  let c := ceCfgOf r
  let n := fld (r.w 3) 31 26
  let w := phyWidth c.phy
  let fes := if c.txFe = 0 then [0] else if c.txFe = 1 then [1] else if c.txFe = 2 then [0, 1] else []
  let others := (List.range (engineCount s.dev.variant)).filter fun i => i != n
  let all := c :: others.map (storedCe s)
  firstFail
    ([ stdHead 0x0304 3 r s, need 6 (!(isOfdm c.phy && s.dev.variant == .b)) stAbsent 3 (0x0600 + n) ] ++
     needEngine r s n ++ fes.map (fun k => inWord 3 (needWorld r s (4 + k))) ++ fes.map (fun k => inWord 3 (needSvc s (4 + k))) ++
     [ need 9 (c.txFe != 3 && fld (r.w 3) 22 16 == 0 && phyOk c.phy &&
         (if isOfdm c.phy then c.preamble == 0 else decide (4 ≤ c.preamble))) stBadParam 3,
       need 9 (freqOk c.freq w) stBadParam 4,
       need 9 (decide (-40 ≤ c.power) && decide (c.power ≤ 60) && decide (c.share ≤ 1000) && !(isOfdm c.phy && c.fec) &&
         decide (1 ≤ c.tries) && decide (c.tries ≤ 8) && fld (r.w 5) 7 0 == 0) stBadParam 5,
       need 12 (!c.enable || others.all fun i =>
         let o := storedCe s i; !(o.enable && chanOverlap c.freq w o.freq (phyWidth o.phy))) stBadParam 4,
       need 12 (!c.enable || (storedPlan s).isSome) stNoBandPlan,
       need 12 (!c.enable || ((subOf (storedPlan s) c.freq w).isSome && sharesOk (storedPlan s) all)) stRegulatory,
       need 12 ((!c.enable || (storedCovers s c.freq w && storedSends s c.txFe c.freq w)) && (ceOf s n).test.isNone) stBadState ])

/-- RAD.ENGINE_CONFIG takes effect. -/
def applyRadEngineConfig (r : Req) (s : State) : State :=
  let n := fld (r.w 3) 31 26
  let c := ceCfgOf r
  logEv evCeConfig n ([wd n, wd r.port.val] ++ ceWords n (ceCfg s n) ++ ceWords n c) (markStored 0x06 (applyCe n c s))

/-- RAD.ENGINE_CONFIG (0x0304). -/
def execRadEngineConfig (s : State) : Host.Outcome State Fault Refusal :=
  .next (serve 0x0304 chkRadEngineConfig (storeAtBoundary 0x06) s)

/-! ### RAD.CAL_SWEEP (R213) -/

/-- Checks of RAD.CAL_SWEEP. -/
def chkRadCalSweep (r : Req) (s : State) : Option Fail :=
  let k := fld (r.w 3) 0 0
  firstFail
    [ stdHead 0x0306 1 r s, inWord 3 (needWorld r s (4 + k)), needSecure r s (4 + k), inWord 3 (needSvc s (4 + k)),
      need 9 (fld (r.w 3) 31 2 == 0) stBadParam 3, need 12 (!testOnFe s k) stBadState ]

/-- RAD.CAL_SWEEP, its checks passed. -/
def actRadCalSweep (r : Req) (s : State) : State :=
  let k := fld (r.w 3) 0 0
  admitReq 6 k r (fun s0 =>
    let s1 := acceptN r (updFe k (fun f => { f with sweep := some ⟨bit (r.w 3) 1, s0.clk.ticks, r.origin⟩ }) s0)
    let w : Withdrawal := ⟨4 + k, 0, r.port, 0, none, [], true, s0.clk.ticks, true, false⟩
    let s2 := { s1 with bal := { s1.bal with withdrawals := s1.bal.withdrawals ++ [w] } }
    settleMode s0 0 (purgeDisabled s0 (dropInvalid (stopAll k 5 s2)))) s

/-- RAD.CAL_SWEEP (0x0306): the front end is withdrawn for the sweep, and the module is in SERVICE. -/
def execRadCalSweep (s : State) : Host.Outcome State Fault Refusal :=
  .next (serve 0x0306 chkRadCalSweep actRadCalSweep s)

/-- The nine words of a sweep's final payload. -/
def sweepWords (k : Nat) (full : Bool) (res durMs sec : Nat) (m : SweepMeas) : List Word :=
  [ packW [(res, 24), (b2n full, 8), (k, 0)], wd durMs, packW [(m.gainErr, 16), (m.nf, 0)],
    packW [(ofSigned 16 m.iqAmp, 16), (ofSigned 16 m.iqPhase, 0)], packW [(ofSigned 16 m.dcI, 16), (ofSigned 16 m.dcQ, 0)],
    if full then packW [(m.aclrLo, 16), (m.aclrHi, 0)] else 0,
    packW [(if full then m.pMax else 0, 16), (ofSigned 16 m.fbrErr, 0)], wd sec, wd (sec / 2 ^ 32 % 256) ]

/-- CAL_SWEEP_END (R213): the sweep has lasted its time, or the flush sequence aborts it; the front end returns to service. A
failed sweep keeps the previous tables. -/
def execCalSweepEnd (fe : Fin 2) (m : SweepMeas) (s : State) : Host.Outcome State Fault Refusal :=
  .next
    (let k := fe.val
     match (feOf s k).sweep with
     | none => s
     | some w =>
       let ended := decide (w.start + (if w.full then 800000000 else 160000000) ≤ s.clk.ticks)
       if !(ended || s.pwr.flush.pfw) then s
       else
         let res := if ended then Nat.min m.result 2 else 3
         let good := res == 0
         let s1 := updFe k (fun f => { f with
           sweep := none, sweepRes := res, sweeps := f.sweeps + 1, sweepSec := if good then s.rtc.sec else f.sweepSec
           swept := if good then (m.iqAmp, m.iqPhase, m.dcI, m.dcQ) else f.swept
           iqAmp := if good then m.iqAmp else f.iqAmp, iqPhase := if good then m.iqPhase else f.iqPhase
           dcI := if good then m.dcI else f.dcI, dcQ := if good then m.dcQ else f.dcQ }) s
         let s2 := stopAct 6 k { s1 with bal := { s1.bal with
           withdrawals := s1.bal.withdrawals.filter fun x => !(x.sweep && x.block == 4 + k) } }
         let s3 := logNs (evFeSweep + 256 * k) w.org.port.val [b2n w.full, res, w.org.port.val] s2
         complete w.org stOk (sweepWords k w.full res ((s.clk.ticks - w.start) / 40000) s.rtc.sec m)
           (enterAll (settleMode s (evFeSweep + 256 * k) s3)))

/-! ### RAD.TX_TEST -/

/-- The PHY code whose width a test has. -/
def testPhy (r : Req) : Nat := if fld (r.w 3) 15 8 = 0 then 0 else fld (r.w 3) 23 16

/-- Checks of RAD.TX_TEST; a `DURATION` of 0 stops the test on the engine. -/
def chkRadTxTest (r : Req) (s : State) : Option Fail :=
  let n := fld (r.w 3) 31 26
  let k := fld (r.w 3) 25 25
  let phy := fld (r.w 3) 23 16
  let pat := fld (r.w 3) 15 8
  let f := (r.w 4).toNat
  let w := phyWidth (testPhy r)
  let dur := fld (r.w 5) 23 0
  let pwrHalf := sfld (r.w 5) 31 24
  let sub := subOf (planOf s) f w
  match opRow 0x0307 with
  | none => none
  | some row => firstFail
    ([ headChecks r row (modeServed s && s.pwr.mode == .commission) (r.len == 3) s,
       need 6 (!(isOfdm phy && s.dev.variant == .b)) stAbsent 3 (0x0600 + n) ] ++ needEngine r s n ++
     [ inWord 3 (needWorld r s (4 + k)), needSecure r s 0x06, inWord 3 (needSvc s (4 + k)),
       need 9 (!bit (r.w 3) 24 && fld (r.w 3) 7 0 == 0 && (dur == 0 || (decide (pat ≤ 2) && (if pat = 0 then phy == 0 else phyOk phy)))) stBadParam 3,
       need 9 (dur == 0 || freqOk f w) stBadParam 4,
       need 9 (decide (dur ≤ 600000) && (dur == 0 || (decide (-40 ≤ pwrHalf) && decide (pwrHalf ≤ 60)))) stBadParam 5 ] ++
     (if dur = 0 then [need 12 (ceOf s n).test.isSome stBadState]
      else
        [ need 12 (!ceOn s n && (ceOf s n).test.isNone && feSends s k f w) stBadState,
          need 12 (planOf s).isSome stNoBandPlan,
          need 12 (match sub with
            | some b => decide (subUsed s b + dur * 40000 ≤ b.duty * 14400000)
            | none => false) stRegulatory,
          need 13 (decide (dataCount s k < 7) && decide (carrierCount s k < 8)) stCarrierLimit ]))

/-- RAD.TX_TEST, its checks passed. -/
def actRadTxTest (r : Req) (s : State) : State :=
  let n := fld (r.w 3) 31 26
  let k := fld (r.w 3) 25 25
  let f := (r.w 4).toNat
  let dur := fld (r.w 5) 23 0
  if dur = 0 then okN r [] (updCe n (fun e => { e with test := e.test.map fun t => { t with stopReq := true } }) s)
  else
    match subOf (planOf s) f (phyWidth (testPhy r)) with
    | none => s
    | some b =>
      let p := pEff s k b (sfld (r.w 5) 31 24)
      let start := s.clk.ticks + 800
      let t : TxTest := ⟨k, fld (r.w 3) 15 8, f, p, start, start + dur * 40000, false, (feOf s k).paTemp, r.origin⟩
      let s1 := updFe k (fun x => { x with
        carriers := x.carriers ++ [⟨n, .test, false, p, f, start, t.stop⟩], started := inc32 x.started })
        (updCe n (fun e => { e with test := some t }) s)
      logEv evCeTxTest n [wd n, wd k, wd t.pattern, Config.itemCode evCeTxTest 0] (dropInvalid (acceptN r s1))

/-- RAD.TX_TEST (0x0307). -/
def execRadTxTest (s : State) : Host.Outcome State Fault Refusal :=
  .next (serve 0x0307 chkRadTxTest actRadTxTest s)

/-- TX_TEST_END: a test ends by duration, thermal foldback, R208 or request, with its one outcome. -/
def execTxTestEnd (n : Nat) (m : TxMeas) (s : State) : Host.Outcome State Fault Refusal :=
  .next
    (match (ceOf s n).test with
     | none => s
     | some t =>
       let out : Option Nat :=
         if t.stop ≤ s.clk.ticks then some 0
         else if (feOf s t.fe).thermStop then some 1
         else if s.pwr.flush.pfw then some 2
         else if t.stopReq then some 3 else none
       match out with
       | none => s
       | some o =>
         let stop := Nat.min t.stop s.clk.ticks
         let s0 := endCarrier n t.fe (updCe n (fun e => { e with test := none }) s)
         let s1 := if stop ≤ t.start then s0 else measureCarrier t.fe (stop - t.start) m s0
         let air := (addAir 700 t.start stop []).map fun b => (t.freq, b.1, b.2)
         let s2 := { s1 with rad := { s1.rad with testAir := s1.rad.testAir ++ air } }
         complete t.org stOk
           [ packW [(o, 24)], packW [(ofSigned 16 m.mean, 16), (sat 16 m.vswr, 0)], packW [(m.aclrLo, 16), (m.aclrHi, 0)],
             wd ((stop - t.start) / 40000), wd (ofSigned 8 t.peakTemp) ]
           (logNs evCeTxTest n [n, t.fe, t.pattern, o] s2))

end Sys2Proof.Machine
end

