-- ==== Sys2Proof/Machine/Io.lean ====
section
/-!
DEFINITION. Digital inputs and outputs (13, R376 to R381, R394).
-/
namespace Sys2Proof.Machine

/-! ### Notifications held back in HANDOVER (R66, R377, R384) -/

/-- A notification placed on the ports of a mask that the block's world admits; whether every placing succeeded. -/
def placeNtf (h : HeldNtf) (s : State) : State × Bool :=
  allPorts.foldl (fun (a : State × Bool) p =>
    if h.ports.testBit p.val && portPresent a.1 p && reaches a.1 p h.src then
      let s' := notifyAt (wd h.cyc) p h.code h.src h.payload a.1
      (s', a.2 && (s'.ports.get p).ntfLost == (a.1.ports.get p).ntfLost && (s'.ports.get p).lostSince == (a.1.ports.get p).lostSince)
    else a) (s, true)

/-- One CAN port. -/
def canOf (s : State) (p : Nat) : CanPort := s.can.getD p default
/-- One CAN port changed. -/
def onCan (p : Nat) (f : CanPort → CanPort) (s : State) : State := { s with can := updAt s.can p f }
/-- One CAN buffer changed. -/
def onBuf (p b : Nat) (f : CanBuf → CanBuf) (s : State) : State := onCan p (fun c => { c with bufs := updAt c.bufs b f }) s

/-- A notification sent now: a match buffer is freed where every port took it (R387). -/
def sendNtf (h : HeldNtf) (s : State) : State :=
  let (s1, all) := placeNtf h s
  match h.buf, all with
  | some (p, b), true => onBuf p b (fun x => { x with frame := none }) s1
  | _, _ => s1

/-- A notification of a block that hardware serves in HANDOVER: held back while the window is open, and until the boot notification
has been placed. -/
def ntfOrHold (h : HeldNtf) (s : State) : State :=
  if s.upd.windowOpen || !served s then { s with io := { s.io with held := s.io.held ++ [h] } } else sendNtf h s

/-- The notifications held back, delivered in order at the close of the window. -/
def deliverHeld (s : State) : State := s.io.held.foldl (fun s h => sendNtf h s) { s with io := { s.io with held := [] } }

/-! ### Inputs (R376 to R378) -/

/-- One input. -/
def dinOf (s : State) (k : Nat) : Din := s.io.din.getD k default
/-- One input changed. -/
def onDin (k : Nat) (f : Din → Din) (s : State) : State := { s with io := { s.io with din := updAt s.io.din k f } }

/-- An input after a sample: the run of equal samples, and the chatter count. `trans` tells that the transition detector saw two or
more transitions in the period. -/
def Din.sample (d : Din) (active trans : Bool) (tt : Nat) : Din :=
  if d.run ≠ 0 ∧ active = d.raw then { d with run := d.run + 1, chatCount := d.chatCount + b2n trans }
  else
    { d with raw := active, run := 1, runTt := tt,
             chatCount := d.chatCount + b2n trans + b2n (decide (d.run ≠ 0) && decide (d.run < d.cfg.deb)) }

/-- A run has come to qualify a level that is new, or the first. -/
def Din.qualifies (d : Din) : Bool := decide (d.cfg.deb ≤ d.run) && (!d.valid || d.level != d.raw)

/-- The edge of a qualified change (R377): logged, counted and, with `NTF`, notified. -/
def dinEdge (k : Nat) (s : State) : State :=
  let d := dinOf s k
  let s1 := logEv evDinEdge k ([wd k, wd (b2n d.level)] ++ ttWords d.runTt) (onDin k (fun d => { d with edges := sat 16 (d.edges + 1) }) s)
  if d.cfg.ntf then
    ntfOrHold ⟨15, 0x1001, 0x0F, [packW [(k, 28), (b2n d.level, 27), (ttPh d.runTt, 0)], wd (ttCyc d.runTt)], none, cycOf s1⟩ s1
  else s1

/-- One input at a sample instant. -/
def sampleDin (levels trans : Nat) (s : State) (k : Nat) : State :=
  let d := dinOf s k
  if !d.cfg.enable then s
  else
    let d1 := d.sample (levels.testBit k != d.cfg.pol) (trans.testBit k) s.tt.tt
    if d1.qualifies then
      let d2 := { d1 with level := d1.raw, valid := true, activeTick := s.clk.ticks, stuck := d1.stuck && d1.raw }
      let s1 := onDin k (fun _ => d2) s
      if d1.valid then dinEdge k s1 else s1
    else onDin k (fun _ => d1) s

/-- DIN_SAMPLE (R376): the pads' levels, and the inputs whose asynchronous detector saw two or more transitions since the last
sample. Once per 64 pu of TT. -/
def execDinSample (levels trans : Nat) (s : State) : Host.Outcome State Fault Refusal :=
  .next
    (if !windowAlive s || !s.tt.running || (match s.io.sampleIdx with | some i => decide (s.tt.tt / 64 ≤ i) | none => false) then s
     else (List.range 16).foldl (sampleDin levels trans)
       { s with io := { s.io with
         sampleTt := s.tt.tt / 64 * 64, sampleIdx := some (s.tt.tt / 64)
         din := if s.io.sampleIdx.isSome then s.io.din
           else s.io.din.map fun d => { d with chatK := cycOf s / Nat.max d.cfg.chatWin 1 } } })

/-- EV_DIN_STUCK (R378): qualified active for `STUCK_S` seconds of TCXO time. -/
def execEvDinStuck (k : Nat) (s : State) : Host.Outcome State Fault Refusal :=
  .next
    (let d := dinOf s k
     if d.cfg.enable && d.valid && d.level && !d.stuck && decide (d.cfg.stuckS ≠ 0) &&
         decide (d.activeTick + d.cfg.stuckS * 40000000 ≤ s.clk.ticks) then
       logNs evDinStuck k [k, d.cfg.stuckS] (onDin k (fun d => { d with stuck := true }) s)
     else s)

/-- CHATTER_WINDOW_END (R378): a window [k × `CHAT_WIN`, (k + 1) × `CHAT_WIN`) has ended. -/
def execChatterWindowEnd (k : Nat) (s : State) : Host.Outcome State Fault Refusal :=
  .next
    (let d := dinOf s k
     let now := cycOf s / Nat.max d.cfg.chatWin 1
     if d.cfg.enable && decide (d.chatK < now) then
       let hit := decide (d.cfg.chatMin ≤ d.chatCount)
       let s1 := onDin k (fun d => { d with chatCount := 0, chatter := hit, chatK := now }) s
       if hit then logNs evDinChatter k [k, d.chatCount, d.chatK * d.cfg.chatWin] s1 else s1
     else s)

/-! ### Outputs (R379 to R381) -/

/-- One output. -/
def doutOf (s : State) (k : Nat) : Dout := s.io.dout.getD k default
/-- One output changed. -/
def onDout (k : Nat) (f : Dout → Dout) (s : State) : State := { s with io := { s.io with dout := updAt s.io.dout k f } }

/-- A failed sign function holds the output open (R361). -/
def cutHeld (s : State) (k : Nat) : Bool := s.sgn.rec_.fns.any fun x => x.2.cut == k

/-- The switch is held off by row 2 or 3 of R380. -/
def heldOff (s : State) (k : Nat) : Bool := cutHeld s k || (doutOf s k).fault

/-- The switch is closed (R380, by the first row that applies). -/
def doutOn (s : State) (k : Nat) : Bool := served s && !heldOff s k && (doutOf s k).out

/-- EV_DOUT_FAULT (R379): a switch exceeds its current limit, or its die overheats; it is latched open. -/
def execEvDoutFault (k : Nat) (thermal : Bool) (s : State) : Host.Outcome State Fault Refusal :=
  .next
    (if decide (k < 8) && !(doutOf s k).fault && (thermal || doutOn s k) then
       logEv evDoutFault k [wd k, wd (b2n thermal)] (onDout k (fun d => { d with fault := true }) s)
     else s)

/-- Outputs of a mask that a value would switch on. -/
def turnsOn (mask value : Nat) : List Nat := (List.range 8).filter fun k => mask.testBit k && value.testBit k

/-- A DOUT value takes effect: outputs held off stay off and are logged as refused with the hold's cause (0 cut, 1 fault); while the
block is withdrawn the value is only the commanded one (R380, R381). -/
def applyDout (mask value target : Nat) (s : State) : State :=
  (List.range 8).foldl (fun s k =>
    if !mask.testBit k then s
    else
      let v := value.testBit k
      if v && heldOff s k then
        logEv evDoutRefused k [wd k, wd target, Config.itemCode evDoutRefused (b2n (!cutHeld s k))] s
      else onDout k (fun d => { d with cmd := v, out := if withdrawn s 0x0F then d.out else v }) s) s

/-- The commanded values as a mask. -/
def doutCmds (s : State) : Nat := maskOf 8 fun k => (doutOf s k).cmd

/-- Outputs of a mask whose commanded value differs from before. -/
def changedFrom (s : State) (mask prev : Nat) : Nat := maskOf 8 fun k => mask.testBit k && (doutOf s k).cmd != prev.testBit k

/-- Reserved entries of a DOUT command's returns: made active for the outputs it changed, dropped for the others. -/
def settleReturns (id back : Nat) (s : State) : State :=
  { s with tl := { s.tl with entries := s.tl.entries.filterMap fun e => match e.kind with
    | .doutReturn i k => if i = id then (if back.testBit k then some { e with active := true } else none) else some e
    | _ => some e } }

/-- The value of DOUT command `id` takes effect at its target (R381). -/
def fireDout (id : Nat) (s : State) : State :=
  match tget s.io.douts id with
  | none => s
  | some c =>
    let prev := doutCmds s
    let s1 := applyDout c.mask c.value (cycOf s) s
    let back := if c.dur = 0 then 0 else changedFrom s1 c.mask prev
    let s2 := settleReturns id back s1
    if back = 0 then { s2 with io := { s2.io with douts := tdel s2.io.douts id } }
    else { s2 with io := { s2.io with douts := tset s2.io.douts id { c with prev := prev, back := back } } }

/-- DOUT_APPLY (R381): a rank 6 entry. -/
def execDoutApply (s : State) : Host.Outcome State Fault Refusal :=
  .next (tlFire (fun k _ => match k with | .dout id => some (fireDout id) | _ => none) s)

/-- DOUT_RETURN (R381): an output returns to its previous commanded value. -/
def execDoutReturn (s : State) : Host.Outcome State Fault Refusal :=
  .next (tlFire (fun k _ => match k with
    | .doutReturn id o => some fun s =>
      match tget s.io.douts id with
      | none => s
      | some c =>
        let s1 := applyDout (2 ^ o) c.prev (cycOf s) s
        let back := setBit c.back o false
        { s1 with io := { s1.io with douts := if back = 0 then tdel s1.io.douts id else tset s1.io.douts id { c with back := back } } }
    | _ => none) s)

/-! ### IO commands (R394) -/

/-- What every IO command checks first. -/
def ioHead (code n : Nat) (r : Req) (s : State) : List (Option Fail) := [stdHead code n r s, needWorld r s 0x0F, needSvc s 0x0F]

/-- The configuration an IO.DIN_CONFIG request carries. -/
def dinCfgOf (r : Req) : DinCfg :=
  ⟨bit (r.w 3) 27, bit (r.w 3) 26, bit (r.w 3) 25, fld (r.w 3) 24 17, fld (r.w 4) 31 16, fld (r.w 4) 15 0, fld (r.w 5) 31 16⟩

/-- The configuration words of an input. -/
def dinWords (k : Nat) (c : DinCfg) : List Word :=
  [ packW [(k, 28), (b2n c.enable, 27), (b2n c.pol, 26), (b2n c.ntf, 25), (c.deb, 17)], packW [(c.stuckS, 16), (c.chatWin, 0)],
    packW [(c.chatMin, 16)] ]

/-- Checks of IO.DIN_CONFIG. -/
def chkIoDinConfig (r : Req) (s : State) : Option Fail :=
  let c := dinCfgOf r
  firstFail
    [ stdHead 0x1001 3 r s, needSecure r s 0x0F, needSvc s 0x0F, need 9 (fld (r.w 3) 16 0 == 0 && decide (1 ≤ c.deb)) stBadParam 3,
      need 9 (decide (50 ≤ c.chatWin)) stBadParam 4, need 9 (decide (1 ≤ c.chatMin) && fld (r.w 5) 15 0 == 0) stBadParam 5 ]

/-- IO.DIN_CONFIG takes effect; a change of `POL` or `ENABLE` makes the next qualified level a first one (R377). -/
def applyIoDinConfig (r : Req) (s : State) : State :=
  let k := fld (r.w 3) 31 28
  let c := dinCfgOf r
  let old := (dinOf s k).cfg
  let fresh := c.pol != old.pol || c.enable != old.enable
  let s1 := onDin k (fun d =>
    let d1 := { d with cfg := c, chatK := if c.chatWin = old.chatWin then d.chatK else cycOf s / Nat.max c.chatWin 1 }
    if fresh then { d1 with run := 0, valid := false, level := false, stuck := false, raw := false } else d1) s
  logEv evIoConfig r.port.val ([wd r.port.val, wd r.opcode] ++ dinWords k old ++ dinWords k c) (markStored 0x0F s1)

/-- IO.DIN_CONFIG (0x1001). -/
def execIoDinConfig (s : State) : Host.Outcome State Fault Refusal := .next (serve 0x1001 chkIoDinConfig (storeAtBoundary 0x0F) s)

/-- Checks of IO.DIN_READ. -/
def chkIoDinRead (r : Req) (s : State) : Option Fail :=
  firstFail (ioHead 0x1002 0 r s)

/-- IO.DIN_READ, its checks passed. -/
def actIoDinRead (r : Req) (s : State) : State :=
  let m := fun (f : Din → Bool) => maskOf 16 fun k => f (dinOf s k)
  ok r
    [ packW [(m fun d => d.valid && d.level, 16), (m fun d => d.raw, 0)], packW [(m fun d => d.stuck, 16), (m fun d => d.valid, 0)],
      packW [(m fun d => d.chatter, 16), (m fun d => d.cfg.enable, 0)], wd (ttCyc s.io.sampleTt), wd (ttPh s.io.sampleTt) ] s

/-- IO.DIN_READ (0x1002). -/
def execIoDinRead (s : State) : Host.Outcome State Fault Refusal :=
  .next (serve 0x1002 chkIoDinRead actIoDinRead s)

/-- Checks of IO.DOUT_SET: SAFE_STATE when an output that it would switch on is held off (R381). -/
def chkIoDoutSet (r : Req) (s : State) : Option Fail :=
  firstFail (ioHead 0x1003 1 r s ++
    [ need 9 (fld (r.w 3) 31 24 != 0) stBadParam 3, aacCheck r s,
      need 12 ((turnsOn (fld (r.w 3) 31 24) (fld (r.w 3) 23 16)).all fun k => !heldOff s k) stSafeState ])

/-- The posts of a DOUT command: its own entry at a target, if it has one, and the reserved returns (R87). -/
def postDout (id mask dur at_ : Nat) (own : Bool) (s : State) : Option State :=
  let n := b2n own + (if dur = 0 then 0 else popCount 8 mask)
  if tlRoom s.tl 0x0F n then
    let s1 := if own then tlPut at_ 6 0x0F (.dout id) true s else s
    some (if dur = 0 then s1
      else (List.range 8).foldl (fun s k => if mask.testBit k then tlPut (at_ + dur * 4096) 6 0x0F (.doutReturn id k) false s else s) s1)
  else none

/-- IO.DOUT_SET accepted: with `AAC` its value waits for the target, without it takes effect at once. -/
def applyIoDoutSet (r : Req) (s : State) : State :=
  let mask := fld (r.w 3) 31 24
  let dur := fld (r.w 3) 15 0
  let id := s.io.nextDout
  let at_ := if r.aac then targetCyc r s * 4096 else s.tt.tt
  match postDout id mask dur at_ r.aac s with
  | none => failReq r ⟨13, stFull, 0xFFFF, 0⟩ (tlFull 0x0F 2 s)
  | some s1 =>
    let s2 := { s1 with io := { s1.io with nextDout := id + 1, douts := tset s1.io.douts id ⟨mask, fld (r.w 3) 23 16, dur, 0, 0⟩ } }
    ok r [] (if r.aac then s2 else fireDout id s2)

/-- IO.DOUT_SET (0x1003). -/
def execIoDoutSet (s : State) : Host.Outcome State Fault Refusal := .next (serve 0x1003 chkIoDoutSet applyIoDoutSet s)

/-- The configuration word of an output. -/
def doutWord (k : Nat) (d : Dout) : Word := packW [(k, 29), (d.safe, 27), (b2n d.autoSafe, 26)]

/-- Checks of IO.DOUT_CONFIG. -/
def chkIoDoutConfig (r : Req) (s : State) : Option Fail :=
  firstFail
    [ stdHead 0x1004 1 r s, needSecure r s 0x0F, needSvc s 0x0F,
      need 9 (fld (r.w 3) 28 27 != 3 && fld (r.w 3) 24 0 == 0) stBadParam 3 ]

/-- IO.DOUT_CONFIG takes effect; `CLEAR_FAULT` clears the latch (R379). -/
def applyIoDoutConfig (r : Req) (s : State) : State :=
  let k := fld (r.w 3) 31 29
  let old := doutOf s k
  let s1 := onDout k (fun d => { d with
    safe := fld (r.w 3) 28 27, autoSafe := bit (r.w 3) 26, fault := d.fault && !bit (r.w 3) 25 }) s
  logEv evIoConfig r.port.val [wd r.port.val, wd r.opcode, doutWord k old, r.w 3] (markStored 0x0F s1)

/-- IO.DOUT_CONFIG (0x1004). -/
def execIoDoutConfig (s : State) : Host.Outcome State Fault Refusal := .next (serve 0x1004 chkIoDoutConfig (storeAtBoundary 0x0F) s)

/-- Checks of IO.STATUS. -/
def chkIoStatus (r : Req) (s : State) : Option Fail :=
  firstFail (ioHead 0x1005 0 r s)

/-- IO.STATUS, its checks passed. -/
def actIoStatus (r : Req) (s : State) : State :=
  ok r
    (packW [(doutCmds s, 24), (maskOf 8 (doutOn s), 16), (maskOf 8 fun k => (doutOf s k).fault, 8), (maskOf 8 (cutHeld s), 0)] ::
      (List.range 8).map fun k => packW [((dinOf s (2 * k)).edges, 16), ((dinOf s (2 * k + 1)).edges, 0)]) s

/-- IO.STATUS (0x1005). -/
def execIoStatus (s : State) : Host.Outcome State Fault Refusal :=
  .next (serve 0x1005 chkIoStatus actIoStatus s)

/-! ### Withdrawal and reset -/

/-- Block 0x0F withdrawn: `SAFE` taken at the withdrawal (R380), cause 1. -/
def ioWithdraw (s : State) : State := applySafe 1 255 true s

/-- The end of BOOT: `SAFE`, hold meaning off (R380), cause 0. -/
def ioBootEnd (s : State) : State := applySafe 0 255 false s

/-- What a reset leaves: configuration, and the fault latches, which only a command clears (R379); counters and levels begin anew. -/
def IoSt.afterReset (x : IoSt) : IoSt :=
  { x with
    din := x.din.map fun d => { (default : Din) with cfg := d.cfg }, sampleIdx := none, sampleTt := 0, douts := [], held := []
    dout := x.dout.map fun d => { d with cmd := false, out := false } }

end Sys2Proof.Machine
end

