-- ==== Sys2Proof/Machine/Can.lean ====
section
/-!
DEFINITION. The two CAN FD controllers (13, R382 to R392, R395).
-/
namespace Sys2Proof.Machine

/-- The block of a CAN port: 0x0D or 0x0E. -/
def canBlock (p : Nat) : Nat := 0x0D + p % 2

/-- A CAN event's code, by port (R396). -/
def canEv (p code : Nat) : Nat := code + 0x100 * (p % 2)

/-- The port runs: powered with firmware loaded, present, and its block in service (R384). -/
def canUp (s : State) (p : Nat) : Bool :=
  windowAlive s && served s && blockPresent s.dev.variant (canBlock p) && decide (p < 2) && !withdrawn s (canBlock p)

/-- The operating mode in force. -/
def canMode (s : State) (p : Nat) : Nat := if canUp s p then (canOf s p).cfg.opmode else 0

/-- The port is error passive (R392). -/
def CanPort.passive (c : CanPort) : Bool := decide (128 ≤ c.tec) || decide (128 ≤ c.rec_)

/-- A spontaneous notification of a CAN port to every port whose world reaches its block. -/
def canNtf (p code : Nat) (payload : List Word) (s : State) : State := ntfOrHold ⟨15, code, canBlock p, payload, none, cycOf s⟩ s

/-- The error counters after a change, with EV_CAN_PASSIVE when the port enters or leaves error passive. -/
def setErr (p tec rec_ : Nat) (s : State) : State :=
  let was := (canOf s p).passive
  let s1 := onCan p (fun c => { c with tec := tec, rec_ := rec_ }) s
  let is := (canOf s1 p).passive
  if was = is then s1
  else logLimK (canEv p evCanPassive) 0xFF 0xFF 1
    (fun n => [wd (b2n (!is)), packW [(sat 16 tec, 16), (sat 16 rec_, 0)], wd n]) s1

/-- An error-free transmission or reception: the acknowledgement count and `LONE` clear (R390). -/
def CanPort.good (c : CanPort) : CanPort := { c with ackRun := 0, lone := false }

/-! ### Buffers -/

/-- One buffer. -/
def bufOf (s : State) (p b : Nat) : CanBuf := (canOf s p).bufs.getD b default

/-- A receive buffer accepts a frame (R386). -/
def CanBuf.accepts (x : CanBuf) (f : CanStored) : Bool :=
  x.kind == 1 && x.ide == f.ide && (x.id ^^^ f.id) &&& x.mask == 0 && (!f.rtr || x.acceptRtr)

/-- Nothing occupies the buffer. -/
def CanBuf.free (x : CanBuf) : Bool := x.frame.isNone && !x.locked

/-- The 19 words of a stored frame (CAN.READ). -/
def frameWords (b : Nat) (x : CanBuf) (f : CanStored) : List Word :=
  [ packW [(b, 26), (b2n f.fdf, 25), (b2n f.brs, 24), (b2n f.esi, 23), (b2n f.rtr, 22), (b2n f.ide, 21), (b2n (decide (x.dropped ≠ 0)), 20),
      (f.dlc, 16), (ttPh f.sof, 0)], wd f.id, wd (ttCyc f.sof) ] ++ (f.data ++ List.replicate 16 0).take 16

/-- A received frame stored, dropped or discarded, and notified (R386, R387). -/
def storeFrame (p : Nat) (f : CanStored) (s : State) : State :=
  let c := canOf s p
  let acc := (List.range 64).filter fun b => (c.bufs.getD b default).accepts f
  match acc.find? fun b => (c.bufs.getD b default).free with
  | some b =>
    let x := c.bufs.getD b default
    let s1 := onBuf p b (fun x => { x with frame := some f }) s
    if !x.ntf then s1
    else if 8 ≤ b then ntfOrHold ⟨x.ports, 0x0B01, canBlock p, [packW [(p, 31), (b, 25)]], none, cycOf s1⟩ s1
    else ntfOrHold ⟨x.ports, 0x0B02, canBlock p, frameWords b x f, some (p, b), cycOf s1⟩ s1
  | none =>
    match acc.head? with
    | some b =>
      logLimK (canEv p evCanOverrun) 0xFF b 1 (fun n => [wd b, wd n])
        (onCan p (fun c => { c with overruns := sat 16 (c.overruns + 1) }) (onBuf p b (fun x => { x with dropped := sat 16 (x.dropped + 1) }) s))
    | none => onCan p (fun c => { c with unmatched := sat 16 (c.unmatched + 1) }) s

/-- The read lock of a buffer released: the buffer is free (R388). -/
def canUnlock (p b : Nat) (s : State) : State := onBuf p b (fun x => { x with locked := false, frame := none }) s

/-! ### Timing words -/

/-- Nominal timing in the layout of CAN.CONFIG word 4. -/
def nomWord (t : CanTiming) : Word := packW [(t.brp - 1, 27), (t.ts1 - 1, 19), (t.ts2 - 1, 12), (t.sjw - 1, 5)]
/-- Data timing in the layout of word 5. -/
def dataWord (t : CanTiming) : Word := packW [(t.brp - 1, 27), (t.ts1 - 1, 22), (t.ts2 - 1, 18), (t.sjw - 1, 14)]

/-- The nominal candidates of DETECT (R385). -/
def nomCands : List CanTiming :=
  [(1, 31, 8), (1, 39, 10), (1, 63, 16), (2, 63, 16), (4, 63, 16), (5, 63, 16), (10, 63, 16), (25, 63, 16)].map fun x => ⟨x.1, x.2.1, x.2.2, x.2.2⟩
/-- The data candidates. -/
def dataCands : List CanTiming := [(5, 2), (7, 2), (14, 5), (29, 10)].map fun x => ⟨1, x.1, x.2, x.2⟩

/-- The nominal timing in force: in DETECT the candidate or what has been found. -/
def CanPort.nomNow (c : CanPort) : CanTiming :=
  if c.cfg.opmode = 3 then c.detect.nom.getD (nomCands.getD c.detect.cand default) else c.cfg.nom
/-- The data timing in force. -/
def CanPort.dataNow (c : CanPort) : CanTiming :=
  if c.cfg.opmode = 3 then c.detect.data.getD (dataCands.getD c.detect.dataCand default) else c.cfg.data

/-! ### Rate detection (R385) -/

/-- The search ends: `RATE_FOUND`, the event and CAN_RATE; a data timing not found reads 0. -/
def rateFound (p : Nat) (s : State) : State :=
  let s1 := onCan p (fun c => { c with detect := { c.detect with found := true } }) s
  let d := (canOf s1 p).detect
  let ws := [(d.nom.map nomWord).getD 0, (d.data.map dataWord).getD 0]
  canNtf p 0x0B06 ws (logEv (canEv p evCanRateFound) 0xFF ws s1)

/-- What an error-free frame tells the search. -/
def detectFrame (p : Nat) (f : CanStored) (s : State) : State :=
  let c := canOf s p
  if c.cfg.opmode ≠ 3 ∨ c.detect.found = true then s
  else match c.detect.nom with
    | none =>
      let s1 := onCan p (fun c => { c with detect := { c.detect with nom := some c.nomNow, since := s.clk.ticks } }) s
      if f.brs then s1 else rateFound p s1
    | some _ =>
      if f.brs then rateFound p (onCan p (fun c => { c with detect := { c.detect with data := some c.dataNow } }) s) else s

/-- CAN_DETECT_DWELL: `DWELL` ms on a nominal candidate without a frame. -/
def execCanDetectDwell (p : Nat) (s : State) : Host.Outcome State Fault Refusal :=
  .next
    (let c := canOf s p
     if canMode s p = 3 ∧ c.detect.nom = none ∧ c.detect.since + c.cfg.dwell * 40000 ≤ s.clk.ticks then
       onCan p (fun c => { c with detect := { c.detect with cand := (c.detect.cand + 1) % 8, since := s.clk.ticks } }) s
     else s)

/-- DATA_TIMING_SEARCH_END: no BRS frame within 4 × `DWELL` of the nominal timing. -/
def execDataTimingSearchEnd (p : Nat) (s : State) : Host.Outcome State Fault Refusal :=
  .next
    (let c := canOf s p
     if canMode s p = 3 ∧ c.detect.nom.isSome = true ∧ c.detect.found = false ∧ c.detect.since + 4 * c.cfg.dwell * 40000 ≤ s.clk.ticks then
       rateFound p s
     else s)

/-! ### Reception -/

/-- A reception error (R392): in DETECT an error in a frame that had switched its bit rate brings the next data candidate (R385). -/
def rxError (p : Nat) (eight brs : Bool) (s : State) : State :=
  let m := canMode s p
  let c := canOf s p
  let s1 := onCan p (fun c => { c with errFrames := sat 16 (c.errFrames + 1) }) s
  if m = 1 then setErr p c.tec (Nat.min 255 (c.rec_ + if eight then 8 else 1)) s1
  else if m = 3 ∧ brs = true ∧ c.detect.nom.isSome = true ∧ c.detect.found = false then
    onCan p (fun c => { c with detect := { c.detect with dataCand := (c.detect.dataCand + 1) % 4 } }) s1
  else s1

/-- The port takes no part in what happens on the bus: OFF, in bus-off or recovering. -/
def canOffBus (s : State) (p : Nat) : Bool :=
  canMode s p == 0 || (canOf s p).bus == .off || (canOf s p).bus == .recovering

/-- CAN_FRAME_RECEIVED (R386): an error-free frame ends on the bus. The receive error count falls by 1; from above 127 it takes a value
from 119 to 127 that ISO 11898-1 leaves free. An FD frame while `FD_EN` = 0 is a form error (R382). -/
def execCanFrameReceived (p : Nat) (f : CanStored) (s : State) : Host.Outcome State Fault Refusal :=
  .next
    (let m := canMode s p
     if canOffBus s p then s
     else if f.fdf && !(canOf s p).cfg.fdEn then rxError p false f.brs s
     else
       let (x, s0) := freshNat s
       let c := canOf s0 p
       let rec' := if c.rec_ ≤ 127 then c.rec_ - 1 else 119 + x % 9
       let s1 := if m = 1 then setErr p c.tec rec' s0 else s
       let s2 := onCan p (fun c => { c.good with received := inc32 c.received }) s1
       storeFrame p f (detectFrame p f s2))

/-- CAN_RECEIVE_ERROR (R392): a reception error, or an error frame, on the bus. `eight` tells that ISO 11898-1 raises the count by 8 and
not by 1, `brs` that the frame had switched its bit rate: in DETECT it brings the next data candidate. -/
def execCanReceiveError (p : Nat) (eight brs : Bool) (s : State) : Host.Outcome State Fault Refusal :=
  .next (if canOffBus s p then s else rxError p eight brs s)

/-! ### Transmission (R389 to R392) -/

/-- A frame's place in arbitration, lower first: base identifiers bit by bit against the upper bits of extended ones, a base frame
before an extended one of the same upper bits, a data frame before a remote one. -/
def CanTx.rank (t : CanTx) : Nat :=
  if t.ide then (((t.id / 2 ^ 18) * 4 + 3) * 2 ^ 18 + t.id % 2 ^ 18) * 2 + b2n t.rtr
  else ((t.id * 4 + (if t.rtr then 2 else 0)) * 2 ^ 18) * 2

/-- Pending transmit buffers in the order in which their frames would win arbitration, ties to the lower number (R389). -/
def offered (c : CanPort) (sof : Nat) : Option Nat :=
  ((List.range 64).filterMap fun b => match (c.bufs.getD b default).tx with
    | some t => if t.since ≤ sof then some (b, t.rank) else none
    | none => none).foldl (fun m x => match m with
      | none => some x
      | some y => if x.2 < y.2 then some x else some y) none |>.map Prod.fst

/-- The final words of a CAN.SEND: attempts, acknowledgement errors, and the SOF of the successful attempt. -/
def sendWords (t : CanTx) (sof : Option Nat) : List Word :=
  [packW [(sat 16 t.attempts, 16), (sat 16 t.ackErrs, 0)]] ++ (match sof with | some x => [wd (ttCyc x), wd (ttPh x)] | none => [0, 0])

/-- A pending frame ends: its CAN.SEND completes, and the CAN.CANCELs that waited answer 0 CANCELLED or 1 SENT. -/
def endFrame (p b status : Nat) (sof : Option Nat) (s : State) : State :=
  match (bufOf s p b).tx with
  | none => s
  | some t =>
    let s1 := complete t.org status (if status = stOk then sendWords t sof else [detail ⟨13, status, 0xFFFF, 0⟩]) (onBuf p b (fun x => { x with tx := none }) s)
    t.cancels.foldl (fun s r => ok r [packW [(b2n (status == stOk), 24)]] s) s1

/-- Every pending frame of a port ends. -/
def endAllFrames (p status : Nat) (s : State) : State := (List.range 64).foldl (fun s b => endFrame p b status none s) s

/-- Pending frames of a port. -/
def pendingFrames (s : State) (p : Nat) : Nat := ((canOf s p).bufs.filter fun x => x.tx.isSome).length

/-- Entry to bus-off (R392): every pending frame ends BUS_OFF. -/
def busOff (p : Nat) (s : State) : State :=
  let c := canOf s p
  let n := pendingFrames s p
  let s1 := endAllFrames p stBusOff (onCan p (fun c => { c with bus := .off, offSince := s.clk.ticks }) s)
  canNtf p 0x0B04 [] (logEv (canEv p evCanBusOff) 0xFF [packW [(sat 16 c.tec, 16), (sat 16 c.rec_, 0)], wd n] s1)

/-- An acknowledgement error counted: at 128 in a row `LONE` is set, once (R390). -/
def ackError (p : Nat) (s : State) : State :=
  let s1 := onCan p (fun c => { c with ackRun := sat 16 (c.ackRun + 1) }) s
  let c := canOf s1 p
  if 128 ≤ c.ackRun ∧ c.lone = false then
    canNtf p 0x0B03 [] (logNs (canEv p evCanLone) 0xFF [pendingFrames s1 p] (onCan p (fun c => { c with lone := true }) s1))
  else s1

/-- CAN_ATTEMPT_END (R391): the attempt of the buffer that the port offered at the SOF ends. -/
def execCanAttemptEnd (p : Nat) (sof : Nat) (e : CanEnd) (s : State) : Host.Outcome State Fault Refusal :=
  .next
    (let c := canOf s p
     if canMode s p ≠ 1 ∨ c.bus = .off ∨ c.bus = .recovering then s
     else match offered c sof with
     | none => s
     | some b =>
       let ack := match e with | .ackErr _ => true | _ => false
       let s1 := onBuf p b (fun x => { x with tx := x.tx.map fun t => { t with attempts := t.attempts + 1, ackErrs := t.ackErrs + b2n ack } }) s
       let cancelled := match (bufOf s1 p b).tx with | some t => !t.cancels.isEmpty | none => false
       let fail := fun (s : State) => if cancelled then endFrame p b stCancelled none s else s
       match e with
       | .sent =>
         endFrame p b stOk (some sof) (setErr p (c.tec - 1) c.rec_ (onCan p (fun c => { c.good with sent := inc32 c.sent }) s1))
       | .lost => fail s1
       | .ackErr dominant =>
         let tec := if c.passive && !dominant then c.tec else c.tec + 8
         let s2 := fail (ackError p (setErr p tec c.rec_ (onCan p (fun c => { c with errFrames := sat 16 (c.errFrames + 1) }) s1)))
         if 255 < tec then busOff p s2 else s2
       | .error exempt =>
         let tec := if exempt then c.tec else c.tec + 8
         let s2 := fail (setErr p tec c.rec_ (onCan p (fun c => { c with errFrames := sat 16 (c.errFrames + 1) }) s1))
         if 255 < tec then busOff p s2 else s2)

/-- CAN_RECOVERED (R392): 128 occurrences of 11 consecutive recessive bits have been seen; the time in bus-off is in ms. -/
def execCanRecovered (p : Nat) (s : State) : Host.Outcome State Fault Refusal :=
  .next
    (let c := canOf s p
     if canMode s p = 1 ∧ c.bus = .recovering then
       canNtf p 0x0B05 []
         (logNs (canEv p evCanRecovered) c.recoverPort.val [c.recoverPort.val, (s.clk.ticks - c.offSince) / 40000]
           (onCan p (fun c => { c with bus := .on, tec := 0, rec_ := 0 }) s))
     else s)

/-! ### CAN commands (R395) -/

/-- The CAN port a request names. -/
def canPortOf (r : Req) : Nat := fld (r.w 3) 31 31
/-- The buffer a request names. -/
def canBufOf (r : Req) : Nat := fld (r.w 3) 30 25

/-- What every CAN command checks first; `lenOk` is its length. -/
def canHead (code : Nat) (lenOk : Bool) (secure : Bool) (r : Req) (s : State) : List (Option Fail) :=
  let b := canBlock (canPortOf r)
  [ match opRow code with | some row => headChecks r row (modeServed s) lenOk s | none => none, inWord 3 (needPresent s b),
    inWord 3 (if secure then needSecure r s b else needWorld r s b), inWord 3 (needSvc s b) ]

/-- The configuration a CAN.CONFIG request carries. -/
def canCfgOf (r : Req) : CanCfg :=
  { opmode := fld (r.w 3) 30 28, fdEn := bit (r.w 3) 27, tdcEn := bit (r.w 3) 26, tdco := fld (r.w 3) 25 19
    nom := ⟨fld (r.w 4) 31 27 + 1, fld (r.w 4) 26 19 + 1, fld (r.w 4) 18 12 + 1, fld (r.w 4) 11 5 + 1⟩
    data := ⟨fld (r.w 5) 31 27 + 1, fld (r.w 5) 26 22 + 1, fld (r.w 5) 21 18 + 1, fld (r.w 5) 17 14 + 1⟩, dwell := fld (r.w 6) 31 16 }

/-- A timing keeps the limits of R383: TSEG1 and TSEG2 at least `lo`, SJW at most TSEG2, and its rate at most `khz`. -/
def timingOk (lo1 lo2 khz : Nat) (t : CanTiming) : Bool :=
  decide (lo1 ≤ t.ts1) && decide (lo2 ≤ t.ts2) && decide (t.sjw ≤ t.ts2) && decide (40000 ≤ khz * (t.brp * (1 + t.ts1 + t.ts2)))

/-- The configuration words of a port. -/
def canCfgWords (p : Nat) (c : CanCfg) : List Word :=
  [ packW [(p, 31), (c.opmode, 28), (b2n c.fdEn, 27), (b2n c.tdcEn, 26), (c.tdco, 19)], nomWord c.nom, dataWord c.data, packW [(c.dwell, 16)] ]

/-- Checks of CAN.CONFIG. -/
def chkCanConfig (r : Req) (s : State) : Option Fail :=
  let c := canCfgOf r
  firstFail (canHead 0x0B01 (r.len == 4) true r s ++
    [ need 9 (decide (c.opmode ≤ 3) && fld (r.w 3) 18 0 == 0) stBadParam 3,
      need 9 (timingOk 2 2 1000 c.nom && fld (r.w 4) 4 0 == 0) stBadParam 4, need 9 (timingOk 1 1 5000 c.data && fld (r.w 5) 13 0 == 0) stBadParam 5,
      need 9 (decide (100 ≤ c.dwell) && decide (c.dwell ≤ 10000) && fld (r.w 6) 15 0 == 0) stBadParam 6 ])

/-- The rate search begun anew. -/
def CanDetect.start (ticks : Nat) : CanDetect := ⟨0, ticks, none, 0, none, false⟩

/-- CAN.CONFIG takes effect; a change of `OPMODE` or of a timing ends every pending frame ABANDONED (R389). -/
def applyCanConfig (r : Req) (s : State) : State :=
  let p := canPortOf r
  let c := canCfgOf r
  let old := (canOf s p).cfg
  let changed := c.opmode != old.opmode || c.nom != old.nom || c.data != old.data || c.tdcEn != old.tdcEn || c.tdco != old.tdco
  let s1 := if changed then endAllFrames p stAbandoned s else s
  let s2 := onCan p (fun x => { x with
    cfg := c
    detect := if c.opmode != old.opmode then CanDetect.start s.clk.ticks else x.detect
    bus := if c.opmode == 0 then .on else x.bus, tec := if c.opmode == 0 then 0 else x.tec, rec_ := if c.opmode == 0 then 0 else x.rec_
    ackRun := if c.opmode == 0 then 0 else x.ackRun, lone := x.lone && c.opmode != 0 }) s1
  logEv (canEv p evCanConfig) r.port.val ([wd r.port.val, wd r.opcode] ++ canCfgWords p old ++ canCfgWords p c) (markStored (canBlock p) s2)

/-- CAN.CONFIG, its checks passed. -/
def actCanConfig (r : Req) (s : State) : State :=
  storeAtBoundary (canBlock (canPortOf r)) r s

/-- CAN.CONFIG (0x0B01). -/
def execCanConfig (s : State) : Host.Outcome State Fault Refusal :=
  .next (serve 0x0B01 chkCanConfig actCanConfig s)

/-- An absent port named by a `PORTS` mask. -/
def needPortsMask (s : State) (mask : Nat) : Option Fail := inWord 3 (needOwnerPorts s mask)

/-- Checks of CAN.BUFFER_CONFIG. -/
def chkCanBufferConfig (r : Req) (s : State) : Option Fail :=
  let kind := fld (r.w 3) 24 23
  let b := canBufOf r
  firstFail (canHead 0x0B02 (r.len == 3) true r s ++
    [ need 9 (decide (kind ≤ 2) && (kind != 2 || decide (8 ≤ b)) && fld (r.w 3) 15 0 == 0) stBadParam 3,
      need 9 (fld (r.w 4) 31 29 == 0) stBadParam 4, need 9 (fld (r.w 5) 31 29 == 0) stBadParam 5,
      need 13 (!(bufOf s (canPortOf r) b).locked) stBusy ] |>.insertIdx 2 (needPortsMask s (fld (r.w 3) 20 17)))

/-- The configuration words of a buffer. -/
def bufWords (p b : Nat) (x : CanBuf) : List Word :=
  [ packW [(p, 31), (b, 25), (x.kind, 23), (b2n x.ide, 22), (b2n x.ntf, 21), (x.ports, 17), (b2n x.acceptRtr, 16)], wd x.id, wd x.mask ]

/-- CAN.BUFFER_CONFIG takes effect: a pending frame ends ABANDONED, and a stored one is discarded. -/
def applyCanBufferConfig (r : Req) (s : State) : State :=
  let p := canPortOf r
  let b := canBufOf r
  let old := bufOf s p b
  let s1 := endFrame p b stAbandoned none s
  let x : CanBuf := ⟨fld (r.w 3) 24 23, bit (r.w 3) 22, bit (r.w 3) 21, fld (r.w 3) 20 17, bit (r.w 3) 16, fld (r.w 4) 28 0, fld (r.w 5) 28 0,
    none, false, 0, none⟩
  logEv (canEv p evCanConfig) r.port.val ([wd r.port.val, wd r.opcode] ++ bufWords p b old ++ bufWords p b x)
    (markStored (canBlock p) (onBuf p b (fun _ => x) s1))

/-- CAN.BUFFER_CONFIG, its checks passed. -/
def actCanBufferConfig (r : Req) (s : State) : State :=
  storeAtBoundary (canBlock (canPortOf r)) r s

/-- CAN.BUFFER_CONFIG (0x0B02). -/
def execCanBufferConfig (s : State) : Host.Outcome State Fault Refusal :=
  .next (serve 0x0B02 chkCanBufferConfig actCanBufferConfig s)

/-- Octets of a DLC, in classical and FD format. -/
def dlcOctets (fdf : Bool) (dlc : Nat) : Nat :=
  if dlc ≤ 8 then dlc else if fdf then [12, 16, 20, 24, 32, 48, 64].getD (dlc - 9) 64 else 8

/-- Data words of a CAN.SEND request. A remote frame has no data. -/
def sendDataWords (r : Req) : Nat :=
  if bit (r.w 3) 21 && !bit (r.w 3) 23 then 0 else (dlcOctets (bit (r.w 3) 23) (fld (r.w 3) 19 16) + 3) / 4

/-- Checks of CAN.SEND. -/
def chkCanSend (r : Req) (s : State) : Option Fail :=
  let p := canPortOf r
  let x := bufOf s p (canBufOf r)
  let c := canOf s p
  let ide := bit (r.w 3) 24
  let fdf := bit (r.w 3) 23
  firstFail (canHead 0x0B03 (r.len == 2 + sendDataWords r) false r s ++
    [ need 9 (fld (r.w 3) 15 0 == 0 && (!fdf || c.cfg.fdEn) && !(bit (r.w 3) 21 && fdf) && !(bit (r.w 3) 22 && !fdf)) stBadParam 3,
      need 9 (decide ((r.w 4).toNat < if ide then 2 ^ 29 else 2 ^ 11)) stBadParam 4,
      need 12 (canMode s p == 1 && x.kind == 2) stBadState, need 12 (c.bus == .on) stBusOff,
      need 12 (!(bit (r.w 3) 20 && c.lone)) stLoneNode, need 13 x.tx.isNone stBusy ])

/-- CAN.SEND, its checks passed. -/
def actCanSend (r : Req) (s : State) : State :=
  let t : CanTx := ⟨r.origin, bit (r.w 3) 24, bit (r.w 3) 23, bit (r.w 3) 22, bit (r.w 3) 21, fld (r.w 3) 19 16, (r.w 4).toNat,
    r.words.drop 5, 0, 0, s.tt.tt, []⟩
  acceptN r (onBuf (canPortOf r) (canBufOf r) (fun x => { x with tx := some t }) s)

/-- CAN.SEND (0x0B03). -/
def execCanSend (s : State) : Host.Outcome State Fault Refusal :=
  .next (serve 0x0B03 chkCanSend actCanSend s)

/-- Checks of CAN_CANCEL. -/
def chkCanCancel (r : Req) (s : State) : Option Fail :=
  firstFail (canHead 0x0B04 (r.len == 1) false r s ++
    [ need 9 (fld (r.w 3) 24 0 == 0) stBadParam 3, need 12 (bufOf s (canPortOf r) (canBufOf r)).tx.isSome stBadState ])

/-- CAN_CANCEL, its checks passed. -/
def actCanCancel (started : Bool) (r : Req) (s : State) : State :=
  let add := onBuf (canPortOf r) (canBufOf r) (fun x => { x with tx := x.tx.map fun t => { t with cancels := t.cancels ++ [r] } }) s
  if started then add else endFrame (canPortOf r) (canBufOf r) stCancelled none add

/-- CAN_CANCEL (CAN.CANCEL 0x0B04): `started` tells that an attempt of the frame has passed its start of frame. -/
def execCanCancel (started : Bool) (s : State) : Host.Outcome State Fault Refusal :=
  .next (serve 0x0B04 chkCanCancel (actCanCancel started) s)

/-- Checks of CAN.READ. -/
def chkCanRead (r : Req) (s : State) : Option Fail :=
  let x := bufOf s (canPortOf r) (canBufOf r)
  firstFail (canHead 0x0B05 (r.len == 1) false r s ++
    [ need 9 (fld (r.w 3) 24 0 == 0) stBadParam 3, need 12 (x.kind == 1 && x.frame.isSome) stBadState, need 13 (!x.locked) stBusy ])

/-- CAN.READ, its checks passed. -/
def actCanRead (r : Req) (s : State) : State :=
  let p := canPortOf r
  let b := canBufOf r
  match (bufOf s p b).frame with
  | none => s
  | some f =>
    respondMsg r stOk (frameWords b (bufOf s p b) f) (some (p, b)) (onBuf p b (fun x => { x with locked := true, dropped := 0 }) s)

/-- CAN.READ (0x0B05): the lock is placed as the frame is copied (R388). -/
def execCanRead (s : State) : Host.Outcome State Fault Refusal :=
  .next (serve 0x0B05 chkCanRead actCanRead s)

/-- `STATE` of CAN.STATUS. -/
def canState (s : State) (p : Nat) : Nat :=
  let c := canOf s p
  match canMode s p with
  | 0 => 0
  | 2 => 5
  | 3 => if c.detect.found then 5 else 6
  | _ => match c.bus with | .off => 3 | .recovering => 4 | .on => if c.passive then 2 else 1

/-- Checks of CAN.STATUS. -/
def chkCanStatus (r : Req) (s : State) : Option Fail :=
  firstFail (canHead 0x0B06 (r.len == 1) false r s ++ [need 9 (fld (r.w 3) 30 0 == 0) stBadParam 3])

/-- CAN.STATUS, its checks passed. -/
def actCanStatus (r : Req) (s : State) : State :=
  let p := canPortOf r
  let c := canOf s p
  ok r
    [ packW [(canState s p, 29), (b2n c.lone, 28), (b2n c.detect.found, 27), (sat 9 c.tec, 18), (sat 8 c.rec_, 10)], nomWord c.nomNow,
      dataWord c.dataNow, wd c.sent, wd c.received, packW [(c.ackRun, 16), (c.errFrames, 0)], packW [(c.unmatched, 16), (c.overruns, 0)] ] s

/-- CAN.STATUS (0x0B06). -/
def execCanStatus (s : State) : Host.Outcome State Fault Refusal :=
  .next (serve 0x0B06 chkCanStatus actCanStatus s)

/-- Checks of CAN.RECOVER. -/
def chkCanRecover (r : Req) (s : State) : Option Fail :=
  firstFail (canHead 0x0B07 (r.len == 1) false r s ++
    [ need 9 (fld (r.w 3) 30 0 == 0) stBadParam 3, need 12 ((canOf s (canPortOf r)).bus == .off && canMode s (canPortOf r) == 1) stBadState ])

/-- CAN.RECOVER, its checks passed. -/
def actCanRecover (r : Req) (s : State) : State :=
  ok r [] (onCan (canPortOf r) (fun c => { c with bus := .recovering, recoverPort := r.port }) s)

/-- CAN.RECOVER (0x0B07). -/
def execCanRecover (s : State) : Host.Outcome State Fault Refusal :=
  .next (serve 0x0B07 chkCanRecover actCanRecover s)

/-! ### Withdrawal and reset -/

/-- The block of a port withdrawn: pending frames end ABANDONED, and the port goes off the bus (R384, R389). -/
def canWithdraw (p : Nat) (s : State) : State :=
  onCan p (fun c => { c with bus := .on, tec := 0, rec_ := 0, ackRun := 0, lone := false, detect := default }) (endAllFrames p stAbandoned s)

/-- The return to the bus: a search begins anew. -/
def canReturn (p : Nat) (s : State) : State := onCan p (fun c => { c with detect := CanDetect.start s.clk.ticks }) s

/-- What a reset leaves: the configuration; every buffer is freed (R388). -/
def CanPort.afterReset (c : CanPort) : CanPort :=
  { (default : CanPort) with
    cfg := c.cfg, bufs := c.bufs.map fun x => { x with frame := none, locked := false, dropped := 0, tx := none } }

end Sys2Proof.Machine
end

