-- ==== Sys2Proof/Machine/Calendar.lean ====
section
/-!
DEFINITION. Local time and the sun (10, R297 to R299): dates, time-zone rules, the solar algorithm in fixed point.
-/
namespace Sys2Proof.Machine

/-! ### Dates: days are counted from 2000-01-01 -/

/-- Days from 2000-01-01 to a date. -/
def dayOf (y m d : Int) : Int :=
  let y' := if m ≤ 2 then y - 1 else y
  let era := y' / 400
  let yoe := y' - era * 400
  let doy := (153 * (m + (if 2 < m then -3 else 9)) + 2) / 5 + d - 1
  era * 146097 + yoe * 365 + yoe / 4 - yoe / 100 + doy - 730425

/-- Year, month and day of a day number. -/
def dateOf (n : Int) : Int × Int × Int :=
  let z := n + 730425
  let era := z / 146097
  let doe := z - era * 146097
  let yoe := (doe - doe / 1460 + doe / 36524 - doe / 146096) / 365
  let doy := doe - (365 * yoe + yoe / 4 - yoe / 100)
  let mp := (5 * doy + 2) / 153
  let m := if mp < 10 then mp + 3 else mp - 9
  (yoe + era * 400 + (if m ≤ 2 then 1 else 0), m, doy - (153 * mp + 2) / 5 + 1)

/-- Weekday of a day number, Monday 0: 2000-01-01 was a Saturday. -/
def weekdayOf (n : Int) : Int := (n + 5) % 7

/-- A leap year. -/
def leap (y : Int) : Bool := y % 4 == 0 && (y % 100 != 0 || y % 400 == 0)

/-- Days of a month. -/
def monthDays (y m : Int) : Int := dayOf (if m = 12 then y + 1 else y) (if m = 12 then 1 else m + 1) 1 - dayOf y m 1

/-- A date as a word: [31:16] year, [15:8] month, [7:0] day (SCH.EVALUATE). -/
def dateWord (n : Int) : Word :=
  let (y, m, d) := dateOf n
  packW [((y % 65536).toNat, 16), (m.toNat, 8), (d.toNat, 0)]

/-! ### Time-zone rules (R297) -/

/-- The day of a transition in a year: week 1 to 4, or 5 for the last, and weekday. -/
def dstDay (t : DstRule) (y : Int) : Int :=
  let first := dayOf y t.month 1
  let d := first + (t.weekday - weekdayOf first) % 7 + 7 * (t.week - 1)
  if first + monthDays y t.month ≤ d then d - 7 else d

/-- A transition as RTC seconds: the time of day is read on the clock in force before it, `off` s from UTC, or in UTC. -/
def dstAt (t : DstRule) (y off : Int) : Int := dstDay t y * 86400 + t.minute * 60 - (if t.utc then 0 else off)

/-- Standard offset of a rule in s. -/
def TzRule.stdS (z : TzRule) : Int := 60 * z.std
/-- Offset of a rule in s while daylight saving is in effect. -/
def TzRule.dstS (z : TzRule) : Int := 60 * z.std + 60 * z.delta

/-- Start of daylight saving in a year. -/
def TzRule.startAt (z : TzRule) (y : Int) : Int := dstAt z.start y z.stdS
/-- End of daylight saving in a year. -/
def TzRule.stopAt (z : TzRule) (y : Int) : Int := dstAt z.stop y z.dstS

/-- Daylight saving is in effect at RTC seconds `t`: from the start until the end, of the following year where the end falls
earlier in the year. -/
def TzRule.dst (z : TzRule) (t : Int) : Bool :=
  z.start.month != 0 && z.stop.month != 0 &&
    (let (y, _, _) := dateOf ((t + z.stdS) / 86400)
     [y - 1, y, y + 1].any fun k =>
       let a := z.startAt k
       let b := if z.stopAt k < a then z.stopAt (k + 1) else z.stopAt k
       decide (a ≤ t) && decide (t < b))

/-- The rule in force: the valid rule with the greatest `VALID_FROM` not later than now. -/
def tzRuleAt (tz : Tbl TzRule) (t : Int) : Option (Nat × TzRule) :=
  tz.foldl (fun m x => if (x.2.validFrom : Int) ≤ t then
      (match m with | some b => if b.2.validFrom < x.2.validFrom then some x else m | none => some x) else m) none

/-- Offset of local time in s at RTC seconds `t`; UTC where no rule is valid. -/
def tzOff (tz : Tbl TzRule) (t : Int) : Int :=
  match tzRuleAt tz t with
  | some x => if x.2.dst t then x.2.dstS else x.2.stdS
  | none => 0

/-- Local seconds at RTC seconds `t`. -/
def localAt (tz : Tbl TzRule) (t : Int) : Int := t + tzOff tz t
/-- The local date at RTC seconds `t`. -/
def localDay (tz : Tbl TzRule) (t : Int) : Int := localAt tz t / 86400

/-- The least of a list of integers. -/
def minI (l : List Int) : Option Int := l.foldl (fun m x => match m with | none => some x | some y => some (min x y)) none

/-- The local-time instant of second `a` of local date `d` (R298): the first instant at which the local clock, on that date, reads
`a` or later. It is the instant at which the clock reads `a`, or the jump over it. -/
def localInstant (tz : Tbl TzRule) (d a : Int) : Int :=
  let want := d * 86400 + a
  let (y, _, _) := dateOf d
  let offs := 0 :: (tz.map fun x => [x.2.stdS, x.2.dstS]).flatten
  let jumps := (tz.map fun x => (x.2.validFrom : Int) ::
    (if x.2.start.month = 0 then [] else [y - 1, y, y + 1].map x.2.startAt) ++
    (if x.2.stop.month = 0 then [] else [y - 1, y, y + 1].map x.2.stopAt)).flatten
  let cand := offs.map (fun o => want - o) ++ jumps
  let good := cand.filter fun t => decide (want ≤ localAt tz t) && decide (localAt tz t < (d + 1) * 86400)
  match minI good with
  | some t => t
  | none => (minI (cand.filter fun t => decide (want ≤ localAt tz t))).getD want

/-! ### Fixed point: angles in 10⁻¹² degree, ratios in 10⁻¹⁵ -/

/-- One degree. -/
def deg1 : Int := 1000000000000
/-- One. -/
def one15 : Int := 1000000000000000

/-- An angle wrapped to [−180°, 180°). -/
def wrap180 (a : Int) : Int := (a + 180 * deg1) % (360 * deg1) - 180 * deg1

/-- Sum of a sine series: the term, x² and the index of the next factor. The fuel is the number of terms. -/
def sinSeries (x2 : Int) : Nat → Int → Int → Int → Int
  | 0, _, _, acc => acc
  | n + 1, term, k, acc =>
    let t := -(term * x2 / one15) / (k * (k + 1))
    sinSeries x2 n t (k + 2) (acc + t)

/-- Sine of an angle. -/
def sinD (a : Int) : Int :=
  let x := wrap180 a * 3141592653589793238 / 180000000000000000
  sinSeries (x * x / one15) 16 x 2 x

/-- Cosine of an angle. -/
def cosD (a : Int) : Int := sinD (a + 90 * deg1)

/-- Square root of a number below 4^(fuel), one bit at a time. -/
def isqrt : Nat → Nat → Nat → Nat
  | 0, _, r => r
  | k + 1, n, r => let t := r + 2 ^ k; isqrt k n (if t * t ≤ n then t else r)

/-- Square root of a ratio. -/
def sqrt15 (v : Int) : Int := (isqrt 60 (v.toNat * 1000000000000000) 0 : Nat)

/-- Sum of an arctangent series. -/
def atanSeries (t2 : Int) : Nat → Int → Int → Int → Int
  | 0, _, _, acc => acc
  | n + 1, pow, k, acc =>
    let p := -(pow * t2 / one15)
    atanSeries t2 n p (k + 2) (acc + p / k)

/-- Half the angle of a tangent: t / (1 + √(1 + t²)). -/
def halfTan (t : Int) : Int := t * one15 / (one15 + sqrt15 (one15 + t * t / one15))

/-- Arctangent of a ratio in [0, 1], as an angle. -/
def atanD (t : Int) : Int :=
  let h := halfTan (halfTan (halfTan t))
  8 * atanSeries (h * h / one15) 12 h 3 h * 180000000000000000 / 3141592653589793238

/-- The angle of a point. -/
def atan2D (y x : Int) : Int :=
  let ay := (y.natAbs : Int)
  let ax := (x.natAbs : Int)
  let a := if ax = 0 ∧ ay = 0 then 0
    else if ay ≤ ax then atanD (ay * one15 / ax) else 90 * deg1 - atanD (ax * one15 / ay)
  let b := if x < 0 then 180 * deg1 - a else a
  if y < 0 then -b else b

/-- Arcsine of a ratio. -/
def asinD (v : Int) : Int := atan2D v (sqrt15 (one15 - v * v / one15))

/-! ### The sun (R299): instants in 10 µs from the start of RTC time -/

/-- An angle as time, 15° to the hour. -/
def degTime (a : Int) : Int := a * 24 / 1000000

/-- A sun event, or why it does not exist. -/
inductive Sun where
  | at_ (t : Int)
  | below
  | above
  deriving DecidableEq, Repr, Inhabited

/-- 12:00 UTC on a date less λ/15 h, λ in µdeg. -/
def meanNoon (day lon : Int) : Int := (day * 86400 + 43200) * 100000 - lon * 24

/-- One pass for the event of a date, from an instant t. -/
def sunPass (st : Site) (day t : Int) (rise : Bool) : Sun :=
  let k := t - 43200 * 100000
  let g := 357529000000000 + 985600280000 * k / 8640000000
  let q := 280459000000000 + 985647360000 * k / 8640000000
  let lam := q + 1915 * sinD g / 1000000 + 20 * sinD (2 * g) / 1000000
  let e := 23439000000000 - 360000 * k / 8640000000
  let sinDec := sinD e * sinD lam / one15
  let cosDec := sqrt15 (one15 - sinDec * sinDec / one15)
  let ra := atan2D (cosD e * sinD lam / one15) (cosD lam)
  let noon := meanNoon day st.lon - degTime (wrap180 (q - ra))
  let phi := st.lat * 1000000
  let num := sinD (st.h0 * 10000000000) - sinD phi * sinDec / one15
  let den := cosD phi * cosDec / one15
  if den < num then .below
  else if num < -den then .above
  else
    let h := degTime (90 * deg1 - asinD (if den = 0 then 0 else num * one15 / den))
    .at_ (if rise then noon - h else noon + h)

/-- Sunrise or sunset of a local date, in RTC seconds. -/
def sunEvent (st : Site) (day : Int) (rise : Bool) : Sun :=
  match sunPass st day (meanNoon day st.lon) rise with
  | .at_ t => (match sunPass st day t rise with | .at_ u => .at_ ((u + 50000) / 100000) | x => x)
  | x => x

end Sys2Proof.Machine
end

