-- ==== Sys2Proof/Machine/Sched.lean ====
section
/-!
DEFINITION. The schedule table: entries and their windows, lux gates, the level a group resolves to, the fallback program (10,
R292 to R310).
-/
namespace Sys2Proof.Machine

/-! ### Settings and instants -/

/-- `SCH_LEAD` (SCH.SITE). -/
def schLead (s : State) : Nat := match s.sch.site with | some x => x.lead | none => 50
/-- `LUX_AGE` in s. -/
def luxAge (s : State) : Nat := match s.sch.site with | some x => x.luxAge | none => 900

/-- A group's fields. -/
def groupOf (s : State) (g : Nat) : Group := (tget s.sch.groups g).getD ⟨0, 0⟩

/-- RTC time in 1/65,536 s. -/
def rtcU (s : State) : Int := s.rtc.sec * 65536 + s.rtc.frac

/-- RTC seconds. -/
def rtcS (s : State) : Int := s.rtc.sec

/-- T(c) in RTC time, 1/65,536 s: phase 0 of a cycle, at the current `FREQ`. -/
def instOf (s : State) (c : Nat) : Int := rtcU s + ((c * 4096 : Int) - s.tt.tt) * 1048576 / s.tt.freq

/-- The first cycle whose phase 0 is at or after an instant in RTC seconds. -/
def cycAt (s : State) (t : Int) : Int := -((-(s.tt.tt + (t * 65536 - rtcU s) * s.tt.freq / 1048576 : Int)) / 4096)

/-! ### Entries (R300, R301) -/

/-- A word of an entry. -/
def SchEntry.e (x : SchEntry) (i : Nat) : Word := wAt x.words i
/-- `PRIO`. -/
def SchEntry.prio (x : SchEntry) : Nat := fld (x.e 0) 30 27
/-- `OWNER`. -/
def SchEntry.owner (x : SchEntry) : Nat := fld (x.e 0) 26 23
/-- `LUX_GATE`. -/
def SchEntry.luxGate (x : SchEntry) : Bool := bit (x.e 0) 22
/-- `GROUP`. -/
def SchEntry.group (x : SchEntry) : Nat := fld (x.e 0) 21 10
/-- `LEVEL`. -/
def SchEntry.level (x : SchEntry) : Nat := fld (x.e 0) 9 0
/-- `FADE`. -/
def SchEntry.fade (x : SchEntry) : Nat := fld (x.e 1) 15 0
/-- `START_KIND`. -/
def SchEntry.startKind (x : SchEntry) : Nat := fld (x.e 1) 31 30
/-- `END_KIND`. -/
def SchEntry.endKind (x : SchEntry) : Nat := fld (x.e 1) 29 28
/-- `SENSOR_GROUP`. -/
def SchEntry.sensors (x : SchEntry) : Nat := fld (x.e 6) 31 20

/-- A date lies in the date range of an entry: 29 February acts as 1 March in a year without it. -/
def inDates (w : Word) (day : Int) : Bool :=
  let (y, _, _) := dateOf day
  let a := dayOf y (fld w 31 28) (fld w 27 23)
  let b := dayOf y (fld w 22 19) (fld w 18 14)
  if fld w 31 28 = 0 ∨ (fld w 31 28 = fld w 22 19 ∧ fld w 27 23 = fld w 18 14) then true
  else if a ≤ b then decide (a ≤ day) && decide (day < b)
  else decide (a ≤ day) || decide (day < b)

/-- A date is one of an entry's: its weekday and its range. -/
def SchEntry.onDay (x : SchEntry) (day : Int) : Bool :=
  (fld (x.e 1) 27 21).testBit (weekdayOf day).toNat && inDates (x.e 4) day

/-- A start or end instant of a kind on a date, in RTC seconds; none where the sun event does not exist. -/
def boundAt (s : State) (kind : Nat) (arg : Word) (day : Int) : Option Int :=
  if kind = 0 then some (localInstant s.sch.tz day (fld arg 16 0))
  else match s.sch.site with
    | none => none
    | some st => match sunEvent st day (kind == 1) with
      | .at_ t => some (t + toSigned 32 arg.toNat)
      | _ => none

/-- The window of a date (R301), empty where a sun event it needs does not exist. -/
def SchEntry.window (s : State) (x : SchEntry) (day : Int) : Option (Int × Int) :=
  match boundAt s x.startKind (x.e 2) day, boundAt s x.endKind (x.e 3) day with
  | some a, some b => if a < b then some (a, b) else (boundAt s x.endKind (x.e 3) (day + 1)).map fun b => (a, b)
  | _, _ => none

/-- The cycle nearest the current one with low 32 bits `a` (R303). -/
def nearCycle (now a : Nat) : Int := now + toSigned 32 ((a + 2 ^ 32 - now % 2 ^ 32) % 2 ^ 32)

/-- A CYCLE entry is of another epoch (R303). -/
def SchEntry.expired (s : State) (x : SchEntry) : Bool := x.startKind == 3 && fld (x.e 4) 7 0 != s.tt.reserve.epoch % 256

/-- The dates whose windows may contain an instant on a date. -/
def nearDays (d : Int) : List Int := [d - 2, d - 1, d, d + 1]

/-- An entry's window contains phase 0 of a cycle; the lux gate apart. -/
def SchEntry.inWindow (s : State) (x : SchEntry) (c : Nat) : Bool :=
  let u := instOf s c
  let d := localDay s.sch.tz (u / 65536)
  if x.startKind = 3 then
    !x.expired s && x.onDay d && decide (nearCycle (cycOf s) (x.e 2).toNat ≤ c) && decide (c < nearCycle (cycOf s) (x.e 3).toNat)
  else
    (nearDays d).any fun k => x.onDay k && (match x.window s k with
      | some (a, b) => decide (a * 65536 ≤ u) && decide (u < b * 65536)
      | none => false)

/-- An entry is active at a cycle (R302). -/
def SchEntry.active (s : State) (x : SchEntry) (c : Nat) : Bool := (!x.luxGate || x.gateOpen) && x.inWindow s c

/-! ### Lux (R302) -/

/-- A number put into a rising list. -/
def insertUp (v : Nat) : List Nat → List Nat
  | [] => [v]
  | x :: t => if v ≤ x then v :: x :: t else x :: insertUp v t

/-- The lower median of a list. -/
def median (l : List Nat) : Nat := (l.foldl (fun m v => insertUp v m) []).getD ((l.length - 1) / 2) 0

/-- An endpoint is a member of a group. -/
def memberOf (s : State) (ep g : Nat) : Bool :=
  match epOf s ep with | some r => g == 4095 || r.groups.contains g | none => false

/-- The reports of a group's members received within `LUX_AGE`. -/
def luxReports (s : State) (g : Nat) : List LuxRep :=
  (s.sch.lux.filter fun x => memberOf s x.1 g && decide (s.clk.ticks < x.2.tick + luxAge s * 40000000)).map Prod.snd

/-- The lux of a sensor group, none without a report. -/
def luxOf (s : State) (g : Nat) : Option Nat :=
  let l := luxReports s g
  if l.isEmpty then none else some (median (l.map fun x => x.lux))

/-- A gate's new state. -/
def gateNext (lux : Option Nat) (on off : Nat) (was : Bool) : Bool :=
  match lux with | none => true | some v => if v < on then true else if off ≤ v then false else was

/-- The fallback program in force (R309, its defaults). -/
def fallbackOf (s : State) : Fallback := s.sch.fallback.getD ⟨1000, 1000, 0xFFF, 0, 0, 0, 0, 0, 0, 250⟩

/-- Every gate follows the lux of its group. -/
def updGates (s : State) : State :=
  let f := fallbackOf s
  { s with sch := { s.sch with
    entries := s.sch.entries.map fun x => (x.1, if x.2.luxGate then
      { x.2 with gateOpen := gateNext (luxOf s x.2.sensors) (fld (x.2.e 5) 31 16) (fld (x.2.e 5) 15 0) x.2.gateOpen } else x.2)
    fbGate := if f.luxGroup = 0xFFF then true else gateNext (luxOf s f.luxGroup) f.luxOn f.luxOff s.sch.fbGate } }

/-- Age in s of the newest report of a group's members, saturated without one. -/
def newestAge (s : State) (g : Nat) : Nat :=
  ((s.sch.lux.filter fun x => memberOf s x.1 g).map fun x => (s.clk.ticks - x.2.tick) / 40000000).foldl Nat.min (2 ^ 32 - 1)

/-- The onset of a gate group's lack of reports is logged once (R302). -/
def checkStale (s : State) : State :=
  let gs := (s.sch.entries.filterMap fun x => if x.2.luxGate then some x.2.sensors else none) ++
    (if (fallbackOf s).luxGroup = 0xFFF then [] else [(fallbackOf s).luxGroup])
  let s1 := { s with sch := { s.sch with stale := s.sch.stale.filter fun g => gs.contains g && (luxOf s g).isNone } }
  gs.foldl (fun s g =>
    if (luxOf s g).isSome || s.sch.stale.contains g then s
    else logNs evSchLuxStale 0xFF [g, newestAge s g] { s with sch := { s.sch with stale := s.sch.stale ++ [g] } }) s1

/-! ### Resolution (R304) -/

/-- Candidate `y` beats the best so far, `x`, for group `g`; an earlier entry stands on a tie. -/
def beats (g : Nat) (x y : SchEntry) : Bool :=
  decide (x.prio < y.prio) || (x.prio == y.prio && x.group != g && y.group == g)

/-- The winner of a group at a cycle. -/
def winnerAt (s : State) (g c : Nat) : Option (Nat × SchEntry) :=
  (s.sch.entries.filter fun x => (x.2.group == g || x.2.group == 4095) && x.2.active s c).foldl
    (fun m x => match m with | none => some x | some b => if beats g b.2 x.2 then some x else some b) none

/-- The level a group resolves to at a cycle, its winner, and the winner's fade. -/
def resolveAt (s : State) (g c : Nat) : Decided :=
  match winnerAt s g c with
  | some (k, x) => ⟨x.level, some k, x.fade⟩
  | none => ⟨(groupOf s g).level, none, 0⟩

/-! ### The fallback program (R309) -/

/-- A second of day lies in a night period, which may wrap across midnight. -/
def inNight (f : Fallback) (a : Nat) : Bool :=
  if f.nightFrom = f.nightTo then false
  else if f.nightFrom < f.nightTo then decide (f.nightFrom ≤ a) && decide (a < f.nightTo)
  else decide (f.nightFrom ≤ a) || decide (a < f.nightTo)

/-- The fallback window of a date. -/
def fbWindow (s : State) (day : Int) : Option (Int × Int) :=
  let f := fallbackOf s
  match s.sch.site with
  | none => none
  | some st => match sunEvent st day false, sunEvent st (day + 1) true with
    | .at_ a, .at_ b => some (a + f.onOff, b + f.offOff)
    | _, _ => none

/-- The fallback level at a cycle. -/
def fbLevelAt (s : State) (c : Nat) : Nat :=
  let f := fallbackOf s
  let u := instOf s c
  let t := u / 65536
  if f.luxGroup != 0xFFF && !s.sch.fbGate then 0
  else if s.sch.site.isNone then f.dusk
  else if (nearDays (localDay s.sch.tz t)).any (fun k => match fbWindow s k with
      | some (a, b) => decide (a * 65536 ≤ u) && decide (u < b * 65536)
      | none => false) then
    if inNight f (localAt s.sch.tz t % 86400).toNat then f.night else f.dusk
  else 0

/-- The level of a group at a cycle, the fallback level in AUTONOMOUS (R310, R320). -/
def baseAt (s : State) (g c : Nat) : Decided :=
  if s.pwr.autonomous then ⟨fbLevelAt s c, none, (fallbackOf s).fade⟩ else resolveAt s g c

/-- The group that governs an endpoint (R293). -/
def EpRec.governs (r : EpRec) : Nat := if r.slot0 = 0xFFF then 4095 else r.slot0

/-- The schedule groups, rising, and group 4,095 (R293, R304). -/
def schedGroups (s : State) : List Nat :=
  (s.lat.recs.foldl (fun (t : Tbl Unit) x => if x.2.cls == 1 && x.2.slot0 != 0xFFF then tset t x.2.slot0 () else t) []).map Prod.fst ++
    [4095]

/-! ### Missing sun events, time zones (R297, R301) -/

/-- The kind of the sun event that leaves an entry's window of a date empty, 0 for none: the start on it, the end on it, or the end on
the next date where the window needs that one. -/
def SchEntry.missing (s : State) (x : SchEntry) (d : Int) : Nat :=
  if x.startKind = 3 then 0
  else match boundAt s x.startKind (x.e 2) d, boundAt s x.endKind (x.e 3) d with
    | none, _ => x.startKind
    | some _, none => x.endKind
    | some a, some b => if a < b ∨ (boundAt s x.endKind (x.e 3) (d + 1)).isSome then 0 else x.endKind

/-- The kind of the sun event that leaves the fallback window of a date empty, 0 for none. -/
def fbMissing (s : State) (d : Int) : Nat :=
  match s.sch.site with
  | none => 0
  | some st => match sunEvent st d false, sunEvent st (d + 1) true with
    | .at_ _, .at_ _ => 0
    | .at_ _, _ => 1
    | _, _ => 2

/-- EV_SCH_NO_SOLAR for an entry's empty window of a date, once (R301). -/
def noteSolar (k kind : Nat) (d : Int) (s : State) : State :=
  if kind = 0 ∨ s.sch.solarSeen.contains (k, d) then s
  else logLim evSchNoSolar 0xFF (fun n => [wd k, dateWord d, Config.itemCode evSchNoSolar kind, wd n])
    { s with sch := { s.sch with solarSeen := s.sch.solarSeen ++ [(k, d)] } }

/-- The windows of a date that are empty for want of a sun event are logged. DEDUCED: the fallback window, built as R301 builds an
entry's, is logged with entry 0xFFFF (log entry 66, on empty windows). -/
def noteNoSolar (fallback : Bool) (d : Int) (s : State) : State :=
  let s1 := { s with sch := { s.sch with solarSeen := s.sch.solarSeen.filter fun x => decide (d ≤ x.2) } }
  if fallback then noteSolar 0xFFFF (fbMissing s1 d) d s1
  else s1.sch.entries.foldl (fun s x => if x.2.onDay d then noteSolar x.1 (x.2.missing s d) d s else s) s1

/-- EV_SCH_TZ for a change of the rule in force or of daylight saving. -/
def noteTz (s : State) : State :=
  let r := tzRuleAt s.sch.tz (rtcS s)
  let now := (r.map Prod.fst, match r with | some x => x.2.dst (rtcS s) | none => false)
  let s1 := { s with sch := { s.sch with tzSeen := some now } }
  match s.sch.tzSeen with
  | none => s1
  | some old => if old = now then s1
    else logNs evSchTz 0xFF [match now.1 with | some k => k | none => 0xFFFF, b2n (!now.2)] s1

end Sys2Proof.Machine
end

