-- ==== Sys2Proof/Machine/Chord.lean ====
section
/-!
DEFINITION. Chord: lit windows, levels, waves and the commands they become (10, R315 to R322).
-/
namespace Sys2Proof.Machine

/-! ### Lit windows (R317, R319) -/

/-- A corridor. -/
def corridorOf (s : State) (c : Nat) : Option Corridor := tget s.chd.corridors c

/-- The signed distance of a position from a wave's anchor, in the direction of travel. -/
def Wave.dist (w : Wave) (x : Nat) : Int := if w.down then (w.pos : Int) - x else (x : Int) - w.pos

/-- Cycles a number up to which phase 0 has passed, rounded up. -/
def ceilCyc (tt : Nat) : Nat := (tt + 4095) / 4096

/-- The cycles [first, end) at which a wave lights a position: in the lit window, or in it within the last `HOLD` cycles. The distance
travelled is V × 16 × pu / `FREQ` dm. -/
def Wave.span (s : State) (w : Wave) (c : Corridor) (x : Nat) : Option (Nat × Nat) :=
  let d := w.dist x
  let f : Int := s.tt.freq
  if !w.traffic then
    if -(c.behind : Int) ≤ d ∧ d < c.ahead then some (ceilCyc w.anchor, ceilCyc w.anchor + c.hold) else none
  else
    let v : Int := 16 * w.speed
    let lo := d - c.ahead
    let hi := d + c.behind
    if hi < 0 ∨ v = 0 then none
    else
      let first := ceilCyc (w.anchor + (if lo < 0 then 0 else (lo * f / v + 1).toNat))
      let last := (w.anchor + (hi * f / v).toNat) / 4096
      if first ≤ last then some (first, last + c.hold + 1) else none

/-- A wave lights a position at a cycle. -/
def Wave.lights (s : State) (w : Wave) (c : Corridor) (x cyc : Nat) : Bool :=
  match w.span s c x with | some (a, b) => decide (a ≤ cyc) && decide (cyc < b) | none => false

/-- `END_CYC` (R319): for a traffic wave the first cycle after the last lantern has been lit. -/
def Wave.endAt (s : State) (w : Wave) (c : Corridor) : Nat :=
  if w.traffic then
    (c.lanterns.filterMap fun l => (w.span s c l.pos).map Prod.snd).foldl Nat.max (ceilCyc w.anchor)
  else ceilCyc w.anchor + c.hold

/-- The lanterns that a wave lights at a cycle. -/
def Wave.litCount (s : State) (w : Wave) (cyc : Nat) : Nat :=
  match corridorOf s w.corridor with
  | some c => (c.lanterns.filter fun l => w.lights s c l.pos cyc).length
  | none => 0

/-- A descriptor of six words (R316). -/
def waveWords (s : State) (id : Nat) (w : Wave) : List Word :=
  [ packW [(id, 24), (b2n w.traffic, 22), (b2n w.down, 21), (b2n w.injected, 20), (w.corridor, 0)],
    packW [(w.pos, 16), (w.speed, 0)], wd (w.anchor / 4096), packW [(w.anchor % 4096, 20), (w.source, 0)], wd w.endCyc,
    packW [(sat 8 w.merges, 24), (sat 10 (w.litCount s (cycOf s)), 14), (sat 14 w.issued, 0)] ]

/-! ### Levels (R320) -/

/-- The base level of an endpoint at a cycle. -/
def epBase (s : State) (ep c : Nat) : Decided :=
  match epOf s ep with | some r => baseAt s r.governs c | none => ⟨0, none, 0⟩

/-- The greatest `LIT_LEVEL` among the corridors whose waves light an endpoint at a cycle, the lower corridor on a tie. -/
def litAt (s : State) (ep c : Nat) : Option (Nat × Nat) :=
  (s.chd.corridors.filter fun x => s.chd.waves.any fun w => w.2.corridor == x.1 &&
      x.2.lanterns.any fun l => l.ep == ep && w.2.lights s x.2 l.pos c).foldl
    (fun m x => match m with
      | none => some (x.2.lit, x.1)
      | some b => if b.1 < x.2.lit then some (x.2.lit, x.1) else some b) none

/-- The level of a lantern at a cycle, and the corridor that gives it; none for the base level. -/
def levelAt (s : State) (ep c : Nat) : Nat × Option Nat :=
  let b := (epBase s ep c).level
  match litAt s ep c with
  | some (l, k) => if b < l then (l, some k) else (b, none)
  | none => (b, none)

/-- Octets of a LEVEL message (R263). -/
def levelApp (level fade : Nat) : List Nat := [1] ++ oct16 level ++ oct16 fade

/-! ### Commands (R321) -/

/-- Chord issues commands: its block is in service, in RUN, DEGRADED or SERVICE. -/
def chdRuns (s : State) : Bool :=
  (match s.pwr.mode with | .run => true | .degraded => true | .service => true | _ => false) && !withdrawn s 0x0A

/-- The effective lead. -/
def chdLead (s : State) : Nat := Nat.max s.chd.lead s.txn.retry.lead

/-- The changes issued to a lantern. -/
def issuedTo (s : State) (ep : Nat) : List Issued := (tget s.chd.issued ep).getD []

/-- The changes issued to a lantern replaced. -/
def setIssued (ep : Nat) (l : List Issued) (s : State) : State :=
  { s with chd := { s.chd with issued := if l.isEmpty then tdel s.chd.issued ep else tset s.chd.issued ep l } }

/-- The fade of a change (R320; a change the base makes takes the fade of R305). -/
def changeFade (s : State) (ep k : Nat) (rise : Bool) (new old : Option Nat) : Nat :=
  match (if rise then new else old) with
  | some c => (match corridorOf s c with | some x => if rise then x.fadeUp else x.fadeDown | none => 0)
  | none => (epBase s ep k).fade

/-- `ISSUED` of the waves of a corridor raised. -/
def countIssued (c : Nat) (s : State) : State :=
  { s with chd := { s.chd with waves := s.chd.waves.map fun x => (x.1, if x.2.corridor = c then { x.2 with issued := sat 14 (x.2.issued + 1) } else x.2) } }

/-- Chord's own transactions that have made no attempt and whose change is gone are cancelled (R321). -/
def cancelStale (ep : Nat) (s : State) : State :=
  (issuedTo s ep).foldl (fun s i =>
    if (levelAt s ep i.target).1 = i.level then s
    else
      let s1 := setIssued ep ((issuedTo s ep).filter fun j => j != i) s
      match i.txn with
      | none => s1
      | some k => match txnOf s k with
        | none => s
        | some t => if t.attempts ≠ 0 then s else finishTxn t stAbandoned 2 noRes s1) s

/-- A change issued to a lantern at a cycle: a confirmed LEVEL. Under HOLD it waits for the cycle before its target, to be sent without
one (R306). None where the transaction does not fit. -/
def issueChange (ep k : Nat) (want : Nat × Option Nat) (prev : Nat × Option Nat) (s : State) : Option State :=
  let wait := holdFlag s && orderMode s != 1
  if !wait && !txnRoom s 1 then none
  else
    let l := issuedTo s ep
    let tgt := match l.getLast? with | some i => Nat.max k i.target | none => k
    let fade := changeFade s ep k (decide (prev.1 < want.1)) want.2 prev.2
    let s1 := if wait then s else startTxn .chord ep none false false (levelApp want.1 fade) (some tgt) (ownDeadline s) s
    let s2 := setIssued ep (l ++ [⟨tgt, want.1, fade, want.2, if wait then none else some s.txn.nextId⟩]) s1
    some (match want.2.or prev.2 with | some c => countIssued c s2 | none => s2)

/-- The changes of a lantern that HOLD kept and whose cycle has come are sent without a target (R306, R321). -/
def sendKept (ep : Nat) (s : State) : State :=
  (issuedTo s ep).foldl (fun s i =>
    if i.txn.isSome ∨ cycOf s + 1 < i.target then s
    else if !txnRoom s 1 then logLim evChdBacklog 0xFF (fun c => [wd c]) s
    else
      let s1 := startTxn .chord ep none false false (levelApp i.level i.fade) none (ownDeadline s) s
      setIssued ep ((issuedTo s ep).map fun j => if j == i then { j with txn := some s.txn.nextId } else j) s1) s

/-- The level a lantern has before a cycle: the last one issued, or its base level. -/
def levelBefore (s : State) (ep k : Nat) : Nat × Option Nat :=
  match (issuedTo s ep).getLast? with
  | some i => if i.corridor.isSome then (i.level, i.corridor) else ((epBase s ep (k - 1)).level, none)
  | none => ((epBase s ep (k - 1)).level, none)

/-- The lowest wave of a corridor. -/
def firstWave (s : State) (c : Option Nat) : Nat :=
  match s.chd.waves.find? fun w => some w.2.corridor == c with | some w => w.1 | none => 0xFFFF

/-- The changes of a lantern at `n` cycles from `k` on, the first of them possibly late. -/
def planLantern (ep : Nat) : Nat → Nat → Bool → State → State
  | 0, _, _, s => s
  | n + 1, k, first, s =>
    let want := levelAt s ep k
    let prev := levelBefore s ep k
    if want.1 = prev.1 then planLantern ep n (k + 1) false s
    else match issueChange ep k want prev s with
      | none => logLim evChdBacklog 0xFF (fun c => [wd c]) s
      | some s1 =>
        let late := first && (levelAt s ep (k - 1)).1 == want.1
        planLantern ep n (k + 1) false
          (if late then logLim evChdLate 0xFF (fun c => [wd (firstWave s (want.2.or prev.2)), wd c]) s1 else s1)

/-- The record of a lantern that follows its base level again goes. -/
def pruneIssued (ep : Nat) (s : State) : State :=
  match (issuedTo s ep).getLast? with
  | none => s
  | some i =>
    if i.corridor.isNone && i.txn.isSome && decide (i.target < cycOf s) then setIssued ep [] s
    else setIssued ep ((issuedTo s ep).filter fun j => j == i || j.txn.isNone || decide (cycOf s ≤ j.target)) s

/-- The lanterns that an evaluation considers, rising. -/
def chdLanterns (s : State) : List Nat :=
  let eps := (s.chd.corridors.filter fun x => s.chd.waves.any fun w => w.2.corridor == x.1).map fun x => x.2.lanterns.map fun l => l.ep
  ((eps.flatten ++ s.chd.issued.map Prod.fst).foldl (fun (t : Tbl Unit) e => tset t e ()) []).map Prod.fst

/-- An evaluation (R321). -/
def chdEval (s : State) : State :=
  if !chdRuns s then s
  else
    let k := cycOf s + chdLead s
    (chdLanterns s).foldl (fun s ep => if (epOf s ep).isNone then setIssued ep [] s
      else pruneIssued ep (planLantern ep s.chd.every k true (cancelStale ep s))) s

/-- A level sent to every lantern of a corridor, targets c + L. -/
def sendCorridor (cor : Corridor) (level : State → Nat → Nat → Nat × Option Nat) (s : State) : State :=
  let k := cycOf s + chdLead s
  cor.lanterns.foldl (fun s l =>
    if (epOf s l.ep).isNone then s
    else
      let want := level s l.ep k
      let prev := levelBefore s l.ep k
      match issueChange l.ep k want prev s with
      | some s1 => s1
      | none => startOwn .chord l.ep (levelApp want.1 (changeFade s l.ep k (decide (prev.1 < want.1)) want.2 prev.2)) (some k)
          (logLim evChdBacklog 0xFF (fun c => [wd c]) s)) s

/-! ### Waves (R316, R318, R319) -/

/-- A wave's entry in the timeline event queue moved to its end (R89, rank 4); none where none is free. -/
def postWave (id endCyc : Nat) (s : State) : Option State :=
  let s1 := tlCancel (fun k => match k with | .waveEnd i => i == id | _ => false) s
  match tlPost (Nat.max endCyc (cycOf s + 1) * 4096) 4 0x0A (.waveEnd id) s1 with
  | some s2 => some s2
  | none => none

/-- A detection offered to a corridor in one direction. -/
structure Offer where
  corridor : Nat
  traffic : Bool
  down : Bool
  pos : Nat
  speed : Nat
  td : Nat
  source : Nat
  injected : Bool
  deriving DecidableEq, Repr, Inhabited

/-- The speed a detection gives (R316). -/
def offerSpeed (o : Offer) (c : Corridor) : Nat :=
  if !o.traffic then 0 else if o.speed = 0 then c.vDefault else Nat.max c.vMin (Nat.min c.vMax o.speed)

/-- |p + D·V·(t_d − t_a) − x|, times `FREQ`. -/
def mergeDist (s : State) (w : Wave) (o : Offer) : Nat :=
  let run : Int := 16 * w.speed * ((o.td : Int) - w.anchor)
  (((w.pos : Int) - o.pos) * s.tt.freq + (if w.down then -run else run)).natAbs

/-- The wave that a detection re-anchors: the nearest within `MERGE_GAP`, the earlier anchor on a tie; a presence wave of its sensor
(R318). -/
def mergeTarget (s : State) (o : Offer) (c : Corridor) : Option (Nat × Wave) :=
  (s.chd.waves.filter fun x => x.2.corridor == o.corridor && x.2.down == o.down && x.2.traffic == o.traffic &&
      (if o.traffic then decide (mergeDist s x.2 o < c.mergeGap * s.tt.freq) else x.2.source == o.source && x.2.pos == o.pos)).foldl
    (fun m x => match m with
      | none => some x
      | some b =>
        let db := mergeDist s b.2 o
        let dx := mergeDist s x.2 o
        if dx < db ∨ (dx = db ∧ x.2.anchor < b.2.anchor) then some x else some b) none

/-- What an offer did. -/
inductive Offered where
  | wave (id : Nat) (merged : Bool) (s : State)
  | limit
  | noEntry

/-- A wave created or re-anchored by an offer (R316, R318). -/
def offer (o : Offer) (c : Corridor) (s : State) : Offered :=
  match mergeTarget s o c with
  | some (id, w) =>
    let w1 := { w with
      pos := o.pos, anchor := o.td, merges := sat 8 (w.merges + 1)
      speed := if o.traffic && o.speed != 0 then offerSpeed o c else w.speed }
    let w2 := { w1 with endCyc := w1.endAt s c }
    (match postWave id w2.endCyc { s with chd := { s.chd with waves := tset s.chd.waves id w2 } } with
      | some s1 => .wave id true s1
      | none => .noEntry)
  | none =>
    let id := freeShort (s.chd.waves.map Prod.fst) s.chd.waves.length 0
    if 256 ≤ s.chd.waves.length then .limit
    else
      let w : Wave := ⟨o.traffic, o.down, o.injected, o.corridor, o.pos, offerSpeed o c, o.td, o.source, 0, 0, 0⟩
      let w1 := { w with endCyc := w.endAt s c }
      (match postWave id w1.endCyc { s with chd := { s.chd with waves := tset s.chd.waves id w1 } } with
        | some s1 => .wave id false s1
        | none => .noEntry)

/-- The directions of a detection that a corridor takes: increasing, decreasing (R315). -/
def dirsOf (c : Corridor) (dir : Nat) (flip : Bool) : List Bool :=
  let want := if dir = 0 then [false, true] else [(dir == 2) != flip]
  want.filter fun d => c.dirMask.testBit (b2n d)

/-- A corridor's gate is open (R312). -/
def gateOpen (s : State) (c : Corridor) : Bool := !c.gate || decide (0 < (baseAt s c.gateGroup (cycOf s)).level)

/-- An offer made for a received detection: a wave that does not fit is dropped and counted (R319). -/
def offerOr (o : Offer) (c : Corridor) (s : State) : State :=
  match offer o c s with
  | .wave _ _ s1 => chdEval s1
  | .limit => logLim evChdWaveLimit 0xFF (fun n => [wd n]) s
  | .noEntry => tlFull 0x0A 2 s

/-- A wave ended: its entry goes and its lanterns return to what R320 gives (R319). -/
def dropWave (id : Nat) (s : State) : State :=
  tlCancel (fun k => match k with | .waveEnd i => i == id | _ => false) { s with chd := { s.chd with waves := tdel s.chd.waves id } }

/-- WAVE_END (R319): the rank 4 entry at `END_CYC` fires. -/
def execWaveEnd (s : State) : Host.Outcome State Fault Refusal :=
  .next (tlFire (fun k _ => match k with | .waveEnd id => some fun s => chdEval (dropWave id s) | _ => none) s)

/-- CHD_EVALUATION (R321): at a cycle that is a multiple of `E`; the changes that HOLD kept go out at every cycle. In COMMISSION Chord is off, and its waves go (R311). -/
def execChdEvaluation (s : State) : Host.Outcome State Fault Refusal :=
  .next
    (let c := cycOf s
     if s.pwr.mode == .commission && !s.chd.waves.isEmpty then
       (s.chd.waves.map Prod.fst).foldl (fun s i => dropWave i s) { s with chd := { s.chd with issued := [] } }
     else
       let s1 := if chdRuns s then (s.chd.issued.map Prod.fst).foldl (fun s ep => sendKept ep s) s else s
       if c % s.chd.every = 0 && c != s.chd.lastEval && s.tt.running then chdEval { s1 with chd := { s1.chd with lastEval := c } }
       else s1)

/-- The block withdrawn: existing waves end without commands (R311). -/
def chdWithdraw (s : State) : State :=
  (s.chd.waves.map Prod.fst).foldl (fun s i => dropWave i s) { s with chd := { s.chd with issued := [] } }

/-- The block back in service: every corridor lantern is sent its base level (R311). -/
def chdReturn (s : State) : State :=
  s.chd.corridors.foldl (fun s c => sendCorridor c.2 (fun s ep k => ((epBase s ep k).level, none)) s) s

end Sys2Proof.Machine
end

