-- ==== Sys2Proof/Machine/Rtc.lean ====
section
/-!
DEFINITION. RTC and the backup domain: counting and correction, shadows, setting, trust flags, switch-over, backup RAM, tamper
configuration, the cell, and the RTC commands (04).
-/
namespace Sys2Proof.Machine

/-! ### Counting and correction (R98, R99) -/

/-- Number of corrections due in the first `i` ticks of a window with `n` corrections spread evenly. -/
def corrUpTo (n : Nat) (i : Nat) : Nat := i * n / 2 ^ 21

/-- What a crystal tick, the `i`-th of its window, adds to the fraction: 2, 4 for an inserted tick, 0 for a dropped one. -/
def tickStep (n : Int) (i : Nat) : Nat :=
  let hit := decide (i ≤ 2 ^ 21) && corrUpTo n.natAbs i != corrUpTo n.natAbs (i - 1)
  if hit then (if 0 < n then 4 else 0) else 2

/-- The counter after a crystal tick. -/
def Rtc.count (r : Rtc) : Rtc :=
  let f := r.frac + tickStep r.corrN (r.winTick + 1)
  if f < 65536 then { r with frac := f, winTick := r.winTick + 1 }
  else { r with frac := f - 65536, sec := (r.sec + 1) % 2 ^ 40, winTick := r.winTick + 1 }

/-- The staged write commits on the crystal tick that comes next (R104). -/
def writeDue (s : State) : Bool :=
  match s.rtc.staged with
  | none => false
  | some w =>
    if w.mode = 0 then true
    else if w.mode = 1 then
      s.rtc.sec == w.at_ && decide (65536 ≤ s.rtc.frac + tickStep s.rtc.corrN (s.rtc.winTick + 1))
    else decide (w.at_ ≤ s.tt.tt)

/-- One crystal tick: the counter advances, or the tick becomes the commit of the staged write, whose increment is discarded. -/
def crystalTick (s : State) : State :=
  let s := { s with clk := { s.clk with xtal := s.clk.xtal + 1 } }
  if writeDue s then { s with rtc := { s.rtc with commitDue := true, winTick := s.rtc.winTick + 1 } }
  else { s with rtc := s.rtc.count }

/-- OSF set, and LBV with it (R107), logged as EV_RTC_OSC_FAULT with the stop duration in ms or the error in ppm. -/
def oscFault (what : Int) (s : State) : State :=
  logNs evRtcOscFault 0xFF [ofSigned 32 what] { s with rtc := { s.rtc with osf := true, lbv := true } }

/-- The module is powered from VIN. -/
def powered (s : State) : Bool :=
  match s.pwr.bootStep with | .off => false | _ => true

/-- VIN is present and the TCXO runs: the rails are good. DEDUCED (log entry 29, on the correction window). -/
def tcxoRuns (s : State) : Bool := powered s && s.pwr.pgood

/-- RTC_CORRECTION_WINDOW (R99): `m` is the error measured over the window just ended and `temp` the domain's temperature,
`bakOk` whether BAK is at or above V_LBV. -/
def execRtcCorrectionWindow (m temp : Int) (bakOk : Bool) (s : State) : Host.Outcome State Fault Refusal :=
  .next
    (if s.rtc.winTick < 2 ^ 21 then s
     else
       let r := s.rtc
       let base := r.aging + (m - Config.factory temp)
       let next := fun (c : Int) (src : Nat) (aging : Int) =>
         let c' := clampI (-20000) 20000 c
         { r with winTick := r.winTick - 2 ^ 21, corr := c', corrSrc := src, corrN := roundDiv (c' * 2097152) 100000000,
                  winWhole := tcxoRuns s, aging := aging, temp := temp }
       if tcxoRuns s && r.winWhole then
         let s1 := { s with rtc := next (r.trim * 10 - m) 0 (base - roundDiv r.aging 1024) }
         if 10000 < m.natAbs then oscFault (m / 100) s1 else s1
       else if powered s || bakOk then
         { s with rtc := next (r.trim * 10 - (Config.factory temp + roundDiv r.aging 1024)) 1 r.aging }
       else { s with rtc := next 0 2 r.aging })

/-! ### Shadows (R100 to R102) -/

/-- The flag byte of `RTC_FRAC_FLAGS` (R103), `STALE` apart. -/
def rtcFlags (r : Rtc) : Nat :=
  64 * b2n r.osf + 32 * b2n r.lbv + 16 * b2n r.staged.isSome + 8 * b2n r.tampered + 4 * b2n r.cellLow + 2 * b2n r.swoValid

/-- A shadow frozen from the counter. -/
def Shadow.freeze (h : Shadow) (r : Rtc) (ticks : Nat) : Shadow :=
  { frozen := true, readMask := 0, since := ticks, staleNext := false, lo := wd r.sec, hi := wd (r.sec / 2 ^ 32 % 256),
    ff := packW [(r.frac, 16), (b2n h.staleNext, 7), (rtcFlags r, 0)] }

/-- The register of a copy. -/
def Shadow.reg (h : Shadow) (i : Nat) : Word := if i = 0 then h.lo else if i = 1 then h.hi else h.ff

/-- A read of one of the three registers: freeze if no copy stands, serve, and release when all three have been read, or by the
read that shows `STALE`. -/
def Shadow.read (h : Shadow) (r : Rtc) (ticks i : Nat) : Shadow × Word :=
  let h1 := if h.frozen then h else h.freeze r ticks
  let m := setBit h1.readMask i true
  let done := m == 7 || (i == 2 && bit h1.ff 7)
  ({ h1 with readMask := m, frozen := !done }, h1.reg i)

/-- RTC_SHADOW_TIMEOUT (R101): 1 s after the first read. -/
def execRtcShadowTimeout (p : Fin 4) (s : State) : Host.Outcome State Fault Refusal :=
  .next
    (let h := s.shadow.get p
     if h.frozen && decide (h.since + 40000000 ≤ s.clk.ticks) then
       { s with shadow := s.shadow.put p { h with frozen := false, staleNext := true } }
     else s)

/-! ### Setting the time (R104 to R106) -/

/-- Words 3 and 4 of TT.RTC_STATUS: seconds, fraction and flags. -/
def rtcPair (r : Rtc) : List Word := [wd r.sec, packW [(r.frac, 16), (rtcFlags r, 8), (r.sec / 2 ^ 32 % 256, 0)]]

/-- Every anchor marked `RTC_STEPPED`, and the extra anchor of the commit taken on the new scale (R93). -/
def stepAnchors (s : State) : State :=
  pushAnchor { s with tt := { s.tt with
    anchors := s.tt.anchors.map fun a => { a with stepped := true }, scale := s.tt.scale + 1 } }

/-- The commit of a staged write (R104, R106), with the answers it gives. -/
def commitRtc (w : RtcWrite) (s : State) : State :=
  let r := s.rtc
  let s1 := stepAnchors { s with rtc := { r with
    sec := w.sec, frac := 0, lbv := false, osf := r.osf && !w.clearOsf, staged := none, commitDue := false, lastWrite := 1,
    waitCancel := [] } }
  let s2 := logEv evRtcSet w.org.port.val ([wd w.org.port.val, wd w.mode] ++ rtcWords r.sec r.frac ++ rtcWords w.sec 0 ++
    [wd (b2n w.clearOsf)]) s1
  let s3 := complete w.org stOk (rtcPair r ++ ttWords s.tt.tt) s2
  r.waitCancel.foldl (fun s q => failN q ⟨12, stFired, 0xFFFF, 0⟩ s) s3

/-- RTC_SET_COMMIT: on the tick that the staged write chose. -/
def execRtcSetCommit (s : State) : Host.Outcome State Fault Refusal :=
  .next (match s.rtc.staged with
    | some w => if s.rtc.commitDue then commitRtc w s else s
    | none => s)

/-- A staged write discarded by a reset or by entry to KEEP or SHELF (R105). -/
def dropStaged (s : State) : State :=
  { s with rtc := { s.rtc with staged := none, commitDue := false, lastWrite := 0, waitCancel := [] } }

/-! ### Flags, switch-over, retention, cell (R107 to R110, R52, R120) -/

/-- The oscillator seen running: it counts again, and an error beyond ±100 ppm over a window measured against the TCXO is a fault. -/
def oscRuns (ppm : Int) (s : State) : State :=
  let s1 := { s with rtc := { s.rtc with osc := .runs } }
  if tcxoRuns s && s.rtc.winWhole && decide (100 < ppm.natAbs) then oscFault ppm s1 else s1

/-- The oscillator seen stopped, `ms` after its last edge: the RTC stands still, and 1 ms of it is a fault, once a stop. -/
def oscStopped (ms : Nat) (s : State) : State :=
  if s.rtc.osc == .faulted then s
  else if 1 ≤ ms then oscFault ms { s with rtc := { s.rtc with osc := .faulted } }
  else { s with rtc := { s.rtc with osc := .stopped } }

/-- OSC_STOP_DETECT (R98, R107): whether the crystal oscillator runs, how long ago its last edge was, and its error over the window.
In SHELF nothing watches it. DESIGN CHOICE: one stop is logged once, when it has lasted 1 ms (log entry 30, on the oscillator). -/
def execOscStopDetect (x : OscSeen) (ppm : Int) (s : State) : Host.Outcome State Fault Refusal :=
  .next (if s.pwr.mode == .shelf then s else if x.runs then oscRuns ppm s else oscStopped x.ms s)

/-- EV_LBV (R107): BAK below V_LBV for more than 1 ms while fed from VBAK. The content carries the onset. -/
def execEvLbv (bakMv us : Nat) (s : State) : Host.Outcome State Fault Refusal :=
  .next
    (if s.rtc.onCell && decide (bakMv < 2000) && decide (1000 < us) && s.pwr.mode != .shelf then
       logEv evLbv 0xFF (rtcWords s.rtc.sec s.rtc.frac ++ [wd (bakMv / 10)]) { s with rtc := { s.rtc with lbv := true } }
     else s)

/-- RETENTION_TOKEN_LOSS (R52): BAK below V_RET for more than 50 µs, or below 1.2 V for any time. -/
def execRetentionTokenLoss (us mv : Nat) (s : State) : Host.Outcome State Fault Refusal :=
  .next
    (if decide (mv < 1200) || (decide (mv < 1800) && decide (50 < us)) then { s with rtc := { s.rtc with token := false } } else s)

/-- BAK_SWITCH_OVER (R109): BAK passes from VIN to VBAK, which VIN at or above VIN_OFF does not cause. In SHELF the cell is isolated. -/
def execBakSwitchOver (s : State) : Host.Outcome State Fault Refusal :=
  .next
    (if s.rtc.onCell || s.pwr.mode == .shelf || decide (s.dev.vinOff ≤ s.pwr.vin) then s
     else
       let r := s.rtc
       { s with rtc := { r with
           onCell := true
           swoCount := sat 16 (r.swoCount + 1)
           swoStamp := if r.swoValid then r.swoStamp else (r.sec, r.frac)
           swoValid := true
           winWhole := false } })

/-- VBAK_MEASURE (R120): at BOOT step 4, and every 3,600 s while VIN is present. -/
def execVbakMeasure (mv : Nat) (s : State) : Host.Outcome State Fault Refusal :=
  .next
    (if powered s && (s.pwr.bootStep == .secure || decide (s.rtc.vbakTick + 3600 * 40000000 ≤ s.clk.ticks)) then
       let low := if mv < 2400 then true else if 2500 ≤ mv then false else s.rtc.cellLow
       let s1 := { s with rtc := { s.rtc with vbakMv := mv, cellLow := low, vbakTick := s.clk.ticks } }
       if low && !s.rtc.cellLow then logNs evVbakLow 0xFF [mv, ofSigned 32 s.rtc.temp] s1 else s1
     else s)

/-! ### RTC commands (R121) -/

/-- TT.RTC_STATUS, its checks passed. -/
def actRtcStatus (r : Req) (s : State) : State :=
  let k := s.rtc
  ok r (rtcPair k ++
    [ packW [(ofSigned 16 k.trim, 16), (ofSigned 16 k.corr, 0)],
      packW [(ofSigned 16 (roundDiv k.aging 1024), 16), (k.corrSrc, 14)],
      packW [(k.vbakMv, 16), (ofSigned 16 k.temp, 0)],
      packW [(k.swoCount, 16), (k.tampLevel, 10), (k.tampLatched, 8), (k.tampCfg, 0)],
      wd k.tampStamp.1, packW [(k.tampStamp.2, 16), (k.tampStamp.1 / 2 ^ 32 % 256, 0)] ]) s

/-- TT.RTC_STATUS (0x0220). -/
def execRtcStatus (s : State) : Host.Outcome State Fault Refusal :=
  .next (serve 0x0220 (ttChecks 0x0220 0 2) actRtcStatus s)

/-- The seconds a TT.RTC_SET request writes. -/
def rtcSetSec (r : Req) : Nat := fld (r.w 3) 7 0 * 2 ^ 32 + (r.w 4).toNat
/-- `S_AT` of `MODE` 1. -/
def rtcSetSAt (r : Req) : Nat := fld (r.w 6) 7 0 * 2 ^ 32 + (r.w 5).toNat
/-- Target TT of `MODE` 2. -/
def rtcSetTt (r : Req) : Nat := (r.w 6).toNat * 2 ^ 32 + (r.w 5).toNat

/-- Checks of TT.RTC_SET. -/
def chkRtcSet (r : Req) (s : State) : Option Fail :=
  let mode := fld (r.w 3) 31 30
  firstFail
    [ ttChecks 0x0221 4 2 r s,
      (if bit (r.w 3) 29 then inWord 3 (needSecure r s 2) else none),
      need 9 (fld (r.w 3) 28 8 == 0) stBadParam 3,
      need 9 (mode != 3 || (fld (r.w 3) 29 0 == 0 && r.w 4 == 0 && r.w 5 == 0 && r.w 6 == 0)) stBadParam 3,
      need 9 (mode != 0 || (r.w 5 == 0 && r.w 6 == 0)) stBadParam 5,
      need 9 (mode != 1 || fld (r.w 6) 31 8 == 0) stBadParam 6,
      need 9 (mode != 1 || decide (s.rtc.sec ≤ rtcSetSAt r)) stLate 5,
      need 9 (mode != 1 || decide (rtcSetSAt r ≤ s.rtc.sec + 2 ^ 24)) stBadParam 5,
      need 9 (mode != 2 || fld (r.w 6) 31 28 == 0) stBadParam 6,
      need 9 (mode != 2 || decide (s.tt.tt < rtcSetTt r)) stLate 5,
      need 9 (mode != 2 || decide (rtcSetTt r ≤ s.tt.tt + 65536 * 4096)) stBadParam 5,
      need 12 (mode == 3 || s.rtc.staged.isNone) stPending,
      need 12 (mode != 3 || s.rtc.staged.isSome || s.rtc.lastWrite == 1) stBadState,
      need 12 (mode != 3 || s.rtc.staged.isSome) stFired ]

/-- TT.RTC_SET, its checks passed. -/
def actRtcSet (r : Req) (s : State) : State :=
  let mode := fld (r.w 3) 31 30
  if mode = 3 then
    match s.rtc.staged with
    | some w =>
      if w.mode = 0 then acceptN r { s with rtc := { s.rtc with waitCancel := s.rtc.waitCancel ++ [r] } }
      else okN r [] (endOrdered w.org.port w.org.id
        { s with rtc := { s.rtc with staged := none, commitDue := false, lastWrite := 2 } })
    | none => s
  else
    let w : RtcWrite := ⟨mode, rtcSetSec r, if mode = 1 then rtcSetSAt r else rtcSetTt r, bit (r.w 3) 29,
      r.origin (decide (mode ≠ 0))⟩
    let s1 := { s with rtc := { s.rtc with staged := some w, lastWrite := 0 } }
    if mode = 0 then acceptN r s1 else accept r s1

/-- TT.RTC_SET (0x0221). -/
def execRtcSet (s : State) : Host.Outcome State Fault Refusal :=
  .next (serve 0x0221 chkRtcSet actRtcSet s)

/-- `MODE` of a tamper input in `TAMP_CFG`. -/
def tampMode (cfg i : Nat) : Nat := cfg / 2 ^ (4 * i) % 4
/-- `FILT` of a tamper input: 1, 2, 4 or 8 samples. -/
def tampFilt (cfg i : Nat) : Nat := 2 ^ (cfg / 2 ^ (4 * i + 2) % 4)

/-- A tamper input is armed and in its tamper state (R114). -/
def tampState (cfg openMask i : Nat) : Bool :=
  (tampMode cfg i == 1 && openMask.testBit i) || (tampMode cfg i == 2 && !openMask.testBit i)

/-- A tamper input is armed and was in its tamper state at the last sample (R118). -/
def tampHeld (k : Rtc) (i : Nat) : Bool := tampMode k.tampCfg i != 0 && k.tampLevel.testBit i

/-- Checks of TT.RTC_FLAGS. -/
def chkRtcFlags (r : Req) (s : State) : Option Fail :=
  firstFail
    [ ttChecks 0x0222 1 2 r s, (if bit (r.w 3) 1 || bit (r.w 3) 2 then inWord 3 (needSecure r s 2) else none),
      need 9 (fld (r.w 3) 31 4 == 0) stBadParam 3,
      need 12 (!bit (r.w 3) 2 || !([0, 1].any (tampHeld s.rtc))) stBadState ]

/-- TT.RTC_FLAGS, its checks passed. -/
def actRtcFlags (r : Req) (s : State) : State :=
  let k := s.rtc
  let w := r.w 3
  let out := [packW [(k.swoCount, 16), (rtcFlags k, 8), (k.swoStamp.1 / 2 ^ 32 % 256, 0)], wd k.swoStamp.1,
    packW [(k.swoStamp.2, 16)]]
  let k1 := { k with
    lbv := k.lbv && !bit w 0
    osf := k.osf && !bit w 1
    tampLatched := if bit w 2 then 0 else k.tampLatched
    tampered := k.tampered && !bit w 2
    tampStamp := if bit w 2 then (0, 0) else k.tampStamp
    swoStamp := if bit w 3 then (0, 0) else k.swoStamp
    swoCount := if bit w 3 then 0 else k.swoCount
    swoValid := k.swoValid && !bit w 3 }
  let s1 := { s with rtc := k1 }
  let s2 := if fld w 3 0 = 0 then s1
    else logEv evRtcFlagsClear r.port.val ([wd r.port.val, wd (fld w 3 0)] ++ out) s1
  ok r out s2

/-- TT.RTC_FLAGS (0x0222). -/
def execRtcFlags (s : State) : Host.Outcome State Fault Refusal :=
  .next (serve 0x0222 chkRtcFlags actRtcFlags s)

/-- Checks of TT.RTC_TRIM. -/
def chkRtcTrim (r : Req) (s : State) : Option Fail :=
  firstFail
    [ ttChecks 0x0223 1 2 r s, needSecure r s 2,
      need 9 (fld (r.w 3) 15 0 == 0 && decide (-200 ≤ sfld (r.w 3) 31 16) && decide (sfld (r.w 3) 31 16 ≤ 200)) stBadParam 3 ]

/-- `TRIM` stored, for use from the next window. -/
def applyRtcTrim (r : Req) (s : State) : State :=
  let v := sfld (r.w 3) 31 16
  logNs evRtcTrim r.port.val [r.port.val, ofSigned 32 s.rtc.trim, ofSigned 32 v] { s with rtc := { s.rtc with trim := v } }

/-- TT.RTC_TRIM, its checks passed. -/
def actRtcTrim (r : Req) (s : State) : State :=
  ok r [] (applyRtcTrim r s)

/-- TT.RTC_TRIM (0x0223). -/
def execRtcTrim (s : State) : Host.Outcome State Fault Refusal :=
  .next (serve 0x0223 chkRtcTrim actRtcTrim s)

/-- First word and count of a backup RAM range. -/
def bramRange (r : Req) : Nat × Nat := (fld (r.w 3) 7 4, fld (r.w 3) 3 0 + 1)

/-- Checks of TT.BRAM_READ and TT.BRAM_WRITE (R111): words 0 to 7 are for secure hosts. -/
def chkBram (code : Nat) (lenOk : Bool) (r : Req) (s : State) : Option Fail :=
  let (f, n) := bramRange r
  match opRow code with
  | none => none
  | some row => firstFail
    [ headChecks r row (modeServed s) lenOk s, needWorld r s 2,
      need 7 (portSecure s r.port || decide (8 ≤ f)) stWorld 3 0x02FF,
      need 9 (fld (r.w 3) 31 8 == 0 && decide (f + n ≤ 16)) stBadParam 3 ]

/-- Checks of BRAM_READ. -/
def chkBramRead (r : Req) (s : State) : Option Fail :=
  chkBram 0x0224 (r.len == 1) r s

/-- BRAM_READ, its checks passed. -/
def actBramRead (r : Req) (s : State) : State :=
  let (f, n) := bramRange r; ok r ((s.rtc.bram.drop f).take n) s

/-- BRAM_READ (TT.BRAM_READ 0x0224). -/
def execBramRead (s : State) : Host.Outcome State Fault Refusal :=
  .next (serve 0x0224 chkBramRead actBramRead s)

/-- Words written from a place of a list on. -/
def putWords (l : List Word) (f : Nat) (ws : List Word) : List Word := l.take f ++ ws ++ l.drop (f + ws.length)

/-- Checks of BRAM_WRITE. -/
def chkBramWrite (r : Req) (s : State) : Option Fail :=
  chkBram 0x0225 (r.len == (bramRange r).2 + 1) r s

/-- BRAM_WRITE, its checks passed. -/
def actBramWrite (r : Req) (s : State) : State :=
  let (f, n) := bramRange r
  ok r [] { s with rtc := { s.rtc with bram := putWords s.rtc.bram f ((r.words.drop 4).take n) } }

/-- BRAM_WRITE (TT.BRAM_WRITE 0x0225). -/
def execBramWrite (s : State) : Host.Outcome State Fault Refusal :=
  .next (serve 0x0225 chkBramWrite actBramWrite s)

/-- The open tamper pads, bit 0 that of input 0. -/
def openPads (open0 open1 : Bool) : Nat := b2n open0 + 2 * b2n open1

/-- `TAMP_CFG` as TT.TAMPER_CONFIG carries it. -/
def tampCfgOf (r : Req) : Nat := fld (r.w 3) 3 0 + 16 * fld (r.w 3) 11 8

/-- Checks of TT.TAMPER_CONFIG: no input is armed whose pad stands in the tamper state when the command executes (R118). -/
def chkTamperConfig (r : Req) (s : State) : Option Fail :=
  let c := tampCfgOf r
  firstFail
    [ ttChecks 0x0226 1 2 r s, needSecure r s 2,
      need 9 (fld (r.w 3) 31 16 == 0 && fld (r.w 3) 7 4 == 0 && fld (r.w 3) 15 12 == 0 && tampMode c 0 != 3 &&
        tampMode c 1 != 3) stBadParam 3,
      need 12 (!(tampState c s.rtc.tampOpen 0) && !(tampState c s.rtc.tampOpen 1)) stBadState ]

/-- TT.TAMPER_CONFIG, its checks passed. DESIGN CHOICE: until the next sample `TAMP_LEVEL` reads 0, and the filters start again from
0 (log entry 32, on the tamper configuration). -/
def actTamperConfig (r : Req) (s : State) : State :=
  let c := tampCfgOf r
  ok r [] (logNs evTamperConfig r.port.val [r.port.val, s.rtc.tampCfg, c]
    { s with rtc := { s.rtc with tampCfg := c, tampRun := (0, 0), tampLevel := 0 } })

/-- TT.TAMPER_CONFIG (0x0226). -/
def execTamperConfig (s : State) : Host.Outcome State Fault Refusal :=
  .next (serve 0x0226 chkTamperConfig actTamperConfig s)

end Sys2Proof.Machine
end

