-- ==== Sys2Proof/Machine/Meter.lean ====
section
/-!
DEFINITION. Feeder metering: integration per cycle, intervals, pulse outputs, saves, the residue, restore, and the feeder balance
(11, R327 to R350).
-/
namespace Sys2Proof.Machine

/-! ### Units -/

/-- One µWh in the finest unit. A sample is in 2^−23 of full scale, `V_FS` and `I_FS` in tenths, a gain in 10^−5, and T_s in TCXO
ticks, so that v · i · T_s is a whole number of these units and no rounding is lost (R332, R334). -/
def mtrMicro : Nat := 2 ^ 46 * 10 ^ 12 * 144000

/-- A register's 64 bits of µWh, µvarh or µVAh (R334). -/
def microOf (n : Nat) : Nat := n / mtrMicro % 2 ^ 64

/-- ⌊R / 1,000⌋ of a register (R341). -/
def milliOf (n : Nat) : Nat := n / mtrMicro / 1000

/-- Integer square root, one bit a step, of a number below 4^n. -/
def isqrtBits : Nat → Nat → Nat → Nat
  | 0, _, r => r
  | n + 1, x, r => let r' := r + 2 ^ n; isqrtBits n x (if r' * r' ≤ x then r' else r)
/-- Integer square root. -/
def natSqrt (x : Nat) : Nat := isqrtBits 160 x 0

/-- Registers added. -/
def Energies.add (a b : Energies) : Energies := ⟨a.ai + b.ai, a.ae + b.ae, a.rp + b.rp, a.rn + b.rn, a.ap + b.ap⟩
/-- Empty registers. -/
def Energies.zero : Energies := ⟨0, 0, 0, 0, 0⟩
/-- A register by its quantity: 0 AI, 1 AE, 2 RP, 3 RN, 4 AP. -/
def Energies.q (e : Energies) (k : Nat) : Nat := [e.ai, e.ae, e.rp, e.rn, e.ap].getD k 0

/-! ### The unit's presence -/

/-- Metering runs: the unit is present, firmware has started (BOOT step 6) and block 0x0B is in service. -/
def mtrRuns (s : State) : Bool :=
  s.dev.variant != .c && windowAlive s && s.pwr.bootStep != .halted && !withdrawn s 0x0B

/-- One feeder. -/
def feeder (s : State) (f : Nat) : Feeder := s.mtr.feeders.getD f default

/-- One feeder changed. -/
def onFeeder (f : Nat) (g : Feeder → Feeder) (s : State) : State := { s with mtr := { s.mtr with feeders := updAt s.mtr.feeders f g } }

/-- The inputs of a feeder, by channel: V1 to V3, I1 to I3, IN. -/
def FeederCfg.inputs (c : FeederCfg) : List Nat := c.v ++ c.i ++ (if c.neutral then [c.inN] else [])

/-- T_s of a feeder in TCXO ticks: `OSR` × `DIV` (R328, R329). -/
def sampleTicks (m : Meter) (c : FeederCfg) : Nat :=
  let x := m.inputs.getD (c.v.getD 0 0) default
  64 * 2 ^ x.osr * (m.clocks.getD x.clk default).div

/-! ### One cycle (R332, R333) -/

/-- What a cycle gives for one phase. -/
structure PhaseCycle where
  e : Energies
  p : Int
  q : Int
  vMv : Nat
  iMa : Nat
  pMw : Int
  low : Bool
  deriving DecidableEq, Repr

/-- Root mean square of samples scaled by `k` (full scale in tenths × gain), in thousandths. -/
def rmsMilli (sq n k : Nat) : Nat := natSqrt (sq * (k * k) / n) / (2 ^ 23 * 1000)

/-- A phase's energies, RMS values and power over a cycle of some TCXO ticks. Samples of a faulted input are 0 (R335). -/
def phaseCycle (m : Meter) (c : FeederCfg) (k : Coef) (ph ticks : Nat) (l : List MtrSample) : PhaseCycle :=
  let vOk := !m.faults.testBit (c.v.getD ph 0)
  let iOk := !m.faults.testBit (c.i.getD ph 0)
  let l := l.map fun x => (⟨if vOk then x.v else 0, if vOk then x.vq else 0, if iOk then x.i else 0⟩ : MtrSample)
  let n := Nat.max l.length 1
  let kv := c.vFs * (100000 + k.vGain).toNat
  let ki := c.iFs * (100000 + k.iGain).toNat
  let ts := sampleTicks m c
  let p : Int := (l.map fun x => x.v * x.i).sum * (kv * ki * ts : Nat)
  let q : Int := (l.map fun x => x.vq * x.i).sum * (kv * ki * ts : Nat)
  let sv := (l.map fun x => x.v.natAbs * x.v.natAbs).sum
  let si := (l.map fun x => x.i.natAbs * x.i.natAbs).sum
  { e := ⟨p.toNat, (-p).toNat, q.toNat, (-q).toNat, natSqrt (sv * si) * (kv * ki) * ticks / n⟩, p := p, q := q
    vMv := rmsMilli sv n kv, iMa := rmsMilli si n ki
    pMw := roundDiv p (2 ^ 46 * 10 ^ 9 * Nat.max ticks 1)
    low := decide (sv * (100000 + k.vGain).toNat ^ 2 * 8 < n * 2 ^ 46 * 10 ^ 8) }

/-- A phase's registers after a cycle; the direction is decided per cycle and nothing is netted (R333). Phase loss: V_rms below 5 % of
`V_FS` / √2 for 4 consecutive cycles, until a cycle that is not (R335). -/
def PhaseReg.after (r : PhaseReg) (x : PhaseCycle) : PhaseReg :=
  let run := if x.low then r.lowRun + 1 else 0
  { e := r.e.add x.e
    impCyc := r.impCyc + b2n (decide (0 ≤ x.p)), expCyc := r.expCyc + b2n (!decide (0 ≤ x.p))
    vMv := x.vMv, iMa := x.iMa, pMw := x.pMw, lowRun := run, lossOn := decide (4 ≤ run) }

/-! ### Intervals (R339 to R341) -/

/-- Flags of `QUALITY`. -/
def qOsf : Nat := 1
def qGap : Nat := 2
def qResidue : Nat := 4
def qShort : Nat := 8
def qStep : Nat := 16
def qHold : Nat := 32
def qCal : Nat := 64
def qConfig : Nat := 128
def qOverrange : Nat := 256
def qPhaseLoss : Nat := 512
def qFault : Nat := 1024
def qRestart : Nat := 2048
def qSlew : Nat := 4096

/-- The flag OSF of the latched RTC. -/
def latchOsf (s : State) : Nat := if s.mtr.latch.2.2.testBit 6 then qOsf else 0

/-- k of the interval that the latched cycle belongs to, for a length in minutes (R339). -/
def intervalOf (s : State) (len : Nat) : Nat := s.mtr.latch.1 / (60 * Nat.max len 1)

/-- An interval opened at the latched boundary. -/
def openInterval (f : Nat) (flags : Nat) (s : State) : State :=
  let len := s.mtr.global.intMin
  onFeeder f (fun x => { x with
    closeFlags := 0
    interval := some ⟨intervalOf s len, len, s.mtr.latch.1, s.mtr.cyc.getD (cycOf s), flags ||| latchOsf s, 0, x.total⟩ }) s

/-- The record of an interval (R340). -/
def intervalWords (seq f quality : Nat) (v : Interval) (e : Energies) : List Word :=
  let d := fun (a b : Nat) => wd (milliOf a - milliOf b)
  [ wd seq, wd v.startSec, packW [(v.startSec / 2 ^ 32 % 256, 24), (f, 22), (v.intMin, 16), (quality, 0)], wd v.cycles,
    d e.ai v.start.ai, d e.ae v.start.ae, d e.rp v.start.rp, d e.rn v.start.rn, d e.ap v.start.ap, wd v.startCyc ]

/-- A feeder's open interval closed with its registers as they stand, by flags beyond its own: the record is cut, and the interval
kept for the balance. -/
def cutInterval (f : Nat) (flags : Nat) (s : State) : State :=
  match (feeder s f).interval with
  | none => s
  | some v =>
    let x := feeder s f
    let q := v.quality ||| flags
    let net : Int := ((milliOf x.total.ai - milliOf v.start.ai : Nat) : Int) - (milliOf x.total.ae - milliOf v.start.ae : Nat)
    let c : Closed := ⟨s.mtr.nextSeq, v.startSec, q, v.intMin, v.startCyc, s.mtr.cyc.getD v.startCyc, net⟩
    let s1 := onFeeder f (fun x => { x with interval := none, closeFlags := 0, closed := (c :: x.closed).take 5 }) s
    { s1 with mtr := { s1.mtr with
      nextSeq := (s1.mtr.nextSeq + 1) % 2 ^ 32, cut := s1.mtr.cut ++ [intervalWords s1.mtr.nextSeq f q v x.total] } }

/-- The interval of a feeder is to close at the latched boundary, and whether it then spans its whole length (R339). -/
def closeDue (s : State) (f : Nat) : Option Bool :=
  match (feeder s f).interval with
  | none => none
  | some v =>
    let k := intervalOf s v.intMin
    if (feeder s f).closeFlags ≠ 0 then some false else if k = v.k then none else some (k == v.k + 1)

/-- The due close of a feeder: the record is cut, and the next interval opened while the feeder is enabled. The next one is `SHORT` where
a changed `INT_MIN` makes it begin inside its interval. -/
def closeOne (s : State) (f : Nat) : State :=
  match closeDue s f with
  | none => s
  | some whole =>
    let short := if whole then 0 else qShort
    let first := whole && (match (feeder s f).interval with
      | some v => (v.k + 1) * v.intMin % Nat.max s.mtr.global.intMin 1 == 0 | none => false)
    let s1 := cutInterval f ((feeder s f).closeFlags ||| short) s
    if (feeder s1 f).cfg.enable then openInterval f (if first then 0 else qShort) s1 else s1

/-- All due closes. -/
def closeAll (s : State) : State := (List.range 4).foldl closeOne s

/-- A written RTC closes every open interval at the next boundary (R339). -/
def noteStep (s : State) : State :=
  if s.mtr.stepSeen = s.tt.scale then s
  else { s with mtr := { s.mtr with
    stepSeen := s.tt.scale
    feeders := s.mtr.feeders.map fun x => if x.interval.isSome then { x with closeFlags := x.closeFlags ||| qStep ||| qShort } else x } }

/-! ### Pulses (R342, R343) -/

/-- Ticks of one pulse's period at the rate of a cycle's energy `e` over `ticks` TCXO ticks; none at rate 0. -/
def pulsePeriod (e const ticks : Nat) : Option Nat :=
  if e * const = 0 then none else some (ticks * (10 ^ 9 * mtrMicro) / (e * const))

/-- The accounting of a cycle's energy at its boundary: pulses owed, and the width of the next cycle's pulses. -/
def PulseOut.account (p : PulseOut) (e ticks : Nat) : PulseOut :=
  let unit := 10 ^ 9 * mtrMicro
  let a := p.acc + e * p.const
  let owed := sat 32 (p.owed + a / unit)
  let own := (e * p.const + unit - 1) / unit + 1
  let period := if owed ≤ own then pulsePeriod e p.const ticks else some 160000
  let full := p.width * 40000
  let w := match period with
    | none => full
    | some t => if 2 * full ≤ t then full else Nat.max (t / 2) 80000
  { p with acc := a % unit, owed := owed, w := w }

/-- Every enabled output accounted; EV_PULSE_OWED when `OWED` leaves 0, at most once per 1,024 cycles per output. -/
def accountPulses (es : List (List Energies)) (ticks : Nat) (s : State) : State :=
  (List.range 8).foldl (fun s k =>
    let p := s.mtr.pulses.getD k default
    if !p.enable then s
    else
      let p' := p.account (((es.getD p.feeder []).getD p.phase Energies.zero).q p.quantity) ticks
      let s1 := { s with mtr := { s.mtr with pulses := updAt s.mtr.pulses k fun _ => p' } }
      if p.owed = 0 && p'.owed ≠ 0 then logLim evPulseOwed k (fun _ => [wd k, wd p'.owed]) s1 else s1) s

/-- PULSE_START (R343): a pulse is owed and the previous low time has ended. -/
def execPulseStart (k : Nat) (s : State) : Host.Outcome State Fault Refusal :=
  .next
    (let p := s.mtr.pulses.getD k default
     if mtrRuns s && p.enable && decide (1 ≤ p.owed) && decide (p.lowTo ≤ s.clk.ticks) then
       { s with mtr := { s.mtr with pulses := updAt s.mtr.pulses k fun p =>
         { p with owed := p.owed - 1, highTo := s.clk.ticks + p.w, lowTo := s.clk.ticks + 2 * p.w } } }
     else s)

/-- The level of a pulse output's pad: high during a pulse. -/
def pulseLevel (s : State) (k : Nat) : Bool := decide (s.clk.ticks < (s.mtr.pulses.getD k default).highTo)

/-! ### The residue (R345, R346) -/

/-- An energy since the base in 1/256 Wh, rounded down, held within its 24 bits. -/
def resUnits (now base : Nat) : Nat := Nat.min ((now - base) * 256 / (mtrMicro * 10 ^ 6)) (2 ^ 24 - 1)

/-- The residue block. -/
def residueWords (m : Meter) : List Word :=
  let v := fun f => resUnits (m.feeders.getD f default).total.ai (m.base.getD f (0, 0)).1
  let x := fun f => resUnits (m.feeders.getD f default).total.ae (m.base.getD f (0, 0)).2
  let body := [packW [(m.baseSeq % 65536, 16), (sat 16 m.baseN, 0)]] ++
    ((List.range 4).map fun f => packW [(v f / 256, 16), (x f / 256, 0)]) ++
    [ packW [(v 0 % 256, 24), (x 0 % 256, 16), (v 1 % 256, 8), (x 1 % 256, 0)],
      packW [(v 2 % 256, 24), (x 2 % 256, 16), (v 3 % 256, 8), (x 3 % 256, 0)] ]
  body ++ [crc32c body]

/-- An energy or the count of the residue reaches its limit of 60,000 (R346). -/
def residueFull (m : Meter) : Bool :=
  decide (60000 ≤ m.baseN) ||
    ((List.range 4).any fun f =>
      let x := m.feeders.getD f default
      let b := m.base.getD f (0, 0)
      decide (60000 * 256 ≤ resUnits x.total.ai b.1) || decide (60000 * 256 ≤ resUnits x.total.ae b.2))

/-- The total registers a save holds, as the base of a residue. -/
def MtrSave.base (v : MtrSave) : List (Nat × Nat) := v.feeders.map fun x => (x.2.1.ai, x.2.1.ae)

/-- The residue of a boundary: rebased onto a save confirmed since the last one, and written in one commit (R112, R346). -/
def writeResidue (s : State) : State :=
  let m := s.mtr
  let now := m.cyc.getD 0
  let m1 := match m.rebase, m.saves.head? with
    | true, some v => { m with rebase := false, baseSeq := v.seq, base := v.base, baseN := now - v.cyc }
    | _, _ => { m with baseN := m.baseN + 1 }
  { s with mtr := { m1 with saveDue := m1.saveDue || residueFull m1 }, rtc := { s.rtc with residue := some (residueWords m1) } }

/-! ### The cycle end -/

/-- One feeder over the cycle that ends, with the cycle's energies: the total, then the phases. -/
def feederCycle (f cyc ticks : Nat) (c : FeederCycle) (s : State) : State × List Energies :=
  let x := feeder s f
  let ps := (List.range 3).map fun ph => phaseCycle s.mtr x.cfg (x.coef.getD ph default) ph ticks (c.phases.getD ph [])
  let tot := ps.foldl (fun a p => a.add p.e) Energies.zero
  let regs := (List.range 3).map fun ph => (x.ph.getD ph default).after (ps.getD ph ⟨Energies.zero, 0, 0, 0, 0, 0, false⟩)
  let nSq := if s.mtr.faults.testBit x.cfg.inN then 0 else (c.neutral.map fun i => i.natAbs * i.natAbs).sum
  let loss := regs.any fun r => r.lossOn
  let fault := x.cfg.inputs.any fun i => s.mtr.faults.testBit i
  let hold := s.tt.state == .free || s.tt.state == .holdover
  let flags := latchOsf s ||| (if hold then qHold else 0) ||| (if s.tt.state == .slew then qSlew else 0) |||
    (if loss then qPhaseLoss else 0) ||| (if fault then qFault else 0) ||| (if x.calMark == some cyc then qCal else 0)
  let cal := x.cal.map fun r =>
    if r.mode = 1 && decide (r.target ≤ cyc) && decide (r.done < r.n) then
      let p := ps.getD (r.phase - 1) ⟨Energies.zero, 0, 0, 0, 0, 0, false⟩
      { r with done := r.done + 1, p := r.p + p.p, q := r.q + p.q, vSum := r.vSum + p.vMv, iSum := r.iSum + p.iMa }
    else r
  let s1 := onFeeder f (fun x => { x with
    ph := regs, total := x.total.add tot, cal := cal
    inMa := if x.cfg.neutral then rmsMilli nSq (Nat.max c.neutral.length 1) (x.cfg.iFs * 100000) else 0
    interval := x.interval.map fun v => { v with cycles := v.cycles + 1, quality := v.quality ||| flags } }) s
  let s2 := (List.range 3).foldl (fun s ph =>
    let was := (x.ph.getD ph default).lossOn
    let is := (regs.getD ph default).lossOn
    if was = is then s else logEv evMeterPhaseLoss f [wd f, wd (ph + 1), wd (b2n (!is))] s) s1
  (s2, tot :: ps.map fun p => p.e)

/-- The latch of a new cycle: its boundary, RTC and tick (R339). -/
def latchCycle (s : State) : State :=
  { s with mtr := { s.mtr with cyc := some (cycOf s), latch := (s.rtc.sec, s.rtc.frac, rtcFlags s.rtc), tick := s.clk.ticks } }

/-- The intervals of the enabled feeders opened at the first boundary after BOOT step 6 (R341). -/
def openFirst (s : State) : State :=
  (List.range 4).foldl (fun s f => if (feeder s f).cfg.enable then openInterval f (qRestart ||| qShort) s else s) s

/-! ### Input faults and over-range (R335) -/

/-- The enabled feeders and channels that an input serves. -/
def servedBy (s : State) (k : Nat) : List (Nat × Nat) :=
  ((List.range 4).map fun f =>
    let c := (feeder s f).cfg
    if c.enable then ((List.range c.inputs.length).filter fun ch => c.inputs.getD ch 99 == k).map fun ch => (f, ch) else []).flatten

/-- A flag put on a feeder's open interval. -/
def flagInterval (q f : Nat) (s : State) : State :=
  onFeeder f (fun x => { x with interval := x.interval.map fun v => { v with quality := v.quality ||| q } }) s

/-- EV_METER_OVERRANGE: stream density of input `k` over 1 ms, in 1/10,000. -/
def execEvMeterOverrange (k density : Nat) (s : State) : Host.Outcome State Fault Refusal :=
  .next
    (if mtrRuns s && (s.mtr.inputs.getD k default).enable && (decide (9500 < density) || decide (density < 500)) then
       (servedBy s k).foldl (fun s x =>
         logLim evMeterOverrange x.1 (fun n => [wd x.1, wd x.2, wd n]) (flagInterval qOverrange x.1 s)) s
     else s)

/-- EV_METER_INPUT_FAULT: bit periods of input `k` without a transition, and whether its Manchester lock holds. -/
def execEvMeterInputFault (k idle : Nat) (locked : Bool) (s : State) : Host.Outcome State Fault Refusal :=
  .next
    (let i := s.mtr.inputs.getD k default
     let fault := decide (256 ≤ idle) || (i.manch && !locked)
     if mtrRuns s && i.enable && s.mtr.faults.testBit k != fault then
       let s1 := logEv evMeterInputFault k [wd k, wd (b2n (!fault))]
         { s with mtr := { s.mtr with faults := setBit s.mtr.faults k fault } }
       (servedBy s k).foldl (fun s x => flagInterval qFault x.1 s) s1
     else s)

/-! ### Balance (R349, R350) -/

/-- An exact fraction: numerator and positive denominator. -/
structure Frac where
  num : Int
  den : Nat
  deriving DecidableEq, Repr

/-- Sum of fractions. -/
def Frac.add (a b : Frac) : Frac := ⟨a.num * b.den + b.num * a.den, a.den * b.den⟩
/-- Difference of fractions. -/
def Frac.sub (a b : Frac) : Frac := ⟨a.num * b.den - b.num * a.den, a.den * b.den⟩

/-- The last report at or before a cycle and the first after it. -/
def bracket (l : List (Nat × Nat)) (c : Nat) : Option ((Nat × Nat) × (Nat × Nat)) :=
  match (l.filter fun x => decide (x.1 ≤ c)).getLast?, l.find? fun x => decide (c < x.1) with
  | some a, some b => some (a, b)
  | _, _ => none

/-- Reports no more than 4 × `INT_MIN` apart, at Tether's frequency. -/
def nearReports (s : State) (len : Nat) (a b : Nat × Nat) : Bool := decide ((b.1 - a.1) * 65536 ≤ 240 * len * s.tt.freq)

/-- The energy past a bracket's first report at a cycle, interpolated linearly in cycles (`ENERGY` modulo 2^32). -/
def pastFirst (b : (Nat × Nat) × (Nat × Nat)) (c : Nat) : Frac :=
  ⟨(((b.2.2 + 2 ^ 32 - b.1.2) % 2 ^ 32 : Nat) : Int) * ((c - b.1.1 : Nat) : Int), Nat.max (b.2.1 - b.1.1) 1⟩

/-- The interval energy of an endpoint in 0.1 Wh, while it is covered. -/
def coveredEnergy (s : State) (v : Closed) (l : List (Nat × Nat)) : Option Frac :=
  match bracket l v.cyc0, bracket l v.cyc1 with
  | some a, some b =>
    if nearReports s v.intMin a.1 a.2 && nearReports s v.intMin b.1 b.2 then
      let firsts : Frac := ⟨(((b.1.2 + 2 ^ 32 - a.1.2) % 2 ^ 32 : Nat) : Int), 1⟩
      some ((firsts.add (pastFirst b v.cyc1)).sub (pastFirst a v.cyc0))
    else none
  | _, _ => none

/-- The judgement of a closed interval (R350). Energies in mWh. -/
def judge (f : Nat) (v : Closed) (s : State) : Balance :=
  let c := (feeder s f).cfg
  let eps := (s.lat.recs.filter fun e => e.2.st == .active && e.2.feeder == f).map Prod.fst
  let es := eps.filterMap fun e => coveredEnergy s v ((tget s.mtr.reports e).getD [])
  let nAll := eps.length
  let nCov := es.length
  if nAll = 0 ∨ nCov = 0 ∨ nCov * 1000 < c.covMin * nAll then ⟨3, v.quality, v.seq, v.startSec, v.net, 0, 0, nAll, nCov, 0⟩
  else
    let sum := es.foldl Frac.add ⟨0, 1⟩
    let eEst := roundDiv (sum.num * 100 * nAll * (1000 + c.loss)) (sum.den * Nat.max nCov 1 * 1000)
    let tol : Int := c.tolAbs * 1000 + roundDiv (c.tolRel * v.net.natAbs : Nat) 1000
    let d := v.net - eEst
    let den := sum.den * nCov * 1000
    let off := (v.net * den - sum.num * 100 * nAll * (1000 + c.loss)).natAbs
    ⟨if (c.tolAbs * 1000000 + c.tolRel * v.net.natAbs) * den < 1000 * off then 2 else 1, v.quality, v.seq, v.startSec, v.net, eEst, d, nAll, nCov, tol⟩

/-- The interval whose turn has come is judged: the one `BAL_DELAY` closes ago. A MISMATCH is logged. -/
def judgeDue (s : State) (f : Nat) : State :=
  match (feeder s f).closed[s.mtr.global.balDelay]? with
  | none => s
  | some v =>
    let b := judge f v s
    let s1 := onFeeder f (fun x => { x with balance := some b }) s
    if b.result = 2 then
      logNs evFeederBalance f [f, b.seq, ofSigned 32 b.ef, ofSigned 32 b.eEst, ofSigned 32 b.d, b.nCov, b.nAll] s1
    else s1

/-- Reports that no interval still to be judged needs are dropped: all before the last one at or before the oldest boundary. -/
def pruneReports (s : State) : State :=
  let firsts := (s.mtr.feeders.map fun x => (x.closed.map fun v => v.cyc0) ++ (match x.interval with | some v => [v.startCyc] | none => [])).flatten
  let lo := firsts.foldl Nat.min (cycOf s)
  { s with mtr := { s.mtr with reports := s.mtr.reports.map fun e =>
    (e.1, (e.2.filter fun x => decide (x.1 ≤ lo)).getLast?.toList ++ e.2.filter fun x => decide (lo < x.1)) } }

/-- A report of an endpoint kept for the balance (R349). -/
def noteReport (ep cyc energy : Nat) (s : State) : State :=
  if s.dev.variant = .c then s
  else { s with mtr := { s.mtr with reports := tset s.mtr.reports ep (((tget s.mtr.reports ep).getD []) ++ [(cyc, energy)]) } }

/-- INTERVAL_CLOSE (R339 to R341, R349, R350): due intervals close as rank 4, after the queue's earlier entries (R89), records are
written, and an earlier interval is judged. During HANDOVER it waits for the close of the window (R90). -/
def execIntervalClose (s : State) : Host.Outcome State Fault Refusal :=
  .next
    (if s.upd.windowOpen || !(windowAlive s) || tlAhead s (s.mtr.cyc.getD 0 * 4096) 4 then s
     else
       let due := (List.range 4).filter fun f => (closeDue s f).isSome
       let s1 := due.foldl closeOne s
       if s1.mtr.cut.isEmpty then s
       else
         let fs := s1.mtr.cut.map fun r => fld (wAt r 2) 23 22
         let s2 := { s1 with mtr := { s1.mtr with cut := [], ring := (s1.mtr.ring ++ s1.mtr.cut).drop (s1.mtr.ring.length + s1.mtr.cut.length - 65536) } }
         pruneReports (fs.foldl judgeDue s2))

/-! ### Saves (R344) -/

/-- The snapshot of the latest boundary. -/
def saveNow (m : Meter) (epoch : Nat) : MtrSave :=
  ⟨m.saveSeq, m.feeders.map fun x => (x.ph, x.total, x.interval), m.pulses.map fun p => p.owed, m.cyc.getD 0, epoch, m.latch.1,
   m.latch.2.1, m.latch.2.2⟩

/-- A save attempted in the next slot and, where `fails` attempts fail, in the following ones, up to three (R344). `trigger` numbers
the occasion. -/
def trySave (trigger fails : Nat) (s : State) : State :=
  let m := s.mtr
  if fails < 3 then
    { s with mtr := { m with
      saves := (saveNow m s.tt.reserve.epoch :: m.saves).take (256 - fails), saveSlot := (m.saveSlot + fails + 1) % 256, saveSeq := (m.saveSeq + 1) % 2 ^ 32
      lastSave := s.clk.ticks, saveDue := false, retryAt := none, rebase := true } }
  else
    logEv evMeterSaveFail 0xFF [wd ((m.saveSlot + 2) % 256), Config.itemCode evMeterSaveFail trigger, wd 3]
      { s with mtr := { m with
        saves := m.saves.take 253, saveSlot := (m.saveSlot + 3) % 256, lastSave := s.clk.ticks, saveDue := false, retryAt := some (s.clk.ticks + 60 * 40000000) } }

/-- METER_SAVE: every `SAVE_MIN` minutes, or at once when the residue nears its limit (R344, R346). -/
def execMeterSave (fails : Nat) (s : State) : Host.Outcome State Fault Refusal :=
  .next
    (if mtrRuns s && s.mtr.cyc.isSome && !s.upd.windowOpen then
       if s.mtr.saveDue then trySave 3 fails s
       else if s.mtr.lastSave + s.mtr.global.saveMin * 60 * 40000000 ≤ s.clk.ticks then trySave 0 fails s
       else s
     else s)

/-- METER_SAVE_RETRY: 60 s after three failures, and every 60 s. -/
def execMeterSaveRetry (fails : Nat) (s : State) : Host.Outcome State Fault Refusal :=
  .next
    (match s.mtr.retryAt with
     | some t => if mtrRuns s && decide (t ≤ s.clk.ticks) then trySave 4 fails s else s
     | none => s)

/-! ### Reset and restore (R347, R348) -/

/-- What a reset leaves of metering: configuration, coefficients, saves and records; owed pulses are lost and will be logged. -/
def Meter.afterReset (m : Meter) : Meter :=
  { m with
    faults := 0, cyc := none, stepSeen := 0, cut := [], discard := false, reload := false, saveDue := false, retryAt := none, baseN := 0, rebase := false, reports := []
    owedLost := m.pulses.map fun p => p.owed
    pulses := m.pulses.map fun p => { p with acc := 0, owed := 0, w := p.width * 40000, highTo := 0, lowTo := 0 }
    feeders := m.feeders.map fun x => { x with
      ph := List.replicate 3 default, total := Energies.zero, inMa := 0, interval := none, closeFlags := 0, cal := none, calMark := none
      closed := [], balance := none } }

/-- A bound in Wh on the energy of `P_RATED` over a time in 1/65,536 s and one cycle of nominal length, rounded up (R336, R348). -/
def gapBound (s : State) (pRated t : Nat) : Nat :=
  let cyc := if s.pwr.straps.getLsbD 2 then 1093 else 1311
  (pRated * 100 * (t + cyc) + 3600 * 65536 - 1) / (3600 * 65536)

/-- T_gap of R348 in 1/65,536 s. -/
def gapTime (s : State) (v : Option MtrSave) : Nat :=
  let stamp := s.rtc.swoStamp.1 * 65536 + s.rtc.swoStamp.2
  match v with
  | some b => if s.rtc.swoValid && !s.rtc.osf && decide (b.sec * 65536 + b.frac ≤ stamp) then stamp - (b.sec * 65536 + b.frac)
    else s.mtr.global.saveMin * 60 * 65536
  | none => s.mtr.global.saveMin * 60 * 65536

/-- The residue's energies of a feeder, in the finest unit. -/
def residueOf (ws : List Word) (f : Nat) : Nat × Nat :=
  let w := wAt ws (1 + f)
  let x := (wAt ws (5 + f / 2)).toNat / 2 ^ (16 * (1 - f % 2)) % 65536
  let u := mtrMicro * 10 ^ 6 / 256
  ((fld w 31 16 * 256 + x / 256) * u, (fld w 15 0 * 256 + x % 256) * u)

/-- The residue continues a confirmed save of the ring (R347). -/
def residueBase (s : State) : Option (List Word × MtrSave) :=
  match s.rtc.residue with
  | none => none
  | some ws =>
    if crc32c (ws.take 7) = wAt ws 7 then
      (s.mtr.saves.find? fun v => v.seq % 65536 == fld (wAt ws 0) 31 16).map fun v => (ws, v)
    else none

/-- The registers and the open intervals of a save taken back, with a residue added to the total registers. -/
def loadSave (v : MtrSave) (res : Option (List Word)) (s : State) : State :=
  let pick := fun (f : Nat) (x : Feeder) =>
    match v.feeders[f]? with
    | none => x
    | some (ph, tot, iv) =>
      let r := match res with | some ws => residueOf ws f | none => (0, 0)
      let n := match res with | some ws => fld (wAt ws 0) 15 0 | none => 0
      { x with
        ph := ph.map fun p => { p with vMv := 0, iMa := 0, pMw := 0, lowRun := 0, lossOn := false }
        total := { tot with ai := tot.ai + r.1, ae := tot.ae + r.2 }
        interval := iv.map fun i => { i with cycles := i.cycles + n } }
  { s with mtr := { s.mtr with feeders := (List.range 4).map fun f => pick f (feeder s f) } }

/-- The owed pulses that the reset discarded, logged (R343). -/
def logOwedLost (s : State) : State :=
  let s1 := (List.range 8).foldl (fun s k =>
    if s.mtr.owedLost.getD k 0 = 0 then s else logNs evPulseOwed k [k, s.mtr.owedLost.getD k 0] s) s
  { s1 with mtr := { s1.mtr with owedLost := [] } }

/-- METER_RESTORE at BOOT step 6 (R347, R348): each restore closes the interval that was open at the loss. -/
def meterRestore (s : State) : State :=
  if s.dev.variant = .c then s
  else
    let s0 := logOwedLost s
    let close := fun (q : Nat) (s : State) =>
      let s1 := (List.range 4).foldl (fun s f => cutInterval f (q ||| qShort) s) s
      { s1 with mtr := { s1.mtr with
        cut := [], ring := (s1.mtr.ring ++ s1.mtr.cut).drop (s1.mtr.ring.length + s1.mtr.cut.length - 65536) } }
    match residueBase s0 with
    | some (ws, b) =>
      let s1 := close qResidue (loadSave b (some ws) s0)
      logEv evMeterRestore 0xFF ([wd b.seq, wd (fld (wAt ws 0) 15 0)] ++ (ws.drop 1).take 6)
        { s1 with mtr := { s1.mtr with baseSeq := b.seq, base := b.base, baseN := fld (wAt ws 0) 15 0, lastSave := s.clk.ticks } }
    | none =>
      let v := s0.mtr.saves.head?
      let t := gapTime s0 v
      let s1 := match v with | some b => loadSave b none s0 | none => s0
      let s2 := close qGap s1
      let s3 := { s2 with mtr := { s2.mtr with
        baseSeq := (v.map fun b => b.seq).getD 0, base := (v.map MtrSave.base).getD [], baseN := 0, lastSave := s.clk.ticks } }
      (List.range 4).foldl (fun s f =>
        if (feeder s f).cfg.enable then
          logEv evMeterGap f [wd f, wd 0, wd (gapBound s (feeder s f).cfg.pRated t), wd (t / 65536)] s
        else s) s3

/-- The metering state restored in service (R450): the open intervals close, and new ones begin. -/
def reloadMeter (s : State) : State :=
  let s1 := meterRestore { s with mtr := { s.mtr with reload := false } }
  (List.range 4).foldl (fun s f => if (feeder s f).cfg.enable then openInterval f qShort s else s) s1

/-- METER_CYCLE_END (R332 to R336, R342, R346): the operand gives, by feeder, the samples that belong to the cycle just ended. A cycle
that a memory error has spoilt adds nothing (R449). -/
def execMeterCycleEnd (c : List FeederCycle) (s : State) : Host.Outcome State Fault Refusal :=
  .next
    (if !(mtrRuns s && s.tt.running) then s
     else match s.mtr.cyc with
     | none => writeResidue (openFirst (latchCycle { s with mtr := { s.mtr with stepSeen := s.tt.scale } }))
     | some last =>
       if cycOf s ≤ last then s
       else
         let s0 := closeAll (if s.mtr.reload then reloadMeter s else s)
         let ticks := s.clk.ticks - s.mtr.tick
         let (s1, es) := (List.range 4).foldl (fun (a : State × List (List Energies)) f =>
           if (feeder a.1 f).cfg.enable && !s.mtr.discard then
             let (s', e) := feederCycle f (cycOf s - 1) ticks (c.getD f ⟨[], []⟩) a.1
             (s', a.2 ++ [e])
           else (a.1, a.2 ++ [[]])) (s0, [])
         noteStep (writeResidue (accountPulses es ticks (latchCycle { s1 with mtr := { s1.mtr with discard := false } }))))

/-! ### Withdrawal of block 0x0B (R336) -/

/-- A calibration that ends before its completion. -/
def abandonCal (f : Nat) (s : State) : State :=
  match (feeder s f).cal with
  | none => s
  | some r =>
    completeFail r.org ⟨13, stAbandoned, 0xFFFF, 0⟩
      (stopAct 5 f (tlCancel (fun k => match k with | .calApply g => g == f | _ => false) (onFeeder f (fun x => { x with cal := none }) s)))

/-- The start of a withdrawal: the save, the close of the open intervals, and calibrations abandoned. -/
def mtrWithdraw (fails : Nat) (s : State) : State :=
  let s1 := if s.mtr.cyc.isSome then trySave 2 fails s else s
  let s2 := { s1 with mtr := { s1.mtr with
    feeders := s1.mtr.feeders.map fun x => if x.interval.isSome then { x with closeFlags := x.closeFlags ||| qShort } else x } }
  (List.range 4).foldl (fun s f => abandonCal f s) s2

/-- The return: the withdrawn time is logged with its bound, and the open intervals carry `GAP`. `since` is the tick at which the
withdrawal took effect. -/
def mtrReturn (since : Nat) (s : State) : State :=
  let t := (s.clk.ticks - since) * 65536 / 40000000
  let s1 := (List.range 4).foldl (fun s f =>
    if (feeder s f).cfg.enable then
      let bound := ((feeder s f).cfg.pRated * 100 * t + 3600 * 65536 - 1) / (3600 * 65536)
      logEv evMeterGap f [wd f, wd 1, wd bound, wd (t / 65536)] (flagInterval qGap f s)
    else s) s
  if s.mtr.cyc.isSome then latchCycle s1 else s1

end Sys2Proof.Machine
end

