-- ==== Sys2Proof/Machine/Receive.lean ====
section
/-!
DEFINITION. Received frames: metadata, the ring, the address filter, frame security, acknowledgement, contacts, the network header,
and the messages that Lattice reads from the ring (07 R190 to R192; 08 R216 to R226; 09 R256, R257, R262 to R266).
-/
namespace Sys2Proof.Machine

/-! ### Reading a frame (R216, R217, R220) -/

/-- A received frame as it was read: what its octets say, and which keys its MIC verifies under. -/
structure MacFrame where
  fcsOk : Bool
  version : Nat
  type : Nat
  /-- The header, its addressing and its IE lists parse, and no unsupported element is used (R216, R217). -/
  parses : Bool
  /-- MAC command identifier, for type 0b011. -/
  cmd : Nat
  /-- The destination PAN ID that applies, and whether the frame leaves it out (R218). -/
  dstPan : Nat
  panOmitted : Bool
  dst : Addr
  src : Addr
  ackReq : Bool
  pending : Bool
  seq : Nat
  level : Nat
  keyMode : Nat
  keyIdx : Nat
  counter : Nat
  micCur : Bool
  micPrev : Bool
  link : Option LinkIe
  confirm : Option (Nat × Nat × Nat)
  /-- MAC payload octets in clear. -/
  payload : List Nat
  /-- PSDU octets, and those of them up to the source address. -/
  srcEnd : Nat
  octets : Nat
  rssi0 : Int
  rssi1 : Int
  snr : Int
  deriving DecidableEq, Repr, Inhabited

/-- A payload as octets. -/
def octs (l : List (BitVec 8)) : List Nat := l.map fun b => b.toNat

/-- The endpoint that an address names on an engine. -/
def addrEp (s : State) (n : Nat) (a : Addr) : Option (Nat × EpRec) :=
  match a with
  | .short a => byShort s n a
  | .ext e => byEui s e
  | .absent => none

/-- The keys that a frame names on an engine, current and previous: the link keys of its source, or the group keys (R220, R222). -/
def rxKeys (s : State) (n : Nat) (who : Option (Nat × EpRec)) (mode : Nat) : Option (List Word) × Option (List Word) :=
  if mode = 0 then
    match who with
    | some (ep, r) => (curKey s n ep r, prevKey s n ep r)
    | none => (none, none)
  else
    let l := slotKeys s (bcnOf s n).grpSlot 2 (some n)
    (l[0]?, l[1]?)

/-- The EUI-64 of a source (R220): the frame's, or that of its record. -/
def srcEui (src : Addr) (who : Option (Nat × EpRec)) : Nat :=
  match src, who with | .ext e, _ => e | _, some (_, r) => r.eui | _, none => 0

/-- A received frame read on an engine. A frame that carries no source address is taken as from `as_`. -/
def readFrame (s : State) (n : Nat) (as_ : Option (Nat × EpRec)) (a : AirFrame) : MacFrame :=
  let l := octs a.psdu
  let k := if a.fcs4 then 4 else 2
  let body := l.take (l.length - k)
  let h := readMhr body
  let mic := micLen h.level
  let rest := (body.drop h.len).take (body.length - h.len - mic)
  let ies := if h.ie then readHeaderIes rest.length rest else ⟨[], rest, false, true⟩
  let hdr := body.length - mic - ies.rest.length
  let who := if h.src = .absent then as_ else addrEp s n h.src
  let keys := rxKeys s n who h.keyMode
  let open_ := fun (key : Option (List Word)) =>
    if h.level = 0 then none
    else key.bind fun k => ccmOpen (octetsOfWords k) (srcEui h.src who) h.counter h.level (body.take hdr) (body.drop hdr)
  let cur := open_ keys.1
  let prev := open_ keys.2
  let clear := if h.level = 0 then ies.rest else (cur.or prev).getD []
  let pies := if ies.payloadIes then readPayloadIes clear.length clear else ⟨[], clear, false, true⟩
  { fcsOk := decide (k ≤ l.length) && l.drop (l.length - k) == (if a.fcs4 then fcs4 body else fcs2 body)
    version := h.version, type := h.type
    parses := decide (h.len + mic ≤ body.length) && h.dstMode != 1 && h.srcMode != 1 && ies.ok && pies.ok && !h.unsupported &&
      !ies.elems.any (fun e => ieUnsupported e.1) && !pies.elems.any (fun e => e.1 == 1 && mlmeTsch e.2.length e.2)
    cmd := pies.rest.headD 0
    dstPan := h.dstPan.getD (h.srcPan.getD (bcnOf s n).pan), panOmitted := h.dstPan.isNone, dst := h.dst, src := h.src
    ackReq := h.ackReq, pending := h.pending, seq := h.seq, level := h.level, keyMode := h.keyMode, keyIdx := h.keyIdx, counter := h.counter
    micCur := cur.isSome, micPrev := prev.isSome, link := linkIeOf ies.elems, confirm := confirmIeOf ies.elems, payload := pies.rest
    srcEnd := h.srcEnd, octets := l.length, rssi0 := a.rssi0, rssi1 := a.rssi1, snr := a.snr }

/-! ### Filters (R216, R218, R220) -/

/-- The frame type and version are received (R216, R217). -/
def formatOk (f : MacFrame) : Bool := f.version == 2 && (f.type == 1 || f.type == 3) && f.parses

/-- A Beacon Request (R216, R230). -/
def isBeaconReq (f : MacFrame) : Bool := f.type == 3 && f.cmd == 7 && f.level == 0

/-- A Data Request (R236). -/
def isDataReq (f : MacFrame) : Bool := f.type == 3 && f.cmd == 4

/-- The address filter (R218). -/
def addrOk (s : State) (n : Nat) (f : MacFrame) : Bool :=
  let c := bcnOf s n
  (f.dstPan == c.pan || (!f.panOmitted && f.dstPan == 0xFFFF)) &&
  (match f.dst with | .short a => a == c.short || a == 0xFFFF | .ext e => e == s.dev.eui | .absent => true) &&
  (match f.src with | .short a => decide (a ≤ 0xFFFD) | .ext _ => true | .absent => false)

/-- A destination of one station: the frame may be acknowledged (R218, R223). -/
def unicastDst (f : MacFrame) : Bool := match f.dst with | .short a => a != 0xFFFF | .ext _ => true | .absent => true

/-- The source is a child of this engine (R219). -/
def isChild (n : Nat) (r : EpRec) : Bool := r.engine == n && !r.viaRouter && (r.st == .active || r.st == .orphan)

/-- Levels and key modes accepted on receive (R220). -/
def secAccepted (f : MacFrame) : Bool := f.level != 0 && f.level != 4 && decide (f.level < 8) && decide (f.keyMode < 2)

/-- The key a frame names is usable by the engine (R220, R221). -/
def rxKeyUsable (s : State) (n ep : Nat) (r : EpRec) (f : MacFrame) : Bool :=
  if f.keyMode = 0 then (curKey s n ep r).isSome || (prevKey s n ep r).isSome
  else let c := bcnOf s n; f.keyIdx == c.grpIdx && slotUsable s c.grpSlot 2 (some n)

/-- A security failure counted and logged, limited (R250): 0 key, 1 MIC, 2 counter. -/
def secFail (n k : Nat) (s : State) : State :=
  let s1 := updMd n (fun m => { m with
    secSince := updAt m.secSince k fun x => x + 1
    cnt := if k = 0 then { m.cnt with secKey := inc32 m.cnt.secKey } else if k = 1 then { m.cnt with secMic := inc32 m.cnt.secMic }
      else { m.cnt with secReplay := inc32 m.cnt.secReplay } }) s
  let c := (mdOf s1 n).secSince
  let key := evSecFail * 256 + n
  if limitOpen (s1.log.limit key).last (cycOf s1) then
    logLim evSecFail n (fun _ => c.map wd) (updMd n (fun m => { m with secSince := [0, 0, 0] }) s1)
  else logLim evSecFail n (fun _ => []) s1

/-- The link key of a frame goes to the head of the engine's cache: 0 the current one, 1 the previous (R221). -/
def useRx (n ep : Nat) (r : EpRec) (k : Nat) (s : State) : State :=
  if k = 0 then useCur n ep s
  else match r.keyPrev, prevKey s n ep r with | some w, some key => useKey n ep w key s | _, _ => s

/-- The verdict of frame security (R221, R222): the failure, or the state with the counter accepted. -/
def verify (n ep : Nat) (r : EpRec) (f : MacFrame) (s : State) : Except Nat State :=
  if !rxKeyUsable s n ep r f then .error 0
  else if f.keyMode = 0 then
    if !f.micCur && !(f.micPrev && r.prevValid) then .error 1
    else match ctrKey r f.micCur f.micPrev f.counter with
      | some k => .ok (useRx n ep r k (acceptCtr ep k f.counter s))
      | none => .error 2
  else
    let (c, p) := (tget s.mac.grpIn ep).getD (0, 0)
    if !f.micCur && !f.micPrev then .error 1
    else if f.counter = 0xFFFFFFFF then .error 2
    else if f.micCur && decide (c ≤ f.counter) then
      .ok { s with mac := { s.mac with grpIn := tset s.mac.grpIn ep (f.counter + 1, p) } }
    else if f.micPrev && decide (p ≤ f.counter) then
      .ok { s with mac := { s.mac with grpIn := tset s.mac.grpIn ep (c, f.counter + 1) } }
    else .error 2

/-! ### The network header (R262) -/

/-- The `k` 16-bit entries of a list. -/
def entries16 (l : List Nat) (k : Nat) : List Nat := (List.range k).map fun i => le16 l (2 * i)

/-- A message put into the ring, or a receive buffer while the ring is full (R192). -/
def pushRing (n : Nat) (m : RxMsg) (s : State) : State := updCe n (fun e => { e with ring := e.ring ++ [m] }) s

/-- An endpoint-initiated transaction accepted (R268, R279). -/
def countEp (s : State) : State := let s1 := rollRates s; { s1 with txn := { s1.txn with epNow := s1.txn.epNow + 1 } }

/-- A message protected end to end, opened with the keys of an endpoint: under the current one, and under the previous one (R261). -/
def e2eOpen (s : State) (n : Nat) (x : Nat × EpRec) (ctr : Nat) (c : List Nat) : Option (List Nat) × Option (List Nat) :=
  let under := fun (key : Option (List Word)) => key.bind fun k => ccmOpen (octetsOfWords k) x.2.eui ctr x.2.secLevel [] c
  (under (curKey s n x.1 x.2), under (prevKey s n x.1 x.2))

/-- The origin of a routed message: the endpoint with its short address, if its keys open the message, else the one whose keys do, as
of a joining endpoint or one that comes from another engine (R256, R257). -/
def originOf (s : State) (n a ctr : Nat) (c : List Nat) : Option (Nat × EpRec) :=
  let opens := fun (x : Nat × EpRec) => x.2.st != .removing && (let o := e2eOpen s n x ctr c; o.1.isSome || o.2.isSome)
  ((byShort s n a).filter opens).or (s.lat.recs.find? opens)

/-- A frame of another network type: discarded and counted (R262). -/
def discardNet (n : Nat) (m : RxMsg) (s : State) : State :=
  pushRing n m (updCnt n (fun c => { c with netOther := inc32 c.netOther }) s)

/-- A type 2 frame: end-to-end verification, the route it shows, and its message (R257, R261, R262, R266). -/
def routedUp (n : Nat) (f : MacFrame) (m : RxMsg) (s : State) : State :=
  let l := f.payload
  let k := l.headD 0 % 16
  let rec_ := entries16 (l.drop 3) k
  let rest := l.drop (3 + 2 * k)
  let ctr := le32 rest
  let c := rest.drop 4
  if 8 < k then discardNet n m s
  else match originOf s n (le16 l 1) ctr c with
    | none => pushRing n m s
    | some (ep, r) =>
      let o := e2eOpen s n (ep, r) ctr c
      let m := { m with ep := some ep, eui := r.eui, route := rec_, routed := true, app := (o.1.or o.2).getD [], counter := ctr }
      if r.st == .provisioned then pushRing n { m with verified := o.1.isSome } s
      else match ctrKey r o.1.isSome o.2.isSome ctr with
        | none => pushRing n { m with app := [] } s
        | some key =>
          let s1 := updEp ep (fun r => { r with heardCyc := cycOf s }) (acceptCtr ep key ctr s)
          let path := rec_.reverse.map fun a => (byShort s1 n a).map fun x => x.1
          let own := r.engine == n && r.viaRouter && (match rec_.head? with
            | some a => (match byShort s1 n a with | some (p, _) => p == r.parent | none => false)
            | none => false)
          let s2 := if own && path.all Option.isSome then learnRoute n r.parent (path.filterMap id) s1 else s1
          pushRing n { m with verified := true, own := own } (if own then countEp s2 else s2)

/-- The payload of an accepted frame from a child: a MAC command is passed to Lattice, and a data frame by its network header (R216,
R262). -/
def networkUp (n ep : Nat) (r : EpRec) (f : MacFrame) (m : RxMsg) (s : State) : State :=
  let l := f.payload
  let m := { m with ep := some ep, eui := r.eui, verified := true, own := true }
  if f.type != 1 then pushRing n { m with cmd := some f.cmd } s
  else if l.isEmpty then pushRing n m s
  else match l.headD 0 / 16 with
    | 0 => if l.headD 0 % 16 = 0 then pushRing n { m with app := l.drop 1 } (if unicastDst f then countEp s else s) else discardNet n m s
    | 2 => routedUp n f { m with ep := none, eui := 0, verified := false, own := false } s
    | _ => discardNet n m s

/-- MODE_GRANT of SAMPLED started for every endpoint of an engine in POLL (R235). -/
def revokePoll (n pop : Nat) (s : State) : State :=
  let ls := (linksOn s n).filter fun x => x.2.st == .poll && !granting s x.1
  if ls.isEmpty then s
  else
    let sp := (slpOf s n).defSp
    logNs evPollRevoked n [ls.length, pop]
      (ls.foldl (fun s x => startOwn .modeGrant x.1 ([3, 2] ++ oct16 sp ++ [0, 0]) none s) s)

/-- An endpoint still in POLL beyond the limit is granted SAMPLED again at a contact (R235). -/
def regrant (n ep : Nat) (s : State) : State :=
  if linkSt s ep == .poll && decide (4096 < sleepyPop s n) && !granting s ep then
    startOwn .modeGrant ep ([3, 2] ++ oct16 (slpOf s n).defSp ++ [0, 0]) none s
  else s

/-- A contact processed: `MAINS_SENSE` of the record (R252), trains staged for the endpoint withdrawn (R242), the link, and a grant that POLL
still owes (R235). -/
def noteContact (n ep : Nat) (ie : LinkIe) (tt : Nat) (s : State) : State :=
  regrant n ep (contact ep ie tt (updEp ep (fun r => { r with mains := ie.mains }) (withdrawTrain n ep s)))

/-- What a known child's authenticated frame brings: link, contact, acknowledgement, message (R223, R225, R236, R239). Without an
acknowledgement nothing is delivered, and a frame that waits for a SAMPLED endpoint is sent with a train. -/
def fromChild (n ep : Nat) (r : EpRec) (f : MacFrame) (m : RxMsg) (s : State) : State :=
  let s1 := updCnt n (fun c => { c with rxOk := inc32 c.rxOk, dataReq := if isDataReq f then inc32 c.dataReq else c.dataReq }) s
  let s2 := heardFrom ep m.tt m.rssi m.snr (updEp ep (fun r => { r with heardCyc := cycOf s }) s1)
  let seen := s.clk.ticks - payloadTicks (ceCfg s n) (f.octets - f.srcEnd)
  let pend := r.sleepy != 0 && pendingAt s n ep seen
  let acks := f.ackReq && unicastDst f
  let s3 := match f.link with
    | some ie => if s.upd.windowOpen then s2 else (let s3 := noteContact n ep ie m.tt s2; if acks then s3 else restageTrain n ep s3)
    | none => s2
  let s4 := if acks then
      updMd n (fun m => { m with ack := some ⟨s.clk.ticks + 40000, ep, f.seq, f.level, pend, f.src,
        if f.keyMode = 1 then some f.keyIdx else none⟩ }) s3
    else s3
  networkUp n ep r f { m with contact := if s.upd.windowOpen then f.link else none } s4

/-- A frame from a source that is no child of this engine: passed to Lattice (R219). A known endpoint's authenticated frame updates
its heard cycle and counters (R257); a JOIN_REQ comes from an extended address under the link key (R256). -/
def fromOther (n : Nat) (src : Option (Nat × EpRec)) (f : MacFrame) (m : RxMsg) (s : State) : State :=
  let s1 := updCnt n (fun c => { c with unknownSrc := inc32 c.unknownSrc }) s
  let l := f.payload
  let m := { m with app := if f.type == 1 && l.headD 0xFF == 0 then l.drop 1 else [], cmd := if f.type == 3 then some f.cmd else none }
  match src with
  | some (ep, r) =>
    let ext := match f.src with | .ext _ => true | _ => false
    let m := { m with ep := some ep, eui := r.eui }
    if r.st == .provisioned || r.st == .removing then pushRing n { m with verified := ext && f.keyMode == 0 && f.micCur } s1
    else match (if f.keyMode = 0 then ctrKey r f.micCur f.micPrev f.counter else none) with
      | some k => pushRing n { m with verified := true } (updEp ep (fun r => { r with heardCyc := cycOf s }) (acceptCtr ep k f.counter s1))
      | none => pushRing n m s1
  | none => pushRing n { m with eui := (match f.src with | .ext e => e | _ => 0) } s1

/-- The message record of a frame (R191). -/
def rxMeta (s : State) (n : Nat) (r : Reception) (f : MacFrame) : RxMsg :=
  { ep := none, eui := 0, level := f.level, counter := f.counter, verified := false
    tt := r.phrTt.getD (ttAt s (s.clk.ticks - payloadTicks (ceCfg s n) f.octets)), rssi0 := f.rssi0, rssi1 := f.rssi1
    rssi := if r.fe0 && r.fe1 then max f.rssi0 f.rssi1 else if r.fe0 then f.rssi0 else f.rssi1
    snr := f.snr, mask := b2n r.fe0 + 2 * b2n r.fe1, phy := (ceCfg s n).phy, fcsOk := f.fcsOk, cmd := none, route := []
    routed := false, own := false, app := [], contact := none }

/-- No receive buffer was free at the end of a frame's PHR: the ring and both buffers were full (R192). -/
def overrun (e : Engine) (r : Reception) : Bool := r.full || (r.phrTt.isNone && decide (258 ≤ e.ring.length))

/-- FRAME_RECEIVED (R191, R192): a frame ends on an engine in RECEIVE. A frame that the filters pass enters the ring, whatever it carries. -/
def execFrameReceived (n : Nat) (a : AirFrame) (s : State) : Host.Outcome State Fault Refusal :=
  .next
    (let e := ceOf s n
     match e.rx with
     | none => s
     | some r =>
       let f := readFrame s n none a
       let m := rxMeta s n r f
       let s0 := updCe n (fun e => { e with rssi := m.rssi, snr := m.snr }) s
       let done := fun s => settleCe n s
       if overrun e r then
         done (logLim evCeRxOverrun n (fun c => [wd n, wd c]) (updCe n (fun e => { e with overruns := sat 8 (e.overruns + 1) }) s0))
       else if !f.fcsOk then done (updCe n (fun e => { e with fcsFailed := e.fcsFailed + 1 }) s0)
       else if !formatOk f then done (updCnt n (fun c => { c with filtFormat := inc32 c.filtFormat }) s0)
       else if !addrOk s n f then done (updCnt n (fun c => { c with filtAddr := inc32 c.filtAddr }) s0)
       else if isBeaconReq f then
         let c := bcnOf s n
         let inside := match latestStart s c with | some k => decide (s.tt.tt < startTt c k + c.window * 4096) | none => false
         done (if inside then s0 else updMd n (fun m => { m with request := some (cycOf s) }) s0)
       else if !secAccepted f then done (secFail n 0 s0)
       else match addrEp s n f.src with
         | some (ep, x) =>
           if isChild n x then
             match verify n ep x f s0 with
             | .error k => done (secFail n k s0)
             | .ok s1 => done (fromChild n ep x f m s1)
           else done (fromOther n (some (ep, x)) f m s0)
         | none => done (fromOther n none f m s0))

/-- Contacts received during HANDOVER processed at its close, in receive order (R247). -/
def lateContacts (s : State) : State :=
  (List.range 64).foldl (fun s n =>
    let s1 := (ceOf s n).ring.foldl (fun s m => match m.ep, m.contact with
      | some ep, some ie => restageTrain n ep (noteContact n ep ie m.tt s)
      | _, _ => s) s
    updCe n (fun e => { e with ring := e.ring.map fun m => { m with contact := none } }) s1) s

/-! ### The answer to a frame that was sent (R223, R264) -/

/-- What the ACK of a raw frame must bear: the header of the frame that the host built. -/
def rawHead (s : State) (n id : Nat) : Mhr :=
  match (mdOf s n).raws.find? fun x => x.id == id with | some x => readMhr x.psdu | none => readMhr []

/-- The endpoint whose answer is awaited. -/
def awaited (s : State) (n : Nat) (f : Frame) : Option (Nat × EpRec) :=
  match f.src with
  | .raw id => addrEp s n (rawHead s n id).dst
  | _ => f.ackFrom.bind fun ep => (epOf s ep).map fun r => (ep, r)

/-- An ACK comes from an endpoint, with a sequence number and at a security level. -/
def ackFits (f : MacFrame) (src : Addr) (eui seq level : Nat) : Bool :=
  (f.src == .absent || f.src == src || f.src == .ext eui) && f.seq == seq && f.level == level

/-- The ACK of a raw frame (R223, R249). -/
def rawAcked (n id : Nat) (who : Option (Nat × EpRec)) (f : MacFrame) (s s0 : State) : State :=
  let h := rawHead s n id
  if !ackFits f h.dst (match who with | some (_, r) => r.eui | none => 0) h.seq h.level then s
  else if f.level = 0 then rawDone n id 6 f.rssi0 f.snr f.octets s0
  else match who with
    | none => s
    | some (ep, r) => match verify n ep r f s0 with
      | .error k => secFail n k s
      | .ok s1 => rawDone n id 6 f.rssi0 f.snr f.octets s1

/-- The transaction whose frame has been acknowledged goes by the CONFIRM in the acknowledgement, or waits for it (R264, R270). -/
def ackedTxn (f : MacFrame) (src : FrameSrc) (s : State) : State :=
  match src with
  | .txn id => (match txnOf s id with
    | none => s
    | some t => match f.confirm with
      | some (tid, res, lvl) => if tid = t.tid then confirmTxn t res ⟨[], lvl, cycOf s, f.rssi0, f.snr⟩ s else awaitTxn id s
      | none => awaitTxn id s)
  | _ => s

/-- An accepted acknowledgement of a frame to an endpoint: it is heard, the frame is delivered, and what waits follows where the pending
bit says that the endpoint listens on. -/
def acked (n ep : Nat) (g : Frame) (f : MacFrame) (s : State) : State :=
  let s1 := heardFrom ep s.tt.tt f.rssi0 f.snr (updEp ep (fun r => { r with heardCyc := cycOf s, fails := 0 }) s)
  let s2 := delivered n ep g.src (g.cls == 1) (updLink ep (fun l => { l with fails := 0 }) s1)
  let s3 := ackedTxn f g.src s2
  if f.pending && !(indirectOf s3 n ep).isEmpty then deliver n ep s3 else s3

/-- ACK_RECEIVED (R223): an Enhanced ACK in its window, from the addressed endpoint, with the frame's sequence number, secured at the
frame's level. -/
def execAckReceived (n : Nat) (a : AirFrame) (s : State) : Host.Outcome State Fault Refusal :=
  .next
    (match (mdOf s n).wait with
     | none => s
     | some w =>
       let c := ceCfg s n
       let who := awaited s n w.frame
       let f := readFrame s n who a
       let shr := s.clk.ticks - airTicks c c.preamble f.octets
       let inTime := decide (w.since + 38000 ≤ shr) && decide (shr < w.since + 50000)
       if !(f.fcsOk && f.type == 2 && f.version == 2 && f.parses && inTime) then s
       else
         let s0 := updMd n (fun m => { m with wait := none }) (settleCe n s)
         match w.frame.src, who with
         | .raw id, _ => rawAcked n id who f s s0
         | _, none => s
         | _, some (ep, r) =>
           if !ackFits f (.short r.short) r.eui w.frame.dsn r.secLevel then s
           else match verify n ep r f s0 with
             | .error k => secFail n k s
             | .ok s1 => acked n ep w.frame f s1)

/-! ### Messages read from the ring (R263) -/

/-- The head message of an engine's ring, if its `OP` is one of some; firmware reads none during HANDOVER. -/
def headMsg (s : State) (n : Nat) (p : Nat → Bool) : Option RxMsg :=
  if s.upd.windowOpen then none
  else match (ceOf s n).ring.head? with
    | some m => if p (m.app.getD 0 0) then some m else none
    | none => none

/-- The head message removed. -/
def popRing (n : Nat) (s : State) : State := updCe n (fun e => { e with ring := e.ring.tail }) s

/-- `TID` of a message. -/
def msgTid (m : RxMsg) : Nat := m.app.getD 1 0

/-- Payload octets of a message after its application header. -/
def msgBody (m : RxMsg) : List Nat := m.app.drop (if m.app.getD 2 0 % 2 = 1 then 5 else 3)

/-- A join refused (R256): 0 unknown, 1 no key, 2 security, 3 policy, 4 POLL. -/
def refuseJoin (eui cause : Nat) (s : State) : State :=
  logLim evEpJoinRefused 0xFF (fun c => [hi32 eui, lo32 eui, wd cause, wd c]) s

/-- A number brought into a range. -/
def clampTo (lo hi v : Nat) : Nat := Nat.max lo (Nat.min hi v)

/-- The mode granted on an engine to an endpoint that asks for one (R234): sleepy mode, SP, poll interval, and whether POLL was
denied. A router's child is no sleepy endpoint of the engine. DESIGN CHOICE: an SP or a poll interval outside its range is brought into it
(R252; log entry 56, on join requests). -/
def grantMode (s : State) (n pop mode sp poll : Nat) (routed : Bool) : Nat × Nat × Nat × Bool :=
  if mode = 1 then
    if routed || pollOk s n pop then (1, 0, clampTo 2 65535 poll, false) else (2, (slpOf s n).defSp, 0, true)
  else if mode = 2 then (2, clampTo 2 1500 sp, 0, false) else (0, 0, 0, false)

/-- The record of an endpoint that joins or rejoins through engine `n`, its route learned from the message (R256). -/
def joinRec (s : State) (n ep : Nat) (r : EpRec) (m : RxMsg) : EpRec × Bool :=
  let b := msgBody m
  let fl := b.getD 5 0
  let pop := sleepyPop s n + b2n (!(r.engine == n && (linkOf s ep).isSome))
  let (mode, sp, poll, denied) := grantMode s n pop (fl / 4 % 4) (le16 b 6) (le16 b 8) m.routed
  let parent := match m.route.head? with | some a => (byShort s n a).map fun x => x.1 | none => none
  let keep := r.engine == n && r.short != 0xFFFE
  ({ r with
      short := if keep then r.short else newShort s n
      engine := n, viaRouter := m.routed, parent := parent.getD 0, hops := m.route.length + 1
      route := match parent with | some p => (primaryOf s p).getD 0xFFFF | none => 0xFFFF
      sleepy := mode, sp := sp, pollInt := poll, eps := le16 b 10, mains := fl % 2 == 1, fwVer := le16 b 3 }, denied)

/-- What an accepted join or rejoin does: the record, the route, the answer, the revocation of POLL (R235, R256). -/
def admitJoin (rejoin : Bool) (n ep : Nat) (r : EpRec) (m : RxMsg) (s : State) : State :=
  let path := (m.route.reverse.filterMap fun a => (byShort s n a).map fun x => x.1)
  let s0 := match path.getLast? with | some p => learnRoute n p path s | none => s
  let (r', denied) := joinRec s0 n ep r m
  let s1 := updEp ep (fun _ => { r' with heardCyc := cycOf s }) s0
  let s1 := countUsers (writeRec ep (if rejoin then s1 else acceptCtr ep 0 m.counter s1))
  let s2 := if denied then logLim evPollDenied n (fun c => [wd ep, wd c]) s1 else s1
  let pop := sleepyPop s2 n + b2n (r'.sleepy != 0 && (linkOf s2 ep).isNone)
  let s3 := if r'.sleepy != 0 && !r'.viaRouter && decide (4096 < pop) then revokePoll n pop s2 else s2
  startTxn (.joinRsp rejoin) ep none false false
    ([6] ++ oct16 r'.short ++ [n, r'.sleepy] ++ oct16 r'.sp ++ oct16 r'.pollInt) none (ownDeadline s3) s3

/-- The policy admits an engine and a class (R255). -/
def policyOk (s : State) (n cls : Nat) : Bool := s.lat.policy.engines.testBit n && s.lat.policy.classes.testBit cls

/-- The request verifies at the record's level with an acceptable counter (R256). -/
def joinSecure (m : RxMsg) (r : EpRec) : Bool :=
  m.verified && (m.routed || m.level == r.secLevel) && decide (r.inCur ≤ m.counter) && m.counter != 0xFFFFFFFF

/-- JOIN_REQ (R256). `media`: the durable write of the record succeeds; a failed write undoes the join (R285). -/
def execJoinReq (n : Nat) (media : Bool) (s : State) : Host.Outcome State Fault Refusal :=
  .next
    (match headMsg s n fun op => op == 5 with
     | none => s
     | some m =>
       let s1 := popRing n s
       match byEui s m.eui with
       | none => refuseJoin m.eui 0 s1
       | some (ep, r) =>
         if r.st != .provisioned || s.txn.txns.any (fun t => t.ep == ep && t.kind == .joinRsp false) then refuseJoin m.eui 0 s1
         else if r.keyCur.isNone then refuseJoin m.eui 1 s1
         else if !joinSecure m r then refuseJoin m.eui 2 s1
         else if s.lat.policy.permit != 1 || !policyOk s n r.cls || (msgBody m).getD 5 0 / 4 % 4 == 3 then refuseJoin m.eui 3 s1
         else if !media || !txnRoom s 1 then s1
         else admitJoin false n ep r m s1)

/-- Frames that wait in an old engine's indirect queue are withdrawn and their transactions sent again (R257). -/
def moveQueue (old ep : Nat) (s : State) : State :=
  let ids := (indirectOf s old ep).filterMap fun i => match i.src with | .txn id => some id | _ => none
  let s1 := takeIndirect old (fun i => i.ep == ep) s
  ids.foldl (fun s id => updTxn id (fun t => { t with st := .queued, until_ := 0 }) s) s1

/-- REJOIN (R257). -/
def execRejoin (n : Nat) (media : Bool) (s : State) : Host.Outcome State Fault Refusal :=
  .next
    (match headMsg s n fun op => op == 7 with
     | none => s
     | some m =>
       let s1 := popRing n s
       match byEui s m.eui with
       | none => refuseJoin m.eui 0 s1
       | some (ep, r) =>
         if !(r.st == .active || r.st == .orphan) then refuseJoin m.eui 0 s1
         else if r.keyCur.isNone then refuseJoin m.eui 1 s1
         else if !(m.verified && (m.routed || m.level == r.secLevel)) then refuseJoin m.eui 2 s1
         else if s.lat.policy.permit == 0 || !policyOk s n r.cls || (msgBody m).getD 5 0 / 4 % 4 == 3 then refuseJoin m.eui 3 s1
         else if !media || !txnRoom s 1 then s1
         else
           let s2 := if r.engine != n then moveQueue r.engine ep (closeLink ep s1) else s1
           let s3 := openLink ep (updEp ep (fun r => { r with st := .active }) (admitJoin true n ep r m s2))
           match epOf s3 ep with
           | none => s3
           | some x =>
             notifyOwners x.owner 0x0501 [packW [(n, 26), (1, 25), (ep, 0)], wd x.short]
               (logNs evEpRejoined r.engine [ep, r.engine, x.engine, r.parent, x.parent] s3))

/-- A message that Lattice may act on: authenticated, and come the way that the record of its sender names (R257). -/
def trusted (m : RxMsg) : Option Nat := if m.verified && m.own then m.ep else none

/-- CONFIRM (R263, R264): ends the transaction whose `TID` it names. -/
def execConfirm (n : Nat) (s : State) : Host.Outcome State Fault Refusal :=
  .next
    (match headMsg s n fun op => op == 2 with
     | none => s
     | some m =>
       let s1 := popRing n s
       let b := msgBody m
       match trusted m with
       | none => s1
       | some ep => match byTid s1 ep (b.getD 0 0) false with
         | some t => confirmTxn t (b.getD 1 0) ⟨[], le16 b 2, m.tt / 4096, m.rssi, m.snr⟩ s1
         | none => s1)

/-- ENERGY (R263). -/
def execEnergy (n : Nat) (s : State) : Host.Outcome State Fault Refusal :=
  .next
    (match headMsg s n fun op => op == 0x10 with
     | none => s
     | some m => match trusted m with
       | some ep =>
         noteReport ep (m.tt / 4096) (le32 (msgBody m))
           (updEp ep (fun r => { r with energy := le32 (msgBody m), energyCyc := m.tt / 4096 }) (popRing n s))
       | none => popRing n s)

/-- The payload of a REPORT notification (R289). -/
def reportWords (ep : Nat) (m : RxMsg) : List Word :=
  let b := msgBody m
  [packW [(m.app.getD 0 0, 24), (ep, 0)], wd b.length, wd (m.tt / 4096)] ++ packOctets b.length b

/-- REPORT (R289): a host-defined message answers the query whose `TID` it carries, or is delivered to the endpoint's owners. A
message with a reserved `OP` is discarded (R263), and so is what carries no message: a MAC command, an empty data frame. -/
def execReport (n : Nat) (s : State) : Host.Outcome State Fault Refusal :=
  .next
    (match headMsg s n fun op => !([2, 5, 7, 0x10, 0x11, 0x23, 0x24].contains op) with
     | none => s
     | some m =>
       let s1 := popRing n s
       match trusted m, decide (0x80 ≤ m.app.getD 0 0) with
       | some ep, true => (match byTid s1 ep (msgTid m) true with
         | some t =>
           let s2 := match t.route with | some rt => routeOk rt s1 | none => s1
           finishTxn t stOk 0 ⟨m.app.getD 0 0 :: msgBody m, 0, m.tt / 4096, m.rssi, m.snr⟩ s2
         | none => (match epOf s1 ep with
           | some r => notifyOwners r.owner 0x0503 (reportWords ep m) s1
           | none => s1))
       | _, _ => s1)

end Sys2Proof.Machine
end

