-- ==== Sys2Proof/Machine/Decide.lean ====
section
/-!
DEFINITION. What the schedule engine sends, group repetitions, changes of membership, and detections (10, R293, R294, R302 to R310,
R315, R322; 09 R273).
-/
namespace Sys2Proof.Machine

/-! ### Sending levels (R306) -/

/-- A group broadcast created; its first repetition is due now (R273). -/
def newGroup (group : Nat) (app : List Nat) (org : Option Origin) (compat strict : Bool) (target : Option Nat) (deadline repeat_ : Nat)
    (sched : Bool) (scope : Nat) (s : State) : State :=
  let g : GroupMsg := ⟨s.txn.nextId, group, app, org, compat, strict, target, deadline, repeat_, 0, cycOf s,
    (lanterns s group scope).length, 0, 0, [], 0, sched, scope⟩
  { s with txn := { s.txn with groups := s.txn.groups ++ [g], nextId := s.txn.nextId + 1 } }

/-- A level sent to a group's lanterns: a broadcast in native ordering, one transaction to each in compatibility ordering, at the
level R320 gives it. -/
def sendGroupLevel (g level fade scope : Nat) (target : Option Nat) (s : State) : State :=
  if orderMode s = 1 then
    let t := target.getD (cycOf s + schLead s)
    (lanterns s g scope).foldl (fun s x =>
      let l := match litAt s x.1 t with | some (v, _) => Nat.max v level | none => level
      startOwn .schedule x.1 (levelApp l fade) (some t) s) s
  else newGroup g (levelApp level fade) none false false target (ownDeadline s) s.txn.retry.repeat_ true scope s

/-- A decided change sent with its target, or under HOLD kept until the cycle before it (R306). -/
def sendDecided (g level fade scope target : Nat) (s : State) : State :=
  if holdFlag s && orderMode s != 1 then
    { s with sch := { s.sch with later := s.sch.later ++ [⟨target - 1, g, level, fade, scope⟩] } }
  else sendGroupLevel g level fade scope (some target) s

/-- Changes kept under HOLD whose cycle has come. -/
def sendLater (s : State) : State :=
  let due := s.sch.later.filter fun x => decide (x.at_ ≤ cycOf s)
  due.foldl (fun s x => sendGroupLevel x.group x.level x.fade x.scope none s)
    { s with sch := { s.sch with later := s.sch.later.filter fun x => decide (cycOf s < x.at_) } }

/-! ### Deciding (R304 to R307, R310) -/

/-- What the schedule engine does now (R311). -/
def schWant (s : State) : SchRun :=
  match s.pwr.mode with
  | .run | .degraded | .service =>
    if withdrawn s 0x09 then .out else if s.pwr.autonomous then .fallback else .table
  | _ => .idle

/-- A group's level decided for a cycle: sent if it changes, or at a resync whether or not it does. DESIGN CHOICE: a group that has just
become a schedule group is compared with the level that it has now (log entry 65, on new schedule groups). -/
def decideGroup (resync : Bool) (target : Nat) (s : State) (g : Nat) : State :=
  let new := resolveAt s g target
  let keep := fun s : State => { s with sch := { s.sch with decided := tset s.sch.decided g new } }
  let old := (tget s.sch.decided g).getD (resolveAt s g (target - schLead s))
  let fade := if resync || new.winner.isSome then new.fade else old.fade
  if new.level = old.level then (if resync then sendDecided g new.level fade 1 target (keep s) else keep s)
  else
    sendDecided g new.level fade 1 target
      (logNs evSchChange 0xFF [g, target, old.level, new.level, new.winner.getD 0xFFFF] (keep s))

/-- The table evaluated for one cycle. -/
def decideTable (cause : Option Nat) (c : Nat) (s : State) : State :=
  let gs := schedGroups s
  let s1 := { s with sch := { s.sch with
    resync := false, lastCyc := c, decided := s.sch.decided.filter fun x => gs.contains x.1 } }
  let s2 := gs.foldl (decideGroup cause.isSome (c + schLead s)) s1
  match cause with
  | some k => logNs evSchResync 0xFF [k, gs.length] s2
  | none => s2

/-- The fallback program decided for one cycle: entry sends the current level at once (R310). -/
def decideFallback (enter : Bool) (c : Nat) (s : State) : State :=
  let f := fallbackOf s
  let t := c + schLead s
  let l := if enter then fbLevelAt s c else fbLevelAt s t
  let s1 := { s with sch := { s.sch with fbLevel := l, lastCyc := c } }
  if enter then sendDecided 4095 l f.fade 0 t (logNs evSchFallback 0xFF [0, l] s1)
  else if l = s.sch.fbLevel then s1
  else sendDecided 4095 l f.fade 0 t s1

/-- SCH_DECIDE (R306): the next cycle not yet decided, after the queue's entries that come before a window's end (R89). The gates stand as
they are at it; the cycles of a HANDOVER window follow at its close, in order (R311). -/
def execSchDecide (s : State) : Host.Outcome State Fault Refusal :=
  .next
    (if s.upd.windowOpen || !served s || !s.tt.running || tlAhead s (cycOf s * 4096) 4 then s
     else
       let want := schWant s
       let old := s.sch.run
       let now := cycOf s
       if old = want ∧ now ≤ s.sch.lastCyc then s
       else
         let c := if old = want then s.sch.lastCyc + 1 else now
         let s0 := { s with sch := { s.sch with run := want } }
         let s1 := checkStale (updGates (noteTz
           (if old = .fallback ∧ want ≠ .fallback then logNs evSchFallback 0xFF [1, s.sch.fbLevel] s0 else s0)))
         let day := fun s : State => localDay s.sch.tz (instOf s (c + schLead s) / 65536)
         match want with
         | .idle => { s1 with sch := { s1.sch with lastCyc := now, decided := [], later := [] } }
         | .out => { s1 with sch := { s1.sch with lastCyc := now } }
         | .fallback => noteNoSolar true (day s1) (decideFallback (old != .fallback) c (sendLater s1))
         | .table =>
           let s2 := sendLater s1
           let cause := match old with
             | .idle => some 0 | .fallback => some 1 | .out => some 2 | .table => if s.sch.resync then some 3 else none
           noteNoSolar false (day s2) (decideTable cause c s2))

/-! ### Group repetitions (R273, R322) -/

/-- Unicast levels after a schedule broadcast, to the lanterns that Chord lights above it (R322). -/
def compensate (g : GroupMsg) (s : State) : State :=
  let level := le16 g.app 1
  let at_ := g.target.getD (cycOf s)
  (lanterns s g.group g.scope).foldl (fun s x =>
    let l := levelAt s x.1 at_
    if level < l.1 && l.2.isSome then startOwn .chord x.1 (levelApp l.1 (changeFade s x.1 at_ true l.2 none)) g.target s
    else s) s

/-- A group message before its first repetition: a target that has come within `LEAD` (R272, R277). -/
def retagGroup (g : GroupMsg) (s : State) : Option GroupMsg :=
  match g.target with
  | none => some g
  | some t =>
    if cycOf s + s.txn.retry.lead ≤ t then some g
    else if g.strict then none
    else some { g with target := some (cycOf s + s.txn.retry.lead) }

/-- GROUP_REPEAT (R273): a repetition is sent where every engine has room; the last has left when none is in a buffer. -/
def execGroupRepeat (id : Nat) (s : State) : Host.Outcome State Fault Refusal :=
  .next
    (match s.txn.groups.find? fun g => g.id == id with
     | none => s
     | some g0 =>
       if g0.compat || s.upd.windowOpen then s
       else
         match (if g0.sent = 0 then retagGroup g0 s else some g0) with
         | none => endGroup g0 stDeferred 0 s
         | some g =>
           let ended := decide (g.repeat_ ≤ g.sent) ||
             (match g.target with | some t => decide (t < Nat.max (cycOf s) g.at_ + 1) | none => false)
           if ended then
             (if g.out = 0 then
               let s1 := endGroup g stOk 0 s
               if g.sched then compensate g s1 else s1
             else s)
           else if cycOf s < g.at_ then s
           else if (groupEngines s g.group g.scope).all (txRoom s) then sendRepeat g (updGroup id (fun _ => g) s)
           else s)

/-! ### Membership (R294, R307) -/

/-- An endpoint's slots have changed: a MODE_GRANT with the Membership IE, and the level of a schedule group that it entered. -/
def slotsChanged (ep : Nat) (old : EpRec) (s : State) : State :=
  match epOf s ep with
  | none => s
  | some r =>
    if r.groups = old.groups ∨ !(r.st == .active || r.st == .orphan) then s
    else
      let s1 := startOwn .membership ep ([3, r.sleepy] ++ oct16 r.sp ++ oct16 r.pollInt) none s
      if r.slot0 = old.slot0 ∨ r.slot0 = 0xFFF ∨ r.cls ≠ 1 ∨ s.sch.run = .idle ∨ s.sch.run = .out then s1
      else
        let b := baseAt s1 r.slot0 (cycOf s1)
        startOwn .schedule ep (levelApp b.level b.fade) (if orderMode s1 = 1 then some (cycOf s1 + s1.txn.retry.lead) else none) s1

/-! ### Detections (R314, R315) -/

/-- The detection instant: the receive stamp less `AGE` and the routers' forwarding. -/
def detectTt (s : State) (m : RxMsg) (hops : Nat) : Nat := m.tt - (le16 (msgBody m) 4 + (hops - 1) * s.chd.fwd) * 4096

/-- A detection of presence or traffic offered to every enabled corridor that lists its sender. -/
def offerDetection (ep kind dir speed td : Nat) (s : State) : State :=
  let takers := s.chd.corridors.filter fun c => c.2.enable && c.2.sensors.any fun x => x.ep == ep
  let go := takers.filter fun c => gateOpen s c.2 && (match c.2.sensors.find? fun x => x.ep == ep with
    | some x => !(dirsOf c.2 dir x.flip).isEmpty | none => false)
  if go.isEmpty then logLim evChdUnknown 0xFF (fun n => [wd ep, wd kind, wd dir, wd n]) s
  else
    go.foldl (fun s c => match c.2.sensors.find? fun x => x.ep == ep with
      | none => s
      | some x => (dirsOf c.2 dir x.flip).foldl (fun s down =>
          offerOr ⟨c.1, kind == 1, down, x.pos, speed, td, ep, false⟩ c.2 s) s) s

/-- The detection that waits at the head of an engine's ring: its instant and its sensor. -/
def headDetect (s : State) (n : Nat) : Option (Nat × Nat) :=
  match (headMsg s n fun op => op == 0x11), (headMsg s n fun op => op == 0x11).bind trusted with
  | some m, some ep => if (msgBody m).getD 0 0 < 2 then some (detectTt s m (match epOf s ep with | some r => r.hops | none => 1), ep) else none
  | _, _ => none

/-- No other engine's ring has a detection at its head that comes before this one (R315). -/
def firstDetect (s : State) (td ep : Nat) : Bool :=
  (List.range 64).all fun k => match headDetect s k with
    | some (t, e) => decide (td < t) || (td == t && decide (ep ≤ e))
    | none => true

/-- DETECT (R315): lux feeds the gates; a detection makes waves. Detections are processed in the order of t_d: one waits while a ring's
head holds an earlier one (DESIGN CHOICE: a ring itself delivers in order of receipt). A `DIR` above 2, which R314 does not define, counts
as 1 (DESIGN CHOICE; log entry 69, on detections). -/
def execDetect (n : Nat) (s : State) : Host.Outcome State Fault Refusal :=
  .next
    (match headMsg s n fun op => op == 0x11 with
     | none => s
     | some m =>
       let s1 := popRing n s
       let b := msgBody m
       let kind := b.getD 0 0
       match trusted m with
       | none => s1
       | some ep =>
         if kind = 2 then
           checkStale (updGates { s1 with sch := { s1.sch with lux := tset s1.sch.lux ep ⟨le16 b 6, m.tt / 4096, s.clk.ticks⟩ } })
         else if 2 < kind then s1
         else if !chdRuns s1 || !s1.chd.on then { s1 with chd := { s1.chd with discarded := s1.chd.discarded + 1 } }
         else
           let td := detectTt s1 m (match epOf s1 ep with | some r => r.hops | none => 1)
           if firstDetect s td ep then offerDetection ep kind (b.getD 1 0) (le16 b 2) td s1 else s)

end Sys2Proof.Machine
end

