-- ==== Sys2Proof/Machine/SchedCmd.lean ====
section
/-!
DEFINITION. The SCH commands (10, R324).
-/
namespace Sys2Proof.Machine

/-- What every SCH command checks first. -/
def schHead (code n : Nat) (r : Req) (s : State) : List (Option Fail) := [stdHead code n r s, needWorld r s 0x09, needSvc s 0x09]

/-- A group as stored: a request that waits for its boundary counts. -/
def storedGroup (s : State) (g : Nat) : Group :=
  match waitingCfg s fun r => r.opcode == 0x0701 && fld (r.w 3) 11 0 == g with
  | some r => ⟨fld (r.w 3) 31 28, fld (r.w 3) 27 18⟩
  | none => groupOf s g

/-- An entry as stored. -/
def storedEntry (s : State) (k : Nat) : Option SchEntry :=
  match waitingCfg s fun r => (r.opcode == 0x0704 || r.opcode == 0x0705) && fld (r.w 3) 11 0 == k with
  | some r => if r.opcode = 0x0704 then some ⟨(r.words.drop 4).take 8, true⟩ else none
  | none => tget s.sch.entries k

/-- Entries as stored that name a group. -/
def entriesOf (s : State) (g : Nat) : Nat :=
  (((s.tl.entries.filterMap fun e => match e.kind with
      | .config r => if r.opcode = 0x0704 ∨ r.opcode = 0x0705 then some (fld (r.w 3) 11 0) else none
      | _ => none) ++ s.sch.entries.map Prod.fst).foldl (fun (t : Tbl Unit) k => tset t k ()) []).countP
    fun k => match storedEntry s k.1 with | some x => x.group == g | none => false

/-- Members of a group: endpoints with a slot that holds it; every endpoint for 4,095. -/
def members (s : State) (g : Nat) : List Nat := (s.lat.recs.filter fun x => g == 4095 || x.2.groups.contains g).map Prod.fst

/-- Members of a group in slot 0. -/
def slot0Members (s : State) (g : Nat) : Nat := (s.lat.recs.filter fun x => g != 4095 && x.2.slot0 == g).length

/-! ### SCH.GROUP_SET -/

/-- Checks of SCH.GROUP_SET (R292). -/
def chkSchGroupSet (r : Req) (s : State) : Option Fail :=
  let new := fld (r.w 3) 31 28
  let g := fld (r.w 3) 11 0
  let old := (storedGroup s g).owner
  firstFail
    [ stdHead 0x0701 1 r s, inWord 3 (needOwnerPorts s new), needWorld r s 0x09,
      (if g = 4095 then inWord 3 (needSecure r s 0x09) else none), needSvc s 0x09,
      need 9 (fld (r.w 3) 17 12 == 0 && decide (fld (r.w 3) 27 18 ≤ 1000)) stBadParam 3,
      (if old = 0 then none else inWord 3 (needOwner r old)), (if new = 0 then none else inWord 3 (needOwner r new)),
      need 11 (old != 0 || new != 0) stNotOwner 3 0,
      need 12 (new != 0 || (entriesOf s g == 0 && (g == 4095 || (members s g).isEmpty))) stBadState ]

/-- SCH.GROUP_SET takes effect: owner 0 deletes the group. -/
def applySchGroupSet (r : Req) (s : State) : State :=
  let new := fld (r.w 3) 31 28
  let g := fld (r.w 3) 11 0
  let old := (groupOf s g).owner
  let level := fld (r.w 3) 27 18
  let s1 := markStored 0x09 { s with sch := { s.sch with
    groups := if new = 0 && g != 4095 then tdel s.sch.groups g else tset s.sch.groups g ⟨new, level⟩ } }
  let s2 := logNs evSchConfig r.port.val [r.port.val, r.opcode, g] s1
  if old = new then s2 else evalAuto 0 (ownerChange 1 g r old new s2)

/-- SCH.GROUP_SET (0x0701). -/
def execSchGroupSet (s : State) : Host.Outcome State Fault Refusal := .next (serve 0x0701 chkSchGroupSet (storeAtBoundary 0x09) s)

/-! ### SCH.GROUP_MEMBERS -/

/-- Slots after an add (none: no room, or slot 0 holds another group), with the status of a failure. -/
def addSlot (slot0 : Bool) (g : Nat) (l : List Nat) : Except Nat (List Nat) :=
  let a := l.getD 0 0xFFF
  if slot0 then
    if a = g then .ok l
    else if a ≠ 0xFFF then .error stBadState
    else .ok (g :: (l.drop 1).map fun x => if x = g then 0xFFF else x)
  else if l.contains g then .ok l
  else match (List.range 8).find? fun i => i != 0 && l.getD i 0xFFF == 0xFFF with
    | some i => .ok (updAt l i fun _ => g)
    | none => .error stFull

/-- Slots after SCH.GROUP_MEMBERS. -/
def newSlots (r : Req) (l : List Nat) : Except Nat (List Nat) :=
  let g := fld (r.w 3) 11 0
  if bit (r.w 3) 31 then .ok (l.map fun x => if x = g then 0xFFF else x) else addSlot (bit (r.w 3) 30) g l

/-- The endpoints a request names. -/
def namedEps (r : Req) : List Nat := (List.range (fld (r.w 4) 9 0)).map fun i => fld (r.w (5 + i)) 17 0

/-- The first status that an endpoint's change would fail with. -/
def slotFail (r : Req) (s : State) : Option Nat :=
  (namedEps r).foldl (fun f ep => match f with
    | some x => some x
    | none => (match epOf s ep with
      | some x => (match newSlots r x.groups with | .ok _ => none | .error e => some e)
      | none => none)) none

/-- Checks of SCH.GROUP_MEMBERS. -/
def chkSchGroupMembers (r : Req) (s : State) : Option Fail :=
  let n := fld (r.w 4) 9 0
  let g := fld (r.w 3) 11 0
  let grp := storedGroup s g
  firstFail
    (schHead 0x0702 (2 + n) r s ++
      [ needWorld r s 0x07, need 9 (fld (r.w 3) 29 12 == 0 && g != 4095 && grp.owner != 0) stBadParam 3,
        need 9 (fld (r.w 4) 31 10 == 0 && decide (1 ≤ n) && decide (n ≤ 1019)) stBadParam 4,
        ((List.range n).find? fun i => fld (r.w (5 + i)) 31 18 != 0).map fun i => ⟨9, stBadParam, 5 + i, 0⟩,
        firstFail ((namedEps r).mapIdx fun i e => need 10 (epOf s e).isSome stNoEndpoint (5 + i)), inWord 3 (needOwner r grp.owner),
        firstFail ((namedEps r).mapIdx fun i e => match epOf s e with | some x => inWord (5 + i) (needOwner r x.owner) | none => none),
        (slotFail r s).map fun e => ⟨if e = stFull then 13 else 12, e, 0xFFFF, 0⟩ ])

/-- SCH.GROUP_MEMBERS takes effect: the records are written, and the endpoints told (R293, R294). -/
def applySchGroupMembers (r : Req) (s : State) : State :=
  let s1 := (namedEps r).foldl (fun s ep => match epOf s ep with
    | none => s
    | some x => match newSlots r x.groups with
      | .ok l => if l = x.groups then s else slotsChanged ep x (writeRec ep (updEp ep (fun y => { y with groups := l }) s))
      | .error _ => s) s
  logNs evGroupMembers r.port.val [r.port.val, fld (r.w 3) 11 0, b2n (bit (r.w 3) 31), fld (r.w 4) 9 0]
    (logNs evSchConfig r.port.val [r.port.val, r.opcode, fld (r.w 3) 11 0] s1)

/-- A command that completes with a durable write: the change is undone and MEDIA answered where the write fails (R285). -/
def durable (media : Bool) (apply : Req → State → State) (r : Req) (s : State) : State :=
  if media then ok r [] (apply r s) else failReq r ⟨13, stMedia, 0xFFFF, 0⟩ s

/-- SCH.GROUP_MEMBERS (0x0702). -/
def execSchGroupMembers (media : Bool) (s : State) : Host.Outcome State Fault Refusal :=
  .next (serve 0x0702 chkSchGroupMembers (durable media applySchGroupMembers) s)

/-- Checks of SCH.GROUP_READ. -/
def chkSchGroupRead (r : Req) (s : State) : Option Fail :=
  firstFail (schHead 0x0703 2 r s ++
    [need 9 (fld (r.w 3) 31 12 == 0) stBadParam 3, need 9 (fld (r.w 4) 31 18 == 0) stBadParam 4])

/-- SCH.GROUP_READ, its checks passed. -/
def actSchGroupRead (r : Req) (s : State) : State :=
  let g := fld (r.w 3) 11 0
  let x := groupOf s g
  let all := members s g
  let rest := all.filter fun e => decide (fld (r.w 4) 17 0 ≤ e)
  let l := rest.take 1016
  let done := decide (rest.length ≤ 1016)
  ok r
    ([ packW [(x.owner, 28), (x.level, 18), (b2n (x.owner != 0 || g == 4095), 17), (g, 0)], wd all.length, wd (slot0Members s g),
       packW [((s.sch.entries.filter fun e => e.2.group == g).length, 16), (l.length, 0)],
       packW [(b2n done, 31), (if done then 0 else l.getLast?.getD 0 + 1, 0)] ] ++ l.map wd) s

/-- SCH.GROUP_READ (0x0703). -/
def execSchGroupRead (s : State) : Host.Outcome State Fault Refusal :=
  .next (serve 0x0703 chkSchGroupRead actSchGroupRead s)

/-! ### Entries -/

/-- A start or end argument is within its kind's range (R300). -/
def argOk (kind : Nat) (w : Word) : Bool :=
  if kind = 0 then decide (w.toNat < 86400)
  else if kind = 3 then true
  else decide (-43200 ≤ toSigned 32 w.toNat) && decide (toSigned 32 w.toNat ≤ 43200)

/-- The date fields of E4 are valid. -/
def datesOk (w : Word) : Bool :=
  if fld w 31 28 = 0 then fld w 31 14 == 0
  else decide (fld w 31 28 ≤ 12) && decide (1 ≤ fld w 27 23) && decide (1 ≤ fld w 22 19) && decide (fld w 22 19 ≤ 12) &&
    decide (1 ≤ fld w 18 14)

/-- The group a check asks for ownership of: defined, or 4,095 (R292); an undefined one fails later. -/
def needGroupOwner (r : Req) (s : State) (g : Nat) : Option Fail :=
  let o := (storedGroup s g).owner
  if o = 0 && g != 4095 then none else needOwner r o

/-- Checks of SCH.ENTRY_SET. -/
def chkSchEntrySet (r : Req) (s : State) : Option Fail :=
  let x : SchEntry := ⟨(r.words.drop 4).take 8, true⟩
  let defined := fun g => g == 4095 || (storedGroup s g).owner != 0
  firstFail
    ([ stdHead 0x0704 9 r s, inWord 4 (needOwnerPorts s x.owner), needWorld r s 0x09, needSvc s 0x09,
       need 9 (fld (r.w 3) 31 12 == 0) stBadParam 3, need 9 (bit (x.e 0) 31 && decide (x.level ≤ 1000)) stBadParam 4,
       need 9 ((x.startKind == 3) == (x.endKind == 3) && fld (x.e 1) 27 21 != 0 && fld (x.e 1) 20 16 == 0) stBadParam 5,
       need 9 (argOk x.startKind (x.e 2)) stBadParam 6, need 9 (argOk x.endKind (x.e 3)) stBadParam 7,
       need 9 (datesOk (x.e 4) && fld (x.e 4) 13 0 == 0) stBadParam 8,
       need 9 (!x.luxGate || decide (fld (x.e 5) 31 16 < fld (x.e 5) 15 0)) stBadParam 9,
       need 9 ((x.luxGate || x.sensors == 0xFFF) && fld (x.e 6) 19 0 == 0) stBadParam 10, need 9 (x.e 7 == 0) stBadParam 11,
       inWord 4 (needGroupOwner r s x.group), (if x.luxGate then inWord 10 (needGroupOwner r s x.sensors) else none),
       (match storedEntry s (fld (r.w 3) 11 0) with | some o => inWord 3 (needOwner r o.owner) | none => none), inWord 4 (needOwner r x.owner),
       need 12 (defined x.group && (!x.luxGate || defined x.sensors)) stBadState ])

/-- SCH.ENTRY_SET takes effect: a CYCLE entry notes its epoch (R300, R303). -/
def applySchEntrySet (r : Req) (s : State) : State :=
  let k := fld (r.w 3) 11 0
  let ws := (r.words.drop 4).take 8
  let x : SchEntry := ⟨ws, true⟩
  let ws' := if x.startKind = 3 then updAt ws 4 fun w => w ||| wd (s.tt.reserve.epoch % 256) else ws
  logNs evSchConfig r.port.val [r.port.val, r.opcode, k]
    (markStored 0x09 { s with sch := { s.sch with entries := tset s.sch.entries k ⟨ws', true⟩ } })

/-- SCH.ENTRY_SET (0x0704). -/
def execSchEntrySet (s : State) : Host.Outcome State Fault Refusal := .next (serve 0x0704 chkSchEntrySet (storeAtBoundary 0x09) s)

/-- Checks of SCH.ENTRY_CLEAR. -/
def chkSchEntryClear (r : Req) (s : State) : Option Fail :=
  let e := storedEntry s (fld (r.w 3) 11 0)
  firstFail (schHead 0x0705 1 r s ++
    [ need 9 (fld (r.w 3) 31 12 == 0) stBadParam 3, (match e with | some o => inWord 3 (needOwner r o.owner) | none => none),
      need 12 e.isSome stBadState ])

/-- SCH.ENTRY_CLEAR takes effect. -/
def applySchEntryClear (r : Req) (s : State) : State :=
  let k := fld (r.w 3) 11 0
  logNs evSchConfig r.port.val [r.port.val, r.opcode, k]
    (markStored 0x09 { s with sch := { s.sch with entries := tdel s.sch.entries k } })

/-- SCH.ENTRY_CLEAR (0x0705). -/
def execSchEntryClear (s : State) : Host.Outcome State Fault Refusal := .next (serve 0x0705 chkSchEntryClear (storeAtBoundary 0x09) s)

/-- Checks of SCH.ENTRY_READ. -/
def chkSchEntryRead (r : Req) (s : State) : Option Fail :=
  firstFail (schHead 0x0706 1 r s ++ [need 9 (fld (r.w 3) 31 12 == 0) stBadParam 3])

/-- SCH.ENTRY_READ, its checks passed. -/
def actSchEntryRead (r : Req) (s : State) : State :=
  let k := fld (r.w 3) 11 0
  match tget s.sch.entries k with
  | none => ok r (wd k :: List.replicate 8 0) s
  | some x =>
    let st := if x.expired s then 3 else if x.active s (cycOf s) then 2 else 1
    ok r (packW [(st, 30), (b2n (x.luxGate && x.gateOpen), 29), (k, 0)] :: x.words) s

/-- SCH.ENTRY_READ (0x0706). -/
def execSchEntryRead (s : State) : Host.Outcome State Fault Refusal :=
  .next (serve 0x0706 chkSchEntryRead actSchEntryRead s)

/-! ### Site, time zones, fallback -/

/-- Checks of SCH.SITE. -/
def chkSchSite (r : Req) (s : State) : Option Fail :=
  let within := fun (m : Int) (x : Int) => decide (-m ≤ x) && decide (x ≤ m)
  let h0 := sfld (r.w 5) 31 16
  firstFail
    [ stdHead 0x0707 4 r s, needSecure r s 0x09, needSvc s 0x09, need 9 (within 90000000 (sfld (r.w 3) 31 0)) stBadParam 3,
      need 9 (within 180000000 (sfld (r.w 4) 31 0)) stBadParam 4,
      need 9 (decide (-1800 ≤ h0) && decide (h0 ≤ 100) && decide (10 ≤ fld (r.w 5) 15 0) && decide (fld (r.w 5) 15 0 ≤ 1000)) stBadParam 5,
      need 9 (decide (60 ≤ fld (r.w 6) 31 16) && fld (r.w 6) 15 0 == 0) stBadParam 6 ]

/-- SCH.SITE takes effect; a change brings a resync (R307). -/
def applySchSite (r : Req) (s : State) : State :=
  let x : Site := ⟨sfld (r.w 3) 31 0, sfld (r.w 4) 31 0, sfld (r.w 5) 31 16, fld (r.w 5) 15 0, fld (r.w 6) 31 16⟩
  logNs evSchConfig r.port.val [r.port.val, r.opcode, 0]
    (markStored 0x09 { s with sch := { s.sch with site := some x, resync := s.sch.resync || s.sch.site != some x } })

/-- SCH.SITE (0x0707). -/
def execSchSite (s : State) : Host.Outcome State Fault Refusal := .next (serve 0x0707 chkSchSite (storeAtBoundary 0x09) s)

/-- A transition rule of a word. -/
def dstOf (w : Word) : DstRule := ⟨fld w 31 28, fld w 27 25, fld w 24 22, fld w 21 11, bit w 10⟩

/-- A transition word is valid. -/
def dstOk (w : Word) : Bool :=
  fld w 9 0 == 0 && decide (fld w 31 28 ≤ 12) &&
    (fld w 31 28 == 0 || (decide (1 ≤ fld w 27 25) && decide (fld w 27 25 ≤ 5) && decide (fld w 24 22 ≤ 6) && decide (fld w 21 11 ≤ 1439)))

/-- Checks of SCH.TZ_RULE. -/
def chkSchTzRule (r : Req) (s : State) : Option Fail :=
  let clear := bit (r.w 3) 27
  let std := sfld (r.w 5) 31 16
  let zero := fun i => need 9 (!clear || r.w i == 0) stBadParam i
  firstFail
    [ stdHead 0x0708 5 r s, needSecure r s 0x09, needSvc s 0x09, need 9 (fld (r.w 3) 26 8 == 0) stBadParam 3, zero 4, zero 5,
      need 9 (decide (-720 ≤ std) && decide (std ≤ 840) && decide (fld (r.w 5) 15 0 ≤ 120)) stBadParam 5, zero 6,
      need 9 (dstOk (r.w 6)) stBadParam 6, zero 7, need 9 (dstOk (r.w 7)) stBadParam 7 ]

/-- SCH.TZ_RULE takes effect; a change brings a resync. -/
def applySchTzRule (r : Req) (s : State) : State :=
  let k := fld (r.w 3) 31 28
  let z : TzRule := ⟨fld (r.w 3) 7 0 * 2 ^ 32 + (r.w 4).toNat, sfld (r.w 5) 31 16, fld (r.w 5) 15 0, dstOf (r.w 6), dstOf (r.w 7)⟩
  let t := if bit (r.w 3) 27 then tdel s.sch.tz k else tset s.sch.tz k z
  logNs evSchConfig r.port.val [r.port.val, r.opcode, k]
    (markStored 0x09 { s with sch := { s.sch with tz := t, resync := s.sch.resync || t != s.sch.tz } })

/-- SCH.TZ_RULE (0x0708). -/
def execSchTzRule (s : State) : Host.Outcome State Fault Refusal := .next (serve 0x0708 chkSchTzRule (storeAtBoundary 0x09) s)

/-- Checks of SCH.FALLBACK. -/
def chkSchFallback (r : Req) (s : State) : Option Fail :=
  let g := fld (r.w 3) 11 0
  let lux := g != 0xFFF
  firstFail
    [ stdHead 0x0709 6 r s, needSecure r s 0x09, needSvc s 0x09,
      need 9 (decide (fld (r.w 3) 31 22 ≤ 1000) && decide (fld (r.w 3) 21 12 ≤ 1000)) stBadParam 3,
      need 9 (decide (fld (r.w 5) 31 15 < 86400) && fld (r.w 5) 14 0 == 0) stBadParam 5,
      need 9 (decide (fld (r.w 6) 31 15 < 86400) && fld (r.w 6) 14 0 == 0) stBadParam 6,
      need 9 (!lux || decide (fld (r.w 7) 31 16 < fld (r.w 7) 15 0)) stBadParam 7, need 9 (fld (r.w 8) 15 0 == 0) stBadParam 8,
      (if lux then inWord 3 (needGroupOwner r s g) else none), need 12 (!lux || (storedGroup s g).owner != 0) stBadState ]

/-- SCH.FALLBACK takes effect. -/
def applySchFallback (r : Req) (s : State) : State :=
  let f : Fallback := ⟨fld (r.w 3) 31 22, fld (r.w 3) 21 12, fld (r.w 3) 11 0, sfld (r.w 4) 31 16, sfld (r.w 4) 15 0, fld (r.w 5) 31 15,
    fld (r.w 6) 31 15, fld (r.w 7) 31 16, fld (r.w 7) 15 0, fld (r.w 8) 31 16⟩
  logNs evSchConfig r.port.val [r.port.val, r.opcode, 0]
    (markStored 0x09 { s with sch := { s.sch with fallback := some f, fbGate := true } })

/-- SCH.FALLBACK (0x0709). -/
def execSchFallback (s : State) : Host.Outcome State Fault Refusal := .next (serve 0x0709 chkSchFallback (storeAtBoundary 0x09) s)

/-! ### SCH.EVALUATE -/

/-- The instants at which the level of a group may change with time between two dates: window bounds, the midnights that begin or end a day
of a CYCLE entry and, in AUTONOMOUS, the night's bounds. -/
def changeInstants (s : State) (g : Nat) (d0 d1 : Int) : List Int :=
  let days := (List.range (d1 - d0 + 1).toNat).map fun (i : Nat) => d0 + (i : Int)
  if s.pwr.autonomous then
    (days.map fun d =>
      let w := match fbWindow s d with | some (a, b) => [a, b] | none => []
      w ++ [localInstant s.sch.tz d (fallbackOf s).nightFrom, localInstant s.sch.tz d (fallbackOf s).nightTo]).flatten
  else
    ((s.sch.entries.filter fun x => x.2.group == g || x.2.group == 4095).map fun x =>
      (days.map fun d => if x.2.startKind = 3 then [localInstant s.sch.tz d 0]
        else match x.2.window s d with | some (a, b) => [a, b] | none => []).flatten).flatten

/-- The next time-driven change of a group's level within 7 days: cycle and level (SCH.EVALUATE). -/
def nextChange (s : State) (g : Nat) : Option (Nat × Nat) :=
  let now := cycOf s
  let u := rtcS s
  let d := localDay s.sch.tz u
  let cs := (changeInstants s g (d - 2) (d + 8)).filterMap fun t => if u < t ∧ t ≤ u + 604800 then some (cycAt s t) else none
  let cyc := if s.pwr.autonomous then [] else ((s.sch.entries.filter fun x => x.2.startKind == 3).map fun x =>
      [nearCycle now (x.2.e 2).toNat, nearCycle now (x.2.e 3).toNat]).flatten.filter fun (c : Int) =>
        decide (instOf s c.toNat ≤ (u + 604800) * 65536)
  let cur := (baseAt s g now).level
  match minI ((cs ++ cyc).filter fun c => decide ((now : Int) < c) && (baseAt s g c.toNat).level != cur) with
  | some c => some (c.toNat, (baseAt s g c.toNat).level)
  | none => none

/-- A valid calendar date of a request word. -/
def dateOk (w : Word) : Bool :=
  decide (2000 ≤ fld w 31 16) && decide (1 ≤ fld w 15 8) && decide (fld w 15 8 ≤ 12) && decide (1 ≤ fld w 7 0) &&
    decide ((fld w 7 0 : Int) ≤ monthDays (fld w 31 16) (fld w 15 8))

/-- The day of a request word. -/
def dayOfWord (w : Word) : Int := dayOf (fld w 31 16) (fld w 15 8) (fld w 7 0)

/-- Offset in force, in min, and the rule at an instant, as a word. -/
def tzWord (s : State) (t : Int) : Word :=
  packW [(ofSigned 16 (tzOff s.sch.tz t / 60), 16), (match tzRuleAt s.sch.tz t with | some x => x.1 | none => 0xFFFF, 0)]

/-- The sun events of a date at the stored site. -/
def sunDay (s : State) (day : Int) : Sun × Sun :=
  match s.sch.site with | some st => (sunEvent st day true, sunEvent st day false) | none => (.below, .below)

/-- An event's instant. -/
def Sun.time : Sun → Option Int | .at_ t => some t | _ => none

/-- Checks of SCH.EVALUATE. -/
def chkSchEvaluate (r : Req) (s : State) : Option Fail :=
  let m := fld (r.w 3) 31 30
  let sun := sunDay s (dayOfWord (r.w 4))
  firstFail (schHead 0x070A (if m = 1 then 2 else 1) r s ++
    [ need 9 (fld (r.w 3) 29 12 == 0 && (m == 0 || m == 2 || fld (r.w 3) 11 0 == 0)) stBadParam 3, need 9 (m != 1 || dateOk (r.w 4)) stBadParam 4,
      need 12 (m != 1 || s.sch.site.isSome) stBadState,
      need 12 (m != 1 || sun.1.time.isSome || sun.2.time.isSome) stNoSolarEvent 0xFFFF (if sun.1 = .above then 2 else 1) ])

/-- The words of `MODE` 1. -/
def sunWords (s : State) (w : Word) : List Word :=
  let (a, b) := sunDay s (dayOfWord w)
  let sec := fun x : Sun => wd ((x.time.getD 0) % 2 ^ 32).toNat
  let loc := fun x : Sun => match x.time with | some t => wd (localAt s.sch.tz t % 86400).toNat | none => 0
  [ packW [(b2n (a == .above || b == .above), 2), (b2n b.time.isNone, 1), (b2n a.time.isNone, 0)], sec a, sec b, loc a, loc b,
    tzWord s (a.time.getD (b.time.getD 0)) ]

/-- SCH.EVALUATE, its checks passed. -/
def actSchEvaluate (r : Req) (s : State) : State :=
  let m := fld (r.w 3) 31 30
  let g := fld (r.w 3) 11 0
  if m = 0 then
    let b := baseAt s g (cycOf s)
    let n := nextChange s g
    ok r [ packW [(b.level, 22), (b2n b.winner.isNone, 21), (b2n s.pwr.autonomous, 20), (b.winner.getD 0, 0)],
      wd (match n with | some x => x.1 | none => 0), packW [(match n with | some x => x.2 | none => 0, 22)], wd (slot0Members s g) ] s
  else if m = 1 then ok r (sunWords s (r.w 4)) s
  else if m = 2 then
    let l := luxReports s g
    let newest := l.foldl (fun c x => Nat.max c x.cyc) 0
    let oldest := l.foldl (fun t x => Nat.max t ((s.clk.ticks - x.tick) / 40000000)) 0
    ok r [packW [((luxOf s g).getD 0, 16), (sat 16 l.length, 0)], wd newest, wd (sat 16 oldest)] s
  else
    let t := rtcS s
    ok r [dateWord (localDay s.sch.tz t), wd (localAt s.sch.tz t % 86400).toNat, tzWord s t] s

/-- SCH.EVALUATE (0x070A). -/
def execSchEvaluate (s : State) : Host.Outcome State Fault Refusal :=
  .next (serve 0x070A chkSchEvaluate actSchEvaluate s)

end Sys2Proof.Machine
end

