-- ==== Sys2Proof/Machine/ChdCmd.lean ====
section
/-!
DEFINITION. The CHD commands (10, R312, R313, R325).
-/
namespace Sys2Proof.Machine

/-- What every CHD command checks first. -/
def chdHead (code : Nat) (lenOk : Bool) (r : Req) (s : State) : List (Option Fail) :=
  [ match opRow code with | some row => headChecks r row (modeServed s) lenOk s | none => none, needWorld r s 0x0A, needSvc s 0x0A ]

/-! ### Corridor images (R312) -/

/-- Sensor `i` of an image. -/
def imgSensor (ws : List Word) (i : Nat) : ChdSensor :=
  ⟨bit (wAt ws (8 + 2 * i)) 31, fld (wAt ws (8 + 2 * i)) 17 0, fld (wAt ws (9 + 2 * i)) 31 16⟩

/-- Lantern `j` of an image with `n` sensors. -/
def imgLantern (ws : List Word) (n j : Nat) : ChdLantern :=
  ⟨fld (wAt ws (8 + 2 * n + 2 * j)) 17 0, fld (wAt ws (9 + 2 * n + 2 * j)) 31 16⟩

/-- The corridor of an image. -/
def corridorImg (ws : List Word) : Corridor :=
  let h := fun i a b => fld (wAt ws i) a b
  ⟨h 0 31 28, bit (wAt ws 0) 27, h 0 26 25, bit (wAt ws 0) 24, h 0 23 12, h 0 9 0, h 1 31 16, h 1 15 0, h 2 31 16, h 2 15 0, h 3 31 16,
   h 3 15 0, h 4 31 16, h 4 15 0, h 5 31 16, h 5 15 0, (List.range (h 6 31 26)).map (imgSensor ws),
   (List.range (h 6 25 16)).map (imgLantern ws (h 6 31 26))⟩

/-- The image of a corridor. -/
def corridorWords (c : Corridor) : List Word :=
  [ packW [(c.owner, 28), (b2n c.enable, 27), (c.dirMask, 25), (b2n c.gate, 24), (c.gateGroup, 12), (c.lit, 0)],
    packW [(c.length, 16), (c.mergeGap, 0)], packW [(c.ahead, 16), (c.behind, 0)], packW [(c.hold, 16), (c.fadeUp, 0)],
    packW [(c.fadeDown, 16), (c.vDefault, 0)], packW [(c.vMin, 16), (c.vMax, 0)],
    packW [(c.sensors.length, 26), (c.lanterns.length, 16)], 0 ] ++
  (c.sensors.map fun x => [packW [(b2n x.flip, 31), (x.ep, 0)], packW [(x.pos, 16)]]).flatten ++
  (c.lanterns.map fun x => [wd x.ep, packW [(x.pos, 16)]]).flatten

/-- The first word of an image that breaks a limit (R313). -/
def imgFault (ws : List Word) : Option Nat :=
  let c := corridorImg ws
  let n := c.sensors.length
  let m := c.lanterns.length
  let head : List (Nat × Bool) :=
    [ (0, c.dirMask != 0 && fld (wAt ws 0) 11 10 == 0 && decide (c.lit ≤ 1000)), (1, c.length != 0), (2, decide (1 ≤ c.ahead + c.behind)),
      (4, decide (c.vMin ≤ c.vDefault) && decide (c.vDefault ≤ c.vMax)), (5, c.vMin != 0),
      (6, decide (1 ≤ n) && decide (n ≤ 32) && decide (1 ≤ m) && decide (m ≤ 512) && fld (wAt ws 6) 15 0 == 0 && ws.length == 8 + 2 * n + 2 * m),
      (7, wAt ws 7 == 0) ]
  let sens := (List.range n).map fun i =>
    [(8 + 2 * i, fld (wAt ws (8 + 2 * i)) 30 18 == 0), (9 + 2 * i, decide ((imgSensor ws i).pos < c.length) && fld (wAt ws (9 + 2 * i)) 15 0 == 0)]
  let lant := (List.range m).map fun j =>
    let x := imgLantern ws n j
    let before := c.lanterns.take j
    [ (8 + 2 * n + 2 * j, fld (wAt ws (8 + 2 * n + 2 * j)) 31 18 == 0 && !(before.any fun y => y.ep == x.ep)),
      (9 + 2 * n + 2 * j, decide (x.pos < c.length) && fld (wAt ws (9 + 2 * n + 2 * j)) 15 0 == 0 &&
        (match before.getLast? with | some y => decide (y.pos ≤ x.pos) | none => true)) ]
  ((head ++ sens.flatten ++ lant.flatten).find? fun x => !x.2).map Prod.fst

/-! ### CHD.CORRIDOR_SET -/

/-- The corridor that a request names. -/
def chdNum (r : Req) : Nat := fld (r.w 3) 9 0

/-- The words of an image loaded so far by a port. -/
def loadedImg (s : State) (r : Req) : List Word :=
  if bit (r.w 3) 31 then []
  else match s.chd.loads.find? fun l => l.port == r.port.val && l.corridor == chdNum r && l.total == fld (r.w 4) 15 0 with
    | some l => l.words
    | none => []

/-- The image as far as a chunk takes it; a request that carries the whole image stands alone. -/
def imgWith (s : State) (r : Req) : List Word :=
  let c := r.words.drop 5
  if c.length = fld (r.w 4) 15 0 then c else loadedImg s r ++ c

/-- A corridor as stored. -/
def storedCorridor (s : State) (k : Nat) : Option Corridor :=
  match waitingCfg s fun r => (r.opcode == 0x0801 || r.opcode == 0x0802) && chdNum r == k with
  | some r => if r.opcode = 0x0801 then some (corridorImg (r.words.drop 5)) else none
  | none => corridorOf s k

/-- The class of an endpoint. -/
def clsOf (s : State) (ep : Nat) : Option Nat := (epOf s ep).map fun x => x.cls

/-- The request word that carries an image word; none does where an earlier chunk brought it (R162). -/
def imgWordIn (r : Req) (i : Nat) : Nat := if fld (r.w 4) 31 16 ≤ i then 5 + i - fld (r.w 4) 31 16 else 0xFFFF

/-- Checks of a complete image. GEOMETRY names the image word (R313), any other failure the request word. -/
def chkImage (r : Req) (ws : List Word) (s : State) : List (Option Fail) :=
  let c := corridorImg ws
  let eps := c.sensors.map (fun x => x.ep) ++ c.lanterns.map fun x => x.ep
  [ (imgFault ws).map fun w => ⟨9, stGeometry, w, 0⟩,
    firstFail (eps.mapIdx fun i e =>
      let cls := if i < c.sensors.length then 2 else 1
      need 9 ((clsOf s e).getD cls == cls) stBadParam (imgWordIn r (8 + 2 * i))),
    firstFail (eps.mapIdx fun i e => need 10 (epOf s e).isSome stNoEndpoint (imgWordIn r (8 + 2 * i))),
    (match storedCorridor s (chdNum r) with | some o => inWord 3 (needOwner r o.owner) | none => none),
    inWord (imgWordIn r 0) (needOwner r c.owner),
    firstFail (c.lanterns.mapIdx fun j x => match epOf s x.ep with
      | some e => inWord (imgWordIn r (8 + 2 * c.sensors.length + 2 * j)) (needOwner r e.owner) | none => none) ]

/-- Checks of CHD.CORRIDOR_SET: chunks follow in order, and the image is checked at `LAST`. -/
def chkChdCorridorSet (r : Req) (s : State) : Option Fail :=
  let last := bit (r.w 3) 30
  let whole := decide ((r.words.drop 5).length = fld (r.w 4) 15 0)
  let off := fld (r.w 4) 31 16
  let total := fld (r.w 4) 15 0
  let n := r.len - 2
  let ws := imgWith s r
  let c := corridorImg ws
  let row := opRow 0x0801
  firstFail
    ([ match row with | some row => headChecks r row (modeServed s) (decide (3 ≤ r.len)) s | none => none,
       (if last then inWord (imgWordIn r 0) (needOwnerPorts s c.owner) else none), needWorld r s 0x0A, (if last then needWorld r s 0x07 else none), needSvc s 0x0A,
       need 9 (fld (r.w 3) 29 10 == 0) stBadParam 3,
       need 9 (decide (12 ≤ total) && decide (total ≤ 1096) && (whole || off == (loadedImg s r).length) && decide (off + n ≤ total) &&
         (!last || off + n == total)) stBadParam 4 ] ++
      (if last then chkImage r ws s else []))

/-- A chunk kept until its image is complete; a `FIRST` chunk discards an unfinished image of the port. -/
def keepChunk (r : Req) (s : State) : State :=
  let rest := s.chd.loads.filter fun l => !(l.port == r.port.val && l.corridor == chdNum r)
  { s with chd := { s.chd with
    loads := if bit (r.w 3) 30 then rest else rest ++ [⟨r.port.val, chdNum r, fld (r.w 4) 15 0, imgWith s r⟩] } }

/-- The waves of a corridor ended (R325). -/
def endWaves (k : Nat) (s : State) : State :=
  ((s.chd.waves.filter fun w => w.2.corridor == k).map Prod.fst).foldl (fun s i => dropWave i s) s

/-- A corridor that is replaced or cleared: its waves end and its lanterns are sent what R320 gives them. -/
def retire (k : Nat) (old : Corridor) (s : State) : State :=
  let s1 := endWaves k s
  if chdRuns s1 then sendCorridor old levelAt s1 else s1

/-- CHD.CORRIDOR_SET takes effect, with its last chunk. -/
def applyChdCorridorSet (r : Req) (s : State) : State :=
  let ws := imgWith s r
  let s1 := keepChunk r s
  if !bit (r.w 3) 30 then s1
  else
    let k := chdNum r
    let c := corridorImg ws
    let old := corridorOf s k
    let s2 := markStored 0x0A { s1 with chd := { s1.chd with corridors := tset s1.chd.corridors k c } }
    let s3 := match old with | some o => retire k o s2 | none => s2
    let was := match old with | some o => o.owner | none => 0
    let s4 := logNs evChdCorridor r.port.val [r.port.val, k, b2n old.isSome, c.sensors.length, c.lanterns.length] s3
    if was = c.owner then s4 else evalAuto 0 (ownerChange 2 k r was c.owner s4)

/-- CHD.CORRIDOR_SET, its checks passed. -/
def actChdCorridorSet (r : Req) (s : State) : State :=
  if !bit (r.w 3) 30 then ok r [] (keepChunk r s)
  else
    let full : Req := { r with words := r.words.take 5 ++ imgWith s r }
    match tlPost (nextBoundary s) 3 0x0A (.config full) (keepChunk r s) with
    | some s1 => ok r [] s1
    | none => failReq r ⟨13, stFull, 0xFFFF, 0⟩ (tlFull 0x0A 2 s)

/-- CHD.CORRIDOR_SET (0x0801). -/
def execChdCorridorSet (s : State) : Host.Outcome State Fault Refusal :=
  .next (serve 0x0801 chkChdCorridorSet actChdCorridorSet s)

/-! ### The other commands -/

/-- Checks of CHD.CORRIDOR_CLEAR. -/
def chkChdCorridorClear (r : Req) (s : State) : Option Fail :=
  let c := storedCorridor s (chdNum r)
  firstFail (chdHead 0x0802 (r.len == 1) r s ++
    [ need 9 (fld (r.w 3) 31 10 == 0) stBadParam 3, (match c with | some o => inWord 3 (needOwner r o.owner) | none => none),
      need 12 c.isSome stBadState ])

/-- CHD.CORRIDOR_CLEAR takes effect. -/
def applyChdCorridorClear (r : Req) (s : State) : State :=
  let k := chdNum r
  match corridorOf s k with
  | none => s
  | some o =>
    let s1 := markStored 0x0A { s with chd := { s.chd with corridors := tdel s.chd.corridors k } }
    let s2 := logNs evChdCorridor r.port.val [r.port.val, k, 2, o.sensors.length, o.lanterns.length] (retire k o s1)
    evalAuto 0 (ownerChange 2 k r o.owner 0 s2)

/-- CHD.CORRIDOR_CLEAR (0x0802). -/
def execChdCorridorClear (s : State) : Host.Outcome State Fault Refusal :=
  .next (serve 0x0802 chkChdCorridorClear (storeAtBoundary 0x0A) s)

/-- Checks of CHD.CORRIDOR_READ. -/
def chkChdCorridorRead (r : Req) (s : State) : Option Fail :=
  firstFail (chdHead 0x0803 (r.len == 2) r s ++
    [ need 9 (fld (r.w 3) 31 10 == 0) stBadParam 3, need 9 (fld (r.w 4) 31 16 == 0) stBadParam 4,
      need 12 (corridorOf s (chdNum r)).isSome stBadState ])

/-- CHD.CORRIDOR_READ, its checks passed. -/
def actChdCorridorRead (r : Req) (s : State) : State :=
  match corridorOf s (chdNum r) with
  | none => s
  | some c =>
    let all := corridorWords c
    let l := (all.drop (fld (r.w 4) 15 0)).take 1019
    let ws := s.chd.waves.filter fun w => w.2.corridor == chdNum r
    let lit := (c.lanterns.filter fun x => ws.any fun w => w.2.lights s c x.pos (cycOf s)).length
    ok r ([packW [(all.length, 16), (l.length, 0)], packW [(ws.length, 16), (lit, 0)]] ++ l) s

/-- CHD.CORRIDOR_READ (0x0803). -/
def execChdCorridorRead (s : State) : Host.Outcome State Fault Refusal :=
  .next (serve 0x0803 chkChdCorridorRead actChdCorridorRead s)

/-- Word 3 of CHD.CONFIG. -/
def chdCfgWord (c : Chord) : Word := packW [(c.every, 24), (c.lead, 14), (c.fwd, 10), (b2n c.on, 9)]

/-- Checks of CHD.CONFIG. -/
def chkChdConfig (r : Req) (s : State) : Option Fail :=
  let e := fld (r.w 3) 31 24
  let l := fld (r.w 3) 23 14
  firstFail
    [ stdHead 0x0804 1 r s, needSecure r s 0x0A, needSvc s 0x0A,
      need 9 (decide (1 ≤ e) && decide (e ≤ 50) && decide (2 ≤ l) && decide (l ≤ 1000) && fld (r.w 3) 8 0 == 0) stBadParam 3 ]

/-- CHD.CONFIG takes effect. -/
def applyChdConfig (r : Req) (s : State) : State :=
  logEv evChdConfig r.port.val [wd r.port.val, chdCfgWord s.chd, r.w 3]
    (markStored 0x0A { s with chd := { s.chd with
      every := fld (r.w 3) 31 24, lead := fld (r.w 3) 23 14, fwd := fld (r.w 3) 13 10, on := bit (r.w 3) 9 } })

/-- CHD.CONFIG (0x0804). -/
def execChdConfig (s : State) : Host.Outcome State Fault Refusal := .next (serve 0x0804 chkChdConfig (storeAtBoundary 0x0A) s)

/-- Checks of CHD.WAVES. -/
def chkChdWaves (r : Req) (s : State) : Option Fail :=
  firstFail (chdHead 0x0805 (r.len == 1) r s ++ [need 9 (fld (r.w 3) 22 10 == 0) stBadParam 3])

/-- CHD.WAVES, its checks passed. -/
def actChdWaves (r : Req) (s : State) : State :=
  let mine := s.chd.waves.filter fun w => bit (r.w 3) 23 || w.2.corridor == chdNum r
  let rest := mine.filter fun w => decide (fld (r.w 3) 31 24 ≤ w.1)
  let l := rest.take 170
  ok r (packW [(l.length, 24), (mine.length, 15), (b2n (decide (170 < rest.length)), 14), (match (rest.drop 170).head? with
      | some w => w.1 | none => 0, 0)] :: (l.map fun w => waveWords s w.1 w.2).flatten) s

/-- CHD.WAVES (0x0805). -/
def execChdWaves (s : State) : Host.Outcome State Fault Refusal :=
  .next (serve 0x0805 chkChdWaves actChdWaves s)

/-- Checks of CHD.INJECT. -/
def chkChdInject (r : Req) (s : State) : Option Fail :=
  let dir := fld (r.w 3) 29 28
  let c := corridorOf s (chdNum r)
  firstFail
    [ match opRow 0x0806 with
        | some row => headChecks r row (modeServed s && s.pwr.mode != .commission) (r.len == 2) s | none => none,
      needWorld r s 0x0A, needSvc s 0x0A,
      need 9 (decide (fld (r.w 3) 31 30 ≤ 1) && dir != 3 && fld (r.w 3) 27 26 == 0) stBadParam 3, need 9 (fld (r.w 4) 15 0 == 0) stBadParam 4,
      aacCheck r s, need 9 (match c with | some c => decide (fld (r.w 3) 25 10 < c.length) | none => true) stGeometry 3,
      (match c with | some c => inWord 3 (needOwner r c.owner) | none => none),
      need 12 (match c with | some c => c.enable && s.chd.on && !(dirsOf c dir false).isEmpty && gateOpen s c | none => false) stBadState ]

/-- CHD.INJECT, its checks passed. -/
def actChdInject (r : Req) (s : State) : State :=
  match corridorOf s (chdNum r) with
  | none => s
  | some c =>
    let traffic := fld (r.w 3) 31 30 == 1
    let td := match r.target with | some t => t * 4096 | none => s.tt.tt
    let o := fun down => (⟨chdNum r, traffic, down, fld (r.w 3) 25 10, fld (r.w 4) 31 16, td, 0x3FFFF, true⟩ : Offer)
    match dirsOf c (fld (r.w 3) 29 28) false with
    | [] => s
    | d :: more => match offer (o d) c s with
      | .limit => failReq r ⟨13, stWaveLimit, 0xFFFF, 0⟩ s
      | .noEntry => failReq r ⟨13, stFull, 0xFFFF, 0⟩ (tlFull 0x0A 2 s)
      | .wave id merged s1 =>
        let s2 := more.foldl (fun s d => offerOr (o d) c s) (chdEval s1)
        let w := (tget s1.chd.waves id).getD default
        let n := (c.lanterns.filter fun l => (w.span s1 c l.pos).isSome).length
        ok r [packW [(id, 24), (b2n merged, 23), (n, 0)], wd (td / 4096), wd w.endCyc] s2

/-- CHD.INJECT (0x0806). -/
def execChdInject (s : State) : Host.Outcome State Fault Refusal :=
  .next (serve 0x0806 chkChdInject actChdInject s)

end Sys2Proof.Machine
end

