-- ==== Sys2Proof/Machine/LatCmd.lean ====
section
/-!
DEFINITION. The LAT commands, link keys, checkpoints and the journal (09, R251 to R260, R285 to R289).
-/
namespace Sys2Proof.Machine

/-- What every LAT command of fixed length checks first. -/
def latHead (code n : Nat) (r : Req) (s : State) : List (Option Fail) := [stdHead code n r s, needWorld r s 0x07]

/-- Check 10: an index names an endpoint. -/
def needEp (s : State) (ep : Nat) : Option Fail := need 10 (epOf s ep).isSome stNoEndpoint 3

/-- Check 11 on an endpoint. -/
def needEpOwner (r : Req) (s : State) (ep : Nat) : Option Fail :=
  match epOf s ep with | some x => inWord 3 (needOwner r x.owner) | none => none

/-- Routers recorded (R265). -/
def routerCount (s : State) : Nat := (s.lat.recs.filter fun x => x.2.router).length

/-- A class of R18. -/
def classOk (c : Nat) : Bool := decide (1 ≤ c) && decide (c ≤ 6)

/-- A feeder field of a record: 0 to 3, or 0xF for none. -/
def feederOk (f : Nat) : Bool := decide (f ≤ 3) || f == 15

/-- Codes of the record states (R251). -/
def epCode : EpSt → Nat
  | .provisioned => 1 | .active => 2 | .orphan => 3 | .removing => 4

/-- A record as 32 words (R252). -/
def recWordsOf (x : EpRec) (secure : Bool) : List Word :=
  let key := fun k : Option (List Word) => if secure then (match k with | some w => w | none => List.replicate 6 0) else List.replicate 6 0
  [ packW [(epCode x.st, 29), (b2n x.router, 28), (x.owner, 24), (x.cls, 16), (x.short, 0)], hi32 x.eui, lo32 x.eui,
    packW [(x.engine, 26), (x.sleepy, 24), (b2n x.mains, 23), (b2n x.viaRouter, 22), (x.hops, 18), (x.parent, 0)],
    packW [(x.route, 16), (x.sp, 0)], packW [(x.pollInt, 16), (x.eps, 0)],
    packW [(x.secLevel, 29), (b2n x.prevValid, 28), (x.kekSlot, 18)], wd x.overlapEnd ] ++ key x.keyCur ++ key x.keyPrev ++
  [ wd x.inCur, wd x.inPrev, wd x.outCtr, packW [(x.feeder, 28), (x.line, 26), (x.fwVer, 0)] ] ++
  ((List.range 4).map fun k => packW [(x.groups.getD (2 * k) 0xFFF, 16), (x.groups.getD (2 * k + 1) 0xFFF, 0)]) ++
  [ wd x.energy, wd x.energyCyc, packW [(x.level, 16), (x.tid, 8), (x.fails, 0)], wd x.heardCyc ]

/-! ### LAT.ADD, LAT.REMOVE -/

/-- The index of LAT.ADD: the one named, or the lowest free one. -/
def addIndex (r : Req) (s : State) : Nat :=
  if bit (r.w 3) 19 then freeShort (s.lat.recs.map Prod.fst) s.lat.recs.length 0 else fld (r.w 3) 17 0

/-- EUI-64 of a request. -/
def reqEui (r : Req) : Nat := (r.w 4).toNat * 2 ^ 32 + (r.w 5).toNat

/-- Checks of LAT.ADD. -/
def chkLatAdd (r : Req) (s : State) : Option Fail :=
  let own := fld (r.w 3) 23 20
  let lvl := fld (r.w 6) 31 29
  firstFail
    [ stdHead 0x0501 5 r s, inWord 3 (needOwnerPorts s own), needWorld r s 0x07, need 9 (!bit (r.w 3) 18 && classOk (fld (r.w 3) 31 24)) stBadParam 3,
      need 9 (decide (5 ≤ lvl) && fld (r.w 6) 27 0 == 0) stBadParam 6, need 9 (feederOk (fld (r.w 7) 31 28) && fld (r.w 7) 25 0 == 0) stBadParam 7,
      inWord 3 (needOwner r own),
      (match byEui s (reqEui r) with | some x => some ⟨12, stDuplicate, 4, x.1 % 65536⟩ | none => none),
      need 12 (bit (r.w 3) 19 || (epOf s (fld (r.w 3) 17 0)).isNone) stBadState,
      need 13 (!bit (r.w 6) 28 || decide (routerCount s < 32768)) stRouteFull, need 13 (decide (s.lat.recs.length < 262144)) stFull ]

/-- The record LAT.ADD makes. -/
def newRec (r : Req) : EpRec :=
  { st := .provisioned, router := bit (r.w 6) 28, owner := fld (r.w 3) 23 20, cls := fld (r.w 3) 31 24, short := 0xFFFE, eui := reqEui r
    engine := 0, sleepy := 0, mains := false, viaRouter := false, hops := 1, parent := 0, route := 0xFFFF, sp := 0, pollInt := 0, eps := 0
    secLevel := fld (r.w 6) 31 29, prevValid := false, kekSlot := 0, overlapEnd := 0, keyCur := none, keyPrev := none, inCur := 0
    inPrev := 0, outCtr := 0, feeder := fld (r.w 7) 31 28, line := fld (r.w 7) 27 26, fwVer := 0, groups := List.replicate 8 0xFFF
    energy := 0, energyCyc := 0, level := 0xFFFF, tid := 0, fails := 0, heardCyc := 0 }

/-- LAT.ADD takes effect. -/
def applyLatAdd (r : Req) (s : State) : State :=
  let ep := addIndex r s
  let s1 := writeRec ep { s with lat := { s.lat with recs := tset s.lat.recs ep (newRec r) } }
  evalAuto 0 (ownerChange 3 ep r 0 (fld (r.w 3) 23 20) s1)

/-- LAT.ADD, its checks passed. -/
def actLatAdd (media : Bool) (r : Req) (s : State) : State :=
  if media then ok r [wd (addIndex r s)] (applyLatAdd r s) else failReq r ⟨13, stMedia, 0xFFFF, 0⟩ s

/-- LAT.ADD (0x0501). -/
def execLatAdd (media : Bool) (s : State) : Host.Outcome State Fault Refusal :=
  .next (serve 0x0501 chkLatAdd (actLatAdd media) s)

/-- Checks of LAT.REMOVE. -/
def chkLatRemove (r : Req) (s : State) : Option Fail :=
  let ep := fld (r.w 3) 17 0
  firstFail (latHead 0x0502 1 r s ++
    [ need 9 (fld (r.w 3) 30 18 == 0) stBadParam 3, needEp s ep, needEpOwner r s ep,
      need 12 (match epOf s ep with | some x => x.st != .removing | none => true) stBadState,
      need 13 (!bit (r.w 3) 31 || decide ((s.txn.txns.filter fun t => t.ep != ep).length < 32768)) stFull ])

/-- LAT.REMOVE takes effect (R258, R285): transactions end, and a LEAVE goes first where it is asked for; the record is then written as
REMOVING. DEDUCED: an endpoint without a short address has never joined, so that no LEAVE can be sent to it (log entry 57, on removals). -/
def applyLatRemove (r : Req) (s : State) : State :=
  let ep := fld (r.w 3) 17 0
  let mine := s.txn.txns.filter fun t => t.ep == ep
  let s1 := mine.foldl (fun s t => match txnOf s t.id with | some u => finishTxn u stAbandoned 3 noRes s | none => s) s
  let s2 := updEp ep (fun x => { x with st := .removing }) s1
  match epOf s2 ep with
  | none => s2
  | some x =>
    if bit (r.w 3) 31 && x.short != 0xFFFE then
      startTxn (.leave r.port) ep none false false [4] none (ownDeadline s2) (writeRec ep s2)
    else eraseEp ep r.port.val false s2

/-- LAT.REMOVE (0x0502). -/
def execLatRemove (media : Bool) (s : State) : Host.Outcome State Fault Refusal :=
  .next (serve 0x0502 chkLatRemove (durable media applyLatRemove) s)

/-! ### LAT.READ, LAT.FIND, LAT.ROUTE_READ -/

/-- Checks of LAT.READ. -/
def chkLatRead (r : Req) (s : State) : Option Fail :=
  firstFail (latHead 0x0503 1 r s ++ [need 9 (fld (r.w 3) 31 18 == 0) stBadParam 3, needEp s (fld (r.w 3) 17 0)])

/-- LAT.READ, its checks passed. -/
def actLatRead (r : Req) (s : State) : State :=
  match epOf s (fld (r.w 3) 17 0) with
  | some x => ok r (recWordsOf x (portSecure s r.port)) s
  | none => s

/-- LAT.READ (0x0503): words 8 to 19 are 0 to a port that is not secure (R253). -/
def execLatRead (s : State) : Host.Outcome State Fault Refusal :=
  .next (serve 0x0503 chkLatRead actLatRead s)

/-- The endpoint that LAT.FIND finds. -/
def findEp (r : Req) (s : State) : Option (Nat × EpRec) :=
  if bit (r.w 3) 0 then byShort s (fld (r.w 4) 31 26) (fld (r.w 4) 15 0) else byEui s (reqEui r)

/-- Checks of LAT.FIND. -/
def chkLatFind (r : Req) (s : State) : Option Fail :=
  let by_ := bit (r.w 3) 0
  let n := fld (r.w 4) 31 26
  firstFail
    [ stdHead 0x0505 3 r s, need 6 (!by_ || decide (n < engineCount s.dev.variant)) stAbsent 4 (0x0600 + n), needWorld r s 0x07,
      need 9 (fld (r.w 3) 31 1 == 0) stBadParam 3, need 9 (!by_ || fld (r.w 4) 25 16 == 0) stBadParam 4,
      need 9 (!by_ || r.w 5 == 0) stBadParam 5, need 10 (findEp r s).isSome stNoEndpoint (if by_ then 4 else 0xFFFF) ]

/-- LAT.FIND, its checks passed. -/
def actLatFind (r : Req) (s : State) : State :=
  match findEp r s with
  | some (ep, x) =>
    ok r [packW [(epCode x.st, 29), (ep, 0)], hi32 x.eui, lo32 x.eui, packW [(x.engine, 26), (x.short, 0)],
      packW [(x.owner, 24), (x.cls, 16)]] s
  | none => s

/-- LAT.FIND (0x0505). -/
def execLatFind (s : State) : Host.Outcome State Fault Refusal :=
  .next (serve 0x0505 chkLatFind actLatFind s)

/-- Codes of the route states (R265). -/
def routeCode : RouteSt → Nat
  | .valid => 1 | .suspect => 2 | .broken => 3

/-- A route entry of 16 words (R265), 0 for a free one. -/
def routeWords (r : Option Route) : List Word :=
  match r with
  | none => List.replicate 16 0
  | some x =>
    [packW [(routeCode x.st, 30), (x.hops.length, 26), (x.engine, 20), (x.last, 0)]] ++
    ((List.range 8).map fun k => match x.hops[k]? with | some h => packW [(h.1, 24), (h.2, 0)] | none => 0) ++
    [packW [(x.alt, 16), (x.users, 0)], wd x.learnCyc, wd x.okCyc, packW [(sat 16 x.fails, 16), (x.reroutes, 0)], 0, 0, 0]

/-- Checks of LAT.ROUTE_READ. -/
def chkLatRouteRead (r : Req) (s : State) : Option Fail :=
  let byRoute := bit (r.w 3) 31
  firstFail (latHead 0x0508 1 r s ++
    [ need 9 (fld (r.w 3) 30 18 == 0 && (!byRoute || fld (r.w 3) 17 16 == 0)) stBadParam 3,
      (if byRoute then none else needEp s (fld (r.w 3) 17 0)) ])

/-- LAT.ROUTE_READ, its checks passed. -/
def actLatRouteRead (r : Req) (s : State) : State :=
  let byRoute := bit (r.w 3) 31
  let ep := fld (r.w 3) 17 0
  let x := if byRoute then none else epOf s ep
  let id := if byRoute then fld (r.w 3) 15 0 else match x with | some x => if x.viaRouter then x.route else 0xFFFF | none => 0xFFFF
  let p := routeOf s id
  let alt := match p with | some p => p.alt | none => 0xFFFF
  let count := fun st => (s.lat.routes.filter fun y => y.2.st == st).length
  let w4 := match x with
    | some x => packW [(x.engine, 26), (x.hops, 22), (ep, 0)]
    | none => (match p with | some p => packW [(p.engine, 26), (p.hops.length, 22), (p.last, 0)] | none => 0)
  ok r ([packW [(id, 16), (alt, 0)], w4, packW [(sat 16 (count .valid), 16), (sat 16 (count .broken), 0)], 0, 0] ++ routeWords p ++
    routeWords (routeOf s alt)) s

/-- LAT.ROUTE_READ (0x0508). -/
def execLatRouteRead (s : State) : Host.Outcome State Fault Refusal :=
  .next (serve 0x0508 chkLatRouteRead actLatRouteRead s)

/-! ### LAT.UPDATE -/

/-- A bit of `MASK`. -/
def latMask (r : Req) (b : Nat) : Bool := bit (r.w 3) b

/-- Group slots of words 7 to 10. -/
def slotsOf (r : Req) : List Nat := ((List.range 4).map fun k => [fld (r.w (7 + k)) 27 16, fld (r.w (7 + k)) 11 0]).flatten

/-- The record after LAT.UPDATE. -/
def updatedRec (r : Req) (x : EpRec) : EpRec :=
  let x := if latMask r 24 then { x with owner := fld (r.w 4) 27 24, cls := fld (r.w 4) 23 16 } else x
  let x := if latMask r 25 then
    { x with sleepy := fld (r.w 5) 25 24, sp := fld (r.w 5) 15 0, pollInt := fld (r.w 6) 31 16, eps := fld (r.w 6) 15 0 } else x
  let x := if latMask r 26 then { x with groups := slotsOf r } else x
  let x := if latMask r 27 then { x with feeder := fld (r.w 11) 31 28, line := fld (r.w 11) 27 26 } else x
  if latMask r 28 then { x with secLevel := fld (r.w 12) 31 29, router := bit (r.w 12) 28 } else x

/-- The sleepy fields of a request are valid. -/
def sleepyOk (r : Req) : Bool :=
  let m := fld (r.w 5) 25 24
  let sp := fld (r.w 5) 15 0
  fld (r.w 5) 31 26 == 0 && fld (r.w 5) 23 16 == 0 && m != 3 && (if m = 2 then decide (2 ≤ sp) && decide (sp ≤ 1500) else sp == 0)

/-- The change would put a POLL endpoint on an engine where POLL is not permitted (R234). -/
def pollBroken (r : Req) (s : State) (ep : Nat) (x : EpRec) : Bool :=
  latMask r 25 && !x.viaRouter && (x.st == .active || x.st == .orphan) &&
    (let now := (linkOf s ep).isSome
     let want := fld (r.w 5) 25 24 != 0
     let pop := sleepyPop s x.engine + b2n (want && !now) - b2n (now && !want)
     let polls := linkCount s x.engine .poll + b2n (fld (r.w 5) 25 24 == 1 && linkSt s ep != .poll)
     (fld (r.w 5) 25 24 == 1 && !pollOk s x.engine pop) || (want && !now && decide (4096 < pop) && decide (0 < polls)))

/-- Checks of LAT.UPDATE. -/
def chkLatUpdate (r : Req) (s : State) : Option Fail :=
  let ep := fld (r.w 3) 17 0
  let zero := fun b i => need 9 (latMask r b || r.w i == 0) stBadParam i
  let slot := fun i => need 9 (!latMask r 26 || (fld (r.w i) 31 28 == 0 && fld (r.w i) 15 12 == 0)) stBadParam i
  firstFail
    [ stdHead 0x0504 10 r s, (if latMask r 24 then inWord 4 (needOwnerPorts s (fld (r.w 4) 27 24)) else none), needWorld r s 0x07,
      need 9 (fld (r.w 3) 31 29 == 0 && fld (r.w 3) 23 18 == 0) stBadParam 3, zero 24 4,
      need 9 (!latMask r 24 || (fld (r.w 4) 31 28 == 0 && fld (r.w 4) 15 0 == 0 && classOk (fld (r.w 4) 23 16))) stBadParam 4, zero 25 5,
      need 9 (!latMask r 25 || sleepyOk r) stBadParam 5, zero 25 6,
      need 9 (!latMask r 25 || (if fld (r.w 5) 25 24 = 1 then decide (2 ≤ fld (r.w 6) 31 16) else fld (r.w 6) 31 16 == 0)) stBadParam 6,
      zero 26 7, slot 7, zero 26 8, slot 8, zero 26 9, slot 9, zero 26 10, slot 10, zero 27 11,
      need 9 (!latMask r 27 || (fld (r.w 11) 25 0 == 0 && feederOk (fld (r.w 11) 31 28))) stBadParam 11, zero 28 12,
      need 9 (!latMask r 28 || (fld (r.w 12) 27 0 == 0 && decide (5 ≤ fld (r.w 12) 31 29))) stBadParam 12,
      needEp s ep, needEpOwner r s ep,
      need 12 (match epOf s ep with | some x => !pollBroken r s ep x | none => true) stPollLimit,
      need 13 (match epOf s ep with | some x => !(latMask r 28 && bit (r.w 12) 28 && !x.router) || decide (routerCount s < 32768) | none => true)
        stRouteFull ]

/-- LAT.UPDATE takes effect. -/
def applyLatUpdate (r : Req) (s : State) : State :=
  let ep := fld (r.w 3) 17 0
  match epOf s ep with
  | none => s
  | some x =>
    let y := updatedRec r x
    let s1 := writeRec ep (updEp ep (fun _ => y) s)
    let s2 := if latMask r 25 && y.sleepy != x.sleepy && (y.st == .active || y.st == .orphan) then openLink ep s1 else s1
    let s3 := slotsChanged ep x s2
    evalAuto 0 (ownerChange 3 ep r x.owner y.owner s3)

/-- LAT.UPDATE (0x0504). -/
def execLatUpdate (media : Bool) (s : State) : Host.Outcome State Fault Refusal :=
  .next (serve 0x0504 chkLatUpdate (durable media applyLatUpdate) s)

/-! ### LAT.JOIN_POLICY (R255) -/

/-- Checks of LAT.JOIN_POLICY. -/
def chkLatJoinPolicy (r : Req) (s : State) : Option Fail :=
  let k := fld (r.w 7) 31 22
  let h := fld (r.w 7) 21 14
  firstFail
    [ stdHead 0x0506 5 r s, needSecure r s 0x07, need 9 (fld (r.w 3) 31 30 != 3 && fld (r.w 3) 29 16 == 0) stBadParam 3,
      need 9 (fld (r.w 6) 31 16 == 0) stBadParam 6, need 9 (decide (1 ≤ h) && decide (h ≤ 168) && fld (r.w 7) 13 0 == 0) stBadParam 7,
      need 12 (k == 0 || slotUsable s k 3 none) stKeyInvalid ]

/-- LAT.JOIN_POLICY takes effect. -/
def applyLatJoinPolicy (r : Req) (s : State) : State :=
  let p := fld (r.w 3) 31 30
  let d := fld (r.w 3) 15 0
  { s with lat := { s.lat with
    policy := ⟨p, d, (r.w 5).toNat * 2 ^ 32 + (r.w 4).toNat, fld (r.w 6) 15 0, fld (r.w 7) 31 22, fld (r.w 7) 21 14⟩
    permitEnd := if d ≠ 0 then some (s.clk.ticks + d * 40000000) else none } }

/-- LAT.JOIN_POLICY, its checks passed. -/
def actLatJoinPolicy (r : Req) (s : State) : State :=
  ok r [] (applyLatJoinPolicy r s)

/-- LAT.JOIN_POLICY (0x0506). -/
def execLatJoinPolicy (s : State) : Host.Outcome State Fault Refusal :=
  .next (serve 0x0506 chkLatJoinPolicy actLatJoinPolicy s)

/-- JOIN_PERMIT_EXPIRY (R255): after `DURATION` seconds `PERMIT` becomes 2. -/
def execJoinPermitExpiry (s : State) : Host.Outcome State Fault Refusal :=
  .next (match s.lat.permitEnd with
    | none => s
    | some t => if t ≤ s.clk.ticks then
        { s with lat := { s.lat with permitEnd := none, policy := { s.lat.policy with permit := 2 } } }
      else s)

/-! ### Link keys (R259) -/

/-- The wrapped key of LAT.KEY_LOAD. -/
def loadKey (r : Req) : List Word := (List.range 6).map fun i => r.w (5 + i)

/-- Checks of LAT.KEY_LOAD. -/
def chkLatKeyLoad (r : Req) (s : State) : Option Fail :=
  let ep := fld (r.w 3) 17 0
  let k := fld (r.w 3) 31 22
  firstFail
    [ stdHead 0x0507 8 r s, needSecure r s 0x07, need 9 (fld (r.w 3) 21 18 == 0) stBadParam 3, need 9 (fld (r.w 4) 15 0 == 0) stBadParam 4,
      needEp s ep, needEpOwner r s ep, need 12 (slotUsable s k 1 none) stKeyInvalid,
      need 12 ((slotKeys s k 1 none).any fun kek => (kwUnwrap kek (loadKey r)).isSome) stVerifyFail 5 ]

/-- A link key's overlap entry, for a record. -/
def isLinkEnd (ep : Nat) (k : TlKind) : Bool := match k with | .linkKeyEnd e => e == ep | _ => false

/-- The key of LAT.KEY_LOAD as the record stores it: rewrapped under the active key of the slot when it came under the previous one
(R424). -/
def storedKey (r : Req) (s : State) : List Word :=
  let k := fld (r.w 3) 31 22
  match (slotOf s k).bind KeySlot.active, (slotKeys s k 1 none).findSome? fun kek => kwUnwrap kek (loadKey r) with
  | some kek, some key => if (kwUnwrap kek (loadKey r)).isSome then loadKey r else kwWrap kek key
  | _, _ => loadKey r

/-- LAT.KEY_LOAD takes effect: the current key becomes the previous one (R259). -/
def applyLatKeyLoad (r : Req) (s : State) : State :=
  let ep := fld (r.w 3) 17 0
  let w := fld (r.w 4) 31 16
  let s0 := tlCancel (isLinkEnd ep) s
  match epOf s0 ep with
  | none => s0
  | some x =>
    let fin := cycOf s + w
    let y : EpRec := match x.keyCur with
      | none => { x with keyCur := some (storedKey r s), inCur := 0, outCtr := 0, kekSlot := fld (r.w 3) 31 22 }
      | some old => { x with
          keyPrev := if w = 0 then none else some old, inPrev := if w = 0 then 0 else x.inCur, prevValid := decide (0 < w)
          overlapEnd := fin, keyCur := some (storedKey r s), inCur := 0, outCtr := 0, kekSlot := fld (r.w 3) 31 22 }
    let s1 := updEp ep (fun _ => y) s0
    let s2 := if y.prevValid then tlPut (fin * 4096) 4 0x07 (.linkKeyEnd ep) true s1 else s1
    let s3 := updMd y.engine (fun m => { m with cache := m.cache.filter fun c => c.ep != ep })
      { s2 with lat := { s2.lat with ctr := { s2.lat.ctr with
        ceilings := tset s2.lat.ctr.ceilings ep 4096, pend := tdel s2.lat.ctr.pend ep } } }
    logNs evLinkKeyLoaded r.port.val [ep, r.port.val, w] (writeRec ep (resetIn ep y.inCur y.inPrev s3))

/-- LAT.KEY_LOAD, its checks passed. -/
def actLatKeyLoad (r : Req) (s : State) : State :=
  let two := decide (0 < fld (r.w 4) 31 16)
  if !tlRoom s.tl 0x07 (1 + b2n two) then failReq r ⟨13, stFull, 0xFFFF, 0⟩ (tlFull 0x07 2 s)
  else
    let s1 := tlPut (nextBoundary s) 3 0x07 (.linkKeyLoad r) true s
    if two then tlPut (nextBoundary s) 4 0x07 (.linkKeyEnd (fld (r.w 3) 17 0)) false s1 else s1

/-- LAT.KEY_LOAD (0x0507): a rank 3 entry, with the end of the overlap reserved behind it (R87). -/
def execLatKeyLoad (s : State) : Host.Outcome State Fault Refusal :=
  .next (serve 0x0507 chkLatKeyLoad actLatKeyLoad s)

/-- LINK_KEY_LOAD_APPLY (R259): the entry fires; a failed durable write undoes the change (R285). An endpoint removed meanwhile has
no record. -/
def execLinkKeyLoadApply (media : Bool) (s : State) : Host.Outcome State Fault Refusal :=
  .next (tlFire (fun k _ => match k with
    | .linkKeyLoad r => some fun s =>
      let ep := fld (r.w 3) 17 0
      let reserved := fun e : TlEntry => isLinkEnd ep e.kind && !e.active
      let s0 := { s with tl := { s.tl with entries := s.tl.entries.filter fun e => !reserved e } }
      if (epOf s ep).isNone then failReq r ⟨10, stNoEndpoint, 3, 0⟩ s0
      else if !media then failReq r ⟨13, stMedia, 0xFFFF, 0⟩ s0
      else ok r [] (applyLatKeyLoad r s0)
    | _ => none) s)

/-- LINK_KEY_OVERLAP_END (R259): the previous key and its counter are zeroised. -/
def execLinkKeyOverlapEnd (s : State) : Host.Outcome State Fault Refusal :=
  .next (tlFire (fun k _ => match k with
    | .linkKeyEnd ep => some fun s =>
      let cur := match epOf s ep with | some x => x.inCur | none => 0
      writeRec ep (resetIn ep cur 0 (updEp ep (fun x => { x with keyPrev := none, inPrev := 0, prevValid := false }) s))
    | _ => none) s)

/-! ### Checkpoints and the journal (R285, R286) -/

/-- A checkpoint begun: its consistency point is now. -/
def startCkpt (org : Option Origin) (s : State) : State :=
  { s with lat := { s.lat with ckpt := some ⟨org, s.clk.ticks, cycOf s, s.lat.recs⟩ } }

/-- Checks of LAT.CHECKPOINT. -/
def chkLatCheckpoint (r : Req) (s : State) : Option Fail :=
  firstFail [stdHead 0x050B 0 r s, needSecure r s 0x07, need 13 s.lat.ckpt.isNone stBusy]

/-- LAT.CHECKPOINT, its checks passed. -/
def actLatCheckpoint (r : Req) (s : State) : State :=
  startCkpt (some r.origin) (acceptN r s)

/-- LAT.CHECKPOINT (0x050B). -/
def execLatCheckpoint (s : State) : Host.Outcome State Fault Refusal :=
  .next (serve 0x050B chkLatCheckpoint actLatCheckpoint s)

/-- BACKGROUND_CHECKPOINT (R285): every `CKPT_H` hours. -/
def execBackgroundCheckpoint (s : State) : Host.Outcome State Fault Refusal :=
  .next
    (if s.lat.ckpt.isNone && served s && decide (s.lat.ckptTick + s.lat.policy.ckptH * 3600 * 40000000 ≤ s.clk.ticks) then
      startCkpt none { s with lat := { s.lat with ckptTick := s.clk.ticks } }
    else s)

/-- The volatile fields of a record written beside its durable ones (R252). -/
def withVolatile (d v : EpRec) : EpRec :=
  { d with
    mains := v.mains, inCur := v.inCur, inPrev := v.inPrev, outCtr := v.outCtr, fwVer := v.fwVer, energy := v.energy
    energyCyc := v.energyCyc, level := v.level, tid := v.tid, fails := v.fails, heardCyc := v.heardCyc }

/-- Every record's volatile fields written as they were at the consistency point. -/
def writeVolatile (snap : Tbl EpRec) (s : State) : State :=
  { s with lat := { s.lat with
    nand := s.lat.nand.map fun x => (x.1, match tget snap x.1 with | some v => withVolatile x.2 v | none => x.2)
    superseded := s.lat.superseded + (snap.length + 15) / 16 } }

/-- Record pages of 2 KiB, 16 records to a page. -/
def latPages : Nat := 16384

/-- CHECKPOINT_COMPLETE (R285): the writes have ended, or failed. A background checkpoint may start compaction (R488). -/
def execCheckpointComplete (media : Bool) (s : State) : Host.Outcome State Fault Refusal :=
  .next
    (match s.lat.ckpt with
     | none => s
     | some c =>
       let s0 := { s with lat := { s.lat with ckpt := none } }
       let ms := (s.clk.ticks - c.start) / 40000
       if !media then (match c.org with | some o => completeFail o ⟨13, stMedia, 0xFFFF, 0⟩ s0 | none => s0)
       else
         let s1 := logNs evLatCheckpoint 0xFF [c.snap.length, ms] (writeVolatile c.snap s0)
         match c.org with
         | some o => complete o stOk [wd c.snap.length, wd c.cyc, wd ms] s1
         | none =>
           if latPages < 4 * s1.lat.superseded then
             match admitAct 8 0xFF s1 with
             | .ok s2 => s2
             | .error (_, s2) => { s2 with bal := { s2.bal with waitCompact := true } }
           else s1)

/-- JOURNAL_PAGE_WRITE (R286): the open page is written when full, or 64 cycles after its first entry. DESIGN CHOICE: it also confirms
the reservation ceilings that wait (R260; log entry 55, on reservation ceilings). -/
def execJournalPageWrite (s : State) : Host.Outcome State Fault Refusal :=
  .next
    (let c := s.lat.ctr
     let due := decide (pageEntries ≤ c.openPage.length) || (!c.openPage.isEmpty && decide (c.openCyc + 64 ≤ cycOf s))
     confirmCeilings (if due then writeJournal s else s))

end Sys2Proof.Machine
end

