-- ==== Sys2Proof/Machine/Keys.lean ====
section
/-!
DEFINITION. The key store: slots, commits and overlap windows, the rewrap of link keys, loss of the key store, tamper, and the world
configuration (04 R114 to R117, 15 R416 to R437).
-/
namespace Sys2Proof.Machine

/-! ### Slots -/

/-- An EMPTY slot. -/
def emptySlot : KeySlot :=
  { st := .empty, usage := 0, alg := 0, origin := 0, exportable := false, engines := 0, active := none, prev := none, shadow := none
    shadowOrigin := 0, gen := 0, vfail := 0, commitCyc := 0, commitSec := 0, overlapEnd := 0, w := 0, pend := none }

/-- Slot 0: the identity key, always ACTIVE (R417, R427). -/
def identitySlot (s : State) : KeySlot := { emptySlot with st := .active, usage := 7, alg := 3, active := some s.key.identity }

/-- A slot, EMPTY where it is not listed. -/
def keySlot (s : State) (k : Nat) : KeySlot := if k = 0 then identitySlot s else (slotOf s k).getD emptySlot

/-- A slot of 1 to 1,023 replaced; an EMPTY one is not listed. -/
def putSlot (k : Nat) (x : KeySlot) (s : State) : State :=
  { s with key := { s.key with slots := if x.st = .empty then tdel s.key.slots k else tset s.key.slots k x } }

/-- Codes of the slot states (R427). -/
def slotCode : SlotSt → Nat
  | .empty => 0 | .active => 1 | .staged => 2 | .verified => 3 | .pending => 4 | .overlap => 5 | .lost => 6

/-- A slot holds a key. -/
def KeySlot.held (x : KeySlot) : Bool := x.active.isSome || x.prev.isSome || x.shadow.isSome

/-- The state of a slot whose shadow has been discarded (R428): an EMPTY slot keeps nothing. -/
def dropShadow (x : KeySlot) : KeySlot :=
  if x.active.isSome then { x with st := .active, shadow := none, vfail := 0, pend := none } else emptySlot

/-- The public key of a key of a slot, as words. -/
def publicOf (alg : Nat) (key : List Word) : List Word := if alg = 3 then p256Public key else key

/-- Key check value (R431): the first word of AES-ECB(K, 0) or of SHA-256(X ‖ Y). -/
def checkValue (alg : Nat) (key : List Word) : Word :=
  if alg < 2 then wAt (wordsOfOctets (aesEnc (octetsOfWords key) (List.replicate 16 0))) 0
  else wAt (sha256 (octetsOfWords (publicOf alg key))) 0

/-- A KEY.GENERATE runs on a slot. -/
def generating (s : State) (k : Nat) : Bool := s.key.gens.any fun g => g.slot == k

/-- The entries of a slot's commit and of its overlap window. -/
def isSlotEntry (k : Nat) (e : TlKind) : Bool := match e with | .keyCommit j => j == k | .keyOverlapEnd j => j == k | _ => false
/-- The entry of a slot's overlap window. -/
def isOverlapEntry (k : Nat) (e : TlKind) : Bool := match e with | .keyOverlapEnd j => j == k | _ => false

/-- A pending commit ended with a status, if it has one (R428, R429). -/
def endCommit (k status : Nat) (s : State) : State :=
  match (keySlot s k).pend with
  | none => s
  | some p =>
    let s1 := stopOne 3 (k % 256) (tlCancel (isSlotEntry k) s)
    match p.org with
    | some o => completeFail o ⟨13, status, 0xFFFF, 0⟩ s1
    | none => s1

/-! ### Units that name a slot (R439, R440) -/

/-- Beacon and group keys that name a slot (R230, R221). -/
def macRefs (s : State) (k : Nat) : Nat :=
  ((List.range (engineCount s.dev.variant)).map fun n =>
    match (mdOf s n).bcn with | some c => b2n (c.keySlot == k) + b2n (c.grpSlot == k) | none => 0).sum

/-- Records and the policy that name a slot. -/
def latRefs (s : State) (k : Nat) : Nat := (s.lat.recs.filter fun x => x.2.kekSlot == k).length + b2n (s.lat.policy.imgSlot == k)

/-- The block of the first unit that names a slot, if any does. -/
def slotUser (s : State) (k : Nat) : Option Nat :=
  if 0 < macRefs s k then some 0x06 else if 0 < latRefs s k then some 0x07 else none

/-! ### Commits (R423, R425) -/

/-- Frame counters under a group key and its previous one changed (R222). -/
def groupKeyMoved (k : Nat) (f : Nat × Nat → Nat × Nat) (s : State) : State :=
  let g := s.mac.grpIn.map fun x => match epOf s x.1 with
    | some r => if (bcnOf s r.engine).grpSlot = k then (x.1, f x.2) else x
    | none => x
  { s with mac := { s.mac with grpIn := g } }

/-- The first commit of a slot from 1 to 1,023 (R423, R40, R64). -/
def firstCommit (k : Nat) (s : State) : State :=
  if s.key.everCommitted then s
  else logNs evDebugLocked 0xFF [k]
    { s with key := { s.key with everCommitted := true, debugLock := true, debugOpen := false }
             pwr := { s.pwr with shelfArmed := false } }

/-- The commit of a slot takes effect in a cycle (R423). -/
def commitSlot (k c : Nat) (atBoot : Bool) (s : State) : State :=
  let x := keySlot s k
  match x.pend with
  | none => s
  | some p =>
    let ended := x.active.isSome && decide (0 < p.w)
    let fin := if ended then c + p.w else 0
    let y := { x with
      st := if ended then .overlap else .active, active := x.shadow, origin := x.shadowOrigin, prev := if ended then x.active else none
      shadow := none, gen := (x.gen + 1) % 65536, vfail := 0, commitCyc := c, commitSec := s.rtc.sec, overlapEnd := fin, w := p.w
      pend := none }
    let s1 := putSlot k y (tlCancel (isOverlapEntry k) s)
    let s2 := if ended then tlPut (fin * 4096) 4 0x11 (.keyOverlapEnd k) true s1 else s1
    let s3 := if x.usage = 2 then groupKeyMoved k (fun c => (0, if ended then c.1 else 0)) s2 else s2
    let s4 := if x.usage = 1 && ended then { s3 with key := { s3.key with rewraps := s3.key.rewraps ++ [⟨k, s3.clk.ticks, false⟩] } }
      else stopOne 3 (k % 256) s3
    let s5 := logNs evKeyCommitted 0xFF [k, y.gen, c, fin, b2n atBoot] (firstCommit k s4)
    match p.org with
    | some o => complete o stOk [packW [(slotCode y.st, 29), (k, 0)], wd c, wd fin] s5
    | none => s5

/-- KEY_COMMIT_ENTRY (R423): the rank 1 entry of a commit, which fires in HANDOVER too (R90). -/
def execKeyCommitEntry (s : State) : Host.Outcome State Fault Refusal :=
  .next (tlFire (fun k e => match k with
    | .keyCommit j => some (commitSlot j (e.target / 4096) (match (keySlot s j).pend with | some p => p.org.isNone | none => false))
    | _ => none) s)

/-- The previous key of a slot is zeroised (R424). -/
def endOverlap (k : Nat) (s : State) : State :=
  let x := keySlot s k
  let s1 := putSlot k { x with st := .active, prev := none, overlapEnd := 0 } s
  let s2 := if x.usage = 2 then groupKeyMoved k (fun c => (c.1, 0)) s1 else s1
  logNs evKeyOverlapEnd 0xFF [k] s2

/-- KEY_OVERLAP_END (R423, R425): the rank 4 entry; a window whose rewrap is unfinished ends with the rewrap. -/
def execKeyOverlapEnd (s : State) : Host.Outcome State Fault Refusal :=
  .next (tlFire (fun k _ => match k with
    | .keyOverlapEnd j => some fun s =>
      if s.key.rewraps.any fun w => w.slot == j then
        { s with key := { s.key with rewraps := s.key.rewraps.map fun w => if w.slot = j then { w with extended := true } else w } }
      else endOverlap j s
    | _ => none) s)

/-- A wrapped link key rewrapped under the active key of a slot (R425). -/
def rewrapKey (x : KeySlot) (k : Option (List Word)) : Option (List Word) :=
  match k, x.active with
  | some w, some kek =>
    match (x.active.toList ++ x.prev.toList).findSome? fun j => kwUnwrap j w with
    | some key => some (kwWrap kek key)
    | none => k
  | _, _ => k

/-- KEK_REWRAP_COMPLETE (R425): the first rewrap in progress completes: every record under the slot is rewritten durably. It pauses
in HANDOVER (R490). -/
def execKekRewrapComplete (s : State) : Host.Outcome State Fault Refusal :=
  .next
    (match s.key.rewraps with
     | [] => s
     | w :: rest =>
       if s.upd.windowOpen || !served s then s
       else
         let x := keySlot s w.slot
         let mine := s.lat.recs.filter fun r => r.2.kekSlot == w.slot && (r.2.keyCur.isSome || r.2.keyPrev.isSome)
         let s1 := mine.foldl (fun s r =>
           writeRec r.1 (updEp r.1 (fun y => { y with keyCur := rewrapKey x y.keyCur, keyPrev := rewrapKey x y.keyPrev }) s))
           { s with key := { s.key with rewraps := rest } }
         let s2 := logNs evKekRewrap 0xFF [w.slot, mine.length, (s.clk.ticks - w.since) / 40000, b2n w.extended] (stopOne 3 (w.slot % 256) s1)
         if w.extended then endOverlap w.slot s2 else s2)

/-- A pending commit put in its place: by target, then by order of posting. -/
def insertDue (a : Nat × Nat × Nat) : List (Nat × Nat × Nat) → List (Nat × Nat × Nat)
  | [] => [a]
  | b :: t => if a.1 < b.1 ∨ (a.1 = b.1 ∧ a.2.1 ≤ b.2.1) then a :: b :: t else b :: insertDue a t

/-- Commits and overlap windows taken up again when BOOT ends (R426): commits at the next boundary in the order of their targets and
postings, and every window whole from there. -/
def resumeKeys (old : State) : State :=
  let s := { old with key := { old.key with rewraps := old.key.rewraps.map fun (w : Rewrap) => { w with extended := false } } }
  let c := cycOf s + 1
  let due := (s.key.slots.filterMap fun x => match x.2.pend with | some p => some (p.target, p.order, x.1) | none => none).foldr
    insertDue []
  let s1 := due.foldl (fun s d =>
    let x := keySlot s d.2.2
    startAct 3 (d.2.2 % 256) (tlPut (c * 4096) 1 0x11 (.keyCommit d.2.2) true
      (putSlot d.2.2 { x with pend := x.pend.map fun p => { p with cyc := c, org := none } } s))) s
  let ended := s1.key.slots.filter fun x => x.2.st == .overlap
  let s2 := ended.foldl (fun s x =>
    tlPut ((c + x.2.w) * 4096) 4 0x11 (.keyOverlapEnd x.1) true (putSlot x.1 { x.2 with overlapEnd := c + x.2.w } s)) s1
  s2.key.rewraps.foldl (fun s w => startAct 3 (w.slot % 256) s) s2

/-! ### Loss of the key store (R416, R429) -/

/-- A new root secret from the DRBG: a free value that is not zero. -/
def newRoot (s : State) : State :=
  let (v, s1) := freshNat s
  { s1 with rtc := { s1.rtc with rootSecret := v + 1 } }

/-- The key store is lost: 0 tamper, 1 retention loss, 2 tamper in KEEP, 3 SHELF exit. -/
def keyLoss (cause : Nat) (s : State) : State :=
  let lost := (s.key.slots.filter fun x => x.2.held).length
  let ended := (s.key.slots.filter fun x => x.2.pend.isSome).length
  let s1 := s.key.slots.foldl (fun s x => endCommit x.1 stKeyInvalid s) s
  let s2 := s.key.gens.foldl (fun s g => completeFail g.org ⟨13, stKeyInvalid, 0xFFFF, 0⟩ s) s1
  let s3 := tlCancel (fun k => match k with | .keyOverlapEnd _ => true | _ => false) s2
  let s4 := newRoot { s3 with
    key := { s3.key with gens := [], rewraps := [], slots := s3.key.slots.map fun x => (x.1, { emptySlot with st := .lost }) }
    mac := { s3.mac with engs := s3.mac.engs.map fun m => { m with cache := [] } }
    bal := { s3.bal with running := s3.bal.running.filter fun a => a.act != 3 } }
  ntfOrHold ⟨15, 0x0D01, 0x11, [packW [(cause, 30), (lost, 0)]], none, cycOf s4⟩ (logNs evKeyStoreLost 0xFF [cause, lost, ended] s4)

/-! ### Tamper (R115, R117) -/

/-- A tamper on an input qualifies. In KEEP the key store, which has no power, finds the root secret zero at the next BOOT. -/
def tamper (i : Nat) (s : State) : State :=
  let r := s.rtc
  let first := !r.tampered
  let r1 := { r with
    rootSecret := 0, bram := List.replicate 8 0 ++ r.bram.drop 8, tampLatched := setBit r.tampLatched i true, tampered := true
    tampStamp := if first then (r.sec, r.frac) else r.tampStamp }
  let s1 := logEv evTamper 0xFF ([wd r1.tampLatched] ++ rtcWords r1.tampStamp.1 r1.tampStamp.2 ++ [wd (modeCode s.pwr.mode)]) { s with rtc := r1 }
  if !powered s then s1
  else
    keyLoss 0 (ntfOrHold ⟨15, 0x0220, 0x02,
      [packW [(modeCode s.pwr.mode, 8), (r1.tampLatched, 0)], wd r1.tampStamp.1,
       packW [(r1.tampStamp.2, 16), (r1.tampStamp.1 / 2 ^ 32 % 256, 0)]], none, cycOf s1⟩ s1)

/-- One input sampled: the run of samples in the tamper state, and its qualification. -/
def sampleTamper (s : State) (i : Nat) : State :=
  let hit := tampState s.rtc.tampCfg s.rtc.tampOpen i
  let run := if i = 0 then s.rtc.tampRun.1 else s.rtc.tampRun.2
  let run' := if hit then run + 1 else 0
  let s1 := { s with rtc := { s.rtc with
    tampRun := if i = 0 then (run', s.rtc.tampRun.2) else (s.rtc.tampRun.1, run')
    tampLevel := setBit s.rtc.tampLevel i hit } }
  if hit && run' == tampFilt s.rtc.tampCfg i then tamper i s1 else s1

/-- TAMPER_SAMPLE (R115): the pads of the two inputs are open or closed as the operands say; every 1,024 crystal ticks, except in SHELF,
they are sampled. -/
def execTamperSample (open0 open1 : Bool) (s : State) : Host.Outcome State Fault Refusal :=
  .next
    (let s1 := { s with rtc := { s.rtc with tampOpen := openPads open0 open1 } }
     if s.pwr.mode == .shelf || decide (s.clk.xtal < s.rtc.tampTick + 1024) then s1
     else [0, 1].foldl sampleTamper { s1 with rtc := { s1.rtc with tampTick := s.clk.xtal } })

/-! ### Worlds (R432 to R435) -/

/-- The configurable blocks of R432. -/
def worldBlocks : Nat := maskOf 17 fun b => b == 1 || b == 2 || b == 4 || b == 5 || decide (7 ≤ b)

/-- The block whose world a DRAM region takes (R436): none for a region that is always secure; regions 6 to 9 take their ports' worlds
and region 13 is never secure. -/
def regionBlock (r : Nat) : Option Nat :=
  if r = 4 then some 1 else if r = 5 then some 2 else if r = 10 then some 4 else if r = 11 then some 5
  else if r = 14 ∨ r = 15 then some 7 else if 16 ≤ r ∧ r ≤ 18 then some (r - 8) else if r = 19 then some 0x0B else if r = 20 then some 0x0C
  else if 21 ≤ r ∧ r ≤ 23 then some (r - 8) else if r = 24 then some 0x10 else none

/-- The world of a DRAM region: true is secure (R436). -/
def regionSecure (s : State) (r : Nat) : Bool :=
  if 6 ≤ r ∧ r ≤ 9 then portSecure s (Fin.ofNat 4 (r - 6))
  else if r = 13 then false
  else match regionBlock r with | some b => blockSecure s b | none => true

/-- The world of a NOR or NAND partition (R437), numbered by the model: 0 firmware set, 1 to 0x14 the settings set of a block, 0xFF set
0xFF, 0x100 key area, 0x101 reservation ring, 0x102 LOG, 0x103 LATTICE, 0x104 METER, 0x105 SPARE. -/
def partSecure (s : State) (p : Nat) : Bool :=
  if 1 ≤ p ∧ p ≤ 0x14 then blockSecure s p
  else if p = 0x101 then blockSecure s 1 else if p = 0x102 then blockSecure s 0x10 else if p = 0x103 then blockSecure s 7
  else if p = 0x104 then blockSecure s 0x0B else true

/-- The safe configuration of R435: every configurable block and every engine secure, H3 secure. -/
def safeWorlds : Worlds := ⟨worldBlocks, 2 ^ 64 - 1, 8⟩

/-- The stored world configuration. -/
def storedWorlds (s : State) : Worlds := s.key.copy0.2

/-- The world configuration read at BOOT step 4 from its two copies (R435): `ok0` and `ok1` tell whether each copy's CRC-32C verifies.
The causes of a repair are numbered 0 CRC, 1 write count. -/
def loadWorlds (ok0 ok1 : Bool) (s : State) : State :=
  let k := s.key
  let inForce := fun (c : Nat × Worlds) => { k with worlds := c.2, copy0 := c, copy1 := c }
  let repaired := fun dev cause => logEv evWorldConfigRepaired 0xFF [wd dev, wd cause]
  if ok0 && ok1 then
    if k.copy0 = k.copy1 then { s with key := { k with worlds := k.copy0.2 } }
    else if k.copy1.1 < k.copy0.1 then repaired 1 1 { s with key := inForce k.copy0 } else repaired 0 1 { s with key := inForce k.copy1 }
  else if ok0 then repaired 1 0 { s with key := inForce k.copy0 }
  else if ok1 then repaired 0 0 { s with key := inForce k.copy1 }
  else
    let n := (Nat.max k.copy0.1 k.copy1.1 + 1) % 2 ^ 32
    logNs evWorldConfigLost 0xFF [0, 0] { s with key := inForce (n, safeWorlds) }

end Sys2Proof.Machine
end

