-- ==== Sys2Proof/Machine/KeyCmd.lean ====
section
/-!
DEFINITION. The KEY commands (15 R421, R422, R431, R438 to R440).
-/
namespace Sys2Proof.Machine

/-- Check 7 of every KEY command: block 0x11 is secure. -/
def needKeys (r : Req) (s : State) : Option Fail := needWorld r s 0x11

/-- The slot of a request. -/
def reqSlot (r : Req) : Nat := fld (r.w 3) 9 0

/-- A change of the key area: it is written to both NOR devices before the command answers, and undone where a write fails (R420).
`f0`, `f1`: sectors that failed on each device. -/
def keyWrite (f0 f1 : Nat) (r : Req) (act : State → State) (s : State) : State :=
  let (s1, good) := norWrite 2 f0 f1 s
  if good then act s1 else failReq r ⟨13, stMedia, 0xFFFF, 0⟩ s1

/-! ### KEY.GENERATE -/

/-- Checks of KEY.GENERATE. -/
def chkKeyGenerate (r : Req) (s : State) : Option Fail :=
  let k := reqSlot r
  let x := keySlot s k
  firstFail
    [ stdHead 0x0D01 1 r s, needKeys r s, need 9 (fld (r.w 3) 31 28 == 5 && fld (r.w 3) 27 10 == 0) stBadParam 3,
      need 12 (k != 0 && !generating s k && (x.st == .empty || x.st == .lost || (x.st == .active && x.usage == 5))) stSlotState,
      need 13 (decide (s.key.gens.length < 4)) stBusy ]

/-- KEY.GENERATE, its checks passed. -/
def actKeyGenerate (r : Req) (s : State) : State :=
  accept r { s with key := { s.key with gens := s.key.gens ++ [⟨reqSlot r, r.origin true, s.clk.ticks⟩] } }

/-- KEY.GENERATE (0x0D01): always ACCEPTED (R438). -/
def execKeyGenerate (s : State) : Host.Outcome State Fault Refusal :=
  .next (serve 0x0D01 chkKeyGenerate actKeyGenerate s)

/-- A P-256 private key drawn from the DRBG: a free value from 1 to n − 1. -/
def freshKey (s : State) : List Word × State :=
  let (v, s1) := freshNat s
  (wordsOfOctets (octetsOfNat 32 (v % (p256N - 1) + 1)), s1)

/-- KEY_GENERATE_COMPLETE (R422, R428): the first generation in progress ends. `pairOk`: its pairwise consistency test passed. -/
def execKeyGenerateComplete (pairOk : Bool) (f0 f1 : Nat) (s : State) : Host.Outcome State Fault Refusal :=
  .next
    (match s.key.gens with
     | [] => s
     | g :: rest =>
       let s0 := { s with key := { s.key with gens := rest } }
       if !pairOk then completeFail g.org ⟨13, stKeyInvalid, 0xFFFF, 0⟩ s0
       else
         let (s1, good) := norWrite 2 f0 f1 s0
         if !good then completeFail g.org ⟨13, stMedia, 0xFFFF, 0⟩ s1
         else
           let (key, s2) := freshKey s1
           let x := keySlot s2 g.slot
           let base := if x.active.isSome then x else { emptySlot with usage := 5, alg := 3 }
           let y := { base with st := .verified, shadow := some key, shadowOrigin := 1, vfail := 0 }
           let v := checkValue 3 key
           complete g.org stOk [packW [(slotCode .verified, 29), (g.slot, 0)], v, wd ((s.clk.ticks - g.since) / 40000)]
             (logEv evKeyGenerated g.org.port.val [wd g.org.port.val, wd g.slot, v] (putSlot g.slot y s2)))

/-! ### KEY.IMPORT and KEY.STAGE (R421) -/

/-- `WRAP`, `ALG` and `WRAP_SLOT` of a request. -/
def reqWrap (r : Req) : Nat := fld (r.w 3) 31 30
/-- `ALG`. -/
def reqAlg (r : Req) : Nat := fld (r.w 3) 29 28
/-- `WRAP_SLOT`. -/
def wrapSlot (r : Req) : Nat := fld (r.w 3) 27 18

/-- Words of a blob; none where `WRAP` or `ALG` names none. -/
def blobLen (r : Req) : Option Nat :=
  if reqWrap r = 3 ∨ reqAlg r = 3 then none
  else
    let plain := if reqAlg r = 0 then 4 else if reqAlg r = 1 then 8 else 16
    some (if reqWrap r = 0 then plain else plain + 2)

/-- The blob. -/
def reqBlob (r : Req) : List Word := r.words.drop 23
/-- Q_h. -/
def reqQh (r : Req) : List Word := (r.words.drop 7).take 16
/-- The engine mask. -/
def reqEngines (r : Req) : Nat := (r.w 5).toNat + (r.w 6).toNat * 2 ^ 32

/-- Usage and algorithm pairs that may be imported (R419). -/
def importPair (usage alg : Nat) : Bool :=
  (usage == 1 && decide (alg ≤ 1)) || (usage == 2 && alg == 0) || (usage == 3 && alg == 2) || (usage == 4 && alg == 1) ||
    (usage == 6 && alg == 2)

/-- Keys under which the blob may have been wrapped: of the TRANSPORT slot, or derived with the AGREE slot (R421, R424). -/
def wrapKeys (r : Req) (s : State) : List (List Word) :=
  if reqWrap r = 1 then slotKeys s (wrapSlot r) 4 none
  else (slotKeys s (wrapSlot r) 5 none).filterMap fun d =>
    (ecdhX d (reqQh r)).map fun z => wordsOfOctets (hkdf z (octetsOfNat 8 s.dev.eui) [0x4B, 0x49])

/-- The key that a request carries: none where the blob fails its integrity check or a public key lies off the curve. -/
def importedKey (r : Req) (s : State) : Option (List Word) :=
  let k := if reqWrap r = 0 then some (reqBlob r) else (wrapKeys r s).findSome? fun kek => kwUnwrap kek (reqBlob r)
  match k with
  | none => none
  | some k => if reqAlg r = 2 && !onCurve (wordsPoint k) then none else some k

/-- The first engine of a mask that the variant lacks. -/
def absentEngine (s : State) (mask : Nat) : Option Nat := (List.range 64).find? fun e => mask.testBit e && decide (engineCount s.dev.variant ≤ e)

/-- Checks of KEY.IMPORT and KEY.STAGE. -/
def chkPutKey (code : Nat) (stage : Bool) (r : Req) (s : State) : Option Fail :=
  let k := reqSlot r
  let x := keySlot s k
  let usage := fld (r.w 4) 31 28
  let exp := bit (r.w 4) 27
  let mask := reqEngines r
  let wrapUsage := if reqWrap r = 1 then 4 else 5
  firstFail (
    [ match opRow code with
      | some row => headChecks r row (modeServed s) (match blobLen r with | some n => r.len == 20 + n | none => true) s
      | none => none,
      need 9 (blobLen r).isSome stBadParam 3,
      (if stage then none else match absentEngine s mask with | some e => some ⟨6, stAbsent, 5 + e / 32, 0x0600 + e⟩ | none => none),
      needKeys r s,
      need 9 (fld (r.w 3) 17 10 == 0 && k != 0 && (reqWrap r != 0 || wrapSlot r == 0)) stBadParam 3 ] ++
    (if stage then [need 9 (r.w 4 == 0) stBadParam 4, need 9 (r.w 5 == 0) stBadParam 5, need 9 (r.w 6 == 0) stBadParam 6]
     else
      [ need 9 (fld (r.w 4) 26 0 == 0 && importPair usage (reqAlg r)) stBadParam 4,
        need 9 (!exp || (reqAlg r == 0 && decide (usage ≤ 2))) stBadParam 4,
        need 9 (if usage ≤ 2 then mask != 0 else r.w 5 == 0) stBadParam 5,
        need 9 (decide (usage ≤ 2) || r.w 6 == 0) stBadParam 6 ]) ++
    [ match (List.range 16).find? fun i => r.w (7 + i) != 0 with
      | some i => need 9 (reqWrap r == 2) stBadParam (7 + i)
      | none => none,
      need 12 (reqWrap r != 0 || s.pwr.mode == .commission) stBadState,
      need 12 (!generating s k && (if stage then x.st == .active else x.st == .empty || x.st == .lost)) stSlotState,
      (if stage then need 12 (reqAlg r == x.alg) stBadParam 3 else none),
      need 12 (reqWrap r == 0 || slotUsable s (wrapSlot r) wrapUsage none) stKeyInvalid 3,
      need 12 (importedKey r s).isSome stVerifyFail ])

/-- KEY.IMPORT, its checks passed. -/
def actKeyImport (f0 f1 : Nat) (r : Req) (s : State) : State :=
  keyWrite f0 f1 r (fun s =>
    let x := { emptySlot with
      st := .staged, usage := fld (r.w 4) 31 28, alg := reqAlg r, exportable := bit (r.w 4) 27, engines := reqEngines r
      shadow := importedKey r s, shadowOrigin := reqWrap r + 2 }
    ok r [] (logNs evKeyImported r.port.val [r.port.val, reqSlot r, x.usage, x.shadowOrigin] (putSlot (reqSlot r) x s))) s

/-- KEY.IMPORT (0x0D02). -/
def execKeyImport (f0 f1 : Nat) (s : State) : Host.Outcome State Fault Refusal :=
  .next (serve 0x0D02 (chkPutKey 0x0D02 false) (actKeyImport f0 f1) s)

/-- KEY.STAGE, its checks passed. -/
def actKeyStage (f0 f1 : Nat) (r : Req) (s : State) : State :=
  keyWrite f0 f1 r (fun s =>
    let x := { keySlot s (reqSlot r) with st := .staged, shadow := importedKey r s, shadowOrigin := reqWrap r + 2, vfail := 0 }
    ok r [] (logNs evKeyStaged r.port.val [r.port.val, reqSlot r, x.shadowOrigin] (putSlot (reqSlot r) x s))) s

/-- KEY.STAGE (0x0D03). -/
def execKeyStage (f0 f1 : Nat) (s : State) : Host.Outcome State Fault Refusal :=
  .next (serve 0x0D03 (chkPutKey 0x0D03 true) (actKeyStage f0 f1) s)

/-! ### KEY.VERIFY (R422) -/

/-- The first 8 octets that prove a staged key: AES-ECB(K, C), or SHA-256 of a public key. -/
def proofOf (alg : Nat) (key c : List Word) : List Word :=
  if alg < 2 then (wordsOfOctets (aesEnc (octetsOfWords key) (octetsOfWords c))).take 2 else (sha256 (octetsOfWords key)).take 2

/-- Checks of KEY.VERIFY. -/
def chkKeyVerify (r : Req) (s : State) : Option Fail :=
  let k := reqSlot r
  let x := keySlot s k
  firstFail
    [ stdHead 0x0D04 7 r s, needKeys r s, need 9 (fld (r.w 3) 31 10 == 0) stBadParam 3,
      need 12 (k != 0 && !generating s k && x.st == .staged) stSlotState,
      match (List.range 4).find? fun i => r.w (4 + i) != 0 with
      | some i => need 12 (x.alg != 2) stBadParam (4 + i)
      | none => none ]

/-- KEY.VERIFY, its checks passed. -/
def actKeyVerify (f0 f1 : Nat) (r : Req) (s : State) : State :=
  keyWrite f0 f1 r (fun s =>
    let k := reqSlot r
    let x := keySlot s k
    if proofOf x.alg (x.shadow.getD []) ((r.words.drop 4).take 4) = [r.w 8, r.w 9] then ok r [] (putSlot k { x with st := .verified } s)
    else
      let n := x.vfail + 1
      let gone := decide (3 ≤ n)
      failReq r ⟨12, stVerifyFail, 0xFFFF, n⟩ (logNs evKeyVerifyFail r.port.val [r.port.val, k, n, b2n gone]
        (putSlot k (if gone then dropShadow x else { x with vfail := n }) s))) s

/-- KEY.VERIFY (0x0D04): the third failure discards the shadow. -/
def execKeyVerify (f0 f1 : Nat) (s : State) : Host.Outcome State Fault Refusal :=
  .next (serve 0x0D04 chkKeyVerify (actKeyVerify f0 f1) s)

/-! ### KEY.COMMIT (R423, R425) -/

/-- Checks of KEY.COMMIT. -/
def chkKeyCommit (r : Req) (s : State) : Option Fail :=
  let k := reqSlot r
  let x := keySlot s k
  firstFail
    [ stdHead 0x0D05 2 r s, needKeys r s, need 9 (fld (r.w 3) 31 10 == 0) stBadParam 3,
      need 9 (fld (r.w 4) 31 24 == 0 && !(x.usage == 1 && x.active.isSome && decide (fld (r.w 4) 23 0 < 36000))) stBadParam 4,
      aacCheck r s, need 12 (k != 0 && !generating s k && (x.st == .staged || x.st == .verified)) stSlotState,
      need 12 (x.st == .verified) stNotVerified ]

/-- KEY.COMMIT, its checks passed. -/
def actKeyCommit (f0 f1 : Nat) (r : Req) (s : State) : State :=
  let k := reqSlot r
  let x := keySlot s k
  let w := fld (r.w 4) 23 0
  let two := x.active.isSome && decide (0 < w)
  let c := targetCyc r s
  if !tlRoom s.tl 0x11 (1 + b2n two) then failReq r ⟨13, stFull, 0xFFFF, 0⟩ (tlFull 0x11 2 s)
  else admitReq 3 (k % 256) r (fun s =>
    let (s1, good) := norWrite 2 f0 f1 s
    if !good then failReq r ⟨13, stMedia, 0xFFFF, 0⟩ (stopOne 3 (k % 256) s1)
    else
      let s2 := tlPut (c * 4096) 1 0x11 (.keyCommit k) true s1
      let s3 := if two then tlPut ((c + w) * 4096) 4 0x11 (.keyOverlapEnd k) false s2 else s2
      accept r (putSlot k { x with st := .pending, pend := some ⟨c, c, s3.key.nextOrder, w, some (r.origin true)⟩ }
        { s3 with key := { s3.key with nextOrder := s3.key.nextOrder + 1 } })) s

/-- KEY.COMMIT (0x0D05): a rank 1 entry, with the end of the overlap window reserved behind it; always ACCEPTED (R438). -/
def execKeyCommit (f0 f1 : Nat) (s : State) : Host.Outcome State Fault Refusal :=
  .next (serve 0x0D05 chkKeyCommit (actKeyCommit f0 f1) s)

/-! ### KEY.ATTEST (R431) -/

/-- The statement about a key of a slot. -/
def statement (s : State) (k part : Nat) (nonce : List Word) : List Word :=
  let x := keySlot s k
  let key := (if part = 1 then x.shadow else x.active).getD []
  let origin := if part = 1 then x.shadowOrigin else x.origin
  let pub := publicOf x.alg key
  [ 0x41545331#32, packW [(1, 24), (36, 0)], hi32 s.dev.eui, lo32 s.dev.eui,
    packW [(k, 22), (x.usage, 18), (x.alg, 16), (origin, 13), (b2n x.exportable, 12), (slotCode x.st, 9), (part, 8)],
    packW [(x.gen, 16), (s.tt.reserve.epoch % 256, 8)], lo32 s.tt.tt, wd (s.tt.tt / 2 ^ 32 % 2 ^ 28), wd s.rtc.sec,
    packW [(s.rtc.frac, 16), (rtcFlags s.rtc, 8), (s.rtc.sec / 2 ^ 32 % 256, 0)], lo32 x.engines, hi32 x.engines ] ++ nonce ++
  (if x.alg < 2 then checkValue x.alg key :: List.replicate 15 0 else pub)

/-- Checks of KEY.ATTEST. -/
def chkKeyAttest (r : Req) (s : State) : Option Fail :=
  firstFail
    [ stdHead 0x0D06 9 r s, needKeys r s, need 9 (fld (r.w 3) 30 10 == 0) stBadParam 3,
      need 12 (let x := keySlot s (reqSlot r); if bit (r.w 3) 31 then x.shadow.isSome else x.active.isSome) stSlotState ]

/-- KEY.ATTEST, its checks passed. -/
def actKeyAttest (r : Req) (s : State) : State :=
  let st := statement s (reqSlot r) (fld (r.w 3) 31 31) ((r.words.drop 4).take 8)
  let (v, s1) := freshNat s
  ok r (st ++ ecdsaSign s.key.identity (v % (p256N - 1) + 1) st) s1

/-- KEY.ATTEST (0x0D06). -/
def execKeyAttest (s : State) : Host.Outcome State Fault Refusal :=
  .next (serve 0x0D06 chkKeyAttest actKeyAttest s)

/-! ### KEY.INFO (R440) -/

/-- The first word of KEY.INFO's response. -/
def infoHead (x : KeySlot) (k : Nat) (exp : Bool) : Word :=
  packW [(slotCode x.st, 29), (x.usage, 25), (x.alg, 23), (x.origin, 20), (b2n x.exportable, 19), (b2n x.active.isSome, 18),
    (b2n x.prev.isSome, 17), (b2n exp, 16), (x.vfail, 10), (k, 0)]

/-- Checks of KEY.INFO. -/
def chkKeyInfo (r : Req) (s : State) : Option Fail :=
  let x := keySlot s (reqSlot r)
  let exp := bit (r.w 3) 31
  firstFail
    [ stdHead 0x0D07 1 r s, needKeys r s, need 9 (fld (r.w 3) 30 20 == 0 && (exp || fld (r.w 3) 19 10 == 0)) stBadParam 3,
      need 12 (!exp || x.active.isSome) stSlotState, need 12 (!exp || x.exportable) stNotExportable,
      need 12 (!exp || slotUsable s (fld (r.w 3) 19 10) 4 none) stKeyInvalid 3 ]

/-- KEY.INFO, its checks passed. -/
def actKeyInfo (r : Req) (s : State) : State :=
  let k := reqSlot r
  let x := keySlot s k
  let val := fun o : Option (List Word) => match o with | some key => checkValue x.alg key | none => 0
  if bit (r.w 3) 31 then
    let t := fld (r.w 3) 19 10
    let kek := (slotKeys s t 4 none).headD []
    ok r (infoHead x k true :: kwWrap kek (x.active.getD []) ++ [0, 0]) (logNs evKeyExported r.port.val [r.port.val, k, t] s)
  else
    ok r [ infoHead x k false, lo32 x.engines, hi32 x.engines, val x.active, val x.shadow,
      packW [(x.gen, 16), (sat 16 (macRefs s k + latRefs s k), 0)],
      wd (match x.pend with | some p => p.cyc | none => x.commitCyc), wd (if x.st = .overlap then x.overlapEnd else 0), wd x.commitSec ] s

/-- KEY.INFO (0x0D07). -/
def execKeyInfo (s : State) : Host.Outcome State Fault Refusal :=
  .next (serve 0x0D07 chkKeyInfo actKeyInfo s)

/-! ### KEY.DESTROY (R428) -/

/-- Checks of KEY.DESTROY. -/
def chkKeyDestroy (r : Req) (s : State) : Option Fail :=
  let k := reqSlot r
  let x := keySlot s k
  let whole := bit (r.w 3) 31
  firstFail
    [ stdHead 0x0D08 1 r s, needKeys r s, need 9 (fld (r.w 3) 30 10 == 0) stBadParam 3,
      need 12 (k != 0 && !generating s k &&
        (if whole then x.st != .empty else x.st == .staged || x.st == .verified || x.st == .pending)) stSlotState,
      (match slotUser s k with | some b => need 12 (!whole) stLocked 0xFFFF (b * 256) | none => none) ]

/-- KEY.DESTROY, its checks passed. -/
def actKeyDestroy (f0 f1 : Nat) (r : Req) (s : State) : State :=
  keyWrite f0 f1 r (fun s =>
    let k := reqSlot r
    let whole := bit (r.w 3) 31
    let pending := (keySlot s k).st == .pending
    let s1 := endCommit k stAbandoned s
    let s2 :=
      if whole then
        let s' := tlCancel (isOverlapEntry k) s1
        let running := s'.key.rewraps.any fun w => w.slot == k
        let s'' := if running then stopOne 3 (k % 256) s' else s'
        putSlot k emptySlot { s'' with key := { s''.key with rewraps := s''.key.rewraps.filter fun w => w.slot != k } }
      else putSlot k (dropShadow (keySlot s1 k)) s1
    ok r [] (logNs evKeyDestroyed r.port.val [r.port.val, k, b2n whole, b2n pending] s2)) s

/-- KEY.DESTROY (0x0D08): a pending commit ends ABANDONED. -/
def execKeyDestroy (f0 f1 : Nat) (s : State) : Host.Outcome State Fault Refusal :=
  .next (serve 0x0D08 chkKeyDestroy (actKeyDestroy f0 f1) s)

/-! ### KEY.WORLD_SET (R434, R439) -/

/-- Bits of a page that may change. -/
def pageMask (page : Nat) : Nat := if page = 0 then worldBlocks else if page = 3 then 14 else 2 ^ 32 - 1

/-- Bits of a page that name absent units. -/
def pageAbsent (s : State) (page : Nat) : Nat :=
  if page = 0 then maskOf 17 fun b => decide (1 ≤ b) && !blockPresent s.dev.variant b
  else if page = 2 then (if engineCount s.dev.variant = 32 then 2 ^ 32 - 1 else 0)
  else if page = 3 then (if portPresent s 2 then 0 else 4) else 0

/-- A page of a configuration, 1 meaning non-secure. -/
def pageOf (w : Worlds) (page : Nat) : Nat :=
  if page = 0 then (worldBlocks - (w.blocks &&& worldBlocks)) else if page = 1 then 2 ^ 32 - 1 - w.engines % 2 ^ 32
  else if page = 2 then 2 ^ 32 - 1 - w.engines / 2 ^ 32 % 2 ^ 32 else 14 - (w.ports &&& 14)

/-- A configuration with a page replaced. -/
def putPage (w : Worlds) (page v : Nat) : Worlds :=
  if page = 0 then { w with blocks := worldBlocks - v } else if page = 1 then { w with engines := w.engines / 2 ^ 32 * 2 ^ 32 + (2 ^ 32 - 1 - v) }
  else if page = 2 then { w with engines := w.engines % 2 ^ 32 + (2 ^ 32 - 1 - v) * 2 ^ 32 } else { w with ports := 14 - v }

/-- The page of a request. -/
def reqPage (r : Req) : Nat := fld (r.w 3) 29 28

/-- The stored page after a write. -/
def writtenPage (r : Req) (s : State) : Nat :=
  let old := pageOf (storedWorlds s) (reqPage r)
  let m := (r.w 4).toNat
  (old - (old &&& m)) + ((r.w 5).toNat &&& m)

/-- The first absent unit that a mask names: its cause. -/
def absentUnit (s : State) (page mask : Nat) : Option Nat :=
  (((List.range 32).find? fun i => (mask &&& pageAbsent s page &&& pageMask page).testBit i)).map fun i =>
    if page = 0 then i * 256 + 0xFF else if page = 3 then 0x0300 + i else 0x0600 + 32 * (page - 1) + i

/-- Checks of KEY.WORLD_SET: at least one of H1 and H3 stays secure (R434). -/
def chkKeyWorldSet (r : Req) (s : State) : Option Fail :=
  let page := reqPage r
  let m := (r.w 4).toNat
  let writes := bit (r.w 3) 31 && m != 0
  firstFail
    [ stdHead 0x0D09 3 r s, (match absentUnit s page m with | some c => some ⟨6, stAbsent, 4, c⟩ | none => none), needKeys r s,
      need 9 (fld (r.w 3) 27 0 == 0) stBadParam 3, need 9 (m &&& pageMask page == m) stBadParam 4,
      need 12 (!writes || s.pwr.mode == .commission) stBadState,
      need 12 (!writes || page != 3 || !(writtenPage r s).testBit 1 || !(writtenPage r s).testBit 3) stBadState ]

/-- A page as a response shows it: absent units read 0. -/
def shownPage (s : State) (page v : Nat) : Word := wd (v - (v &&& pageAbsent s page))

/-- KEY.WORLD_SET, its checks passed. -/
def actKeyWorldSet (f0 f1 : Nat) (r : Req) (s : State) : State :=
  let page := reqPage r
  let old := pageOf (storedWorlds s) page
  if bit (r.w 3) 31 then
    if r.w 4 = 0 then ok r [shownPage s page old] s
    else keyWrite f0 f1 r (fun s =>
      let new := writtenPage r s
      let c := ((s.key.copy0.1 + 1) % 2 ^ 32, putPage (storedWorlds s) page new)
      ok r [shownPage s page new] (logNs evWorldSet r.port.val [r.port.val, page, old, new]
        { s with key := { s.key with copy0 := c, copy1 := c } })) s
  else
    let h0 := if page = 3 && !bit (r.w 3) 30 then b2n (!portSecure s 0) else 0
    ok r [shownPage s page ((if bit (r.w 3) 30 then old else pageOf s.key.worlds page) + h0)] s

/-- KEY.WORLD_SET (0x0D09): a change of the stored configuration takes effect at the next BOOT. -/
def execKeyWorldSet (f0 f1 : Nat) (s : State) : Host.Outcome State Fault Refusal :=
  .next (serve 0x0D09 chkKeyWorldSet (actKeyWorldSet f0 f1) s)

end Sys2Proof.Machine
end

