-- ==== Sys2Proof/Machine/MacCmd.lean ====
section
/-!
DEFINITION. The MAC commands (08, R249).
-/
namespace Sys2Proof.Machine

/-- Checks of MAC.ENGINE_STATUS. -/
def chkMacEngineStatus (r : Req) (s : State) : Option Fail :=
  firstFail ([stdHead 0x0401 1 r s] ++ needEngine r s (fld (r.w 3) 5 0) ++
    [need 9 (fld (r.w 3) 31 6 == 0) stBadParam 3])

/-- MAC.ENGINE_STATUS, its checks passed. -/
def actMacEngineStatus (r : Req) (s : State) : State :=
  let n := fld (r.w 3) 5 0
  let m := mdOf s n
  let b := bcnOf s n
  let c := m.cnt
  ok r
    ([ packW [(n, 26), (b2n m.onBackup, 25), (sat 8 m.misses, 16), (b.pan, 0)],
       packW [(b.short, 16), (sat 16 (sleepyPop s n), 0)],
       packW [(sat 16 (linkCount s n .poll), 16), (sat 16 (linkCount s n .tracked), 0)],
       packW [(sat 16 (linkCount s n .adrift), 16), (sat 16 (linkCount s n .resync), 0)],
       packW [(sat 16 (linkCount s n .lost), 16), (sat 16 m.indirect.length, 0)] ] ++
     ([c.bcnSent, c.bcnBackup, c.bcnMissed, c.bcnCyc, c.ackSent, c.ackPending, c.rxOk, c.filtFormat, c.filtAddr, c.secKey,
       c.secMic, c.secReplay, c.unknownSrc, c.dataReq, c.emptySent, c.trainsUni, c.trainsBc, c.trainMs].map wd) ++
     [ packW [(c.greetSent, 16), (c.greetSkip, 0)], wd c.trainFails, packW [(m.cache.length, 16), (c.unwraps, 0)], wd c.gMax,
       wd c.direct, wd c.indirectExp ]) s

/-- MAC.ENGINE_STATUS (0x0401). -/
def execMacEngineStatus (s : State) : Host.Outcome State Fault Refusal :=
  .next (serve 0x0401 chkMacEngineStatus actMacEngineStatus s)

/-! ### MAC.BEACON_CONFIG -/

/-- The configuration of a request. -/
def bcnCfgOf (r : Req) : BcnCfg :=
  ⟨bit (r.w 3) 25, fld (r.w 3) 24 23, fld (r.w 3) 15 0, fld (r.w 4) 31 16, fld (r.w 4) 15 0, fld (r.w 5) 31 16, fld (r.w 5) 15 4,
   (r.w 6).toNat, fld (r.w 7) 31 22, fld (r.w 7) 21 14, fld (r.w 7) 13 6, fld (r.w 8) 31 22, fld (r.w 8) 21 14⟩

/-- Words 3 to 8 of MAC.BEACON_CONFIG. -/
def bcnWords (n : Nat) (c : BcnCfg) : List Word :=
  [ packW [(n, 26), (b2n c.en, 25), (c.sec, 23), (c.pan, 0)], packW [(c.short, 16), (c.bp, 0)],
    packW [(c.offset, 16), (c.phase, 4)], wd c.backup, packW [(c.keySlot, 22), (c.keyIdx, 14), (c.window, 6)],
    packW [(c.grpSlot, 22), (c.grpIdx, 14)] ]

/-- Checks of MAC.BEACON_CONFIG (R233 for the backup channel). -/
def chkMacBeaconConfig (r : Req) (s : State) : Option Fail :=
  let n := fld (r.w 3) 31 26
  let c := bcnCfgOf r
  let w := phyWidth (storedCe s n).phy
  let cover := [0, 1].any fun k => let f := storedFe s k; f.role == 0 && inWindow f.centre c.backup w
  firstFail
    ([stdHead 0x0402 6 r s] ++ needEngine r s n ++
     [ needSecure r s 0x06, need 9 (fld (r.w 3) 22 16 == 0 && c.pan != 0xFFFF) stBadParam 3,
       need 9 (decide (c.short ≤ 0xFFFD) && decide (20 ≤ c.bp) && decide (c.bp ≤ 60000)) stBadParam 4,
       need 9 (decide (c.offset < c.bp) && fld (r.w 5) 3 0 == 0) stBadParam 5,
       need 9 (c.keyIdx != 0 && decide (2 ≤ c.window) && decide (c.window < c.bp) && fld (r.w 7) 5 0 == 0) stBadParam 7,
       need 9 (c.grpIdx != 0 && fld (r.w 8) 13 0 == 0) stBadParam 8,
       need 12 (c.backup == 0 || (storedCes s).all fun o => !(o.enable && chanOverlap c.backup w o.freq (phyWidth o.phy))) stBadParam 6,
       need 12 ((c.sec == 0 || slotUsable s c.keySlot 2 (some n)) && (c.grpSlot == 0 || slotUsable s c.grpSlot 2 (some n))) stKeyInvalid,
       need 12 (c.backup == 0 || (subOf (storedPlan s) c.backup w).isSome) stRegulatory,
       need 12 (c.backup == 0 || cover) stBadState ])

/-- MAC.BEACON_CONFIG takes effect (R231). -/
def applyMacBeaconConfig (r : Req) (s : State) : State :=
  let n := fld (r.w 3) 31 26
  let c := bcnCfgOf r
  let o := bcnOf s n
  let addr := o.pan != c.pan || o.short != c.short
  let sched := o.en != c.en || o.bp != c.bp || o.offset != c.offset || o.phase != c.phase || o.backup != c.backup
  let s1 := updMd n (fun m => { m with bcn := some c }) s
  let s2 := if addr || sched then restartMac n addr s1 else s1
  logEv evMacConfig r.port.val ([wd r.port.val, wd r.opcode] ++ bcnWords n o ++ bcnWords n c) (markStored 0x06 s2)

/-- MAC.BEACON_CONFIG (0x0402). -/
def execMacBeaconConfig (s : State) : Host.Outcome State Fault Refusal :=
  .next (serve 0x0402 chkMacBeaconConfig (storeAtBoundary 0x06) s)

/-! ### MAC.SLEEPY_CONFIG -/

/-- The configuration of a request. -/
def slpCfgOf (r : Req) : SlpCfg :=
  ⟨bit (r.w 3) 25, fld (r.w 3) 15 0, fld (r.w 4) 31 16, fld (r.w 4) 15 8, fld (r.w 4) 7 4, fld (r.w 4) 3 0, fld (r.w 5) 31 16,
   fld (r.w 5) 15 0, fld (r.w 6) 31 24⟩

/-- Words 3 to 6 of MAC.SLEEPY_CONFIG. -/
def slpWords (n : Nat) (c : SlpCfg) : List Word :=
  [ packW [(n, 26), (b2n c.force, 25), (c.defSp, 0)], packW [(c.resyncSp, 16), (c.pollMiss, 8), (c.trainFail, 4), (c.greetTries, 0)],
    packW [(c.greetInt, 16), (c.spread, 0)], packW [(c.preamble, 24)] ]

/-- Checks of MAC.SLEEPY_CONFIG. -/
def chkMacSleepyConfig (r : Req) (s : State) : Option Fail :=
  let n := fld (r.w 3) 31 26
  let c := slpCfgOf r
  let sp := fun x => decide (2 ≤ x) && decide (x ≤ 1500)
  firstFail
    ([stdHead 0x0403 4 r s] ++ needEngine r s n ++
     [ need 9 (fld (r.w 3) 24 16 == 0 && sp c.defSp) stBadParam 3,
       need 9 (sp c.resyncSp && decide (1 ≤ c.pollMiss) && decide (c.pollMiss ≤ 15) && c.trainFail != 0 && c.greetTries != 0) stBadParam 4,
       need 9 (decide (4500 ≤ c.greetInt) && decide (1 ≤ c.spread) && decide (c.spread ≤ 30000)) stBadParam 5,
       need 9 (decide (4 ≤ c.preamble) && decide (c.preamble ≤ 16) && fld (r.w 6) 23 0 == 0) stBadParam 6,
       need 12 (!(c.force && decide (0 < linkCount s n .poll))) stBadState ])

/-- MAC.SLEEPY_CONFIG takes effect. -/
def applyMacSleepyConfig (r : Req) (s : State) : State :=
  let n := fld (r.w 3) 31 26
  let c := slpCfgOf r
  logEv evMacConfig r.port.val ([wd r.port.val, wd r.opcode] ++ slpWords n (slpOf s n) ++ slpWords n c)
    (markStored 0x06 (updMd n (fun m => { m with slp := some c }) s))

/-- MAC.SLEEPY_CONFIG (0x0403). -/
def execMacSleepyConfig (s : State) : Host.Outcome State Fault Refusal :=
  .next (serve 0x0403 chkMacSleepyConfig (storeAtBoundary 0x06) s)

/-! ### MAC.LINK_STATE -/

/-- Checks of MAC.LINK_STATE. -/
def chkMacLinkState (r : Req) (s : State) : Option Fail :=
  let ep := fld (r.w 3) 17 0
  firstFail
    ([ stdHead 0x0404 1 r s, needWorld r s 0x06, needWorld r s 0x07 ] ++
     (match epOf s ep with | some x => needEngine r s x.engine | none => []) ++
     [ need 9 (fld (r.w 3) 31 18 == 0) stBadParam 3, need 10 (epOf s ep).isSome stNoEndpoint 3 ])

/-- MAC.LINK_STATE, its checks passed: the guard is computed at this read (R239, R243). -/
def actMacLinkState (r : Req) (s : State) : State :=
  let ep := fld (r.w 3) 17 0
  let s := driftLinks (engOf s ep) [ep] s
  match epOf s ep, linkOf s ep with
  | some x, some l =>
    ok r
      [ packW [(x.engine, 26), (linkCode l.st, 23), (b2n l.mains, 22), (l.alignSrc, 20), (ep, 0)],
        packW [(x.short, 16), (if x.sleepy = 2 then x.sp else 0, 0)], wd (l.contactTt / 4096), wd (tAlign s l / 4096),
        wd (sat 32 (guardUs s l x.eps)), packW [(x.eps, 16), (if x.sleepy = 1 then x.pollInt else 0, 0)],
        packW [(sat 16 (indirectOf s x.engine ep).length, 16), (sat 8 l.fails, 8), (sat 8 l.rounds, 0)],
        wd (sat 32 (if x.sleepy = 2 then trainUs s l x else 0)), packW [(ofSigned 8 l.rssi, 24), (ofSigned 8 l.snr, 16)] ] s
  | _, _ => ok r (wd ep :: List.replicate 8 0) s

/-- MAC.LINK_STATE (0x0404). -/
def execMacLinkState (s : State) : Host.Outcome State Fault Refusal :=
  .next (serve 0x0404 chkMacLinkState actMacLinkState s)

/-! ### MAC.RAW_SEND -/

/-- PSDU octets of a request without the FCS. -/
def rawLen (r : Req) : Nat := fld (r.w 5) 10 0

/-- Octet `i` of the PSDU. -/
def rawOctet (r : Req) (i : Nat) : Nat := let w := r.w (6 + i / 4); fld w (31 - 8 * (i % 4)) (24 - 8 * (i % 4))

/-- Pad bits of the last word are 0. -/
def rawPad (r : Req) : Bool :=
  let l := rawLen r
  (List.range ((4 - l % 4) % 4)).all fun k => rawOctet r (l + k) == 0

/-- Checks of MAC.RAW_SEND. -/
def chkMacRawSend (r : Req) (s : State) : Option Fail :=
  let n := fld (r.w 3) 31 26
  let train := bit (r.w 3) 24
  let dst := fld (r.w 4) 31 16
  let ms := fld (r.w 4) 15 0
  let l := rawLen r
  let type := rawOctet r 0 % 8
  let link := trainLink s n dst
  firstFail
    ([stdHead 0x0405 (3 + (l + 3) / 4) r s] ++ needEngine r s n ++
     [ needSecure r s 0x06, need 9 (fld (r.w 3) 22 16 == 0 && decide (1 ≤ fld (r.w 3) 15 0) && decide (fld (r.w 3) 15 0 ≤ 32767)) stBadParam 3,
       need 9 (!train || (decide (ms ≤ 45000) && !(ms == 0 && dst == 0xFFFF))) stBadParam 4,
       need 9 (fld (r.w 5) 31 11 == 0 && decide (3 ≤ l) && decide (l ≤ 2043)) stBadParam 5,
       need 9 (rawOctet r 1 / 16 % 4 == 2 && type != 4 && type != 6 && type != 7) stBadParam 6,
       need 9 (rawPad r) stBadParam (5 + (l + 3) / 4),
       need 10 (!(train && ms == 0) || link.isSome) stNoEndpoint 4,
       need 12 (planOf s).isSome stNoBandPlan, need 12 (ceOn s n) stBadState,
       need 12 (!(train && bit (r.w 3) 23) || (match link with | some x => x.2.st != .adrift && x.2.st != .resync | none => true)) stAdrift,
       need 13 (decide ((mdOf s n).raws.length < 2) && txRoom s n) stFull ])

/-- MAC.RAW_SEND, its checks passed. -/
def actMacRawSend (r : Req) (s : State) : State :=
  let n := fld (r.w 3) 31 26
  let train := bit (r.w 3) 24
  let ms := fld (r.w 4) 15 0
  let dst := fld (r.w 4) 31 16
  let us := if !train then 0 else if ms ≠ 0 then ms * 1000 else
    match trainLink s n dst with
    | some (ep, l) => (match epOf s ep with | some x => trainUs s l x | none => 0)
    | none => 0
  let id := s.mac.nextRaw
  let psdu := (List.range (rawLen r)).map (rawOctet r)
  let f : Frame := ⟨if train then 1 else 2, s.tt.tt + fld (r.w 3) 15 0 * 4096, rawLen r + 4, us, .raw id, none,
    if bit (r.w 3) 25 then some (2 ^ 18) else none, (readMhr psdu).seq, 0, none, ⟨.absent, [], psdu⟩⟩
  let s1 := updMd n (fun m => { m with raws := m.raws ++ [⟨id, bit (r.w 3) 25, r.origin, psdu, dst, train && ms == 0, 0, 0⟩] })
    { s with mac := { s.mac with nextRaw := id + 1 } }
  stageFrame n f (acceptN r s1)

/-- MAC.RAW_SEND (0x0405): the frame is staged as given. -/
def execMacRawSend (s : State) : Host.Outcome State Fault Refusal :=
  .next (serve 0x0405 chkMacRawSend actMacRawSend s)

end Sys2Proof.Machine
end

