-- ==== Sys2Proof/Machine/MtrCmd.lean ====
section
/-!
DEFINITION. The MTR commands and calibration (11, R338, R351, R352).
-/
namespace Sys2Proof.Machine

/-- What every MTR command checks first: block 0x0B is present, in reach and in service (R351). -/
def mtrHead (code n : Nat) (r : Req) (s : State) : List (Option Fail) :=
  [stdHead code n r s, needPresent s 0x0B, needWorld r s 0x0B, needSvc s 0x0B]

/-- The same for a command of secure hosts. -/
def mtrHeadSecure (code n : Nat) (r : Req) (s : State) : List (Option Fail) :=
  [stdHead code n r s, needPresent s 0x0B, needSecure r s 0x0B, needSvc s 0x0B]

/-! ### Configurations: their words, and their effect on the stored contents -/

/-- The configuration words of an input. -/
def mtrInputWords (k : Nat) (x : MtrInput) : List Word :=
  [packW [(0, 30), (k, 25), (b2n x.enable, 24), (b2n x.lvds, 23), (b2n x.manch, 22), (x.clk, 20), (b2n x.edge, 19), (x.delay, 15), (x.osr, 13)], 0]

/-- The configuration words of a clock. -/
def mtrClockWords (k : Nat) (x : MtrClock) : List Word := [packW [(1, 30), (k, 25), (b2n x.enable, 24), (b2n x.lvds, 23)], packW [(x.div, 0)]]

/-- The global configuration words. -/
def mtrGlobalWords (x : MtrGlobal) : List Word := [packW [(2, 30)], packW [(x.intMin, 24), (x.saveMin, 16), (x.balDelay, 8)]]

/-- The configuration words of a feeder. -/
def feederWords (f : Nat) (c : FeederCfg) : List Word :=
  let v := fun i => c.v.getD i 0
  let i := fun j => c.i.getD j 0
  [ packW [(f, 30), (b2n c.enable, 29), (b2n c.neutral, 28)],
    packW [(v 0, 25), (v 1, 20), (v 2, 15), (i 0, 10), (i 1, 5), (i 2, 0)], packW [(c.inN, 27)], packW [(c.vFs, 16), (c.iFs, 0)],
    packW [(c.pRated, 16), (c.loss, 0)], packW [(c.tolRel, 16), (c.tolAbs, 0)], packW [(c.covMin, 22)] ]

/-- The configuration words of a pulse output. -/
def pulseWords (k : Nat) (p : PulseOut) : List Word :=
  [ packW [(k, 29), (b2n p.enable, 28), (p.feeder, 26), (p.phase, 24), (p.quantity, 21)], wd p.const, packW [(p.width, 16)] ]

/-- `KIND` of MTR.INPUT_CONFIG. -/
def mtrKind (r : Req) : Nat := fld (r.w 3) 31 30
/-- `INDEX`. -/
def mtrIndex (r : Req) : Nat := fld (r.w 3) 29 25

/-- The input a request configures. -/
def mtrInputOf (r : Req) : MtrInput :=
  ⟨bit (r.w 3) 24, bit (r.w 3) 23, bit (r.w 3) 22, fld (r.w 3) 21 20, bit (r.w 3) 19, fld (r.w 3) 18 15, fld (r.w 3) 14 13⟩

/-- The clock a request configures. -/
def mtrClockOf (r : Req) : MtrClock := ⟨bit (r.w 3) 24, bit (r.w 3) 23, fld (r.w 4) 4 0⟩

/-- The feeder configuration of a request. -/
def feederCfgOf (r : Req) : FeederCfg :=
  { enable := bit (r.w 3) 29, neutral := bit (r.w 3) 28
    v := [fld (r.w 4) 29 25, fld (r.w 4) 24 20, fld (r.w 4) 19 15], i := [fld (r.w 4) 14 10, fld (r.w 4) 9 5, fld (r.w 4) 4 0]
    inN := fld (r.w 5) 31 27, vFs := fld (r.w 6) 31 16, iFs := fld (r.w 6) 15 0, pRated := fld (r.w 7) 31 16, loss := fld (r.w 7) 15 0
    tolRel := fld (r.w 8) 31 16, tolAbs := fld (r.w 8) 15 0, covMin := fld (r.w 9) 31 22 }

/-- A pulse output as a request leaves it: its accumulator begins anew, and owed pulses stay unless `CLEAR_OWED`. -/
def pulseOf (r : Req) (p : PulseOut) : PulseOut :=
  { p with
    enable := bit (r.w 3) 28, feeder := fld (r.w 3) 27 26, phase := fld (r.w 3) 25 24, quantity := fld (r.w 3) 23 21
    const := (r.w 4).toNat, width := fld (r.w 5) 31 16, acc := 0, owed := if bit (r.w 5) 15 then 0 else p.owed, w := fld (r.w 5) 31 16 * 40000 }

/-- The effect of a configuration request on the configuration alone. -/
def Meter.setCfg (m : Meter) (r : Req) : Meter :=
  if r.opcode = 0x0901 then
    if mtrKind r = 0 then { m with inputs := updAt m.inputs (mtrIndex r) fun _ => mtrInputOf r }
    else if mtrKind r = 1 then { m with clocks := updAt m.clocks (mtrIndex r) fun _ => mtrClockOf r }
    else { m with global := ⟨fld (r.w 4) 31 24, fld (r.w 4) 23 16, fld (r.w 4) 15 8⟩ }
  else if r.opcode = 0x0902 then
    { m with feeders := updAt m.feeders (fld (r.w 3) 31 30) fun x => { x with cfg := feederCfgOf r } }
  else if r.opcode = 0x0905 then { m with pulses := updAt m.pulses (fld (r.w 3) 31 29) (pulseOf r) }
  else m

/-- The configuration as stored: requests that wait for their boundary count. -/
def storedMeter (s : State) : Meter :=
  (s.tl.entries.filterMap fun e => match e.kind with | .config r => some r | _ => none).foldl Meter.setCfg s.mtr

/-- Inputs that an enabled feeder uses. -/
def Meter.usedInputs (m : Meter) : List Nat := (m.feeders.map fun x => if x.cfg.enable then x.cfg.inputs else []).flatten

/-- Clocks that an enabled feeder uses. -/
def Meter.usedClocks (m : Meter) : List Nat := m.usedInputs.map fun k => (m.inputs.getD k default).clk

/-- f_s lies in [8 kS/s, 80 kS/s] (R329), for a clock whose divider is set. -/
def fsOk (div osr : Nat) : Bool := div == 0 || (decide (500 ≤ div * (64 * 2 ^ osr)) && decide (div * (64 * 2 ^ osr) ≤ 5000))

/-! ### MTR.INPUT_CONFIG -/

/-- Checks of MTR.INPUT_CONFIG. -/
def chkMtrInputConfig (r : Req) (s : State) : Option Fail :=
  let m := storedMeter s
  let k := mtrKind r
  let i := mtrIndex r
  let x := mtrInputOf r
  let c := mtrClockOf r
  firstFail (mtrHeadSecure 0x0901 2 r s ++
    [ need 9 (k != 3) stBadParam 3,
      need 9 (k != 0 || (fld (r.w 3) 12 0 == 0 && fsOk (m.clocks.getD x.clk default).div x.osr)) stBadParam 3,
      need 9 (k != 0 || r.w 4 == 0) stBadParam 4,
      need 9 (k != 1 || (decide (i < 4) && fld (r.w 3) 22 0 == 0)) stBadParam 3,
      need 9 (k != 1 || (fld (r.w 4) 31 5 == 0 && decide (2 ≤ c.div) && decide (c.div ≤ 20) &&
        m.inputs.all fun y => !(y.enable && y.clk == i) || fsOk c.div y.osr)) stBadParam 4,
      need 9 (k != 2 || fld (r.w 3) 29 0 == 0) stBadParam 3,
      need 9 (k != 2 || ([1, 5, 10, 15, 30, 60].contains (fld (r.w 4) 31 24) && decide (5 ≤ fld (r.w 4) 23 16) && decide (fld (r.w 4) 23 16 ≤ 60) &&
        decide (1 ≤ fld (r.w 4) 15 8) && decide (fld (r.w 4) 15 8 ≤ 4) && fld (r.w 4) 7 0 == 0)) stBadParam 4,
      need 12 (k != 0 || !m.usedInputs.contains i || x == m.inputs.getD i default) stBadState,
      need 12 (k != 1 || !m.usedClocks.contains i || c == m.clocks.getD i default) stBadState ])

/-- The old words that EV_METER_CONFIG carries for MTR.INPUT_CONFIG. -/
def mtrOldInput (r : Req) (s : State) : List Word :=
  if mtrKind r = 0 then mtrInputWords (mtrIndex r) (s.mtr.inputs.getD (mtrIndex r) default)
  else if mtrKind r = 1 then mtrClockWords (mtrIndex r) (s.mtr.clocks.getD (mtrIndex r) default)
  else mtrGlobalWords s.mtr.global

/-- EV_METER_CONFIG, and the settings set stored. -/
def mtrConfigured (r : Req) (old : List Word) (s : State) : State :=
  logEv evMeterConfig r.port.val ([wd r.port.val, wd r.opcode] ++ old ++ r.words.drop 3) (markStored 0x0B s)

/-- MTR.INPUT_CONFIG takes effect; a new `INT_MIN` holds from the close of the current interval (R339). -/
def applyMtrInputConfig (r : Req) (s : State) : State :=
  let s1 := { s with mtr := s.mtr.setCfg r }
  let s2 := if mtrKind r = 0 && !bit (r.w 3) 24 then { s1 with mtr := { s1.mtr with faults := setBit s1.mtr.faults (mtrIndex r) false } } else s1
  mtrConfigured r (mtrOldInput r s) s2

/-- MTR.INPUT_CONFIG (0x0901). -/
def execMtrInputConfig (s : State) : Host.Outcome State Fault Refusal := .next (serve 0x0901 chkMtrInputConfig (storeAtBoundary 0x0B) s)

/-! ### MTR.FEEDER_CONFIG -/

/-- The assignment rules of R330 that concern which input serves what. -/
def assignOk (m : Meter) (f : Nat) (c : FeederCfg) : Bool :=
  let others := (List.range 4).filter fun g => g != f && (m.feeders.getD g default).cfg.enable
  let cur := c.i ++ (if c.neutral then [c.inN] else [])
  let curO := (others.map fun g => let o := (m.feeders.getD g default).cfg; o.i ++ (if o.neutral then [o.inN] else [])).flatten
  let vO := (others.map fun g => (m.feeders.getD g default).cfg.v).flatten
  cur.Nodup && cur.all (fun k => !curO.contains k && !vO.contains k && !c.v.contains k) && c.v.all fun k => !curO.contains k

/-- Every input of the feeder is enabled, on one enabled clock and `OSR` (R330). -/
def inputsOk (m : Meter) (c : FeederCfg) : Bool :=
  let x := fun k => m.inputs.getD k default
  let a := x (c.v.getD 0 0)
  (m.clocks.getD a.clk default).enable && c.inputs.all fun k => (x k).enable && (x k).clk == a.clk && (x k).osr == a.osr

/-- Tether uses a source of the feeder (R72). -/
def tetherUses (s : State) (f : Nat) : Bool :=
  let c := s.tt.cfgNext.getD s.tt.cfg
  [c.primary, c.secondary].any fun k => decide (0x11 ≤ k) && decide (k ≤ 0x1F) && k % 16 / 4 == f

/-- Checks of MTR.FEEDER_CONFIG. -/
def chkMtrFeederConfig (r : Req) (s : State) : Option Fail :=
  let m := storedMeter s
  let f := fld (r.w 3) 31 30
  let c := feederCfgOf r
  let old := (m.feeders.getD f default).cfg
  firstFail (mtrHeadSecure 0x0902 7 r s ++
    [ need 9 (fld (r.w 3) 26 0 == 0 && (!bit (r.w 3) 27 || (c.enable && !old.enable))) stBadParam 3,
      need 9 (fld (r.w 4) 31 30 == 0 && (!c.enable || assignOk m f c)) stBadParam 4,
      need 9 ((c.neutral || c.inN == 0) && fld (r.w 5) 26 0 == 0) stBadParam 5,
      need 9 (decide (10 ≤ c.vFs) && decide (1 ≤ c.iFs)) stBadParam 6, need 9 (decide (1 ≤ c.pRated) && decide (c.loss ≤ 200)) stBadParam 7,
      need 9 (decide (1 ≤ c.tolRel) && decide (c.tolRel ≤ 1000)) stBadParam 8,
      need 9 (decide (c.covMin ≤ 1000) && fld (r.w 9) 21 0 == 0) stBadParam 9,
      need 12 (!c.enable || inputsOk m c) stBadState, need 12 (c.enable || !old.enable || !tetherUses s f) stBadState ])

/-- All registers of a feeder as words, high word first: phases 1 to 3 and the total. -/
def regWords (x : Feeder) : List Word :=
  ((((List.range 3).map fun p => (x.ph.getD p default).e) ++ [x.total]).map fun e =>
    ((List.range 5).map fun k => [hi32 (microOf (e.q k)), wd (microOf (e.q k))]).flatten).flatten

/-- MTR.FEEDER_CONFIG takes effect: an open interval closes with `CONFIG`, a newly enabled feeder opens one, `CLEAR` zeroes the
registers (R334, R339), and a pending calibration of the feeder is abandoned. -/
def applyMtrFeederConfig (r : Req) (s : State) : State :=
  let f := fld (r.w 3) 31 30
  let old := (feeder s f).cfg
  let s1 := abandonCal f s
  let s2 := if bit (r.w 3) 27 then
      logEv evMeterClear r.port.val ([wd r.port.val, wd f] ++ regWords (feeder s f))
        (onFeeder f (fun x => { x with
          ph := x.ph.map fun p => { p with e := Energies.zero, impCyc := 0, expCyc := 0 }, total := Energies.zero }) s1)
    else s1
  let s3 := { s2 with mtr := { s2.mtr.setCfg r with
    saveDue := s2.mtr.saveDue || bit (r.w 3) 27
    base := if bit (r.w 3) 27 then updAt s2.mtr.base f fun _ => (0, 0) else s2.mtr.base } }
  let s4 :=
    if old.enable then onFeeder f (fun x => { x with closeFlags := x.closeFlags ||| qConfig ||| qShort }) s3
    else if bit (r.w 3) 29 && s.mtr.cyc.isSome then openInterval f qShort s3 else s3
  mtrConfigured r (feederWords f old) s4

/-- MTR.FEEDER_CONFIG (0x0902). -/
def execMtrFeederConfig (s : State) : Host.Outcome State Fault Refusal := .next (serve 0x0902 chkMtrFeederConfig (storeAtBoundary 0x0B) s)

/-! ### Reads -/

/-- Checks of MTR.READ. -/
def chkMtrRead (r : Req) (s : State) : Option Fail :=
  firstFail (mtrHead 0x0903 1 r s ++
    [need 9 (fld (r.w 3) 31 2 == 0) stBadParam 3, need 12 (feeder s (fld (r.w 3) 1 0)).cfg.enable stFeederUnconfigured])

/-- MTR.READ, its checks passed. -/
def actMtrRead (r : Req) (s : State) : State :=
  let f := fld (r.w 3) 1 0
  let x := feeder s f
  let ph := fun p => x.ph.getD p default
  let tt := s.mtr.cyc.getD (cycOf s) * 4096
  let (sec, frac, fl) := s.mtr.latch
  ok r
    ([packW [(f, 30), (match x.interval with | some v => v.quality | none => 0, 0)]] ++ ttWords tt ++
      [wd sec, packW [(frac, 16), (fl, 8), (sec / 2 ^ 32 % 256, 0)]] ++ regWords x ++
      ((List.range 3).map fun p => [wd (ph p).impCyc, wd (ph p).expCyc]).flatten ++
      ((List.range 3).map fun p => [wd (ph p).vMv, wd (ph p).iMa, wd (ofSigned 32 (ph p).pMw)]).flatten ++
      [wd x.inMa, wd ((s.mtr.pulses.find? fun p => p.enable && p.feeder == f).elim 0 PulseOut.owed)]) s

/-- MTR.READ (0x0903). -/
def execMtrRead (s : State) : Host.Outcome State Fault Refusal :=
  .next (serve 0x0903 chkMtrRead actMtrRead s)

/-- `SEQ` of a record. -/
def recSeq (r : List Word) : Nat := (wAt r 0).toNat

/-- Checks of MTR.INTERVALS. -/
def chkMtrIntervals (r : Req) (s : State) : Option Fail :=
  firstFail (mtrHead 0x0904 2 r s ++ [need 9 (fld (r.w 3) 31 4 == 0) stBadParam 3])

/-- MTR.INTERVALS, its checks passed. -/
def actMtrIntervals (r : Req) (s : State) : State :=
  let mask := if fld (r.w 3) 3 0 = 0 then 15 else fld (r.w 3) 3 0
  let first := (r.w 4).toNat
  let oldest := match s.mtr.ring.head? with | some x => recSeq x | none => s.mtr.nextSeq
  let all := s.mtr.ring.filter fun x => decide (first ≤ recSeq x) && mask.testBit (fld (wAt x 2) 23 22)
  let out := all.take 101
  let next := match all[101]? with | some x => recSeq x | none => s.mtr.nextSeq
  ok r ([packW [(out.length, 16), (b2n (decide (first < oldest)), 0)], wd next, wd oldest] ++ out.flatten) s

/-- MTR.INTERVALS (0x0904). -/
def execMtrIntervals (s : State) : Host.Outcome State Fault Refusal :=
  .next (serve 0x0904 chkMtrIntervals actMtrIntervals s)

/-- Checks of MTR.BALANCE. -/
def chkMtrBalance (r : Req) (s : State) : Option Fail :=
  firstFail (mtrHead 0x0907 0 r s)

/-- MTR.BALANCE, its checks passed. -/
def actMtrBalance (r : Req) (s : State) : State :=
  let one := fun f => match (feeder s f).balance with
    | none => List.replicate 9 (0 : Word)
    | some b => [ packW [(b.result, 30), (b.quality, 0)], wd b.seq, wd b.startSec, wd (ofSigned 32 b.ef), wd (ofSigned 32 b.eEst),
        wd (ofSigned 32 b.d), packW [(b.nAll, 0)], packW [(b.nCov, 0)], wd (ofSigned 32 b.tol) ]
  ok r (wd (maskOf 4 fun f => (feeder s f).balance.isSome) :: ((List.range 4).map one).flatten) s

/-- MTR.BALANCE (0x0907). -/
def execMtrBalance (s : State) : Host.Outcome State Fault Refusal :=
  .next (serve 0x0907 chkMtrBalance actMtrBalance s)

/-! ### MTR.PULSE_CONFIG -/

/-- Checks of MTR.PULSE_CONFIG. -/
def chkMtrPulseConfig (r : Req) (s : State) : Option Fail :=
  let m := storedMeter s
  firstFail (mtrHeadSecure 0x0905 3 r s ++
    [ need 9 (fld (r.w 3) 20 0 == 0 && decide (fld (r.w 3) 23 21 ≤ 4)) stBadParam 3,
      need 9 (decide (1 ≤ (r.w 4).toNat) && decide ((r.w 4).toNat ≤ 1000000)) stBadParam 4,
      need 9 (fld (r.w 5) 14 0 == 0 && decide (2 ≤ fld (r.w 5) 31 16) && decide (fld (r.w 5) 31 16 ≤ 250)) stBadParam 5,
      need 12 (!bit (r.w 3) 28 || (m.feeders.getD (fld (r.w 3) 27 26) default).cfg.enable) stFeederUnconfigured ])

/-- MTR.PULSE_CONFIG takes effect. -/
def applyMtrPulseConfig (r : Req) (s : State) : State :=
  let k := fld (r.w 3) 31 29
  mtrConfigured r (pulseWords k (s.mtr.pulses.getD k default)) { s with mtr := s.mtr.setCfg r }

/-- MTR.PULSE_CONFIG (0x0905). -/
def execMtrPulseConfig (s : State) : Host.Outcome State Fault Refusal := .next (serve 0x0905 chkMtrPulseConfig (storeAtBoundary 0x0B) s)

/-! ### Calibration (R338) -/

/-- The coefficients a request gives: unity for `MODE` 2. -/
def calCoef (r : Req) : Coef :=
  if fld (r.w 3) 31 30 = 0 then ⟨sfld (r.w 4) 31 16, sfld (r.w 4) 15 0, sfld (r.w 5) 31 16⟩ else ⟨0, 0, 0⟩

/-- The gains a request gives lie in range. -/
def calGainOk (r : Req) : Bool := decide ((calCoef r).vGain.natAbs ≤ 10000) && decide ((calCoef r).iGain.natAbs ≤ 10000)

/-- Checks of MTR.CALIBRATE. -/
def chkMtrCalibrate (r : Req) (s : State) : Option Fail :=
  let mode := fld (r.w 3) 31 30
  let f := fld (r.w 3) 29 28
  firstFail (mtrHeadSecure 0x0906 3 r s ++
    [ need 9 (mode != 3 && fld (r.w 3) 27 26 != 0 && fld (r.w 3) 25 0 == 0) stBadParam 3,
      need 9 (mode != 1 || (decide (50 ≤ (r.w 4).toNat) && decide ((r.w 4).toNat ≤ 30000))) stBadParam 4, need 9 (mode != 2 || r.w 4 == 0) stBadParam 4,
      need 9 (if mode = 0 then fld (r.w 5) 15 0 == 0 else r.w 5 == 0) stBadParam 5,
      need 9 (calGainOk r) stCalRange 4, need 9 (decide ((calCoef r).phase.natAbs ≤ 5000)) stCalRange 5, aacCheck r s, need 12 (feeder s f).cfg.enable stFeederUnconfigured, need 13 (feeder s f).cal.isNone stBusy ])

/-- MTR.CALIBRATE accepted: the change is posted as a rank 3 entry, or the measurement begins at its target. -/
def startCal (r : Req) (s : State) : State :=
  let mode := fld (r.w 3) 31 30
  let f := fld (r.w 3) 29 28
  let t := targetCyc r s
  let run : CalRun := ⟨r.origin, r.w 3, mode, fld (r.w 3) 27 26, calCoef r, t, if mode = 1 then (r.w 4).toNat else 0, 0, 0, 0, 0, 0⟩
  if mode = 1 then
    acceptN r (logEv evMeterCal r.port.val [wd r.port.val, wd f, wd run.phase, wd mode, r.w 4, wd t]
      (onFeeder f (fun x => { x with cal := some run }) s))
  else match tlPost (t * 4096) 3 0x0B (.calApply f) s with
    | some s1 => acceptN r (onFeeder f (fun x => { x with cal := some run }) s1)
    | none => failReq r ⟨13, stFull, 0xFFFF, 0⟩ (tlFull 0x0B 2 (stopAct 5 f s))

/-- MTR.CALIBRATE, its checks passed. -/
def actMtrCalibrate (r : Req) (s : State) : State :=
  admitReq 5 (fld (r.w 3) 29 28) r (startCal r) s

/-- MTR.CALIBRATE (0x0906): activity 5 of Ballast, from acceptance to its final status. -/
def execMtrCalibrate (s : State) : Host.Outcome State Fault Refusal :=
  .next (serve 0x0906 chkMtrCalibrate actMtrCalibrate s)

/-- The gains of a coefficient set as a word, and the phase. -/
def coefWords (c : Coef) : List Word := [packW [(ofSigned 16 c.vGain, 16), (ofSigned 16 c.iGain, 0)], packW [(ofSigned 16 c.phase, 16)]]

/-- METER_CAL_APPLY: the rank 3 entry, once every cycle before the target has been computed with the old coefficients. -/
def execMeterCalApply (s : State) : Host.Outcome State Fault Refusal :=
  .next
    (if (s.mtr.cyc.getD (cycOf s)) < cycOf s then s
     else tlFire (fun k _ => match k with
      | .calApply f => some fun s =>
        match (feeder s f).cal with
        | none => s
        | some c =>
          let old := (feeder s f).coef.getD (c.phase - 1) default
          let s1 := onFeeder f (fun x => { x with coef := updAt x.coef (c.phase - 1) fun _ => c.coef, cal := none, calMark := some (cycOf s) }) s
          let s2 := logEv evMeterCal c.org.port.val ([wd c.org.port.val, wd f, wd c.phase, wd c.mode] ++ coefWords old ++ coefWords c.coef ++ [wd c.target])
            (markStored 0x0B (stopAct 5 f s1))
          complete c.org stOk ([c.word3, wd c.target] ++ coefWords old) s2
      | _ => none) s)

/-- METER_MEASURE_END: the measurement run of feeder `f` has its N cycles. -/
def execMeterMeasureEnd (f : Nat) (s : State) : Host.Outcome State Fault Refusal :=
  .next
    (match (feeder s f).cal with
     | none => s
     | some c =>
       if c.mode = 1 && decide (c.n ≤ c.done) then
         let n64 := fun (x : Int) => let v := ofSigned 64 (roundDiv x mtrMicro); [hi32 v, wd v]
         complete c.org stOk ([c.word3, wd c.target] ++ n64 c.p ++ n64 c.q ++ [wd (c.vSum / Nat.max c.done 1), wd (c.iSum / Nat.max c.done 1), wd c.done])
           (stopAct 5 f (onFeeder f (fun x => { x with cal := none }) s))
       else s)

end Sys2Proof.Machine
end

