-- ==== Sys2Proof/Machine/Sign.lean ====
section
/-!
DEFINITION. The sign and beacon drive: functions, duty, faults, the matrix port, colour tracking and derating (12, R354 to R371).
-/
namespace Sys2Proof.Machine

/-! ### Outputs -/

/-- The unit drives its outputs: variant A, past BOOT, in service (R354). -/
def sgnUp (s : State) : Bool := s.dev.variant == .a && served s && !withdrawn s 0x0C

/-- An output is enabled: strings 0 to 15, sinks 16 to 23, the matrix 24. -/
def outEnabled (g : Sign) (k : Nat) : Bool :=
  if k < 16 then (g.strings.getD k default).enable else if k < 24 then (g.sinks.getD (k - 16) default).enable
  else k == 24 && g.matrix.enable

/-- The NTC of an output: 0 none, 1 NTC0, 2 NTC1. -/
def outNtc (g : Sign) (k : Nat) : Nat :=
  if k < 16 then (g.strings.getD k default).ntc else if k < 24 then (g.sinks.getD (k - 16) default).ntc else g.matrix.ntc

/-- The colour of an output. -/
def outColour (g : Sign) (k : Nat) : Nat := if k < 16 then (g.strings.getD k default).colour else 0

/-- The derating factor of an output (R356, R370). -/
def outFactor (g : Sign) (k : Nat) : Nat :=
  match outNtc g k with
  | 0 => 1000
  | n => let x := g.ntc.getD (n - 1) default
    if !x.cfg.enable then 1000 else if x.fault then x.cfg.fMin else x.f

/-- The output is off for thermal shutdown (R371). -/
def outThermal (g : Sign) (k : Nat) : Bool :=
  match outNtc g k with
  | 0 => false
  | n => let x := g.ntc.getD (n - 1) default; x.cfg.enable && !x.fault && x.shutdown

/-- A member is latched open, or short, in the failure record. -/
def latchedOpen (r : FailRecord) (k : Nat) : Bool := r.looseOpen.testBit k || r.fns.any fun x => x.2.openM.testBit k
/-- A member is latched short. -/
def latchedShort (r : FailRecord) (k : Nat) : Bool := r.looseShort.testBit k || r.fns.any fun x => x.2.shortM.testBit k
/-- A member is latched faulty: it is held off (R361, R363). -/
def latchedM (r : FailRecord) (k : Nat) : Bool := latchedOpen r k || latchedShort r k

/-- A function's output at a cycle (R358). -/
def SgnFn.out (f : SgnFn) (level cyc : Nat) : Nat :=
  if f.on = 0 ∧ f.off = 0 then level
  else if (((cyc : Int) - f.offset) % (f.on + f.off : Nat) : Int) < f.on then level else 0

/-- A function is latched failed. -/
def fnFailed (g : Sign) (n : Nat) : Bool := (tget g.rec_.fns n).isSome

/-- L_s of an output: the largest output among the defined, non-failed functions that contain it (R358, R361). -/
def outLevel (g : Sign) (cyc k : Nat) : Nat :=
  if latchedM g.rec_ k then 0
  else (g.fns.filter fun x => x.2.members.testBit k && !fnFailed g x.1).foldl (fun m x => Nat.max m (x.2.out (g.levels.getD x.1 0) cyc)) 0

/-- The colour gain of an output, in 1/4,096. -/
def outGain (g : Sign) (k : Nat) : Nat := match outColour g k with | 0 => 4096 | c => g.gains.getD (c - 1) 4096

/-- D of R356, halves up. -/
def dutyOf (level gain f : Nat) : Nat := (2 * (level * gain * f * 1024) + 4096 * 1000 * 1000) / (2 * (4096 * 1000 * 1000))

/-- On-time of a duty in TCXO ticks at Tether's frequency: non-zero ones last 2 µs at least (R356). -/
def onTicks (s : State) (d : Nat) : Nat :=
  if d = 0 then 0 else Nat.max 80 (d * cycleTicks s / (1024 * 128))

/-- Every output's D at the current cycle. -/
def dutiesNow (s : State) : List Nat :=
  (List.range 25).map fun k =>
    if sgnUp s && outEnabled s.sgn k then dutyOf (outLevel s.sgn (cycOf s) k) (outGain s.sgn k) (outFactor s.sgn k) else 0

/-- The coloured, enabled strings. -/
def coloured (g : Sign) : List Nat := (List.range 16).filter fun k => outEnabled g k && outColour g k != 0

/-- D recomputed, with what colour tracking has to know of the read period (R369). -/
def recompute (s : State) : State :=
  let d := dutiesNow s
  let g := s.sgn
  let cs := coloured g
  let chg := cs.any fun k => d.getD k 0 != g.duty.getD k 0
  { s with sgn := { g with
    duty := d, changed := g.changed || chg
    anyLit := g.anyLit || (cs.any fun k => d.getD k 0 != 0), anyLow := g.anyLow || (cs.any fun k => decide (d.getD k 0 < 102)) } }

/-- SGN_CYCLE_UPDATE (R356, R358): at each cycle boundary. The operand gives the currents measured at the outputs' last on-times. -/
def execSgnCycleUpdate (cur : List Nat) (s : State) : Host.Outcome State Fault Refusal :=
  .next
    (if !sgnUp s || (match s.sgn.lastCyc with | some c => decide (cycOf s ≤ c) | none => false) then s
     else
       let s1 := recompute { s with sgn := { s.sgn with lastCyc := some (cycOf s), current := cur } }
       let un := (List.range 16).map fun k =>
         if outEnabled s1.sgn k && decide (onTicks s1 (s1.sgn.duty.getD k 0) < 640) then Nat.min 4096 (s1.sgn.untested.getD k 0 + 1) else 0
       { s1 with sgn := { s1.sgn with untested := un } })

/-- SGN_LEVEL_APPLY (R373): a rank 6 entry. -/
def execSgnLevelApply (s : State) : Host.Outcome State Fault Refusal :=
  .next (tlFire (fun k _ => match k with
    | .sgnLevel fn level => some fun s => recompute { s with sgn := { s.sgn with levels := updAt s.sgn.levels fn fun _ => level } }
    | _ => none) s)

/-! ### Faults (R359 to R363) -/

/-- The strings of a member mask, and the sinks. -/
def stringsOf (m : Nat) : Nat := m % 2 ^ 16
/-- The sinks of a member mask. -/
def sinksOf (m : Nat) : Nat := m / 2 ^ 16 % 2 ^ 8

/-- A change of the failure record is to be written within 1 s (R361, R363). -/
def setRecord (r : FailRecord) (s : State) : State :=
  { s with sgn := { s.sgn with rec_ := r, dirty := some (s.sgn.dirty.getD s.clk.ticks) } }

/-- A function fails with a member's fault (R361): recorded, logged and notified; a function already failed takes the member into its
record. -/
def failFunction (k : Nat) (short : Bool) (s : State) (n : Nat) : State :=
  let r := s.sgn.rec_
  let add := fun (x : Failed) => if short then { x with shortM := setBit x.shortM k true } else { x with openM := setBit x.openM k true }
  match tget r.fns n with
  | some x => setRecord { r with fns := tset r.fns n (add x) } s
  | none =>
    let f := (tget s.sgn.fns n).getD default
    let x := add ⟨f.members, f.cut, 0, 0⟩
    let s1 := setRecord { r with fns := tset r.fns n x } s
    notifyBlock 0x0C 0x0A02
      [packW [(n, 27), (sinksOf x.openM, 16), (stringsOf x.openM, 0)], packW [(sinksOf x.shortM, 16), (stringsOf x.shortM, 0)]]
      (logNs evSgnFunctionFailed n [n, x.openM, x.shortM, x.cut] s1)

/-- A qualified fault of a member: every function that contains it fails, or it is latched outside any function (R361). -/
def memberFault (k : Nat) (short : Bool) (s : State) : State :=
  let g := s.sgn
  let fns := (g.fns.filter fun x => x.2.members.testBit k).map Prod.fst
  let old := ((g.rec_.fns.filter fun x => x.2.members.testBit k).map Prod.fst).filter fun n => !fns.contains n
  let s1 :=
    if (fns ++ old).isEmpty then
      let r := g.rec_
      logEv evSgnStringFault k [wd k, wd (b2n short)]
        (setRecord (if short then { r with looseShort := setBit r.looseShort k true } else { r with looseOpen := setBit r.looseOpen k true }) s)
    else (fns ++ old).foldl (failFunction k short) s
  recompute { s1 with sgn := { s1.sgn with changed := true } }

/-- Faults of an output are looked for: it is enabled, not latched, and not off for thermal shutdown (R364). -/
def watched (s : State) (k : Nat) : Bool := sgnUp s && outEnabled s.sgn k && !latchedM s.sgn.rec_ k && !outThermal s.sgn k

/-- V_SET of a string in µV. -/
def vSetUv (c : StringCfg) : Nat := c.iSet * c.mohm

/-- A string's period shows OPEN (R359). -/
def stringOpen (c : StringCfg) (p : StringPeriod) : Bool := decide (16000 ≤ p.onNs) && p.gateMax && decide (2 * p.lsEndUv < vSetUv c)
/-- A string's period shows SHORT. -/
def stringShort (c : StringCfg) (p : StringPeriod) : Bool :=
  (decide (16000 ≤ p.onNs) && decide (3 * vSetUv c < 2 * p.lsEndUv)) || (decide (16000 ≤ p.offNs) && decide (vSetUv c < 4 * p.lsOffUv))

/-- Three consecutive periods agree on a fault. -/
def threeOf {α : Type} (test : α → Bool) (l : List α) : Bool := decide (3 ≤ l.length) && (l.drop (l.length - 3)).all test

/-- STRING_FAULT (R359): what the last qualifying periods of string `k` show. -/
def execStringFault (k : Nat) (ps : List StringPeriod) (s : State) : Host.Outcome State Fault Refusal :=
  .next
    (let c := s.sgn.strings.getD k default
     if decide (k < 16) && watched s k then
       if threeOf (stringShort c) ps then memberFault k true s else if threeOf (stringOpen c) ps then memberFault k false s else s
     else s)

/-- A sink's period shows OPEN (R360): its current is in 0.1 mA. -/
def sinkOpen (c : SinkCfg) (p : SinkPeriod) : Bool := decide (16000 ≤ p.onNs) && decide (p.cur < 5 * c.iSet) && decide (p.padMv < 500)

/-- SINK_FAULT (R360): what the last qualifying periods of sink `k` show. -/
def execSinkFault (k : Nat) (ps : List SinkPeriod) (s : State) : Host.Outcome State Fault Refusal :=
  .next
    (let c := s.sgn.sinks.getD k default
     if decide (k < 8) && watched s (16 + k) then
       if threeOf (fun p => decide (0 < p.onNs) && decide (6000 < p.padMv)) ps then memberFault (16 + k) true s
       else if threeOf (sinkOpen c) ps then memberFault (16 + k) false s else s
     else s)

/-! ### Matrix (R365 to R367) -/

/-- The buffer shown, and the back buffer. -/
def Sign.front (g : Sign) : List Word := if g.shown then g.frame1 else g.frame0
/-- The back buffer. -/
def Sign.back (g : Sign) : List Word := if g.shown then g.frame0 else g.frame1
/-- The back buffer replaced. -/
def Sign.setBack (g : Sign) (l : List Word) : Sign := if g.shown then { g with frame0 := l } else { g with frame1 := l }

/-- A shift of a frame begins: `MX_LEN` clocks of `MX_DIV` TCXO ticks. -/
def startShift (s : State) : State :=
  { s with sgn := { s.sgn with shiftEnd := some (s.clk.ticks + s.sgn.matrix.len * s.sgn.matrix.div) } }

/-- The latch pulse of a flip: the buffers exchange roles, and FLIPPED reports the instant (R366, R372). Refresh resumes at the first of its
instants after the latch (R367). -/
def latchFlip (late timeout : Bool) (s : State) : State :=
  let shown := !s.sgn.shown
  let g := s.sgn
  let s1 := { s with sgn := { g with
    shown := shown, flip := none, lastLatch := cycOf s
    lastRefresh := if g.matrix.refresh = 0 then g.lastRefresh else cycOf s - (cycOf s - g.lastRefresh) % g.matrix.refresh } }
  notifyBlock 0x0C 0x0A01 [packW [(b2n late, 31), (b2n timeout, 30), (b2n shown, 29), (ttPh s.tt.tt, 0)], cycLo s] s1

/-- The latch instant of the armed flip: now, or after the end of the shift, late. -/
def latchAt (timeout : Bool) (s : State) : State :=
  match s.sgn.flip with
  | none => s
  | some f =>
    if s.sgn.shiftEnd.isNone then latchFlip false timeout s
    else { s with sgn := { s.sgn with flip := some { f with due := true, timeout := timeout } } }

/-- A qualified edge on SYNC_IN: of polarity `SYNC_POL`, held 1 µs, 100 µs after the previous one (R366). -/
def syncQualified (s : State) (e : SyncEdge) : Bool :=
  (e.rising != s.sgn.matrix.syncPol) && decide (1000 ≤ e.heldNs) &&
    (match s.sgn.lastSyncTick with | none => true | some t => decide (t + 4000 ≤ s.clk.ticks))

/-- MATRIX_LATCH (R366): at the target of a `MODE` 0 flip (no edge given), or at an edge on SYNC_IN. -/
def execMatrixLatch (e : Option SyncEdge) (s : State) : Host.Outcome State Fault Refusal :=
  .next
    (match e with
     | none => tlFire (fun k _ => match k with | .sgnFlip => some (latchAt false) | _ => none) s
     | some x =>
       if s.dev.variant == .a && syncQualified s x then
         let s1 := { s with sgn := { s.sgn with lastSync := cycOf s, lastSyncTick := some s.clk.ticks } }
         match s.sgn.flip with
         | some f => if f.mode = 1 ∧ f.due = false ∧ f.target * 4096 ≤ s.tt.tt then latchAt false s1 else s1
         | none => s1
       else s)

/-- SYNC_TIMEOUT (R366): no qualified edge within `SYNC_TIMEOUT` cycles of the target. -/
def execSyncTimeout (s : State) : Host.Outcome State Fault Refusal :=
  .next
    (match s.sgn.flip with
     | none => s
     | some f =>
       if f.mode = 1 ∧ f.due = false ∧ f.target + s.sgn.matrix.syncTimeout ≤ cycOf s then
         latchAt true (logLim evSgnSyncTimeout 0xFF (fun n => [wd f.target, wd n])
           { s with sgn := { s.sgn with syncTimeouts := sat 16 (s.sgn.syncTimeouts + 1) } })
       else s)

/-- MATRIX_SHIFT_END: a shift finishes; a latch already due follows, late. -/
def execMatrixShiftEnd (s : State) : Host.Outcome State Fault Refusal :=
  .next
    (match s.sgn.shiftEnd with
     | none => s
     | some t =>
       if s.clk.ticks < t then s
       else
         let s1 := { s with sgn := { s.sgn with shiftEnd := none } }
         match s.sgn.flip with
         | some f => if f.due then latchFlip true f.timeout s1 else s1
         | none => s1)

/-- MATRIX_REFRESH (R367): every `MX_REFRESH` cycles the front buffer is shifted and latched again; not while a flip is armed. -/
def execMatrixRefresh (s : State) : Host.Outcome State Fault Refusal :=
  .next
    (let g := s.sgn
     if sgnUp s && g.matrix.enable && g.matrix.refresh != 0 && g.flip.isNone && decide (g.lastRefresh + g.matrix.refresh ≤ cycOf s) then
       { s with sgn := { g with refreshes := sat 16 (g.refreshes + 1), lastRefresh := cycOf s, lastLatch := cycOf s } }
     else s)

/-! ### Colour tracking (R368, R369) -/

/-- `TARGET_c / rho_c` held within 0.995 to 1.005, in 1/100,000 as a fraction's numerator and denominator; a quotient that does not exist
is a free one within the limits. -/
def ratioClamp (target rho : Int × Nat) (x : Nat) : Int × Nat :=
  let n := target.1 * rho.2
  let d := target.2 * rho.1
  if d = 0 then (99500 + (x % 1001 : Nat), 100000)
  else
    let (n, d) := if d < 0 then (-n, -d) else (n, d)
    if n * 1000 < d * 995 then (995, 1000) else if d * 1005 < n * 1000 then (1005, 1000) else (n, d.toNat)

/-- Gains scaled so that the largest is 4,096, each held in [2,048, 4,096]. -/
def scaleGains (g : List Nat) : List Nat :=
  let m := Nat.max 1 (g.foldl Nat.max 0)
  g.map fun x => Nat.max 2048 (Nat.min 4096 (roundDiv (x * 4096 : Nat) m).toNat)

/-- rho of a channel against the clear one, dark readings taken off. -/
def rhoOf (g : Sign) (m : List Nat) (c : Nat) : Int × Nat :=
  let a : Int := (m.getD c 0 : Int) - g.dark.getD c 0
  let b : Int := (m.getD 3 0 : Int) - g.dark.getD 3 0
  if b < 0 then (-a, b.natAbs) else (a, b.natAbs)

/-- A reading processed (R369). -/
def trackColour (m : List Nat) (s : State) : State :=
  let g := s.sgn
  let clear := fun (g : Sign) => { g with anyLit := false, anyLow := false, changed := false }
  if !g.anyLit then { s with sgn := clear { g with dark := m } }
  else if g.anyLow || g.changed then { s with sgn := clear g }
  else
    let (x, s) := freshNat s
    let target := if g.sensor.learn then (List.range 3).map (rhoOf g m) else g.target
    let gains := scaleGains ((List.range 3).map fun c =>
      let (n, d) := ratioClamp (target.getD c (0, 1)) (rhoOf g m c) (x + c)
      (roundDiv ((g.gains.getD c 4096 : Int) * n) d).toNat)
    let held := (List.range 3).map fun c => if gains.getD c 0 = 2048 then g.heldRun.getD c 0 + 1 else 0
    let s1 := { s with sgn := { clear { g with gains := gains, target := target, heldRun := held } with changed := gains != g.gains } }
    (List.range 3).foldl (fun s c =>
      if held.getD c 0 = 0 ∨ held.getD c 0 % 64 ≠ 0 then s
      else logLim evSgnColourRange 0xFF (fun n => wd c :: gains.map wd ++ [wd n]) s) s1

/-- EV_SGN_SENSOR_FAULT: cause and onset or end. -/
def sensorEvent (r : SensorRead) (onset : Bool) (s : State) : State :=
  let cause := match r with | .timeout => 1 | _ => 0
  logEv evSgnSensorFault 0xFF [wd cause, wd (b2n (!onset))] s

/-- SENSOR_READ (R368): every `SNS_CYC` cycles, the first one after BOOT with `INIT_VAL` written to `INIT_REG` before it; three reads in a row that fail freeze the gains. -/
def execSensorRead (r : SensorRead) (s : State) : Host.Outcome State Fault Refusal :=
  .next
    (let g := s.sgn
     if sgnUp s && g.sensor.enable && !g.sensorFault && decide (g.lastRead + g.sensor.cyc ≤ cycOf s) then
       let s1 := { s with sgn := { g with lastRead := cycOf s, sensorInit := some (g.sensorInit.getD (g.sensor.initReg, g.sensor.initVal)) } }
       match r with
       | .ok m => trackColour m { s1 with sgn := { s1.sgn with nackRun := 0 } }
       | _ =>
         if g.nackRun + 1 < 3 then { s1 with sgn := { s1.sgn with nackRun := g.nackRun + 1 } }
         else sensorEvent r true { s1 with sgn := { s1.sgn with
           nackRun := 0, sensorFault := true, sensorInit := none, sensorTick := s.clk.ticks, sensorFaults := sat 16 (g.sensorFaults + 1) } }
     else s)

/-- SENSOR_RETRY (R368): every 1 s after a fault, with the initialisation written again. -/
def execSensorRetry (r : SensorRead) (s : State) : Host.Outcome State Fault Refusal :=
  .next
    (let g := s.sgn
     if sgnUp s && g.sensor.enable && g.sensorFault && decide (g.sensorTick + 40000000 ≤ s.clk.ticks) then
       match r with
       | .ok _ => sensorEvent r false { s with sgn := { g with
           sensorFault := false, lastRead := cycOf s, sensorInit := some (g.sensor.initReg, g.sensor.initVal), anyLit := false, anyLow := false, changed := true } }
       | _ => { s with sgn := { g with sensorTick := s.clk.ticks } }
     else s)

/-! ### Derating (R370, R371) -/

/-- 2^40 × the terms z^(2i+1) / (2i+1) of the area tangent, from term `i` on. -/
def atanhGo : Nat → Int → Int → Nat → Int
  | 0, _, _, _ => 0
  | n + 1, z, z2, i => z / (2 * i + 1 : Nat) + atanhGo n (z * z2 / 2 ^ 40) z2 (i + 1)

/-- 2^40 × ln (a / b), of positive numbers. -/
def lnFix (a b : Nat) : Int :=
  let e : Int := (a.log2 : Int) - b.log2
  let (n, d) := if 0 ≤ e then (a, b * 2 ^ e.toNat) else (a * 2 ^ e.natAbs, b)
  let z : Int := ((n : Int) - d) * 2 ^ 40 / ((n + d : Nat) : Int)
  2 * atanhGo 30 z (z * z / 2 ^ 40) 0 + e * 762123384786

/-- The thermistor's resistance in Ω from a sum of `n` readings, rounded down; none at the rail. -/
def ntcOhm (sum n : Nat) : Option Nat := if 4096 * n ≤ sum then none else some (10000 * sum / (4096 * n - sum))

/-- T in 0.1 °C from the sum of `n` readings (R370), rounded to nearest. -/
def ntcTemp (c : DerateCfg) (sum n : Nat) : Int :=
  if sum = 0 ∨ 4096 * n ≤ sum then 0
  else
    let d : Int := 2 ^ 40 * 100 / 29815 + lnFix (10000 * sum) ((4096 * n - sum) * (10 * Nat.max c.r25 1)) / (Nat.max c.beta 1 : Nat)
    if d ≤ 0 then 0 else roundDiv (20 * 2 ^ 40 - 5463 * d) (2 * d.toNat)

/-- A reading's resistance lies within 100 Ω to 1 MΩ. -/
def ntcValid (x : Nat) : Bool := match ntcOhm x 1 with | none => false | some r => decide (100 ≤ r) && decide (r ≤ 1000000)

/-- NTC_MEASURE (R370): the 12-bit reading of NTC `n` in this cycle. A fault ends when readings have been valid for 64 cycles; f rises
again from `F_MIN` after it. -/
def execNtcMeasure (n x : Nat) (s : State) : Host.Outcome State Fault Refusal :=
  .next
    (if decide (2 ≤ n) || s.dev.variant != .a || !windowAlive s then s
     else
       let t := s.sgn.ntc.getD n default
       let rd := (x :: t.readings).take 64
       let run := if ntcValid x then t.validRun + 1 else 0
       let fault := if ntcValid x then t.fault && decide (run < 64) else true
       let t1 := { t with
         readings := rd, validRun := run, fault := fault, temp := ntcTemp t.cfg rd.sum rd.length
         f := if fault && t.cfg.enable then t.cfg.fMin else t.f }
       let s1 := { s with sgn := { s.sgn with ntc := updAt s.sgn.ntc n fun _ => t1 } }
       if fault = t.fault then s1
       else logEv evSgnNtcFault 0xFF [wd n, wd ((ntcOhm x 1).getD (2 ^ 32 - 1)), wd (b2n (!fault))] s1)

/-- The factor that a temperature asks for above shutdown's reach (R371). -/
def derateTarget (c : DerateCfg) (t : Int) : Nat :=
  if t ≤ c.knee then 1000 else Nat.max c.fMin (1000 - roundDiv (c.slope * (t - c.knee)) 100).toNat

/-- One NTC's update. -/
def updateNtc (s : State) (n : Nat) : State :=
  let t := s.sgn.ntc.getD n default
  if !t.cfg.enable || t.fault then s
  else
    let shut := if t.shutdown then decide (t.cfg.off - 20 ≤ t.temp) else decide (t.cfg.off ≤ t.temp)
    let want := if shut then 0 else derateTarget t.cfg t.temp
    let f := if want ≤ t.f then want else Nat.min want (t.f + 20)
    let der := decide (f < 1000)
    let s1 := { s with sgn := { s.sgn with ntc := updAt s.sgn.ntc n fun t => { t with f := f, shutdown := shut, derating := der } } }
    let ev := fun (c : Nat) (s : State) => logEv evSgnDerate 0xFF [wd n, wd (ofSigned 32 t.temp), wd f, Config.itemCode evSgnDerate c] s
    let s2 := if der = t.derating then s1 else ev (b2n der) s1
    if shut = t.shutdown then s2 else ev (2 + b2n shut) s2

/-- DERATE_UPDATE (R371): every 64 cycles. -/
def execDerateUpdate (s : State) : Host.Outcome State Fault Refusal :=
  .next
    (if s.dev.variant == .a && served s && decide (s.sgn.lastDerate + 64 ≤ cycOf s) then
       [0, 1].foldl updateNtc { s with sgn := { s.sgn with lastDerate := cycOf s } }
     else s)

/-! ### Withdrawal and reset (R354) -/

/-- Block 0x0C withdrawn: outputs as in BOOT. -/
def sgnWithdraw (s : State) : State := { s with sgn := { s.sgn with duty := List.replicate 25 0 } }

/-- What a reset leaves: configuration, and the failure latches, which survive every reset (R354, R361). -/
def Sign.afterReset (g : Sign) : Sign :=
  { g with
    levels := List.replicate 32 0, duty := List.replicate 25 0, current := [], untested := List.replicate 16 0
    ntc := g.ntc.map fun t => { t with readings := [], fault := false, validRun := 0, temp := 0, f := 1000, shutdown := false, derating := false }
    lastDerate := 0, gains := [4096, 4096, 4096], dark := [0, 0, 0, 0], nackRun := 0, sensorFault := false, sensorTick := 0, sensorFaults := 0
    lastRead := 0, sensorInit := none, anyLit := false, anyLow := false, changed := false, heldRun := [0, 0, 0], frame0 := [], frame1 := [], shown := false
    loading := false, ready := false, flip := none, shiftEnd := none, lastLatch := 0, lastSync := 0, lastSyncTick := none, syncTimeouts := 0
    refreshes := 0, lastRefresh := 0, lastCyc := none }

end Sys2Proof.Machine
end

