-- ==== Sys2Proof/Machine/SgnCmd.lean ====
section
/-!
DEFINITION. The SGN commands (12, R372, R373).
-/
namespace Sys2Proof.Machine

/-- What every SGN command checks first: the unit is present, in reach (or the host secure) and in service. -/
def sgnHead (code : Nat) (lenOk secure : Bool) (r : Req) (s : State) : List (Option Fail) :=
  [ match opRow code with | some row => headChecks r row (modeServed s) lenOk s | none => none, needPresent s 0x0C,
    (if secure then needSecure r s 0x0C else needWorld r s 0x0C), needSvc s 0x0C ]

/-- EV_SGN_CONFIG, and the settings set stored. -/
def sgnConfigured (r : Req) (old : List Word) (s : State) : State :=
  logEv evSgnConfig r.port.val ([wd r.port.val, wd r.opcode] ++ old ++ r.words.drop 3) (markStored 0x0C s)

/-! ### SGN.STRING_CONFIG -/

/-- `KIND` and `INDEX`. -/
def sgnKind (r : Req) : Nat := fld (r.w 3) 31 29
/-- `INDEX`. -/
def sgnIndex (r : Req) : Nat := fld (r.w 3) 28 24

/-- The string a request configures. -/
def stringCfgOf (r : Req) : StringCfg := ⟨bit (r.w 3) 23, fld (r.w 4) 31 16, fld (r.w 4) 15 0, fld (r.w 5) 31 30, fld (r.w 5) 29 28⟩
/-- The sink a request configures. -/
def sinkCfgOf (r : Req) : SinkCfg := ⟨bit (r.w 3) 23, fld (r.w 4) 31 16, fld (r.w 5) 29 28⟩
/-- The matrix configuration of a request. -/
def matrixCfgOf (r : Req) : MatrixCfg :=
  ⟨bit (r.w 3) 23, fld (r.w 4) 31 16, fld (r.w 4) 15 8, fld (r.w 4) 7 0, fld (r.w 5) 31 16, fld (r.w 5) 15 14, bit (r.w 5) 13⟩
/-- The sensor configuration of a request. -/
def sensorCfgOf (r : Req) : SensorCfg :=
  ⟨bit (r.w 3) 23, fld (r.w 4) 31 25, bit (r.w 4) 24, fld (r.w 4) 23 16, fld (r.w 4) 15 8, fld (r.w 4) 7 0, fld (r.w 5) 31 24, bit (r.w 5) 23⟩

/-- The output number that a configuration request names, if it names one. -/
def cfgOutput (r : Req) : Option Nat :=
  match sgnKind r with | 0 => some (sgnIndex r) | 1 => some (16 + sgnIndex r) | 2 => some 24 | _ => none

/-- The effect of a configuration request on the configuration alone. -/
def Sign.setCfg (g : Sign) (r : Req) : Sign :=
  if r.opcode = 0x0A01 then
    match sgnKind r with
    | 0 => { g with strings := updAt g.strings (sgnIndex r) fun _ => stringCfgOf r }
    | 1 => { g with sinks := updAt g.sinks (sgnIndex r) fun _ => sinkCfgOf r }
    | 2 => { g with matrix := matrixCfgOf r }
    | _ => { g with sensor := sensorCfgOf r }
  else if r.opcode = 0x0A02 ∧ bit (r.w 3) 25 = false then
    let n := fld (r.w 3) 31 27
    if bit (r.w 3) 26 then
      { g with fns := tset g.fns n ⟨fld (r.w 3) 24 0, fld (r.w 4) 31 16, fld (r.w 4) 15 0, fld (r.w 5) 31 16, fld (r.w 5) 15 12⟩ }
    else { g with fns := tdel g.fns n }
  else if r.opcode = 0x0A07 then
    { g with ntc := updAt g.ntc (fld (r.w 3) 31 31) fun t => { t with cfg :=
      ⟨bit (r.w 3) 30, fld (r.w 4) 31 16, fld (r.w 4) 15 0, sfld (r.w 5) 31 16, sfld (r.w 5) 15 0, fld (r.w 6) 31 16, fld (r.w 6) 15 0⟩ } }
  else g

/-- The configuration as stored: requests that wait for their boundary count. -/
def storedSign (s : State) : Sign :=
  (s.tl.entries.filterMap fun e => match e.kind with | .config r => some r | _ => none).foldl Sign.setCfg s.sgn

/-- Checks of the fields of SGN.STRING_CONFIG, by kind. -/
def stringFields (r : Req) : List (Option Fail) :=
  let i := sgnIndex r
  match sgnKind r with
  | 0 =>
    let c := stringCfgOf r
    [ need 9 (decide (i < 16)) stBadParam 3,
      need 9 (decide (10 ≤ c.iSet) && decide (c.iSet ≤ 5000) && decide (10 ≤ c.mohm) && decide (c.mohm ≤ 10000) && decide (50000 ≤ vSetUv c) &&
        decide (vSetUv c ≤ 250000)) stBadParam 4, need 9 (decide (c.ntc ≤ 2) && fld (r.w 5) 27 0 == 0) stBadParam 5 ]
  | 1 =>
    let c := sinkCfgOf r
    [ need 9 (decide (i < 8)) stBadParam 3, need 9 (decide (2 ≤ c.iSet) && decide (c.iSet ≤ 50) && fld (r.w 4) 15 0 == 0) stBadParam 4,
      need 9 (decide (c.ntc ≤ 2) && fld (r.w 5) 31 30 == 0 && fld (r.w 5) 27 0 == 0) stBadParam 5 ]
  | 2 =>
    let c := matrixCfgOf r
    [ need 9 (i == 0) stBadParam 3, need 9 (decide (16 ≤ c.len) && decide (c.len ≤ 8192) && decide (2 ≤ c.div) && decide (c.div ≤ 40)) stBadParam 4,
      need 9 (decide (1 ≤ c.syncTimeout) && decide (c.ntc ≤ 2) && fld (r.w 5) 12 0 == 0) stBadParam 5 ]
  | 3 => [need 9 (i == 0) stBadParam 3, need 9 (decide (2 ≤ (sensorCfgOf r).cyc) && fld (r.w 5) 22 0 == 0) stBadParam 5]
  | _ => [some ⟨9, stBadParam, 3, 0⟩]

/-- Checks of SGN.STRING_CONFIG. -/
def chkSgnStringConfig (r : Req) (s : State) : Option Fail :=
  let g := storedSign s
  firstFail (sgnHead 0x0A01 (r.len == 3) true r s ++ [need 9 (fld (r.w 3) 22 0 == 0) stBadParam 3] ++ stringFields r ++
    [ need 12 (bit (r.w 3) 23 || (match cfgOutput r with | some k => !(g.fns.any fun x => x.2.members.testBit k) | none => true)) stBadState,
      need 13 (sgnKind r != 2 || s.sgn.flip.isNone) stBusy ])

/-- The configuration words a request would have needed for what stands now. -/
def sgnOldWords (r : Req) (g : Sign) : List Word :=
  let i := sgnIndex r
  let head := fun (e : Bool) => packW [(sgnKind r, 29), (i, 24), (b2n e, 23)]
  match sgnKind r with
  | 0 => let c := g.strings.getD i default; [head c.enable, packW [(c.iSet, 16), (c.mohm, 0)], packW [(c.colour, 30), (c.ntc, 28)]]
  | 1 => let c := g.sinks.getD i default; [head c.enable, packW [(c.iSet, 16)], packW [(c.ntc, 28)]]
  | 2 => let c := g.matrix
    [head c.enable, packW [(c.len, 16), (c.div, 8), (c.refresh, 0)], packW [(c.syncTimeout, 16), (c.ntc, 14), (b2n c.syncPol, 13)]]
  | _ => let c := g.sensor
    [ head c.enable, packW [(c.addr, 25), (b2n c.fast, 24), (c.reg, 16), (c.initReg, 8), (c.initVal, 0)],
      packW [(c.cyc, 24), (b2n c.learn, 23)] ]

/-- SGN.STRING_CONFIG takes effect; a change of `MX_LEN` clears `READY`. -/
def applySgnStringConfig (r : Req) (s : State) : State :=
  let old := sgnOldWords r s.sgn
  let g := s.sgn.setCfg r
  let g1 := if sgnKind r = 2 ∧ g.matrix.len ≠ s.sgn.matrix.len then { g with ready := false, loading := false } else g
  sgnConfigured r old { s with sgn := g1 }

/-- SGN.STRING_CONFIG (0x0A01). -/
def execSgnStringConfig (s : State) : Host.Outcome State Fault Refusal := .next (serve 0x0A01 chkSgnStringConfig (storeAtBoundary 0x0C) s)

/-! ### SGN.FUNCTION -/

/-- Checks of SGN.FUNCTION. -/
def chkSgnFunction (r : Req) (s : State) : Option Fail :=
  let g := storedSign s
  let retest := bit (r.w 3) 25
  let en := bit (r.w 3) 26
  let cut := fld (r.w 5) 15 12
  let on := fld (r.w 4) 31 16
  let off := fld (r.w 4) 15 0
  let members := fld (r.w 3) 24 0
  firstFail (sgnHead 0x0A02 (r.len == 3) true r s ++
    [ need 9 (!retest || fld (r.w 3) 26 26 == 0 && members == 0) stBadParam 3,
      need 9 (if retest then r.w 4 == 0 else (on == 0) == (off == 0)) stBadParam 4,
      need 9 (if retest then r.w 5 == 0 else (decide (cut ≤ 7) || cut == 15) && fld (r.w 5) 11 0 == 0) stBadParam 5,
      need 12 (!retest || fnFailed s.sgn (fld (r.w 3) 31 27)) stBadState,
      need 12 (retest || !en || (List.range 25).all fun k => !members.testBit k || outEnabled g k) stBadState ])

/-- The words of a function as SGN.FUNCTION carries them. -/
def fnWords (n : Nat) (g : Sign) : List Word :=
  match tget g.fns n with
  | none => [packW [(n, 27)], 0, 0]
  | some f => [packW [(n, 27), (1, 26), (f.members, 0)], packW [(f.on, 16), (f.off, 0)], packW [(f.offset, 16), (f.cut, 12)]]

/-- The retest of a function: its latch and those of its faulty members clear (R362). -/
def retestFn (n : Nat) (s : State) : State :=
  match tget s.sgn.rec_.fns n with
  | none => s
  | some x =>
    let m := x.openM ||| x.shortM
    let drop := fun (a : Nat) => maskOf 25 fun k => a.testBit k && !m.testBit k
    let r := s.sgn.rec_
    setRecord
      { fns := (tdel r.fns n).map fun y => (y.1, { y.2 with openM := drop y.2.openM, shortM := drop y.2.shortM })
        looseOpen := drop r.looseOpen, looseShort := drop r.looseShort } s

/-- SGN.FUNCTION takes effect. DEDUCED: a deleted function leaves no level behind (log entry 73, on sign functions). -/
def applySgnFunction (r : Req) (s : State) : State :=
  let n := fld (r.w 3) 31 27
  if bit (r.w 3) 25 then recompute (logNs evSgnRetest r.port.val [r.port.val, n] (retestFn n s))
  else
    let g := s.sgn.setCfg r
    recompute (sgnConfigured r (fnWords n s.sgn)
      { s with sgn := if bit (r.w 3) 26 then g else { g with levels := updAt g.levels n fun _ => 0 } })

/-- SGN.FUNCTION (0x0A02). -/
def execSgnFunction (s : State) : Host.Outcome State Fault Refusal := .next (serve 0x0A02 chkSgnFunction (storeAtBoundary 0x0C) s)

/-! ### SGN.DERATE -/

/-- Checks of SGN.DERATE. -/
def chkSgnDerate (r : Req) (s : State) : Option Fail :=
  let b := fld (r.w 4) 15 0
  firstFail (sgnHead 0x0A07 (r.len == 4) true r s ++
    [ need 9 (fld (r.w 3) 29 0 == 0) stBadParam 3, need 9 (fld (r.w 4) 31 16 != 0 && decide (1000 ≤ b) && decide (b ≤ 6000)) stBadParam 4,
      need 9 (decide (sfld (r.w 5) 31 16 < sfld (r.w 5) 15 0)) stBadParam 5,
      need 9 (decide (1 ≤ fld (r.w 6) 31 16) && decide (fld (r.w 6) 31 16 ≤ 10000) && decide (fld (r.w 6) 15 0 ≤ 1000)) stBadParam 6 ])

/-- The words of an NTC's derating as SGN.DERATE carries them. -/
def derateWords (n : Nat) (c : DerateCfg) : List Word :=
  [ packW [(n, 31), (b2n c.enable, 30)], packW [(c.r25, 16), (c.beta, 0)], packW [(ofSigned 16 c.knee, 16), (ofSigned 16 c.off, 0)],
    packW [(c.slope, 16), (c.fMin, 0)] ]

/-- SGN.DERATE takes effect. -/
def applySgnDerate (r : Req) (s : State) : State :=
  let n := fld (r.w 3) 31 31
  sgnConfigured r (derateWords n (s.sgn.ntc.getD n default).cfg) { s with sgn := s.sgn.setCfg r }

/-- SGN.DERATE (0x0A07). -/
def execSgnDerate (s : State) : Host.Outcome State Fault Refusal := .next (serve 0x0A07 chkSgnDerate (storeAtBoundary 0x0C) s)

/-! ### Frames -/

/-- The octets of a list of words, first in [31:24]. -/
def wordOctets (ws : List Word) : List (BitVec 8) :=
  (ws.map fun w => [w.extractLsb' 24 8, w.extractLsb' 16 8, w.extractLsb' 8 8, w.extractLsb' 0 8]).flatten

/-- CRC-32C of octets (R171). -/
def crcOctets (l : List (BitVec 8)) : Word := (l.foldl crcByte 0xFFFFFFFF#32) ^^^ 0xFFFFFFFF#32

/-- The back buffer after a chunk. -/
def frameAfter (r : Req) (g : Sign) : List Word := (if bit (r.w 3) 31 then [] else g.back) ++ r.words.drop 5

/-- Words of a frame of `MX_LEN` octets. -/
def frameLen (g : Sign) : Nat := (g.matrix.len + 3) / 4

/-- Checks of SGN.FRAME_LOAD. -/
def chkSgnFrameLoad (r : Req) (s : State) : Option Fail :=
  let g := s.sgn
  let first := bit (r.w 3) 31
  let last := bit (r.w 3) 30
  let have_ := if first then 0 else g.back.length
  let all := frameAfter r g
  firstFail (sgnHead 0x0A03 (decide (3 ≤ r.len)) false r s ++
    [ need 9 (fld (r.w 3) 29 11 == 0 && (first || g.loading) && fld (r.w 3) 10 0 == have_ &&
        (if last then all.length == frameLen g else decide (all.length ≤ frameLen g))) stBadParam 3,
      need 9 (last || r.w 4 == 0) stBadParam 4, need 12 g.matrix.enable stBadState,
      need 12 (!last || crcOctets ((wordOctets all).take g.matrix.len) == r.w 4) stVerifyFail, need 13 g.flip.isNone stBusy ])

/-- SGN.FRAME_LOAD, its checks passed. -/
def actSgnFrameLoad (r : Req) (s : State) : State :=
  let last := bit (r.w 3) 30
  ok r [] { s with sgn := { s.sgn.setBack (frameAfter r s.sgn) with
    loading := !last, ready := if last then true else s.sgn.ready && !bit (r.w 3) 31 } }

/-- SGN.FRAME_LOAD (0x0A03): `READY` is set when the last chunk passes its CRC. -/
def execSgnFrameLoad (s : State) : Host.Outcome State Fault Refusal :=
  .next (serve 0x0A03 chkSgnFrameLoad actSgnFrameLoad s)

/-- Checks of SGN.FLIP. -/
def chkSgnFlip (r : Req) (s : State) : Option Fail :=
  let g := s.sgn
  firstFail (sgnHead 0x0A04 (r.len == 1) false r s ++
    [ need 9 (decide (fld (r.w 3) 31 30 ≤ 1) && fld (r.w 3) 29 0 == 0) stBadParam 3, aacCheck r s, need 12 g.ready stBadState,
      need 12 (!(g.rec_.fns.any fun x => x.2.members.testBit 24)) stFunctionFailed, need 13 g.flip.isNone stBusy ])

/-- SGN.FLIP, its checks passed. -/
def actSgnFlip (r : Req) (s : State) : State :=
  let t := targetCyc r s
  let mode := fld (r.w 3) 31 30
  let arm := fun (s : State) => ok r [] (startShift { s with sgn := { s.sgn with flip := some ⟨mode, t, false, false⟩ } })
  if mode = 1 then arm s
  else match tlPost (t * 4096) 6 0x0C .sgnFlip s with
    | some s1 => arm s1
    | none => failReq r ⟨13, stFull, 0xFFFF, 0⟩ (tlFull 0x0C 2 s)

/-- SGN.FLIP (0x0A04): the flip is armed and the shift begins at once (R366). -/
def execSgnFlip (s : State) : Host.Outcome State Fault Refusal :=
  .next (serve 0x0A04 chkSgnFlip actSgnFlip s)

/-- Checks of SGN.LEVEL. -/
def chkSgnLevel (r : Req) (s : State) : Option Fail :=
  let n := fld (r.w 3) 31 27
  firstFail (sgnHead 0x0A05 (r.len == 1) false r s ++
    [ need 9 (fld (r.w 3) 26 10 == 0 && decide (fld (r.w 3) 9 0 ≤ 1000)) stBadParam 3, aacCheck r s,
      need 12 (tget s.sgn.fns n).isSome stBadState, need 12 (fld (r.w 3) 9 0 == 0 || !fnFailed s.sgn n) stFunctionFailed ])

/-- SGN.LEVEL, its checks passed. -/
def actSgnLevel (r : Req) (s : State) : State :=
  let n := fld (r.w 3) 31 27
  match tlPost (targetCyc r s * 4096) 6 0x0C (.sgnLevel n (fld (r.w 3) 9 0)) s with
  | none => failReq r ⟨13, stFull, 0xFFFF, 0⟩ (tlFull 0x0C 2 s)
  | some s1 =>
    let f := (tget s.sgn.fns n).getD default
    if (List.range 25).any fun k => f.members.testBit k && outThermal s.sgn k then respond r stDerated [detail ⟨12, stDerated, 0xFFFF, 0⟩] s1
    else ok r [] s1

/-- SGN.LEVEL (0x0A05): DERATED where a member is in thermal shutdown: the level is stored all the same (R372). -/
def execSgnLevel (s : State) : Host.Outcome State Fault Refusal :=
  .next (serve 0x0A05 chkSgnLevel actSgnLevel s)

/-- State of an output in SGN.STATUS. -/
def outState (g : Sign) (k : Nat) : Nat :=
  if !outEnabled g k then 0 else if latchedOpen g.rec_ k then 2 else if latchedShort g.rec_ k then 3 else if outThermal g k then 5
  else if k < 16 ∧ 4096 ≤ g.untested.getD k 0 then 4 else 1

/-- Checks of SGN.STATUS. -/
def chkSgnStatus (r : Req) (s : State) : Option Fail :=
  firstFail (sgnHead 0x0A06 (r.len == 0) false r s)

/-- SGN.STATUS, its checks passed. -/
def actSgnStatus (r : Req) (s : State) : State :=
  let g := s.sgn
  let out := fun k => packW [(outState g k, 29), (outColour g k, 27), (g.duty.getD k 0, 16), (sat 16 (g.current.getD k 0), 0)]
  let t := fun n => ofSigned 16 (g.ntc.getD n default).temp
  let f := fun (n : Nat) => let x := g.ntc.getD n default; if x.cfg.enable && x.fault then x.cfg.fMin else x.f
  ok r
    ([wd (maskOf 32 (fnFailed g)), wd (maskOf 32 fun n => (tget g.fns n).isSome)] ++ (List.range 24).map out ++
      [ packW [(t 0, 16), (t 1, 0)], packW [(f 0, 16), (f 1, 0)], packW [(g.gains.getD 0 0, 16), (g.gains.getD 1 0, 0)],
        packW [(g.gains.getD 2 0, 16), (g.sensorFaults, 0)], packW [(b2n g.ready, 31), (b2n g.flip.isSome, 30), (b2n g.shown, 29)],
        wd g.lastLatch, wd g.lastSync, packW [(g.syncTimeouts, 16), (g.refreshes, 0)],
        wd (maskOf 32 fun n => match tget g.rec_.fns n with | some x => x.cut != 15 | none => false) ]) s

/-- SGN.STATUS (0x0A06). -/
def execSgnStatus (s : State) : Host.Outcome State Fault Refusal :=
  .next (serve 0x0A06 chkSgnStatus actSgnStatus s)

end Sys2Proof.Machine
end

