-- ==== Sys2Proof/Machine/Recorder.lean ====
section
/-!
DEFINITION. The event recorder: appending and displacing, pages, freezes, reading, and the LOG commands (14).
-/
namespace Sys2Proof.Machine

/-- C of R402, in octets. -/
def logCap : Nat := 167772160

/-- Record pages of the LOG partition: 1,536 blocks of 63 (R401). -/
def logPages : Nat := 96768

/-- Octets of a page for records: 2,048 less the header of 4 words (R401). -/
def pageRoom : Nat := 2032

/-- The oldest records of severity at most `s` removed until at most `room` octets are left (R402): the log and the number
removed. The fuel is the number of records. -/
def displaceLog (s room : Nat) : List Rec → Nat → List Rec × Nat
  | [], _ => ([], 0)
  | r :: t, held =>
    if held ≤ room then (r :: t, 0)
    else if r.sev ≤ s then
      let (t', n) := displaceLog s room t (held - octets r)
      (t', n + 1)
    else
      let (t', n) := displaceLog s room t held
      (r :: t', n)

/-- A record appended, displacing eligible records or being dropped (R402): removal and appending are one step. -/
def appendRec (lg : Recorder) (r : Rec) : Recorder :=
  let held := octetsOf lg.log
  let n := octets r
  if held + n ≤ logCap then { lg with log := lg.log ++ [r] }
  else if held + n - logCap ≤ octetsOf (lg.log.filter fun x => decide (x.sev ≤ r.sev)) then
    let (l, k) := displaceLog r.sev (logCap - n) lg.log held
    { lg with log := l ++ [r], cnt := { lg.cnt with displaced := sat 32 (lg.cnt.displaced + k) } }
  else
    { lg with cnt := { lg.cnt with drop := updAt lg.cnt.drop r.sev inc32 }, dropSince := updAt lg.dropSince r.sev inc32 }

/-- EV_LOG_DROP after records have been dropped (R415). -/
def reportDrop (s : State) : State :=
  let key := evLogDrop * 256
  if s.log.dropSince.all (· == 0) || !limitOpen (s.log.limit key).last (cycOf s) then s
  else
    let c := s.log.dropSince
    logNs evLogDrop 0xFF c
      { s with log := { s.log with dropSince := List.replicate 8 0, limits := tset s.log.limits key ⟨some (cycOf s), 0⟩ } }

/-- Appends are permitted (R405). -/
def appendsOk (s : State) : Bool :=
  s.log.started && !s.upd.windowOpen && !s.log.appendBlocked && allPorts.all fun p => (s.log.freeze.get p).isNone

/-- Records moved from the front of staging into the open page while they fit. -/
def fillPage : Nat → Recorder → Recorder
  | 0, lg => lg
  | n + 1, lg =>
    match lg.staged with
    | [] => lg
    | r :: t => if octetsOf lg.page + octets r ≤ pageRoom then fillPage n { lg with page := lg.page ++ [r], staged := t } else lg

/-- APPENDER_RUN (R402, R404, R405): staged records go into the open page, in sequence order, while appends are permitted. -/
def execAppenderRun (s : State) : Host.Outcome State Fault Refusal :=
  .next
    (if appendsOk s then
       let lg := if s.log.page.isEmpty then { s.log with pageCyc := cycOf s } else s.log
       { s with log := fillPage lg.staged.length lg }
     else s)

/-- The open page is full: the next staged record does not fit. -/
def pageFull (lg : Recorder) : Bool :=
  match lg.staged with | [] => false | r :: _ => decide (pageRoom < octetsOf lg.page + octets r)

/-- A page's records become part of the log (R404). A summary page follows every 63 pages of records (R406). -/
def programPage (lg : Recorder) : Recorder :=
  let lg1 := lg.page.foldl appendRec { lg with page := [] }
  let lg2 := { lg1 with
    cnt := { lg1.cnt with pages := inc32 lg1.cnt.pages }, freePages := lg1.freePages - 1, pagesInBlock := lg1.pagesInBlock + 1 }
  if lg2.pagesInBlock < 63 then lg2
  else
    let lg3 := { lg2 with pagesInBlock := 0, cnt := { lg2.cnt with pages := inc32 lg2.cnt.pages } }
    { lg3 with summary := lg3.cnt }

/-- The block and page that the next record page takes. -/
def nextPage (lg : Recorder) : Nat × Nat := ((logPages - lg.freePages) / 63 % 1536, lg.pagesInBlock)

/-- A NAND block is retired and replaced from SPARE; without a spare, a LOG block comes from the headroom (R463). -/
def badBlock (part block cause : Nat) (s : State) : State :=
  let m := s.mem
  let spare := m.nandSpare - 1
  let low := decide (spare < 16) && !m.spareLow
  let s1 := logNs evNandBadBlock 0xFF [part, block, cause] { s with mem := { m with
    nandSpare := spare, nandBad := sat 16 (m.nandBad + 1), spareLow := m.spareLow || low } }
  let s2 := if low then logNs evNandSpareLow 0xFF [spare] s1 else s1
  if m.nandSpare = 0 ∧ part = 0 then { s2 with log := { s2.log with freePages := s2.log.freePages - 63 } } else s2

/-- PAGE_PROGRAM (R404, R463): a page is programmed when it is full or 64 cycles after its first record. A page that fails is written
again in the next page, and its block is retired. Without room left, appends stop (R403). -/
def execPageProgram (programOk : Bool) (s : State) : Host.Outcome State Fault Refusal :=
  .next
    (let lg := s.log
     if appendsOk s && !lg.page.isEmpty && (pageFull lg || decide (lg.pageCyc + 64 ≤ cycOf s)) then
       if lg.freePages = 0 then { s with log := { lg with appendBlocked := true, blockedSince := s.clk.ticks } }
       else if programOk then reportDrop { s with log := programPage lg }
       else
         let (b, pg) := nextPage lg
         badBlock 0 b 0 (logNs evLogMedia 0xFF [b, pg, 0, 0] { s with log := { lg with freePages := lg.freePages - 1 } })
     else s)

/-- Pages that a list of records takes, records never spanning two. -/
def pagesFor : List Rec → Nat → Nat
  | [], _ => 0
  | r :: t, used =>
    if used = 0 then 1 + pagesFor t (octets r)
    else if used + octets r ≤ pageRoom then pagesFor t (used + octets r) else 1 + pagesFor t (octets r)

/-- The open page and the first `n` octets of staging programmed at once (R48 step 4, R407). -/
def drain (n : Nat) (s : State) : State :=
  let lg := s.log
  let taken := lg.staged.foldl (fun (acc : List Rec × Nat × Bool) r =>
    if acc.2.2 && decide (acc.2.1 + octets r ≤ n) then (acc.1 ++ [r], acc.2.1 + octets r, true) else (acc.1, acc.2.1, false))
    ([], 0, true)
  let recs := lg.page ++ taken.1
  let lg1 := recs.foldl appendRec { lg with page := [], staged := lg.staged.drop taken.1.length }
  let k := pagesFor recs 0
  reportDrop { s with log := { lg1 with
    cnt := { lg1.cnt with pages := sat 32 (lg1.cnt.pages + k) }, freePages := lg1.freePages - k } }

/-- A summary page written (R406). -/
def writeSummary (lg : Recorder) : Recorder :=
  let c := { lg.cnt with pages := inc32 lg.cnt.pages }
  { lg with cnt := c, summary := c }

/-- Appends resume after reclaim has given pages back (R403, R415). -/
def resumeAppends (s : State) : State :=
  if s.log.appendBlocked && decide (0 < s.log.freePages) then
    logNs evLogBlocked 0xFF [(s.clk.ticks - s.log.blockedSince) / 40000, s.log.staged.length]
      { s with log := { s.log with appendBlocked := false } }
  else s

/-! ### Freezes (R407, R408) -/

/-- The end of a port's freeze, with its cause: 0 command, 1 expiry, 2 flush, 3 PFW. -/
def endFreeze (p : Fin 4) (cause : Nat) (s : State) : State :=
  match s.log.freeze.get p with
  | none => s
  | some f =>
    logNs evLogThaw p.val [p.val, cause, f.staged, f.lost]
      (stopAct 7 p.val { s with log := { s.log with freeze := s.log.freeze.put p none } })

/-- FREEZE_EXPIRY (R408). -/
def execFreezeExpiry (p : Fin 4) (s : State) : Host.Outcome State Fault Refusal :=
  .next (match s.log.freeze.get p with
    | some f => if f.until_ ≤ s.clk.ticks then endFreeze p 1 s else s
    | none => s)

/-- Seconds left of a freeze. -/
def freezeLeft (s : State) (f : Freeze) : Nat := (f.until_ - s.clk.ticks + 39999999) / 40000000

/-! ### LOG commands (R413, R414) -/

/-- Checks every LOG command begins with. -/
def logChecks (code : Nat) (lenOk : Bool) (r : Req) (s : State) : Option Fail :=
  match opRow code with
  | none => none
  | some row => firstFail [headChecks r row (modeServed s) lenOk s, needWorld r s 0x10]

/-- The sequence numbers of the oldest and newest record, as LOG.STATUS gives them. -/
def logEnds (lg : Recorder) : Nat × Nat :=
  match lg.log.head?, lg.log.getLast? with
  | some a, some b => (a.seq, b.seq)
  | _, _ => (lg.cnt.nextSeq, (lg.cnt.nextSeq + 2 ^ 48 - 1) % 2 ^ 48)

/-- Checks of LOG.STATUS. -/
def chkLogStatus (r : Req) (s : State) : Option Fail :=
  logChecks 0x0C01 (r.len == 0) r s

/-- LOG.STATUS, its checks passed. -/
def actLogStatus (r : Req) (s : State) : State :=
  let lg := s.log
  let (o, n) := logEnds lg
  let left := allPorts.foldl (fun m p => match lg.freeze.get p with
    | some f => Nat.max m (freezeLeft s f) | none => m) 0
  ok r ([ packW [(o / 2 ^ 32, 16), (n / 2 ^ 32, 0)], wd o, wd n, wd lg.log.length, wd (octetsOf lg.log),
          packW [((octetsOf lg.staged + 15) / 16, 16), ((lg.stagePeak + 15) / 16, 0)],
          packW [(maskOf 4 fun i => (lg.freeze.get (Fin.ofNat 4 i)).isSome, 28), (lg.minSev, 21), (b2n lg.appendBlocked, 20),
            (sat 16 left, 0)],
          wd lg.cnt.displaced ] ++ lg.cnt.drop.map wd ++ lg.cnt.stgOvf.map wd ++
        [wd lg.cnt.filtered, wd logCap, wd lg.cnt.pages]) s

/-- LOG.STATUS (0x0C01). -/
def execLogStatus (s : State) : Host.Outcome State Fault Refusal :=
  .next (serve 0x0C01 chkLogStatus actLogStatus s)

/-- `FROM` of a LOG.READ request. -/
def readFrom (r : Req) : Nat := fld (r.w 3) 31 16 * 2 ^ 32 + (r.w 4).toNat

/-- What a LOG.READ has gathered. -/
structure ReadAcc where
  out : List Word
  n : Nat
  next : Nat
  examined : Nat
  stop : Bool
  deriving DecidableEq, Repr

/-- One more record held, for a read (R410): the read stops before it, or examines it. -/
def readStep (r : Req) (s : State) (a : ReadAcc) (x : Rec) : ReadAcc :=
  if a.stop then a
  else if a.examined = 65536 || (fld (r.w 5) 7 0 != 0 && a.n == fld (r.w 5) 7 0) then { a with stop := true }
  else
    let code := fld (wAt x.words 0) 15 0
    let src := code / 256
    let wantSrc := fld (r.w 3) 7 0
    let wantCode := fld (r.w 5) 31 16
    let wantInst := fld (r.w 5) 15 8
    let hit := decide (fld (r.w 3) 14 12 ≤ x.sev) && (wantSrc == 0xFF || wantSrc == src) &&
      (wantCode == 0xFFFF || wantCode == code) && (wantInst == 0xFF || wantInst == fld (wAt x.words 6) 15 8) &&
      reachesRecord s r.port src (fld (wAt x.words 6) 15 8)
    if !hit then { a with next := x.seq + 1, examined := a.examined + 1 }
    else if 1018 < a.out.length + x.words.length then { a with stop := true }
    else { out := a.out ++ x.words, n := a.n + 1, next := x.seq + 1, examined := a.examined + 1, stop := false }

/-- Checks of LOG.READ. -/
def chkLogRead (r : Req) (s : State) : Option Fail :=
  let code := fld (r.w 5) 31 16
  let src := fld (r.w 3) 7 0
  firstFail
    [ logChecks 0x0C02 (r.len == 3) r s, need 9 (fld (r.w 3) 11 8 == 0) stBadParam 3,
      need 9 (code == 0xFFFF || src == 0xFF || src == code / 256) stBadParam 5,
      need 12 (s.log.log.isEmpty || bit (r.w 3) 15 || decide ((logEnds s.log).1 ≤ readFrom r)) stOverwritten 4 ]

/-- LOG.READ, its checks passed. -/
def actLogRead (r : Req) (s : State) : State :=
  let f := readFrom r
  if s.log.log.isEmpty then
    let nx := Nat.max f s.log.cnt.nextSeq
    ok r [packW [(nx / 2 ^ 32, 16)], wd nx, packW [(1, 31)]] s
  else
    let oldest := (logEnds s.log).1
    let skipped := decide (f < oldest)
    let start := Nat.max f oldest
    let a := (s.log.log.filter fun x => decide (start ≤ x.seq)).foldl (readStep r s) ⟨[], 0, start, 0, false⟩
    let lost := s.log.lost.any fun sp => decide (sp.1 < a.next) && decide (start ≤ sp.2)
    ok r ([packW [(a.next / 2 ^ 32, 16), (a.n, 0)], wd a.next,
           packW [(b2n (!a.stop), 31), (b2n lost, 30), (b2n skipped, 29)]] ++ a.out) s

/-- LOG.READ (0x0C02). -/
def execLogRead (s : State) : Host.Outcome State Fault Refusal :=
  .next (serve 0x0C02 chkLogRead actLogRead s)

/-- Checks of LOG.FREEZE. -/
def chkLogFreeze (r : Req) (s : State) : Option Fail :=
  let d := fld (r.w 3) 15 0
  firstFail
    [ logChecks 0x0C03 (r.len == 1) r s, need 9 (fld (r.w 3) 31 16 == 0 && decide (d ≤ 3600)) stBadParam 3,
      need 12 (!s.pwr.flush.pfw || s.pwr.flush.step == 7) stBadState,
      (match s.log.freeze.get r.port with
        | some f => some ⟨12, stFrozen, 0xFFFF, sat 16 (freezeLeft s f)⟩ | none => none) ]

/-- LOG.FREEZE, its checks passed. -/
def actLogFreeze (r : Req) (s : State) : State :=
  let d := fld (r.w 3) 15 0
  let d := if d = 0 then 600 else d
  admitReq 7 r.port.val r (fun s =>
    let first := allPorts.all fun p => (s.log.freeze.get p).isNone
    let s1 := logNs evLogFreeze r.port.val [r.port.val, d] s
    let s2 := if first && appendsOk s1 then drain stagingCap s1 else s1
    let s3 := { s2 with log := { s2.log with
      freeze := s2.log.freeze.put r.port (some ⟨s2.clk.ticks + d * 40000000, 0, 0⟩) } }
    ok r [wd (logEnds s3.log).2] s3) s

/-- LOG.FREEZE (0x0C03): the EV_LOG_FREEZE record of the first freeze is appended before the freeze takes effect. -/
def execLogFreeze (s : State) : Host.Outcome State Fault Refusal :=
  .next (serve 0x0C03 chkLogFreeze actLogFreeze s)

/-- Checks of LOG.THAW. -/
def chkLogThaw (r : Req) (s : State) : Option Fail :=
  firstFail
    [ logChecks 0x0C04 (r.len == 0) r s, need 12 (s.log.freeze.get r.port).isSome stBadState ]

/-- LOG.THAW, its checks passed. -/
def actLogThaw (r : Req) (s : State) : State :=
  match s.log.freeze.get r.port with
  | none => s
  | some f => ok r [packW [(sat 16 f.staged, 16), (sat 16 f.lost, 0)]] (endFreeze r.port 0 s)

/-- LOG.THAW (0x0C04). -/
def execLogThaw (s : State) : Host.Outcome State Fault Refusal :=
  .next (serve 0x0C04 chkLogThaw actLogThaw s)

/-- Codes whose severity is overridden, or will be at the next boundary by a LOG.SEVERITY that waits for it (R413, R414). -/
def sevCodes (s : State) : List Nat :=
  ((s.log.sevOver.map fun x => x.1) ++ s.tl.entries.filterMap fun e => match e.kind with
    | .config r => if r.opcode = 0x0C05 ∧ fld (r.w 3) 31 30 = 0 then some (fld (r.w 3) 15 0) else none
    | _ => none).eraseDups

/-- Checks of LOG.SEVERITY. -/
def chkLogSeverity (r : Req) (s : State) : Option Fail :=
  let op := fld (r.w 3) 31 30
  let v := fld (r.w 3) 29 27
  let code := fld (r.w 3) 15 0
  let d := defaultSev code
  firstFail
    [ logChecks 0x0C05 (r.len == 1) r s, needSecure r s 0x10,
      need 9 (op != 3 && fld (r.w 3) 26 16 == 0) stBadParam 3,
      need 9 (if op = 2 then code == 0 && decide (v ≤ 4) else d.isSome) stBadParam 3,
      need 9 (op != 0 || (match d with | some x => decide (x < 6) || decide (x ≤ v) | none => true)) stBadParam 3,
      need 13 (op != 0 || (sevCodes s).contains code || decide ((sevCodes s).length < 256)) stFull ]

/-- LOG.SEVERITY applied (R413). -/
def applyLogSeverity (r : Req) (s : State) : State :=
  let op := fld (r.w 3) 31 30
  let v := fld (r.w 3) 29 27
  let code := fld (r.w 3) 15 0
  let old := if op = 2 then s.log.minSev else sevOf s.log code
  let lg := s.log
  let lg1 := if op = 0 then { lg with sevOver := tset lg.sevOver code v }
    else if op = 1 then { lg with sevOver := tdel lg.sevOver code } else { lg with minSev := v }
  let new := if op = 2 then v else sevOf lg1 code
  markStored 0x10 (logNs evLogSeverity r.port.val [r.port.val, op, code, old, new] { s with log := lg1 })

/-- LOG.SEVERITY (0x0C05). -/
def execLogSeverity (s : State) : Host.Outcome State Fault Refusal :=
  .next (serve 0x0C05 chkLogSeverity (storeAtBoundary 0x10) s)

/-- Checks of LOG.APPEND. -/
def chkLogAppend (r : Req) (s : State) : Option Fail :=
  let sv := fld (r.w 3) 23 21
  match opRow 0x0C06 with
  | none => none
  | some row => firstFail
    [ headChecks r row (modeServed s) (decide (1 ≤ r.len) && decide (r.len ≤ 57)) s, needWorld r s 0x10,
      need 7 (portSecure s r.port || decide (sv < 6)) stWorld 3 0x10FF,
      need 9 (fld (r.w 3) 31 24 == 0 && fld (r.w 3) 20 8 == 0 && bit (r.w 3) 7) stBadParam 3 ]

/-- LOG.APPEND, its checks passed. -/
def actLogAppend (r : Req) (s : State) : State :=
  let st := stampOf s
  ok r [] { s with log := (Recorder.create st (fld (r.w 3) 23 21) true false (0x0300 + fld (r.w 3) 7 0) r.port.val
    (r.words.drop 4) s.log).reportOvf st }

/-- LOG.APPEND (0x0C06): a host record of source 0x03. -/
def execLogAppend (s : State) : Host.Outcome State Fault Refusal :=
  .next (serve 0x0C06 chkLogAppend actLogAppend s)

end Sys2Proof.Machine
end

