-- ==== Sys2Proof/Machine/Ports.lean ====
section
/-!
DEFINITION. The host windows: reading and writing registers, staging and committing requests, return queues, interrupts (05).
-/
namespace Sys2Proof.Machine

/-! ### Register values (R132) -/

/-- `WIN_VER`. -/
def winVer (s : State) : Word := packW [(1, 24), (fld (wAt s.upd.active 4) 31 24, 8), (fld (wAt s.upd.active 4) 23 16, 0)]

/-- `CAPS0`. -/
def caps0 (s : State) : Word :=
  let v := s.dev.variant
  let ab := blockPresent v 0x0B
  packW [(engineCount v, 24), (3, 22), (b2n (v != .b), 21), (b2n ab, 20), (b2n (v == .a), 19), (1, 18), (b2n (v != .c), 17),
    (0xB + 4 * b2n (s.pwr.straps.getLsbD 4), 12), (if ab then 4 else 0, 8), (if ab then 32 else 0, 0)]

/-- `CAPS1`. -/
def caps1 (s : State) : Word :=
  let v := s.dev.variant
  packW [(18, 27), (12, 22), (10, 17), (10, 12), (if blockPresent v 0x0B then 8 else 0, 8), (if v == .a then 16 else 0, 3)]

/-- `PORT_STAT`. DESIGN CHOICE: `HOLD` shows the HOLD of FREE from step 6 of BOOT on, although the register map gives 0 at that moment (log
entry 19, on the window at step 6). -/
def portStat (s : State) (p : Fin 4) : Word :=
  let q := s.ports.get p
  packW [(p.val, 30), (b2n (!portSecure s p), 29), (modeCode s.pwr.mode, 24), (b2n (holdFlag s), 23), (b2n (slewFlag s), 22),
    (b2n s.pwr.autonomous, 21), (b2n s.pwr.flush.pfw, 20), (b2n s.pwr.bootHalt, 19), (b2n q.pause, 18),
    (b2n q.takeBlocked, 17), (b2n (s.wd.get p).expired, 16), (b2n (lightOwner s p), 15), (sat 12 q.inflight, 0)]

/-- The head message's words not yet read. -/
def headLeft (q : RetQueue) : Nat := match q.msgs with | [] => 0 | m :: _ => m.words.length - q.popped

/-- `RSP_HEAD`. -/
def rspHead (q : RetQueue) : Word :=
  match q.msgs with
  | [] => 0
  | m :: _ => packW [(1, 31), (headLeft q, 16), (fld (wAt m.words 0) 31 16, 0)]

/-- `RSP_COUNT`. -/
def rspCount (q : RetQueue) : Word := packW [(q.msgs.length, 16), (retUsed q - q.popped, 0)]

/-- `INT_RAW`: level bits as their condition stands, event bits as `INT_STAT` (R148). -/
def intRaw (q : PortSt) : Word := (q.intStat &&& 0xF000#32) ||| levelBits q

/-- `PORT_DIAG`. -/
def portDiag (q : PortSt) : Word :=
  packW [(q.frameErrs, 24), (q.lastErr, 20), (q.lastErrQ, 18), (q.ntfLost, 0)]

/-- The value a read of a window register gives, its side effects apart. -/
def regValue (s : State) (p : Fin 4) (off : Nat) : Word :=
  let q := s.ports.get p
  if !portUp s p then 0
  else if off = 0x000 then 0x44554E36#32
  else if off = 0x004 then winVer s
  else if off = 0x008 then caps0 s
  else if off = 0x00C then caps1 s
  else if off = 0x010 then packW [(b2n q.pause, 8), (b2n q.irqOutEn, 0)]
  else if off = 0x014 then portStat s p
  else if off = 0x020 then q.intStat
  else if off = 0x024 then q.intEn
  else if off = 0x028 then intRaw q
  else if off = 0x030 then lo32 q.snap
  else if off = 0x034 then hi32 q.snap
  else if off = 0x040 then (s.shadow.get p).lo
  else if off = 0x044 then (s.shadow.get p).hi
  else if off = 0x048 then (s.shadow.get p).ff
  else if off = 0xF00 then portDiag q
  else if 0x100 ≤ off ∧ off < 0x180 then
    let k := (off - 0x100) / 0x20
    let r := (off - 0x100) % 0x20
    if r = 8 then packW [(reqCap k, 16), (reqFree q k, 0)]
    else if r = 12 then packW [(b2n (q.req k).poisoned, 31), ((q.req k).staged.length, 16), ((q.req k).msgs.length, 0)]
    else 0
  else if 0x180 ≤ off ∧ off < 0x1C0 then
    let k := (off - 0x180) / 0x20
    let r := (off - 0x180) % 0x20
    if r = 0 then rspHead (q.ret k) else if r = 8 then rspCount (q.ret k) else 0
  else 0

/-- The level of the port's IRQ_N pad: low while an enabled bit is set and `IRQ_OUT_EN` is 1 (R150). -/
def irqN (s : State) (p : Fin 4) : Bool :=
  let q := s.ports.get p
  !(q.irqOutEn && (q.intStat &&& q.intEn) != 0)

/-! ### Requests (R133 to R136) -/

/-- A push (R133): staged, or discarded with `POISONED` set. -/
def pushWord (k : Nat) (w : Word) (q : PortSt) : PortSt :=
  let x := q.req k
  if 0 < reqFree q k ∧ x.staged.length < 1024 then (q.setReq k { x with staged := x.staged ++ [w] }).refresh
  else q.setReq k { x with poisoned := true }

/-- The staged words discarded. -/
def dropStagedWords (k : Nat) (q : PortSt) : PortSt :=
  (q.setReq k { q.req k with staged := [], poisoned := false }).refresh

/-- The framing error code of a commit, 0 for none (R134). -/
def frameCode (x : ReqQueue) (words : Nat) : Nat :=
  if x.poisoned then 3
  else if words ≠ x.staged.length then 1
  else if x.staged.length < 3 then 4
  else if x.staged.length ≠ 3 + fld (wAt x.staged 0) 15 0 then 2
  else 0

/-- A framing error (R135). -/
def frameError (p : Fin 4) (k code : Nat) (s : State) : State :=
  let s1 := onPort p (fun q =>
    { (dropStagedWords k q).setInt 12 with frameErrs := sat 8 (q.frameErrs + 1), lastErr := code, lastErrQ := k }) s
  logLim evHostFraming p.val (fun n => [wd p.val, wd k, wd code, wd n]) s1

/-- A framed message restarts the port's watchdog where it runs, and ends its silence in every mode (R68, R70). -/
def framed (p : Fin 4) (s : State) : State :=
  let w := s.wd.get p
  if !w.running && !w.expired then evalAuto evHostResumed s
  else
    let s1 := { s with wd := s.wd.put p (if w.running then w.restart s.clk.ticks else { w with expired := false }) }
    let s2 := if w.expired then
        notifyPorts (fun x => x != p) 0x0105 0 [wd p.val] (logNs evHostResumed p.val [p.val] s1)
      else s1
    evalAuto evHostResumed s2

/-- A correctly framed message committed (R136). -/
def commitMsg (p : Fin 4) (k : Nat) (s : State) : State :=
  framed p (onPort p (fun q =>
    let x := q.req k
    (q.setReq k { x with staged := [], msgs := x.msgs ++ [x.staged] }).refresh) s)

/-- A write to `REQ_COMMIT` (R134). -/
def writeCommit (p : Fin 4) (k : Nat) (w : Word) (s : State) : State :=
  let x := (s.ports.get p).req k
  if bit w 31 then onPort p (dropStagedWords k) s
  else if x.staged.isEmpty then s
  else match frameCode x (fld w 10 0) with
    | 0 => commitMsg p k s
    | c => frameError p k c s

/-- A read breaks both pairs of H2 half accesses: it is the port's previous read, and no write of a high half directly follows a
low-half write across it (R131). -/
def breakPair (q : PortSt) : PortSt := { q with readLatch := none, writeLatch := none }

/-- A write breaks a pair of half writes only (R131). -/
def breakWrite (q : PortSt) : PortSt := { q with writeLatch := none }

/-- REQ_DATA_PUSH. -/
def execReqDataPush (p q : Fin 4) (w : Word) (s : State) : Host.Outcome State Fault Refusal :=
  .next (if portUp s p then onPort p (fun x => breakWrite (pushWord q.val w x)) s else s)

/-- REQ_COMMIT. -/
def execReqCommit (p q : Fin 4) (w : Word) (s : State) : Host.Outcome State Fault Refusal :=
  .next (if portUp s p then onPort p breakWrite (writeCommit p q.val w s) else s)

/-- REQ_ABORT: a write to `REQ_COMMIT` with `ABORT` = 1. -/
def execReqAbort (p q : Fin 4) (s : State) : Host.Outcome State Fault Refusal :=
  .next (if portUp s p then onPort p (fun x => breakWrite (dropStagedWords q.val x)) s else s)

/-! ### Return queues (R143 to R146) -/

/-- The head message removed: its space is freed. -/
def dropHead (r : Nat) (q : PortSt) : PortSt :=
  (q.setRet r { q.ret r with msgs := (q.ret r).msgs.tail, popped := 0 }).refresh

/-- HELD_MESSAGE_PLACE (R143): the first held message, when it fits. -/
def execHeldMessagePlace (p : Fin 4) (r : Fin 2) (s : State) : Host.Outcome State Fault Refusal :=
  .next
    (match ((s.ports.get p).ret r.val).held with
     | [] => s
     | h :: t =>
       if (s.ports.get p).mayPlace r.val h then
         onPort p (fun q => (q.setRet r.val { q.ret r.val with held := t }).placeHeld r.val h) s
       else s)

/-- NTF_LOST_PLACE (R145): when room appears after drops, one notification with the count since the previous one. -/
def execNtfLostPlace (p : Fin 4) (s : State) : Host.Outcome State Fault Refusal :=
  .next
    (let q := s.ports.get p
     if q.lostSince != 0 && decide (retUsed q.ntf + 4 ≤ retCap 1) then
       notify p 0x0103 0 [wd q.lostSince] (onPort p (fun q => { q with lostSince := 0 }) s)
     else s)

/-! ### Interrupts (R148 to R150) -/

/-- Writing 1 clears a bit; a level bit whose condition holds is set again at once (R149). -/
def clearInt (w : Word) (q : PortSt) : PortSt := PortSt.refresh { q with intStat := q.intStat &&& ~~~w }

/-- INT_STAT_CLEAR. -/
def execIntStatClear (p : Fin 4) (w : Word) (s : State) : Host.Outcome State Fault Refusal :=
  .next (if portUp s p then onPort p (fun q => breakWrite (clearInt w q)) s else s)

end Sys2Proof.Machine
end

