-- ==== Sys2Proof/Machine/Sys.lean ====
section
/-!
DEFINITION. The SYS commands, the opening, closing and discarding of configuration sets, the power-fail threshold, and the flush
of a port (06, 02 R45, 05 R147).
-/
namespace Sys2Proof.Machine

/-! ### The power-fail threshold (R45, R46) -/

/-- `PFW_THRESHOLD` in force: stored, or the default of STRAP6 (R39, R45), in 0.1 V. -/
def pfwThreshold (s : State) : Nat := s.pwr.pfwStored.getD (if s.pwr.straps.getLsbD 6 then 110 else 90)

/-- The rule of R45: min(`PFW_THRESHOLD`, VIN − 0.5 V rounded down to 0.1 V), never less than 7.5 V. -/
def effRule (thr vin : Nat) : Nat := Nat.max 75 (Nat.min thr ((vin - 50) / 10))

/-- V_PFW_EFF set; PFW_N is released when it now lies below VIN (R46). -/
def setEff (v : Nat) (s : State) : State :=
  { s with pwr := { s.pwr with vPfwEff := v, pfwN := s.pwr.pfwN || decide (v * 10 < s.pwr.vin), pfwOkSince := some s.clk.ticks } }

/-- V_PFW_EFF set by R45 for VIN as last measured; a value below `PFW_THRESHOLD` is logged. -/
def applyEff (s : State) : State :=
  let thr := pfwThreshold s
  let v := effRule thr s.pwr.vin
  let s1 := setEff v s
  if v < thr then logNs evPfwLowered 0xFF [thr, v] s1 else s1

/-- `PFW_THRESHOLD` may have changed since the state `old`: where it has, the rule of R45 applies to the new value. -/
def followThreshold (old s : State) : State := if pfwThreshold old = pfwThreshold s then s else applyEff s

/-- V_PFW_EFF plus the hysteresis, in 10 mV. -/
def pfwRelease (s : State) : Nat := s.pwr.vPfwEff * 10 + s.dev.pfwHyst

/-- VIN measured: the value stands until the next measurement, PFW_N is released at V_PFW_EFF plus the hysteresis once the rails are good
(R46), and the 60 s of R45 start anew where VIN lies below `PFW_THRESHOLD` + 0.5 V. -/
def noteVin (vin : Nat) (s : State) : State :=
  { s with pwr := { s.pwr with
    vin := vin, pfwN := s.pwr.pfwN || (s.pwr.pgood && decide (pfwRelease s ≤ vin))
    pfwOkSince := if pfwThreshold s * 10 + 50 ≤ vin then s.pwr.pfwOkSince else some s.clk.ticks } }

/-! ### Configuration sets (R169 to R174) -/

/-- The three words of SYS.CFG_COMMIT's completion (R173). -/
def setWords (applied failing cyc : Nat) (det : Word) : List Word := [packW [(applied, 16), (failing, 0)], wd cyc, det]

/-- An accepted set discarded: ABANDONED to its port, unless a reset discards it (R174). -/
def dropAccepted (p : Fin 4) (cause : Nat) (a : Accepted) (s : State) : State :=
  let s1 := tlCancel (fun k => match k with | .cfgSet q i => q == p && i == a.origin.id | _ => false)
    (onPort p (fun q => { q with accepted := q.accepted.filter fun x => x.origin.id != a.origin.id }) s)
  let s2 := logNs evCfgDiscarded p.val [p.val, a.id, cause] s1
  if cause = 2 then s2
  else complete a.origin stAbandoned (setWords 0 0xFFFF 0 (packW [(0xFFFF, 16), (cause, 0)])) s2

/-- An open set discarded (R174). -/
def dropOpen (p : Fin 4) (cause : Nat) (s : State) : State :=
  match (s.ports.get p).openSet with
  | none => s
  | some o => logNs evCfgDiscarded p.val [p.val, o.id, cause] (onPort p (fun q => { q with openSet := none }) s)

/-- Every open and accepted set of a port discarded. Causes: 0 abort, 1 flush, 2 reset, 3 COMMISSION, 4 timeout. -/
def dropSets (p : Fin 4) (cause : Nat) (s : State) : State :=
  let s1 := dropOpen p cause s
  (s1.ports.get p).accepted.foldl (fun s a => dropAccepted p cause a s) s1

/-- CFG_SET_TIMEOUT (R174): 600 s after the last staged command. -/
def execCfgSetTimeout (p : Fin 4) (s : State) : Host.Outcome State Fault Refusal :=
  .next (match (s.ports.get p).openSet with
    | some o => if o.since + 600 * 40000000 ≤ s.clk.ticks then dropOpen p 4 s else s
    | none => s)

/-- Checks every SYS command begins with. -/
def sysChecks (code n : Nat) (r : Req) (s : State) : Option Fail :=
  match opRow code with
  | none => none
  | some row => headChecks r row (modeServed s) (r.len == n) s

/-- SYS.NOP, its checks passed. -/
def actSysNop (r : Req) (s : State) : State :=
  ok r [] s

/-- SYS.NOP (0x0100). -/
def execSysNop (s : State) : Host.Outcome State Fault Refusal :=
  .next (serve 0x0100 (sysChecks 0x0100 0) actSysNop s)

/-- SYS.IDENT, its checks passed. -/
def actSysIdent (r : Req) (s : State) : State :=
  ok r [ hi32 s.dev.eui, lo32 s.dev.eui, winVer s,
         wAt s.upd.active 2,
         packW [(s.pwr.cause, 24), (s.upd.bank, 16), (s.pwr.straps.toNat, 8), (s.tt.reserve.epoch, 0)],
         wd (sat 32 (cycOf s - s.pwr.bootEndCyc)) ] s

/-- SYS.IDENT (0x0101). -/
def execSysIdent (s : State) : Host.Outcome State Fault Refusal :=
  .next (serve 0x0101 (sysChecks 0x0101 0) actSysIdent s)

/-- SYS.CAPS, its checks passed. -/
def actSysCaps (r : Req) (s : State) : State :=
  let v := s.dev.variant
  let ofdm := v != .b
  let code := match v with | .a => 0x41 | .b => 0x42 | .c => 0x43
  ok r [ caps0 s, caps1 s, 0xFFFFFFFF#32, if engineCount v = 64 then 0xFFFFFFFF#32 else 0,
         packW [(if ofdm then 0x7F else 0, 16), (if ofdm then 0xF else 0, 8), (7, 4), (0xF, 0)],
         packW [(2047, 16), (8, 8)], packW [(code, 24), (2, 16), (1792, 0)] ] s

/-- SYS.CAPS (0x0102). -/
def execSysCaps (s : State) : Host.Outcome State Fault Refusal :=
  .next (serve 0x0102 (sysChecks 0x0102 0) actSysCaps s)

/-- `WD_LEFT` of a port (SYS.STATUS). DESIGN CHOICE: a part of a second counts as a whole one (log entry 42, on WD_LEFT and SET_STATE). -/
def wdLeft (s : State) (p : Fin 4) : Nat :=
  let w := s.wd.get p
  if !portPresent s p then 0
  else if s.pwr.mode = .commission then w.timeout
  else if w.expired then 0
  else (w.deadline - s.clk.ticks + 39999999) / 40000000

/-- `SET_STATE` of a port: 0 no set, 1 open, 2 broken, 3 accepted and awaiting its cycle. DESIGN CHOICE: a port that holds an open or
broken set beside an accepted one shows the former (log entry 42, on WD_LEFT and SET_STATE). -/
def setStateOf (q : PortSt) : Nat :=
  match q.openSet with
  | some o => if o.broken.isSome then 2 else 1
  | none => if q.accepted.isEmpty then 0 else 3

/-- SYS.STATUS, its checks passed. -/
def actSysStatus (r : Req) (s : State) : State :=
  let bits := fun p : Fin 4 => if portPresent s p then
      1 + 2 * b2n (!portSecure s p) + 4 * b2n (lightOwner s p) + 8 * b2n (s.wd.get p).expired else 0
  ok r ([packW [(modeCode s.pwr.mode, 24), (b2n (holdFlag s), 23), (b2n (slewFlag s), 22), (b2n s.pwr.autonomous, 21),
           (b2n s.pwr.flush.pfw, 20), (b2n s.pwr.bootHalt, 19), (bits 3, 12), (bits 2, 8), (bits 1, 4), (bits 0, 0)]] ++
        (allPorts.map fun p => wd (wdLeft s p)) ++
        [packW (allPorts.map fun p => (setStateOf (s.ports.get p), 8 * p.val))]) s

/-- SYS.STATUS (0x0103). -/
def execSysStatus (s : State) : Host.Outcome State Fault Refusal :=
  .next (serve 0x0103 (sysChecks 0x0103 0) actSysStatus s)

/-- Checks of SYS.RESET. -/
def chkSysReset (r : Req) (s : State) : Option Fail :=
  firstFail
    [sysChecks 0x0104 1 r s, needSecure r s 0, need 9 (r.w 3 == 0xB007C0DE#32) stBadParam 3]

/-- SYS.RESET, its checks passed. -/
def actSysReset (r : Req) (s : State) : State :=
  ok r [] { s with pwr := { s.pwr with resetAt := some (s.clk.ticks + 400000) } }

/-- SYS.RESET (0x0104): a warm reset 10 ms later. -/
def execSysReset (s : State) : Host.Outcome State Fault Refusal :=
  .next (serve 0x0104 chkSysReset actSysReset s)

/-- Checks of SYS.SHELF. -/
def chkSysShelf (r : Req) (s : State) : Option Fail :=
  firstFail
    [ sysChecks 0x0105 1 r s, needSecure r s 0, need 9 (r.w 3 == 0x5E1F0000#32) stBadParam 3,
      need 12 (s.pwr.mode == .commission && !s.key.everCommitted) stBadState ]

/-- SYS.SHELF, its checks passed. -/
def actSysShelf (r : Req) (s : State) : State :=
  ok r [] { s with pwr := { s.pwr with shelfArmed := true } }

/-- SYS.SHELF (0x0105): arms the shelf latch (R64). -/
def execSysShelf (s : State) : Host.Outcome State Fault Refusal :=
  .next (serve 0x0105 chkSysShelf actSysShelf s)

/-- The port that a SYS.WATCHDOG request names. -/
def wdPort (r : Req) : Fin 4 := if bit (r.w 3) 29 then Fin.ofNat 4 (fld (r.w 3) 31 30) else r.port

/-- Checks of SYS.WATCHDOG. -/
def chkSysWatchdog (r : Req) (s : State) : Option Fail :=
  let t := fld (r.w 3) 16 0
  firstFail
    [ sysChecks 0x0106 1 r s, need 6 (portPresent s (wdPort r)) stAbsent 3 (0x0300 + (wdPort r).val),
      (if bit (r.w 3) 29 then inWord 3 (needSecure r s 0) else none),
      need 9 (fld (r.w 3) 28 17 == 0 && (bit (r.w 3) 29 || fld (r.w 3) 31 30 == 0)) stBadParam 3,
      need 9 (t == 0 || (decide (60 ≤ t) && decide (t ≤ 86400))) stBadParam 3 ]

/-- SYS.WATCHDOG, its checks passed. -/
def actSysWatchdog (r : Req) (s : State) : State :=
  let t := fld (r.w 3) 16 0
  let p := wdPort r
  let w := s.wd.get p
  if t = 0 then ok r [wd w.timeout] s
  else
    let w1 := { w with timeout := t }
    let w2 := if w.running && !w.expired then w1.restart s.clk.ticks else w1
    let s1 := logNs evWatchdogSet p.val [p.val, w.timeout, t] (markStored 0xFF { s with wd := s.wd.put p w2 })
    ok r [wd w.timeout] (evalAuto 0 s1)

/-- SYS.WATCHDOG (0x0106). -/
def execSysWatchdog (s : State) : Host.Outcome State Fault Refusal :=
  .next (serve 0x0106 chkSysWatchdog actSysWatchdog s)

/-- A band plan is configured (R63, R196). -/
def planConfigured (s : State) : Bool := s.rad.stored.isSome || s.pwr.straps.toNat % 4 != 3

/-- Checks of SYS.MODE. -/
def chkSysMode (r : Req) (s : State) : Option Fail :=
  let m := fld (r.w 3) 2 0
  firstFail
    [ sysChecks 0x0107 1 r s, needSecure r s 0, need 9 (fld (r.w 3) 31 3 == 0 && (m == 3 || m == 4)) stBadParam 3,
      need 12 (if m = 4 then s.pwr.mode == .commission && planConfigured s && allPorts.any (lightOwner s)
        else s.pwr.mode != .commission) stBadState ]

/-- SYS.MODE, its checks passed. -/
def actSysMode (r : Req) (s : State) : State :=
  if fld (r.w 3) 2 0 = 4 then ok r [] (settleMode s 0 { s with pwr := { s.pwr with commissioned := true } })
  else
    let s1 := allPorts.foldl (fun s p => dropSets p 3 s) s
    ok r [] (settleMode s1 0 { s1 with pwr := { s1.pwr with commissioned := false } })

/-- SYS.MODE (0x0107). -/
def execSysMode (s : State) : Host.Outcome State Fault Refusal :=
  .next (serve 0x0107 chkSysMode actSysMode s)

/-- Checks of SYS.POWER. -/
def chkSysPower (r : Req) (s : State) : Option Fail :=
  let w := bit (r.w 3) 31
  let v := fld (r.w 3) 9 0
  firstFail
    [ sysChecks 0x0108 1 r s, (if w then needSecure r s 0 else none),
      need 9 (fld (r.w 3) 30 10 == 0 && (if w then decide (75 ≤ v) && decide (v ≤ 660) else v == 0)) stBadParam 3 ]

/-- A write of `PFW_THRESHOLD`, applied by R45. -/
def applySysPower (r : Req) (s : State) : State :=
  if bit (r.w 3) 31 then
    applyEff (markStored 0xFF { s with pwr := { s.pwr with pfwStored := some (fld (r.w 3) 9 0) } })
  else s

/-- SYS.POWER, its checks passed: VIN is the level that its pin has now (R45). -/
def actSysPower (r : Req) (s : State) : State :=
  let s1 := applySysPower r s
  let (pin, s2) := freshNat s1
  ok r [ packW [(pfwThreshold s2, 16), (s2.pwr.vPfwEff, 0)], packW [(pin % 65536, 16), (sat 16 s2.pwr.vin, 0)],
         packW [(b2n s2.pwr.flush.pfw, 1), (b2n (s2.pwr.straps.getLsbD 6), 0)] ] s2

/-- SYS.POWER (0x0108), with the VIN measured. `P_IN` is measured too: a free value. -/
def execSysPower (s : State) : Host.Outcome State Fault Refusal :=
  .next (serve 0x0108 chkSysPower actSysPower s)

/-- Checks of SYS.CFG_BEGIN. -/
def chkSysCfgBegin (r : Req) (s : State) : Option Fail :=
  let n := fld (r.w 4) 15 0
  firstFail
    [ sysChecks 0x0109 2 r s,
      need 9 (fld (r.w 4) 31 16 == 0 && decide (1 ≤ n) && decide (n ≤ 16384)) stBadParam 4,
      need 12 (s.ports.get r.port).openSet.isNone stSetOpen ]

/-- SYS.CFG_BEGIN, its checks passed. -/
def actSysCfgBegin (r : Req) (s : State) : State :=
  ok r [] (onPort r.port (fun q => { q with
    openSet := some ⟨(r.w 3).toNat, fld (r.w 4) 15 0, [], none, 0, s.clk.ticks⟩ }) s)

/-- SYS.CFG_BEGIN (0x0109). -/
def execSysCfgBegin (s : State) : Host.Outcome State Fault Refusal :=
  .next (serve 0x0109 chkSysCfgBegin actSysCfgBegin s)

/-- The checks of R171 on an open set. -/
def setCheck (r : Req) (o : CfgSet) : Option Fail :=
  firstFail
    [ need 12 (o.id == (r.w 3).toNat) stBadParam 3,
      (match o.broken with | some n => some ⟨12, stSetBroken, n, 0⟩ | none => none),
      need 12 (o.staged.length == o.count) stBadState,
      need 12 (crc32c (o.staged.map fun x => x.words).flatten == r.w 4) stVerifyFail 4 ]

/-- Checks of SYS.CFG_COMMIT. -/
def chkSysCfgCommit (r : Req) (s : State) : Option Fail :=
  firstFail [sysChecks 0x010A 2 r s, aacCheck r s, need 12 (s.ports.get r.port).openSet.isSome stNoSet]

/-- SYS.CFG_COMMIT, its checks passed. -/
def actSysCfgCommit (r : Req) (s : State) : State :=
  match (s.ports.get r.port).openSet with
  | none => s
  | some o => match setCheck r o with
    | some f =>
      failReq r f (logNs evCfgCommit r.port.val [r.port.val, o.id, f.status, 0]
        (onPort r.port (fun q => { q with openSet := none }) s))
    | none => match tlPost (targetCyc r s * 4096) 3 3 (.cfgSet r.port r.id) s with
      | none => failReq r ⟨13, stFull, 0xFFFF, 0⟩ (tlFull 3 2 s)
      | some s1 =>
        accept r (onPort r.port (fun q => { q with
          openSet := none, accepted := q.accepted ++ [⟨o.id, o.staged, r.origin true⟩], lastSet := some o.id }) s1)

/-- SYS.CFG_COMMIT (0x010A): each failure of R171 discards the set; a refused post leaves it open. -/
def execSysCfgCommit (s : State) : Host.Outcome State Fault Refusal :=
  .next (serve 0x010A chkSysCfgCommit actSysCfgCommit s)

/-- Checks of SYS.CFG_ABORT. -/
def chkSysCfgAbort (r : Req) (s : State) : Option Fail :=
  let q := s.ports.get r.port
  let id := (r.w 3).toNat
  let isOpen := match q.openSet with | some o => o.id == id | none => false
  let isAcc := q.accepted.any fun a => a.id == id
  firstFail
    [ sysChecks 0x010B 1 r s,
      need 12 (isOpen || isAcc || !((q.openSet.isNone && q.accepted.isEmpty) || q.lastSet == some id)) stNoSet,
      need 12 (isOpen || isAcc) stBadParam 3 ]

/-- SYS.CFG_ABORT, its checks passed. -/
def actSysCfgAbort (r : Req) (s : State) : State :=
  let q := s.ports.get r.port
  let id := (r.w 3).toNat
  let isOpen := match q.openSet with | some o => o.id == id | none => false
  if isOpen then ok r [] (dropOpen r.port 0 s)
  else match q.accepted.find? fun a => a.id == id with
    | some a => ok r [] (dropAccepted r.port 0 a s)
    | none => s

/-- SYS.CFG_ABORT (0x010B). -/
def execSysCfgAbort (s : State) : Host.Outcome State Fault Refusal :=
  .next (serve 0x010B chkSysCfgAbort actSysCfgAbort s)

/-- The settings sets that SYS.SETTINGS lists for a port (R175). -/
def listedSets (s : State) (p : Fin 4) : List Nat :=
  (numsBelow 0x15 fun b => blockPresent s.dev.variant b && reaches s p b) ++ [0xFF]

/-- State of a settings set: 0 default, 1 stored, 2 reset by update, 3 reset by command. -/
def setStored (s : State) (id : Nat) : Nat := (tget s.cmd.setState id).getD 0

/-- Schema version of a settings set in a manifest (R472): words M5 to M14 hold those of sets 0x01 to 0x14, the lower ID in the high
half, and M15 that of set 0xFF. -/
def schemaOf (man : List Word) (id : Nat) : Nat :=
  if id = 0xFF then fld (wAt man 15) 31 16
  else if id % 2 = 1 then fld (wAt man (5 + (id - 1) / 2)) 31 16 else fld (wAt man (5 + (id - 1) / 2)) 15 0

/-- SYS.SETTINGS, its checks passed. -/
def actSysSettings (r : Req) (s : State) : State :=
  let ids := listedSets s r.port
  let (k, s1) := freshNat s
  ok r (wd ids.length :: (ids.map fun i =>
    [packW [(i, 24), (setStored s i, 16), (schemaOf s.upd.active i, 0)], Config.settingsCrc i k]).flatten) s1

/-- SYS.SETTINGS (0x010C). The CRC of a set's stored contents is a free value: their layout is not given. -/
def execSysSettings (s : State) : Host.Outcome State Fault Refusal :=
  .next (serve 0x010C (sysChecks 0x010C 0) actSysSettings s)

/-! ### Flush of a port (R147) -/

/-- Messages of a request queue that a flush discards, a partly staged one counting as one. -/
def flushCount (q : PortSt) (k : Nat) : Nat := (q.req k).msgs.length + b2n (!(q.req k).staged.isEmpty)

/-- The port's queues emptied, its held messages' reservations released and `PORT_DIAG` cleared (R147). -/
def flushQueues (q : PortSt) : PortSt :=
  let held := q.rsp.held ++ q.ntf.held
  PortSt.refresh { q with
    q0 := emptyReqQ, q1 := emptyReqQ, q2 := emptyReqQ, q3 := emptyReqQ, rsp := emptyRetQ, ntf := emptyRetQ
    reserved := q.reserved - (held.map fun h => h.frees).sum
    inflight := q.inflight - (held.filter fun h => h.isRsp).length
    frameErrs := 0, lastErr := 0, lastErrQ := 0, ntfLost := 0 }

/-- The six counts of EV_PORT_FLUSH. -/
def flushCounts (q : PortSt) : List Nat :=
  [flushCount q 0, flushCount q 1, flushCount q 2, flushCount q 3, q.rsp.msgs.length + q.rsp.held.length,
   q.ntf.msgs.length + q.ntf.held.length]

end Sys2Proof.Machine
end

