-- ==== Sys2Proof/Machine/Image.lean ====
section
/-!
DEFINITION. Endpoint firmware images: the cache and their distribution (09, R282 to R284).
-/
namespace Sys2Proof.Machine

/-! ### The cache (R282) -/

/-- Octet `i` of words, the first in [31:24]. -/
def octetAt (ws : List Word) (i : Nat) : Nat := fld (wAt ws (i / 4)) (31 - 8 * (i % 4)) (24 - 8 * (i % 4))

/-- Class of an image. -/
def imgClass (ws : List Word) : Nat := octetAt ws 4
/-- Version of an image: octets 8 and 9, the most significant first as in the words. -/
def imgVersion (ws : List Word) : Nat := fld (wAt ws 2) 31 16
/-- Hardware ID of an image. -/
def imgHw (ws : List Word) : Nat := fld (wAt ws 1) 15 0

/-- The header of an image is well formed, and its length is its total. -/
def imgFormOk (ws : List Word) (total : Nat) : Bool :=
  wAt ws 0 == 0x444E4931 && classOk (imgClass ws) && octetAt ws 5 == 0 && fld (wAt ws 2) 15 0 == 0 &&
    (wAt ws 3).toNat + 96 == total && (List.range 4).all (fun i => wAt ws (4 + i) == 0) && decide (total ≤ 4 * ws.length)

/-- The signature verifies under the key, or the previous key in its overlap, of `IMG_KEY_SLOT`: over header and body. -/
def imgVerified (s : State) (ws : List Word) (total : Nat) : Bool :=
  let l := (unpackOctets ws).take total
  let hash := sha256 (l.take (total - 64))
  (slotKeys s s.lat.policy.imgSlot 3 none).any fun k => ecdsaVerifyHash k hash (packOctets 64 (l.drop (total - 64)))

/-- Words loaded into a slot so far: none at `FIRST`. -/
def imgLoaded (r : Req) (s : State) : Option Image :=
  if bit (r.w 4) 31 then some ⟨[], fld (r.w 4) 21 0, false⟩
  else match tget s.lat.images (fld (r.w 3) 31 26) with | some i => if i.ok then none else some i | none => none

/-- Checks of LAT.IMAGE_LOAD. -/
def chkLatImageLoad (r : Req) (s : State) : Option Fail :=
  let first := bit (r.w 4) 31
  let total := fld (r.w 4) 21 0
  let n := r.len - 2
  firstFail
    [ match opRow 0x0509 with | some row => headChecks r row (modeServed s) (decide (3 ≤ r.len)) s | none => none, needSecure r s 0x07,
      need 9 (fld (r.w 3) 25 20 == 0) stBadParam 3,
      need 9 (fld (r.w 4) 29 22 == 0 && (if first then decide (96 ≤ total) && decide (total ≤ 2097152) else total == 0)) stBadParam 4,
      need 9 (match imgLoaded r s with
        | some i => i.words.length == fld (r.w 3) 19 0 && decide (4 * (i.words.length + n) < i.total + 4) | none => false) stBadParam 3,
      need 13 (!s.lat.sends.any fun x => x.slot == fld (r.w 3) 31 26) stBusy ]

/-- LAT.IMAGE_LOAD, its checks passed. -/
def actLatImageLoad (r : Req) (s : State) : State :=
  match imgLoaded r s with
  | none => s
  | some i =>
    let k := fld (r.w 3) 31 26
    let i1 : Image := { i with words := i.words ++ r.words.drop 5 }
    if !bit (r.w 4) 30 then ok r [] { s with lat := { s.lat with images := tset s.lat.images k i1 } }
    else
      let st := if !imgFormOk i1.words i1.total then stImageBad
        else if !slotUsable s s.lat.policy.imgSlot 3 none then stKeyInvalid
        else if !imgVerified s i1.words i1.total then stVerifyFail else stOk
      let s1 := logNs evImageLoaded 0xFF [k, imgClass i1.words, imgVersion i1.words, st] { s with lat := { s.lat with
        images := if st = stOk then tset s.lat.images k { i1 with ok := true } else tdel s.lat.images k } }
      if st = stOk then ok r [] s1 else failReq r ⟨12, st, 0xFFFF, 0⟩ s1

/-- LAT.IMAGE_LOAD (0x0509): verification at `LAST`; an image that fails is discarded. -/
def execLatImageLoad (s : State) : Host.Outcome State Fault Refusal :=
  .next (serve 0x0509 chkLatImageLoad actLatImageLoad s)

/-! ### Distribution (R283) -/

/-- The targets of a distribution. -/
def imgTargets (s : State) (g : Nat) (ws : List Word) : List ImgTarget :=
  (s.lat.recs.filter fun x => x.2.st == .active && x.2.cls == imgClass ws && x.2.fwVer != imgVersion ws &&
    (g == 4095 || x.2.groups.contains g)).map fun x => ⟨x.1, [], false, none⟩

/-- Checks of LAT.IMAGE_SEND. -/
def chkLatImageSend (r : Req) (s : State) : Option Fail :=
  let bs := fld (r.w 5) 31 16
  let rounds := fld (r.w 5) 15 8
  let sp := fld (r.w 6) 31 16
  firstFail
    [ stdHead 0x050A 4 r s, needSecure r s 0x07, need 9 (fld (r.w 3) 24 16 == 0) stBadParam 3, need 9 (fld (r.w 4) 31 12 == 0) stBadParam 4,
      need 9 (decide (64 ≤ bs) && decide (bs ≤ 1024) && decide (1 ≤ rounds) && decide (rounds ≤ 16) && fld (r.w 5) 7 0 == 0) stBadParam 5,
      need 9 (decide (1 ≤ sp) && decide (sp ≤ 30000) && fld (r.w 6) 15 0 == 0) stBadParam 6,
      need 12 (match tget s.lat.images (fld (r.w 3) 31 26) with | some i => i.ok | none => false) stNoImage,
      need 13 (decide (s.lat.sends.length < 4)) stBusy ]

/-- LAT.IMAGE_SEND, its checks passed. -/
def actLatImageSend (r : Req) (s : State) : State :=
  match tget s.lat.images (fld (r.w 3) 31 26) with
  | none => s
  | some i =>
    let g := fld (r.w 4) 11 0
    let x : ImgSend := ⟨fld (r.w 3) 31 26, bit (r.w 3) 25, fld (r.w 3) 15 0, g, fld (r.w 5) 31 16, fld (r.w 5) 15 8, fld (r.w 6) 31 16,
      .announce, cycOf s, imgTargets s g i.words, 0, 0, 0, r.origin⟩
    acceptN r { s with lat := { s.lat with sends := s.lat.sends ++ [x] } }

/-- LAT.IMAGE_SEND (0x050A). -/
def execLatImageSend (s : State) : Host.Outcome State Fault Refusal :=
  .next (serve 0x050A chkLatImageSend actLatImageSend s)

/-- Engines that serve targets. -/
def imgEngines (s : State) (x : ImgSend) : List Nat :=
  (List.range (engineCount s.dev.variant)).filter fun n =>
    ceOn s n && slotUsable s (bcnOf s n).grpSlot 2 (some n) && x.targets.any fun t => match epOf s t.ep with
      | some r => r.engine == n | none => false

/-- A message of a distribution staged on every engine that serves targets, flooded where there are targets behind routers: `OP` and payload
under the group key. DESIGN CHOICE: it carries no Group IE, which R295 asks of group broadcasts of levels alone, and `TID` 0 (log entry 52, on
frame formats). -/
def stageImage (x : ImgSend) (train : Bool) (target : Option Nat) (app : List Nat) (s : State) : State :=
  (imgEngines s x).foldl (fun s n =>
    let flood := x.targets.any fun t => match epOf s t.ep with | some r => r.engine == n && r.viaRouter | none => false
    let tr := if train then imgTrain s x n else 0
    let body : TxBody := ⟨.short 0xFFFF, [], bcastHdr flood s ++ appOctets app 0 false target⟩
    stageFrame n ⟨if tr = 0 then 2 else 1, ownDeadline s * 4096, psduOctets body 5 true, tr, .image x.org.id, none, none, 0, 0, none, body⟩
      (takeFlood flood s)) s

/-- A distribution changed, named by the number of its request. -/
def updSend (id : Nat) (f : ImgSend → ImgSend) (s : State) : State :=
  { s with lat := { s.lat with sends := s.lat.sends.map fun x => if x.org.id = id then f x else x } }

/-- Frames of a distribution are still in transmit buffers, or an engine has no room for the next. -/
def imgBusy (s : State) (x : ImgSend) : Bool :=
  s.rad.ces.any (fun e => e.tx.any fun f => f.src == .image x.org.id) || !(imgEngines s x).all (txRoom s)

/-- Blocks of an image. -/
def imgBlocks (x : ImgSend) (i : Image) : Nat := (i.total + x.block - 1) / x.block

/-- Octets of a block. -/
def blockLen (x : ImgSend) (i : Image) (b : Nat) : Nat := Nat.min x.block (i.total - b * x.block)

/-- The union of the missing blocks, rising. -/
def imgMissing (x : ImgSend) (n : Nat) : List Nat := numsBelow n fun b => x.targets.any fun t => t.missing.contains b

/-- The nine words of a distribution's end. -/
def imgWords (x : ImgSend) : List Word :=
  let cnt := fun k => (x.targets.filter fun t => t.report == k).length
  [ packW [(x.slot, 26)], wd x.targets.length, wd (cnt (some 0)), wd (cnt (some 1)), wd (cnt (some 2)), wd (cnt none), wd x.sent, wd x.used,
    wd x.actCyc ]

/-- What EV_IMAGE_SEND holds: the slot and the counts of the final payload (R291). -/
def imgEvent (x : ImgSend) : List Word := wd x.slot :: ((imgWords x).drop 1).dropLast

/-- Reports are no longer waited for: every target has reported, or `SPREAD` cycles have passed. -/
def reportsIn (s : State) (x : ImgSend) : Bool := decide (x.at_ ≤ cycOf s) || x.targets.all fun t => t.report.isSome

/-- The phase after a repair round's last block. -/
def afterRound (s : State) (r : Nat) (x : ImgSend) : ImgSend :=
  if r < x.rounds then { x with phase := .query (r + 1) } else { x with phase := .verify, at_ := cycOf s + x.spread }

/-- The octets of a block. -/
def blockData (x : ImgSend) (i : Image) (b : Nat) : List Nat :=
  (List.range (blockLen x i b)).map fun k => octetAt i.words (b * x.block + k)

/-- A distribution goes on by one message or one phase (R283): ANNOUNCE 0x20, BLOCK 0x21, NACK_QUERY 0x22, ACTIVATE 0x25. -/
def imgStep (x : ImgSend) (i : Image) (s : State) : State :=
  let n := imgBlocks x i
  let id := x.org.id
  let block := fun (b : Nat) (f : ImgSend → ImgSend) =>
    updSend id (fun x => f { x with sent := x.sent + 1 }) (stageImage x false none ([0x21] ++ oct16 b ++ blockData x i b) s)
  match x.phase with
  | .announce => updSend id (fun x => { x with phase := .blocks 0 })
      (stageImage x true none ([0x20] ++ oct16 (imgVersion i.words) ++ oct16 x.block ++ oct16 n ++ [imgClass i.words] ++ oct16 (imgHw i.words)) s)
  | .blocks b => if n ≤ b then updSend id (fun x => { x with phase := .query 1 }) s else block b fun x => { x with phase := .blocks (b + 1) }
  | .query r =>
    updSend id (fun x => { x with
      phase := .repair r [], used := r, at_ := cycOf s + x.spread
      targets := x.targets.map fun t => { t with missing := [], complete := false } }) (stageImage x false none ([0x22, r] ++ oct16 x.spread) s)
  | .repair r [] =>
    if cycOf s < x.at_ then s
    else match imgMissing x n with
      | [] => updSend id (fun x => { x with phase := .verify, at_ := cycOf s + x.spread }) s
      | l => updSend id (fun x => { x with phase := .repair r l }) s
  | .repair r (b :: l) => block b fun x => if l.isEmpty then afterRound s r x else { x with phase := .repair r l }
  | .verify =>
    if reportsIn s x then updSend id (fun x => { x with phase := if x.activate then .activate else .done }) s else s
  | .activate =>
    updSend id (fun x => { x with phase := .done, actCyc := cycOf s + x.actDelay }) (stageImage x false (some (cycOf s + x.actDelay)) [0x25] s)
  | .done =>
    complete x.org stOk (imgWords x) (logEv evImageSend 0xFF (imgEvent x)
      { s with lat := { s.lat with sends := s.lat.sends.filter fun z => z.org.id != id } })

/-- IMAGE_PHASE (R283): a distribution, by the number of its request, goes on once its frames have left and its engines have room. -/
def execImagePhase (id : Nat) (s : State) : Host.Outcome State Fault Refusal :=
  .next
    (match s.lat.sends.find? fun x => x.org.id == id with
     | none => s
     | some x => match tget s.lat.images x.slot with
       | some i => if s.upd.windowOpen || imgBusy s x then s else imgStep x i s
       | none => s)

/-- The distribution that an endpoint is a target of. -/
def sendOf (s : State) (ep : Nat) : Option ImgSend := s.lat.sends.find? fun x => x.targets.any fun t => t.ep == ep

/-- A target changed. -/
def updTarget (x : ImgSend) (ep : Nat) (f : ImgTarget → ImgTarget) (s : State) : State :=
  updSend x.org.id (fun x => { x with targets := x.targets.map fun t => if t.ep = ep then f t else t }) s

/-- Blocks of a NACK message: a first block and a bitmap of 512 blocks, octets and bits in rising order (R216, R283). -/
def nackBlocks (b : List Nat) : List Nat :=
  (numsBelow 512 fun k => (b.getD (2 + k / 8) 0).testBit (k % 8)).map fun k => le16 b 0 + k

/-- IMAGE_NACK (R283). -/
def execImageNack (n : Nat) (s : State) : Host.Outcome State Fault Refusal :=
  .next
    (match headMsg s n fun op => op == 0x23 with
     | none => s
     | some m =>
       let s1 := popRing n s
       match trusted m with
       | none => s1
       | some ep => match sendOf s1 ep with
         | none => s1
         | some x =>
           let l := nackBlocks (msgBody m)
           updTarget x ep (fun t => { t with missing := t.missing ++ l, complete := t.complete || l.isEmpty }) s1)

/-- IMG_REPORT (R283): 0 verified, 1 signature failed, 2 incomplete. -/
def execImgReport (n : Nat) (s : State) : Host.Outcome State Fault Refusal :=
  .next
    (match headMsg s n fun op => op == 0x24 with
     | none => s
     | some m =>
       let s1 := popRing n s
       match trusted m with
       | none => s1
       | some ep => match sendOf s1 ep with
         | none => s1
         | some x => updTarget x ep (fun t => { t with report := some ((msgBody m).getD 0 0) }) s1)

end Sys2Proof.Machine
end

