-- ==== Sys2Proof/Machine/TxnCmd.lean ====
section
/-!
DEFINITION. The TXN commands and sequence numbers (09, R268 to R276, R290).
-/
namespace Sys2Proof.Machine

/-! ### Checks -/

/-- A refusal for want of room among the transactions is logged (R291). -/
def txnFull (r : Req) (s : State) : State := logLimK evTxnFull 0xFF r.port.val 1 (fun n => [wd r.port.val, wd r.opcode, wd n]) s

/-- d = (`SEQ` − E) mod 4,096 (R274). -/
def seqDist (r : Req) (s : State) : Nat := (r.seqNo + 4096 - s.txn.expect.get r.port % 4096) % 4096

/-- The sequence number is too far ahead: SEQ_GAP, with E as the cause; or the port holds 64 commands already. -/
def seqCheck (r : Req) (s : State) : List (Option Fail) :=
  [ need 12 (!r.cseq || decide (seqDist r s < 64)) stSeqGap 0xFFFF (s.txn.expect.get r.port),
    need 13 (!r.cseq || seqDist r s == 0 || decide ((s.txn.seqHeld.get r.port).length < 64)) stFull ]

/-- Payload octets of TXN.SEND. -/
def sendLen (r : Req) : Nat := fld (r.w 4) 10 0

/-- Octets of TXN.SEND. -/
def sendOctets (r : Req) : List Nat := (unpackOctets (r.words.drop 5)).take (sendLen r)

/-- Room for the transactions a command starts. -/
def needTxns (s : State) (n : Nat) : Option Fail := need 13 (txnRoom s n) stFull

/-- Checks 6 to 13 of TXN.SEND but its sequence number. -/
def sendTail (r : Req) (s : State) : List (Option Fail) :=
  let ep := fld (r.w 3) 17 0
  let control := !bit (r.w 3) 31
  [ needEp s ep, (if control then needEpOwner r s ep else none),
    need 12 (!(control && s.pwr.mode == .commission && (match epOf s ep with | some x => x.cls == 1 | none => false))) stBadState ]

/-- Checks of TXN.SEND. -/
def chkTxnSend (r : Req) (s : State) : Option Fail :=
  let l := sendLen r
  firstFail
    ([ stdHead 0x0601 (2 + (l + 3) / 4) r s, needWorld r s 0x07, needWorld r s 0x08, need 9 (fld (r.w 3) 29 18 == 0) stBadParam 3,
       need 9 (fld (r.w 4) 15 11 == 0 && decide (1 ≤ l) && decide (l ≤ 1900)) stBadParam 4,
       need 9 (decide (0x80 ≤ (sendOctets r).getD 0 0)) stBadParam 5,
       need 9 (((unpackOctets (r.words.drop 5)).drop l).all fun o => o == 0) stBadParam (4 + (l + 3) / 4), aacCheck r s ] ++
      sendTail r s ++ seqCheck r s ++ [needTxns s 1])

/-- Checks 10 to 12 of TXN.LEVEL. -/
def levelTail (r : Req) (s : State) : List (Option Fail) := [needEp s (fld (r.w 3) 17 0), needEpOwner r s (fld (r.w 3) 17 0)]

/-- Checks of TXN.LEVEL. -/
def chkTxnLevel (r : Req) (s : State) : Option Fail :=
  firstFail
    ([ (match opRow 0x0602 with
        | some row => headChecks r row (modeServed s && s.pwr.mode != .commission) (r.len == 3) s | none => none),
       needWorld r s 0x07, needWorld r s 0x08,
       need 9 (fld (r.w 3) 30 18 == 0 && (match epOf s (fld (r.w 3) 17 0) with | some x => x.cls == 1 | none => true)) stBadParam 3,
       need 9 (decide (fld (r.w 4) 31 16 ≤ 1000)) stBadParam 4, need 9 (fld (r.w 5) 15 0 == 0) stBadParam 5, aacCheck r s ] ++
      levelTail r s ++ seqCheck r s ++ [needTxns s 1])

/-- Transactions that TXN.GROUP_LEVEL starts: its members in compatibility ordering. -/
def groupTxns (compat : Bool) (r : Req) (s : State) : Nat := if compat then (lanterns s (fld (r.w 3) 11 0) 0).length else 0

/-- Check 11 of TXN.GROUP_LEVEL. -/
def groupTail (r : Req) (s : State) : List (Option Fail) := [inWord 3 (needOwner r (groupOf s (fld (r.w 3) 11 0)).owner)]

/-- Checks of TXN.GROUP_LEVEL. -/
def chkTxnGroupLevel (r : Req) (s : State) : Option Fail :=
  firstFail
    ([ (match opRow 0x0603 with
        | some row => headChecks r row (modeServed s && s.pwr.mode != .commission) (r.len == 3) s | none => none),
       needWorld r s 0x08, need 9 (fld (r.w 3) 30 12 == 0) stBadParam 3, need 9 (decide (fld (r.w 4) 31 16 ≤ 1000)) stBadParam 4,
       need 9 (fld (r.w 5) 7 0 == 0 && decide (fld (r.w 5) 15 8 ≤ 8)) stBadParam 5, aacCheck r s ] ++
      groupTail r s ++ seqCheck r s ++ [needTxns s (groupTxns (orderMode s == 1) r s)])

/-! ### Entering issue order (R274, R276) -/

/-- The target of a mutating command: its `AAC` target, or in compatibility ordering the cycle of its take +
`LEAD` (R276). -/
def txnTarget (r : Req) (control compat : Bool) (lead : Nat) : Option Nat :=
  match r.target with
  | some t => some t
  | none => if control && compat then some lead else none

/-- `DEADLINE`, or the policy's default, from a cycle. -/
def txnDeadline (d cyc : Nat) (s : State) : Nat := cyc + (if d = 0 then s.txn.retry.deadline else d)

/-- TXN.GROUP_LEVEL enters issue order. -/
def issueGroup (r : Req) (cyc : Nat) (compat : Bool) (lead : Nat) (s : State) : State :=
  let g := fld (r.w 3) 11 0
  let app := levelApp (fld (r.w 4) 31 16) (fld (r.w 4) 15 0)
  let strict := bit (r.w 3) 31
  let dl := txnDeadline (fld (r.w 5) 31 16) cyc s
  let rep := if fld (r.w 5) 15 8 = 0 then s.txn.retry.repeat_ else fld (r.w 5) 15 8
  if compat then
    let id := s.txn.nextId
    let t := txnTarget r true true lead
    let s1 := newGroup g app (some (r.origin true)) true strict t dl rep false 0 s
    let l := lanterns s g 0
    if l.isEmpty then (match s1.txn.groups.find? fun x => x.id == id with | some x => endGroup x stOk 0 s1 | none => s1)
    else l.foldl (fun s x => startTxnIn true (.member id) x.1 none false strict app t dl s) s1
  else newGroup g app (some (r.origin true)) false strict r.target dl rep false 0 s

/-- A transaction command enters issue order. -/
def issueReq (r : Req) (cyc : Nat) (compat : Bool) (lead : Nat) (s : State) : State :=
  let ep := fld (r.w 3) 17 0
  if r.opcode = 0x0601 then
    let q := bit (r.w 3) 31
    startTxnIn compat .send ep (some (r.origin true)) q (bit (r.w 3) 30) (sendOctets r) (txnTarget r (!q) compat lead)
      (txnDeadline (fld (r.w 4) 31 16) cyc s) s
  else if r.opcode = 0x0602 then
    startTxnIn compat .level ep (some (r.origin true)) false (bit (r.w 3) 31) (levelApp (fld (r.w 4) 31 16) (fld (r.w 4) 15 0))
      (txnTarget r true compat lead) (txnDeadline (fld (r.w 5) 31 16) cyc s) s
  else issueGroup r cyc compat lead s

/-- The checks that a held command meets again when its turn comes. -/
def turnCheck (compat : Bool) (r : Req) (s : State) : Option Fail :=
  if r.opcode = 0x0601 then firstFail (sendTail r s ++ [needTxns s 1])
  else if r.opcode = 0x0602 then firstFail (levelTail r s ++ [needTxns s 1])
  else firstFail (groupTail r s ++ [needTxns s (groupTxns compat r s)])

/-- E advanced, and the held command that it now names follows in turn. The fuel is the number of held commands and one. -/
def advanceSeq (p : Fin 4) : Nat → State → State
  | 0, s => s
  | n + 1, s =>
    let e := (s.txn.expect.get p + 1) % 4096
    let s1 := { s with txn := { s.txn with expect := s.txn.expect.put p e } }
    match (s1.txn.seqHeld.get p).find? fun h => h.req.seqNo == e with
    | none => s1
    | some h =>
      let s2 := { s1 with txn := { s1.txn with seqHeld := s1.txn.seqHeld.upd p fun l => l.filter fun x => x.req.id != h.req.id } }
      let s3 := match turnCheck h.compat h.req s2 with
        | some f => completeFail (h.req.origin true) f (if f.status = stFull then txnFull h.req s2 else s2)
        | none => issueReq h.req h.cyc h.compat h.lead s2
      advanceSeq p n s3

/-- A checked transaction command: ACCEPTED, and issued, or held for its sequence number (R274). -/
def takeTxn (r : Req) (s : State) : State :=
  let s1 := accept r s
  let compat := orderMode s == 1
  let lead := cycOf s + s.txn.retry.lead
  if !r.cseq then issueReq r (cycOf s) compat lead s1
  else if seqDist r s = 0 then advanceSeq r.port ((s.txn.seqHeld.get r.port).length + 1) (issueReq r (cycOf s) compat lead s1)
  else { s1 with txn := { s1.txn with seqHeld := s1.txn.seqHeld.upd r.port fun l => l ++ [⟨r, cycOf s, compat, lead⟩] } }

/-- A transaction command served: SEQ_GAP and FULL are logged. -/
def serveTxn (code : Nat) (chk : Req → State → Option Fail) (s : State) : State :=
  serve code (fun _ _ => none) (fun r s => match chk r s with
    | none => takeTxn r s
    | some f =>
      let s1 := if f.status = stSeqGap then logLimK evSeqGap 0xFF r.port.val 1 (fun n => [wd r.port.val, wd (s.txn.expect.get r.port), wd r.seqNo, wd n]) s
        else if f.status = stFull then txnFull r s else s
      failReq r f s1) s

/-- TXN.SEND (0x0601). -/
def execTxnSend (s : State) : Host.Outcome State Fault Refusal := .next (serveTxn 0x0601 chkTxnSend s)

/-- TXN.LEVEL (0x0602). -/
def execTxnLevel (s : State) : Host.Outcome State Fault Refusal := .next (serveTxn 0x0602 chkTxnLevel s)

/-- TXN.GROUP_LEVEL (0x0603). -/
def execTxnGroupLevel (s : State) : Host.Outcome State Fault Refusal := .next (serveTxn 0x0603 chkTxnGroupLevel s)

/-- SEQ_WAIT_EXPIRY (R274): a command held for `SEQ_WAIT` cycles ends with SEQ_GAP. -/
def execSeqWaitExpiry (p : Fin 4) (s : State) : Host.Outcome State Fault Refusal :=
  .next
    (match (s.txn.seqHeld.get p).find? fun h => decide (h.cyc + s.txn.seqWait ≤ cycOf s) with
     | none => s
     | some h =>
       let e := s.txn.expect.get p
       let s1 := { s with txn := { s.txn with seqHeld := s.txn.seqHeld.upd p fun l => l.filter fun x => x.req.id != h.req.id } }
       completeFail (h.req.origin true) ⟨12, stSeqGap, 0xFFFF, 0⟩
         (logLimK evSeqGap 0xFF p.val 1 (fun n => [wd p.val, wd e, wd h.req.seqNo, wd n]) s1))

/-! ### TXN.CANCEL -/

/-- A request of a port carrying a tag. -/
def orgIs (p : Fin 4) (tag : Word) (o : Option Origin) : Bool := match o with | some o => o.port == p && o.tag == tag | none => false

/-- A transaction that TXN.CANCEL names. -/
def cancelMatch (s : State) (p : Fin 4) (tag : Word) (t : Txn) : Bool :=
  orgIs p tag t.org || (match t.kind with
    | .member g => s.txn.groups.any fun x => x.id == g && orgIs p tag x.org | _ => false)

/-- One transaction cancelled: before an attempt it ends; in flight it makes no further one (R272). -/
def cancelTxn (t : Txn) (s : State) : State :=
  match t.st with
  | .sent | .await => updTxn t.id (fun t => { t with cancelled := true }) s
  | _ => finishTxn t stAbandoned 2 noRes s

/-- Checks of TXN.CANCEL. -/
def chkTxnCancel (r : Req) (s : State) : Option Fail :=
  firstFail [stdHead 0x0604 1 r s, needWorld r s 0x08]

/-- TXN.CANCEL, its checks passed. -/
def actTxnCancel (r : Req) (s : State) : State :=
  let tag := r.w 3
  let ts := s.txn.txns.filter fun t => cancelMatch s r.port tag t && !t.cancelled
  let held := (s.txn.seqHeld.get r.port).filter fun h => h.req.tag == tag
  let gs := s.txn.groups.filter fun g => !g.compat && orgIs r.port tag g.org
  let before := (ts.filter fun t => t.attempts == 0).length + held.length + (gs.filter fun g => g.sent == 0).length
  let after := (ts.filter fun t => t.attempts != 0).length + (gs.filter fun g => g.sent != 0).length
  let s1 := ts.foldl (fun s t => match txnOf s t.id with | some u => cancelTxn u s | none => s) s
  let s2 := held.foldl (fun s h => completeFail (h.req.origin true) ⟨12, stAbandoned, 0xFFFF, 2⟩ s)
    { s1 with txn := { s1.txn with seqHeld := s1.txn.seqHeld.upd r.port fun l => l.filter fun h => h.req.tag != tag } }
  let s3 := gs.foldl (fun s g => if g.sent = 0 then endGroup g stAbandoned 2 s
    else updGroup g.id (fun g => { g with repeat_ := g.sent }) s) s2
  ok r [packW [(sat 16 before, 16), (sat 16 after, 0)]] s3

/-- TXN.CANCEL (0x0604). A native group message that has sent no repetition ends; another sends no more. -/
def execTxnCancel (s : State) : Host.Outcome State Fault Refusal :=
  .next (serve 0x0604 chkTxnCancel actTxnCancel s)

/-! ### TXN.STATUS -/

/-- Transactions in a state. -/
def txnCount (s : State) (st : TxnSt) : Nat := sat 16 (s.txn.txns.filter fun t => t.st == st).length

/-- Transactions per second from a count over 1,024 cycles. -/
def txnRate (s : State) (n : Nat) : Nat := sat 16 (n * s.tt.freq / (65536 * 1024))

/-- Checks of TXN.STATUS. -/
def chkTxnStatus (r : Req) (s : State) : Option Fail :=
  firstFail [stdHead 0x0605 0 r s, needWorld r s 0x08]

/-- TXN.STATUS, its checks passed. -/
def actTxnStatus (r : Req) (old : State) : State :=
  let s := rollRates old
  let x := s.txn
  let port := fun p : Fin 4 => packW [(x.expect.get p % 4096, 20), (sat 8 (x.seqHeld.get p).length, 12),
    (sat 12 (x.txns.filter fun t => match t.org with | some o => o.port == p | none => false).length, 0)]
  let recs := fun st => wd (s.lat.recs.filter fun e => e.2.st == st).length
  ok r ([ packW [(sat 16 x.txns.length, 16), (sat 16 x.peak, 0)], packW [(txnCount s .queued, 16), (txnCount s .held, 0)],
      packW [(txnCount s .deferred, 16), (txnCount s .await, 0)], packW [(txnCount s .backoff, 16), (txnCount s .sent, 0)],
      packW [(orderMode s, 30)] ] ++ allPorts.map port ++
    [ wd x.okCnt, wd x.abandoned, wd x.otherEnd, wd x.attempts, wd x.reroutes,
      packW [(txnRate s x.modLast, 16), (txnRate s x.epLast, 0)], recs .orphan, recs .active ]) s

/-- TXN.STATUS (0x0605). -/
def execTxnStatus (s : State) : Host.Outcome State Fault Refusal :=
  .next (serve 0x0605 chkTxnStatus actTxnStatus s)

/-! ### TXN.ORDER_MODE, TXN.RETRY_POLICY -/

/-- Checks of TXN.ORDER_MODE. -/
def chkTxnOrderMode (r : Req) (s : State) : Option Fail :=
  firstFail [stdHead 0x0606 1 r s, needSecure r s 0x08, need 9 (fld (r.w 3) 31 16 != 0 && fld (r.w 3) 15 1 == 0) stBadParam 3]

/-- TXN.ORDER_MODE takes effect, for transactions taken after it (R276). -/
def applyTxnOrderMode (r : Req) (s : State) : State :=
  let m := fld (r.w 3) 0 0
  logNs evOrderMode r.port.val [r.port.val, orderMode s, m]
    (markStored 0x08 { s with txn := { s.txn with mode := some m, seqWait := fld (r.w 3) 31 16 } })

/-- TXN.ORDER_MODE (0x0606). -/
def execTxnOrderMode (s : State) : Host.Outcome State Fault Refusal := .next (serve 0x0606 chkTxnOrderMode (storeAtBoundary 0x08) s)

/-- The policy of a request. -/
def retryOf (r : Req) : RetryPolicy :=
  ⟨fld (r.w 3) 31 28, fld (r.w 3) 27 24, fld (r.w 3) 23 16, fld (r.w 3) 15 0, fld (r.w 4) 31 16, fld (r.w 4) 15 8, fld (r.w 4) 7 0⟩

/-- Words 3 and 4 of TXN.RETRY_POLICY. -/
def retryWords (p : RetryPolicy) : List Word :=
  [packW [(p.maxTries, 28), (p.rerouteAfter, 24), (p.backoff, 16), (p.deadline, 0)], packW [(p.lead, 16), (p.repeat_, 8), (p.hopBudget, 0)]]

/-- Checks of TXN.RETRY_POLICY. -/
def chkTxnRetryPolicy (r : Req) (s : State) : Option Fail :=
  let p := retryOf r
  firstFail
    [ stdHead 0x0607 2 r s, needSecure r s 0x08,
      need 9 (p.maxTries != 0 && p.rerouteAfter != 0 && p.backoff != 0 && decide (1 ≤ p.deadline) && decide (p.deadline ≤ 32767)) stBadParam 3,
      need 9 (decide (1 ≤ p.lead) && decide (p.lead ≤ 1000) && decide (1 ≤ p.repeat_) && decide (p.repeat_ ≤ 8) && decide (10 ≤ p.hopBudget) &&
        decide (p.hopBudget ≤ 250)) stBadParam 4 ]

/-- TXN.RETRY_POLICY takes effect. -/
def applyTxnRetryPolicy (r : Req) (s : State) : State :=
  logEv evRetryPolicy r.port.val (wd r.port.val :: (retryWords s.txn.retry ++ retryWords (retryOf r)))
    (markStored 0x08 { s with txn := { s.txn with retry := retryOf r } })

/-- TXN.RETRY_POLICY (0x0607). -/
def execTxnRetryPolicy (s : State) : Host.Outcome State Fault Refusal := .next (serve 0x0607 chkTxnRetryPolicy (storeAtBoundary 0x08) s)

end Sys2Proof.Machine
end

