-- ==== Sys2Proof/Machine/Sets.lean ====
section
/-!
DEFINITION. The commands that configuration sets take, the application of a set and of a stored setting change, and the settings sets
(06 R169 to R175; 03 R89; 16, "MEM.SCRUB").
-/
namespace Sys2Proof.Machine

/-! ### MEM.SCRUB's thresholds, which a set may carry -/

/-- `OP` of MEM.SCRUB. -/
def scrubOp (r : Req) : Nat := fld (r.w 3) 31 30

/-- The thresholds as a word of MEM.SCRUB holds them: `SCRUB_H`, `RETIRE_AT`, `REPAIR_AT`. -/
def scrubWord (h ret rep : Nat) : Word := packW [(h, 22), (ret, 14), (rep, 6)]

/-- The thresholds of MEM.SCRUB take effect. -/
def applyMemScrub (r : Req) (s : State) : State :=
  let m := s.mem
  let s1 := markStored 0x13 { s with mem := { m with
    scrubH := fld (r.w 3) 29 22, retireAt := fld (r.w 3) 21 14, repairAt := fld (r.w 3) 13 6 } }
  logEv evMemConfig r.port.val
    [wd r.port.val, scrubWord m.scrubH m.retireAt m.repairAt, scrubWord s1.mem.scrubH s1.mem.retireAt s1.mem.repairAt] s1

/-! ### The commands marked S -/

/-- Checks of a command marked S, by its opcode. LAT.KEY_LOAD's overlap needs an entry of its own at the application (R87). -/
def chkS (r : Req) (s : State) : Option Fail :=
  match r.opcode with
  | 0x0108 => chkSysPower r s
  | 0x0202 => chkTtConfig r s
  | 0x0223 => chkRtcTrim r s
  | 0x0302 => chkRadBandPlan r s
  | 0x0303 => chkRadFeConfig r s
  | 0x0304 => chkRadEngineConfig r s
  | 0x0402 => chkMacBeaconConfig r s
  | 0x0403 => chkMacSleepyConfig r s
  | 0x0501 => chkLatAdd r s
  | 0x0502 => chkLatRemove r s
  | 0x0504 => chkLatUpdate r s
  | 0x0506 => chkLatJoinPolicy r s
  | 0x0507 => firstFail [chkLatKeyLoad r s, need 13 (fld (r.w 4) 31 16 == 0 || tlRoom s.tl 0x07 1) stFull]
  | 0x0606 => chkTxnOrderMode r s
  | 0x0607 => chkTxnRetryPolicy r s
  | 0x0701 => chkSchGroupSet r s
  | 0x0702 => chkSchGroupMembers r s
  | 0x0704 => chkSchEntrySet r s
  | 0x0705 => chkSchEntryClear r s
  | 0x0707 => chkSchSite r s
  | 0x0708 => chkSchTzRule r s
  | 0x0709 => chkSchFallback r s
  | 0x0801 => chkChdCorridorSet r s
  | 0x0802 => chkChdCorridorClear r s
  | 0x0804 => chkChdConfig r s
  | 0x0901 => chkMtrInputConfig r s
  | 0x0902 => chkMtrFeederConfig r s
  | 0x0905 => chkMtrPulseConfig r s
  | 0x0A01 => chkSgnStringConfig r s
  | 0x0A02 => chkSgnFunction r s
  | 0x0A07 => chkSgnDerate r s
  | 0x0B01 => chkCanConfig r s
  | 0x0B02 => chkCanBufferConfig r s
  | 0x0C05 => chkLogSeverity r s
  | 0x1001 => chkIoDinConfig r s
  | 0x1004 => chkIoDoutConfig r s
  | _ => none

/-- A setting change takes effect, by its opcode: as one of a set, or at its own rank 3 entry. -/
def applyS (r : Req) (s : State) : State :=
  match r.opcode with
  | 0x0108 => applySysPower r s
  | 0x0202 => applyTtConfig r s
  | 0x0223 => applyRtcTrim r s
  | 0x0302 => applyRadBandPlan r s
  | 0x0303 => applyRadFeConfig r s
  | 0x0304 => applyRadEngineConfig r s
  | 0x0402 => applyMacBeaconConfig r s
  | 0x0403 => applyMacSleepyConfig r s
  | 0x0501 => applyLatAdd r s
  | 0x0502 => applyLatRemove r s
  | 0x0504 => applyLatUpdate r s
  | 0x0506 => applyLatJoinPolicy r s
  | 0x0507 => applyLatKeyLoad r s
  | 0x0606 => applyTxnOrderMode r s
  | 0x0607 => applyTxnRetryPolicy r s
  | 0x0701 => applySchGroupSet r s
  | 0x0702 => applySchGroupMembers r s
  | 0x0704 => applySchEntrySet r s
  | 0x0705 => applySchEntryClear r s
  | 0x0707 => applySchSite r s
  | 0x0708 => applySchTzRule r s
  | 0x0709 => applySchFallback r s
  | 0x0801 => applyChdCorridorSet r s
  | 0x0802 => applyChdCorridorClear r s
  | 0x0804 => applyChdConfig r s
  | 0x0901 => applyMtrInputConfig r s
  | 0x0902 => applyMtrFeederConfig r s
  | 0x0905 => applyMtrPulseConfig r s
  | 0x0A01 => applySgnStringConfig r s
  | 0x0A02 => applySgnFunction r s
  | 0x0A07 => applySgnDerate r s
  | 0x0B01 => applyCanConfig r s
  | 0x0B02 => applyCanBufferConfig r s
  | 0x0C05 => applyLogSeverity r s
  | 0x0E05 => applyMemScrub r s
  | 0x1001 => applyIoDinConfig r s
  | 0x1004 => applyIoDoutConfig r s
  | _ => s

/-- A command that completes with a durable write to the LATTICE partition (R285). -/
def durableOp (code : Nat) : Bool := [0x0501, 0x0502, 0x0504, 0x0507, 0x0702].contains code

/-! ### Application of a set (R172, R173) -/

/-- The commands of a set in staged order, each checked in steps 6 to 13 against the state the ones before it leave: the state after
all, or the number of the first failing command, counted from 1, and its failure. -/
def runSet (media : Bool) : List Req → Nat → State → Except (Nat × Fail) State
  | [], _, s => .ok s
  | r :: t, k, s =>
    match chkS { r with again := true } s with
    | some f => .error (k, f)
    | none =>
      if !media && durableOp r.opcode then .error (k, ⟨13, stMedia, 0xFFFF, 0⟩)
      else runSet media t (k + 1) (applyS r s)

/-- The rank 3 entry of a set, named by the number of its SYS.CFG_COMMIT: all of it takes effect, or nothing. -/
def applySet (media : Bool) (p : Fin 4) (commit : Nat) (s : State) : State :=
  match (s.ports.get p).accepted.find? fun a => a.origin.id == commit with
  | none => s
  | some a =>
    let drop := fun s => onPort p (fun q => { q with accepted := q.accepted.filter fun x => x.origin.id != commit }) s
    match runSet media a.staged 1 s with
    | .ok s1 =>
      let n := a.staged.length
      complete a.origin stOk (setWords n 0xFFFF (cycOf s) 0) (logNs evCfgCommit p.val [p.val, a.id, stOk, n] (drop s1))
    | .error (k, f) =>
      complete a.origin f.status (setWords 0 k 0 (detail f)) (logNs evCfgCommit p.val [p.val, a.id, f.status, 0] (drop s))

/-- CFG_SET_APPLY: the entry of an accepted set fires; `media` is false where the LATTICE partition cannot take the write of a
command in it (R285). -/
def execCfgSetApply (media : Bool) (s : State) : Host.Outcome State Fault Refusal :=
  .next (tlFire (fun k _ => match k with | .cfgSet p c => some (applySet media p c) | _ => none) s)

/-! ### Settings sets (R175) -/

/-- The configuration of a pulse output, without its run state. -/
def pulseCfg (p : PulseOut) : PulseOut := { p with acc := 0, owed := 0, w := p.width * 40000, highTo := 0, lowTo := 0 }

/-- A CAN buffer's configuration, without frames. -/
def bufCfg (x : CanBuf) : CanBuf := { x with frame := none, locked := false, dropped := 0, tx := none }

/-- The contents of every settings set of the active bank. -/
def settingsOf (s : State) : Settings :=
  { tt := s.tt.cfgNext.getD s.tt.cfg, plan := s.rad.stored, fe0 := s.rad.fe0.cfg, fe1 := s.rad.fe1.cfg
    ces := s.rad.ces.map fun e => match e.next with | some c => some c | none => e.cfg
    bcns := s.mac.engs.map fun m => m.bcn, slps := s.mac.engs.map fun m => m.slp
    txnMode := s.txn.mode, seqWait := s.txn.seqWait, retry := s.txn.retry
    groups := s.sch.groups, entries := s.sch.entries, site := s.sch.site, tz := s.sch.tz, fallback := s.sch.fallback
    corridors := s.chd.corridors, chdEvery := s.chd.every, chdLead := s.chd.lead, chdFwd := s.chd.fwd, chdOn := s.chd.on
    mtrInputs := s.mtr.inputs, mtrClocks := s.mtr.clocks, mtrGlobal := s.mtr.global
    feeders := s.mtr.feeders.map fun x => (x.cfg, x.coef), pulses := s.mtr.pulses.map pulseCfg
    strings := s.sgn.strings, sinks := s.sgn.sinks, matrix := s.sgn.matrix, sensor := s.sgn.sensor, target := s.sgn.target
    fns := s.sgn.fns, derate := s.sgn.ntc.map fun t => t.cfg
    can := s.can.map fun c => (c.cfg, c.bufs.map bufCfg)
    din := s.io.din.map fun d => d.cfg, dout := s.io.dout.map fun d => (d.safe, d.autoSafe)
    sevOver := s.log.sevOver, minSev := s.log.minSev, scrubH := s.mem.scrubH, retireAt := s.mem.retireAt, repairAt := s.mem.repairAt
    pfw := s.pwr.pfwStored, wd := s.wd.map fun w => w.timeout }

/-- One set's contents taken from `c`, the others from `d`. -/
def mixSet (id : Nat) (c d : Settings) : Settings :=
  match id with
  | 0x01 => { d with tt := c.tt }
  | 0x04 => { d with plan := c.plan, fe0 := c.fe0 }
  | 0x05 => { d with fe1 := c.fe1 }
  | 0x06 => { d with ces := c.ces, bcns := c.bcns, slps := c.slps }
  | 0x08 => { d with txnMode := c.txnMode, seqWait := c.seqWait, retry := c.retry }
  | 0x09 => { d with groups := c.groups, entries := c.entries, site := c.site, tz := c.tz, fallback := c.fallback }
  | 0x0A => { d with corridors := c.corridors, chdEvery := c.chdEvery, chdLead := c.chdLead, chdFwd := c.chdFwd, chdOn := c.chdOn }
  | 0x0B => { d with
      mtrInputs := c.mtrInputs, mtrClocks := c.mtrClocks, mtrGlobal := c.mtrGlobal, feeders := c.feeders, pulses := c.pulses }
  | 0x0C => { d with
      strings := c.strings, sinks := c.sinks, matrix := c.matrix, sensor := c.sensor, target := c.target, fns := c.fns
      derate := c.derate }
  | 0x0D => { d with can := updAt d.can 0 fun x => c.can.getD 0 x }
  | 0x0E => { d with can := updAt d.can 1 fun x => c.can.getD 1 x }
  | 0x0F => { d with din := c.din, dout := c.dout }
  | 0x10 => { d with sevOver := c.sevOver, minSev := c.minSev }
  | 0x13 => { d with scrubH := c.scrubH, retireAt := c.retireAt, repairAt := c.repairAt }
  | 0xFF => { d with pfw := c.pfw, wd := c.wd }
  | _ => d

/-- Every set ID: those of the blocks, and 0xFF. -/
def allSets : List Nat := (List.range 20).map (· + 1) ++ [0xFF]

/-- Both lists' entries in step. -/
def zipUpd {α β : Type} (f : α → β → α) : List α → List β → List α
  | x :: xs, y :: ys => f x y :: zipUpd f xs ys
  | xs, _ => xs

/-- Every set's contents put in place while no unit runs (BOOT step 6): the units begin from them. -/
def putSettings (c : Settings) (s : State) : State :=
  { s with
    tt := { s.tt with cfg := c.tt, cfgNext := none }
    rad := { s.rad with
      stored := c.plan, fe0 := { s.rad.fe0 with cfg := c.fe0 }, fe1 := { s.rad.fe1 with cfg := c.fe1 }
      ces := zipUpd (fun e x => { e with cfg := x, next := none }) s.rad.ces c.ces }
    mac := { s.mac with engs := zipUpd (fun m x => { m with slp := x }) (zipUpd (fun m x => { m with bcn := x }) s.mac.engs c.bcns) c.slps }
    txn := { s.txn with mode := c.txnMode, seqWait := c.seqWait, retry := c.retry }
    sch := { s.sch with groups := c.groups, entries := c.entries, site := c.site, tz := c.tz, fallback := c.fallback }
    chd := { s.chd with corridors := c.corridors, every := c.chdEvery, lead := c.chdLead, fwd := c.chdFwd, on := c.chdOn }
    mtr := { s.mtr with
      inputs := c.mtrInputs, clocks := c.mtrClocks, global := c.mtrGlobal, pulses := c.pulses
      feeders := zipUpd (fun x y => { x with cfg := y.1, coef := y.2 }) s.mtr.feeders c.feeders }
    sgn := { s.sgn with
      strings := c.strings, sinks := c.sinks, matrix := c.matrix, sensor := c.sensor, target := c.target, fns := c.fns
      ntc := zipUpd (fun t x => { t with cfg := x }) s.sgn.ntc c.derate }
    can := zipUpd (fun p x => { p with cfg := x.1, bufs := x.2 }) s.can c.can
    io := { s.io with
      din := zipUpd (fun d x => { d with cfg := x }) s.io.din c.din
      dout := zipUpd (fun d x => { d with safe := x.1, autoSafe := x.2 }) s.io.dout c.dout }
    log := { s.log with sevOver := c.sevOver, minSev := c.minSev }
    mem := { s.mem with scrubH := c.scrubH, retireAt := c.retireAt, repairAt := c.repairAt }
    pwr := { s.pwr with pfwStored := c.pfw }
    wd := ⟨{ s.wd.h0 with timeout := c.wd.h0 }, { s.wd.h1 with timeout := c.wd.h1 }, { s.wd.h2 with timeout := c.wd.h2 },
      { s.wd.h3 with timeout := c.wd.h3 }⟩ }

/-! ### A set that changes while its unit runs -/

/-- Set 0x04's band plan: as RAD.BAND_PLAN, without its record. -/
def livePlan (p : Option BandPlan) (s : State) : State := if p = s.rad.stored then s else enterAll (purgeDisabled s (storePlan p s))

/-- A front end's configuration: the retune follows when the last carrier ends (R185). -/
def liveFe (k : Nat) (c : Option FeCfg) (s : State) : State :=
  fixGain k (c.getD (feDefault k (planCode (planOf s)))) (updFe k (fun f => { f with cfg := c, gainPend := none }) s)

/-- An engine's configuration, and its MAC's, as their commands change them. -/
def liveCe (c : Settings) (s : State) (n : Nat) : State :=
  let x := c.ces.getD n none
  let s1 := applyCe n (x.getD (ceDefault n (planCode (planOf s)))) s
  let s2 := if (ceOf s1 n).st == .transmit then s1 else updCe n (fun e => { e with cfg := x }) s1
  restartMac n true (updMd n (fun m => { m with bcn := c.bcns.getD n none, slp := c.slps.getD n none }) s2)

/-- Set 0x0A: the corridors that change are retired (R320, R325). -/
def liveChord (c : Settings) (s : State) : State :=
  let old := s.chd.corridors
  let s1 := { s with chd := { s.chd with
    corridors := c.corridors, every := c.chdEvery, lead := c.chdLead, fwd := c.chdFwd, on := c.chdOn } }
  evalAuto 0 (old.foldl (fun s x => if tget c.corridors x.1 = some x.2 then s else retire x.1 x.2 s) s1)

/-- Set 0x0B: calibrations are abandoned, and open intervals close with `CONFIG`. -/
def liveMeter (c : Settings) (s : State) : State :=
  let s1 := (List.range 4).foldl (fun s f => abandonCal f s) s
  let was := fun f => (feeder s f).cfg.enable
  let s2 := { s1 with mtr := { s1.mtr with
    inputs := c.mtrInputs, clocks := c.mtrClocks, global := c.mtrGlobal, pulses := c.pulses
    feeders := zipUpd (fun x y => { x with cfg := y.1, coef := y.2 }) s1.mtr.feeders c.feeders } }
  (List.range 4).foldl (fun s f =>
    if was f then onFeeder f (fun x => { x with closeFlags := x.closeFlags ||| qConfig ||| qShort }) s
    else if (feeder s f).cfg.enable && s.mtr.cyc.isSome then openInterval f qShort s else s) s2

/-- Set 0x0C: the outputs follow at once; the failure record stays (R363). -/
def liveSign (c : Settings) (s : State) : State :=
  let g := s.sgn
  let g1 := { g with
    strings := c.strings, sinks := c.sinks, matrix := c.matrix, sensor := c.sensor, target := c.target, fns := c.fns
    ntc := zipUpd (fun t x => { t with cfg := x }) g.ntc c.derate
    ready := g.ready && c.matrix.len == g.matrix.len, loading := g.loading && c.matrix.len == g.matrix.len }
  recompute { s with sgn := g1 }

/-- Sets 0x0D and 0x0E: pending frames end ABANDONED. -/
def liveCan (p : Nat) (c : Settings) (s : State) : State :=
  let x := c.can.getD p (initCanCfg, [])
  let s1 := endAllFrames p stAbandoned s
  onCan p (fun q => { q with
    cfg := x.1, bufs := x.2, detect := CanDetect.start s.clk.ticks
    bus := if x.1.opmode == 0 then .on else q.bus, tec := if x.1.opmode == 0 then 0 else q.tec
    rec_ := if x.1.opmode == 0 then 0 else q.rec_, ackRun := 0, lone := q.lone && x.1.opmode != 0 }) s1

/-- Set 0x0F: every input's next level is a first one. -/
def liveIo (c : Settings) (s : State) : State :=
  { s with io := { s.io with
    din := zipUpd (fun d x => { d with cfg := x, chatK := cycOf s / Nat.max x.chatWin 1, run := 0, valid := false, level := false, stuck := false, raw := false })
      s.io.din c.din
    dout := zipUpd (fun d x => { d with safe := x.1, autoSafe := x.2 }) s.io.dout c.dout } }

/-- One set's contents take effect while the module runs (SYS.SETTINGS_RESET; R482). The watchdog timeouts of set 0xFF hold from the
next restarts, and `PFW_THRESHOLD` by the rule of R45. -/
def liveSet (id : Nat) (c : Settings) (s : State) : State :=
  match id with
  | 0x01 => applyTtCfg c.tt (tlCancel (fun k => match k with | .ttConfig => true | _ => false) s)
  | 0x04 => liveFe 0 c.fe0 (livePlan c.plan s)
  | 0x05 => liveFe 1 c.fe1 s
  | 0x06 => (List.range (engineCount s.dev.variant)).foldl (liveCe c) s
  | 0x08 => { s with txn := { s.txn with mode := c.txnMode, seqWait := c.seqWait, retry := c.retry } }
  | 0x09 => evalAuto 0 { s with sch := { s.sch with
      groups := c.groups, entries := c.entries, site := c.site, tz := c.tz, fallback := c.fallback, resync := true } }
  | 0x0A => liveChord c s
  | 0x0B => liveMeter c s
  | 0x0C => liveSign c s
  | 0x0D => liveCan 0 c s
  | 0x0E => liveCan 1 c s
  | 0x0F => liveIo c s
  | 0x10 => { s with log := { s.log with sevOver := c.sevOver, minSev := c.minSev } }
  | 0x13 => { s with mem := { s.mem with scrubH := c.scrubH, retireAt := c.retireAt, repairAt := c.repairAt } }
  | 0xFF => followThreshold s { s with
      pwr := { s.pwr with pfwStored := c.pfw }
      wd := ⟨{ s.wd.h0 with timeout := c.wd.h0 }, { s.wd.h1 with timeout := c.wd.h1 }, { s.wd.h2 with timeout := c.wd.h2 },
        { s.wd.h3 with timeout := c.wd.h3 }⟩ }
  | _ => s

/-- A set's state in SYS.SETTINGS. -/
def markSet (id v : Nat) (s : State) : State := { s with cmd := { s.cmd with setState := tset s.cmd.setState id v } }

/-- A set returns to its defaults by command: cause 1 of EV_SETTINGS_RESET. -/
def resetSet (id : Nat) (s : State) : State :=
  let v := schemaOf s.upd.active id
  logEv evSettingsReset 0xFF [wd id, wd v, wd v, wd 1] (markSet id 3 (liveSet id initSettings s))

/-- Checks of SYS.SETTINGS_RESET. -/
def chkSysSettingsReset (r : Req) (s : State) : Option Fail :=
  let id := fld (r.w 3) 7 0
  firstFail
    [ (match opRow 0x010D with | some row => headChecks r row (s.pwr.mode == .commission) (r.len == 1) s | none => none), 
      need 6 (blockPresent s.dev.variant id || !(decide (1 ≤ id) && decide (id ≤ 0x14))) stAbsent 3 (id * 256 + 0xFF),
      needSecure r s 0,
      need 9 (fld (r.w 3) 31 8 == 0 && ((decide (1 ≤ id) && decide (id ≤ 0x10)) || id == 0x13 || id == 0x14 || id == 0xFF)) stBadParam 3 ]

/-- SYS.SETTINGS_RESET, its checks passed. -/
def actSysSettingsReset (r : Req) (s : State) : State :=
  let id := fld (r.w 3) 7 0
  let b := if id = 0xFF then 3 else id
  match tlPost (nextBoundary s) 3 b (.settingsReset id) s with
  | some s1 => ok r [] s1
  | none => failReq r ⟨13, stFull, 0xFFFF, 0⟩ (tlFull b 2 s)

/-- SYS.SETTINGS_RESET (0x010D). -/
def execSysSettingsReset (s : State) : Host.Outcome State Fault Refusal :=
  .next (serve 0x010D chkSysSettingsReset actSysSettingsReset s)

/-- CONFIG_ENTRY_APPLY (R89): the rank 3 entry of a stored setting change, or of a reset of a settings set, fires. -/
def execConfigEntryApply (s : State) : Host.Outcome State Fault Refusal :=
  .next (tlFire (fun k _ => match k with
    | .config r => some (applyS r)
    | .settingsReset id => some (resetSet id)
    | _ => none) s)

end Sys2Proof.Machine
end

