-- ==== Sys2Proof/Machine/Reset.lean ====
section
/-!
DEFINITION. The entry to BOOT by a reset: what every unit keeps, and what is lost and logged (02 R54 to R58; 16 R445, R454, R460; 17 R486,
R493).
-/
namespace Sys2Proof.Machine

/-- The module has its rails and is out of KEEP and SHELF. -/
def alive (s : State) : Bool := !(s.pwr.bootStep == .off)

/-- Aedica runs: from step 6 of BOOT, and not while BOOT is halted. -/
def fwRuns (s : State) : Bool :=
  match s.pwr.bootStep with | .restore => true | .finish => true | .done => true | _ => false

/-- Stored setting changes that waited for their boundary take effect at the reset: they stand in the settings sets (R175). -/
def applyStored (s : State) : State :=
  if !served s then s
  else
    let due := (s.tl.entries.filter fun e => match e.kind with | .config _ => true | .settingsReset _ => true | _ => false).foldr
      (fun e l => insertDue (e.target, e.seq, e.seq) l) []
    due.foldl (fun s d =>
      match s.tl.entries.find? fun e => e.seq == d.2.2 with
      | none => s
      | some e => match e.kind with
        | .config r => applyS r (tlRemove e.seq s)
        | .settingsReset id => resetSet id (tlRemove e.seq s)
        | _ => s) s

/-- Records that a loss of DRAM loses: those in staging and in the open page, and events stamped and not yet numbered. -/
def unwritten (lg : Recorder) : Nat :=
  lg.staged.length + lg.page.length + (lg.deferred.filter fun d => d.stamp.isSome).length

/-- The recorder stops. Without DRAM, what was not yet appended is lost. -/
def Recorder.stop (keep : Bool) (lg : Recorder) : Recorder :=
  { lg with
    staging := false, started := false, freeze := Quad.all none, limits := [], appendBlocked := false, stagePeak := 0
    dropSince := List.replicate 8 0, ovfSince := List.replicate 8 0
    staged := if keep then lg.staged else [], page := if keep then lg.page else []
    deferred := if keep then lg.deferred else lg.deferred.filter fun d => d.stamp.isNone }

/-- Every set discarded by a reset: no completion, one record each (R174). -/
def dropAllSets (s : State) : State := allPorts.foldl (fun s p => dropSets p 2 s) s

/-- Withdrawals that a reset ends (R493): cause 2 of EV_BLOCK_RESTORED. A sweep's has no record of its own. -/
def endWithdrawals (s : State) : State :=
  s.bal.withdrawals.foldl (fun s w =>
    if w.active && !w.sweep then
      logEv evBlockRestored w.port.val
        [wd 2, wd w.port.val, wd (w.block + 128 * b2n (w.half == 2)), wd ((s.clk.ticks - w.since) / 40000000)] s
    else s) s

/-- The update session after a reset (R486). -/
def Session.afterReset (x : Session) : Session :=
  let y := { x with verify := none, media := false }
  match x.st with
  | .loading => { y with st := .failed }
  | .loaded => { y with verified := 0 }
  | .verifying => { y with st := .loaded, verified := 0 }
  | .verified => { y with st := .loaded, verified := 0 }
  | .preparing => { y with st := .loaded, verified := 0 }
  | .handover => { y with st := .loaded, verified := 0 }
  | _ => y

/-- Bridle after a reset: a window and an activation are gone (R486). -/
def Upd.afterReset (u : Upd) : Upd :=
  { u with
    windowOpen := false, session := u.session.afterReset, act := none, late := 0
    lastOutcome := if (match u.session.st with | .preparing => true | .handover => true | _ => false) then 4 else u.lastOutcome }

/-- One memory after a reset: its counters and its table are cleared (R445). -/
def MemState.afterReset (m : MemState) : MemState := { m with ce := 0, ue := 0, table := [], ovf := false }

/-- Memory integrity after a reset: a flip is disarmed (R454), the patrol starts anew (R459), and a redirection whose entry could not be
written is lost (R460). -/
def MemInt.afterReset (m : MemInt) : MemInt :=
  { m with
    mems := m.mems.map MemState.afterReset, high := false, highSince := 0, passAt := 0, passErrs := 0, passes := 0, passCyc := 0, flip := none
    flipMask := 0, flipResult := 0, flips := 0, testCe := 0, testUe := 0, retired := m.retired.filter fun x => x.stored, runs := []
    bchMax := 0 }

/-- A slot after a reset: the request of a pending commit gets no completion (R58, R426). -/
def KeySlot.afterReset (x : KeySlot) : KeySlot := { x with pend := x.pend.map fun p => { p with org := none } }

/-- An engine after a reset: its configuration. -/
def Engine.afterReset (e : Engine) : Engine :=
  { Engine.empty with cfg := match e.next with | some c => some c | none => e.cfg }

/-- A front end after a reset: its configuration, the tables of its last successful sweep and what RAD.CAL_STATUS tells of its sweeps
(R213). DEDUCED (log entry 51, on the sweep tables). -/
def FrontEnd.afterReset (f : FrontEnd) : FrontEnd :=
  { initFe with
    cfg := f.cfg, swept := f.swept, sweepSec := f.sweepSec, sweepRes := f.sweepRes, sweeps := f.sweeps
    iqAmp := f.swept.1, iqPhase := f.swept.2.1, dcI := f.swept.2.2.1, dcQ := f.swept.2.2.2 }

/-- The MAC of an engine after a reset: its configurations. -/
def MacEng.afterReset (m : MacEng) : MacEng := { initMacEng with bcn := m.bcn, slp := m.slp }

/-- Lattice after a reset: what was under way is gone; records and counters are settled at BOOT step 7 (R287). Without DRAM the image
cache is empty. -/
def latReset (cold : Bool) (s : State) : Lattice :=
  let l := s.lat
  let mine := (s.txn.txns.filter fun t => !t.query).map fun t => t.ep
  { l with
    sends := [], ckpt := none, images := if cold then [] else l.images
    unsettled := l.unsettled ++ (mine.filter fun e => !l.unsettled.contains e) }

/-- The units' volatile parts taken anew, the stored ones kept. -/
def clearUnits (cold : Bool) (s : State) : State :=
  { s with
    rtc := (dropStaged s).rtc
    clk := { s.clk with ttAcc := 0 }
    wd := s.wd.map fun w => { w with running := false, expired := false }
    tt := { initTether with
      cfg := s.tt.cfgNext.getD s.tt.cfg, reserve := { s.tt.reserve with pend := none, logged := 0, lost := false } }
    tl := initTimeline
    alarms := initAlarms
    shadow := Quad.all initShadow
    ports := Quad.all initPort
    cmd := { initCmd with setState := s.cmd.setState }
    rad := { initRadio with
      stored := s.rad.stored, fe0 := s.rad.fe0.afterReset, fe1 := s.rad.fe1.afterReset, ces := s.rad.ces.map Engine.afterReset }
    mac := { initMac with engs := s.mac.engs.map MacEng.afterReset, grpIn := s.mac.grpIn, grpOut := s.mac.grpOut }
    lat := latReset cold s
    txn := { initTxn with mode := s.txn.mode, seqWait := s.txn.seqWait, retry := s.txn.retry }
    sch := { initSched with
      groups := s.sch.groups, entries := s.sch.entries.map fun x => (x.1, { x.2 with gateOpen := true }), site := s.sch.site
      tz := s.sch.tz, fallback := s.sch.fallback }
    chd := { initChord with
      corridors := s.chd.corridors, every := s.chd.every, lead := s.chd.lead, fwd := s.chd.fwd, on := s.chd.on }
    mtr := s.mtr.afterReset
    sgn := s.sgn.afterReset
    io := s.io.afterReset
    can := s.can.map CanPort.afterReset
    key := { s.key with gens := [], slots := s.key.slots.map fun x => (x.1, x.2.afterReset) }
    mem := s.mem.afterReset
    upd := s.upd.afterReset
    bal := { initBallast with matrixVer := s.bal.matrixVer, matrix := s.bal.matrix } }

/-- What a reset ends and logs before the units are cleared. -/
def closeUnits (s : State) : State :=
  let s1 := endWithdrawals (dropAllSets s)
  if s.upd.windowOpen && (match s.upd.session.st with | .handover => true | _ => false) then
    logEv evUpdActivate 0xFF [wd 4, wd s.upd.openCyc, wd (cycOf s), wd s.upd.bank] s1
  else s1

/-- EV_FLUSH_INCOMPLETE (R50, R57): the last step completed, and the records lost; whether their number is known is a free value. -/
def flushIncomplete (step lost : Nat) (s : State) : State :=
  let (k, s0) := freshNat s
  let s1 := logNs evFlushIncomplete 0xFF [step, if k % 2 = 0 then lost else 2 ^ 32 - 1] s0
  { s1 with pwr := { s1.pwr with bootFlags := setBit s1.pwr.bootFlags 1 true } }

/-- The units stop: sets, withdrawals and windows end, and what is volatile is gone. The records of this wait for the next staging. -/
def haltUnits (cold : Bool) (s : State) : State :=
  let s1 := applyStored s
  clearUnits cold (closeUnits { s1 with log := s1.log.stop (!cold) })

/-- The cause of the change of mode that a reset makes (R65): out of a HANDOVER window, or of a rollback window; PFW cleared; any other.
DESIGN CHOICE (log entry 14, on the power-fail state): where a window is open and PFW set, the window's code stands. -/
def resetCause (s : State) : Nat :=
  if s.upd.windowOpen then (match s.upd.act with | some a => if a.rollback then evUpdRollback else evUpdActivate | none => evUpdActivate)
  else if s.pwr.flush.pfw then evPfw else 0

/-- The entry to BOOT (R55): `next` is the step that comes first, `keepPu` tells that the reset interrupts a power-up's BOOT and its cause
and flags stand (R56). DRAM is sealed at a warm reset once step 7 has restored it; before that an earlier seal stands (R57). The cause is
logged by the caller, which knows when the BOOT starts. DESIGN CHOICE (log entry 14, on the power-fail state): the spec does not say what a
reset during the flush or during the wait after its step 7 does (R49 names abort, brown-out and loss): here the reset ends the power-fail
state, the `PFW` flag clears, and no EV_PFW is logged. -/
def enterReset (cold : Bool) (cause : Nat) (next : BootStep) (keepPu : Bool) (s : State) : State :=
  let lost := unwritten s.log
  let s1 := haltUnits cold s
  let sealed := !cold && (s.pwr.sealed || s.pwr.bootStep == .finish || served s)
  let pwr := { s1.pwr with
    bootStep := next, mode := .boot, flush := initFlush, pfwOkSince := none, cause := cause
    puCause := if keepPu then s1.pwr.puCause else none, bootFlags := if keepPu then s1.pwr.bootFlags else 0
    sealed := sealed, autonomous := false, bootHalt := false, resetAt := none }
  let s2 := reportMode s.pwr.mode (flagsByte s) (resetCause s) { s1 with pwr := pwr }
  if cold && (fwRuns s || s.pwr.sealed) then flushIncomplete 0 lost s2 else s2

/-- A reset from within, with the rails up (R55): EV_RESET is logged at the start of its BOOT. -/
def internalReset (cold : Bool) (cause : Nat) (s : State) : State :=
  if alive s && !(s.pwr.bootStep == .inReset) then logNs evReset 0xFF [cause] (enterReset cold cause .phase false s) else s

end Sys2Proof.Machine
end

