-- ==== Sys2Proof/Machine/Memory.lean ====
section
/-!
DEFINITION. Memory integrity: what the checkers find and what follows from it, the checker test, page retirement, and the restoring of
a Lattice record (16 R442 to R461, 09 R287).
-/
namespace Sys2Proof.Machine

/-! ### The memories (R442, R443) -/

/-- A memory is present in the variant. -/
def memPresent (v : Variant) (m : Nat) : Bool :=
  decide (m < 16) &&
    (if m = 6 then engineCount v == 64 else if m = 9 then blockPresent v 0x0B else if m = 0x0A then blockPresent v 0x0C
     else if m = 0x0C then blockPresent v 0x0E else true)

/-- Bits of a codeword. -/
def codeBits (m : Nat) : Nat := if m < 0x0D then 72 else 39

/-- The block, and its half, of a memory whose repair takes effect while that block is withdrawn (R442). -/
def memBlock (m : Nat) : Option (Nat × Nat) :=
  match m with
  | 0x05 => some (0x06, 1) | 0x06 => some (0x06, 2) | 0x07 => some (0x04, 0) | 0x08 => some (0x05, 0) | 0x09 => some (0x0B, 0)
  | 0x0A => some (0x0C, 0) | 0x0B => some (0x0D, 0) | 0x0C => some (0x0E, 0) | _ => none

/-- The block of a memory is withdrawn. -/
def memWithdrawn (s : State) (m : Nat) : Bool :=
  match memBlock m with
  | some (b, h) => s.bal.withdrawals.any fun w => w.active && w.block == b && (h == 0 || w.half == h)
  | none => false

/-- One memory. -/
def memOf (s : State) (m : Nat) : MemState := s.mem.mems.getD m default
/-- One memory changed. -/
def onMem (m : Nat) (f : MemState → MemState) (s : State) : State := { s with mem := { s.mem with mems := updAt s.mem.mems m f } }

/-- The 4 KiB page of a DRAM word address. -/
def dramPage (addr : Nat) : Nat := addr / 512

/-! ### The address table (R445, R446) -/

/-- An entry after a detection. -/
def MemEntry.hit (bit cyc : Nat) (ue : Bool) (e : MemEntry) : MemEntry :=
  { e with bit := bit, count := sat 16 (e.count + 1), last := cyc, ue := e.ue || ue }

/-- An entry that may be replaced: no candidate, no uncorrectable error. -/
def MemEntry.free (e : MemEntry) : Bool := !e.cand && !e.ue

/-- The entry that a new address replaces: the lowest count, the oldest last detection among equals. -/
def victim (l : List MemEntry) : Option MemEntry :=
  (l.filter MemEntry.free).foldl (fun m e => match m with
    | none => some e
    | some x => if e.count < x.count ∨ (e.count = x.count ∧ e.last < x.last) then some e else some x) none

/-- A detection entered in the table. -/
def MemState.enter (addr bit cyc : Nat) (ue : Bool) (m : MemState) : MemState :=
  let new : MemEntry := ⟨addr, bit, 1, cyc, cyc, false, ue⟩
  if m.table.any fun e => e.addr == addr then
    { m with table := m.table.map fun e => if e.addr = addr then e.hit bit cyc ue else e }
  else if m.table.length < 16 then { m with table := m.table ++ [new] }
  else match victim m.table with
    | some v => { m with table := m.table.map fun e => if e.addr = v.addr then new else e }
    | none => { m with ovf := true }

/-- The entry of an address. -/
def MemState.entry (m : MemState) (addr : Nat) : Option MemEntry := m.table.find? fun e => e.addr == addr

/-! ### Notification, retirement (R460, R461, R466) -/

/-- MEM_FAULT: kind 0 uncorrectable handled, 1 repair candidate, 2 page retired, 3 retirement list full. -/
def memFault (mem kind region addr : Nat) (s : State) : State :=
  ntfOrHold ⟨15, 0x0E01, 0x13, [packW [(mem, 28), (kind, 26), (region, 21)], wd addr], none, cycOf s⟩ s

/-- A DRAM page is retired, cause 0 uncorrectable, 1 `RETIRE_AT`, 2 command; `f0` and `f1` sectors fail as the list is written. Answers
whether both NOR devices hold the entry. -/
def retirePage (cause region addr f0 f1 : Nat) (s : State) : State × Bool :=
  let p := dramPage addr
  if s.mem.retired.any fun r => r.page == p then (s, true)
  else if 128 ≤ s.mem.retired.length then
    (if s.mem.fullLogged then s
     else memFault 0 3 region addr (logEv evDramRetireFull 0xFF [] { s with mem := { s.mem with fullLogged := true } }), false)
  else
    let (s1, good) := norWrite 3 f0 f1 s
    let s2 := { s1 with mem := { s1.mem with retired := s1.mem.retired ++ [⟨p, cause, good⟩] } }
    (memFault 0 2 region addr (logNs evDramRetired 0xFF [p, cause, s2.mem.retired.length] s2), good)

/-! ### Detections entered (R445 to R447) -/

/-- An entry that has become a repair candidate is logged and notified (R447). -/
def noteDue (mem region addr : Nat) (s : State) : State :=
  match (memOf s mem).entry addr with
  | none => s
  | some e =>
    if mem ≠ 0 ∧ !e.cand ∧ (e.ue ∨ s.mem.repairAt ≤ e.count) then
      memFault mem 1 region addr (logNs evMemRepairDue 0xFF [mem, addr, e.count]
        (onMem mem (fun m => { m with table := m.table.map fun x => if x.addr = addr then { x with cand := true } else x }) s))
    else s

/-- A correctable error counted, entered and logged. -/
def noteCe (mem region addr bit : Nat) (s : State) : State :=
  let s1 := onMem mem (fun m => MemState.enter addr bit (cycOf s) false { m with ce := inc32 m.ce }) s
  noteDue mem region addr (logLimK evMemCe mem 0xFF 1 (fun n => [wd mem, wd addr, wd bit, wd n]) s1)

/-- An uncorrectable error counted and entered. -/
def noteUe (mem region addr : Nat) (s : State) : State :=
  noteDue mem region addr (onMem mem (fun m => MemState.enter addr 0xFF (cycOf s) true { m with ue := inc32 m.ue }) s)

/-! ### Lattice records read anew (R287, R450, R464) -/

/-- The greatest counter that the journal holds for an endpoint's key. -/
def journalIn (l : List (Nat × Nat × Nat)) (ep key : Nat) : Nat :=
  l.foldl (fun m e => if e.1 = ep ∧ e.2.1 = key then Nat.max m e.2.2 else m) 0

/-- A record as the LATTICE partition gives it, with its volatile fields set as R287 sets them: each `IN` the larger of snapshot and
journal, `OUT_CTR` the ceiling, `LEVEL` unknown where a control transaction was not settled. -/
def restoredRec (s : State) (unsettled : Bool) (ep : Nat) (r : EpRec) : EpRec :=
  let c := s.lat.ctr
  let l := c.pages.flatten ++ c.openPage
  let sn := (tget c.snapshot ep).getD (0, 0)
  { r with
    inCur := Nat.max sn.1 (journalIn l ep 0), inPrev := Nat.max sn.2 (journalIn l ep 1), outCtr := ceilingOf s ep
    level := if unsettled then 0xFFFF else r.level }

/-- A new ceiling written for an endpoint (R260, R287). -/
def raiseCeiling (ep : Nat) (s : State) : State :=
  { s with lat := { s.lat with ctr := { s.lat.ctr with ceilings := tset s.lat.ctr.ceilings ep (ceilingOf s ep + 4096) } } }

/-- A control transaction to an endpoint is under way. -/
def hasControl (s : State) (ep : Nat) : Bool := s.txn.txns.any fun t => t.ep == ep && !t.query

/-- A record reloaded from the LATTICE partition. -/
def reloadRec (ep : Nat) (s : State) : State :=
  match tget s.lat.nand ep with
  | none => s
  | some r => raiseCeiling ep (updEp ep (fun _ => restoredRec s (hasControl s ep) ep r) s)

/-- A record lost with its page (R464): its transactions end ABANDONED, cause 3, as of an endpoint that is removed. -/
def loseRec (ep : Nat) (s : State) : State :=
  let mine := s.txn.txns.filter fun t => t.ep == ep
  dropEp ep (mine.foldl (fun s t => match txnOf s t.id with | some u => finishTxn u stAbandoned 3 noRes s | none => s) s)

/-- The records of a page of the LATTICE partition, numbered by its first record's index / 16 (R464). -/
def pageEps (page : Nat) : List Nat := (List.range 16).map fun k => 16 * page + k

/-- The records of a page of the LATTICE partition are lost. -/
def losePage (page : Nat) (eps : List Nat) (s : State) : State :=
  evalAuto 0 (logNs evNandUe 0xFF ([1, page] ++ eps) (eps.foldl (fun s ep => loseRec ep s) s))

/-! ### Uncorrectable errors: what is done (R449, R450) -/

/-- A reset that an uncorrectable error brings: cold or warm, with its cause. -/
def ueReset (mem region : Nat) : Option (Bool × Nat) :=
  if mem = 0 then
    (if region = 0 then some (true, 9) else if region = 2 ∨ region = 3 ∨ (5 ≤ region ∧ region ≤ 9) ∨ region = 16 ∨ region = 23 then some (false, 0x0C)
     else none)
  else if mem = 1 ∨ mem = 2 ∨ mem = 4 then some (false, 0x0C)
  else if mem = 3 then some (true, 7)
  else if 0x0D ≤ mem then some (true, 9)
  else none

/-- A frame buffer of an engine (memories 0x05, 0x06): `sub` 0 the receive buffer, 1 a transmit buffer whose frame is copied in again,
2 the second error, which ends the frame. -/
def ueEngine (n sub : Nat) (s : State) : State :=
  if sub = 0 then
    if (ceOf s n).rx.isSome then settleCe n (updCe n (fun e => { e with fcsFailed := e.fcsFailed + 1 }) s) else s
  else if sub = 2 then
    match (ceOf s n).tx.head? with | some f => withdrawFrames n 4 (fun g => g == f) s | none => s
  else s

/-- Metering DSP memory: the cycle in progress is discarded. The cause in its record is none of the listed ones: a free value. -/
def ueMeter (s : State) : State :=
  (List.range 4).foldl (fun s f =>
    if (feeder s f).cfg.enable then
      logEv evMeterGap f [wd f, Config.itemCode evMeterGap 2, wd (gapBound s (feeder s f).cfg.pRated 0), 0] (flagInterval qGap f s)
    else s) { s with mtr := { s.mtr with discard := true } }

/-- CAN buffer b: `sub` 0 a received frame, 1 a pending transmit frame. -/
def ueCan (p b sub : Nat) (s : State) : State :=
  if sub = 0 then
    match (bufOf s p b).frame with
    | some _ => onBuf p b (fun x => { x with frame := none, dropped := x.dropped + 1 }) s
    | none => s
  else endFrame p b stAbandoned none s

/-- Receive rings, indirect queues and bitmaps of an engine: `sub` 0 a ring message, 1 an indirect frame, 2 a word of the bitmap, which is
rebuilt within 1 ms. -/
def ueQueue (n sub idx : Nat) (s : State) : State :=
  if sub = 0 then updCe n (fun e => { e with ring := e.ring.eraseIdx idx }) s
  else if sub = 1 then
    match (mdOf s n).indirect[idx]? with
    | none => s
    | some i =>
      let s1 := takeIndirect n (fun j => j == i) s
      match i.src with | .txn id => failTxn id s1 | _ => s1
  else
    let (v, s1) := freshNat s
    updMd n (fun m => { m with ones := (s.clk.ticks, s.clk.ticks + 1 + v % 40000) }) s1

/-- An image slot emptied: its distribution ends ABANDONED with its counts so far. -/
def ueImage (slot : Nat) (s : State) : State :=
  let s1 := { s with lat := { s.lat with images := tdel s.lat.images slot, sends := s.lat.sends.filter fun x => x.slot != slot } }
  (s.lat.sends.filter fun x => x.slot == slot).foldl
    (fun s x => complete x.org stAbandoned (imgWords x) (logEv evImageSend 0xFF (imgEvent x) s)) s1

/-- Schedule state rebuilt from its settings set, and the resync. -/
def ueSched (s : State) : State :=
  { s with sch := { s.sch with lux := [], decided := [], stale := [], later := [], tzSeen := none, solarSeen := [], resync := true } }

/-- Sign frame memory: `sub` 0 a back buffer, 1 a front buffer; other state as memory 0x0A. -/
def ueSignRam (sub : Nat) (s : State) : State :=
  if sub = 0 then { s with sgn := { s.sgn with ready := false, loading := false } }
  else if sub = 1 then { s with sgn := { s.sgn with shown := false } }
  else sgnWithdraw s

/-- A record of the open page or of staging discarded: it is lost from staging (R404, R405). -/
def ueStaged (idx : Nat) (s : State) : State :=
  let lg := s.log
  match (lg.page ++ lg.staged)[idx]? with
  | none => s
  | some r =>
    { s with log := (Recorder.lose [r] { lg with
        page := lg.page.eraseIdx idx
        staged := if lg.page.length ≤ idx then lg.staged.eraseIdx (idx - lg.page.length) else lg.staged }).reportOvf (stampOf s) }

/-- The action of R449 on a memory other than DRAM that brings no reset. A correction set of a front end is discarded in favour of the
one published before, which no host sees. -/
def ueMemory (mem : Nat) (m : MemRead) (s : State) : State :=
  match mem with
  | 0x05 => ueEngine m.obj m.sub s
  | 0x06 => ueEngine m.obj m.sub s
  | 0x09 => ueMeter s
  | 0x0A => sgnWithdraw s
  | 0x0B => ueCan 0 m.obj m.sub s
  | 0x0C => ueCan 1 m.obj m.sub s
  | _ => s

/-- The action of R450 on a DRAM region that brings no reset. -/
def ueRegion (m : MemRead) (s : State) : State :=
  match m.region with
  | 1 => if (match s.upd.session.st with | .loading => true | _ => false) then
      let (v, s1) := freshNat s
      logNs evUpdLoadFail 0xFF [6, v] { s1 with upd := { s1.upd with session := { s1.upd.session with st := .failed } } }
    else s
  | 4 => { s with tt := { s.tt with anchors := s.tt.anchors.eraseIdx m.idx } }
  | 12 => ueQueue m.obj m.sub m.idx s
  | 13 => ueQueue m.obj m.sub m.idx s
  | 14 => if m.sub = 0 then reloadRec m.obj s
    else
      let (v, s1) := freshNat s
      losePage v (pageEps (m.obj / 16)) s1
  | 15 => ueImage m.obj s
  | 17 => ueSched s
  | 18 => chdReturn (chdWithdraw s)
  | 19 => { s with mtr := { s.mtr with reload := true } }
  | 20 => ueSignRam m.sub s
  | 21 => ueCan 0 m.obj m.sub s
  | 22 => ueCan 1 m.obj m.sub s
  | 24 => ueStaged m.idx s
  | 25 => updMd m.obj (fun x => { x with cache := x.cache.filter fun c => c.ep != m.idx }) s
  | _ => s

/-- The backup memory is zeroised and its token destroyed (R449). -/
def loseBackup (s : State) : State :=
  { s with rtc := { s.rtc with bram := List.replicate 16 0, residue := none, rootSecret := 0, token := false } }

/-- An uncorrectable error handled (R448 to R450); the action's code in EV_MEM_UE is a free value. A DRAM page is retired. -/
def handleUe (mem : Nat) (m : MemRead) (f0 f1 : Nat) (s : State) : State :=
  let act := Config.itemCode evMemUe (if mem = 0 then 16 + m.region else mem)
  let s1 := logEv evMemUe 0xFF [wd mem, wd m.addr, wd m.region, act] (noteUe mem m.region m.addr s)
  let retire := fun s => if mem = 0 then (retirePage 0 m.region m.addr f0 f1 s).1 else s
  match ueReset mem m.region with
  | some (cold, cause) => internalReset cold cause (if mem = 0x0F then loseBackup (retire s1) else retire s1)
  | none => retire (if mem = 0 then ueRegion m (memFault mem 0 m.region m.addr s1) else ueMemory mem m (memFault mem 0 m.region m.addr s1))

/-- A correctable error handled: a DRAM word whose count reaches `RETIRE_AT` has its page retired (R447). -/
def handleCe (mem region addr bit f0 f1 : Nat) (s : State) : State :=
  let s1 := noteCe mem region addr bit s
  match (memOf s1 mem).entry addr with
  | some e => if mem = 0 ∧ s1.mem.retireAt ≤ e.count then (retirePage 1 region addr f0 f1 s1).1 else s1
  | none => s1

/-! ### The checker test (R453, R454) -/

/-- A flip ends with its `RESULT`. -/
def endFlip (res : Nat) (a : FlipArm) (s : State) : State :=
  logNs evMemFlip a.port.val [a.port.val, a.target, a.count, a.b0, a.b1, res] { s with mem := { s.mem with flip := none, flipResult := res } }

/-- The verdict that the checker owes on the injected error. -/
def flipExpected (a : FlipArm) : Verdict := if a.count = 1 then .corrected a.b0 else .uncorrectable

/-- The injected word is read. The bits and the syndrome of a checker fault's record are free values. -/
def readFlip (mem : Nat) (m : MemRead) (a : FlipArm) (s : State) : State :=
  let s1 := { s with mem := match m.v with
    | .clean => s.mem
    | .corrected _ => { s.mem with testCe := inc32 s.mem.testCe }
    | .uncorrectable => { s.mem with testUe := inc32 s.mem.testUe } }
  match m.real with
  | .corrected b => endFlip 6 a (noteCe mem m.region m.addr b s1)
  | .uncorrectable => endFlip 6 a (noteUe mem m.region m.addr s1)
  | .clean =>
    if m.v = flipExpected a then endFlip (if a.count = 1 then 1 else 2) a s1
    else
      let (b, s2) := freshNat s1
      let (y, s3) := freshNat s2
      logNs evMemCheckerFault 0xFF [mem, b, y] (endFlip 3 a s3)

/-- A word is read: the injected word of an armed flip, or any other. -/
def readWord (mem : Nat) (m : MemRead) (f0 f1 : Nat) (s : State) : State :=
  let aimed := match s.mem.flip with
    | some a => m.injected && a.target == mem && (mem != 0 || a.region == m.region) && !memWithdrawn s mem
    | none => false
  match aimed, s.mem.flip with
  | true, some a => readFlip mem m a s
  | _, _ => match m.v with
    | .clean => s
    | .corrected b => handleCe mem m.region m.addr b f0 f1 s
    | .uncorrectable => handleUe mem m f0 f1 s

/-- A memory is in use and checked: from step 4 of BOOT, also while BOOT is halted (R444, R455); the backup memory once the secure pair has
read it in that step (R451). -/
def memRuns (s : State) (mem : Nat) : Bool :=
  match s.pwr.bootStep with
  | .secure => mem != 0x0F | .verify => true | .load => true | .restore => true | .finish => true | .done => true | .halted => true
  | _ => false

/-- SCRUB_READ (R443 to R449): a word of an SRAM or of a privileged memory is read, by scrubbing or by its consumer. -/
def execScrubRead (mem : Nat) (m : MemRead) (s : State) : Host.Outcome State Fault Refusal :=
  .next (if memRuns s mem && memPresent s.dev.variant mem && mem != 0 then readWord mem { m with region := 0x1F } 0 0 s else s)

/-- Words of a pass of the patrol: 1,792 MiB and the spare pages in use (R459). -/
def passWords (s : State) : Nat := 234881024 + 512 * s.mem.retired.length

/-- The patrol moves on; at the end of a pass it begins anew, in normal mode. A high-rate pass does not end within 600 s. -/
def patrol (words : Nat) (s : State) : State :=
  let m := s.mem
  if m.passAt + words < passWords s then { s with mem := { m with passAt := m.passAt + words } }
  else if m.high && decide (s.clk.ticks < m.highSince + 600 * 40000000) then s
  else
    let s1 := logNs evScrub 0xFF [b2n m.high, 1, m.passErrs]
      { s with mem := { m with passAt := 0, passErrs := 0, passes := sat 16 (m.passes + 1), passCyc := cycOf s, high := false } }
    if m.high then stopAct 1 0xFF s1 else s1

/-- DRAM_PATROL (R450, R459): DRAM words are read, by the patrol, which `words` moves on, or by a consumer (0), with what the checker
makes of the last of them. `f0` and `f1` sectors fail where the retirement list is written. -/
def execDramPatrol (words : Nat) (m : MemRead) (f0 f1 : Nat) (s : State) : Host.Outcome State Fault Refusal :=
  .next
    (if memRuns s 0 then
       let err := if m.injected then 0 else match m.v with | .clean => 0 | _ => 1
       let s1 := { s with mem := { s.mem with passErrs := s.mem.passErrs + (if words = 0 then 0 else err) } }
       readWord 0 m f0 f1 (patrol words s1)
     else s)

/-- FLIP_TIMEOUT (R453): an armed flip with no write within 1 s (`RESULT` 4), or with no read within 60 s of its write (5); the operand
gives the TCXO tick of the write. A target of a withdrawn block is not written. -/
def execFlipTimeout (writtenAt : Option Nat) (s : State) : Host.Outcome State Fault Refusal :=
  .next
    (match s.mem.flip with
     | none => s
     | some a =>
       match (if memWithdrawn s a.target then none else writtenAt) with
       | none => if a.since + 40000000 ≤ s.clk.ticks then endFlip 4 a s else s
       | some t => if a.since ≤ t ∧ t ≤ a.since + 40000000 ∧ t + 60 * 40000000 ≤ s.clk.ticks then endFlip 5 a s else s)

end Sys2Proof.Machine
end

