-- ==== Sys2Proof/Machine/MemCmd.lean ====
section
/-!
DEFINITION. The commands of memory integrity, field repair, NAND reclaim and compaction, and the writing of the sign failure record
(12 R363, 14 R403, 16 R455 to R468, 17 R488, 18 R515).
-/
namespace Sys2Proof.Machine

/-- The block whose unit a memory belongs to, for ABSENT. -/
def memUnit (m : Nat) : Nat :=
  if m = 6 then 0x06 else if m = 9 then 0x0B else if m = 0x0A then 0x0C else 0x0E

/-- Checks every MEM command begins with (R466, R497). -/
def memHead (code n block : Nat) (r : Req) (s : State) : List (Option Fail) := [stdHead code n r s, needSecure r s block]

/-- A memory is named: it is present. -/
def needMem (s : State) (m : Nat) : Option Fail := need 6 (memPresent s.dev.variant m) stAbsent 3 (memUnit m * 256 + 0xFF)

/-! ### MEM.STATUS, MEM.ERRORS (R467, R468) -/

/-- The word of one memory in MEM.STATUS. -/
def memStatusWord (s : State) (m : Nat) : Word :=
  let x := memOf s m
  packW [(if m = 0 then 0 else if m < 0x0D then 1 else 2, 30), (x.rows, 26), (x.cols, 23), (b2n (memPresent s.dev.variant m), 22),
    (b2n (x.repairs.any fun p => !p.applied), 21), (x.table.length, 16), (sat 16 x.ce, 0)]

/-- FLIP_MASK as it reads (R452). -/
def flipWord (m : MemInt) : Word := packW [(b2n m.flip.isSome, 31), (m.flipMask, 6), (m.flipResult, 3)]

/-- Checks of MEM.STATUS. -/
def chkMemStatus (r : Req) (s : State) : Option Fail :=
  firstFail (memHead 0x0E01 0 0x13 r s)

/-- MEM.STATUS, its checks passed. -/
def actMemStatus (r : Req) (s : State) : State :=
  let (wear, s) := freshNat s
  let m := s.mem
  let d := memOf s 0
  let sramUe := ((List.range 12).map fun k => (memOf s (k + 1)).ue).sum
  ok r ([ packW [(m.fieldLeft, 24), (b2n m.high, 22), (m.flipResult, 19), (b2n m.flip.isSome, 18), (m.scrubH, 10), (m.passAt * 1000 / passWords s, 0)],
          wd d.ce, wd d.ue, packW [(m.retired.length, 16), (m.passes, 0)], wd m.passCyc, packW [(m.nandSpare, 16), (m.nandBad, 0)],
          packW [(sat 16 m.nandErase, 16), (m.bchMax, 8)], packW [(m.norSpare0, 24), (m.norSpare1, 16), (wear % 65536, 0)] ] ++
        (List.range 16).map (memStatusWord s) ++
        [packW [(sat 16 sramUe, 16), (m.flips, 0)], flipWord m, 0]) s

/-- MEM.STATUS (0x0E01). `NOR_ERASE_MAX` is wear that the model does not follow: a free value. -/
def execMemStatus (s : State) : Host.Outcome State Fault Refusal :=
  .next (serve 0x0E01 chkMemStatus actMemStatus s)

/-- A repair covers an address of a memory: its row, its column, its word, or the page of it. -/
def repairedAt (s : State) (m addr : Nat) : Bool :=
  if m = 0 then s.mem.retired.any fun p => p.page == dramPage addr
  else (memOf s m).repairs.any fun p =>
    if p.kind = 0 then p.addr / 65536 == addr / 65536
    else if p.kind = 1 then p.addr / 256 % 256 == addr / 256 % 256
    else p.addr == addr

/-- The four words of a table entry. -/
def entryWords (s : State) (m : Nat) (e : MemEntry) : List Word :=
  [wd e.addr, packW [(e.bit, 24), (b2n e.cand, 23), (b2n (repairedAt s m e.addr), 22), (e.count, 0)], wd e.first, wd e.last]

/-- Checks of MEM.ERRORS. -/
def chkMemErrors (r : Req) (s : State) : Option Fail :=
  let m := fld (r.w 3) 31 28
  firstFail ([stdHead 0x0E02 1 r s, needMem s m, needSecure r s 0x13] ++
    [need 9 (fld (r.w 3) 25 0 == 0 && (!bit (r.w 3) 27 || m == 0)) stBadParam 3])

/-- MEM.ERRORS, its checks passed. -/
def actMemErrors (r : Req) (s : State) : State :=
  let m := fld (r.w 3) 31 28
  let x := memOf s m
  let s1 := if bit (r.w 3) 26 then onMem m (fun x => { x with ce := 0, ue := 0, table := [], ovf := false }) s else s
  if bit (r.w 3) 27 then
    ok r (wd s.mem.retired.length :: s.mem.retired.map fun p => packW [(p.page, 13), (p.cause, 11)]) s1
  else
    ok r ([packW [(m, 28), (b2n x.ovf, 27), (x.table.length, 16)], wd x.ce, wd x.ue] ++ (x.table.map (entryWords s m)).flatten) s1

/-- MEM.ERRORS (0x0E02): `CLEAR` acts after the read. -/
def execMemErrors (s : State) : Host.Outcome State Fault Refusal :=
  .next (serve 0x0E02 chkMemErrors actMemErrors s)

/-! ### MEM.FLIP (R452) -/

/-- A DRAM region that is assigned in this variant (R436). -/
def regionUsed (s : State) (r : Nat) : Bool :=
  decide (r < 26) && (match regionBlock r with | some b => blockPresent s.dev.variant b | none => true)

/-- Checks of MEM.FLIP. -/
def chkMemFlip (r : Req) (s : State) : Option Fail :=
  let m := fld (r.w 3) 31 28
  let c := fld (r.w 3) 27 26
  let b0 := fld (r.w 3) 25 19
  let b1 := fld (r.w 3) 18 12
  let g := fld (r.w 3) 11 7
  firstFail [ stdHead 0x0E03 1 r s, needMem s m, needSecure r s 0x13,
    need 9 (fld (r.w 3) 6 0 == 0 && decide (c ≤ 2) && (c == 0 || decide (b0 < codeBits m)) &&
      (c != 2 || (decide (b1 < codeBits m) && b0 != b1)) && (if m = 0 then regionUsed s g else g == 0)) stBadParam 3,
    need 12 (c == 0 || s.mem.flip.isNone) stBusy ]

/-- MEM.FLIP, its checks passed. -/
def actMemFlip (r : Req) (s : State) : State :=
  let m := fld (r.w 3) 31 28
  let c := fld (r.w 3) 27 26
  let a : FlipArm := ⟨c, m, fld (r.w 3) 25 19, fld (r.w 3) 18 12, fld (r.w 3) 11 7, r.port, s.clk.ticks⟩
  let mask := c * 2 ^ 23 + m * 2 ^ 19 + a.b0 * 2 ^ 12 + a.b1 * 2 ^ 5 + a.region
  let s1 := { s with mem := { s.mem with flipMask := mask, flipResult := 0 } }
  if c = 0 then ok r [] (endFlip 0 a s1)
  else ok r [] { s1 with mem := { s1.mem with flip := some a, flips := sat 16 (s.mem.flips + 1) } }

/-- MEM.FLIP (0x0E03). -/
def execMemFlip (s : State) : Host.Outcome State Fault Refusal :=
  .next (serve 0x0E03 chkMemFlip actMemFlip s)

/-! ### MEM.REPAIR (R455 to R457) -/

/-- `KIND` suits the memory. -/
def kindOk (m k : Nat) : Bool := if m = 0 then k == 3 else if m < 0x0D then decide (k < 2) else k == 2

/-- The address lies in the memory: a page of the 1,792 MiB, or one that the memory has. -/
def repairAddrOk (m k : Nat) (addr : Word) : Bool :=
  if k = 3 then addr.toNat % 4096 == 0 && decide (addr.toNat < 0x70000000)
  else (k == 2 || fld addr 7 0 == 0) && Config.memAddr m addr.toNat

/-- Repairs in progress that consume a fuse entry. -/
def fuseRuns (s : State) : Nat := (s.mem.runs.filter fun x => x.kind != 3).length

/-- Spares of a kind left in a memory, those in use by repairs in progress apart. -/
def sparesLeft (s : State) (m k : Nat) : Nat :=
  (if k = 1 then (memOf s m).cols else (memOf s m).rows) - (s.mem.runs.filter fun x => x.mem == m && x.kind == k).length

/-- Checks of MEM.REPAIR. -/
def chkMemRepair (r : Req) (s : State) : Option Fail :=
  let m := fld (r.w 3) 31 28
  let k := fld (r.w 3) 27 26
  let addr := if k = 3 then (r.w 4).toNat / 8 else (r.w 4).toNat
  firstFail [ stdHead 0x0E04 2 r s, needMem s m, needSecure r s 0x13,
    need 9 (fld (r.w 3) 25 0 == 0 && kindOk m k) stBadParam 3,
    need 9 (repairAddrOk m k (r.w 4) && !(if m = 0 then repairedAt s m addr else (memOf s m).repairs.any fun p => p.kind == k &&
      (if k = 0 then p.addr / 65536 == addr / 65536 else if k = 1 then p.addr / 256 % 256 == addr / 256 % 256 else p.addr == addr)))
      stBadParam 4,
    need 12 ((memBlock m).isNone || memWithdrawn s m) stNotWithdrawn,
    need 13 (k == 3 || decide (fuseRuns s < s.mem.fieldLeft)) stFuseExhausted,
    need 13 (k == 3 || decide (0 < sparesLeft s m k)) (if k = 2 then stRemapFull else stFuseExhausted),
    need 13 (k != 3 || decide (s.mem.retired.length + (s.mem.runs.filter fun x => x.kind == 3).length < 128)) stFull ]

/-- MEM.REPAIR, its checks passed. -/
def actMemRepair (r : Req) (s : State) : State :=
  let m := fld (r.w 3) 31 28
  let k := fld (r.w 3) 27 26
  let go := fun s => acceptN r { s with mem := { s.mem with runs := s.mem.runs ++ [⟨r.origin, m, k, (r.w 4).toNat, s.clk.ticks⟩] } }
  if k < 2 then admitReq 2 m r go s else go s

/-- MEM.REPAIR (0x0E04). -/
def execMemRepair (s : State) : Host.Outcome State Fault Refusal :=
  .next (serve 0x0E04 chkMemRepair actMemRepair s)

/-- The final payload of MEM.REPAIR. -/
def repairWords (x : RepairRun) (applied : Bool) (s : State) : List Word :=
  let left := if x.kind = 3 then 128 - s.mem.retired.length else if x.kind = 1 then (memOf s x.mem).cols else (memOf s x.mem).rows
  [ packW [(x.mem, 28), (x.kind, 26), (b2n applied, 25)], wd x.addr, packW [(s.mem.fieldLeft, 24), (sat 4 left, 20)],
    wd ((s.clk.ticks - x.since) / 40000), if applied then cycLo s else 0 ]

/-- EV_MEM_REPAIRED for an accepted repair (R466, R469): 0 applied, 1 pending; for one that failed the code is a free value. -/
def logRepaired (x : RepairRun) (code : Word) (s : State) : State :=
  logEv evMemRepaired x.org.port.val [wd x.org.port.val, wd x.mem, wd x.kind, wd x.addr, code] s

/-- MEM_REPAIR_COMPLETE (R456, R457): the first repair in progress ends. `programmed` tells whether the fuse took; `f0` and `f1` sectors
fail as the retirement list is written. -/
def execMemRepairComplete (programmed : Bool) (f0 f1 : Nat) (s : State) : Host.Outcome State Fault Refusal :=
  .next
    (match s.mem.runs with
     | [] => s
     | x :: rest =>
       let s0 := { s with mem := { s.mem with runs := rest } }
       if x.kind = 3 then
         let (s1, good) := retirePage 2 0x1F (x.addr / 8) f0 f1 s0
         let s2 := logRepaired x (if repairedAt s1 0 (x.addr / 8) then wd 0 else Config.itemCode evMemRepaired 2) s1
         if good then complete x.org stOk (repairWords x true s2) s2 else completeFail x.org ⟨13, stMedia, 0xFFFF, 0⟩ s2
       else
         let s1 := { s0 with mem := { s0.mem with fieldLeft := s0.mem.fieldLeft - 1 } }
         let s2 := if x.kind < 2 then stopAct 2 x.mem s1 else s1
         if !programmed then
           completeFail x.org ⟨13, stVerifyFail, 0xFFFF, 0⟩ (logRepaired x (Config.itemCode evMemRepaired 2) s2)
         else
           let applied := decide (5 ≤ x.mem)
           let s3 := onMem x.mem (fun y => { y with
             rows := if x.kind = 1 then y.rows else y.rows - 1, cols := if x.kind = 1 then y.cols - 1 else y.cols
             repairs := y.repairs ++ [⟨x.kind, x.addr, applied⟩] }) s2
           complete x.org stOk (repairWords x applied s3)
             (logRepaired x (wd (b2n (!applied))) s3))

/-! ### MEM.SCRUB (R459) -/

/-- Checks of MEM.SCRUB. -/
def chkMemScrub (r : Req) (s : State) : Option Fail :=
  let h := fld (r.w 3) 29 22
  firstFail (memHead 0x0E05 1 0x13 r s ++
    [ need 9 (fld (r.w 3) 5 0 == 0 && decide (scrubOp r ≤ 2) &&
        (if scrubOp r = 0 then decide (1 ≤ h) && decide (h ≤ 168) && decide (2 ≤ fld (r.w 3) 21 14) && decide (2 ≤ fld (r.w 3) 13 6)
         else fld (r.w 3) 29 6 == 0)) stBadParam 3,
      need 12 (scrubOp r == 0 || (scrubOp r == 1) == !s.mem.high) stBadState ])

/-- MEM.SCRUB, its checks passed. -/
def actMemScrub (r : Req) (s : State) : State :=
  if scrubOp r = 0 then storeAtBoundary 0x13 r s
  else if scrubOp r = 1 then
    admitReq 1 0xFF r (fun s =>
      ok r [] (logNs evScrub 0xFF [1, 0, 0] { s with mem := { s.mem with high := true, highSince := s.clk.ticks, passAt := 0, passErrs := 0 } })) s
  else
    ok r [] (stopAct 1 0xFF (logNs evScrub 0xFF [1, 1, s.mem.passErrs] { s with mem := { s.mem with high := false } }))

/-- MEM.SCRUB (0x0E05): `OP` 0 stores the thresholds, 1 starts a high-rate pass, 2 stops it. -/
def execMemScrub (s : State) : Host.Outcome State Fault Refusal :=
  .next (serve 0x0E05 chkMemScrub actMemScrub s)

/-! ### NAND (R403, R462 to R464, R515), compaction (R488) -/

/-- NAND reclaim of a partition is in progress. -/
def reclaiming (s : State) (part : Nat) : Bool := s.bal.running.any fun a => a.act == 9 && a.inst == part

/-- The LOG partition is frozen (R407). -/
def logFrozen (s : State) : Bool := allPorts.any fun p => (s.log.freeze.get p).isSome

/-- An uncorrectable page of a partition (R404, R464): LOG records or interval records by their numbers, Lattice records by their
indices. -/
def lostPage (part block page : Nat) (items : List Nat) (s : State) : State :=
  if part = 0 then
    match items.head?, items.getLast? with
    | some a, some b => logNs evLogMedia 0xFF [block, page, 1, items.length] (logNs evNandUe 0xFF [0, page, items.length] { s with log := { s.log with
        log := s.log.log.filter fun r => !items.contains r.seq, lost := s.log.lost ++ [(a, b)] } })
    | _, _ => s
  else if part = 1 then losePage page (items.take 16) s
  else logNs evNandUe 0xFF [part, page, items.length] { s with mtr := { s.mtr with
    ring := s.mtr.ring.filter fun w => !items.contains (wAt w 0).toNat } }

/-- One step of NAND reclaim. -/
def reclaimStep (part block : Nat) (job : NandJob) (s : State) : State :=
  match job with
  | .start =>
    if reclaiming s part then s
    else match admitAct 9 part s with
      | .ok s1 => s1
      | .error (_, s1) => { s1 with bal := { s1.bal with waitReclaim := true } }
  | .copied freed =>
    if reclaiming s part && part == 0 then
      resumeAppends { s with log := { s.log with freePages := Nat.min 96768 (s.log.freePages + freed) } }
    else s
  | .refreshed bits aged =>
    let s1 := { s with mem := { s.mem with bchMax := Nat.max s.mem.bchMax bits } }
    if reclaiming s part && (decide (5 ≤ bits) || aged) then
      logLimK evNandRefresh part 0xFF 1 (fun n => [wd part, wd block, wd bits, wd n]) s1
    else s1
  | .bad cause => badBlock part block cause s
  | .lost page items => lostPage part block page items s
  | .finish => stopAct 9 part s

/-- NAND_RECLAIM (R403): one step of reclaim on a block of a partition (0 LOG, 1 LATTICE, 2 METER), whose erase count is `erases`. It
does not run on a frozen log, nor in a HANDOVER window. -/
def execNandReclaim (part block erases : Nat) (job : NandJob) (s : State) : Host.Outcome State Fault Refusal :=
  .next
    (if fwRuns s && !s.upd.windowOpen && !(part == 0 && logFrozen s) then
       reclaimStep part block job { s with mem := { s.mem with nandErase := Nat.max s.mem.nandErase erases } }
     else s)

/-- LAT_COMPACT (R488): the live pages are rewritten into fresh blocks. -/
def execLatCompact (s : State) : Host.Outcome State Fault Refusal :=
  .next
    (if !s.upd.windowOpen && s.bal.running.any (fun a => a.act == 8) then
       stopAct 8 0xFF { s with lat := { s.lat with superseded := 0 } }
     else s)

/-! ### The sign failure record (R363) -/

/-- FAILURE_RECORD_WRITE (R363): the changed record is written to both NOR devices; `f0` and `f1` sectors fail. -/
def execFailureRecordWrite (f0 f1 : Nat) (s : State) : Host.Outcome State Fault Refusal :=
  .next
    (if s.sgn.dirty.isSome && fwRuns s then
       let (s1, good) := norWrite 5 f0 f1 s
       if good then { s1 with sgn := { s1.sgn with nor := s1.sgn.rec_, dirty := none } } else s1
     else s)

end Sys2Proof.Machine
end

