-- ==== Sys2Proof/Machine/BallastCmd.lean ====
section
/-!
DEFINITION. Ballast: the withdrawal of blocks from service, their return, and its status (17 R488 to R493, R497, R498).
-/
namespace Sys2Proof.Machine

/-! ### MEM.WITHDRAW and MEM.RESTORE (R492, R493, R497) -/

/-- The block that a request names. -/
def wdBlock (r : Req) : Nat := fld (r.w 3) 31 24
/-- The half of it: 1 lower and 2 upper of block 0x06, 0 the whole of any other. -/
def wdHalf (r : Req) : Nat := if wdBlock r = 6 then (if bit (r.w 3) 23 then 2 else 1) else 0
/-- The instance of activity 10. -/
def wdInst (block half : Nat) : Nat := block + 128 * b2n (half == 2)

/-- Blocks that may be withdrawn (R492). -/
def mayWithdraw (b : Nat) : Bool := (decide (4 ≤ b) && decide (b ≤ 0x0F)) && b != 7 && b != 8

/-- The withdrawal of a block or half that has been asked for, or stands. -/
def wdFind (s : State) (block half : Nat) : Option Withdrawal := s.bal.withdrawals.find? fun w => w.block == block && w.half == half

/-- A block named by MEM.WITHDRAW or MEM.RESTORE is present: the upper half of block 0x06 needs 64 engines. -/
def needWdPresent (r : Req) (s : State) : Option Fail :=
  let b := wdBlock r
  need 6 (!mayWithdraw b || (blockPresent s.dev.variant b && (wdHalf r != 2 || engineCount s.dev.variant == 64))) stAbsent 3
    (b * 256 + 0xFF)

/-- Withdrawals changed. -/
def onWd (block half : Nat) (f : Withdrawal → Withdrawal) (s : State) : State :=
  { s with bal := { s.bal with withdrawals := s.bal.withdrawals.map fun w => if w.block = block ∧ w.half = half then f w else w } }

/-- Checks of MEM.WITHDRAW. -/
def chkMemWithdraw (r : Req) (s : State) : Option Fail :=
  let b := wdBlock r
  let lim := fld (r.w 3) 16 0
  firstFail [ stdHead 0x0E06 1 r s, needWdPresent r s, needSecure r s 0x14,
    need 9 (mayWithdraw b && (b == 6 || !bit (r.w 3) 23) && fld (r.w 3) 22 17 == 0 && decide (1 ≤ lim) && decide (lim ≤ 86400)) stBadParam 3,
    need 12 ((wdFind s b (wdHalf r)).isNone && !((b == 4 || b == 5) && (wdFind s (9 - b) 0).isSome)) stBadState ]

/-- MEM.WITHDRAW, its checks passed. -/
def actMemWithdraw (r : Req) (s : State) : State :=
  let b := wdBlock r
  let h := wdHalf r
  if !tlRoom s.tl 0x14 1 then failReq r ⟨13, stFull, 0xFFFF, 0⟩ (tlFull 0x14 2 s)
  else admitReq 10 (wdInst b h) r (fun s =>
    let w : Withdrawal := ⟨b, h, r.port, fld (r.w 3) 16 0, some r, [], false, 0, false, false⟩
    tlPut (nextBoundary s) 3 0x14 (.withdraw b h) true { s with bal := { s.bal with withdrawals := s.bal.withdrawals ++ [w] } }) s

/-- MEM.WITHDRAW (0x0E06): answered at its boundary. -/
def execMemWithdraw (s : State) : Host.Outcome State Fault Refusal :=
  .next (serve 0x0E06 chkMemWithdraw actMemWithdraw s)

/-- The end of a withdrawal posted for the next boundary, once. -/
def postEnd (w : Withdrawal) (s : State) : State :=
  if w.ending then s
  else onWd w.block w.half (fun w => { w with ending := true }) (tlPut (nextBoundary s) 3 0x14 (.withdrawEnd w.block w.half) true s)

/-- A repair of an SRAM that belongs to a block or half is in progress: its memory. -/
def repairOn (s : State) (block half : Nat) : Option Nat :=
  (s.mem.runs.find? fun x => decide (x.kind < 2) && memBlock x.mem == some (block, half)).map fun x => x.mem

/-- Checks of MEM.RESTORE. -/
def chkMemRestore (r : Req) (s : State) : Option Fail :=
  let b := wdBlock r
  let w := (wdFind s b (wdHalf r)).filter fun w => w.active
  firstFail [ stdHead 0x0E07 1 r s, needWdPresent r s, needSecure r s 0x14,
    need 9 (mayWithdraw b && (b == 6 || !bit (r.w 3) 23) && fld (r.w 3) 22 0 == 0) stBadParam 3,
    need 12 w.isSome stNotWithdrawn,
    need 13 (match w with | some w => !w.sweep | none => true) stBusyMaint 0xFFFF (0x0600 + (b - 4)),
    (match repairOn s b (wdHalf r) with | some m => need 13 false stBusyMaint 0xFFFF (0x0200 + m) | none => none) ]

/-- MEM.RESTORE, its checks passed. -/
def actMemRestore (r : Req) (s : State) : State :=
  match wdFind s (wdBlock r) (wdHalf r) with
  | none => s
  | some w => postEnd w (onWd w.block w.half (fun w => { w with restores := w.restores ++ [r] }) s)

/-- MEM.RESTORE (0x0E07): answered at the boundary where the withdrawal ends. -/
def execMemRestore (s : State) : Host.Outcome State Fault Refusal :=
  .next (serve 0x0E07 chkMemRestore actMemRestore s)

/-! ### What a withdrawal does to each block, and its return -/

/-- An engine goes OFF (R194, R492): its carrier stops, and its frames leave with TX_DISABLED. -/
def engineOff (n : Nat) (s : State) : State :=
  let s1 := match carrierOf s n with
    | none => s
    | some (k, c) =>
      let s1 := cutCarrier n k c s
      if c.ack then afterCarrier n (updMd n (fun m => { m with ack := none }) s1)
      else match (ceOf s1 n).adm with
        | some a => frameLeft n a.frame 4 (afterCarrier n s1)
        | none => afterCarrier n s1
  withdrawFrames n 4 (fun _ => true) s1

/-- The engines of a half that the variant has. -/
def halfEngines (s : State) (half : Nat) : List Nat := (List.range (engineCount s.dev.variant)).filter fun n => ceHalf n == half

/-- A block's part of a withdrawal (R492); `old` is the state before, `fails` the save attempts that fail. -/
def blockOut (block half fails : Nat) (old s : State) : State :=
  match block with
  | 0x04 => purgeDisabled old (dropInvalid (stopAll 0 5 s))
  | 0x05 => purgeDisabled old (dropInvalid (stopAll 1 5 s))
  | 0x06 => dropInvalid ((halfEngines s half).foldl (fun s n => engineOff n s) s)
  | 0x0A => chdWithdraw s
  | 0x0B => mtrWithdraw fails s
  | 0x0C => sgnWithdraw s
  | 0x0D => canWithdraw 0 s
  | 0x0E => canWithdraw 1 s
  | 0x0F => ioWithdraw s
  | _ => s

/-- A block's part of a return: `since` is the tick at which the withdrawal took effect. -/
def blockBack (block half since : Nat) (s : State) : State :=
  match block with
  | 0x04 => enterAll s
  | 0x05 => enterAll s
  | 0x06 => enterAll ((halfEngines s half).foldl (fun s n => toResync n 3 ((linksOn s n).map fun x => x.1) s) s)
  | 0x0A => chdReturn s
  | 0x0B => mtrReturn since s
  | 0x0C => recompute s
  | 0x0D => canReturn 0 s
  | 0x0E => canReturn 1 s
  | _ => s

/-- WITHDRAWAL_APPLY (R492): the rank 3 entry; the module enters SERVICE where R62 gives it. -/
def execWithdrawalApply (fails : Nat) (s : State) : Host.Outcome State Fault Refusal :=
  .next (tlFire (fun k _ => match k with
    | .withdraw b h => some fun s => match wdFind s b h with
      | none => s
      | some w =>
        let s1 := onWd b h (fun w => { w with active := true, since := s.clk.ticks, req := none }) s
        let s2 := settleMode s evBlockWithdrawn (logNs evBlockWithdrawn w.port.val [w.port.val, wdInst b h, w.limitS] (blockOut b h fails s s1))
        match w.req with | some r => ok r [] s2 | none => s2
    | _ => none) s)

/-- The withdrawal of a block ends: by command where a MEM.RESTORE waits for it, else by expiry. -/
def endWithdrawal (w : Withdrawal) (s : State) : State :=
  let cause := if w.restores.isEmpty then 1 else 0
  let s1 := stopAct 10 (wdInst w.block w.half) { s with bal := { s.bal with
    withdrawals := s.bal.withdrawals.filter fun x => !(x.block == w.block && x.half == w.half) } }
  let s2 := logNs evBlockRestored w.port.val [cause, w.port.val, wdInst w.block w.half, (s.clk.ticks - w.since) / 40000000]
    (blockBack w.block w.half w.since s1)
  w.restores.foldl (fun s r => ok r [] s) (settleMode s evBlockRestored s2)

/-- The limit of a withdrawal has expired. -/
def Withdrawal.expired (w : Withdrawal) (ticks : Nat) : Bool :=
  w.active && !w.sweep && !w.ending && decide (w.since + w.limitS * 40000000 ≤ ticks)

/-- WITHDRAWAL_END (R493): the entry posted by a restore or by an expiry fires; otherwise a withdrawal whose limit has expired has its end
posted for the next boundary. -/
def execWithdrawalEnd (s : State) : Host.Outcome State Fault Refusal :=
  .next
    (match tlDue s with
     | some ⟨_, _, _, _, _, .withdrawEnd _ _, _⟩ =>
       tlFire (fun k _ => match k with
         | .withdrawEnd b h => some fun s => match wdFind s b h with | some w => endWithdrawal w s | none => s
         | _ => none) s
     | _ => match s.bal.withdrawals.find? fun w => w.expired s.clk.ticks with
       | some w => postEnd w s
       | none => s)

/-! ### Internal activities and status (R489, R498) -/

/-- INTERNAL_ACTIVITY_RESTART (R489): a stopped or refused LAT_COMPACT (8) or NAND_RECLAIM (9, with its partition) starts when the matrix
allows it. -/
def execInternalActivityRestart (act inst : Nat) (s : State) : Host.Outcome State Fault Refusal :=
  .next
    (let waits := if act = 8 then s.bal.waitCompact else if act = 9 then s.bal.waitReclaim else false
     if waits && (blockers s.bal act).isEmpty && !s.upd.windowOpen && !(act == 9 && inst == 0 && logFrozen s) then
       startAct act (if act = 8 then 0xFF else inst) { s with bal := { s.bal with
         waitCompact := s.bal.waitCompact && act != 8, waitReclaim := s.bal.waitReclaim && act != 9 } }
     else s)

/-- Seconds to the earliest expiry of a `LIMIT_S`, rounded up; 0 if none. -/
def nextExpiry (s : State) : Nat :=
  (s.bal.withdrawals.filter fun w => w.active && !w.sweep).foldl (fun m w =>
    let left := (w.since + w.limitS * 40000000 - s.clk.ticks + 39999999) / 40000000
    if m = 0 then left else Nat.min m left) 0

/-- Checks of MEM.ACTIVITY. -/
def chkMemActivity (r : Req) (s : State) : Option Fail :=
  firstFail (memHead 0x0E08 0 0x14 r s)

/-- MEM.ACTIVITY, its checks passed. -/
def actMemActivity (r : Req) (s : State) : State :=
  let b := s.bal
  let count := fun a => (b.running.filter fun x => x.act == a).length
  let out := fun k h => b.withdrawals.any fun w => w.active && w.block == k && w.half == h
  ok r ([packW [(maskOf 10 fun c => decide (0 < count (c + 1)), 1)]] ++
    ((List.range 10).map fun c => packW [(sat 16 (count (c + 1)), 16), (b.refusals.getD c 0, 0)]) ++
    [ packW [(maskOf 12 fun k => out (k + 4) (if k = 2 then 1 else 0), 16), (b2n (out 6 2), 15)], wd (nextExpiry s),
      packW [(b.matrixVer, 16), (b2n b.waitCompact + 2 * b2n b.waitReclaim, 8)], 0 ]) s

/-- MEM.ACTIVITY (0x0E08). -/
def execMemActivity (s : State) : Host.Outcome State Fault Refusal :=
  .next (serve 0x0E08 chkMemActivity actMemActivity s)

end Sys2Proof.Machine
end

