-- ==== Sys2Proof/Machine/Bridle.lean ====
section
/-!
DEFINITION. Bridle: firmware sets and banks, update sessions, activation and rollback through the handover window, trial and floor
(17 R470 to R487, R494 to R496).
-/
namespace Sys2Proof.Machine

/-! ### The manifest (R471 to R474) -/

/-- Parts of a manifest. -/
def manN (m : List Word) : Nat := fld (wAt m 1) 23 20
/-- A word of part k. -/
def manPart (m : List Word) (k i : Nat) : Word := wAt m (16 + 10 * k + i)
/-- `LENGTH` of part k, in octets. -/
def partLen (m : List Word) (k : Nat) : Nat := (manPart m k 1).toNat
/-- Words of part k. -/
def partWords (m : List Word) (k : Nat) : Nat := (partLen m k + 3) / 4
/-- `TYPE` of part k. -/
def partType (m : List Word) (k : Nat) : Nat := fld (manPart m k 0) 31 24
/-- `HASH` of part k. -/
def partHash (m : List Word) (k : Nat) : List Word := (m.drop (18 + 10 * k)).take 8
/-- `ROLLBACK`. -/
def manRollback (m : List Word) : Nat := fld (wAt m 3) 31 16
/-- `FLOOR_SET`. -/
def manFloor (m : List Word) : Nat := fld (wAt m 3) 15 0
/-- `VARIANTS`. -/
def manVariants (m : List Word) : Nat := fld (wAt m 4) 2 0
/-- `MATRIX`. -/
def manMatrix (m : List Word) : Nat := fld (wAt m 15) 15 0
/-- Sum of `LENGTH`. -/
def manTotal (m : List Word) : Nat := ((List.range (manN m)).map (partLen m)).sum
/-- The manifest digest. -/
def manDigest (m : List Word) : List Word := sha256 (octetsOfWords m)

/-- A variant, by its bit in `VARIANTS`, needs a part type (R471). -/
def needsPart (type v : Nat) : Bool := if type = 5 then decide (v < 2) else if type = 6 then v == 0 else decide (1 ≤ type) && decide (type ≤ 7)

/-- The bit of a variant in `VARIANTS`. -/
def variantBit : Variant → Nat
  | .a => 0 | .b => 1 | .c => 2

/-- The part types that every variant of the mask needs, and those that any of them needs. -/
def typesOk (m : List Word) : Bool :=
  let vs := numsBelow 3 (manVariants m).testBit
  let types := (List.range (manN m)).map (partType m)
  (types.all fun t => vs.all (needsPart t)) && types.Nodup &&
    ((List.range 8).all fun t => !(vs.any (needsPart t)) || types.contains t)

/-- A manifest inside R472 and R474: its fields, its parts, this module's variant and version, and the sum of lengths. -/
def manifestOk (v : Variant) (m : List Word) : Bool :=
  wAt m 0 == 0x4D414E31#32 && fld (wAt m 1) 31 24 == 1 && decide (5 ≤ manN m) && decide (manN m ≤ 7) && fld (wAt m 1) 19 16 == 0 &&
    fld (wAt m 1) 15 0 == 16 + 10 * manN m && m.length == 16 + 10 * manN m && decide (manFloor m ≤ manRollback m) &&
    fld (wAt m 4) 7 3 == 0 &&
    ((List.range (manN m)).all fun k =>
      decide (1 ≤ partType m k) && decide (partType m k ≤ 7) && fld (manPart m k 0) 23 16 == 0 && decide (1 ≤ partLen m k) &&
        decide (partLen m k ≤ 33554432)) &&
    typesOk m && (manVariants m).testBit (variantBit v) && decide (fld (wAt m 4) 15 8 ≤ 1) && decide (manTotal m ≤ 50331648)

/-! ### The session (R475, R476) -/

/-- Codes of the session's states (R475). -/
def sessCode : SessSt → Nat
  | .idle => 0 | .loading => 1 | .loaded => 2 | .verifying => 3 | .verified => 4 | .preparing => 5 | .handover => 6 | .trial => 7
  | .failed => 8

/-- Codes of the inactive bank's states (R470). -/
def bankCode : BankSt → Nat
  | .empty => 0 | .standby => 1 | .session => 2 | .rejected => 3

/-- Bridle changed. -/
def onUpd (f : Upd → Upd) (s : State) : State := { s with upd := f s.upd }

/-- The session changed. -/
def onSess (f : Session → Session) (s : State) : State := onUpd (fun u => { u with session := f u.session }) s

/-- A session is in a state. -/
def sessIs (s : State) (x : SessSt) : Bool := s.upd.session.st == x

/-- EV_UPD_LOAD_FAIL with its cause: 0 manifest, 1 signature, 2 co-signature, 3 floor, 4 hash, 5 media, 6 staging. Where no part or slot
is at fault, that item is a free value. -/
def logLoadFail (cause : Nat) (item : Option Nat) (s : State) : State :=
  match item with
  | some i => logNs evUpdLoadFail 0xFF [cause, i] s
  | none => let (v, s1) := freshNat s; logNs evUpdLoadFail 0xFF [cause, v] s1

/-- The session ends FAILED. -/
def sessionFail (cause : Nat) (item : Option Nat) (s : State) : State :=
  logLoadFail cause item (onSess (fun x => { x with st := .failed, verify := none }) s)

/-- The session is IDLE. -/
def endSession (s : State) : State := onUpd (fun u => { u with session := initSession }) s

/-- The bank of the session holds nothing any more. -/
def emptyBank (s : State) : State := onUpd (fun u => { u with other := .empty, otherMan := [] }) s

/-- Checks every UPD command begins with (R494). -/
def updHead (code : Nat) (lenOk : Bool) (r : Req) (s : State) : List (Option Fail) :=
  [ (match opRow code with | some row => headChecks r row (modeServed s) lenOk s | none => none), needSecure r s 0x12 ]

/-! ### UPD.BEGIN -/

/-- Co-signatures of UPD.BEGIN. -/
def updK (r : Req) : Nat := fld (r.w 3) 31 28
/-- Its manifest words. -/
def updM (r : Req) : Nat := fld (r.w 3) 15 0
/-- Its manifest. -/
def updMan (r : Req) : List Word := (r.words.drop 4).take (updM r)
/-- The signature of the Miolhan update key. -/
def updSig (r : Req) : List Word := (r.words.drop (4 + updM r)).take 16
/-- The word that names the slot of co-signature j. -/
def coWord (r : Req) (j : Nat) : Nat := 20 + updM r + 17 * j
/-- Co-signature j. -/
def coSig (r : Req) (j : Nat) : List Word := (r.words.drop (coWord r j + 1)).take 16

/-- Slots that require a co-signature: usage UPD_SIGNER with an active key (R473). -/
def signers (s : State) : List Nat := (s.key.slots.filter fun x => x.2.usage == 6 && x.2.active.isSome).map fun x => x.1

/-- A required co-signature stands and verifies under a key of its slot. -/
def coSigned (r : Req) (s : State) (k : Nat) : Bool :=
  (List.range (updK r)).any fun j =>
    fld (r.w (coWord r j)) 9 0 == k && (slotKeys s k 6 none).any fun key => ecdsaVerifyHash key (manDigest (updMan r)) (coSig r j)

/-- What refuses a well-formed UPD.BEGIN: its failure, and the cause and item of the record it leaves, if any. A rollback that waits for
its window uses the other bank. -/
def beginReject (r : Req) (s : State) : Option (Fail × Option (Nat × Option Nat)) :=
  let m := updMan r
  if !manifestOk s.dev.variant m then some (⟨9, stManifest, 0xFFFF, 0⟩, some (0, none))
  else if sessIs s .preparing || s.upd.act.isSome then some (⟨12, stHandover, 0xFFFF, 0⟩, none)
  else if !(sessIs s .idle || sessIs s .failed) || s.upd.trial then some (⟨12, stBadState, 0xFFFF, 0⟩, none)
  else if !ecdsaVerifyHash s.dev.updateKey (manDigest m) (updSig r) then some (⟨12, stVerifyFail, 0xFFFF, 0x3FF⟩, some (1, some 0x3FF))
  else match (signers s).find? fun k => !coSigned r s k with
    | some k => some (⟨12, stVerifyFail, 0xFFFF, k⟩, some (2, some k))
    | none => if manRollback m < s.upd.floor then some (⟨12, stRollbackFloor, 0xFFFF, 0⟩, some (3, none)) else none

/-- Checks of UPD.BEGIN. -/
def chkUpdBegin (r : Req) (s : State) : Option Fail :=
  firstFail (updHead 0x0F01 (r.len == 17 + updM r + 17 * updK r) r s ++
    [ need 9 (decide (updK r ≤ 4) && fld (r.w 3) 27 16 == 0) stBadParam 3,
      (match (List.range (updK r)).find? fun j => fld (r.w (coWord r j)) 31 10 != 0 with
       | some j => need 9 false stBadParam (coWord r j)
       | none => none) ])

/-- UPD.BEGIN, its checks passed. -/
def actUpdBegin (f : Nat) (r : Req) (s : State) : State :=
  match beginReject r s with
  | some (fl, some (c, i)) => failReq r fl (logLoadFail c i s)
  | some (fl, none) => failReq r fl s
  | none =>
    let m := updMan r
    let (s1, good) := norOn (1 - s.upd.bank) 0 f s
    if good then
      ok r [] (logEv evUpdBegin r.port.val [wd r.port.val, wAt m 2, wd (manRollback m), wd (manN m)]
        (onUpd (fun u => { u with
          other := .session, otherMan := m
          session := { initSession with st := .loading, port := r.port, man := m, parts := List.replicate (manN m) [] } }) s1))
    else failReq r ⟨13, stMedia, 0xFFFF, 0⟩ (logLoadFail 5 none s1)

/-- UPD.BEGIN (0x0F01). `f` sectors of the session's device fail as they are erased. -/
def execUpdBegin (f : Nat) (s : State) : Host.Outcome State Fault Refusal :=
  .next (serve 0x0F01 chkUpdBegin (actUpdBegin f) s)

/-! ### UPD.CHUNK and UPD.VERIFY (R477, R478) -/

/-- Part index of UPD.CHUNK. -/
def chunkPart (r : Req) : Nat := fld (r.w 3) 31 28
/-- Its data words. -/
def chunkData (r : Req) : List Word := r.words.drop 4
/-- Words received of a part. -/
def gotWords (x : Session) (k : Nat) : List Word := x.parts.getD k []

/-- A part's last word has 0 in its pad bits: `LENGTH` mod 4 octets are significant, from bit 31 down. -/
def padOk (len : Nat) (w : Word) : Bool :=
  if len % 4 = 0 then true else fld w (31 - 8 * (len % 4)) 0 == 0

/-- Every part has been received. -/
def allParts (x : Session) : Bool := (List.range (manN x.man)).all fun k => (gotWords x k).length == partWords x.man k

/-- Checks of UPD.CHUNK and UPD.VERIFY on the session: IDLE, PREPARING, another port, MEDIA owed, and the state. -/
def sessChecks (want : SessSt) (r : Req) (s : State) : List (Option Fail) :=
  [ need 12 (!sessIs s .preparing) stHandover, need 12 (!sessIs s .idle) stNoImage, need 12 (s.upd.session.port == r.port) stBadState,
    need 12 (sessIs s want || s.upd.session.media) stBadState ]

/-- Checks of UPD.CHUNK. -/
def chkUpdChunk (r : Req) (s : State) : Option Fail :=
  let x := s.upd.session
  let k := chunkPart r
  let got := (gotWords x k).length
  let n := (chunkData r).length
  firstFail (updHead 0x0F02 (decide (2 ≤ r.len) && decide (r.len ≤ 1021)) r s ++
    [need 9 (fld (r.w 3) 27 24 == 0) stBadParam 3] ++ sessChecks .loading r s ++
    (if x.media then []
     else
      [ need 12 (decide (k < manN x.man) && fld (r.w 3) 23 0 == got) stBadParam 3,
        need 12 (decide (got + n ≤ partWords x.man k)) stBadParam (4 + (partWords x.man k - got)),
        need 12 (got + n != partWords x.man k || padOk (partLen x.man k) (wAt (chunkData r) (n - 1))) stBadParam (3 + n) ]))

/-- UPD.CHUNK, its checks passed. -/
def actUpdChunk (f : Nat) (r : Req) (s : State) : State :=
  let x := s.upd.session
  if x.media then failReq r ⟨13, stMedia, 0xFFFF, 0⟩ (onSess (fun x => { x with media := false }) s)
  else
    let k := chunkPart r
    let data := gotWords x k ++ chunkData r
    let s1 := onSess (fun x => { x with parts := updAt x.parts k fun _ => data }) s
    let whole := data.length == partWords x.man k
    if whole && sha256 ((octetsOfWords data).take (partLen x.man k)) != partHash x.man k then
      failReq r ⟨13, stVerifyFail, 0xFFFF, k⟩ (sessionFail 4 (some k) s1)
    else
      let (s2, good) := norOn (1 - s.upd.bank) 0 f s1
      if !good then ok r [] (sessionFail 5 (some k) (onSess (fun x => { x with media := true }) s2))
      else ok r [] (if allParts s2.upd.session then onSess (fun x => { x with st := .loaded }) s2 else s2)

/-- UPD.CHUNK (0x0F02). `f` sectors of the session's device fail as the data is written. -/
def execUpdChunk (f : Nat) (s : State) : Host.Outcome State Fault Refusal :=
  .next (serve 0x0F02 chkUpdChunk (actUpdChunk f) s)

/-- Checks of UPD.VERIFY. -/
def chkUpdVerify (r : Req) (s : State) : Option Fail :=
  firstFail (updHead 0x0F03 (r.len == 0) r s ++ sessChecks .loaded r s)

/-- UPD.VERIFY, its checks passed. -/
def actUpdVerify (r : Req) (s : State) : State :=
  if s.upd.session.media then failReq r ⟨13, stMedia, 0xFFFF, 0⟩ (onSess (fun x => { x with media := false }) s)
  else acceptN r (onSess (fun x => { x with st := .verifying, verify := some (r.origin, s.clk.ticks), verified := 0 }) s)

/-- UPD.VERIFY (0x0F03). -/
def execUpdVerify (s : State) : Host.Outcome State Fault Refusal :=
  .next (serve 0x0F03 chkUpdVerify actUpdVerify s)

/-- UPD_VERIFY_COMPLETE (R478): the read-back ends. `matched` has bit k set where part k matches its `HASH`; `readOk` is false where a
read failed. -/
def execUpdVerifyComplete (matched : Nat) (readOk : Bool) (s : State) : Host.Outcome State Fault Refusal :=
  .next
    (let x := s.upd.session
     match x.verify with
     | none => s
     | some (o, since) =>
       let s1 := onSess (fun x => { x with verify := none, verified := maskOf (manN x.man) matched.testBit }) s
       if !readOk then completeFail o ⟨13, stMedia, 0xFFFF, 0⟩ (sessionFail 5 none s1)
       else match (List.range (manN x.man)).find? fun k => !matched.testBit k with
         | some k => completeFail o ⟨13, stVerifyFail, 0xFFFF, k⟩ (sessionFail 4 (some k) s1)
         | none =>
           complete o stOk (wd (manN x.man) :: manDigest x.man)
             (logEv evUpdVerified 0xFF [wAt x.man 2, wd ((s.clk.ticks - since) / 40000)] (onSess (fun x => { x with st := .verified }) s1)))

/-! ### Settings and banks (R470, R482) -/

/-- The settings sets of the module. -/
def ownSets (s : State) : List Nat := allSets.filter fun id => id == 0xFF || blockPresent s.dev.variant id

/-- A set's contents put in place while no unit runs; a changed `PFW_THRESHOLD` is followed at once (R45). -/
def bootSet (id : Nat) (c : Settings) (s : State) : State := followThreshold s (putSettings (mixSet id c (settingsOf s)) s)

/-- The banks exchanged: the set being left stands in the other bank in state `left`, with its settings and its matrix; a set whose
matrix is new is logged (R491). -/
def swapBank (left : BankSt) (man : List Word) (matrix : Nat × List Nat) (s : State) : State :=
  let u := s.upd
  let b := s.bal
  let s1 := { s with
    upd := { u with
      bank := 1 - u.bank, active := man, otherMan := u.active, other := left, otherSettings := settingsOf s
      otherStates := s.cmd.setState, otherMatrix := (b.matrixVer, b.matrix) }
    bal := { b with matrixVer := matrix.1, matrix := matrix.2 } }
  if matrix = (b.matrixVer, b.matrix) then s1 else logNs evBallastMatrix 0xFF [b.matrixVer, matrix.1] s1

/-- The matrix that the session's set brings: its type 7 part. -/
def sessionMatrix (x : Session) : Nat × List Nat :=
  match (List.range (manN x.man)).find? fun k => partType x.man k == 7 with
  | some k => (manMatrix x.man, (List.range 10).map fun a => Config.matrixRows (gotWords x k) (a + 1))
  | none => (manMatrix x.man, [])

/-- Settings in a new bank (R482): a set whose schema changes takes its defaults. The number of sets reset is answered too. -/
def newSettings (put : Nat → Settings → State → State) (old new : List Word) (s : State) : State × Nat :=
  let diff := (ownSets s).filter fun id => schemaOf old id != schemaOf new id
  (diff.foldl (fun s id =>
    logNs evSettingsReset 0xFF [id, schemaOf old id, schemaOf new id, 0] (markSet id 2 (put id initSettings s))) s, diff.length)

/-- Settings when a rollback returns to a bank (R482): a set of equal schema whose CRC verifies is copied back, any other keeps the copy
the bank held. The number of sets copied is answered too. -/
def backSettings (put : Nat → Settings → State → State) (crcBad : List Nat) (left new : List Word) (c : Settings) (st : Tbl Nat) (s : State) :
    State × Nat :=
  let keep := (ownSets s).filter fun id => schemaOf left id == schemaOf new id && !crcBad.contains id
  (((ownSets s).filter fun id => !keep.contains id).foldl (fun s id => markSet id ((tget st id).getD 0) (put id c s)) s, keep.length)

/-- The set of the session takes over, on trial (R481, R482, R483): the state and the number of sets reset. -/
def enterTrial (left : BankSt) (put : Nat → Settings → State → State) (trialS : Nat) (s : State) : State × Nat :=
  let x := s.upd.session
  let s1 := swapBank left x.man (sessionMatrix x) s
  newSettings put s.upd.active x.man (onUpd (fun u => { u with
    trial := true, trialS := trialS, trialRun := 0, trialBoots := 0, session := { x with st := .trial, verify := none } }) s1)

/-- The set of the session takes over because the candidate did not pass (R59), confirmed: the session ends. Settings as for any new set
(R482). DESIGN CHOICE (log entry 20, on the banks): R484 speaks of a STANDBY bank only, R59 of any bank that passes. -/
def enterSession (left : BankSt) (put : Nat → Settings → State → State) (s : State) : State × Nat :=
  let x := s.upd.session
  let s1 := swapBank left x.man (sessionMatrix x) s
  newSettings put s.upd.active x.man (onUpd (fun u => { u with
    trial := false, trialS := 0, trialRun := 0, trialBoots := 0, session := initSession }) s1)

/-- The set of the other bank takes over by a rollback, confirmed (R484, R485): the state and the number of sets copied back. A session
in TRIAL ends. -/
def enterStandby (left : BankSt) (put : Nat → Settings → State → State) (crcBad : List Nat) (s : State) : State × Nat :=
  let u := s.upd
  let s1 := swapBank left u.otherMan u.otherMatrix s
  backSettings put crcBad u.active u.otherMan u.otherSettings u.otherStates (onUpd (fun v => { v with
    trial := false, trialS := 0, trialRun := 0, trialBoots := 0
    session := if v.session.st == .trial then initSession else v.session }) s1)

/-! ### Confirmation (R483) -/

/-- The trial set is confirmed, with its cause: 0 time, 1 command. -/
def confirmTrial (cause : Nat) (s : State) : State :=
  let u := s.upd
  let want := manFloor u.active
  let raise := decide (u.floor < want)
  let floor := if raise && decide (0 < u.floorLeft) then want else u.floor
  let s1 := onUpd (fun u => { u with
    trial := false, trialS := 0, trialRun := 0, trialBoots := 0, other := .standby, session := initSession, floor := floor
    floorLeft := if raise then u.floorLeft - 1 else u.floorLeft }) s
  let s2 := logEv evUpdConfirmed 0xFF [wAt u.active 2, wd cause, wd u.floor, wd floor] s1
  if raise && u.floorLeft == 0 then logNs evUpdFloorFull 0xFF [want] s2 else s2

/-- TRIAL_CONFIRM (R483): the set has run `TRIAL_S` seconds in RUN, DEGRADED or SERVICE. -/
def execTrialConfirm (s : State) : Host.Outcome State Fault Refusal :=
  .next
    (if s.upd.trial && served s && decide (s.upd.trialS * 40000000 ≤ s.upd.trialRun) then confirmTrial 0 s else s)

/-! ### Activation and rollback accepted (R479, R485, R487) -/

/-- The bank that a window enters. -/
def bankEntered (s : State) : Nat := 1 - s.upd.bank

/-- The activation or rollback is over: its admission and its entry go. -/
def dropAct (s : State) : State :=
  onUpd (fun u => { u with act := none })
    (stopAct 4 (bankEntered s) (tlCancel (fun k => match k with | .handover => true | _ => false) s))

/-- An activation ends before its window opens, with `LAST_OUTCOME` and `CAUSE`: 2 aborted, 3 not prepared. The window's cycles in its
record are free values. -/
def endUnopened (cause : Nat) (a : Activation) (s : State) : State :=
  let (v, s1) := freshNat s
  let (w, s2) := freshNat s1
  completeFail a.org ⟨13, stAbandoned, 0xFFFF, cause⟩
    (logNs evUpdActivate 0xFF [cause, v, w, s.upd.bank] (onUpd (fun u => { u with lastOutcome := cause }) (dropAct s2)))

/-- `OP` of UPD.ACTIVATE. -/
def actOp (r : Req) : Nat := fld (r.w 3) 31 30
/-- `TRIAL_S` in force. -/
def actTrial (r : Req) : Nat := if r.w 4 = 0 then 3600 else (r.w 4).toNat

/-- UPD.ACTIVATE in BOOT_HALT (R487): the VERIFIED set is the candidate, on trial, and BOOT repeats from step 5. The bank being left did
not pass and holds nothing usable. -/
def activateHalted (r : Req) (s : State) : State :=
  let flags := flagsByte s
  let (s1, n) := enterTrial .empty bootSet (actTrial r) s
  let c := cycOf s
  let s2 := onUpd (fun u => { u with lastOpen := c, lastReset := n, lastLate := 0, lastOutcome := 0 })
    { s1 with pwr := { s1.pwr with bootHalt := false, bootStep := .verify } }
  let s3 := reportMode s.pwr.mode flags 0 (logNs evUpdActivate 0xFF [0, c, c, s2.upd.bank] s2)
  complete r.origin stOk [packW [(n, 8), (s3.upd.bank, 0)], wd c, wd c, wAt s3.upd.active 2, wd (actTrial r)] (acceptN r s3)

/-- Checks of UPD.ACTIVATE. -/
def chkUpdActivate (r : Req) (s : State) : Option Fail :=
  let t := (r.w 4).toNat
  firstFail (updHead 0x0F04 (r.len == 2) r s ++
    [ need 9 (decide (actOp r ≤ 1) && fld (r.w 3) 29 0 == 0) stBadParam 3,
      need 9 (t == 0 || (actOp r == 0 && decide (60 ≤ t) && decide (t ≤ 604800))) stBadParam 4,
      need 9 (!r.aac || (actOp r == 0 && !s.pwr.bootHalt)) stBadParam 2, aacCheck r s ] ++
    (if actOp r = 1 then [need 12 (sessIs s .trial) stBadState]
     else
      [ need 12 (!sessIs s .preparing) stHandover, need 12 (sessIs s .idle || s.upd.session.port == r.port) stBadState,
        need 12 (sessIs s .verified) stNoImage ]))

/-- UPD.ACTIVATE, its checks passed. -/
def actUpdActivate (r : Req) (s : State) : State :=
  if actOp r = 1 then okN r [] (confirmTrial 1 s)
  else if s.pwr.bootHalt then activateHalted r s
  else admitReq 4 (bankEntered s) r (fun s =>
    acceptN r (onUpd (fun u => { u with
      session := { u.session with st := .preparing }
      act := some ⟨false, r.origin, r.target, false, actTrial r, none, false⟩ }) s)) s

/-- UPD.ACTIVATE (0x0F04). -/
def execUpdActivate (s : State) : Host.Outcome State Fault Refusal :=
  .next (serve 0x0F04 chkUpdActivate actUpdActivate s)

/-- Checks of UPD.ROLLBACK. -/
def chkUpdRollback (r : Req) (s : State) : Option Fail :=
  firstFail (updHead 0x0F06 (r.len == 0) r s ++
    [ need 12 (!sessIs s .preparing) stHandover, need 12 (s.upd.other == .standby) stNoImage,
      need 12 (decide (s.upd.floor ≤ manRollback s.upd.otherMan)) stRollbackFloor ])

/-- UPD.ROLLBACK, its checks passed. -/
def actUpdRollback (r : Req) (s : State) : State :=
  admitReq 4 (bankEntered s) r (fun s =>
    acceptN r (onUpd (fun u => { u with act := some ⟨true, r.origin, none, false, 0, none, false⟩ }) s)) s

/-- UPD.ROLLBACK (0x0F06). -/
def execUpdRollback (s : State) : Host.Outcome State Fault Refusal :=
  .next (serve 0x0F06 chkUpdRollback actUpdRollback s)

/-- Checks of UPD.ABORT. -/
def chkUpdAbort (r : Req) (s : State) : Option Fail :=
  firstFail (updHead 0x0F07 (r.len == 0) r s ++
    [need 12 (!(sessIs s .idle || sessIs s .verifying || sessIs s .handover || sessIs s .trial)) stBadState])

/-- UPD.ABORT, its checks passed. -/
def actUpdAbort (r : Req) (s : State) : State :=
  let s1 := logNs evUpdAbort r.port.val [r.port.val, sessCode s.upd.session.st] (ok r [] s)
  let s2 := match s1.upd.act with
    | some a => if sessIs s .preparing then endUnopened 2 a s1 else s1
    | none => s1
  emptyBank (endSession s2)

/-- UPD.ABORT (0x0F07). -/
def execUpdAbort (s : State) : Host.Outcome State Fault Refusal :=
  .next (serve 0x0F07 chkUpdAbort actUpdAbort s)

/-- Checks of UPD.STATUS. -/
def chkUpdStatus (r : Req) (s : State) : Option Fail :=
  firstFail (updHead 0x0F05 (r.len == 0) r s)

/-- UPD.STATUS, its checks passed. -/
def actUpdStatus (r : Req) (s : State) : State :=
  let u := s.upd
  let x := u.session
  let live := x.st != .idle
  let got := if live then ((List.range (manN x.man)).map fun k => Nat.min (4 * (gotWords x k).length) (partLen x.man k)).sum else 0
  let left := if u.trial then (u.trialS * 40000000 - u.trialRun + 39999999) / 40000000 else 0
  ok r [ packW [(sessCode x.st, 28), (u.bank, 27), (bankCode u.other, 25), (b2n u.trial, 24),
           (maskOf 7 fun k => decide (k < manN x.man) && (gotWords x k).length == partWords x.man k, 16), (x.verified, 9), (x.port.val, 0)],
         wAt u.active 2, packW [(manRollback u.active, 16), (u.floor, 0)], wAt u.otherMan 2,
         packW [(manRollback u.otherMan, 16), (manFloor u.active, 0)], wd got, wd (manTotal x.man), wd left,
         packW [(sat 8 u.trialBoots, 24), (u.floorLeft, 16), (s.bal.matrixVer, 0)], wd u.lastOpen,
         packW [(u.lastReset, 16), (u.lastLate, 8), (u.lastOutcome, 0)], 0 ] s

/-- UPD.STATUS (0x0F05). -/
def execUpdStatus (s : State) : Host.Outcome State Fault Refusal :=
  .next (serve 0x0F05 chkUpdStatus actUpdStatus s)

/-! ### Preparation (R479) -/

/-- PREPARATION_COMPLETE (R479): every part is preloaded, and the opening is posted: at the target of `AAC`, or at the first boundary at
least 2 cycles on. A post that is refused for lack of space (R87) leaves the activation in preparation: DESIGN CHOICE (log entry 87, on updates),
the post is made again, until the deadline of R479 where there is one. -/
def execPreparationComplete (s : State) : Host.Outcome State Fault Refusal :=
  .next
    (match s.upd.act with
     | none => s
     | some a =>
       let inTime := match a.target with | some t => decide (s.tt.tt ≤ (t - 1) * 4096) | none => true
       if a.prepared || !inTime || !served s then s
       else
         let t := a.target.getD (ceilCyc (s.tt.tt + 2 * 4096))
         match tlPost (t * 4096) 2 0x12 .handover (onUpd (fun u => { u with act := some { a with prepared := true, target := some t } }) s) with
         | some s1 => s1
         | none => tlFull 0x12 2 s)

/-- PREPARATION_DEADLINE (R476, R479): preparation is not complete by phase 0 of the target − 1 cyc. -/
def execPreparationDeadline (s : State) : Host.Outcome State Fault Refusal :=
  .next
    (match s.upd.act with
     | none => s
     | some a => match a.target with
       | none => s
       | some t => if a.prepared || decide (s.tt.tt < (t - 1) * 4096) then s else emptyBank (endSession (endUnopened 3 a s)))

/-! ### The window (R480, R481) -/

/-- An engine handles a frame or an ACK: RECEIVE, TRANSMIT, or ACCESS with listen-before-talk running. -/
def engineBusy (s : State) (n : Nat) : Bool :=
  let e := ceOf s n
  match e.st with
  | .receive => true
  | .transmit => true
  | .access => e.adm.isSome
  | .rest => false

/-- The engines busy now, as a mask. -/
def busyMask (s : State) : Nat := maskOf (engineCount s.dev.variant) (engineBusy s)

/-- HANDOVER_OPEN (R479, R480): the rank 2 entry. Idle engines change over; busy ones are late. -/
def execHandoverOpen (s : State) : Host.Outcome State Fault Refusal :=
  .next (tlFire (fun k e => match k with
    | .handover => some fun s => match s.upd.act with
      | none => s
      | some a => settleMode s 0 (onUpd (fun u => { u with
          windowOpen := true, openCyc := e.target / 4096, late := busyMask s
          session := if a.rollback then u.session else { u.session with st := .handover } }) s)
    | _ => none) s)

/-- ENGINE_CHANGEOVER (R480): a late engine's frame or ACK has ended. -/
def execEngineChangeover (n : Nat) (s : State) : Host.Outcome State Fault Refusal :=
  .next (if s.upd.late.testBit n && !engineBusy s n then onUpd (fun u => { u with late := setBit u.late n false }) s else s)

/-- FIRMWARE_READY (R481): the new firmware has taken the handover record. -/
def execFirmwareReady (s : State) : Host.Outcome State Fault Refusal :=
  .next
    (match s.upd.act with
     | none => s
     | some a =>
       if s.upd.windowOpen && a.ready.isNone && !a.timedOut && decide (s.tt.tt ≤ (s.upd.openCyc + 7) * 4096) then
         onUpd (fun u => { u with act := some { a with ready := some (cycOf s) } }) s
       else s)

/-- HANDOVER_TIMEOUT (R481, R485): no report by phase 0 of the target + 7. The old firmware resumes, and each part is swapped back;
where it cannot, or in a rollback, the module resets with cause 0x08: into the old bank, or into the STANDBY bank. `crcBad` lists
settings sets whose CRC does not verify (R482). -/
def execHandoverTimeout (resumes : Bool) (crcBad : List Nat) (s : State) : Host.Outcome State Fault Refusal :=
  .next
    (match s.upd.act with
     | none => s
     | some a =>
       if !s.upd.windowOpen || a.ready.isSome || a.timedOut || decide (s.tt.tt < (s.upd.openCyc + 7) * 4096) then s
       else if a.rollback then
         let old := s.upd.active
         let (s1, n) := enterStandby .standby bootSet crcBad (internalReset false 8 s)
         logEv evUpdRollback 0xFF [wd 2, wAt old 2, wAt s1.upd.active 2, wd n] s1
       else if resumes then
         onUpd (fun u => { u with
           late := maskOf 64 fun n => engineBusy s n && !u.late.testBit n && decide (n < engineCount s.dev.variant)
           act := some { a with timedOut := true } }) s
       else internalReset false 8 s)

/-- The window closed: its admission ends, held contacts and notifications follow, and the mode is the one R62 now gives. -/
def closeWindow (cause open_ : Nat) (s : State) : State :=
  let s1 := dropAct s
  let s2 := onUpd (fun u => { u with windowOpen := false, lastOpen := open_, lastLate := ((List.range 64).filter u.late.testBit).length }) s1
  deliverHeld (lateContacts (settleMode s cause s2))

/-- HANDOVER_CLOSE (R481, R482, R485): phase 0 of the cycle after the report, or of the target + 8 after a timeout. `crcBad` lists
settings sets whose CRC does not verify. -/
def execHandoverClose (crcBad : List Nat) (s : State) : Host.Outcome State Fault Refusal :=
  .next
    (match s.upd.act with
     | none => s
     | some a =>
       let c := cycOf s
       let o := s.upd.openCyc
       if !s.upd.windowOpen then s
       else match a.ready with
         | some k =>
           if c ≤ k then s
           else if a.rollback then
             let old := s.upd.active
             let (s1, n) := enterStandby .standby liveSet crcBad (closeWindow 0x1206 o s)
             complete a.org stOk [packW [(n, 8), (s1.upd.bank, 0)], wd o, wd c]
               (logEv evUpdRollback 0xFF [wd 0, wAt old 2, wAt s1.upd.active 2, wd n] s1)
           else
             let (s1, n) := enterTrial .standby liveSet a.trialS (closeWindow 0x1204 o s)
             let s2 := onUpd (fun u => { u with lastReset := n, lastOutcome := 0 }) s1
             complete a.org stOk
               [packW [(s2.upd.lastLate, 16), (n, 8), (s2.upd.bank, 0)], wd o, wd c, wAt s2.upd.active 2, wd a.trialS]
               (logNs evUpdActivate 0xFF [0, o, c, s2.upd.bank] s2)
         | none =>
           if !a.timedOut || decide (s.tt.tt < (o + 8) * 4096) then s
           else
             let s1 := onUpd (fun u => { u with lastReset := 0, lastOutcome := 1, session := { u.session with st := .verified } })
               (closeWindow 0x1204 o s)
             completeFail a.org ⟨13, stAbandoned, 0xFFFF, 1⟩ (logNs evUpdActivate 0xFF [1, o, c, s1.upd.bank] s1))

end Sys2Proof.Machine
end

