-- ==== Sys2Proof/Machine/Take.lean ====
section
/-!
DEFINITION. The taking of requests and the beginning of their execution (05 R137 to R142; 06 R158, R159, R167, R169, R170), reads of the
return queues (05 R146), writes of window registers (05 R131, R132), and the flush of a port (05 R147).
-/
namespace Sys2Proof.Machine

/-! ### The choice of the next message (R138, R139, R142) -/

/-- Requests are taken: after BOOT and outside HANDOVER windows, or while BOOT is halted, when the recovery commands are served (R59,
R139). -/
def takesOpen (s : State) : Bool := (served s || s.pwr.bootHalt) && !s.upd.windowOpen

/-- A request queue of a port holds a message that may be taken now: while `PFW` is set, only Q0 and Q3 are taken (R139). -/
def queueOpen (s : State) (q : PortSt) (k : Nat) : Bool :=
  !(q.req k).msgs.isEmpty && (!s.pwr.flush.pfw || k == 0 || k == 3)

/-- The queue a port offers next. A request that waits for its reservation lets no other past (R142); else Q0, a queue passed over on 8
consecutive takes, and Q1, Q3, Q2 (R138). -/
def nextQueue (s : State) (q : PortSt) : Option Nat :=
  if q.pause then none
  else if q.takeBlocked && !(q.req q.blockedQ).msgs.isEmpty then (if queueOpen s q q.blockedQ then some q.blockedQ else none)
  else if queueOpen s q 0 then some 0
  else
    match [1, 3, 2].find? fun k => queueOpen s q k && decide (8 ≤ (q.req k).passed) with
    | some k => some k
    | none => [1, 3, 2].find? fun k => queueOpen s q k

/-- Words to reserve for a request: its longest response and completion notification; 3 for an unknown opcode (R141). -/
def reserveFor (m : List Word) : Nat × Nat :=
  match opRow (fld (wAt m 0) 31 16) with
  | some row => (row.rsp, row.ntf)
  | none => (3, 0)

/-- The holding area of a port in words: 1 MiB (R141). -/
def holdCap : Nat := 262144

/-- The reservation of the message at the front of a queue fits. -/
def reserveFits (q : PortSt) (k : Nat) : Bool :=
  let n := reserveFor ((q.req k).msgs.headD [])
  decide (q.reserved + n.1 + n.2 ≤ holdCap)

/-- The ports in turn after the one last served. -/
def portsAfter (last : Nat) : List (Fin 4) := [1, 2, 3, 4].map fun d => Fin.ofNat 4 (last + d)

/-- The first port, in turn, whose offer is of the kind asked for and whose reservation fits. -/
def pickPort (s : State) (last : Nat) (urgent : Bool) : Option (Fin 4 × Nat) :=
  (portsAfter last).findSome? fun p =>
    let q := s.ports.get p
    match nextQueue s q with
    | some k => if (k == 0) == urgent && reserveFits q k then some (p, k) else none
    | none => none

/-- `TAKE_BLOCKED` as this take decision finds it (R141, R142). -/
def PortSt.judge (s : State) (q : PortSt) : PortSt :=
  match nextQueue s q with
  | some k => { q with takeBlocked := !reserveFits q k, blockedQ := k }
  | none => { q with takeBlocked := q.takeBlocked && !(q.req q.blockedQ).msgs.isEmpty }

/-- A message leaves its queue; the port's other queues that hold messages have been passed over once more. -/
def PortSt.takeFrom (k : Nat) (q : PortSt) : PortSt :=
  let upd := fun (i : Nat) (x : ReqQueue) =>
    if i = k then { x with msgs := x.msgs.tail, passed := 0 }
    else { x with passed := if x.msgs.isEmpty then 0 else x.passed + 1 }
  PortSt.refresh { q with q0 := upd 0 q.q0, q1 := upd 1 q.q1, q2 := upd 2 q.q2, q3 := upd 3 q.q3 }

/-! ### The beginning of execution -/

/-- The target of a request with `AAC` = 1, reconstructed at its take (R13, R158). -/
def takeTarget (s : State) (m : List Word) : Option Nat :=
  let d := (fld (wAt m 2) 15 0 + 65536 - cycOf s % 65536) % 65536
  if bit (wAt m 2) 30 && decide (1 ≤ d) && decide (d ≤ 32767) then some (cycOf s + d) else none

/-- The chunks of an open set's corridor images as they would stand after the commands staged before. -/
def stagedView (o : CfgSet) (s : State) : State :=
  o.staged.foldl (fun s x => if x.opcode = 0x0801 then keepChunk x s else s) s

/-- What refuses a staged command: the checks 1 to 11, its `AAC`, or the limits of a set (R169, R170). -/
def stageFail (r : Req) (o : CfgSet) (s : State) : Option Fail :=
  let early := (chkS r (stagedView o s)).filter fun f => decide (f.chk ≤ if r.aac then 4 else 11)
  firstFail
    [ early, need 5 (!r.aac) stBadParam 2,
      need 13 (decide (o.staged.length < 16384) && decide (o.words + r.words.length ≤ 524288)) stFull ]

/-- A command marked S staged into the port's open set, or refused, which breaks the set (R169). -/
def stage (r : Req) (o : CfgSet) (s : State) : State :=
  let put := fun (o : CfgSet) => onPort r.port (fun q => { q with openSet := some { o with since := s.clk.ticks } }) s
  match stageFail r o s with
  | some f => failReq r f (put { o with broken := if o.broken.isSome then o.broken else some (o.staged.length + 1) })
  | none =>
    let whole := { r with resRsp := r.resRsp + r.resNtf, resNtf := 0 }
    endOrdered r.port r.id (accept whole (put { o with staged := o.staged ++ [r], words := o.words + r.words.length }))

/-- The execution of a request begins: an unknown opcode is refused, a command marked S goes into the port's open set, and any other waits
for the row that executes it (R167, R169). -/
def beginReq (r : Req) (s : State) : State :=
  let out := { s with cmd := { s.cmd with taken := s.cmd.taken.filter fun x => x.id != r.id } }
  match opRow r.opcode with
  | none => failReq r ⟨1, stBadOpcode, 0xFFFF, 0⟩ out
  | some row =>
    match (s.ports.get r.port).openSet with
    | some o => if row.markS then stage r o out else s
    | none => s

/-- No request waits to be executed: the module takes one request, executes it, and takes the next. -/
def cmdIdle (s : State) : Bool := (firstReady s.cmd.taken).isNone

/-- A message taken (R137 to R142, R158). -/
def takeMsg (p : Fin 4) (k : Nat) (s : State) : State :=
  let m := ((s.ports.get p).req k).msgs.headD []
  let n := reserveFor m
  let ordered := bit (wAt m 2) 31
  let ready := !ordered || !(s.cmd.ordered.any fun x => x.1 == p)
  let r : Req :=
    { port := p, queue := k, words := m, target := takeTarget s m, id := s.cmd.nextId, ready := ready, resRsp := n.1, resNtf := n.2 }
  let c := s.cmd
  let s1 := onPort p (fun q => { PortSt.takeFrom k q with reserved := q.reserved + n.1 + n.2, inflight := q.inflight + 1 })
    { s with cmd := { c with
        taken := c.taken ++ [r], nextId := c.nextId + 1
        ordered := if ordered then c.ordered ++ [(p, c.nextId)] else c.ordered
        rrUrgent := if k = 0 then p.val else c.rrUrgent, rrOther := if k = 0 then c.rrOther else p.val } }
  if ready then beginReq r s1 else s1

/-- REQUEST_TAKE: one take decision. -/
def execRequestTake (s : State) : Host.Outcome State Fault Refusal :=
  .next
    (if takesOpen s && cmdIdle s then
       let s1 := { s with ports := s.ports.map fun q => q.judge s }
       match pickPort s s.cmd.rrUrgent true with
       | some (p, k) => takeMsg p k s1
       | none => match pickPort s s.cmd.rrOther false with
         | some (p, k) => takeMsg p k s1
         | none => s1
     else s)

/-- ORDERED_EXECUTION_START (R159): the first request, in take order, whose earlier ordered requests have all completed; none begins in a
HANDOVER window, whose requests are held (R66). -/
def execOrderedExecutionStart (s : State) : Host.Outcome State Fault Refusal :=
  .next
    (let free := fun (r : Req) => !r.ready && (s.cmd.ordered.find? fun x => x.1 == r.port) == some (r.port, r.id)
     match s.cmd.taken.find? free with
     | none => s
     | some r =>
       if cmdIdle s && takesOpen s then
         beginReq { r with ready := true }
           { s with cmd := { s.cmd with taken := s.cmd.taken.map fun x => if x.id = r.id then { x with ready := true } else x } }
       else s)

/-! ### Return queues (R146) -/

/-- A response of CAN.READ leaves the response queue: its buffer's lock is released (R388). -/
def releaseLock (m : RMsg) (s : State) : State :=
  match m.canLock with
  | some (p, b) => if (bufOf s p b).locked then canUnlock p b s else s
  | none => s

/-- The head message popped by one word, and the word; 0 and no effect on an empty queue. -/
def popWord (r : Nat) (q : PortSt) : PortSt × Word :=
  let x := q.ret r
  match x.msgs with
  | [] => (q, 0)
  | m :: _ =>
    (if x.popped + 1 < m.words.length then q.setRet r { x with popped := x.popped + 1 } else dropHead r q, wAt m.words x.popped)

/-- The lock of the head message, when the next pop removes it. -/
def popLock (r : Nat) (q : PortSt) (s : State) : State :=
  let x := q.ret r
  match x.msgs with
  | [] => s
  | m :: _ => if x.popped + 1 < m.words.length then s else releaseLock m s

/-- The head message discarded. -/
def discardHead (p : Fin 4) (r : Nat) (s : State) : State :=
  match ((s.ports.get p).ret r).msgs with
  | [] => s
  | m :: _ => releaseLock m (onPort p (dropHead r) s)

/-- Every message of a return queue discarded; held messages stay. -/
def discardAll (p : Fin 4) (r : Nat) (s : State) : State :=
  ((s.ports.get p).ret r).msgs.foldl (fun s m => releaseLock m s)
    (onPort p (fun q => (q.setRet r { q.ret r with msgs := [], popped := 0 }).refresh) s)

/-- RSP_DISCARD_HEAD. -/
def execRspDiscardHead (p : Fin 4) (r : Fin 2) (s : State) : Host.Outcome State Fault Refusal :=
  .next (if portUp s p then onPort p breakWrite (discardHead p r.val s) else s)

/-- RSP_DISCARD_ALL. -/
def execRspDiscardAll (p : Fin 4) (r : Fin 2) (s : State) : Host.Outcome State Fault Refusal :=
  .next (if portUp s p then onPort p breakWrite (discardAll p r.val s) else s)

/-! ### Flush (R147, R174, R408) -/

/-- The effect of `FLUSH`: queues, reservations and diagnostics, the sets and the freeze of the port, the locks of CAN.READ responses
discarded, and the expected sequence number (R274). -/
def flushPort (p : Fin 4) (s : State) : State :=
  let q := s.ports.get p
  let gone := q.rsp.msgs ++ q.rsp.held.map fun h => h.msg
  let s1 := gone.foldl (fun s m => releaseLock m s)
    (onPort p (fun q => { flushQueues q with takeBlocked := false, blockedQ := 0 }) s)
  let s2 := logNs evPortFlush p.val (p.val :: flushCounts q) s1
  endFreeze p 2 (dropSets p 1 { s2 with txn := { s2.txn with expect := s2.txn.expect.put p 0 } })

/-- PORT_FLUSH. -/
def execPortFlush (p : Fin 4) (s : State) : Host.Outcome State Fault Refusal :=
  .next (if portUp s p then onPort p breakWrite (flushPort p s) else s)

/-! ### Register writes -/

/-- A 32-bit write to a window offset (R132): read-only registers and unlisted offsets ignore it, and reserved bits stay 0 (R20). -/
def writeReg (p : Fin 4) (off : Nat) (w : Word) (s : State) : State :=
  if off = 0x010 then
    let s1 := onPort p (fun q => { q with pause := bit w 8, irqOutEn := bit w 0 }) s
    if bit w 4 then flushPort p s1 else s1
  else if off = 0x020 then onPort p (clearInt w) s
  else if off = 0x024 then onPort p (fun q => { q with intEn := w &&& 0xF0F3#32 }) s
  else if 0x100 ≤ off ∧ off < 0x180 then
    let k := (off - 0x100) / 0x20
    let i := (off - 0x100) % 0x20
    if i = 0 then onPort p (pushWord k w) s else if i = 4 then writeCommit p k w s else s
  else if off = 0x18C ∨ off = 0x1AC then
    let r := (off - 0x180) / 0x20
    if bit w 1 then discardAll p r s else if bit w 0 then discardHead p r s else s
  else s

end Sys2Proof.Machine
end

