-- ==== Sys2Proof/Machine/Power.lean ====
section
/-!
DEFINITION. Supply, power fail and its flush sequence, resets, BOOT step by step, and the host watchdogs (02; 01 R27, R28, R37; and what
the other chapters place at a step of BOOT).
-/
namespace Sys2Proof.Machine

/-! ### Resets (R54 to R58) -/

/-- RESET_N_ASSERT (R54): RESET_N has been low for `us` µs. At 10 µs the module resets; between 1 and 10 µs it may or may not. -/
def execResetNAssert (us : Nat) (s : State) : Host.Outcome State Fault Refusal :=
  .next
    (let may := decide (1 ≤ us) && Config.pulseResets s.clk.free
     if 10 ≤ us ∨ may = true then
       let s1 := { s with clk := { s.clk with free := s.clk.free + 1 } }
       let s2 := if alive s1 && !(s1.pwr.bootStep == .inReset) then enterReset false 3 .inReset s1.pwr.puCause.isSome s1 else s1
       { s2 with pwr := { s2.pwr with resetLow := true } }
     else { s with clk := { s.clk with free := s.clk.free + 1 } })

/-- RESET_N_RELEASE (R54, R56): BOOT with cause 0x03, or with the cause of the power-up whose BOOT was interrupted. -/
def execResetNRelease (s : State) : Host.Outcome State Fault Refusal :=
  .next
    (let s1 := { s with pwr := { s.pwr with resetLow := false } }
     if s.pwr.bootStep == .inReset then
       logNs evReset 0xFF [3] { s1 with pwr := { s1.pwr with
         bootStep := if s1.pwr.pgood then .phase else .rails, cause := s1.pwr.puCause.getD 3 } }
     else s1)

/-- The rails are down: PGOOD and PFW_N low, V33_AUX off (R44). -/
def railsDown (s : State) : State :=
  { s with pwr := { s.pwr with pgood := false, v33aux := false, pfwN := false }, rtc := { s.rtc with winWhole := false } }

/-- RAIL_FAULT (R55): a cold reset with cause 0x02, with the rails to ramp again. -/
def execRailFault (s : State) : Host.Outcome State Fault Refusal :=
  .next
    (if !alive s then s
     else if s.pwr.bootStep == .inReset then
       let s1 := { s with pwr := { s.pwr with sealed := false }, log := s.log.stop false, lat := latReset true s }
       railsDown (if s.pwr.sealed then flushIncomplete 0 (unwritten s.log) s1 else s1)
     else railsDown (logNs evReset 0xFF [2] (enterReset true 2 .rails false s)))

/-- SOFTWARE_RESET: 10 ms after SYS.RESET, a warm reset with cause 0x04. -/
def execSoftwareReset (s : State) : Host.Outcome State Fault Refusal :=
  .next (match s.pwr.resetAt with
    | some t => if t ≤ s.clk.ticks then internalReset false 4 s else s
    | none => s)

/-- CORE_WATCHDOG_EXPIRY (R55). -/
def execCoreWatchdogExpiry (s : State) : Host.Outcome State Fault Refusal := .next (if fwRuns s then internalReset false 5 s else s)

/-- The secure pair runs: from step 4 of BOOT. -/
def securePairRuns (s : State) : Bool :=
  match s.pwr.bootStep with
  | .off => false | .inReset => false | .rails => false | .phase => false | .fuses => false | _ => true

/-- LOCKSTEP_MISMATCH (R55): warm for a control pair, cold for the secure pair. -/
def execLockstepMismatch (securePair : Bool) (s : State) : Host.Outcome State Fault Refusal :=
  .next
    (if securePair then (if securePairRuns s then internalReset true 7 s else s)
     else if fwRuns s then internalReset false 6 s else s)

/-- The world of the firmware that makes an access: of a port for block 0x03, of an engine for block 0x06 (R433). -/
def accessorSecure (s : State) (block inst : Nat) : Bool :=
  if block = 3 then portSecure s (Fin.ofNat 4 inst) else if block = 6 then s.key.worlds.engines.testBit inst else blockSecure s block

/-- FIREWALL_VIOLATION (R433): firmware of a non-secure item has touched a secure region of DRAM, or a secure partition. -/
def execFirewallViolation (part : Bool) (item block inst : Nat) (s : State) : Host.Outcome State Fault Refusal :=
  .next
    (if fwRuns s && !accessorSecure s block inst && (if part then partSecure s item else regionSecure s item) then
       internalReset false 0xD (logNs evWorldViolation 0xFF [item, block] s)
     else s)

/-! ### Power fail (R45 to R50) -/

/-- The endpoint records that differ from their copies in the LATTICE partition, at most 2 MiB of them at 128 octets each, the lowest
indices first (R48 step 5). DESIGN CHOICE: the spec does not say which dirty records are left where there are more. -/
def dirtyRecs (s : State) : Tbl EpRec :=
  (s.lat.recs.filter fun x =>
    match tget s.lat.nand x.1 with | some v => v != withVolatile v x.2 | none => false).take 16384

/-- Step `k` of the flush sequence (R48); steps 5 and 6 belong to the extended class. Each completes without a media failure. -/
def flushStep (s : State) (k : Nat) : State :=
  let ext := s.pwr.straps.getLsbD 6
  let did := fun (s : State) => { s with pwr := { s.pwr with flush := { s.pwr.flush with step := k } } }
  match k with
  | 1 => did (radioAbort s)
  | 2 => did (if s.mtr.cyc.isSome then trySave 1 0 s else s)
  | 3 => did (confirmCeilings (writeJournal s))
  | 4 =>
    let s1 := if s.log.started && !s.log.appendBlocked then drain (if ext then 262144 else 65536) s else s
    did (if s.log.started then { s1 with log := writeSummary s1.log } else s1)
  | 5 => if ext then did (writeVolatile (dirtyRecs s) s) else s
  | 6 =>
    if ext then did { s with lat := { s.lat with journal := (s.txn.txns.filter fun t => !t.query).map fun t => t.ep } } else s
  | 7 => did { s with pwr := { s.pwr with mark := some 7 } }
  | _ => s

/-- PFW_ASSERT (R46, R48): VIN falls below V_PFW_EFF and the flush sequence runs, as far as step `steps`: to step 7 unless VIN falls below
VIN_OFF first. Before step 6 of BOOT only the pad follows. -/
def execPfwAssert (vin steps : Nat) (s : State) : Host.Outcome State Fault Refusal :=
  .next
    (if alive s && decide (vin < s.pwr.vPfwEff * 10) && !s.pwr.flush.pfw then
       let s1 := { s with pwr := { s.pwr with vin := vin, pfwN := false, pfwOkSince := some s.clk.ticks } }
       if !fwRuns s then s1
       else
         let s2 := settleMode s1 evPfw { s1 with pwr := { s1.pwr with flush := ⟨true, 0, s.clk.ticks⟩ } }
         let s3 := allPorts.foldl (fun s p => endFreeze p 3 s) s2
         ([1, 2, 3, 4, 5, 6, 7].filter fun k => decide (k ≤ steps)).foldl flushStep s3
     else s)

/-- Duration of the power-fail state in ms. -/
def pfwMs (s : State) : Nat := (s.clk.ticks - s.pwr.flush.since) / 40000

/-- The power-fail state ends with the module in service: transmission restarts, and the mark no longer stands (R49). -/
def pfwEnd (outcome ms : Nat) (s : State) : State :=
  let s1 := logNs evPfw 0xFF [outcome, ms] s
  enterAll (settleMode s1 evPfw
    { s1 with pwr := { s1.pwr with flush := initFlush, mark := none }, lat := { s1.lat with journal := [] } })

/-- PFW_ABORT (R46, R49): VIN rises to the release level. PFW_N is released wherever the module has its rails; the power-fail state ends
only after step 7. -/
def execPfwAbort (vin : Nat) (s : State) : Host.Outcome State Fault Refusal :=
  .next
    (if !alive s then s
     else
       let s1 := noteVin vin s
       if s.pwr.flush.pfw && s.pwr.flush.step == 7 && decide (pfwRelease s ≤ vin) then pfwEnd 0 (pfwMs s) s1 else s1)

/-- BROWN_OUT (R49): VIN has stood for 200 ms between VIN_OFF and the release level, where R45 places V_PFW_EFF below it. -/
def execBrownOut (vin : Nat) (s : State) : Host.Outcome State Fault Refusal :=
  .next
    (let v := effRule (pfwThreshold s) vin
     if s.pwr.flush.pfw && s.pwr.flush.step == 7 && decide (s.dev.vinOff ≤ vin) && decide (vin < pfwRelease s) &&
        decide (v * 10 < vin) && decide (s.pwr.flush.since + 8000000 ≤ s.clk.ticks) then
       pfwEnd 1 (pfwMs s) (applyEff { s with pwr := { s.pwr with vin := vin } })
     else s)

/-- PFW_EFF_RESTORE (R45): VIN is measured; it has stayed at or above `PFW_THRESHOLD` + 0.5 V for 60 s. -/
def execPfwEffRestore (vin : Nat) (s : State) : Host.Outcome State Fault Refusal :=
  .next
    (if !alive s then s
     else
       let thr := pfwThreshold s
       let s1 := noteVin vin s
       match s.pwr.pfwOkSince with
       | some t =>
         if decide (s.pwr.vPfwEff < thr) && decide (thr * 10 + 50 ≤ vin) && decide (t + 60 * 40000000 ≤ s.clk.ticks) then setEff thr s1
         else s1
       | none => s1)

/-- EV_VIN_SURGE (R43): an excursion of VIN above 75 V for more than 1 ms, with its peak. -/
def execEvVinSurge (vin : Nat) (s : State) : Host.Outcome State Fault Refusal :=
  .next (if alive s && decide (7500 < vin) then logNs evVinSurge 0xFF [vin / 50] (noteVin vin s) else s)

/-- VIOH_CHANGE (R28): hosts lose or regain access; nothing queued is lost. -/
def execViohChange (good : Bool) (s : State) : Host.Outcome State Fault Refusal :=
  .next { s with pwr := { s.pwr with viohGood := good } }

/-- VIN_LOSS (R49, R50, R56, R63): the module enters KEEP, or SHELF with the latch armed, which isolates the cell and so leaves RETL
behind. What the next BOOT logs of it waits; a loss in the BOOT of a warm reset, before step 6, finds no mark either. -/
def execVinLoss (vin : Nat) (s : State) : Host.Outcome State Fault Refusal :=
  .next
    (if !(alive s && decide (vin < s.dev.vinOff)) then s
     else
       let f := s.pwr.flush
       let run := fwRuns s
       let s1 := haltUnits true s
       let s2 := if run then logNs evPfw 0xFF [2, if f.pfw then pfwMs s else 0] s1 else s1
       let cut := if run then f.step != 7 else s.pwr.mark.isNone
       let s3 := if cut then flushIncomplete f.step (unwritten s.log) s2 else s2
       let m := if s.pwr.shelfArmed then Mode.shelf else Mode.keep
       railsDown (logNs evModeChange 0xFF [modeCode s.pwr.mode, modeCode m, flagsByte s, 0, evPfw] { s3 with
         pwr := { s3.pwr with
           vin := vin, bootStep := .off, mode := m, flush := initFlush, pfwOkSince := none
           mark := if run then some f.step else some (s.pwr.mark.getD 0)
           puCause := none, sealed := false, autonomous := false, bootHalt := false, resetAt := none }
         rtc := { s3.rtc with token := s3.rtc.token && !s.pwr.shelfArmed }
         sgn := { s3.sgn with rec_ := s3.sgn.nor, dirty := none } }))

/-! ### BOOT (R58 to R60) -/

/-- VIN_ON_RISE (R56, R63): the shelf latch releases, BAK is fed from VIN, and BOOT begins with the cause of the power-up. -/
def execVinOnRise (vin : Nat) (s : State) : Host.Outcome State Fault Refusal :=
  .next
    (if alive s || decide (vin < s.dev.vinOn) then s
     else
       let shelf := s.pwr.shelfArmed
       let cause := if shelf then 0xB else if s.rtc.token then 0xA else 1
       let pwr := { s.pwr with
         vin := vin, bootStep := if s.pwr.resetLow then .inReset else .rails, mode := .boot, cause := cause, puCause := some cause
         bootFlags := if s.pwr.mark = some 7 then 0 else 2, sealed := false, fromShelf := shelf, shelfArmed := false }
       let s1 := { s with pwr := pwr, rtc := { s.rtc with onCell := false, winWhole := false } }
       reportMode s.pwr.mode (flagsByte s) 0 (logNs evReset 0xFF [cause] s1))

/-- RAILS_GOOD (R44). -/
def execRailsGood (s : State) : Host.Outcome State Fault Refusal :=
  .next
    (if s.pwr.bootStep == .rails then
       { s with pwr := { s.pwr with
         pgood := true, v33aux := true, bootStep := .phase, pfwN := decide (s.pwr.vPfwEff * 10 ≤ s.pwr.vin) } }
     else s)

/-- The 2-of-3 majority of three strap words (R37). -/
def majority (a b c : BitVec 8) : BitVec 8 := (a &&& b) ||| (a &&& c) ||| (b &&& c)

/-- STRAP_SAMPLE (R37, R40, R45): the straps of this BOOT, the debug port, and V_PFW_EFF from the VIN measured. -/
def execStrapSample (a b : BitVec 8) (c : LastSample) (s : State) : Host.Outcome State Fault Refusal :=
  .next
    (if s.pwr.bootStep == .phase then
       let w := majority a b c.straps
       let bad := decide (a ≠ b) || decide (b ≠ c.straps)
       let s1 := { s with
         pwr := { s.pwr with straps := w, bootStep := .fuses, bootFlags := setBit s.pwr.bootFlags 4 bad }
         key := { s.key with debugOpen := w.getLsbD 7 && !s.key.debugLock } }
       applyEff (noteVin c.vin (if bad then logNs evStrapUnstable 0xFF [a.toNat, b.toNat, c.straps.toNat] s1 else s1))
     else s)

/-- BOOT halts (R59). -/
def haltBoot (s : State) : State :=
  reportMode s.pwr.mode (flagsByte s) 0 { s with pwr := { s.pwr with bootStep := .halted, bootHalt := true } }

/-- FUSE_MAP_LOAD (R455, R457, R59): repairs that waited for BOOT are in force; `usable` tells whether every memory needed to run passes
its test. -/
def execFuseMapLoad (usable : Bool) (s : State) : Host.Outcome State Fault Refusal :=
  .next
    (if s.pwr.bootStep == .fuses then
       let s1 := { s with mem := { s.mem with
         mems := s.mem.mems.map fun m => { m with repairs := m.repairs.map fun r => { r with applied := true } } } }
       if usable then { s1 with pwr := { s1.pwr with bootStep := .secure } } else haltBoot s1
     else s)

/-- The backup domain as after its loss: every item of R97 cleared, OSF set, the RTC at 0, the token regenerated (R53, R64, R98). -/
def clearDomain (s : State) : State :=
  let r := s.rtc
  { s with rtc := { initRtc with
    token := true, onCell := r.onCell, osc := r.osc, temp := r.temp, tampOpen := r.tampOpen, tampTick := r.tampTick
    vbakMv := r.vbakMv, cellLow := r.cellLow, vbakTick := r.vbakTick } }

/-- The key area holds a slot of 1 to 1,023. -/
def anySlot (s : State) : Bool := s.key.slots.any fun x => x.1 != 0 && x.2.st != .empty

/-- The key store finds the root secret zero (R416, R429). -/
def rootCheck (cause : Nat) (s : State) : State :=
  if s.rtc.rootSecret != 0 then s else if anySlot s then keyLoss cause s else newRoot s

/-- RETENTION_CHECK (R53, R64, R416, R429, R435, R451): `ok0` and `ok1` tell whether the copies of the world configuration verify,
`memOk` whether the backup memory held no uncorrectable word. -/
def execRetentionCheck (ok0 ok1 memOk : Bool) (s : State) : Host.Outcome State Fault Refusal :=
  .next
    (if s.pwr.bootStep == .secure then
       let s1 :=
         if s.pwr.fromShelf then
           rootCheck 3 (logNs evShelfExit 0xFF [] (clearDomain { s with pwr := { s.pwr with fromShelf := false } }))
         else if !s.rtc.token || !memOk then
           rootCheck 1 (logNs evRetentionLost 0xFF [s.pwr.cause]
             (clearDomain { s with
               pwr := { s.pwr with bootFlags := setBit s.pwr.bootFlags 0 true }
               log := { s.log with deferred := s.log.deferred.filter fun d => d.code != evTamper || d.stamp.isSome } }))
         else rootCheck 2 s
       let s2 := loadWorlds ok0 ok1 s1
       { s2 with pwr := { s2.pwr with bootStep := .verify } }
     else s)

/-- Why a candidate is not booted (R59, R484): 0 verification, 1 floor, 2 rollback rule. -/
def candidateReject (candOk : Bool) (boots : Nat) (s : State) : Option Nat :=
  let u := s.upd
  if !candOk then some 0
  else if manRollback u.active < u.floor then some 1
  else if u.trial && u.other == .standby && ([5, 6, 7, 0xD].contains s.pwr.cause || decide (3 ≤ boots)) then some 2
  else none

/-- The manifest of the other bank: that of the set it keeps, or of the session's. -/
def otherManifest (s : State) : List Word := if s.upd.other == .session then s.upd.session.man else s.upd.otherMan

/-- The other bank passes (R59): it holds a set, whose parts and manifest verify, at or above the floor. -/
def otherPasses (otherOk : Bool) (s : State) : Bool :=
  s.upd.other != .empty && otherOk && decide (s.upd.floor ≤ manRollback (otherManifest s))

/-- The other bank is booted in place of a candidate that is left in state `left` (R59, R482). -/
def enterOther (left : BankSt) (crcBad : List Nat) (s : State) : State × Nat :=
  if s.upd.other == .session then enterSession left bootSet s else enterStandby left bootSet crcBad s

/-- BANK_VERIFY (R59, R482, R484): `candOk` and `otherOk` tell whether the parts and the manifest of each bank verify, `crcBad` lists
settings sets whose CRC does not. A set that does not pass leaves nothing usable in its bank, or is REJECTED by the rollback rule. -/
def execBankVerify (candOk otherOk : Bool) (crcBad : List Nat) (s : State) : Host.Outcome State Fault Refusal :=
  .next
    (if s.pwr.bootStep == .verify then
       let boots := if s.upd.trial then Nat.min 3 (s.upd.trialBoots + 1) else s.upd.trialBoots
       let s0 := onUpd (fun u => { u with trialBoots := boots }) s
       let load := fun (s : State) => { s with pwr := { s.pwr with bootStep := .load } }
       match candidateReject candOk boots s0 with
       | none => load s0
       | some why =>
         if otherPasses otherOk s0 then
           let old := s0.upd.active
           let (s1, n) := enterOther (if why = 2 then .rejected else .empty) crcBad s0
           let s2 := logNs evBootFallback 0xFF [s1.upd.bank, why]
             { s1 with pwr := { s1.pwr with bootFlags := setBit s1.pwr.bootFlags 2 true } }
           load (if why = 2 then logEv evUpdRollback 0xFF [wd 1, wAt old 2, wAt s1.upd.active 2, wd n] s2 else s2)
         else haltBoot s0
     else s)

/-- Tether enters FREE at the STRAP2 nominal and releases its count at the larger confirmed ceiling of the two rings; `ok0` and `ok1` tell
whether the new ceiling reads back from each (R83, R84). -/
def startTether (ok0 ok1 : Bool) (s : State) : State :=
  let r0 := s.tt.reserve.boot
  let next := r0 + 2 ^ 21
  let r := Reserve.write next ok0 ok1 { s.tt.reserve with ceiling := r0, epoch := (s.tt.reserve.epoch + 1) % 256 }
  let good := ok0 || ok1
  let f := (if s.pwr.straps.getLsbD 2 then 60 else 50) * 65536
  { s with
    clk := { s.clk with ttAcc := 0 }
    tt := { s.tt with
      tt := r0 * 4096, running := true, state := .free, freq := f, rate := f, prim := Source.fresh r0, sec := Source.fresh r0
      reserve := { r with pend := if good then none else some (next, r0), logged := 0, lost := !good }
      epochStart := r0 * 4096, since := r0, lastQualTick := s.clk.ticks } }

/-- Staging begins: the events that arose before it take their stamp now, with `DEFERRED` (R65, R397). -/
def startStaging (s : State) : State :=
  let st := stampOf s
  { s with log := { s.log with
    staging := true, deferred := s.log.deferred.map fun d => if d.stamp.isNone then { d with stamp := some st } else d } }

/-- The front ends are tuned to their configurations and the duty windows start full (R185, R200). -/
def startRadio (s : State) : State :=
  let tune := fun (k : Nat) (s : State) => let c := feCfg s k; updFe k (fun f => { f with
    centre := c.centre, role := c.role, gainStep := if c.gainMode then c.gainStep else 0 }) s
  let s1 := tune 1 (tune 0 s)
  { s1 with rad := { s1.rad with
    dutySec := s1.clk.ticks / 40000000, fillLeft := 3600
    ces := s1.rad.ces.mapIdx fun n e => { e with fill := (allotment s1 n).getD 0 / 3600 } } }

/-- WINDOW_ALIVE: step 6 of BOOT. `f0` and `f1`: sectors that failed as the reservation was written to each ring (R83). The
clean-shutdown mark has served its purpose once metering has restored (R50, R347). DESIGN CHOICE: the queues are empty, so `INT_STAT`
and `INT_RAW` read 0xF0 at once, although the register map gives 0 (log entry 19, on the window at step 6). -/
def execWindowAlive (f0 f1 : Nat) (s : State) : Host.Outcome State Fault Refusal :=
  .next
    (if s.pwr.bootStep == .load then
       let a := norOn 0 4 f0 s
       let b := norOn 1 4 f1 a.1
       let flags := flagsByte s
       let s1 := startStaging (startTether a.2 b.2 b.1)
       let s2 := { s1 with pwr := { s1.pwr with bootStep := .restore, mark := none }, ports := s1.ports.map PortSt.refresh }
       meterRestore (startRadio (reportMode s.pwr.mode flags 0 s2))
     else s)

/-- Lattice resumed from a verified seal, or restored from the LATTICE partition (R57, R287). -/
def restoreLattice (warm : Bool) (s : State) : State :=
  let l := s.lat
  let unsettled := l.unsettled ++ l.journal.filter fun e => !l.unsettled.contains e
  let done := fun (s : State) => { s with lat := { s.lat with journal := [], unsettled := [], ckptTick := s.clk.ticks } }
  if warm then done (logNs evLatRestore 0xFF [0, l.recs.length, 0] s)
  else
    let open_ := !l.ctr.openPage.isEmpty
    let s1 := { s with lat := { l with ctr := { l.ctr with openPage := [] } } }
    let s2 := { s1 with lat := { s1.lat with
      images := [], recs := l.nand.map fun x => (x.1, restoredRec s1 (unsettled.contains x.1) x.1 x.2) } }
    let s3 := logNs evLatRestore 0xFF [1, l.nand.length, b2n open_] (l.nand.foldl (fun s x => raiseCeiling x.1 s) s2)
    done (if l.journal.isEmpty then s3 else logNs evTxnLost 0xFF [l.journal.length] s3)

/-- Staged records and counters that a missing or broken seal loses (R57, R406). -/
def loseStaging (s : State) : State :=
  let lost := unwritten s.log
  let lg := { s.log with staged := [], page := [] }
  if s.pwr.sealed then
    let s1 := flushIncomplete 0 lost { s with log := lg }
    { s1 with pwr := { s1.pwr with bootFlags := setBit s1.pwr.bootFlags 3 true } }
  else { s with log := lg }

/-- The events that waited for a number become records, oldest first. -/
def createDeferred (lg : Recorder) : Recorder :=
  lg.deferred.foldl (fun lg d =>
    match d.stamp with
    | some st => Recorder.create st (sevOf lg d.code) false d.late d.code d.inst d.content lg
    | none => lg) { lg with deferred := [] }

/-- The recorder starts (R406): numbering resumes, and the events that waited are recorded before EV_LOG_RESTORE. -/
def startRecorder (warm : Bool) (s : State) : State :=
  let lg := s.log
  let newest := (lg.log.map fun r => r.seq).foldl Nat.max 0
  let next := if warm then lg.cnt.nextSeq else (Nat.max newest lg.summary.nextSeq + 65536) % 2 ^ 48
  let cnt := if warm then lg.cnt else { lg.summary with nextSeq := next }
  let s1 := { s with log := createDeferred { lg with cnt := cnt, started := true } }
  logEv evLogRestore 0xFF [wd (b2n (!warm)), wd next, wd (next / 2 ^ 32), wd (b2n (!warm))] s1

/-- Overlap windows of link keys have their ends in the queue again (R259). -/
def repostLinks (s : State) : State :=
  s.lat.recs.foldl (fun s x => if x.2.prevValid then tlPut (x.2.overlapEnd * 4096) 4 0x07 (.linkKeyEnd x.1) true s else s) s

/-- LATTICE_RESTORE: step 7 of BOOT (R57, R287, R406). `sealOk` tells whether the seal of a warm reset verifies; `lost` names the record
pages of the LATTICE partition that prove uncorrectable as they are read, each with its 16 records (R464). -/
def execLatticeRestore (x : Restored) (s : State) : Host.Outcome State Fault Refusal :=
  .next
    (if s.pwr.bootStep == .restore then
       let warm := s.pwr.sealed && x.sealOk
       let s1 := restoreLattice warm (if warm then s else loseStaging s)
       let s1 := if warm then s1 else x.lost.foldl (fun s p => losePage p (pageEps p) s) s1
       let s2 := repostLinks (endRemovals (startRecorder warm s1))
       { s2 with pwr := { s2.pwr with bootStep := .finish, sealed := false } }
     else s)

/-- Every sleepy link starts in RESYNC (R247). -/
def resyncLinks (s : State) : State :=
  let mine := s.lat.recs.filter fun x => (x.2.st == .active || x.2.st == .orphan) && x.2.sleepy != 0 && !x.2.viaRouter
  mine.foldl (fun s x => updLink x.1 (fun l => { l with st := .resync }) (openLink x.1 s)) s

/-- The boot notification (R165). -/
def bootNotification (p : Fin 4) (s : State) : State :=
  if portPresent s p then
    notify p 0x0101 0
      [ packW [(s.pwr.cause, 24), (modeCode s.pwr.mode, 16), (s.pwr.straps.toNat, 8), (s.tt.reserve.epoch, 0)],
        packW [(s.pwr.bootFlags, 24), (s.upd.bank, 16), (flagsByte s, 0)], winVer s ] s (some 15)
  else s

/-- BOOT_END: step 8 of BOOT (R60, R65, R68, R380, R426). The boot notification comes before every other. -/
def execBootEnd (s : State) : Host.Outcome State Fault Refusal :=
  .next
    (if s.pwr.bootStep == .finish then
       let s1 := settleMode s evReset { s with pwr := { s.pwr with bootStep := .done, puCause := none, bootEndCyc := cycOf s } }
       let s2 := allPorts.foldl (fun s p => bootNotification p s) s1
       enterAll (resumeKeys (deliverHeld (ioBootEnd (resyncLinks s2))))
     else s)

/-! ### Host watchdogs (R68, R69) -/

/-- HOST_WATCHDOG_EXPIRY (R68, R69): evaluated outside HANDOVER windows. -/
def execHostWatchdogExpiry (p : Fin 4) (s : State) : Host.Outcome State Fault Refusal :=
  .next
    (let w := s.wd.get p
     if served s && !s.upd.windowOpen && w.running && !w.expired && decide (w.deadline ≤ s.clk.ticks) then
       let s1 := logNs evHostSilent p.val [p.val] { s with wd := s.wd.put p { w with expired := true } }
       evalAuto 0 (notifyPorts (fun x => x != p) 0x0104 0 [wd p.val] s1)
     else s)

end Sys2Proof.Machine
end

