-- ==== Sys2Proof/Machine/Window.lean ====
section
/-!
DEFINITION. Accesses to the host windows (05 R124 to R132): the 32-bit read of a word with its side effects, the half accesses of H2, and
the transactions of the serial ports.
-/
namespace Sys2Proof.Machine

/-! ### One word (R131, R132) -/

/-- The pads of the port can carry an access: the module is powered, the port present and VIOH good. -/
def portReach (s : State) (p : Fin 4) : Bool := alive s && portPresent s p && s.pwr.viohGood

/-- The window offset of `RSP_DATA`. -/
def rspDataOff (r : Nat) : Nat := 0x184 + 0x20 * r

/-- The window offset of `REQ_DATA`. -/
def reqDataOff (q : Nat) : Nat := 0x100 + 0x20 * q

/-- The word an offset selects: bits [1:0] of the address are ignored (R125). -/
def wordOff (off : Nat) : Nat := off / 4 * 4

/-- The TT captured for the port (R94). -/
def readSnap (p : Fin 4) (s : State) : Word × State := (lo32 s.tt.tt, onPort p (fun q => { q with snap := s.tt.tt }) s)

/-- An RTC shadow register served (R100). -/
def readShadow (p : Fin 4) (i : Nat) (s : State) : Word × State :=
  let (h, v) := (s.shadow.get p).read s.rtc s.clk.ticks i
  (v, { s with shadow := s.shadow.put p h })

/-- The next word of a return queue popped (R146). -/
def readPop (p : Fin 4) (r : Nat) (s : State) : Word × State :=
  let (q, w) := popWord r (s.ports.get p)
  (w, onPort p (fun _ => q) (popLock r (s.ports.get p) s))

/-- The 32-bit read of a word, with its side effects (R131, R132). Before step 6 of BOOT it reads 0 and does nothing. -/
def readFull (p : Fin 4) (off : Nat) (s : State) : Word × State :=
  if !portUp s p then (0, s)
  else if off = 0x030 then readSnap p s
  else if off = 0x040 ∨ off = 0x044 ∨ off = 0x048 then readShadow p ((off - 0x040) / 4) s
  else if off = rspDataOff 0 then readPop p 0 s
  else if off = rspDataOff 1 then readPop p 1 s
  else (regValue s p off, s)

/-- The high half that a read of it alone gives: the one latched by the read of the low half before it, else that of the register's
current value, 0 for `RSP_DATA` (R131). -/
def readHigh (s : State) (p : Fin 4) (off : Nat) : Nat :=
  let now := (regValue s p off).toNat / 65536
  match (s.ports.get p).readLatch with
  | some (o, v) => if o = off then v else now
  | none => now

/-- A read of a port (R129, R131): a whole word, which over H2 is its low half and then its high half, or one half. Only H2 has halves. -/
def readLane (p : Fin 4) (off : Nat) (lane : Lane) (s : State) : State :=
  if !portReach s p then s
  else match lane with
    | .word =>
      let (v, s1) := readFull p off s
      onPort p (fun q => { breakPair q with readData := v }) s1
    | .low =>
      if p ≠ 2 then s
      else
        let (v, s1) := readFull p off s
        onPort p (fun q => { breakPair q with readData := wd (v.toNat % 65536), readLatch := some (off, v.toNat / 65536) }) s1
    | .high =>
      if p ≠ 2 then s else onPort p (fun q => { breakPair q with readData := wd (readHigh s p off) }) s

/-- TT_SNAP_LO_READ (R94, R131): the whole TT captured for the port. -/
def execTtSnapLoRead (p : Fin 4) (lane : Lane) (s : State) : Host.Outcome State Fault Refusal :=
  .next (readLane p 0x030 lane s)

/-- RTC_SHADOW_READ (R100, R131): 0 `RTC_SEC_LO`, 1 `RTC_SEC_HI`, 2 `RTC_FRAC_FLAGS`. -/
def execRtcShadowRead (p : Fin 4) (reg : Fin 3) (lane : Lane) (s : State) : Host.Outcome State Fault Refusal :=
  .next (readLane p (0x040 + 4 * reg.val) lane s)

/-- RSP_DATA_POP (R131, R146). -/
def execRspDataPop (p : Fin 4) (r : Fin 2) (lane : Lane) (s : State) : Host.Outcome State Fault Refusal :=
  .next (readLane p (rspDataOff r.val) lane s)

/-- A write to a word. A low half is held; the write of the high half that directly follows it performs the write, and any other write of
a high half is ignored (R131). A half is given in the low 16 bits of `w`. -/
def writeLane (p : Fin 4) (off : Nat) (w : Word) (lane : Lane) (s : State) : State :=
  if !portUp s p then s
  else match lane with
    | .word => onPort p breakWrite (writeReg p off w s)
    | .low => if p ≠ 2 then s else onPort p (fun q => { q with writeLatch := some (off, w.toNat % 65536) }) s
    | .high =>
      if p ≠ 2 then s
      else match (s.ports.get p).writeLatch with
        | some (o, lo) => onPort p breakWrite (if o = off then writeReg p off (wd (w.toNat % 65536 * 65536 + lo)) s else s)
        | none => s

/-! ### Serial transactions (R124 to R127) -/

/-- The operations of a serial port. -/
inductive SpiOp where
  | read | write | qread | qwrite
  deriving DecidableEq, Repr

/-- The operation of an opcode: QREAD and QWRITE are ignored on H3, any other opcode everywhere. -/
def spiOp (p : Fin 4) (op : Nat) : Option SpiOp :=
  if op = 0x0B then some .read
  else if op = 0x02 then some .write
  else if op = 0xEB ∧ p ≠ 3 then some .qread
  else if op = 0x38 ∧ p ≠ 3 then some .qwrite
  else none

/-- Lines of the address and of the data. -/
def SpiOp.lines : SpiOp → Nat
  | .read => 1 | .write => 1 | .qread => 4 | .qwrite => 4

/-- Dummy clocks. -/
def SpiOp.dummy : SpiOp → Nat
  | .read => 8 | .write => 0 | .qread => 8 | .qwrite => 0

/-- The operation reads. -/
def SpiOp.reads : SpiOp → Bool
  | .read => true | .write => false | .qread => true | .qwrite => false

/-- Clocks of one data word. -/
def SpiOp.clocks (o : SpiOp) : Nat := 32 / o.lines

/-- The number that the levels of IO3 to IO0 spell on `w` lines, most significant bit first, IO3 the most significant of a nibble. -/
def serialNat (w : Nat) (cs : List (BitVec 4)) : Nat := cs.foldl (fun a c => a * 2 ^ w + c.toNat % 2 ^ w) 0

/-- A word as `w` lines shift it out, clock by clock. -/
def serialOut (w : Nat) (v : Word) : List Nat := (List.range (32 / w)).map fun i => v.toNat / 2 ^ (32 - w * (i + 1)) % 2 ^ w

/-- The address after a word (R126): fixed where the transaction names `REQ_DATA` or `RSP_DATA`, else the next word of the window. -/
def spiNext (start off : Nat) : Nat :=
  if start = reqDataOff 0 ∨ start = reqDataOff 1 ∨ start = reqDataOff 2 ∨ start = reqDataOff 3 ∨ start = rspDataOff 0 ∨
    start = rspDataOff 1 then off
  else (off + 4) % 0x1000

/-- One word of a serial read: 0 with no effect where address bits [15:12] are not 0 (R125). -/
def spiWord (p : Fin 4) (bad : Bool) (off : Nat) (s : State) : Word × State := if bad then (0, s) else readFull p off s

/-- `n` whole words read, and the clocks of a last word cut short, which has no effect (R127): what is shifted out, and the state. -/
def spiReads (p : Fin 4) (w start : Nat) (bad : Bool) (rest : Nat) : Nat → Nat → State → List Nat × State
  | 0, off, s => ((serialOut w (spiWord p bad off s).1).take rest, s)
  | n + 1, off, s =>
    let (v, s1) := spiWord p bad off s
    let (out, s2) := spiReads p w start bad rest n (spiNext start off) s1
    (serialOut w v ++ out, s2)

/-- `n` whole words written; a last word cut short is discarded (R127). -/
def spiWrites (p : Fin 4) (w start : Nat) : Nat → Nat → List (BitVec 4) → State → State
  | 0, _, _, s => s
  | n + 1, off, cs, s =>
    spiWrites p w start n (spiNext start off) (cs.drop (32 / w))
      (if portUp s p then writeReg p off (wd (serialNat w (cs.take (32 / w)))) s else s)

/-- A serial transaction that its opcode starts: address, dummy clocks, data. -/
def spiRun (p : Fin 4) (o : SpiOp) (cs : List (BitVec 4)) (s : State) : State :=
  let w := o.lines
  let a := serialNat w (cs.take (16 / w))
  let d := cs.drop (16 / w + o.dummy)
  let start := wordOff (a % 0x1000)
  let bad := decide (0x1000 ≤ a)
  let n := d.length / o.clocks
  if o.reads then
    let (out, s1) := spiReads p w start bad (d.length % o.clocks) n start s
    onPort p (fun q => { q with shifted := some out }) s1
  else
    onPort p (fun q => { q with shifted := some [] }) (if bad then s else spiWrites p w start n start d s)

/-- A whole serial transaction, from the fall of CS_N to its rise: the levels of IO3 to IO0, or of MOSI in bit 0, at its rising edges of
SCK. One whose opcode is not listed is ignored, and the module shifts nothing out (R124). H2 is no serial port. DESIGN CHOICE: the
transaction is one step, between whose words no other command runs (log entry 37, on serial transactions). -/
def spiTransfer (p : Fin 4) (cs : List (BitVec 4)) (s : State) : State :=
  if p = 2 || !portReach s p then s
  else match (if cs.length < 8 then none else spiOp p (serialNat 1 (cs.take 8))) with
    | some o => spiRun p o (cs.drop 8) s
    | none => onPort p (fun q => { q with shifted := none }) s

/-! ### The row -/

/-- REGISTER_WRITE: a write to a window register, in whole or in halves; with it every access that has no row of its own, a read
without side effects and a serial transaction (log entry 36, on accesses). -/
def execRegisterWrite (p : Fin 4) (off : Nat) (w : Word) (a : Access) (s : State) : Host.Outcome State Fault Refusal :=
  .next (match a with
    | .write lane => writeLane p (wordOff off) w lane s
    | .read lane => readLane p (wordOff off) lane s
    | .serial cs => spiTransfer p cs s)

end Sys2Proof.Machine
end

