-- ==== Sys2Proof/Machine/Dispatch.lean ====
section
/-!
DEFINITION. The command's effect on everything but the queue of waiting commands: one arm per constructor.
-/
namespace Sys2Proof.Machine

def exec (i : Instr) (s : State) : Host.Outcome State Fault Refusal :=
  match i with
  | .vinOnRise vin => Sys2Proof.Machine.execVinOnRise vin s
  | .railsGood => Sys2Proof.Machine.execRailsGood s
  | .strapSample a b c => Sys2Proof.Machine.execStrapSample a b c s
  | .fuseMapLoad usable => Sys2Proof.Machine.execFuseMapLoad usable s
  | .retentionCheck ok0 ok1 memOk => Sys2Proof.Machine.execRetentionCheck ok0 ok1 memOk s
  | .vbakMeasure mv => Sys2Proof.Machine.execVbakMeasure mv s
  | .bankVerify candOk otherOk crcBad => Sys2Proof.Machine.execBankVerify candOk otherOk crcBad s
  | .windowAlive f0 f1 => Sys2Proof.Machine.execWindowAlive f0 f1 s
  | .latticeRestore x => Sys2Proof.Machine.execLatticeRestore x s
  | .bootEnd => Sys2Proof.Machine.execBootEnd s
  | .pfwAssert vin steps => Sys2Proof.Machine.execPfwAssert vin steps s
  | .pfwAbort vin => Sys2Proof.Machine.execPfwAbort vin s
  | .brownOut vin => Sys2Proof.Machine.execBrownOut vin s
  | .vinLoss vin => Sys2Proof.Machine.execVinLoss vin s
  | .pfwEffRestore vin => Sys2Proof.Machine.execPfwEffRestore vin s
  | .evVinSurge vin => Sys2Proof.Machine.execEvVinSurge vin s
  | .viohChange good => Sys2Proof.Machine.execViohChange good s
  | .resetNAssert us => Sys2Proof.Machine.execResetNAssert us s
  | .resetNRelease => Sys2Proof.Machine.execResetNRelease s
  | .railFault => Sys2Proof.Machine.execRailFault s
  | .coreWatchdogExpiry => Sys2Proof.Machine.execCoreWatchdogExpiry s
  | .lockstepMismatch securePair => Sys2Proof.Machine.execLockstepMismatch securePair s
  | .firewallViolation part item block inst => Sys2Proof.Machine.execFirewallViolation part item block inst s
  | .retentionTokenLoss us mv => Sys2Proof.Machine.execRetentionTokenLoss us mv s
  | .bakSwitchOver => Sys2Proof.Machine.execBakSwitchOver s
  | .hostWatchdogExpiry p => Sys2Proof.Machine.execHostWatchdogExpiry p s
  | .zcEdge rising => Sys2Proof.Machine.execZcEdge rising s
  | .meterCrossing src => Sys2Proof.Machine.execMeterCrossing src s
  | .holdoverEntry => Sys2Proof.Machine.execHoldoverEntry s
  | .secondarySwitch => Sys2Proof.Machine.execSecondarySwitch s
  | .primaryReturn => Sys2Proof.Machine.execPrimaryReturn s
  | .evTtHoldoverLong => Sys2Proof.Machine.execEvTtHoldoverLong s
  | .reservationWrite f0 f1 => Sys2Proof.Machine.execReservationWrite f0 f1 s
  | .evTtReserveFail => Sys2Proof.Machine.execEvTtReserveFail s
  | .reserveCeilingReached => Sys2Proof.Machine.execReserveCeilingReached s
  | .anchorCapture => Sys2Proof.Machine.execAnchorCapture s
  | .ttConfigApply => Sys2Proof.Machine.execTtConfigApply s
  | .configEntryApply => Sys2Proof.Machine.execConfigEntryApply s
  | .ttAlarmFire => Sys2Proof.Machine.execTtAlarmFire s
  | .ttSnapLoRead p lane => Sys2Proof.Machine.execTtSnapLoRead p lane s
  | .ttStatus => Sys2Proof.Machine.execTtStatus s
  | .ttConfig => Sys2Proof.Machine.execTtConfig s
  | .ttConvert => Sys2Proof.Machine.execTtConvert s
  | .ttAnchors => Sys2Proof.Machine.execTtAnchors s
  | .ttAlarm => Sys2Proof.Machine.execTtAlarm s
  | .ttAlarmCancel => Sys2Proof.Machine.execTtAlarmCancel s
  | .ttQueue => Sys2Proof.Machine.execTtQueue s
  | .rtcCorrectionWindow m temp bakOk => Sys2Proof.Machine.execRtcCorrectionWindow m temp bakOk s
  | .rtcShadowRead p reg lane => Sys2Proof.Machine.execRtcShadowRead p reg lane s
  | .rtcShadowTimeout p => Sys2Proof.Machine.execRtcShadowTimeout p s
  | .rtcSetCommit => Sys2Proof.Machine.execRtcSetCommit s
  | .oscStopDetect x ppm => Sys2Proof.Machine.execOscStopDetect x ppm s
  | .evLbv bakMv us => Sys2Proof.Machine.execEvLbv bakMv us s
  | .tamperSample open0 open1 => Sys2Proof.Machine.execTamperSample open0 open1 s
  | .rtcStatus => Sys2Proof.Machine.execRtcStatus s
  | .rtcSet => Sys2Proof.Machine.execRtcSet s
  | .rtcFlags => Sys2Proof.Machine.execRtcFlags s
  | .rtcTrim => Sys2Proof.Machine.execRtcTrim s
  | .bramRead => Sys2Proof.Machine.execBramRead s
  | .bramWrite => Sys2Proof.Machine.execBramWrite s
  | .tamperConfig => Sys2Proof.Machine.execTamperConfig s
  | .reqDataPush p q w => Sys2Proof.Machine.execReqDataPush p q w s
  | .reqCommit p q w => Sys2Proof.Machine.execReqCommit p q w s
  | .reqAbort p q => Sys2Proof.Machine.execReqAbort p q s
  | .rspDataPop p r lane => Sys2Proof.Machine.execRspDataPop p r lane s
  | .rspDiscardHead p r => Sys2Proof.Machine.execRspDiscardHead p r s
  | .rspDiscardAll p r => Sys2Proof.Machine.execRspDiscardAll p r s
  | .portFlush p => Sys2Proof.Machine.execPortFlush p s
  | .intStatClear p w => Sys2Proof.Machine.execIntStatClear p w s
  | .registerWrite p off w a => Sys2Proof.Machine.execRegisterWrite p off w a s
  | .requestTake => Sys2Proof.Machine.execRequestTake s
  | .orderedExecutionStart => Sys2Proof.Machine.execOrderedExecutionStart s
  | .heldMessagePlace p r => Sys2Proof.Machine.execHeldMessagePlace p r s
  | .ntfLostPlace p => Sys2Proof.Machine.execNtfLostPlace p s
  | .sysNop => Sys2Proof.Machine.execSysNop s
  | .sysIdent => Sys2Proof.Machine.execSysIdent s
  | .sysCaps => Sys2Proof.Machine.execSysCaps s
  | .sysStatus => Sys2Proof.Machine.execSysStatus s
  | .sysReset => Sys2Proof.Machine.execSysReset s
  | .softwareReset => Sys2Proof.Machine.execSoftwareReset s
  | .sysShelf => Sys2Proof.Machine.execSysShelf s
  | .sysWatchdog => Sys2Proof.Machine.execSysWatchdog s
  | .sysMode => Sys2Proof.Machine.execSysMode s
  | .sysPower => Sys2Proof.Machine.execSysPower s
  | .sysCfgBegin => Sys2Proof.Machine.execSysCfgBegin s
  | .sysCfgCommit => Sys2Proof.Machine.execSysCfgCommit s
  | .sysCfgAbort => Sys2Proof.Machine.execSysCfgAbort s
  | .sysSettings => Sys2Proof.Machine.execSysSettings s
  | .sysSettingsReset => Sys2Proof.Machine.execSysSettingsReset s
  | .cfgSetApply media => Sys2Proof.Machine.execCfgSetApply media s
  | .cfgSetTimeout p => Sys2Proof.Machine.execCfgSetTimeout p s
  | .radStatus => Sys2Proof.Machine.execRadStatus s
  | .radBandPlan => Sys2Proof.Machine.execRadBandPlan s
  | .radFeConfig => Sys2Proof.Machine.execRadFeConfig s
  | .radEngineConfig => Sys2Proof.Machine.execRadEngineConfig s
  | .radCalStatus => Sys2Proof.Machine.execRadCalStatus s
  | .radCalSweep => Sys2Proof.Machine.execRadCalSweep s
  | .radTxTest => Sys2Proof.Machine.execRadTxTest s
  | .calSweepEnd fe m => Sys2Proof.Machine.execCalSweepEnd fe m s
  | .txTestEnd n m => Sys2Proof.Machine.execTxTestEnd n m s
  | .feRetune fe us => Sys2Proof.Machine.execFeRetune fe us s
  | .shrDetect n br => Sys2Proof.Machine.execShrDetect n br s
  | .frameReceived n f => Sys2Proof.Machine.execFrameReceived n f s
  | .enhancedAck n => Sys2Proof.Machine.execEnhancedAck n s
  | .ackReceived n f => Sys2Proof.Machine.execAckReceived n f s
  | .ackTimeout n => Sys2Proof.Machine.execAckTimeout n s
  | .carrierAdmit fe => Sys2Proof.Machine.execCarrierAdmit fe s
  | .lbtAttempt n br peak => Sys2Proof.Machine.execLbtAttempt n br peak s
  | .transmitEnd n m => Sys2Proof.Machine.execTransmitEnd n m s
  | .frameDeadline n => Sys2Proof.Machine.execFrameDeadline n s
  | .dutyBinAdvance => Sys2Proof.Machine.execDutyBinAdvance s
  | .vswrRecovery fe => Sys2Proof.Machine.execVswrRecovery fe s
  | .paTemperatureChange fe t => Sys2Proof.Machine.execPaTemperatureChange fe t s
  | .rxCalPublish fe amp phase dcI dcQ => Sys2Proof.Machine.execRxCalPublish fe amp phase dcI dcQ s
  | .rxCalAdopt n => Sys2Proof.Machine.execRxCalAdopt n s
  | .gainStepChange fe step headroom => Sys2Proof.Machine.execGainStepChange fe step headroom s
  | .evFeGainForced fe clip => Sys2Proof.Machine.execEvFeGainForced fe clip s
  | .dpdApply fe state => Sys2Proof.Machine.execDpdApply fe state s
  | .dpdTimeout fe => Sys2Proof.Machine.execDpdTimeout fe s
  | .evFeFault fe pa => Sys2Proof.Machine.execEvFeFault fe pa s
  | .feRelockRetry fe ok => Sys2Proof.Machine.execFeRelockRetry fe ok s
  | .beaconDue n => Sys2Proof.Machine.execBeaconDue n s
  | .backupBeacon n => Sys2Proof.Machine.execBackupBeacon n s
  | .extraBeacon n => Sys2Proof.Machine.execExtraBeacon n s
  | .linkSweep n => Sys2Proof.Machine.execLinkSweep n s
  | .pollMiss ep => Sys2Proof.Machine.execPollMiss ep s
  | .greetingRound n => Sys2Proof.Machine.execGreetingRound n s
  | .macEngineStatus => Sys2Proof.Machine.execMacEngineStatus s
  | .macBeaconConfig => Sys2Proof.Machine.execMacBeaconConfig s
  | .macSleepyConfig => Sys2Proof.Machine.execMacSleepyConfig s
  | .macLinkState => Sys2Proof.Machine.execMacLinkState s
  | .macRawSend => Sys2Proof.Machine.execMacRawSend s
  | .joinReq n media => Sys2Proof.Machine.execJoinReq n media s
  | .rejoin n media => Sys2Proof.Machine.execRejoin n media s
  | .confirm n => Sys2Proof.Machine.execConfirm n s
  | .energy n => Sys2Proof.Machine.execEnergy n s
  | .detect n => Sys2Proof.Machine.execDetect n s
  | .imageNack n => Sys2Proof.Machine.execImageNack n s
  | .imgReport n => Sys2Proof.Machine.execImgReport n s
  | .report n => Sys2Proof.Machine.execReport n s
  | .txnAttempt id => Sys2Proof.Machine.execTxnAttempt id s
  | .txnConfirmTimeout id => Sys2Proof.Machine.execTxnConfirmTimeout id s
  | .txnBackoffEnd id => Sys2Proof.Machine.execTxnBackoffEnd id s
  | .txnDeadline id => Sys2Proof.Machine.execTxnDeadline id s
  | .seqWaitExpiry p => Sys2Proof.Machine.execSeqWaitExpiry p s
  | .groupRepeat id => Sys2Proof.Machine.execGroupRepeat id s
  | .linkKeyOverlapEnd => Sys2Proof.Machine.execLinkKeyOverlapEnd s
  | .linkKeyLoadApply media => Sys2Proof.Machine.execLinkKeyLoadApply media s
  | .backgroundCheckpoint => Sys2Proof.Machine.execBackgroundCheckpoint s
  | .journalPageWrite => Sys2Proof.Machine.execJournalPageWrite s
  | .joinPermitExpiry => Sys2Proof.Machine.execJoinPermitExpiry s
  | .imagePhase id => Sys2Proof.Machine.execImagePhase id s
  | .latAdd media => Sys2Proof.Machine.execLatAdd media s
  | .latRemove media => Sys2Proof.Machine.execLatRemove media s
  | .latRead => Sys2Proof.Machine.execLatRead s
  | .latUpdate media => Sys2Proof.Machine.execLatUpdate media s
  | .latFind => Sys2Proof.Machine.execLatFind s
  | .latJoinPolicy => Sys2Proof.Machine.execLatJoinPolicy s
  | .latKeyLoad => Sys2Proof.Machine.execLatKeyLoad s
  | .latRouteRead => Sys2Proof.Machine.execLatRouteRead s
  | .latImageLoad => Sys2Proof.Machine.execLatImageLoad s
  | .latImageSend => Sys2Proof.Machine.execLatImageSend s
  | .latCheckpoint => Sys2Proof.Machine.execLatCheckpoint s
  | .txnSend => Sys2Proof.Machine.execTxnSend s
  | .txnLevel => Sys2Proof.Machine.execTxnLevel s
  | .txnGroupLevel => Sys2Proof.Machine.execTxnGroupLevel s
  | .txnCancel => Sys2Proof.Machine.execTxnCancel s
  | .txnStatus => Sys2Proof.Machine.execTxnStatus s
  | .txnOrderMode => Sys2Proof.Machine.execTxnOrderMode s
  | .txnRetryPolicy => Sys2Proof.Machine.execTxnRetryPolicy s
  | .schDecide => Sys2Proof.Machine.execSchDecide s
  | .chdEvaluation => Sys2Proof.Machine.execChdEvaluation s
  | .waveEnd => Sys2Proof.Machine.execWaveEnd s
  | .schGroupSet => Sys2Proof.Machine.execSchGroupSet s
  | .schGroupMembers media => Sys2Proof.Machine.execSchGroupMembers media s
  | .schGroupRead => Sys2Proof.Machine.execSchGroupRead s
  | .schEntrySet => Sys2Proof.Machine.execSchEntrySet s
  | .schEntryClear => Sys2Proof.Machine.execSchEntryClear s
  | .schEntryRead => Sys2Proof.Machine.execSchEntryRead s
  | .schSite => Sys2Proof.Machine.execSchSite s
  | .schTzRule => Sys2Proof.Machine.execSchTzRule s
  | .schFallback => Sys2Proof.Machine.execSchFallback s
  | .schEvaluate => Sys2Proof.Machine.execSchEvaluate s
  | .chdCorridorSet => Sys2Proof.Machine.execChdCorridorSet s
  | .chdCorridorClear => Sys2Proof.Machine.execChdCorridorClear s
  | .chdCorridorRead => Sys2Proof.Machine.execChdCorridorRead s
  | .chdConfig => Sys2Proof.Machine.execChdConfig s
  | .chdWaves => Sys2Proof.Machine.execChdWaves s
  | .chdInject => Sys2Proof.Machine.execChdInject s
  | .meterCycleEnd c => Sys2Proof.Machine.execMeterCycleEnd c s
  | .evMeterOverrange k density => Sys2Proof.Machine.execEvMeterOverrange k density s
  | .evMeterInputFault k idle locked => Sys2Proof.Machine.execEvMeterInputFault k idle locked s
  | .intervalClose => Sys2Proof.Machine.execIntervalClose s
  | .meterSave fails => Sys2Proof.Machine.execMeterSave fails s
  | .meterSaveRetry fails => Sys2Proof.Machine.execMeterSaveRetry fails s
  | .pulseStart k => Sys2Proof.Machine.execPulseStart k s
  | .meterCalApply => Sys2Proof.Machine.execMeterCalApply s
  | .meterMeasureEnd f => Sys2Proof.Machine.execMeterMeasureEnd f s
  | .mtrInputConfig => Sys2Proof.Machine.execMtrInputConfig s
  | .mtrFeederConfig => Sys2Proof.Machine.execMtrFeederConfig s
  | .mtrRead => Sys2Proof.Machine.execMtrRead s
  | .mtrIntervals => Sys2Proof.Machine.execMtrIntervals s
  | .mtrPulseConfig => Sys2Proof.Machine.execMtrPulseConfig s
  | .mtrCalibrate => Sys2Proof.Machine.execMtrCalibrate s
  | .mtrBalance => Sys2Proof.Machine.execMtrBalance s
  | .sgnCycleUpdate cur => Sys2Proof.Machine.execSgnCycleUpdate cur s
  | .stringFault k ps => Sys2Proof.Machine.execStringFault k ps s
  | .sinkFault k ps => Sys2Proof.Machine.execSinkFault k ps s
  | .failureRecordWrite f0 f1 => Sys2Proof.Machine.execFailureRecordWrite f0 f1 s
  | .sgnLevelApply => Sys2Proof.Machine.execSgnLevelApply s
  | .matrixLatch e => Sys2Proof.Machine.execMatrixLatch e s
  | .syncTimeout => Sys2Proof.Machine.execSyncTimeout s
  | .matrixShiftEnd => Sys2Proof.Machine.execMatrixShiftEnd s
  | .matrixRefresh => Sys2Proof.Machine.execMatrixRefresh s
  | .sensorRead r => Sys2Proof.Machine.execSensorRead r s
  | .sensorRetry r => Sys2Proof.Machine.execSensorRetry r s
  | .ntcMeasure n x => Sys2Proof.Machine.execNtcMeasure n x s
  | .derateUpdate => Sys2Proof.Machine.execDerateUpdate s
  | .sgnStringConfig => Sys2Proof.Machine.execSgnStringConfig s
  | .sgnFunction => Sys2Proof.Machine.execSgnFunction s
  | .sgnFrameLoad => Sys2Proof.Machine.execSgnFrameLoad s
  | .sgnFlip => Sys2Proof.Machine.execSgnFlip s
  | .sgnLevel => Sys2Proof.Machine.execSgnLevel s
  | .sgnStatus => Sys2Proof.Machine.execSgnStatus s
  | .sgnDerate => Sys2Proof.Machine.execSgnDerate s
  | .dinSample levels edges => Sys2Proof.Machine.execDinSample levels edges s
  | .evDinStuck k => Sys2Proof.Machine.execEvDinStuck k s
  | .chatterWindowEnd k => Sys2Proof.Machine.execChatterWindowEnd k s
  | .evDoutFault k thermal => Sys2Proof.Machine.execEvDoutFault k thermal s
  | .doutApply => Sys2Proof.Machine.execDoutApply s
  | .doutReturn => Sys2Proof.Machine.execDoutReturn s
  | .ioDinConfig => Sys2Proof.Machine.execIoDinConfig s
  | .ioDinRead => Sys2Proof.Machine.execIoDinRead s
  | .ioDoutSet => Sys2Proof.Machine.execIoDoutSet s
  | .ioDoutConfig => Sys2Proof.Machine.execIoDoutConfig s
  | .ioStatus => Sys2Proof.Machine.execIoStatus s
  | .canFrameReceived p f => Sys2Proof.Machine.execCanFrameReceived p f s
  | .canAttemptEnd p sof e => Sys2Proof.Machine.execCanAttemptEnd p sof e s
  | .canRecovered p => Sys2Proof.Machine.execCanRecovered p s
  | .canDetectDwell p => Sys2Proof.Machine.execCanDetectDwell p s
  | .canConfig => Sys2Proof.Machine.execCanConfig s
  | .canBufferConfig => Sys2Proof.Machine.execCanBufferConfig s
  | .canSend => Sys2Proof.Machine.execCanSend s
  | .canCancel started => Sys2Proof.Machine.execCanCancel started s
  | .canRead => Sys2Proof.Machine.execCanRead s
  | .canStatus => Sys2Proof.Machine.execCanStatus s
  | .canRecover => Sys2Proof.Machine.execCanRecover s
  | .appenderRun => Sys2Proof.Machine.execAppenderRun s
  | .pageProgram ok => Sys2Proof.Machine.execPageProgram ok s
  | .freezeExpiry p => Sys2Proof.Machine.execFreezeExpiry p s
  | .logStatus => Sys2Proof.Machine.execLogStatus s
  | .logRead => Sys2Proof.Machine.execLogRead s
  | .logFreeze => Sys2Proof.Machine.execLogFreeze s
  | .logThaw => Sys2Proof.Machine.execLogThaw s
  | .logSeverity => Sys2Proof.Machine.execLogSeverity s
  | .logAppend => Sys2Proof.Machine.execLogAppend s
  | .keyCommitEntry => Sys2Proof.Machine.execKeyCommitEntry s
  | .keyOverlapEnd => Sys2Proof.Machine.execKeyOverlapEnd s
  | .kekRewrapComplete => Sys2Proof.Machine.execKekRewrapComplete s
  | .keyGenerateComplete pairOk f0 f1 => Sys2Proof.Machine.execKeyGenerateComplete pairOk f0 f1 s
  | .keyGenerate => Sys2Proof.Machine.execKeyGenerate s
  | .keyImport f0 f1 => Sys2Proof.Machine.execKeyImport f0 f1 s
  | .keyStage f0 f1 => Sys2Proof.Machine.execKeyStage f0 f1 s
  | .keyVerify f0 f1 => Sys2Proof.Machine.execKeyVerify f0 f1 s
  | .keyCommit f0 f1 => Sys2Proof.Machine.execKeyCommit f0 f1 s
  | .keyAttest => Sys2Proof.Machine.execKeyAttest s
  | .keyInfo => Sys2Proof.Machine.execKeyInfo s
  | .keyDestroy f0 f1 => Sys2Proof.Machine.execKeyDestroy f0 f1 s
  | .keyWorldSet f0 f1 => Sys2Proof.Machine.execKeyWorldSet f0 f1 s
  | .scrubRead mem m => Sys2Proof.Machine.execScrubRead mem m s
  | .dramPatrol words m f0 f1 => Sys2Proof.Machine.execDramPatrol words m f0 f1 s
  | .flipTimeout writtenAt => Sys2Proof.Machine.execFlipTimeout writtenAt s
  | .memRepairComplete programmed f0 f1 => Sys2Proof.Machine.execMemRepairComplete programmed f0 f1 s
  | .nandReclaim part block erases job => Sys2Proof.Machine.execNandReclaim part block erases job s
  | .latCompact => Sys2Proof.Machine.execLatCompact s
  | .memStatus => Sys2Proof.Machine.execMemStatus s
  | .memErrors => Sys2Proof.Machine.execMemErrors s
  | .memFlip => Sys2Proof.Machine.execMemFlip s
  | .memRepair => Sys2Proof.Machine.execMemRepair s
  | .memScrub => Sys2Proof.Machine.execMemScrub s
  | .memWithdraw => Sys2Proof.Machine.execMemWithdraw s
  | .memRestore => Sys2Proof.Machine.execMemRestore s
  | .memActivity => Sys2Proof.Machine.execMemActivity s
  | .withdrawalApply fails => Sys2Proof.Machine.execWithdrawalApply fails s
  | .withdrawalEnd => Sys2Proof.Machine.execWithdrawalEnd s
  | .internalActivityRestart act inst => Sys2Proof.Machine.execInternalActivityRestart act inst s
  | .updBegin f => Sys2Proof.Machine.execUpdBegin f s
  | .updChunk f => Sys2Proof.Machine.execUpdChunk f s
  | .updVerify => Sys2Proof.Machine.execUpdVerify s
  | .updVerifyComplete matched readOk => Sys2Proof.Machine.execUpdVerifyComplete matched readOk s
  | .updActivate => Sys2Proof.Machine.execUpdActivate s
  | .updStatus => Sys2Proof.Machine.execUpdStatus s
  | .updRollback => Sys2Proof.Machine.execUpdRollback s
  | .updAbort => Sys2Proof.Machine.execUpdAbort s
  | .preparationComplete => Sys2Proof.Machine.execPreparationComplete s
  | .preparationDeadline => Sys2Proof.Machine.execPreparationDeadline s
  | .handoverOpen => Sys2Proof.Machine.execHandoverOpen s
  | .engineChangeover n => Sys2Proof.Machine.execEngineChangeover n s
  | .firmwareReady => Sys2Proof.Machine.execFirmwareReady s
  | .handoverClose crcBad => Sys2Proof.Machine.execHandoverClose crcBad s
  | .handoverTimeout resumes crcBad => Sys2Proof.Machine.execHandoverTimeout resumes crcBad s
  | .trialConfirm => Sys2Proof.Machine.execTrialConfirm s
  | .indirectAttemptExpiry id => Sys2Proof.Machine.execIndirectAttemptExpiry id s
  | .dataTimingSearchEnd p => Sys2Proof.Machine.execDataTimingSearchEnd p s
  | .canReceiveError p eight brs => Sys2Proof.Machine.execCanReceiveError p eight brs s
  | .checkpointComplete media => Sys2Proof.Machine.execCheckpointComplete media s

end Sys2Proof.Machine
end

