-- ==== Sys2Proof/Machine/Tick.lean ====
section
/-!
DEFINITION. One tick of the 25 ns TCXO: what time does while no command waits (03 R71, R77, R81; 04 R98; 07 R191, R192,
R199; 08 R228, R229; 17 R483).
-/
namespace Sys2Proof.Machine

/-- The rate × 4,096 accumulated over ticks to one phase unit; and the rate over ticks to one cycle. -/
def ttUnit : Nat := 65536 * 40000000

/-- The slew after a tick (R81): when a cycle of the rate has passed since the slew or its last cycle began, the next one begins. -/
def Tether.slewTick (t : Tether) : Tether :=
  if t.state == .slew then
    let acc := t.slewAcc + t.rate
    if acc < ttUnit then { t with slewAcc := acc } else { t.slewNext with slewAcc := acc - ttUnit }
  else t

/-- TT after a tick (R78, R81): in a cycle of the rate it advances 4,096 pu less `cycAdj`. -/
def ttTick (s : State) : State :=
  if s.tt.running then
    let acc := s.clk.ttAcc + s.tt.rate * (4096 - s.tt.cycAdj).toNat
    { s with
      clk := { s.clk with ttAcc := acc % ttUnit }
      tt := { s.tt with tt := s.tt.tt + acc / ttUnit }.slewTick }
  else s

/-- The crystal after a tick of the TCXO: 32,768 Hz against 40 MHz. It does not count in SHELF or while it is stopped (R98). -/
def rtcTick (s : State) : State :=
  if s.pwr.mode == .shelf || s.rtc.osc != .runs then s
  else
    let acc := s.clk.rtcAcc + 32768
    if acc < 40000000 then { s with clk := { s.clk with rtcAcc := acc } }
    else crystalTick { s with clk := { s.clk with rtcAcc := acc - 40000000 } }

/-- The time a trial set has run, in RUN, DEGRADED and SERVICE (R483). -/
def trialTick (s : State) : State :=
  if s.upd.trial && wdMode s.pwr.mode then { s with upd := { s.upd with trialRun := s.upd.trialRun + 1 } } else s

/-- An engine hears the channel of a frame it has had admitted: some branch is valid there. -/
def hears (s : State) (n : Nat) (f : Frame) : Bool :=
  [0, 1].any fun k => branchAt s k (frameFreq s n f) (phyWidth (ceCfg s n).phy)

/-- Listening before talk (R199): while an engine has no valid branch it does not listen, and its attempt ends as much later. -/
def listenTick (s : State) : State :=
  { s with rad := { s.rad with ces := s.rad.ces.mapIdx fun n e => match e.adm with
    | some a => if e.st == .access && decide (a.listen ≤ s.clk.ticks) && !hears s n a.frame then
        { e with adm := some { a with due := a.due + 1 } } else e
    | none => e } }

/-- The end of the PHR of a frame that an engine receives (R191, R192): the TT, and whether a receive buffer is free. -/
def phrTick (s : State) : State :=
  { s with rad := { s.rad with ces := s.rad.ces.map fun e => match e.rx with
    | some r => if r.phr = s.clk.ticks then
        { e with rx := some { r with phrTt := some s.tt.tt, full := decide (258 ≤ e.ring.length) } } else e
    | none => e } }

/-- One tick of the TCXO. -/
def tick (s : State) : State :=
  let s1 := stampAir (phrTick (listenTick (trialTick (rtcTick (ttTick s)))))
  { s1 with clk := { s1.clk with ticks := s1.clk.ticks + 1 } }

end Sys2Proof.Machine
end

