-- ==== Sys2Proof/Machine/Pads.lean ====
section
/-!
DEFINITION. The pads of the module (01): the state of every signal pad as a function of the state of the machine, for a pad of an absent
unit, before its unit configures it, and after; and what the debug port implements.
-/
namespace Sys2Proof.Machine

/-- State of a pad (01, "Reset states"), with two more: `on_`, an open-drain switch or sink that conducts, and `unit`, the pad that its
unit modulates, drives within an access, or reads. -/
inductive PadSt where
  | z | zPu | zPd | low | high | off | on_ | unit
  deriving DecidableEq, Repr, Inhabited

/-- The signal pads of R30, by name; `k` numbers the pads of one row, and `n` tells the negative pad of a pair. -/
inductive Pad where
  | hSck (p : Fin 4) | hCsN (p : Fin 4) | hIo (p : Fin 4) (k : Nat) | hIrqN (p : Fin 4) | h3Mosi | h3Miso
  | h2A (k : Nat) | h2D (k : Nat) | h2RdN | h2WrN | h2WaitN
  | dbgTck | dbgTms | dbgTdi | dbgTdo | resetN | pgood | pfwN | strap (k : Nat) | tamp (k : Nat) | rsvd | v33Aux
  | din (k : Nat) | dout (k : Nat) | canTxd (k : Nat) | canRxd (k : Nat) | canStb (k : Nat) | zcIn | ntc (k : Nat) | i2cScl | i2cSda
  | rfAnt (k : Nat) | po (k : Nat) | ind (k : Nat) | mclk (k : Nat) (n : Bool) | mi (k : Nat) (n : Bool)
  | lg (k : Nat) | ls (k : Nat) | mxD (k : Nat) | mxClk | mxLat | mxOeN | syncIn
  deriving DecidableEq, Repr

/-- The unit whose absence a pad's last column names (R30). -/
def Pad.block : Pad → Option Nat
  | .canTxd 1 | .canRxd 1 | .canStb 1 => some 0x0E
  | .po _ | .mclk _ _ | .mi _ _ => some 0x0B
  | .ntc _ | .i2cScl | .i2cSda | .ind _ | .lg _ | .ls _ | .mxD _ | .mxClk | .mxLat | .mxOeN | .syncIn => some 0x0C
  | _ => none

/-- The pad belongs to a host port, which VIOH supplies (R28). -/
def Pad.host : Pad → Option (Fin 4)
  | .hSck p | .hCsN p | .hIo p _ | .hIrqN p => some p
  | .h3Mosi | .h3Miso => some 3
  | .h2A _ | .h2D _ | .h2RdN | .h2WrN | .h2WaitN => some 2
  | _ => none

/-- The straps of this BOOT have been sampled (R37). -/
def strapsSampled (s : State) : Bool :=
  match s.pwr.bootStep with | .off | .inReset | .rails | .phase => false | _ => true

/-- The pad belongs to an absent unit, or to H2 while it is disabled or the straps have not been sampled (R6, R29). -/
def padAbsent (s : State) (x : Pad) : Bool :=
  (match x.block with | some b => !blockPresent s.dev.variant b | none => false) ||
    (x.host == some 2 && !(strapsSampled s && portPresent s 2))

/-- A modulator input is read at this pad: the positive pad always, the negative one only in LVDS mode (R32, R327). -/
def inputUses (s : State) (k : Nat) (n : Bool) : Bool :=
  let x := s.mtr.inputs.getD k default
  x.enable && (!n || x.lvds)

/-- A modulator clock's pads (R32, R328): an enabled clock drives both pads of the pair as LVDS, or the positive one as CMOS with the
negative one held low; a disabled one drives low. It runs from step 6 of BOOT. -/
def clockPad (s : State) (k : Nat) (n : Bool) : PadSt :=
  let x := s.mtr.clocks.getD k default
  if windowAlive s && x.enable && (!n || x.lvds) then .unit else .low

/-- An IRQ pad (R30, R150): pulled up until the host windows come alive, then driven. -/
def irqPad (s : State) (p : Fin 4) : PadSt := if !windowAlive s then .zPu else if irqN s p then .high else .low

/-- Any carrier of a front end is on the air. -/
def onAir (s : State) (k : Nat) : Bool := !(if k = 0 then s.rad.fe0 else s.rad.fe1).carriers.isEmpty

/-- The pad of a powered module whose unit is present. -/
def padLive (s : State) : Pad → PadSt
  | .hSck _ | .hIo _ _ | .h3Mosi | .h2A _ | .h2D _ | .dbgTck => .zPd
  | .hCsN _ | .h2RdN | .h2WrN | .dbgTms | .dbgTdi | .resetN => .zPu
  | .hIrqN p => irqPad s p
  | .h3Miso | .h2WaitN | .dbgTdo | .rsvd => .z
  | .pgood => if s.pwr.pgood then .off else .low
  | .pfwN => if s.pwr.pfwN then .off else .low
  | .strap _ => .zPd
  | .tamp _ => .unit
  | .v33Aux => if s.pwr.v33aux then .high else .off
  | .din _ | .zcIn | .syncIn => .zPd
  | .dout k => if doutOn s k then .on_ else .off
  | .canTxd k => if !served s then .zPu else if canMode s k = 1 then .unit else .high
  | .canRxd _ => .zPu
  | .canStb k => if !served s then .zPu else if canMode s k = 0 then .high else .low
  | .ntc _ | .ls _ => .z
  | .i2cScl | .i2cSda => if sgnUp s && s.sgn.sensor.enable then .unit else .off
  | .rfAnt k => if onAir s k then .on_ else .unit
  | .po k => if pulseLevel s k then .high else .low
  | .ind k => if sgnUp s && s.sgn.duty.getD (16 + k) 0 != 0 then .unit else .off
  | .mclk k n => clockPad s k n
  | .mi k n => if inputUses s k n then .unit else .zPd
  | .lg k => if sgnUp s && s.sgn.duty.getD k 0 != 0 then .unit else .low
  | .mxD _ | .mxClk => if s.sgn.shiftEnd.isSome then .unit else .low
  | .mxLat => .low
  | .mxOeN => if sgnUp s && s.sgn.matrix.enable && s.sgn.duty.getD 24 0 != 0 then .unit else .high

/-- The state of a pad (R6, R28 to R32, R44). Unpowered, only the tamper inputs and the clamps of PGOOD and PFW_N are active. While VIOH is
below 1.6 V the host-port pads are high-impedance. H3_MISO, H2_WAIT_N and the data pads are driven only within an access, which is no
state. -/
def padState (s : State) (x : Pad) : PadSt :=
  if s.pwr.bootStep == .off then (match x with | .pgood | .pfwN => .low | .tamp _ => .unit | _ => .z)
  else if x.host.isSome && !s.pwr.viohGood then .z
  else if padAbsent s x then .zPd
  else padLive s x

/-- What the test access port implements (R33): `access` stands for the access to the module that an open port gives. -/
inductive TapOp where
  | bypass | idcode | access
  deriving DecidableEq, Repr

/-- The debug port implements an operation: while it is locked, BYPASS and IDCODE only (R33, R40). -/
def tapHas (s : State) : TapOp → Bool
  | .bypass => true
  | .idcode => true
  | .access => s.key.debugOpen

end Sys2Proof.Machine
end

