-- ==== Sys2Proof/Safety.lean ====
section
/-!
DEFINITION. The terms in which claims about the block are stated: when a Broesh request is served and passes its checks, what must never
be undone by a step, and what a well-formed state is.
-/
namespace Sys2Proof.Machine

/-- The state with a request taken out of the command processor's list: it is being executed. -/
def took (r : Req) (s : State) : State := { s with cmd := { s.cmd with taken := s.cmd.taken.filter fun x => x.id != r.id } }

/-- `r` is the first request that may execute, it carries the opcode, no handover window is open (R66), and it passes the checks of R167
that are its command's. -/
abbrev Runs (code : Nat) (chk : Req → State → Option Fail) (r : Req) (s : State) : Prop :=
  firstReady s.cmd.taken = some r ∧ (r.opcode = code ∧ s.upd.windowOpen = false) ∧ chk r (took r s) = none

/-- `r` is the first request that may execute, it carries the opcode, no handover window is open, and `f` is the first of its checks that
fails. -/
abbrev Refused (code : Nat) (chk : Req → State → Option Fail) (r : Req) (f : Fail) (s : State) : Prop :=
  firstReady s.cmd.taken = some r ∧ (r.opcode = code ∧ s.upd.windowOpen = false) ∧ chk r (took r s) = some f

/-- A command answers the first of its checks that fails and does nothing else, and does nothing for a request of another opcode or in a
handover window. -/
abbrev Answers (c : Instr) (code : Nat) (chk : Req → State → Option Fail) (r : Req) (s : State) : Prop :=
  (∀ f, Refused code chk r f s → exec c s = .next (failReq r f (took r s))) ∧
  (firstReady s.cmd.taken = some r → r.opcode ≠ code → exec c s = .next s) ∧ (s.upd.windowOpen = true → exec c s = .next s)

/-- A key slot has been committed: the debug port is locked for good (R40). -/
abbrev DebugClosed (s : State) : Prop := s.key.everCommitted = true → s.key.debugLock = true ∧ s.key.debugOpen = false

/-- The words of the messages in a return queue stay within its size (R141). -/
abbrev QueuesFit (p : PortSt) : Prop := retUsed p.rsp ≤ retCap 0 ∧ retUsed p.ntf ≤ retCap 1

/-- What no step undoes: the part stays the same part; the anti-rollback floor does not fall (R484); a committed module stays committed,
with its debug port locked (R40); the factory identity key stands (R418). -/
structure NothingUndone (s t : State) : Prop where
  part : t.dev = s.dev
  floor : s.upd.floor ≤ t.upd.floor
  committed : s.key.everCommitted = true → t.key.everCommitted = true
  locked : s.key.debugLock = true → t.key.debugLock = true
  identity : t.key.identity = s.key.identity

/-- The next edge that ZC_POL names is a qualified crossing of the primary source, which is ZC_IN, active and qualified; its period is `p`
and its phase error `e` (R71, R73, R77). -/
abbrev PrimaryCrossing (s : State) (p : Nat) (e : Int) : Prop :=
  let stamp := s.clk.ticks - s.tt.cfg.zcDelay * 40
  let j := s.tt.prim.judge stamp (ttAt s stamp) (cycOf s)
  s.tt.running = true ∧ s.tt.cfg.primary = 1 ∧ s.tt.onSecondary = false ∧ s.tt.prim.glitch stamp = false ∧ j.2 = some p ∧
    j.1.live (cycOf s) = true ∧ e = wrapPu (ttPh (ttAt s stamp))

/-- A setting change that the timeline queue has room for, of a block. -/
abbrev Room (block : Nat) (s : State) : Prop := tlRoom s.tl block 1 = true

/-- The entry of the timeline queue that is due now has this kind. -/
abbrev Due (e : TlEntry) (s : State) : Prop := tlDue s = some e

/-- The state after a setting command has been taken and its change put into the timeline queue for the next cycle boundary, as a rank 3
entry of its block (R89). -/
def stored (block : Nat) (r : Req) (s : State) : State :=
  { took r s with
    tl := ⟨s.tl.entries ++ [⟨nextBoundary s, 3, s.tl.nextSeq, block, false, .config r, true⟩], s.tl.nextSeq + 1,
      Nat.max s.tl.peak (s.tl.entries.length + 1)⟩ }

/-- The message at the front of engine `n`'s ring is `m`, of operation `op`, and the ring is read (it is not between opening and closing). -/
abbrev Head (op n : Nat) (m : RxMsg) (s : State) : Prop :=
  s.upd.windowOpen = false ∧ (ceOf s n).ring.head? = some m ∧ m.app.getD 0 0 = op

/-! ### What a step may touch -/

/-- The units of the state. -/
inductive Part where
  | dev | clk | pwr | wd | tt | tl | alarms | rtc | shadow
  | ports | cmd | log | rad | mac | lat | txn | sch | chd
  | mtr | sgn | io | can | key | mem | upd | bal | pending
  deriving DecidableEq, Repr

/-- A unit is the same in both states. -/
def Part.same (p : Part) (s t : State) : Prop :=
  match p with
  | .dev => t.dev = s.dev
  | .clk => t.clk = s.clk
  | .pwr => t.pwr = s.pwr
  | .wd => t.wd = s.wd
  | .tt => t.tt = s.tt
  | .tl => t.tl = s.tl
  | .alarms => t.alarms = s.alarms
  | .rtc => t.rtc = s.rtc
  | .shadow => t.shadow = s.shadow
  | .ports => t.ports = s.ports
  | .cmd => t.cmd = s.cmd
  | .log => t.log = s.log
  | .rad => t.rad = s.rad
  | .mac => t.mac = s.mac
  | .lat => t.lat = s.lat
  | .txn => t.txn = s.txn
  | .sch => t.sch = s.sch
  | .chd => t.chd = s.chd
  | .mtr => t.mtr = s.mtr
  | .sgn => t.sgn = s.sgn
  | .io => t.io = s.io
  | .can => t.can = s.can
  | .key => t.key = s.key
  | .mem => t.mem = s.mem
  | .upd => t.upd = s.upd
  | .bal => t.bal = s.bal
  | .pending => t.pending = s.pending

/-- Every unit but the listed ones is the same. -/
def OnlyChanges (ps : List Part) (s t : State) : Prop := ∀ p : Part, p ∉ ps → p.same s t

/-- All units but the part itself and the queue of commands. -/
def everyUnit : List Part :=
  [.clk, .pwr, .wd, .tt, .tl, .alarms, .rtc, .shadow, .ports, .cmd, .log, .rad, .mac, .lat, .txn, .sch, .chd, .mtr, .sgn, .io, .can, .key,
   .mem, .upd, .bal]

/-- The units that sending, receiving and settling frames may reach: engines, front ends, records, transactions with their completions, and
what an outcome changes (lighting state, AUTONOMOUS and its outputs). -/
def radioWork : List Part := [.clk, .pwr, .wd, .ports, .cmd, .log, .rad, .mac, .lat, .txn, .sch, .chd, .io]

/-- The units that a command or event of the block may change; every other unit keeps its state. -/
def mayChange (c : Instr) : List Part :=
  match c with
  | .vinOnRise _ => [.pwr, .rtc, .ports, .log]
  | .railsGood | .pfwEffRestore _ | .viohChange _ => [.pwr]
  | .strapSample _ _ _ => [.pwr, .log, .key]
  | .fuseMapLoad _ => [.pwr, .ports, .log, .mem]
  | .retentionCheck _ _ _ => [.clk, .pwr, .tl, .rtc, .ports, .cmd, .log, .mac, .io, .can, .key, .bal]
  | .vbakMeasure _ | .rtcCorrectionWindow _ _ _ | .oscStopDetect _ _ | .evLbv _ _ => [.rtc, .log]
  | .bankVerify _ _ _ | .updActivate =>
    [.pwr, .wd, .tt, .ports, .cmd, .log, .rad, .mac, .txn, .sch, .chd, .mtr, .sgn, .io, .can, .mem, .upd, .bal]
  | .windowAlive _ _ => [.clk, .pwr, .tt, .ports, .log, .rad, .mtr, .mem]
  | .latticeRestore _ | .detect _ | .chdEvaluation | .waveEnd | .chdInject =>
    [.clk, .pwr, .wd, .tl, .ports, .cmd, .log, .rad, .mac, .lat, .txn, .sch, .chd, .io]
  | .bootEnd => [.pwr, .wd, .tl, .ports, .log, .rad, .mac, .io, .can, .key, .bal]
  | .pfwAssert _ _ => [.clk, .pwr, .wd, .ports, .cmd, .log, .rad, .mac, .lat, .txn, .sch, .chd, .mtr, .io, .bal]
  | .pfwAbort _ | .brownOut _ => [.pwr, .wd, .ports, .log, .rad, .lat]
  | .vinLoss _ | .resetNAssert _ | .railFault | .coreWatchdogExpiry | .lockstepMismatch _ | .firewallViolation _ _ _ _ | .softwareReset |
    .scrubRead _ _ | .dramPatrol _ _ _ _ | .handoverTimeout _ _ => everyUnit
  | .evVinSurge _ | .resetNRelease => [.pwr, .log]
  | .retentionTokenLoss _ _ | .bakSwitchOver => [.rtc]
  | .hostWatchdogExpiry _ | .reqCommit _ _ _ => [.pwr, .wd, .ports, .log, .io]
  | .zcEdge _ | .meterCrossing _ => [.pwr, .wd, .tt, .ports, .log, .txn]
  | .holdoverEntry => [.pwr, .wd, .tt, .ports, .log]
  | .secondarySwitch | .primaryReturn => [.tt, .tl, .log]
  | .evTtHoldoverLong | .evTtReserveFail => [.tt, .log]
  | .reservationWrite _ _ => [.clk, .tt, .log, .mem]
  | .reserveCeilingReached | .anchorCapture => [.tt]
  | .ttConfigApply => [.tt, .tl]
  | .configEntryApply | .cfgSetApply _ =>
    [.clk, .pwr, .wd, .tt, .tl, .rtc, .ports, .cmd, .log, .rad, .mac, .lat, .txn, .sch, .chd, .mtr, .sgn, .io, .can, .mem, .bal]
  | .ttAlarmFire => [.tl, .alarms, .ports, .log]
  | .ttSnapLoRead _ _ | .rtcShadowRead _ _ _ | .rspDataPop _ _ _ => [.shadow, .ports, .can]
  | .ttStatus | .ttConvert | .ttAnchors | .ttQueue | .rtcStatus | .bramRead | .requestTake | .orderedExecutionStart | .sysNop |
    .sysIdent | .sysCaps | .sysStatus | .sysCfgBegin | .radStatus | .radCalStatus | .macEngineStatus | .latRead | .latFind |
    .latRouteRead | .schGroupRead | .schEntryRead | .schEvaluate | .chdCorridorRead | .chdWaves | .mtrRead | .mtrIntervals |
    .mtrBalance | .sgnStatus | .ioDinRead | .ioStatus | .canStatus | .logStatus | .logRead | .memActivity | .updStatus => [.ports, .cmd]
  | .ttConfig => [.tt, .tl, .ports, .cmd, .log]
  | .ttAlarm => [.tl, .alarms, .ports, .cmd, .log]
  | .ttAlarmCancel => [.tl, .alarms, .ports, .cmd]
  | .rtcShadowTimeout _ => [.shadow]
  | .rtcSetCommit => [.tt, .rtc, .ports, .cmd, .log]
  | .tamperSample _ _ => [.clk, .tl, .rtc, .ports, .cmd, .log, .mac, .io, .can, .key, .bal]
  | .rtcSet | .bramWrite => [.rtc, .ports, .cmd]
  | .rtcFlags | .rtcTrim | .tamperConfig => [.rtc, .ports, .cmd, .log]
  | .reqDataPush _ _ _ | .reqAbort _ _ | .intStatClear _ _ | .heldMessagePlace _ _ => [.ports]
  | .rspDiscardHead _ _ | .rspDiscardAll _ _ => [.ports, .can]
  | .portFlush _ => [.tl, .ports, .cmd, .log, .txn, .can, .bal]
  | .registerWrite _ _ _ _ => [.pwr, .wd, .tl, .shadow, .ports, .cmd, .log, .txn, .io, .can, .bal]
  | .ntfLostPlace _ | .cfgSetTimeout _ => [.ports, .log]
  | .sysReset | .sysShelf => [.pwr, .ports, .cmd]
  | .sysWatchdog => [.pwr, .wd, .ports, .cmd, .log, .io]
  | .sysMode => [.pwr, .wd, .tl, .ports, .cmd, .log]
  | .sysPower => [.clk, .pwr, .ports, .cmd, .log]
  | .sysCfgCommit | .sysCfgAbort | .sysSettingsReset | .radBandPlan | .radFeConfig | .radEngineConfig | .macBeaconConfig |
    .macSleepyConfig | .latKeyLoad | .txnOrderMode | .txnRetryPolicy | .schGroupSet | .schEntrySet | .schEntryClear | .schSite |
    .schTzRule | .schFallback | .chdCorridorClear | .chdConfig | .mtrInputConfig | .mtrFeederConfig | .mtrPulseConfig |
    .sgnStringConfig | .sgnFunction | .sgnLevel | .sgnDerate | .ioDinConfig | .ioDoutConfig | .canConfig | .canBufferConfig |
    .logSeverity => [.tl, .ports, .cmd, .log]
  | .sysSettings | .keyAttest | .memStatus => [.clk, .ports, .cmd]
  | .radCalSweep => [.clk, .pwr, .wd, .ports, .cmd, .log, .rad, .mac, .lat, .txn, .sch, .chd, .io, .bal]
  | .radTxTest | .txTestEnd _ _ => [.ports, .cmd, .log, .rad]
  | .calSweepEnd _ _ => [.pwr, .wd, .ports, .cmd, .log, .rad, .bal]
  | .feRetune _ _ | .shrDetect _ _ | .frameReceived _ _ | .enhancedAck _ | .ackReceived _ _ | .ackTimeout _ | .lbtAttempt _ _ _ |
    .transmitEnd _ _ | .frameDeadline _ | .evFeFault _ _ | .confirm _ | .report _ | .txnAttempt _ | .txnConfirmTimeout _ |
    .txnBackoffEnd _ | .txnDeadline _ | .latRemove _ | .txnCancel | .indirectAttemptExpiry _ => radioWork
  | .carrierAdmit _ => [.clk, .log, .rad, .mac, .lat]
  | .dutyBinAdvance | .rxCalPublish _ _ _ _ _ | .rxCalAdopt _ | .gainStepChange _ _ _ | .dpdApply _ _ | .dpdTimeout _ |
    .feRelockRetry _ _ => [.rad]
  | .vswrRecovery _ | .paTemperatureChange _ _ | .evFeGainForced _ _ => [.log, .rad]
  | .beaconDue _ | .backupBeacon _ | .greetingRound _ => [.ports, .log, .rad, .mac]
  | .extraBeacon _ => [.log, .rad, .mac]
  | .linkSweep _ | .pollMiss _ => [.log, .mac]
  | .macLinkState => [.ports, .cmd, .log, .mac]
  | .macRawSend => [.ports, .cmd, .log, .rad, .mac]
  | .joinReq _ _ => [.log, .rad, .lat, .txn]
  | .rejoin _ _ => [.ports, .log, .rad, .mac, .lat, .txn]
  | .energy _ => [.rad, .lat, .mtr]
  | .imageNack _ | .imgReport _ => [.rad, .lat]
  | .seqWaitExpiry _ | .txnSend | .txnLevel | .txnGroupLevel => [.ports, .cmd, .log, .txn]
  | .groupRepeat _ => [.ports, .cmd, .log, .rad, .mac, .lat, .txn]
  | .linkKeyOverlapEnd => [.tl, .lat]
  | .linkKeyLoadApply _ => [.tl, .ports, .cmd, .log, .mac, .lat]
  | .backgroundCheckpoint | .journalPageWrite | .joinPermitExpiry => [.lat]
  | .imagePhase _ => [.ports, .cmd, .log, .rad, .lat]
  | .latAdd _ => [.pwr, .wd, .ports, .cmd, .log, .lat, .io]
  | .latUpdate _ => [.pwr, .wd, .ports, .cmd, .log, .mac, .lat, .txn, .io]
  | .latJoinPolicy | .latImageSend | .latCheckpoint => [.ports, .cmd, .lat]
  | .latImageLoad => [.ports, .cmd, .log, .lat]
  | .txnStatus => [.ports, .cmd, .txn]
  | .schDecide => [.log, .txn, .sch]
  | .schGroupMembers _ => [.ports, .cmd, .log, .lat, .txn]
  | .chdCorridorSet => [.tl, .ports, .cmd, .log, .chd]
  | .meterCycleEnd _ => [.rtc, .log, .mtr]
  | .evMeterOverrange _ _ | .evMeterInputFault _ _ _ | .intervalClose | .meterSave _ | .meterSaveRetry _ => [.log, .mtr]
  | .pulseStart _ => [.mtr]
  | .meterCalApply | .mtrCalibrate => [.tl, .ports, .cmd, .log, .mtr, .bal]
  | .meterMeasureEnd _ => [.ports, .cmd, .mtr, .bal]
  | .sgnCycleUpdate _ | .matrixRefresh => [.sgn]
  | .stringFault _ _ | .sinkFault _ _ | .syncTimeout | .matrixShiftEnd => [.ports, .log, .sgn]
  | .failureRecordWrite _ _ => [.clk, .log, .sgn, .mem]
  | .sgnLevelApply => [.tl, .sgn]
  | .matrixLatch _ => [.tl, .ports, .log, .sgn]
  | .sensorRead _ => [.clk, .log, .sgn]
  | .sensorRetry _ | .ntcMeasure _ _ | .derateUpdate => [.log, .sgn]
  | .sgnFrameLoad => [.ports, .cmd, .sgn]
  | .sgnFlip => [.tl, .ports, .cmd, .log, .sgn]
  | .dinSample _ _ | .canRecovered _ | .dataTimingSearchEnd _ => [.ports, .log, .io, .can]
  | .evDinStuck _ | .chatterWindowEnd _ | .evDoutFault _ _ => [.log, .io]
  | .doutApply | .doutReturn => [.tl, .log, .io]
  | .ioDoutSet => [.tl, .ports, .cmd, .log, .io]
  | .canFrameReceived _ _ => [.clk, .ports, .log, .io, .can]
  | .canAttemptEnd _ _ _ => [.ports, .cmd, .log, .io, .can]
  | .canDetectDwell _ => [.can]
  | .canSend | .canCancel _ | .canRead | .canRecover => [.ports, .cmd, .can]
  | .appenderRun => [.log]
  | .pageProgram _ | .flipTimeout _ => [.log, .mem]
  | .freezeExpiry _ => [.log, .bal]
  | .logFreeze | .logThaw => [.ports, .cmd, .log, .bal]
  | .logAppend | .keyInfo => [.ports, .cmd, .log]
  | .keyCommitEntry => [.pwr, .tl, .ports, .cmd, .log, .mac, .key, .bal]
  | .keyOverlapEnd => [.tl, .log, .mac, .key]
  | .kekRewrapComplete => [.log, .mac, .lat, .key, .bal]
  | .keyGenerateComplete _ _ _ | .keyImport _ _ | .keyStage _ _ | .keyVerify _ _ | .keyWorldSet _ _ =>
    [.clk, .ports, .cmd, .log, .key, .mem]
  | .keyGenerate => [.ports, .cmd, .key]
  | .keyCommit _ _ | .keyDestroy _ _ => [.clk, .tl, .ports, .cmd, .log, .key, .mem, .bal]
  | .memRepairComplete _ _ _ => [.clk, .ports, .cmd, .log, .io, .can, .mem, .bal]
  | .nandReclaim _ _ _ _ => [.clk, .pwr, .wd, .ports, .cmd, .log, .rad, .mac, .lat, .txn, .sch, .chd, .mtr, .io, .mem, .bal]
  | .latCompact => [.lat, .bal]
  | .memErrors => [.ports, .cmd, .mem]
  | .memFlip => [.ports, .cmd, .log, .mem]
  | .memRepair => [.ports, .cmd, .log, .mem, .bal]
  | .memScrub => [.tl, .ports, .cmd, .log, .mem, .bal]
  | .memWithdraw => [.tl, .ports, .cmd, .log, .bal]
  | .memRestore => [.tl, .ports, .cmd, .bal]
  | .withdrawalApply _ => [.clk, .pwr, .wd, .tl, .ports, .cmd, .log, .rad, .mac, .lat, .txn, .sch, .chd, .mtr, .sgn, .io, .can, .bal]
  | .withdrawalEnd => [.pwr, .wd, .tl, .ports, .cmd, .log, .rad, .mac, .txn, .chd, .mtr, .sgn, .can, .bal]
  | .internalActivityRestart _ _ => [.bal]
  | .updBegin _ | .updChunk _ => [.clk, .ports, .cmd, .log, .mem, .upd]
  | .updVerify => [.ports, .cmd, .upd]
  | .updVerifyComplete _ _ => [.clk, .ports, .cmd, .log, .upd]
  | .updRollback => [.ports, .cmd, .log, .upd, .bal]
  | .updAbort | .preparationDeadline => [.clk, .tl, .ports, .cmd, .log, .upd, .bal]
  | .preparationComplete => [.tl, .log, .upd]
  | .handoverOpen => [.pwr, .wd, .tl, .ports, .log, .upd]
  | .engineChangeover _ | .firmwareReady => [.upd]
  | .handoverClose _ =>
    [.clk, .pwr, .wd, .tt, .tl, .ports, .cmd, .log, .rad, .mac, .lat, .txn, .sch, .chd, .mtr, .sgn, .io, .can, .mem, .upd, .bal]
  | .trialConfirm => [.log, .upd]
  | .canReceiveError _ _ _ => [.log, .can]
  | .checkpointComplete _ => [.ports, .cmd, .log, .lat, .bal]

end Sys2Proof.Machine
end

