-- ==== Sys2Proof/WellFormed.lean ====
section
/-!
DEFINITION. Well-formed commands and events: every number lies in the range the spec gives it. A command that is not well-formed has no
counterpart outside; the machine is total on it all the same.
-/
namespace Sys2Proof

/-- An access of the window (R124 to R126): its byte offset lies in the 4 KiB window. A read carries no value, and a serial transaction
its address and its values itself. -/
def Access.wf (off : Nat) (w : Word) : Access → Bool
  | .write _ => decide (off < 4096)
  | .read _ => decide (off < 4096) && w == 0
  | .serial _ => off == 0 && w == 0

/-- A frame on air (R188, R189): its PSDU has 1 to 2,047 octets. -/
def AirFrame.wf (f : AirFrame) : Bool := decide (1 ≤ f.psdu.length) && decide (f.psdu.length ≤ 2047)

/-- A CAN frame of R386: a DLC of 4 bits, an identifier of 11 or 29 bits, and no remote frame in the FD format. -/
def CanStored.wf (f : CanStored) : Bool :=
  decide (f.dlc < 16) && decide (f.id < if f.ide then 2 ^ 29 else 2 ^ 11) && !(f.fdf && f.rtr)

/-- A read of a memory names a DRAM region of R436. -/
def MemRead.wf (m : MemRead) : Bool := decide (m.region < 32)

/-- A command or event is well-formed. -/
def Instr.wf : Instr → Bool
  | .latticeRestore x => x.lost.all fun p => decide (p < 16384)
  | .pfwAssert _ steps => decide (steps ≤ 7)
  | .firewallViolation part item block _ => decide (1 ≤ block) && decide (block ≤ 0x14) && (part || decide (item < 32))
  | .meterCrossing src => decide (0x11 ≤ src) && decide (src ≤ 0x1F) && decide (src % 4 ≠ 0)
  | .registerWrite _ off w a => a.wf off w
  | .txTestEnd n _ => decide (n < 64)
  | .shrDetect n _ => decide (n < 64)
  | .frameReceived n f => decide (n < 64) && f.wf
  | .enhancedAck n => decide (n < 64)
  | .ackReceived n f => decide (n < 64) && f.wf
  | .ackTimeout n => decide (n < 64)
  | .lbtAttempt n _ _ => decide (n < 64)
  | .transmitEnd n _ => decide (n < 64)
  | .frameDeadline n => decide (n < 64)
  | .rxCalAdopt n => decide (n < 64)
  | .beaconDue n => decide (n < 64)
  | .backupBeacon n => decide (n < 64)
  | .extraBeacon n => decide (n < 64)
  | .linkSweep n => decide (n < 64)
  | .pollMiss ep => decide (ep < 262144)
  | .greetingRound n => decide (n < 64)
  | .joinReq n _ => decide (n < 64)
  | .rejoin n _ => decide (n < 64)
  | .confirm n => decide (n < 64)
  | .energy n => decide (n < 64)
  | .detect n => decide (n < 64)
  | .imageNack n => decide (n < 64)
  | .imgReport n => decide (n < 64)
  | .report n => decide (n < 64)
  | .meterCycleEnd c => decide (c.length ≤ 4) && c.all fun x => x.phases.length == 3
  | .evMeterOverrange k density => decide (k < 32) && decide (density ≤ 10000)
  | .evMeterInputFault k _ _ => decide (k < 32)
  | .pulseStart k => decide (k < 8)
  | .meterMeasureEnd f => decide (f < 4)
  | .sgnCycleUpdate cur => decide (cur.length ≤ 25)
  | .stringFault k _ => decide (k < 16)
  | .sinkFault k _ => decide (k < 8)
  | .ntcMeasure n x => decide (n < 2) && decide (x ≤ 4095)
  | .dinSample levels edges => decide (levels < 65536) && decide (edges < 65536)
  | .evDinStuck k => decide (k < 16)
  | .chatterWindowEnd k => decide (k < 16)
  | .evDoutFault k _ => decide (k < 8)
  | .canFrameReceived p f => decide (p < 2) && f.wf
  | .canAttemptEnd p _ _ => decide (p < 2)
  | .canRecovered p => decide (p < 2)
  | .canDetectDwell p => decide (p < 2)
  | .scrubRead mem m => decide (mem < 16) && m.wf
  | .dramPatrol _ m _ _ => m.wf
  | .nandReclaim part _ _ _ => decide (part < 3)
  | .internalActivityRestart act _ => act == 8 || act == 9
  | .updVerifyComplete matched _ => decide (matched < 128)
  | .engineChangeover n => decide (n < 64)
  | .dataTimingSearchEnd p => decide (p < 2)
  | .canReceiveError p _ _ => decide (p < 2)
  | .vinOnRise _ | .railsGood | .strapSample _ _ _ | .fuseMapLoad _ | .retentionCheck _ _ _ | .vbakMeasure _
  | .bankVerify _ _ _ | .windowAlive _ _ | .bootEnd | .pfwAbort _ | .brownOut _ | .vinLoss _ | .pfwEffRestore _
  | .evVinSurge _ | .viohChange _ | .resetNAssert _ | .resetNRelease | .railFault | .coreWatchdogExpiry
  | .lockstepMismatch _ | .retentionTokenLoss _ _ | .bakSwitchOver | .hostWatchdogExpiry _ | .zcEdge _
  | .holdoverEntry | .secondarySwitch | .primaryReturn | .evTtHoldoverLong | .reservationWrite _ _
  | .evTtReserveFail | .reserveCeilingReached | .anchorCapture | .ttConfigApply | .configEntryApply | .ttAlarmFire
  | .ttSnapLoRead _ _ | .ttStatus | .ttConfig | .ttConvert | .ttAnchors | .ttAlarm | .ttAlarmCancel | .ttQueue
  | .rtcCorrectionWindow _ _ _ | .rtcShadowRead _ _ _ | .rtcShadowTimeout _ | .rtcSetCommit | .oscStopDetect _ _
  | .evLbv _ _ | .tamperSample _ _ | .rtcStatus | .rtcSet | .rtcFlags | .rtcTrim | .bramRead | .bramWrite
  | .tamperConfig | .reqDataPush _ _ _ | .reqCommit _ _ _ | .reqAbort _ _ | .rspDataPop _ _ _ | .rspDiscardHead _ _
  | .rspDiscardAll _ _ | .portFlush _ | .intStatClear _ _ | .requestTake | .orderedExecutionStart
  | .heldMessagePlace _ _ | .ntfLostPlace _ | .sysNop | .sysIdent | .sysCaps | .sysStatus | .sysReset
  | .softwareReset | .sysShelf | .sysWatchdog | .sysMode | .sysPower | .sysCfgBegin | .sysCfgCommit | .sysCfgAbort
  | .sysSettings | .sysSettingsReset | .cfgSetApply _ | .cfgSetTimeout _ | .radStatus | .radBandPlan | .radFeConfig
  | .radEngineConfig | .radCalStatus | .radCalSweep | .radTxTest | .calSweepEnd _ _ | .feRetune _ _
  | .carrierAdmit _ | .dutyBinAdvance | .vswrRecovery _ | .paTemperatureChange _ _ | .rxCalPublish _ _ _ _ _
  | .gainStepChange _ _ _ | .evFeGainForced _ _ | .dpdApply _ _ | .dpdTimeout _ | .evFeFault _ _
  | .feRelockRetry _ _ | .macEngineStatus | .macBeaconConfig | .macSleepyConfig | .macLinkState | .macRawSend
  | .txnAttempt _ | .txnConfirmTimeout _ | .txnBackoffEnd _ | .txnDeadline _ | .seqWaitExpiry _ | .groupRepeat _
  | .linkKeyOverlapEnd | .linkKeyLoadApply _ | .backgroundCheckpoint | .journalPageWrite | .joinPermitExpiry
  | .imagePhase _ | .latAdd _ | .latRemove _ | .latRead | .latUpdate _ | .latFind | .latJoinPolicy | .latKeyLoad
  | .latRouteRead | .latImageLoad | .latImageSend | .latCheckpoint | .txnSend | .txnLevel | .txnGroupLevel
  | .txnCancel | .txnStatus | .txnOrderMode | .txnRetryPolicy | .schDecide | .chdEvaluation | .waveEnd
  | .schGroupSet | .schGroupMembers _ | .schGroupRead | .schEntrySet | .schEntryClear | .schEntryRead | .schSite
  | .schTzRule | .schFallback | .schEvaluate | .chdCorridorSet | .chdCorridorClear | .chdCorridorRead | .chdConfig
  | .chdWaves | .chdInject | .intervalClose | .meterSave _ | .meterSaveRetry _ | .meterCalApply | .mtrInputConfig
  | .mtrFeederConfig | .mtrRead | .mtrIntervals | .mtrPulseConfig | .mtrCalibrate | .mtrBalance
  | .failureRecordWrite _ _ | .sgnLevelApply | .matrixLatch _ | .syncTimeout | .matrixShiftEnd | .matrixRefresh
  | .sensorRead _ | .sensorRetry _ | .derateUpdate | .sgnStringConfig | .sgnFunction | .sgnFrameLoad | .sgnFlip
  | .sgnLevel | .sgnStatus | .sgnDerate | .doutApply | .doutReturn | .ioDinConfig | .ioDinRead | .ioDoutSet
  | .ioDoutConfig | .ioStatus | .canConfig | .canBufferConfig | .canSend | .canCancel _ | .canRead | .canStatus
  | .canRecover | .appenderRun | .pageProgram _ | .freezeExpiry _ | .logStatus | .logRead | .logFreeze | .logThaw
  | .logSeverity | .logAppend | .keyCommitEntry | .keyOverlapEnd | .kekRewrapComplete | .keyGenerateComplete _ _ _
  | .keyGenerate | .keyImport _ _ | .keyStage _ _ | .keyVerify _ _ | .keyCommit _ _ | .keyAttest | .keyInfo
  | .keyDestroy _ _ | .keyWorldSet _ _ | .flipTimeout _ | .memRepairComplete _ _ _ | .latCompact | .memStatus
  | .memErrors | .memFlip | .memRepair | .memScrub | .memWithdraw | .memRestore | .memActivity | .withdrawalApply _
  | .withdrawalEnd | .updBegin _ | .updChunk _ | .updVerify | .updActivate | .updStatus | .updRollback | .updAbort
  | .preparationComplete | .preparationDeadline | .handoverOpen | .firmwareReady | .handoverClose _
  | .handoverTimeout _ _ | .trialConfirm | .indirectAttemptExpiry _ | .checkpointComplete _ => true

end Sys2Proof
end

