-- ==== Sys2Proof/Certificates/Slice0/Obligations.lean ====
section
/-!
DEFINITION. The statements about the block, each a rule of the spec or what the model adds to one.
-/
open Sys2Proof Sys2Proof.Machine

/-- A step takes the command at the front of the queue and runs it on the state with the queue's rest. With an empty queue one tick of the
25 ns TCXO passes. No word spells a command, since the table gives its rows no bits, so putting a word in front of the queue changes
nothing. The queue and the tick are the model's own form of the block (assumptions 1 and 2). -/
def Obligations.AStepRunsTheFrontCommand : Prop :=
  ∀ (s : State),
    (∀ c rest, s.pending = c :: rest → step s = exec c { s with pending := rest }) ∧
    (s.pending = [] → step s = .next (tick s)) ∧
    (∀ nbits w, Sys2Proof.decodeTableWord nbits w = none ∧ s.withFetchWord nbits w = s)

/-- The frame of all 306 commands and events: a unit of the state that mayChange does not list for the command is the same after it. The
part itself and the queue of commands are listed for none. A tick changes only the clock, Tether's count, the RTC's count, the listening and
receiving times of the engines, the frames they are sending, and the trial's time. Which units a row reaches is read from the rule of each
row (DEDUCED; assumption 3). -/
def Obligations.EachCommandChangesOnlyItsUnits : Prop :=
  (∀ (c : Instr) (s t : State), exec c s = .next t → OnlyChanges (mayChange c) s t) ∧
  (∀ s : State, OnlyChanges [.clk, .tt, .rtc, .rad, .mac, .upd] s (tick s))

/-- Over every step, from every state: the part and the factory identity key stay; the anti-rollback floor does not fall; a module with a
committed key stays committed; a locked debug port stays locked; and a module in which a commit has locked and closed the debug port keeps
it so (after R40, R417, R484). Over every command: the worlds in force change only at the retention check of BOOT; the straps only at their
sampling; the commissioned flag only by SYS.MODE; the active set only by an activation or its end or by the verification of BOOT; the floor
only by a confirmed trial or an activation; the debug port only at a key commit or at the sampling of the straps; the committed flag only by
a key commit. -/
def Obligations.NoStepUndoesWhatIsFinal : Prop :=
  (∀ s t : State, step s = .next t → NothingUndone s t ∧ (DebugClosed s → DebugClosed t)) ∧
  (∀ (c : Instr) (s t : State), exec c s = .next t →
    (t.key.worlds ≠ s.key.worlds → ∃ a b d, c = .retentionCheck a b d) ∧
    (t.pwr.straps ≠ s.pwr.straps → ∃ x y z, c = .strapSample x y z) ∧
    (t.pwr.commissioned ≠ s.pwr.commissioned → c = .sysMode) ∧
    (t.upd.active ≠ s.upd.active →
      c = .updActivate ∨ (∃ l, c = .handoverClose l) ∨ (∃ b l, c = .handoverTimeout b l) ∨ (∃ a b l, c = .bankVerify a b l)) ∧
    (t.upd.floor ≠ s.upd.floor → c = .trialConfirm ∨ c = .updActivate) ∧
    (t.key.debugOpen ≠ s.key.debugOpen → c = .keyCommitEntry ∨ ∃ x y z, c = .strapSample x y z) ∧
    (t.key.everCommitted ≠ s.key.everCommitted → c = .keyCommitEntry))

/-- An invariant of every step: if on each port the messages of the response queue take at most 8,192 words and those of the notification
queue at most 16,384, they still do after any command, event or tick (after R143 and R145). -/
def Obligations.ReturnQueuesStayWithinTheirSizes : Prop :=
  ∀ s t : State, (∀ p, QueuesFit (s.ports.get p)) → step s = .next t → ∀ p, QueuesFit (t.ports.get p)

/-- If Tether runs after a command other than the one that starts it, it ran before, and its count TT stands where it stood: a crossing, a
configuration or a switch of sources never steps the count, and a command that resets the module stops it. The part of a phase unit gone by
stays below one unit over every step. A tick moves the count by 0 or 1 where one phase unit takes at least one tick, which the premise on
the rate says and every mains frequency satisfies. That the count is advanced by ticks of 25 ns is the model's choice (assumption 2). -/
def Obligations.TheCountTakesEveryValueInOrder : Prop :=
  (∀ (c : Instr) (s t : State), exec c s = .next t → t.tt.running = true → (∀ f0 f1, c ≠ .windowAlive f0 f1) →
    s.tt.running = true ∧ t.tt.tt = s.tt.tt) ∧
  (∀ s t : State, step s = .next t → s.clk.ttAcc < ttUnit → t.clk.ttAcc < ttUnit) ∧
  (∀ s : State, s.clk.ttAcc < ttUnit → s.tt.rate * (4096 - s.tt.cycAdj).toNat ≤ ttUnit →
    s.tt.tt ≤ (tick s).tt.tt ∧ (tick s).tt.tt ≤ s.tt.tt + 1)

/-- The state after reset is the delivered module, unpowered: no command waits; every port is at its reset values with empty return queues;
the watchdogs have 900 s and do not run; Tether is stopped with its defaults; the retry policy, Chord and the worlds have their defaults; no
key was committed and the debug port is not locked; bank A is active, bank B EMPTY, the rollback floor 0 with 32 steps left; the ballast
matrix has version 1; and the invariants of O3 to O5 hold. The clean-shutdown mark naming step 7 is R50's; bank and session values that the
spec gives no reset value for are the model's (assumptions 8 and 9). -/
def Obligations.TheDeliveredModule : Prop :=
  State.reset.pending = [] ∧ State.reset.pwr.pgood = false ∧ State.reset.pwr.mark = some 7 ∧ State.reset.pwr.commissioned = false ∧
  State.reset.pwr.shelfArmed = false ∧ State.reset.wd = Quad.all initWd ∧ initWd.timeout = 900 ∧ initWd.running = false ∧
  State.reset.tt.running = false ∧ State.reset.tt.reserve.ceiling = 0 ∧ State.reset.tt.cfg = initTtCfg ∧ initTtCfg.holdAlarm = 60 ∧
  State.reset.tl.entries = [] ∧ State.reset.ports = Quad.all initPort ∧ initPort.rsp.msgs = [] ∧ initPort.ntf.msgs = [] ∧
  initPort.intEn = 0x8003#32 ∧ State.reset.cmd.taken = [] ∧ State.reset.log.cnt.nextSeq = 0 ∧ State.reset.txn.retry = initRetry ∧
  initRetry.maxTries = 4 ∧ initRetry.deadline = 3000 ∧ State.reset.chd.every = 5 ∧ State.reset.chd.lead = 10 ∧
  State.reset.key.everCommitted = false ∧ State.reset.key.debugLock = false ∧ State.reset.key.slots = [] ∧
  State.reset.key.worlds = initWorlds ∧ State.reset.upd.bank = 0 ∧ State.reset.upd.other = .empty ∧ State.reset.upd.floor = 0 ∧
  State.reset.upd.floorLeft = 32 ∧ State.reset.upd.session.st = .idle ∧ State.reset.bal.matrixVer = 1 ∧
  DebugClosed State.reset ∧ (∀ p, QueuesFit (State.reset.ports.get p)) ∧ State.reset.clk.ttAcc < ttUnit

/-- For each of the 130 Broesh commands: where the request that may execute next carries the command's opcode, no handover window is open
and f is the first of the command's checks that fails, the command answers f's status and detail and nothing else changes but that the
request is gone; where the request carries another opcode, or a window is open, the command changes nothing. A refused transaction command
may besides leave its record of a gap or of a full table in the recorder. -/
def Obligations.TheFirstFailedCheckAnswers : Prop :=
  ∀ (r : Req) (s : State) (b b2 : Bool) (n0 n1 : Nat),
    (∀ f, (Refused 0x0601 chkTxnSend r f s → ∃ u, exec .txnSend s = .next (failReq r f u) ∧ OnlyChanges [.cmd, .log] s u) ∧
      (Refused 0x0602 chkTxnLevel r f s → ∃ u, exec .txnLevel s = .next (failReq r f u) ∧ OnlyChanges [.cmd, .log] s u) ∧
      (Refused 0x0603 chkTxnGroupLevel r f s → ∃ u, exec .txnGroupLevel s = .next (failReq r f u) ∧ OnlyChanges [.cmd, .log] s u)) ∧
    Answers .sysNop 0x0100 (sysChecks 0x0100 0) r s ∧
    Answers .sysIdent 0x0101 (sysChecks 0x0101 0) r s ∧
    Answers .sysCaps 0x0102 (sysChecks 0x0102 0) r s ∧
    Answers .sysStatus 0x0103 (sysChecks 0x0103 0) r s ∧
    Answers .sysReset 0x0104 chkSysReset r s ∧
    Answers .sysShelf 0x0105 chkSysShelf r s ∧
    Answers .sysWatchdog 0x0106 chkSysWatchdog r s ∧
    Answers .sysMode 0x0107 chkSysMode r s ∧
    Answers .sysPower 0x0108 chkSysPower r s ∧
    Answers .sysCfgBegin 0x0109 chkSysCfgBegin r s ∧
    Answers .sysCfgCommit 0x010A chkSysCfgCommit r s ∧
    Answers .sysCfgAbort 0x010B chkSysCfgAbort r s ∧
    Answers .sysSettings 0x010C (sysChecks 0x010C 0) r s ∧
    Answers .sysSettingsReset 0x010D chkSysSettingsReset r s ∧
    Answers .ttStatus 0x0201 (ttChecks 0x0201 0 1) r s ∧
    Answers .ttConfig 0x0202 chkTtConfig r s ∧
    Answers .ttConvert 0x0203 chkTtConvert r s ∧
    Answers .ttAnchors 0x0204 (ttChecks 0x0204 0 1) r s ∧
    Answers .ttAlarm 0x0205 chkTtAlarm r s ∧
    Answers .ttAlarmCancel 0x0206 chkTtAlarmCancel r s ∧
    Answers .ttQueue 0x0207 (ttChecks 0x0207 0 1) r s ∧
    Answers .rtcStatus 0x0220 (ttChecks 0x0220 0 2) r s ∧
    Answers .rtcSet 0x0221 chkRtcSet r s ∧
    Answers .rtcFlags 0x0222 chkRtcFlags r s ∧
    Answers .rtcTrim 0x0223 chkRtcTrim r s ∧
    Answers .bramRead 0x0224 chkBramRead r s ∧
    Answers .bramWrite 0x0225 chkBramWrite r s ∧
    Answers .tamperConfig 0x0226 chkTamperConfig r s ∧
    Answers .radStatus 0x0301 chkRadStatus r s ∧
    Answers .radBandPlan 0x0302 chkRadBandPlan r s ∧
    Answers .radFeConfig 0x0303 chkRadFeConfig r s ∧
    Answers .radEngineConfig 0x0304 chkRadEngineConfig r s ∧
    Answers .radCalStatus 0x0305 chkRadCalStatus r s ∧
    Answers .radCalSweep 0x0306 chkRadCalSweep r s ∧
    Answers .radTxTest 0x0307 chkRadTxTest r s ∧
    Answers .macEngineStatus 0x0401 chkMacEngineStatus r s ∧
    Answers .macBeaconConfig 0x0402 chkMacBeaconConfig r s ∧
    Answers .macSleepyConfig 0x0403 chkMacSleepyConfig r s ∧
    Answers .macLinkState 0x0404 chkMacLinkState r s ∧
    Answers .macRawSend 0x0405 chkMacRawSend r s ∧
    Answers (.latAdd b) 0x0501 chkLatAdd r s ∧
    Answers (.latRemove b) 0x0502 chkLatRemove r s ∧
    Answers .latRead 0x0503 chkLatRead r s ∧
    Answers (.latUpdate b) 0x0504 chkLatUpdate r s ∧
    Answers .latFind 0x0505 chkLatFind r s ∧
    Answers .latJoinPolicy 0x0506 chkLatJoinPolicy r s ∧
    Answers .latKeyLoad 0x0507 chkLatKeyLoad r s ∧
    Answers .latRouteRead 0x0508 chkLatRouteRead r s ∧
    Answers .latImageLoad 0x0509 chkLatImageLoad r s ∧
    Answers .latImageSend 0x050A chkLatImageSend r s ∧
    Answers .latCheckpoint 0x050B chkLatCheckpoint r s ∧
    Answers .txnCancel 0x0604 chkTxnCancel r s ∧
    Answers .txnStatus 0x0605 chkTxnStatus r s ∧
    Answers .txnOrderMode 0x0606 chkTxnOrderMode r s ∧
    Answers .txnRetryPolicy 0x0607 chkTxnRetryPolicy r s ∧
    Answers .schGroupSet 0x0701 chkSchGroupSet r s ∧
    Answers (.schGroupMembers b) 0x0702 chkSchGroupMembers r s ∧
    Answers .schGroupRead 0x0703 chkSchGroupRead r s ∧
    Answers .schEntrySet 0x0704 chkSchEntrySet r s ∧
    Answers .schEntryClear 0x0705 chkSchEntryClear r s ∧
    Answers .schEntryRead 0x0706 chkSchEntryRead r s ∧
    Answers .schSite 0x0707 chkSchSite r s ∧
    Answers .schTzRule 0x0708 chkSchTzRule r s ∧
    Answers .schFallback 0x0709 chkSchFallback r s ∧
    Answers .schEvaluate 0x070A chkSchEvaluate r s ∧
    Answers .chdCorridorSet 0x0801 chkChdCorridorSet r s ∧
    Answers .chdCorridorClear 0x0802 chkChdCorridorClear r s ∧
    Answers .chdCorridorRead 0x0803 chkChdCorridorRead r s ∧
    Answers .chdConfig 0x0804 chkChdConfig r s ∧
    Answers .chdWaves 0x0805 chkChdWaves r s ∧
    Answers .chdInject 0x0806 chkChdInject r s ∧
    Answers .mtrInputConfig 0x0901 chkMtrInputConfig r s ∧
    Answers .mtrFeederConfig 0x0902 chkMtrFeederConfig r s ∧
    Answers .mtrRead 0x0903 chkMtrRead r s ∧
    Answers .mtrIntervals 0x0904 chkMtrIntervals r s ∧
    Answers .mtrPulseConfig 0x0905 chkMtrPulseConfig r s ∧
    Answers .mtrCalibrate 0x0906 chkMtrCalibrate r s ∧
    Answers .mtrBalance 0x0907 chkMtrBalance r s ∧
    Answers .sgnStringConfig 0x0A01 chkSgnStringConfig r s ∧
    Answers .sgnFunction 0x0A02 chkSgnFunction r s ∧
    Answers .sgnFrameLoad 0x0A03 chkSgnFrameLoad r s ∧
    Answers .sgnFlip 0x0A04 chkSgnFlip r s ∧
    Answers .sgnLevel 0x0A05 chkSgnLevel r s ∧
    Answers .sgnStatus 0x0A06 chkSgnStatus r s ∧
    Answers .sgnDerate 0x0A07 chkSgnDerate r s ∧
    Answers .canConfig 0x0B01 chkCanConfig r s ∧
    Answers .canBufferConfig 0x0B02 chkCanBufferConfig r s ∧
    Answers .canSend 0x0B03 chkCanSend r s ∧
    Answers (.canCancel b) 0x0B04 chkCanCancel r s ∧
    Answers .canRead 0x0B05 chkCanRead r s ∧
    Answers .canStatus 0x0B06 chkCanStatus r s ∧
    Answers .canRecover 0x0B07 chkCanRecover r s ∧
    Answers .logStatus 0x0C01 chkLogStatus r s ∧
    Answers .logRead 0x0C02 chkLogRead r s ∧
    Answers .logFreeze 0x0C03 chkLogFreeze r s ∧
    Answers .logThaw 0x0C04 chkLogThaw r s ∧
    Answers .logSeverity 0x0C05 chkLogSeverity r s ∧
    Answers .logAppend 0x0C06 chkLogAppend r s ∧
    Answers .keyGenerate 0x0D01 chkKeyGenerate r s ∧
    Answers (.keyImport n0 n1) 0x0D02 (chkPutKey 0x0D02 false) r s ∧
    Answers (.keyStage n0 n1) 0x0D03 (chkPutKey 0x0D03 true) r s ∧
    Answers (.keyVerify n0 n1) 0x0D04 chkKeyVerify r s ∧
    Answers (.keyCommit n0 n1) 0x0D05 chkKeyCommit r s ∧
    Answers .keyAttest 0x0D06 chkKeyAttest r s ∧
    Answers .keyInfo 0x0D07 chkKeyInfo r s ∧
    Answers (.keyDestroy n0 n1) 0x0D08 chkKeyDestroy r s ∧
    Answers (.keyWorldSet n0 n1) 0x0D09 chkKeyWorldSet r s ∧
    Answers .memStatus 0x0E01 chkMemStatus r s ∧
    Answers .memErrors 0x0E02 chkMemErrors r s ∧
    Answers .memFlip 0x0E03 chkMemFlip r s ∧
    Answers .memRepair 0x0E04 chkMemRepair r s ∧
    Answers .memScrub 0x0E05 chkMemScrub r s ∧
    Answers .memWithdraw 0x0E06 chkMemWithdraw r s ∧
    Answers .memRestore 0x0E07 chkMemRestore r s ∧
    Answers .memActivity 0x0E08 chkMemActivity r s ∧
    Answers (.updBegin n0) 0x0F01 chkUpdBegin r s ∧
    Answers (.updChunk n0) 0x0F02 chkUpdChunk r s ∧
    Answers .updVerify 0x0F03 chkUpdVerify r s ∧
    Answers .updActivate 0x0F04 chkUpdActivate r s ∧
    Answers .updStatus 0x0F05 chkUpdStatus r s ∧
    Answers .updRollback 0x0F06 chkUpdRollback r s ∧
    Answers .updAbort 0x0F07 chkUpdAbort r s ∧
    Answers .ioDinConfig 0x1001 chkIoDinConfig r s ∧
    Answers .ioDinRead 0x1002 chkIoDinRead r s ∧
    Answers .ioDoutSet 0x1003 chkIoDoutSet r s ∧
    Answers .ioDoutConfig 0x1004 chkIoDoutConfig r s ∧
    Answers .ioStatus 0x1005 chkIoStatus r s

/-- A rise of VIN to VIN_ON powers an unpowered part up into BOOT, with the cause that R56 decides from the shelf latch and the retention
token, and keeps the RTC, ports, keys, Lattice, metering and Tether. Good rails release PGOOD and V33AUX and set PFW_N by V_PFW_EFF. A VIN
above 75 V is logged with its peak in steps of 0.5 V. A change of VIOH is kept. V_PFW_EFF returns to its configured value once VIN has stood
0.5 V above it for 60 s. A release of RESET_N goes on with BOOT. With VIOH lost every pad of a host port is high-impedance; a pad of an
absent unit is pulled down; at the release of PGOOD the CAN, matrix and string pads have their reset states; an unpowered module holds PGOOD
and PFW_N low and its other pads but the tamper inputs high-impedance (after R6, R28 to R31, R43 to R46, R54, R56). The VIN an event carries
is taken as measured, and when the 60 s begin, are the model's readings (assumptions 16 and 15). -/
def Obligations.SupplyEventsActByTheirRules : Prop :=
  ∀ s : State,
    (∀ vin, alive s = false → s.dev.vinOn ≤ vin →
      ∃ t, exec (.vinOnRise vin) s = .next t ∧ t.pwr.mode = .boot ∧ t.pwr.vin = vin ∧ t.pwr.shelfArmed = false ∧
        t.pwr.bootStep = (if s.pwr.resetLow then .inReset else .rails) ∧
        t.pwr.cause = (if s.pwr.shelfArmed then 0xB else if s.rtc.token then 0xA else 1) ∧
        t.rtc.onCell = false ∧ t.rtc.token = s.rtc.token ∧ t.rtc.sec = s.rtc.sec ∧ t.ports = s.ports ∧ t.key = s.key ∧ t.upd = s.upd ∧
        t.lat = s.lat ∧ t.mtr = s.mtr ∧ t.tt = s.tt ∧ t.sch = s.sch) ∧
    (s.pwr.bootStep = .rails → exec .railsGood s = .next { s with pwr := { s.pwr with
        pgood := true, v33aux := true, bootStep := .phase, pfwN := decide (s.pwr.vPfwEff * 10 ≤ s.pwr.vin) } }) ∧
    (∀ vin, alive s = true → 7500 < vin → exec (.evVinSurge vin) s = .next (logNs evVinSurge 0xFF [vin / 50] (noteVin vin s))) ∧
    (∀ good, exec (.viohChange good) s = .next { s with pwr := { s.pwr with viohGood := good } }) ∧
    (∀ vin t0, s.pwr.pfwOkSince = some t0 → alive s = true → s.pwr.vPfwEff < pfwThreshold s → pfwThreshold s * 10 + 50 ≤ vin →
      t0 + 2400000000 ≤ s.clk.ticks →
      ∃ t, exec (.pfwEffRestore vin) s = .next t ∧ t.pwr.vPfwEff = pfwThreshold s ∧ t.pwr.mode = s.pwr.mode ∧ t.ports = s.ports ∧
        t.key = s.key ∧ t.upd = s.upd ∧ t.lat = s.lat) ∧
    (s.pwr.bootStep = .inReset →
      ∃ t, exec .resetNRelease s = .next t ∧ t.pwr.resetLow = false ∧ t.pwr.bootStep = (if s.pwr.pgood then .phase else .rails) ∧
        t.pwr.cause = s.pwr.puCause.getD 3 ∧ t.key = s.key ∧ t.upd = s.upd ∧ t.lat = s.lat ∧ t.ports = s.ports ∧ t.rtc = s.rtc) ∧
    (∀ x, x.host ≠ none → ∃ t, exec (.viohChange false) s = .next t ∧ padState t x = .z) ∧
    (∀ x b, x.block = some b → s.pwr.bootStep ≠ .off → blockPresent s.dev.variant b = false → padState s x = .zPd) ∧
    (s.pwr.bootStep = .rails →
      ∃ t, exec .railsGood s = .next t ∧ padState t .pgood = .off ∧ padState t .v33Aux = .high ∧ padState t (.canTxd 0) = .zPu ∧
        padState t (.canStb 0) = .zPu ∧ padState t .h3Miso = .z ∧
        (∀ k, padState t (.h2A k) = (if s.pwr.viohGood then .zPd else .z)) ∧
        (s.pwr.viohGood = true → padState t (.hIrqN 0) = .zPu) ∧
        (blockPresent s.dev.variant 0x0C = true → padState t .mxOeN = .high ∧ ∀ k, padState t (.lg k) = .low)) ∧
    (∀ vin, alive s = true → vin < s.dev.vinOff →
      ∃ t, exec (.vinLoss vin) s = .next t ∧ padState t .pgood = .low ∧ padState t .pfwN = .low ∧
        ∀ x, x ≠ .pgood → x ≠ .pfwN → (∀ k, x ≠ .tamp k) → padState t x = .z)

/-- From each step of BOOT the event that ends it leads to the next: straps sampled by majority, debug port opened by STRAP7 where it is not
locked and V_PFW_EFF set from the VIN measured then; fuse map loaded, or BOOT_HALT; backup domain checked; candidate bank verified, kept
where both parts pass and it is not below the floor; Tether started at the larger confirmed ceiling of the two rings with the nominal
frequency of STRAP2 and EPOCH advanced; Lattice restored and the recorder started; and the end of BOOT, which enters a mode other than BOOT
(after R37, R40, R53, R59, R60, R83, R84, R406). -/
def Obligations.BootStepsLeadOneToTheNext : Prop :=
  ∀ s : State,
    (∀ (a b c : BitVec 8) (vin : Nat), s.pwr.bootStep = .phase →
      ∃ t, exec (.strapSample a b ⟨c, vin⟩) s = .next t ∧ t.pwr.bootStep = .fuses ∧
        t.pwr.straps = (a &&& b) ||| (a &&& c) ||| (b &&& c) ∧
        t.key.debugOpen = (((a &&& b) ||| (a &&& c) ||| (b &&& c)).getLsbD 7 && !s.key.debugLock) ∧
        t.pwr.vin = vin ∧ t.pwr.vPfwEff = effRule (pfwThreshold t) vin ∧ t.key.slots = s.key.slots ∧ t.upd = s.upd ∧ t.lat = s.lat ∧
        t.ports = s.ports) ∧
    (s.pwr.bootStep = .fuses →
      ∃ t, exec (.fuseMapLoad true) s = .next t ∧ t.pwr.bootStep = .secure ∧ t.key = s.key ∧ t.upd = s.upd ∧ t.ports = s.ports ∧
        t.lat = s.lat) ∧
    (s.pwr.bootStep = .fuses →
      ∃ t, exec (.fuseMapLoad false) s = .next t ∧ t.pwr.bootStep = .halted ∧ t.pwr.bootHalt = true) ∧
    (∀ ok0 ok1 memOk, s.pwr.bootStep = .secure →
      ∃ t, exec (.retentionCheck ok0 ok1 memOk) s = .next t ∧ t.pwr.bootStep = .verify ∧ t.upd = s.upd ∧ t.lat = s.lat ∧
        t.ports = s.ports ∧ (s.rtc.token = false → s.pwr.fromShelf = false → t.rtc.osf = true ∧ t.rtc.sec = 0)) ∧
    (∀ crc, s.pwr.bootStep = .verify → s.upd.floor ≤ manRollback s.upd.active → s.upd.trial = false →
      ∃ t, exec (.bankVerify true true crc) s = .next t ∧ t.pwr.bootStep = .load ∧ t.upd.bank = s.upd.bank ∧
        t.upd.active = s.upd.active ∧ t.upd.floor = s.upd.floor ∧ t.key = s.key ∧ t.lat = s.lat ∧ t.ports = s.ports) ∧
    (∀ f0 f1, s.pwr.bootStep = .load →
      ∃ t, exec (.windowAlive f0 f1) s = .next t ∧ t.pwr.bootStep = .restore ∧ t.tt.running = true ∧ t.tt.state = .free ∧
        t.tt.tt = s.tt.reserve.boot * 4096 ∧ t.tt.freq = (if s.pwr.straps.getLsbD 2 then 60 else 50) * 65536 ∧
        t.tt.reserve.epoch = (s.tt.reserve.epoch + 1) % 256 ∧ t.key.slots = s.key.slots ∧ t.upd.active = s.upd.active) ∧
    (∀ sealOk lost, s.pwr.bootStep = .restore →
      ∃ t, exec (.latticeRestore ⟨sealOk, lost⟩) s = .next t ∧ t.pwr.bootStep = .finish ∧ t.pwr.sealed = false ∧ t.log.started = true ∧
        t.log.deferred = [] ∧ t.lat.journal = [] ∧ t.lat.unsettled = [] ∧ t.key = s.key ∧ t.upd = s.upd) ∧
    (s.pwr.bootStep = .finish →
      ∃ t, exec .bootEnd s = .next t ∧ t.pwr.bootStep = .done ∧ t.pwr.puCause = none ∧ t.pwr.mode ≠ .boot ∧
        t.pwr.bootEndCyc = cycOf s)

/-- With firmware running, VIN below V_PFW_EFF asserts PFW_N and runs the flush; where all seven steps are completed the clean-shutdown mark
names step 7. After step 7: VIN back above V_PFW_EFF plus the hysteresis aborts, releasing PFW_N and the mark; VIN that stays between for
200 ms and above the lowered threshold is a brown-out, which lowers V_PFW_EFF by its rule; VIN below VIN_OFF unpowers the module into SHELF
or KEEP, with every port at its reset values and Tether stopped (after R46, R48 to R50, R63). How the 200 ms are measured is DEDUCED
(assumption 15). -/
def Obligations.PowerFailRunsTheFlushSequence : Prop :=
  ∀ s : State,
    (∀ vin, alive s = true → fwRuns s = true → vin < s.pwr.vPfwEff * 10 → s.pwr.flush.pfw = false →
      ∃ t, exec (.pfwAssert vin 7) s = .next t ∧ t.pwr.flush.pfw = true ∧ t.pwr.flush.step = 7 ∧ t.pwr.mark = some 7 ∧
        t.pwr.pfwN = false ∧ t.pwr.vin = vin ∧ t.pwr.flush.since = s.clk.ticks ∧ t.key.slots = s.key.slots ∧ t.upd = s.upd) ∧
    (∀ vin, alive s = true → s.pwr.flush.pfw = true → s.pwr.flush.step = 7 → s.pwr.vPfwEff * 10 + s.dev.pfwHyst ≤ vin →
      ∃ t, exec (.pfwAbort vin) s = .next t ∧ t.pwr.flush.pfw = false ∧ t.pwr.mark = none ∧ t.pwr.pfwN = true ∧ t.pwr.vin = vin ∧
        t.key.slots = s.key.slots) ∧
    (∀ vin, s.pwr.flush.pfw = true → s.pwr.flush.step = 7 → s.dev.vinOff ≤ vin → vin < s.pwr.vPfwEff * 10 + s.dev.pfwHyst →
      effRule (pfwThreshold s) vin * 10 < vin → s.pwr.flush.since + 8000000 ≤ s.clk.ticks →
      ∃ t, exec (.brownOut vin) s = .next t ∧ t.pwr.flush.pfw = false ∧ t.pwr.mark = none ∧
        t.pwr.vPfwEff = effRule (pfwThreshold t) vin ∧ t.key.slots = s.key.slots) ∧
    (∀ vin, alive s = true → vin < s.dev.vinOff →
      ∃ t, exec (.vinLoss vin) s = .next t ∧ t.pwr.bootStep = .off ∧ t.pwr.pgood = false ∧ t.pwr.v33aux = false ∧ t.pwr.pfwN = false ∧
        t.pwr.mode = (if s.pwr.shelfArmed then .shelf else .keep) ∧ t.ports = Quad.all initPort ∧ t.tt.running = false)

/-- RESET_N low for 10 us, a rail fault, SYS.RESET, the core watchdog, a lockstep mismatch of either pair and a firewall violation each put
the module into BOOT with the cause R55 gives, and every port's window and queues to their reset values; a cold one leaves no sealed DRAM
(after R54, R55, R57, R58). When a pair or the firewall is on duty in BOOT is DEDUCED (assumption 12). -/
def Obligations.EveryResetEntersBootWithItsCause : Prop :=
  ∀ s : State,
    (∀ us, 10 ≤ us → alive s = true → s.pwr.bootStep ≠ .inReset →
      ∃ t, exec (.resetNAssert us) s = .next t ∧ t.pwr.resetLow = true ∧ t.pwr.bootStep = .inReset ∧ t.pwr.mode = .boot ∧
        t.pwr.cause = 3 ∧ t.ports = Quad.all initPort ∧ t.cmd.taken = []) ∧
    (alive s = true → s.pwr.bootStep ≠ .inReset →
      ∃ t, exec .railFault s = .next t ∧ t.pwr.bootStep = .rails ∧ t.pwr.mode = .boot ∧ t.pwr.cause = 2 ∧ t.pwr.pgood = false ∧
        t.pwr.sealed = false ∧ t.ports = Quad.all initPort) ∧
    (∀ t0, s.pwr.resetAt = some t0 → t0 ≤ s.clk.ticks → alive s = true → s.pwr.bootStep ≠ .inReset →
      ∃ t, exec .softwareReset s = .next t ∧ t.pwr.bootStep = .phase ∧ t.pwr.mode = .boot ∧ t.pwr.cause = 4 ∧
        t.pwr.resetAt = none ∧ t.ports = Quad.all initPort) ∧
    (fwRuns s = true →
      ∃ t, exec .coreWatchdogExpiry s = .next t ∧ t.pwr.bootStep = .phase ∧ t.pwr.mode = .boot ∧ t.pwr.cause = 5 ∧
        t.ports = Quad.all initPort) ∧
    (fwRuns s = true →
      ∃ t, exec (.lockstepMismatch false) s = .next t ∧ t.pwr.bootStep = .phase ∧ t.pwr.cause = 6 ∧ t.ports = Quad.all initPort) ∧
    (securePairRuns s = true →
      ∃ t, exec (.lockstepMismatch true) s = .next t ∧ t.pwr.bootStep = .phase ∧ t.pwr.cause = 7 ∧ t.pwr.sealed = false ∧
        t.ports = Quad.all initPort) ∧
    (∀ part item block inst, fwRuns s = true → accessorSecure s block inst = false →
      (if part then partSecure s item else regionSecure s item) = true →
      ∃ t, exec (.firewallViolation part item block inst) s = .next t ∧ t.pwr.bootStep = .phase ∧ t.pwr.cause = 0xD ∧
        t.ports = Quad.all initPort)

/-- When a served port's running watchdog reaches its deadline, the port is marked expired and AUTONOMOUS is as the condition of R69 gives
it in the state so marked; keys, Lattice, schedules, Tether and the update unit are as before. -/
def Obligations.WatchdogExpiryMarksTheHostSilent : Prop :=
  ∀ (s : State) (p : Fin 4), served s = true → s.upd.windowOpen = false → (s.wd.get p).running = true → (s.wd.get p).expired = false →
    (s.wd.get p).deadline ≤ s.clk.ticks →
    ∃ t, exec (.hostWatchdogExpiry p) s = .next t ∧ (t.wd.get p).expired = true ∧
      t.pwr.autonomous = autoCond { s with wd := s.wd.put p { s.wd.get p with expired := true } } ∧
      t.key = s.key ∧ t.upd = s.upd ∧ t.lat = s.lat ∧ t.sch = s.sch ∧ t.tt = s.tt

/-- Only the edge of ZC_IN that ZC_POL names counts, and a glitch is no crossing. Any other edge of a configured ZC_IN is judged with its
stamp moved back by ZC_DELAY, and a crossing of a metering source that is present with its own stamp; the judgement goes to the primary
source, and the count, the configuration and the other source are left as they were (after R71 to R73). A crossing of an absent metering
source does nothing. -/
def Obligations.CrossingsAreJudgedBySource : Prop :=
  ∀ s : State,
    exec (.zcEdge s.tt.cfg.zcPol) s = .next s ∧
    (s.tt.cfg.primary = 1 → s.tt.prim.glitch (s.clk.ticks - s.tt.cfg.zcDelay * 40) = true →
      exec (.zcEdge (!s.tt.cfg.zcPol)) s = .next s) ∧
    (s.tt.running = true → s.tt.cfg.primary = 1 → s.tt.prim.glitch (s.clk.ticks - s.tt.cfg.zcDelay * 40) = false →
      ∃ t, exec (.zcEdge (!s.tt.cfg.zcPol)) s = .next t ∧
        t.tt.prim = (s.tt.prim.judge (s.clk.ticks - s.tt.cfg.zcDelay * 40) (ttAt s (s.clk.ticks - s.tt.cfg.zcDelay * 40)) (cycOf s)).1 ∧
        t.tt.sec = s.tt.sec ∧ t.tt.cfg = s.tt.cfg ∧ t.tt.tt = s.tt.tt ∧ t.tt.reserve = s.tt.reserve ∧ t.tt.anchors = s.tt.anchors) ∧
    (∀ src, s.tt.running = true → 0x11 ≤ src → src ≤ 0x1F → meterSourceOk s src = true → s.tt.cfg.primary = src →
      s.tt.prim.glitch s.clk.ticks = false →
      ∃ t, exec (.meterCrossing src) s = .next t ∧
        t.tt.prim = (s.tt.prim.judge s.clk.ticks (ttAt s s.clk.ticks) (cycOf s)).1 ∧
        t.tt.sec = s.tt.sec ∧ t.tt.cfg = s.tt.cfg ∧ t.tt.tt = s.tt.tt) ∧
    (∀ src, meterSourceOk s src = false → exec (.meterCrossing src) s = .next s)

/-- For a qualified crossing of an active ZC_IN primary with phase error e: FREE and HOLDOVER lock at the eighth crossing in a row with |e|
at most 8 pu, count the ones before it, and go to SLEW with the hold flag kept where |e| is larger; LOCKED goes to SLEW at the fourth
crossing in a row beyond 64 pu and starts its count afresh within them; SLEW locks at its eighth crossing within 8 pu once nothing is left
to remove. LOCKED or SLEW without a source goes to HOLDOVER at the estimated frequency with the count kept (after R79, R80). The frequency
and phase the loop filter gives are free values. -/
def Obligations.LockStatesFollowTheTable : Prop :=
  ∀ (s : State) (p : Nat) (e : Int),
    (PrimaryCrossing s p e → s.tt.state = .free ∨ s.tt.state = .holdover → e.natAbs ≤ 8 → s.tt.good + 1 = 8 →
      ∃ t, exec (.zcEdge (!s.tt.cfg.zcPol)) s = .next t ∧ t.tt.state = .locked ∧ t.tt.slewLeft = 0 ∧ t.tt.phaseErr = e) ∧
    (PrimaryCrossing s p e → s.tt.state = .free ∨ s.tt.state = .holdover → e.natAbs ≤ 8 → s.tt.good + 1 < 8 →
      ∃ t, exec (.zcEdge (!s.tt.cfg.zcPol)) s = .next t ∧ t.tt.state = s.tt.state ∧ t.tt.good = s.tt.good + 1) ∧
    (PrimaryCrossing s p e → s.tt.state = .free ∨ s.tt.state = .holdover → 8 < e.natAbs →
      ∃ t, exec (.zcEdge (!s.tt.cfg.zcPol)) s = .next t ∧ t.tt.state = .slew ∧ t.tt.slewHold = true ∧ t.tt.slewLeft = e.natAbs ∧
        t.tt.slewPos = decide (0 < e)) ∧
    (PrimaryCrossing s p e → s.tt.state = .locked → 64 < e.natAbs → s.tt.bad.length = 3 →
      ∃ t, exec (.zcEdge (!s.tt.cfg.zcPol)) s = .next t ∧ t.tt.state = .slew ∧ t.tt.slewHold = false ∧ t.tt.slewLeft = e.natAbs) ∧
    (PrimaryCrossing s p e → s.tt.state = .locked → e.natAbs ≤ 64 →
      ∃ t, exec (.zcEdge (!s.tt.cfg.zcPol)) s = .next t ∧ t.tt.state = .locked ∧ t.tt.bad = []) ∧
    (PrimaryCrossing s p e → s.tt.state = .slew → e.natAbs ≤ 8 → s.tt.slewLeft = 0 → s.tt.good + 1 = 8 →
      ∃ t, exec (.zcEdge (!s.tt.cfg.zcPol)) s = .next t ∧ t.tt.state = .locked) ∧
    (s.tt.running = true → s.tt.state = .locked ∨ s.tt.state = .slew → noSource s = true →
      ∃ t, exec .holdoverEntry s = .next t ∧ t.tt.state = .holdover ∧ t.tt.freq = s.tt.freq ∧ t.tt.tt = s.tt.tt ∧
        t.tt.slewLeft = 0 ∧ t.tt.since = cycOf s) ∧
    (s.tt.state = .free ∨ s.tt.state = .holdover → exec .holdoverEntry s = .next s)

/-- A silent primary gives way to a live secondary, and comes back after 256 crossings in a row: the switch is posted for the next cycle
boundary and, when due, done and logged as EV_TT_SOURCE. A holdover longer than HOLD_ALARM minutes is logged once. A reservation that the
devices take moves the ceiling to the second block of 2^20 cycles and stands in the slot of both rings; one that waits is logged every 2^19
cycles; a count that reaches the ceiling is marked lost. Every 1,024 cycles an anchor of TT and RTC is captured at phase 0, 64 being kept
(after R75, R80, R83, R91). That a switch is posted when it is noticed, and that the return carries the offset 0, are the model's choices
(assumption 24). -/
def Obligations.TetherKeepsItsSourcesCeilingAndAnchors : Prop :=
  ∀ s : State,
    (s.tt.running = true → s.tt.onSecondary = false → s.tt.cfg.secondary ≠ 0 → s.tt.prim.silent (cycOf s) = true →
      s.tt.sec.live (cycOf s) = true → s.tt.switching = false → Room 1 s →
      ∃ t, exec .secondarySwitch s = .next t ∧ t.tt = { s.tt with switching := true } ∧
        t.tl.entries = s.tl.entries ++ [⟨nextBoundary s, 0, s.tl.nextSeq, 1, false, .source true, true⟩]) ∧
    (∀ e, s.tt.switching = true → Due e s → e.kind = .source true →
      exec .secondarySwitch s = .next (logNs evTtSource 0xFF
        [s.tt.cfg.primary, s.tt.cfg.secondary, ofSigned 32 (usedOffset s.tt), if (learnedOffset s.tt).isSome then 0 else 1]
        { tlRemove e.seq s with tt := { s.tt with onSecondary := true, switching := false, good := 0 } })) ∧
    (s.tt.running = true → s.tt.onSecondary = true → 256 ≤ s.tt.prim.streak → s.tt.prim.silent (cycOf s) = false →
      s.tt.switching = false → Room 1 s →
      ∃ t, exec .primaryReturn s = .next t ∧ t.tt = { s.tt with switching := true } ∧
        t.tl.entries = s.tl.entries ++ [⟨nextBoundary s, 0, s.tl.nextSeq, 1, false, .source false, true⟩]) ∧
    (∀ e, s.tt.switching = true → Due e s → e.kind = .source false →
      exec .primaryReturn s = .next (logNs evTtSource 0xFF
        [s.tt.cfg.secondary, s.tt.cfg.primary, 0, if (learnedOffset s.tt).isSome then 0 else 1]
        { tlRemove e.seq s with tt := { s.tt with onSecondary := false, switching := false, good := 0 } })) ∧
    (s.tt.running = true → s.tt.state = .holdover → s.tt.cfg.holdAlarm ≠ 0 → s.tt.longLogged = false →
      s.tt.cfg.holdAlarm ≤ (s.clk.ticks - s.tt.holdTick) / 2400000000 →
      exec .evTtHoldoverLong s = .next (logNs evTtHoldoverLong 0xFF
        [(s.clk.ticks - s.tt.holdTick) / 2400000000, (s.clk.ticks - s.tt.lastQualTick) / 80000000]
        { s with tt := { s.tt with longLogged := true } })) ∧
    (s.tt.running = true → s.tt.reserve.ceiling < (cycOf s / 2 ^ 20 + 2) * 2 ^ 20 →
      exec (.reservationWrite 0 0) s = .next { s with tt := { s.tt with reserve :=
        { s.tt.reserve with
          ring0 := putRing s.tt.reserve.slot ((cycOf s / 2 ^ 20 + 2) * 2 ^ 20, s.tt.reserve.epoch) true s.tt.reserve.ring0
          ring1 := putRing s.tt.reserve.slot ((cycOf s / 2 ^ 20 + 2) * 2 ^ 20, s.tt.reserve.epoch) true s.tt.reserve.ring1
          slot := (s.tt.reserve.slot + 1) % 64, ceiling := (cycOf s / 2 ^ 20 + 2) * 2 ^ 20, pend := none, logged := 0 } } }) ∧
    (∀ c trig, s.tt.reserve.pend = some (c, trig) → trig + 2 ^ 19 * (s.tt.reserve.logged + 1) ≤ cycOf s →
      exec .evTtReserveFail s = .next (logNs evTtReserveFail 0xFF [c, cycOf s - trig]
        { s with tt := { s.tt with reserve := { s.tt.reserve with logged := s.tt.reserve.logged + 1 } } })) ∧
    (s.tt.running = true → s.tt.reserve.ceiling ≤ cycOf s →
      exec .reserveCeilingReached s = .next { s with tt := { s.tt with reserve := { s.tt.reserve with lost := true } } }) ∧
    (s.tt.running = true → ttPh s.tt.tt = 0 → cycOf s % 1024 = 0 → s.tt.anchorCyc ≠ some (cycOf s) →
      ∃ t, exec .anchorCapture s = .next t ∧
        t.tt.anchors.head? = some ⟨s.tt.tt, s.rtc.sec, s.rtc.frac, s.tt.state == .locked, false, s.rtc.osf, s.rtc.lbv, driftUs s,
          s.tt.scale⟩ ∧
        t.tt.anchors.length = min 64 (s.tt.anchors.length + 1) ∧ t.tt.tt = s.tt.tt ∧ t.rtc = s.rtc)

/-- Where the entry that is due is Tether's configuration, a stored setting or a host alarm, its event takes it out of the queue and applies
it: the configuration becomes the one in force, the setting is applied, the alarm is marked fired and notified to its port with handle,
cookie and target (after R88, R89). -/
def Obligations.DueEntriesFireOnce : Prop :=
  ∀ (s : State) (e : TlEntry), Due e s →
    (∀ c, e.kind = .ttConfig → s.tt.cfgNext = some c →
      exec .ttConfigApply s = .next (applyTtCfg c (tlRemove e.seq s))) ∧
    (∀ r, e.kind = .config r →
      exec .configEntryApply s = .next (applyS r (tlRemove e.seq s))) ∧
    (∀ p h target cookie, e.kind = .alarm p h → (s.alarms.get p).getD h .never = .armed target cookie →
      ∃ t, exec .ttAlarmFire s = .next t ∧
        t = notify p 0x0201 1 [wd h, wd cookie, wd e.target, wd (e.target / 2 ^ 32)]
          { s with alarms := s.alarms.upd p (fun l => updAt l h fun _ => AlarmState.fired)
                   tl := { s.tl with entries := s.tl.entries.filter fun x => x.seq != e.seq } })

/-- Where a TT command passes its checks it completes with OK and the words of its table: TT.STATUS, TT.CONFIG (which stores the
configuration for the next cycle boundary), TT.CONVERT for a time that can be converted, TT.ANCHORS, TT.ALARM and TT.ALARM_CANCEL (which
post and remove the port's entry) and TT.QUEUE. A read of TT_SNAP_LO captures the whole TT for that port alone. The packing of fields within
the words follows the tables of chapter 03. -/
def Obligations.TtCommandsAnswer : Prop :=
  ∀ (r : Req) (s : State),
    (Runs 0x0201 (ttChecks 0x0201 0 1) r s →
      ∃ w3 w5, exec .ttStatus s = .next (ok r [w3, wd s.tt.freq, w5,
        wd (sat 32 (match s.tt.state with | .free => cycOf s - s.tt.since | .holdover => cycOf s - s.tt.since | _ => 0)),
        wd (sat 32 (driftUs s)), wd s.tt.since, packW [(s.tl.entries.length, 16), (s.tl.peak, 0)],
        packW [(b2n s.tt.reserve.lost, 17), (b2n (learnedOffset s.tt).isSome, 16), (ofSigned 16 ((learnedOffset s.tt).getD 0), 0)]]
        (took r s)) ∧
      w3 = packW [(lockCode s.tt.state, 28), (b2n (holdFlag s), 27), (b2n (slewFlag s), 26), (b2n s.tt.nomMismatch, 25),
        (b2n s.tt.onSecondary, 24), (s.tt.reserve.epoch, 16), (if s.tt.onSecondary then s.tt.cfg.secondary else s.tt.cfg.primary, 8),
        (sat 8 (if s.tt.onSecondary then s.tt.sec else s.tt.prim).run, 0)] ∧
      w5 = packW [(ofSigned 16 s.tt.phaseErr, 16), (if s.tt.state == .slew then s.tt.slewLeft else 0, 0)]) ∧
    (Runs 0x0202 chkTtConfig r s → Room 1 s →
      ∃ t, exec .ttConfig s = .next (ok r [] t) ∧ t.tt.cfgNext = some (ttCfgOf r) ∧ t.tt.cfg = s.tt.cfg ∧
        t.tl.entries = s.tl.entries ++ [⟨nextBoundary s, 0, s.tl.nextSeq, 1, false, .ttConfig, true⟩]) ∧
    (∀ c out d, Runs 0x0203 chkTtConvert r s → convertReq r (took r s) = .ok (c, out, d) →
      exec .ttConvert s = .next (ok r ([packW [(b2n (c.used.any fun a => a.osf), 3), (b2n (c.used.any fun a => a.stepped), 2),
        (b2n (c.used.any fun a => !a.locked), 1), (b2n c.extra, 0)]] ++ out ++ [wd (errBound c d)]) (took r s))) ∧
    (Runs 0x0204 (ttChecks 0x0204 0 1) r s →
      exec .ttAnchors s = .next (ok r (wd s.tt.anchors.length :: (s.tt.anchors.map anchorWords).flatten) (took r s))) ∧
    (∀ h, Runs 0x0205 chkTtAlarm r s → freeHandle (s.alarms.get r.port) = some h →
      ∃ t, exec .ttAlarm s = .next (ok r [wd h] t) ∧
        t.alarms = s.alarms.upd r.port (fun l => updAt l h fun _ => AlarmState.armed (alarmTarget r) (r.w 5).toNat) ∧
        t.tl.entries = s.tl.entries ++ [⟨alarmTarget r, 7, s.tl.nextSeq, 3, false, .alarm r.port h, true⟩]) ∧
    (Runs 0x0206 chkTtAlarmCancel r s →
      ∃ t, exec .ttAlarmCancel s = .next (ok r [] t) ∧
        t.alarms = s.alarms.upd r.port (fun l => updAt l (fld (r.w 3) 3 0) fun _ => AlarmState.cancelled) ∧
        t.tl.entries = s.tl.entries.filter (fun e => e.kind != .alarm r.port (fld (r.w 3) 3 0))) ∧
    (Runs 0x0207 (ttChecks 0x0207 0 1) r s →
      exec .ttQueue s = .next (ok r ([packW [(s.tl.entries.length, 16), (s.tl.peak, 0)],
        packW [(7104 - tlSharedUsed s.tl, 16), (1024 - tlSecureUsed s.tl, 0)]] ++
        (List.range 10).map fun k => packW [(tlUsedBy s.tl (2 * k + 1), 16), (tlUsedBy s.tl (2 * k + 2), 0)]) (took r s))) ∧
    (∀ p : Fin 4, portUp s p = true →
      ∃ t, exec (.ttSnapLoRead p .word) s = .next t ∧ (t.ports.get p).readData = wd s.tt.tt ∧ (t.ports.get p).snap = s.tt.tt ∧
        (∀ q, q ≠ p → t.ports.get q = s.ports.get q))

/-- At the start of a correction window: with a whole window measured against the TCXO the correction comes from the measurement, beyond
10,000 units of it raises OSF and LBV too; without a whole window, or on the cell, it comes from the factory curve and AGING, and with BAK
too low there is none. A stopped or wildly wrong crystal raises OSF and LBV and is logged; BAK below 2.0 V for more than 1 ms raises LBV and
is logged; BAK below 1.8 V for more than 50 us, or below 1.2 V, loses the token, and no other dip does. A change to the cell below VIN_OFF
is counted and stamped once. The measured cell sets and clears CELL_LOW (after R52, R99, R107, R109, R120). The units of the correction and
the scale of AGING are the model's reading (assumption 29). -/
def Obligations.BackupDomainEventsActByTheirRules : Prop :=
  ∀ s : State,
    (∀ m temp bakOk, 2 ^ 21 ≤ s.rtc.winTick → tcxoRuns s = true → s.rtc.winWhole = true → m.natAbs ≤ 10000 →
      ∃ t, exec (.rtcCorrectionWindow m temp bakOk) s = .next t ∧ t.rtc.corr = clampI (-20000) 20000 (s.rtc.trim * 10 - m) ∧
        t.rtc.corrSrc = 0 ∧ t.rtc.temp = temp ∧ t.rtc.osf = s.rtc.osf ∧ t.rtc.sec = s.rtc.sec ∧ t.rtc.frac = s.rtc.frac ∧
        t.log = s.log) ∧
    (∀ m temp bakOk, 2 ^ 21 ≤ s.rtc.winTick → tcxoRuns s = true → s.rtc.winWhole = true → 10000 < m.natAbs →
      ∃ t, exec (.rtcCorrectionWindow m temp bakOk) s = .next t ∧ t.rtc.osf = true ∧ t.rtc.lbv = true) ∧
    (∀ m temp, 2 ^ 21 ≤ s.rtc.winTick → powered s = false →
      ∃ t, exec (.rtcCorrectionWindow m temp true) s = .next t ∧ t.rtc.corrSrc = 1 ∧ t.rtc.aging = s.rtc.aging ∧
        t.rtc.corr = clampI (-20000) 20000 (s.rtc.trim * 10 - (Config.factory temp + roundDiv s.rtc.aging 1024)) ∧ t.log = s.log) ∧
    (∀ m temp, 2 ^ 21 ≤ s.rtc.winTick → powered s = false →
      ∃ t, exec (.rtcCorrectionWindow m temp false) s = .next t ∧ t.rtc.corrSrc = 2 ∧ t.rtc.corr = 0 ∧ t.rtc.corrN = 0) ∧
    (∀ m temp, 2 ^ 21 ≤ s.rtc.winTick → powered s = true → tcxoRuns s = false ∨ s.rtc.winWhole = false →
      ∃ t, exec (.rtcCorrectionWindow m temp false) s = .next t ∧ t.rtc.corrSrc = 1 ∧
        t.rtc.corr = clampI (-20000) 20000 (s.rtc.trim * 10 - (Config.factory temp + roundDiv s.rtc.aging 1024))) ∧
    (∀ ms ppm, 1 ≤ ms → s.pwr.mode ≠ .shelf → s.rtc.osc ≠ .faulted → exec (.oscStopDetect ⟨false, ms⟩ ppm) s =
      .next (logNs evRtcOscFault 0xFF [ofSigned 32 ms]
        { s with rtc := { s.rtc with osc := .faulted, osf := true, lbv := true } })) ∧
    (∀ ms, ∀ ppm : Int, 100 < ppm.natAbs → s.pwr.mode ≠ .shelf → tcxoRuns s = true → s.rtc.winWhole = true →
      exec (.oscStopDetect ⟨true, ms⟩ ppm) s =
        .next (logNs evRtcOscFault 0xFF [ofSigned 32 ppm] { s with rtc := { s.rtc with osc := .runs, osf := true, lbv := true } })) ∧
    (∀ ms, ∀ ppm : Int, s.pwr.mode ≠ .shelf → ppm.natAbs ≤ 100 ∨ tcxoRuns s = false ∨ s.rtc.winWhole = false →
      exec (.oscStopDetect ⟨true, ms⟩ ppm) s = .next { s with rtc := { s.rtc with osc := .runs } }) ∧
    (∀ mv us, s.rtc.onCell = true → mv < 2000 → 1000 < us → s.pwr.mode ≠ .shelf →
      ∃ t, exec (.evLbv mv us) s = .next t ∧ t.rtc = { s.rtc with lbv := true } ∧
        t.log = s.log.event (stampOf { s with rtc := { s.rtc with lbv := true } }) evLbv 0xFF
          [wd s.rtc.sec, packW [(s.rtc.frac, 16), (s.rtc.sec / 2 ^ 32 % 256, 0)], wd (mv / 10)]) ∧
    (∀ us mv, mv < 1200 ∨ (mv < 1800 ∧ 50 < us) →
      exec (.retentionTokenLoss us mv) s = .next { s with rtc := { s.rtc with token := false } }) ∧
    (∀ us mv, 1800 ≤ mv ∨ (1200 ≤ mv ∧ us ≤ 50) → exec (.retentionTokenLoss us mv) s = .next s) ∧
    (s.rtc.onCell = false → s.pwr.mode ≠ .shelf → s.pwr.vin < s.dev.vinOff →
      ∃ t, exec .bakSwitchOver s = .next t ∧ t.rtc.onCell = true ∧ t.rtc.swoValid = true ∧ t.rtc.swoCount = sat 16 (s.rtc.swoCount + 1) ∧
        t.rtc.swoStamp = (if s.rtc.swoValid then s.rtc.swoStamp else (s.rtc.sec, s.rtc.frac)) ∧ t.rtc.token = s.rtc.token ∧
        t.rtc.bram = s.rtc.bram ∧ t.rtc.sec = s.rtc.sec) ∧
    (∀ mv, powered s = true → s.pwr.bootStep = .secure ∨ s.rtc.vbakTick + 3600 * 40000000 ≤ s.clk.ticks →
      ∃ t, exec (.vbakMeasure mv) s = .next t ∧ t.rtc.vbakMv = mv ∧
        t.rtc.cellLow = (if mv < 2400 then true else if 2500 ≤ mv then false else s.rtc.cellLow) ∧ t.rtc.vbakTick = s.clk.ticks)

/-- Each port has a shadow of the RTC of its own: the first read of one of its three registers freezes seconds, fraction and flags of one
tick, every read is served from that copy until each register has been read, or until a second after the first read; the first copy after a
release by that timeout carries STALE, and the read of RTC_FRAC_FLAGS that shows STALE releases it (R100, R101). The other ports' shadows
and windows stay. -/
def Obligations.ShadowsShowOneInstant : Prop :=
  ∀ (s : State) (p : Fin 4), portUp s p = true →
    (∀ reg : Fin 3, (s.shadow.get p).frozen = false →
      ∃ t, exec (.rtcShadowRead p reg .word) s = .next t ∧ (t.shadow.get p).lo = wd s.rtc.sec ∧
        (t.shadow.get p).hi = wd (s.rtc.sec / 2 ^ 32 % 256) ∧
        (t.shadow.get p).ff = packW [(s.rtc.frac, 16), (b2n (s.shadow.get p).staleNext, 7), (rtcFlags s.rtc, 0)] ∧
        (t.shadow.get p).since = s.clk.ticks ∧ (t.shadow.get p).staleNext = false ∧ (t.shadow.get p).readMask = 2 ^ reg.val ∧
        ((t.shadow.get p).frozen = false ↔ reg.val = 2 ∧ bit (t.shadow.get p).ff 7 = true) ∧
        (t.ports.get p).readData = (t.shadow.get p).reg reg.val ∧ t.rtc = s.rtc ∧
        ∀ q, q ≠ p → t.shadow.get q = s.shadow.get q ∧ t.ports.get q = s.ports.get q) ∧
    (∀ reg : Fin 3, (s.shadow.get p).frozen = true →
      ∃ t, exec (.rtcShadowRead p reg .word) s = .next t ∧ (t.shadow.get p).lo = (s.shadow.get p).lo ∧
        (t.shadow.get p).hi = (s.shadow.get p).hi ∧ (t.shadow.get p).ff = (s.shadow.get p).ff ∧
        (t.shadow.get p).since = (s.shadow.get p).since ∧ (t.shadow.get p).staleNext = (s.shadow.get p).staleNext ∧
        (t.shadow.get p).readMask = setBit (s.shadow.get p).readMask reg.val true ∧
        ((t.shadow.get p).frozen = false ↔ setBit (s.shadow.get p).readMask reg.val true = 7 ∨
          (reg.val = 2 ∧ bit (s.shadow.get p).ff 7 = true)) ∧
        (t.ports.get p).readData = (s.shadow.get p).reg reg.val ∧ t.rtc = s.rtc ∧
        ∀ q, q ≠ p → t.shadow.get q = s.shadow.get q ∧ t.ports.get q = s.ports.get q) ∧
    ((s.shadow.get p).frozen = true → (s.shadow.get p).since + 40000000 ≤ s.clk.ticks →
      ∃ t, exec (.rtcShadowTimeout p) s = .next t ∧ (t.shadow.get p).frozen = false ∧ (t.shadow.get p).staleNext = true ∧
        (∀ q, q ≠ p → t.shadow.get q = s.shadow.get q) ∧ OnlyChanges [.shadow] s t) ∧
    ((s.shadow.get p).frozen = false ∨ s.clk.ticks < (s.shadow.get p).since + 40000000 → exec (.rtcShadowTimeout p) s = .next s)

/-- A TT.RTC_SET that passes its checks stages the write for the tick its MODE names, or cancels a staged one; the commit puts the seconds
with fraction 0, clears LBV, clears OSF where asked, marks the older anchors as stepped and captures one of its own, TT untouched; without a
staged write or a due tick nothing is committed. The other RTC commands answer or change what they name: the status words, the flags and
their clearing, TRIM, the backup RAM, the tamper configuration, after which TAMP_LEVEL reads 0 and the filters start anew (assumption 32)
(after R104 to R111, R116, R121). -/
def Obligations.BackupDomainCommandsAct : Prop :=
  ∀ (r : Req) (s : State),
    (Runs 0x0221 chkRtcSet r s → fld (r.w 3) 31 30 ≠ 3 →
      ∃ t, exec .rtcSet s = .next t ∧ t.rtc.sec = s.rtc.sec ∧ t.rtc.frac = s.rtc.frac ∧ t.rtc.osf = s.rtc.osf ∧
        t.rtc.staged = some ⟨fld (r.w 3) 31 30, rtcSetSec r, if fld (r.w 3) 31 30 = 1 then rtcSetSAt r else rtcSetTt r,
          bit (r.w 3) 29, r.origin (decide (fld (r.w 3) 31 30 ≠ 0))⟩) ∧
    (∀ w : RtcWrite, Runs 0x0221 chkRtcSet r s → fld (r.w 3) 31 30 = 3 → s.rtc.staged = some w → w.mode ≠ 0 →
      ∃ t, exec .rtcSet s = .next (okN r [] t) ∧ t.rtc.staged = none ∧ t.rtc.lastWrite = 2 ∧ t.rtc.sec = s.rtc.sec) ∧
    (∀ w : RtcWrite, s.rtc.staged = some w → s.rtc.commitDue = true → s.rtc.waitCancel = [] →
      ∃ t, exec .rtcSetCommit s = .next t ∧ t.rtc.sec = w.sec ∧ t.rtc.frac = 0 ∧ t.rtc.lbv = false ∧
        t.rtc.osf = (s.rtc.osf && !w.clearOsf) ∧ t.rtc.staged = none ∧ t.rtc.commitDue = false ∧ t.tt.scale = s.tt.scale + 1 ∧
        t.tt.tt = s.tt.tt ∧ (∀ a ∈ t.tt.anchors.tail, a.stepped = true) ∧
        (t.tt.anchors.head?.map fun a => (a.tt, a.sec, a.frac, a.stepped)) = some (s.tt.tt, w.sec, 0, false)) ∧
    (s.rtc.staged = none → exec .rtcSetCommit s = .next s) ∧
    (s.rtc.commitDue = false → exec .rtcSetCommit s = .next s) ∧
    (Runs 0x0220 (ttChecks 0x0220 0 2) r s →
      exec .rtcStatus s = .next (ok r [wd s.rtc.sec, packW [(s.rtc.frac, 16), (rtcFlags s.rtc, 8), (s.rtc.sec / 2 ^ 32 % 256, 0)],
        packW [(ofSigned 16 s.rtc.trim, 16), (ofSigned 16 s.rtc.corr, 0)],
        packW [(ofSigned 16 (roundDiv s.rtc.aging 1024), 16), (s.rtc.corrSrc, 14)],
        packW [(s.rtc.vbakMv, 16), (ofSigned 16 s.rtc.temp, 0)],
        packW [(s.rtc.swoCount, 16), (s.rtc.tampLevel, 10), (s.rtc.tampLatched, 8), (s.rtc.tampCfg, 0)],
        wd s.rtc.tampStamp.1, packW [(s.rtc.tampStamp.2, 16), (s.rtc.tampStamp.1 / 2 ^ 32 % 256, 0)]] (took r s))) ∧
    (Runs 0x0222 chkRtcFlags r s →
      ∃ t, exec .rtcFlags s = .next (ok r [packW [(s.rtc.swoCount, 16), (rtcFlags s.rtc, 8), (s.rtc.swoStamp.1 / 2 ^ 32 % 256, 0)],
          wd s.rtc.swoStamp.1, packW [(s.rtc.swoStamp.2, 16)]] t) ∧
        t.rtc.lbv = (s.rtc.lbv && !bit (r.w 3) 0) ∧ t.rtc.osf = (s.rtc.osf && !bit (r.w 3) 1) ∧
        t.rtc.tampered = (s.rtc.tampered && !bit (r.w 3) 2) ∧ t.rtc.tampLatched = (if bit (r.w 3) 2 then 0 else s.rtc.tampLatched) ∧
        t.rtc.swoValid = (s.rtc.swoValid && !bit (r.w 3) 3) ∧ t.rtc.swoCount = (if bit (r.w 3) 3 then 0 else s.rtc.swoCount) ∧
        t.rtc.sec = s.rtc.sec ∧ t.rtc.frac = s.rtc.frac ∧ t.rtc.bram = s.rtc.bram) ∧
    (Runs 0x0223 chkRtcTrim r s →
      ∃ t, exec .rtcTrim s = .next (ok r [] t) ∧ t.rtc = { s.rtc with trim := sfld (r.w 3) 31 16 }) ∧
    (Runs 0x0224 chkBramRead r s →
      exec .bramRead s = .next (ok r ((s.rtc.bram.drop (fld (r.w 3) 7 4)).take (fld (r.w 3) 3 0 + 1)) (took r s))) ∧
    (Runs 0x0225 chkBramWrite r s →
      exec .bramWrite s = .next (ok r [] { took r s with rtc := { s.rtc with
        bram := putWords s.rtc.bram (fld (r.w 3) 7 4) ((r.words.drop 4).take (fld (r.w 3) 3 0 + 1)) } })) ∧
    (Runs 0x0226 chkTamperConfig r s →
      ∃ t, exec .tamperConfig s = .next (ok r [] t) ∧ t.rtc = { s.rtc with
        tampCfg := tampCfgOf r, tampRun := (0, 0), tampLevel := 0 })

/-- A push is staged where FREE is above 0 and fewer than 1,024 words are staged, taking one word of FREE; otherwise the word is discarded
and the queue is poisoned. A commit is judged in R134's order: ABORT discards what is staged and clears the poison; nothing staged is
ignored; OVERRUN, COUNT, SHORT and LENGTH are framing errors with their codes 3, 1, 4 and 2 (R135's effects follow); otherwise the message
is in the queue, whole and last, and the port's watchdog is restarted. -/
def Obligations.CommitsAreJudgedInOrder : Prop :=
  ∀ (s : State) (p k : Fin 4), portUp s p = true →
    (∀ w, 0 < reqFree (s.ports.get p) k.val → ((s.ports.get p).req k.val).staged.length < 1024 →
      ∃ t, exec (.reqDataPush p k w) s = .next t ∧
        ((t.ports.get p).req k.val).staged = ((s.ports.get p).req k.val).staged ++ [w] ∧
        reqFree (t.ports.get p) k.val = reqFree (s.ports.get p) k.val - 1 ∧
        ((t.ports.get p).req k.val).msgs = ((s.ports.get p).req k.val).msgs ∧ (∀ q, q ≠ p → t.ports.get q = s.ports.get q) ∧
        OnlyChanges [.ports] s t) ∧
    (∀ w, reqFree (s.ports.get p) k.val = 0 ∨ 1024 ≤ ((s.ports.get p).req k.val).staged.length →
      ∃ t, exec (.reqDataPush p k w) s = .next t ∧ ((t.ports.get p).req k.val).poisoned = true ∧
        ((t.ports.get p).req k.val).staged = ((s.ports.get p).req k.val).staged ∧ OnlyChanges [.ports] s t) ∧
    (∃ t, exec (.reqAbort p k) s = .next t ∧ ((t.ports.get p).req k.val).staged = [] ∧ ((t.ports.get p).req k.val).poisoned = false ∧
      ((t.ports.get p).req k.val).msgs = ((s.ports.get p).req k.val).msgs ∧ (t.ports.get p).frameErrs = (s.ports.get p).frameErrs) ∧
    (∀ w, bit w 31 = false → ((s.ports.get p).req k.val).staged = [] →
      ∃ t, exec (.reqCommit p k w) s = .next t ∧ (t.ports.get p).req k.val = (s.ports.get p).req k.val ∧
        (t.ports.get p).intStat = (s.ports.get p).intStat ∧ (t.ports.get p).frameErrs = (s.ports.get p).frameErrs ∧
        OnlyChanges [.ports] s t) ∧
    (∀ w c, bit w 31 = false → ((s.ports.get p).req k.val).staged ≠ [] → c ≠ 0 →
      frameCode ((s.ports.get p).req k.val) (fld w 10 0) = c →
      ∃ t, exec (.reqCommit p k w) s = .next t ∧ ((t.ports.get p).req k.val).staged = [] ∧
        ((t.ports.get p).req k.val).poisoned = false ∧ ((t.ports.get p).req k.val).msgs = ((s.ports.get p).req k.val).msgs ∧
        (t.ports.get p).lastErr = c ∧ (t.ports.get p).lastErrQ = k.val ∧
        (t.ports.get p).frameErrs = sat 8 ((s.ports.get p).frameErrs + 1) ∧ (t.ports.get p).intStat.getLsbD 12 = true ∧ t.wd = s.wd) ∧
    (∀ w, bit w 31 = false → ((s.ports.get p).req k.val).staged ≠ [] → frameCode ((s.ports.get p).req k.val) (fld w 10 0) = 0 →
      ∃ t, exec (.reqCommit p k w) s = .next t ∧ ((t.ports.get p).req k.val).staged = [] ∧
        ((t.ports.get p).req k.val).msgs = ((s.ports.get p).req k.val).msgs ++ [((s.ports.get p).req k.val).staged] ∧
        (t.ports.get p).frameErrs = (s.ports.get p).frameErrs ∧
        ((s.wd.get p).running = true → (t.wd.get p).expired = false ∧
          (t.wd.get p).deadline = s.clk.ticks + (s.wd.get p).timeout * 40000000)) ∧
    (∀ w, bit w 31 = true →
      ∃ t, exec (.reqCommit p k w) s = .next t ∧ ((t.ports.get p).req k.val).staged = [] ∧ ((t.ports.get p).req k.val).poisoned = false ∧
        ((t.ports.get p).req k.val).msgs = ((s.ports.get p).req k.val).msgs ∧ (t.ports.get p).frameErrs = (s.ports.get p).frameErrs) ∧
    (∀ x n, (frameCode x n = 0 ↔ x.poisoned = false ∧ n = x.staged.length ∧ 3 ≤ x.staged.length ∧
        x.staged.length = 3 + fld (wAt x.staged 0) 15 0) ∧
      (frameCode x n = 3 ↔ x.poisoned = true) ∧
      (frameCode x n = 1 ↔ x.poisoned = false ∧ n ≠ x.staged.length) ∧
      (frameCode x n = 4 ↔ x.poisoned = false ∧ n = x.staged.length ∧ x.staged.length < 3) ∧
      (frameCode x n = 2 ↔ x.poisoned = false ∧ n = x.staged.length ∧ 3 ≤ x.staged.length ∧
        x.staged.length ≠ 3 + fld (wAt x.staged 0) 15 0))

/-- Where takes are open and the command processor is free, a take removes the front message of the port and queue chosen, and reserves the
return space of its opcode; a port with an urgent message that fits its reservation puts some urgent message first; otherwise nothing is
taken. An ordered request that may start is marked ready, and no port changes (after R137 to R142, R158). That a take waits until no taken
request is ready to execute is DEDUCED (assumption 33). -/
def Obligations.RequestsAreTakenFromTheFront : Prop :=
  ∀ s : State,
    (∀ (p : Fin 4) (k : Nat) (row : OpRow), takesOpen s = true → cmdIdle s = true → k < 4 →
      (pickPort s s.cmd.rrUrgent true = some (p, k) ∨
        (pickPort s s.cmd.rrUrgent true = none ∧ pickPort s s.cmd.rrOther false = some (p, k))) →
      (s.ports.get p).openSet = none → opRow (fld (wAt (((s.ports.get p).req k).msgs.headD []) 0) 31 16) = some row →
      ∃ t r, exec .requestTake s = .next t ∧ t.cmd.taken = s.cmd.taken ++ [r] ∧ r.port = p ∧ r.queue = k ∧
        r.words = ((s.ports.get p).req k).msgs.headD [] ∧ r.id = s.cmd.nextId ∧ r.target = takeTarget s r.words ∧
        r.resRsp = row.rsp ∧ r.resNtf = row.ntf ∧ ((t.ports.get p).req k).msgs = ((s.ports.get p).req k).msgs.tail ∧
        (t.ports.get p).reserved = (s.ports.get p).reserved + row.rsp + row.ntf ∧
        (t.ports.get p).inflight = (s.ports.get p).inflight + 1) ∧
    (∀ p : Fin 4, (s.ports.get p).pause = false → (s.ports.get p).takeBlocked = false → (s.ports.get p).q0.msgs ≠ [] →
      reserveFits (s.ports.get p) 0 = true → ∃ p', pickPort s s.cmd.rrUrgent true = some (p', 0)) ∧
    (takesOpen s = false → exec .requestTake s = .next s) ∧
    (cmdIdle s = false → exec .requestTake s = .next s) ∧
    (∀ r : Req, s.cmd.taken.find? (fun x => !x.ready && (s.cmd.ordered.find? fun y => y.1 == x.port) == some (x.port, x.id)) = some r →
      cmdIdle s = true → takesOpen s = true → (s.ports.get r.port).openSet = none → (opRow r.opcode).isSome = true →
      ∃ t, exec .orderedExecutionStart s = .next t ∧
        t.cmd.taken = s.cmd.taken.map (fun x => if x.id = r.id then { x with ready := true } else x) ∧ t.ports = s.ports)

/-- Pops give the words of the head message in order and remove it with its last word; an empty queue reads 0; a discard removes the head
message, a discard of all empties the queue but leaves what is held; a held message is placed when it may be, and its reservation freed; the
record of lost notifications is placed when it fits; a flush empties the port's request and return queues and counters and leaves the
watchdogs (after R140, R143 to R147). -/
def Obligations.ReturnQueuesGiveMessagesInOrder : Prop :=
  ∀ (s : State) (p : Fin 4),
    (∀ (r : Fin 2) (m : RMsg) (rest : List RMsg), portUp s p = true → ((s.ports.get p).ret r.val).msgs = m :: rest →
      ((s.ports.get p).ret r.val).popped + 1 < m.words.length →
      ∃ t, exec (.rspDataPop p r .word) s = .next t ∧ (t.ports.get p).readData = wAt m.words ((s.ports.get p).ret r.val).popped ∧
        ((t.ports.get p).ret r.val).msgs = m :: rest ∧
        ((t.ports.get p).ret r.val).popped = ((s.ports.get p).ret r.val).popped + 1) ∧
    (∀ (r : Fin 2) (m : RMsg) (rest : List RMsg), portUp s p = true → ((s.ports.get p).ret r.val).msgs = m :: rest →
      m.words.length ≤ ((s.ports.get p).ret r.val).popped + 1 → m.canLock = none →
      ∃ t, exec (.rspDataPop p r .word) s = .next t ∧ (t.ports.get p).readData = wAt m.words ((s.ports.get p).ret r.val).popped ∧
        ((t.ports.get p).ret r.val).msgs = rest ∧ ((t.ports.get p).ret r.val).popped = 0) ∧
    (∀ r : Fin 2, portUp s p = true → ((s.ports.get p).ret r.val).msgs = [] →
      ∃ t, exec (.rspDataPop p r .word) s = .next t ∧ (t.ports.get p).readData = 0 ∧ ((t.ports.get p).ret r.val).msgs = []) ∧
    (∀ (r : Fin 2) (m : RMsg) (rest : List RMsg), portUp s p = true → ((s.ports.get p).ret r.val).msgs = m :: rest →
      m.canLock = none →
      ∃ t, exec (.rspDiscardHead p r) s = .next t ∧ ((t.ports.get p).ret r.val).msgs = rest ∧ ((t.ports.get p).ret r.val).popped = 0 ∧
        t.can = s.can) ∧
    (∀ r : Fin 2, portUp s p = true →
      ∃ t, exec (.rspDiscardAll p r) s = .next t ∧ ((t.ports.get p).ret r.val).msgs = [] ∧ ((t.ports.get p).ret r.val).popped = 0 ∧
        ((t.ports.get p).ret r.val).held = ((s.ports.get p).ret r.val).held) ∧
    (∀ (r : Fin 2) (h : Held) (rest : List Held), ((s.ports.get p).ret r.val).held = h :: rest →
      (s.ports.get p).mayPlace r.val h = true →
      ∃ t, exec (.heldMessagePlace p r) s = .next t ∧ ((t.ports.get p).ret r.val).held = rest ∧
        ((t.ports.get p).ret r.val).msgs = ((s.ports.get p).ret r.val).msgs ++ [h.msg] ∧
        (t.ports.get p).reserved = (s.ports.get p).reserved - h.frees) ∧
    ((s.ports.get p).lostSince ≠ 0 → retUsed (s.ports.get p).ntf + 4 ≤ retCap 1 →
      ∃ t m, exec (.ntfLostPlace p) s = .next t ∧ (t.ports.get p).lostSince = 0 ∧
        (t.ports.get p).ntf.msgs = (s.ports.get p).ntf.msgs ++ [m] ∧ wAt m.words 3 = wd (s.ports.get p).lostSince) ∧
    (portUp s p = true → (s.ports.get p).accepted = [] →
      ∃ t, exec (.portFlush p) s = .next t ∧ (∀ k : Fin 4, ((t.ports.get p).req k.val).staged = [] ∧
          ((t.ports.get p).req k.val).msgs = [] ∧ ((t.ports.get p).req k.val).poisoned = false) ∧
        (t.ports.get p).rsp.msgs = [] ∧ (t.ports.get p).ntf.msgs = [] ∧ (t.ports.get p).frameErrs = 0 ∧ (t.ports.get p).openSet = none ∧
        t.wd = s.wd)

/-- A response or completion is placed at once where its queue has room and nothing waits before it, and frees its reservation; otherwise it
is held, last in line, its reservation kept, and the other return queue is untouched. A completion may not be placed while its request's
ACCEPTED response is held. A port whose queues fit keeps them so when a response is produced or a notification arises (after R143 to R145).
-/
def Obligations.ResponsesArePlacedOrHeldInOrder : Prop :=
  ∀ (q : PortSt) (r : Fin 2) (h : Held),
    ((q.ret r.val).held = [] → q.mayPlace r.val h = true →
      ((q.produce r.val h).ret r.val).msgs = (q.ret r.val).msgs ++ [h.msg] ∧ ((q.produce r.val h).ret r.val).held = [] ∧
      (q.produce r.val h).reserved = q.reserved - h.frees) ∧
    ((q.ret r.val).held ≠ [] ∨ q.mayPlace r.val h = false →
      ((q.produce r.val h).ret r.val).msgs = (q.ret r.val).msgs ∧
      ((q.produce r.val h).ret r.val).held = (q.ret r.val).held ++ [h] ∧ (q.produce r.val h).reserved = q.reserved) ∧
    (∀ r' : Fin 2, r' ≠ r → (q.produce r.val h).ret r'.val = q.ret r'.val) ∧
    (q.mayPlace r.val h = true → retUsed (q.ret r.val) + h.msg.words.length ≤ retCap r.val) ∧
    (h.isRsp = false → (∃ x ∈ q.rsp.held, x.isRsp = true ∧ x.id = h.id) → q.mayPlace r.val h = false) ∧
    (QueuesFit q → QueuesFit (q.produce r.val h)) ∧
    (∀ code src cyc payload i, QueuesFit q → QueuesFit (q.notify code src cyc payload i))

/-- Writing 1 clears a bit of INT_STAT, but a level bit whose condition holds is set again by that write. INT_EN and CTRL take the bits they
define; a write to a register that is read-only leaves what it reads. Address bits 1 and 0 are ignored. Only H2 has halves: a low half is
only latched, a high half without one does nothing, and the pair writes the whole word; a read of a low half latches the high one, which the
next read of the same word gives. A serial transaction runs READ, WRITE, QREAD or QWRITE by its opcode, any other opcode and the quad ones
on H3 being ignored; each whole word takes effect, one cut short does not, and the address moves on by 4, wraps within the window, or stands
still at REQ_DATA and RSP_DATA; an address beyond the window writes nothing (after R20, R124 to R132, R149). That undefined bits of INT_EN
read 0, and that a transaction is one step, are the model's choices (assumptions 34 and 37). -/
def Obligations.WindowWritesActOnTheirRegister : Prop :=
  ∀ (s : State) (p : Fin 4), portUp s p = true →
    (∀ w, ∃ t, exec (.intStatClear p w) s = .next t ∧
      (t.ports.get p).intStat = ((s.ports.get p).intStat &&& ~~~w) ||| levelBits (s.ports.get p) ∧
      (∀ q, q ≠ p → t.ports.get q = s.ports.get q) ∧ OnlyChanges [.ports] s t) ∧
    (∀ w, ∃ t, exec (.registerWrite p 0x024 w (.write .word)) s = .next t ∧ (t.ports.get p).intEn = w &&& 0xF0F3#32 ∧
      (t.ports.get p).intStat = (s.ports.get p).intStat) ∧
    (∀ w, bit w 4 = false → ∃ t, exec (.registerWrite p 0x010 w (.write .word)) s = .next t ∧ (t.ports.get p).pause = bit w 8 ∧
      (t.ports.get p).irqOutEn = bit w 0 ∧ (t.ports.get p).intEn = (s.ports.get p).intEn) ∧
    (∀ w, ∃ t, exec (.registerWrite p 0x014 w (.write .word)) s = .next t ∧ regValue t p 0x014 = regValue s p 0x014 ∧
      OnlyChanges [.ports] s t) ∧
    (∀ off w lane, exec (.registerWrite p off w (.write lane)) s = exec (.registerWrite p (off / 4 * 4) w (.write lane)) s) ∧
    (∀ off w, p = 2 → ∃ t, exec (.registerWrite p off w (.write .low)) s = .next t ∧
      (t.ports.get p).writeLatch = some (wordOff off, w.toNat % 65536) ∧ (∀ o, regValue t p o = regValue s p o)) ∧
    (∀ off w, (s.ports.get p).writeLatch = none → exec (.registerWrite p off w (.write .high)) s = .next s) ∧
    (∀ lo w, p = 2 → (s.ports.get p).writeLatch = some (0x024, lo) →
      ∃ t, exec (.registerWrite p 0x024 w (.write .high)) s = .next t ∧
        (t.ports.get p).intEn = wd (w.toNat % 65536 * 65536 + lo) &&& 0xF0F3#32 ∧ (t.ports.get p).writeLatch = none) ∧
    (∀ off w, p ≠ 2 → exec (.registerWrite p off w (.write .low)) s = .next s ∧ exec (.registerWrite p off w (.write .high)) s = .next s ∧
      exec (.registerWrite p off 0 (.read .low)) s = .next s ∧ exec (.registerWrite p off 0 (.read .high)) s = .next s) ∧
    (∀ off, ∃ t, exec (.registerWrite p off 0 (.read .word)) s = .next t ∧ (t.ports.get p).readData = (readFull p (wordOff off) s).1 ∧
      (t.ports.get p).readLatch = none ∧ (t.ports.get p).writeLatch = none) ∧
    (∀ off, p = 2 → ∃ t, exec (.registerWrite p off 0 (.read .low)) s = .next t ∧
      (t.ports.get p).readData = wd ((readFull p (wordOff off) s).1.toNat % 65536) ∧
      (t.ports.get p).readLatch = some (wordOff off, (readFull p (wordOff off) s).1.toNat / 65536)) ∧
    (∀ off hi, p = 2 → (s.ports.get p).readLatch = some (wordOff off, hi) →
      ∃ t, exec (.registerWrite p off 0 (.read .high)) s = .next t ∧ (t.ports.get p).readData = wd hi ∧ (t.ports.get p).readLatch = none) ∧
    (∀ cs, p = 2 → exec (.registerWrite p 0 0 (.serial cs)) s = .next s) ∧
    (∀ cs : List (BitVec 4), p ≠ 2 → 8 ≤ cs.length → spiOp p (serialNat 1 (cs.take 8)) = none →
      exec (.registerWrite p 0 0 (.serial cs)) s = .next (onPort p (fun q => { q with shifted := none }) s)) ∧
    (∀ op, (spiOp p op = some .read ↔ op = 0x0B) ∧ (spiOp p op = some .write ↔ op = 0x02) ∧
      (spiOp p op = some .qread ↔ op = 0xEB ∧ p ≠ 3) ∧ (spiOp p op = some .qwrite ↔ op = 0x38 ∧ p ≠ 3)) ∧
    (∀ (op ad w0 w1 : List (BitVec 4)), p ≠ 2 → op.length = 8 → ad.length = 16 → w0.length = 32 → w1.length = 32 → serialNat 1 op = 0x02 →
      serialNat 1 ad < 0x1000 →
      exec (.registerWrite p 0 0 (.serial (op ++ ad ++ w0))) s =
        .next (onPort p (fun q => { q with shifted := some [] }) (writeReg p (wordOff (serialNat 1 ad)) (wd (serialNat 1 w0)) s)) ∧
      (∀ cut : List (BitVec 4), cut.length < 32 → exec (.registerWrite p 0 0 (.serial (op ++ ad ++ cut))) s =
        .next (onPort p (fun q => { q with shifted := some [] }) s)) ∧
      (∃ t u, t = writeReg p (wordOff (serialNat 1 ad)) (wd (serialNat 1 w0)) s ∧
        u = (if portUp t p then writeReg p (spiNext (wordOff (serialNat 1 ad)) (wordOff (serialNat 1 ad))) (wd (serialNat 1 w1)) t else t) ∧
        exec (.registerWrite p 0 0 (.serial (op ++ ad ++ (w0 ++ w1)))) s = .next (onPort p (fun q => { q with shifted := some [] }) u))) ∧
    (∀ (op ad dum w0 : List (BitVec 4)), p ≠ 2 → p ≠ 3 → op.length = 8 → ad.length = 4 → dum.length = 8 → w0.length = 8 →
      serialNat 1 op = 0xEB → serialNat 4 ad < 0x1000 →
      ∃ t, exec (.registerWrite p 0 0 (.serial (op ++ ad ++ dum ++ w0))) s = .next t ∧
        t = onPort p (fun q => { q with shifted := some (serialOut 4 (readFull p (wordOff (serialNat 4 ad)) s).1) })
          (readFull p (wordOff (serialNat 4 ad)) s).2) ∧
    (∀ (op ad w0 : List (BitVec 4)), p ≠ 2 → op.length = 8 → ad.length = 16 → serialNat 1 op = 0x02 → 0x1000 ≤ serialNat 1 ad →
      exec (.registerWrite p 0 0 (.serial (op ++ ad ++ w0))) s = .next (onPort p (fun q => { q with shifted := some [] }) s)) ∧
    (∀ start off, spiNext start off = (if start ∈ [0x100, 0x120, 0x140, 0x160, 0x184, 0x1A4] then off else (off + 4) % 0x1000))

/-- Each of the 26 setting commands, sent outside a set, that passes its checks and finds room in the timeline queue answers OK with no
detail and leaves its change in the queue as a rank 3 entry of its block for the next cycle boundary; nothing else changes (after R89,
R172). -/
def Obligations.SettingsWaitForTheBoundary : Prop :=
  ∀ (r : Req) (s : State),
    (Runs 0x0302 chkRadBandPlan r s → Room 0x04 s → exec .radBandPlan s = .next (ok r [] (stored 0x04 r s))) ∧
    (Runs 0x0303 chkRadFeConfig r s → Room (4 + fld (r.w 3) 31 31) s → exec .radFeConfig s = .next (ok r [] (stored (4 + fld (r.w 3) 31 31) r s))) ∧
    (Runs 0x0304 chkRadEngineConfig r s → Room 0x06 s → exec .radEngineConfig s = .next (ok r [] (stored 0x06 r s))) ∧
    (Runs 0x0402 chkMacBeaconConfig r s → Room 0x06 s → exec .macBeaconConfig s = .next (ok r [] (stored 0x06 r s))) ∧
    (Runs 0x0403 chkMacSleepyConfig r s → Room 0x06 s → exec .macSleepyConfig s = .next (ok r [] (stored 0x06 r s))) ∧
    (Runs 0x0606 chkTxnOrderMode r s → Room 0x08 s → exec .txnOrderMode s = .next (ok r [] (stored 0x08 r s))) ∧
    (Runs 0x0607 chkTxnRetryPolicy r s → Room 0x08 s → exec .txnRetryPolicy s = .next (ok r [] (stored 0x08 r s))) ∧
    (Runs 0x0701 chkSchGroupSet r s → Room 0x09 s → exec .schGroupSet s = .next (ok r [] (stored 0x09 r s))) ∧
    (Runs 0x0704 chkSchEntrySet r s → Room 0x09 s → exec .schEntrySet s = .next (ok r [] (stored 0x09 r s))) ∧
    (Runs 0x0705 chkSchEntryClear r s → Room 0x09 s → exec .schEntryClear s = .next (ok r [] (stored 0x09 r s))) ∧
    (Runs 0x0707 chkSchSite r s → Room 0x09 s → exec .schSite s = .next (ok r [] (stored 0x09 r s))) ∧
    (Runs 0x0708 chkSchTzRule r s → Room 0x09 s → exec .schTzRule s = .next (ok r [] (stored 0x09 r s))) ∧
    (Runs 0x0709 chkSchFallback r s → Room 0x09 s → exec .schFallback s = .next (ok r [] (stored 0x09 r s))) ∧
    (Runs 0x0802 chkChdCorridorClear r s → Room 0x0A s → exec .chdCorridorClear s = .next (ok r [] (stored 0x0A r s))) ∧
    (Runs 0x0804 chkChdConfig r s → Room 0x0A s → exec .chdConfig s = .next (ok r [] (stored 0x0A r s))) ∧
    (Runs 0x0901 chkMtrInputConfig r s → Room 0x0B s → exec .mtrInputConfig s = .next (ok r [] (stored 0x0B r s))) ∧
    (Runs 0x0902 chkMtrFeederConfig r s → Room 0x0B s → exec .mtrFeederConfig s = .next (ok r [] (stored 0x0B r s))) ∧
    (Runs 0x0905 chkMtrPulseConfig r s → Room 0x0B s → exec .mtrPulseConfig s = .next (ok r [] (stored 0x0B r s))) ∧
    (Runs 0x0A01 chkSgnStringConfig r s → Room 0x0C s → exec .sgnStringConfig s = .next (ok r [] (stored 0x0C r s))) ∧
    (Runs 0x0A02 chkSgnFunction r s → Room 0x0C s → exec .sgnFunction s = .next (ok r [] (stored 0x0C r s))) ∧
    (Runs 0x0A07 chkSgnDerate r s → Room 0x0C s → exec .sgnDerate s = .next (ok r [] (stored 0x0C r s))) ∧
    (Runs 0x1001 chkIoDinConfig r s → Room 0x0F s → exec .ioDinConfig s = .next (ok r [] (stored 0x0F r s))) ∧
    (Runs 0x1004 chkIoDoutConfig r s → Room 0x0F s → exec .ioDoutConfig s = .next (ok r [] (stored 0x0F r s))) ∧
    (Runs 0x0B01 chkCanConfig r s → Room (canBlock (canPortOf r)) s → exec .canConfig s = .next (ok r [] (stored (canBlock (canPortOf r)) r s))) ∧
    (Runs 0x0B02 chkCanBufferConfig r s → Room (canBlock (canPortOf r)) s → exec .canBufferConfig s = .next (ok r [] (stored (canBlock (canPortOf r)) r s))) ∧
    (Runs 0x0C05 chkLogSeverity r s → Room 0x10 s → exec .logSeverity s = .next (ok r [] (stored 0x10 r s)))

/-- SYS.NOP, IDENT, CAPS (for each variant), STATUS, SETTINGS and the read of SYS.POWER answer OK with the words their tables give, and
change nothing but that the request is gone; the CRC of a settings set and the input power are values the spec does not fix, so they are
free and a counter of free values advances. -/
def Obligations.SystemReadsAnswer : Prop :=
  ∀ (r : Req) (s : State),
    (Runs 0x0100 (sysChecks 0x0100 0) r s → exec .sysNop s = .next (ok r [] (took r s))) ∧
    (Runs 0x0101 (sysChecks 0x0101 0) r s →
      exec .sysIdent s = .next (ok r [wd (s.dev.eui / 2 ^ 32), wd s.dev.eui, winVer s, wAt s.upd.active 2,
        packW [(s.pwr.cause, 24), (s.upd.bank, 16), (s.pwr.straps.toNat, 8), (s.tt.reserve.epoch, 0)],
        wd (sat 32 (cycOf s - s.pwr.bootEndCyc))] (took r s))) ∧
    (Runs 0x0102 (sysChecks 0x0102 0) r s → s.dev.variant = .a →
      exec .sysCaps s = .next (ok r [caps0 s, caps1 s, 0xFFFFFFFF#32, 0xFFFFFFFF#32,
        packW [(0x7F, 16), (0xF, 8), (7, 4), (0xF, 0)], packW [(2047, 16), (8, 8)], packW [(0x41, 24), (2, 16), (1792, 0)]] (took r s))) ∧
    (Runs 0x0102 (sysChecks 0x0102 0) r s → s.dev.variant = .b →
      exec .sysCaps s = .next (ok r [caps0 s, caps1 s, 0xFFFFFFFF#32, 0,
        packW [(7, 4), (0xF, 0)], packW [(2047, 16), (8, 8)], packW [(0x42, 24), (2, 16), (1792, 0)]] (took r s))) ∧
    (Runs 0x0102 (sysChecks 0x0102 0) r s → s.dev.variant = .c →
      exec .sysCaps s = .next (ok r [caps0 s, caps1 s, 0xFFFFFFFF#32, 0xFFFFFFFF#32,
        packW [(0x7F, 16), (0xF, 8), (7, 4), (0xF, 0)], packW [(2047, 16), (8, 8)], packW [(0x43, 24), (2, 16), (1792, 0)]] (took r s))) ∧
    (Runs 0x0103 (sysChecks 0x0103 0) r s →
      exec .sysStatus s = .next (ok r [packW ([(modeCode s.pwr.mode, 24), (b2n (holdFlag s), 23), (b2n (slewFlag s), 22),
            (b2n s.pwr.autonomous, 21), (b2n s.pwr.flush.pfw, 20), (b2n s.pwr.bootHalt, 19)] ++
          ([3, 2, 1, 0] : List (Fin 4)).map fun p => (if portPresent s p then
            1 + 2 * b2n (!portSecure s p) + 4 * b2n (lightOwner s p) + 8 * b2n (s.wd.get p).expired else 0, 4 * p.val)), wd (wdLeft s 0), wd (wdLeft s 1), wd (wdLeft s 2), wd (wdLeft s 3),
          packW [(setStateOf (s.ports.get 0), 0), (setStateOf (s.ports.get 1), 8), (setStateOf (s.ports.get 2), 16),
            (setStateOf (s.ports.get 3), 24)]] (took r s))) ∧
    (Runs 0x010C (sysChecks 0x010C 0) r s →
      ∃ n t, exec .sysSettings s = .next (ok r (wd (listedSets s r.port).length :: ((listedSets s r.port).map fun i =>
          [packW [(i, 24), (setStored s i, 16), (schemaOf s.upd.active i, 0)], Config.settingsCrc i n]).flatten) t) ∧
        t = { took r s with clk := { s.clk with free := s.clk.free + 1 } }) ∧
    (Runs 0x0108 chkSysPower r s → bit (r.w 3) 31 = false →
      ∃ n t, exec .sysPower s = .next (ok r [packW [(pfwThreshold s, 16), (s.pwr.vPfwEff, 0)], packW [(n % 65536, 16), (sat 16 s.pwr.vin, 0)],
          packW [(b2n s.pwr.flush.pfw, 1), (b2n (s.pwr.straps.getLsbD 6), 0)]] t) ∧
        t = { took r s with clk := { s.clk with free := s.clk.free + 1 } })

/-- SYS.RESET sets the reset to follow after 10 ms and answers; SYS.SHELF arms the latch; SYS.WATCHDOG answers the timeout and sets a new
one; SYS.MODE commissions the module or returns it to COMMISSION, there stopping the watchdogs; SYS.POWER stores the threshold and sets
V_PFW_EFF to it, held between 7.5 V and 0.5 V below VIN as its pin stands when it executes (assumption 3) (after R45, R55, R62 to R64, R68).
Keys, Lattice and schedules stay as they were. -/
def Obligations.SystemCommandsAct : Prop :=
  ∀ (r : Req) (s : State),
    (Runs 0x0104 chkSysReset r s →
      exec .sysReset s = .next (ok r [] { took r s with pwr := { s.pwr with resetAt := some (s.clk.ticks + 400000) } })) ∧
    (Runs 0x0105 chkSysShelf r s →
      exec .sysShelf s = .next (ok r [] { took r s with pwr := { s.pwr with shelfArmed := true } })) ∧
    (Runs 0x0106 chkSysWatchdog r s → fld (r.w 3) 16 0 = 0 →
      exec .sysWatchdog s = .next (ok r [wd (s.wd.get (wdPort r)).timeout] (took r s))) ∧
    (Runs 0x0106 chkSysWatchdog r s → fld (r.w 3) 16 0 ≠ 0 →
      ∃ t, exec .sysWatchdog s = .next (ok r [wd (s.wd.get (wdPort r)).timeout] t) ∧
        (t.wd.get (wdPort r)).timeout = fld (r.w 3) 16 0 ∧ t.tt = s.tt ∧ t.key = s.key ∧ t.lat = s.lat) ∧
    (Runs 0x0107 chkSysMode r s → fld (r.w 3) 2 0 = 4 →
      ∃ t, exec .sysMode s = .next (ok r [] t) ∧ t.pwr.commissioned = true ∧ t.key = s.key ∧ t.lat = s.lat ∧ t.sch = s.sch) ∧
    (Runs 0x0107 chkSysMode r s → fld (r.w 3) 2 0 ≠ 4 → (∀ p : Fin 4, (s.ports.get p).openSet = none ∧ (s.ports.get p).accepted = []) →
      ∃ t, exec .sysMode s = .next (ok r [] t) ∧ t.pwr.commissioned = false ∧
        (served s = true → s.upd.windowOpen = false → t.pwr.mode = .commission ∧ ∀ p : Fin 4, (t.wd.get p).running = false) ∧
        t.key = s.key ∧ t.lat = s.lat ∧ t.sch = s.sch) ∧
    (Runs 0x0108 chkSysPower r s → bit (r.w 3) 31 = true →
      ∃ t ws, exec .sysPower s = .next (ok r ws t) ∧ t.pwr.pfwStored = some (fld (r.w 3) 9 0) ∧ t.pwr.vin = s.pwr.vin ∧
        t.pwr.vPfwEff = Nat.max 75 (Nat.min (fld (r.w 3) 9 0) ((s.pwr.vin - 50) / 10)) ∧ ws.length = 3)

/-- SYS.CFG_BEGIN opens a set; a commit whose checks pass accepts it, to be applied at its target cycle, and one whose checks fail discards
it with the failing status; an abort discards an open or an accepted set; 600 s without staging discard an open one. When the entry of an
accepted set is due, either every command takes effect and the completion says OK with the number applied and the cycle, or none does. A
settings reset is queued for the next boundary and puts the set to its defaults (after R169 to R174). -/
def Obligations.SetsApplyWholeOrNotAtAll : Prop :=
  ∀ s : State,
    (∀ r : Req, Runs 0x0109 chkSysCfgBegin r s →
      exec .sysCfgBegin s = .next (ok r [] (onPort r.port (fun q => { q with
        openSet := some ⟨(r.w 3).toNat, fld (r.w 4) 15 0, [], none, 0, s.clk.ticks⟩ }) (took r s)))) ∧
    (∀ (r : Req) (o : CfgSet), Runs 0x010A chkSysCfgCommit r s → (s.ports.get r.port).openSet = some o → setCheck r o = none → Room 3 s →
      ∃ t, exec .sysCfgCommit s = .next (accept r t) ∧ (t.ports.get r.port).openSet = none ∧
        (t.ports.get r.port).accepted = (s.ports.get r.port).accepted ++ [⟨o.id, o.staged, r.origin true⟩] ∧
        (t.ports.get r.port).lastSet = some o.id ∧
        t.tl.entries = s.tl.entries ++ [⟨targetCyc r s * 4096, 3, s.tl.nextSeq, 3, false, .cfgSet r.port r.id, true⟩]) ∧
    (∀ (r : Req) (o : CfgSet) (f : Fail), Runs 0x010A chkSysCfgCommit r s → (s.ports.get r.port).openSet = some o →
      setCheck r o = some f →
      ∃ t, exec .sysCfgCommit s = .next (failReq r f t) ∧ (t.ports.get r.port).openSet = none ∧
        (t.ports.get r.port).accepted = (s.ports.get r.port).accepted ∧ t.tl = s.tl) ∧
    (∀ (r : Req) (o : CfgSet), Runs 0x010B chkSysCfgAbort r s → (s.ports.get r.port).openSet = some o → o.id = (r.w 3).toNat →
      exec .sysCfgAbort s = .next (ok r [] (logNs evCfgDiscarded r.port.val [r.port.val, o.id, 0]
        (onPort r.port (fun q => { q with openSet := none }) (took r s))))) ∧
    (∀ (r : Req) (a : Accepted), Runs 0x010B chkSysCfgAbort r s → (s.ports.get r.port).openSet = none →
      ((s.ports.get r.port).accepted.find? fun x => x.id == (r.w 3).toNat) = some a →
      exec .sysCfgAbort s = .next (ok r [] (dropAccepted r.port 0 a (took r s)))) ∧
    (∀ (p : Fin 4) (o : CfgSet), (s.ports.get p).openSet = some o → o.since + 600 * 40000000 ≤ s.clk.ticks →
      exec (.cfgSetTimeout p) s = .next (logNs evCfgDiscarded p.val [p.val, o.id, 4]
        (onPort p (fun q => { q with openSet := none }) s))) ∧
    (∀ (media : Bool) (e : TlEntry) (p : Fin 4) (a : Accepted) (t : State), Due e s → e.kind = .cfgSet p a.origin.id →
      ((s.ports.get p).accepted.find? fun x => x.origin.id == a.origin.id) = some a → runSet media a.staged 1 (tlRemove e.seq s) = .ok t →
      exec (.cfgSetApply media) s = .next (complete a.origin stOk
        [packW [(a.staged.length, 16), (0xFFFF, 0)], wd (cycOf s), 0]
        (logNs evCfgCommit p.val [p.val, a.id, stOk, a.staged.length]
          (onPort p (fun q => { q with accepted := q.accepted.filter fun x => x.origin.id != a.origin.id }) t)))) ∧
    (∀ (media : Bool) (e : TlEntry) (p : Fin 4) (a : Accepted) (k : Nat) (f : Fail), Due e s → e.kind = .cfgSet p a.origin.id →
      ((s.ports.get p).accepted.find? fun x => x.origin.id == a.origin.id) = some a →
      runSet media a.staged 1 (tlRemove e.seq s) = .error (k, f) →
      ∃ t, exec (.cfgSetApply media) s = .next t ∧ OnlyChanges [.tl, .ports, .cmd, .log] s t) ∧
    (∀ (r : Req), Runs 0x010D chkSysSettingsReset r s → fld (r.w 3) 7 0 ≤ 0x10 → Room (fld (r.w 3) 7 0) s →
      ∃ t, exec .sysSettingsReset s = .next (ok r [] t) ∧ t.tl.entries = s.tl.entries ++
        [⟨nextBoundary s, 3, s.tl.nextSeq, fld (r.w 3) 7 0, false, .settingsReset (fld (r.w 3) 7 0), true⟩]) ∧
    (∀ (e : TlEntry) (id : Nat), Due e s → e.kind = .settingsReset id →
      exec .configEntryApply s = .next (logEv evSettingsReset 0xFF
        [wd id, wd (schemaOf s.upd.active id), wd (schemaOf s.upd.active id), wd 1]
        (markSet id 3 (liveSet id initSettings (tlRemove e.seq s)))))

/-- A retune waits for the last carrier. Ten good carriers in a row without a bad one in 60 s lift the VSWR foldback. The PA temperature
sets the thermal foldback and, from 125 to 115 degrees with hysteresis, the stop. A fault stops the carriers with outcome 4, ends
admissions, and is retried after 1 s. Predistortion is applied without carriers, waits for them otherwise, and stops admissions after 10 s.
Receive calibration is published as a new set, which an engine adopts when it is not receiving. A gain step waits for a frame that only this
front end receives, and is forced when clipping or after 50 ms; a branch whose gain changed in a frame takes no further part in it (after
R183, R185, R206, R207, R209 to R211, R215). -/
def Obligations.FrontEndsFollowTheirRules : Prop :=
  ∀ (s : State) (fe : Fin 2),
    (∀ us, (feOf s fe.val).carriers = [] →
      (feOf s fe.val).centre ≠ (feCfg s fe.val).centre ∨ (feOf s fe.val).role ≠ (feCfg s fe.val).role →
      exec (.feRetune fe us) s = .next (purgeDisabled s (logUncovered s 0 (dropInvalid (updFe fe.val (fun f => { f with
        centre := (feCfg s fe.val).centre, role := (feCfg s fe.val).role, retuneUntil := s.clk.ticks + min us 200 * 40 }) s))))) ∧
    (∀ us, (feOf s fe.val).carriers ≠ [] → exec (.feRetune fe us) s = .next s) ∧
    ((feOf s fe.val).fbV ≠ 0 → 2400000000 ≤ s.clk.ticks → (feOf s fe.val).vswrBad ≤ s.clk.ticks - 2400000000 →
      10 ≤ (feOf s fe.val).vswrLow.length → (∀ t ∈ (feOf s fe.val).vswrLow, 0 < t ∧ s.clk.ticks - 2400000000 ≤ t) →
      ∃ t, exec (.vswrRecovery fe) s = .next t ∧ (feOf t fe.val).fbV = 0 ∧ OnlyChanges [.rad, .log] s t) ∧
    (∀ x : Int, ∃ t, exec (.paTemperatureChange fe x) s = .next t ∧ (feOf t fe.val).paTemp = x ∧
      (feOf t fe.val).fbT = (if x ≤ 105 then 0 else ((x - 104) / 2).toNat) ∧
      (feOf t fe.val).thermStop = (if 125 ≤ x then true else if x < 115 then false else (feOf s fe.val).thermStop)) ∧
    (∀ pa, (feOf s fe.val).fault = false →
      exec (.evFeFault fe pa) s = .next (logNs (evFeFault + 256 * fe.val) 0xFF [b2n pa] (purgeDisabled s (dropInvalid
        (stopAll fe.val 4 (updFe fe.val (fun f => { f with fault := true, faultTick := s.clk.ticks }) s)))))) ∧
    (∀ ok, (feOf s fe.val).fault = true → (feOf s fe.val).faultTick + 40000000 ≤ s.clk.ticks →
      ∃ t, exec (.feRelockRetry fe ok) s = .next t ∧ (feOf t fe.val).fault = !ok ∧ OnlyChanges [.rad] s t) ∧
    ((feOf s fe.val).fault = true → ∀ p, admits s fe.val p = false) ∧
    (∀ st, (feOf s fe.val).carriers = [] →
      ∃ t, exec (.dpdApply fe st) s = .next t ∧ (feOf t fe.val).dpdPend = none ∧ (feOf t fe.val).dpdStop = false ∧
        (feOf t fe.val).dpdCyc = cycOf s ∧ (feOf t fe.val).dpdState = st.val) ∧
    (∀ st, (feOf s fe.val).carriers ≠ [] → (feOf s fe.val).dpdPend = none →
      ∃ t, exec (.dpdApply fe st) s = .next t ∧ (feOf t fe.val).dpdPend = some s.clk.ticks ∧
        (feOf t fe.val).dpdCyc = (feOf s fe.val).dpdCyc) ∧
    (∀ t0, (feOf s fe.val).dpdPend = some t0 → t0 + 400000000 ≤ s.clk.ticks →
      ∃ t, exec (.dpdTimeout fe) s = .next t ∧ ∀ p, admits t fe.val p = false) ∧
    (∀ a ph di dq, (∀ e ∈ s.rad.ces, e.st = .receive) →
      ∃ t, exec (.rxCalPublish fe a ph di dq) s = .next t ∧ (feOf t fe.val).rxSets = (feOf s fe.val).rxSets + 1 ∧
        (feOf t fe.val).iqAmp = a ∧ (feOf t fe.val).iqPhase = ph ∧ (feOf t fe.val).dcI = di ∧ (feOf t fe.val).dcQ = dq ∧
        t.rad.ces.map (fun e => (e.rxSet0, e.rxSet1)) = s.rad.ces.map fun e => (e.rxSet0, e.rxSet1)) ∧
    (∀ n, n < s.rad.ces.length → (ceOf s n).st ≠ .receive →
      ∃ t, exec (.rxCalAdopt n) s = .next t ∧ (ceOf t n).rxSet0 = s.rad.fe0.rxSets ∧ (ceOf t n).rxSet1 = s.rad.fe1.rxSets) ∧
    (∀ (step : Fin 16) h, (feCfg s fe.val).gainMode = false → (feOf s fe.val).gainStep ≠ step.val → soleRx s fe.val ≠ [] →
      ∃ t, exec (.gainStepChange fe step h) s = .next t ∧ (feOf t fe.val).gainStep = (feOf s fe.val).gainStep ∧
        (feOf t fe.val).gainPend.map Prod.fst = some step.val ∧ (feOf t fe.val).headroom = h) ∧
    (∀ (step : Fin 16) h, (feCfg s fe.val).gainMode = false → (feOf s fe.val).gainStep ≠ step.val → (∀ e ∈ s.rad.ces, e.rx = none) →
      ∃ t, exec (.gainStepChange fe step h) s = .next t ∧ (feOf t fe.val).gainStep = step.val ∧ (feOf t fe.val).gainPend = none) ∧
    (∀ step t0 clip, (feOf s fe.val).gainPend = some (step, t0) → (feCfg s fe.val).gainMode = false →
      clip = true ∨ t0 + 2000000 ≤ s.clk.ticks → (∀ e ∈ s.rad.ces, e.rx = none) →
      ∃ t, exec (.evFeGainForced fe clip) s = .next t ∧ (feOf t fe.val).gainStep = step ∧ (feOf t fe.val).gainPend = none ∧
        (feOf t fe.val).forced = sat 16 ((feOf s fe.val).forced + 1)) ∧
    -- a branch whose gain changed in a frame is out of it for the rest of the frame (R183, R210)
    (∀ (n : Nat) (r : Reception), n < s.rad.ces.length → (ceOf s n).rx = some r →
      branch (markGain fe.val n s) n fe.val = false ∧ exec (.shrDetect n fe) (markGain fe.val n s) = .next (markGain fe.val n s))

/-- The frame at the head of a front end's order starts as a carrier where power, protection and the channel allow it without listening,
formed for that start, and waits where they do not. Admissions on a front end that has closed are taken back. Where it listens, a level
below the threshold starts it, one at or above it is a busy attempt, and time in which it hears on no branch lengthens the attempt. A
carrier ends at its end and not before, and the frame leaves with outcome 0. A frame whose deadline has come leaves with the reason that
held it. Reception, Enhanced ACKs, missing ACKs of transactions and the duty bins follow their rules. At the end of its PHR a frame stands
whole on the air, a beacon with the cycle, phase, lock state and epoch of that instant, and a received one is stamped (after R14, R190 to
R193, R199, R200, R202 to R205, R223, R228). FE0's admission is stated; the times on the air are computed. That an ACK is skipped while the
engine receives, or without a branch, is the model's choice (assumption 49). -/
def Obligations.FramesAreAdmittedListenedForAndSent : Prop :=
  ∀ s : State,
    -- the head of FE0's order, and the train as it is scheduled at the admission (R242)
    (∀ n f u, u = enterAll (revokeAdm s) → headOf u 0 = some (n, f) → admits u 0 (framePower u 0 n f) = true →
      protects u 0 f = false → needsLbt (schedTrain n f u).2 n (schedTrain n f u).1 = false →
      ∃ t, exec (.carrierAdmit 0) s = .next t ∧
        (feOf t 0).carriers = (feOf s 0).carriers ++ [⟨n, f.src, false, framePower u 0 n f, frameFreq u n f,
          s.clk.ticks + 800, s.clk.ticks + 800 + frameTicks u n (schedTrain n f u).1⟩] ∧
        (n < s.mac.engs.length → ∃ x, (mdOf t n).air = some x ∧ x.start = s.clk.ticks + 800)) ∧
    (∀ n f u, u = enterAll (revokeAdm s) → headOf u 0 = some (n, f) →
      admits u 0 (framePower u 0 n f) = false ∨ protects u 0 f = true → exec (.carrierAdmit 0) s = .next u) ∧
    -- an admission on a front end that has closed since is taken back (R185, R207, R213)
    (∀ n a, (ceOf s n).adm = some a → (ceOf s n).st = .access → feClosed s a.fe = true → (ceOf (revokeAdm s) n).adm = none) ∧
    (∀ (n : Nat) (br : Fin 2) (peak : Int) (a : Admission) (b : SubBand), (ceOf s n).adm = some a → (ceOf s n).st = .access →
      a.due ≤ s.clk.ticks → (∀ e ∈ s.rad.ces, ∀ x, e.adm = some x → feClosed s x.fe = false) →
      branchAt s br.val (frameFreq s n a.frame) (phyWidth (ceCfg s n).phy) = true →
      subOf (planOf s) (frameFreq s n a.frame) (phyWidth (ceCfg s n).phy) = some b →
      peak - (feCfg s br.val).gain + (feCfg s br.val).loss < -10 * b.thr → protects s a.fe a.frame = false →
      feSends s a.fe (frameFreq s n a.frame) (phyWidth (ceCfg s n).phy) = true → txd s n = 0 →
      exec (.lbtAttempt n br peak) s = .next (startFrame n a s)) ∧
    (∀ (n : Nat) (br : Fin 2) (peak : Int) (a : Admission) (b : SubBand), n < s.rad.ces.length → (ceOf s n).adm = some a →
      (ceOf s n).st = .access → a.due ≤ s.clk.ticks → (∀ e ∈ s.rad.ces, ∀ x, e.adm = some x → feClosed s x.fe = false) →
      branchAt s br.val (frameFreq s n a.frame) (phyWidth (ceCfg s n).phy) = true →
      subOf (planOf s) (frameFreq s n a.frame) (phyWidth (ceCfg s n).phy) = some b →
      -10 * b.thr ≤ peak - (feCfg s br.val).gain + (feCfg s br.val).loss → a.frame.busy + 1 < (ceCfg s n).tries →
      ∃ t, exec (.lbtAttempt n br peak) s = .next t ∧ (ceOf t n).st = .access ∧
        (ceOf t n).adm.map (fun x => x.frame.busy) = some (a.frame.busy + 1) ∧ t.rad.fe0 = s.rad.fe0 ∧ t.rad.fe1 = s.rad.fe1) ∧
    (∀ (n k : Nat) (m : TxMeas) (c : Carrier) (a : Admission), carrierOf s n = some (k, c) → c.src ≠ .test → c.stop ≤ s.clk.ticks →
      c.ack = false → (ceOf s n).adm = some a →
      exec (.transmitEnd n m) s = .next (frameLeft n a.frame 0 (afterCarrier n
        (measureCarrier k (c.stop - c.start) m (stopCarrier n k c s))))) ∧
    (∀ (n k : Nat) (m : TxMeas) (c : Carrier), carrierOf s n = some (k, c) → s.clk.ticks < c.stop → exec (.transmitEnd n m) s = .next s) ∧
    (∀ (n : Nat) (f : Frame), (ceOf s n).adm = none → (ceOf s n).st = .rest →
      (ceOf s n).tx.find? (fun x => decide (x.deadline ≤ s.tt.tt)) = some f →
      ∃ u, exec (.frameDeadline n) s = .next (enterAccess n (frameLeft n f
          (if txd s n ≠ 0 then 4 else if dutyHeld s n f.cls (frameTicks s n f) then 3 else 2) u)) ∧
        (ceOf u n).tx = (ceOf s n).tx ∧ OnlyChanges [.rad] s u) ∧
    (∀ (n : Nat) (br : Fin 2), n < s.rad.ces.length → branch s n br.val = true → (ceOf s n).st = .rest → (ceOf s n).adm = none →
      ∃ t, exec (.shrDetect n br) s = .next t ∧ (ceOf t n).st = .receive ∧ (ceOf t n).rx.isSome = true ∧ (ceOf t n).tx = (ceOf s n).tx) ∧
    (∀ (n : Nat) (br : Fin 2), branch s n br.val = false → exec (.shrDetect n br) s = .next s) ∧
    (∀ (n k : Nat) (p : Int) (a : AckDue), (mdOf s n).ack = some a → a.at_ ≤ s.clk.ticks + 800 → s.clk.ticks + 800 ≤ a.at_ + 400 →
      txd s n = 0 → dutyHeld s n 0 0 = false → ackBlocked s n = false → a.keyIdx.isSome = true ∨ outReady s a.ep = true →
      (sendFes s n).findSome? (fun k => (ackPower s k n).map fun p => (k, p)) = some (k, p) →
      exec (.enhancedAck n) s = .next (launch n k .ack true p (ceCfg s n).freq
        (airTicks (ceCfg s n) (ceCfg s n).preamble (ackOctets a)) (formAck n a (s.clk.ticks + 800)
          (airTicks (ceCfg s n) (ceCfg s n).preamble (ackOctets a)) (updCe n (fun e => { e with adm := none }) s)))) ∧
    (∀ (n : Nat) (a : AckDue), (mdOf s n).ack = some a → a.at_ ≤ s.clk.ticks + 800 → ackBlocked s n = true →
      ∃ k, exec (.enhancedAck n) s = .next (restageTrain n a.ep (updFe k (fun f => { f with ackSkipped := sat 16 (f.ackSkipped + 1) })
        (updMd n (fun m => { m with ack := none }) s)))) ∧
    (∀ (n : Nat) (w : AckWait) (id : Nat), (mdOf s n).wait = some w → w.since + 50000 ≤ s.clk.ticks → w.frame.cls = 2 →
      w.frame.src = .txn id →
      exec (.ackTimeout n) s = .next (failTxn id (updMd n (fun m => { m with wait := none }) s))) ∧
    (s.rad.dutySec < s.clk.ticks / 40000000 →
      ∃ t, exec .dutyBinAdvance s = .next t ∧ t.rad.dutySec = s.rad.dutySec + 1 ∧
        (∀ e ∈ t.rad.ces, ∀ b ∈ e.duty, s.rad.dutySec + 1 < b.1 + 3600) ∧ t.rad.fillLeft = s.rad.fillLeft - 1 ∧ OnlyChanges [.rad] s t) ∧
    -- while an engine hears on no branch its attempt lasts longer (R199)
    (∀ (n : Nat) (a : Admission), n < s.rad.ces.length → (ceOf s n).adm = some a → (ceOf s n).st = .access → a.listen ≤ s.clk.ticks →
      hears s n a.frame = false → (ceOf (listenTick s) n).adm = some { a with due := a.due + 1 }) ∧
    -- at the end of its PHR a frame is stamped and stands whole on the air; a beacon's cycle, phase and state are those of that instant
    -- (R14, R191, R228)
    (∀ (n : Nat) (x : AirTx), n < s.mac.engs.length → n < 64 → (ceOf s n).st = .transmit → (mdOf s n).air = some x → x.phr = s.clk.ticks →
      (mdOf (stampAir s) n).sent = psduOf s n x) ∧
    (∀ (n : Nat) (r : Reception), n < s.rad.ces.length → (ceOf s n).rx = some r → r.phr = s.clk.ticks →
      (ceOf (phrTick s) n).rx = some { r with phrTt := some s.tt.tt, full := decide (258 ≤ (ceOf s n).ring.length) }) ∧
    (∀ (n : Nat) (g b : Bool), ((tetherIe s n g b).drop 6).take 7 = octLe 4 (cycOf s) ++ oct16 (ttPh s.tt.tt + 4096 * lockCode s.tt.state) ++
      [s.tt.reserve.epoch % 256])

/-- RAD.STATUS and RAD.CAL_STATUS answer their words; RAD.CAL_SWEEP, where the maintenance matrix admits it, withdraws the front end, stops
its carriers with outcome 5 and starts the sweep; RAD.TX_TEST starts a carrier of its duration or asks a running one to stop. A sweep that
measured well completes after 4 s or 20 s with its words, a test at its end with its own (after R192, R196, R209 to R213). -/
def Obligations.RadCommandsAct : Prop :=
  ∀ (r : Req) (s : State),
    (Runs 0x0301 chkRadStatus r s → fld (r.w 3) 1 0 = 0 →
      exec .radStatus s = .next (ok r (packW [(planCode (planOf s), 24), ((planOf s).elim 0 fun b => b.subs.length, 16), (0, 8)] ::
        (feStatus s 0 ++ feStatus s 1 ++ ((List.range 64).map (ceStatus s)).flatten)) (took r s))) ∧
    (Runs 0x0301 chkRadStatus r s → fld (r.w 3) 1 0 = 3 → planOf s = none →
      exec .radStatus s = .next (ok r [packW [(0xFF, 24), (0, 16), (3, 8)], 0] (took r s))) ∧
    (∀ b, Runs 0x0301 chkRadStatus r s → fld (r.w 3) 1 0 = 3 → planOf s = some b →
      exec .radStatus s = .next (ok r (packW [(b.id, 24), (b.subs.length, 16), (3, 8)] :: packW [(b.tListen, 16), (b.backoffMax, 0)] ::
        (b.subs.map subWords).flatten) (took r s))) ∧
    (Runs 0x0301 chkRadStatus r s → fld (r.w 3) 1 0 = 1 ∨ fld (r.w 3) 1 0 = 2 →
      ∃ ws, exec .radStatus s = .next (ok r ws (took r s)) ∧ ws.length = 101) ∧
    (Runs 0x0305 chkRadCalStatus r s →
      exec .radCalStatus s = .next (ok r (packW [(s.rad.fe0.rxSets + s.rad.fe1.rxSets, 16), (s.rad.fe0.dpdSets + s.rad.fe1.dpdSets, 0)] ::
        (calWords s 0 ++ calWords s 1)) (took r s))) ∧
    (∀ u, Runs 0x0306 chkRadCalSweep r s → admitAct 6 (fld (r.w 3) 0 0) (took r s) = .ok u →
      ∃ v, exec .radCalSweep s = .next (settleMode u 0 (purgeDisabled u (dropInvalid (stopAll (fld (r.w 3) 0 0) 5 v)))) ∧
        (feOf v (fld (r.w 3) 0 0)).sweep = some ⟨bit (r.w 3) 1, u.clk.ticks, r.origin⟩ ∧ withdrawn v (4 + fld (r.w 3) 0 0) = true) ∧
    (Runs 0x0307 chkRadTxTest r s → fld (r.w 5) 23 0 = 0 →
      exec .radTxTest s = .next (okN r [] (updCe (fld (r.w 3) 31 26)
        (fun e => { e with test := e.test.map fun t => { t with stopReq := true } }) (took r s)))) ∧
    (∀ b, Runs 0x0307 chkRadTxTest r s → fld (r.w 5) 23 0 ≠ 0 → fld (r.w 3) 31 26 < s.rad.ces.length →
      subOf (planOf s) (r.w 4).toNat (phyWidth (testPhy r)) = some b →
      ∃ t c, exec .radTxTest s = .next t ∧ (feOf t (fld (r.w 3) 25 25)).carriers = (feOf s (fld (r.w 3) 25 25)).carriers ++ [c] ∧
        c.ce = fld (r.w 3) 31 26 ∧ c.src = .test ∧ c.freq = (r.w 4).toNat ∧ c.start = s.clk.ticks + 800 ∧
        c.stop = s.clk.ticks + 800 + fld (r.w 5) 23 0 * 40000) ∧
    (∀ (fe : Fin 2) (m : SweepMeas) (w : Sweep), (feOf s fe.val).sweep = some w →
      w.start + (if w.full then 800000000 else 160000000) ≤ s.clk.ticks → m.result = 0 →
      ∃ u, exec (.calSweepEnd fe m) s = .next (complete w.org stOk
          (sweepWords fe.val w.full 0 ((s.clk.ticks - w.start) / 40000) s.rtc.sec m) u) ∧ u.key = s.key ∧ u.lat = s.lat) ∧
    (∀ (fe : Fin 2) (m : SweepMeas), (feOf s fe.val).sweep = none → exec (.calSweepEnd fe m) s = .next s) ∧
    (∀ (n : Nat) (m : TxMeas) (x : TxTest), (ceOf s n).test = some x → x.stop ≤ s.clk.ticks →
      ∃ u, exec (.txTestEnd n m) s = .next (complete x.org stOk [packW [(0, 24)], packW [(ofSigned 16 m.mean, 16), (sat 16 m.vswr, 0)],
          packW [(m.aclrLo, 16), (m.aclrHi, 0)], wd ((x.stop - x.start) / 40000), wd (ofSigned 8 x.peakTemp)] u) ∧
        u.lat = s.lat ∧ u.txn = s.txn ∧ u.ports = s.ports)

/-- From its first nominal start on an engine stages its beacon once a period, with the end of the send window, or after three misses of
half of it, as deadline; after a failed primary attempt it stages the beacon on the backup channel in the second half of the window, and
counts the period missed after it. A Beacon Request is answered by one extra beacon of a period. A beacon is formed with its PAN, short
address, key, counter and Tether IE, and a frame to an endpoint with that endpoint's level and next counter. A link sweep takes expired
copies out of the indirect queue; a polling endpoint silent for POLL_MISS intervals goes to RESYNC and no other link does; a greeting round
stages a train of one and a half sampling periods before its beacon and sets the next (after R220, R222, R228 to R233, R240 to R247, R260).
In a handover window sweeps wait, and in COMMISSION no greeting is sent. The order of the header's octets is the standard's (assumption 52).
-/
def Obligations.BeaconsAndLinksKeepTheirTimes : Prop :=
  ∀ (s : State) (n : Nat),
    (∀ st, latestStart s (bcnOf s n) = some st → served s = true → ceOn s n = true → (bcnOf s n).en = true → s.tt.running = true →
      (mdOf s n).from_ ≤ st → (mdOf s n).lastStart ≠ some st → bcnKeyOk s n (bcnOf s n) = true → txRoom s n = true →
      ((mdOf s n).misses < 3 → s.tt.tt < startTt (bcnOf s n) st + (bcnOf s n).window * 4096 →
        exec (.beaconDue n) s = .next (stageFrame n (bcnFrame (bcnOf s n) (.beacon st false)
          (startTt (bcnOf s n) st + (bcnOf s n).window * 4096) none) (updMd n (fun m => { m with lastStart := some st }) s))) ∧
      (3 ≤ (mdOf s n).misses → s.tt.tt < startTt (bcnOf s n) st + (bcnOf s n).window / 2 * 4096 →
        exec (.beaconDue n) s = .next (stageFrame n (bcnFrame (bcnOf s n) (.beacon st false)
          (startTt (bcnOf s n) st + (bcnOf s n).window / 2 * 4096) none) (updMd n (fun m => { m with lastStart := some st }) s)))) ∧
    (latestStart s (bcnOf s n) = none → exec (.beaconDue n) s = .next s) ∧
    (∀ st, latestStart s (bcnOf s n) = some st → (mdOf s n).lastStart = some st → exec (.beaconDue n) s = .next s) ∧
    (∀ c : BcnCfg, cycOf s < c.offset % c.bp → latestStart s c = none) ∧
    (∀ st c, (mdOf s n).half = some (st, c) → (bcnOf s n).backup ≠ 0 →
      s.tt.tt < startTt (bcnOf s n) st + (bcnOf s n).window * 4096 → startTt (bcnOf s n) st + (bcnOf s n).window / 2 * 4096 ≤ s.tt.tt →
      bcnKeyOk s n (bcnOf s n) = true → txRoom s n = true → ceOn s n = true → (∀ f ∈ (ceOf s n).tx, f.src ≠ .beacon st true) →
      exec (.backupBeacon n) s = .next (stageFrame n (bcnFrame (bcnOf s n) (.beacon st true)
        (startTt (bcnOf s n) st + (bcnOf s n).window * 4096) (some (bcnOf s n).backup)) s)) ∧
    (∀ st c, (mdOf s n).half = some (st, c) → (bcnOf s n).backup ≠ 0 → s.tt.tt < startTt (bcnOf s n) st + (bcnOf s n).window / 2 * 4096 →
      exec (.backupBeacon n) s = .next s) ∧
    (∀ st c, (mdOf s n).half = some (st, c) → startTt (bcnOf s n) st + (bcnOf s n).window * 4096 ≤ s.tt.tt →
      exec (.backupBeacon n) s = .next (beaconOut n st true 2 s)) ∧
    (∀ r, (mdOf s n).request = some r → ceOn s n = true → (bcnOf s n).en = true → bcnKeyOk s n (bcnOf s n) = true →
      (mdOf s n).extraIn ≠ some (periodOf s (bcnOf s n)) → cycOf s < r + 50 → txRoom s n = true →
      ∃ u, exec (.extraBeacon n) s = .next (stageFrame n (bcnFrame (bcnOf s n) .extra ((r + 50) * 4096) none) u) ∧
        (mdOf u n).request = none ∧ (n < s.mac.engs.length → (mdOf u n).extraIn = some (periodOf s (bcnOf s n)))) ∧
    -- what a beacon carries as it is sent: its addresses, its Tether IE and its key (R220, R222, R228, R230)
    (∀ (f : Frame) (start st : Nat) (backup : Bool), f.src = .beacon st backup → n < s.mac.engs.length →
      ∃ x, (mdOf (formFrame n f start s) n).air = some x ∧ x.start = start ∧ x.stamp = .tether false backup ∧ x.level = (bcnOf s n).sec ∧
        x.counter = slotCtr s (bcnOf s n).keySlot ∧ x.head = mhrOctets 0 false false true (mdOf s n).dsn (bcnOf s n).pan .absent
          (.short (bcnOf s n).short) (bcnOf s n).sec (slotCtr s (bcnOf s n).keySlot) (some (bcnOf s n).keyIdx)) ∧
    -- and a frame to an endpoint: its level and the next of its counters (R222, R226, R260)
    (∀ (f : Frame) (start ep : Nat) (r : EpRec), (∃ i, f.src = .txn i) ∨ f.src = .empty ep ∨ f.src = .copy ep → f.peer = some ep →
      epOf s ep = some r → n < s.mac.engs.length →
      ∃ x, (mdOf (formFrame n f start s) n).air = some x ∧ x.level = r.secLevel ∧ x.counter = r.outCtr ∧ x.payload = f.body.payload ∧
        (epOf (formFrame n f start s) ep).map (fun y => y.outCtr) = some (r.outCtr + 1)) ∧
    (s.upd.windowOpen = true → exec (.linkSweep n) s = .next s) ∧
    (n < s.mac.engs.length → s.upd.windowOpen = false →
      ∃ t, exec (.linkSweep n) s = .next t ∧ (∀ i ∈ (mdOf t n).indirect, ∀ ep, i.src = .copy ep → cycOf s < i.until_) ∧
        OnlyChanges [.mac, .log] s t) ∧
    (∀ ep l r, linkOf s ep = some l → epOf s ep = some r → l.st = .poll → s.upd.windowOpen = false →
      l.heard + (slpOf s r.engine).pollMiss * r.pollInt ≤ cycOf s →
      exec (.pollMiss ep) s = .next (toResync r.engine 0 [ep] s)) ∧
    (∀ ep l r, linkOf s ep = some l → epOf s ep = some r → l.st ≠ .poll → exec (.pollMiss ep) s = .next s) ∧
    (s.upd.windowOpen = false → ceOn s n = true → greetDue s n = true → (∀ f ∈ (ceOf s n).tx, f.src ≠ .greeting) →
      resyncOn s n ≠ [] → (∀ x ∈ resyncOn s n, x.2.rounds < (slpOf s n).greetTries) → txRoom s n = true →
      bcnKeyOk s n (bcnOf s n) = true → n < s.mac.engs.length →
      ∃ u f, exec (.greetingRound n) s = .next (stageFrame n f u) ∧ f.cls = 1 ∧ f.src = .greeting ∧
        f.trainUs = spUs s (((resyncOn s n).map fun x => match epOf s x.1 with | some r => r.sp | none => 0).foldl Nat.max
          (slpOf s n).resyncSp) * 3 / 2 ∧
        (mdOf u n).greetAt = some (cycOf s + (slpOf s n).greetInt) ∧ (mdOf u n).greetRound = (mdOf s n).greetRound + 1) ∧
    (s.pwr.mode = .commission → exec (.greetingRound n) s = .next s)

/-- Where an engine receives, the frame is judged in order: receive buffers full at the end of its PHR, FCS wrong, format, address, Beacon
Request, security level, source and verification, each refusal counted by its own counter; a frame of a child that verifies is handed on as
that child's, any other into the ring as another source's. An Enhanced ACK is taken only undamaged, in its time, from the addressed
endpoint, with the frame's sequence number and security level, and where its MIC verifies. An indirect attempt fails when its time has come
and not before (after R190 to R192, R216 to R225). -/
def Obligations.ReceivedFramesAreFilteredInOrder : Prop :=
  ∀ (s : State) (n : Nat) (a : AirFrame),
    ((ceOf s n).rx = none → exec (.frameReceived n a) s = .next s) ∧
    (∀ r f v, (ceOf s n).rx = some r → f = readFrame s n none a →
      v = updCe n (fun e => { e with rssi := (rxMeta s n r f).rssi, snr := (rxMeta s n r f).snr }) s →
        (overrun (ceOf s n) r = true →
          exec (.frameReceived n a) s = .next (settleCe n (logLim evCeRxOverrun n (fun c => [wd n, wd c])
            (updCe n (fun e => { e with overruns := sat 8 (e.overruns + 1) }) v)))) ∧
        (overrun (ceOf s n) r = false → f.fcsOk = false →
          exec (.frameReceived n a) s = .next (settleCe n (updCe n (fun e => { e with fcsFailed := e.fcsFailed + 1 }) v))) ∧
        (overrun (ceOf s n) r = false → f.fcsOk = true →
          (formatOk f = false →
            exec (.frameReceived n a) s = .next (settleCe n (updCnt n (fun c => { c with filtFormat := inc32 c.filtFormat }) v))) ∧
          (formatOk f = true → addrOk s n f = false →
            exec (.frameReceived n a) s = .next (settleCe n (updCnt n (fun c => { c with filtAddr := inc32 c.filtAddr }) v))) ∧
          (formatOk f = true → addrOk s n f = true → isBeaconReq f = true →
            (∀ k, latestStart s (bcnOf s n) = some k → startTt (bcnOf s n) k + (bcnOf s n).window * 4096 ≤ s.tt.tt) →
            exec (.frameReceived n a) s = .next (settleCe n (updMd n (fun m => { m with request := some (cycOf s) }) v))) ∧
          (formatOk f = true → addrOk s n f = true → isBeaconReq f = false → secAccepted f = false →
            exec (.frameReceived n a) s = .next (settleCe n (secFail n 0 v))) ∧
          (formatOk f = true → addrOk s n f = true → isBeaconReq f = false → secAccepted f = true →
            (∀ ep x u, addrEp s n f.src = some (ep, x) → isChild n x = true → verify n ep x f v = .ok u →
              exec (.frameReceived n a) s = .next (settleCe n (fromChild n ep x f (rxMeta s n r f) u))) ∧
            (∀ ep x k, addrEp s n f.src = some (ep, x) → isChild n x = true → verify n ep x f v = .error k →
              exec (.frameReceived n a) s = .next (settleCe n (secFail n k v))) ∧
            (∀ ep x, addrEp s n f.src = some (ep, x) → isChild n x = false →
              exec (.frameReceived n a) s = .next (settleCe n (fromOther n (some (ep, x)) f (rxMeta s n r f) v))) ∧
            (addrEp s n f.src = none →
              exec (.frameReceived n a) s = .next (settleCe n (fromOther n none f (rxMeta s n r f) v)))))) ∧
    -- whatever the engine passes from another than its child enters the ring (R192, R216, R219)
    (∀ (src : Option (Nat × EpRec)) (f : MacFrame) (m : RxMsg), n < s.rad.ces.length →
      (ceOf (fromOther n src f m s) n).ring.length = (ceOf s n).ring.length + 1) ∧
    -- an Enhanced ACK ends the wait only in its time, from its endpoint, with its sequence number, at its level and with a good MIC
    -- (R223, R224)
    ((mdOf s n).wait = none → exec (.ackReceived n a) s = .next s) ∧
    (∀ w f, (mdOf s n).wait = some w → f = readFrame s n (awaited s n w.frame) a →
      (f.fcsOk = false ∨ f.type ≠ 2 ∨ f.version ≠ 2 ∨ f.parses = false → exec (.ackReceived n a) s = .next s) ∧
      (s.clk.ticks - airTicks (ceCfg s n) (ceCfg s n).preamble f.octets < w.since + 38000 ∨
        w.since + 50000 ≤ s.clk.ticks - airTicks (ceCfg s n) (ceCfg s n).preamble f.octets → exec (.ackReceived n a) s = .next s) ∧
      (f.fcsOk = true → f.type = 2 → f.version = 2 → f.parses = true →
        w.since + 38000 ≤ s.clk.ticks - airTicks (ceCfg s n) (ceCfg s n).preamble f.octets →
        s.clk.ticks - airTicks (ceCfg s n) (ceCfg s n).preamble f.octets < w.since + 50000 →
        (∀ id, w.frame.src = .raw id → awaited s n w.frame = none → f.src = .absent → f.level = 0 → (rawHead s n id).level = 0 →
          f.seq = (rawHead s n id).seq →
          exec (.ackReceived n a) s = .next (rawDone n id 6 f.rssi0 f.snr f.octets
            (updMd n (fun m => { m with wait := none }) (settleCe n s)))) ∧
        (∀ ep r u, (∀ id, w.frame.src ≠ .raw id) → awaited s n w.frame = some (ep, r) →
          f.src = .absent ∨ f.src = .short r.short ∨ f.src = .ext r.eui → f.seq = w.frame.dsn → f.level = r.secLevel →
          verify n ep r f (updMd n (fun m => { m with wait := none }) (settleCe n s)) = .ok u →
          exec (.ackReceived n a) s = .next (acked n ep w.frame f u)) ∧
        (∀ ep r, (∀ id, w.frame.src ≠ .raw id) → awaited s n w.frame = some (ep, r) → f.seq ≠ w.frame.dsn ∨ f.level ≠ r.secLevel →
          exec (.ackReceived n a) s = .next s))) ∧
    (∀ id t, txnOf s id = some t → t.st = .sent → t.until_ ≠ 0 → t.until_ ≤ s.tt.tt →
      exec (.indirectAttemptExpiry id) s = .next (failTxn id s)) ∧
    (∀ id t, txnOf s id = some t → s.tt.tt < t.until_ → exec (.indirectAttemptExpiry id) s = .next s)

/-- MAC.ENGINE_STATUS answers the engine's PAN, population and link counts first, 29 words in all; MAC.LINK_STATE the link of a sleepy
endpoint, moved to ADRIFT where its guard exceeds half its period, or its index and zeros where it has none; MAC.RAW_SEND is accepted and
stages the octets of the request as data, or as a wake train before it, with the deadline and length it names. That a non-sleepy endpoint's
words are 0 is the model's reading (assumption 54). -/
def Obligations.MacCommandsAnswer : Prop :=
  ∀ (r : Req) (s : State),
    (Runs 0x0401 chkMacEngineStatus r s →
      ∃ ws, exec .macEngineStatus s = .next (ok r ([packW [(fld (r.w 3) 5 0, 26), (b2n (mdOf s (fld (r.w 3) 5 0)).onBackup, 25),
            (sat 8 (mdOf s (fld (r.w 3) 5 0)).misses, 16), ((bcnOf s (fld (r.w 3) 5 0)).pan, 0)],
          packW [((bcnOf s (fld (r.w 3) 5 0)).short, 16), (sat 16 (sleepyPop s (fld (r.w 3) 5 0)), 0)],
          packW [(sat 16 (linkCount s (fld (r.w 3) 5 0) .poll), 16), (sat 16 (linkCount s (fld (r.w 3) 5 0) .tracked), 0)],
          packW [(sat 16 (linkCount s (fld (r.w 3) 5 0) .adrift), 16), (sat 16 (linkCount s (fld (r.w 3) 5 0) .resync), 0)],
          packW [(sat 16 (linkCount s (fld (r.w 3) 5 0) .lost), 16), (sat 16 (mdOf s (fld (r.w 3) 5 0)).indirect.length, 0)]] ++ ws)
        (took r s)) ∧ ws.length = 24) ∧
    (∀ x l u, Runs 0x0404 chkMacLinkState r s → u = driftLinks (engOf (took r s) (fld (r.w 3) 17 0)) [fld (r.w 3) 17 0] (took r s) →
      epOf u (fld (r.w 3) 17 0) = some x → linkOf u (fld (r.w 3) 17 0) = some l →
      exec .macLinkState s = .next (ok r
        [ packW [(x.engine, 26), (linkCode l.st, 23), (b2n l.mains, 22), (l.alignSrc, 20), (fld (r.w 3) 17 0, 0)],
          packW [(x.short, 16), (if x.sleepy = 2 then x.sp else 0, 0)], wd (l.contactTt / 4096), wd (tAlign u l / 4096),
          wd (sat 32 (guardUs u l x.eps)), packW [(x.eps, 16), (if x.sleepy = 1 then x.pollInt else 0, 0)],
          packW [(sat 16 (indirectOf u x.engine (fld (r.w 3) 17 0)).length, 16), (sat 8 l.fails, 8), (sat 8 l.rounds, 0)],
          wd (sat 32 (if x.sleepy = 2 then trainUs u l x else 0)), packW [(ofSigned 8 l.rssi, 24), (ofSigned 8 l.snr, 16)] ] u)) ∧
    -- a TRACKED link whose guard exceeds half its period is read as ADRIFT (R243)
    (∀ x l, epOf s (fld (r.w 3) 17 0) = some x → linkOf s (fld (r.w 3) 17 0) = some l → l.st = .tracked → inGuard s l x = false →
      (linkOf (driftLinks (engOf s (fld (r.w 3) 17 0)) [fld (r.w 3) 17 0] s) (fld (r.w 3) 17 0)).map (fun y => y.st) = some .adrift) ∧
    (∀ x, Runs 0x0404 chkMacLinkState r s → epOf s (fld (r.w 3) 17 0) = some x → linkOf s (fld (r.w 3) 17 0) = none →
      exec .macLinkState s = .next (ok r (wd (fld (r.w 3) 17 0) :: List.replicate 8 0) (took r s))) ∧
    (Runs 0x0405 chkMacRawSend r s → bit (r.w 3) 24 = false → fld (r.w 3) 31 26 < s.mac.engs.length →
      ∃ u f, exec .macRawSend s = .next (stageFrame (fld (r.w 3) 31 26) f (acceptN r u)) ∧ f.cls = 2 ∧ f.trainUs = 0 ∧
        f.deadline = s.tt.tt + fld (r.w 3) 15 0 * 4096 ∧ f.octets = rawLen r + 4 ∧ f.src = .raw s.mac.nextRaw ∧
        f.body.payload = (List.range (rawLen r)).map (rawOctet r) ∧
        (mdOf u (fld (r.w 3) 31 26)).raws = (mdOf s (fld (r.w 3) 31 26)).raws ++ [⟨s.mac.nextRaw, bit (r.w 3) 25, r.origin,
          (List.range (rawLen r)).map (rawOctet r), fld (r.w 4) 31 16, false, 0, 0⟩]) ∧
    (Runs 0x0405 chkMacRawSend r s → bit (r.w 3) 24 = true → fld (r.w 4) 15 0 ≠ 0 →
      ∃ u f, exec .macRawSend s = .next (stageFrame (fld (r.w 3) 31 26) f (acceptN r u)) ∧ f.cls = 1 ∧
        f.trainUs = fld (r.w 4) 15 0 * 1000 ∧ f.deadline = s.tt.tt + fld (r.w 3) 15 0 * 4096)

/-- A join request at the front of an engine's ring is refused as unknown (0), without a key (1), insecure (2) or by the policy (3), in this
order, and is otherwise answered by a join response that names the engine, in a transaction of the endpoint. A rejoin of an ACTIVE or ORPHAN
endpoint is judged the same way and makes it ACTIVE, with a notification to its owners. In a handover window neither is read (after R254 to
R257). -/
def Obligations.JoinsAreJudgedInOrder : Prop :=
  ∀ (s : State) (n : Nat) (media : Bool) (m : RxMsg),
    (Head 5 n m s →
      (byEui s m.eui = none → exec (.joinReq n media) s = .next (refuseJoin m.eui 0 (popRing n s))) ∧
      (∀ ep r, byEui s m.eui = some (ep, r) →
        (r.st ≠ .provisioned → exec (.joinReq n media) s = .next (refuseJoin m.eui 0 (popRing n s))) ∧
        (r.st = .provisioned → (∀ t ∈ s.txn.txns, ¬(t.ep = ep ∧ t.kind = .joinRsp false)) →
          (r.keyCur = none → exec (.joinReq n media) s = .next (refuseJoin m.eui 1 (popRing n s))) ∧
          (r.keyCur ≠ none → joinSecure m r = false → exec (.joinReq n media) s = .next (refuseJoin m.eui 2 (popRing n s))) ∧
          (r.keyCur ≠ none → joinSecure m r = true → s.lat.policy.permit ≠ 1 →
            exec (.joinReq n media) s = .next (refuseJoin m.eui 3 (popRing n s))) ∧
          (r.keyCur ≠ none → joinSecure m r = true → s.lat.policy.permit = 1 → policyOk s n r.cls = true →
            (msgBody m).getD 5 0 / 4 % 4 ≠ 3 → media = true → txnRoom s 1 = true →
            ∃ u x, exec (.joinReq n media) s = .next (startTxn (.joinRsp false) ep none false false x none (ownDeadline u) u) ∧
              x.getD 0 0 = 6 ∧ x.getD 3 0 = n)))) ∧
    (Head 7 n m s → ∀ ep r, byEui s m.eui = some (ep, r) → epOf s ep = some r →
      (r.st ≠ .active → r.st ≠ .orphan → exec (.rejoin n media) s = .next (refuseJoin m.eui 0 (popRing n s))) ∧
      (r.st = .active ∨ r.st = .orphan → r.keyCur ≠ none → m.verified = true → m.routed = true ∨ m.level = r.secLevel →
        s.lat.policy.permit = 0 → exec (.rejoin n media) s = .next (refuseJoin m.eui 3 (popRing n s))) ∧
      (r.st = .active ∨ r.st = .orphan → r.keyCur ≠ none → m.verified = true → m.routed = true ∨ m.level = r.secLevel →
        s.lat.policy.permit ≠ 0 → policyOk s n r.cls = true → (msgBody m).getD 5 0 / 4 % 4 ≠ 3 → media = true → txnRoom s 1 = true →
        ∃ u x, exec (.rejoin n media) s = .next (notifyOwners x.owner 0x0501 [packW [(n, 26), (1, 25), (ep, 0)], wd x.short] u) ∧
          epOf u ep = some x ∧ x.st = .active)) ∧
    (s.upd.windowOpen = true → exec (.joinReq n media) s = .next s ∧ exec (.rejoin n media) s = .next s)

/-- A Confirm settles the transaction with its TID, or is dropped; an energy report updates the record and reaches metering where the part
has it; a detection reaches Chord where it runs, or is counted as discarded; a lux report is kept; an image NACK adds the blocks missing and
an image report the result; a reply ends its query with OK; an unasked report is notified to the owners. Of several detections at the fronts
of the rings the earliest acts first, and the others wait. A message that is not verified, or that came another way than the record of its
sender names, leaves the ring and does nothing else (after R257, R262, R263, R271, R283, R288, R302, R340). -/
def Obligations.EndpointMessagesActOnTheirUnit : Prop :=
  ∀ (s : State) (n : Nat) (m : RxMsg) (ep : Nat),
    (trusted m = some ep →
    (Head 2 n m s → ∀ t, byTid s ep ((msgBody m).getD 0 0) false = some t →
      exec (.confirm n) s = .next (confirmTxn t ((msgBody m).getD 1 0) ⟨[], le16 (msgBody m) 2, m.tt / 4096, m.rssi, m.snr⟩ (popRing n s))) ∧
    (Head 2 n m s → byTid s ep ((msgBody m).getD 0 0) false = none → exec (.confirm n) s = .next (popRing n s)) ∧
    (Head 0x10 n m s → ∀ x, epOf s ep = some x →
      ∃ t y, exec (.energy n) s = .next t ∧ epOf t ep = some y ∧ y.energy = le32 (msgBody m) ∧ y.energyCyc = m.tt / 4096 ∧
        y.st = x.st ∧ (s.dev.variant ≠ .c → tget t.mtr.reports ep =
          some (((tget s.mtr.reports ep).getD []) ++ [(m.tt / 4096, le32 (msgBody m))])) ∧ (ceOf t n).ring = (ceOf s n).ring.tail) ∧
    (Head 0x11 n m s → (msgBody m).getD 0 0 < 2 → (chdRuns s = false ∨ s.chd.on = false) →
      exec (.detect n) s = .next { popRing n s with chd := { s.chd with discarded := s.chd.discarded + 1 } }) ∧
    (Head 0x11 n m s → (msgBody m).getD 0 0 < 2 → chdRuns s = true → s.chd.on = true → ∀ x, epOf s ep = some x →
      firstDetect s (detectTt s m x.hops) ep = false → exec (.detect n) s = .next s) ∧
    (Head 0x11 n m s → (msgBody m).getD 0 0 < 2 → chdRuns s = true → s.chd.on = true → ∀ x, epOf s ep = some x →
      firstDetect s (detectTt s m x.hops) ep = true →
      exec (.detect n) s = .next (offerDetection ep ((msgBody m).getD 0 0) ((msgBody m).getD 1 0) (le16 (msgBody m) 2)
        (detectTt (popRing n s) m x.hops) (popRing n s))) ∧
    (Head 0x11 n m s → (msgBody m).getD 0 0 = 2 →
      ∃ t, exec (.detect n) s = .next t ∧ tget t.sch.lux ep = some ⟨le16 (msgBody m) 6, m.tt / 4096, s.clk.ticks⟩ ∧ t.chd = s.chd) ∧
    (Head 0x23 n m s → ∀ x, sendOf s ep = some x →
      exec (.imageNack n) s = .next (updTarget x ep (fun t => { t with
        missing := t.missing ++ nackBlocks (msgBody m), complete := t.complete || (nackBlocks (msgBody m)).isEmpty }) (popRing n s))) ∧
    (Head 0x24 n m s → ∀ x, sendOf s ep = some x →
      exec (.imgReport n) s = .next (updTarget x ep (fun t => { t with report := some ((msgBody m).getD 0 0) }) (popRing n s))) ∧
    (∀ op t, Head op n m s → 0x80 ≤ op → byTid s ep (msgTid m) true = some t → t.route = none →
      exec (.report n) s = .next (finishTxn t stOk 0 ⟨op :: msgBody m, 0, m.tt / 4096, m.rssi, m.snr⟩ (popRing n s))) ∧
    (∀ op x, Head op n m s → 0x80 ≤ op → byTid s ep (msgTid m) true = none →
      epOf s ep = some x → exec (.report n) s = .next (notifyOwners x.owner 0x0503 (reportWords ep m) (popRing n s)))) ∧
    -- what has not been authenticated, or came another way than the record of its sender names, leaves the ring and does nothing (R257)
    (trusted m = none →
      (Head 2 n m s → exec (.confirm n) s = .next (popRing n s)) ∧ (Head 0x10 n m s → exec (.energy n) s = .next (popRing n s)) ∧
      (Head 0x11 n m s → exec (.detect n) s = .next (popRing n s)) ∧ (Head 0x23 n m s → exec (.imageNack n) s = .next (popRing n s)) ∧
      (Head 0x24 n m s → exec (.imgReport n) s = .next (popRing n s)) ∧
      ∀ op, Head op n m s → 0x80 ≤ op → exec (.report n) s = .next (popRing n s))

/-- A queued transaction whose endpoint can be reached is deferred on the mains while HOLD is set, ends KEY_INVALID where the link key of
the endpoint or of its next hop is exhausted or unusable, waits while its frame would reach the reserved counter, ends DEFERRED or, after an
attempt, ABANDONED where a strict target is too near, and otherwise stages its attempt. A confirmation that does not come fails the attempt;
a back-off ends in a new attempt or, after the last one, in ABANDONED cause 1. At its deadline, and not before, it ends with the status of
its state: DEFERRED (also a strict one whose target came too near before any attempt), ORDER_HELD, UNREACHABLE without an attempt, else
ABANDONED cause 5, or 2 if it was cancelled; a frame of it still in the indirect queue is counted as expired (after R249, R260, R269 to
R272, R275 to R278). -/
def Obligations.TransactionsEndWithOneOutcome : Prop :=
  ∀ (s : State) (id : Nat) (t : Txn), txnOf s id = some t →
    (∀ r, s.upd.windowOpen = false → t.st = .queued → epOf s t.ep = some r → deferNow s t r = true →
      exec (.txnAttempt id) s = .next (updTxn t.id (fun t => { t with st := .deferred }) s)) ∧
    (∀ r, s.upd.windowOpen = false → t.st = .queued ∨ (t.st = .deferred ∧ holdFlag s = false) → epOf s t.ep = some r →
      deferNow s t r = false → reachable s t r = true → kindInMode s t = true → txRoom s r.engine = true →
      (keyExhausted r = true →
        exec (.txnAttempt id) s = .next (finishTxn t stKeyInvalid 0 noRes (logNs evEpKeyExhausted 0xFF [t.ep] s))) ∧
      (keyExhausted r = false → exhaustedAt s (peerOf s t r) = true →
        exec (.txnAttempt id) s = .next (finishTxn t stKeyInvalid 0 noRes (logNs evEpKeyExhausted 0xFF [peerOf s t r] s))) ∧
      (keyExhausted r = false → exhaustedAt s (peerOf s t r) = false → linkKeyUsable s t.ep = false ∨ linkKeyUsable s (peerOf s t r) = false →
        exec (.txnAttempt id) s = .next (finishTxn t stKeyInvalid 0 noRes s)) ∧
      (keyExhausted r = false → exhaustedAt s (peerOf s t r) = false → linkKeyUsable s t.ep = true → linkKeyUsable s (peerOf s t r) = true →
        r.viaRouter = false ∨ outReady s t.ep = true → (∀ g, t.target = some g → cycOf s + s.txn.retry.lead ≤ g) →
        ∃ t1 u, exec (.txnAttempt id) s = .next (stageTxn t1 r u) ∧ t1.st = .sent ∧ t1.attempts = t.attempts + 1 ∧
          t1.tid = (if t.attempts = 0 then (r.tid + 1) % 256 else t.tid) ∧ t1.target = t.target ∧ t1.id = t.id ∧ t1.app = t.app ∧
          u.txn.attempts = inc32 s.txn.attempts) ∧
      (∀ g, keyExhausted r = false → exhaustedAt s (peerOf s t r) = false → linkKeyUsable s t.ep = true →
        linkKeyUsable s (peerOf s t r) = true → r.viaRouter = false ∨ outReady s t.ep = true → t.target = some g → g < cycOf s + s.txn.retry.lead → t.strict = true →
        exec (.txnAttempt id) s = .next (if t.attempts = 0 then finishTxn t stDeferred 0 noRes s else finishTxn t stAbandoned 1 noRes s)) ∧
      (keyExhausted r = false → exhaustedAt s (peerOf s t r) = false → linkKeyUsable s t.ep = true → linkKeyUsable s (peerOf s t r) = true →
        r.viaRouter = true → outReady s t.ep = false → exec (.txnAttempt id) s = .next s)) ∧
    (t.st = .await → t.until_ ≤ s.tt.tt → exec (.txnConfirmTimeout id) s = .next (failTxn id s)) ∧
    (s.tt.tt < t.until_ → exec (.txnConfirmTimeout id) s = .next s) ∧
    (t.st = .backoff → s.txn.retry.maxTries ≤ t.attempts → exec (.txnBackoffEnd id) s = .next (finishTxn t stAbandoned 1 noRes s)) ∧
    (t.st = .backoff → t.attempts < s.txn.retry.maxTries → t.until_ ≤ s.tt.tt →
      exec (.txnBackoffEnd id) s = .next (updTxn id (fun t => { t with st := .queued }) s)) ∧
    (cycOf s < t.deadline → exec (.txnDeadline id) s = .next s) ∧
    -- a frame that still waits in the indirect queue is counted as expired (R249)
    (∀ u, t.deadline ≤ cycOf s → u = (if (mdOf s (engOf s t.ep)).indirect.any (fun i => i.src == .txn t.id) then
        updCnt (engOf s t.ep) (fun c => { c with indirectExp := inc32 c.indirectExp }) s else s) →
      (t.st = .deferred ∨ (t.strict = true ∧ t.attempts = 0 ∧ lateTarget s t = true) →
        exec (.txnDeadline id) s = .next (finishTxn t stDeferred 0 noRes u)) ∧
      (t.strict = false ∨ t.attempts ≠ 0 ∨ lateTarget s t = false →
        (t.st = .held → exec (.txnDeadline id) s = .next (finishTxn t stOrderHeld 0 noRes u)) ∧
        (t.st ≠ .deferred → t.st ≠ .held → t.attempts = 0 → exec (.txnDeadline id) s = .next (finishTxn t stUnreachable 0 noRes u)) ∧
        (t.st ≠ .deferred → t.st ≠ .held → t.attempts ≠ 0 →
          exec (.txnDeadline id) s = .next (finishTxn t stAbandoned (if t.cancelled then 2 else 5) noRes u))))

/-- A command that has waited SEQ_WAIT cycles for its predecessor answers SEQ_GAP and leaves the waiting line; none does earlier. A native
group message without a target is sent on every engine of its members where each has room, at its times, REPEAT times, and then ends OK when
its last frame is out (after R273, R274). -/
def Obligations.GapsAndGroupsRunTheirCourse : Prop :=
  ∀ s : State,
    (∀ (p : Fin 4) (h : SeqHeld), (s.txn.seqHeld.get p).find? (fun h => decide (h.cyc + s.txn.seqWait ≤ cycOf s)) = some h →
      ∃ u, exec (.seqWaitExpiry p) s = .next (completeFail (h.req.origin true) ⟨12, stSeqGap, 0xFFFF, 0⟩ u) ∧
        u.txn.seqHeld.get p = (s.txn.seqHeld.get p).filter (fun x => x.req.id != h.req.id) ∧ OnlyChanges [.txn, .log] s u) ∧
    (∀ p : Fin 4, (s.txn.seqHeld.get p).find? (fun h => decide (h.cyc + s.txn.seqWait ≤ cycOf s)) = none →
      exec (.seqWaitExpiry p) s = .next s) ∧
    (∀ id g, s.txn.groups.find? (fun g => g.id == id) = some g → g.compat = false → s.upd.windowOpen = false → g.target = none →
      (g.sent < g.repeat_ → g.at_ ≤ cycOf s → (groupEngines s g.group g.scope).all (txRoom s) = true →
        exec (.groupRepeat id) s = .next (sendRepeat g (updGroup id (fun _ => g) s))) ∧
      (g.sent < g.repeat_ → cycOf s < g.at_ → exec (.groupRepeat id) s = .next s) ∧
      (g.repeat_ ≤ g.sent → g.out = 0 → g.sched = false → exec (.groupRepeat id) s = .next (endGroup g stOk 0 s)))

/-- TXN.SEND and TXN.LEVEL start a transaction with their octets, target and deadline; TXN.GROUP_LEVEL in native ordering starts a group
message; a command ahead of its sequence number waits with the ordering mode and the target of the moment it was taken. A new transaction is
last, and is held exactly where an older control transaction of its endpoint has not ended. TXN.CANCEL and TXN.STATUS answer (after R268 to
R276, R290). -/
def Obligations.TransactionCommandsAct : Prop :=
  ∀ (r : Req) (s : State),
    (Runs 0x0601 chkTxnSend r s → r.cseq = false →
      exec .txnSend s = .next (startTxnIn (orderMode s == 1) .send (fld (r.w 3) 17 0) (some (r.origin true)) (bit (r.w 3) 31) (bit (r.w 3) 30)
        (sendOctets r) (txnTarget r (!bit (r.w 3) 31) (orderMode s == 1) (cycOf s + s.txn.retry.lead))
        (txnDeadline (fld (r.w 4) 31 16) (cycOf s) s) (accept r (took r s)))) ∧
    (Runs 0x0602 chkTxnLevel r s → r.cseq = false →
      exec .txnLevel s = .next (startTxnIn (orderMode s == 1) .level (fld (r.w 3) 17 0) (some (r.origin true)) false (bit (r.w 3) 31)
        (levelApp (fld (r.w 4) 31 16) (fld (r.w 4) 15 0)) (txnTarget r true (orderMode s == 1) (cycOf s + s.txn.retry.lead))
        (txnDeadline (fld (r.w 5) 31 16) (cycOf s) s) (accept r (took r s)))) ∧
    (Runs 0x0603 chkTxnGroupLevel r s → r.cseq = false → orderMode s ≠ 1 →
      ∃ t g, exec .txnGroupLevel s = .next t ∧ t.txn.groups = s.txn.groups ++ [g] ∧ g.id = s.txn.nextId ∧ g.group = fld (r.w 3) 11 0 ∧
        g.app = levelApp (fld (r.w 4) 31 16) (fld (r.w 4) 15 0) ∧ g.target = r.target ∧ g.sent = 0 ∧
        g.repeat_ = (if fld (r.w 5) 15 8 = 0 then s.txn.retry.repeat_ else fld (r.w 5) 15 8)) ∧
    (∀ code chk, (code, chk) ∈ [(0x0601, chkTxnSend), (0x0602, chkTxnLevel), (0x0603, chkTxnGroupLevel)] →
      Runs code chk r s → r.cseq = true → seqDist r s ≠ 0 →
      ∃ t, serveTxn code chk s = t ∧ t.txn.seqHeld.get r.port = s.txn.seqHeld.get r.port ++
          [⟨r, cycOf s, orderMode s == 1, cycOf s + s.txn.retry.lead⟩] ∧
        t.txn.txns = s.txn.txns ∧ t.txn.groups = s.txn.groups) ∧
    (∀ kind ep org query strict app target deadline,
      ∃ x, (startTxn kind ep org query strict app target deadline s).txn.txns = s.txn.txns ++ [x] ∧ x.id = s.txn.nextId ∧ x.ep = ep ∧
        (x.st = .held ↔ x.control = true ∧ ∃ u ∈ s.txn.txns, u.ep = ep ∧ u.control = true ∧ u.id < s.txn.nextId)) ∧
    (Runs 0x0604 chkTxnCancel r s → ∃ u n, exec .txnCancel s = .next (ok r [n] u)) ∧
    (Runs 0x0605 chkTxnStatus r s → ∃ u ws, exec .txnStatus s = .next (ok r ws u) ∧ ws.length = 17 ∧
      ws.getD 0 0 = packW [(sat 16 s.txn.txns.length, 16), (sat 16 s.txn.peak, 0)] ∧ u.txn.txns = s.txn.txns)

/-- LAT.ADD, REMOVE and UPDATE change the records and answer, or answer MEDIA and change nothing where the durable write fails; READ, FIND
and ROUTE_READ answer their words; JOIN_POLICY stores the policy and its timer; KEY_LOAD is queued for the next boundary, with the end of
its overlap; IMAGE_LOAD appends its words; IMAGE_SEND starts a distribution to its targets; CHECKPOINT begins with the records as they
stand. -/
def Obligations.LatticeCommandsAnswer : Prop :=
  ∀ (r : Req) (s : State),
    (Runs 0x0501 chkLatAdd r s →
      (exec (.latAdd true) s = .next (ok r [wd (addIndex r (took r s))] (applyLatAdd r (took r s)))) ∧
      exec (.latAdd false) s = .next (failReq r ⟨13, stMedia, 0xFFFF, 0⟩ (took r s))) ∧
    (Runs 0x0502 chkLatRemove r s →
      (exec (.latRemove true) s = .next (ok r [] (applyLatRemove r (took r s)))) ∧
      exec (.latRemove false) s = .next (failReq r ⟨13, stMedia, 0xFFFF, 0⟩ (took r s))) ∧
    (∀ x, Runs 0x0504 chkLatUpdate r s → epOf s (fld (r.w 3) 17 0) = some x →
      (∃ t y, exec (.latUpdate true) s = .next t ∧ epOf t (fld (r.w 3) 17 0) = some y ∧ y.groups = (updatedRec r x).groups ∧
        y.owner = (updatedRec r x).owner ∧ y.feeder = (updatedRec r x).feeder) ∧
      exec (.latUpdate false) s = .next (failReq r ⟨13, stMedia, 0xFFFF, 0⟩ (took r s))) ∧
    (∀ x, Runs 0x0503 chkLatRead r s → epOf s (fld (r.w 3) 17 0) = some x →
      exec .latRead s = .next (ok r (recWordsOf x (portSecure s r.port)) (took r s))) ∧
    (∀ ep x, Runs 0x0505 chkLatFind r s → findEp r s = some (ep, x) →
      exec .latFind s = .next (ok r [packW [(epCode x.st, 29), (ep, 0)], hi32 x.eui, lo32 x.eui, packW [(x.engine, 26), (x.short, 0)],
        packW [(x.owner, 24), (x.cls, 16)]] (took r s))) ∧
    (Runs 0x0508 chkLatRouteRead r s → ∃ ws, exec .latRouteRead s = .next (ok r ws (took r s)) ∧ ws.length = 37 ∧
      (bit (r.w 3) 31 = true → (ws.drop 5).take 16 = routeWords (routeOf s (fld (r.w 3) 15 0)))) ∧
    (Runs 0x0506 chkLatJoinPolicy r s → ∃ t, exec .latJoinPolicy s = .next t ∧ t.lat.policy.permit = fld (r.w 3) 31 30 ∧
      t.lat.policy.classes = fld (r.w 6) 15 0 ∧
      (fld (r.w 3) 15 0 ≠ 0 → t.lat.permitEnd = some (s.clk.ticks + fld (r.w 3) 15 0 * 40000000)) ∧
      t.lat.recs = s.lat.recs) ∧
    (Runs 0x0507 chkLatKeyLoad r s → fld (r.w 4) 31 16 = 0 → tlRoom s.tl 0x07 1 = true →
      exec .latKeyLoad s = .next (tlPut (nextBoundary s) 3 0x07 (.linkKeyLoad r) true (took r s))) ∧
    (Runs 0x0507 chkLatKeyLoad r s → 0 < fld (r.w 4) 31 16 → tlRoom s.tl 0x07 2 = true →
      exec .latKeyLoad s = .next (tlPut (nextBoundary s) 4 0x07 (.linkKeyEnd (fld (r.w 3) 17 0)) false
        (tlPut (nextBoundary s) 3 0x07 (.linkKeyLoad r) true (took r s)))) ∧
    (∀ i, Runs 0x0509 chkLatImageLoad r s → imgLoaded r s = some i → bit (r.w 4) 30 = false →
      ∃ t j, exec .latImageLoad s = .next t ∧ tget t.lat.images (fld (r.w 3) 31 26) = some j ∧ j.words = i.words ++ r.words.drop 5 ∧
        j.ok = i.ok) ∧
    (∀ i, Runs 0x050A chkLatImageSend r s → tget s.lat.images (fld (r.w 3) 31 26) = some i →
      ∃ t x, exec .latImageSend s = .next t ∧ t.lat.sends = s.lat.sends ++ [x] ∧ x.slot = fld (r.w 3) 31 26 ∧ x.phase = .announce ∧
        x.targets = imgTargets s (fld (r.w 4) 11 0) i.words) ∧
    (Runs 0x050B chkLatCheckpoint r s → ∃ t, exec .latCheckpoint s = .next t ∧
      t.lat.ckpt = some ⟨some r.origin, s.clk.ticks, cycOf s, s.lat.recs⟩)

/-- A link key is loaded at its boundary with fresh counters, keeping the old key where an overlap is asked, and its overlap ends at its
entry; a checkpoint is begun in its interval and, written, brings the volatile fields of the stored records up to date; a journal page is
written when full or 64 cycles old; compaction clears the superseded pages; joining ends in its time and not before; an image goes from its
announcement to its blocks and, done, completes; a frame takes the next counter, a new ceiling is asked 1,024 before the old one and holds
from the page that confirms it (its write is part of a page, assumption 55). A removal that a reset cut short is completed (after R255, R258
to R260, R283 to R288; assumption 57). -/
def Obligations.RecordsAreKeptDurably : Prop :=
  ∀ s : State,
    (∀ e r, Due e s → e.kind = .linkKeyLoad r → epOf s (fld (r.w 3) 17 0) = none → ∃ u,
      exec (.linkKeyLoadApply true) s = .next (failReq r ⟨10, stNoEndpoint, 3, 0⟩ u) ∧ u.lat = s.lat) ∧
    (∀ e r x, Due e s → e.kind = .linkKeyLoad r → epOf s (fld (r.w 3) 17 0) = some x →
      (∃ u, exec (.linkKeyLoadApply false) s = .next (failReq r ⟨13, stMedia, 0xFFFF, 0⟩ u) ∧ u.lat = s.lat) ∧
      (∃ u y, exec (.linkKeyLoadApply true) s = .next (ok r [] u) ∧ epOf u (fld (r.w 3) 17 0) = some y ∧ y.outCtr = 0 ∧ y.inCur = 0 ∧
        y.keyCur ≠ none ∧ (0 < fld (r.w 4) 31 16 → x.keyCur ≠ none → y.keyPrev = x.keyCur ∧ y.prevValid = true ∧ y.inPrev = x.inCur))) ∧
    (∀ e ep x, Due e s → e.kind = .linkKeyEnd ep → epOf s ep = some x →
      ∃ t y, exec .linkKeyOverlapEnd s = .next t ∧ epOf t ep = some y ∧ y.keyPrev = none ∧ y.prevValid = false ∧ y.keyCur = x.keyCur ∧
        y.inCur = x.inCur) ∧
    (s.lat.ckpt = none → served s = true → s.lat.ckptTick + s.lat.policy.ckptH * 3600 * 40000000 ≤ s.clk.ticks →
      ∃ t, exec .backgroundCheckpoint s = .next t ∧ t.lat.ckpt = some ⟨none, s.clk.ticks, cycOf s, s.lat.recs⟩) ∧
    (s.clk.ticks < s.lat.ckptTick + s.lat.policy.ckptH * 3600 * 40000000 → exec .backgroundCheckpoint s = .next s) ∧
    (∀ c o, s.lat.ckpt = some c → c.org = some o →
      (∃ u, exec (.checkpointComplete true) s = .next (complete o stOk [wd c.snap.length, wd c.cyc, wd ((s.clk.ticks - c.start) / 40000)] u) ∧
        u.lat.nand = s.lat.nand.map (fun x => (x.1, match tget c.snap x.1 with | some v => withVolatile x.2 v | none => x.2)) ∧
        u.lat.ckpt = none) ∧
      ∃ u, exec (.checkpointComplete false) s = .next (completeFail o ⟨13, stMedia, 0xFFFF, 0⟩ u) ∧ u.lat.nand = s.lat.nand) ∧
    (s.lat.ctr.openPage ≠ [] → pageEntries ≤ s.lat.ctr.openPage.length ∨ s.lat.ctr.openCyc + 64 ≤ cycOf s →
      ∃ t, exec .journalPageWrite s = .next t ∧ t.lat.ctr.openPage = [] ∧
        (s.lat.ctr.pages.length < 255 → t.lat.ctr.pages = s.lat.ctr.pages ++ [s.lat.ctr.openPage])) ∧
    -- a frame takes the next counter, the write of a new ceiling begins 1,024 before the old one, and the next page confirms it (R260)
    (∀ ep x, epOf s ep = some x → (epOf (takeOut ep s) ep).map (fun y => y.outCtr) = some (x.outCtr + 1) ∧
      (ceilingOf s ep ≤ x.outCtr + 1025 → tget s.lat.ctr.pend ep = none →
        tget (takeOut ep s).lat.ctr.pend ep = some (ceilingOf s ep + 4096) ∧ ceilingOf (takeOut ep s) ep = ceilingOf s ep)) ∧
    (∀ ep c, s.lat.ctr.pend = [(ep, c)] → ∃ t, exec .journalPageWrite s = .next t ∧ t.lat.ctr.pend = [] ∧ ceilingOf t ep = c) ∧
    (s.upd.windowOpen = false → (∃ a ∈ s.bal.running, a.act = 8) →
      ∃ t, exec .latCompact s = .next t ∧ t.lat.superseded = 0 ∧ OnlyChanges [.lat, .bal] s t) ∧
    (∀ c, s.lat.permitEnd = some c → c ≤ s.clk.ticks →
      ∃ t, exec .joinPermitExpiry s = .next t ∧ t.lat.policy.permit = 2 ∧ t.lat.permitEnd = none) ∧
    (∀ c, s.lat.permitEnd = some c → s.clk.ticks < c → exec .joinPermitExpiry s = .next s) ∧
    (∀ id x i, s.lat.sends.find? (fun x => x.org.id == id) = some x → tget s.lat.images x.slot = some i → s.upd.windowOpen = false →
      imgBusy s x = false →
      (x.phase = .announce → exec (.imagePhase id) s = .next (updSend x.org.id (fun x => { x with phase := .blocks 0 })
        (stageImage x true none ([0x20] ++ oct16 (imgVersion i.words) ++ oct16 x.block ++ oct16 (imgBlocks x i) ++ [imgClass i.words] ++
          oct16 (imgHw i.words)) s))) ∧
      (∀ b, x.phase = .blocks b → b < imgBlocks x i → exec (.imagePhase id) s = .next (updSend x.org.id
        (fun x => { x with phase := .blocks (b + 1), sent := x.sent + 1 }) (stageImage x false none ([0x21] ++ oct16 b ++ blockData x i b) s))) ∧
      (x.phase = .done → ∃ u, exec (.imagePhase id) s = .next (complete x.org stOk (imgWords x) u) ∧
        u.lat.sends = s.lat.sends.filter (fun z => z.org.id != x.org.id)) ∧
      (∀ q, x.phase = .repair q [] → cycOf s < x.at_ → exec (.imagePhase id) s = .next s)) ∧
    -- a removal that a reset cut short is completed (R258); the premise is the canonical form of the record table
    (Tbl.rising s.lat.recs = true → ∀ x ∈ (endRemovals s).lat.recs, x.2.st ≠ .removing)

/-- The level of a schedule group at a cycle is that of its winner: an active entry that names the group or 4,095, with the highest PRIO, a
tie going to the entry that names the group and then to the entry that stands first in the table; with no such entry it is the group's
default level (after R304). A lux gate opens below LUX_ON, closes from LUX_OFF on, keeps its state between, and is open without a report
(after R302). -/
def Obligations.TheScheduleWinnerIsTheFirstHighest : Prop :=
  ∀ (s : State) (g c : Nat),
    (∀ k x, winnerAt s g c = some (k, x) →
      (resolveAt s g c).level = x.level ∧ (resolveAt s g c).winner = some k ∧ (resolveAt s g c).fade = x.fade ∧
      ∃ l m, s.sch.entries = l ++ (k, x) :: m ∧ (x.group = g ∨ x.group = 4095) ∧ x.active s c = true ∧
        (∀ y ∈ l, (y.2.group = g ∨ y.2.group = 4095) → y.2.active s c = true →
          y.2.prio < x.prio ∨ (y.2.prio = x.prio ∧ y.2.group ≠ g ∧ x.group = g)) ∧
        (∀ y ∈ m, (y.2.group = g ∨ y.2.group = 4095) → y.2.active s c = true →
          y.2.prio < x.prio ∨ (y.2.prio = x.prio ∧ (y.2.group = g → x.group = g)))) ∧
    (winnerAt s g c = none →
      (∀ y ∈ s.sch.entries, (y.2.group = g ∨ y.2.group = 4095) → y.2.active s c = false) ∧
      resolveAt s g c = ⟨(groupOf s g).level, none, 0⟩) ∧
    (∀ v on off was, (v < on → gateNext (some v) on off was = true) ∧ (on ≤ v → off ≤ v → gateNext (some v) on off was = false) ∧
      (on ≤ v → v < off → gateNext (some v) on off was = was) ∧ gateNext none on off was = true)

/-- The schedule engine decides one cycle at a time where the table rules and rests where the mode asks it to, after what stands due before
it (R89); Chord evaluates at the multiples of CHD_EVERY outside COMMISSION, where its waves are dropped, and ends a wave at its entry.
SCH.GROUP_MEMBERS changes the slots of the endpoint it names, or answers MEDIA; the reads answer their words in every mode of SCH.EVALUATE;
CHD.CORRIDOR_SET keeps a chunk or queues the whole image for the next boundary; CHD.INJECT offers a wave and answers it, the limit, or FULL
(after R306, R311, R319, R321 and the command tables). The evaluation cycle taken one at a time is the model's reading (assumption 64). -/
def Obligations.SchedulesAndChordAct : Prop :=
  ∀ (r : Req) (s : State),
    -- what stands due before it in the queue of times goes first (R89)
    (tlAhead s (cycOf s * 4096) 4 = true → exec .schDecide s = .next s) ∧
    (s.upd.windowOpen = false → served s = true → s.tt.running = true → tlAhead s (cycOf s * 4096) 4 = false →
      schWant s = .idle → s.sch.run = .table →
      ∃ t, exec .schDecide s = .next t ∧ t.sch.run = .idle ∧ t.sch.lastCyc = cycOf s ∧ t.sch.decided = [] ∧ t.sch.later = [] ∧
        OnlyChanges [.log, .sch] s t) ∧
    (s.upd.windowOpen = false → served s = true → s.tt.running = true → tlAhead s (cycOf s * 4096) 4 = false →
      schWant s = .table → s.sch.run = .table → s.sch.lastCyc < cycOf s → ∃ t, exec .schDecide s = .next t ∧ t.sch.run = .table ∧ t.sch.lastCyc = s.sch.lastCyc + 1 ∧
        t.sch.resync = false ∧ OnlyChanges [.log, .txn, .sch] s t) ∧
    (schWant s = s.sch.run → cycOf s ≤ s.sch.lastCyc → exec .schDecide s = .next s) ∧
    (s.pwr.mode ≠ .commission → s.chd.every ∣ cycOf s → cycOf s ≠ s.chd.lastEval → s.tt.running = true →
      ∃ u, exec .chdEvaluation s = .next (chdEval u) ∧ u.chd.lastEval = cycOf s ∧ u.chd.waves = s.chd.waves ∧
        (s.chd.issued = [] → u = { s with chd := { s.chd with lastEval := cycOf s } })) ∧
    (s.pwr.mode = .commission → s.chd.waves ≠ [] → ∃ t, exec .chdEvaluation s = .next t ∧ t.chd.waves = [] ∧ t.chd.issued = [] ∧
      OnlyChanges [.tl, .chd] s t) ∧
    (∀ e id, Due e s → e.kind = .waveEnd id → exec .waveEnd s = .next (chdEval (dropWave id (tlRemove e.seq s)))) ∧
    (Runs 0x0702 chkSchGroupMembers r s →
      (∃ u, exec (.schGroupMembers true) s = .next (ok r [] u) ∧
        ∀ ep x l, namedEps r = [ep] → epOf s ep = some x → newSlots r x.groups = .ok l → l ≠ x.groups →
          ∃ y, epOf u ep = some y ∧ y.groups = l) ∧
      exec (.schGroupMembers false) s = .next (failReq r ⟨13, stMedia, 0xFFFF, 0⟩ (took r s))) ∧
    (Runs 0x0703 chkSchGroupRead r s → ∃ ws, exec .schGroupRead s = .next (ok r ([
        packW [((groupOf s (fld (r.w 3) 11 0)).owner, 28), ((groupOf s (fld (r.w 3) 11 0)).level, 18),
          (b2n ((groupOf s (fld (r.w 3) 11 0)).owner != 0 || fld (r.w 3) 11 0 == 4095), 17), (fld (r.w 3) 11 0, 0)],
        wd (members s (fld (r.w 3) 11 0)).length, wd (slot0Members s (fld (r.w 3) 11 0))] ++ ws) (took r s)) ∧
      ws.drop 2 = (((members s (fld (r.w 3) 11 0)).filter fun e => decide (fld (r.w 4) 17 0 ≤ e)).take 1016).map wd) ∧
    (Runs 0x0706 chkSchEntryRead r s →
      (tget s.sch.entries (fld (r.w 3) 11 0) = none →
        exec .schEntryRead s = .next (ok r (wd (fld (r.w 3) 11 0) :: List.replicate 8 0) (took r s))) ∧
      (∀ x, tget s.sch.entries (fld (r.w 3) 11 0) = some x → ∃ w, exec .schEntryRead s = .next (ok r (w :: x.words) (took r s)) ∧
        (x.expired s = true → w = packW [(3, 30), (b2n (x.luxGate && x.gateOpen), 29), (fld (r.w 3) 11 0, 0)]))) ∧
    (Runs 0x070A chkSchEvaluate r s →
      (fld (r.w 3) 31 30 = 0 → ∃ ws, exec .schEvaluate s = .next (ok r (packW
        [((baseAt s (fld (r.w 3) 11 0) (cycOf s)).level, 22), (b2n (baseAt s (fld (r.w 3) 11 0) (cycOf s)).winner.isNone, 21),
          (b2n s.pwr.autonomous, 20), ((baseAt s (fld (r.w 3) 11 0) (cycOf s)).winner.getD 0, 0)] :: ws) (took r s)) ∧ ws.length = 3) ∧
      (fld (r.w 3) 31 30 = 1 → exec .schEvaluate s = .next (ok r (sunWords s (r.w 4)) (took r s))) ∧
      (fld (r.w 3) 31 30 = 2 → ∃ ws, exec .schEvaluate s = .next (ok r (packW
        [((luxOf s (fld (r.w 3) 11 0)).getD 0, 16), (sat 16 (luxReports s (fld (r.w 3) 11 0)).length, 0)] :: ws) (took r s)) ∧
        ws.length = 2) ∧
      (fld (r.w 3) 31 30 = 3 → exec .schEvaluate s = .next (ok r [dateWord (localDay s.sch.tz (rtcS s)),
        wd (localAt s.sch.tz (rtcS s) % 86400).toNat, tzWord s (rtcS s)] (took r s)))) ∧
    (Runs 0x0801 chkChdCorridorSet r s →
      (bit (r.w 3) 30 = false → exec .chdCorridorSet s = .next (ok r [] (keepChunk r (took r s)))) ∧
      (bit (r.w 3) 30 = true → Room 0x0A s → ∃ u f, exec .chdCorridorSet s = .next (ok r [] u) ∧
        u.tl.entries = s.tl.entries ++ [⟨nextBoundary s, 3, s.tl.nextSeq, 0x0A, false, .config f, true⟩] ∧
        f.words = r.words.take 5 ++ imgWith s r)) ∧
    (∀ c, Runs 0x0803 chkChdCorridorRead r s → corridorOf s (chdNum r) = some c →
      ∃ a b, exec .chdCorridorRead s = .next (ok r (a :: b :: ((corridorWords c).drop (fld (r.w 4) 15 0)).take 1019) (took r s))) ∧
    (Runs 0x0805 chkChdWaves r s → ∃ w ws, exec .chdWaves s = .next (ok r (w :: ws) (took r s)) ∧
      (bit (r.w 3) 23 = false → s.chd.waves.all (fun w => w.2.corridor != chdNum r) = true → ws = [])) ∧
    (∀ c d, Runs 0x0806 chkChdInject r s → corridorOf s (chdNum r) = some c → dirsOf c (fld (r.w 3) 29 28) false = [d] →
      (offer ⟨chdNum r, fld (r.w 3) 31 30 == 1, d, fld (r.w 3) 25 10, fld (r.w 4) 31 16,
          (match r.target with | some t => t * 4096 | none => s.tt.tt), 0x3FFFF, true⟩ c (took r s) = .limit →
        exec .chdInject s = .next (failReq r ⟨13, stWaveLimit, 0xFFFF, 0⟩ (took r s))) ∧
      (offer ⟨chdNum r, fld (r.w 3) 31 30 == 1, d, fld (r.w 3) 25 10, fld (r.w 4) 31 16,
          (match r.target with | some t => t * 4096 | none => s.tt.tt), 0x3FFFF, true⟩ c (took r s) = .noEntry →
        exec .chdInject s = .next (failReq r ⟨13, stFull, 0xFFFF, 0⟩ (tlFull 0x0A 2 (took r s)))) ∧
      (∀ id m u, offer ⟨chdNum r, fld (r.w 3) 31 30 == 1, d, fld (r.w 3) 25 10, fld (r.w 4) 31 16,
          (match r.target with | some t => t * 4096 | none => s.tt.tt), 0x3FFFF, true⟩ c (took r s) = .wave id m u →
        ∃ w x, exec .chdInject s = .next (ok r [w, x, wd ((tget u.chd.waves id).getD default).endCyc] (chdEval u))))

/-- Each phase of a cycle adds to one direction only of active and of reactive energy; the total grows by the sum of its phases, each of
which counts its cycle; other feeders stay; a pulse output owes one pulse for each whole unit of energy and keeps the rest, so that nothing
is lost while the owed count fits; an interval's record holds the change of the total, and the next interval starts where it ended (after
R332 to R334, R341, R342). -/
def Obligations.EnergyIsNeitherNettedNorLost : Prop :=
  (∀ (m : Meter) (c : FeederCfg) (k : Coef) (ph ticks : Nat) (l : List MtrSample),
    ((phaseCycle m c k ph ticks l).e.ai = 0 ∨ (phaseCycle m c k ph ticks l).e.ae = 0) ∧
    ((phaseCycle m c k ph ticks l).e.rp = 0 ∨ (phaseCycle m c k ph ticks l).e.rn = 0)) ∧
  (∀ (f cyc ticks : Nat) (c : FeederCycle) (s : State), f < s.mtr.feeders.length →
    ∃ t es, feederCycle f cyc ticks c s = (t, es) ∧ es.length = 4 ∧
      (feeder t f).total = (feeder s f).total.add (es.getD 0 Energies.zero) ∧
      (es.getD 0 Energies.zero) = ((es.getD 1 Energies.zero).add (es.getD 2 Energies.zero)).add (es.getD 3 Energies.zero) ∧
      (∀ p < 3, ((feeder t f).ph.getD p default).e = ((feeder s f).ph.getD p default).e.add (es.getD (p + 1) Energies.zero) ∧
        ((feeder t f).ph.getD p default).impCyc + ((feeder t f).ph.getD p default).expCyc =
          ((feeder s f).ph.getD p default).impCyc + ((feeder s f).ph.getD p default).expCyc + 1) ∧
      (∀ g, g ≠ f → feeder t g = feeder s g)) ∧
  (∀ (p : PulseOut) (e ticks : Nat), p.owed + (p.acc + e * p.const) / (10 ^ 9 * mtrMicro) < 2 ^ 32 →
    (p.account e ticks).acc < 10 ^ 9 * mtrMicro ∧
    (p.account e ticks).owed * (10 ^ 9 * mtrMicro) + (p.account e ticks).acc = p.owed * (10 ^ 9 * mtrMicro) + p.acc + e * p.const) ∧
  (∀ (s : State) (f : Nat) (whole : Bool) (v : Interval), f < s.mtr.feeders.length → closeDue s f = some whole →
    (feeder s f).interval = some v →
    ∃ q, (closeOne s f).mtr.cut = s.mtr.cut ++ [intervalWords s.mtr.nextSeq f q v (feeder s f).total] ∧
      (closeOne s f).mtr.nextSeq = (s.mtr.nextSeq + 1) % 2 ^ 32 ∧ (feeder (closeOne s f) f).total = (feeder s f).total ∧
      ((feeder s f).cfg.enable = true → ∃ w, (feeder (closeOne s f) f).interval = some w ∧ w.start = (feeder s f).total ∧ w.cycles = 0))

/-- The end of a cycle latches the RTC and writes the residue once; inputs out of range or silent are logged and marked; closed intervals
go, after what stands due before them (R89), to the ring of 65,536; a save is written when due, retried 60 s after it failed on three slots,
whose old saves are gone; a pulse starts when one is owed and the last has ended, and takes it off the owed count; a calibration is applied
at its entry with its completion, a measurement completes when it has its cycles, and none of them acts before its time (after R335, R338 to
R346). -/
def Obligations.MeteringKeepsItsTimes : Prop :=
  ∀ s : State,
    (∀ c last, mtrRuns s = true → s.tt.running = true → s.mtr.cyc = some last → last < cycOf s →
      ∃ t, exec (.meterCycleEnd c) s = .next t ∧ t.mtr.cyc = some (cycOf s) ∧ t.mtr.latch = (s.rtc.sec, s.rtc.frac, rtcFlags s.rtc) ∧
        t.rtc.residue = some (residueWords t.mtr) ∧ OnlyChanges [.rtc, .log, .mtr] s t) ∧
    (∀ c last, s.mtr.cyc = some last → cycOf s ≤ last → exec (.meterCycleEnd c) s = .next s) ∧
    (∀ k d f ch, mtrRuns s = true → (s.mtr.inputs.getD k default).enable = true → 9500 < d ∨ d < 500 → servedBy s k = [(f, ch)] →
      exec (.evMeterOverrange k d) s = .next (logLim evMeterOverrange f (fun n => [wd f, wd ch, wd n]) (flagInterval qOverrange f s))) ∧
    (∀ k d, 500 ≤ d → d ≤ 9500 → exec (.evMeterOverrange k d) s = .next s) ∧
    (∀ k idle locked, mtrRuns s = true → (s.mtr.inputs.getD k default).enable = true → 256 ≤ idle → s.mtr.faults.testBit k = false →
      ∃ t, exec (.evMeterInputFault k idle locked) s = .next t ∧ t.mtr.faults = setBit s.mtr.faults k true ∧ OnlyChanges [.mtr, .log] s t) ∧
    (∀ k idle, idle < 256 → s.mtr.faults.testBit k = false → exec (.evMeterInputFault k idle true) s = .next s) ∧
    (tlAhead s (s.mtr.cyc.getD 0 * 4096) 4 = true → exec .intervalClose s = .next s) ∧
    (s.upd.windowOpen = false → windowAlive s = true → tlAhead s (s.mtr.cyc.getD 0 * 4096) 4 = false → (∀ f < 4, closeDue s f = none) → s.mtr.cut ≠ [] →
      ∃ t, exec .intervalClose s = .next t ∧ t.mtr.cut = [] ∧
        t.mtr.ring = (s.mtr.ring ++ s.mtr.cut).drop (s.mtr.ring.length + s.mtr.cut.length - 65536)) ∧
    ((∀ f < 4, closeDue s f = none) → s.mtr.cut = [] → exec .intervalClose s = .next s) ∧
    (∀ fails, mtrRuns s = true → s.mtr.cyc ≠ none → s.upd.windowOpen = false →
      s.mtr.saveDue = true ∨ s.mtr.lastSave + s.mtr.global.saveMin * 60 * 40000000 ≤ s.clk.ticks →
      (fails < 3 → ∃ t, exec (.meterSave fails) s = .next t ∧ t.mtr.saves.head? = some (saveNow s.mtr s.tt.reserve.epoch) ∧
        t.mtr.saveDue = false ∧ t.mtr.lastSave = s.clk.ticks ∧ t.mtr.rebase = true ∧ t.log = s.log) ∧
      (3 ≤ fails → ∃ t, exec (.meterSave fails) s = .next t ∧ t.mtr.saves = s.mtr.saves.take 253 ∧
        t.mtr.retryAt = some (s.clk.ticks + 60 * 40000000))) ∧
    (∀ fails c, s.mtr.retryAt = some c → c ≤ s.clk.ticks → mtrRuns s = true → fails < 3 →
      ∃ t, exec (.meterSaveRetry fails) s = .next t ∧ t.mtr.saves.head? = some (saveNow s.mtr s.tt.reserve.epoch) ∧ t.mtr.retryAt = none) ∧
    (∀ fails, s.mtr.retryAt = none → exec (.meterSaveRetry fails) s = .next s) ∧
    (∀ k, mtrRuns s = true → k < s.mtr.pulses.length → (s.mtr.pulses.getD k default).enable = true →
      1 ≤ (s.mtr.pulses.getD k default).owed → (s.mtr.pulses.getD k default).lowTo ≤ s.clk.ticks →
      ∃ t, exec (.pulseStart k) s = .next t ∧ (t.mtr.pulses.getD k default).owed = (s.mtr.pulses.getD k default).owed - 1 ∧
        (t.mtr.pulses.getD k default).highTo = s.clk.ticks + (s.mtr.pulses.getD k default).w ∧
        (t.mtr.pulses.getD k default).lowTo = s.clk.ticks + 2 * (s.mtr.pulses.getD k default).w ∧ OnlyChanges [.mtr] s t) ∧
    (∀ k, (s.mtr.pulses.getD k default).owed = 0 ∨ s.clk.ticks < (s.mtr.pulses.getD k default).lowTo →
      exec (.pulseStart k) s = .next s) ∧
    (∀ e f c, s.mtr.cyc = some (cycOf s) → Due e s → e.kind = .calApply f → f < s.mtr.feeders.length → (feeder s f).cal = some c →
      ∃ u, exec .meterCalApply s = .next (complete c.org stOk
          ([c.word3, wd c.target] ++ coefWords ((feeder s f).coef.getD (c.phase - 1) default)) u) ∧
        (feeder u f).coef = updAt (feeder s f).coef (c.phase - 1) (fun _ => c.coef) ∧ (feeder u f).cal = none ∧
        (feeder u f).calMark = some (cycOf s)) ∧
    (∀ f c, f < s.mtr.feeders.length → (feeder s f).cal = some c → c.mode = 1 → c.n ≤ c.done →
      ∃ u ws, exec (.meterMeasureEnd f) s = .next (complete c.org stOk (c.word3 :: wd c.target :: ws) u) ∧ ws.length = 7 ∧
        (feeder u f).cal = none) ∧
    (∀ f c, (feeder s f).cal = some c → c.done < c.n → exec (.meterMeasureEnd f) s = .next s)

/-- MTR.READ answers the registers of a feeder with the cycle and RTC latched at one boundary; MTR.INTERVALS the records from a sequence
number on; MTR.BALANCE which feeders have a balance, zeros for the rest; MTR.CALIBRATE is accepted for its cycle where the maintenance
matrix blocks it by nothing (after R334, R338, R350, R352). -/
def Obligations.MeteringCommandsAnswer : Prop :=
  ∀ (r : Req) (s : State),
    (Runs 0x0903 chkMtrRead r s → ∃ w ws, exec .mtrRead s = .next (ok r ([w] ++ ttWords (s.mtr.cyc.getD (cycOf s) * 4096) ++
        [wd s.mtr.latch.1, packW [(s.mtr.latch.2.1, 16), (s.mtr.latch.2.2, 8), (s.mtr.latch.1 / 2 ^ 32 % 256, 0)]] ++
        regWords (feeder s (fld (r.w 3) 1 0)) ++ ws) (took r s)) ∧ ws.length = 17) ∧
    (Runs 0x0904 chkMtrIntervals r s → ∃ a b c, exec .mtrIntervals s = .next (ok r ([a, b, c] ++
        ((s.mtr.ring.filter fun x => decide ((r.w 4).toNat ≤ recSeq x) &&
          (if fld (r.w 3) 3 0 = 0 then 15 else fld (r.w 3) 3 0).testBit (fld (wAt x 2) 23 22)).take 101).flatten) (took r s))) ∧
    (Runs 0x0907 chkMtrBalance r s → ∃ ws, exec .mtrBalance s = .next
      (ok r (wd (maskOf 4 fun f => (feeder s f).balance.isSome) :: ws) (took r s)) ∧ ws.length = 36 ∧
      ∀ f < 4, (feeder s f).balance = none → (ws.drop (9 * f)).take 9 = List.replicate 9 0) ∧
    (Runs 0x0906 chkMtrCalibrate r s → blockers s.bal 5 = [] → fld (r.w 3) 29 28 < s.mtr.feeders.length →
      (fld (r.w 3) 31 30 = 1 → ∃ u c, exec .mtrCalibrate s = .next (acceptN r u) ∧ (feeder u (fld (r.w 3) 29 28)).cal = some c ∧
        c.n = (r.w 4).toNat ∧ c.done = 0 ∧ c.target = targetCyc r s ∧ u.tl = s.tl) ∧
      (fld (r.w 3) 31 30 ≠ 1 → Room 0x0B s → ∃ u c, exec .mtrCalibrate s = .next (acceptN r u) ∧
        (feeder u (fld (r.w 3) 29 28)).cal = some c ∧ c.coef = calCoef r ∧ c.target = targetCyc r s ∧
        u.tl.entries = s.tl.entries ++ [⟨targetCyc r s * 4096, 3, s.tl.nextSeq, 0x0B, false, .calApply (fld (r.w 3) 29 28), true⟩]))

/-- A qualified fault of a string or a sink fails every function that has it as a member, latches the member, sets its duty to 0, leaves
every other failure and latch in place, and makes the failure record due for writing. It is qualified on three consecutive qualifying
periods of an output that is lit, enabled, unlatched and not thermally shut down; with fewer, or on an output not watched, nothing happens
(after R359 to R361). A shorted string takes precedence over an open one. -/
def Obligations.AMemberFaultFailsEveryFunction : Prop :=
  ∀ (s : State) (k : Nat),
    (∀ short : Bool,
      (∀ x ∈ s.sgn.fns, x.2.members.testBit k = true → fnFailed (memberFault k short s).sgn x.1 = true) ∧
      (∀ n, fnFailed s.sgn n = true → fnFailed (memberFault k short s).sgn n = true) ∧
      latchedM (memberFault k short s).sgn.rec_ k = true ∧ (∀ j, latchedM s.sgn.rec_ j = true → latchedM (memberFault k short s).sgn.rec_ j = true) ∧
      (memberFault k short s).sgn.duty.getD k 0 = 0 ∧ (memberFault k short s).sgn.dirty ≠ none ∧ (memberFault k short s).sgn.fns = s.sgn.fns) ∧
    (∀ ps, k < 16 → watched s k = true →
      (threeOf (stringShort (s.sgn.strings.getD k default)) ps = true → exec (.stringFault k ps) s = .next (memberFault k true s)) ∧
      (threeOf (stringShort (s.sgn.strings.getD k default)) ps = false → threeOf (stringOpen (s.sgn.strings.getD k default)) ps = true →
        exec (.stringFault k ps) s = .next (memberFault k false s)) ∧
      (ps.length < 3 → exec (.stringFault k ps) s = .next s)) ∧
    (∀ ps, watched s k = false → exec (.stringFault k ps) s = .next s) ∧
    (∀ ps, k < 8 → watched s (16 + k) = true →
      (threeOf (fun p : SinkPeriod => decide (0 < p.onNs) && decide (6000 < p.padMv)) ps = true →
        exec (.sinkFault k ps) s = .next (memberFault (16 + k) true s)) ∧
      (threeOf (fun p : SinkPeriod => decide (0 < p.onNs) && decide (6000 < p.padMv)) ps = false →
        threeOf (sinkOpen (s.sgn.sinks.getD k default)) ps = true → exec (.sinkFault k ps) s = .next (memberFault (16 + k) false s)))

/-- Each cycle the duties are set once; a due failure record is written where both NOR devices take it and otherwise stays due; a stored
level is applied at its entry; a flip latches the back buffer at its cycle, at the qualified SYNC edge, after its timeout, or once the shift
has ended, and not before; the refresh latches what is shown and waits for a flip; the sensor is written its initial value before its first
read and again at a retry, is read in its interval, is failed at the third missing answer in a row and retried after 1 s; NTC readings are
kept, an invalid one being a fault, under which the factor is F_MIN; derating is computed every 64 cycles and rises by at most 20 (after
R356, R363, R364, R366 to R371). -/
def Obligations.SignEventsKeepTheirTimes : Prop :=
  ∀ s : State,
    (∀ cur, sgnUp s = true → (∀ c, s.sgn.lastCyc = some c → c < cycOf s) →
      ∃ t, exec (.sgnCycleUpdate cur) s = .next t ∧ t.sgn.lastCyc = some (cycOf s) ∧ t.sgn.current = cur ∧ t.sgn.duty = dutiesNow s ∧
        OnlyChanges [.sgn] s t) ∧
    (∀ cur c, s.sgn.lastCyc = some c → cycOf s ≤ c → exec (.sgnCycleUpdate cur) s = .next s) ∧
    (∀ f0 f1 d, s.sgn.dirty = some d → fwRuns s = true →
      ((norWrite 5 f0 f1 s).2 = true → ∃ t, exec (.failureRecordWrite f0 f1) s = .next t ∧ t.sgn.nor = s.sgn.rec_ ∧ t.sgn.dirty = none) ∧
      ((norWrite 5 f0 f1 s).2 = false → ∃ t, exec (.failureRecordWrite f0 f1) s = .next t ∧ t.sgn = s.sgn)) ∧
    (∀ e fn l, Due e s → e.kind = .sgnLevel fn l →
      ∃ t, exec .sgnLevelApply s = .next t ∧ t.sgn.levels = updAt s.sgn.levels fn (fun _ => l) ∧ t.sgn.duty = dutiesNow t ∧
        OnlyChanges [.tl, .sgn] s t) ∧
    (∀ e f, Due e s → e.kind = .sgnFlip → s.sgn.flip = some f → s.sgn.shiftEnd = none →
      ∃ t, exec (.matrixLatch none) s = .next t ∧ t.sgn.shown = !s.sgn.shown ∧ t.sgn.flip = none ∧ t.sgn.lastLatch = cycOf s) ∧
    (∀ e f k, Due e s → e.kind = .sgnFlip → s.sgn.flip = some f → s.sgn.shiftEnd = some k →
      ∃ t, exec (.matrixLatch none) s = .next t ∧ t.sgn.shown = s.sgn.shown ∧ t.sgn.flip = some { f with due := true, timeout := false }) ∧
    (∀ x f, s.dev.variant = .a → syncQualified s x = true → s.sgn.flip = some f → f.mode = 1 → f.due = false → f.target * 4096 ≤ s.tt.tt →
      s.sgn.shiftEnd = none → ∃ t, exec (.matrixLatch (some x)) s = .next t ∧ t.sgn.shown = !s.sgn.shown ∧ t.sgn.flip = none ∧
        t.sgn.lastSync = cycOf s) ∧
    (∀ x, syncQualified s x = false → exec (.matrixLatch (some x)) s = .next s) ∧
    (∀ f, s.sgn.flip = some f → f.mode = 1 → f.due = false → f.target + s.sgn.matrix.syncTimeout ≤ cycOf s → s.sgn.shiftEnd = none →
      ∃ t, exec .syncTimeout s = .next t ∧ t.sgn.shown = !s.sgn.shown ∧ t.sgn.syncTimeouts = sat 16 (s.sgn.syncTimeouts + 1)) ∧
    (∀ f, s.sgn.flip = some f → cycOf s < f.target + s.sgn.matrix.syncTimeout → exec .syncTimeout s = .next s) ∧
    (∀ k, s.sgn.shiftEnd = some k → k ≤ s.clk.ticks →
      (∀ f, s.sgn.flip = some f → f.due = true → ∃ t, exec .matrixShiftEnd s = .next t ∧ t.sgn.shiftEnd = none ∧ t.sgn.shown = !s.sgn.shown ∧
        t.sgn.flip = none) ∧
      (∀ f, s.sgn.flip = some f → f.due = false → ∃ t, exec .matrixShiftEnd s = .next t ∧ t.sgn.shiftEnd = none ∧ t.sgn.shown = s.sgn.shown)) ∧
    (sgnUp s = true → s.sgn.matrix.enable = true → s.sgn.matrix.refresh ≠ 0 → s.sgn.flip = none →
      s.sgn.lastRefresh + s.sgn.matrix.refresh ≤ cycOf s → ∃ t, exec .matrixRefresh s = .next t ∧
        t.sgn.refreshes = sat 16 (s.sgn.refreshes + 1) ∧ t.sgn.lastLatch = cycOf s ∧ t.sgn.shown = s.sgn.shown) ∧
    (s.sgn.flip ≠ none → exec .matrixRefresh s = .next s) ∧
    (sgnUp s = true → s.sgn.sensor.enable = true → s.sgn.sensorFault = false → s.sgn.lastRead + s.sgn.sensor.cyc ≤ cycOf s →
      (∀ i, i = s.sgn.sensorInit.getD (s.sgn.sensor.initReg, s.sgn.sensor.initVal) →
        (∀ m, exec (.sensorRead (.ok m)) s = .next (trackColour m { s with sgn := { s.sgn with
          lastRead := cycOf s, nackRun := 0, sensorInit := some i } })) ∧
        (s.sgn.nackRun < 2 → exec (.sensorRead .timeout) s = .next { s with sgn := { s.sgn with
          lastRead := cycOf s, nackRun := s.sgn.nackRun + 1, sensorInit := some i } })) ∧
      (2 ≤ s.sgn.nackRun → ∃ t, exec (.sensorRead .timeout) s = .next t ∧ t.sgn.sensorFault = true ∧ t.sgn.sensorInit = none ∧
        t.sgn.gains = s.sgn.gains ∧
        t.sgn.sensorFaults = sat 16 (s.sgn.sensorFaults + 1))) ∧
    (∀ m, sgnUp s = true → s.sgn.sensor.enable = true → s.sgn.sensorFault = true → s.sgn.sensorTick + 40000000 ≤ s.clk.ticks →
      ∃ t, exec (.sensorRetry (.ok m)) s = .next t ∧ t.sgn.sensorFault = false ∧ t.sgn.gains = s.sgn.gains ∧
        t.sgn.sensorInit = some (s.sgn.sensor.initReg, s.sgn.sensor.initVal)) ∧
    (∀ m, s.sgn.sensorFault = false → exec (.sensorRetry m) s = .next s) ∧
    (∀ n x, n < 2 → n < s.sgn.ntc.length → s.dev.variant = .a → windowAlive s = true →
      ∃ t, exec (.ntcMeasure n x) s = .next t ∧ (t.sgn.ntc.getD n default).readings = (x :: (s.sgn.ntc.getD n default).readings).take 64 ∧
        (ntcValid x = false → (t.sgn.ntc.getD n default).fault = true) ∧
        (t.sgn.ntc.getD n default).f = (if (t.sgn.ntc.getD n default).fault = true ∧ (s.sgn.ntc.getD n default).cfg.enable = true then
          (s.sgn.ntc.getD n default).cfg.fMin else (s.sgn.ntc.getD n default).f)) ∧
    (s.dev.variant = .a → served s = true → s.sgn.lastDerate + 64 ≤ cycOf s →
      ∃ t, exec .derateUpdate s = .next t ∧ t.sgn.lastDerate = cycOf s ∧
        (∀ n, (t.sgn.ntc.getD n default).f ≤ (s.sgn.ntc.getD n default).f + 20 ∨ 1 < n)) ∧
    (cycOf s < s.sgn.lastDerate + 64 → exec .derateUpdate s = .next s)

/-- SGN.FRAME_LOAD fills the back buffer and never what is shown; SGN.FLIP arms a flip for its cycle or for SYNC and starts the shift;
SGN.LEVEL queues the level for its cycle and changes nothing before; it answers OK where no member is thermally shut down; SGN.STATUS
answers the failed and defined functions, the 24 outputs and nine further words (after R366, R372, R373). -/
def Obligations.SignCommandsAct : Prop :=
  ∀ (r : Req) (s : State),
    (Runs 0x0A03 chkSgnFrameLoad r s → ∃ t, exec .sgnFrameLoad s = .next t ∧ t.sgn.back = frameAfter r s.sgn ∧
      t.sgn.front = s.sgn.front ∧ (bit (r.w 3) 30 = true → t.sgn.ready = true ∧ t.sgn.loading = false) ∧
      (bit (r.w 3) 30 = false → bit (r.w 3) 31 = true → t.sgn.ready = false)) ∧
    (Runs 0x0A04 chkSgnFlip r s → fld (r.w 3) 31 30 = 1 →
      ∃ t, exec .sgnFlip s = .next t ∧ t.sgn.flip = some ⟨1, targetCyc r s, false, false⟩ ∧ t.tl = s.tl ∧
        t.sgn.shiftEnd = some (s.clk.ticks + s.sgn.matrix.len * s.sgn.matrix.div) ∧ t.sgn.shown = s.sgn.shown) ∧
    (Runs 0x0A04 chkSgnFlip r s → fld (r.w 3) 31 30 ≠ 1 → Room 0x0C s →
      ∃ t, exec .sgnFlip s = .next t ∧ t.sgn.flip = some ⟨fld (r.w 3) 31 30, targetCyc r s, false, false⟩ ∧
        t.tl.entries = s.tl.entries ++ [⟨targetCyc r s * 4096, 6, s.tl.nextSeq, 0x0C, false, .sgnFlip, true⟩] ∧
        t.sgn.shown = s.sgn.shown) ∧
    (Runs 0x0A05 chkSgnLevel r s → Room 0x0C s → ∃ t, exec .sgnLevel s = .next t ∧
      t.tl.entries = s.tl.entries ++
        [⟨targetCyc r s * 4096, 6, s.tl.nextSeq, 0x0C, false, .sgnLevel (fld (r.w 3) 31 27) (fld (r.w 3) 9 0), true⟩] ∧ t.sgn = s.sgn) ∧
    (Runs 0x0A05 chkSgnLevel r s → Room 0x0C s → (List.range 25).all (fun k => !(((tget s.sgn.fns (fld (r.w 3) 31 27)).getD default).members.testBit k &&
      outThermal s.sgn k)) = true →
      exec .sgnLevel s = .next (ok r [] (tlPut (targetCyc r s * 4096) 6 0x0C (.sgnLevel (fld (r.w 3) 31 27) (fld (r.w 3) 9 0)) true (took r s)))) ∧
    (Runs 0x0A06 chkSgnStatus r s → ∃ ws, exec .sgnStatus s = .next (ok r ([wd (maskOf 32 (fnFailed s.sgn)),
        wd (maskOf 32 fun n => (tget s.sgn.fns n).isSome)] ++ (List.range 24).map (fun k =>
          packW [(outState s.sgn k, 29), (outColour s.sgn k, 27), (s.sgn.duty.getD k 0, 16), (sat 16 (s.sgn.current.getD k 0), 0)]) ++ ws)
      (took r s)) ∧ ws.length = 9)

/-- Inputs are sampled once per 64 pu; an enabled one takes its new level and counts the edge when it qualifies, a disabled one stays. A
stuck input is marked at its time and not before; chatter is judged at the end of its window. A faulted output is off and latched. A DOUT
entry drives the outputs of its mask, except on those held off, its return drives the former value, and a dropped return does nothing.
IO.DIN_READ, IO.DOUT_SET and IO.STATUS answer (after R376 to R382). -/
def Obligations.CabinetInputsAndOutputsFollowTheirRules : Prop :=
  ∀ s : State,
    (∀ l x i k, windowAlive s = true → s.tt.running = true → s.io.sampleIdx = some i → i < s.tt.tt / 64 → k < 16 → k < s.io.din.length →
      ∃ t d, exec (.dinSample l x) s = .next t ∧ t.io.sampleIdx = some (s.tt.tt / 64) ∧ t.io.sampleTt = s.tt.tt / 64 * 64 ∧
        d = (dinOf s k).sample (l.testBit k != (dinOf s k).cfg.pol) (x.testBit k) s.tt.tt ∧
        ((dinOf s k).cfg.enable = false → dinOf t k = dinOf s k) ∧
        ((dinOf s k).cfg.enable = true → d.qualifies = false → dinOf t k = d) ∧
        ((dinOf s k).cfg.enable = true → d.qualifies = true → (dinOf t k).level = d.raw ∧ (dinOf t k).valid = true ∧
          (dinOf t k).edges = (if d.valid then sat 16 (d.edges + 1) else d.edges))) ∧
    (∀ l x i, s.io.sampleIdx = some i → s.tt.tt / 64 ≤ i → exec (.dinSample l x) s = .next s) ∧
    (∀ k, k < s.io.din.length → (dinOf s k).cfg.enable = true → (dinOf s k).valid = true → (dinOf s k).level = true →
      (dinOf s k).stuck = false → (dinOf s k).cfg.stuckS ≠ 0 →
      ((dinOf s k).activeTick + (dinOf s k).cfg.stuckS * 40000000 ≤ s.clk.ticks →
        ∃ t, exec (.evDinStuck k) s = .next t ∧ dinOf t k = { dinOf s k with stuck := true } ∧ OnlyChanges [.log, .io] s t) ∧
      (s.clk.ticks < (dinOf s k).activeTick + (dinOf s k).cfg.stuckS * 40000000 → exec (.evDinStuck k) s = .next s)) ∧
    (∀ k, k < s.io.din.length → (dinOf s k).cfg.enable = true → (dinOf s k).chatK < cycOf s / Nat.max (dinOf s k).cfg.chatWin 1 →
      ∃ t, exec (.chatterWindowEnd k) s = .next t ∧ (dinOf t k).chatCount = 0 ∧
        (dinOf t k).chatter = decide ((dinOf s k).cfg.chatMin ≤ (dinOf s k).chatCount) ∧ (dinOf t k).level = (dinOf s k).level) ∧
    (∀ k, k < 8 → k < s.io.dout.length → (doutOf s k).fault = false →
      ∃ t, exec (.evDoutFault k true) s = .next t ∧ (doutOf t k).fault = true ∧ doutOn t k = false ∧ OnlyChanges [.log, .io] s t) ∧
    (∀ k b, (doutOf s k).fault = true → exec (.evDoutFault k b) s = .next s) ∧
    (∀ e id c k, Due e s → e.kind = .dout id → tget s.io.douts id = some c → k < 8 → k < s.io.dout.length →
      ∃ t, exec .doutApply s = .next t ∧ (c.mask.testBit k = false → doutOf t k = doutOf s k) ∧
        (c.value.testBit k = true → heldOff s k = true → doutOf t k = doutOf s k) ∧
        (c.mask.testBit k = true → (c.value.testBit k = true → heldOff s k = false) → (doutOf t k).cmd = c.value.testBit k ∧
          (withdrawn s 0x0F = false → (doutOf t k).out = c.value.testBit k))) ∧
    (∀ e id o c, Due e s → e.kind = .doutReturn id o → tget s.io.douts id = some c → o < 8 → o < s.io.dout.length →
      (c.prev.testBit o = true → heldOff s o = false) →
      ∃ t, exec .doutReturn s = .next t ∧ (doutOf t o).cmd = c.prev.testBit o ∧ ∀ k, k ≠ o → doutOf t k = doutOf s k) ∧
    (∀ e id o, Due e s → e.kind = .doutReturn id o → tget s.io.douts id = none → exec .doutReturn s = .next (tlRemove e.seq s)) ∧
    (∀ r, Runs 0x1002 chkIoDinRead r s → exec .ioDinRead s = .next (ok r
      [ packW [(maskOf 16 fun k => (dinOf s k).valid && (dinOf s k).level, 16), (maskOf 16 fun k => (dinOf s k).raw, 0)],
        packW [(maskOf 16 fun k => (dinOf s k).stuck, 16), (maskOf 16 fun k => (dinOf s k).valid, 0)],
        packW [(maskOf 16 fun k => (dinOf s k).chatter, 16), (maskOf 16 fun k => (dinOf s k).cfg.enable, 0)],
        wd (ttCyc s.io.sampleTt), wd (ttPh s.io.sampleTt) ] (took r s))) ∧
    (∀ r, Runs 0x1005 chkIoStatus r s → ∃ ws, exec .ioStatus s = .next (ok r (packW [(doutCmds s, 24), (maskOf 8 (doutOn s), 16),
        (maskOf 8 fun k => (doutOf s k).fault, 8), (maskOf 8 (cutHeld s), 0)] :: ws) (took r s)) ∧ ws.length = 8) ∧
    (∀ r, Runs 0x1003 chkIoDoutSet r s →
      tlRoom s.tl 0x0F (b2n r.aac + (if fld (r.w 3) 15 0 = 0 then 0 else popCount 8 (fld (r.w 3) 31 24))) = true →
      ∃ u, exec .ioDoutSet s = .next (ok r [] u) ∧
        (r.aac = true → fld (r.w 3) 15 0 = 0 →
          u.tl.entries = s.tl.entries ++ [⟨targetCyc r s * 4096, 6, s.tl.nextSeq, 0x0F, false, .dout s.io.nextDout, true⟩] ∧
          u.io.dout = s.io.dout) ∧
        (r.aac = false → fld (r.w 3) 15 0 = 0 → ∀ k < 8, k < s.io.dout.length → (fld (r.w 3) 31 24).testBit k = true →
          ((fld (r.w 3) 23 16).testBit k = true → heldOff s k = false) → (doutOf u k).cmd = (fld (r.w 3) 23 16).testBit k))

/-- A received frame, but for an FD frame while FD_EN is 0, which is a form error, is counted and stored in the first accepting buffer that
is free, dropped and counted where none is, counted as unmatched where none accepts. The frame offered ends its attempt as sent, lost or in
error with the error counters of ISO 11898, bus off beyond 255; the port comes back only from recovering. Rate detection moves on after its
dwell. CAN.SEND, CANCEL, READ, STATUS and RECOVER act on the buffer they name (after R382 to R395). The error counters' steps are PRESUMED
from ISO 11898, which the spec names (assumption 76). -/
def Obligations.CanPortsFollowTheirRules : Prop :=
  ∀ (s : State) (p : Nat), p < s.can.length →
    (∀ f, canMode s p ≠ 0 → canMode s p ≠ 3 → (canOf s p).bus = .on → f.fdf = false ∨ (canOf s p).cfg.fdEn = true →
      ∃ u, exec (.canFrameReceived p f) s = .next (storeFrame p f u) ∧ (canOf u p).received = inc32 (canOf s p).received ∧
        (canOf u p).ackRun = 0 ∧ (canOf u p).lone = false ∧ (canOf u p).bufs = (canOf s p).bufs ∧ (canOf u p).tec = (canOf s p).tec) ∧
    (∀ f b, ((List.range 64).filter fun b => (bufOf s p b).accepts f).find? (fun b => (bufOf s p b).free) = some b →
      (bufOf s p b).ntf = false →
      (bufOf (storeFrame p f s) p b).frame = some f ∧ ∀ c, c ≠ b → bufOf (storeFrame p f s) p c = bufOf s p c) ∧
    (∀ f b, ((List.range 64).filter fun b => (bufOf s p b).accepts f).find? (fun b => (bufOf s p b).free) = none →
      ((List.range 64).filter fun b => (bufOf s p b).accepts f).head? = some b →
      (bufOf (storeFrame p f s) p b).frame = (bufOf s p b).frame ∧ (bufOf (storeFrame p f s) p b).dropped = sat 16 ((bufOf s p b).dropped + 1) ∧
        (canOf (storeFrame p f s) p).overruns = sat 16 ((canOf s p).overruns + 1)) ∧
    (∀ f, (List.range 64).all (fun b => !(bufOf s p b).accepts f) = true →
      (canOf (storeFrame p f s) p).unmatched = sat 16 ((canOf s p).unmatched + 1) ∧ (canOf (storeFrame p f s) p).bufs = (canOf s p).bufs) ∧
    (∀ f, canMode s p = 0 → exec (.canFrameReceived p f) s = .next s) ∧
    -- with FD_EN = 0 an FD frame is an error of its form (R382)
    (∀ f, canMode s p = 1 → (canOf s p).bus = .on → f.fdf = true → (canOf s p).cfg.fdEn = false →
      exec (.canFrameReceived p f) s = exec (.canReceiveError p false f.brs) s) ∧
    (∀ sof b, canMode s p = 1 → (canOf s p).bus = .on → offered (canOf s p) sof = some b →
      (∃ t, exec (.canAttemptEnd p sof .sent) s = .next t ∧ (bufOf t p b).tx = none ∧ (canOf t p).tec = (canOf s p).tec - 1 ∧
        (canOf t p).sent = inc32 (canOf s p).sent) ∧
      (∀ x, (bufOf s p b).tx = some x → x.cancels = [] →
        (∃ t, exec (.canAttemptEnd p sof .lost) s = .next t ∧ (bufOf t p b).tx = some { x with attempts := x.attempts + 1 } ∧
          (canOf t p).tec = (canOf s p).tec) ∧
        ((canOf s p).tec + 8 ≤ 255 → ∃ t, exec (.canAttemptEnd p sof (.error false)) s = .next t ∧
          (canOf t p).tec = (canOf s p).tec + 8 ∧ (canOf t p).bus = .on ∧ (bufOf t p b).tx ≠ none) ∧
        (255 < (canOf s p).tec + 8 → ∃ t, exec (.canAttemptEnd p sof (.error false)) s = .next t ∧ (canOf t p).bus = .off ∧
          (bufOf t p b).tx = none))) ∧
    (∀ sof e, offered (canOf s p) sof = none → exec (.canAttemptEnd p sof e) s = .next s) ∧
    (canMode s p = 1 → (canOf s p).bus = .recovering →
      ∃ t, exec (.canRecovered p) s = .next t ∧ (canOf t p).bus = .on ∧ (canOf t p).tec = 0 ∧ (canOf t p).rec_ = 0) ∧
    ((canOf s p).bus ≠ .recovering → exec (.canRecovered p) s = .next s) ∧
    (canMode s p = 3 → (canOf s p).detect.nom = none → (canOf s p).detect.since + (canOf s p).cfg.dwell * 40000 ≤ s.clk.ticks →
      ∃ t, exec (.canDetectDwell p) s = .next t ∧ (canOf t p).detect.cand = ((canOf s p).detect.cand + 1) % 8 ∧
        (canOf t p).detect.since = s.clk.ticks ∧ OnlyChanges [.can] s t) ∧
    (canMode s p = 3 → (canOf s p).detect.nom ≠ none → (canOf s p).detect.found = false →
      (canOf s p).detect.since + 4 * (canOf s p).cfg.dwell * 40000 ≤ s.clk.ticks →
      ∃ t, exec (.dataTimingSearchEnd p) s = .next t ∧ (canOf t p).detect.found = true ∧
        (canOf t p).detect.nom = (canOf s p).detect.nom) ∧
    (∀ eight brs, canMode s p = 1 → (canOf s p).bus = .on → ∃ t, exec (.canReceiveError p eight brs) s = .next t ∧
      (canOf t p).rec_ = Nat.min 255 ((canOf s p).rec_ + if eight then 8 else 1) ∧ (canOf t p).tec = (canOf s p).tec ∧
      (canOf t p).errFrames = sat 16 ((canOf s p).errFrames + 1) ∧ (canOf t p).bus = .on) ∧
    (∀ r, canPortOf r = p → canBufOf r < (canOf s p).bufs.length →
      (Runs 0x0B03 chkCanSend r s → ∃ u t, exec .canSend s = .next (acceptN r u) ∧ (bufOf u p (canBufOf r)).tx = some t ∧
        t.id = (r.w 4).toNat ∧ t.data = r.words.drop 5 ∧ t.attempts = 0 ∧ t.since = s.tt.tt) ∧
      (Runs 0x0B04 chkCanCancel r s →
        (∃ t, exec (.canCancel false) s = .next t ∧ (bufOf t p (canBufOf r)).tx = none) ∧
        (∀ x, (bufOf s p (canBufOf r)).tx = some x → ∃ t, exec (.canCancel true) s = .next t ∧
          (bufOf t p (canBufOf r)).tx = some { x with cancels := x.cancels ++ [r] } ∧ t.ports = s.ports)) ∧
      (∀ f, Runs 0x0B05 chkCanRead r s → (bufOf s p (canBufOf r)).frame = some f →
        ∃ u, exec .canRead s = .next (respondMsg r stOk (frameWords (canBufOf r) (bufOf s p (canBufOf r)) f) (some (p, canBufOf r)) u) ∧
          bufOf u p (canBufOf r) = { bufOf s p (canBufOf r) with locked := true, dropped := 0 }) ∧
      (Runs 0x0B06 chkCanStatus r s → ∃ w, exec .canStatus s = .next (ok r [ w, nomWord (canOf s p).nomNow, dataWord (canOf s p).dataNow,
        wd (canOf s p).sent, wd (canOf s p).received, packW [((canOf s p).ackRun, 16), ((canOf s p).errFrames, 0)],
        packW [((canOf s p).unmatched, 16), ((canOf s p).overruns, 0)] ] (took r s))) ∧
      (Runs 0x0B07 chkCanRecover r s → ∃ u, exec .canRecover s = .next (ok r [] u) ∧ (canOf u p).bus = .recovering ∧
        (canOf u p).recoverPort = r.port))

/-- An append to a log within its capacity leaves it within its capacity, displaces no record above the appended one's severity, brings no
record but that one, and displaces none where there is room. A created record below the severity filter is counted and nothing else; any
other takes the next number and does not enter the log yet. The appender moves staged records to the open page in order and loses none
(after R399 to R402). -/
def Obligations.RecordsAreNumberedAndKeptWithinCapacity : Prop :=
  (∀ (lg : Recorder) (r : Rec), octetsOf lg.log ≤ logCap → octetsOf (appendRec lg r).log ≤ logCap) ∧
  (∀ (lg : Recorder) (r : Rec),
    (appendRec lg r).log.filter (fun x => decide (r.sev < x.sev)) = lg.log.filter (fun x => decide (r.sev < x.sev)) ∧
    (∀ x ∈ (appendRec lg r).log, x = r ∨ x ∈ lg.log) ∧
    (octetsOf lg.log + octets r ≤ logCap → (appendRec lg r).log = lg.log ++ [r])) ∧
  (∀ (st : Stamp) (sev : Nat) (host deferred : Bool) (code inst : Nat) (content : List Word) (lg : Recorder),
    (sev < lg.minSev → Recorder.create st sev host deferred code inst content lg =
      { lg with cnt := { lg.cnt with filtered := inc32 lg.cnt.filtered } }) ∧
    (lg.minSev ≤ sev →
      (Recorder.create st sev host deferred code inst content lg).cnt.nextSeq = (lg.cnt.nextSeq + 1) % 2 ^ 48 ∧
      (Recorder.create st sev host deferred code inst content lg).log = lg.log)) ∧
  (∀ (s : State), appendsOk s = true →
    ∃ t, exec .appenderRun s = .next t ∧ t.log.page ++ t.log.staged = s.log.page ++ s.log.staged ∧ t.log.log = s.log.log ∧
      t.log.cnt = s.log.cnt ∧ OnlyChanges [.log] s t)

/-- While appends are not permitted the appender and the page program do nothing. A page that is full or 64 cycles old is programmed; a
failed program costs a free page, and its block, but keeps the page; without a free page appends are blocked and the log stays. A freeze
ends at its time and not before. LOG.STATUS, READ, FREEZE (where nothing blocks it), THAW and APPEND answer and act (after R401, R403, R404,
R407, R408, R410, R413, R463). -/
def Obligations.TheRecorderAppendsAndAnswers : Prop :=
  ∀ s : State,
    (appendsOk s = false → exec .appenderRun s = .next s ∧ ∀ b, exec (.pageProgram b) s = .next s) ∧
    (appendsOk s = true → s.log.page ≠ [] → pageFull s.log = true ∨ s.log.pageCyc + 64 ≤ cycOf s →
      (s.log.freePages ≠ 0 → exec (.pageProgram true) s = .next (reportDrop { s with log := programPage s.log })) ∧
      (s.log.freePages ≠ 0 → ∃ t, exec (.pageProgram false) s = .next t ∧ t.log.log = s.log.log ∧ t.log.page = s.log.page ∧
        t.log.freePages = s.log.freePages - (if s.mem.nandSpare = 0 then 64 else 1) ∧ t.mem.nandBad = sat 16 (s.mem.nandBad + 1) ∧
        t.mem.nandSpare = s.mem.nandSpare - 1) ∧
      (s.log.freePages = 0 → ∀ b, ∃ t, exec (.pageProgram b) s = .next t ∧ t.log.appendBlocked = true ∧ t.log.log = s.log.log)) ∧
    (∀ (p : Fin 4) f, s.log.freeze.get p = some f →
      (f.until_ ≤ s.clk.ticks → ∃ t, exec (.freezeExpiry p) s = .next t ∧ t.log.freeze.get p = none ∧
        ∀ q, q ≠ p → (t.log.freeze.get q).isSome = (s.log.freeze.get q).isSome) ∧
      (s.clk.ticks < f.until_ → exec (.freezeExpiry p) s = .next s)) ∧
    (∀ r, Runs 0x0C01 chkLogStatus r s → ∃ w ws, exec .logStatus s = .next (ok r ([w, wd (logEnds s.log).1, wd (logEnds s.log).2,
        wd s.log.log.length, wd (octetsOf s.log.log)] ++ ws) (took r s))) ∧
    (∀ r, Runs 0x0C02 chkLogRead r s → s.log.log = [] → ∃ w, exec .logRead s = .next
      (ok r [w, wd (Nat.max (readFrom r) s.log.cnt.nextSeq), packW [(1, 31)]] (took r s))) ∧
    (∀ r, Runs 0x0C02 chkLogRead r s → s.log.log ≠ [] → ∃ w x y ws, exec .logRead s = .next (ok r (w :: x :: y :: ws) (took r s)) ∧
      ws = ((s.log.log.filter fun x => decide (Nat.max (readFrom r) (logEnds s.log).1 ≤ x.seq)).foldl (readStep r s)
        ⟨[], 0, Nat.max (readFrom r) (logEnds s.log).1, 0, false⟩).out) ∧
    (∀ r, Runs 0x0C03 chkLogFreeze r s → blockers s.bal 7 = [] →
      ∃ u w, exec .logFreeze s = .next (ok r [w] u) ∧
        u.log.freeze.get r.port = some ⟨s.clk.ticks + (if fld (r.w 3) 15 0 = 0 then 600 else fld (r.w 3) 15 0) * 40000000, 0, 0⟩) ∧
    (∀ r f, Runs 0x0C04 chkLogThaw r s → s.log.freeze.get r.port = some f →
      exec .logThaw s = .next (ok r [packW [(sat 16 f.staged, 16), (sat 16 f.lost, 0)]] (endFreeze r.port 0 (took r s)))) ∧
    (∀ r, Runs 0x0C06 chkLogAppend r s → ∃ u, exec .logAppend s = .next (ok r [] u) ∧ OnlyChanges [.cmd, .log] s u ∧
      u.log = (Recorder.create (stampOf s) (fld (r.w 3) 23 21) true false (0x0300 + fld (r.w 3) 7 0) r.port.val (r.words.drop 4)
        s.log).reportOvf (stampOf s))

/-- At its entry a pending commit puts the shadow into service, raises GEN, and keeps the replaced key for W cycles, posting the end of that
window at rank 4, or leaves none where there was no key or W is 0; the first commit ever locks and closes the debug port; no other slot and
not the identity changes. An entry without a pending commit is only removed. The window's end drops the previous key, or is extended while a
rewrap of its records runs (after R40, R423 to R426). -/
def Obligations.ACommitMovesTheShadow : Prop :=
  ∀ (s : State) (e : TlEntry) (k : Nat), k ≠ 0 → Due e s →
    (∀ p, e.kind = .keyCommit k → (keySlot s k).pend = some p →
      ∃ t, exec .keyCommitEntry s = .next t ∧ (keySlot t k).active = (keySlot s k).shadow ∧ (keySlot t k).shadow = none ∧
        (keySlot t k).gen = ((keySlot s k).gen + 1) % 65536 ∧ (keySlot t k).commitCyc = e.target / 4096 ∧
        (keySlot t k).usage = (keySlot s k).usage ∧ (keySlot t k).pend = none ∧
        (((keySlot s k).active = none ∨ p.w = 0) → (keySlot t k).st = .active ∧ (keySlot t k).prev = none) ∧
        ((keySlot s k).active ≠ none → 0 < p.w → (keySlot t k).st = .overlap ∧ (keySlot t k).prev = (keySlot s k).active ∧
          (keySlot t k).overlapEnd = e.target / 4096 + p.w ∧
          ∃ x ∈ t.tl.entries, x.kind = .keyOverlapEnd k ∧ x.target = (e.target / 4096 + p.w) * 4096 ∧ x.rank = 4 ∧ x.active = true) ∧
        t.key.everCommitted = true ∧ (s.key.everCommitted = false → t.key.debugLock = true ∧ t.key.debugOpen = false) ∧
        (∀ j, j ≠ k → keySlot t j = keySlot s j) ∧ t.key.identity = s.key.identity) ∧
    (e.kind = .keyCommit k → (keySlot s k).pend = none → exec .keyCommitEntry s = .next (tlRemove e.seq s)) ∧
    (e.kind = .keyOverlapEnd k → (∀ w ∈ s.key.rewraps, w.slot ≠ k) →
      ∃ t, exec .keyOverlapEnd s = .next t ∧ (keySlot t k).st = .active ∧ (keySlot t k).prev = none ∧
        (keySlot t k).active = (keySlot s k).active) ∧
    (e.kind = .keyOverlapEnd k → (∃ w ∈ s.key.rewraps, w.slot = k) →
      ∃ t, exec .keyOverlapEnd s = .next t ∧ keySlot t k = keySlot s k ∧ (∀ w ∈ t.key.rewraps, w.slot = k → w.extended = true)) ∧
    ((∀ j, e.kind ≠ .keyCommit j) → exec .keyCommitEntry s = .next s)

/-- KEY.GENERATE starts a generation, which ends KEY_INVALID or with a VERIFIED shadow; IMPORT and STAGE leave the key as a STAGED shadow,
or answer MEDIA and change no key; VERIFY compares the proof, and the third failure drops the shadow of a slot in service; COMMIT is
accepted and posts its entry at rank 1; DESTROY removes the slot or its shadow; ATTEST signs the statement; INFO shows or exports the slot;
WORLD_SET stores worlds in both copies without changing those in force. A rewrap rewraps the records of its slot. A qualified tamper sets
the latch, clears the protected words and, powered, loses every slot at once, the worlds, the identity and the committed flag staying; no
sample is judged in SHELF or before its time (after R115 to R117, R417 to R439). Two NOR sectors failing and the random key are inputs and
free values of the model (assumptions 80 and 5). -/
def Obligations.KeyCommandsAct : Prop :=
  ∀ (r : Req) (s : State) (f0 f1 : Nat),
    (Runs 0x0D01 chkKeyGenerate r s → ∃ u, exec .keyGenerate s = .next (accept r u) ∧
      u.key.gens = s.key.gens ++ [⟨reqSlot r, r.origin true, s.clk.ticks⟩] ∧ u.key.slots = s.key.slots) ∧
    (∀ g l, s.key.gens = g :: l →
      (∃ u, exec (.keyGenerateComplete false f0 f1) s = .next (completeFail g.org ⟨13, stKeyInvalid, 0xFFFF, 0⟩ u) ∧ u.key.gens = l ∧
        u.key.slots = s.key.slots) ∧
      (g.slot ≠ 0 → (norWrite 2 f0 f1 { s with key := { s.key with gens := l } }).2 = true →
        ∃ t, exec (.keyGenerateComplete true f0 f1) s = .next t ∧ (keySlot t g.slot).st = .verified ∧ (keySlot t g.slot).shadowOrigin = 1 ∧
          (keySlot t g.slot).shadow ≠ none ∧ (keySlot t g.slot).active = (keySlot s g.slot).active ∧ t.key.gens = l)) ∧
    ((norWrite 2 f0 f1 (took r s)).2 = true → reqSlot r ≠ 0 →
      (Runs 0x0D02 (chkPutKey 0x0D02 false) r s → ∃ u, exec (.keyImport f0 f1) s = .next (ok r [] u) ∧
        (keySlot u (reqSlot r)).st = .staged ∧ (keySlot u (reqSlot r)).shadow = importedKey r s ∧
        (keySlot u (reqSlot r)).usage = fld (r.w 4) 31 28 ∧ (keySlot u (reqSlot r)).alg = reqAlg r ∧
        (keySlot u (reqSlot r)).active = none) ∧
      (Runs 0x0D03 (chkPutKey 0x0D03 true) r s → ∃ u, exec (.keyStage f0 f1) s = .next (ok r [] u) ∧
        (keySlot u (reqSlot r)).st = .staged ∧ (keySlot u (reqSlot r)).shadow = importedKey r s ∧
        (keySlot u (reqSlot r)).active = (keySlot s (reqSlot r)).active ∧ (keySlot u (reqSlot r)).usage = (keySlot s (reqSlot r)).usage) ∧
      (Runs 0x0D04 chkKeyVerify r s →
        (proofOf (keySlot s (reqSlot r)).alg ((keySlot s (reqSlot r)).shadow.getD []) ((r.words.drop 4).take 4) = [r.w 8, r.w 9] →
          ∃ u, exec (.keyVerify f0 f1) s = .next (ok r [] u) ∧ keySlot u (reqSlot r) = { keySlot s (reqSlot r) with st := .verified }) ∧
        (proofOf (keySlot s (reqSlot r)).alg ((keySlot s (reqSlot r)).shadow.getD []) ((r.words.drop 4).take 4) ≠ [r.w 8, r.w 9] →
          ∃ u, exec (.keyVerify f0 f1) s = .next (failReq r ⟨12, stVerifyFail, 0xFFFF, (keySlot s (reqSlot r)).vfail + 1⟩ u) ∧
            (2 ≤ (keySlot s (reqSlot r)).vfail → (keySlot s (reqSlot r)).active ≠ none → (keySlot u (reqSlot r)).shadow = none))) ∧
      (Runs 0x0D08 chkKeyDestroy r s → bit (r.w 3) 31 = true →
        ∃ u, exec (.keyDestroy f0 f1) s = .next (ok r [] u) ∧ u.key.slots = tdel s.key.slots (reqSlot r)) ∧
      (Runs 0x0D08 chkKeyDestroy r s → bit (r.w 3) 31 = false →
        ∃ u, exec (.keyDestroy f0 f1) s = .next (ok r [] u) ∧ (keySlot u (reqSlot r)).shadow = none ∧
          (keySlot u (reqSlot r)).active = (keySlot s (reqSlot r)).active) ∧
      (Runs 0x0D09 chkKeyWorldSet r s → bit (r.w 3) 31 = true → r.w 4 ≠ 0 →
        ∃ u w, exec (.keyWorldSet f0 f1) s = .next (ok r [w] u) ∧ u.key.worlds = s.key.worlds ∧ u.key.copy0 = u.key.copy1 ∧
          u.key.copy0.2 = putPage (storedWorlds s) (reqPage r) (writtenPage r s))) ∧
    ((norWrite 2 f0 f1 (took r s)).2 = false →
      (Runs 0x0D02 (chkPutKey 0x0D02 false) r s → ∃ u, exec (.keyImport f0 f1) s = .next (failReq r ⟨13, stMedia, 0xFFFF, 0⟩ u) ∧ u.key = s.key) ∧
      (Runs 0x0D03 (chkPutKey 0x0D03 true) r s → ∃ u, exec (.keyStage f0 f1) s = .next (failReq r ⟨13, stMedia, 0xFFFF, 0⟩ u) ∧
        u.key = s.key)) ∧
    (Runs 0x0D05 chkKeyCommit r s → tlRoom s.tl 0x11 2 = true → blockers s.bal 3 = [] → reqSlot r ≠ 0 →
      (norWrite 2 f0 f1 (startAct 3 (reqSlot r % 256) (took r s))).2 = true →
      ∃ u p, exec (.keyCommit f0 f1) s = .next (accept r u) ∧ (keySlot u (reqSlot r)).st = .pending ∧
        (keySlot u (reqSlot r)).pend = some p ∧ p.target = targetCyc r s ∧ p.w = fld (r.w 4) 23 0 ∧
        (keySlot u (reqSlot r)).shadow = (keySlot s (reqSlot r)).shadow ∧
        ∃ x ∈ u.tl.entries, x.kind = .keyCommit (reqSlot r) ∧ x.target = targetCyc r s * 4096 ∧ x.rank = 1) ∧
    (Runs 0x0D06 chkKeyAttest r s → ∃ u sig, exec .keyAttest s = .next (ok r
        (statement s (reqSlot r) (fld (r.w 3) 31 31) ((r.words.drop 4).take 8) ++ sig) u) ∧ OnlyChanges [.cmd, .clk] s u) ∧
    (Runs 0x0D07 chkKeyInfo r s → bit (r.w 3) 31 = false → ∃ ws, exec .keyInfo s = .next (ok r
        (infoHead (keySlot s (reqSlot r)) (reqSlot r) false :: lo32 (keySlot s (reqSlot r)).engines ::
          hi32 (keySlot s (reqSlot r)).engines :: ws) (took r s)) ∧ ws.length = 6) ∧
    (Runs 0x0D07 chkKeyInfo r s → bit (r.w 3) 31 = true → exec .keyInfo s = .next (ok r
        (infoHead (keySlot s (reqSlot r)) (reqSlot r) true ::
          kwWrap ((slotKeys s (fld (r.w 3) 19 10) 4 none).headD []) ((keySlot s (reqSlot r)).active.getD []) ++ [0, 0])
        (logNs evKeyExported r.port.val [r.port.val, reqSlot r, fld (r.w 3) 19 10] (took r s)))) ∧
    (Runs 0x0D09 chkKeyWorldSet r s → bit (r.w 3) 31 = true → r.w 4 = 0 → ∃ w, exec (.keyWorldSet f0 f1) s = .next (ok r [w] (took r s))) ∧
    (Runs 0x0D09 chkKeyWorldSet r s → bit (r.w 3) 31 = false → ∃ w, exec (.keyWorldSet f0 f1) s = .next (ok r [w] (took r s))) ∧
    (∀ w l, s.key.rewraps = w :: l → s.upd.windowOpen = false → served s = true →
      ∃ t, exec .kekRewrapComplete s = .next t ∧ t.key.rewraps = l ∧
        ∀ ep y, s.lat.recs.filter (fun r => r.2.kekSlot == w.slot && (r.2.keyCur.isSome || r.2.keyPrev.isSome)) = [(ep, y)] →
          epOf s ep = some y → ∃ x, epOf t ep = some x ∧ x.keyCur = rewrapKey (keySlot s w.slot) y.keyCur ∧
            x.keyPrev = rewrapKey (keySlot s w.slot) y.keyPrev ∧ x.outCtr = y.outCtr ∧ x.inCur = y.inCur) ∧
    (s.key.rewraps = [] → exec .kekRewrapComplete s = .next s) ∧
    (∀ o0 o1, s.pwr.mode = .shelf ∨ s.clk.xtal < s.rtc.tampTick + 1024 → exec (.tamperSample o0 o1) s =
      .next { s with rtc := { s.rtc with tampOpen := b2n o0 + 2 * b2n o1 } }) ∧
    (∀ o0 o1, s.pwr.mode ≠ .shelf → s.rtc.tampTick + 1024 ≤ s.clk.xtal → tampState s.rtc.tampCfg (b2n o0 + 2 * b2n o1) 0 = false →
      (tampState s.rtc.tampCfg (b2n o0 + 2 * b2n o1) 1 = false →
        ∃ t, exec (.tamperSample o0 o1) s = .next t ∧ t.rtc.tampRun = (0, 0) ∧ t.rtc.tampTick = s.clk.xtal ∧ OnlyChanges [.rtc] s t) ∧
      (tampState s.rtc.tampCfg (b2n o0 + 2 * b2n o1) 1 = true → s.rtc.tampRun.2 + 1 = tampFilt s.rtc.tampCfg 1 →
        ∃ t, exec (.tamperSample o0 o1) s = .next t ∧ t.rtc.tampered = true ∧ t.rtc.bram.take 8 = List.replicate 8 0 ∧
          t.rtc.tampLatched.testBit 1 = true ∧
          (powered s = true → t.key.slots = s.key.slots.map (fun x => (x.1, { emptySlot with st := .lost })) ∧ t.key.gens = [] ∧
            t.key.everCommitted = s.key.everCommitted ∧ t.key.worlds = s.key.worlds ∧ t.key.identity = s.key.identity) ∧
          (powered s = false → t.rtc.rootSecret = 0 ∧ t.key = s.key)))

/-- A read of a memory under the checks changes nothing where it is clean; a corrected one counts one correctable error of that memory
alone; an uncorrectable one counts one uncorrectable error and resets the block where R446's table says so, and otherwise has the table's
effect on the memory named. The DRAM patrol moves on and, at the end of a pass, counts the pass, notes its cycle and leaves the high rate,
which lasts 600 s at least. An armed flip ends after 1 s with result 4, or one minute after it was injected unread with result 5. A DRAM
page is retired once, at most 128 of them. A repair that completes takes one of the repairs left and, where it holds, is listed with its
memory. NAND reclaim runs between its start and its end, and not while the recorder is frozen (after R442 to R465, R403). Memories are read
and checked from step 4 of BOOT on, also while it is halted; what each read finds is an input of the model (assumption 82). -/
def Obligations.MemoryErrorsAreCountedAndContained : Prop :=
  ∀ s : State,
    (∀ k m, memRuns s k = true → memPresent s.dev.variant k = true → k ≠ 0 → k < s.mem.mems.length → s.mem.flip = none →
      (m.v = .clean → exec (.scrubRead k m) s = .next s) ∧
      (∀ b, m.v = .corrected b → ∃ t, exec (.scrubRead k m) s = .next t ∧ (memOf t k).ce = inc32 (memOf s k).ce ∧
        (memOf t k).ue = (memOf s k).ue ∧ (∀ j, j ≠ k → memOf t j = memOf s j) ∧ t.mem.retired = s.mem.retired ∧ t.lat = s.lat ∧ t.key = s.key) ∧
      (∀ cold cause, m.v = .uncorrectable → ueReset k 0x1F = some (cold, cause) → k ≠ 0x0F →
        ∃ u, exec (.scrubRead k m) s = .next (internalReset cold cause u) ∧ (memOf u k).ue = inc32 (memOf s k).ue ∧ u.lat = s.lat) ∧
      (m.v = .uncorrectable → ueReset k 0x1F = none →
        ∃ u, exec (.scrubRead k m) s = .next (ueMemory k { m with region := 0x1F } u) ∧ (memOf u k).ue = inc32 (memOf s k).ue)) ∧
    (∀ words m f0 f1, memRuns s 0 = true → s.mem.flip = none → m.v = .clean → m.injected = false →
      (s.mem.passAt + words < passWords s → exec (.dramPatrol words m f0 f1) s = .next { s with mem := { s.mem with passAt := s.mem.passAt + words } }) ∧
      -- a pass at the high rate takes its 600 s
      (0 < words → passWords s ≤ s.mem.passAt + words → s.mem.high = true → s.clk.ticks < s.mem.highSince + 600 * 40000000 →
        exec (.dramPatrol words m f0 f1) s = .next s) ∧
      (0 < words → passWords s ≤ s.mem.passAt + words → s.mem.high = false ∨ s.mem.highSince + 600 * 40000000 ≤ s.clk.ticks → ∃ t, exec (.dramPatrol words m f0 f1) s = .next t ∧ t.mem.passAt = 0 ∧
        t.mem.passes = sat 16 (s.mem.passes + 1) ∧ t.mem.passCyc = cycOf s ∧ t.mem.high = false)) ∧
    (∀ w, s.mem.flip = none → exec (.flipTimeout w) s = .next s) ∧
    (∀ a, s.mem.flip = some a →
      (s.clk.ticks < a.since + 40000000 → exec (.flipTimeout none) s = .next s) ∧
      (a.since + 40000000 ≤ s.clk.ticks → exec (.flipTimeout none) s = .next (endFlip 4 a s)) ∧
      (∀ t, memWithdrawn s a.target = false → a.since ≤ t → t ≤ a.since + 40000000 → t + 60 * 40000000 ≤ s.clk.ticks →
        exec (.flipTimeout (some t)) s = .next (endFlip 5 a s))) ∧
    (∀ a, (endFlip 4 a s).mem.flip = none ∧ (endFlip 4 a s).mem.flipResult = 4) ∧
    (∀ cause region addr f0 f1,
      ((∃ r ∈ s.mem.retired, r.page = dramPage addr) → retirePage cause region addr f0 f1 s = (s, true)) ∧
      ((∀ r ∈ s.mem.retired, r.page ≠ dramPage addr) → s.mem.retired.length < 128 →
        (retirePage cause region addr f0 f1 s).1.mem.retired =
          s.mem.retired ++ [⟨dramPage addr, cause, (retirePage cause region addr f0 f1 s).2⟩]) ∧
      ((∀ r ∈ s.mem.retired, r.page ≠ dramPage addr) → 128 ≤ s.mem.retired.length →
        (retirePage cause region addr f0 f1 s).1.mem.retired = s.mem.retired ∧ (retirePage cause region addr f0 f1 s).2 = false)) ∧
    (∀ x l f0 f1, s.mem.runs = x :: l → x.kind ≠ 3 →
      (∃ u, exec (.memRepairComplete false f0 f1) s = .next (completeFail x.org ⟨13, stVerifyFail, 0xFFFF, 0⟩ u) ∧
        u.mem.fieldLeft = s.mem.fieldLeft - 1 ∧ u.mem.runs = l ∧ u.mem.mems = s.mem.mems) ∧
      (x.mem < s.mem.mems.length → ∃ t, exec (.memRepairComplete true f0 f1) s = .next t ∧ t.mem.fieldLeft = s.mem.fieldLeft - 1 ∧
        (memOf t x.mem).repairs = (memOf s x.mem).repairs ++ [⟨x.kind, x.addr, decide (5 ≤ x.mem)⟩])) ∧
    (∀ f0 f1 b, s.mem.runs = [] → exec (.memRepairComplete b f0 f1) s = .next s) ∧
    (∀ part block n, fwRuns s = true → s.upd.windowOpen = false → (part = 0 → logFrozen s = false) →
      (reclaiming s part = false → blockers s.bal 9 = [] → ∃ t, exec (.nandReclaim part block n .start) s = .next t ∧
        t.bal.running = s.bal.running ++ [⟨9, part⟩] ∧ t.mem.nandErase = Nat.max s.mem.nandErase n) ∧
      (∃ t, exec (.nandReclaim part block n .finish) s = .next t ∧ reclaiming t part = false ∧
        t.mem.nandErase = Nat.max s.mem.nandErase n ∧ OnlyChanges [.mem, .bal] s t)) ∧
    (∀ block n job, logFrozen s = true → exec (.nandReclaim 0 block n job) s = .next s)

/-- MEM.STATUS answers 27 words; MEM.ERRORS reports the counts and the table of a memory, clearing them only where asked, or the retired
pages; MEM.FLIP arms a flip or disarms it; MEM.REPAIR accepts a repair and lists it with the running ones; MEM.SCRUB keeps the interval for
the next cycle boundary, starts a pass at the high rate from address 0, or ends it; MEM.WITHDRAW and MEM.RESTORE post the withdrawal and its
end for the next cycle boundary at rank 3; MEM.ACTIVITY answers 15 words. At its entry a withdrawal takes effect and its request is answered
OK; at its end the unit is given back; a time limit that has run out posts the end. An activity that waited is started again once nothing
blocks it outside a window (after R452, R455, R466, R488 to R494, R500). A withdrawal that no front end would survive is judged by
withdrawals alone (assumption 86). -/
def Obligations.MaintenanceCommandsAct : Prop :=
  ∀ (r : Req) (s : State),
    (Runs 0x0E01 chkMemStatus r s → ∃ ws u, exec .memStatus s = .next (ok r ws u) ∧ ws.length = 27 ∧ OnlyChanges [.cmd, .clk] s u) ∧
    (Runs 0x0E02 chkMemErrors r s → bit (r.w 3) 27 = false →
      ∃ ws u, exec .memErrors s = .next (ok r (packW [(fld (r.w 3) 31 28, 28), (b2n (memOf s (fld (r.w 3) 31 28)).ovf, 27),
        ((memOf s (fld (r.w 3) 31 28)).table.length, 16)] :: wd (memOf s (fld (r.w 3) 31 28)).ce :: wd (memOf s (fld (r.w 3) 31 28)).ue :: ws) u) ∧
      (bit (r.w 3) 26 = true → (memOf u (fld (r.w 3) 31 28)).ce = 0 ∧ (memOf u (fld (r.w 3) 31 28)).ue = 0 ∧
        (memOf u (fld (r.w 3) 31 28)).table = [] ∨ s.mem.mems.length ≤ fld (r.w 3) 31 28) ∧
      (bit (r.w 3) 26 = false → u.mem = s.mem)) ∧
    (Runs 0x0E02 chkMemErrors r s → bit (r.w 3) 27 = true → ∃ u, exec .memErrors s = .next (ok r (wd s.mem.retired.length ::
      s.mem.retired.map fun p => packW [(p.page, 13), (p.cause, 11)]) u)) ∧
    (Runs 0x0E03 chkMemFlip r s →
      (fld (r.w 3) 27 26 ≠ 0 → ∃ u a, exec .memFlip s = .next (ok r [] u) ∧ u.mem.flip = some a ∧ a.count = fld (r.w 3) 27 26 ∧
        a.target = fld (r.w 3) 31 28 ∧ a.since = s.clk.ticks ∧ a.port = r.port ∧ u.mem.flips = sat 16 (s.mem.flips + 1)) ∧
      (fld (r.w 3) 27 26 = 0 → ∃ u, exec .memFlip s = .next (ok r [] u) ∧ u.mem.flip = none ∧ u.mem.flipResult = 0)) ∧
    (Runs 0x0E04 chkMemRepair r s → (fld (r.w 3) 27 26 < 2 → blockers s.bal 2 = []) →
      ∃ u, exec .memRepair s = .next (acceptN r u) ∧
        u.mem.runs = s.mem.runs ++ [⟨r.origin, fld (r.w 3) 31 28, fld (r.w 3) 27 26, (r.w 4).toNat, s.clk.ticks⟩]) ∧
    (Runs 0x0E05 chkMemScrub r s →
      (scrubOp r = 0 → Room 0x13 s → exec .memScrub s = .next (ok r [] (tlPut (nextBoundary s) 3 0x13 (.config r) true (took r s)))) ∧
      (scrubOp r = 1 → blockers s.bal 1 = [] → ∃ u, exec .memScrub s = .next (ok r [] u) ∧ u.mem.high = true ∧ u.mem.highSince = s.clk.ticks ∧ u.mem.passAt = 0 ∧
        u.bal.running = s.bal.running ++ [⟨1, 0xFF⟩]) ∧
      (2 ≤ scrubOp r → ∃ u, exec .memScrub s = .next (ok r [] u) ∧ u.mem.high = false)) ∧
    (Runs 0x0E06 chkMemWithdraw r s → tlRoom s.tl 0x14 1 = true → blockers s.bal 10 = [] →
      ∃ t w x, exec .memWithdraw s = .next t ∧ t.bal.withdrawals = s.bal.withdrawals ++ [w] ∧ w.block = wdBlock r ∧ w.half = wdHalf r ∧
        w.active = false ∧ w.limitS = fld (r.w 3) 16 0 ∧ w.req = some r ∧ t.ports = s.ports ∧ t.tl.entries = s.tl.entries ++ [x] ∧
        x.kind = .withdraw (wdBlock r) (wdHalf r) ∧ x.target = nextBoundary s ∧ x.rank = 3) ∧
    (∀ w, Runs 0x0E07 chkMemRestore r s → wdFind s (wdBlock r) (wdHalf r) = some w → w.ending = false →
      ∃ t x, exec .memRestore s = .next t ∧ t.tl.entries = s.tl.entries ++ [x] ∧ x.kind = .withdrawEnd (wdBlock r) (wdHalf r) ∧
        x.target = nextBoundary s ∧ t.ports = s.ports) ∧
    (Runs 0x0E08 chkMemActivity r s → ∃ ws, exec .memActivity s = .next (ok r ws (took r s)) ∧ ws.length = 15) ∧
    (∀ e b h w q fails, Due e s → e.kind = .withdraw b h → wdFind s b h = some w → w.req = some q →
      ∃ u, exec (.withdrawalApply fails) s = .next (ok q [] u) ∧
        (b = 9 → ∃ x ∈ u.bal.withdrawals, x.block = b ∧ x.half = h ∧ x.active = true ∧ x.since = s.clk.ticks)) ∧
    (∀ e b h w, Due e s → e.kind = .withdrawEnd b h → wdFind s b h = some w →
      exec .withdrawalEnd s = .next (endWithdrawal w (tlRemove e.seq s))) ∧
    (∀ w, tlDue s = none → s.bal.withdrawals.find? (fun w => w.expired s.clk.ticks) = some w →
      ∃ t x, exec .withdrawalEnd s = .next t ∧ t.tl.entries = s.tl.entries ++ [x] ∧ x.kind = .withdrawEnd w.block w.half ∧
        x.target = nextBoundary s) ∧
    (tlDue s = none → s.bal.withdrawals.find? (fun w => w.expired s.clk.ticks) = none → exec .withdrawalEnd s = .next s) ∧
    (∀ inst, s.bal.waitCompact = true → blockers s.bal 8 = [] → s.upd.windowOpen = false →
      ∃ t, exec (.internalActivityRestart 8 inst) s = .next t ∧ t.bal.waitCompact = false ∧ t.bal.running = s.bal.running ++ [⟨8, 0xFF⟩] ∧
        OnlyChanges [.bal] s t) ∧
    (∀ inst, s.bal.waitReclaim = true → blockers s.bal 9 = [] → s.upd.windowOpen = false → (inst = 0 → logFrozen s = false) →
      ∃ t, exec (.internalActivityRestart 9 inst) s = .next t ∧ t.bal.waitReclaim = false ∧ t.bal.running = s.bal.running ++ [⟨9, inst⟩]) ∧
    (∀ inst, s.bal.waitCompact = false → exec (.internalActivityRestart 8 inst) s = .next s)

/-- Without an activation the events of a window change nothing. A prepared activation posts the opening for its cycle, or for the first
cycle starting 8,192 pu or more later, at rank 2, or stays in preparation where no entry is free (assumption 87); one not prepared a cycle
before its cycle ends the session and empties the other bank. The entry opens the window and notes the engines still in use, each of which
changes over when it is free. The first report before seven cycles are over is noted; after seven cycles without one an activation resumes
the old set, by resuming it in place until the close or by a reset with cause 0x08, and a rollback runs the other set. The close after a
report puts the other set into service, on trial after an activation and not after a rollback, exchanges the banks, and leaves the rollback
floor; after a time-out resumed in place it leaves the set in service and the session VERIFIED (after R87, R476, R479 to R485). Whether the
old set could resume is an input of the model (assumption 88). -/
def Obligations.TheHandoverWindowChangesSets : Prop :=
  ∀ (s : State) (a : Activation),
    (s.upd.act = none → ∀ n b l, exec .preparationComplete s = .next s ∧ exec .preparationDeadline s = .next s ∧
      exec .firmwareReady s = .next s ∧ exec (.handoverTimeout b l) s = .next s ∧ exec (.handoverClose l) s = .next s ∧
      (s.upd.late.testBit n = false → exec (.engineChangeover n) s = .next s)) ∧
    (s.upd.act = some a →
      -- a post that finds no entry free is refused, and the activation stays in preparation (R87)
      (a.prepared = false → served s = true → (∀ c, a.target = some c → s.tt.tt ≤ (c - 1) * 4096) → tlRoom s.tl 0x12 1 = false →
        ∃ t, exec .preparationComplete s = .next t ∧ t.tl.entries = s.tl.entries ∧ t.upd = s.upd) ∧
      (a.prepared = false → served s = true → (∀ c, a.target = some c → s.tt.tt ≤ (c - 1) * 4096) → tlRoom s.tl 0x12 1 = true →
        ∃ t x, exec .preparationComplete s = .next t ∧ t.tl.entries = s.tl.entries ++ [x] ∧ x.kind = .handover ∧ x.rank = 2 ∧
          x.block = 0x12 ∧ x.target = a.target.getD (ceilCyc (s.tt.tt + 8192)) * 4096 ∧
          t.upd.act = some { a with prepared := true, target := some (a.target.getD (ceilCyc (s.tt.tt + 8192))) }) ∧
      (∀ c, a.target = some c → a.prepared = false → (c - 1) * 4096 ≤ s.tt.tt →
        ∃ t, exec .preparationDeadline s = .next t ∧ t.upd.session = initSession ∧ t.upd.act = none ∧ t.upd.other = .empty ∧
          t.upd.lastOutcome = 3 ∧ t.upd.active = s.upd.active ∧ t.upd.bank = s.upd.bank) ∧
      (∀ e, Due e s → e.kind = .handover →
        ∃ t, exec .handoverOpen s = .next t ∧ t.upd.windowOpen = true ∧ t.upd.openCyc = e.target / 4096 ∧ t.upd.late = busyMask s ∧
          (a.rollback = false → t.upd.session.st = .handover) ∧ t.upd.act = some a ∧ t.upd.active = s.upd.active) ∧
      (s.upd.windowOpen = true → a.ready = none → a.timedOut = false →
        (s.tt.tt ≤ (s.upd.openCyc + 7) * 4096 →
          exec .firmwareReady s = .next { s with upd := { s.upd with act := some { a with ready := some (cycOf s) } } }) ∧
        ((s.upd.openCyc + 7) * 4096 ≤ s.tt.tt → ∀ crcBad,
          (a.rollback = true → ∀ b, ∃ t, exec (.handoverTimeout b crcBad) s = .next t ∧ t.upd.active = s.upd.otherMan ∧
            t.upd.bank = 1 - s.upd.bank ∧ t.upd.other = .standby ∧ t.upd.trial = false ∧
            (alive s = true → s.pwr.bootStep ≠ .inReset → t.pwr.cause = 8 ∧ t.pwr.bootStep = .phase)) ∧
          (a.rollback = false → exec (.handoverTimeout false crcBad) s = .next (internalReset false 8 s) ∧
            ∃ t, exec (.handoverTimeout true crcBad) s = .next t ∧ t.upd.act = some { a with timedOut := true } ∧
              t.upd.active = s.upd.active ∧ OnlyChanges [.upd] s t))) ∧
      (s.upd.windowOpen = true → ∀ crcBad,
        (∀ k, a.ready = some k → cycOf s ≤ k → exec (.handoverClose crcBad) s = .next s) ∧
        (∀ k, a.ready = some k → k < cycOf s →
          (a.rollback = false → ∃ t, exec (.handoverClose crcBad) s = .next t ∧ t.upd.windowOpen = false ∧ t.upd.act = none ∧
            t.upd.active = s.upd.session.man ∧ t.upd.otherMan = s.upd.active ∧ t.upd.bank = 1 - s.upd.bank ∧ t.upd.other = .standby ∧
            t.upd.trial = true ∧ t.upd.trialS = a.trialS ∧ t.upd.trialRun = 0 ∧ t.upd.session.st = .trial ∧
            t.upd.floor = s.upd.floor ∧ t.upd.lastOpen = s.upd.openCyc ∧ t.upd.lastOutcome = 0) ∧
          (a.rollback = true → ∃ t, exec (.handoverClose crcBad) s = .next t ∧ t.upd.windowOpen = false ∧ t.upd.act = none ∧
            t.upd.active = s.upd.otherMan ∧ t.upd.otherMan = s.upd.active ∧ t.upd.bank = 1 - s.upd.bank ∧ t.upd.other = .standby ∧
            t.upd.trial = false ∧ t.upd.floor = s.upd.floor)) ∧
        (a.ready = none → a.timedOut = true → (s.upd.openCyc + 8) * 4096 ≤ s.tt.tt →
          ∃ t, exec (.handoverClose crcBad) s = .next t ∧ t.upd.windowOpen = false ∧ t.upd.act = none ∧ t.upd.active = s.upd.active ∧
            t.upd.bank = s.upd.bank ∧ t.upd.session.st = .verified ∧ t.upd.lastOutcome = 1))) ∧
    (∀ n, s.upd.late.testBit n = true → engineBusy s n = false →
      exec (.engineChangeover n) s = .next { s with upd := { s.upd with late := setBit s.upd.late n false } }) ∧
    (∀ n, engineBusy s n = true → exec (.engineChangeover n) s = .next s) ∧
    (∀ e, Due e s → e.kind ≠ .handover → exec .handoverOpen s = .next s)

/-- UPD.BEGIN answers the first failed check of the manifest and changes no unit of update, answers MEDIA where the erase fails, or opens a
session in the other bank; CHUNK appends words and, where a part is whole, compares its hash, a wrong one failing the session; VERIFY is
accepted, and its end answers the number of parts and the digest, or names the first part that does not verify; ACTIVATE with operation 1
confirms the trial, in a halted boot starts the set at once, and otherwise is accepted and starts preparation; STATUS answers 12 words;
ROLLBACK is accepted; ABORT drops the session and the other bank. A trial ends by confirmation after its time in service; a confirmation
keeps the floor or raises it to that of the set in service, taking one of the raises left, and never lowers it (after R472 to R478, R482 to
R487, R494). Which NOR erases and writes fail are inputs of the model (assumption 87). -/
def Obligations.UpdateCommandsAct : Prop :=
  ∀ (r : Req) (s : State),
    (Runs 0x0F01 chkUpdBegin r s → ∀ f,
      (∀ fl x, beginReject r (took r s) = some (fl, x) →
        ∃ u, exec (.updBegin f) s = .next (failReq r fl u) ∧ u.upd = s.upd) ∧
      (beginReject r (took r s) = none → (norOn (1 - s.upd.bank) 0 f (took r s)).2 = false →
        ∃ u, exec (.updBegin f) s = .next (failReq r ⟨13, stMedia, 0xFFFF, 0⟩ u) ∧ u.upd = s.upd) ∧
      (beginReject r (took r s) = none → (norOn (1 - s.upd.bank) 0 f (took r s)).2 = true →
        ∃ u, exec (.updBegin f) s = .next (ok r [] u) ∧ u.upd.session.st = .loading ∧ u.upd.session.port = r.port ∧
          u.upd.session.man = updMan r ∧ u.upd.session.parts = List.replicate (manN (updMan r)) [] ∧ u.upd.other = .session ∧
          u.upd.otherMan = updMan r ∧ u.upd.active = s.upd.active ∧ u.upd.bank = s.upd.bank)) ∧
    (Runs 0x0F02 chkUpdChunk r s → ∀ f,
      (s.upd.session.media = true → ∃ u, exec (.updChunk f) s = .next (failReq r ⟨13, stMedia, 0xFFFF, 0⟩ u) ∧
        u.upd.session = { s.upd.session with media := false }) ∧
      (s.upd.session.media = false →
        ((gotWords s.upd.session (chunkPart r) ++ chunkData r).length = partWords s.upd.session.man (chunkPart r) →
          sha256 ((octetsOfWords (gotWords s.upd.session (chunkPart r) ++ chunkData r)).take (partLen s.upd.session.man (chunkPart r))) ≠
            partHash s.upd.session.man (chunkPart r) →
          ∃ u, exec (.updChunk f) s = .next (failReq r ⟨13, stVerifyFail, 0xFFFF, chunkPart r⟩ u) ∧ u.upd.session.st = .failed) ∧
        ((gotWords s.upd.session (chunkPart r) ++ chunkData r).length ≠ partWords s.upd.session.man (chunkPart r) ∨
          sha256 ((octetsOfWords (gotWords s.upd.session (chunkPart r) ++ chunkData r)).take (partLen s.upd.session.man (chunkPart r))) =
            partHash s.upd.session.man (chunkPart r) →
          ∃ u, exec (.updChunk f) s = .next (ok r [] u) ∧
            u.upd.session.parts = updAt s.upd.session.parts (chunkPart r) (fun _ => gotWords s.upd.session (chunkPart r) ++ chunkData r) ∧
            (u.upd.session.st = .failed ∧ u.upd.session.media = true ∨
              u.upd.session.st = (if allParts u.upd.session then .loaded else s.upd.session.st))))) ∧
    (Runs 0x0F03 chkUpdVerify r s →
      (s.upd.session.media = true → ∃ u, exec .updVerify s = .next (failReq r ⟨13, stMedia, 0xFFFF, 0⟩ u) ∧
        u.upd.session = { s.upd.session with media := false }) ∧
      (s.upd.session.media = false → ∃ u, exec .updVerify s = .next (acceptN r u) ∧ u.upd.session.st = .verifying ∧
        u.upd.session.verify = some (r.origin, s.clk.ticks))) ∧
    (∀ o since m, s.upd.session.verify = some (o, since) →
      (∃ u, exec (.updVerifyComplete m false) s = .next (completeFail o ⟨13, stMedia, 0xFFFF, 0⟩ u) ∧ u.upd.session.st = .failed) ∧
      ((∀ k, k < manN s.upd.session.man → m.testBit k = true) →
        ∃ u, exec (.updVerifyComplete m true) s = .next (complete o stOk (wd (manN s.upd.session.man) :: manDigest s.upd.session.man) u) ∧
          u.upd.session.st = .verified ∧ u.upd.session.verify = none ∧ u.upd.active = s.upd.active) ∧
      (∀ k, k < manN s.upd.session.man → m.testBit k = false → (∀ j, j < k → m.testBit j = true) →
        ∃ u, exec (.updVerifyComplete m true) s = .next (completeFail o ⟨13, stVerifyFail, 0xFFFF, k⟩ u) ∧ u.upd.session.st = .failed)) ∧
    (∀ m b, s.upd.session.verify = none → exec (.updVerifyComplete m b) s = .next s) ∧
    (Runs 0x0F04 chkUpdActivate r s →
      (actOp r = 1 → exec .updActivate s = .next (okN r [] (confirmTrial 1 (took r s)))) ∧
      (actOp r ≠ 1 → s.pwr.bootHalt = true → ∃ t, exec .updActivate s = .next t ∧ t.pwr.bootHalt = false ∧ t.pwr.bootStep = .verify ∧
        t.upd.active = s.upd.session.man ∧ t.upd.bank = 1 - s.upd.bank ∧ t.upd.trial = true ∧ t.upd.trialS = actTrial r) ∧
      (actOp r ≠ 1 → s.pwr.bootHalt = false → blockers s.bal 4 = [] →
        ∃ u, exec .updActivate s = .next (acceptN r u) ∧ u.upd.session.st = .preparing ∧
          u.upd.act = some ⟨false, r.origin, r.target, false, actTrial r, none, false⟩ ∧ u.upd.active = s.upd.active ∧
          u.bal.running = s.bal.running ++ [⟨4, 1 - s.upd.bank⟩])) ∧
    (Runs 0x0F05 chkUpdStatus r s → ∃ ws, exec .updStatus s = .next (ok r ws (took r s)) ∧ ws.length = 12) ∧
    (Runs 0x0F06 chkUpdRollback r s → blockers s.bal 4 = [] →
      ∃ u, exec .updRollback s = .next (acceptN r u) ∧ u.upd.act = some ⟨true, r.origin, none, false, 0, none, false⟩ ∧
        u.upd.session = s.upd.session ∧ u.bal.running = s.bal.running ++ [⟨4, 1 - s.upd.bank⟩]) ∧
    (Runs 0x0F07 chkUpdAbort r s → ∃ t, exec .updAbort s = .next t ∧ t.upd.session = initSession ∧ t.upd.other = .empty ∧
      t.upd.otherMan = [] ∧ t.upd.active = s.upd.active ∧ t.upd.floor = s.upd.floor) ∧
    (s.upd.trial = true → served s = true → s.upd.trialS * 40000000 ≤ s.upd.trialRun →
      exec .trialConfirm s = .next (confirmTrial 0 s)) ∧
    (s.upd.trial = false ∨ s.upd.trialRun < s.upd.trialS * 40000000 → exec .trialConfirm s = .next s) ∧
    (∀ c, (confirmTrial c s).upd.trial = false ∧ (confirmTrial c s).upd.other = .standby ∧ (confirmTrial c s).upd.session = initSession ∧
      s.upd.floor ≤ (confirmTrial c s).upd.floor ∧
      (s.upd.floorLeft ≠ 0 → (confirmTrial c s).upd.floor = Nat.max s.upd.floor (manFloor s.upd.active)) ∧
      (s.upd.floor < manFloor s.upd.active → (confirmTrial c s).upd.floorLeft = s.upd.floorLeft - 1) ∧
      (manFloor s.upd.active ≤ s.upd.floor → (confirmTrial c s).upd.floorLeft = s.upd.floorLeft))
end

