-- ==== Sys2Proof/Laws/Frame.lean ====
section
/-!
SUPPORT. Frames: what an operation leaves unchanged, as a mask over the parts of the state. `Keeps m s t` says that every part whose bit is
set in `m` is the same in `t` as in `s`: bits 0 to 26 are the units in their order in `State`, bits 27 to 44 parts of a unit,
bit 45 that the return queues stay within their sizes, bit 46 that a running Tether's count stands, bit 47 that the
remainder of the count stays below one pu.
-/
set_option Elab.async false
namespace Sys2Proof.Laws
open Sys2Proof Sys2Proof.Machine

/-- The words of the messages in a port's return queues stay within their sizes. -/
abbrev Fits (q : PortSt) : Prop := retUsed q.rsp ≤ retCap 0 ∧ retUsed q.ntf ≤ retCap 1

/-- Two states agree on a part. -/
def Agree (k : Nat) (s t : State) : Prop :=
  match k with
  | 0 => t.dev = s.dev
  | 1 => t.clk = s.clk
  | 2 => t.pwr = s.pwr
  | 3 => t.wd = s.wd
  | 4 => t.tt = s.tt
  | 5 => t.tl = s.tl
  | 6 => t.alarms = s.alarms
  | 7 => t.rtc = s.rtc
  | 8 => t.shadow = s.shadow
  | 9 => t.ports = s.ports
  | 10 => t.cmd = s.cmd
  | 11 => t.log = s.log
  | 12 => t.rad = s.rad
  | 13 => t.mac = s.mac
  | 14 => t.lat = s.lat
  | 15 => t.txn = s.txn
  | 16 => t.sch = s.sch
  | 17 => t.chd = s.chd
  | 18 => t.mtr = s.mtr
  | 19 => t.sgn = s.sgn
  | 20 => t.io = s.io
  | 21 => t.can = s.can
  | 22 => t.key = s.key
  | 23 => t.mem = s.mem
  | 24 => t.upd = s.upd
  | 25 => t.bal = s.bal
  | 26 => t.pending = s.pending
  | 27 => t.key.everCommitted = s.key.everCommitted
  | 28 => t.key.debugLock = s.key.debugLock
  | 29 => t.key.debugOpen = s.key.debugOpen
  | 30 => t.key.identity = s.key.identity
  | 31 => t.key.worlds = s.key.worlds
  | 32 => t.key.slots = s.key.slots
  | 33 => t.upd.floor = s.upd.floor
  | 34 => t.upd.active = s.upd.active
  | 35 => t.tt.tt = s.tt.tt
  | 36 => t.tt.running = s.tt.running
  | 37 => t.pwr.straps = s.pwr.straps
  | 38 => t.pwr.bootStep = s.pwr.bootStep
  | 39 => t.pwr.flush = s.pwr.flush
  | 40 => t.pwr.commissioned = s.pwr.commissioned
  | 41 => t.lat.recs = s.lat.recs
  | 42 => t.sch.groups = s.sch.groups
  | 43 => t.cmd.taken = s.cmd.taken
  | 44 => t.tt.reserve = s.tt.reserve
  | 45 => ∀ p, Fits (s.ports.get p) → Fits (t.ports.get p)
  | 46 => t.tt.running = true → s.tt.running = true ∧ t.tt.tt = s.tt.tt
  | 47 => s.clk.ttAcc < 65536 * 40000000 → t.clk.ttAcc < 65536 * 40000000
  | _ => True

/-- Two states agree on every part that a mask selects. -/
structure Keeps (m : Nat) (s t : State) : Prop where
  get : ∀ k, m.testBit k = true → Agree k s t

theorem Agree.refl (k : Nat) (s : State) : Agree k s s := by
  unfold Agree
  split <;> first | trivial | exact fun _ h => h | exact fun h => ⟨h, rfl⟩ | exact fun h => h

theorem Agree.trans {k : Nat} {s t u : State} (g : Agree k s t) (h : Agree k t u) : Agree k s u := by
  unfold Agree at *
  split <;> first | exact Eq.trans h g | trivial | exact fun p x => h p (g p x) |
                    exact fun x => ⟨(g (h x).1).1, (h x).2.trans (g (h x).1).2⟩ | exact fun x => h (g x)

theorem Keeps.refl (m : Nat) (s : State) : Keeps m s s := ⟨fun k _ => Agree.refl k s⟩

theorem Keeps.step {m : Nat} {s t u : State} (h : Keeps m t u) (g : Keeps m s t) : Keeps m s u :=
  ⟨fun k e => (g.get k e).trans (h.get k e)⟩

/-- A narrower mask. -/
theorem Keeps.weaken {m n : Nat} {s t : State} (h : Keeps n s t) (e : m &&& n = m) : Keeps m s t := by
  refine ⟨fun k hk => h.get k ?_⟩
  have := congrArg (fun x => Nat.testBit x k) e
  simp only [Nat.testBit_and, hk, Bool.true_and] at this
  exact this

/-- One more operation, of a wider mask. -/
theorem Keeps.via {m n : Nat} {s t u : State} (h : Keeps n t u) (e : m &&& n = m) (g : Keeps m s t) : Keeps m s u := (h.weaken e).step g

/-- A fold of operations. -/
theorem Keeps.fold {α : Type} {m : Nat} {s t : State} (f : State → α → State) (l : List α) (h : ∀ s x, Keeps m s (f s x))
    (g : Keeps m s t) : Keeps m s (l.foldl f t) := by
  induction l generalizing t with
  | nil => exact g
  | cons a l ih => exact ih (Keeps.step (h t a) g)

/-- A fold of operations that carries a second value along. -/
theorem Keeps.foldFst {α β : Type} {m : Nat} {s : State} {t : State × β} (f : State × β → α → State × β) (l : List α)
    (h : ∀ s x, Keeps m s.1 (f s x).1) (g : Keeps m s t.1) : Keeps m s (l.foldl f t).1 := by
  induction l generalizing t with
  | nil => exact g
  | cons a l ih => exact ih (Keeps.step (h t a) g)

/-- An update: every selected part is that of the state `t` which the update starts from. -/
theorem Keeps.upd {m : Nat} {s t : State} {a1 a2 a3 a4 a5 a6 a7 a8 a9 a10 a11 a12 a13 a14 a15 a16 a17 a18 a19 a20 a21 a22 a23 a24 a25 a26}
    (h1 : m.testBit 1 = true → a1 = t.clk) (h2 : m.testBit 2 = true → a2 = t.pwr) (h3 : m.testBit 3 = true → a3 = t.wd)
    (h4 : m.testBit 4 = true → a4 = t.tt) (h5 : m.testBit 5 = true → a5 = t.tl) (h6 : m.testBit 6 = true → a6 = t.alarms)
    (h7 : m.testBit 7 = true → a7 = t.rtc) (h8 : m.testBit 8 = true → a8 = t.shadow) (h9 : m.testBit 9 = true → a9 = t.ports)
    (h10 : m.testBit 10 = true → a10 = t.cmd) (h11 : m.testBit 11 = true → a11 = t.log) (h12 : m.testBit 12 = true → a12 = t.rad)
    (h13 : m.testBit 13 = true → a13 = t.mac) (h14 : m.testBit 14 = true → a14 = t.lat) (h15 : m.testBit 15 = true → a15 = t.txn)
    (h16 : m.testBit 16 = true → a16 = t.sch) (h17 : m.testBit 17 = true → a17 = t.chd) (h18 : m.testBit 18 = true → a18 = t.mtr)
    (h19 : m.testBit 19 = true → a19 = t.sgn) (h20 : m.testBit 20 = true → a20 = t.io) (h21 : m.testBit 21 = true → a21 = t.can)
    (h22 : m.testBit 22 = true → a22 = t.key) (h23 : m.testBit 23 = true → a23 = t.mem) (h24 : m.testBit 24 = true → a24 = t.upd)
    (h25 : m.testBit 25 = true → a25 = t.bal) (h26 : m.testBit 26 = true → a26 = t.pending)
    (h27 : m.testBit 27 = true → a22.everCommitted = t.key.everCommitted) (h28 : m.testBit 28 = true → a22.debugLock = t.key.debugLock)
    (h29 : m.testBit 29 = true → a22.debugOpen = t.key.debugOpen) (h30 : m.testBit 30 = true → a22.identity = t.key.identity)
    (h31 : m.testBit 31 = true → a22.worlds = t.key.worlds) (h32 : m.testBit 32 = true → a22.slots = t.key.slots)
    (h33 : m.testBit 33 = true → a24.floor = t.upd.floor) (h34 : m.testBit 34 = true → a24.active = t.upd.active)
    (h35 : m.testBit 35 = true → a4.tt = t.tt.tt) (h36 : m.testBit 36 = true → a4.running = t.tt.running)
    (h37 : m.testBit 37 = true → a2.straps = t.pwr.straps) (h38 : m.testBit 38 = true → a2.bootStep = t.pwr.bootStep)
    (h39 : m.testBit 39 = true → a2.flush = t.pwr.flush) (h40 : m.testBit 40 = true → a2.commissioned = t.pwr.commissioned)
    (h41 : m.testBit 41 = true → a14.recs = t.lat.recs) (h42 : m.testBit 42 = true → a16.groups = t.sch.groups)
    (h43 : m.testBit 43 = true → a10.taken = t.cmd.taken) (h44 : m.testBit 44 = true → a4.reserve = t.tt.reserve)
    (h45 : m.testBit 45 = true → ∀ p, Fits (t.ports.get p) → Fits (a9.get p))
    (h46 : m.testBit 46 = true → a4.running = true → t.tt.running = true ∧ a4.tt = t.tt.tt)
    (h47 : m.testBit 47 = true → t.clk.ttAcc < 65536 * 40000000 → a1.ttAcc < 65536 * 40000000)
    (g : Keeps m s t) :
    Keeps m s (State.mk t.dev a1 a2 a3 a4 a5 a6 a7 a8 a9 a10 a11 a12 a13 a14 a15 a16 a17 a18 a19 a20 a21 a22 a23 a24 a25 a26) := by
  refine Keeps.step ⟨fun k hk => ?_⟩ g
  unfold Agree
  split
  · rfl
  · exact h1 hk
  · exact h2 hk
  · exact h3 hk
  · exact h4 hk
  · exact h5 hk
  · exact h6 hk
  · exact h7 hk
  · exact h8 hk
  · exact h9 hk
  · exact h10 hk
  · exact h11 hk
  · exact h12 hk
  · exact h13 hk
  · exact h14 hk
  · exact h15 hk
  · exact h16 hk
  · exact h17 hk
  · exact h18 hk
  · exact h19 hk
  · exact h20 hk
  · exact h21 hk
  · exact h22 hk
  · exact h23 hk
  · exact h24 hk
  · exact h25 hk
  · exact h26 hk
  · exact h27 hk
  · exact h28 hk
  · exact h29 hk
  · exact h30 hk
  · exact h31 hk
  · exact h32 hk
  · exact h33 hk
  · exact h34 hk
  · exact h35 hk
  · exact h36 hk
  · exact h37 hk
  · exact h38 hk
  · exact h39 hk
  · exact h40 hk
  · exact h41 hk
  · exact h42 hk
  · exact h43 hk
  · exact h44 hk
  · exact h45 hk
  · exact h46 hk
  · exact h47 hk
  · trivial

/-- A state on the way is settled first. -/
theorem Keeps.cut {m : Nat} {s u : State} (e : State) (h : Keeps m s e) (k : Keeps m s e → Keeps m s u) : Keeps m s u := k h

/-! ### Updates of one unit -/
theorem Keeps.set_clk {mk : Nat} {s0 s : State} {x} (he : mk &&& 0xFFFFFFFFFFFD = mk) (hc : s.clk.ttAcc < 65536 * 40000000 → x.ttAcc < 65536 * 40000000)
    (hg : Keeps mk s0 s) :
    Keeps mk s0 { s with clk := x } := by
  refine Keeps.via (n := 0xFFFFFFFFFFFD) ⟨fun k hk => ?_⟩ he hg
  unfold Agree
  split <;> first | rfl | exact absurd hk (by decide) | trivial | exact fun _ h => h | exact fun h => ⟨h, rfl⟩ | exact hc

theorem Keeps.set_pwr {mk : Nat} {s0 s : State} {x} (he : mk &&& 0xFE1FFFFFFFFB = mk) (hg : Keeps mk s0 s) :
    Keeps mk s0 { s with pwr := x } := by
  refine Keeps.via (n := 0xFE1FFFFFFFFB) ⟨fun k hk => ?_⟩ he hg
  unfold Agree
  split <;> first | rfl | exact absurd hk (by decide) | trivial | exact fun _ h => h | exact fun h => ⟨h, rfl⟩ | exact fun h => h

theorem Keeps.in_pwr {mk : Nat} {s0 s : State} {x} (he : mk &&& 0xFFFFFFFFFFFB = mk)
    (h37 : mk.testBit 37 = true → x.straps = s.pwr.straps) (h38 : mk.testBit 38 = true → x.bootStep = s.pwr.bootStep) (h39 : mk.testBit 39 = true → x.flush = s.pwr.flush) (h40 : mk.testBit 40 = true → x.commissioned = s.pwr.commissioned)
    (hg : Keeps mk s0 s) : Keeps mk s0 { s with pwr := x } := by
  refine Keeps.step ⟨fun k hk => ?_⟩ hg
  have hb : Nat.testBit 0xFFFFFFFFFFFB k = true := by
    have := congrArg (fun x => Nat.testBit x k) he
    simp only [Nat.testBit_and, hk, Bool.true_and] at this
    exact this
  unfold Agree
  split <;> first | rfl | exact absurd hb (by decide) | trivial | exact fun _ h => h | exact fun h => ⟨h, rfl⟩ | exact fun h => h | exact h37 hk | exact h38 hk | exact h39 hk | exact h40 hk

theorem Keeps.set_wd {mk : Nat} {s0 s : State} {x} (he : mk &&& 0xFFFFFFFFFFF7 = mk) (hg : Keeps mk s0 s) :
    Keeps mk s0 { s with wd := x } := by
  refine Keeps.via (n := 0xFFFFFFFFFFF7) ⟨fun k hk => ?_⟩ he hg
  unfold Agree
  split <;> first | rfl | exact absurd hk (by decide) | trivial | exact fun _ h => h | exact fun h => ⟨h, rfl⟩ | exact fun h => h

theorem Keeps.set_tt {mk : Nat} {s0 s : State} {x} (he : mk &&& 0xAFE7FFFFFFEF = mk) (hg : Keeps mk s0 s) :
    Keeps mk s0 { s with tt := x } := by
  refine Keeps.via (n := 0xAFE7FFFFFFEF) ⟨fun k hk => ?_⟩ he hg
  unfold Agree
  split <;> first | rfl | exact absurd hk (by decide) | trivial | exact fun _ h => h | exact fun h => ⟨h, rfl⟩ | exact fun h => h

theorem Keeps.in_tt {mk : Nat} {s0 s : State} {x} (he : mk &&& 0xFFFFFFFFFFEF = mk)
    (h35 : mk.testBit 35 = true ∨ mk.testBit 46 = true → x.tt = s.tt.tt)
    (h36 : mk.testBit 36 = true ∨ mk.testBit 46 = true → x.running = s.tt.running) (h44 : mk.testBit 44 = true → x.reserve = s.tt.reserve)
    (hg : Keeps mk s0 s) : Keeps mk s0 { s with tt := x } := by
  refine Keeps.step ⟨fun k hk => ?_⟩ hg
  have hb : Nat.testBit 0xFFFFFFFFFFEF k = true := by
    have := congrArg (fun x => Nat.testBit x k) he
    simp only [Nat.testBit_and, hk, Bool.true_and] at this
    exact this
  unfold Agree
  split <;> first | rfl | exact absurd hb (by decide) | trivial | exact fun _ h => h |  exact h35 (.inl hk) | exact h36 (.inl hk) | exact h44 hk |
                      exact fun e => ⟨(h36 (.inr hk)).symm.trans e, h35 (.inr hk)⟩ | exact fun h => h

theorem Keeps.count_tt {mk : Nat} {s0 s : State} {x} (he : mk &&& 0xBFFFFFFFFFEF = mk)
    (h35 : mk.testBit 35 = true → x.tt = s.tt.tt)
    (h36 : mk.testBit 36 = true → x.running = s.tt.running) (h44 : mk.testBit 44 = true → x.reserve = s.tt.reserve) (hg : Keeps mk s0 s) : Keeps mk s0 { s with tt := x } := by
  refine Keeps.step ⟨fun k hk => ?_⟩ hg
  have hb : Nat.testBit 0xBFFFFFFFFFEF k = true := by
    have := congrArg (fun x => Nat.testBit x k) he
    simp only [Nat.testBit_and, hk, Bool.true_and] at this
    exact this
  unfold Agree
  split <;> first | rfl | exact absurd hb (by decide) | trivial | exact fun _ h => h | exact h35 hk | exact h36 hk | exact h44 hk | exact fun h => h

theorem Keeps.set_tl {mk : Nat} {s0 s : State} {x} (he : mk &&& 0xFFFFFFFFFFDF = mk) (hg : Keeps mk s0 s) :
    Keeps mk s0 { s with tl := x } := by
  refine Keeps.via (n := 0xFFFFFFFFFFDF) ⟨fun k hk => ?_⟩ he hg
  unfold Agree
  split <;> first | rfl | exact absurd hk (by decide) | trivial | exact fun _ h => h | exact fun h => ⟨h, rfl⟩ | exact fun h => h

theorem Keeps.set_alarms {mk : Nat} {s0 s : State} {x} (he : mk &&& 0xFFFFFFFFFFBF = mk) (hg : Keeps mk s0 s) :
    Keeps mk s0 { s with alarms := x } := by
  refine Keeps.via (n := 0xFFFFFFFFFFBF) ⟨fun k hk => ?_⟩ he hg
  unfold Agree
  split <;> first | rfl | exact absurd hk (by decide) | trivial | exact fun _ h => h | exact fun h => ⟨h, rfl⟩ | exact fun h => h

theorem Keeps.set_rtc {mk : Nat} {s0 s : State} {x} (he : mk &&& 0xFFFFFFFFFF7F = mk) (hg : Keeps mk s0 s) :
    Keeps mk s0 { s with rtc := x } := by
  refine Keeps.via (n := 0xFFFFFFFFFF7F) ⟨fun k hk => ?_⟩ he hg
  unfold Agree
  split <;> first | rfl | exact absurd hk (by decide) | trivial | exact fun _ h => h | exact fun h => ⟨h, rfl⟩ | exact fun h => h

theorem Keeps.set_shadow {mk : Nat} {s0 s : State} {x} (he : mk &&& 0xFFFFFFFFFEFF = mk) (hg : Keeps mk s0 s) :
    Keeps mk s0 { s with shadow := x } := by
  refine Keeps.via (n := 0xFFFFFFFFFEFF) ⟨fun k hk => ?_⟩ he hg
  unfold Agree
  split <;> first | rfl | exact absurd hk (by decide) | trivial | exact fun _ h => h | exact fun h => ⟨h, rfl⟩ | exact fun h => h

theorem Keeps.set_ports {mk : Nat} {s0 s : State} {x} (he : mk &&& 0xFFFFFFFFFDFF = mk)
    (hp : ∀ p, Fits (s.ports.get p) → Fits (x.get p)) (hg : Keeps mk s0 s) :
    Keeps mk s0 { s with ports := x } := by
  refine Keeps.via (n := 0xFFFFFFFFFDFF) ⟨fun k hk => ?_⟩ he hg
  unfold Agree
  split <;> first | rfl | exact absurd hk (by decide) | trivial | exact hp | exact fun h => ⟨h, rfl⟩ | exact fun h => h

theorem Keeps.set_cmd {mk : Nat} {s0 s : State} {x} (he : mk &&& 0xF7FFFFFFFBFF = mk) (hg : Keeps mk s0 s) :
    Keeps mk s0 { s with cmd := x } := by
  refine Keeps.via (n := 0xF7FFFFFFFBFF) ⟨fun k hk => ?_⟩ he hg
  unfold Agree
  split <;> first | rfl | exact absurd hk (by decide) | trivial | exact fun _ h => h | exact fun h => ⟨h, rfl⟩ | exact fun h => h

theorem Keeps.in_cmd {mk : Nat} {s0 s : State} {x} (he : mk &&& 0xFFFFFFFFFBFF = mk)
    (h43 : mk.testBit 43 = true → x.taken = s.cmd.taken)
    (hg : Keeps mk s0 s) : Keeps mk s0 { s with cmd := x } := by
  refine Keeps.step ⟨fun k hk => ?_⟩ hg
  have hb : Nat.testBit 0xFFFFFFFFFBFF k = true := by
    have := congrArg (fun x => Nat.testBit x k) he
    simp only [Nat.testBit_and, hk, Bool.true_and] at this
    exact this
  unfold Agree
  split <;> first | rfl | exact absurd hb (by decide) | trivial | exact fun _ h => h | exact fun h => ⟨h, rfl⟩ | exact fun h => h | exact h43 hk

theorem Keeps.set_log {mk : Nat} {s0 s : State} {x} (he : mk &&& 0xFFFFFFFFF7FF = mk) (hg : Keeps mk s0 s) :
    Keeps mk s0 { s with log := x } := by
  refine Keeps.via (n := 0xFFFFFFFFF7FF) ⟨fun k hk => ?_⟩ he hg
  unfold Agree
  split <;> first | rfl | exact absurd hk (by decide) | trivial | exact fun _ h => h | exact fun h => ⟨h, rfl⟩ | exact fun h => h

theorem Keeps.set_rad {mk : Nat} {s0 s : State} {x} (he : mk &&& 0xFFFFFFFFEFFF = mk) (hg : Keeps mk s0 s) :
    Keeps mk s0 { s with rad := x } := by
  refine Keeps.via (n := 0xFFFFFFFFEFFF) ⟨fun k hk => ?_⟩ he hg
  unfold Agree
  split <;> first | rfl | exact absurd hk (by decide) | trivial | exact fun _ h => h | exact fun h => ⟨h, rfl⟩ | exact fun h => h

theorem Keeps.set_mac {mk : Nat} {s0 s : State} {x} (he : mk &&& 0xFFFFFFFFDFFF = mk) (hg : Keeps mk s0 s) :
    Keeps mk s0 { s with mac := x } := by
  refine Keeps.via (n := 0xFFFFFFFFDFFF) ⟨fun k hk => ?_⟩ he hg
  unfold Agree
  split <;> first | rfl | exact absurd hk (by decide) | trivial | exact fun _ h => h | exact fun h => ⟨h, rfl⟩ | exact fun h => h

theorem Keeps.set_lat {mk : Nat} {s0 s : State} {x} (he : mk &&& 0xFDFFFFFFBFFF = mk) (hg : Keeps mk s0 s) :
    Keeps mk s0 { s with lat := x } := by
  refine Keeps.via (n := 0xFDFFFFFFBFFF) ⟨fun k hk => ?_⟩ he hg
  unfold Agree
  split <;> first | rfl | exact absurd hk (by decide) | trivial | exact fun _ h => h | exact fun h => ⟨h, rfl⟩ | exact fun h => h

theorem Keeps.in_lat {mk : Nat} {s0 s : State} {x} (he : mk &&& 0xFFFFFFFFBFFF = mk)
    (h41 : mk.testBit 41 = true → x.recs = s.lat.recs)
    (hg : Keeps mk s0 s) : Keeps mk s0 { s with lat := x } := by
  refine Keeps.step ⟨fun k hk => ?_⟩ hg
  have hb : Nat.testBit 0xFFFFFFFFBFFF k = true := by
    have := congrArg (fun x => Nat.testBit x k) he
    simp only [Nat.testBit_and, hk, Bool.true_and] at this
    exact this
  unfold Agree
  split <;> first | rfl | exact absurd hb (by decide) | trivial | exact fun _ h => h | exact fun h => ⟨h, rfl⟩ | exact fun h => h | exact h41 hk

theorem Keeps.set_txn {mk : Nat} {s0 s : State} {x} (he : mk &&& 0xFFFFFFFF7FFF = mk) (hg : Keeps mk s0 s) :
    Keeps mk s0 { s with txn := x } := by
  refine Keeps.via (n := 0xFFFFFFFF7FFF) ⟨fun k hk => ?_⟩ he hg
  unfold Agree
  split <;> first | rfl | exact absurd hk (by decide) | trivial | exact fun _ h => h | exact fun h => ⟨h, rfl⟩ | exact fun h => h

theorem Keeps.set_sch {mk : Nat} {s0 s : State} {x} (he : mk &&& 0xFBFFFFFEFFFF = mk) (hg : Keeps mk s0 s) :
    Keeps mk s0 { s with sch := x } := by
  refine Keeps.via (n := 0xFBFFFFFEFFFF) ⟨fun k hk => ?_⟩ he hg
  unfold Agree
  split <;> first | rfl | exact absurd hk (by decide) | trivial | exact fun _ h => h | exact fun h => ⟨h, rfl⟩ | exact fun h => h

theorem Keeps.in_sch {mk : Nat} {s0 s : State} {x} (he : mk &&& 0xFFFFFFFEFFFF = mk)
    (h42 : mk.testBit 42 = true → x.groups = s.sch.groups)
    (hg : Keeps mk s0 s) : Keeps mk s0 { s with sch := x } := by
  refine Keeps.step ⟨fun k hk => ?_⟩ hg
  have hb : Nat.testBit 0xFFFFFFFEFFFF k = true := by
    have := congrArg (fun x => Nat.testBit x k) he
    simp only [Nat.testBit_and, hk, Bool.true_and] at this
    exact this
  unfold Agree
  split <;> first | rfl | exact absurd hb (by decide) | trivial | exact fun _ h => h | exact fun h => ⟨h, rfl⟩ | exact fun h => h | exact h42 hk

theorem Keeps.set_chd {mk : Nat} {s0 s : State} {x} (he : mk &&& 0xFFFFFFFDFFFF = mk) (hg : Keeps mk s0 s) :
    Keeps mk s0 { s with chd := x } := by
  refine Keeps.via (n := 0xFFFFFFFDFFFF) ⟨fun k hk => ?_⟩ he hg
  unfold Agree
  split <;> first | rfl | exact absurd hk (by decide) | trivial | exact fun _ h => h | exact fun h => ⟨h, rfl⟩ | exact fun h => h

theorem Keeps.set_mtr {mk : Nat} {s0 s : State} {x} (he : mk &&& 0xFFFFFFFBFFFF = mk) (hg : Keeps mk s0 s) :
    Keeps mk s0 { s with mtr := x } := by
  refine Keeps.via (n := 0xFFFFFFFBFFFF) ⟨fun k hk => ?_⟩ he hg
  unfold Agree
  split <;> first | rfl | exact absurd hk (by decide) | trivial | exact fun _ h => h | exact fun h => ⟨h, rfl⟩ | exact fun h => h

theorem Keeps.set_sgn {mk : Nat} {s0 s : State} {x} (he : mk &&& 0xFFFFFFF7FFFF = mk) (hg : Keeps mk s0 s) :
    Keeps mk s0 { s with sgn := x } := by
  refine Keeps.via (n := 0xFFFFFFF7FFFF) ⟨fun k hk => ?_⟩ he hg
  unfold Agree
  split <;> first | rfl | exact absurd hk (by decide) | trivial | exact fun _ h => h | exact fun h => ⟨h, rfl⟩ | exact fun h => h

theorem Keeps.set_io {mk : Nat} {s0 s : State} {x} (he : mk &&& 0xFFFFFFEFFFFF = mk) (hg : Keeps mk s0 s) :
    Keeps mk s0 { s with io := x } := by
  refine Keeps.via (n := 0xFFFFFFEFFFFF) ⟨fun k hk => ?_⟩ he hg
  unfold Agree
  split <;> first | rfl | exact absurd hk (by decide) | trivial | exact fun _ h => h | exact fun h => ⟨h, rfl⟩ | exact fun h => h

theorem Keeps.set_can {mk : Nat} {s0 s : State} {x} (he : mk &&& 0xFFFFFFDFFFFF = mk) (hg : Keeps mk s0 s) :
    Keeps mk s0 { s with can := x } := by
  refine Keeps.via (n := 0xFFFFFFDFFFFF) ⟨fun k hk => ?_⟩ he hg
  unfold Agree
  split <;> first | rfl | exact absurd hk (by decide) | trivial | exact fun _ h => h | exact fun h => ⟨h, rfl⟩ | exact fun h => h

theorem Keeps.set_key {mk : Nat} {s0 s : State} {x} (he : mk &&& 0xFFFE07BFFFFF = mk) (hg : Keeps mk s0 s) :
    Keeps mk s0 { s with key := x } := by
  refine Keeps.via (n := 0xFFFE07BFFFFF) ⟨fun k hk => ?_⟩ he hg
  unfold Agree
  split <;> first | rfl | exact absurd hk (by decide) | trivial | exact fun _ h => h | exact fun h => ⟨h, rfl⟩ | exact fun h => h

theorem Keeps.in_key {mk : Nat} {s0 s : State} {x} (he : mk &&& 0xFFFFFFBFFFFF = mk)
    (h27 : mk.testBit 27 = true → x.everCommitted = s.key.everCommitted) (h28 : mk.testBit 28 = true → x.debugLock = s.key.debugLock) (h29 : mk.testBit 29 = true → x.debugOpen = s.key.debugOpen) (h30 : mk.testBit 30 = true → x.identity = s.key.identity) (h31 : mk.testBit 31 = true → x.worlds = s.key.worlds) (h32 : mk.testBit 32 = true → x.slots = s.key.slots)
    (hg : Keeps mk s0 s) : Keeps mk s0 { s with key := x } := by
  refine Keeps.step ⟨fun k hk => ?_⟩ hg
  have hb : Nat.testBit 0xFFFFFFBFFFFF k = true := by
    have := congrArg (fun x => Nat.testBit x k) he
    simp only [Nat.testBit_and, hk, Bool.true_and] at this
    exact this
  unfold Agree
  split <;> first | rfl | exact absurd hb (by decide) | trivial | exact fun _ h => h | exact fun h => ⟨h, rfl⟩ | exact fun h => h | exact h27 hk | exact h28 hk | exact h29 hk | exact h30 hk | exact h31 hk | exact h32 hk

theorem Keeps.set_mem {mk : Nat} {s0 s : State} {x} (he : mk &&& 0xFFFFFF7FFFFF = mk) (hg : Keeps mk s0 s) :
    Keeps mk s0 { s with mem := x } := by
  refine Keeps.via (n := 0xFFFFFF7FFFFF) ⟨fun k hk => ?_⟩ he hg
  unfold Agree
  split <;> first | rfl | exact absurd hk (by decide) | trivial | exact fun _ h => h | exact fun h => ⟨h, rfl⟩ | exact fun h => h

theorem Keeps.set_upd {mk : Nat} {s0 s : State} {x} (he : mk &&& 0xFFF9FEFFFFFF = mk) (hg : Keeps mk s0 s) :
    Keeps mk s0 { s with upd := x } := by
  refine Keeps.via (n := 0xFFF9FEFFFFFF) ⟨fun k hk => ?_⟩ he hg
  unfold Agree
  split <;> first | rfl | exact absurd hk (by decide) | trivial | exact fun _ h => h | exact fun h => ⟨h, rfl⟩ | exact fun h => h

theorem Keeps.in_upd {mk : Nat} {s0 s : State} {x} (he : mk &&& 0xFFFFFEFFFFFF = mk)
    (h33 : mk.testBit 33 = true → x.floor = s.upd.floor) (h34 : mk.testBit 34 = true → x.active = s.upd.active)
    (hg : Keeps mk s0 s) : Keeps mk s0 { s with upd := x } := by
  refine Keeps.step ⟨fun k hk => ?_⟩ hg
  have hb : Nat.testBit 0xFFFFFEFFFFFF k = true := by
    have := congrArg (fun x => Nat.testBit x k) he
    simp only [Nat.testBit_and, hk, Bool.true_and] at this
    exact this
  unfold Agree
  split <;> first | rfl | exact absurd hb (by decide) | trivial | exact fun _ h => h | exact fun h => ⟨h, rfl⟩ | exact fun h => h | exact h33 hk | exact h34 hk

theorem Keeps.set_bal {mk : Nat} {s0 s : State} {x} (he : mk &&& 0xFFFFFDFFFFFF = mk) (hg : Keeps mk s0 s) :
    Keeps mk s0 { s with bal := x } := by
  refine Keeps.via (n := 0xFFFFFDFFFFFF) ⟨fun k hk => ?_⟩ he hg
  unfold Agree
  split <;> first | rfl | exact absurd hk (by decide) | trivial | exact fun _ h => h | exact fun h => ⟨h, rfl⟩ | exact fun h => h

end Sys2Proof.Laws
end

