-- ==== Sys2Proof/Laws/Queues.lean ====
section
/-!
SUPPORT. The return queues stay within their sizes: no operation on a port places a message that does not fit.
-/
set_option Elab.async false
namespace Sys2Proof.Laws
open Sys2Proof Sys2Proof.Machine

/-- One port changed among four. -/
theorem fits_upd {q : Quad PortSt} {p : Fin 4} {f : PortSt → PortSt} (h : Fits (q.get p) → Fits (f (q.get p))) (k : Fin 4)
    (hk : Fits (q.get k)) : Fits ((q.upd p f).get k) := by
  match p, k with
  | 0, 0 | 1, 1 | 2, 2 | 3, 3 => exact h hk
  | 0, 1 | 0, 2 | 0, 3 | 1, 0 | 1, 2 | 1, 3 | 2, 0 | 2, 1 | 2, 3 | 3, 0 | 3, 1 | 3, 2 => exact hk

/-- One port replaced among four. -/
theorem fits_put {q : Quad PortSt} {p : Fin 4} {v : PortSt} (h : Fits (q.get p) → Fits v) (k : Fin 4) (hk : Fits (q.get k)) :
    Fits ((q.put p v).get k) := by
  match p, k with
  | 0, 0 | 1, 1 | 2, 2 | 3, 3 => exact h hk
  | 0, 1 | 0, 2 | 0, 3 | 1, 0 | 1, 2 | 1, 3 | 2, 0 | 2, 1 | 2, 3 | 3, 0 | 3, 1 | 3, 2 => exact hk

/-- Every port changed alike. -/
theorem fits_map {q : Quad PortSt} {f : PortSt → PortSt} (h : ∀ x, Fits x → Fits (f x)) (k : Fin 4) (hk : Fits (q.get k)) :
    Fits ((q.map f).get k) := by
  match k with
  | 0 | 1 | 2 | 3 => exact h _ hk

/-- An empty port's queues. -/
theorem fits_all (k : Fin 4) : Fits ((Quad.all initPort).get k) := by
  match k with
  | 0 | 1 | 2 | 3 => exact ⟨Nat.zero_le _, Nat.zero_le _⟩

theorem fits_refresh {q : PortSt} (h : Fits q) : Fits q.refresh := h
theorem fits_setInt {q : PortSt} {i : Nat} (h : Fits q) : Fits (q.setInt i) := h

theorem fits_setReq {q : PortSt} {k : Nat} {v : ReqQueue} (h : Fits q) : Fits (q.setReq k v) := by
  unfold PortSt.setReq; repeat (split <;> try exact h)

/-- A return queue replaced by one that fits. -/
theorem fits_setRet {q : PortSt} {r : Nat} {v : RetQueue} (h : Fits q) (hv : retUsed (q.ret r) ≤ retCap r → retUsed v ≤ retCap r) :
    Fits (q.setRet r v) := by
  unfold PortSt.setRet PortSt.ret at *
  by_cases e : r = 0
  · simp only [e, if_true] at *; exact ⟨hv h.1, h.2⟩
  · rw [if_neg e] at hv ⊢
    refine ⟨h.1, ?_⟩
    have h1 : retCap r = retCap 1 := by unfold retCap; rw [if_neg e, if_neg (by decide)]
    rw [h1] at hv; exact hv h.2

theorem retUsed_append (q : RetQueue) (m : RMsg) : retUsed { q with msgs := q.msgs ++ [m] } = retUsed q + m.words.length := by
  unfold retUsed; simp

theorem retUsed_tail (q : RetQueue) : retUsed { q with msgs := q.msgs.tail, popped := 0 } ≤ retUsed q := by
  unfold retUsed
  cases q.msgs with
  | nil => exact Nat.le_refl _
  | cons a l => simp

theorem fits_putMsg {q : PortSt} {r : Nat} {m : RMsg} (h : Fits q) (hm : q.fits r m = true) : Fits (q.putMsg r m) := by
  unfold PortSt.putMsg
  refine fits_refresh (fits_setRet h fun _ => ?_)
  rw [retUsed_append]
  exact of_decide_eq_true hm

theorem fits_placeHeld {q : PortSt} {r : Nat} {h : Held} (g : Fits q) (hm : q.fits r h.msg = true) : Fits (q.placeHeld r h) :=
  fits_putMsg g hm

theorem fits_of_mayPlace {q : PortSt} {r : Nat} {h : Held} (hm : q.mayPlace r h = true) : q.fits r h.msg = true := by
  unfold PortSt.mayPlace at hm; exact (Bool.and_eq_true_iff.mp hm).1

theorem fits_produce {q : PortSt} {r : Nat} {h : Held} (g : Fits q) : Fits (q.produce r h) := by
  unfold PortSt.produce
  split
  · rename_i e; exact fits_placeHeld g (fits_of_mayPlace (Bool.and_eq_true_iff.mp e).2)
  · exact fits_setRet g fun x => x

theorem fits_notify {q : PortSt} {code src : Nat} {cyc : Word} {payload : List Word} {ib : Option Nat} (g : Fits q) :
    Fits (q.notify code src cyc payload ib) := by
  unfold PortSt.notify
  extract_lets m p1
  have g1 : Fits p1 := g
  split
  · rename_i e
    split
    · exact fits_putMsg g1 e
    · exact fits_setInt (fits_putMsg g1 e)
  · exact fits_setInt (q := { p1 with ntfLost := _, lostSince := _ }) g1

theorem fits_pushWord {k : Nat} {w : Word} {q : PortSt} (h : Fits q) : Fits (pushWord k w q) := by
  unfold pushWord
  dsimp only
  split
  · exact fits_refresh (fits_setReq h)
  · exact fits_setReq h

theorem fits_dropStagedWords {k : Nat} {q : PortSt} (h : Fits q) : Fits (dropStagedWords k q) := fits_refresh (fits_setReq h)

theorem fits_dropHead {r : Nat} {q : PortSt} (h : Fits q) : Fits (dropHead r q) :=
  fits_refresh (fits_setRet h fun x => Nat.le_trans (retUsed_tail _) x)

theorem fits_flushQueues {q : PortSt} : Fits (flushQueues q) := ⟨Nat.zero_le _, Nat.zero_le _⟩

theorem fits_popWord {r : Nat} {q : PortSt} (h : Fits q) : Fits (popWord r q).1 := by
  unfold popWord
  dsimp only
  split
  · exact h
  · dsimp only
    split
    · exact fits_setRet h fun x => x
    · exact fits_dropHead h

theorem fits_judge {s : State} {q : PortSt} (h : Fits q) : Fits (q.judge s) := by
  unfold PortSt.judge; split <;> exact h

theorem fits_heldPlace {q : PortSt} {r : Nat} {h : Held} {t : List Held} (g : Fits q) (hm : q.mayPlace r h = true) :
    Fits ((q.setRet r { q.ret r with held := t }).placeHeld r h) := by
  refine fits_placeHeld (fits_setRet g fun x => x) ?_
  have e := fits_of_mayPlace hm
  unfold PortSt.fits at *
  have : retUsed ((q.setRet r { q.ret r with held := t }).ret r) = retUsed (q.ret r) := by
    unfold PortSt.setRet PortSt.ret
    by_cases e : r = 0 <;> simp only [e, if_true, if_false] <;> rfl
  rw [this]; exact e

end Sys2Proof.Laws
end

