-- ==== Sys2Proof/Laws/Frames/Ops.lean ====
section
/-!
SUPPORT. Frames of the operations of Machine/Ops.lean.
-/
set_option Elab.async false
namespace Sys2Proof.Laws
open Sys2Proof Sys2Proof.Machine

theorem keeps_endOrdered (p : Fin 4) (id : Nat) (s : State) {mk : Nat} {s0 : State} (he : mk &&& 0xFFFFFFFFFBFF = mk) (hg : Keeps mk s0 s) :
    Keeps mk s0 (endOrdered p id s) := by
  refine Keeps.via ?_ he hg
  unfold endOrdered
  try dsimp -zeta only
  ((try lift_lets); intro xL; subst xL)
  (with_reducible apply Keeps.in_cmd); exact rfl
  · exact fun _ => rfl
  repeat first | with_reducible exact Keeps.refl _ _ | with_reducible assumption

theorem keeps_onPort (p : Fin 4) (f : PortSt → PortSt) (s : State) {mk : Nat} {s0 : State} (he : mk &&& 0xFFFFFFFFFDFF = mk)
    (hf : Fits (s.ports.get p) → Fits (f (s.ports.get p))) (hg : Keeps mk s0 s) : Keeps mk s0 (onPort p f s) := by
  refine Keeps.via ?_ he hg
  unfold onPort
  exact Keeps.set_ports rfl (fun k hk => fits_upd hf k hk) (Keeps.refl _ _)

theorem keeps_complete (o : Origin) (status : Nat) (payload : List Word) (s : State) {mk : Nat} {s0 : State} (he : mk &&& 0xFFFFFFFFF9FF = mk) (hg : Keeps mk s0 s) :
    Keeps mk s0 (complete o status payload s) := by
  refine Keeps.via ?_ he hg
  unfold complete
  try dsimp -zeta only
  ((try lift_lets); intro xL; clear_value xL)
  (with_reducible apply keeps_endOrdered); exact rfl
  (with_reducible apply keeps_onPort); exact rfl
  · intro h; split <;> exact fits_produce h
  repeat first | with_reducible exact Keeps.refl _ _ | with_reducible assumption

theorem keeps_completeFail (o : Origin) (f : Fail) (s : State) {mk : Nat} {s0 : State} (he : mk &&& 0xFFFFFFFFF9FF = mk) (hg : Keeps mk s0 s) :
    Keeps mk s0 (completeFail o f s) := by
  refine Keeps.via ?_ he hg
  unfold completeFail
  try dsimp -zeta only
  (with_reducible apply keeps_complete); exact rfl
  repeat first | with_reducible exact Keeps.refl _ _ | with_reducible assumption

theorem keeps_tlCancel (p : TlKind → Bool) (s : State) {mk : Nat} {s0 : State} (he : mk &&& 0xFFFFFFFFFFDF = mk) (hg : Keeps mk s0 s) :
    Keeps mk s0 (tlCancel p s) := by
  refine Keeps.via ?_ he hg
  unfold tlCancel
  try dsimp -zeta only
  ((try lift_lets); intro xL; clear_value xL)
  (with_reducible apply Keeps.set_tl); exact rfl
  repeat first | with_reducible exact Keeps.refl _ _ | with_reducible assumption

theorem keeps_accept (r : Req) (s : State) {mk : Nat} {s0 : State} (he : mk &&& 0xFFFFFFFFFDFF = mk) (hg : Keeps mk s0 s) :
    Keeps mk s0 (accept r s) := by
  refine Keeps.via ?_ he hg
  unfold accept
  try dsimp -zeta only
  (with_reducible apply keeps_onPort); exact rfl
  · first | exact fun h => fits_produce h | exact fun h => fits_notify h | exact fun h => fits_pushWord h | exact fun h => fits_setReq h | exact fun h => fits_dropStagedWords h | exact fun h => fits_dropHead h | exact fun _ => fits_flushQueues | exact fun h => h
  repeat first | with_reducible exact Keeps.refl _ _ | with_reducible assumption

theorem keeps_acceptN (r : Req) (s : State) {mk : Nat} {s0 : State} (he : mk &&& 0xFFFFFFFFFDFF = mk) (hg : Keeps mk s0 s) :
    Keeps mk s0 (acceptN r s) := by
  refine Keeps.via ?_ he hg
  unfold acceptN
  try dsimp -zeta only
  split
  (with_reducible apply keeps_accept); exact rfl
  repeat first | with_reducible exact Keeps.refl _ _ | with_reducible assumption

theorem keeps_logEv (code : Nat) (inst : Nat) (content : List Word) (s : State) {mk : Nat} {s0 : State} (he : mk &&& 0xFFFFFFFFF7FF = mk) (hg : Keeps mk s0 s) :
    Keeps mk s0 (logEv code inst content s) := by
  refine Keeps.via ?_ he hg
  unfold logEv
  try dsimp -zeta only
  (with_reducible apply Keeps.set_log); exact rfl
  repeat first | with_reducible exact Keeps.refl _ _ | with_reducible assumption

theorem keeps_logLimK (code : Nat) (key : Nat) (inst : Nat) (n : Nat) (content : Nat → List Word) (s : State) {mk : Nat} {s0 : State} (he : mk &&& 0xFFFFFFFFF7FF = mk) (hg : Keeps mk s0 s) :
    Keeps mk s0 (logLimK code key inst n content s) := by
  refine Keeps.via ?_ he hg
  unfold logLimK
  try dsimp -zeta only
  ((try lift_lets); intro xL; clear_value xL)
  (intro xL; clear_value xL)
  (intro xL; clear_value xL)
  (intro xL; clear_value xL)
  split
  (with_reducible apply keeps_logEv); exact rfl
  (with_reducible apply Keeps.set_log); exact rfl
  repeat first | with_reducible exact Keeps.refl _ _ | with_reducible assumption
  (with_reducible apply Keeps.set_log); exact rfl
  repeat first | with_reducible exact Keeps.refl _ _ | with_reducible assumption

theorem keeps_logLimN (code : Nat) (inst : Nat) (n : Nat) (content : Nat → List Word) (s : State) {mk : Nat} {s0 : State} (he : mk &&& 0xFFFFFFFFF7FF = mk) (hg : Keeps mk s0 s) :
    Keeps mk s0 (logLimN code inst n content s) := by
  refine Keeps.via ?_ he hg
  unfold logLimN
  try dsimp -zeta only
  (with_reducible apply keeps_logLimK); exact rfl
  repeat first | with_reducible exact Keeps.refl _ _ | with_reducible assumption

theorem keeps_logLim (code : Nat) (inst : Nat) (content : Nat → List Word) (s : State) {mk : Nat} {s0 : State} (he : mk &&& 0xFFFFFFFFF7FF = mk) (hg : Keeps mk s0 s) :
    Keeps mk s0 (logLim code inst content s) := by
  refine Keeps.via ?_ he hg
  unfold logLim
  try dsimp -zeta only
  (with_reducible apply keeps_logLimN); exact rfl
  repeat first | with_reducible exact Keeps.refl _ _ | with_reducible assumption

theorem keeps_notifyAt (cyc : Word) (p : Fin 4) (code : Nat) (src : Nat) (payload : List Word) (s : State) (intBit : optParam (Option Nat) Option.none) {mk : Nat} {s0 : State} (he : mk &&& 0xFFFFFFFFF5FF = mk) (hg : Keeps mk s0 s) :
    Keeps mk s0 (notifyAt cyc p code src payload s intBit) := by
  refine Keeps.via ?_ he hg
  unfold notifyAt
  try dsimp -zeta only
  ((try lift_lets); intro xL; clear_value xL)
  (intro sL; with_reducible refine Keeps.cut sL ?_ ?_; rotate_left; (intro kL; clear_value sL); rotate_right; subst sL; try dsimp -zeta only)
  (with_reducible apply keeps_onPort); exact rfl
  · first | exact fun h => fits_produce h | exact fun h => fits_notify h | exact fun h => fits_pushWord h | exact fun h => fits_setReq h | exact fun h => fits_dropStagedWords h | exact fun h => fits_dropHead h | exact fun _ => fits_flushQueues | exact fun h => h
  repeat first | with_reducible exact Keeps.refl _ _ | with_reducible assumption
  split
  repeat first | with_reducible exact Keeps.refl _ _ | with_reducible assumption
  (with_reducible apply keeps_logLim); exact rfl
  repeat first | with_reducible exact Keeps.refl _ _ | with_reducible assumption

theorem keeps_logNs (code : Nat) (inst : Nat) (content : List Nat) (s : State) {mk : Nat} {s0 : State} (he : mk &&& 0xFFFFFFFFF7FF = mk) (hg : Keeps mk s0 s) :
    Keeps mk s0 (logNs code inst content s) := by
  refine Keeps.via ?_ he hg
  unfold logNs
  try dsimp -zeta only
  (with_reducible apply keeps_logEv); exact rfl
  repeat first | with_reducible exact Keeps.refl _ _ | with_reducible assumption

theorem keeps_notify (p : Fin 4) (code : Nat) (src : Nat) (payload : List Word) (s : State) (intBit : optParam (Option Nat) Option.none) {mk : Nat} {s0 : State} (he : mk &&& 0xFFFFFFFFF5FF = mk) (hg : Keeps mk s0 s) :
    Keeps mk s0 (notify p code src payload s intBit) := by
  refine Keeps.via ?_ he hg
  unfold notify
  try dsimp -zeta only
  (with_reducible apply keeps_notifyAt); exact rfl
  repeat first | with_reducible exact Keeps.refl _ _ | with_reducible assumption

theorem keeps_notifyPorts (test : Fin 4 → Bool) (code : Nat) (src : Nat) (payload : List Word) (s : State) {mk : Nat} {s0 : State} (he : mk &&& 0xFFFFFFFFF5FF = mk) (hg : Keeps mk s0 s) :
    Keeps mk s0 (notifyPorts test code src payload s) := by
  refine Keeps.via ?_ he hg
  unfold notifyPorts
  try dsimp -zeta only
  ((with_reducible apply Keeps.fold); (intro _ _))
  split
  (with_reducible apply keeps_notify); exact rfl
  repeat first | with_reducible exact Keeps.refl _ _ | with_reducible assumption

theorem keeps_freshNat (s : State) {mk : Nat} {s0 : State} (he : mk &&& 0xFFFFFFFFFFFD = mk) (hg : Keeps mk s0 s) :
    Keeps mk s0 (freshNat s).2 := by
  refine Keeps.via ?_ he hg
  unfold freshNat
  try dsimp -zeta only
  ((try lift_lets); intro xL; subst xL)
  (with_reducible apply Keeps.set_clk); exact rfl
  · exact fun h => h
  repeat first | with_reducible exact Keeps.refl _ _ | with_reducible assumption

theorem keeps_freshNat_eq {s : State} {mk : Nat} {s0 sq : State} {w} (hq : freshNat s = (w, sq)) (he : mk &&& 0xFFFFFFFFFFFD = mk) (hg : Keeps mk s0 s) :
    Keeps mk s0 sq := by
  have := keeps_freshNat (mk := mk) (s0 := s0) s he hg
  rw [hq] at this
  exact this

theorem keeps_reportMode (oldMode : Mode) (oldFlags : Nat) (cause : Nat) (s : State) {mk : Nat} {s0 : State} (he : mk &&& 0xFFFFFFFFF5FF = mk) (hg : Keeps mk s0 s) :
    Keeps mk s0 (reportMode oldMode oldFlags cause s) := by
  refine Keeps.via ?_ he hg
  unfold reportMode
  try dsimp -zeta only
  ((try lift_lets); intro sL; with_reducible refine Keeps.cut sL ?_ ?_; rotate_left; (intro kL; clear_value sL); rotate_right; subst sL; try dsimp -zeta only)
  (with_reducible apply keeps_logNs); exact rfl
  repeat first | with_reducible exact Keeps.refl _ _ | with_reducible assumption
  split
  repeat first | with_reducible exact Keeps.refl _ _ | with_reducible assumption
  split
  repeat first | with_reducible exact Keeps.refl _ _ | with_reducible assumption
  ((with_reducible apply Keeps.fold); (intro _ _))
  split
  (with_reducible apply keeps_notify); exact rfl
  repeat first | with_reducible exact Keeps.refl _ _ | with_reducible assumption

theorem keeps_restartAll (s : State) {mk : Nat} {s0 : State} (he : mk &&& 0xFFFFFFFFFFF7 = mk) (hg : Keeps mk s0 s) :
    Keeps mk s0 (restartAll s) := by
  refine Keeps.via ?_ he hg
  unfold restartAll
  try dsimp -zeta only
  ((with_reducible apply Keeps.fold); (intro _ _))
  split
  (with_reducible apply Keeps.set_wd); exact rfl
  repeat first | with_reducible exact Keeps.refl _ _ | with_reducible assumption

theorem keeps_settleMode (old : State) (cause : Nat) (s : State) {mk : Nat} {s0 : State} (he : mk &&& 0xFFFFFFFFF5F3 = mk) (hg : Keeps mk s0 s) :
    Keeps mk s0 (settleMode old cause s) := by
  refine Keeps.via ?_ he hg
  unfold settleMode
  try dsimp -zeta only
  ((try lift_lets); intro xL; clear_value xL)
  (intro sL; with_reducible refine Keeps.cut sL ?_ ?_; rotate_left; (intro kL; clear_value sL); rotate_right; subst sL; try dsimp -zeta only)
  (with_reducible apply keeps_restartAll); exact rfl
  repeat first | with_reducible exact Keeps.refl _ _ | with_reducible assumption
  split
  (with_reducible apply keeps_reportMode); exact rfl
  repeat first | with_reducible exact Keeps.refl _ _ | with_reducible assumption
  (with_reducible apply keeps_reportMode); exact rfl
  split
  (with_reducible apply Keeps.in_pwr); exact rfl
  · exact fun _ => rfl
  · exact fun _ => rfl
  · exact fun _ => rfl
  · exact fun _ => rfl
  (with_reducible apply Keeps.in_pwr); exact rfl
  · exact fun _ => rfl
  · exact fun _ => rfl
  · exact fun _ => rfl
  · exact fun _ => rfl
  repeat first | with_reducible exact Keeps.refl _ _ | with_reducible assumption
  split
  (with_reducible apply Keeps.in_pwr); exact rfl
  · exact fun _ => rfl
  · exact fun _ => rfl
  · exact fun _ => rfl
  · exact fun _ => rfl
  (with_reducible apply Keeps.set_wd); exact rfl
  repeat first | with_reducible exact Keeps.refl _ _ | with_reducible assumption
  split
  (with_reducible apply Keeps.in_pwr); exact rfl
  · exact fun _ => rfl
  · exact fun _ => rfl
  · exact fun _ => rfl
  · exact fun _ => rfl
  ((with_reducible apply Keeps.fold); (intro _ _))
  split
  (with_reducible apply Keeps.set_wd); exact rfl
  repeat first | with_reducible exact Keeps.refl _ _ | with_reducible assumption
  (with_reducible apply Keeps.in_pwr); exact rfl
  · exact fun _ => rfl
  · exact fun _ => rfl
  · exact fun _ => rfl
  · exact fun _ => rfl
  repeat first | with_reducible exact Keeps.refl _ _ | with_reducible assumption

theorem keeps_applySafe (cause : Nat) (mask : Nat) (prior : Bool) (s : State) {mk : Nat} {s0 : State} (he : mk &&& 0xFFFFFFEFF7FF = mk) (hg : Keeps mk s0 s) :
    Keeps mk s0 (applySafe cause mask prior s) := by
  refine Keeps.via ?_ he hg
  unfold applySafe
  try dsimp -zeta only
  ((try lift_lets); intro xL; clear_value xL)
  (intro xL; clear_value xL)
  split
  repeat first | with_reducible exact Keeps.refl _ _ | with_reducible assumption
  (with_reducible apply keeps_logEv); exact rfl
  (with_reducible apply Keeps.set_io); exact rfl
  repeat first | with_reducible exact Keeps.refl _ _ | with_reducible assumption

theorem keeps_evalAuto (clearCause : Nat) (s : State) {mk : Nat} {s0 : State} (he : mk &&& 0xFFFFFFEFF5F3 = mk) (hg : Keeps mk s0 s) :
    Keeps mk s0 (evalAuto clearCause s) := by
  refine Keeps.via ?_ he hg
  unfold evalAuto
  try dsimp -zeta only
  ((try lift_lets); intro xL; clear_value xL)
  (intro xL; subst xL)
  (intro sL; with_reducible refine Keeps.cut sL ?_ ?_; rotate_left; (intro kL; clear_value sL); rotate_right; subst sL; try dsimp -zeta only)
  (with_reducible apply keeps_settleMode); exact rfl
  (with_reducible apply Keeps.in_pwr); exact rfl
  · exact fun _ => rfl
  · exact fun _ => rfl
  · exact fun _ => rfl
  · exact fun _ => rfl
  repeat first | with_reducible exact Keeps.refl _ _ | with_reducible assumption
  split
  repeat first | with_reducible exact Keeps.refl _ _ | with_reducible assumption
  split
  (with_reducible apply keeps_applySafe); exact rfl
  repeat first | with_reducible exact Keeps.refl _ _ | with_reducible assumption

theorem keeps_respondMsg (r : Req) (status : Nat) (payload : List Word) (lock : Option (Nat × Nat)) (s : State) {mk : Nat} {s0 : State} (he : mk &&& 0xFFFFFFFFF9FF = mk) (hg : Keeps mk s0 s) :
    Keeps mk s0 (respondMsg r status payload lock s) := by
  refine Keeps.via ?_ he hg
  unfold respondMsg
  try dsimp -zeta only
  (with_reducible apply keeps_endOrdered); exact rfl
  (with_reducible apply keeps_onPort); exact rfl
  · first | exact fun h => fits_produce h | exact fun h => fits_notify h | exact fun h => fits_pushWord h | exact fun h => fits_setReq h | exact fun h => fits_dropStagedWords h | exact fun h => fits_dropHead h | exact fun _ => fits_flushQueues | exact fun h => h
  repeat first | with_reducible exact Keeps.refl _ _ | with_reducible assumption

theorem keeps_respond (r : Req) (status : Nat) (payload : List Word) (s : State) {mk : Nat} {s0 : State} (he : mk &&& 0xFFFFFFFFF9FF = mk) (hg : Keeps mk s0 s) :
    Keeps mk s0 (respond r status payload s) := by
  refine Keeps.via ?_ he hg
  unfold respond
  try dsimp -zeta only
  (with_reducible apply keeps_respondMsg); exact rfl
  repeat first | with_reducible exact Keeps.refl _ _ | with_reducible assumption

theorem keeps_ok (r : Req) (payload : List Word) (s : State) {mk : Nat} {s0 : State} (he : mk &&& 0xFFFFFFFFF9FF = mk) (hg : Keeps mk s0 s) :
    Keeps mk s0 (ok r payload s) := by
  refine Keeps.via ?_ he hg
  unfold ok
  try dsimp -zeta only
  (with_reducible apply keeps_respond); exact rfl
  repeat first | with_reducible exact Keeps.refl _ _ | with_reducible assumption

theorem keeps_tlPut (target : Nat) (rank : Nat) (block : Nat) (kind : TlKind) (active : Bool) (s : State) {mk : Nat} {s0 : State} (he : mk &&& 0xFFFFFFFFFFDF = mk) (hg : Keeps mk s0 s) :
    Keeps mk s0 (tlPut target rank block kind active s) := by
  refine Keeps.via ?_ he hg
  unfold tlPut
  try dsimp -zeta only
  ((try lift_lets); intro xL; clear_value xL)
  (intro xL; clear_value xL)
  (intro xL; clear_value xL)
  (with_reducible apply Keeps.set_tl); exact rfl
  repeat first | with_reducible exact Keeps.refl _ _ | with_reducible assumption

theorem keeps_tlPost {target : Nat} {rank : Nat} {block : Nat} {kind : TlKind} {s : State} {mk : Nat} {s0 sq : State} (hq : tlPost target rank block kind s = some sq) (he : mk &&& 0xFFFFFFFFFFDF = mk) (hg : Keeps mk s0 s) :
    Keeps mk s0 sq := by
  refine Keeps.via ?_ he hg
  revert hq
  unfold tlPost
  try dsimp only
  repeat' split
  all_goals intro hq
  all_goals cases hq
  (with_reducible apply keeps_tlPut); exact rfl
  repeat first | with_reducible exact Keeps.refl _ _ | with_reducible assumption

theorem keeps_failReq (r : Req) (f : Fail) (s : State) {mk : Nat} {s0 : State} (he : mk &&& 0xFFFFFFFFF9FF = mk) (hg : Keeps mk s0 s) :
    Keeps mk s0 (failReq r f s) := by
  refine Keeps.via ?_ he hg
  unfold failReq
  try dsimp -zeta only
  (with_reducible apply keeps_respond); exact rfl
  repeat first | with_reducible exact Keeps.refl _ _ | with_reducible assumption

theorem keeps_tlFull (block : Nat) (share : Nat) (s : State) {mk : Nat} {s0 : State} (he : mk &&& 0xFFFFFFFFF7FF = mk) (hg : Keeps mk s0 s) :
    Keeps mk s0 (tlFull block share s) := by
  refine Keeps.via ?_ he hg
  unfold tlFull
  try dsimp -zeta only
  (with_reducible apply keeps_logLim); exact rfl
  repeat first | with_reducible exact Keeps.refl _ _ | with_reducible assumption

theorem keeps_storeAtBoundary (block : Nat) (r : Req) (s : State) {mk : Nat} {s0 : State} (he : mk &&& 0xFFFFFFFFF1DF = mk) (hg : Keeps mk s0 s) :
    Keeps mk s0 (storeAtBoundary block r s) := by
  refine Keeps.via ?_ he hg
  unfold storeAtBoundary
  try dsimp -zeta only
  split
  (with_reducible apply keeps_ok); exact rfl
  ((with_reducible apply keeps_tlPost); (with_reducible assumption); exact rfl)
  repeat first | with_reducible exact Keeps.refl _ _ | with_reducible assumption
  (with_reducible apply keeps_failReq); exact rfl
  (with_reducible apply keeps_tlFull); exact rfl
  repeat first | with_reducible exact Keeps.refl _ _ | with_reducible assumption

theorem keeps_ownerChange (type : Nat) (id : Nat) (r : Req) (old : Nat) (new : Nat) (s : State) {mk : Nat} {s0 : State} (he : mk &&& 0xFFFFFFFFF5FF = mk) (hg : Keeps mk s0 s) :
    Keeps mk s0 (ownerChange type id r old new s) := by
  refine Keeps.via ?_ he hg
  unfold ownerChange
  try dsimp -zeta only
  split
  repeat first | with_reducible exact Keeps.refl _ _ | with_reducible assumption
  (with_reducible apply keeps_notifyPorts); exact rfl
  repeat first | with_reducible exact Keeps.refl _ _ | with_reducible assumption

theorem keeps_okN (r : Req) (payload : List Word) (s : State) {mk : Nat} {s0 : State} (he : mk &&& 0xFFFFFFFFF9FF = mk) (hg : Keeps mk s0 s) :
    Keeps mk s0 (okN r payload s) := by
  refine Keeps.via ?_ he hg
  unfold okN
  try dsimp -zeta only
  split
  (with_reducible apply keeps_complete); exact rfl
  (with_reducible apply keeps_accept); exact rfl
  repeat first | with_reducible exact Keeps.refl _ _ | with_reducible assumption
  (with_reducible apply keeps_ok); exact rfl
  repeat first | with_reducible exact Keeps.refl _ _ | with_reducible assumption

theorem keeps_markStored (setId : Nat) (s : State) {mk : Nat} {s0 : State} (he : mk &&& 0xFFFFFFFFFBFF = mk) (hg : Keeps mk s0 s) :
    Keeps mk s0 (markStored setId s) := by
  refine Keeps.via ?_ he hg
  unfold markStored
  try dsimp -zeta only
  ((try lift_lets); intro xL; subst xL)
  (with_reducible apply Keeps.in_cmd); exact rfl
  · exact fun _ => rfl
  repeat first | with_reducible exact Keeps.refl _ _ | with_reducible assumption

theorem keeps_tlRemove (seq : Nat) (s : State) {mk : Nat} {s0 : State} (he : mk &&& 0xFFFFFFFFFFDF = mk) (hg : Keeps mk s0 s) :
    Keeps mk s0 (tlRemove seq s) := by
  refine Keeps.via ?_ he hg
  unfold tlRemove
  try dsimp -zeta only
  ((try lift_lets); intro xL; clear_value xL)
  (with_reducible apply Keeps.set_tl); exact rfl
  repeat first | with_reducible exact Keeps.refl _ _ | with_reducible assumption

theorem keeps_failN (r : Req) (f : Fail) (s : State) {mk : Nat} {s0 : State} (he : mk &&& 0xFFFFFFFFF9FF = mk) (hg : Keeps mk s0 s) :
    Keeps mk s0 (failN r f s) := by
  refine Keeps.via ?_ he hg
  unfold failN
  try dsimp -zeta only
  split
  (with_reducible apply keeps_completeFail); exact rfl
  repeat first | with_reducible exact Keeps.refl _ _ | with_reducible assumption
  (with_reducible apply keeps_failReq); exact rfl
  repeat first | with_reducible exact Keeps.refl _ _ | with_reducible assumption

theorem keeps_tlFire (f : TlKind → TlEntry → Option (State → State)) (s : State) {mk : Nat} {s0 : State}
    (ha : ∀ k e g, f k e = some g → ∀ s, Keeps mk s (g s)) (he : mk &&& 0xFFFFFFFFFFDF = mk) (hg : Keeps mk s0 s) :
    Keeps mk s0 (tlFire f s) := by
  refine Keeps.step ?_ hg
  unfold tlFire
  split
  · exact Keeps.refl _ _
  · split
    · exact Keeps.refl _ _
    · next h => exact (ha _ _ _ h _).step (keeps_tlRemove _ _ (by rw [← he, Nat.and_assoc]; rfl) (Keeps.refl _ _))

theorem keeps_serve (code : Nat) (chk : Req → State → Option Fail) (act : Req → State → State) (s : State) {mk : Nat} {s0 : State}
    (ha : ∀ r s, Keeps mk s (act r s)) (he : mk &&& 0xF7FFFFFFF9FF = mk) (hg : Keeps mk s0 s) : Keeps mk s0 (serve code chk act s) := by
  refine Keeps.step ?_ hg
  have hc : ∀ x, Keeps mk s { s with cmd := x } := fun x => Keeps.set_cmd (by rw [← he, Nat.and_assoc]; rfl) (Keeps.refl _ _)
  unfold serve
  split
  · exact Keeps.refl _ _
  · split
    · dsimp only
      split
      · exact keeps_failReq _ _ _ (by rw [← he, Nat.and_assoc]; rfl) (hc _)
      · exact (ha _ _).step (hc _)
    · exact Keeps.refl _ _

theorem keeps_notifyBlock (block : Nat) (code : Nat) (payload : List Word) (s : State) {mk : Nat} {s0 : State} (he : mk &&& 0xFFFFFFFFF5FF = mk) (hg : Keeps mk s0 s) :
    Keeps mk s0 (notifyBlock block code payload s) := by
  refine Keeps.via ?_ he hg
  unfold notifyBlock
  try dsimp -zeta only
  (with_reducible apply keeps_notifyPorts); exact rfl
  repeat first | with_reducible exact Keeps.refl _ _ | with_reducible assumption

end Sys2Proof.Laws
end

