-- ==== Sys2Proof/Laws/Frames/Admission.lean ====
section
/-!
SUPPORT. Frames of the operations of Machine/Admission.lean.
-/
set_option Elab.async false
namespace Sys2Proof.Laws
open Sys2Proof Sys2Proof.Machine

theorem keeps_stopAct (act : Nat) (inst : Nat) (s : State) {mk : Nat} {s0 : State} (he : mk &&& 0xFFFFFDFFFFFF = mk) (hg : Keeps mk s0 s) :
    Keeps mk s0 (stopAct act inst s) := by
  refine Keeps.via ?_ he hg
  unfold stopAct
  try dsimp -zeta only
  ((try lift_lets); intro xL; clear_value xL)
  (with_reducible apply Keeps.set_bal); exact rfl
  repeat first | with_reducible exact Keeps.refl _ _ | with_reducible assumption

theorem keeps_startAct (act : Nat) (inst : Nat) (s : State) {mk : Nat} {s0 : State} (he : mk &&& 0xFFFFFDFFFFFF = mk) (hg : Keeps mk s0 s) :
    Keeps mk s0 (startAct act inst s) := by
  refine Keeps.via ?_ he hg
  unfold startAct
  try dsimp -zeta only
  ((try lift_lets); intro xL; clear_value xL)
  (with_reducible apply Keeps.set_bal); exact rfl
  repeat first | with_reducible exact Keeps.refl _ _ | with_reducible assumption

theorem keeps_preempt (code : Nat) (a : Activity) (s : State) {mk : Nat} {s0 : State} (he : mk &&& 0xFFFFFDFFF7FF = mk) (hg : Keeps mk s0 s) :
    Keeps mk s0 (preempt code a s) := by
  refine Keeps.via ?_ he hg
  unfold preempt
  try dsimp -zeta only
  ((try lift_lets); intro sL; with_reducible refine Keeps.cut sL ?_ ?_; rotate_left; (intro kL; clear_value sL); rotate_right; subst sL; try dsimp -zeta only)
  (with_reducible apply keeps_stopAct); exact rfl
  repeat first | with_reducible exact Keeps.refl _ _ | with_reducible assumption
  (with_reducible apply keeps_logLim); exact rfl
  (with_reducible apply Keeps.set_bal); exact rfl
  repeat first | with_reducible exact Keeps.refl _ _ | with_reducible assumption

theorem keeps_refuseAct (act : Nat) (inst : Nat) (blocker : Nat) (s : State) {mk : Nat} {s0 : State} (he : mk &&& 0xFFFFFDFFF7FF = mk) (hg : Keeps mk s0 s) :
    Keeps mk s0 (refuseAct act inst blocker s) := by
  refine Keeps.via ?_ he hg
  unfold refuseAct
  try dsimp -zeta only
  ((try lift_lets); intro xL; clear_value xL)
  (with_reducible apply keeps_logLim); exact rfl
  (with_reducible apply Keeps.set_bal); exact rfl
  repeat first | with_reducible exact Keeps.refl _ _ | with_reducible assumption

theorem keeps_admitAct {act : Nat} {inst : Nat} {s : State} {mk : Nat} {s0 sq : State} (h : admitAct act inst s = .ok sq)
    (he : mk &&& 0xFFFFFDFFF7FF = mk) (hg : Keeps mk s0 s) : Keeps mk s0 sq := by
  refine Keeps.via ?_ he hg
  unfold admitAct at h
  dsimp only at h
  split at h
  · cases h
    exact keeps_startAct _ _ _ rfl (Keeps.fold _ _ (fun _ _ => keeps_preempt _ _ _ rfl (Keeps.refl _ _)) (Keeps.refl _ _))
  · split at h <;> cases h
    exact keeps_startAct _ _ _ rfl (Keeps.refl _ _)

theorem keeps_admitAct_err {act : Nat} {inst : Nat} {s : State} {mk c : Nat} {s0 sq : State} (h : admitAct act inst s = .error (c, sq))
    (he : mk &&& 0xFFFFFDFFF7FF = mk) (hg : Keeps mk s0 s) : Keeps mk s0 sq := by
  refine Keeps.via ?_ he hg
  unfold admitAct at h
  dsimp only at h
  split at h
  · cases h
  · split at h <;> cases h
    exact keeps_refuseAct _ _ _ _ rfl (Keeps.refl _ _)

theorem keeps_admitReq (act : Nat) (inst : Nat) (r : Req) (k : State → State) (s : State) {mk : Nat} {s0 : State}
    (hk : ∀ s, Keeps mk s (k s)) (he : mk &&& 0xFFFFFDFFF1FF = mk) (hg : Keeps mk s0 s) : Keeps mk s0 (admitReq act inst r k s) := by
  refine Keeps.step ?_ hg
  unfold admitReq
  split
  · next h => exact (hk _).step (keeps_admitAct h (by rw [← he, Nat.and_assoc]; rfl) (Keeps.refl _ _))
  · next h =>
    exact keeps_failReq _ _ _ (by rw [← he, Nat.and_assoc]; rfl)
      (keeps_admitAct_err h (by rw [← he, Nat.and_assoc]; rfl) (Keeps.refl _ _))

theorem keeps_norOn (dev : Nat) (area : Nat) (f : Nat) (s : State) {mk : Nat} {s0 : State} (he : mk &&& 0xFFFFFF7FF7FD = mk)
    (hg : Keeps mk s0 s) : Keeps mk s0 (norOn dev area f s).1 := by
  refine Keeps.via ?_ he hg
  unfold norOn
  refine Keeps.foldFst _ _ (fun a _ => ?_) (Keeps.refl _ _)
  unfold norSector
  dsimp only
  exact keeps_logEv _ _ _ _ rfl (Keeps.set_mem rfl (keeps_freshNat _ rfl (Keeps.refl _ _)))

theorem keeps_norOn_eq {dev : Nat} {area : Nat} {f : Nat} {s : State} {mk : Nat} {s0 sq : State} {w} (hq : norOn dev area f s = (sq, w))
    (he : mk &&& 0xFFFFFF7FF7FD = mk) (hg : Keeps mk s0 s) : Keeps mk s0 sq := by
  have := keeps_norOn dev area f s he hg
  rw [hq] at this
  exact this

theorem keeps_norWrite (area : Nat) (f0 : Nat) (f1 : Nat) (s : State) {mk : Nat} {s0 : State} (he : mk &&& 0xFFFFFF7FF7FD = mk) (hg : Keeps mk s0 s) :
    Keeps mk s0 (norWrite area f0 f1 s).1 := by
  refine Keeps.via ?_ he hg
  unfold norWrite
  exact keeps_norOn _ _ _ _ rfl (keeps_norOn _ _ _ _ rfl (Keeps.refl _ _))

theorem keeps_norWrite_eq {area : Nat} {f0 : Nat} {f1 : Nat} {s : State} {mk : Nat} {s0 sq : State} {w} (hq : norWrite area f0 f1 s = (sq, w)) (he : mk &&& 0xFFFFFF7FF7FD = mk) (hg : Keeps mk s0 s) :
    Keeps mk s0 sq := by
  have := keeps_norWrite (mk := mk) (s0 := s0) area f0 f1 s he hg
  rw [hq] at this
  exact this

theorem keeps_stopOne (act : Nat) (inst : Nat) (s : State) {mk : Nat} {s0 : State} (he : mk &&& 0xFFFFFDFFFFFF = mk) (hg : Keeps mk s0 s) :
    Keeps mk s0 (stopOne act inst s) := by
  refine Keeps.via ?_ he hg
  unfold stopOne
  try dsimp -zeta only
  ((try lift_lets); intro xL; clear_value xL)
  (with_reducible apply Keeps.set_bal); exact rfl
  repeat first | with_reducible exact Keeps.refl _ _ | with_reducible assumption

end Sys2Proof.Laws
end

