-- ==== Sys2Proof/Laws/Frames/Tether.lean ====
section
/-!
SUPPORT. Frames of the operations of Machine/Tether.lean.
-/
set_option Elab.async false
namespace Sys2Proof.Laws
open Sys2Proof Sys2Proof.Machine

theorem keeps_setAlarm (p : Fin 4) (h : Nat) (a : AlarmState) (s : State) {mk : Nat} {s0 : State} (he : mk &&& 0xFFFFFFFFFFBF = mk) (hg : Keeps mk s0 s) :
    Keeps mk s0 (setAlarm p h a s) := by
  refine Keeps.via ?_ he hg
  unfold setAlarm
  try dsimp -zeta only
  (with_reducible apply Keeps.set_alarms); exact rfl
  repeat first | with_reducible exact Keeps.refl _ _ | with_reducible assumption

theorem keeps_actTtAlarm (r : Req) (s : State) {mk : Nat} {s0 : State} (he : mk &&& 0xFFFFFFFFF19F = mk) (hg : Keeps mk s0 s) :
    Keeps mk s0 (actTtAlarm r s) := by
  refine Keeps.via ?_ he hg
  unfold actTtAlarm
  try dsimp -zeta only
  split
  (with_reducible apply keeps_failReq); exact rfl
  (with_reducible apply keeps_tlFull); exact rfl
  repeat first | with_reducible exact Keeps.refl _ _ | with_reducible assumption
  (with_reducible apply keeps_ok); exact rfl
  (with_reducible apply keeps_tlPut); exact rfl
  (with_reducible apply keeps_setAlarm); exact rfl
  repeat first | with_reducible exact Keeps.refl _ _ | with_reducible assumption

theorem keeps_actTtAlarmCancel (r : Req) (s : State) {mk : Nat} {s0 : State} (he : mk &&& 0xFFFFFFFFF99F = mk) (hg : Keeps mk s0 s) :
    Keeps mk s0 (actTtAlarmCancel r s) := by
  refine Keeps.via ?_ he hg
  unfold actTtAlarmCancel
  try dsimp -zeta only
  ((try lift_lets); intro xL; clear_value xL)
  (with_reducible apply keeps_ok); exact rfl
  (with_reducible apply keeps_setAlarm); exact rfl
  (with_reducible apply keeps_tlCancel); exact rfl
  repeat first | with_reducible exact Keeps.refl _ _ | with_reducible assumption

theorem keeps_actTtAnchors (r : Req) (s : State) {mk : Nat} {s0 : State} (he : mk &&& 0xFFFFFFFFF9FF = mk) (hg : Keeps mk s0 s) :
    Keeps mk s0 (actTtAnchors r s) := by
  refine Keeps.via ?_ he hg
  unfold actTtAnchors
  try dsimp -zeta only
  (with_reducible apply keeps_ok); exact rfl
  repeat first | with_reducible exact Keeps.refl _ _ | with_reducible assumption

theorem keeps_actTtConfig (r : Req) (s : State) {mk : Nat} {s0 : State} (he : mk &&& 0xFFFFFFFFF1CF = mk) (hg : Keeps mk s0 s) :
    Keeps mk s0 (actTtConfig r s) := by
  refine Keeps.via ?_ he hg
  unfold actTtConfig
  try dsimp -zeta only
  split
  (with_reducible apply keeps_failReq); exact rfl
  (with_reducible apply keeps_tlFull); exact rfl
  repeat first | with_reducible exact Keeps.refl _ _ | with_reducible assumption
  ((try lift_lets); intro xL; clear_value xL)
  (intro xL; subst xL)
  (with_reducible apply keeps_ok); exact rfl
  (with_reducible apply keeps_logEv); exact rfl
  (with_reducible apply keeps_markStored); exact rfl
  (with_reducible apply Keeps.in_tt); exact rfl
  · exact fun _ => rfl
  · exact fun _ => rfl
  · exact fun _ => rfl
  ((with_reducible apply keeps_tlPost); (with_reducible assumption); exact rfl)
  repeat first | with_reducible exact Keeps.refl _ _ | with_reducible assumption

theorem keeps_actTtConvert (r : Req) (s : State) {mk : Nat} {s0 : State} (he : mk &&& 0xFFFFFFFFF9FF = mk) (hg : Keeps mk s0 s) :
    Keeps mk s0 (actTtConvert r s) := by
  refine Keeps.via ?_ he hg
  unfold actTtConvert
  try dsimp -zeta only
  split
  (with_reducible apply keeps_failReq); exact rfl
  repeat first | with_reducible exact Keeps.refl _ _ | with_reducible assumption
  (with_reducible apply keeps_ok); exact rfl
  repeat first | with_reducible exact Keeps.refl _ _ | with_reducible assumption

theorem keeps_actTtQueue (r : Req) (s : State) {mk : Nat} {s0 : State} (he : mk &&& 0xFFFFFFFFF9FF = mk) (hg : Keeps mk s0 s) :
    Keeps mk s0 (actTtQueue r s) := by
  refine Keeps.via ?_ he hg
  unfold actTtQueue
  try dsimp -zeta only
  (with_reducible apply keeps_ok); exact rfl
  repeat first | with_reducible exact Keeps.refl _ _ | with_reducible assumption

theorem keeps_actTtStatus (r : Req) (s : State) {mk : Nat} {s0 : State} (he : mk &&& 0xFFFFFFFFF9FF = mk) (hg : Keeps mk s0 s) :
    Keeps mk s0 (actTtStatus r s) := by
  refine Keeps.via ?_ he hg
  unfold actTtStatus
  try dsimp -zeta only
  ((try lift_lets); intro xL; subst xL)
  (intro xL; clear_value xL)
  (intro xL; clear_value xL)
  (with_reducible apply keeps_ok); exact rfl
  repeat first | with_reducible exact Keeps.refl _ _ | with_reducible assumption

theorem keeps_applyTtCfg (c : TtCfg) (s : State) {mk : Nat} {s0 : State} (he : mk &&& 0xFFFFFFFFFFCF = mk) (hg : Keeps mk s0 s) :
    Keeps mk s0 (applyTtCfg c s) := by
  refine Keeps.via ?_ he hg
  unfold applyTtCfg
  try dsimp -zeta only
  ((try lift_lets); intro xL; subst xL)
  (intro xL; clear_value xL)
  (intro xL; clear_value xL)
  (intro xL; clear_value xL)
  (intro sL; with_reducible refine Keeps.cut sL ?_ ?_; rotate_left; (intro kL; clear_value sL); rotate_right; subst sL; try dsimp -zeta only)
  split
  split
  split
  (with_reducible apply Keeps.in_tt); exact rfl
  · exact fun _ => rfl
  · exact fun _ => rfl
  · exact fun _ => rfl
  repeat first | with_reducible exact Keeps.refl _ _ | with_reducible assumption
  (with_reducible apply Keeps.in_tt); exact rfl
  · exact fun _ => rfl
  · exact fun _ => rfl
  · exact fun _ => rfl
  repeat first | with_reducible exact Keeps.refl _ _ | with_reducible assumption
  split
  (with_reducible apply Keeps.in_tt); exact rfl
  · exact fun _ => rfl
  · exact fun _ => rfl
  · exact fun _ => rfl
  repeat first | with_reducible exact Keeps.refl _ _ | with_reducible assumption
  (with_reducible apply Keeps.in_tt); exact rfl
  · exact fun _ => rfl
  · exact fun _ => rfl
  · exact fun _ => rfl
  repeat first | with_reducible exact Keeps.refl _ _ | with_reducible assumption
  split
  split
  (with_reducible apply Keeps.in_tt); exact rfl
  · exact fun _ => rfl
  · exact fun _ => rfl
  · exact fun _ => rfl
  repeat first | with_reducible exact Keeps.refl _ _ | with_reducible assumption
  (with_reducible apply Keeps.in_tt); exact rfl
  · exact fun _ => rfl
  · exact fun _ => rfl
  · exact fun _ => rfl
  repeat first | with_reducible exact Keeps.refl _ _ | with_reducible assumption
  split
  (with_reducible apply Keeps.in_tt); exact rfl
  · exact fun _ => rfl
  · exact fun _ => rfl
  · exact fun _ => rfl
  repeat first | with_reducible exact Keeps.refl _ _ | with_reducible assumption
  (with_reducible apply Keeps.in_tt); exact rfl
  · exact fun _ => rfl
  · exact fun _ => rfl
  · exact fun _ => rfl
  repeat first | with_reducible exact Keeps.refl _ _ | with_reducible assumption
  split
  (with_reducible apply keeps_tlCancel); exact rfl
  repeat first | with_reducible exact Keeps.refl _ _ | with_reducible assumption

theorem keeps_applyTtConfig (r : Req) (s : State) {mk : Nat} {s0 : State} (he : mk &&& 0xFFFFFFFFF3CF = mk) (hg : Keeps mk s0 s) :
    Keeps mk s0 (applyTtConfig r s) := by
  refine Keeps.via ?_ he hg
  unfold applyTtConfig
  try dsimp -zeta only
  ((try lift_lets); intro sL; with_reducible refine Keeps.cut sL ?_ ?_; rotate_left; (intro kL; clear_value sL); rotate_right; subst sL; try dsimp -zeta only)
  (with_reducible apply keeps_logEv); exact rfl
  repeat first | with_reducible exact Keeps.refl _ _ | with_reducible assumption
  (with_reducible apply keeps_markStored); exact rfl
  (with_reducible apply keeps_applyTtCfg); exact rfl
  repeat first | with_reducible exact Keeps.refl _ _ | with_reducible assumption

theorem keeps_checkNominal (s : State) {mk : Nat} {s0 : State} (he : mk &&& 0xFFFFFFFFF7EF = mk) (hg : Keeps mk s0 s) :
    Keeps mk s0 (checkNominal s) := by
  refine Keeps.via ?_ he hg
  unfold checkNominal
  try dsimp -zeta only
  ((try lift_lets); intro xL; subst xL)
  split
  (with_reducible apply keeps_logNs); exact rfl
  (with_reducible apply Keeps.in_tt); exact rfl
  · exact fun _ => rfl
  · exact fun _ => rfl
  · exact fun _ => rfl
  repeat first | with_reducible exact Keeps.refl _ _ | with_reducible assumption

theorem keeps_pushAnchor (s : State) {mk : Nat} {s0 : State} (he : mk &&& 0xFFFFFFFFFFEF = mk) (hg : Keeps mk s0 s) :
    Keeps mk s0 (pushAnchor s) := by
  refine Keeps.via ?_ he hg
  unfold pushAnchor
  try dsimp -zeta only
  ((try lift_lets); intro xL; subst xL)
  (with_reducible apply Keeps.in_tt); exact rfl
  · exact fun _ => rfl
  · exact fun _ => rfl
  · exact fun _ => rfl
  repeat first | with_reducible exact Keeps.refl _ _ | with_reducible assumption

theorem keeps_enterSlew (e : Int) (s : State) {mk : Nat} {s0 : State} (he : mk &&& 0xFFFFFFFFF5E3 = mk) (hg : Keeps mk s0 s) :
    Keeps mk s0 (enterSlew e s) := by
  refine Keeps.via ?_ he hg
  unfold enterSlew
  try dsimp -zeta only
  ((try lift_lets); intro xL; clear_value xL)
  (intro xL; subst xL)
  (intro sL; with_reducible refine Keeps.cut sL ?_ ?_; rotate_left; (intro kL; clear_value sL); rotate_right; subst sL; try dsimp -zeta only)
  (with_reducible apply Keeps.in_tt); exact rfl
  · exact fun _ => rfl
  · exact fun _ => rfl
  · exact fun _ => rfl
  repeat first | with_reducible exact Keeps.refl _ _ | with_reducible assumption
  split
  (with_reducible apply keeps_settleMode); exact rfl
  (with_reducible apply keeps_logNs); exact rfl
  repeat first | with_reducible exact Keeps.refl _ _ | with_reducible assumption
  (with_reducible apply keeps_settleMode); exact rfl
  (with_reducible apply keeps_logEv); exact rfl
  repeat first | with_reducible exact Keeps.refl _ _ | with_reducible assumption

theorem keeps_undefer (s : State) {mk : Nat} {s0 : State} (he : mk &&& 0xFFFFFFFF7FFF = mk) (hg : Keeps mk s0 s) :
    Keeps mk s0 (undefer s) := by
  refine Keeps.via ?_ he hg
  unfold undefer
  try dsimp -zeta only
  ((try lift_lets); intro xL; clear_value xL)
  (with_reducible apply Keeps.set_txn); exact rfl
  repeat first | with_reducible exact Keeps.refl _ _ | with_reducible assumption

theorem keeps_enterLocked (s : State) {mk : Nat} {s0 : State} (he : mk &&& 0xFFFFFFFF75E3 = mk) (hg : Keeps mk s0 s) :
    Keeps mk s0 (enterLocked s) := by
  refine Keeps.via ?_ he hg
  unfold enterLocked
  try dsimp -zeta only
  ((try lift_lets); intro xL; subst xL)
  (intro sL; with_reducible refine Keeps.cut sL ?_ ?_; rotate_left; (intro kL; clear_value sL); rotate_right; subst sL; try dsimp -zeta only)
  (with_reducible apply keeps_undefer); exact rfl
  (with_reducible apply Keeps.in_tt); exact rfl
  · exact fun _ => rfl
  · exact fun _ => rfl
  · exact fun _ => rfl
  repeat first | with_reducible exact Keeps.refl _ _ | with_reducible assumption
  (with_reducible apply keeps_checkNominal); exact rfl
  (with_reducible apply keeps_settleMode); exact rfl
  (with_reducible apply keeps_logNs); exact rfl
  repeat first | with_reducible exact Keeps.refl _ _ | with_reducible assumption

theorem keeps_phaseStep (e : Int) (p : Nat) (s : State) {mk : Nat} {s0 : State} (he : mk &&& 0xFFFFFFFF75E3 = mk) (hg : Keeps mk s0 s) :
    Keeps mk s0 (phaseStep e p s) := by
  refine Keeps.via ?_ he hg
  unfold phaseStep
  try dsimp -zeta only
  ((try lift_lets); intro xL; subst xL)
  (intro sL; with_reducible refine Keeps.cut sL ?_ ?_; rotate_left; (intro kL; clear_value sL); rotate_right; subst sL; try dsimp -zeta only)
  (with_reducible apply Keeps.in_tt); exact rfl
  · exact fun _ => rfl
  · exact fun _ => rfl
  · exact fun _ => rfl
  repeat first | with_reducible exact Keeps.refl _ _ | with_reducible assumption
  split
  split
  split
  (with_reducible apply keeps_enterSlew); exact rfl
  (with_reducible apply Keeps.in_tt); exact rfl
  · exact fun _ => rfl
  · exact fun _ => rfl
  · exact fun _ => rfl
  repeat first | with_reducible exact Keeps.refl _ _ | with_reducible assumption
  (with_reducible apply keeps_checkNominal); exact rfl
  (with_reducible apply Keeps.in_tt); exact rfl
  · exact fun _ => rfl
  · exact fun _ => rfl
  · exact fun _ => rfl
  repeat first | with_reducible exact Keeps.refl _ _ | with_reducible assumption
  split
  split
  (with_reducible apply keeps_enterSlew); exact rfl
  (with_reducible apply Keeps.in_tt); exact rfl
  · exact fun _ => rfl
  · exact fun _ => rfl
  · exact fun _ => rfl
  repeat first | with_reducible exact Keeps.refl _ _ | with_reducible assumption
  (with_reducible apply keeps_checkNominal); exact rfl
  (with_reducible apply Keeps.in_tt); exact rfl
  · exact fun _ => rfl
  · exact fun _ => rfl
  · exact fun _ => rfl
  repeat first | with_reducible exact Keeps.refl _ _ | with_reducible assumption
  split
  (with_reducible apply keeps_enterSlew); exact rfl
  (with_reducible apply Keeps.in_tt); exact rfl
  · exact fun _ => rfl
  · exact fun _ => rfl
  · exact fun _ => rfl
  repeat first | with_reducible exact Keeps.refl _ _ | with_reducible assumption
  (with_reducible apply keeps_checkNominal); exact rfl
  (with_reducible apply Keeps.in_tt); exact rfl
  · exact fun _ => rfl
  · exact fun _ => rfl
  · exact fun _ => rfl
  repeat first | with_reducible exact Keeps.refl _ _ | with_reducible assumption
  split
  split
  split
  (with_reducible apply keeps_enterLocked); exact rfl
  (with_reducible apply Keeps.in_tt); exact rfl
  · exact fun _ => rfl
  · exact fun _ => rfl
  · exact fun _ => rfl
  (with_reducible apply Keeps.in_tt); exact rfl
  · exact fun _ => rfl
  · exact fun _ => rfl
  · exact fun _ => rfl
  repeat first | with_reducible exact Keeps.refl _ _ | with_reducible assumption
  (with_reducible apply Keeps.in_tt); exact rfl
  · exact fun _ => rfl
  · exact fun _ => rfl
  · exact fun _ => rfl
  repeat first | with_reducible exact Keeps.refl _ _ | with_reducible assumption
  split
  (with_reducible apply keeps_enterLocked); exact rfl
  (with_reducible apply Keeps.in_tt); exact rfl
  · exact fun _ => rfl
  · exact fun _ => rfl
  · exact fun _ => rfl
  (with_reducible apply Keeps.in_tt); exact rfl
  · exact fun _ => rfl
  · exact fun _ => rfl
  · exact fun _ => rfl
  repeat first | with_reducible exact Keeps.refl _ _ | with_reducible assumption
  (with_reducible apply Keeps.in_tt); exact rfl
  · exact fun _ => rfl
  · exact fun _ => rfl
  · exact fun _ => rfl
  repeat first | with_reducible exact Keeps.refl _ _ | with_reducible assumption
  split
  split
  (with_reducible apply keeps_enterLocked); exact rfl
  (with_reducible apply Keeps.in_tt); exact rfl
  · exact fun _ => rfl
  · exact fun _ => rfl
  · exact fun _ => rfl
  (with_reducible apply Keeps.in_tt); exact rfl
  · exact fun _ => rfl
  · exact fun _ => rfl
  · exact fun _ => rfl
  repeat first | with_reducible exact Keeps.refl _ _ | with_reducible assumption
  (with_reducible apply Keeps.in_tt); exact rfl
  · exact fun _ => rfl
  · exact fun _ => rfl
  · exact fun _ => rfl
  repeat first | with_reducible exact Keeps.refl _ _ | with_reducible assumption
  split
  (with_reducible apply keeps_enterLocked); exact rfl
  (with_reducible apply Keeps.in_tt); exact rfl
  · exact fun _ => rfl
  · exact fun _ => rfl
  · exact fun _ => rfl
  (with_reducible apply Keeps.in_tt); exact rfl
  · exact fun _ => rfl
  · exact fun _ => rfl
  · exact fun _ => rfl
  repeat first | with_reducible exact Keeps.refl _ _ | with_reducible assumption
  (with_reducible apply Keeps.in_tt); exact rfl
  · exact fun _ => rfl
  · exact fun _ => rfl
  · exact fun _ => rfl
  repeat first | with_reducible exact Keeps.refl _ _ | with_reducible assumption
  split
  split
  (with_reducible apply keeps_enterLocked); exact rfl
  (with_reducible apply Keeps.in_tt); exact rfl
  · exact fun _ => rfl
  · exact fun _ => rfl
  · exact fun _ => rfl
  (with_reducible apply Keeps.in_tt); exact rfl
  · exact fun _ => rfl
  · exact fun _ => rfl
  · exact fun _ => rfl
  repeat first | with_reducible exact Keeps.refl _ _ | with_reducible assumption
  (with_reducible apply Keeps.in_tt); exact rfl
  · exact fun _ => rfl
  · exact fun _ => rfl
  · exact fun _ => rfl
  repeat first | with_reducible exact Keeps.refl _ _ | with_reducible assumption
  (with_reducible apply keeps_enterSlew); exact rfl
  (with_reducible apply Keeps.in_tt); exact rfl
  · exact fun _ => rfl
  · exact fun _ => rfl
  · exact fun _ => rfl
  repeat first | with_reducible exact Keeps.refl _ _ | with_reducible assumption

theorem keeps_crossing (isSec : Bool) (stamp : Nat) (s : State) {mk : Nat} {s0 : State} (he : mk &&& 0xFFFFFFFF75E3 = mk) (hg : Keeps mk s0 s) :
    Keeps mk s0 (crossing isSec stamp s) := by
  refine Keeps.via ?_ he hg
  unfold crossing
  try dsimp -zeta only
  ((try lift_lets); intro xL; clear_value xL)
  (intro xL; clear_value xL)
  (intro xL; subst xL)
  (intro xL; subst xL)
  (intro xL; clear_value xL)
  (intro xL; clear_value xL)
  (intro xL; subst xL)
  (intro sL; with_reducible refine Keeps.cut sL ?_ ?_; rotate_left; (intro kL; clear_value sL); rotate_right; subst sL; try dsimp -zeta only)
  split
  split
  (with_reducible apply Keeps.in_tt); exact rfl
  · exact fun _ => rfl
  · exact fun _ => rfl
  · exact fun _ => rfl
  repeat first | with_reducible exact Keeps.refl _ _ | with_reducible assumption
  (with_reducible apply Keeps.in_tt); exact rfl
  · exact fun _ => rfl
  · exact fun _ => rfl
  · exact fun _ => rfl
  repeat first | with_reducible exact Keeps.refl _ _ | with_reducible assumption
  split
  (with_reducible apply Keeps.in_tt); exact rfl
  · exact fun _ => rfl
  · exact fun _ => rfl
  · exact fun _ => rfl
  repeat first | with_reducible exact Keeps.refl _ _ | with_reducible assumption
  (with_reducible apply Keeps.in_tt); exact rfl
  · exact fun _ => rfl
  · exact fun _ => rfl
  · exact fun _ => rfl
  repeat first | with_reducible exact Keeps.refl _ _ | with_reducible assumption
  split
  repeat first | with_reducible exact Keeps.refl _ _ | with_reducible assumption
  split
  split
  split
  split
  (with_reducible apply Keeps.in_tt); exact rfl
  · exact fun _ => rfl
  · exact fun _ => rfl
  · exact fun _ => rfl
  repeat first | with_reducible exact Keeps.refl _ _ | with_reducible assumption
  split
  (with_reducible apply Keeps.in_tt); exact rfl
  · exact fun _ => rfl
  · exact fun _ => rfl
  · exact fun _ => rfl
  repeat first | with_reducible exact Keeps.refl _ _ | with_reducible assumption
  split
  split
  (with_reducible apply Keeps.in_tt); exact rfl
  · exact fun _ => rfl
  · exact fun _ => rfl
  · exact fun _ => rfl
  repeat first | with_reducible exact Keeps.refl _ _ | with_reducible assumption
  split
  (with_reducible apply Keeps.in_tt); exact rfl
  · exact fun _ => rfl
  · exact fun _ => rfl
  · exact fun _ => rfl
  repeat first | with_reducible exact Keeps.refl _ _ | with_reducible assumption
  split
  split
  split
  (with_reducible apply keeps_phaseStep); exact rfl
  repeat first | with_reducible exact Keeps.refl _ _ | with_reducible assumption
  split
  (with_reducible apply keeps_phaseStep); exact rfl
  repeat first | with_reducible exact Keeps.refl _ _ | with_reducible assumption
  split
  split
  (with_reducible apply keeps_phaseStep); exact rfl
  repeat first | with_reducible exact Keeps.refl _ _ | with_reducible assumption
  split
  (with_reducible apply keeps_phaseStep); exact rfl
  repeat first | with_reducible exact Keeps.refl _ _ | with_reducible assumption

theorem keeps_execZcEdge (rising : Bool) (s : State) (t : State) (h : execZcEdge rising s = .next t) : Keeps 0xFFFFFFFF75E3 s t := by
  unfold execZcEdge at h
  injection h with h
  subst h
  try dsimp -zeta only
  ((try lift_lets); intro xL; clear_value xL)
  (intro xL; clear_value xL)
  split
  split
  (with_reducible apply keeps_crossing); exact rfl
  repeat first | with_reducible exact Keeps.refl _ _ | with_reducible assumption
  split
  (with_reducible apply keeps_crossing); exact rfl
  repeat first | with_reducible exact Keeps.refl _ _ | with_reducible assumption

theorem keeps_execMeterCrossing (src : Nat) (s : State) (t : State) (h : execMeterCrossing src s = .next t) : Keeps 0xFFFFFFFF75E3 s t := by
  unfold execMeterCrossing at h
  injection h with h
  subst h
  try dsimp -zeta only
  split
  split
  (with_reducible apply keeps_crossing); exact rfl
  repeat first | with_reducible exact Keeps.refl _ _ | with_reducible assumption
  split
  (with_reducible apply keeps_crossing); exact rfl
  repeat first | with_reducible exact Keeps.refl _ _ | with_reducible assumption

theorem keeps_execHoldoverEntry (s : State) (t : State) (h : execHoldoverEntry s = .next t) : Keeps 0xFFFFFFFFF5E3 s t := by
  unfold execHoldoverEntry at h
  injection h with h
  subst h
  try dsimp -zeta only
  ((try lift_lets); intro xL; clear_value xL)
  (intro xL; clear_value xL)
  (intro xL; subst xL)
  (intro sL; with_reducible refine Keeps.cut sL ?_ ?_; rotate_left; (intro kL; clear_value sL); rotate_right; subst sL; try dsimp -zeta only)
  (with_reducible apply Keeps.in_tt); exact rfl
  · exact fun _ => rfl
  · exact fun _ => rfl
  · exact fun _ => rfl
  repeat first | with_reducible exact Keeps.refl _ _ | with_reducible assumption
  split
  (with_reducible apply keeps_settleMode); exact rfl
  (with_reducible apply keeps_logNs); exact rfl
  repeat first | with_reducible exact Keeps.refl _ _ | with_reducible assumption

theorem keeps_postSwitch (toSec : Bool) (s : State) {mk : Nat} {s0 : State} (he : mk &&& 0xFFFFFFFFF7CF = mk) (hg : Keeps mk s0 s) :
    Keeps mk s0 (postSwitch toSec s) := by
  refine Keeps.via ?_ he hg
  unfold postSwitch
  try dsimp -zeta only
  split
  ((try lift_lets); intro xL; subst xL)
  (with_reducible apply Keeps.in_tt); exact rfl
  · exact fun _ => rfl
  · exact fun _ => rfl
  · exact fun _ => rfl
  ((with_reducible apply keeps_tlPost); (with_reducible assumption); exact rfl)
  repeat first | with_reducible exact Keeps.refl _ _ | with_reducible assumption
  (with_reducible apply keeps_tlFull); exact rfl
  repeat first | with_reducible exact Keeps.refl _ _ | with_reducible assumption

theorem keeps_logSwitch (oldSrc : Nat) (newSrc : Nat) (off : Int) (learned : Bool) (s : State) {mk : Nat} {s0 : State} (he : mk &&& 0xFFFFFFFFF7FF = mk) (hg : Keeps mk s0 s) :
    Keeps mk s0 (logSwitch oldSrc newSrc off learned s) := by
  refine Keeps.via ?_ he hg
  unfold logSwitch
  try dsimp -zeta only
  (with_reducible apply keeps_logNs); exact rfl
  repeat first | with_reducible exact Keeps.refl _ _ | with_reducible assumption

theorem keeps_switchSource (toSec : Bool) (s : State) {mk : Nat} {s0 : State} (he : mk &&& 0xFFFFFFFFF7EF = mk) (hg : Keeps mk s0 s) :
    Keeps mk s0 (switchSource toSec s) := by
  refine Keeps.via ?_ he hg
  unfold switchSource
  try dsimp -zeta only
  ((try lift_lets); intro xL; clear_value xL)
  (intro xL; clear_value xL)
  (intro xL; subst xL)
  (intro sL; with_reducible refine Keeps.cut sL ?_ ?_; rotate_left; (intro kL; clear_value sL); rotate_right; subst sL; try dsimp -zeta only)
  (with_reducible apply Keeps.in_tt); exact rfl
  · exact fun _ => rfl
  · exact fun _ => rfl
  · exact fun _ => rfl
  repeat first | with_reducible exact Keeps.refl _ _ | with_reducible assumption
  split
  (with_reducible apply keeps_logSwitch); exact rfl
  repeat first | with_reducible exact Keeps.refl _ _ | with_reducible assumption
  (with_reducible apply keeps_logSwitch); exact rfl
  repeat first | with_reducible exact Keeps.refl _ _ | with_reducible assumption

theorem keeps_fireSwitch (toSec : Bool) (s : State) {mk : Nat} {s0 : State}
    (he : mk &&& 0xFFFFFFFFF7CF = mk) (hg : Keeps mk s0 s) : Keeps mk s0 (fireSwitch toSec s) := by
  refine Keeps.via ?_ he hg
  unfold fireSwitch
  refine keeps_tlFire _ _ ?_ rfl (Keeps.refl _ _)
  intro k e g hf s
  split at hf
  · split at hf
    · injection hf with hf; subst hf; exact keeps_switchSource _ _ rfl (Keeps.refl _ _)
    · cases hf
  · cases hf

theorem keeps_execSecondarySwitch (s : State) (t : State) (h : execSecondarySwitch s = .next t) : Keeps 0xFFFFFFFFF7CF s t := by
  unfold execSecondarySwitch at h
  injection h with h
  subst h
  try dsimp -zeta only
  split
  (with_reducible apply keeps_postSwitch); exact rfl
  repeat first | with_reducible exact Keeps.refl _ _ | with_reducible assumption
  (with_reducible apply keeps_fireSwitch); exact rfl
  repeat first | with_reducible exact Keeps.refl _ _ | with_reducible assumption

theorem keeps_execPrimaryReturn (s : State) (t : State) (h : execPrimaryReturn s = .next t) : Keeps 0xFFFFFFFFF7CF s t := by
  unfold execPrimaryReturn at h
  injection h with h
  subst h
  try dsimp -zeta only
  split
  (with_reducible apply keeps_postSwitch); exact rfl
  repeat first | with_reducible exact Keeps.refl _ _ | with_reducible assumption
  (with_reducible apply keeps_fireSwitch); exact rfl
  repeat first | with_reducible exact Keeps.refl _ _ | with_reducible assumption

theorem keeps_execEvTtHoldoverLong (s : State) (t : State) (h : execEvTtHoldoverLong s = .next t) : Keeps 0xFFFFFFFFF7EF s t := by
  unfold execEvTtHoldoverLong at h
  injection h with h
  subst h
  try dsimp -zeta only
  ((try lift_lets); intro xL; clear_value xL)
  (intro xL; subst xL)
  split
  (with_reducible apply keeps_logNs); exact rfl
  (with_reducible apply Keeps.in_tt); exact rfl
  · exact fun _ => rfl
  · exact fun _ => rfl
  · exact fun _ => rfl
  repeat first | with_reducible exact Keeps.refl _ _ | with_reducible assumption

theorem keeps_execReservationWrite (f0 : Nat) (f1 : Nat) (s : State) (t : State) (h : execReservationWrite f0 f1 s = .next t) : Keeps 0xEFFFFF7FF7ED s t := by
  unfold execReservationWrite at h
  injection h with h
  subst h
  split
  · exact Keeps.in_tt rfl (fun _ => rfl) (fun _ => rfl) (fun h => Bool.noConfusion h)
      (keeps_norOn _ _ _ _ rfl (keeps_norOn _ _ _ _ rfl (Keeps.refl _ _)))
  · exact Keeps.refl _ _

theorem keeps_execEvTtReserveFail (s : State) (t : State) (h : execEvTtReserveFail s = .next t) : Keeps 0xEFFFFFFFF7EF s t := by
  unfold execEvTtReserveFail at h
  injection h with h
  subst h
  try dsimp -zeta only
  ((try lift_lets); intro xL; subst xL)
  (intro xL; clear_value xL)
  split
  repeat first | with_reducible exact Keeps.refl _ _ | with_reducible assumption
  split
  (with_reducible apply keeps_logNs); exact rfl
  (with_reducible apply Keeps.in_tt); exact rfl
  · exact fun _ => rfl
  · exact fun _ => rfl
  · exact fun h => Bool.noConfusion h
  repeat first | with_reducible exact Keeps.refl _ _ | with_reducible assumption

theorem keeps_execReserveCeilingReached (s : State) (t : State) (h : execReserveCeilingReached s = .next t) : Keeps 0xEFFFFFFFFFEF s t := by
  unfold execReserveCeilingReached at h
  injection h with h
  subst h
  try dsimp -zeta only
  ((try lift_lets); intro xL; subst xL)
  (intro xL; clear_value xL)
  split
  (with_reducible apply Keeps.in_tt); exact rfl
  · exact fun _ => rfl
  · exact fun _ => rfl
  · exact fun h => Bool.noConfusion h
  repeat first | with_reducible exact Keeps.refl _ _ | with_reducible assumption

theorem keeps_execAnchorCapture (s : State) (t : State) (h : execAnchorCapture s = .next t) : Keeps 0xFFFFFFFFFFEF s t := by
  unfold execAnchorCapture at h
  injection h with h
  subst h
  try dsimp -zeta only
  ((try lift_lets); intro sL; with_reducible refine Keeps.cut sL ?_ ?_; rotate_left; (intro kL; clear_value sL); rotate_right; subst sL; try dsimp -zeta only)
  (with_reducible apply keeps_pushAnchor); exact rfl
  repeat first | with_reducible exact Keeps.refl _ _ | with_reducible assumption
  split
  (with_reducible apply Keeps.in_tt); exact rfl
  · exact fun _ => rfl
  · exact fun _ => rfl
  · exact fun _ => rfl
  repeat first | with_reducible exact Keeps.refl _ _ | with_reducible assumption

theorem keeps_execTtConfigApply (s : State) (t : State) (h : execTtConfigApply s = .next t) : Keeps 0xFFFFFFFFFFCF s t := by
  unfold execTtConfigApply at h
  injection h with h
  subst h
  refine keeps_tlFire _ _ ?_ rfl (Keeps.refl _ _)
  intro k e g hf s
  try dsimp only at hf
  split at hf <;> first | injection hf with hf; subst hf | cases hf
  dsimp only
  split
  · exact keeps_applyTtCfg _ _ rfl (Keeps.refl _ _)
  · exact Keeps.refl _ _

theorem keeps_execTtAlarmFire (s : State) (t : State) (h : execTtAlarmFire s = .next t) : Keeps 0xFFFFFFFFF59F s t := by
  unfold execTtAlarmFire at h
  injection h with h
  subst h
  refine keeps_tlFire _ _ ?_ rfl (Keeps.refl _ _)
  intro k e g hf s
  try dsimp only at hf
  split at hf <;> first | injection hf with hf; subst hf | cases hf
  dsimp only
  split
  · exact keeps_notify _ _ _ _ _ _ rfl (keeps_setAlarm _ _ _ _ rfl (Keeps.refl _ _))
  · exact Keeps.refl _ _

theorem keeps_execTtStatus (s : State) (t : State) (h : execTtStatus s = .next t) : Keeps 0xF7FFFFFFF9FF s t := by
  unfold execTtStatus at h
  injection h with h
  subst h
  try dsimp -zeta only
  ((with_reducible apply keeps_serve); (intro _ _))
  (with_reducible apply keeps_actTtStatus); exact rfl
  repeat first | with_reducible exact Keeps.refl _ _ | with_reducible assumption
  exact (rfl : (_ : Nat) &&& _ = _)
  repeat first | with_reducible exact Keeps.refl _ _ | with_reducible assumption

theorem keeps_execTtConfig (s : State) (t : State) (h : execTtConfig s = .next t) : Keeps 0xF7FFFFFFF1CF s t := by
  unfold execTtConfig at h
  injection h with h
  subst h
  try dsimp -zeta only
  ((with_reducible apply keeps_serve); (intro _ _))
  (with_reducible apply keeps_actTtConfig); exact rfl
  repeat first | with_reducible exact Keeps.refl _ _ | with_reducible assumption
  exact (rfl : (_ : Nat) &&& _ = _)
  repeat first | with_reducible exact Keeps.refl _ _ | with_reducible assumption

theorem keeps_execTtConvert (s : State) (t : State) (h : execTtConvert s = .next t) : Keeps 0xF7FFFFFFF9FF s t := by
  unfold execTtConvert at h
  injection h with h
  subst h
  try dsimp -zeta only
  ((with_reducible apply keeps_serve); (intro _ _))
  (with_reducible apply keeps_actTtConvert); exact rfl
  repeat first | with_reducible exact Keeps.refl _ _ | with_reducible assumption
  exact (rfl : (_ : Nat) &&& _ = _)
  repeat first | with_reducible exact Keeps.refl _ _ | with_reducible assumption

theorem keeps_execTtAnchors (s : State) (t : State) (h : execTtAnchors s = .next t) : Keeps 0xF7FFFFFFF9FF s t := by
  unfold execTtAnchors at h
  injection h with h
  subst h
  try dsimp -zeta only
  ((with_reducible apply keeps_serve); (intro _ _))
  (with_reducible apply keeps_actTtAnchors); exact rfl
  repeat first | with_reducible exact Keeps.refl _ _ | with_reducible assumption
  exact (rfl : (_ : Nat) &&& _ = _)
  repeat first | with_reducible exact Keeps.refl _ _ | with_reducible assumption

theorem keeps_execTtAlarm (s : State) (t : State) (h : execTtAlarm s = .next t) : Keeps 0xF7FFFFFFF19F s t := by
  unfold execTtAlarm at h
  injection h with h
  subst h
  try dsimp -zeta only
  ((with_reducible apply keeps_serve); (intro _ _))
  (with_reducible apply keeps_actTtAlarm); exact rfl
  repeat first | with_reducible exact Keeps.refl _ _ | with_reducible assumption
  exact (rfl : (_ : Nat) &&& _ = _)
  repeat first | with_reducible exact Keeps.refl _ _ | with_reducible assumption

theorem keeps_execTtAlarmCancel (s : State) (t : State) (h : execTtAlarmCancel s = .next t) : Keeps 0xF7FFFFFFF99F s t := by
  unfold execTtAlarmCancel at h
  injection h with h
  subst h
  try dsimp -zeta only
  ((with_reducible apply keeps_serve); (intro _ _))
  (with_reducible apply keeps_actTtAlarmCancel); exact rfl
  repeat first | with_reducible exact Keeps.refl _ _ | with_reducible assumption
  exact (rfl : (_ : Nat) &&& _ = _)
  repeat first | with_reducible exact Keeps.refl _ _ | with_reducible assumption

theorem keeps_execTtQueue (s : State) (t : State) (h : execTtQueue s = .next t) : Keeps 0xF7FFFFFFF9FF s t := by
  unfold execTtQueue at h
  injection h with h
  subst h
  try dsimp -zeta only
  ((with_reducible apply keeps_serve); (intro _ _))
  (with_reducible apply keeps_actTtQueue); exact rfl
  repeat first | with_reducible exact Keeps.refl _ _ | with_reducible assumption
  exact (rfl : (_ : Nat) &&& _ = _)
  repeat first | with_reducible exact Keeps.refl _ _ | with_reducible assumption

end Sys2Proof.Laws
end

