-- ==== Sys2Proof/Laws/Frames/Radio.lean ====
section
/-!
SUPPORT. Frames of the operations of Machine/Radio.lean.
-/
set_option Elab.async false
namespace Sys2Proof.Laws
open Sys2Proof Sys2Proof.Machine

theorem keeps_updCe (n : Nat) (f : Engine → Engine) (s : State) {mk : Nat} {s0 : State} (he : mk &&& 0xFFFFFFFFEFFF = mk) (hg : Keeps mk s0 s) :
    Keeps mk s0 (updCe n f s) := by
  refine Keeps.via ?_ he hg
  unfold updCe
  try dsimp -zeta only
  ((try lift_lets); intro xL; clear_value xL)
  (with_reducible apply Keeps.set_rad); exact rfl
  repeat first | with_reducible exact Keeps.refl _ _ | with_reducible assumption

theorem keeps_enterAccess (n : Nat) (s : State) {mk : Nat} {s0 : State} (he : mk &&& 0xFFFFFFFFEFFF = mk) (hg : Keeps mk s0 s) :
    Keeps mk s0 (enterAccess n s) := by
  refine Keeps.via ?_ he hg
  unfold enterAccess
  try dsimp -zeta only
  ((try lift_lets); intro xL; clear_value xL)
  (intro sL; with_reducible refine Keeps.cut sL ?_ ?_; rotate_left; (intro kL; clear_value sL); rotate_right; subst sL; try dsimp -zeta only)
  (with_reducible apply keeps_updCe); exact rfl
  repeat first | with_reducible exact Keeps.refl _ _ | with_reducible assumption
  split
  (with_reducible apply Keeps.set_rad); exact rfl
  repeat first | with_reducible exact Keeps.refl _ _ | with_reducible assumption

theorem keeps_noteDuty (n : Nat) (s : State) {mk : Nat} {s0 : State} (he : mk &&& 0xFFFFFFFFE7FF = mk) (hg : Keeps mk s0 s) :
    Keeps mk s0 (noteDuty n s) := by
  refine Keeps.via ?_ he hg
  unfold noteDuty
  try dsimp -zeta only
  ((try lift_lets); intro xL; clear_value xL)
  (intro xL; clear_value xL)
  (intro xL; clear_value xL)
  (intro xL; clear_value xL)
  split
  (with_reducible apply keeps_logNs); exact rfl
  (with_reducible apply keeps_updCe); exact rfl
  repeat first | with_reducible exact Keeps.refl _ _ | with_reducible assumption

theorem keeps_stageFrame (n : Nat) (f : Frame) (s : State) {mk : Nat} {s0 : State} (he : mk &&& 0xFFFFFFFFE7FF = mk) (hg : Keeps mk s0 s) :
    Keeps mk s0 (stageFrame n f s) := by
  refine Keeps.via ?_ he hg
  unfold stageFrame
  try dsimp -zeta only
  (with_reducible apply keeps_enterAccess); exact rfl
  (with_reducible apply keeps_noteDuty); exact rfl
  (with_reducible apply keeps_updCe); exact rfl
  repeat first | with_reducible exact Keeps.refl _ _ | with_reducible assumption

theorem keeps_updFe (k : Nat) (f : FrontEnd → FrontEnd) (s : State) {mk : Nat} {s0 : State} (he : mk &&& 0xFFFFFFFFEFFF = mk) (hg : Keeps mk s0 s) :
    Keeps mk s0 (updFe k f s) := by
  refine Keeps.via ?_ he hg
  unfold updFe
  try dsimp -zeta only
  ((try lift_lets); intro xL; clear_value xL)
  split
  (with_reducible apply Keeps.set_rad); exact rfl
  repeat first | with_reducible exact Keeps.refl _ _ | with_reducible assumption
  (with_reducible apply Keeps.set_rad); exact rfl
  repeat first | with_reducible exact Keeps.refl _ _ | with_reducible assumption

theorem keeps_dropFrame (n : Nat) (f : Frame) (out : Nat) (s : State) {mk : Nat} {s0 : State} (he : mk &&& 0xFFFFFFFFE7FF = mk) (hg : Keeps mk s0 s) :
    Keeps mk s0 (dropFrame n f out s) := by
  refine Keeps.via ?_ he hg
  unfold dropFrame
  try dsimp -zeta only
  ((try lift_lets); intro sL; with_reducible refine Keeps.cut sL ?_ ?_; rotate_left; (intro kL; clear_value sL); rotate_right; subst sL; try dsimp -zeta only)
  (with_reducible apply keeps_updCe); exact rfl
  repeat first | with_reducible exact Keeps.refl _ _ | with_reducible assumption
  split
  repeat first | with_reducible exact Keeps.refl _ _ | with_reducible assumption
  split
  (with_reducible apply keeps_logLim); exact rfl
  (with_reducible apply keeps_updCe); exact rfl
  (with_reducible apply keeps_updCe); exact rfl
  repeat first | with_reducible exact Keeps.refl _ _ | with_reducible assumption
  (with_reducible apply keeps_logLim); exact rfl
  (with_reducible apply keeps_updCe); exact rfl
  repeat first | with_reducible exact Keeps.refl _ _ | with_reducible assumption

theorem keeps_endRx (n : Nat) (s : State) {mk : Nat} {s0 : State} (he : mk &&& 0xFFFFFFFFEFFF = mk) (hg : Keeps mk s0 s) :
    Keeps mk s0 (endRx n s) := by
  refine Keeps.via ?_ he hg
  unfold endRx
  try dsimp -zeta only
  (with_reducible apply keeps_updCe); exact rfl
  repeat first | with_reducible exact Keeps.refl _ _ | with_reducible assumption

theorem keeps_dropRx (k : Nat) (gain : Bool) (n : Nat) (s : State) {mk : Nat} {s0 : State} (he : mk &&& 0xFFFFFFFFEFFF = mk) (hg : Keeps mk s0 s) :
    Keeps mk s0 (dropRx k gain n s) := by
  refine Keeps.via ?_ he hg
  unfold dropRx
  try dsimp -zeta only
  split
  repeat first | with_reducible exact Keeps.refl _ _ | with_reducible assumption
  ((try lift_lets); intro xL; clear_value xL)
  split
  repeat first | with_reducible exact Keeps.refl _ _ | with_reducible assumption
  split
  (with_reducible apply keeps_updCe); exact rfl
  repeat first | with_reducible exact Keeps.refl _ _ | with_reducible assumption
  (with_reducible apply keeps_updFe); exact rfl
  (with_reducible apply keeps_endRx); exact rfl
  repeat first | with_reducible exact Keeps.refl _ _ | with_reducible assumption

theorem keeps_dropInvalid (s : State) {mk : Nat} {s0 : State} (he : mk &&& 0xFFFFFFFFEFFF = mk) (hg : Keeps mk s0 s) :
    Keeps mk s0 (dropInvalid s) := by
  refine Keeps.via ?_ he hg
  unfold dropInvalid
  try dsimp -zeta only
  ((with_reducible apply Keeps.fold); (intro _ _))
  ((with_reducible apply Keeps.fold); (intro _ _))
  split
  (with_reducible apply keeps_dropRx); exact rfl
  repeat first | with_reducible exact Keeps.refl _ _ | with_reducible assumption

theorem keeps_countAir (n : Nat) (a : Nat) (b : Nat) (s : State) {mk : Nat} {s0 : State} (he : mk &&& 0xFFFFFFFFE7FF = mk) (hg : Keeps mk s0 s) :
    Keeps mk s0 (countAir n a b s) := by
  refine Keeps.via ?_ he hg
  unfold countAir
  try dsimp -zeta only
  (with_reducible apply keeps_noteDuty); exact rfl
  (with_reducible apply keeps_updCe); exact rfl
  repeat first | with_reducible exact Keeps.refl _ _ | with_reducible assumption

theorem keeps_endCarrier (n : Nat) (k : Nat) (s : State) {mk : Nat} {s0 : State} (he : mk &&& 0xFFFFFFFFEFFF = mk) (hg : Keeps mk s0 s) :
    Keeps mk s0 (endCarrier n k s) := by
  refine Keeps.via ?_ he hg
  unfold endCarrier
  try dsimp -zeta only
  (with_reducible apply keeps_updFe); exact rfl
  repeat first | with_reducible exact Keeps.refl _ _ | with_reducible assumption

theorem keeps_adoptRx (n : Nat) (s : State) {mk : Nat} {s0 : State} (he : mk &&& 0xFFFFFFFFEFFF = mk) (hg : Keeps mk s0 s) :
    Keeps mk s0 (adoptRx n s) := by
  refine Keeps.via ?_ he hg
  unfold adoptRx
  try dsimp -zeta only
  (with_reducible apply keeps_updCe); exact rfl
  repeat first | with_reducible exact Keeps.refl _ _ | with_reducible assumption

theorem keeps_settleCe (n : Nat) (s : State) {mk : Nat} {s0 : State} (he : mk &&& 0xFFFFFFFFEFFF = mk) (hg : Keeps mk s0 s) :
    Keeps mk s0 (settleCe n s) := by
  refine Keeps.via ?_ he hg
  unfold settleCe
  try dsimp -zeta only
  (with_reducible apply keeps_enterAccess); exact rfl
  (with_reducible apply keeps_adoptRx); exact rfl
  (with_reducible apply keeps_updCe); exact rfl
  repeat first | with_reducible exact Keeps.refl _ _ | with_reducible assumption

theorem keeps_enterAll (s : State) {mk : Nat} {s0 : State} (he : mk &&& 0xFFFFFFFFEFFF = mk) (hg : Keeps mk s0 s) :
    Keeps mk s0 (enterAll s) := by
  refine Keeps.via ?_ he hg
  unfold enterAll
  try dsimp -zeta only
  ((with_reducible apply Keeps.fold); (intro _ _))
  (with_reducible apply keeps_enterAccess); exact rfl
  repeat first | with_reducible exact Keeps.refl _ _ | with_reducible assumption

theorem keeps_launch (n : Nat) (k : Nat) (src : FrameSrc) (ack : Bool) (p : Int) (freq : Nat) (ticks : Nat) (s : State) {mk : Nat} {s0 : State} (he : mk &&& 0xFFFFFFFFEFFF = mk) (hg : Keeps mk s0 s) :
    Keeps mk s0 (launch n k src ack p freq ticks s) := by
  refine Keeps.via ?_ he hg
  unfold launch
  try dsimp -zeta only
  ((try lift_lets); intro xL; clear_value xL)
  (intro sL; with_reducible refine Keeps.cut sL ?_ ?_; rotate_left; (intro kL; clear_value sL); rotate_right; subst sL; try dsimp -zeta only)
  (with_reducible apply keeps_updFe); exact rfl
  repeat first | with_reducible exact Keeps.refl _ _ | with_reducible assumption
  (with_reducible apply keeps_dropInvalid); exact rfl
  (with_reducible apply keeps_updCe); exact rfl
  repeat first | with_reducible exact Keeps.refl _ _ | with_reducible assumption

theorem keeps_revokeAdm (s : State) {mk : Nat} {s0 : State} (he : mk &&& 0xFFFFFFFFEFFF = mk) (hg : Keeps mk s0 s) :
    Keeps mk s0 (revokeAdm s) := by
  refine Keeps.via ?_ he hg
  unfold revokeAdm
  try dsimp -zeta only
  ((try lift_lets); intro xL; clear_value xL)
  (with_reducible apply Keeps.set_rad); exact rfl
  repeat first | with_reducible exact Keeps.refl _ _ | with_reducible assumption

theorem keeps_randWait (s : State) {mk : Nat} {s0 : State} (he : mk &&& 0xFFFFFFFFFFFD = mk) (hg : Keeps mk s0 s) :
    Keeps mk s0 (randWait s).2 := by
  refine Keeps.via ?_ he hg
  unfold randWait
  try dsimp -zeta only
  ((try lift_lets); intro xL; clear_value xL)
  (with_reducible apply keeps_freshNat); exact rfl
  repeat first | with_reducible exact Keeps.refl _ _ | with_reducible assumption

theorem keeps_randWait_eq {s : State} {mk : Nat} {s0 sq : State} {w} (hq : randWait s = (w, sq)) (he : mk &&& 0xFFFFFFFFFFFD = mk) (hg : Keeps mk s0 s) :
    Keeps mk s0 sq := by
  have := keeps_randWait (mk := mk) (s0 := s0) s he hg
  rw [hq] at this
  exact this

end Sys2Proof.Laws
end

