-- ==== Sys2Proof/Laws/Frames/Endpoint.lean ====
section
/-!
SUPPORT. Frames of the operations of Machine/Endpoint.lean.
-/
set_option Elab.async false
namespace Sys2Proof.Laws
open Sys2Proof Sys2Proof.Machine

theorem keeps_updEp (ep : Nat) (f : EpRec → EpRec) (s : State) {mk : Nat} {s0 : State} (he : mk &&& 0xFDFFFFFFBFFF = mk) (hg : Keeps mk s0 s) :
    Keeps mk s0 (updEp ep f s) := by
  refine Keeps.via ?_ he hg
  unfold updEp
  try dsimp -zeta only
  ((try lift_lets); intro xL; subst xL)
  split
  repeat first | with_reducible exact Keeps.refl _ _ | with_reducible assumption
  (with_reducible apply Keeps.set_lat); exact rfl
  repeat first | with_reducible exact Keeps.refl _ _ | with_reducible assumption

theorem keeps_writeJournal (s : State) {mk : Nat} {s0 : State} (he : mk &&& 0xFFFFFFFFBFFF = mk) (hg : Keeps mk s0 s) :
    Keeps mk s0 (writeJournal s) := by
  refine Keeps.via ?_ he hg
  unfold writeJournal
  try dsimp -zeta only
  ((try lift_lets); intro xL; clear_value xL)
  (intro xL; clear_value xL)
  (intro xL; clear_value xL)
  (intro xL; subst xL)
  split
  repeat first | with_reducible exact Keeps.refl _ _ | with_reducible assumption
  split
  (with_reducible apply Keeps.in_lat); exact rfl
  · exact fun _ => rfl
  repeat first | with_reducible exact Keeps.refl _ _ | with_reducible assumption
  (with_reducible apply Keeps.in_lat); exact rfl
  · exact fun _ => rfl
  repeat first | with_reducible exact Keeps.refl _ _ | with_reducible assumption

theorem keeps_acceptCtr (ep : Nat) (key : Nat) (ctr : Nat) (s : State) {mk : Nat} {s0 : State} (he : mk &&& 0xFDFFFFFFBFFF = mk) (hg : Keeps mk s0 s) :
    Keeps mk s0 (acceptCtr ep key ctr s) := by
  refine Keeps.via ?_ he hg
  unfold acceptCtr updEp
  try dsimp -zeta only
  ((try lift_lets); intro xL; subst xL)
  (intro sL; with_reducible refine Keeps.cut sL ?_ ?_; rotate_left; (intro kL; clear_value sL); rotate_right; subst sL; try dsimp -zeta only)
  split
  repeat first | with_reducible exact Keeps.refl _ _ | with_reducible assumption
  split
  (with_reducible apply Keeps.set_lat); exact rfl
  repeat first | with_reducible exact Keeps.refl _ _ | with_reducible assumption
  (with_reducible apply Keeps.set_lat); exact rfl
  repeat first | with_reducible exact Keeps.refl _ _ | with_reducible assumption
  split
  split
  (with_reducible apply keeps_writeJournal); exact rfl
  (with_reducible apply Keeps.set_lat); exact rfl
  repeat first | with_reducible exact Keeps.refl _ _ | with_reducible assumption
  (with_reducible apply Keeps.set_lat); exact rfl
  repeat first | with_reducible exact Keeps.refl _ _ | with_reducible assumption
  split
  (with_reducible apply keeps_writeJournal); exact rfl
  (with_reducible apply Keeps.set_lat); exact rfl
  repeat first | with_reducible exact Keeps.refl _ _ | with_reducible assumption
  (with_reducible apply Keeps.set_lat); exact rfl
  repeat first | with_reducible exact Keeps.refl _ _ | with_reducible assumption

theorem keeps_updMd (n : Nat) (f : MacEng → MacEng) (s : State) {mk : Nat} {s0 : State} (he : mk &&& 0xFFFFFFFFDFFF = mk) (hg : Keeps mk s0 s) :
    Keeps mk s0 (updMd n f s) := by
  refine Keeps.via ?_ he hg
  unfold updMd
  try dsimp -zeta only
  ((try lift_lets); intro xL; clear_value xL)
  (with_reducible apply Keeps.set_mac); exact rfl
  repeat first | with_reducible exact Keeps.refl _ _ | with_reducible assumption

theorem keeps_takeIndirect (n : Nat) (p : Indirect → Bool) (s : State) {mk : Nat} {s0 : State} (he : mk &&& 0xFFFFFFFFDFFF = mk) (hg : Keeps mk s0 s) :
    Keeps mk s0 (takeIndirect n p s) := by
  refine Keeps.via ?_ he hg
  unfold takeIndirect
  try dsimp -zeta only
  (with_reducible apply keeps_updMd); exact rfl
  repeat first | with_reducible exact Keeps.refl _ _ | with_reducible assumption

theorem keeps_updRoute (id : Nat) (f : Route → Route) (s : State) {mk : Nat} {s0 : State} (he : mk &&& 0xFFFFFFFFBFFF = mk) (hg : Keeps mk s0 s) :
    Keeps mk s0 (updRoute id f s) := by
  refine Keeps.via ?_ he hg
  unfold updRoute
  try dsimp -zeta only
  ((try lift_lets); intro xL; subst xL)
  split
  repeat first | with_reducible exact Keeps.refl _ _ | with_reducible assumption
  (with_reducible apply Keeps.in_lat); exact rfl
  · exact fun _ => rfl
  repeat first | with_reducible exact Keeps.refl _ _ | with_reducible assumption

theorem keeps_countUsers (s : State) {mk : Nat} {s0 : State} (he : mk &&& 0xFFFFFFFFBFFF = mk) (hg : Keeps mk s0 s) :
    Keeps mk s0 (countUsers s) := by
  refine Keeps.via ?_ he hg
  unfold countUsers
  try dsimp -zeta only
  ((try lift_lets); intro xL; subst xL)
  (with_reducible apply Keeps.in_lat); exact rfl
  · exact fun _ => rfl
  repeat first | with_reducible exact Keeps.refl _ _ | with_reducible assumption

theorem keeps_moveTo (n : Nat) (ep : Nat) (s : State) {mk : Nat} {s0 : State} (he : mk &&& 0xFDFFFFFFBFFF = mk) (hg : Keeps mk s0 s) :
    Keeps mk s0 (moveTo n ep s) := by
  refine Keeps.via ?_ he hg
  unfold moveTo updEp
  try dsimp -zeta only
  ((try lift_lets); intro xL; subst xL)
  split
  repeat first | with_reducible exact Keeps.refl _ _ | with_reducible assumption
  split
  repeat first | with_reducible exact Keeps.refl _ _ | with_reducible assumption
  split
  repeat first | with_reducible exact Keeps.refl _ _ | with_reducible assumption
  (with_reducible apply Keeps.set_lat); exact rfl
  repeat first | with_reducible exact Keeps.refl _ _ | with_reducible assumption

theorem keeps_notifyOwners (owner : Nat) (code : Nat) (payload : List Word) (s : State) {mk : Nat} {s0 : State} (he : mk &&& 0xFFFFFFFFF5FF = mk) (hg : Keeps mk s0 s) :
    Keeps mk s0 (notifyOwners owner code payload s) := by
  refine Keeps.via ?_ he hg
  unfold notifyOwners
  try dsimp -zeta only
  (with_reducible apply keeps_notifyPorts); exact rfl
  repeat first | with_reducible exact Keeps.refl _ _ | with_reducible assumption

theorem keeps_breakRoute (id : Nat) (s : State) {mk : Nat} {s0 : State} (he : mk &&& 0xFDFFFFFFB5FF = mk) (hg : Keeps mk s0 s) :
    Keeps mk s0 (breakRoute id s) := by
  refine Keeps.via ?_ he hg
  unfold breakRoute updEp
  try dsimp -zeta only
  ((try lift_lets); intro xL; clear_value xL)
  (intro xL; clear_value xL)
  (intro sL; with_reducible refine Keeps.cut sL ?_ ?_; rotate_left; (intro kL; clear_value sL); rotate_right; subst sL; try dsimp -zeta only)
  (with_reducible apply keeps_updRoute); exact rfl
  repeat first | with_reducible exact Keeps.refl _ _ | with_reducible assumption
  (with_reducible apply keeps_logNs); exact rfl
  ((with_reducible apply Keeps.fold); (intro _ _))
  split
  (with_reducible apply keeps_notifyOwners); exact rfl
  split
  repeat first | with_reducible exact Keeps.refl _ _ | with_reducible assumption
  (with_reducible apply Keeps.set_lat); exact rfl
  repeat first | with_reducible exact Keeps.refl _ _ | with_reducible assumption

theorem keeps_routeFailed (id : Nat) (s : State) {mk : Nat} {s0 : State} (he : mk &&& 0xFDFFFFFF35FF = mk) (hg : Keeps mk s0 s) :
    Keeps mk s0 (routeFailed id s) := by
  refine Keeps.via ?_ he hg
  unfold routeFailed updEp
  try dsimp -zeta only
  ((try lift_lets); intro sL; with_reducible refine Keeps.cut sL ?_ ?_; rotate_left; (intro kL; clear_value sL); rotate_right; subst sL; try dsimp -zeta only)
  (with_reducible apply keeps_updRoute); exact rfl
  repeat first | with_reducible exact Keeps.refl _ _ | with_reducible assumption
  split
  repeat first | with_reducible exact Keeps.refl _ _ | with_reducible assumption
  ((try lift_lets); intro sL; with_reducible refine Keeps.cut sL ?_ ?_; rotate_left; (intro kL; clear_value sL); rotate_right; subst sL; try dsimp -zeta only)
  (with_reducible apply keeps_updRoute); exact rfl
  (with_reducible apply keeps_updRoute); exact rfl
  repeat first | with_reducible exact Keeps.refl _ _ | with_reducible assumption
  split
  repeat first | with_reducible exact Keeps.refl _ _ | with_reducible assumption
  split
  ((try lift_lets); intro sL; with_reducible refine Keeps.cut sL ?_ ?_; rotate_left; (intro kL; clear_value sL); rotate_right; subst sL; try dsimp -zeta only)
  (with_reducible apply keeps_countUsers); exact rfl
  ((with_reducible apply Keeps.fold); (intro _ _))
  (with_reducible apply keeps_moveTo); exact rfl
  split
  repeat first | with_reducible exact Keeps.refl _ _ | with_reducible assumption
  (with_reducible apply Keeps.set_lat); exact rfl
  repeat first | with_reducible exact Keeps.refl _ _ | with_reducible assumption
  split
  (with_reducible apply keeps_logNs); exact rfl
  (with_reducible apply Keeps.set_txn); exact rfl
  repeat first | with_reducible exact Keeps.refl _ _ | with_reducible assumption
  (with_reducible apply keeps_breakRoute); exact rfl
  repeat first | with_reducible exact Keeps.refl _ _ | with_reducible assumption
  (with_reducible apply keeps_breakRoute); exact rfl
  repeat first | with_reducible exact Keeps.refl _ _ | with_reducible assumption

theorem keeps_openLink (ep : Nat) (s : State) {mk : Nat} {s0 : State} (he : mk &&& 0xFFFFFFFFDFFF = mk) (hg : Keeps mk s0 s) :
    Keeps mk s0 (openLink ep s) := by
  refine Keeps.via ?_ he hg
  unfold openLink
  try dsimp -zeta only
  ((try lift_lets); intro xL; clear_value xL)
  split
  repeat first | with_reducible exact Keeps.refl _ _ | with_reducible assumption
  ((try lift_lets); intro xL; clear_value xL)
  split
  (with_reducible apply Keeps.set_mac); exact rfl
  repeat first | with_reducible exact Keeps.refl _ _ | with_reducible assumption
  (with_reducible apply Keeps.set_mac); exact rfl
  repeat first | with_reducible exact Keeps.refl _ _ | with_reducible assumption

theorem keeps_writeRec (ep : Nat) (s : State) {mk : Nat} {s0 : State} (he : mk &&& 0xFFFFFFFFBFFF = mk) (hg : Keeps mk s0 s) :
    Keeps mk s0 (writeRec ep s) := by
  refine Keeps.via ?_ he hg
  unfold writeRec
  try dsimp -zeta only
  ((try lift_lets); intro xL; subst xL)
  (intro xL; clear_value xL)
  split
  split
  (with_reducible apply Keeps.in_lat); exact rfl
  · exact fun _ => rfl
  repeat first | with_reducible exact Keeps.refl _ _ | with_reducible assumption
  (with_reducible apply Keeps.in_lat); exact rfl
  · exact fun _ => rfl
  repeat first | with_reducible exact Keeps.refl _ _ | with_reducible assumption
  (with_reducible apply Keeps.in_lat); exact rfl
  · exact fun _ => rfl
  repeat first | with_reducible exact Keeps.refl _ _ | with_reducible assumption

theorem keeps_dropFromCorridor (ep : Nat) (id : Nat) (s : State) {mk : Nat} {s0 : State} (he : mk &&& 0xFFFFFFFDF7FF = mk) (hg : Keeps mk s0 s) :
    Keeps mk s0 (dropFromCorridor ep id s) := by
  refine Keeps.via ?_ he hg
  unfold dropFromCorridor
  try dsimp -zeta only
  ((try lift_lets); intro xL; clear_value xL)
  split
  repeat first | with_reducible exact Keeps.refl _ _ | with_reducible assumption
  ((try lift_lets); intro xL; clear_value xL)
  (intro xL; clear_value xL)
  (intro xL; clear_value xL)
  (intro xL; clear_value xL)
  split
  repeat first | with_reducible exact Keeps.refl _ _ | with_reducible assumption
  (with_reducible apply keeps_logNs); exact rfl
  (with_reducible apply Keeps.set_chd); exact rfl
  repeat first | with_reducible exact Keeps.refl _ _ | with_reducible assumption

theorem keeps_dropFromCorridors (ep : Nat) (s : State) {mk : Nat} {s0 : State} (he : mk &&& 0xFFFFFFFCF7FF = mk) (hg : Keeps mk s0 s) :
    Keeps mk s0 (dropFromCorridors ep s) := by
  refine Keeps.via ?_ he hg
  unfold dropFromCorridors
  try dsimp -zeta only
  ((try lift_lets); intro sL; with_reducible refine Keeps.cut sL ?_ ?_; rotate_left; (intro kL; clear_value sL); rotate_right; subst sL; try dsimp -zeta only)
  ((with_reducible apply Keeps.fold); (intro _ _))
  (with_reducible apply keeps_dropFromCorridor); exact rfl
  repeat first | with_reducible exact Keeps.refl _ _ | with_reducible assumption
  (with_reducible apply Keeps.upd)
  · exact fun _ => rfl
  · exact fun _ => rfl
  · exact fun _ => rfl
  · exact fun _ => rfl
  · exact fun _ => rfl
  · exact fun _ => rfl
  · exact fun _ => rfl
  · exact fun _ => rfl
  · exact fun _ => rfl
  · exact fun _ => rfl
  · exact fun h => Bool.noConfusion h
  · exact fun _ => rfl
  · exact fun _ => rfl
  · exact fun _ => rfl
  · exact fun _ => rfl
  · exact fun h => Bool.noConfusion h
  · exact fun h => Bool.noConfusion h
  · exact fun _ => rfl
  · exact fun _ => rfl
  · exact fun _ => rfl
  · exact fun _ => rfl
  · exact fun _ => rfl
  · exact fun _ => rfl
  · exact fun _ => rfl
  · exact fun _ => rfl
  · exact fun _ => rfl
  · exact fun _ => rfl
  · exact fun _ => rfl
  · exact fun _ => rfl
  · exact fun _ => rfl
  · exact fun _ => rfl
  · exact fun _ => rfl
  · exact fun _ => rfl
  · exact fun _ => rfl
  · exact fun _ => rfl
  · exact fun _ => rfl
  · exact fun _ => rfl
  · exact fun _ => rfl
  · exact fun _ => rfl
  · exact fun _ => rfl
  · exact fun _ => rfl
  · exact fun _ => rfl
  · exact fun _ => rfl
  · exact fun _ => rfl
  · exact fun _ _ h => h
  · exact fun _ h => ⟨h, rfl⟩
  · exact fun _ h => h
  repeat first | with_reducible exact Keeps.refl _ _ | with_reducible assumption

theorem keeps_closeLink (ep : Nat) (s : State) {mk : Nat} {s0 : State} (he : mk &&& 0xFFFFFFFFDFFF = mk) (hg : Keeps mk s0 s) :
    Keeps mk s0 (closeLink ep s) := by
  refine Keeps.via ?_ he hg
  unfold closeLink
  try dsimp -zeta only
  ((try lift_lets); intro xL; clear_value xL)
  (with_reducible apply Keeps.set_mac); exact rfl
  repeat first | with_reducible exact Keeps.refl _ _ | with_reducible assumption

theorem keeps_forgetCtr (ep : Nat) (s : State) {mk : Nat} {s0 : State} (he : mk &&& 0xFFFFFFFFBFFF = mk) (hg : Keeps mk s0 s) :
    Keeps mk s0 (forgetCtr ep s) := by
  refine Keeps.via ?_ he hg
  unfold forgetCtr
  try dsimp -zeta only
  ((try lift_lets); intro xL; clear_value xL)
  (intro xL; subst xL; try dsimp -zeta only)
  (intro xL; subst xL)
  (with_reducible apply Keeps.in_lat); exact rfl
  · exact fun _ => rfl
  repeat first | with_reducible exact Keeps.refl _ _ | with_reducible assumption

theorem keeps_updLink (ep : Nat) (f : Link → Link) (s : State) {mk : Nat} {s0 : State} (he : mk &&& 0xFFFFFFFFDFFF = mk) (hg : Keeps mk s0 s) :
    Keeps mk s0 (updLink ep f s) := by
  refine Keeps.via ?_ he hg
  unfold updLink
  try dsimp -zeta only
  ((try lift_lets); intro xL; clear_value xL)
  split
  repeat first | with_reducible exact Keeps.refl _ _ | with_reducible assumption
  (with_reducible apply Keeps.set_mac); exact rfl
  repeat first | with_reducible exact Keeps.refl _ _ | with_reducible assumption

theorem keeps_heardFrom (ep : Nat) (tt : Nat) (rssi : Int) (snr : Int) (s : State) {mk : Nat} {s0 : State} (he : mk &&& 0xFFFFFFFFDFFF = mk) (hg : Keeps mk s0 s) :
    Keeps mk s0 (heardFrom ep tt rssi snr s) := by
  refine Keeps.via ?_ he hg
  unfold heardFrom
  split
  · exact keeps_updLink _ _ _ rfl (Keeps.refl _ _)
  · exact Keeps.refl _ _

theorem keeps_updCnt (n : Nat) (f : MacCnt → MacCnt) (s : State) {mk : Nat} {s0 : State} (he : mk &&& 0xFFFFFFFFDFFF = mk) (hg : Keeps mk s0 s) :
    Keeps mk s0 (updCnt n f s) := by
  refine Keeps.via ?_ he hg
  unfold updCnt
  try dsimp -zeta only
  (with_reducible apply keeps_updMd); exact rfl
  repeat first | with_reducible exact Keeps.refl _ _ | with_reducible assumption

theorem keeps_routeOk (id : Nat) (s : State) {mk : Nat} {s0 : State} (he : mk &&& 0xFFFFFFFFBFFF = mk) (hg : Keeps mk s0 s) :
    Keeps mk s0 (routeOk id s) := by
  refine Keeps.via ?_ he hg
  unfold routeOk
  try dsimp -zeta only
  (with_reducible apply keeps_updRoute); exact rfl
  repeat first | with_reducible exact Keeps.refl _ _ | with_reducible assumption

theorem keeps_noteAdrift (n : Nat) (k : Nat) (s : State) {mk : Nat} {s0 : State} (he : mk &&& 0xFFFFFFFFF7FF = mk) (hg : Keeps mk s0 s) :
    Keeps mk s0 (noteAdrift n k s) := by
  refine Keeps.via ?_ he hg
  unfold noteAdrift
  try dsimp -zeta only
  (with_reducible apply keeps_logLimN); exact rfl
  repeat first | with_reducible exact Keeps.refl _ _ | with_reducible assumption

theorem keeps_driftLinks (n : Nat) (eps : List Nat) (s : State) {mk : Nat} {s0 : State} (he : mk &&& 0xFFFFFFFFD7FF = mk) (hg : Keeps mk s0 s) :
    Keeps mk s0 (driftLinks n eps s) := by
  refine Keeps.via ?_ he hg
  unfold driftLinks updLink
  try dsimp -zeta only
  ((try lift_lets); intro xL; clear_value xL)
  split
  repeat first | with_reducible exact Keeps.refl _ _ | with_reducible assumption
  (with_reducible apply keeps_noteAdrift); exact rfl
  ((with_reducible apply Keeps.fold); (intro _ _))
  split
  repeat first | with_reducible exact Keeps.refl _ _ | with_reducible assumption
  (with_reducible apply Keeps.set_mac); exact rfl
  repeat first | with_reducible exact Keeps.refl _ _ | with_reducible assumption

theorem keeps_toResync (n : Nat) (cause : Nat) (eps : List Nat) (s : State) {mk : Nat} {s0 : State} (he : mk &&& 0xFFFFFFFFD7FF = mk) (hg : Keeps mk s0 s) :
    Keeps mk s0 (toResync n cause eps s) := by
  refine Keeps.via ?_ he hg
  unfold toResync updLink
  try dsimp -zeta only
  ((try lift_lets); intro xL; clear_value xL)
  split
  repeat first | with_reducible exact Keeps.refl _ _ | with_reducible assumption
  (with_reducible apply keeps_logLimN); exact rfl
  ((with_reducible apply Keeps.fold); (intro _ _))
  split
  repeat first | with_reducible exact Keeps.refl _ _ | with_reducible assumption
  (with_reducible apply Keeps.set_mac); exact rfl
  repeat first | with_reducible exact Keeps.refl _ _ | with_reducible assumption

theorem keeps_learnRoute (n : Nat) (router : Nat) (path : List Nat) (s : State) {mk : Nat} {s0 : State} (he : mk &&& 0xFDFFFFFFB7FF = mk) (hg : Keeps mk s0 s) :
    Keeps mk s0 (learnRoute n router path s) := by
  refine Keeps.via ?_ he hg
  unfold learnRoute updEp
  try dsimp -zeta only
  ((try lift_lets); intro xL; clear_value xL)
  (intro xL; clear_value xL)
  (intro xL; clear_value xL)
  (intro xL; subst xL)
  (intro sL; with_reducible refine Keeps.cut sL ?_ ?_; rotate_left; (intro kL; clear_value sL); rotate_right; subst sL; try dsimp -zeta only)
  split
  repeat first | with_reducible exact Keeps.refl _ _ | with_reducible assumption
  (with_reducible apply Keeps.set_lat); exact rfl
  repeat first | with_reducible exact Keeps.refl _ _ | with_reducible assumption
  split
  split
  repeat first | with_reducible exact Keeps.refl _ _ | with_reducible assumption
  (with_reducible apply keeps_countUsers); exact rfl
  ((with_reducible apply Keeps.fold); (intro _ _))
  (with_reducible apply keeps_moveTo); exact rfl
  split
  repeat first | with_reducible exact Keeps.refl _ _ | with_reducible assumption
  (with_reducible apply Keeps.set_lat); exact rfl
  repeat first | with_reducible exact Keeps.refl _ _ | with_reducible assumption
  split
  (with_reducible apply Keeps.set_lat); exact rfl
  (with_reducible apply keeps_updRoute); exact rfl
  repeat first | with_reducible exact Keeps.refl _ _ | with_reducible assumption
  (with_reducible apply Keeps.set_lat); exact rfl
  repeat first | with_reducible exact Keeps.refl _ _ | with_reducible assumption
  ((try lift_lets); intro sL; with_reducible refine Keeps.cut sL ?_ ?_; rotate_left; (intro kL; clear_value sL); rotate_right; subst sL; try dsimp -zeta only)
  ((with_reducible apply Keeps.fold); (intro _ _))
  split
  repeat first | with_reducible exact Keeps.refl _ _ | with_reducible assumption
  (with_reducible apply Keeps.set_lat); exact rfl
  repeat first | with_reducible exact Keeps.refl _ _ | with_reducible assumption
  (with_reducible apply keeps_updRoute); exact rfl
  split
  repeat first | with_reducible exact Keeps.refl _ _ | with_reducible assumption
  (with_reducible apply keeps_countUsers); exact rfl
  ((with_reducible apply Keeps.fold); (intro _ _))
  (with_reducible apply keeps_moveTo); exact rfl
  split
  repeat first | with_reducible exact Keeps.refl _ _ | with_reducible assumption
  (with_reducible apply Keeps.set_lat); exact rfl
  repeat first | with_reducible exact Keeps.refl _ _ | with_reducible assumption
  split
  (with_reducible apply Keeps.set_lat); exact rfl
  (with_reducible apply keeps_updRoute); exact rfl
  repeat first | with_reducible exact Keeps.refl _ _ | with_reducible assumption
  (with_reducible apply Keeps.set_lat); exact rfl
  repeat first | with_reducible exact Keeps.refl _ _ | with_reducible assumption
  split
  split
  repeat first | with_reducible exact Keeps.refl _ _ | with_reducible assumption
  (with_reducible apply keeps_countUsers); exact rfl
  ((with_reducible apply Keeps.fold); (intro _ _))
  (with_reducible apply keeps_moveTo); exact rfl
  split
  repeat first | with_reducible exact Keeps.refl _ _ | with_reducible assumption
  (with_reducible apply Keeps.set_lat); exact rfl
  repeat first | with_reducible exact Keeps.refl _ _ | with_reducible assumption
  split
  (with_reducible apply Keeps.set_lat); exact rfl
  (with_reducible apply keeps_updRoute); exact rfl
  repeat first | with_reducible exact Keeps.refl _ _ | with_reducible assumption
  (with_reducible apply Keeps.set_lat); exact rfl
  repeat first | with_reducible exact Keeps.refl _ _ | with_reducible assumption
  split
  split
  repeat first | with_reducible exact Keeps.refl _ _ | with_reducible assumption
  (with_reducible apply keeps_logNs); exact rfl
  repeat first | with_reducible exact Keeps.refl _ _ | with_reducible assumption
  split
  split
  (with_reducible apply keeps_countUsers); exact rfl
  ((with_reducible apply Keeps.fold); (intro _ _))
  (with_reducible apply keeps_moveTo); exact rfl
  split
  repeat first | with_reducible exact Keeps.refl _ _ | with_reducible assumption
  (with_reducible apply Keeps.set_lat); exact rfl
  repeat first | with_reducible exact Keeps.refl _ _ | with_reducible assumption
  (with_reducible apply Keeps.set_lat); exact rfl
  (with_reducible apply keeps_updRoute); exact rfl
  repeat first | with_reducible exact Keeps.refl _ _ | with_reducible assumption
  (with_reducible apply keeps_logNs); exact rfl
  repeat first | with_reducible exact Keeps.refl _ _ | with_reducible assumption
  split
  (with_reducible apply keeps_countUsers); exact rfl
  ((with_reducible apply Keeps.fold); (intro _ _))
  (with_reducible apply keeps_moveTo); exact rfl
  split
  repeat first | with_reducible exact Keeps.refl _ _ | with_reducible assumption
  (with_reducible apply Keeps.set_lat); exact rfl
  repeat first | with_reducible exact Keeps.refl _ _ | with_reducible assumption
  (with_reducible apply Keeps.set_lat); exact rfl
  repeat first | with_reducible exact Keeps.refl _ _ | with_reducible assumption
  (with_reducible apply keeps_logNs); exact rfl
  repeat first | with_reducible exact Keeps.refl _ _ | with_reducible assumption

theorem keeps_resetIn (ep : Nat) (cur : Nat) (prev : Nat) (s : State) {mk : Nat} {s0 : State} (he : mk &&& 0xFFFFFFFFBFFF = mk) (hg : Keeps mk s0 s) :
    Keeps mk s0 (resetIn ep cur prev s) := by
  refine Keeps.via ?_ he hg
  unfold resetIn
  try dsimp -zeta only
  ((try lift_lets); intro xL; clear_value xL)
  (intro xL; subst xL; try dsimp -zeta only)
  (intro xL; subst xL)
  (with_reducible apply Keeps.in_lat); exact rfl
  · exact fun _ => rfl
  repeat first | with_reducible exact Keeps.refl _ _ | with_reducible assumption

theorem keeps_takeOut (ep : Nat) (s : State) {mk : Nat} {s0 : State} (he : mk &&& 0xFDFFFFFFBFFF = mk) (hg : Keeps mk s0 s) :
    Keeps mk s0 (takeOut ep s) := by
  refine Keeps.via ?_ he hg
  unfold takeOut updEp
  try dsimp -zeta only
  ((try lift_lets); intro xL; clear_value xL)
  (intro xL; subst xL)
  (intro xL; clear_value xL)
  split
  repeat first | with_reducible exact Keeps.refl _ _ | with_reducible assumption
  ((try lift_lets); intro sL; with_reducible refine Keeps.cut sL ?_ ?_; rotate_left; (intro kL; clear_value sL); rotate_right; subst sL; try dsimp -zeta only)
  split
  (with_reducible apply Keeps.set_lat); exact rfl
  repeat first | with_reducible exact Keeps.refl _ _ | with_reducible assumption
  split
  repeat first | with_reducible exact Keeps.refl _ _ | with_reducible assumption
  (with_reducible apply Keeps.set_lat); exact rfl
  repeat first | with_reducible exact Keeps.refl _ _ | with_reducible assumption

theorem keeps_putIndirect (n : Nat) (ep : Nat) (src : FrameSrc) (octets : Nat) (body : TxBody) (until_ : Nat) (s : State) {mk : Nat} {s0 : State} (he : mk &&& 0xFFFFFFFFDFFF = mk) (hg : Keeps mk s0 s) :
    Keeps mk s0 (putIndirect n ep src octets body until_ s) := by
  refine Keeps.via ?_ he hg
  unfold putIndirect
  try dsimp -zeta only
  (with_reducible apply keeps_updMd); exact rfl
  repeat first | with_reducible exact Keeps.refl _ _ | with_reducible assumption

theorem keeps_contact (ep : Nat) (ie : LinkIe) (tt : Nat) (s : State) {mk : Nat} {s0 : State} (he : mk &&& 0xFFFFFFFFD7FF = mk) (hg : Keeps mk s0 s) :
    Keeps mk s0 (contact ep ie tt s) := by
  refine Keeps.via ?_ he hg
  unfold contact
  split
  · have k1 : ∀ f, Keeps 0xFFFFFFFFD7FF s (updLink ep f s) := fun f => keeps_updLink _ _ _ rfl (Keeps.refl _ _)
    have k2 : ∀ (b : Bool) n f, Keeps 0xFFFFFFFFD7FF s (if b then noteAdrift n 1 (updLink ep f s) else updLink ep f s) := by
      intro b n f
      split
      · exact keeps_noteAdrift _ _ _ rfl (k1 _)
      · exact k1 _
    dsimp only
    have k3 : ∀ (b : Bool) n u, Keeps 0xFFFFFFFFD7FF s u →
        Keeps 0xFFFFFFFFD7FF s (if b then updMd n (fun m => { m with answered := m.answered + 1 }) u else u) := by
      intro b n u hu
      split
      · exact keeps_updMd _ _ _ rfl hu
      · exact hu
    exact k3 _ _ _ (k2 _ _ _)
  · exact Keeps.refl _ _

theorem keeps_confirmCeilings (s : State) {mk : Nat} {s0 : State} (he : mk &&& 0xFFFFFFFFBFFF = mk) (hg : Keeps mk s0 s) :
    Keeps mk s0 (confirmCeilings s) := by
  refine Keeps.via ?_ he hg
  unfold confirmCeilings
  try dsimp -zeta only
  ((try lift_lets); intro xL; subst xL)
  (intro xL; clear_value xL)
  (with_reducible apply Keeps.in_lat); exact rfl
  · exact fun _ => rfl
  repeat first | with_reducible exact Keeps.refl _ _ | with_reducible assumption

theorem keeps_useKey (n : Nat) (ep : Nat) (wrapped : List Word) (key : List Word) (s : State) {mk : Nat} {s0 : State} (he : mk &&& 0xFFFFFFFFDFFF = mk) (hg : Keeps mk s0 s) :
    Keeps mk s0 (useKey n ep wrapped key s) := by
  refine Keeps.via ?_ he hg
  unfold useKey
  try dsimp -zeta only
  (with_reducible apply keeps_updMd); exact rfl
  repeat first | with_reducible exact Keeps.refl _ _ | with_reducible assumption

theorem keeps_useCur (n : Nat) (ep : Nat) (s : State) {mk : Nat} {s0 : State} (he : mk &&& 0xFFFFFFFFDFFF = mk) (hg : Keeps mk s0 s) :
    Keeps mk s0 (useCur n ep s) := by
  refine Keeps.via ?_ he hg
  unfold useCur
  try dsimp -zeta only
  split
  repeat first | with_reducible exact Keeps.refl _ _ | with_reducible assumption
  split
  (with_reducible apply keeps_useKey); exact rfl
  repeat first | with_reducible exact Keeps.refl _ _ | with_reducible assumption

theorem keeps_takeSlot (k : Nat) (s : State) {mk : Nat} {s0 : State} (he : mk &&& 0xFFFFFFFFDFFF = mk) (hg : Keeps mk s0 s) :
    Keeps mk s0 (takeSlot k s) := by
  refine Keeps.via ?_ he hg
  unfold takeSlot
  try dsimp -zeta only
  ((try lift_lets); intro xL; clear_value xL)
  (with_reducible apply Keeps.set_mac); exact rfl
  repeat first | with_reducible exact Keeps.refl _ _ | with_reducible assumption

theorem keeps_toLost (n : Nat) (ep : Nat) (s : State) {mk : Nat} {s0 : State} (he : mk &&& 0xFFFFFFFFD5FF = mk) (hg : Keeps mk s0 s) :
    Keeps mk s0 (toLost n ep s) := by
  refine Keeps.via ?_ he hg
  unfold toLost updLink
  try dsimp -zeta only
  ((try lift_lets); intro xL; clear_value xL)
  split
  repeat first | with_reducible exact Keeps.refl _ _ | with_reducible assumption
  ((try lift_lets); intro sL; with_reducible refine Keeps.cut sL ?_ ?_; rotate_left; (intro kL; clear_value sL); rotate_right; subst sL; try dsimp -zeta only)
  (with_reducible apply keeps_logNs); exact rfl
  (with_reducible apply Keeps.set_mac); exact rfl
  repeat first | with_reducible exact Keeps.refl _ _ | with_reducible assumption
  (with_reducible apply keeps_notifyPorts); exact rfl
  repeat first | with_reducible exact Keeps.refl _ _ | with_reducible assumption

end Sys2Proof.Laws
end

