-- ==== Sys2Proof/Laws/Frames/Txn.lean ====
section
/-!
SUPPORT. Frames of the operations of Machine/Txn.lean.
-/
set_option Elab.async false
namespace Sys2Proof.Laws
open Sys2Proof Sys2Proof.Machine

theorem keeps_rollRates (s : State) {mk : Nat} {s0 : State} (he : mk &&& 0xFFFFFFFF7FFF = mk) (hg : Keeps mk s0 s) :
    Keeps mk s0 (rollRates s) := by
  refine Keeps.via ?_ he hg
  unfold rollRates
  try dsimp -zeta only
  ((try lift_lets); intro xL; clear_value xL)
  (intro xL; clear_value xL)
  (intro xL; clear_value xL)
  split
  repeat first | with_reducible exact Keeps.refl _ _ | with_reducible assumption
  split
  (with_reducible apply Keeps.set_txn); exact rfl
  repeat first | with_reducible exact Keeps.refl _ _ | with_reducible assumption
  (with_reducible apply Keeps.set_txn); exact rfl
  repeat first | with_reducible exact Keeps.refl _ _ | with_reducible assumption

theorem keeps_noteAbandoned (cause : Nat) (s : State) {mk : Nat} {s0 : State} (he : mk &&& 0xFFFFFFFF77FF = mk) (hg : Keeps mk s0 s) :
    Keeps mk s0 (noteAbandoned cause s) := by
  refine Keeps.via ?_ he hg
  unfold noteAbandoned
  try dsimp -zeta only
  ((try lift_lets); intro xL; clear_value xL)
  (intro xL; clear_value xL)
  (intro xL; clear_value xL)
  (intro xL; clear_value xL)
  (with_reducible apply keeps_logLim); exact rfl
  split
  (with_reducible apply Keeps.set_txn); exact rfl
  repeat first | with_reducible exact Keeps.refl _ _ | with_reducible assumption
  (with_reducible apply Keeps.set_txn); exact rfl
  repeat first | with_reducible exact Keeps.refl _ _ | with_reducible assumption

theorem keeps_updGroup (id : Nat) (f : GroupMsg → GroupMsg) (s : State) {mk : Nat} {s0 : State} (he : mk &&& 0xFFFFFFFF7FFF = mk) (hg : Keeps mk s0 s) :
    Keeps mk s0 (updGroup id f s) := by
  refine Keeps.via ?_ he hg
  unfold updGroup
  try dsimp -zeta only
  ((try lift_lets); intro xL; clear_value xL)
  (with_reducible apply Keeps.set_txn); exact rfl
  repeat first | with_reducible exact Keeps.refl _ _ | with_reducible assumption

theorem keeps_endGroup (g : GroupMsg) (status : Nat) (cause : Nat) (s : State) {mk : Nat} {s0 : State} (he : mk &&& 0xFFFFFFFF79FF = mk) (hg : Keeps mk s0 s) :
    Keeps mk s0 (endGroup g status cause s) := by
  refine Keeps.via ?_ he hg
  unfold endGroup
  try dsimp -zeta only
  ((try lift_lets); intro xL; clear_value xL)
  (intro sL; with_reducible refine Keeps.cut sL ?_ ?_; rotate_left; (intro kL; clear_value sL); rotate_right; subst sL; try dsimp -zeta only)
  (with_reducible apply Keeps.set_txn); exact rfl
  repeat first | with_reducible exact Keeps.refl _ _ | with_reducible assumption
  split
  repeat first | with_reducible exact Keeps.refl _ _ | with_reducible assumption
  (with_reducible apply keeps_complete); exact rfl
  repeat first | with_reducible exact Keeps.refl _ _ | with_reducible assumption

theorem keeps_groupMember (gid : Nat) (ok : Bool) (status : Nat) (cause : Nat) (eng : Option Nat) (s : State) {mk : Nat} {s0 : State} (he : mk &&& 0xFFFFFFFF79FF = mk) (hg : Keeps mk s0 s) :
    Keeps mk s0 (groupMember gid ok status cause eng s) := by
  refine Keeps.via ?_ he hg
  unfold groupMember
  try dsimp -zeta only
  ((try lift_lets); intro sL; with_reducible refine Keeps.cut sL ?_ ?_; rotate_left; (intro kL; clear_value sL); rotate_right; subst sL; try dsimp -zeta only)
  (with_reducible apply keeps_updGroup); exact rfl
  repeat first | with_reducible exact Keeps.refl _ _ | with_reducible assumption
  split
  repeat first | with_reducible exact Keeps.refl _ _ | with_reducible assumption
  split
  repeat first | with_reducible exact Keeps.refl _ _ | with_reducible assumption
  split
  split
  (with_reducible apply keeps_endGroup); exact rfl
  repeat first | with_reducible exact Keeps.refl _ _ | with_reducible assumption
  (with_reducible apply keeps_endGroup); exact rfl
  repeat first | with_reducible exact Keeps.refl _ _ | with_reducible assumption
  (with_reducible apply keeps_endGroup); exact rfl
  repeat first | with_reducible exact Keeps.refl _ _ | with_reducible assumption

theorem keeps_startTxnIn (compat : Bool) (kind : TxnKind) (ep : Nat) (org : Option Origin) (query : Bool) (strict : Bool) (app : List Nat) (target : Option Nat) (deadline : Nat) (s : State) {mk : Nat} {s0 : State} (he : mk &&& 0xFFFFFFFF7FFF = mk) (hg : Keeps mk s0 s) :
    Keeps mk s0 (startTxnIn compat kind ep org query strict app target deadline s) := by
  refine Keeps.via ?_ he hg
  unfold startTxnIn
  try dsimp -zeta only
  ((try lift_lets); intro xL; clear_value xL)
  (intro xL; clear_value xL)
  (intro xL; clear_value xL)
  (intro xL; clear_value xL)
  (intro xL; clear_value xL)
  (with_reducible apply Keeps.set_txn); exact rfl
  repeat first | with_reducible exact Keeps.refl _ _ | with_reducible assumption

theorem keeps_startTxn (kind : TxnKind) (ep : Nat) (org : Option Origin) (query : Bool) (strict : Bool) (app : List Nat) (target : Option Nat) (deadline : Nat) (s : State) {mk : Nat} {s0 : State} (he : mk &&& 0xFFFFFFFF7FFF = mk) (hg : Keeps mk s0 s) :
    Keeps mk s0 (startTxn kind ep org query strict app target deadline s) := by
  refine Keeps.via ?_ he hg
  unfold startTxn
  try dsimp -zeta only
  (with_reducible apply keeps_startTxnIn); exact rfl
  repeat first | with_reducible exact Keeps.refl _ _ | with_reducible assumption

theorem keeps_startWaits (s : State) {mk : Nat} {s0 : State} (he : mk &&& 0xFFFFFFFF7FFF = mk) (hg : Keeps mk s0 s) :
    Keeps mk s0 (startWaits s) := by
  refine Keeps.via ?_ he hg
  unfold startWaits
  try dsimp -zeta only
  ((try lift_lets); intro xL; clear_value xL)
  (intro xL; clear_value xL)
  ((with_reducible apply Keeps.fold); (intro _ _))
  (with_reducible apply keeps_startTxn); exact rfl
  repeat first | with_reducible exact Keeps.refl _ _ | with_reducible assumption
  (with_reducible apply Keeps.set_txn); exact rfl
  repeat first | with_reducible exact Keeps.refl _ _ | with_reducible assumption

theorem keeps_releaseHeld (s : State) {mk : Nat} {s0 : State} (he : mk &&& 0xFFFFFFFF7FFF = mk) (hg : Keeps mk s0 s) :
    Keeps mk s0 (releaseHeld s) := by
  refine Keeps.via ?_ he hg
  unfold releaseHeld
  try dsimp -zeta only
  ((try lift_lets); intro xL; clear_value xL)
  (with_reducible apply Keeps.set_txn); exact rfl
  repeat first | with_reducible exact Keeps.refl _ _ | with_reducible assumption

theorem keeps_dropEp (ep : Nat) (s : State) {mk : Nat} {s0 : State} (he : mk &&& 0xFDFFFFFC15FF = mk) (hg : Keeps mk s0 s) :
    Keeps mk s0 (dropEp ep s) := by
  refine Keeps.via ?_ he hg
  unfold dropEp
  try dsimp -zeta only
  ((try lift_lets); intro sL; with_reducible refine Keeps.cut sL ?_ ?_; rotate_left; (intro kL; clear_value sL); rotate_right; subst sL; try dsimp -zeta only)
  (with_reducible apply keeps_dropFromCorridors); exact rfl
  (with_reducible apply keeps_closeLink); exact rfl
  repeat first | with_reducible exact Keeps.refl _ _ | with_reducible assumption
  split
  repeat first | with_reducible exact Keeps.refl _ _ | with_reducible assumption
  ((try lift_lets); intro xL; clear_value xL)
  (intro sL; with_reducible refine Keeps.cut sL ?_ ?_; rotate_left; (intro kL; clear_value sL); rotate_right; subst sL; try dsimp -zeta only)
  (with_reducible apply keeps_updMd); exact rfl
  repeat first | with_reducible exact Keeps.refl _ _ | with_reducible assumption
  (with_reducible apply keeps_countUsers); exact rfl
  ((with_reducible apply Keeps.fold); (intro _ _))
  (with_reducible apply keeps_breakRoute); exact rfl
  repeat first | with_reducible exact Keeps.refl _ _ | with_reducible assumption
  (with_reducible apply keeps_writeRec); exact rfl
  (with_reducible apply keeps_forgetCtr); exact rfl
  (with_reducible apply Keeps.upd)
  · exact fun _ => rfl
  · exact fun _ => rfl
  · exact fun _ => rfl
  · exact fun _ => rfl
  · exact fun _ => rfl
  · exact fun _ => rfl
  · exact fun _ => rfl
  · exact fun _ => rfl
  · exact fun h => Bool.noConfusion h
  · exact fun _ => rfl
  · exact fun h => Bool.noConfusion h
  · exact fun _ => rfl
  · exact fun h => Bool.noConfusion h
  · exact fun h => Bool.noConfusion h
  · exact fun h => Bool.noConfusion h
  · exact fun h => Bool.noConfusion h
  · exact fun h => Bool.noConfusion h
  · exact fun _ => rfl
  · exact fun _ => rfl
  · exact fun _ => rfl
  · exact fun _ => rfl
  · exact fun _ => rfl
  · exact fun _ => rfl
  · exact fun _ => rfl
  · exact fun _ => rfl
  · exact fun _ => rfl
  · exact fun _ => rfl
  · exact fun _ => rfl
  · exact fun _ => rfl
  · exact fun _ => rfl
  · exact fun _ => rfl
  · exact fun _ => rfl
  · exact fun _ => rfl
  · exact fun _ => rfl
  · exact fun _ => rfl
  · exact fun _ => rfl
  · exact fun _ => rfl
  · exact fun _ => rfl
  · exact fun _ => rfl
  · exact fun _ => rfl
  · exact fun h => Bool.noConfusion h
  · exact fun _ => rfl
  · exact fun _ => rfl
  · exact fun _ => rfl
  · exact fun _ _ h => h
  · exact fun _ h => ⟨h, rfl⟩
  · exact fun _ h => h
  repeat first | with_reducible exact Keeps.refl _ _ | with_reducible assumption

theorem keeps_eraseEp (ep : Nat) (port : Nat) (confirmed : Bool) (s : State) {mk : Nat} {s0 : State} (he : mk &&& 0xFDFFFFEC15F3 = mk) (hg : Keeps mk s0 s) :
    Keeps mk s0 (eraseEp ep port confirmed s) := by
  refine Keeps.via ?_ he hg
  unfold eraseEp
  try dsimp -zeta only
  split
  repeat first | with_reducible exact Keeps.refl _ _ | with_reducible assumption
  (with_reducible apply keeps_evalAuto); exact rfl
  (with_reducible apply keeps_logNs); exact rfl
  (with_reducible apply keeps_dropEp); exact rfl
  repeat first | with_reducible exact Keeps.refl _ _ | with_reducible assumption

theorem keeps_leftEp (ep : Nat) (port : Nat) (confirmed : Bool) (s : State) {mk : Nat} {s0 : State} (he : mk &&& 0xFDFFFFEC15F1 = mk) (hg : Keeps mk s0 s) :
    Keeps mk s0 (leftEp ep port confirmed s) := by
  refine Keeps.via ?_ he hg
  unfold leftEp
  try dsimp -zeta only
  ((try lift_lets); intro sL; with_reducible refine Keeps.cut sL ?_ ?_; rotate_left; (intro kL; clear_value sL); rotate_right; subst sL; try dsimp -zeta only)
  (with_reducible apply keeps_eraseEp); exact rfl
  (with_reducible apply keeps_freshNat); exact rfl
  repeat first | with_reducible exact Keeps.refl _ _ | with_reducible assumption
  split
  repeat first | with_reducible exact Keeps.refl _ _ | with_reducible assumption
  split
  (with_reducible apply Keeps.set_lat); exact rfl
  repeat first | with_reducible exact Keeps.refl _ _ | with_reducible assumption

theorem keeps_afterTxn (t : Txn) (ok : Bool) (s : State) {mk : Nat} {s0 : State} (he : mk &&& 0xFDFFFFEC15F1 = mk) (hg : Keeps mk s0 s) :
    Keeps mk s0 (afterTxn t ok s) := by
  refine Keeps.via ?_ he hg
  unfold afterTxn updEp
  try dsimp -zeta only
  ((try lift_lets); intro xL; subst xL)
  (intro sL; with_reducible refine Keeps.cut sL ?_ ?_; rotate_left; (intro kL; clear_value sL); rotate_right; subst sL; try dsimp -zeta only)
  (with_reducible apply keeps_openLink); exact rfl
  split
  repeat first | with_reducible exact Keeps.refl _ _ | with_reducible assumption
  (with_reducible apply Keeps.set_lat); exact rfl
  repeat first | with_reducible exact Keeps.refl _ _ | with_reducible assumption
  split
  split
  repeat first | with_reducible exact Keeps.refl _ _ | with_reducible assumption
  split
  repeat first | with_reducible exact Keeps.refl _ _ | with_reducible assumption
  split
  (with_reducible apply keeps_notifyOwners); exact rfl
  (with_reducible apply keeps_logNs); exact rfl
  (with_reducible apply keeps_writeRec); exact rfl
  repeat first | with_reducible exact Keeps.refl _ _ | with_reducible assumption
  (with_reducible apply keeps_countUsers); exact rfl
  (with_reducible apply keeps_writeRec); exact rfl
  split
  repeat first | with_reducible exact Keeps.refl _ _ | with_reducible assumption
  (with_reducible apply Keeps.set_lat); exact rfl
  repeat first | with_reducible exact Keeps.refl _ _ | with_reducible assumption
  split
  (with_reducible apply keeps_openLink); exact rfl
  (with_reducible apply keeps_writeRec); exact rfl
  split
  repeat first | with_reducible exact Keeps.refl _ _ | with_reducible assumption
  (with_reducible apply Keeps.set_lat); exact rfl
  repeat first | with_reducible exact Keeps.refl _ _ | with_reducible assumption
  split
  repeat first | with_reducible exact Keeps.refl _ _ | with_reducible assumption
  (with_reducible apply keeps_logLim); exact rfl
  repeat first | with_reducible exact Keeps.refl _ _ | with_reducible assumption
  (with_reducible apply keeps_leftEp); exact rfl
  repeat first | with_reducible exact Keeps.refl _ _ | with_reducible assumption

theorem keeps_finishTxn (t : Txn) (status : Nat) (cause : Nat) (x : TxnRes) (s : State) {mk : Nat} {s0 : State} (he : mk &&& 0xFDFFFFEC01F1 = mk) (hg : Keeps mk s0 s) :
    Keeps mk s0 (finishTxn t status cause x s) := by
  refine Keeps.via ?_ he hg
  unfold finishTxn
  try dsimp -zeta only
  ((try lift_lets); intro xL; clear_value xL)
  (intro xL; clear_value xL)
  (intro sL; with_reducible refine Keeps.cut sL ?_ ?_; rotate_left; (intro kL; clear_value sL); rotate_right; subst sL; try dsimp -zeta only)
  (with_reducible apply keeps_rollRates); exact rfl
  (with_reducible apply Keeps.set_txn); exact rfl
  repeat first | with_reducible exact Keeps.refl _ _ | with_reducible assumption
  (with_reducible apply keeps_startWaits); exact rfl
  (with_reducible apply keeps_releaseHeld); exact rfl
  (with_reducible apply keeps_afterTxn); exact rfl
  split
  (with_reducible apply keeps_groupMember); exact rfl
  split
  (with_reducible apply keeps_complete); exact rfl
  split
  (with_reducible apply keeps_noteAbandoned); exact rfl
  split
  split
  split
  (with_reducible apply Keeps.set_txn); exact rfl
  (with_reducible apply keeps_updCe); exact rfl
  (with_reducible apply keeps_takeIndirect); exact rfl
  repeat first | with_reducible exact Keeps.refl _ _ | with_reducible assumption
  (with_reducible apply Keeps.set_txn); exact rfl
  (with_reducible apply keeps_updCe); exact rfl
  (with_reducible apply keeps_takeIndirect); exact rfl
  repeat first | with_reducible exact Keeps.refl _ _ | with_reducible assumption
  split
  (with_reducible apply Keeps.set_txn); exact rfl
  (with_reducible apply keeps_updCe); exact rfl
  (with_reducible apply keeps_takeIndirect); exact rfl
  repeat first | with_reducible exact Keeps.refl _ _ | with_reducible assumption
  (with_reducible apply Keeps.set_txn); exact rfl
  (with_reducible apply keeps_updCe); exact rfl
  (with_reducible apply keeps_takeIndirect); exact rfl
  repeat first | with_reducible exact Keeps.refl _ _ | with_reducible assumption
  split
  split
  (with_reducible apply Keeps.set_txn); exact rfl
  (with_reducible apply keeps_updCe); exact rfl
  (with_reducible apply keeps_takeIndirect); exact rfl
  repeat first | with_reducible exact Keeps.refl _ _ | with_reducible assumption
  (with_reducible apply Keeps.set_txn); exact rfl
  (with_reducible apply keeps_updCe); exact rfl
  (with_reducible apply keeps_takeIndirect); exact rfl
  repeat first | with_reducible exact Keeps.refl _ _ | with_reducible assumption
  split
  (with_reducible apply Keeps.set_txn); exact rfl
  (with_reducible apply keeps_updCe); exact rfl
  (with_reducible apply keeps_takeIndirect); exact rfl
  repeat first | with_reducible exact Keeps.refl _ _ | with_reducible assumption
  (with_reducible apply Keeps.set_txn); exact rfl
  (with_reducible apply keeps_updCe); exact rfl
  (with_reducible apply keeps_takeIndirect); exact rfl
  repeat first | with_reducible exact Keeps.refl _ _ | with_reducible assumption
  split
  split
  split
  (with_reducible apply Keeps.set_txn); exact rfl
  (with_reducible apply keeps_updCe); exact rfl
  (with_reducible apply keeps_takeIndirect); exact rfl
  repeat first | with_reducible exact Keeps.refl _ _ | with_reducible assumption
  (with_reducible apply Keeps.set_txn); exact rfl
  (with_reducible apply keeps_updCe); exact rfl
  (with_reducible apply keeps_takeIndirect); exact rfl
  repeat first | with_reducible exact Keeps.refl _ _ | with_reducible assumption
  split
  (with_reducible apply Keeps.set_txn); exact rfl
  (with_reducible apply keeps_updCe); exact rfl
  (with_reducible apply keeps_takeIndirect); exact rfl
  repeat first | with_reducible exact Keeps.refl _ _ | with_reducible assumption
  (with_reducible apply Keeps.set_txn); exact rfl
  (with_reducible apply keeps_updCe); exact rfl
  (with_reducible apply keeps_takeIndirect); exact rfl
  repeat first | with_reducible exact Keeps.refl _ _ | with_reducible assumption
  split
  split
  (with_reducible apply Keeps.set_txn); exact rfl
  (with_reducible apply keeps_updCe); exact rfl
  (with_reducible apply keeps_takeIndirect); exact rfl
  repeat first | with_reducible exact Keeps.refl _ _ | with_reducible assumption
  (with_reducible apply Keeps.set_txn); exact rfl
  (with_reducible apply keeps_updCe); exact rfl
  (with_reducible apply keeps_takeIndirect); exact rfl
  repeat first | with_reducible exact Keeps.refl _ _ | with_reducible assumption
  split
  (with_reducible apply Keeps.set_txn); exact rfl
  (with_reducible apply keeps_updCe); exact rfl
  (with_reducible apply keeps_takeIndirect); exact rfl
  repeat first | with_reducible exact Keeps.refl _ _ | with_reducible assumption
  (with_reducible apply Keeps.set_txn); exact rfl
  (with_reducible apply keeps_updCe); exact rfl
  (with_reducible apply keeps_takeIndirect); exact rfl
  repeat first | with_reducible exact Keeps.refl _ _ | with_reducible assumption
  split
  (with_reducible apply keeps_noteAbandoned); exact rfl
  split
  split
  split
  (with_reducible apply Keeps.set_txn); exact rfl
  (with_reducible apply keeps_updCe); exact rfl
  (with_reducible apply keeps_takeIndirect); exact rfl
  repeat first | with_reducible exact Keeps.refl _ _ | with_reducible assumption
  (with_reducible apply Keeps.set_txn); exact rfl
  (with_reducible apply keeps_updCe); exact rfl
  (with_reducible apply keeps_takeIndirect); exact rfl
  repeat first | with_reducible exact Keeps.refl _ _ | with_reducible assumption
  split
  (with_reducible apply Keeps.set_txn); exact rfl
  (with_reducible apply keeps_updCe); exact rfl
  (with_reducible apply keeps_takeIndirect); exact rfl
  repeat first | with_reducible exact Keeps.refl _ _ | with_reducible assumption
  (with_reducible apply Keeps.set_txn); exact rfl
  (with_reducible apply keeps_updCe); exact rfl
  (with_reducible apply keeps_takeIndirect); exact rfl
  repeat first | with_reducible exact Keeps.refl _ _ | with_reducible assumption
  split
  split
  (with_reducible apply Keeps.set_txn); exact rfl
  (with_reducible apply keeps_updCe); exact rfl
  (with_reducible apply keeps_takeIndirect); exact rfl
  repeat first | with_reducible exact Keeps.refl _ _ | with_reducible assumption
  (with_reducible apply Keeps.set_txn); exact rfl
  (with_reducible apply keeps_updCe); exact rfl
  (with_reducible apply keeps_takeIndirect); exact rfl
  repeat first | with_reducible exact Keeps.refl _ _ | with_reducible assumption
  split
  (with_reducible apply Keeps.set_txn); exact rfl
  (with_reducible apply keeps_updCe); exact rfl
  (with_reducible apply keeps_takeIndirect); exact rfl
  repeat first | with_reducible exact Keeps.refl _ _ | with_reducible assumption
  (with_reducible apply Keeps.set_txn); exact rfl
  (with_reducible apply keeps_updCe); exact rfl
  (with_reducible apply keeps_takeIndirect); exact rfl
  repeat first | with_reducible exact Keeps.refl _ _ | with_reducible assumption
  split
  split
  split
  (with_reducible apply Keeps.set_txn); exact rfl
  (with_reducible apply keeps_updCe); exact rfl
  (with_reducible apply keeps_takeIndirect); exact rfl
  repeat first | with_reducible exact Keeps.refl _ _ | with_reducible assumption
  (with_reducible apply Keeps.set_txn); exact rfl
  (with_reducible apply keeps_updCe); exact rfl
  (with_reducible apply keeps_takeIndirect); exact rfl
  repeat first | with_reducible exact Keeps.refl _ _ | with_reducible assumption
  split
  (with_reducible apply Keeps.set_txn); exact rfl
  (with_reducible apply keeps_updCe); exact rfl
  (with_reducible apply keeps_takeIndirect); exact rfl
  repeat first | with_reducible exact Keeps.refl _ _ | with_reducible assumption
  (with_reducible apply Keeps.set_txn); exact rfl
  (with_reducible apply keeps_updCe); exact rfl
  (with_reducible apply keeps_takeIndirect); exact rfl
  repeat first | with_reducible exact Keeps.refl _ _ | with_reducible assumption
  split
  split
  (with_reducible apply Keeps.set_txn); exact rfl
  (with_reducible apply keeps_updCe); exact rfl
  (with_reducible apply keeps_takeIndirect); exact rfl
  repeat first | with_reducible exact Keeps.refl _ _ | with_reducible assumption
  (with_reducible apply Keeps.set_txn); exact rfl
  (with_reducible apply keeps_updCe); exact rfl
  (with_reducible apply keeps_takeIndirect); exact rfl
  repeat first | with_reducible exact Keeps.refl _ _ | with_reducible assumption
  split
  (with_reducible apply Keeps.set_txn); exact rfl
  (with_reducible apply keeps_updCe); exact rfl
  (with_reducible apply keeps_takeIndirect); exact rfl
  repeat first | with_reducible exact Keeps.refl _ _ | with_reducible assumption
  (with_reducible apply Keeps.set_txn); exact rfl
  (with_reducible apply keeps_updCe); exact rfl
  (with_reducible apply keeps_takeIndirect); exact rfl
  repeat first | with_reducible exact Keeps.refl _ _ | with_reducible assumption
  split
  (with_reducible apply keeps_complete); exact rfl
  split
  (with_reducible apply keeps_noteAbandoned); exact rfl
  split
  split
  split
  (with_reducible apply Keeps.set_txn); exact rfl
  (with_reducible apply keeps_updCe); exact rfl
  (with_reducible apply keeps_takeIndirect); exact rfl
  repeat first | with_reducible exact Keeps.refl _ _ | with_reducible assumption
  (with_reducible apply Keeps.set_txn); exact rfl
  (with_reducible apply keeps_updCe); exact rfl
  (with_reducible apply keeps_takeIndirect); exact rfl
  repeat first | with_reducible exact Keeps.refl _ _ | with_reducible assumption
  split
  (with_reducible apply Keeps.set_txn); exact rfl
  (with_reducible apply keeps_updCe); exact rfl
  (with_reducible apply keeps_takeIndirect); exact rfl
  repeat first | with_reducible exact Keeps.refl _ _ | with_reducible assumption
  (with_reducible apply Keeps.set_txn); exact rfl
  (with_reducible apply keeps_updCe); exact rfl
  (with_reducible apply keeps_takeIndirect); exact rfl
  repeat first | with_reducible exact Keeps.refl _ _ | with_reducible assumption
  split
  split
  (with_reducible apply Keeps.set_txn); exact rfl
  (with_reducible apply keeps_updCe); exact rfl
  (with_reducible apply keeps_takeIndirect); exact rfl
  repeat first | with_reducible exact Keeps.refl _ _ | with_reducible assumption
  (with_reducible apply Keeps.set_txn); exact rfl
  (with_reducible apply keeps_updCe); exact rfl
  (with_reducible apply keeps_takeIndirect); exact rfl
  repeat first | with_reducible exact Keeps.refl _ _ | with_reducible assumption
  split
  (with_reducible apply Keeps.set_txn); exact rfl
  (with_reducible apply keeps_updCe); exact rfl
  (with_reducible apply keeps_takeIndirect); exact rfl
  repeat first | with_reducible exact Keeps.refl _ _ | with_reducible assumption
  (with_reducible apply Keeps.set_txn); exact rfl
  (with_reducible apply keeps_updCe); exact rfl
  (with_reducible apply keeps_takeIndirect); exact rfl
  repeat first | with_reducible exact Keeps.refl _ _ | with_reducible assumption
  split
  split
  split
  (with_reducible apply Keeps.set_txn); exact rfl
  (with_reducible apply keeps_updCe); exact rfl
  (with_reducible apply keeps_takeIndirect); exact rfl
  repeat first | with_reducible exact Keeps.refl _ _ | with_reducible assumption
  (with_reducible apply Keeps.set_txn); exact rfl
  (with_reducible apply keeps_updCe); exact rfl
  (with_reducible apply keeps_takeIndirect); exact rfl
  repeat first | with_reducible exact Keeps.refl _ _ | with_reducible assumption
  split
  (with_reducible apply Keeps.set_txn); exact rfl
  (with_reducible apply keeps_updCe); exact rfl
  (with_reducible apply keeps_takeIndirect); exact rfl
  repeat first | with_reducible exact Keeps.refl _ _ | with_reducible assumption
  (with_reducible apply Keeps.set_txn); exact rfl
  (with_reducible apply keeps_updCe); exact rfl
  (with_reducible apply keeps_takeIndirect); exact rfl
  repeat first | with_reducible exact Keeps.refl _ _ | with_reducible assumption
  split
  split
  (with_reducible apply Keeps.set_txn); exact rfl
  (with_reducible apply keeps_updCe); exact rfl
  (with_reducible apply keeps_takeIndirect); exact rfl
  repeat first | with_reducible exact Keeps.refl _ _ | with_reducible assumption
  (with_reducible apply Keeps.set_txn); exact rfl
  (with_reducible apply keeps_updCe); exact rfl
  (with_reducible apply keeps_takeIndirect); exact rfl
  repeat first | with_reducible exact Keeps.refl _ _ | with_reducible assumption
  split
  (with_reducible apply Keeps.set_txn); exact rfl
  (with_reducible apply keeps_updCe); exact rfl
  (with_reducible apply keeps_takeIndirect); exact rfl
  repeat first | with_reducible exact Keeps.refl _ _ | with_reducible assumption
  (with_reducible apply Keeps.set_txn); exact rfl
  (with_reducible apply keeps_updCe); exact rfl
  (with_reducible apply keeps_takeIndirect); exact rfl
  repeat first | with_reducible exact Keeps.refl _ _ | with_reducible assumption
  split
  (with_reducible apply keeps_noteAbandoned); exact rfl
  split
  split
  split
  (with_reducible apply Keeps.set_txn); exact rfl
  (with_reducible apply keeps_updCe); exact rfl
  (with_reducible apply keeps_takeIndirect); exact rfl
  repeat first | with_reducible exact Keeps.refl _ _ | with_reducible assumption
  (with_reducible apply Keeps.set_txn); exact rfl
  (with_reducible apply keeps_updCe); exact rfl
  (with_reducible apply keeps_takeIndirect); exact rfl
  repeat first | with_reducible exact Keeps.refl _ _ | with_reducible assumption
  split
  (with_reducible apply Keeps.set_txn); exact rfl
  (with_reducible apply keeps_updCe); exact rfl
  (with_reducible apply keeps_takeIndirect); exact rfl
  repeat first | with_reducible exact Keeps.refl _ _ | with_reducible assumption
  (with_reducible apply Keeps.set_txn); exact rfl
  (with_reducible apply keeps_updCe); exact rfl
  (with_reducible apply keeps_takeIndirect); exact rfl
  repeat first | with_reducible exact Keeps.refl _ _ | with_reducible assumption
  split
  split
  (with_reducible apply Keeps.set_txn); exact rfl
  (with_reducible apply keeps_updCe); exact rfl
  (with_reducible apply keeps_takeIndirect); exact rfl
  repeat first | with_reducible exact Keeps.refl _ _ | with_reducible assumption
  (with_reducible apply Keeps.set_txn); exact rfl
  (with_reducible apply keeps_updCe); exact rfl
  (with_reducible apply keeps_takeIndirect); exact rfl
  repeat first | with_reducible exact Keeps.refl _ _ | with_reducible assumption
  split
  (with_reducible apply Keeps.set_txn); exact rfl
  (with_reducible apply keeps_updCe); exact rfl
  (with_reducible apply keeps_takeIndirect); exact rfl
  repeat first | with_reducible exact Keeps.refl _ _ | with_reducible assumption
  (with_reducible apply Keeps.set_txn); exact rfl
  (with_reducible apply keeps_updCe); exact rfl
  (with_reducible apply keeps_takeIndirect); exact rfl
  repeat first | with_reducible exact Keeps.refl _ _ | with_reducible assumption
  split
  split
  split
  (with_reducible apply Keeps.set_txn); exact rfl
  (with_reducible apply keeps_updCe); exact rfl
  (with_reducible apply keeps_takeIndirect); exact rfl
  repeat first | with_reducible exact Keeps.refl _ _ | with_reducible assumption
  (with_reducible apply Keeps.set_txn); exact rfl
  (with_reducible apply keeps_updCe); exact rfl
  (with_reducible apply keeps_takeIndirect); exact rfl
  repeat first | with_reducible exact Keeps.refl _ _ | with_reducible assumption
  split
  (with_reducible apply Keeps.set_txn); exact rfl
  (with_reducible apply keeps_updCe); exact rfl
  (with_reducible apply keeps_takeIndirect); exact rfl
  repeat first | with_reducible exact Keeps.refl _ _ | with_reducible assumption
  (with_reducible apply Keeps.set_txn); exact rfl
  (with_reducible apply keeps_updCe); exact rfl
  (with_reducible apply keeps_takeIndirect); exact rfl
  repeat first | with_reducible exact Keeps.refl _ _ | with_reducible assumption
  split
  split
  (with_reducible apply Keeps.set_txn); exact rfl
  (with_reducible apply keeps_updCe); exact rfl
  (with_reducible apply keeps_takeIndirect); exact rfl
  repeat first | with_reducible exact Keeps.refl _ _ | with_reducible assumption
  (with_reducible apply Keeps.set_txn); exact rfl
  (with_reducible apply keeps_updCe); exact rfl
  (with_reducible apply keeps_takeIndirect); exact rfl
  repeat first | with_reducible exact Keeps.refl _ _ | with_reducible assumption
  split
  (with_reducible apply Keeps.set_txn); exact rfl
  (with_reducible apply keeps_updCe); exact rfl
  (with_reducible apply keeps_takeIndirect); exact rfl
  repeat first | with_reducible exact Keeps.refl _ _ | with_reducible assumption
  (with_reducible apply Keeps.set_txn); exact rfl
  (with_reducible apply keeps_updCe); exact rfl
  (with_reducible apply keeps_takeIndirect); exact rfl
  repeat first | with_reducible exact Keeps.refl _ _ | with_reducible assumption

theorem keeps_updTxn (id : Nat) (f : Txn → Txn) (s : State) {mk : Nat} {s0 : State} (he : mk &&& 0xFFFFFFFF7FFF = mk) (hg : Keeps mk s0 s) :
    Keeps mk s0 (updTxn id f s) := by
  refine Keeps.via ?_ he hg
  unfold updTxn
  try dsimp -zeta only
  ((try lift_lets); intro xL; clear_value xL)
  (with_reducible apply Keeps.set_txn); exact rfl
  repeat first | with_reducible exact Keeps.refl _ _ | with_reducible assumption

theorem keeps_failTxn (id : Nat) (s : State) {mk : Nat} {s0 : State} (he : mk &&& 0xFDFFFFEC01F1 = mk) (hg : Keeps mk s0 s) :
    Keeps mk s0 (failTxn id s) := by
  refine Keeps.via ?_ he hg
  unfold failTxn updEp
  try dsimp -zeta only
  ((try lift_lets); intro xL; subst xL)
  split
  repeat first | with_reducible exact Keeps.refl _ _ | with_reducible assumption
  ((try lift_lets); intro sL; with_reducible refine Keeps.cut sL ?_ ?_; rotate_left; (intro kL; clear_value sL); rotate_right; subst sL; try dsimp -zeta only)
  (with_reducible apply keeps_takeIndirect); exact rfl
  split
  repeat first | with_reducible exact Keeps.refl _ _ | with_reducible assumption
  (with_reducible apply Keeps.set_lat); exact rfl
  repeat first | with_reducible exact Keeps.refl _ _ | with_reducible assumption
  split
  (with_reducible apply keeps_finishTxn); exact rfl
  split
  (with_reducible apply keeps_routeFailed); exact rfl
  repeat first | with_reducible exact Keeps.refl _ _ | with_reducible assumption
  (with_reducible apply keeps_updTxn); exact rfl
  split
  (with_reducible apply keeps_routeFailed); exact rfl
  repeat first | with_reducible exact Keeps.refl _ _ | with_reducible assumption

theorem keeps_confirmTxn (t : Txn) (result : Nat) (x : TxnRes) (s : State) {mk : Nat} {s0 : State} (he : mk &&& 0xFDFFFFEC01F1 = mk) (hg : Keeps mk s0 s) :
    Keeps mk s0 (confirmTxn t result x s) := by
  refine Keeps.via ?_ he hg
  unfold confirmTxn updEp
  try dsimp -zeta only
  ((try lift_lets); intro sL; with_reducible refine Keeps.cut sL ?_ ?_; rotate_left; (intro kL; clear_value sL); rotate_right; subst sL; try dsimp -zeta only)
  split
  (with_reducible apply keeps_routeOk); exact rfl
  repeat first | with_reducible exact Keeps.refl _ _ | with_reducible assumption
  split
  (with_reducible apply keeps_finishTxn); exact rfl
  split
  repeat first | with_reducible exact Keeps.refl _ _ | with_reducible assumption
  split
  (with_reducible apply Keeps.set_lat); exact rfl
  repeat first | with_reducible exact Keeps.refl _ _ | with_reducible assumption
  (with_reducible apply Keeps.set_lat); exact rfl
  repeat first | with_reducible exact Keeps.refl _ _ | with_reducible assumption
  (with_reducible apply keeps_finishTxn); exact rfl
  split
  repeat first | with_reducible exact Keeps.refl _ _ | with_reducible assumption
  split
  (with_reducible apply Keeps.set_lat); exact rfl
  repeat first | with_reducible exact Keeps.refl _ _ | with_reducible assumption
  (with_reducible apply Keeps.set_lat); exact rfl
  repeat first | with_reducible exact Keeps.refl _ _ | with_reducible assumption

theorem keeps_awaitTxn (id : Nat) (s : State) {mk : Nat} {s0 : State} (he : mk &&& 0xFFFFFFFF7FFF = mk) (hg : Keeps mk s0 s) :
    Keeps mk s0 (awaitTxn id s) := by
  refine Keeps.via ?_ he hg
  unfold awaitTxn
  try dsimp -zeta only
  split
  repeat first | with_reducible exact Keeps.refl _ _ | with_reducible assumption
  split
  repeat first | with_reducible exact Keeps.refl _ _ | with_reducible assumption
  (with_reducible apply keeps_updTxn); exact rfl
  repeat first | with_reducible exact Keeps.refl _ _ | with_reducible assumption

theorem keeps_startOwn (kind : TxnKind) (ep : Nat) (app : List Nat) (target : Option Nat) (s : State) {mk : Nat} {s0 : State} (he : mk &&& 0xFFFFFFFF7FFF = mk) (hg : Keeps mk s0 s) :
    Keeps mk s0 (startOwn kind ep app target s) := by
  refine Keeps.via ?_ he hg
  unfold startOwn
  try dsimp -zeta only
  ((try lift_lets); intro xL; clear_value xL)
  split
  (with_reducible apply keeps_startTxn); exact rfl
  repeat first | with_reducible exact Keeps.refl _ _ | with_reducible assumption
  (with_reducible apply Keeps.set_txn); exact rfl
  repeat first | with_reducible exact Keeps.refl _ _ | with_reducible assumption

theorem keeps_stageTxn (t : Txn) (r : EpRec) (s : State) {mk : Nat} {s0 : State} (he : mk &&& 0xFDFFFFFF07FF = mk) (hg : Keeps mk s0 s) :
    Keeps mk s0 (stageTxn t r s) := by
  refine Keeps.via ?_ he hg
  unfold stageTxn
  try dsimp -zeta only
  ((try lift_lets); intro xL; clear_value xL)
  (intro xL; clear_value xL)
  (intro xL; clear_value xL)
  (intro xL; clear_value xL)
  (intro xL; clear_value xL)
  (intro sL; with_reducible refine Keeps.cut sL ?_ ?_; rotate_left; (intro kL; clear_value sL); rotate_right; subst sL; try dsimp -zeta only)
  split
  (with_reducible apply keeps_takeOut); exact rfl
  repeat first | with_reducible exact Keeps.refl _ _ | with_reducible assumption
  split
  (with_reducible apply keeps_stageFrame); exact rfl
  repeat first | with_reducible exact Keeps.refl _ _ | with_reducible assumption
  split
  (with_reducible apply keeps_stageFrame); exact rfl
  (with_reducible apply keeps_putIndirect); exact rfl
  repeat first | with_reducible exact Keeps.refl _ _ | with_reducible assumption
  (with_reducible apply keeps_updTxn); exact rfl
  (with_reducible apply keeps_putIndirect); exact rfl
  repeat first | with_reducible exact Keeps.refl _ _ | with_reducible assumption

theorem keeps_attemptTxn (t : Txn) (s : State) {mk : Nat} {s0 : State} (he : mk &&& 0xFDFFFFEC01F1 = mk) (hg : Keeps mk s0 s) :
    Keeps mk s0 (attemptTxn t s) := by
  refine Keeps.via ?_ he hg
  unfold attemptTxn updEp
  try dsimp -zeta only
  ((try lift_lets); intro xL; clear_value xL)
  (intro xL; clear_value xL)
  (intro xL; subst xL)
  split
  repeat first | with_reducible exact Keeps.refl _ _ | with_reducible assumption
  ((try lift_lets); intro xL; clear_value xL)
  (intro xL; clear_value xL)
  split
  (with_reducible apply keeps_updTxn); exact rfl
  repeat first | with_reducible exact Keeps.refl _ _ | with_reducible assumption
  split
  repeat first | with_reducible exact Keeps.refl _ _ | with_reducible assumption
  split
  (with_reducible apply keeps_finishTxn); exact rfl
  (with_reducible apply keeps_logNs); exact rfl
  repeat first | with_reducible exact Keeps.refl _ _ | with_reducible assumption
  split
  (with_reducible apply keeps_finishTxn); exact rfl
  (with_reducible apply keeps_logNs); exact rfl
  repeat first | with_reducible exact Keeps.refl _ _ | with_reducible assumption
  split
  (with_reducible apply keeps_finishTxn); exact rfl
  repeat first | with_reducible exact Keeps.refl _ _ | with_reducible assumption
  split
  repeat first | with_reducible exact Keeps.refl _ _ | with_reducible assumption
  split
  split
  (with_reducible apply keeps_finishTxn); exact rfl
  repeat first | with_reducible exact Keeps.refl _ _ | with_reducible assumption
  (with_reducible apply keeps_finishTxn); exact rfl
  repeat first | with_reducible exact Keeps.refl _ _ | with_reducible assumption
  (with_reducible apply keeps_stageTxn); exact rfl
  (with_reducible apply keeps_updTxn); exact rfl
  split
  (with_reducible apply Keeps.set_txn); exact rfl
  repeat first | with_reducible exact Keeps.refl _ _ | with_reducible assumption
  (with_reducible apply Keeps.upd)
  · exact fun h => Bool.noConfusion h
  · exact fun h => Bool.noConfusion h
  · exact fun h => Bool.noConfusion h
  · exact fun _ => rfl
  · exact fun _ => rfl
  · exact fun _ => rfl
  · exact fun _ => rfl
  · exact fun _ => rfl
  · exact fun h => Bool.noConfusion h
  · exact fun h => Bool.noConfusion h
  · exact fun h => Bool.noConfusion h
  · exact fun h => Bool.noConfusion h
  · exact fun h => Bool.noConfusion h
  · exact fun h => Bool.noConfusion h
  · exact fun h => Bool.noConfusion h
  · exact fun h => Bool.noConfusion h
  · exact fun h => Bool.noConfusion h
  · exact fun _ => rfl
  · exact fun _ => rfl
  · exact fun h => Bool.noConfusion h
  · exact fun _ => rfl
  · exact fun _ => rfl
  · exact fun _ => rfl
  · exact fun _ => rfl
  · exact fun _ => rfl
  · exact fun _ => rfl
  · exact fun _ => rfl
  · exact fun _ => rfl
  · exact fun _ => rfl
  · exact fun _ => rfl
  · exact fun _ => rfl
  · exact fun _ => rfl
  · exact fun _ => rfl
  · exact fun _ => rfl
  · exact fun _ => rfl
  · exact fun _ => rfl
  · exact fun _ => rfl
  · exact fun _ => rfl
  · exact fun _ => rfl
  · exact fun _ => rfl
  · exact fun h => Bool.noConfusion h
  · exact fun _ => rfl
  · exact fun _ => rfl
  · exact fun _ => rfl
  · exact fun _ _ h => h
  · exact fun _ h => ⟨h, rfl⟩
  · exact fun _ h => h
  repeat first | with_reducible exact Keeps.refl _ _ | with_reducible assumption

theorem keeps_endRemovals (s : State) {mk : Nat} {s0 : State} (he : mk &&& 0xFDFFFFFC15FF = mk) (hg : Keeps mk s0 s) :
    Keeps mk s0 (endRemovals s) := by
  refine Keeps.via ?_ he hg
  unfold endRemovals
  try dsimp -zeta only
  ((with_reducible apply Keeps.fold); (intro _ _))
  (with_reducible apply keeps_logNs); exact rfl
  (with_reducible apply keeps_dropEp); exact rfl
  repeat first | with_reducible exact Keeps.refl _ _ | with_reducible assumption

theorem keeps_execTxnAttempt (id : Nat) (s : State) (t : State) (h : execTxnAttempt id s = .next t) : Keeps 0xFDFFFFEC01F1 s t := by
  unfold execTxnAttempt at h
  injection h with h
  subst h
  try dsimp -zeta only
  split
  repeat first | with_reducible exact Keeps.refl _ _ | with_reducible assumption
  split
  repeat first | with_reducible exact Keeps.refl _ _ | with_reducible assumption
  split
  (with_reducible apply keeps_attemptTxn); exact rfl
  repeat first | with_reducible exact Keeps.refl _ _ | with_reducible assumption
  split
  repeat first | with_reducible exact Keeps.refl _ _ | with_reducible assumption
  (with_reducible apply keeps_attemptTxn); exact rfl
  repeat first | with_reducible exact Keeps.refl _ _ | with_reducible assumption

theorem keeps_execTxnConfirmTimeout (id : Nat) (s : State) (t : State) (h : execTxnConfirmTimeout id s = .next t) : Keeps 0xFDFFFFEC01F1 s t := by
  unfold execTxnConfirmTimeout at h
  injection h with h
  subst h
  try dsimp -zeta only
  split
  repeat first | with_reducible exact Keeps.refl _ _ | with_reducible assumption
  split
  (with_reducible apply keeps_failTxn); exact rfl
  repeat first | with_reducible exact Keeps.refl _ _ | with_reducible assumption

theorem keeps_execTxnBackoffEnd (id : Nat) (s : State) (t : State) (h : execTxnBackoffEnd id s = .next t) : Keeps 0xFDFFFFEC01F1 s t := by
  unfold execTxnBackoffEnd at h
  injection h with h
  subst h
  try dsimp -zeta only
  split
  repeat first | with_reducible exact Keeps.refl _ _ | with_reducible assumption
  split
  repeat first | with_reducible exact Keeps.refl _ _ | with_reducible assumption
  split
  (with_reducible apply keeps_finishTxn); exact rfl
  repeat first | with_reducible exact Keeps.refl _ _ | with_reducible assumption
  split
  (with_reducible apply keeps_updTxn); exact rfl
  repeat first | with_reducible exact Keeps.refl _ _ | with_reducible assumption

theorem keeps_execTxnDeadline (id : Nat) (s : State) (t : State) (h : execTxnDeadline id s = .next t) : Keeps 0xFDFFFFEC01F1 s t := by
  unfold execTxnDeadline at h
  injection h with h
  subst h
  try dsimp -zeta only
  split
  repeat first | with_reducible exact Keeps.refl _ _ | with_reducible assumption
  ((try lift_lets); intro xL; clear_value xL)
  (intro sL; with_reducible refine Keeps.cut sL ?_ ?_; rotate_left; (intro kL; clear_value sL); rotate_right; subst sL; try dsimp -zeta only)
  split
  (with_reducible apply keeps_updCnt); exact rfl
  repeat first | with_reducible exact Keeps.refl _ _ | with_reducible assumption
  split
  repeat first | with_reducible exact Keeps.refl _ _ | with_reducible assumption
  split
  (with_reducible apply keeps_finishTxn); exact rfl
  repeat first | with_reducible exact Keeps.refl _ _ | with_reducible assumption
  split
  (with_reducible apply keeps_finishTxn); exact rfl
  repeat first | with_reducible exact Keeps.refl _ _ | with_reducible assumption
  split
  (with_reducible apply keeps_finishTxn); exact rfl
  repeat first | with_reducible exact Keeps.refl _ _ | with_reducible assumption
  (with_reducible apply keeps_finishTxn); exact rfl
  repeat first | with_reducible exact Keeps.refl _ _ | with_reducible assumption

theorem keeps_takeFlood (flood : Bool) (s : State) {mk : Nat} {s0 : State} (he : mk &&& 0xFFFFFFFFBFFF = mk) (hg : Keeps mk s0 s) :
    Keeps mk s0 (takeFlood flood s) := by
  refine Keeps.via ?_ he hg
  unfold takeFlood
  try dsimp -zeta only
  ((try lift_lets); intro xL; subst xL)
  split
  (with_reducible apply Keeps.in_lat); exact rfl
  · exact fun _ => rfl
  repeat first | with_reducible exact Keeps.refl _ _ | with_reducible assumption

theorem keeps_stageGroup (g : GroupMsg) (n : Nat) (s : State) {mk : Nat} {s0 : State} (he : mk &&& 0xFFFFFFFFA7FF = mk) (hg : Keeps mk s0 s) :
    Keeps mk s0 (stageGroup g n s) := by
  refine Keeps.via ?_ he hg
  unfold stageGroup
  try dsimp -zeta only
  ((try lift_lets); intro xL; clear_value xL)
  (intro xL; clear_value xL)
  (intro xL; clear_value xL)
  (intro xL; clear_value xL)
  (with_reducible apply keeps_stageFrame); exact rfl
  (with_reducible apply keeps_takeFlood); exact rfl
  repeat first | with_reducible exact Keeps.refl _ _ | with_reducible assumption

theorem keeps_pollCopies (g : GroupMsg) (s : State) {mk : Nat} {s0 : State} (he : mk &&& 0xFFFFFFFFDFFF = mk) (hg : Keeps mk s0 s) :
    Keeps mk s0 (pollCopies g s) := by
  refine Keeps.via ?_ he hg
  unfold pollCopies
  try dsimp -zeta only
  ((with_reducible apply Keeps.fold); (intro _ _))
  ((try lift_lets); intro xL; clear_value xL)
  split
  (with_reducible apply keeps_putIndirect); exact rfl
  repeat first | with_reducible exact Keeps.refl _ _ | with_reducible assumption

theorem keeps_sendRepeat (g : GroupMsg) (s : State) {mk : Nat} {s0 : State} (he : mk &&& 0xFFFFFFFF07FF = mk) (hg : Keeps mk s0 s) :
    Keeps mk s0 (sendRepeat g s) := by
  refine Keeps.via ?_ he hg
  unfold sendRepeat
  try dsimp -zeta only
  ((try lift_lets); intro xL; clear_value xL)
  (intro sL; with_reducible refine Keeps.cut sL ?_ ?_; rotate_left; (intro kL; clear_value sL); rotate_right; subst sL; try dsimp -zeta only)
  ((with_reducible apply Keeps.fold); (intro _ _))
  (with_reducible apply keeps_stageGroup); exact rfl
  repeat first | with_reducible exact Keeps.refl _ _ | with_reducible assumption
  split
  (with_reducible apply keeps_pollCopies); exact rfl
  repeat first | with_reducible exact Keeps.refl _ _ | with_reducible assumption
  (with_reducible apply keeps_updGroup); exact rfl
  repeat first | with_reducible exact Keeps.refl _ _ | with_reducible assumption

theorem keeps_execIndirectAttemptExpiry (id : Nat) (s : State) (t : State) (h : execIndirectAttemptExpiry id s = .next t) : Keeps 0xFDFFFFEC01F1 s t := by
  unfold execIndirectAttemptExpiry at h
  injection h with h
  subst h
  try dsimp -zeta only
  split
  repeat first | with_reducible exact Keeps.refl _ _ | with_reducible assumption
  split
  (with_reducible apply keeps_failTxn); exact rfl
  repeat first | with_reducible exact Keeps.refl _ _ | with_reducible assumption

end Sys2Proof.Laws
end

