-- ==== Sys2Proof/Laws/Frames/Mac.lean ====
section
/-!
SUPPORT. Frames of the operations of Machine/Mac.lean.
-/
set_option Elab.async false
namespace Sys2Proof.Laws
open Sys2Proof Sys2Proof.Machine

theorem keeps_withdrawTrain (n : Nat) (ep : Nat) (s : State) {mk : Nat} {s0 : State} (he : mk &&& 0xFFFFFFFFEFFF = mk) (hg : Keeps mk s0 s) :
    Keeps mk s0 (withdrawTrain n ep s) := by
  refine Keeps.via ?_ he hg
  unfold withdrawTrain
  try dsimp -zeta only
  ((try lift_lets); intro xL; clear_value xL)
  (intro xL; clear_value xL)
  (intro xL; subst xL; try dsimp -zeta only)
  (intro sL; with_reducible refine Keeps.cut sL ?_ ?_; rotate_left; (intro kL; clear_value sL); rotate_right; subst sL; try dsimp -zeta only)
  (with_reducible apply keeps_updCe); exact rfl
  repeat first | with_reducible exact Keeps.refl _ _ | with_reducible assumption
  split
  (with_reducible apply keeps_updCe); exact rfl
  repeat first | with_reducible exact Keeps.refl _ _ | with_reducible assumption

theorem keeps_restageTrain (n : Nat) (ep : Nat) (s : State) {mk : Nat} {s0 : State} (he : mk &&& 0xFDFFFFEC01F1 = mk) (hg : Keeps mk s0 s) :
    Keeps mk s0 (restageTrain n ep s) := by
  refine Keeps.via ?_ he hg
  unfold restageTrain
  try dsimp -zeta only
  split
  split
  repeat first | with_reducible exact Keeps.refl _ _ | with_reducible assumption
  split
  split
  (with_reducible apply keeps_stageFrame); exact rfl
  repeat first | with_reducible exact Keeps.refl _ _ | with_reducible assumption
  (with_reducible apply keeps_failTxn); exact rfl
  repeat first | with_reducible exact Keeps.refl _ _ | with_reducible assumption

theorem keeps_deliver (n : Nat) (ep : Nat) (s : State) {mk : Nat} {s0 : State} (he : mk &&& 0xFDFFFFEC01F1 = mk) (hg : Keeps mk s0 s) :
    Keeps mk s0 (deliver n ep s) := by
  refine Keeps.via ?_ he hg
  unfold deliver
  try dsimp -zeta only
  ((try lift_lets); intro sL; with_reducible refine Keeps.cut sL ?_ ?_; rotate_left; (intro kL; clear_value sL); rotate_right; subst sL; try dsimp -zeta only)
  (with_reducible apply keeps_withdrawTrain); exact rfl
  repeat first | with_reducible exact Keeps.refl _ _ | with_reducible assumption
  split
  split
  (with_reducible apply keeps_stageFrame); exact rfl
  repeat first | with_reducible exact Keeps.refl _ _ | with_reducible assumption
  (with_reducible apply keeps_restageTrain); exact rfl
  repeat first | with_reducible exact Keeps.refl _ _ | with_reducible assumption
  (with_reducible apply keeps_restageTrain); exact rfl
  repeat first | with_reducible exact Keeps.refl _ _ | with_reducible assumption

theorem keeps_delivered (n : Nat) (ep : Nat) (src : FrameSrc) (train : Bool) (s : State) {mk : Nat} {s0 : State} (he : mk &&& 0xFFFFFFFFDFFF = mk) (hg : Keeps mk s0 s) :
    Keeps mk s0 (delivered n ep src train s) := by
  refine Keeps.via ?_ he hg
  unfold delivered
  try dsimp -zeta only
  ((try lift_lets); intro sL; with_reducible refine Keeps.cut sL ?_ ?_; rotate_left; (intro kL; clear_value sL); rotate_right; subst sL; try dsimp -zeta only)
  (with_reducible apply keeps_takeIndirect); exact rfl
  repeat first | with_reducible exact Keeps.refl _ _ | with_reducible assumption
  split
  split
  (with_reducible apply keeps_updCnt); exact rfl
  repeat first | with_reducible exact Keeps.refl _ _ | with_reducible assumption

theorem keeps_countTrain (n : Nat) (f : Frame) (s : State) {mk : Nat} {s0 : State} (he : mk &&& 0xFFFFFFFFDFFF = mk) (hg : Keeps mk s0 s) :
    Keeps mk s0 (countTrain n f s) := by
  refine Keeps.via ?_ he hg
  unfold countTrain
  try dsimp -zeta only
  ((try lift_lets); intro xL; clear_value xL)
  split
  repeat first | with_reducible exact Keeps.refl _ _ | with_reducible assumption
  (with_reducible apply keeps_updCnt); exact rfl
  repeat first | with_reducible exact Keeps.refl _ _ | with_reducible assumption

theorem keeps_missPeriod (n : Nat) (start : Nat) (code : Nat) (s : State) {mk : Nat} {s0 : State} (he : mk &&& 0xFFFFFFFFD5FF = mk) (hg : Keeps mk s0 s) :
    Keeps mk s0 (missPeriod n start code s) := by
  refine Keeps.via ?_ he hg
  unfold missPeriod
  try dsimp -zeta only
  ((try lift_lets); intro xL; clear_value xL)
  (intro xL; clear_value xL)
  (intro xL; clear_value xL)
  (intro sL; with_reducible refine Keeps.cut sL ?_ ?_; rotate_left; (intro kL; clear_value sL); rotate_right; subst sL; try dsimp -zeta only)
  (with_reducible apply keeps_updMd); exact rfl
  repeat first | with_reducible exact Keeps.refl _ _ | with_reducible assumption
  split
  repeat first | with_reducible exact Keeps.refl _ _ | with_reducible assumption
  (with_reducible apply keeps_toResync); exact rfl
  (with_reducible apply keeps_notifyPorts); exact rfl
  (with_reducible apply keeps_logNs); exact rfl
  (with_reducible apply keeps_updMd); exact rfl
  repeat first | with_reducible exact Keeps.refl _ _ | with_reducible assumption

theorem keeps_beaconOut (n : Nat) (start : Nat) (backup : Bool) (out : Nat) (s : State) {mk : Nat} {s0 : State} (he : mk &&& 0xFFFFFFFFD5FF = mk) (hg : Keeps mk s0 s) :
    Keeps mk s0 (beaconOut n start backup out s) := by
  refine Keeps.via ?_ he hg
  unfold beaconOut
  try dsimp -zeta only
  ((try lift_lets); intro xL; clear_value xL)
  (intro sL; with_reducible refine Keeps.cut sL ?_ ?_; rotate_left; (intro kL; clear_value sL); rotate_right; subst sL; try dsimp -zeta only)
  (with_reducible apply keeps_updMd); exact rfl
  repeat first | with_reducible exact Keeps.refl _ _ | with_reducible assumption
  split
  split
  (with_reducible apply keeps_updMd); exact rfl
  repeat first | with_reducible exact Keeps.refl _ _ | with_reducible assumption
  split
  (with_reducible apply keeps_logNs); exact rfl
  repeat first | with_reducible exact Keeps.refl _ _ | with_reducible assumption
  split
  (with_reducible apply keeps_logLim); exact rfl
  (with_reducible apply keeps_missPeriod); exact rfl
  repeat first | with_reducible exact Keeps.refl _ _ | with_reducible assumption
  split
  (with_reducible apply keeps_updMd); exact rfl
  repeat first | with_reducible exact Keeps.refl _ _ | with_reducible assumption
  (with_reducible apply keeps_missPeriod); exact rfl
  repeat first | with_reducible exact Keeps.refl _ _ | with_reducible assumption

theorem keeps_greetOut (n : Nat) (sent : Bool) (s : State) {mk : Nat} {s0 : State} (he : mk &&& 0xFFFFFFFFD7FF = mk) (hg : Keeps mk s0 s) :
    Keeps mk s0 (greetOut n sent s) := by
  refine Keeps.via ?_ he hg
  unfold greetOut updLink
  try dsimp -zeta only
  ((try lift_lets); intro xL; clear_value xL)
  (intro xL; clear_value xL)
  (intro sL; with_reducible refine Keeps.cut sL ?_ ?_; rotate_left; (intro kL; clear_value sL); rotate_right; subst sL; try dsimp -zeta only)
  split
  ((with_reducible apply Keeps.fold); (intro _ _))
  split
  repeat first | with_reducible exact Keeps.refl _ _ | with_reducible assumption
  (with_reducible apply Keeps.set_mac); exact rfl
  repeat first | with_reducible exact Keeps.refl _ _ | with_reducible assumption
  (with_reducible apply keeps_logNs); exact rfl
  (with_reducible apply keeps_updMd); exact rfl
  repeat first | with_reducible exact Keeps.refl _ _ | with_reducible assumption

theorem keeps_waitAck (n : Nat) (f : Frame) (s : State) {mk : Nat} {s0 : State} (he : mk &&& 0xFFFFFFFFDFFF = mk) (hg : Keeps mk s0 s) :
    Keeps mk s0 (waitAck n f s) := by
  refine Keeps.via ?_ he hg
  unfold waitAck
  try dsimp -zeta only
  (with_reducible apply keeps_updMd); exact rfl
  repeat first | with_reducible exact Keeps.refl _ _ | with_reducible assumption

theorem keeps_rawDone (n : Nat) (id : Nat) (out : Nat) (rssi : Int) (snr : Int) (octets : Nat) (s : State) {mk : Nat} {s0 : State} (he : mk &&& 0xFFFFFFFFD9FF = mk) (hg : Keeps mk s0 s) :
    Keeps mk s0 (rawDone n id out rssi snr octets s) := by
  refine Keeps.via ?_ he hg
  unfold rawDone
  try dsimp -zeta only
  split
  repeat first | with_reducible exact Keeps.refl _ _ | with_reducible assumption
  (with_reducible apply keeps_complete); exact rfl
  (with_reducible apply keeps_updMd); exact rfl
  repeat first | with_reducible exact Keeps.refl _ _ | with_reducible assumption

theorem keeps_sentFrame (n : Nat) (f : Frame) (s : State) {mk : Nat} {s0 : State} (he : mk &&& 0xFFFFFFFF51FF = mk) (hg : Keeps mk s0 s) :
    Keeps mk s0 (sentFrame n f s) := by
  refine Keeps.via ?_ he hg
  unfold sentFrame
  try dsimp -zeta only
  ((try lift_lets); intro sL; with_reducible refine Keeps.cut sL ?_ ?_; rotate_left; (intro kL; clear_value sL); rotate_right; subst sL; try dsimp -zeta only)
  (with_reducible apply keeps_countTrain); exact rfl
  repeat first | with_reducible exact Keeps.refl _ _ | with_reducible assumption
  split
  (with_reducible apply keeps_beaconOut); exact rfl
  repeat first | with_reducible exact Keeps.refl _ _ | with_reducible assumption
  (with_reducible apply keeps_greetOut); exact rfl
  repeat first | with_reducible exact Keeps.refl _ _ | with_reducible assumption
  ((try lift_lets); intro sL; with_reducible refine Keeps.cut sL ?_ ?_; rotate_left; (intro kL; clear_value sL); rotate_right; subst sL; try dsimp -zeta only)
  (with_reducible apply keeps_updMd); exact rfl
  repeat first | with_reducible exact Keeps.refl _ _ | with_reducible assumption
  split
  (with_reducible apply keeps_waitAck); exact rfl
  repeat first | with_reducible exact Keeps.refl _ _ | with_reducible assumption
  (with_reducible apply keeps_rawDone); exact rfl
  repeat first | with_reducible exact Keeps.refl _ _ | with_reducible assumption
  split
  (with_reducible apply keeps_waitAck); exact rfl
  repeat first | with_reducible exact Keeps.refl _ _ | with_reducible assumption
  (with_reducible apply keeps_awaitTxn); exact rfl
  repeat first | with_reducible exact Keeps.refl _ _ | with_reducible assumption
  (with_reducible apply keeps_updGroup); exact rfl
  repeat first | with_reducible exact Keeps.refl _ _ | with_reducible assumption
  (with_reducible apply keeps_waitAck); exact rfl
  (with_reducible apply keeps_updCnt); exact rfl
  repeat first | with_reducible exact Keeps.refl _ _ | with_reducible assumption
  (with_reducible apply keeps_waitAck); exact rfl
  repeat first | with_reducible exact Keeps.refl _ _ | with_reducible assumption

theorem keeps_failedFrame (n : Nat) (f : Frame) (out : Nat) (s : State) {mk : Nat} {s0 : State} (he : mk &&& 0xFDFFFFEC01F1 = mk) (hg : Keeps mk s0 s) :
    Keeps mk s0 (failedFrame n f out s) := by
  refine Keeps.via ?_ he hg
  unfold failedFrame
  try dsimp -zeta only
  split
  (with_reducible apply keeps_beaconOut); exact rfl
  repeat first | with_reducible exact Keeps.refl _ _ | with_reducible assumption
  (with_reducible apply keeps_greetOut); exact rfl
  repeat first | with_reducible exact Keeps.refl _ _ | with_reducible assumption
  (with_reducible apply keeps_rawDone); exact rfl
  repeat first | with_reducible exact Keeps.refl _ _ | with_reducible assumption
  split
  split
  split
  repeat first | with_reducible exact Keeps.refl _ _ | with_reducible assumption
  (with_reducible apply keeps_restageTrain); exact rfl
  repeat first | with_reducible exact Keeps.refl _ _ | with_reducible assumption
  (with_reducible apply keeps_failTxn); exact rfl
  repeat first | with_reducible exact Keeps.refl _ _ | with_reducible assumption
  (with_reducible apply keeps_updGroup); exact rfl
  repeat first | with_reducible exact Keeps.refl _ _ | with_reducible assumption

theorem keeps_frameLeft (n : Nat) (f : Frame) (out : Nat) (s : State) {mk : Nat} {s0 : State} (he : mk &&& 0xFDFFFFEC01F1 = mk) (hg : Keeps mk s0 s) :
    Keeps mk s0 (frameLeft n f out s) := by
  refine Keeps.via ?_ he hg
  unfold frameLeft
  try dsimp -zeta only
  ((try lift_lets); intro sL; with_reducible refine Keeps.cut sL ?_ ?_; rotate_left; (intro kL; clear_value sL); rotate_right; subst sL; try dsimp -zeta only)
  (with_reducible apply keeps_dropFrame); exact rfl
  repeat first | with_reducible exact Keeps.refl _ _ | with_reducible assumption
  split
  (with_reducible apply keeps_sentFrame); exact rfl
  repeat first | with_reducible exact Keeps.refl _ _ | with_reducible assumption
  (with_reducible apply keeps_failedFrame); exact rfl
  repeat first | with_reducible exact Keeps.refl _ _ | with_reducible assumption

theorem keeps_withdrawFrames (n : Nat) (out : Nat) (p : Frame → Bool) (s : State) {mk : Nat} {s0 : State} (he : mk &&& 0xFDFFFFEC01F1 = mk) (hg : Keeps mk s0 s) :
    Keeps mk s0 (withdrawFrames n out p s) := by
  refine Keeps.via ?_ he hg
  unfold withdrawFrames
  try dsimp -zeta only
  ((try lift_lets); intro xL; clear_value xL)
  (intro xL; clear_value xL)
  (intro xL; clear_value xL)
  (intro sL; with_reducible refine Keeps.cut sL ?_ ?_; rotate_left; (intro kL; clear_value sL); rotate_right; subst sL; try dsimp -zeta only)
  (with_reducible apply keeps_updCe); exact rfl
  repeat first | with_reducible exact Keeps.refl _ _ | with_reducible assumption
  split
  (with_reducible apply keeps_updCe); exact rfl
  ((with_reducible apply Keeps.fold); (intro _ _))
  (with_reducible apply keeps_frameLeft); exact rfl
  repeat first | with_reducible exact Keeps.refl _ _ | with_reducible assumption
  ((with_reducible apply Keeps.fold); (intro _ _))
  (with_reducible apply keeps_frameLeft); exact rfl
  repeat first | with_reducible exact Keeps.refl _ _ | with_reducible assumption

theorem keeps_purgeDisabled (old : State) (s : State) {mk : Nat} {s0 : State} (he : mk &&& 0xFDFFFFEC01F1 = mk) (hg : Keeps mk s0 s) :
    Keeps mk s0 (purgeDisabled old s) := by
  refine Keeps.via ?_ he hg
  unfold purgeDisabled
  try dsimp -zeta only
  ((with_reducible apply Keeps.fold); (intro _ _))
  ((try lift_lets); intro xL; clear_value xL)
  (intro xL; clear_value xL)
  split
  (with_reducible apply keeps_withdrawFrames); exact rfl
  repeat first | with_reducible exact Keeps.refl _ _ | with_reducible assumption

theorem keeps_restartMac (n : Nat) (data : Bool) (s : State) {mk : Nat} {s0 : State} (he : mk &&& 0xFDFFFFEC01F1 = mk) (hg : Keeps mk s0 s) :
    Keeps mk s0 (restartMac n data s) := by
  refine Keeps.via ?_ he hg
  unfold restartMac
  try dsimp -zeta only
  ((try lift_lets); intro sL; with_reducible refine Keeps.cut sL ?_ ?_; rotate_left; (intro kL; clear_value sL); rotate_right; subst sL; try dsimp -zeta only)
  (with_reducible apply keeps_withdrawFrames); exact rfl
  repeat first | with_reducible exact Keeps.refl _ _ | with_reducible assumption
  split
  (with_reducible apply keeps_toResync); exact rfl
  (with_reducible apply keeps_updMd); exact rfl
  repeat first | with_reducible exact Keeps.refl _ _ | with_reducible assumption
  (with_reducible apply keeps_updMd); exact rfl
  repeat first | with_reducible exact Keeps.refl _ _ | with_reducible assumption

theorem keeps_trainFailed (n : Nat) (ep : Nat) (s : State) {mk : Nat} {s0 : State} (he : mk &&& 0xFFFFFFFFD7FF = mk) (hg : Keeps mk s0 s) :
    Keeps mk s0 (trainFailed n ep s) := by
  refine Keeps.via ?_ he hg
  unfold trainFailed updLink
  try dsimp -zeta only
  ((try lift_lets); intro xL; clear_value xL)
  (intro sL; with_reducible refine Keeps.cut sL ?_ ?_; rotate_left; (intro kL; clear_value sL); rotate_right; subst sL; try dsimp -zeta only)
  split
  (with_reducible apply keeps_updCnt); exact rfl
  repeat first | with_reducible exact Keeps.refl _ _ | with_reducible assumption
  (with_reducible apply Keeps.set_mac); exact rfl
  (with_reducible apply keeps_updCnt); exact rfl
  repeat first | with_reducible exact Keeps.refl _ _ | with_reducible assumption
  split
  split
  (with_reducible apply keeps_toResync); exact rfl
  repeat first | with_reducible exact Keeps.refl _ _ | with_reducible assumption

theorem keeps_execBeaconDue (n : Nat) (s : State) (t : State) (h : execBeaconDue n s = .next t) : Keeps 0xFFFFFFFFC5FF s t := by
  unfold execBeaconDue at h
  injection h with h
  subst h
  try dsimp -zeta only
  ((try lift_lets); intro xL; clear_value xL)
  (intro xL; clear_value xL)
  (intro xL; clear_value xL)
  split
  repeat first | with_reducible exact Keeps.refl _ _ | with_reducible assumption
  ((try lift_lets); intro xL; clear_value xL)
  (intro sL; with_reducible refine Keeps.cut sL ?_ ?_; rotate_left; (intro kL; clear_value sL); rotate_right; subst sL; try dsimp -zeta only)
  (with_reducible apply keeps_updMd); exact rfl
  repeat first | with_reducible exact Keeps.refl _ _ | with_reducible assumption
  split
  repeat first | with_reducible exact Keeps.refl _ _ | with_reducible assumption
  split
  (with_reducible apply keeps_missPeriod); exact rfl
  repeat first | with_reducible exact Keeps.refl _ _ | with_reducible assumption
  split
  (with_reducible apply keeps_beaconOut); exact rfl
  repeat first | with_reducible exact Keeps.refl _ _ | with_reducible assumption
  split
  (with_reducible apply keeps_stageFrame); exact rfl
  repeat first | with_reducible exact Keeps.refl _ _ | with_reducible assumption

theorem keeps_execBackupBeacon (n : Nat) (s : State) (t : State) (h : execBackupBeacon n s = .next t) : Keeps 0xFFFFFFFFC5FF s t := by
  unfold execBackupBeacon at h
  injection h with h
  subst h
  dsimp only
  split
  · exact Keeps.refl _ _
  · split
    · exact keeps_beaconOut _ _ _ _ _ rfl (Keeps.refl _ _)
    · split
      · exact Keeps.refl _ _
      · split
        · exact keeps_beaconOut _ _ _ _ _ rfl (Keeps.refl _ _)
        · split
          · exact keeps_stageFrame _ _ _ rfl (Keeps.refl _ _)
          · exact Keeps.refl _ _

theorem keeps_execExtraBeacon (n : Nat) (s : State) (t : State) (h : execExtraBeacon n s = .next t) : Keeps 0xFFFFFFFFC7FF s t := by
  unfold execExtraBeacon at h
  injection h with h
  subst h
  try dsimp -zeta only
  ((try lift_lets); intro xL; clear_value xL)
  (intro xL; clear_value xL)
  (intro sL; with_reducible refine Keeps.cut sL ?_ ?_; rotate_left; (intro kL; clear_value sL); rotate_right; subst sL; try dsimp -zeta only)
  (with_reducible apply keeps_updMd); exact rfl
  repeat first | with_reducible exact Keeps.refl _ _ | with_reducible assumption
  split
  repeat first | with_reducible exact Keeps.refl _ _ | with_reducible assumption
  split
  repeat first | with_reducible exact Keeps.refl _ _ | with_reducible assumption
  split
  (with_reducible apply keeps_stageFrame); exact rfl
  (with_reducible apply keeps_updMd); exact rfl
  repeat first | with_reducible exact Keeps.refl _ _ | with_reducible assumption

theorem keeps_execLinkSweep (n : Nat) (s : State) (t : State) (h : execLinkSweep n s = .next t) : Keeps 0xFFFFFFFFD7FF s t := by
  unfold execLinkSweep at h
  injection h with h
  subst h
  try dsimp -zeta only
  ((try lift_lets); intro xL; clear_value xL)
  (intro sL; with_reducible refine Keeps.cut sL ?_ ?_; rotate_left; (intro kL; clear_value sL); rotate_right; subst sL; try dsimp -zeta only)
  (with_reducible apply keeps_driftLinks); exact rfl
  repeat first | with_reducible exact Keeps.refl _ _ | with_reducible assumption
  split
  repeat first | with_reducible exact Keeps.refl _ _ | with_reducible assumption
  (with_reducible apply keeps_updCnt); exact rfl
  (with_reducible apply keeps_takeIndirect); exact rfl
  repeat first | with_reducible exact Keeps.refl _ _ | with_reducible assumption

theorem keeps_execPollMiss (ep : Nat) (s : State) (t : State) (h : execPollMiss ep s = .next t) : Keeps 0xFFFFFFFFD7FF s t := by
  unfold execPollMiss at h
  injection h with h
  subst h
  try dsimp -zeta only
  split
  split
  (with_reducible apply keeps_toResync); exact rfl
  repeat first | with_reducible exact Keeps.refl _ _ | with_reducible assumption

theorem keeps_execGreetingRound (n : Nat) (s : State) (t : State) (h : execGreetingRound n s = .next t) : Keeps 0xFFFFFFFFC5FF s t := by
  unfold execGreetingRound at h
  injection h with h
  subst h
  try dsimp -zeta only
  ((try lift_lets); intro xL; clear_value xL)
  (intro sL; with_reducible refine Keeps.cut sL ?_ ?_; rotate_left; (intro kL; clear_value sL); rotate_right; subst sL; try dsimp -zeta only)
  (with_reducible apply keeps_updMd); exact rfl
  repeat first | with_reducible exact Keeps.refl _ _ | with_reducible assumption
  split
  repeat first | with_reducible exact Keeps.refl _ _ | with_reducible assumption
  split
  (with_reducible apply keeps_updMd); exact rfl
  ((with_reducible apply Keeps.fold); (intro _ _))
  (with_reducible apply keeps_toLost); exact rfl
  repeat first | with_reducible exact Keeps.refl _ _ | with_reducible assumption
  split
  (with_reducible apply keeps_stageFrame); exact rfl
  (with_reducible apply keeps_updMd); exact rfl
  ((with_reducible apply Keeps.fold); (intro _ _))
  (with_reducible apply keeps_toLost); exact rfl
  repeat first | with_reducible exact Keeps.refl _ _ | with_reducible assumption
  (with_reducible apply keeps_greetOut); exact rfl
  (with_reducible apply keeps_updMd); exact rfl
  ((with_reducible apply Keeps.fold); (intro _ _))
  (with_reducible apply keeps_toLost); exact rfl
  repeat first | with_reducible exact Keeps.refl _ _ | with_reducible assumption

end Sys2Proof.Laws
end

