-- ==== Sys2Proof/Laws/Frames/Access.lean ====
section
/-!
SUPPORT. Frames of the operations of Machine/Access.lean.
-/
set_option Elab.async false
namespace Sys2Proof.Laws
open Sys2Proof Sys2Proof.Machine

theorem keeps_setAir (n : Nat) (x : AirTx) (s : State) {mk : Nat} {s0 : State} (he : mk &&& 0xFFFFFFFFDFFF = mk) (hg : Keeps mk s0 s) :
    Keeps mk s0 (setAir n x s) := by
  refine Keeps.via ?_ he hg
  unfold setAir
  try dsimp -zeta only
  (with_reducible apply keeps_updMd); exact rfl
  repeat first | with_reducible exact Keeps.refl _ _ | with_reducible assumption

theorem keeps_formAck (n : Nat) (a : AckDue) (start : Nat) (ticks : Nat) (s : State) {mk : Nat} {s0 : State} (he : mk &&& 0xFDFFFFFF9FFF = mk) (hg : Keeps mk s0 s) :
    Keeps mk s0 (formAck n a start ticks s) := by
  refine Keeps.via ?_ he hg
  unfold formAck
  try dsimp -zeta only
  ((try lift_lets); intro xL; clear_value xL)
  (intro xL; clear_value xL)
  (intro xL; clear_value xL)
  (intro xL; subst xL; try dsimp -zeta only)
  (intro xL; clear_value xL)
  split
  (with_reducible apply keeps_setAir); exact rfl
  (with_reducible apply keeps_takeOut); exact rfl
  (with_reducible apply keeps_useCur); exact rfl
  repeat first | with_reducible exact Keeps.refl _ _ | with_reducible assumption
  (with_reducible apply keeps_setAir); exact rfl
  (with_reducible apply keeps_takeSlot); exact rfl
  repeat first | with_reducible exact Keeps.refl _ _ | with_reducible assumption

theorem keeps_schedTrain (n : Nat) (f : Frame) (s : State) {mk : Nat} {s0 : State} (he : mk &&& 0xFFFFFFFFC7FF = mk) (hg : Keeps mk s0 s) :
    Keeps mk s0 (schedTrain n f s).2 := by
  refine Keeps.via ?_ he hg
  unfold schedTrain
  try dsimp -zeta only
  ((try lift_lets); intro xL; clear_value xL)
  (intro sL; with_reducible refine Keeps.cut sL ?_ ?_; rotate_left; (intro kL; clear_value sL); rotate_right; subst sL; try dsimp -zeta only)
  (with_reducible apply keeps_driftLinks); exact rfl
  repeat first | with_reducible exact Keeps.refl _ _ | with_reducible assumption
  split
  repeat first | with_reducible exact Keeps.refl _ _ | with_reducible assumption
  (with_reducible apply keeps_updCe); exact rfl
  repeat first | with_reducible exact Keeps.refl _ _ | with_reducible assumption

theorem keeps_schedTrain_eq {n : Nat} {f : Frame} {s : State} {mk : Nat} {s0 sq : State} {w} (hq : schedTrain n f s = (w, sq)) (he : mk &&& 0xFFFFFFFFC7FF = mk) (hg : Keeps mk s0 s) :
    Keeps mk s0 sq := by
  have := keeps_schedTrain (mk := mk) (s0 := s0) n f s he hg
  rw [hq] at this
  exact this

theorem keeps_takeSeq (n : Nat) (s : State) {mk : Nat} {s0 : State} (he : mk &&& 0xFFFFFFFFDFFF = mk) (hg : Keeps mk s0 s) :
    Keeps mk s0 (takeSeq n s) := by
  refine Keeps.via ?_ he hg
  unfold takeSeq
  try dsimp -zeta only
  (with_reducible apply keeps_updMd); exact rfl
  repeat first | with_reducible exact Keeps.refl _ _ | with_reducible assumption

theorem keeps_formFrame (n : Nat) (f : Frame) (start : Nat) (s : State) {mk : Nat} {s0 : State} (he : mk &&& 0xFDFFFFFF9FFF = mk) (hg : Keeps mk s0 s) :
    Keeps mk s0 (formFrame n f start s) := by
  refine Keeps.via ?_ he hg
  unfold formFrame
  try dsimp -zeta only
  ((try lift_lets); intro xL; clear_value xL)
  (intro xL; clear_value xL)
  (intro xL; clear_value xL)
  (intro xL; clear_value xL)
  (intro xL; clear_value xL)
  (intro xL; clear_value xL)
  (intro xL; subst xL; try dsimp -zeta only)
  ((try lift_lets); intro xL; clear_value xL)
  (intro xL; clear_value xL)
  (intro xL; clear_value xL)
  (intro xL; clear_value xL)
  split
  (with_reducible apply keeps_setAir); exact rfl
  repeat first | with_reducible exact Keeps.refl _ _ | with_reducible assumption
  ((try lift_lets); intro xL; clear_value xL)
  (with_reducible apply keeps_setAir); exact rfl
  (with_reducible apply keeps_takeSeq); exact rfl
  split
  repeat first | with_reducible exact Keeps.refl _ _ | with_reducible assumption
  (with_reducible apply keeps_takeSlot); exact rfl
  repeat first | with_reducible exact Keeps.refl _ _ | with_reducible assumption
  (with_reducible apply keeps_setAir); exact rfl
  (with_reducible apply keeps_takeSeq); exact rfl
  split
  repeat first | with_reducible exact Keeps.refl _ _ | with_reducible assumption
  (with_reducible apply keeps_takeSlot); exact rfl
  repeat first | with_reducible exact Keeps.refl _ _ | with_reducible assumption
  (with_reducible apply keeps_setAir); exact rfl
  (with_reducible apply keeps_takeSeq); exact rfl
  split
  repeat first | with_reducible exact Keeps.refl _ _ | with_reducible assumption
  (with_reducible apply keeps_takeSlot); exact rfl
  repeat first | with_reducible exact Keeps.refl _ _ | with_reducible assumption
  split
  split
  (with_reducible apply keeps_setAir); exact rfl
  repeat first | with_reducible exact Keeps.refl _ _ | with_reducible assumption
  ((try lift_lets); intro xL; clear_value xL)
  (with_reducible apply keeps_setAir); exact rfl
  (with_reducible apply keeps_takeSeq); exact rfl
  (with_reducible apply keeps_takeOut); exact rfl
  (with_reducible apply keeps_useCur); exact rfl
  repeat first | with_reducible exact Keeps.refl _ _ | with_reducible assumption
  (with_reducible apply keeps_setAir); exact rfl
  (with_reducible apply keeps_takeSeq); exact rfl
  (with_reducible apply keeps_takeSlot); exact rfl
  repeat first | with_reducible exact Keeps.refl _ _ | with_reducible assumption

theorem keeps_startFrame (n : Nat) (a : Admission) (s : State) {mk : Nat} {s0 : State} (he : mk &&& 0xFDFFFFFF8FFF = mk) (hg : Keeps mk s0 s) :
    Keeps mk s0 (startFrame n a s) := by
  refine Keeps.via ?_ he hg
  unfold startFrame
  try dsimp -zeta only
  (with_reducible apply keeps_launch); exact rfl
  (with_reducible apply keeps_formFrame); exact rfl
  repeat first | with_reducible exact Keeps.refl _ _ | with_reducible assumption

theorem keeps_execCarrierAdmit (fe : Fin 2) (s : State) (t : State) (h : execCarrierAdmit fe s = .next t) : Keeps 0xFDFFFFFF87FD s t := by
  unfold execCarrierAdmit at h
  injection h with h
  subst h
  try dsimp -zeta only
  ((try lift_lets); intro sL; with_reducible refine Keeps.cut sL ?_ ?_; rotate_left; (intro kL; clear_value sL); rotate_right; subst sL; try dsimp -zeta only)
  (with_reducible apply keeps_enterAll); exact rfl
  (with_reducible apply keeps_revokeAdm); exact rfl
  repeat first | with_reducible exact Keeps.refl _ _ | with_reducible assumption
  split
  repeat first | with_reducible exact Keeps.refl _ _ | with_reducible assumption
  ((try lift_lets); intro xL; clear_value xL)
  (intro xL; clear_value xL)
  (intro xL; clear_value xL)
  split
  split
  (with_reducible apply keeps_updCe); exact rfl
  (with_reducible apply keeps_randWait); exact rfl
  (with_reducible apply keeps_schedTrain); exact rfl
  repeat first | with_reducible exact Keeps.refl _ _ | with_reducible assumption
  (with_reducible apply keeps_startFrame); exact rfl
  (with_reducible apply keeps_updCe); exact rfl
  (with_reducible apply keeps_schedTrain); exact rfl
  repeat first | with_reducible exact Keeps.refl _ _ | with_reducible assumption

theorem keeps_stampAir (s : State) {mk : Nat} {s0 : State} (he : mk &&& 0xFFFFFFFFDFFF = mk) (hg : Keeps mk s0 s) :
    Keeps mk s0 (stampAir s) := by
  refine Keeps.via ?_ he hg
  unfold stampAir
  try dsimp -zeta only
  ((with_reducible apply Keeps.fold); (intro _ _))
  split
  split
  (with_reducible apply keeps_updMd); exact rfl
  repeat first | with_reducible exact Keeps.refl _ _ | with_reducible assumption

end Sys2Proof.Laws
end

