-- ==== Sys2Proof/Laws/Frames/Air.lean ====
section
/-!
SUPPORT. Frames of the operations of Machine/Air.lean.
-/
set_option Elab.async false
namespace Sys2Proof.Laws
open Sys2Proof Sys2Proof.Machine

theorem keeps_ackSent (n : Nat) (s : State) {mk : Nat} {s0 : State} (he : mk &&& 0xFDFFFFEC01F1 = mk) (hg : Keeps mk s0 s) :
    Keeps mk s0 (ackSent n s) := by
  refine Keeps.via ?_ he hg
  unfold ackSent
  try dsimp -zeta only
  split
  repeat first | with_reducible exact Keeps.refl _ _ | with_reducible assumption
  ((try lift_lets); intro sL; with_reducible refine Keeps.cut sL ?_ ?_; rotate_left; (intro kL; clear_value sL); rotate_right; subst sL; try dsimp -zeta only)
  (with_reducible apply keeps_updMd); exact rfl
  repeat first | with_reducible exact Keeps.refl _ _ | with_reducible assumption
  split
  (with_reducible apply keeps_deliver); exact rfl
  repeat first | with_reducible exact Keeps.refl _ _ | with_reducible assumption
  (with_reducible apply keeps_restageTrain); exact rfl
  repeat first | with_reducible exact Keeps.refl _ _ | with_reducible assumption

theorem keeps_stopCarrier (n : Nat) (k : Nat) (c : Carrier) (s : State) {mk : Nat} {s0 : State} (he : mk &&& 0xFFFFFFFFE7FF = mk) (hg : Keeps mk s0 s) :
    Keeps mk s0 (stopCarrier n k c s) := by
  refine Keeps.via ?_ he hg
  unfold stopCarrier
  try dsimp -zeta only
  (with_reducible apply keeps_countAir); exact rfl
  (with_reducible apply keeps_endCarrier); exact rfl
  repeat first | with_reducible exact Keeps.refl _ _ | with_reducible assumption

theorem keeps_freshMeas (s : State) {mk : Nat} {s0 : State} (he : mk &&& 0xFFFFFFFFFFFD = mk) (hg : Keeps mk s0 s) :
    Keeps mk s0 (freshMeas s).2 := by
  refine Keeps.via ?_ he hg
  unfold freshMeas
  try dsimp -zeta only
  (with_reducible apply keeps_freshNat); exact rfl
  (with_reducible apply keeps_freshNat); exact rfl
  (with_reducible apply keeps_freshNat); exact rfl
  (with_reducible apply keeps_freshNat); exact rfl
  (with_reducible apply keeps_freshNat); exact rfl
  repeat first | with_reducible exact Keeps.refl _ _ | with_reducible assumption

theorem keeps_freshMeas_eq {s : State} {mk : Nat} {s0 sq : State} {w} (hq : freshMeas s = (w, sq)) (he : mk &&& 0xFFFFFFFFFFFD = mk) (hg : Keeps mk s0 s) :
    Keeps mk s0 sq := by
  have := keeps_freshMeas (mk := mk) (s0 := s0) s he hg
  rw [hq] at this
  exact this

theorem keeps_measureAclr (k : Nat) (m : TxMeas) (s : State) {mk : Nat} {s0 : State} (he : mk &&& 0xFFFFFFFFE7FF = mk) (hg : Keeps mk s0 s) :
    Keeps mk s0 (measureAclr k m s) := by
  refine Keeps.via ?_ he hg
  unfold measureAclr
  try dsimp -zeta only
  ((try lift_lets); intro xL; clear_value xL)
  (intro xL; clear_value xL)
  (intro xL; clear_value xL)
  (intro sL; with_reducible refine Keeps.cut sL ?_ ?_; rotate_left; (intro kL; clear_value sL); rotate_right; subst sL; try dsimp -zeta only)
  (with_reducible apply keeps_updFe); exact rfl
  repeat first | with_reducible exact Keeps.refl _ _ | with_reducible assumption
  split
  (with_reducible apply keeps_logNs); exact rfl
  (with_reducible apply keeps_updFe); exact rfl
  repeat first | with_reducible exact Keeps.refl _ _ | with_reducible assumption
  split
  (with_reducible apply keeps_updFe); exact rfl
  repeat first | with_reducible exact Keeps.refl _ _ | with_reducible assumption

theorem keeps_setFbV (k : Nat) (v : Nat) (s : State) {mk : Nat} {s0 : State} (he : mk &&& 0xFFFFFFFFE7FF = mk) (hg : Keeps mk s0 s) :
    Keeps mk s0 (setFbV k v s) := by
  refine Keeps.via ?_ he hg
  unfold setFbV
  try dsimp -zeta only
  ((try lift_lets); intro xL; clear_value xL)
  split
  repeat first | with_reducible exact Keeps.refl _ _ | with_reducible assumption
  (with_reducible apply keeps_logNs); exact rfl
  (with_reducible apply keeps_updFe); exact rfl
  repeat first | with_reducible exact Keeps.refl _ _ | with_reducible assumption

theorem keeps_measureVswr (k : Nat) (v : Nat) (s : State) {mk : Nat} {s0 : State} (he : mk &&& 0xFFFFFFFFE7FF = mk) (hg : Keeps mk s0 s) :
    Keeps mk s0 (measureVswr k v s) := by
  refine Keeps.via ?_ he hg
  unfold measureVswr
  try dsimp -zeta only
  ((try lift_lets); intro sL; with_reducible refine Keeps.cut sL ?_ ?_; rotate_left; (intro kL; clear_value sL); rotate_right; subst sL; try dsimp -zeta only)
  (with_reducible apply keeps_updFe); exact rfl
  repeat first | with_reducible exact Keeps.refl _ _ | with_reducible assumption
  split
  (with_reducible apply keeps_setFbV); exact rfl
  repeat first | with_reducible exact Keeps.refl _ _ | with_reducible assumption
  split
  (with_reducible apply keeps_setFbV); exact rfl
  repeat first | with_reducible exact Keeps.refl _ _ | with_reducible assumption

theorem keeps_measureCarrier (k : Nat) (ticks : Nat) (m : TxMeas) (s : State) {mk : Nat} {s0 : State} (he : mk &&& 0xFFFFFFFFE7FF = mk) (hg : Keeps mk s0 s) :
    Keeps mk s0 (measureCarrier k ticks m s) := by
  refine Keeps.via ?_ he hg
  unfold measureCarrier
  try dsimp -zeta only
  (with_reducible apply keeps_measureAclr); exact rfl
  split
  (with_reducible apply keeps_measureVswr); exact rfl
  repeat first | with_reducible exact Keeps.refl _ _ | with_reducible assumption

theorem keeps_cutCarrier (n : Nat) (k : Nat) (c : Carrier) (s : State) {mk : Nat} {s0 : State} (he : mk &&& 0xFFFFFFFFE7FD = mk) (hg : Keeps mk s0 s) :
    Keeps mk s0 (cutCarrier n k c s) := by
  refine Keeps.via ?_ he hg
  unfold cutCarrier
  try dsimp -zeta only
  ((try lift_lets); intro sL; with_reducible refine Keeps.cut sL ?_ ?_; rotate_left; (intro kL; clear_value sL); rotate_right; subst sL; try dsimp -zeta only)
  (with_reducible apply keeps_stopCarrier); exact rfl
  repeat first | with_reducible exact Keeps.refl _ _ | with_reducible assumption
  split
  repeat first | with_reducible exact Keeps.refl _ _ | with_reducible assumption
  (with_reducible apply keeps_measureCarrier); exact rfl
  (with_reducible apply keeps_freshMeas); exact rfl
  repeat first | with_reducible exact Keeps.refl _ _ | with_reducible assumption

theorem keeps_putCe_settleIfIdle (n : Nat) (s : State) {mk : Nat} {s0 : State} (he : mk &&& 0xFFFFFFFFEFFF = mk) (hg : Keeps mk s0 s) :
    Keeps mk s0 (putCe.settleIfIdle n s) := by
  refine Keeps.via ?_ he hg
  unfold putCe.settleIfIdle
  try dsimp -zeta only
  split
  (with_reducible apply keeps_enterAccess); exact rfl
  repeat first | with_reducible exact Keeps.refl _ _ | with_reducible assumption

theorem keeps_putCe (n : Nat) (c : CeCfg) (s : State) {mk : Nat} {s0 : State} (he : mk &&& 0xFDFFFFEC01F1 = mk) (hg : Keeps mk s0 s) :
    Keeps mk s0 (putCe n c s) := by
  refine Keeps.via ?_ he hg
  unfold putCe
  try dsimp -zeta only
  ((try lift_lets); intro xL; clear_value xL)
  (intro xL; clear_value xL)
  (intro sL; with_reducible refine Keeps.cut sL ?_ ?_; rotate_left; (intro kL; clear_value sL); rotate_right; subst sL; try dsimp -zeta only)
  split
  (with_reducible apply keeps_endRx); exact rfl
  repeat first | with_reducible exact Keeps.refl _ _ | with_reducible assumption
  (with_reducible apply keeps_purgeDisabled); exact rfl
  (with_reducible apply keeps_noteDuty); exact rfl
  (with_reducible apply keeps_putCe_settleIfIdle); exact rfl
  split
  (with_reducible apply keeps_restartMac); exact rfl
  (with_reducible apply keeps_updCe); exact rfl
  (with_reducible apply keeps_withdrawFrames); exact rfl
  repeat first | with_reducible exact Keeps.refl _ _ | with_reducible assumption
  (with_reducible apply keeps_updCe); exact rfl
  repeat first | with_reducible exact Keeps.refl _ _ | with_reducible assumption

theorem keeps_afterCarrier (n : Nat) (s : State) {mk : Nat} {s0 : State} (he : mk &&& 0xFDFFFFEC01F1 = mk) (hg : Keeps mk s0 s) :
    Keeps mk s0 (afterCarrier n s) := by
  refine Keeps.via ?_ he hg
  unfold afterCarrier
  try dsimp -zeta only
  split
  (with_reducible apply keeps_putCe); exact rfl
  (with_reducible apply keeps_updCe); exact rfl
  repeat first | with_reducible exact Keeps.refl _ _ | with_reducible assumption
  (with_reducible apply keeps_settleCe); exact rfl
  repeat first | with_reducible exact Keeps.refl _ _ | with_reducible assumption

theorem keeps_stopAll (k : Nat) (out : Nat) (s : State) {mk : Nat} {s0 : State} (he : mk &&& 0xFDFFFFEC01F1 = mk) (hg : Keeps mk s0 s) :
    Keeps mk s0 (stopAll k out s) := by
  refine Keeps.via ?_ he hg
  unfold stopAll
  try dsimp -zeta only
  ((with_reducible apply Keeps.fold); (intro _ _))
  ((try lift_lets); intro sL; with_reducible refine Keeps.cut sL ?_ ?_; rotate_left; (intro kL; clear_value sL); rotate_right; subst sL; try dsimp -zeta only)
  (with_reducible apply keeps_cutCarrier); exact rfl
  repeat first | with_reducible exact Keeps.refl _ _ | with_reducible assumption
  split
  repeat first | with_reducible exact Keeps.refl _ _ | with_reducible assumption
  split
  (with_reducible apply keeps_afterCarrier); exact rfl
  (with_reducible apply keeps_updMd); exact rfl
  repeat first | with_reducible exact Keeps.refl _ _ | with_reducible assumption
  split
  (with_reducible apply keeps_frameLeft); exact rfl
  (with_reducible apply keeps_afterCarrier); exact rfl
  repeat first | with_reducible exact Keeps.refl _ _ | with_reducible assumption
  (with_reducible apply keeps_afterCarrier); exact rfl
  repeat first | with_reducible exact Keeps.refl _ _ | with_reducible assumption

theorem keeps_applyCe (n : Nat) (c : CeCfg) (s : State) {mk : Nat} {s0 : State} (he : mk &&& 0xFDFFFFEC01F1 = mk) (hg : Keeps mk s0 s) :
    Keeps mk s0 (applyCe n c s) := by
  refine Keeps.via ?_ he hg
  unfold applyCe
  try dsimp -zeta only
  split
  (with_reducible apply keeps_updCe); exact rfl
  repeat first | with_reducible exact Keeps.refl _ _ | with_reducible assumption
  (with_reducible apply keeps_putCe); exact rfl
  repeat first | with_reducible exact Keeps.refl _ _ | with_reducible assumption

theorem keeps_markGain (k : Nat) (n : Nat) (s : State) {mk : Nat} {s0 : State} (he : mk &&& 0xFFFFFFFFEFFF = mk) (hg : Keeps mk s0 s) :
    Keeps mk s0 (markGain k n s) := by
  refine Keeps.via ?_ he hg
  unfold markGain
  try dsimp -zeta only
  (with_reducible apply keeps_updCe); exact rfl
  repeat first | with_reducible exact Keeps.refl _ _ | with_reducible assumption

theorem keeps_changeGain (k : Nat) (step : Nat) (s : State) {mk : Nat} {s0 : State} (he : mk &&& 0xFFFFFFFFEFFF = mk) (hg : Keeps mk s0 s) :
    Keeps mk s0 (changeGain k step s) := by
  refine Keeps.via ?_ he hg
  unfold changeGain
  try dsimp -zeta only
  ((try lift_lets); intro xL; clear_value xL)
  (intro xL; clear_value xL)
  (intro sL; with_reducible refine Keeps.cut sL ?_ ?_; rotate_left; (intro kL; clear_value sL); rotate_right; subst sL; try dsimp -zeta only)
  ((with_reducible apply Keeps.fold); (intro _ _))
  (with_reducible apply keeps_dropRx); exact rfl
  (with_reducible apply keeps_markGain); exact rfl
  repeat first | with_reducible exact Keeps.refl _ _ | with_reducible assumption
  (with_reducible apply keeps_updFe); exact rfl
  repeat first | with_reducible exact Keeps.refl _ _ | with_reducible assumption

theorem keeps_radioAbort (s : State) {mk : Nat} {s0 : State} (he : mk &&& 0xFDFFFFEC01F1 = mk) (hg : Keeps mk s0 s) :
    Keeps mk s0 (radioAbort s) := by
  refine Keeps.via ?_ he hg
  unfold radioAbort
  try dsimp -zeta only
  (with_reducible apply keeps_stopAll); exact rfl
  (with_reducible apply keeps_stopAll); exact rfl
  repeat first | with_reducible exact Keeps.refl _ _ | with_reducible assumption

theorem keeps_logUncovered (old : State) (cause : Nat) (s : State) {mk : Nat} {s0 : State} (he : mk &&& 0xFFFFFFFFF7FF = mk) (hg : Keeps mk s0 s) :
    Keeps mk s0 (logUncovered old cause s) := by
  refine Keeps.via ?_ he hg
  unfold logUncovered
  try dsimp -zeta only
  ((with_reducible apply Keeps.fold); (intro _ _))
  split
  (with_reducible apply keeps_logEv); exact rfl
  repeat first | with_reducible exact Keeps.refl _ _ | with_reducible assumption

theorem keeps_execFeRetune (fe : Fin 2) (us : Nat) (s : State) (t : State) (h : execFeRetune fe us s = .next t) : Keeps 0xFDFFFFEC01F1 s t := by
  unfold execFeRetune at h
  injection h with h
  subst h
  try dsimp -zeta only
  ((try lift_lets); intro xL; clear_value xL)
  (intro xL; clear_value xL)
  (intro xL; clear_value xL)
  (intro sL; with_reducible refine Keeps.cut sL ?_ ?_; rotate_left; (intro kL; clear_value sL); rotate_right; subst sL; try dsimp -zeta only)
  (with_reducible apply keeps_updFe); exact rfl
  repeat first | with_reducible exact Keeps.refl _ _ | with_reducible assumption
  split
  (with_reducible apply keeps_purgeDisabled); exact rfl
  (with_reducible apply keeps_logUncovered); exact rfl
  (with_reducible apply keeps_dropInvalid); exact rfl
  repeat first | with_reducible exact Keeps.refl _ _ | with_reducible assumption

theorem keeps_execShrDetect (n : Nat) (br : Fin 2) (s : State) (t : State) (h : execShrDetect n br s = .next t) : Keeps 0xFDFFFFEC01F1 s t := by
  unfold execShrDetect at h
  injection h with h
  subst h
  try dsimp -zeta only
  ((try lift_lets); intro xL; clear_value xL)
  (intro xL; clear_value xL)
  (intro xL; clear_value xL)
  (intro sL; with_reducible refine Keeps.cut sL ?_ ?_; rotate_left; (intro kL; clear_value sL); rotate_right; subst sL; try dsimp -zeta only)
  (with_reducible apply keeps_adoptRx); exact rfl
  repeat first | with_reducible exact Keeps.refl _ _ | with_reducible assumption
  split
  repeat first | with_reducible exact Keeps.refl _ _ | with_reducible assumption
  split
  repeat first | with_reducible exact Keeps.refl _ _ | with_reducible assumption
  (with_reducible apply keeps_updCe); exact rfl
  repeat first | with_reducible exact Keeps.refl _ _ | with_reducible assumption
  split
  (with_reducible apply keeps_updCe); exact rfl
  repeat first | with_reducible exact Keeps.refl _ _ | with_reducible assumption
  ((try lift_lets); intro xL; clear_value xL)
  (intro xL; clear_value xL)
  (intro sL; with_reducible refine Keeps.cut sL ?_ ?_; rotate_left; (intro kL; clear_value sL); rotate_right; subst sL; try dsimp -zeta only)
  (with_reducible apply keeps_updCe); exact rfl
  repeat first | with_reducible exact Keeps.refl _ _ | with_reducible assumption
  split
  (with_reducible apply keeps_frameLeft); exact rfl
  repeat first | with_reducible exact Keeps.refl _ _ | with_reducible assumption

theorem keeps_execEnhancedAck_skip (n : Nat) (k : Nat) (s : State) {mk : Nat} {s0 : State} (he : mk &&& 0xFDFFFFEC01F1 = mk) (hg : Keeps mk s0 s) :
    Keeps mk s0 (execEnhancedAck.skip n k s) := by
  refine Keeps.via ?_ he hg
  unfold execEnhancedAck.skip
  try dsimp -zeta only
  ((try lift_lets); intro sL; with_reducible refine Keeps.cut sL ?_ ?_; rotate_left; (intro kL; clear_value sL); rotate_right; subst sL; try dsimp -zeta only)
  (with_reducible apply keeps_updFe); exact rfl
  (with_reducible apply keeps_updMd); exact rfl
  repeat first | with_reducible exact Keeps.refl _ _ | with_reducible assumption
  split
  (with_reducible apply keeps_restageTrain); exact rfl
  repeat first | with_reducible exact Keeps.refl _ _ | with_reducible assumption

theorem keeps_execEnhancedAck (n : Nat) (s : State) (t : State) (h : execEnhancedAck n s = .next t) : Keeps 0xFDFFFFEC01F1 s t := by
  unfold execEnhancedAck at h
  injection h with h
  subst h
  try dsimp -zeta only
  ((try lift_lets); intro xL; clear_value xL)
  split
  repeat first | with_reducible exact Keeps.refl _ _ | with_reducible assumption
  ((try lift_lets); intro xL; clear_value xL)
  (intro xL; clear_value xL)
  (intro xL; clear_value xL)
  split
  repeat first | with_reducible exact Keeps.refl _ _ | with_reducible assumption
  split
  split
  (with_reducible apply keeps_execEnhancedAck_skip); exact rfl
  repeat first | with_reducible exact Keeps.refl _ _ | with_reducible assumption
  (with_reducible apply keeps_launch); exact rfl
  (with_reducible apply keeps_formAck); exact rfl
  (with_reducible apply keeps_updCe); exact rfl
  repeat first | with_reducible exact Keeps.refl _ _ | with_reducible assumption
  (with_reducible apply keeps_execEnhancedAck_skip); exact rfl
  repeat first | with_reducible exact Keeps.refl _ _ | with_reducible assumption

theorem keeps_execAckTimeout (n : Nat) (s : State) (t : State) (h : execAckTimeout n s = .next t) : Keeps 0xFDFFFFEC01F1 s t := by
  unfold execAckTimeout at h
  injection h with h
  subst h
  try dsimp -zeta only
  ((try lift_lets); intro sL; with_reducible refine Keeps.cut sL ?_ ?_; rotate_left; (intro kL; clear_value sL); rotate_right; subst sL; try dsimp -zeta only)
  (with_reducible apply keeps_updMd); exact rfl
  repeat first | with_reducible exact Keeps.refl _ _ | with_reducible assumption
  split
  repeat first | with_reducible exact Keeps.refl _ _ | with_reducible assumption
  ((try lift_lets); intro sL; with_reducible refine Keeps.cut sL ?_ ?_; rotate_left; (intro kL; clear_value sL); rotate_right; subst sL; try dsimp -zeta only)
  split
  (with_reducible apply keeps_trainFailed); exact rfl
  repeat first | with_reducible exact Keeps.refl _ _ | with_reducible assumption
  split
  repeat first | with_reducible exact Keeps.refl _ _ | with_reducible assumption
  split
  (with_reducible apply keeps_failTxn); exact rfl
  repeat first | with_reducible exact Keeps.refl _ _ | with_reducible assumption
  (with_reducible apply keeps_rawDone); exact rfl
  repeat first | with_reducible exact Keeps.refl _ _ | with_reducible assumption

theorem keeps_execLbtAttempt (n : Nat) (br : Fin 2) (peak : Int) (s : State) (t : State) (h : execLbtAttempt n br peak s = .next t) : Keeps 0xFDFFFFEC01F1 s t := by
  unfold execLbtAttempt at h
  injection h with h
  subst h
  try dsimp -zeta only
  ((try lift_lets); intro sL; with_reducible refine Keeps.cut sL ?_ ?_; rotate_left; (intro kL; clear_value sL); rotate_right; subst sL; try dsimp -zeta only)
  (with_reducible apply keeps_revokeAdm); exact rfl
  repeat first | with_reducible exact Keeps.refl _ _ | with_reducible assumption
  split
  repeat first | with_reducible exact Keeps.refl _ _ | with_reducible assumption
  ((try lift_lets); intro xL; clear_value xL)
  (intro xL; clear_value xL)
  (intro xL; clear_value xL)
  (intro xL; clear_value xL)
  (intro sL; with_reducible refine Keeps.cut sL ?_ ?_; rotate_left; (intro kL; clear_value sL); rotate_right; subst sL; try dsimp -zeta only)
  (with_reducible apply keeps_updCe); exact rfl
  repeat first | with_reducible exact Keeps.refl _ _ | with_reducible assumption
  split
  repeat first | with_reducible exact Keeps.refl _ _ | with_reducible assumption
  split
  split
  repeat first | with_reducible exact Keeps.refl _ _ | with_reducible assumption
  (with_reducible apply keeps_startFrame); exact rfl
  repeat first | with_reducible exact Keeps.refl _ _ | with_reducible assumption
  split
  (with_reducible apply keeps_enterAccess); exact rfl
  (with_reducible apply keeps_frameLeft); exact rfl
  (with_reducible apply keeps_updCe); exact rfl
  repeat first | with_reducible exact Keeps.refl _ _ | with_reducible assumption
  (with_reducible apply keeps_updCe); exact rfl
  (with_reducible apply keeps_randWait); exact rfl
  (with_reducible apply keeps_randWait); exact rfl
  repeat first | with_reducible exact Keeps.refl _ _ | with_reducible assumption

theorem keeps_execTransmitEnd (n : Nat) (m : TxMeas) (s : State) (t : State) (h : execTransmitEnd n m s = .next t) : Keeps 0xFDFFFFEC01F1 s t := by
  unfold execTransmitEnd at h
  injection h with h
  subst h
  split
  · exact Keeps.refl _ _
  · split
    · exact Keeps.refl _ _
    · have k2 : ∀ k c d, Keeps 0xFDFFFFEC01F1 s (measureCarrier k d m (stopCarrier n k c s)) := fun k c d =>
        keeps_measureCarrier _ _ _ _ rfl (keeps_stopCarrier _ _ _ _ rfl (Keeps.refl _ _))
      dsimp only
      split
      · exact keeps_ackSent _ _ rfl (keeps_afterCarrier _ _ rfl (k2 _ _ _))
      · split
        · exact keeps_frameLeft _ _ _ _ rfl (keeps_afterCarrier _ _ rfl (k2 _ _ _))
        · exact keeps_afterCarrier _ _ rfl (k2 _ _ _)

theorem keeps_execFrameDeadline (n : Nat) (s : State) (t : State) (h : execFrameDeadline n s = .next t) : Keeps 0xFDFFFFEC01F1 s t := by
  unfold execFrameDeadline at h
  injection h with h
  subst h
  try dsimp -zeta only
  ((try lift_lets); intro xL; clear_value xL)
  (intro xL; clear_value xL)
  split
  repeat first | with_reducible exact Keeps.refl _ _ | with_reducible assumption
  ((try lift_lets); intro xL; clear_value xL)
  (intro sL; with_reducible refine Keeps.cut sL ?_ ?_; rotate_left; (intro kL; clear_value sL); rotate_right; subst sL; try dsimp -zeta only)
  (with_reducible apply keeps_updCe); exact rfl
  repeat first | with_reducible exact Keeps.refl _ _ | with_reducible assumption
  (with_reducible apply keeps_enterAccess); exact rfl
  (with_reducible apply keeps_frameLeft); exact rfl
  repeat first | with_reducible exact Keeps.refl _ _ | with_reducible assumption

theorem keeps_execDutyBinAdvance (s : State) (t : State) (h : execDutyBinAdvance s = .next t) : Keeps 0xFFFFFFFFEFFF s t := by
  unfold execDutyBinAdvance at h
  injection h with h
  subst h
  try dsimp -zeta only
  ((try lift_lets); intro xL; clear_value xL)
  (intro xL; clear_value xL)
  split
  (with_reducible apply Keeps.set_rad); exact rfl
  repeat first | with_reducible exact Keeps.refl _ _ | with_reducible assumption

theorem keeps_execVswrRecovery (fe : Fin 2) (s : State) (t : State) (h : execVswrRecovery fe s = .next t) : Keeps 0xFFFFFFFFE7FF s t := by
  unfold execVswrRecovery at h
  injection h with h
  subst h
  try dsimp -zeta only
  ((try lift_lets); intro xL; clear_value xL)
  (intro xL; clear_value xL)
  split
  split
  (with_reducible apply keeps_setFbV); exact rfl
  repeat first | with_reducible exact Keeps.refl _ _ | with_reducible assumption
  split
  (with_reducible apply keeps_setFbV); exact rfl
  repeat first | with_reducible exact Keeps.refl _ _ | with_reducible assumption

theorem keeps_execPaTemperatureChange (fe : Fin 2) (tv : Int) (s : State) (t : State) (h : execPaTemperatureChange fe tv s = .next t) : Keeps 0xFFFFFFFFE7FF s t := by
  unfold execPaTemperatureChange at h
  injection h with h
  subst h
  try dsimp -zeta only
  ((try lift_lets); intro xL; clear_value xL)
  (intro xL; clear_value xL)
  (intro xL; clear_value xL)
  (intro xL; clear_value xL)
  (intro sL; with_reducible refine Keeps.cut sL ?_ ?_; rotate_left; (intro kL; clear_value sL); rotate_right; subst sL; try dsimp -zeta only)
  (with_reducible apply keeps_updFe); exact rfl
  repeat first | with_reducible exact Keeps.refl _ _ | with_reducible assumption
  split
  (with_reducible apply keeps_logNs); exact rfl
  (with_reducible apply Keeps.set_rad); exact rfl
  repeat first | with_reducible exact Keeps.refl _ _ | with_reducible assumption
  (with_reducible apply Keeps.set_rad); exact rfl
  repeat first | with_reducible exact Keeps.refl _ _ | with_reducible assumption

theorem keeps_execRxCalPublish (fe : Fin 2) (amp : Int) (phase : Int) (dcI : Int) (dcQ : Int) (s : State) (t : State) (h : execRxCalPublish fe amp phase dcI dcQ s = .next t) : Keeps 0xFFFFFFFFEFFF s t := by
  unfold execRxCalPublish at h
  injection h with h
  subst h
  with_reducible apply Keeps.fold
  case g => exact keeps_updFe _ _ _ rfl (Keeps.refl _ _)
  intro s n
  split
  · exact Keeps.refl _ _
  · exact keeps_adoptRx _ _ rfl (Keeps.refl _ _)

theorem keeps_execRxCalAdopt (n : Nat) (s : State) (t : State) (h : execRxCalAdopt n s = .next t) : Keeps 0xFFFFFFFFEFFF s t := by
  unfold execRxCalAdopt at h
  injection h with h
  subst h
  try dsimp -zeta only
  split
  repeat first | with_reducible exact Keeps.refl _ _ | with_reducible assumption
  (with_reducible apply keeps_adoptRx); exact rfl
  repeat first | with_reducible exact Keeps.refl _ _ | with_reducible assumption

theorem keeps_execGainStepChange (fe : Fin 2) (step : Fin 16) (headroom : Nat) (s : State) (t : State) (h : execGainStepChange fe step headroom s = .next t) : Keeps 0xFFFFFFFFEFFF s t := by
  unfold execGainStepChange at h
  injection h with h
  subst h
  try dsimp -zeta only
  ((try lift_lets); intro xL; clear_value xL)
  (intro sL; with_reducible refine Keeps.cut sL ?_ ?_; rotate_left; (intro kL; clear_value sL); rotate_right; subst sL; try dsimp -zeta only)
  (with_reducible apply keeps_updFe); exact rfl
  repeat first | with_reducible exact Keeps.refl _ _ | with_reducible assumption
  split
  repeat first | with_reducible exact Keeps.refl _ _ | with_reducible assumption
  split
  (with_reducible apply keeps_changeGain); exact rfl
  repeat first | with_reducible exact Keeps.refl _ _ | with_reducible assumption
  (with_reducible apply keeps_updFe); exact rfl
  repeat first | with_reducible exact Keeps.refl _ _ | with_reducible assumption

theorem keeps_execEvFeGainForced (fe : Fin 2) (clip : Bool) (s : State) (t : State) (h : execEvFeGainForced fe clip s = .next t) : Keeps 0xFFFFFFFFE7FF s t := by
  unfold execEvFeGainForced at h
  injection h with h
  subst h
  have k1 : Keeps 0xFFFFFFFFE7FF s (if clip = true then updFe fe.val (fun f => { f with clips := f.clips + 1 }) s else s) := by
    split
    · exact keeps_updFe _ _ _ rfl (Keeps.refl _ _)
    · exact Keeps.refl _ _
  dsimp only
  split
  · exact k1
  · split
    · exact k1
    · exact keeps_logLim _ _ _ _ rfl (keeps_updFe _ _ _ rfl (keeps_changeGain _ _ _ rfl k1))

theorem keeps_execDpdApply (fe : Fin 2) (state : Fin 3) (s : State) (t : State) (h : execDpdApply fe state s = .next t) : Keeps 0xFFFFFFFFEFFF s t := by
  unfold execDpdApply at h
  injection h with h
  subst h
  try dsimp -zeta only
  ((try lift_lets); intro xL; clear_value xL)
  (intro xL; clear_value xL)
  (intro xL; clear_value xL)
  split
  (with_reducible apply keeps_updFe); exact rfl
  repeat first | with_reducible exact Keeps.refl _ _ | with_reducible assumption
  (with_reducible apply keeps_updFe); exact rfl
  repeat first | with_reducible exact Keeps.refl _ _ | with_reducible assumption

theorem keeps_execDpdTimeout (fe : Fin 2) (s : State) (t : State) (h : execDpdTimeout fe s = .next t) : Keeps 0xFFFFFFFFEFFF s t := by
  unfold execDpdTimeout at h
  injection h with h
  subst h
  try dsimp -zeta only
  split
  split
  (with_reducible apply keeps_updFe); exact rfl
  repeat first | with_reducible exact Keeps.refl _ _ | with_reducible assumption

theorem keeps_execEvFeFault (fe : Fin 2) (pa : Bool) (s : State) (t : State) (h : execEvFeFault fe pa s = .next t) : Keeps 0xFDFFFFEC01F1 s t := by
  unfold execEvFeFault at h
  injection h with h
  subst h
  try dsimp -zeta only
  ((try lift_lets); intro xL; clear_value xL)
  (intro sL; with_reducible refine Keeps.cut sL ?_ ?_; rotate_left; (intro kL; clear_value sL); rotate_right; subst sL; try dsimp -zeta only)
  (with_reducible apply keeps_stopAll); exact rfl
  (with_reducible apply keeps_updFe); exact rfl
  repeat first | with_reducible exact Keeps.refl _ _ | with_reducible assumption
  split
  repeat first | with_reducible exact Keeps.refl _ _ | with_reducible assumption
  (with_reducible apply keeps_logNs); exact rfl
  (with_reducible apply keeps_purgeDisabled); exact rfl
  (with_reducible apply keeps_dropInvalid); exact rfl
  repeat first | with_reducible exact Keeps.refl _ _ | with_reducible assumption

theorem keeps_execFeRelockRetry (fe : Fin 2) (ok : Bool) (s : State) (t : State) (h : execFeRelockRetry fe ok s = .next t) : Keeps 0xFFFFFFFFEFFF s t := by
  unfold execFeRelockRetry at h
  injection h with h
  subst h
  try dsimp -zeta only
  ((try lift_lets); intro xL; clear_value xL)
  split
  (with_reducible apply keeps_updFe); exact rfl
  repeat first | with_reducible exact Keeps.refl _ _ | with_reducible assumption

end Sys2Proof.Laws
end

