-- ==== Sys2Proof/Laws/Frames/RadCmd.lean ====
section
/-!
SUPPORT. Frames of the operations of Machine/RadCmd.lean.
-/
set_option Elab.async false
namespace Sys2Proof.Laws
open Sys2Proof Sys2Proof.Machine

theorem keeps_actRadCalStatus (r : Req) (s : State) {mk : Nat} {s0 : State} (he : mk &&& 0xFFFFFFFFF9FF = mk) (hg : Keeps mk s0 s) :
    Keeps mk s0 (actRadCalStatus r s) := by
  refine Keeps.via ?_ he hg
  unfold actRadCalStatus
  try dsimp -zeta only
  (with_reducible apply keeps_ok); exact rfl
  repeat first | with_reducible exact Keeps.refl _ _ | with_reducible assumption

theorem keeps_actRadCalSweep (r : Req) (s : State) {mk : Nat} {s0 : State} (he : mk &&& 0xFDFFFDEC01F1 = mk) (hg : Keeps mk s0 s) :
    Keeps mk s0 (actRadCalSweep r s) := by
  refine Keeps.via ?_ he hg
  unfold actRadCalSweep
  try dsimp -zeta only
  ((try lift_lets); intro xL; clear_value xL)
  ((with_reducible apply keeps_admitReq); (intro _))
  ((try lift_lets); intro sL; with_reducible refine Keeps.cut sL ?_ ?_; rotate_left; (intro kL; clear_value sL); rotate_right; subst sL; try dsimp -zeta only)
  (with_reducible apply keeps_acceptN); exact rfl
  (with_reducible apply keeps_updFe); exact rfl
  repeat first | with_reducible exact Keeps.refl _ _ | with_reducible assumption
  (with_reducible apply keeps_settleMode); exact rfl
  (with_reducible apply keeps_purgeDisabled); exact rfl
  (with_reducible apply keeps_dropInvalid); exact rfl
  (with_reducible apply keeps_stopAll); exact rfl
  (with_reducible apply Keeps.set_bal); exact rfl
  repeat first | with_reducible exact Keeps.refl _ _ | with_reducible assumption
  exact (rfl : (_ : Nat) &&& _ = _)
  repeat first | with_reducible exact Keeps.refl _ _ | with_reducible assumption

theorem keeps_actRadStatus (r : Req) (s : State) {mk : Nat} {s0 : State} (he : mk &&& 0xFFFFFFFFF9FF = mk) (hg : Keeps mk s0 s) :
    Keeps mk s0 (actRadStatus r s) := by
  refine Keeps.via ?_ he hg
  unfold actRadStatus
  try dsimp -zeta only
  ((try lift_lets); intro xL; clear_value xL)
  (intro xL; clear_value xL)
  (intro xL; clear_value xL)
  (intro xL; clear_value xL)
  (intro xL; clear_value xL)
  (with_reducible apply keeps_ok); exact rfl
  repeat first | with_reducible exact Keeps.refl _ _ | with_reducible assumption

theorem keeps_actRadTxTest (r : Req) (s : State) {mk : Nat} {s0 : State} (he : mk &&& 0xFFFFFFFFE1FF = mk) (hg : Keeps mk s0 s) :
    Keeps mk s0 (actRadTxTest r s) := by
  refine Keeps.via ?_ he hg
  unfold actRadTxTest
  try dsimp -zeta only
  ((try lift_lets); intro xL; clear_value xL)
  (intro xL; clear_value xL)
  (intro xL; clear_value xL)
  (intro xL; clear_value xL)
  (intro xL; clear_value xL)
  split
  (with_reducible apply keeps_okN); exact rfl
  (with_reducible apply keeps_updCe); exact rfl
  repeat first | with_reducible exact Keeps.refl _ _ | with_reducible assumption
  split
  repeat first | with_reducible exact Keeps.refl _ _ | with_reducible assumption
  ((try lift_lets); intro xL; clear_value xL)
  (intro xL; clear_value xL)
  (intro sL; with_reducible refine Keeps.cut sL ?_ ?_; rotate_left; (intro kL; clear_value sL); rotate_right; subst sL; try dsimp -zeta only)
  (with_reducible apply keeps_updFe); exact rfl
  (with_reducible apply keeps_updCe); exact rfl
  repeat first | with_reducible exact Keeps.refl _ _ | with_reducible assumption
  (with_reducible apply keeps_logEv); exact rfl
  (with_reducible apply keeps_dropInvalid); exact rfl
  (with_reducible apply keeps_acceptN); exact rfl
  repeat first | with_reducible exact Keeps.refl _ _ | with_reducible assumption

theorem keeps_storePlan (p : Option BandPlan) (s : State) {mk : Nat} {s0 : State} (he : mk &&& 0xFFFFFFFFE7FF = mk) (hg : Keeps mk s0 s) :
    Keeps mk s0 (storePlan p s) := by
  refine Keeps.via ?_ he hg
  unfold storePlan
  try dsimp -zeta only
  ((try lift_lets); intro xL; clear_value xL)
  ((with_reducible apply Keeps.fold); (intro _ _))
  (with_reducible apply keeps_logNs); exact rfl
  repeat first | with_reducible exact Keeps.refl _ _ | with_reducible assumption
  (with_reducible apply Keeps.set_rad); exact rfl
  repeat first | with_reducible exact Keeps.refl _ _ | with_reducible assumption

theorem keeps_applyPlan (port : Nat) (p : Option BandPlan) (s : State) {mk : Nat} {s0 : State} (he : mk &&& 0xFDFFFFEC01F1 = mk) (hg : Keeps mk s0 s) :
    Keeps mk s0 (applyPlan port p s) := by
  refine Keeps.via ?_ he hg
  unfold applyPlan
  try dsimp -zeta only
  ((try lift_lets); intro sL; with_reducible refine Keeps.cut sL ?_ ?_; rotate_left; (intro kL; clear_value sL); rotate_right; subst sL; try dsimp -zeta only)
  (with_reducible apply keeps_storePlan); exact rfl
  repeat first | with_reducible exact Keeps.refl _ _ | with_reducible assumption
  (with_reducible apply keeps_enterAll); exact rfl
  (with_reducible apply keeps_purgeDisabled); exact rfl
  (with_reducible apply keeps_logNs); exact rfl
  repeat first | with_reducible exact Keeps.refl _ _ | with_reducible assumption

theorem keeps_applyRadBandPlan (r : Req) (s : State) {mk : Nat} {s0 : State} (he : mk &&& 0xFDFFFFEC01F1 = mk) (hg : Keeps mk s0 s) :
    Keeps mk s0 (applyRadBandPlan r s) := by
  refine Keeps.via ?_ he hg
  unfold applyRadBandPlan
  try dsimp -zeta only
  (with_reducible apply keeps_markStored); exact rfl
  (with_reducible apply keeps_applyPlan); exact rfl
  repeat first | with_reducible exact Keeps.refl _ _ | with_reducible assumption

theorem keeps_applyRadEngineConfig (r : Req) (s : State) {mk : Nat} {s0 : State} (he : mk &&& 0xFDFFFFEC01F1 = mk) (hg : Keeps mk s0 s) :
    Keeps mk s0 (applyRadEngineConfig r s) := by
  refine Keeps.via ?_ he hg
  unfold applyRadEngineConfig
  try dsimp -zeta only
  ((try lift_lets); intro xL; clear_value xL)
  (intro xL; clear_value xL)
  (with_reducible apply keeps_logEv); exact rfl
  (with_reducible apply keeps_markStored); exact rfl
  (with_reducible apply keeps_applyCe); exact rfl
  repeat first | with_reducible exact Keeps.refl _ _ | with_reducible assumption

theorem keeps_fixGain (k : Nat) (c : FeCfg) (s : State) {mk : Nat} {s0 : State} (he : mk &&& 0xFFFFFFFFEFFF = mk) (hg : Keeps mk s0 s) :
    Keeps mk s0 (fixGain k c s) := by
  refine Keeps.via ?_ he hg
  unfold fixGain
  try dsimp -zeta only
  split
  (with_reducible apply keeps_changeGain); exact rfl
  repeat first | with_reducible exact Keeps.refl _ _ | with_reducible assumption

theorem keeps_applyRadFeConfig (r : Req) (s : State) {mk : Nat} {s0 : State} (he : mk &&& 0xFFFFFFFFE3FF = mk) (hg : Keeps mk s0 s) :
    Keeps mk s0 (applyRadFeConfig r s) := by
  refine Keeps.via ?_ he hg
  unfold applyRadFeConfig
  try dsimp -zeta only
  ((try lift_lets); intro xL; clear_value xL)
  (intro xL; clear_value xL)
  (intro sL; with_reducible refine Keeps.cut sL ?_ ?_; rotate_left; (intro kL; clear_value sL); rotate_right; subst sL; try dsimp -zeta only)
  (with_reducible apply keeps_updFe); exact rfl
  repeat first | with_reducible exact Keeps.refl _ _ | with_reducible assumption
  (with_reducible apply keeps_logEv); exact rfl
  (with_reducible apply keeps_markStored); exact rfl
  (with_reducible apply keeps_fixGain); exact rfl
  repeat first | with_reducible exact Keeps.refl _ _ | with_reducible assumption

theorem keeps_execRadStatus (s : State) (t : State) (h : execRadStatus s = .next t) : Keeps 0xF7FFFFFFF9FF s t := by
  unfold execRadStatus at h
  injection h with h
  subst h
  try dsimp -zeta only
  ((with_reducible apply keeps_serve); (intro _ _))
  (with_reducible apply keeps_actRadStatus); exact rfl
  repeat first | with_reducible exact Keeps.refl _ _ | with_reducible assumption
  exact (rfl : (_ : Nat) &&& _ = _)
  repeat first | with_reducible exact Keeps.refl _ _ | with_reducible assumption

theorem keeps_execRadBandPlan (s : State) (t : State) (h : execRadBandPlan s = .next t) : Keeps 0xF7FFFFFFF1DF s t := by
  unfold execRadBandPlan at h
  injection h with h
  subst h
  try dsimp -zeta only
  ((with_reducible apply keeps_serve); (intro _ _))
  (with_reducible apply keeps_storeAtBoundary); exact rfl
  repeat first | with_reducible exact Keeps.refl _ _ | with_reducible assumption
  exact (rfl : (_ : Nat) &&& _ = _)
  repeat first | with_reducible exact Keeps.refl _ _ | with_reducible assumption

theorem keeps_execRadFeConfig (s : State) (t : State) (h : execRadFeConfig s = .next t) : Keeps 0xF7FFFFFFF1DF s t := by
  unfold execRadFeConfig at h
  injection h with h
  subst h
  try dsimp -zeta only
  ((with_reducible apply keeps_serve); (intro _ _))
  (with_reducible apply keeps_storeAtBoundary); exact rfl
  repeat first | with_reducible exact Keeps.refl _ _ | with_reducible assumption
  exact (rfl : (_ : Nat) &&& _ = _)
  repeat first | with_reducible exact Keeps.refl _ _ | with_reducible assumption

theorem keeps_execRadEngineConfig (s : State) (t : State) (h : execRadEngineConfig s = .next t) : Keeps 0xF7FFFFFFF1DF s t := by
  unfold execRadEngineConfig at h
  injection h with h
  subst h
  try dsimp -zeta only
  ((with_reducible apply keeps_serve); (intro _ _))
  (with_reducible apply keeps_storeAtBoundary); exact rfl
  repeat first | with_reducible exact Keeps.refl _ _ | with_reducible assumption
  exact (rfl : (_ : Nat) &&& _ = _)
  repeat first | with_reducible exact Keeps.refl _ _ | with_reducible assumption

theorem keeps_execRadCalStatus (s : State) (t : State) (h : execRadCalStatus s = .next t) : Keeps 0xF7FFFFFFF9FF s t := by
  unfold execRadCalStatus at h
  injection h with h
  subst h
  try dsimp -zeta only
  ((with_reducible apply keeps_serve); (intro _ _))
  (with_reducible apply keeps_actRadCalStatus); exact rfl
  repeat first | with_reducible exact Keeps.refl _ _ | with_reducible assumption
  exact (rfl : (_ : Nat) &&& _ = _)
  repeat first | with_reducible exact Keeps.refl _ _ | with_reducible assumption

theorem keeps_execRadCalSweep (s : State) (t : State) (h : execRadCalSweep s = .next t) : Keeps 0xF5FFFDEC01F1 s t := by
  unfold execRadCalSweep at h
  injection h with h
  subst h
  try dsimp -zeta only
  ((with_reducible apply keeps_serve); (intro _ _))
  (with_reducible apply keeps_actRadCalSweep); exact rfl
  repeat first | with_reducible exact Keeps.refl _ _ | with_reducible assumption
  exact (rfl : (_ : Nat) &&& _ = _)
  repeat first | with_reducible exact Keeps.refl _ _ | with_reducible assumption

theorem keeps_execRadTxTest (s : State) (t : State) (h : execRadTxTest s = .next t) : Keeps 0xF7FFFFFFE1FF s t := by
  unfold execRadTxTest at h
  injection h with h
  subst h
  try dsimp -zeta only
  ((with_reducible apply keeps_serve); (intro _ _))
  (with_reducible apply keeps_actRadTxTest); exact rfl
  repeat first | with_reducible exact Keeps.refl _ _ | with_reducible assumption
  exact (rfl : (_ : Nat) &&& _ = _)
  repeat first | with_reducible exact Keeps.refl _ _ | with_reducible assumption

theorem keeps_execCalSweepEnd (fe : Fin 2) (m : SweepMeas) (s : State) (t : State) (h : execCalSweepEnd fe m s = .next t) : Keeps 0xFFFFFDFFE1F3 s t := by
  unfold execCalSweepEnd at h
  injection h with h
  subst h
  try dsimp -zeta only
  ((try lift_lets); intro xL; clear_value xL)
  split
  repeat first | with_reducible exact Keeps.refl _ _ | with_reducible assumption
  ((try lift_lets); intro xL; clear_value xL)
  (intro xL; clear_value xL)
  (intro xL; clear_value xL)
  (intro sL; with_reducible refine Keeps.cut sL ?_ ?_; rotate_left; (intro kL; clear_value sL); rotate_right; subst sL; try dsimp -zeta only)
  (with_reducible apply keeps_updFe); exact rfl
  repeat first | with_reducible exact Keeps.refl _ _ | with_reducible assumption
  split
  repeat first | with_reducible exact Keeps.refl _ _ | with_reducible assumption
  (with_reducible apply keeps_complete); exact rfl
  (with_reducible apply keeps_enterAll); exact rfl
  (with_reducible apply keeps_settleMode); exact rfl
  (with_reducible apply keeps_logNs); exact rfl
  (with_reducible apply keeps_stopAct); exact rfl
  (with_reducible apply Keeps.set_bal); exact rfl
  repeat first | with_reducible exact Keeps.refl _ _ | with_reducible assumption

theorem keeps_execTxTestEnd (n : Nat) (m : TxMeas) (s : State) (t : State) (h : execTxTestEnd n m s = .next t) : Keeps 0xFFFFFFFFE1FF s t := by
  unfold execTxTestEnd at h
  injection h with h
  subst h
  try dsimp -zeta only
  split
  repeat first | with_reducible exact Keeps.refl _ _ | with_reducible assumption
  ((try lift_lets); intro xL; clear_value xL)
  (intro xL; clear_value xL)
  (intro sL; with_reducible refine Keeps.cut sL ?_ ?_; rotate_left; (intro kL; clear_value sL); rotate_right; subst sL; try dsimp -zeta only)
  (with_reducible apply keeps_endCarrier); exact rfl
  (with_reducible apply keeps_updCe); exact rfl
  repeat first | with_reducible exact Keeps.refl _ _ | with_reducible assumption
  split
  repeat first | with_reducible exact Keeps.refl _ _ | with_reducible assumption
  (with_reducible apply keeps_complete); exact rfl
  (with_reducible apply keeps_logNs); exact rfl
  split
  (with_reducible apply Keeps.set_rad); exact rfl
  repeat first | with_reducible exact Keeps.refl _ _ | with_reducible assumption
  (with_reducible apply Keeps.set_rad); exact rfl
  (with_reducible apply keeps_measureCarrier); exact rfl
  repeat first | with_reducible exact Keeps.refl _ _ | with_reducible assumption

end Sys2Proof.Laws
end

