-- ==== Sys2Proof/Laws/Frames/Io.lean ====
section
/-!
SUPPORT. Frames of the operations of Machine/Io.lean.
-/
set_option Elab.async false
namespace Sys2Proof.Laws
open Sys2Proof Sys2Proof.Machine

theorem keeps_onCan (p : Nat) (f : CanPort → CanPort) (s : State) {mk : Nat} {s0 : State} (he : mk &&& 0xFFFFFFDFFFFF = mk) (hg : Keeps mk s0 s) :
    Keeps mk s0 (onCan p f s) := by
  refine Keeps.via ?_ he hg
  unfold onCan
  try dsimp -zeta only
  (with_reducible apply Keeps.set_can); exact rfl
  repeat first | with_reducible exact Keeps.refl _ _ | with_reducible assumption

theorem keeps_placeNtf (h : HeldNtf) (s : State) {mk : Nat} {s0 : State} (he : mk &&& 0xFFFFFFFFF5FF = mk) (hg : Keeps mk s0 s) :
    Keeps mk s0 (placeNtf h s).1 := by
  refine Keeps.via ?_ he hg
  unfold placeNtf
  try dsimp -zeta only
  ((with_reducible apply Keeps.foldFst); (intro _ _))
  ((try lift_lets); intro sL; with_reducible refine Keeps.cut sL ?_ ?_; rotate_left; (intro kL; clear_value sL); rotate_right; subst sL; try dsimp -zeta only)
  (with_reducible apply keeps_notifyAt); exact rfl
  repeat first | with_reducible exact Keeps.refl _ _ | with_reducible assumption
  split
  repeat first | with_reducible exact Keeps.refl _ _ | with_reducible assumption

theorem keeps_placeNtf_eq {h : HeldNtf} {s : State} {mk : Nat} {s0 sq : State} {w} (hq : placeNtf h s = (sq, w)) (he : mk &&& 0xFFFFFFFFF5FF = mk) (hg : Keeps mk s0 s) :
    Keeps mk s0 sq := by
  have := keeps_placeNtf (mk := mk) (s0 := s0) h s he hg
  rw [hq] at this
  exact this

theorem keeps_onBuf (p : Nat) (b : Nat) (f : CanBuf → CanBuf) (s : State) {mk : Nat} {s0 : State} (he : mk &&& 0xFFFFFFDFFFFF = mk) (hg : Keeps mk s0 s) :
    Keeps mk s0 (onBuf p b f s) := by
  refine Keeps.via ?_ he hg
  unfold onBuf
  try dsimp -zeta only
  (with_reducible apply keeps_onCan); exact rfl
  repeat first | with_reducible exact Keeps.refl _ _ | with_reducible assumption

theorem keeps_sendNtf (h : HeldNtf) (s : State) {mk : Nat} {s0 : State} (he : mk &&& 0xFFFFFFDFF5FF = mk) (hg : Keeps mk s0 s) :
    Keeps mk s0 (sendNtf h s) := by
  refine Keeps.via ?_ he hg
  unfold sendNtf
  try dsimp -zeta only
  split
  (with_reducible apply keeps_onBuf); exact rfl
  (with_reducible apply keeps_placeNtf); exact rfl
  repeat first | with_reducible exact Keeps.refl _ _ | with_reducible assumption
  (with_reducible apply keeps_placeNtf); exact rfl
  repeat first | with_reducible exact Keeps.refl _ _ | with_reducible assumption

theorem keeps_ntfOrHold (h : HeldNtf) (s : State) {mk : Nat} {s0 : State} (he : mk &&& 0xFFFFFFCFF5FF = mk) (hg : Keeps mk s0 s) :
    Keeps mk s0 (ntfOrHold h s) := by
  refine Keeps.via ?_ he hg
  unfold ntfOrHold
  try dsimp -zeta only
  ((try lift_lets); intro xL; clear_value xL)
  split
  (with_reducible apply Keeps.set_io); exact rfl
  repeat first | with_reducible exact Keeps.refl _ _ | with_reducible assumption
  (with_reducible apply keeps_sendNtf); exact rfl
  repeat first | with_reducible exact Keeps.refl _ _ | with_reducible assumption

theorem keeps_actIoDinRead (r : Req) (s : State) {mk : Nat} {s0 : State} (he : mk &&& 0xFFFFFFFFF9FF = mk) (hg : Keeps mk s0 s) :
    Keeps mk s0 (actIoDinRead r s) := by
  refine Keeps.via ?_ he hg
  unfold actIoDinRead
  try dsimp -zeta only
  ((try lift_lets); intro xL; subst xL; try dsimp -zeta only)
  (with_reducible apply keeps_ok); exact rfl
  repeat first | with_reducible exact Keeps.refl _ _ | with_reducible assumption

theorem keeps_actIoStatus (r : Req) (s : State) {mk : Nat} {s0 : State} (he : mk &&& 0xFFFFFFFFF9FF = mk) (hg : Keeps mk s0 s) :
    Keeps mk s0 (actIoStatus r s) := by
  refine Keeps.via ?_ he hg
  unfold actIoStatus
  try dsimp -zeta only
  (with_reducible apply keeps_ok); exact rfl
  repeat first | with_reducible exact Keeps.refl _ _ | with_reducible assumption

theorem keeps_onDout (k : Nat) (f : Dout → Dout) (s : State) {mk : Nat} {s0 : State} (he : mk &&& 0xFFFFFFEFFFFF = mk) (hg : Keeps mk s0 s) :
    Keeps mk s0 (onDout k f s) := by
  refine Keeps.via ?_ he hg
  unfold onDout
  try dsimp -zeta only
  ((try lift_lets); intro xL; clear_value xL)
  (with_reducible apply Keeps.set_io); exact rfl
  repeat first | with_reducible exact Keeps.refl _ _ | with_reducible assumption

theorem keeps_applyDout (mask : Nat) (value : Nat) (target : Nat) (s : State) {mk : Nat} {s0 : State} (he : mk &&& 0xFFFFFFEFF7FF = mk) (hg : Keeps mk s0 s) :
    Keeps mk s0 (applyDout mask value target s) := by
  refine Keeps.via ?_ he hg
  unfold applyDout
  try dsimp -zeta only
  ((with_reducible apply Keeps.fold); (intro _ _))
  ((try lift_lets); intro xL; clear_value xL)
  split
  repeat first | with_reducible exact Keeps.refl _ _ | with_reducible assumption
  split
  (with_reducible apply keeps_logEv); exact rfl
  repeat first | with_reducible exact Keeps.refl _ _ | with_reducible assumption
  (with_reducible apply keeps_onDout); exact rfl
  repeat first | with_reducible exact Keeps.refl _ _ | with_reducible assumption

theorem keeps_onDin (k : Nat) (f : Din → Din) (s : State) {mk : Nat} {s0 : State} (he : mk &&& 0xFFFFFFEFFFFF = mk) (hg : Keeps mk s0 s) :
    Keeps mk s0 (onDin k f s) := by
  refine Keeps.via ?_ he hg
  unfold onDin
  try dsimp -zeta only
  ((try lift_lets); intro xL; clear_value xL)
  (with_reducible apply Keeps.set_io); exact rfl
  repeat first | with_reducible exact Keeps.refl _ _ | with_reducible assumption

theorem keeps_applyIoDinConfig (r : Req) (s : State) {mk : Nat} {s0 : State} (he : mk &&& 0xFFFFFFEFF3FF = mk) (hg : Keeps mk s0 s) :
    Keeps mk s0 (applyIoDinConfig r s) := by
  refine Keeps.via ?_ he hg
  unfold applyIoDinConfig
  try dsimp -zeta only
  ((try lift_lets); intro xL; clear_value xL)
  (intro xL; clear_value xL)
  (intro xL; clear_value xL)
  (intro xL; clear_value xL)
  (intro sL; with_reducible refine Keeps.cut sL ?_ ?_; rotate_left; (intro kL; clear_value sL); rotate_right; subst sL; try dsimp -zeta only)
  (with_reducible apply keeps_onDin); exact rfl
  repeat first | with_reducible exact Keeps.refl _ _ | with_reducible assumption
  (with_reducible apply keeps_logEv); exact rfl
  (with_reducible apply keeps_markStored); exact rfl
  repeat first | with_reducible exact Keeps.refl _ _ | with_reducible assumption

theorem keeps_applyIoDoutConfig (r : Req) (s : State) {mk : Nat} {s0 : State} (he : mk &&& 0xFFFFFFEFF3FF = mk) (hg : Keeps mk s0 s) :
    Keeps mk s0 (applyIoDoutConfig r s) := by
  refine Keeps.via ?_ he hg
  unfold applyIoDoutConfig
  try dsimp -zeta only
  ((try lift_lets); intro xL; clear_value xL)
  (intro xL; clear_value xL)
  (intro sL; with_reducible refine Keeps.cut sL ?_ ?_; rotate_left; (intro kL; clear_value sL); rotate_right; subst sL; try dsimp -zeta only)
  (with_reducible apply keeps_onDout); exact rfl
  repeat first | with_reducible exact Keeps.refl _ _ | with_reducible assumption
  (with_reducible apply keeps_logEv); exact rfl
  (with_reducible apply keeps_markStored); exact rfl
  repeat first | with_reducible exact Keeps.refl _ _ | with_reducible assumption

theorem keeps_postDout {id : Nat} {mask : Nat} {dur : Nat} {at_ : Nat} {own : Bool} {s : State} {mk : Nat} {s0 sq : State} (hq : postDout id mask dur at_ own s = some sq) (he : mk &&& 0xFFFFFFFFFFDF = mk) (hg : Keeps mk s0 s) :
    Keeps mk s0 sq := by
  refine Keeps.via ?_ he hg
  revert hq
  unfold postDout
  try dsimp only
  repeat' split
  all_goals intro hq
  all_goals cases hq
  (with_reducible apply keeps_tlPut); exact rfl
  repeat first | with_reducible exact Keeps.refl _ _ | with_reducible assumption
  ((with_reducible apply Keeps.fold); (intro _ _))
  split
  (with_reducible apply keeps_tlPut); exact rfl
  repeat first | with_reducible exact Keeps.refl _ _ | with_reducible assumption
  (with_reducible apply keeps_tlPut); exact rfl
  repeat first | with_reducible exact Keeps.refl _ _ | with_reducible assumption
  ((with_reducible apply Keeps.fold); (intro _ _))
  split
  (with_reducible apply keeps_tlPut); exact rfl
  repeat first | with_reducible exact Keeps.refl _ _ | with_reducible assumption

theorem keeps_settleReturns (id : Nat) (back : Nat) (s : State) {mk : Nat} {s0 : State} (he : mk &&& 0xFFFFFFFFFFDF = mk) (hg : Keeps mk s0 s) :
    Keeps mk s0 (settleReturns id back s) := by
  refine Keeps.via ?_ he hg
  unfold settleReturns
  try dsimp -zeta only
  ((try lift_lets); intro xL; clear_value xL)
  (with_reducible apply Keeps.set_tl); exact rfl
  repeat first | with_reducible exact Keeps.refl _ _ | with_reducible assumption

theorem keeps_fireDout (id : Nat) (s : State) {mk : Nat} {s0 : State} (he : mk &&& 0xFFFFFFEFF7DF = mk) (hg : Keeps mk s0 s) :
    Keeps mk s0 (fireDout id s) := by
  refine Keeps.via ?_ he hg
  unfold fireDout
  try dsimp -zeta only
  ((try lift_lets); intro xL; clear_value xL)
  split
  repeat first | with_reducible exact Keeps.refl _ _ | with_reducible assumption
  ((try lift_lets); intro sL; with_reducible refine Keeps.cut sL ?_ ?_; rotate_left; (intro kL; clear_value sL); rotate_right; subst sL; try dsimp -zeta only)
  (with_reducible apply keeps_applyDout); exact rfl
  repeat first | with_reducible exact Keeps.refl _ _ | with_reducible assumption
  split
  split
  (with_reducible apply Keeps.set_io); exact rfl
  (with_reducible apply keeps_settleReturns); exact rfl
  repeat first | with_reducible exact Keeps.refl _ _ | with_reducible assumption
  (with_reducible apply Keeps.set_io); exact rfl
  (with_reducible apply keeps_settleReturns); exact rfl
  repeat first | with_reducible exact Keeps.refl _ _ | with_reducible assumption
  split
  (with_reducible apply Keeps.set_io); exact rfl
  (with_reducible apply keeps_settleReturns); exact rfl
  repeat first | with_reducible exact Keeps.refl _ _ | with_reducible assumption
  (with_reducible apply Keeps.set_io); exact rfl
  (with_reducible apply keeps_settleReturns); exact rfl
  repeat first | with_reducible exact Keeps.refl _ _ | with_reducible assumption

theorem keeps_applyIoDoutSet (r : Req) (s : State) {mk : Nat} {s0 : State} (he : mk &&& 0xFFFFFFEFF1DF = mk) (hg : Keeps mk s0 s) :
    Keeps mk s0 (applyIoDoutSet r s) := by
  refine Keeps.via ?_ he hg
  unfold applyIoDoutSet
  try dsimp -zeta only
  ((try lift_lets); intro xL; clear_value xL)
  (intro xL; clear_value xL)
  (intro xL; clear_value xL)
  (intro xL; clear_value xL)
  split
  (with_reducible apply keeps_failReq); exact rfl
  (with_reducible apply keeps_tlFull); exact rfl
  repeat first | with_reducible exact Keeps.refl _ _ | with_reducible assumption
  ((try lift_lets); intro xL; clear_value xL)
  (intro sL; with_reducible refine Keeps.cut sL ?_ ?_; rotate_left; (intro kL; clear_value sL); rotate_right; subst sL; try dsimp -zeta only)
  (with_reducible apply Keeps.set_io); exact rfl
  ((with_reducible apply keeps_postDout); (with_reducible assumption); exact rfl)
  repeat first | with_reducible exact Keeps.refl _ _ | with_reducible assumption
  (with_reducible apply keeps_ok); exact rfl
  split
  repeat first | with_reducible exact Keeps.refl _ _ | with_reducible assumption
  (with_reducible apply keeps_fireDout); exact rfl
  repeat first | with_reducible exact Keeps.refl _ _ | with_reducible assumption

theorem keeps_ioWithdraw (s : State) {mk : Nat} {s0 : State} (he : mk &&& 0xFFFFFFEFF7FF = mk) (hg : Keeps mk s0 s) :
    Keeps mk s0 (ioWithdraw s) := by
  refine Keeps.via ?_ he hg
  unfold ioWithdraw
  try dsimp -zeta only
  (with_reducible apply keeps_applySafe); exact rfl
  repeat first | with_reducible exact Keeps.refl _ _ | with_reducible assumption

theorem keeps_deliverHeld (s : State) {mk : Nat} {s0 : State} (he : mk &&& 0xFFFFFFCFF5FF = mk) (hg : Keeps mk s0 s) :
    Keeps mk s0 (deliverHeld s) := by
  refine Keeps.via ?_ he hg
  unfold deliverHeld
  try dsimp -zeta only
  ((try lift_lets); intro xL; clear_value xL)
  ((with_reducible apply Keeps.fold); (intro _ _))
  (with_reducible apply keeps_sendNtf); exact rfl
  repeat first | with_reducible exact Keeps.refl _ _ | with_reducible assumption
  (with_reducible apply Keeps.set_io); exact rfl
  repeat first | with_reducible exact Keeps.refl _ _ | with_reducible assumption

theorem keeps_dinEdge (k : Nat) (s : State) {mk : Nat} {s0 : State} (he : mk &&& 0xFFFFFFCFF5FF = mk) (hg : Keeps mk s0 s) :
    Keeps mk s0 (dinEdge k s) := by
  refine Keeps.via ?_ he hg
  unfold dinEdge
  try dsimp -zeta only
  ((try lift_lets); intro xL; clear_value xL)
  (intro sL; with_reducible refine Keeps.cut sL ?_ ?_; rotate_left; (intro kL; clear_value sL); rotate_right; subst sL; try dsimp -zeta only)
  (with_reducible apply keeps_logEv); exact rfl
  (with_reducible apply keeps_onDin); exact rfl
  repeat first | with_reducible exact Keeps.refl _ _ | with_reducible assumption
  split
  (with_reducible apply keeps_ntfOrHold); exact rfl
  repeat first | with_reducible exact Keeps.refl _ _ | with_reducible assumption

theorem keeps_ioBootEnd (s : State) {mk : Nat} {s0 : State} (he : mk &&& 0xFFFFFFEFF7FF = mk) (hg : Keeps mk s0 s) :
    Keeps mk s0 (ioBootEnd s) := by
  refine Keeps.via ?_ he hg
  unfold ioBootEnd
  try dsimp -zeta only
  (with_reducible apply keeps_applySafe); exact rfl
  repeat first | with_reducible exact Keeps.refl _ _ | with_reducible assumption

theorem keeps_sampleDin (levels : Nat) (trans : Nat) (s : State) (k : Nat) {mk : Nat} {s0 : State} (he : mk &&& 0xFFFFFFCFF5FF = mk) (hg : Keeps mk s0 s) :
    Keeps mk s0 (sampleDin levels trans s k) := by
  refine Keeps.via ?_ he hg
  unfold sampleDin
  try dsimp -zeta only
  ((try lift_lets); intro xL; clear_value xL)
  (intro xL; clear_value xL)
  (intro xL; clear_value xL)
  (intro sL; with_reducible refine Keeps.cut sL ?_ ?_; rotate_left; (intro kL; clear_value sL); rotate_right; subst sL; try dsimp -zeta only)
  (with_reducible apply keeps_onDin); exact rfl
  repeat first | with_reducible exact Keeps.refl _ _ | with_reducible assumption
  split
  repeat first | with_reducible exact Keeps.refl _ _ | with_reducible assumption
  split
  split
  (with_reducible apply keeps_dinEdge); exact rfl
  repeat first | with_reducible exact Keeps.refl _ _ | with_reducible assumption
  (with_reducible apply keeps_onDin); exact rfl
  repeat first | with_reducible exact Keeps.refl _ _ | with_reducible assumption

theorem keeps_execDinSample (levels : Nat) (trans : Nat) (s : State) (t : State) (h : execDinSample levels trans s = .next t) : Keeps 0xFFFFFFCFF5FF s t := by
  unfold execDinSample at h
  injection h with h
  subst h
  try dsimp -zeta only
  ((try lift_lets); intro xL; clear_value xL)
  split
  split
  repeat first | with_reducible exact Keeps.refl _ _ | with_reducible assumption
  ((with_reducible apply Keeps.fold); (intro _ _))
  (with_reducible apply keeps_sampleDin); exact rfl
  repeat first | with_reducible exact Keeps.refl _ _ | with_reducible assumption
  split
  (with_reducible apply Keeps.set_io); exact rfl
  repeat first | with_reducible exact Keeps.refl _ _ | with_reducible assumption
  (with_reducible apply Keeps.set_io); exact rfl
  repeat first | with_reducible exact Keeps.refl _ _ | with_reducible assumption
  split
  repeat first | with_reducible exact Keeps.refl _ _ | with_reducible assumption
  ((with_reducible apply Keeps.fold); (intro _ _))
  (with_reducible apply keeps_sampleDin); exact rfl
  repeat first | with_reducible exact Keeps.refl _ _ | with_reducible assumption
  split
  (with_reducible apply Keeps.set_io); exact rfl
  repeat first | with_reducible exact Keeps.refl _ _ | with_reducible assumption
  (with_reducible apply Keeps.set_io); exact rfl
  repeat first | with_reducible exact Keeps.refl _ _ | with_reducible assumption

theorem keeps_execEvDinStuck (k : Nat) (s : State) (t : State) (h : execEvDinStuck k s = .next t) : Keeps 0xFFFFFFEFF7FF s t := by
  unfold execEvDinStuck at h
  injection h with h
  subst h
  try dsimp -zeta only
  ((try lift_lets); intro xL; clear_value xL)
  split
  (with_reducible apply keeps_logNs); exact rfl
  (with_reducible apply keeps_onDin); exact rfl
  repeat first | with_reducible exact Keeps.refl _ _ | with_reducible assumption

theorem keeps_execChatterWindowEnd (k : Nat) (s : State) (t : State) (h : execChatterWindowEnd k s = .next t) : Keeps 0xFFFFFFEFF7FF s t := by
  unfold execChatterWindowEnd at h
  injection h with h
  subst h
  try dsimp -zeta only
  ((try lift_lets); intro xL; clear_value xL)
  (intro xL; clear_value xL)
  (intro xL; clear_value xL)
  (intro sL; with_reducible refine Keeps.cut sL ?_ ?_; rotate_left; (intro kL; clear_value sL); rotate_right; subst sL; try dsimp -zeta only)
  (with_reducible apply keeps_onDin); exact rfl
  repeat first | with_reducible exact Keeps.refl _ _ | with_reducible assumption
  split
  split
  (with_reducible apply keeps_logNs); exact rfl
  repeat first | with_reducible exact Keeps.refl _ _ | with_reducible assumption

theorem keeps_execEvDoutFault (k : Nat) (thermal : Bool) (s : State) (t : State) (h : execEvDoutFault k thermal s = .next t) : Keeps 0xFFFFFFEFF7FF s t := by
  unfold execEvDoutFault at h
  injection h with h
  subst h
  try dsimp -zeta only
  split
  (with_reducible apply keeps_logEv); exact rfl
  (with_reducible apply keeps_onDout); exact rfl
  repeat first | with_reducible exact Keeps.refl _ _ | with_reducible assumption

theorem keeps_execDoutApply (s : State) (t : State) (h : execDoutApply s = .next t) : Keeps 0xFFFFFFEFF7DF s t := by
  unfold execDoutApply at h
  injection h with h
  subst h
  refine keeps_tlFire _ _ ?_ rfl (Keeps.refl _ _)
  intro k e g hf s
  try dsimp only at hf
  split at hf <;> first | injection hf with hf; subst hf | cases hf
  exact keeps_fireDout _ _ rfl (Keeps.refl _ _)

theorem keeps_execDoutReturn (s : State) (t : State) (h : execDoutReturn s = .next t) : Keeps 0xFFFFFFEFF7DF s t := by
  unfold execDoutReturn at h
  injection h with h
  subst h
  try dsimp -zeta only
  ((with_reducible apply keeps_tlFire); (intro k e g hfg s; dsimp only at hfg; split at hfg <;> cases hfg <;> try dsimp -zeta only))
  split
  repeat first | with_reducible exact Keeps.refl _ _ | with_reducible assumption
  split
  (with_reducible apply Keeps.set_io); exact rfl
  (with_reducible apply keeps_applyDout); exact rfl
  repeat first | with_reducible exact Keeps.refl _ _ | with_reducible assumption
  (with_reducible apply Keeps.set_io); exact rfl
  (with_reducible apply keeps_applyDout); exact rfl
  repeat first | with_reducible exact Keeps.refl _ _ | with_reducible assumption
  exact (rfl : (_ : Nat) &&& _ = _)
  repeat first | with_reducible exact Keeps.refl _ _ | with_reducible assumption

theorem keeps_execIoDinConfig (s : State) (t : State) (h : execIoDinConfig s = .next t) : Keeps 0xF7FFFFFFF1DF s t := by
  unfold execIoDinConfig at h
  injection h with h
  subst h
  try dsimp -zeta only
  ((with_reducible apply keeps_serve); (intro _ _))
  (with_reducible apply keeps_storeAtBoundary); exact rfl
  repeat first | with_reducible exact Keeps.refl _ _ | with_reducible assumption
  exact (rfl : (_ : Nat) &&& _ = _)
  repeat first | with_reducible exact Keeps.refl _ _ | with_reducible assumption

theorem keeps_execIoDinRead (s : State) (t : State) (h : execIoDinRead s = .next t) : Keeps 0xF7FFFFFFF9FF s t := by
  unfold execIoDinRead at h
  injection h with h
  subst h
  try dsimp -zeta only
  ((with_reducible apply keeps_serve); (intro _ _))
  (with_reducible apply keeps_actIoDinRead); exact rfl
  repeat first | with_reducible exact Keeps.refl _ _ | with_reducible assumption
  exact (rfl : (_ : Nat) &&& _ = _)
  repeat first | with_reducible exact Keeps.refl _ _ | with_reducible assumption

theorem keeps_execIoDoutSet (s : State) (t : State) (h : execIoDoutSet s = .next t) : Keeps 0xF7FFFFEFF1DF s t := by
  unfold execIoDoutSet at h
  injection h with h
  subst h
  try dsimp -zeta only
  ((with_reducible apply keeps_serve); (intro _ _))
  (with_reducible apply keeps_applyIoDoutSet); exact rfl
  repeat first | with_reducible exact Keeps.refl _ _ | with_reducible assumption
  exact (rfl : (_ : Nat) &&& _ = _)
  repeat first | with_reducible exact Keeps.refl _ _ | with_reducible assumption

theorem keeps_execIoDoutConfig (s : State) (t : State) (h : execIoDoutConfig s = .next t) : Keeps 0xF7FFFFFFF1DF s t := by
  unfold execIoDoutConfig at h
  injection h with h
  subst h
  try dsimp -zeta only
  ((with_reducible apply keeps_serve); (intro _ _))
  (with_reducible apply keeps_storeAtBoundary); exact rfl
  repeat first | with_reducible exact Keeps.refl _ _ | with_reducible assumption
  exact (rfl : (_ : Nat) &&& _ = _)
  repeat first | with_reducible exact Keeps.refl _ _ | with_reducible assumption

theorem keeps_execIoStatus (s : State) (t : State) (h : execIoStatus s = .next t) : Keeps 0xF7FFFFFFF9FF s t := by
  unfold execIoStatus at h
  injection h with h
  subst h
  try dsimp -zeta only
  ((with_reducible apply keeps_serve); (intro _ _))
  (with_reducible apply keeps_actIoStatus); exact rfl
  repeat first | with_reducible exact Keeps.refl _ _ | with_reducible assumption
  exact (rfl : (_ : Nat) &&& _ = _)
  repeat first | with_reducible exact Keeps.refl _ _ | with_reducible assumption

end Sys2Proof.Laws
end

