-- ==== Sys2Proof/Laws/Frames/Can.lean ====
section
/-!
SUPPORT. Frames of the operations of Machine/Can.lean.
-/
set_option Elab.async false
namespace Sys2Proof.Laws
open Sys2Proof Sys2Proof.Machine

theorem keeps_canNtf (p : Nat) (code : Nat) (payload : List Word) (s : State) {mk : Nat} {s0 : State} (he : mk &&& 0xFFFFFFCFF5FF = mk) (hg : Keeps mk s0 s) :
    Keeps mk s0 (canNtf p code payload s) := by
  refine Keeps.via ?_ he hg
  unfold canNtf
  try dsimp -zeta only
  (with_reducible apply keeps_ntfOrHold); exact rfl
  repeat first | with_reducible exact Keeps.refl _ _ | with_reducible assumption

theorem keeps_ackError (p : Nat) (s : State) {mk : Nat} {s0 : State} (he : mk &&& 0xFFFFFFCFF5FF = mk) (hg : Keeps mk s0 s) :
    Keeps mk s0 (ackError p s) := by
  refine Keeps.via ?_ he hg
  unfold ackError
  try dsimp -zeta only
  ((try lift_lets); intro sL; with_reducible refine Keeps.cut sL ?_ ?_; rotate_left; (intro kL; clear_value sL); rotate_right; subst sL; try dsimp -zeta only)
  (with_reducible apply keeps_onCan); exact rfl
  repeat first | with_reducible exact Keeps.refl _ _ | with_reducible assumption
  split
  (with_reducible apply keeps_canNtf); exact rfl
  (with_reducible apply keeps_logNs); exact rfl
  (with_reducible apply keeps_onCan); exact rfl
  repeat first | with_reducible exact Keeps.refl _ _ | with_reducible assumption

theorem keeps_actCanBufferConfig (r : Req) (s : State) {mk : Nat} {s0 : State} (he : mk &&& 0xFFFFFFFFF1DF = mk) (hg : Keeps mk s0 s) :
    Keeps mk s0 (actCanBufferConfig r s) := by
  refine Keeps.via ?_ he hg
  unfold actCanBufferConfig
  try dsimp -zeta only
  (with_reducible apply keeps_storeAtBoundary); exact rfl
  repeat first | with_reducible exact Keeps.refl _ _ | with_reducible assumption

theorem keeps_endFrame (p : Nat) (b : Nat) (status : Nat) (sof : Option Nat) (s : State) {mk : Nat} {s0 : State} (he : mk &&& 0xFFFFFFDFF9FF = mk) (hg : Keeps mk s0 s) :
    Keeps mk s0 (endFrame p b status sof s) := by
  refine Keeps.via ?_ he hg
  unfold endFrame
  try dsimp -zeta only
  split
  repeat first | with_reducible exact Keeps.refl _ _ | with_reducible assumption
  ((try lift_lets); intro sL; with_reducible refine Keeps.cut sL ?_ ?_; rotate_left; (intro kL; clear_value sL); rotate_right; subst sL; try dsimp -zeta only)
  (with_reducible apply keeps_complete); exact rfl
  (with_reducible apply keeps_onBuf); exact rfl
  repeat first | with_reducible exact Keeps.refl _ _ | with_reducible assumption
  ((with_reducible apply Keeps.fold); (intro _ _))
  (with_reducible apply keeps_ok); exact rfl
  repeat first | with_reducible exact Keeps.refl _ _ | with_reducible assumption

theorem keeps_actCanCancel (started : Bool) (r : Req) (s : State) {mk : Nat} {s0 : State} (he : mk &&& 0xFFFFFFDFF9FF = mk) (hg : Keeps mk s0 s) :
    Keeps mk s0 (actCanCancel started r s) := by
  refine Keeps.via ?_ he hg
  unfold actCanCancel
  try dsimp -zeta only
  ((try lift_lets); intro sL; with_reducible refine Keeps.cut sL ?_ ?_; rotate_left; (intro kL; clear_value sL); rotate_right; subst sL; try dsimp -zeta only)
  (with_reducible apply keeps_onBuf); exact rfl
  repeat first | with_reducible exact Keeps.refl _ _ | with_reducible assumption
  split
  repeat first | with_reducible exact Keeps.refl _ _ | with_reducible assumption
  (with_reducible apply keeps_endFrame); exact rfl
  repeat first | with_reducible exact Keeps.refl _ _ | with_reducible assumption

theorem keeps_actCanConfig (r : Req) (s : State) {mk : Nat} {s0 : State} (he : mk &&& 0xFFFFFFFFF1DF = mk) (hg : Keeps mk s0 s) :
    Keeps mk s0 (actCanConfig r s) := by
  refine Keeps.via ?_ he hg
  unfold actCanConfig
  try dsimp -zeta only
  (with_reducible apply keeps_storeAtBoundary); exact rfl
  repeat first | with_reducible exact Keeps.refl _ _ | with_reducible assumption

theorem keeps_actCanRead (r : Req) (s : State) {mk : Nat} {s0 : State} (he : mk &&& 0xFFFFFFDFF9FF = mk) (hg : Keeps mk s0 s) :
    Keeps mk s0 (actCanRead r s) := by
  refine Keeps.via ?_ he hg
  unfold actCanRead
  try dsimp -zeta only
  ((try lift_lets); intro xL; clear_value xL)
  (intro xL; clear_value xL)
  split
  repeat first | with_reducible exact Keeps.refl _ _ | with_reducible assumption
  (with_reducible apply keeps_respondMsg); exact rfl
  (with_reducible apply keeps_onBuf); exact rfl
  repeat first | with_reducible exact Keeps.refl _ _ | with_reducible assumption

theorem keeps_actCanRecover (r : Req) (s : State) {mk : Nat} {s0 : State} (he : mk &&& 0xFFFFFFDFF9FF = mk) (hg : Keeps mk s0 s) :
    Keeps mk s0 (actCanRecover r s) := by
  refine Keeps.via ?_ he hg
  unfold actCanRecover
  try dsimp -zeta only
  (with_reducible apply keeps_ok); exact rfl
  (with_reducible apply keeps_onCan); exact rfl
  repeat first | with_reducible exact Keeps.refl _ _ | with_reducible assumption

theorem keeps_actCanSend (r : Req) (s : State) {mk : Nat} {s0 : State} (he : mk &&& 0xFFFFFFDFFDFF = mk) (hg : Keeps mk s0 s) :
    Keeps mk s0 (actCanSend r s) := by
  refine Keeps.via ?_ he hg
  unfold actCanSend
  try dsimp -zeta only
  ((try lift_lets); intro xL; clear_value xL)
  (with_reducible apply keeps_acceptN); exact rfl
  (with_reducible apply keeps_onBuf); exact rfl
  repeat first | with_reducible exact Keeps.refl _ _ | with_reducible assumption

theorem keeps_actCanStatus (r : Req) (s : State) {mk : Nat} {s0 : State} (he : mk &&& 0xFFFFFFFFF9FF = mk) (hg : Keeps mk s0 s) :
    Keeps mk s0 (actCanStatus r s) := by
  refine Keeps.via ?_ he hg
  unfold actCanStatus
  try dsimp -zeta only
  ((try lift_lets); intro xL; clear_value xL)
  (intro xL; clear_value xL)
  (with_reducible apply keeps_ok); exact rfl
  repeat first | with_reducible exact Keeps.refl _ _ | with_reducible assumption

theorem keeps_applyCanBufferConfig (r : Req) (s : State) {mk : Nat} {s0 : State} (he : mk &&& 0xFFFFFFDFF1FF = mk) (hg : Keeps mk s0 s) :
    Keeps mk s0 (applyCanBufferConfig r s) := by
  refine Keeps.via ?_ he hg
  unfold applyCanBufferConfig
  try dsimp -zeta only
  ((try lift_lets); intro xL; clear_value xL)
  (intro xL; clear_value xL)
  (intro xL; clear_value xL)
  (intro sL; with_reducible refine Keeps.cut sL ?_ ?_; rotate_left; (intro kL; clear_value sL); rotate_right; subst sL; try dsimp -zeta only)
  (with_reducible apply keeps_endFrame); exact rfl
  repeat first | with_reducible exact Keeps.refl _ _ | with_reducible assumption
  (with_reducible apply keeps_logEv); exact rfl
  (with_reducible apply keeps_markStored); exact rfl
  (with_reducible apply keeps_onBuf); exact rfl
  repeat first | with_reducible exact Keeps.refl _ _ | with_reducible assumption

theorem keeps_endAllFrames (p : Nat) (status : Nat) (s : State) {mk : Nat} {s0 : State} (he : mk &&& 0xFFFFFFDFF9FF = mk) (hg : Keeps mk s0 s) :
    Keeps mk s0 (endAllFrames p status s) := by
  refine Keeps.via ?_ he hg
  unfold endAllFrames
  try dsimp -zeta only
  ((with_reducible apply Keeps.fold); (intro _ _))
  (with_reducible apply keeps_endFrame); exact rfl
  repeat first | with_reducible exact Keeps.refl _ _ | with_reducible assumption

theorem keeps_applyCanConfig (r : Req) (s : State) {mk : Nat} {s0 : State} (he : mk &&& 0xFFFFFFDFF1FF = mk) (hg : Keeps mk s0 s) :
    Keeps mk s0 (applyCanConfig r s) := by
  refine Keeps.via ?_ he hg
  unfold applyCanConfig
  try dsimp -zeta only
  ((try lift_lets); intro xL; clear_value xL)
  (intro xL; clear_value xL)
  (intro xL; clear_value xL)
  (intro xL; clear_value xL)
  (intro sL; with_reducible refine Keeps.cut sL ?_ ?_; rotate_left; (intro kL; clear_value sL); rotate_right; subst sL; try dsimp -zeta only)
  split
  (with_reducible apply keeps_endAllFrames); exact rfl
  repeat first | with_reducible exact Keeps.refl _ _ | with_reducible assumption
  (with_reducible apply keeps_logEv); exact rfl
  (with_reducible apply keeps_markStored); exact rfl
  (with_reducible apply keeps_onCan); exact rfl
  repeat first | with_reducible exact Keeps.refl _ _ | with_reducible assumption

theorem keeps_canReturn (p : Nat) (s : State) {mk : Nat} {s0 : State} (he : mk &&& 0xFFFFFFDFFFFF = mk) (hg : Keeps mk s0 s) :
    Keeps mk s0 (canReturn p s) := by
  refine Keeps.via ?_ he hg
  unfold canReturn
  try dsimp -zeta only
  (with_reducible apply keeps_onCan); exact rfl
  repeat first | with_reducible exact Keeps.refl _ _ | with_reducible assumption

theorem keeps_canWithdraw (p : Nat) (s : State) {mk : Nat} {s0 : State} (he : mk &&& 0xFFFFFFDFF9FF = mk) (hg : Keeps mk s0 s) :
    Keeps mk s0 (canWithdraw p s) := by
  refine Keeps.via ?_ he hg
  unfold canWithdraw
  try dsimp -zeta only
  (with_reducible apply keeps_onCan); exact rfl
  (with_reducible apply keeps_endAllFrames); exact rfl
  repeat first | with_reducible exact Keeps.refl _ _ | with_reducible assumption

theorem keeps_busOff (p : Nat) (s : State) {mk : Nat} {s0 : State} (he : mk &&& 0xFFFFFFCFF1FF = mk) (hg : Keeps mk s0 s) :
    Keeps mk s0 (busOff p s) := by
  refine Keeps.via ?_ he hg
  unfold busOff
  try dsimp -zeta only
  ((try lift_lets); intro xL; clear_value xL)
  (intro xL; clear_value xL)
  (intro sL; with_reducible refine Keeps.cut sL ?_ ?_; rotate_left; (intro kL; clear_value sL); rotate_right; subst sL; try dsimp -zeta only)
  (with_reducible apply keeps_endAllFrames); exact rfl
  (with_reducible apply keeps_onCan); exact rfl
  repeat first | with_reducible exact Keeps.refl _ _ | with_reducible assumption
  (with_reducible apply keeps_canNtf); exact rfl
  (with_reducible apply keeps_logEv); exact rfl
  repeat first | with_reducible exact Keeps.refl _ _ | with_reducible assumption

theorem keeps_canUnlock (p : Nat) (b : Nat) (s : State) {mk : Nat} {s0 : State} (he : mk &&& 0xFFFFFFDFFFFF = mk) (hg : Keeps mk s0 s) :
    Keeps mk s0 (canUnlock p b s) := by
  refine Keeps.via ?_ he hg
  unfold canUnlock
  try dsimp -zeta only
  (with_reducible apply keeps_onBuf); exact rfl
  repeat first | with_reducible exact Keeps.refl _ _ | with_reducible assumption

theorem keeps_rateFound (p : Nat) (s : State) {mk : Nat} {s0 : State} (he : mk &&& 0xFFFFFFCFF5FF = mk) (hg : Keeps mk s0 s) :
    Keeps mk s0 (rateFound p s) := by
  refine Keeps.via ?_ he hg
  unfold rateFound
  try dsimp -zeta only
  ((try lift_lets); intro sL; with_reducible refine Keeps.cut sL ?_ ?_; rotate_left; (intro kL; clear_value sL); rotate_right; subst sL; try dsimp -zeta only)
  (with_reducible apply keeps_onCan); exact rfl
  repeat first | with_reducible exact Keeps.refl _ _ | with_reducible assumption
  (with_reducible apply keeps_canNtf); exact rfl
  (with_reducible apply keeps_logEv); exact rfl
  repeat first | with_reducible exact Keeps.refl _ _ | with_reducible assumption

theorem keeps_detectFrame (p : Nat) (f : CanStored) (s : State) {mk : Nat} {s0 : State} (he : mk &&& 0xFFFFFFCFF5FF = mk) (hg : Keeps mk s0 s) :
    Keeps mk s0 (detectFrame p f s) := by
  refine Keeps.via ?_ he hg
  unfold detectFrame
  try dsimp -zeta only
  ((try lift_lets); intro xL; clear_value xL)
  (intro sL; with_reducible refine Keeps.cut sL ?_ ?_; rotate_left; (intro kL; clear_value sL); rotate_right; subst sL; try dsimp -zeta only)
  (with_reducible apply keeps_onCan); exact rfl
  repeat first | with_reducible exact Keeps.refl _ _ | with_reducible assumption
  split
  repeat first | with_reducible exact Keeps.refl _ _ | with_reducible assumption
  split
  split
  repeat first | with_reducible exact Keeps.refl _ _ | with_reducible assumption
  (with_reducible apply keeps_rateFound); exact rfl
  repeat first | with_reducible exact Keeps.refl _ _ | with_reducible assumption
  split
  (with_reducible apply keeps_rateFound); exact rfl
  (with_reducible apply keeps_onCan); exact rfl
  repeat first | with_reducible exact Keeps.refl _ _ | with_reducible assumption

theorem keeps_setErr (p : Nat) (tec : Nat) (rec_ : Nat) (s : State) {mk : Nat} {s0 : State} (he : mk &&& 0xFFFFFFDFF7FF = mk) (hg : Keeps mk s0 s) :
    Keeps mk s0 (setErr p tec rec_ s) := by
  refine Keeps.via ?_ he hg
  unfold setErr
  try dsimp -zeta only
  ((try lift_lets); intro xL; clear_value xL)
  (intro sL; with_reducible refine Keeps.cut sL ?_ ?_; rotate_left; (intro kL; clear_value sL); rotate_right; subst sL; try dsimp -zeta only)
  (with_reducible apply keeps_onCan); exact rfl
  repeat first | with_reducible exact Keeps.refl _ _ | with_reducible assumption
  split
  repeat first | with_reducible exact Keeps.refl _ _ | with_reducible assumption
  (with_reducible apply keeps_logLimK); exact rfl
  repeat first | with_reducible exact Keeps.refl _ _ | with_reducible assumption

theorem keeps_rxError (p : Nat) (eight : Bool) (brs : Bool) (s : State) {mk : Nat} {s0 : State} (he : mk &&& 0xFFFFFFDFF7FF = mk) (hg : Keeps mk s0 s) :
    Keeps mk s0 (rxError p eight brs s) := by
  refine Keeps.via ?_ he hg
  unfold rxError
  try dsimp -zeta only
  ((try lift_lets); intro xL; clear_value xL)
  (intro xL; clear_value xL)
  (intro sL; with_reducible refine Keeps.cut sL ?_ ?_; rotate_left; (intro kL; clear_value sL); rotate_right; subst sL; try dsimp -zeta only)
  (with_reducible apply keeps_onCan); exact rfl
  repeat first | with_reducible exact Keeps.refl _ _ | with_reducible assumption
  split
  (with_reducible apply keeps_setErr); exact rfl
  repeat first | with_reducible exact Keeps.refl _ _ | with_reducible assumption
  split
  (with_reducible apply keeps_onCan); exact rfl
  repeat first | with_reducible exact Keeps.refl _ _ | with_reducible assumption

theorem keeps_storeFrame (p : Nat) (f : CanStored) (s : State) {mk : Nat} {s0 : State} (he : mk &&& 0xFFFFFFCFF5FF = mk) (hg : Keeps mk s0 s) :
    Keeps mk s0 (storeFrame p f s) := by
  refine Keeps.via ?_ he hg
  unfold storeFrame
  try dsimp -zeta only
  ((try lift_lets); intro xL; clear_value xL)
  (intro xL; clear_value xL)
  split
  ((try lift_lets); intro xL; clear_value xL)
  (intro sL; with_reducible refine Keeps.cut sL ?_ ?_; rotate_left; (intro kL; clear_value sL); rotate_right; subst sL; try dsimp -zeta only)
  (with_reducible apply keeps_onBuf); exact rfl
  repeat first | with_reducible exact Keeps.refl _ _ | with_reducible assumption
  split
  repeat first | with_reducible exact Keeps.refl _ _ | with_reducible assumption
  split
  (with_reducible apply keeps_ntfOrHold); exact rfl
  repeat first | with_reducible exact Keeps.refl _ _ | with_reducible assumption
  (with_reducible apply keeps_ntfOrHold); exact rfl
  repeat first | with_reducible exact Keeps.refl _ _ | with_reducible assumption
  split
  (with_reducible apply keeps_logLimK); exact rfl
  (with_reducible apply keeps_onCan); exact rfl
  (with_reducible apply keeps_onBuf); exact rfl
  repeat first | with_reducible exact Keeps.refl _ _ | with_reducible assumption
  (with_reducible apply keeps_onCan); exact rfl
  repeat first | with_reducible exact Keeps.refl _ _ | with_reducible assumption

theorem keeps_execCanFrameReceived (p : Nat) (f : CanStored) (s : State) (t : State) (h : execCanFrameReceived p f s = .next t) : Keeps 0xFFFFFFCFF5FD s t := by
  unfold execCanFrameReceived at h
  injection h with h
  subst h
  try dsimp -zeta only
  ((try lift_lets); intro xL; clear_value xL)
  (intro xL; clear_value xL)
  (intro xL; clear_value xL)
  (intro sL; with_reducible refine Keeps.cut sL ?_ ?_; rotate_left; (intro kL; clear_value sL); rotate_right; subst sL; try dsimp -zeta only)
  split
  (with_reducible apply keeps_setErr); exact rfl
  (with_reducible apply keeps_freshNat); exact rfl
  repeat first | with_reducible exact Keeps.refl _ _ | with_reducible assumption
  split
  repeat first | with_reducible exact Keeps.refl _ _ | with_reducible assumption
  split
  (with_reducible apply keeps_rxError); exact rfl
  repeat first | with_reducible exact Keeps.refl _ _ | with_reducible assumption
  (with_reducible apply keeps_storeFrame); exact rfl
  (with_reducible apply keeps_detectFrame); exact rfl
  (with_reducible apply keeps_onCan); exact rfl
  repeat first | with_reducible exact Keeps.refl _ _ | with_reducible assumption

theorem keeps_execCanAttemptEnd (p : Nat) (sof : Nat) (e : CanEnd) (s : State) (t : State) (h : execCanAttemptEnd p sof e s = .next t) : Keeps 0xFFFFFFCFF1FF s t := by
  unfold execCanAttemptEnd at h
  injection h with h
  subst h
  try dsimp -zeta only
  ((try lift_lets); intro xL; clear_value xL)
  (intro xL; clear_value xL)
  split
  repeat first | with_reducible exact Keeps.refl _ _ | with_reducible assumption
  split
  repeat first | with_reducible exact Keeps.refl _ _ | with_reducible assumption
  ((try lift_lets); intro sL; with_reducible refine Keeps.cut sL ?_ ?_; rotate_left; (intro kL; clear_value sL); rotate_right; subst sL; try dsimp -zeta only)
  (with_reducible apply keeps_onBuf); exact rfl
  repeat first | with_reducible exact Keeps.refl _ _ | with_reducible assumption
  split
  (with_reducible apply keeps_endFrame); exact rfl
  (with_reducible apply keeps_setErr); exact rfl
  (with_reducible apply keeps_onCan); exact rfl
  repeat first | with_reducible exact Keeps.refl _ _ | with_reducible assumption
  split
  split
  (with_reducible apply keeps_endFrame); exact rfl
  repeat first | with_reducible exact Keeps.refl _ _ | with_reducible assumption
  split
  (with_reducible apply keeps_endFrame); exact rfl
  repeat first | with_reducible exact Keeps.refl _ _ | with_reducible assumption
  ((try lift_lets); intro xL; clear_value xL)
  (intro sL; with_reducible refine Keeps.cut sL ?_ ?_; rotate_left; (intro kL; clear_value sL); rotate_right; subst sL; try dsimp -zeta only)
  split
  split
  (with_reducible apply keeps_endFrame); exact rfl
  (with_reducible apply keeps_ackError); exact rfl
  (with_reducible apply keeps_setErr); exact rfl
  (with_reducible apply keeps_onCan); exact rfl
  repeat first | with_reducible exact Keeps.refl _ _ | with_reducible assumption
  (with_reducible apply keeps_ackError); exact rfl
  (with_reducible apply keeps_setErr); exact rfl
  (with_reducible apply keeps_onCan); exact rfl
  repeat first | with_reducible exact Keeps.refl _ _ | with_reducible assumption
  split
  (with_reducible apply keeps_endFrame); exact rfl
  (with_reducible apply keeps_ackError); exact rfl
  (with_reducible apply keeps_setErr); exact rfl
  (with_reducible apply keeps_onCan); exact rfl
  repeat first | with_reducible exact Keeps.refl _ _ | with_reducible assumption
  (with_reducible apply keeps_ackError); exact rfl
  (with_reducible apply keeps_setErr); exact rfl
  (with_reducible apply keeps_onCan); exact rfl
  repeat first | with_reducible exact Keeps.refl _ _ | with_reducible assumption
  split
  (with_reducible apply keeps_busOff); exact rfl
  repeat first | with_reducible exact Keeps.refl _ _ | with_reducible assumption
  ((try lift_lets); intro xL; clear_value xL)
  (intro sL; with_reducible refine Keeps.cut sL ?_ ?_; rotate_left; (intro kL; clear_value sL); rotate_right; subst sL; try dsimp -zeta only)
  split
  split
  (with_reducible apply keeps_endFrame); exact rfl
  (with_reducible apply keeps_setErr); exact rfl
  (with_reducible apply keeps_onCan); exact rfl
  repeat first | with_reducible exact Keeps.refl _ _ | with_reducible assumption
  (with_reducible apply keeps_setErr); exact rfl
  (with_reducible apply keeps_onCan); exact rfl
  repeat first | with_reducible exact Keeps.refl _ _ | with_reducible assumption
  split
  (with_reducible apply keeps_endFrame); exact rfl
  (with_reducible apply keeps_setErr); exact rfl
  (with_reducible apply keeps_onCan); exact rfl
  repeat first | with_reducible exact Keeps.refl _ _ | with_reducible assumption
  (with_reducible apply keeps_setErr); exact rfl
  (with_reducible apply keeps_onCan); exact rfl
  repeat first | with_reducible exact Keeps.refl _ _ | with_reducible assumption
  split
  (with_reducible apply keeps_busOff); exact rfl
  repeat first | with_reducible exact Keeps.refl _ _ | with_reducible assumption

theorem keeps_execCanRecovered (p : Nat) (s : State) (t : State) (h : execCanRecovered p s = .next t) : Keeps 0xFFFFFFCFF5FF s t := by
  unfold execCanRecovered at h
  injection h with h
  subst h
  try dsimp -zeta only
  ((try lift_lets); intro xL; clear_value xL)
  split
  (with_reducible apply keeps_canNtf); exact rfl
  (with_reducible apply keeps_logNs); exact rfl
  (with_reducible apply keeps_onCan); exact rfl
  repeat first | with_reducible exact Keeps.refl _ _ | with_reducible assumption

theorem keeps_execCanDetectDwell (p : Nat) (s : State) (t : State) (h : execCanDetectDwell p s = .next t) : Keeps 0xFFFFFFDFFFFF s t := by
  unfold execCanDetectDwell at h
  injection h with h
  subst h
  try dsimp -zeta only
  ((try lift_lets); intro xL; clear_value xL)
  split
  (with_reducible apply keeps_onCan); exact rfl
  repeat first | with_reducible exact Keeps.refl _ _ | with_reducible assumption

theorem keeps_execCanConfig (s : State) (t : State) (h : execCanConfig s = .next t) : Keeps 0xF7FFFFFFF1DF s t := by
  unfold execCanConfig at h
  injection h with h
  subst h
  try dsimp -zeta only
  ((with_reducible apply keeps_serve); (intro _ _))
  (with_reducible apply keeps_actCanConfig); exact rfl
  repeat first | with_reducible exact Keeps.refl _ _ | with_reducible assumption
  exact (rfl : (_ : Nat) &&& _ = _)
  repeat first | with_reducible exact Keeps.refl _ _ | with_reducible assumption

theorem keeps_execCanBufferConfig (s : State) (t : State) (h : execCanBufferConfig s = .next t) : Keeps 0xF7FFFFFFF1DF s t := by
  unfold execCanBufferConfig at h
  injection h with h
  subst h
  try dsimp -zeta only
  ((with_reducible apply keeps_serve); (intro _ _))
  (with_reducible apply keeps_actCanBufferConfig); exact rfl
  repeat first | with_reducible exact Keeps.refl _ _ | with_reducible assumption
  exact (rfl : (_ : Nat) &&& _ = _)
  repeat first | with_reducible exact Keeps.refl _ _ | with_reducible assumption

theorem keeps_execCanSend (s : State) (t : State) (h : execCanSend s = .next t) : Keeps 0xF7FFFFDFF9FF s t := by
  unfold execCanSend at h
  injection h with h
  subst h
  try dsimp -zeta only
  ((with_reducible apply keeps_serve); (intro _ _))
  (with_reducible apply keeps_actCanSend); exact rfl
  repeat first | with_reducible exact Keeps.refl _ _ | with_reducible assumption
  exact (rfl : (_ : Nat) &&& _ = _)
  repeat first | with_reducible exact Keeps.refl _ _ | with_reducible assumption

theorem keeps_execCanCancel (started : Bool) (s : State) (t : State) (h : execCanCancel started s = .next t) : Keeps 0xF7FFFFDFF9FF s t := by
  unfold execCanCancel at h
  injection h with h
  subst h
  try dsimp -zeta only
  ((with_reducible apply keeps_serve); (intro _ _))
  (with_reducible apply keeps_actCanCancel); exact rfl
  repeat first | with_reducible exact Keeps.refl _ _ | with_reducible assumption
  exact (rfl : (_ : Nat) &&& _ = _)
  repeat first | with_reducible exact Keeps.refl _ _ | with_reducible assumption

theorem keeps_execCanRead (s : State) (t : State) (h : execCanRead s = .next t) : Keeps 0xF7FFFFDFF9FF s t := by
  unfold execCanRead at h
  injection h with h
  subst h
  try dsimp -zeta only
  ((with_reducible apply keeps_serve); (intro _ _))
  (with_reducible apply keeps_actCanRead); exact rfl
  repeat first | with_reducible exact Keeps.refl _ _ | with_reducible assumption
  exact (rfl : (_ : Nat) &&& _ = _)
  repeat first | with_reducible exact Keeps.refl _ _ | with_reducible assumption

theorem keeps_execCanStatus (s : State) (t : State) (h : execCanStatus s = .next t) : Keeps 0xF7FFFFFFF9FF s t := by
  unfold execCanStatus at h
  injection h with h
  subst h
  try dsimp -zeta only
  ((with_reducible apply keeps_serve); (intro _ _))
  (with_reducible apply keeps_actCanStatus); exact rfl
  repeat first | with_reducible exact Keeps.refl _ _ | with_reducible assumption
  exact (rfl : (_ : Nat) &&& _ = _)
  repeat first | with_reducible exact Keeps.refl _ _ | with_reducible assumption

theorem keeps_execCanRecover (s : State) (t : State) (h : execCanRecover s = .next t) : Keeps 0xF7FFFFDFF9FF s t := by
  unfold execCanRecover at h
  injection h with h
  subst h
  try dsimp -zeta only
  ((with_reducible apply keeps_serve); (intro _ _))
  (with_reducible apply keeps_actCanRecover); exact rfl
  repeat first | with_reducible exact Keeps.refl _ _ | with_reducible assumption
  exact (rfl : (_ : Nat) &&& _ = _)
  repeat first | with_reducible exact Keeps.refl _ _ | with_reducible assumption

theorem keeps_execDataTimingSearchEnd (p : Nat) (s : State) (t : State) (h : execDataTimingSearchEnd p s = .next t) : Keeps 0xFFFFFFCFF5FF s t := by
  unfold execDataTimingSearchEnd at h
  injection h with h
  subst h
  try dsimp -zeta only
  ((try lift_lets); intro xL; clear_value xL)
  split
  (with_reducible apply keeps_rateFound); exact rfl
  repeat first | with_reducible exact Keeps.refl _ _ | with_reducible assumption

theorem keeps_execCanReceiveError (p : Nat) (eight : Bool) (brs : Bool) (s : State) (t : State) (h : execCanReceiveError p eight brs s = .next t) : Keeps 0xFFFFFFDFF7FF s t := by
  unfold execCanReceiveError at h
  injection h with h
  subst h
  try dsimp -zeta only
  split
  repeat first | with_reducible exact Keeps.refl _ _ | with_reducible assumption
  (with_reducible apply keeps_rxError); exact rfl
  repeat first | with_reducible exact Keeps.refl _ _ | with_reducible assumption

end Sys2Proof.Laws
end

