-- ==== Sys2Proof/Laws/Frames/Sched.lean ====
section
/-!
SUPPORT. Frames of the operations of Machine/Sched.lean.
-/
set_option Elab.async false
namespace Sys2Proof.Laws
open Sys2Proof Sys2Proof.Machine

theorem keeps_checkStale (s : State) {mk : Nat} {s0 : State} (he : mk &&& 0xFFFFFFFEF7FF = mk) (hg : Keeps mk s0 s) :
    Keeps mk s0 (checkStale s) := by
  refine Keeps.via ?_ he hg
  unfold checkStale
  try dsimp -zeta only
  ((try lift_lets); intro xL; clear_value xL)
  (intro xL; subst xL)
  (intro sL; with_reducible refine Keeps.cut sL ?_ ?_; rotate_left; (intro kL; clear_value sL); rotate_right; subst sL; try dsimp -zeta only)
  (with_reducible apply Keeps.in_sch); exact rfl
  · exact fun _ => rfl
  repeat first | with_reducible exact Keeps.refl _ _ | with_reducible assumption
  ((with_reducible apply Keeps.fold); (intro _ _))
  (with_reducible apply Keeps.in_sch); exact rfl
  · exact fun _ => rfl
  split
  repeat first | with_reducible exact Keeps.refl _ _ | with_reducible assumption
  (with_reducible apply keeps_logNs); exact rfl
  (with_reducible apply Keeps.in_sch); exact rfl
  · exact fun _ => rfl
  repeat first | with_reducible exact Keeps.refl _ _ | with_reducible assumption

theorem keeps_updGates (s : State) {mk : Nat} {s0 : State} (he : mk &&& 0xFFFFFFFEFFFF = mk) (hg : Keeps mk s0 s) :
    Keeps mk s0 (updGates s) := by
  refine Keeps.via ?_ he hg
  unfold updGates
  try dsimp -zeta only
  ((try lift_lets); intro xL; clear_value xL)
  (intro xL; subst xL)
  split
  (with_reducible apply Keeps.in_sch); exact rfl
  · exact fun _ => rfl
  repeat first | with_reducible exact Keeps.refl _ _ | with_reducible assumption
  (with_reducible apply Keeps.in_sch); exact rfl
  · exact fun _ => rfl
  repeat first | with_reducible exact Keeps.refl _ _ | with_reducible assumption

theorem keeps_noteTz (s : State) {mk : Nat} {s0 : State} (he : mk &&& 0xFFFFFFFEF7FF = mk) (hg : Keeps mk s0 s) :
    Keeps mk s0 (noteTz s) := by
  refine Keeps.via ?_ he hg
  unfold noteTz
  try dsimp -zeta only
  ((try lift_lets); intro xL; clear_value xL)
  (intro xL; clear_value xL)
  (intro xL; subst xL)
  (intro sL; with_reducible refine Keeps.cut sL ?_ ?_; rotate_left; (intro kL; clear_value sL); rotate_right; subst sL; try dsimp -zeta only)
  (with_reducible apply Keeps.in_sch); exact rfl
  · exact fun _ => rfl
  repeat first | with_reducible exact Keeps.refl _ _ | with_reducible assumption
  split
  repeat first | with_reducible exact Keeps.refl _ _ | with_reducible assumption
  split
  repeat first | with_reducible exact Keeps.refl _ _ | with_reducible assumption
  (with_reducible apply keeps_logNs); exact rfl
  repeat first | with_reducible exact Keeps.refl _ _ | with_reducible assumption

theorem keeps_noteSolar (k : Nat) (kind : Nat) (d : Int) (s : State) {mk : Nat} {s0 : State} (he : mk &&& 0xFFFFFFFEF7FF = mk) (hg : Keeps mk s0 s) :
    Keeps mk s0 (noteSolar k kind d s) := by
  refine Keeps.via ?_ he hg
  unfold noteSolar
  try dsimp -zeta only
  ((try lift_lets); intro xL; subst xL)
  split
  repeat first | with_reducible exact Keeps.refl _ _ | with_reducible assumption
  (with_reducible apply keeps_logLim); exact rfl
  (with_reducible apply Keeps.in_sch); exact rfl
  · exact fun _ => rfl
  repeat first | with_reducible exact Keeps.refl _ _ | with_reducible assumption

theorem keeps_noteNoSolar (fallback : Bool) (d : Int) (s : State) {mk : Nat} {s0 : State} (he : mk &&& 0xFFFFFFFEF7FF = mk) (hg : Keeps mk s0 s) :
    Keeps mk s0 (noteNoSolar fallback d s) := by
  refine Keeps.via ?_ he hg
  unfold noteNoSolar
  try dsimp -zeta only
  ((try lift_lets); intro xL; subst xL)
  (intro sL; with_reducible refine Keeps.cut sL ?_ ?_; rotate_left; (intro kL; clear_value sL); rotate_right; subst sL; try dsimp -zeta only)
  (with_reducible apply Keeps.in_sch); exact rfl
  · exact fun _ => rfl
  repeat first | with_reducible exact Keeps.refl _ _ | with_reducible assumption
  split
  (with_reducible apply keeps_noteSolar); exact rfl
  repeat first | with_reducible exact Keeps.refl _ _ | with_reducible assumption
  ((with_reducible apply Keeps.fold); (intro _ _))
  split
  (with_reducible apply keeps_noteSolar); exact rfl
  repeat first | with_reducible exact Keeps.refl _ _ | with_reducible assumption

end Sys2Proof.Laws
end

