-- ==== Sys2Proof/Laws/Frames/Chord.lean ====
section
/-!
SUPPORT. Frames of the operations of Machine/Chord.lean.
-/
set_option Elab.async false
namespace Sys2Proof.Laws
open Sys2Proof Sys2Proof.Machine

theorem keeps_postWave {id : Nat} {endCyc : Nat} {s : State} {mk : Nat} {s0 sq : State} (hq : postWave id endCyc s = some sq) (he : mk &&& 0xFFFFFFFFFFDF = mk) (hg : Keeps mk s0 s) :
    Keeps mk s0 sq := by
  refine Keeps.via ?_ he hg
  revert hq
  unfold postWave
  try dsimp only
  repeat' split
  all_goals intro hq
  all_goals cases hq
  ((with_reducible apply keeps_tlPost); (with_reducible assumption); exact rfl)
  (with_reducible apply keeps_tlCancel); exact rfl
  repeat first | with_reducible exact Keeps.refl _ _ | with_reducible assumption

theorem keeps_offer {o : Offer} {c : Corridor} {s sq : State} {id : Nat} {m : Bool} {mk : Nat} {s0 : State}
    (h : offer o c s = .wave id m sq) (he : mk &&& 0xFFFFFFFDFFDF = mk) (hg : Keeps mk s0 s) : Keeps mk s0 sq := by
  refine Keeps.via ?_ he hg
  revert h
  unfold offer
  dsimp only
  repeat' split
  all_goals intro h
  all_goals cases h
  all_goals exact keeps_postWave (by assumption) rfl (Keeps.set_chd rfl (Keeps.refl _ _))

theorem keeps_setIssued (ep : Nat) (l : List Issued) (s : State) {mk : Nat} {s0 : State} (he : mk &&& 0xFFFFFFFDFFFF = mk) (hg : Keeps mk s0 s) :
    Keeps mk s0 (setIssued ep l s) := by
  refine Keeps.via ?_ he hg
  unfold setIssued
  try dsimp -zeta only
  ((try lift_lets); intro xL; clear_value xL)
  split
  (with_reducible apply Keeps.set_chd); exact rfl
  repeat first | with_reducible exact Keeps.refl _ _ | with_reducible assumption
  (with_reducible apply Keeps.set_chd); exact rfl
  repeat first | with_reducible exact Keeps.refl _ _ | with_reducible assumption

theorem keeps_pruneIssued (ep : Nat) (s : State) {mk : Nat} {s0 : State} (he : mk &&& 0xFFFFFFFDFFFF = mk) (hg : Keeps mk s0 s) :
    Keeps mk s0 (pruneIssued ep s) := by
  refine Keeps.via ?_ he hg
  unfold pruneIssued
  try dsimp -zeta only
  split
  repeat first | with_reducible exact Keeps.refl _ _ | with_reducible assumption
  split
  (with_reducible apply keeps_setIssued); exact rfl
  repeat first | with_reducible exact Keeps.refl _ _ | with_reducible assumption
  (with_reducible apply keeps_setIssued); exact rfl
  repeat first | with_reducible exact Keeps.refl _ _ | with_reducible assumption

theorem keeps_countIssued (c : Nat) (s : State) {mk : Nat} {s0 : State} (he : mk &&& 0xFFFFFFFDFFFF = mk) (hg : Keeps mk s0 s) :
    Keeps mk s0 (countIssued c s) := by
  refine Keeps.via ?_ he hg
  unfold countIssued
  try dsimp -zeta only
  ((try lift_lets); intro xL; clear_value xL)
  (with_reducible apply Keeps.set_chd); exact rfl
  repeat first | with_reducible exact Keeps.refl _ _ | with_reducible assumption

theorem keeps_issueChange {ep : Nat} {k : Nat} {want : Nat × Option Nat} {prev : Nat × Option Nat} {s : State} {mk : Nat} {s0 sq : State} (hq : issueChange ep k want prev s = some sq) (he : mk &&& 0xFFFFFFFD7FFF = mk) (hg : Keeps mk s0 s) :
    Keeps mk s0 sq := by
  refine Keeps.via ?_ he hg
  revert hq
  unfold issueChange
  try dsimp only
  repeat' split
  all_goals intro hq
  all_goals cases hq
  (with_reducible apply keeps_countIssued); exact rfl
  (with_reducible apply keeps_setIssued); exact rfl
  repeat first | with_reducible exact Keeps.refl _ _ | with_reducible assumption
  (with_reducible apply keeps_countIssued); exact rfl
  (with_reducible apply keeps_setIssued); exact rfl
  (with_reducible apply keeps_startTxn); exact rfl
  repeat first | with_reducible exact Keeps.refl _ _ | with_reducible assumption
  (with_reducible apply keeps_countIssued); exact rfl
  (with_reducible apply keeps_setIssued); exact rfl
  repeat first | with_reducible exact Keeps.refl _ _ | with_reducible assumption
  (with_reducible apply keeps_countIssued); exact rfl
  (with_reducible apply keeps_setIssued); exact rfl
  (with_reducible apply keeps_startTxn); exact rfl
  repeat first | with_reducible exact Keeps.refl _ _ | with_reducible assumption
  (with_reducible apply keeps_setIssued); exact rfl
  repeat first | with_reducible exact Keeps.refl _ _ | with_reducible assumption
  (with_reducible apply keeps_setIssued); exact rfl
  (with_reducible apply keeps_startTxn); exact rfl
  repeat first | with_reducible exact Keeps.refl _ _ | with_reducible assumption
  (with_reducible apply keeps_setIssued); exact rfl
  repeat first | with_reducible exact Keeps.refl _ _ | with_reducible assumption
  (with_reducible apply keeps_setIssued); exact rfl
  (with_reducible apply keeps_startTxn); exact rfl
  repeat first | with_reducible exact Keeps.refl _ _ | with_reducible assumption

theorem keeps_planLantern (ep : Nat) (n : Nat) (k : Nat) (first : Bool) (s : State) {mk : Nat} {s0 : State}
    (he : mk &&& 0xFFFFFFFD77FF = mk) (hg : Keeps mk s0 s) : Keeps mk s0 (planLantern ep n k first s) := by
  refine Keeps.via ?_ he hg
  clear he hg
  induction n generalizing k first s with
  | zero => exact Keeps.refl _ _
  | succ n ih =>
    unfold planLantern
    dsimp only
    split
    · exact ih _ _ _
    · split
      · exact keeps_logLim _ _ _ _ rfl (Keeps.refl _ _)
      · next h =>
        refine Keeps.step (ih _ _ _) ?_
        split
        · exact keeps_logLim _ _ _ _ rfl (keeps_issueChange h rfl (Keeps.refl _ _))
        · exact keeps_issueChange h rfl (Keeps.refl _ _)

theorem keeps_cancelStale (ep : Nat) (s : State) {mk : Nat} {s0 : State} (he : mk &&& 0xFDFFFFEC01F1 = mk) (hg : Keeps mk s0 s) :
    Keeps mk s0 (cancelStale ep s) := by
  refine Keeps.via ?_ he hg
  unfold cancelStale
  try dsimp -zeta only
  ((with_reducible apply Keeps.fold); (intro _ _))
  ((try lift_lets); intro sL; with_reducible refine Keeps.cut sL ?_ ?_; rotate_left; (intro kL; clear_value sL); rotate_right; subst sL; try dsimp -zeta only)
  (with_reducible apply keeps_setIssued); exact rfl
  repeat first | with_reducible exact Keeps.refl _ _ | with_reducible assumption
  split
  repeat first | with_reducible exact Keeps.refl _ _ | with_reducible assumption
  split
  repeat first | with_reducible exact Keeps.refl _ _ | with_reducible assumption
  split
  repeat first | with_reducible exact Keeps.refl _ _ | with_reducible assumption
  split
  repeat first | with_reducible exact Keeps.refl _ _ | with_reducible assumption
  (with_reducible apply keeps_finishTxn); exact rfl
  repeat first | with_reducible exact Keeps.refl _ _ | with_reducible assumption

theorem keeps_chdEval (s : State) {mk : Nat} {s0 : State} (he : mk &&& 0xFDFFFFEC01F1 = mk) (hg : Keeps mk s0 s) :
    Keeps mk s0 (chdEval s) := by
  refine Keeps.via ?_ he hg
  unfold chdEval
  try dsimp -zeta only
  ((try lift_lets); intro xL; clear_value xL)
  split
  repeat first | with_reducible exact Keeps.refl _ _ | with_reducible assumption
  ((with_reducible apply Keeps.fold); (intro _ _))
  split
  (with_reducible apply keeps_setIssued); exact rfl
  repeat first | with_reducible exact Keeps.refl _ _ | with_reducible assumption
  (with_reducible apply keeps_pruneIssued); exact rfl
  (with_reducible apply keeps_planLantern); exact rfl
  (with_reducible apply keeps_cancelStale); exact rfl
  repeat first | with_reducible exact Keeps.refl _ _ | with_reducible assumption

theorem keeps_offerOr (o : Offer) (c : Corridor) (s : State) {mk : Nat} {s0 : State} (he : mk &&& 0xFDFFFFEC01D1 = mk) (hg : Keeps mk s0 s) :
    Keeps mk s0 (offerOr o c s) := by
  refine Keeps.via ?_ he hg
  unfold offerOr
  try dsimp -zeta only
  split
  (with_reducible apply keeps_chdEval); exact rfl
  ((with_reducible apply keeps_offer); (with_reducible assumption); exact rfl)
  repeat first | with_reducible exact Keeps.refl _ _ | with_reducible assumption
  (with_reducible apply keeps_logLim); exact rfl
  repeat first | with_reducible exact Keeps.refl _ _ | with_reducible assumption
  (with_reducible apply keeps_tlFull); exact rfl
  repeat first | with_reducible exact Keeps.refl _ _ | with_reducible assumption

theorem keeps_dropWave (id : Nat) (s : State) {mk : Nat} {s0 : State} (he : mk &&& 0xFFFFFFFDFFDF = mk) (hg : Keeps mk s0 s) :
    Keeps mk s0 (dropWave id s) := by
  refine Keeps.via ?_ he hg
  unfold dropWave
  try dsimp -zeta only
  ((try lift_lets); intro xL; clear_value xL)
  (with_reducible apply keeps_tlCancel); exact rfl
  (with_reducible apply Keeps.set_chd); exact rfl
  repeat first | with_reducible exact Keeps.refl _ _ | with_reducible assumption

theorem keeps_sendCorridor (cor : Corridor) (level : State → Nat → Nat → Nat × Option Nat) (s : State) {mk : Nat} {s0 : State} (he : mk &&& 0xFFFFFFFD77FF = mk) (hg : Keeps mk s0 s) :
    Keeps mk s0 (sendCorridor cor level s) := by
  refine Keeps.via ?_ he hg
  unfold sendCorridor
  try dsimp -zeta only
  ((try lift_lets); intro xL; clear_value xL)
  ((with_reducible apply Keeps.fold); (intro _ _))
  ((try lift_lets); intro xL; clear_value xL)
  (intro xL; clear_value xL)
  split
  repeat first | with_reducible exact Keeps.refl _ _ | with_reducible assumption
  split
  ((with_reducible apply keeps_issueChange); (with_reducible assumption); exact rfl)
  repeat first | with_reducible exact Keeps.refl _ _ | with_reducible assumption
  (with_reducible apply keeps_startOwn); exact rfl
  (with_reducible apply keeps_logLim); exact rfl
  repeat first | with_reducible exact Keeps.refl _ _ | with_reducible assumption

theorem keeps_chdReturn (s : State) {mk : Nat} {s0 : State} (he : mk &&& 0xFFFFFFFD77FF = mk) (hg : Keeps mk s0 s) :
    Keeps mk s0 (chdReturn s) := by
  refine Keeps.via ?_ he hg
  unfold chdReturn
  try dsimp -zeta only
  ((with_reducible apply Keeps.fold); (intro _ _))
  (with_reducible apply keeps_sendCorridor); exact rfl
  repeat first | with_reducible exact Keeps.refl _ _ | with_reducible assumption

theorem keeps_chdWithdraw (s : State) {mk : Nat} {s0 : State} (he : mk &&& 0xFFFFFFFDFFDF = mk) (hg : Keeps mk s0 s) :
    Keeps mk s0 (chdWithdraw s) := by
  refine Keeps.via ?_ he hg
  unfold chdWithdraw
  try dsimp -zeta only
  ((try lift_lets); intro xL; clear_value xL)
  ((with_reducible apply Keeps.fold); (intro _ _))
  (with_reducible apply keeps_dropWave); exact rfl
  repeat first | with_reducible exact Keeps.refl _ _ | with_reducible assumption
  (with_reducible apply Keeps.set_chd); exact rfl
  repeat first | with_reducible exact Keeps.refl _ _ | with_reducible assumption

theorem keeps_sendKept (ep : Nat) (s : State) {mk : Nat} {s0 : State} (he : mk &&& 0xFFFFFFFD77FF = mk) (hg : Keeps mk s0 s) :
    Keeps mk s0 (sendKept ep s) := by
  refine Keeps.via ?_ he hg
  unfold sendKept
  try dsimp -zeta only
  ((with_reducible apply Keeps.fold); (intro _ _))
  ((try lift_lets); intro sL; with_reducible refine Keeps.cut sL ?_ ?_; rotate_left; (intro kL; clear_value sL); rotate_right; subst sL; try dsimp -zeta only)
  (with_reducible apply keeps_startTxn); exact rfl
  repeat first | with_reducible exact Keeps.refl _ _ | with_reducible assumption
  split
  repeat first | with_reducible exact Keeps.refl _ _ | with_reducible assumption
  split
  (with_reducible apply keeps_logLim); exact rfl
  repeat first | with_reducible exact Keeps.refl _ _ | with_reducible assumption
  (with_reducible apply keeps_setIssued); exact rfl
  repeat first | with_reducible exact Keeps.refl _ _ | with_reducible assumption

theorem keeps_execChdEvaluation (s : State) (t : State) (h : execChdEvaluation s = .next t) : Keeps 0xFDFFFFEC01D1 s t := by
  unfold execChdEvaluation at h
  injection h with h
  subst h
  try dsimp -zeta only
  ((try lift_lets); intro xL; clear_value xL)
  (intro xL; clear_value xL)
  (intro sL; with_reducible refine Keeps.cut sL ?_ ?_; rotate_left; (intro kL; clear_value sL); rotate_right; subst sL; try dsimp -zeta only)
  split
  ((with_reducible apply Keeps.fold); (intro _ _))
  (with_reducible apply keeps_sendKept); exact rfl
  repeat first | with_reducible exact Keeps.refl _ _ | with_reducible assumption
  split
  ((with_reducible apply Keeps.fold); (intro _ _))
  (with_reducible apply keeps_dropWave); exact rfl
  repeat first | with_reducible exact Keeps.refl _ _ | with_reducible assumption
  (with_reducible apply Keeps.set_chd); exact rfl
  repeat first | with_reducible exact Keeps.refl _ _ | with_reducible assumption
  split
  (with_reducible apply keeps_chdEval); exact rfl
  (with_reducible apply Keeps.set_chd); exact rfl
  repeat first | with_reducible exact Keeps.refl _ _ | with_reducible assumption

theorem keeps_execWaveEnd (s : State) (t : State) (h : execWaveEnd s = .next t) : Keeps 0xFDFFFFEC01D1 s t := by
  unfold execWaveEnd at h
  injection h with h
  subst h
  refine keeps_tlFire _ _ ?_ rfl (Keeps.refl _ _)
  intro k e g hf s
  try dsimp only at hf
  split at hf <;> first | injection hf with hf; subst hf | cases hf
  exact keeps_chdEval _ rfl (keeps_dropWave _ _ rfl (Keeps.refl _ _))

end Sys2Proof.Laws
end

