-- ==== Sys2Proof/Laws/Frames/Rtc.lean ====
section
/-!
SUPPORT. Frames of the operations of Machine/Rtc.lean.
-/
set_option Elab.async false
namespace Sys2Proof.Laws
open Sys2Proof Sys2Proof.Machine

theorem keeps_actBramRead (r : Req) (s : State) {mk : Nat} {s0 : State} (he : mk &&& 0xFFFFFFFFF9FF = mk) (hg : Keeps mk s0 s) :
    Keeps mk s0 (actBramRead r s) := by
  refine Keeps.via ?_ he hg
  unfold actBramRead
  try dsimp -zeta only
  (with_reducible apply keeps_ok); exact rfl
  repeat first | with_reducible exact Keeps.refl _ _ | with_reducible assumption

theorem keeps_actBramWrite (r : Req) (s : State) {mk : Nat} {s0 : State} (he : mk &&& 0xFFFFFFFFF97F = mk) (hg : Keeps mk s0 s) :
    Keeps mk s0 (actBramWrite r s) := by
  refine Keeps.via ?_ he hg
  unfold actBramWrite
  try dsimp -zeta only
  ((try lift_lets); intro xL; clear_value xL)
  (with_reducible apply keeps_ok); exact rfl
  (with_reducible apply Keeps.set_rtc); exact rfl
  repeat first | with_reducible exact Keeps.refl _ _ | with_reducible assumption

theorem keeps_actRtcFlags (r : Req) (s : State) {mk : Nat} {s0 : State} (he : mk &&& 0xFFFFFFFFF17F = mk) (hg : Keeps mk s0 s) :
    Keeps mk s0 (actRtcFlags r s) := by
  refine Keeps.via ?_ he hg
  unfold actRtcFlags
  try dsimp -zeta only
  ((try lift_lets); intro xL; clear_value xL)
  (intro xL; clear_value xL)
  (intro xL; clear_value xL)
  (intro xL; clear_value xL)
  (intro sL; with_reducible refine Keeps.cut sL ?_ ?_; rotate_left; (intro kL; clear_value sL); rotate_right; subst sL; try dsimp -zeta only)
  (with_reducible apply Keeps.set_rtc); exact rfl
  repeat first | with_reducible exact Keeps.refl _ _ | with_reducible assumption
  (with_reducible apply keeps_ok); exact rfl
  split
  repeat first | with_reducible exact Keeps.refl _ _ | with_reducible assumption
  (with_reducible apply keeps_logEv); exact rfl
  repeat first | with_reducible exact Keeps.refl _ _ | with_reducible assumption

theorem keeps_actRtcSet (r : Req) (s : State) {mk : Nat} {s0 : State} (he : mk &&& 0xFFFFFFFFF97F = mk) (hg : Keeps mk s0 s) :
    Keeps mk s0 (actRtcSet r s) := by
  refine Keeps.via ?_ he hg
  unfold actRtcSet
  try dsimp -zeta only
  ((try lift_lets); intro xL; clear_value xL)
  (intro xL; clear_value xL)
  (intro xL; clear_value xL)
  (intro sL; with_reducible refine Keeps.cut sL ?_ ?_; rotate_left; (intro kL; clear_value sL); rotate_right; subst sL; try dsimp -zeta only)
  (with_reducible apply Keeps.set_rtc); exact rfl
  repeat first | with_reducible exact Keeps.refl _ _ | with_reducible assumption
  split
  split
  split
  (with_reducible apply keeps_acceptN); exact rfl
  (with_reducible apply Keeps.set_rtc); exact rfl
  repeat first | with_reducible exact Keeps.refl _ _ | with_reducible assumption
  (with_reducible apply keeps_okN); exact rfl
  (with_reducible apply keeps_endOrdered); exact rfl
  (with_reducible apply Keeps.set_rtc); exact rfl
  repeat first | with_reducible exact Keeps.refl _ _ | with_reducible assumption
  split
  (with_reducible apply keeps_acceptN); exact rfl
  repeat first | with_reducible exact Keeps.refl _ _ | with_reducible assumption
  (with_reducible apply keeps_accept); exact rfl
  repeat first | with_reducible exact Keeps.refl _ _ | with_reducible assumption

theorem keeps_actRtcStatus (r : Req) (s : State) {mk : Nat} {s0 : State} (he : mk &&& 0xFFFFFFFFF9FF = mk) (hg : Keeps mk s0 s) :
    Keeps mk s0 (actRtcStatus r s) := by
  refine Keeps.via ?_ he hg
  unfold actRtcStatus
  try dsimp -zeta only
  ((try lift_lets); intro xL; clear_value xL)
  (with_reducible apply keeps_ok); exact rfl
  repeat first | with_reducible exact Keeps.refl _ _ | with_reducible assumption

theorem keeps_applyRtcTrim (r : Req) (s : State) {mk : Nat} {s0 : State} (he : mk &&& 0xFFFFFFFFF77F = mk) (hg : Keeps mk s0 s) :
    Keeps mk s0 (applyRtcTrim r s) := by
  refine Keeps.via ?_ he hg
  unfold applyRtcTrim
  try dsimp -zeta only
  ((try lift_lets); intro xL; clear_value xL)
  (intro xL; clear_value xL)
  (with_reducible apply keeps_logNs); exact rfl
  (with_reducible apply Keeps.set_rtc); exact rfl
  repeat first | with_reducible exact Keeps.refl _ _ | with_reducible assumption

theorem keeps_actRtcTrim (r : Req) (s : State) {mk : Nat} {s0 : State} (he : mk &&& 0xFFFFFFFFF17F = mk) (hg : Keeps mk s0 s) :
    Keeps mk s0 (actRtcTrim r s) := by
  refine Keeps.via ?_ he hg
  unfold actRtcTrim
  try dsimp -zeta only
  (with_reducible apply keeps_ok); exact rfl
  (with_reducible apply keeps_applyRtcTrim); exact rfl
  repeat first | with_reducible exact Keeps.refl _ _ | with_reducible assumption

theorem keeps_actTamperConfig (r : Req) (s : State) {mk : Nat} {s0 : State} (he : mk &&& 0xFFFFFFFFF17F = mk) (hg : Keeps mk s0 s) :
    Keeps mk s0 (actTamperConfig r s) := by
  refine Keeps.via ?_ he hg
  unfold actTamperConfig
  try dsimp -zeta only
  ((try lift_lets); intro xL; clear_value xL)
  (intro xL; clear_value xL)
  (with_reducible apply keeps_ok); exact rfl
  (with_reducible apply keeps_logNs); exact rfl
  (with_reducible apply Keeps.set_rtc); exact rfl
  repeat first | with_reducible exact Keeps.refl _ _ | with_reducible assumption

theorem keeps_dropStaged (s : State) {mk : Nat} {s0 : State} (he : mk &&& 0xFFFFFFFFFF7F = mk) (hg : Keeps mk s0 s) :
    Keeps mk s0 (dropStaged s) := by
  refine Keeps.via ?_ he hg
  unfold dropStaged
  try dsimp -zeta only
  ((try lift_lets); intro xL; clear_value xL)
  (with_reducible apply Keeps.set_rtc); exact rfl
  repeat first | with_reducible exact Keeps.refl _ _ | with_reducible assumption

theorem keeps_stepAnchors (s : State) {mk : Nat} {s0 : State} (he : mk &&& 0xFFFFFFFFFFEF = mk) (hg : Keeps mk s0 s) :
    Keeps mk s0 (stepAnchors s) := by
  refine Keeps.via ?_ he hg
  unfold stepAnchors
  try dsimp -zeta only
  ((try lift_lets); intro xL; subst xL)
  (with_reducible apply keeps_pushAnchor); exact rfl
  (with_reducible apply Keeps.in_tt); exact rfl
  · exact fun _ => rfl
  · exact fun _ => rfl
  · exact fun _ => rfl
  repeat first | with_reducible exact Keeps.refl _ _ | with_reducible assumption

theorem keeps_commitRtc (w : RtcWrite) (s : State) {mk : Nat} {s0 : State} (he : mk &&& 0xFFFFFFFFF16F = mk) (hg : Keeps mk s0 s) :
    Keeps mk s0 (commitRtc w s) := by
  refine Keeps.via ?_ he hg
  unfold commitRtc
  try dsimp -zeta only
  ((try lift_lets); intro xL; clear_value xL)
  (intro sL; with_reducible refine Keeps.cut sL ?_ ?_; rotate_left; (intro kL; clear_value sL); rotate_right; subst sL; try dsimp -zeta only)
  (with_reducible apply keeps_stepAnchors); exact rfl
  (with_reducible apply Keeps.set_rtc); exact rfl
  repeat first | with_reducible exact Keeps.refl _ _ | with_reducible assumption
  ((with_reducible apply Keeps.fold); (intro _ _))
  (with_reducible apply keeps_failN); exact rfl
  repeat first | with_reducible exact Keeps.refl _ _ | with_reducible assumption
  (with_reducible apply keeps_complete); exact rfl
  (with_reducible apply keeps_logEv); exact rfl
  repeat first | with_reducible exact Keeps.refl _ _ | with_reducible assumption

theorem keeps_crystalTick (s : State) {mk : Nat} {s0 : State} (he : mk &&& 0xFFFFFFFFFF7D = mk) (hg : Keeps mk s0 s) :
    Keeps mk s0 (crystalTick s) := by
  refine Keeps.via ?_ he hg
  unfold crystalTick
  try dsimp -zeta only
  ((try lift_lets); intro xL; subst xL)
  (intro sL; with_reducible refine Keeps.cut sL ?_ ?_; rotate_left; (intro kL; clear_value sL); rotate_right; subst sL; try dsimp -zeta only)
  (with_reducible apply Keeps.set_clk); exact rfl
  · exact fun h => h
  repeat first | with_reducible exact Keeps.refl _ _ | with_reducible assumption
  split
  (with_reducible apply Keeps.set_rtc); exact rfl
  repeat first | with_reducible exact Keeps.refl _ _ | with_reducible assumption
  (with_reducible apply Keeps.set_rtc); exact rfl
  repeat first | with_reducible exact Keeps.refl _ _ | with_reducible assumption

theorem keeps_execVbakMeasure (mv : Nat) (s : State) (t : State) (h : execVbakMeasure mv s = .next t) : Keeps 0xFFFFFFFFF77F s t := by
  unfold execVbakMeasure at h
  injection h with h
  subst h
  try dsimp -zeta only
  ((try lift_lets); intro xL; clear_value xL)
  (intro xL; clear_value xL)
  (intro sL; with_reducible refine Keeps.cut sL ?_ ?_; rotate_left; (intro kL; clear_value sL); rotate_right; subst sL; try dsimp -zeta only)
  (with_reducible apply Keeps.set_rtc); exact rfl
  repeat first | with_reducible exact Keeps.refl _ _ | with_reducible assumption
  split
  split
  (with_reducible apply keeps_logNs); exact rfl
  repeat first | with_reducible exact Keeps.refl _ _ | with_reducible assumption

theorem keeps_execRetentionTokenLoss (us : Nat) (mv : Nat) (s : State) (t : State) (h : execRetentionTokenLoss us mv s = .next t) : Keeps 0xFFFFFFFFFF7F s t := by
  unfold execRetentionTokenLoss at h
  injection h with h
  subst h
  try dsimp -zeta only
  ((try lift_lets); intro xL; clear_value xL)
  split
  (with_reducible apply Keeps.set_rtc); exact rfl
  repeat first | with_reducible exact Keeps.refl _ _ | with_reducible assumption

theorem keeps_execBakSwitchOver (s : State) (t : State) (h : execBakSwitchOver s = .next t) : Keeps 0xFFFFFFFFFF7F s t := by
  unfold execBakSwitchOver at h
  injection h with h
  subst h
  try dsimp -zeta only
  ((try lift_lets); intro xL; clear_value xL)
  split
  repeat first | with_reducible exact Keeps.refl _ _ | with_reducible assumption
  split
  (with_reducible apply Keeps.set_rtc); exact rfl
  repeat first | with_reducible exact Keeps.refl _ _ | with_reducible assumption
  (with_reducible apply Keeps.set_rtc); exact rfl
  repeat first | with_reducible exact Keeps.refl _ _ | with_reducible assumption

theorem keeps_oscFault (what : Int) (s : State) {mk : Nat} {s0 : State} (he : mk &&& 0xFFFFFFFFF77F = mk) (hg : Keeps mk s0 s) :
    Keeps mk s0 (oscFault what s) := by
  refine Keeps.via ?_ he hg
  unfold oscFault
  try dsimp -zeta only
  ((try lift_lets); intro xL; clear_value xL)
  (with_reducible apply keeps_logNs); exact rfl
  (with_reducible apply Keeps.set_rtc); exact rfl
  repeat first | with_reducible exact Keeps.refl _ _ | with_reducible assumption

theorem keeps_execRtcCorrectionWindow (m : Int) (temp : Int) (bakOk : Bool) (s : State) (t : State) (h : execRtcCorrectionWindow m temp bakOk s = .next t) : Keeps 0xFFFFFFFFF77F s t := by
  unfold execRtcCorrectionWindow at h
  injection h with h
  subst h
  try dsimp -zeta only
  ((try lift_lets); intro xL; clear_value xL)
  (intro xL; clear_value xL)
  (intro xL; subst xL; try dsimp -zeta only)
  ((try lift_lets); intro xL; clear_value xL)
  (intro sL; with_reducible refine Keeps.cut sL ?_ ?_; rotate_left; (intro kL; clear_value sL); rotate_right; subst sL; try dsimp -zeta only)
  (with_reducible apply Keeps.set_rtc); exact rfl
  repeat first | with_reducible exact Keeps.refl _ _ | with_reducible assumption
  split
  repeat first | with_reducible exact Keeps.refl _ _ | with_reducible assumption
  split
  split
  (with_reducible apply keeps_oscFault); exact rfl
  repeat first | with_reducible exact Keeps.refl _ _ | with_reducible assumption
  split
  (with_reducible apply Keeps.set_rtc); exact rfl
  repeat first | with_reducible exact Keeps.refl _ _ | with_reducible assumption
  (with_reducible apply Keeps.set_rtc); exact rfl
  repeat first | with_reducible exact Keeps.refl _ _ | with_reducible assumption

theorem keeps_execRtcShadowTimeout (p : Fin 4) (s : State) (t : State) (h : execRtcShadowTimeout p s = .next t) : Keeps 0xFFFFFFFFFEFF s t := by
  unfold execRtcShadowTimeout at h
  injection h with h
  subst h
  try dsimp -zeta only
  ((try lift_lets); intro xL; clear_value xL)
  split
  (with_reducible apply Keeps.set_shadow); exact rfl
  repeat first | with_reducible exact Keeps.refl _ _ | with_reducible assumption

theorem keeps_execRtcSetCommit (s : State) (t : State) (h : execRtcSetCommit s = .next t) : Keeps 0xFFFFFFFFF16F s t := by
  unfold execRtcSetCommit at h
  injection h with h
  subst h
  try dsimp -zeta only
  split
  split
  (with_reducible apply keeps_commitRtc); exact rfl
  repeat first | with_reducible exact Keeps.refl _ _ | with_reducible assumption

theorem keeps_oscRuns (ppm : Int) (s : State) {mk : Nat} {s0 : State} (he : mk &&& 0xFFFFFFFFF77F = mk) (hg : Keeps mk s0 s) :
    Keeps mk s0 (oscRuns ppm s) := by
  refine Keeps.via ?_ he hg
  unfold oscRuns
  try dsimp -zeta only
  ((try lift_lets); intro xL; clear_value xL)
  (intro sL; with_reducible refine Keeps.cut sL ?_ ?_; rotate_left; (intro kL; clear_value sL); rotate_right; subst sL; try dsimp -zeta only)
  (with_reducible apply Keeps.set_rtc); exact rfl
  repeat first | with_reducible exact Keeps.refl _ _ | with_reducible assumption
  split
  (with_reducible apply keeps_oscFault); exact rfl
  repeat first | with_reducible exact Keeps.refl _ _ | with_reducible assumption

theorem keeps_oscStopped (ms : Nat) (s : State) {mk : Nat} {s0 : State} (he : mk &&& 0xFFFFFFFFF77F = mk) (hg : Keeps mk s0 s) :
    Keeps mk s0 (oscStopped ms s) := by
  refine Keeps.via ?_ he hg
  unfold oscStopped
  try dsimp -zeta only
  ((try lift_lets); intro xL; clear_value xL)
  split
  repeat first | with_reducible exact Keeps.refl _ _ | with_reducible assumption
  split
  (with_reducible apply keeps_oscFault); exact rfl
  (with_reducible apply Keeps.set_rtc); exact rfl
  repeat first | with_reducible exact Keeps.refl _ _ | with_reducible assumption
  (with_reducible apply Keeps.set_rtc); exact rfl
  repeat first | with_reducible exact Keeps.refl _ _ | with_reducible assumption

theorem keeps_execOscStopDetect (x : OscSeen) (ppm : Int) (s : State) (t : State) (h : execOscStopDetect x ppm s = .next t) : Keeps 0xFFFFFFFFF77F s t := by
  unfold execOscStopDetect at h
  injection h with h
  subst h
  try dsimp -zeta only
  split
  repeat first | with_reducible exact Keeps.refl _ _ | with_reducible assumption
  split
  (with_reducible apply keeps_oscRuns); exact rfl
  repeat first | with_reducible exact Keeps.refl _ _ | with_reducible assumption
  (with_reducible apply keeps_oscStopped); exact rfl
  repeat first | with_reducible exact Keeps.refl _ _ | with_reducible assumption

theorem keeps_execEvLbv (bakMv : Nat) (us : Nat) (s : State) (t : State) (h : execEvLbv bakMv us s = .next t) : Keeps 0xFFFFFFFFF77F s t := by
  unfold execEvLbv at h
  injection h with h
  subst h
  try dsimp -zeta only
  ((try lift_lets); intro xL; clear_value xL)
  split
  (with_reducible apply keeps_logEv); exact rfl
  (with_reducible apply Keeps.set_rtc); exact rfl
  repeat first | with_reducible exact Keeps.refl _ _ | with_reducible assumption

theorem keeps_execRtcStatus (s : State) (t : State) (h : execRtcStatus s = .next t) : Keeps 0xF7FFFFFFF9FF s t := by
  unfold execRtcStatus at h
  injection h with h
  subst h
  try dsimp -zeta only
  ((with_reducible apply keeps_serve); (intro _ _))
  (with_reducible apply keeps_actRtcStatus); exact rfl
  repeat first | with_reducible exact Keeps.refl _ _ | with_reducible assumption
  exact (rfl : (_ : Nat) &&& _ = _)
  repeat first | with_reducible exact Keeps.refl _ _ | with_reducible assumption

theorem keeps_execRtcSet (s : State) (t : State) (h : execRtcSet s = .next t) : Keeps 0xF7FFFFFFF97F s t := by
  unfold execRtcSet at h
  injection h with h
  subst h
  try dsimp -zeta only
  ((with_reducible apply keeps_serve); (intro _ _))
  (with_reducible apply keeps_actRtcSet); exact rfl
  repeat first | with_reducible exact Keeps.refl _ _ | with_reducible assumption
  exact (rfl : (_ : Nat) &&& _ = _)
  repeat first | with_reducible exact Keeps.refl _ _ | with_reducible assumption

theorem keeps_execRtcFlags (s : State) (t : State) (h : execRtcFlags s = .next t) : Keeps 0xF7FFFFFFF17F s t := by
  unfold execRtcFlags at h
  injection h with h
  subst h
  try dsimp -zeta only
  ((with_reducible apply keeps_serve); (intro _ _))
  (with_reducible apply keeps_actRtcFlags); exact rfl
  repeat first | with_reducible exact Keeps.refl _ _ | with_reducible assumption
  exact (rfl : (_ : Nat) &&& _ = _)
  repeat first | with_reducible exact Keeps.refl _ _ | with_reducible assumption

theorem keeps_execRtcTrim (s : State) (t : State) (h : execRtcTrim s = .next t) : Keeps 0xF7FFFFFFF17F s t := by
  unfold execRtcTrim at h
  injection h with h
  subst h
  try dsimp -zeta only
  ((with_reducible apply keeps_serve); (intro _ _))
  (with_reducible apply keeps_actRtcTrim); exact rfl
  repeat first | with_reducible exact Keeps.refl _ _ | with_reducible assumption
  exact (rfl : (_ : Nat) &&& _ = _)
  repeat first | with_reducible exact Keeps.refl _ _ | with_reducible assumption

theorem keeps_execBramRead (s : State) (t : State) (h : execBramRead s = .next t) : Keeps 0xF7FFFFFFF9FF s t := by
  unfold execBramRead at h
  injection h with h
  subst h
  try dsimp -zeta only
  ((with_reducible apply keeps_serve); (intro _ _))
  (with_reducible apply keeps_actBramRead); exact rfl
  repeat first | with_reducible exact Keeps.refl _ _ | with_reducible assumption
  exact (rfl : (_ : Nat) &&& _ = _)
  repeat first | with_reducible exact Keeps.refl _ _ | with_reducible assumption

theorem keeps_execBramWrite (s : State) (t : State) (h : execBramWrite s = .next t) : Keeps 0xF7FFFFFFF97F s t := by
  unfold execBramWrite at h
  injection h with h
  subst h
  try dsimp -zeta only
  ((with_reducible apply keeps_serve); (intro _ _))
  (with_reducible apply keeps_actBramWrite); exact rfl
  repeat first | with_reducible exact Keeps.refl _ _ | with_reducible assumption
  exact (rfl : (_ : Nat) &&& _ = _)
  repeat first | with_reducible exact Keeps.refl _ _ | with_reducible assumption

theorem keeps_execTamperConfig (s : State) (t : State) (h : execTamperConfig s = .next t) : Keeps 0xF7FFFFFFF17F s t := by
  unfold execTamperConfig at h
  injection h with h
  subst h
  ((with_reducible apply keeps_serve); (intro _ _))
  (with_reducible apply keeps_actTamperConfig); exact rfl
  repeat first | with_reducible exact Keeps.refl _ _ | with_reducible assumption
  exact (rfl : (_ : Nat) &&& _ = _)
  repeat first | with_reducible exact Keeps.refl _ _ | with_reducible assumption

end Sys2Proof.Laws
end

