-- ==== Sys2Proof/Laws/Frames/Meter.lean ====
section
/-!
SUPPORT. Frames of the operations of Machine/Meter.lean.
-/
set_option Elab.async false
namespace Sys2Proof.Laws
open Sys2Proof Sys2Proof.Machine

theorem keeps_onFeeder (f : Nat) (g : Feeder → Feeder) (s : State) {mk : Nat} {s0 : State} (he : mk &&& 0xFFFFFFFBFFFF = mk) (hg : Keeps mk s0 s) :
    Keeps mk s0 (onFeeder f g s) := by
  refine Keeps.via ?_ he hg
  unfold onFeeder
  try dsimp -zeta only
  ((try lift_lets); intro xL; clear_value xL)
  (with_reducible apply Keeps.set_mtr); exact rfl
  repeat first | with_reducible exact Keeps.refl _ _ | with_reducible assumption

theorem keeps_abandonCal (f : Nat) (s : State) {mk : Nat} {s0 : State} (he : mk &&& 0xFFFFFDFBF9DF = mk) (hg : Keeps mk s0 s) :
    Keeps mk s0 (abandonCal f s) := by
  refine Keeps.via ?_ he hg
  unfold abandonCal
  try dsimp -zeta only
  split
  repeat first | with_reducible exact Keeps.refl _ _ | with_reducible assumption
  (with_reducible apply keeps_completeFail); exact rfl
  (with_reducible apply keeps_stopAct); exact rfl
  (with_reducible apply keeps_tlCancel); exact rfl
  (with_reducible apply keeps_onFeeder); exact rfl
  repeat first | with_reducible exact Keeps.refl _ _ | with_reducible assumption

theorem keeps_accountPulses (es : List (List Energies)) (ticks : Nat) (s : State) {mk : Nat} {s0 : State} (he : mk &&& 0xFFFFFFFBF7FF = mk) (hg : Keeps mk s0 s) :
    Keeps mk s0 (accountPulses es ticks s) := by
  refine Keeps.via ?_ he hg
  unfold accountPulses
  try dsimp -zeta only
  ((with_reducible apply Keeps.fold); (intro _ _))
  ((try lift_lets); intro xL; clear_value xL)
  (intro xL; clear_value xL)
  (intro xL; clear_value xL)
  (intro sL; with_reducible refine Keeps.cut sL ?_ ?_; rotate_left; (intro kL; clear_value sL); rotate_right; subst sL; try dsimp -zeta only)
  (with_reducible apply Keeps.set_mtr); exact rfl
  repeat first | with_reducible exact Keeps.refl _ _ | with_reducible assumption
  split
  repeat first | with_reducible exact Keeps.refl _ _ | with_reducible assumption
  split
  (with_reducible apply keeps_logLim); exact rfl
  repeat first | with_reducible exact Keeps.refl _ _ | with_reducible assumption

theorem keeps_openInterval (f : Nat) (flags : Nat) (s : State) {mk : Nat} {s0 : State} (he : mk &&& 0xFFFFFFFBFFFF = mk) (hg : Keeps mk s0 s) :
    Keeps mk s0 (openInterval f flags s) := by
  refine Keeps.via ?_ he hg
  unfold openInterval
  try dsimp -zeta only
  ((try lift_lets); intro xL; clear_value xL)
  (with_reducible apply keeps_onFeeder); exact rfl
  repeat first | with_reducible exact Keeps.refl _ _ | with_reducible assumption

theorem keeps_flagInterval (q : Nat) (f : Nat) (s : State) {mk : Nat} {s0 : State} (he : mk &&& 0xFFFFFFFBFFFF = mk) (hg : Keeps mk s0 s) :
    Keeps mk s0 (flagInterval q f s) := by
  refine Keeps.via ?_ he hg
  unfold flagInterval
  try dsimp -zeta only
  (with_reducible apply keeps_onFeeder); exact rfl
  repeat first | with_reducible exact Keeps.refl _ _ | with_reducible assumption

theorem keeps_latchCycle (s : State) {mk : Nat} {s0 : State} (he : mk &&& 0xFFFFFFFBFFFF = mk) (hg : Keeps mk s0 s) :
    Keeps mk s0 (latchCycle s) := by
  refine Keeps.via ?_ he hg
  unfold latchCycle
  try dsimp -zeta only
  ((try lift_lets); intro xL; clear_value xL)
  (with_reducible apply Keeps.set_mtr); exact rfl
  repeat first | with_reducible exact Keeps.refl _ _ | with_reducible assumption

theorem keeps_mtrReturn (since : Nat) (s : State) {mk : Nat} {s0 : State} (he : mk &&& 0xFFFFFFFBF7FF = mk) (hg : Keeps mk s0 s) :
    Keeps mk s0 (mtrReturn since s) := by
  refine Keeps.via ?_ he hg
  unfold mtrReturn
  try dsimp -zeta only
  ((try lift_lets); intro xL; clear_value xL)
  (intro sL; with_reducible refine Keeps.cut sL ?_ ?_; rotate_left; (intro kL; clear_value sL); rotate_right; subst sL; try dsimp -zeta only)
  ((with_reducible apply Keeps.fold); (intro _ _))
  ((try lift_lets); intro xL; clear_value xL)
  split
  (with_reducible apply keeps_logEv); exact rfl
  (with_reducible apply keeps_flagInterval); exact rfl
  repeat first | with_reducible exact Keeps.refl _ _ | with_reducible assumption
  split
  (with_reducible apply keeps_latchCycle); exact rfl
  repeat first | with_reducible exact Keeps.refl _ _ | with_reducible assumption

theorem keeps_trySave (trigger : Nat) (fails : Nat) (s : State) {mk : Nat} {s0 : State} (he : mk &&& 0xFFFFFFFBF7FF = mk) (hg : Keeps mk s0 s) :
    Keeps mk s0 (trySave trigger fails s) := by
  refine Keeps.via ?_ he hg
  unfold trySave
  try dsimp -zeta only
  ((try lift_lets); intro xL; clear_value xL)
  split
  (with_reducible apply Keeps.set_mtr); exact rfl
  repeat first | with_reducible exact Keeps.refl _ _ | with_reducible assumption
  (with_reducible apply keeps_logEv); exact rfl
  (with_reducible apply Keeps.set_mtr); exact rfl
  repeat first | with_reducible exact Keeps.refl _ _ | with_reducible assumption

theorem keeps_mtrWithdraw (fails : Nat) (s : State) {mk : Nat} {s0 : State} (he : mk &&& 0xFFFFFDFBF1DF = mk) (hg : Keeps mk s0 s) :
    Keeps mk s0 (mtrWithdraw fails s) := by
  refine Keeps.via ?_ he hg
  unfold mtrWithdraw
  try dsimp -zeta only
  ((try lift_lets); intro sL; with_reducible refine Keeps.cut sL ?_ ?_; rotate_left; (intro kL; clear_value sL); rotate_right; subst sL; try dsimp -zeta only)
  split
  (with_reducible apply keeps_trySave); exact rfl
  repeat first | with_reducible exact Keeps.refl _ _ | with_reducible assumption
  ((with_reducible apply Keeps.fold); (intro _ _))
  (with_reducible apply keeps_abandonCal); exact rfl
  repeat first | with_reducible exact Keeps.refl _ _ | with_reducible assumption
  (with_reducible apply Keeps.set_mtr); exact rfl
  repeat first | with_reducible exact Keeps.refl _ _ | with_reducible assumption

theorem keeps_cutInterval (f : Nat) (flags : Nat) (s : State) {mk : Nat} {s0 : State} (he : mk &&& 0xFFFFFFFBFFFF = mk) (hg : Keeps mk s0 s) :
    Keeps mk s0 (cutInterval f flags s) := by
  refine Keeps.via ?_ he hg
  unfold cutInterval
  try dsimp -zeta only
  ((try lift_lets); intro xL; clear_value xL)
  split
  repeat first | with_reducible exact Keeps.refl _ _ | with_reducible assumption
  ((try lift_lets); intro xL; clear_value xL)
  (intro xL; clear_value xL)
  (intro xL; clear_value xL)
  (intro sL; with_reducible refine Keeps.cut sL ?_ ?_; rotate_left; (intro kL; clear_value sL); rotate_right; subst sL; try dsimp -zeta only)
  (with_reducible apply keeps_onFeeder); exact rfl
  repeat first | with_reducible exact Keeps.refl _ _ | with_reducible assumption
  (with_reducible apply Keeps.set_mtr); exact rfl
  repeat first | with_reducible exact Keeps.refl _ _ | with_reducible assumption

theorem keeps_closeOne (s : State) (f : Nat) {mk : Nat} {s0 : State} (he : mk &&& 0xFFFFFFFBFFFF = mk) (hg : Keeps mk s0 s) :
    Keeps mk s0 (closeOne s f) := by
  refine Keeps.via ?_ he hg
  unfold closeOne
  try dsimp -zeta only
  split
  repeat first | with_reducible exact Keeps.refl _ _ | with_reducible assumption
  ((try lift_lets); intro xL; clear_value xL)
  (intro xL; clear_value xL)
  (intro sL; with_reducible refine Keeps.cut sL ?_ ?_; rotate_left; (intro kL; clear_value sL); rotate_right; subst sL; try dsimp -zeta only)
  (with_reducible apply keeps_cutInterval); exact rfl
  repeat first | with_reducible exact Keeps.refl _ _ | with_reducible assumption
  split
  (with_reducible apply keeps_openInterval); exact rfl
  repeat first | with_reducible exact Keeps.refl _ _ | with_reducible assumption

theorem keeps_closeAll (s : State) {mk : Nat} {s0 : State} (he : mk &&& 0xFFFFFFFBFFFF = mk) (hg : Keeps mk s0 s) :
    Keeps mk s0 (closeAll s) := by
  refine Keeps.via ?_ he hg
  unfold closeAll
  try dsimp -zeta only
  ((with_reducible apply Keeps.fold); (intro _ _))
  (with_reducible apply keeps_closeOne); exact rfl
  repeat first | with_reducible exact Keeps.refl _ _ | with_reducible assumption

theorem keeps_logOwedLost (s : State) {mk : Nat} {s0 : State} (he : mk &&& 0xFFFFFFFBF7FF = mk) (hg : Keeps mk s0 s) :
    Keeps mk s0 (logOwedLost s) := by
  refine Keeps.via ?_ he hg
  unfold logOwedLost
  try dsimp -zeta only
  ((try lift_lets); intro sL; with_reducible refine Keeps.cut sL ?_ ?_; rotate_left; (intro kL; clear_value sL); rotate_right; subst sL; try dsimp -zeta only)
  ((with_reducible apply Keeps.fold); (intro _ _))
  split
  repeat first | with_reducible exact Keeps.refl _ _ | with_reducible assumption
  (with_reducible apply keeps_logNs); exact rfl
  repeat first | with_reducible exact Keeps.refl _ _ | with_reducible assumption
  (with_reducible apply Keeps.set_mtr); exact rfl
  repeat first | with_reducible exact Keeps.refl _ _ | with_reducible assumption

theorem keeps_loadSave (v : MtrSave) (res : Option (List Word)) (s : State) {mk : Nat} {s0 : State} (he : mk &&& 0xFFFFFFFBFFFF = mk) (hg : Keeps mk s0 s) :
    Keeps mk s0 (loadSave v res s) := by
  refine Keeps.via ?_ he hg
  unfold loadSave
  try dsimp -zeta only
  ((try lift_lets); intro xL; clear_value xL)
  (intro xL; subst xL; try dsimp -zeta only)
  ((try lift_lets); intro xL; clear_value xL)
  split
  (with_reducible apply Keeps.set_mtr); exact rfl
  repeat first | with_reducible exact Keeps.refl _ _ | with_reducible assumption
  ((try lift_lets); intro xL; clear_value xL)
  (with_reducible apply Keeps.set_mtr); exact rfl
  repeat first | with_reducible exact Keeps.refl _ _ | with_reducible assumption

theorem keeps_meterRestore (s : State) {mk : Nat} {s0 : State} (he : mk &&& 0xFFFFFFFBF7FF = mk) (hg : Keeps mk s0 s) :
    Keeps mk s0 (meterRestore s) := by
  refine Keeps.via ?_ he hg
  unfold meterRestore
  try dsimp -zeta only
  ((try lift_lets); intro sL; with_reducible refine Keeps.cut sL ?_ ?_; rotate_left; (intro kL; clear_value sL); rotate_right; subst sL; try dsimp -zeta only)
  (with_reducible apply keeps_logOwedLost); exact rfl
  repeat first | with_reducible exact Keeps.refl _ _ | with_reducible assumption
  split
  repeat first | with_reducible exact Keeps.refl _ _ | with_reducible assumption
  split
  ((try lift_lets); intro sL; with_reducible refine Keeps.cut sL ?_ ?_; rotate_left; (intro kL; clear_value sL); rotate_right; subst sL; try dsimp -zeta only)
  ((try lift_lets); intro sL; with_reducible refine Keeps.cut sL ?_ ?_; rotate_left; (intro kL; clear_value sL); rotate_right; subst sL; try dsimp -zeta only)
  ((with_reducible apply Keeps.fold); (intro _ _))
  (with_reducible apply keeps_cutInterval); exact rfl
  repeat first | with_reducible exact Keeps.refl _ _ | with_reducible assumption
  (with_reducible apply keeps_loadSave); exact rfl
  repeat first | with_reducible exact Keeps.refl _ _ | with_reducible assumption
  (with_reducible apply Keeps.set_mtr); exact rfl
  repeat first | with_reducible exact Keeps.refl _ _ | with_reducible assumption
  (with_reducible apply keeps_logEv); exact rfl
  (with_reducible apply Keeps.set_mtr); exact rfl
  repeat first | with_reducible exact Keeps.refl _ _ | with_reducible assumption
  ((with_reducible apply Keeps.fold); (intro _ _))
  split
  (with_reducible apply keeps_logEv); exact rfl
  repeat first | with_reducible exact Keeps.refl _ _ | with_reducible assumption
  split
  (with_reducible apply Keeps.set_mtr); exact rfl
  (with_reducible apply Keeps.set_mtr); exact rfl
  ((with_reducible apply Keeps.fold); (intro _ _))
  (with_reducible apply keeps_cutInterval); exact rfl
  repeat first | with_reducible exact Keeps.refl _ _ | with_reducible assumption
  (with_reducible apply keeps_loadSave); exact rfl
  repeat first | with_reducible exact Keeps.refl _ _ | with_reducible assumption
  (with_reducible apply Keeps.set_mtr); exact rfl
  (with_reducible apply Keeps.set_mtr); exact rfl
  ((with_reducible apply Keeps.fold); (intro _ _))
  (with_reducible apply keeps_cutInterval); exact rfl
  repeat first | with_reducible exact Keeps.refl _ _ | with_reducible assumption

theorem keeps_noteReport (ep : Nat) (cyc : Nat) (energy : Nat) (s : State) {mk : Nat} {s0 : State} (he : mk &&& 0xFFFFFFFBFFFF = mk) (hg : Keeps mk s0 s) :
    Keeps mk s0 (noteReport ep cyc energy s) := by
  refine Keeps.via ?_ he hg
  unfold noteReport
  try dsimp -zeta only
  ((try lift_lets); intro xL; clear_value xL)
  split
  repeat first | with_reducible exact Keeps.refl _ _ | with_reducible assumption
  (with_reducible apply Keeps.set_mtr); exact rfl
  repeat first | with_reducible exact Keeps.refl _ _ | with_reducible assumption

theorem keeps_writeResidue (s : State) {mk : Nat} {s0 : State} (he : mk &&& 0xFFFFFFFBFF7F = mk) (hg : Keeps mk s0 s) :
    Keeps mk s0 (writeResidue s) := by
  refine Keeps.via ?_ he hg
  unfold writeResidue
  try dsimp -zeta only
  ((try lift_lets); intro xL; clear_value xL)
  (intro xL; clear_value xL)
  (intro xL; clear_value xL)
  (intro xL; clear_value xL)
  (with_reducible apply Keeps.upd)
  · exact fun _ => rfl
  · exact fun _ => rfl
  · exact fun _ => rfl
  · exact fun _ => rfl
  · exact fun _ => rfl
  · exact fun _ => rfl
  · exact fun h => Bool.noConfusion h
  · exact fun _ => rfl
  · exact fun _ => rfl
  · exact fun _ => rfl
  · exact fun _ => rfl
  · exact fun _ => rfl
  · exact fun _ => rfl
  · exact fun _ => rfl
  · exact fun _ => rfl
  · exact fun _ => rfl
  · exact fun _ => rfl
  · exact fun h => Bool.noConfusion h
  · exact fun _ => rfl
  · exact fun _ => rfl
  · exact fun _ => rfl
  · exact fun _ => rfl
  · exact fun _ => rfl
  · exact fun _ => rfl
  · exact fun _ => rfl
  · exact fun _ => rfl
  · exact fun _ => rfl
  · exact fun _ => rfl
  · exact fun _ => rfl
  · exact fun _ => rfl
  · exact fun _ => rfl
  · exact fun _ => rfl
  · exact fun _ => rfl
  · exact fun _ => rfl
  · exact fun _ => rfl
  · exact fun _ => rfl
  · exact fun _ => rfl
  · exact fun _ => rfl
  · exact fun _ => rfl
  · exact fun _ => rfl
  · exact fun _ => rfl
  · exact fun _ => rfl
  · exact fun _ => rfl
  · exact fun _ => rfl
  · exact fun _ _ h => h
  · exact fun _ h => ⟨h, rfl⟩
  · exact fun _ h => h
  repeat first | with_reducible exact Keeps.refl _ _ | with_reducible assumption

theorem keeps_openFirst (s : State) {mk : Nat} {s0 : State} (he : mk &&& 0xFFFFFFFBFFFF = mk) (hg : Keeps mk s0 s) :
    Keeps mk s0 (openFirst s) := by
  refine Keeps.via ?_ he hg
  unfold openFirst
  try dsimp -zeta only
  ((with_reducible apply Keeps.fold); (intro _ _))
  split
  (with_reducible apply keeps_openInterval); exact rfl
  repeat first | with_reducible exact Keeps.refl _ _ | with_reducible assumption

theorem keeps_reloadMeter (s : State) {mk : Nat} {s0 : State} (he : mk &&& 0xFFFFFFFBF7FF = mk) (hg : Keeps mk s0 s) :
    Keeps mk s0 (reloadMeter s) := by
  refine Keeps.via ?_ he hg
  unfold reloadMeter
  try dsimp -zeta only
  ((try lift_lets); intro xL; clear_value xL)
  (intro sL; with_reducible refine Keeps.cut sL ?_ ?_; rotate_left; (intro kL; clear_value sL); rotate_right; subst sL; try dsimp -zeta only)
  (with_reducible apply keeps_meterRestore); exact rfl
  (with_reducible apply Keeps.set_mtr); exact rfl
  repeat first | with_reducible exact Keeps.refl _ _ | with_reducible assumption
  ((with_reducible apply Keeps.fold); (intro _ _))
  split
  (with_reducible apply keeps_openInterval); exact rfl
  repeat first | with_reducible exact Keeps.refl _ _ | with_reducible assumption

theorem keeps_feederCycle (f : Nat) (cyc : Nat) (ticks : Nat) (c : FeederCycle) (s : State) {mk : Nat} {s0 : State} (he : mk &&& 0xFFFFFFFBF7FF = mk) (hg : Keeps mk s0 s) :
    Keeps mk s0 (feederCycle f cyc ticks c s).1 := by
  refine Keeps.via ?_ he hg
  unfold feederCycle
  try dsimp -zeta only
  ((try lift_lets); intro xL; clear_value xL)
  (intro xL; clear_value xL)
  (intro xL; clear_value xL)
  (intro xL; clear_value xL)
  (intro xL; clear_value xL)
  (intro xL; clear_value xL)
  (intro xL; clear_value xL)
  (intro xL; clear_value xL)
  (intro xL; clear_value xL)
  (intro xL; clear_value xL)
  (intro sL; with_reducible refine Keeps.cut sL ?_ ?_; rotate_left; (intro kL; clear_value sL); rotate_right; subst sL; try dsimp -zeta only)
  (with_reducible apply keeps_onFeeder); exact rfl
  repeat first | with_reducible exact Keeps.refl _ _ | with_reducible assumption
  ((with_reducible apply Keeps.fold); (intro _ _))
  ((try lift_lets); intro xL; clear_value xL)
  (intro xL; clear_value xL)
  split
  repeat first | with_reducible exact Keeps.refl _ _ | with_reducible assumption
  (with_reducible apply keeps_logEv); exact rfl
  repeat first | with_reducible exact Keeps.refl _ _ | with_reducible assumption

theorem keeps_feederCycle_eq {f : Nat} {cyc : Nat} {ticks : Nat} {c : FeederCycle} {s : State} {mk : Nat} {s0 sq : State} {w} (hq : feederCycle f cyc ticks c s = (sq, w)) (he : mk &&& 0xFFFFFFFBF7FF = mk) (hg : Keeps mk s0 s) :
    Keeps mk s0 sq := by
  have := keeps_feederCycle (mk := mk) (s0 := s0) f cyc ticks c s he hg
  rw [hq] at this
  exact this

theorem keeps_noteStep (s : State) {mk : Nat} {s0 : State} (he : mk &&& 0xFFFFFFFBFFFF = mk) (hg : Keeps mk s0 s) :
    Keeps mk s0 (noteStep s) := by
  refine Keeps.via ?_ he hg
  unfold noteStep
  try dsimp -zeta only
  ((try lift_lets); intro xL; clear_value xL)
  split
  repeat first | with_reducible exact Keeps.refl _ _ | with_reducible assumption
  (with_reducible apply Keeps.set_mtr); exact rfl
  repeat first | with_reducible exact Keeps.refl _ _ | with_reducible assumption

theorem keeps_execMeterCycleEnd (c : List FeederCycle) (s : State) (t : State) (h : execMeterCycleEnd c s = .next t) : Keeps 0xFFFFFFFBF77F s t := by
  unfold execMeterCycleEnd at h
  injection h with h
  subst h
  try dsimp -zeta only
  ((try lift_lets); intro xL; clear_value xL)
  (intro sL; with_reducible refine Keeps.cut sL ?_ ?_; rotate_left; (intro kL; clear_value sL); rotate_right; subst sL; try dsimp -zeta only)
  (with_reducible apply keeps_closeAll); exact rfl
  split
  (with_reducible apply keeps_reloadMeter); exact rfl
  repeat first | with_reducible exact Keeps.refl _ _ | with_reducible assumption
  split
  repeat first | with_reducible exact Keeps.refl _ _ | with_reducible assumption
  split
  (with_reducible apply keeps_writeResidue); exact rfl
  (with_reducible apply keeps_openFirst); exact rfl
  (with_reducible apply keeps_latchCycle); exact rfl
  (with_reducible apply Keeps.set_mtr); exact rfl
  repeat first | with_reducible exact Keeps.refl _ _ | with_reducible assumption
  split
  repeat first | with_reducible exact Keeps.refl _ _ | with_reducible assumption
  (with_reducible apply keeps_noteStep); exact rfl
  (with_reducible apply keeps_writeResidue); exact rfl
  (with_reducible apply keeps_accountPulses); exact rfl
  (with_reducible apply keeps_latchCycle); exact rfl
  (with_reducible apply Keeps.set_mtr); exact rfl
  ((with_reducible apply Keeps.foldFst); (intro _ _))
  split
  (with_reducible apply keeps_feederCycle); exact rfl
  repeat first | with_reducible exact Keeps.refl _ _ | with_reducible assumption

theorem keeps_execEvMeterOverrange (k : Nat) (density : Nat) (s : State) (t : State) (h : execEvMeterOverrange k density s = .next t) : Keeps 0xFFFFFFFBF7FF s t := by
  unfold execEvMeterOverrange at h
  injection h with h
  subst h
  try dsimp -zeta only
  split
  ((with_reducible apply Keeps.fold); (intro _ _))
  (with_reducible apply keeps_logLim); exact rfl
  (with_reducible apply keeps_flagInterval); exact rfl
  repeat first | with_reducible exact Keeps.refl _ _ | with_reducible assumption

theorem keeps_execEvMeterInputFault (k : Nat) (idle : Nat) (locked : Bool) (s : State) (t : State) (h : execEvMeterInputFault k idle locked s = .next t) : Keeps 0xFFFFFFFBF7FF s t := by
  unfold execEvMeterInputFault at h
  injection h with h
  subst h
  try dsimp -zeta only
  ((try lift_lets); intro xL; clear_value xL)
  (intro xL; clear_value xL)
  (intro xL; clear_value xL)
  (intro sL; with_reducible refine Keeps.cut sL ?_ ?_; rotate_left; (intro kL; clear_value sL); rotate_right; subst sL; try dsimp -zeta only)
  (with_reducible apply keeps_logEv); exact rfl
  (with_reducible apply Keeps.set_mtr); exact rfl
  repeat first | with_reducible exact Keeps.refl _ _ | with_reducible assumption
  split
  ((with_reducible apply Keeps.fold); (intro _ _))
  (with_reducible apply keeps_flagInterval); exact rfl
  repeat first | with_reducible exact Keeps.refl _ _ | with_reducible assumption

theorem keeps_pruneReports (s : State) {mk : Nat} {s0 : State} (he : mk &&& 0xFFFFFFFBFFFF = mk) (hg : Keeps mk s0 s) :
    Keeps mk s0 (pruneReports s) := by
  refine Keeps.via ?_ he hg
  unfold pruneReports
  try dsimp -zeta only
  ((try lift_lets); intro xL; clear_value xL)
  (intro xL; clear_value xL)
  (intro xL; clear_value xL)
  (with_reducible apply Keeps.set_mtr); exact rfl
  repeat first | with_reducible exact Keeps.refl _ _ | with_reducible assumption

theorem keeps_judgeDue (s : State) (f : Nat) {mk : Nat} {s0 : State} (he : mk &&& 0xFFFFFFFBF7FF = mk) (hg : Keeps mk s0 s) :
    Keeps mk s0 (judgeDue s f) := by
  refine Keeps.via ?_ he hg
  unfold judgeDue
  try dsimp -zeta only
  split
  repeat first | with_reducible exact Keeps.refl _ _ | with_reducible assumption
  ((try lift_lets); intro xL; clear_value xL)
  (intro sL; with_reducible refine Keeps.cut sL ?_ ?_; rotate_left; (intro kL; clear_value sL); rotate_right; subst sL; try dsimp -zeta only)
  (with_reducible apply keeps_onFeeder); exact rfl
  repeat first | with_reducible exact Keeps.refl _ _ | with_reducible assumption
  split
  (with_reducible apply keeps_logNs); exact rfl
  repeat first | with_reducible exact Keeps.refl _ _ | with_reducible assumption

theorem keeps_execIntervalClose (s : State) (t : State) (h : execIntervalClose s = .next t) : Keeps 0xFFFFFFFBF7FF s t := by
  unfold execIntervalClose at h
  injection h with h
  subst h
  try dsimp -zeta only
  ((try lift_lets); intro xL; clear_value xL)
  (intro sL; with_reducible refine Keeps.cut sL ?_ ?_; rotate_left; (intro kL; clear_value sL); rotate_right; subst sL; try dsimp -zeta only)
  ((with_reducible apply Keeps.fold); (intro _ _))
  (with_reducible apply keeps_closeOne); exact rfl
  repeat first | with_reducible exact Keeps.refl _ _ | with_reducible assumption
  split
  repeat first | with_reducible exact Keeps.refl _ _ | with_reducible assumption
  split
  repeat first | with_reducible exact Keeps.refl _ _ | with_reducible assumption
  (with_reducible apply keeps_pruneReports); exact rfl
  ((with_reducible apply Keeps.fold); (intro _ _))
  (with_reducible apply keeps_judgeDue); exact rfl
  repeat first | with_reducible exact Keeps.refl _ _ | with_reducible assumption
  (with_reducible apply Keeps.set_mtr); exact rfl
  repeat first | with_reducible exact Keeps.refl _ _ | with_reducible assumption

theorem keeps_execMeterSave (fails : Nat) (s : State) (t : State) (h : execMeterSave fails s = .next t) : Keeps 0xFFFFFFFBF7FF s t := by
  unfold execMeterSave at h
  injection h with h
  subst h
  try dsimp -zeta only
  split
  split
  (with_reducible apply keeps_trySave); exact rfl
  repeat first | with_reducible exact Keeps.refl _ _ | with_reducible assumption
  split
  (with_reducible apply keeps_trySave); exact rfl
  repeat first | with_reducible exact Keeps.refl _ _ | with_reducible assumption

theorem keeps_execMeterSaveRetry (fails : Nat) (s : State) (t : State) (h : execMeterSaveRetry fails s = .next t) : Keeps 0xFFFFFFFBF7FF s t := by
  unfold execMeterSaveRetry at h
  injection h with h
  subst h
  try dsimp -zeta only
  split
  split
  (with_reducible apply keeps_trySave); exact rfl
  repeat first | with_reducible exact Keeps.refl _ _ | with_reducible assumption

theorem keeps_execPulseStart (k : Nat) (s : State) (t : State) (h : execPulseStart k s = .next t) : Keeps 0xFFFFFFFBFFFF s t := by
  unfold execPulseStart at h
  injection h with h
  subst h
  try dsimp -zeta only
  ((try lift_lets); intro xL; clear_value xL)
  (intro xL; clear_value xL)
  split
  (with_reducible apply Keeps.set_mtr); exact rfl
  repeat first | with_reducible exact Keeps.refl _ _ | with_reducible assumption

end Sys2Proof.Laws
end

