-- ==== Sys2Proof/Laws/Frames/Receive.lean ====
section
/-!
SUPPORT. Frames of the operations of Machine/Receive.lean.
-/
set_option Elab.async false
namespace Sys2Proof.Laws
open Sys2Proof Sys2Proof.Machine

theorem keeps_ackedTxn (f : MacFrame) (src : FrameSrc) (s : State) {mk : Nat} {s0 : State} (he : mk &&& 0xFDFFFFEC01F1 = mk) (hg : Keeps mk s0 s) :
    Keeps mk s0 (ackedTxn f src s) := by
  refine Keeps.via ?_ he hg
  unfold ackedTxn
  try dsimp -zeta only
  split
  split
  repeat first | with_reducible exact Keeps.refl _ _ | with_reducible assumption
  split
  split
  (with_reducible apply keeps_confirmTxn); exact rfl
  repeat first | with_reducible exact Keeps.refl _ _ | with_reducible assumption
  (with_reducible apply keeps_awaitTxn); exact rfl
  repeat first | with_reducible exact Keeps.refl _ _ | with_reducible assumption
  (with_reducible apply keeps_awaitTxn); exact rfl
  repeat first | with_reducible exact Keeps.refl _ _ | with_reducible assumption

theorem keeps_acked (n : Nat) (ep : Nat) (g : Frame) (f : MacFrame) (s : State) {mk : Nat} {s0 : State} (he : mk &&& 0xFDFFFFEC01F1 = mk) (hg : Keeps mk s0 s) :
    Keeps mk s0 (acked n ep g f s) := by
  refine Keeps.via ?_ he hg
  unfold acked updEp updLink
  try dsimp -zeta only
  ((try lift_lets); intro xL; subst xL)
  (intro sL; with_reducible refine Keeps.cut sL ?_ ?_; rotate_left; (intro kL; clear_value sL); rotate_right; subst sL; try dsimp -zeta only)
  (with_reducible apply keeps_heardFrom); exact rfl
  split
  repeat first | with_reducible exact Keeps.refl _ _ | with_reducible assumption
  (with_reducible apply Keeps.set_lat); exact rfl
  repeat first | with_reducible exact Keeps.refl _ _ | with_reducible assumption
  split
  split
  (with_reducible apply keeps_deliver); exact rfl
  (with_reducible apply keeps_ackedTxn); exact rfl
  (with_reducible apply keeps_delivered); exact rfl
  repeat first | with_reducible exact Keeps.refl _ _ | with_reducible assumption
  (with_reducible apply keeps_ackedTxn); exact rfl
  (with_reducible apply keeps_delivered); exact rfl
  repeat first | with_reducible exact Keeps.refl _ _ | with_reducible assumption
  split
  (with_reducible apply keeps_deliver); exact rfl
  (with_reducible apply keeps_ackedTxn); exact rfl
  (with_reducible apply keeps_delivered); exact rfl
  (with_reducible apply Keeps.set_mac); exact rfl
  repeat first | with_reducible exact Keeps.refl _ _ | with_reducible assumption
  (with_reducible apply keeps_ackedTxn); exact rfl
  (with_reducible apply keeps_delivered); exact rfl
  (with_reducible apply Keeps.set_mac); exact rfl
  repeat first | with_reducible exact Keeps.refl _ _ | with_reducible assumption

theorem keeps_revokePoll (n : Nat) (pop : Nat) (s : State) {mk : Nat} {s0 : State} (he : mk &&& 0xFFFFFFFF77FF = mk) (hg : Keeps mk s0 s) :
    Keeps mk s0 (revokePoll n pop s) := by
  refine Keeps.via ?_ he hg
  unfold revokePoll
  try dsimp -zeta only
  ((try lift_lets); intro xL; clear_value xL)
  (intro xL; clear_value xL)
  split
  repeat first | with_reducible exact Keeps.refl _ _ | with_reducible assumption
  (with_reducible apply keeps_logNs); exact rfl
  ((with_reducible apply Keeps.fold); (intro _ _))
  (with_reducible apply keeps_startOwn); exact rfl
  repeat first | with_reducible exact Keeps.refl _ _ | with_reducible assumption

theorem keeps_admitJoin (rejoin : Bool) (n : Nat) (ep : Nat) (r : EpRec) (m : RxMsg) (s : State) {mk : Nat} {s0 : State} (he : mk &&& 0xFDFFFFFF37FF = mk) (hg : Keeps mk s0 s) :
    Keeps mk s0 (admitJoin rejoin n ep r m s) := by
  refine Keeps.via ?_ he hg
  unfold admitJoin updEp
  try dsimp -zeta only
  ((try lift_lets); intro xL; clear_value xL)
  (intro sL; with_reducible refine Keeps.cut sL ?_ ?_; rotate_left; (intro kL; clear_value sL); rotate_right; subst sL; try dsimp -zeta only)
  split
  (with_reducible apply keeps_learnRoute); exact rfl
  repeat first | with_reducible exact Keeps.refl _ _ | with_reducible assumption
  (with_reducible apply keeps_startTxn); exact rfl
  split
  split
  split
  split
  (with_reducible apply keeps_revokePoll); exact rfl
  (with_reducible apply keeps_logLim); exact rfl
  (with_reducible apply keeps_countUsers); exact rfl
  (with_reducible apply keeps_writeRec); exact rfl
  repeat first | with_reducible exact Keeps.refl _ _ | with_reducible assumption
  (with_reducible apply keeps_logLim); exact rfl
  (with_reducible apply keeps_countUsers); exact rfl
  (with_reducible apply keeps_writeRec); exact rfl
  repeat first | with_reducible exact Keeps.refl _ _ | with_reducible assumption
  split
  (with_reducible apply keeps_revokePoll); exact rfl
  (with_reducible apply keeps_logLim); exact rfl
  (with_reducible apply keeps_countUsers); exact rfl
  (with_reducible apply keeps_writeRec); exact rfl
  (with_reducible apply Keeps.set_lat); exact rfl
  repeat first | with_reducible exact Keeps.refl _ _ | with_reducible assumption
  (with_reducible apply keeps_logLim); exact rfl
  (with_reducible apply keeps_countUsers); exact rfl
  (with_reducible apply keeps_writeRec); exact rfl
  (with_reducible apply Keeps.set_lat); exact rfl
  repeat first | with_reducible exact Keeps.refl _ _ | with_reducible assumption
  split
  split
  (with_reducible apply keeps_revokePoll); exact rfl
  (with_reducible apply keeps_logLim); exact rfl
  (with_reducible apply keeps_countUsers); exact rfl
  (with_reducible apply keeps_writeRec); exact rfl
  (with_reducible apply keeps_acceptCtr); exact rfl
  repeat first | with_reducible exact Keeps.refl _ _ | with_reducible assumption
  (with_reducible apply keeps_logLim); exact rfl
  (with_reducible apply keeps_countUsers); exact rfl
  (with_reducible apply keeps_writeRec); exact rfl
  (with_reducible apply keeps_acceptCtr); exact rfl
  repeat first | with_reducible exact Keeps.refl _ _ | with_reducible assumption
  split
  (with_reducible apply keeps_revokePoll); exact rfl
  (with_reducible apply keeps_logLim); exact rfl
  (with_reducible apply keeps_countUsers); exact rfl
  (with_reducible apply keeps_writeRec); exact rfl
  (with_reducible apply keeps_acceptCtr); exact rfl
  (with_reducible apply Keeps.set_lat); exact rfl
  repeat first | with_reducible exact Keeps.refl _ _ | with_reducible assumption
  (with_reducible apply keeps_logLim); exact rfl
  (with_reducible apply keeps_countUsers); exact rfl
  (with_reducible apply keeps_writeRec); exact rfl
  (with_reducible apply keeps_acceptCtr); exact rfl
  (with_reducible apply Keeps.set_lat); exact rfl
  repeat first | with_reducible exact Keeps.refl _ _ | with_reducible assumption
  split
  split
  split
  (with_reducible apply keeps_revokePoll); exact rfl
  (with_reducible apply keeps_countUsers); exact rfl
  (with_reducible apply keeps_writeRec); exact rfl
  repeat first | with_reducible exact Keeps.refl _ _ | with_reducible assumption
  (with_reducible apply keeps_countUsers); exact rfl
  (with_reducible apply keeps_writeRec); exact rfl
  repeat first | with_reducible exact Keeps.refl _ _ | with_reducible assumption
  split
  (with_reducible apply keeps_revokePoll); exact rfl
  (with_reducible apply keeps_countUsers); exact rfl
  (with_reducible apply keeps_writeRec); exact rfl
  (with_reducible apply Keeps.set_lat); exact rfl
  repeat first | with_reducible exact Keeps.refl _ _ | with_reducible assumption
  (with_reducible apply keeps_countUsers); exact rfl
  (with_reducible apply keeps_writeRec); exact rfl
  (with_reducible apply Keeps.set_lat); exact rfl
  repeat first | with_reducible exact Keeps.refl _ _ | with_reducible assumption
  split
  split
  (with_reducible apply keeps_revokePoll); exact rfl
  (with_reducible apply keeps_countUsers); exact rfl
  (with_reducible apply keeps_writeRec); exact rfl
  (with_reducible apply keeps_acceptCtr); exact rfl
  repeat first | with_reducible exact Keeps.refl _ _ | with_reducible assumption
  (with_reducible apply keeps_countUsers); exact rfl
  (with_reducible apply keeps_writeRec); exact rfl
  (with_reducible apply keeps_acceptCtr); exact rfl
  repeat first | with_reducible exact Keeps.refl _ _ | with_reducible assumption
  split
  (with_reducible apply keeps_revokePoll); exact rfl
  (with_reducible apply keeps_countUsers); exact rfl
  (with_reducible apply keeps_writeRec); exact rfl
  (with_reducible apply keeps_acceptCtr); exact rfl
  (with_reducible apply Keeps.set_lat); exact rfl
  repeat first | with_reducible exact Keeps.refl _ _ | with_reducible assumption
  (with_reducible apply keeps_countUsers); exact rfl
  (with_reducible apply keeps_writeRec); exact rfl
  (with_reducible apply keeps_acceptCtr); exact rfl
  (with_reducible apply Keeps.set_lat); exact rfl
  repeat first | with_reducible exact Keeps.refl _ _ | with_reducible assumption

theorem keeps_regrant (n : Nat) (ep : Nat) (s : State) {mk : Nat} {s0 : State} (he : mk &&& 0xFFFFFFFF7FFF = mk) (hg : Keeps mk s0 s) :
    Keeps mk s0 (regrant n ep s) := by
  refine Keeps.via ?_ he hg
  unfold regrant
  try dsimp -zeta only
  split
  (with_reducible apply keeps_startOwn); exact rfl
  repeat first | with_reducible exact Keeps.refl _ _ | with_reducible assumption

theorem keeps_noteContact (n : Nat) (ep : Nat) (ie : LinkIe) (tt : Nat) (s : State) {mk : Nat} {s0 : State} (he : mk &&& 0xFDFFFFFF07FF = mk) (hg : Keeps mk s0 s) :
    Keeps mk s0 (noteContact n ep ie tt s) := by
  refine Keeps.via ?_ he hg
  unfold noteContact updEp
  try dsimp -zeta only
  ((try lift_lets); intro xL; subst xL)
  (with_reducible apply keeps_regrant); exact rfl
  (with_reducible apply keeps_contact); exact rfl
  split
  (with_reducible apply keeps_withdrawTrain); exact rfl
  repeat first | with_reducible exact Keeps.refl _ _ | with_reducible assumption
  (with_reducible apply Keeps.set_lat); exact rfl
  (with_reducible apply keeps_withdrawTrain); exact rfl
  repeat first | with_reducible exact Keeps.refl _ _ | with_reducible assumption

theorem keeps_lateContacts (s : State) {mk : Nat} {s0 : State} (he : mk &&& 0xFDFFFFEC01F1 = mk) (hg : Keeps mk s0 s) :
    Keeps mk s0 (lateContacts s) := by
  refine Keeps.via ?_ he hg
  unfold lateContacts
  try dsimp -zeta only
  ((with_reducible apply Keeps.fold); (intro _ _))
  ((try lift_lets); intro sL; with_reducible refine Keeps.cut sL ?_ ?_; rotate_left; (intro kL; clear_value sL); rotate_right; subst sL; try dsimp -zeta only)
  ((with_reducible apply Keeps.fold); (intro _ _))
  split
  (with_reducible apply keeps_restageTrain); exact rfl
  (with_reducible apply keeps_noteContact); exact rfl
  repeat first | with_reducible exact Keeps.refl _ _ | with_reducible assumption
  (with_reducible apply keeps_updCe); exact rfl
  repeat first | with_reducible exact Keeps.refl _ _ | with_reducible assumption

theorem keeps_countEp (s : State) {mk : Nat} {s0 : State} (he : mk &&& 0xFFFFFFFF7FFF = mk) (hg : Keeps mk s0 s) :
    Keeps mk s0 (countEp s) := by
  refine Keeps.via ?_ he hg
  unfold countEp
  try dsimp -zeta only
  ((try lift_lets); intro sL; with_reducible refine Keeps.cut sL ?_ ?_; rotate_left; (intro kL; clear_value sL); rotate_right; subst sL; try dsimp -zeta only)
  (with_reducible apply keeps_rollRates); exact rfl
  repeat first | with_reducible exact Keeps.refl _ _ | with_reducible assumption
  (with_reducible apply Keeps.set_txn); exact rfl
  repeat first | with_reducible exact Keeps.refl _ _ | with_reducible assumption

theorem keeps_pushRing (n : Nat) (m : RxMsg) (s : State) {mk : Nat} {s0 : State} (he : mk &&& 0xFFFFFFFFEFFF = mk) (hg : Keeps mk s0 s) :
    Keeps mk s0 (pushRing n m s) := by
  refine Keeps.via ?_ he hg
  unfold pushRing
  try dsimp -zeta only
  (with_reducible apply keeps_updCe); exact rfl
  repeat first | with_reducible exact Keeps.refl _ _ | with_reducible assumption

theorem keeps_discardNet (n : Nat) (m : RxMsg) (s : State) {mk : Nat} {s0 : State} (he : mk &&& 0xFFFFFFFFCFFF = mk) (hg : Keeps mk s0 s) :
    Keeps mk s0 (discardNet n m s) := by
  refine Keeps.via ?_ he hg
  unfold discardNet
  try dsimp -zeta only
  (with_reducible apply keeps_pushRing); exact rfl
  (with_reducible apply keeps_updCnt); exact rfl
  repeat first | with_reducible exact Keeps.refl _ _ | with_reducible assumption

theorem keeps_secFail (n : Nat) (k : Nat) (s : State) {mk : Nat} {s0 : State} (he : mk &&& 0xFFFFFFFFD7FF = mk) (hg : Keeps mk s0 s) :
    Keeps mk s0 (secFail n k s) := by
  refine Keeps.via ?_ he hg
  unfold secFail
  try dsimp -zeta only
  ((try lift_lets); intro sL; with_reducible refine Keeps.cut sL ?_ ?_; rotate_left; (intro kL; clear_value sL); rotate_right; subst sL; try dsimp -zeta only)
  (with_reducible apply keeps_updMd); exact rfl
  repeat first | with_reducible exact Keeps.refl _ _ | with_reducible assumption
  split
  (with_reducible apply keeps_logLim); exact rfl
  (with_reducible apply keeps_updMd); exact rfl
  repeat first | with_reducible exact Keeps.refl _ _ | with_reducible assumption
  (with_reducible apply keeps_logLim); exact rfl
  repeat first | with_reducible exact Keeps.refl _ _ | with_reducible assumption

theorem keeps_useRx (n : Nat) (ep : Nat) (r : EpRec) (k : Nat) (s : State) {mk : Nat} {s0 : State} (he : mk &&& 0xFFFFFFFFDFFF = mk) (hg : Keeps mk s0 s) :
    Keeps mk s0 (useRx n ep r k s) := by
  refine Keeps.via ?_ he hg
  unfold useRx
  try dsimp -zeta only
  split
  (with_reducible apply keeps_useCur); exact rfl
  repeat first | with_reducible exact Keeps.refl _ _ | with_reducible assumption
  split
  (with_reducible apply keeps_useKey); exact rfl
  repeat first | with_reducible exact Keeps.refl _ _ | with_reducible assumption

theorem keeps_verify {n : Nat} {ep : Nat} {r : EpRec} {f : MacFrame} {s sq : State} {mk : Nat} {s0 : State} (h : verify n ep r f s = .ok sq)
    (he : mk &&& 0xFDFFFFFF9FFF = mk) (hg : Keeps mk s0 s) : Keeps mk s0 sq := by
  refine Keeps.via ?_ he hg
  revert h
  unfold verify
  dsimp only
  repeat' split
  all_goals intro h
  all_goals cases h
  · exact keeps_useRx _ _ _ _ _ rfl (keeps_acceptCtr _ _ _ _ rfl (Keeps.refl _ _))
  · exact Keeps.set_mac rfl (Keeps.refl _ _)
  · exact Keeps.set_mac rfl (Keeps.refl _ _)

theorem keeps_routedUp (n : Nat) (f : MacFrame) (m : RxMsg) (s : State) {mk : Nat} {s0 : State} (he : mk &&& 0xFDFFFFFF07FF = mk) (hg : Keeps mk s0 s) :
    Keeps mk s0 (routedUp n f m s) := by
  refine Keeps.via ?_ he hg
  unfold routedUp updEp
  try dsimp -zeta only
  ((try lift_lets); intro xL; clear_value xL)
  (intro xL; clear_value xL)
  (intro xL; clear_value xL)
  (intro xL; clear_value xL)
  (intro xL; clear_value xL)
  (intro xL; clear_value xL)
  split
  (with_reducible apply keeps_discardNet); exact rfl
  repeat first | with_reducible exact Keeps.refl _ _ | with_reducible assumption
  split
  (with_reducible apply keeps_pushRing); exact rfl
  repeat first | with_reducible exact Keeps.refl _ _ | with_reducible assumption
  ((try lift_lets); intro xL; clear_value xL)
  (intro xL; clear_value xL)
  split
  (with_reducible apply keeps_pushRing); exact rfl
  repeat first | with_reducible exact Keeps.refl _ _ | with_reducible assumption
  split
  (with_reducible apply keeps_pushRing); exact rfl
  repeat first | with_reducible exact Keeps.refl _ _ | with_reducible assumption
  ((try lift_lets); intro xL; subst xL)
  (intro sL; with_reducible refine Keeps.cut sL ?_ ?_; rotate_left; (intro kL; clear_value sL); rotate_right; subst sL; try dsimp -zeta only)
  split
  (with_reducible apply keeps_acceptCtr); exact rfl
  repeat first | with_reducible exact Keeps.refl _ _ | with_reducible assumption
  (with_reducible apply Keeps.set_lat); exact rfl
  (with_reducible apply keeps_acceptCtr); exact rfl
  repeat first | with_reducible exact Keeps.refl _ _ | with_reducible assumption
  (with_reducible apply keeps_pushRing); exact rfl
  split
  split
  (with_reducible apply keeps_countEp); exact rfl
  split
  (with_reducible apply keeps_learnRoute); exact rfl
  repeat first | with_reducible exact Keeps.refl _ _ | with_reducible assumption
  split
  (with_reducible apply keeps_learnRoute); exact rfl
  repeat first | with_reducible exact Keeps.refl _ _ | with_reducible assumption
  split
  (with_reducible apply keeps_countEp); exact rfl
  split
  (with_reducible apply keeps_learnRoute); exact rfl
  repeat first | with_reducible exact Keeps.refl _ _ | with_reducible assumption
  split
  (with_reducible apply keeps_learnRoute); exact rfl
  repeat first | with_reducible exact Keeps.refl _ _ | with_reducible assumption

theorem keeps_networkUp (n : Nat) (ep : Nat) (r : EpRec) (f : MacFrame) (m : RxMsg) (s : State) {mk : Nat} {s0 : State} (he : mk &&& 0xFDFFFFFF07FF = mk) (hg : Keeps mk s0 s) :
    Keeps mk s0 (networkUp n ep r f m s) := by
  refine Keeps.via ?_ he hg
  unfold networkUp
  try dsimp -zeta only
  ((try lift_lets); intro xL; clear_value xL)
  (intro xL; clear_value xL)
  split
  (with_reducible apply keeps_pushRing); exact rfl
  repeat first | with_reducible exact Keeps.refl _ _ | with_reducible assumption
  split
  (with_reducible apply keeps_pushRing); exact rfl
  repeat first | with_reducible exact Keeps.refl _ _ | with_reducible assumption
  split
  split
  (with_reducible apply keeps_pushRing); exact rfl
  split
  (with_reducible apply keeps_countEp); exact rfl
  repeat first | with_reducible exact Keeps.refl _ _ | with_reducible assumption
  (with_reducible apply keeps_discardNet); exact rfl
  repeat first | with_reducible exact Keeps.refl _ _ | with_reducible assumption
  (with_reducible apply keeps_routedUp); exact rfl
  repeat first | with_reducible exact Keeps.refl _ _ | with_reducible assumption
  (with_reducible apply keeps_discardNet); exact rfl
  repeat first | with_reducible exact Keeps.refl _ _ | with_reducible assumption

theorem keeps_fromChild (n : Nat) (ep : Nat) (r : EpRec) (f : MacFrame) (m : RxMsg) (s : State) {mk : Nat} {s0 : State} (he : mk &&& 0xFDFFFFEC01F1 = mk) (hg : Keeps mk s0 s) :
    Keeps mk s0 (fromChild n ep r f m s) := by
  refine Keeps.via ?_ he hg
  unfold fromChild updEp
  try dsimp -zeta only
  ((try lift_lets); intro sL; with_reducible refine Keeps.cut sL ?_ ?_; rotate_left; (intro kL; clear_value sL); rotate_right; subst sL; try dsimp -zeta only)
  (with_reducible apply keeps_updCnt); exact rfl
  repeat first | with_reducible exact Keeps.refl _ _ | with_reducible assumption
  (with_reducible apply keeps_networkUp); exact rfl
  split
  (with_reducible apply keeps_updMd); exact rfl
  split
  ((try lift_lets); intro sL; with_reducible refine Keeps.cut sL ?_ ?_; rotate_left; (intro kL; clear_value sL); rotate_right; subst sL; try dsimp -zeta only)
  (with_reducible apply keeps_noteContact); exact rfl
  (with_reducible apply keeps_heardFrom); exact rfl
  split
  repeat first | with_reducible exact Keeps.refl _ _ | with_reducible assumption
  (with_reducible apply Keeps.set_lat); exact rfl
  repeat first | with_reducible exact Keeps.refl _ _ | with_reducible assumption
  split
  (with_reducible apply keeps_heardFrom); exact rfl
  split
  repeat first | with_reducible exact Keeps.refl _ _ | with_reducible assumption
  (with_reducible apply Keeps.set_lat); exact rfl
  repeat first | with_reducible exact Keeps.refl _ _ | with_reducible assumption
  (with_reducible apply keeps_heardFrom); exact rfl
  split
  repeat first | with_reducible exact Keeps.refl _ _ | with_reducible assumption
  (with_reducible apply Keeps.set_lat); exact rfl
  repeat first | with_reducible exact Keeps.refl _ _ | with_reducible assumption
  split
  ((try lift_lets); intro sL; with_reducible refine Keeps.cut sL ?_ ?_; rotate_left; (intro kL; clear_value sL); rotate_right; subst sL; try dsimp -zeta only)
  (with_reducible apply keeps_noteContact); exact rfl
  (with_reducible apply keeps_heardFrom); exact rfl
  split
  repeat first | with_reducible exact Keeps.refl _ _ | with_reducible assumption
  (with_reducible apply Keeps.set_lat); exact rfl
  repeat first | with_reducible exact Keeps.refl _ _ | with_reducible assumption
  split
  (with_reducible apply keeps_heardFrom); exact rfl
  split
  repeat first | with_reducible exact Keeps.refl _ _ | with_reducible assumption
  (with_reducible apply Keeps.set_lat); exact rfl
  repeat first | with_reducible exact Keeps.refl _ _ | with_reducible assumption
  (with_reducible apply keeps_restageTrain); exact rfl
  repeat first | with_reducible exact Keeps.refl _ _ | with_reducible assumption
  (with_reducible apply keeps_heardFrom); exact rfl
  split
  repeat first | with_reducible exact Keeps.refl _ _ | with_reducible assumption
  (with_reducible apply Keeps.set_lat); exact rfl
  repeat first | with_reducible exact Keeps.refl _ _ | with_reducible assumption

theorem keeps_fromOther (n : Nat) (src : Option (Nat × EpRec)) (f : MacFrame) (m : RxMsg) (s : State) {mk : Nat} {s0 : State} (he : mk &&& 0xFDFFFFFF8FFF = mk) (hg : Keeps mk s0 s) :
    Keeps mk s0 (fromOther n src f m s) := by
  refine Keeps.via ?_ he hg
  unfold fromOther updEp
  try dsimp -zeta only
  ((try lift_lets); intro sL; with_reducible refine Keeps.cut sL ?_ ?_; rotate_left; (intro kL; clear_value sL); rotate_right; subst sL; try dsimp -zeta only)
  (with_reducible apply keeps_updCnt); exact rfl
  repeat first | with_reducible exact Keeps.refl _ _ | with_reducible assumption
  split
  ((try lift_lets); intro xL; clear_value xL)
  split
  (with_reducible apply keeps_pushRing); exact rfl
  repeat first | with_reducible exact Keeps.refl _ _ | with_reducible assumption
  split
  ((try lift_lets); intro xL; subst xL)
  (with_reducible apply keeps_pushRing); exact rfl
  split
  (with_reducible apply keeps_acceptCtr); exact rfl
  repeat first | with_reducible exact Keeps.refl _ _ | with_reducible assumption
  (with_reducible apply Keeps.set_lat); exact rfl
  (with_reducible apply keeps_acceptCtr); exact rfl
  repeat first | with_reducible exact Keeps.refl _ _ | with_reducible assumption
  (with_reducible apply keeps_pushRing); exact rfl
  repeat first | with_reducible exact Keeps.refl _ _ | with_reducible assumption
  (with_reducible apply keeps_pushRing); exact rfl
  repeat first | with_reducible exact Keeps.refl _ _ | with_reducible assumption

theorem keeps_execFrameReceived (n : Nat) (a : AirFrame) (s : State) (t : State) (h : execFrameReceived n a s = .next t) : Keeps 0xFDFFFFEC01F1 s t := by
  unfold execFrameReceived at h
  injection h with h
  subst h
  try dsimp -zeta only
  ((try lift_lets); intro xL; clear_value xL)
  (intro xL; clear_value xL)
  (intro xL; subst xL; try dsimp -zeta only)
  (intro xL; clear_value xL)
  (intro xL; clear_value xL)
  split
  repeat first | with_reducible exact Keeps.refl _ _ | with_reducible assumption
  ((try lift_lets); intro xL; clear_value xL)
  (intro sL; with_reducible refine Keeps.cut sL ?_ ?_; rotate_left; (intro kL; clear_value sL); rotate_right; subst sL; try dsimp -zeta only)
  (with_reducible apply keeps_updCe); exact rfl
  repeat first | with_reducible exact Keeps.refl _ _ | with_reducible assumption
  split
  (with_reducible apply keeps_settleCe); exact rfl
  (with_reducible apply keeps_logLim); exact rfl
  (with_reducible apply keeps_updCe); exact rfl
  repeat first | with_reducible exact Keeps.refl _ _ | with_reducible assumption
  split
  (with_reducible apply keeps_settleCe); exact rfl
  (with_reducible apply keeps_updCe); exact rfl
  repeat first | with_reducible exact Keeps.refl _ _ | with_reducible assumption
  split
  (with_reducible apply keeps_settleCe); exact rfl
  (with_reducible apply keeps_updCnt); exact rfl
  repeat first | with_reducible exact Keeps.refl _ _ | with_reducible assumption
  split
  (with_reducible apply keeps_settleCe); exact rfl
  (with_reducible apply keeps_updCnt); exact rfl
  repeat first | with_reducible exact Keeps.refl _ _ | with_reducible assumption
  split
  (with_reducible apply keeps_settleCe); exact rfl
  split
  repeat first | with_reducible exact Keeps.refl _ _ | with_reducible assumption
  (with_reducible apply keeps_updMd); exact rfl
  repeat first | with_reducible exact Keeps.refl _ _ | with_reducible assumption
  split
  (with_reducible apply keeps_settleCe); exact rfl
  (with_reducible apply keeps_secFail); exact rfl
  repeat first | with_reducible exact Keeps.refl _ _ | with_reducible assumption
  split
  split
  split
  (with_reducible apply keeps_settleCe); exact rfl
  (with_reducible apply keeps_secFail); exact rfl
  repeat first | with_reducible exact Keeps.refl _ _ | with_reducible assumption
  (with_reducible apply keeps_settleCe); exact rfl
  (with_reducible apply keeps_fromChild); exact rfl
  ((with_reducible apply keeps_verify); (with_reducible assumption); exact rfl)
  repeat first | with_reducible exact Keeps.refl _ _ | with_reducible assumption
  (with_reducible apply keeps_settleCe); exact rfl
  (with_reducible apply keeps_fromOther); exact rfl
  repeat first | with_reducible exact Keeps.refl _ _ | with_reducible assumption
  (with_reducible apply keeps_settleCe); exact rfl
  (with_reducible apply keeps_fromOther); exact rfl
  repeat first | with_reducible exact Keeps.refl _ _ | with_reducible assumption

theorem keeps_rawAcked (n : Nat) (id : Nat) (who : Option (Nat × EpRec)) (f : MacFrame) (s : State) (s0v : State) {mk : Nat} {s0 : State}
    (he : mk &&& 0xFDFFFFFF91FF = mk) (hs : Keeps mk s0 s) (hg : Keeps mk s0 s0v) : Keeps mk s0 (rawAcked n id who f s s0v) := by
  have hm : ∀ {k : Nat}, 0xFDFFFFFF91FF &&& k = 0xFDFFFFFF91FF → mk &&& k = mk := fun h => by
    rw [← he, Nat.and_assoc, h]
  unfold rawAcked
  rcases who with _ | ⟨ep, r⟩
  · dsimp only
    split
    · exact hs
    · split
      · exact keeps_rawDone _ _ _ _ _ _ _ (hm rfl) hg
      · exact hs
  · dsimp only
    split
    · exact hs
    · split
      · exact keeps_rawDone _ _ _ _ _ _ _ (hm rfl) hg
      · split
        · exact keeps_secFail _ _ _ (hm rfl) hs
        · next h => exact keeps_rawDone _ _ _ _ _ _ _ (hm rfl) (keeps_verify h (hm rfl) hg)

theorem keeps_execAckReceived (n : Nat) (a : AirFrame) (s : State) (t : State) (h : execAckReceived n a s = .next t) : Keeps 0xFDFFFFEC01F1 s t := by
  unfold execAckReceived at h
  injection h with h
  subst h
  try dsimp -zeta only
  ((try lift_lets); intro xL; clear_value xL)
  (intro sL; with_reducible refine Keeps.cut sL ?_ ?_; rotate_left; (intro kL; clear_value sL); rotate_right; subst sL; try dsimp -zeta only)
  (with_reducible apply keeps_updMd); exact rfl
  (with_reducible apply keeps_settleCe); exact rfl
  repeat first | with_reducible exact Keeps.refl _ _ | with_reducible assumption
  split
  repeat first | with_reducible exact Keeps.refl _ _ | with_reducible assumption
  ((try lift_lets); intro xL; clear_value xL)
  (intro xL; clear_value xL)
  (intro xL; clear_value xL)
  (intro xL; clear_value xL)
  split
  repeat first | with_reducible exact Keeps.refl _ _ | with_reducible assumption
  split
  (with_reducible apply keeps_rawAcked); exact rfl
  repeat first | with_reducible exact Keeps.refl _ _ | with_reducible assumption
  split
  repeat first | with_reducible exact Keeps.refl _ _ | with_reducible assumption
  split
  (with_reducible apply keeps_secFail); exact rfl
  repeat first | with_reducible exact Keeps.refl _ _ | with_reducible assumption
  (with_reducible apply keeps_acked); exact rfl
  ((with_reducible apply keeps_verify); (with_reducible assumption); exact rfl)
  repeat first | with_reducible exact Keeps.refl _ _ | with_reducible assumption

theorem keeps_popRing (n : Nat) (s : State) {mk : Nat} {s0 : State} (he : mk &&& 0xFFFFFFFFEFFF = mk) (hg : Keeps mk s0 s) :
    Keeps mk s0 (popRing n s) := by
  refine Keeps.via ?_ he hg
  unfold popRing
  try dsimp -zeta only
  (with_reducible apply keeps_updCe); exact rfl
  repeat first | with_reducible exact Keeps.refl _ _ | with_reducible assumption

theorem keeps_refuseJoin (eui : Nat) (cause : Nat) (s : State) {mk : Nat} {s0 : State} (he : mk &&& 0xFFFFFFFFF7FF = mk) (hg : Keeps mk s0 s) :
    Keeps mk s0 (refuseJoin eui cause s) := by
  refine Keeps.via ?_ he hg
  unfold refuseJoin
  try dsimp -zeta only
  (with_reducible apply keeps_logLim); exact rfl
  repeat first | with_reducible exact Keeps.refl _ _ | with_reducible assumption

theorem keeps_execJoinReq (n : Nat) (media : Bool) (s : State) (t : State) (h : execJoinReq n media s = .next t) : Keeps 0xFDFFFFFF27FF s t := by
  unfold execJoinReq at h
  injection h with h
  subst h
  try dsimp -zeta only
  ((try lift_lets); intro sL; with_reducible refine Keeps.cut sL ?_ ?_; rotate_left; (intro kL; clear_value sL); rotate_right; subst sL; try dsimp -zeta only)
  (with_reducible apply keeps_popRing); exact rfl
  repeat first | with_reducible exact Keeps.refl _ _ | with_reducible assumption
  split
  repeat first | with_reducible exact Keeps.refl _ _ | with_reducible assumption
  split
  (with_reducible apply keeps_refuseJoin); exact rfl
  repeat first | with_reducible exact Keeps.refl _ _ | with_reducible assumption
  split
  (with_reducible apply keeps_refuseJoin); exact rfl
  repeat first | with_reducible exact Keeps.refl _ _ | with_reducible assumption
  split
  (with_reducible apply keeps_refuseJoin); exact rfl
  repeat first | with_reducible exact Keeps.refl _ _ | with_reducible assumption
  split
  (with_reducible apply keeps_refuseJoin); exact rfl
  repeat first | with_reducible exact Keeps.refl _ _ | with_reducible assumption
  split
  (with_reducible apply keeps_refuseJoin); exact rfl
  repeat first | with_reducible exact Keeps.refl _ _ | with_reducible assumption
  split
  repeat first | with_reducible exact Keeps.refl _ _ | with_reducible assumption
  (with_reducible apply keeps_admitJoin); exact rfl
  repeat first | with_reducible exact Keeps.refl _ _ | with_reducible assumption

theorem keeps_moveQueue (old : Nat) (ep : Nat) (s : State) {mk : Nat} {s0 : State} (he : mk &&& 0xFFFFFFFF5FFF = mk) (hg : Keeps mk s0 s) :
    Keeps mk s0 (moveQueue old ep s) := by
  refine Keeps.via ?_ he hg
  unfold moveQueue
  try dsimp -zeta only
  ((try lift_lets); intro xL; clear_value xL)
  (intro sL; with_reducible refine Keeps.cut sL ?_ ?_; rotate_left; (intro kL; clear_value sL); rotate_right; subst sL; try dsimp -zeta only)
  (with_reducible apply keeps_takeIndirect); exact rfl
  repeat first | with_reducible exact Keeps.refl _ _ | with_reducible assumption
  ((with_reducible apply Keeps.fold); (intro _ _))
  (with_reducible apply keeps_updTxn); exact rfl
  repeat first | with_reducible exact Keeps.refl _ _ | with_reducible assumption

theorem keeps_execRejoin (n : Nat) (media : Bool) (s : State) (t : State) (h : execRejoin n media s = .next t) : Keeps 0xFDFFFFFF05FF s t := by
  unfold execRejoin at h
  injection h with h
  subst h
  unfold updEp
  try dsimp -zeta only
  ((try lift_lets); intro sL; with_reducible refine Keeps.cut sL ?_ ?_; rotate_left; (intro kL; clear_value sL); rotate_right; subst sL; try dsimp -zeta only)
  (with_reducible apply keeps_popRing); exact rfl
  repeat first | with_reducible exact Keeps.refl _ _ | with_reducible assumption
  split
  repeat first | with_reducible exact Keeps.refl _ _ | with_reducible assumption
  split
  (with_reducible apply keeps_refuseJoin); exact rfl
  repeat first | with_reducible exact Keeps.refl _ _ | with_reducible assumption
  ((try lift_lets); intro sL; with_reducible refine Keeps.cut sL ?_ ?_; rotate_left; (intro kL; clear_value sL); rotate_right; subst sL; try dsimp -zeta only)
  split
  (with_reducible apply keeps_moveQueue); exact rfl
  (with_reducible apply keeps_closeLink); exact rfl
  repeat first | with_reducible exact Keeps.refl _ _ | with_reducible assumption
  split
  (with_reducible apply keeps_refuseJoin); exact rfl
  repeat first | with_reducible exact Keeps.refl _ _ | with_reducible assumption
  split
  (with_reducible apply keeps_refuseJoin); exact rfl
  repeat first | with_reducible exact Keeps.refl _ _ | with_reducible assumption
  split
  (with_reducible apply keeps_refuseJoin); exact rfl
  repeat first | with_reducible exact Keeps.refl _ _ | with_reducible assumption
  split
  (with_reducible apply keeps_refuseJoin); exact rfl
  repeat first | with_reducible exact Keeps.refl _ _ | with_reducible assumption
  split
  repeat first | with_reducible exact Keeps.refl _ _ | with_reducible assumption
  split
  (with_reducible apply keeps_openLink); exact rfl
  split
  (with_reducible apply keeps_admitJoin); exact rfl
  repeat first | with_reducible exact Keeps.refl _ _ | with_reducible assumption
  (with_reducible apply Keeps.set_lat); exact rfl
  (with_reducible apply keeps_admitJoin); exact rfl
  repeat first | with_reducible exact Keeps.refl _ _ | with_reducible assumption
  (with_reducible apply keeps_notifyOwners); exact rfl
  (with_reducible apply keeps_logNs); exact rfl
  (with_reducible apply keeps_openLink); exact rfl
  split
  (with_reducible apply keeps_admitJoin); exact rfl
  repeat first | with_reducible exact Keeps.refl _ _ | with_reducible assumption
  (with_reducible apply Keeps.set_lat); exact rfl
  (with_reducible apply keeps_admitJoin); exact rfl
  repeat first | with_reducible exact Keeps.refl _ _ | with_reducible assumption

theorem keeps_execConfirm (n : Nat) (s : State) (t : State) (h : execConfirm n s = .next t) : Keeps 0xFDFFFFEC01F1 s t := by
  unfold execConfirm at h
  injection h with h
  subst h
  try dsimp -zeta only
  ((try lift_lets); intro sL; with_reducible refine Keeps.cut sL ?_ ?_; rotate_left; (intro kL; clear_value sL); rotate_right; subst sL; try dsimp -zeta only)
  (with_reducible apply keeps_popRing); exact rfl
  repeat first | with_reducible exact Keeps.refl _ _ | with_reducible assumption
  split
  repeat first | with_reducible exact Keeps.refl _ _ | with_reducible assumption
  ((try lift_lets); intro xL; clear_value xL)
  split
  repeat first | with_reducible exact Keeps.refl _ _ | with_reducible assumption
  split
  (with_reducible apply keeps_confirmTxn); exact rfl
  repeat first | with_reducible exact Keeps.refl _ _ | with_reducible assumption

theorem keeps_execEnergy (n : Nat) (s : State) (t : State) (h : execEnergy n s = .next t) : Keeps 0xFDFFFFFBAFFF s t := by
  unfold execEnergy at h
  injection h with h
  subst h
  unfold updEp
  try dsimp -zeta only
  ((try lift_lets); intro xL; subst xL)
  split
  repeat first | with_reducible exact Keeps.refl _ _ | with_reducible assumption
  split
  (with_reducible apply keeps_noteReport); exact rfl
  split
  (with_reducible apply keeps_popRing); exact rfl
  repeat first | with_reducible exact Keeps.refl _ _ | with_reducible assumption
  (with_reducible apply Keeps.set_lat); exact rfl
  (with_reducible apply keeps_popRing); exact rfl
  repeat first | with_reducible exact Keeps.refl _ _ | with_reducible assumption
  (with_reducible apply keeps_popRing); exact rfl
  repeat first | with_reducible exact Keeps.refl _ _ | with_reducible assumption

theorem keeps_execReport (n : Nat) (s : State) (t : State) (h : execReport n s = .next t) : Keeps 0xFDFFFFEC01F1 s t := by
  unfold execReport at h
  injection h with h
  subst h
  try dsimp -zeta only
  ((try lift_lets); intro sL; with_reducible refine Keeps.cut sL ?_ ?_; rotate_left; (intro kL; clear_value sL); rotate_right; subst sL; try dsimp -zeta only)
  (with_reducible apply keeps_popRing); exact rfl
  repeat first | with_reducible exact Keeps.refl _ _ | with_reducible assumption
  split
  repeat first | with_reducible exact Keeps.refl _ _ | with_reducible assumption
  split
  split
  ((try lift_lets); intro sL; with_reducible refine Keeps.cut sL ?_ ?_; rotate_left; (intro kL; clear_value sL); rotate_right; subst sL; try dsimp -zeta only)
  split
  (with_reducible apply keeps_routeOk); exact rfl
  repeat first | with_reducible exact Keeps.refl _ _ | with_reducible assumption
  (with_reducible apply keeps_finishTxn); exact rfl
  repeat first | with_reducible exact Keeps.refl _ _ | with_reducible assumption
  split
  (with_reducible apply keeps_notifyOwners); exact rfl
  repeat first | with_reducible exact Keeps.refl _ _ | with_reducible assumption

end Sys2Proof.Laws
end

