-- ==== Sys2Proof/Laws/Frames/Decide.lean ====
section
/-!
SUPPORT. Frames of the operations of Machine/Decide.lean.
-/
set_option Elab.async false
namespace Sys2Proof.Laws
open Sys2Proof Sys2Proof.Machine

theorem keeps_newGroup (group : Nat) (app : List Nat) (org : Option Origin) (compat : Bool) (strict : Bool) (target : Option Nat) (deadline : Nat) (repeat_ : Nat) (sched : Bool) (scope : Nat) (s : State) {mk : Nat} {s0 : State} (he : mk &&& 0xFFFFFFFF7FFF = mk) (hg : Keeps mk s0 s) :
    Keeps mk s0 (newGroup group app org compat strict target deadline repeat_ sched scope s) := by
  refine Keeps.via ?_ he hg
  unfold newGroup
  try dsimp -zeta only
  ((try lift_lets); intro xL; clear_value xL)
  (intro xL; clear_value xL)
  (with_reducible apply Keeps.set_txn); exact rfl
  repeat first | with_reducible exact Keeps.refl _ _ | with_reducible assumption

theorem keeps_slotsChanged (ep : Nat) (old : EpRec) (s : State) {mk : Nat} {s0 : State} (he : mk &&& 0xFFFFFFFF7FFF = mk) (hg : Keeps mk s0 s) :
    Keeps mk s0 (slotsChanged ep old s) := by
  refine Keeps.via ?_ he hg
  unfold slotsChanged
  try dsimp -zeta only
  split
  repeat first | with_reducible exact Keeps.refl _ _ | with_reducible assumption
  ((try lift_lets); intro sL; with_reducible refine Keeps.cut sL ?_ ?_; rotate_left; (intro kL; clear_value sL); rotate_right; subst sL; try dsimp -zeta only)
  (with_reducible apply keeps_startOwn); exact rfl
  repeat first | with_reducible exact Keeps.refl _ _ | with_reducible assumption
  split
  repeat first | with_reducible exact Keeps.refl _ _ | with_reducible assumption
  split
  repeat first | with_reducible exact Keeps.refl _ _ | with_reducible assumption
  (with_reducible apply keeps_startOwn); exact rfl
  repeat first | with_reducible exact Keeps.refl _ _ | with_reducible assumption

theorem keeps_compensate (g : GroupMsg) (s : State) {mk : Nat} {s0 : State} (he : mk &&& 0xFFFFFFFF7FFF = mk) (hg : Keeps mk s0 s) :
    Keeps mk s0 (compensate g s) := by
  refine Keeps.via ?_ he hg
  unfold compensate
  try dsimp -zeta only
  ((try lift_lets); intro xL; clear_value xL)
  (intro xL; clear_value xL)
  ((with_reducible apply Keeps.fold); (intro _ _))
  ((try lift_lets); intro xL; clear_value xL)
  split
  (with_reducible apply keeps_startOwn); exact rfl
  repeat first | with_reducible exact Keeps.refl _ _ | with_reducible assumption

theorem keeps_sendGroupLevel (g : Nat) (level : Nat) (fade : Nat) (scope : Nat) (target : Option Nat) (s : State) {mk : Nat} {s0 : State} (he : mk &&& 0xFFFFFFFF7FFF = mk) (hg : Keeps mk s0 s) :
    Keeps mk s0 (sendGroupLevel g level fade scope target s) := by
  refine Keeps.via ?_ he hg
  unfold sendGroupLevel
  try dsimp -zeta only
  ((try lift_lets); intro xL; clear_value xL)
  split
  ((with_reducible apply Keeps.fold); (intro _ _))
  ((try lift_lets); intro xL; clear_value xL)
  (with_reducible apply keeps_startOwn); exact rfl
  repeat first | with_reducible exact Keeps.refl _ _ | with_reducible assumption
  (with_reducible apply keeps_newGroup); exact rfl
  repeat first | with_reducible exact Keeps.refl _ _ | with_reducible assumption

theorem keeps_sendDecided (g : Nat) (level : Nat) (fade : Nat) (scope : Nat) (target : Nat) (s : State) {mk : Nat} {s0 : State} (he : mk &&& 0xFFFFFFFE7FFF = mk) (hg : Keeps mk s0 s) :
    Keeps mk s0 (sendDecided g level fade scope target s) := by
  refine Keeps.via ?_ he hg
  unfold sendDecided
  try dsimp -zeta only
  ((try lift_lets); intro xL; subst xL)
  split
  (with_reducible apply Keeps.in_sch); exact rfl
  · exact fun _ => rfl
  repeat first | with_reducible exact Keeps.refl _ _ | with_reducible assumption
  (with_reducible apply keeps_sendGroupLevel); exact rfl
  repeat first | with_reducible exact Keeps.refl _ _ | with_reducible assumption

theorem keeps_decideFallback (enter : Bool) (c : Nat) (s : State) {mk : Nat} {s0 : State} (he : mk &&& 0xFFFFFFFE77FF = mk) (hg : Keeps mk s0 s) :
    Keeps mk s0 (decideFallback enter c s) := by
  refine Keeps.via ?_ he hg
  unfold decideFallback
  try dsimp -zeta only
  ((try lift_lets); intro xL; clear_value xL)
  (intro xL; clear_value xL)
  (intro xL; clear_value xL)
  (intro xL; subst xL)
  (intro sL; with_reducible refine Keeps.cut sL ?_ ?_; rotate_left; (intro kL; clear_value sL); rotate_right; subst sL; try dsimp -zeta only)
  (with_reducible apply Keeps.in_sch); exact rfl
  · exact fun _ => rfl
  repeat first | with_reducible exact Keeps.refl _ _ | with_reducible assumption
  split
  (with_reducible apply keeps_sendDecided); exact rfl
  (with_reducible apply keeps_logNs); exact rfl
  repeat first | with_reducible exact Keeps.refl _ _ | with_reducible assumption
  split
  repeat first | with_reducible exact Keeps.refl _ _ | with_reducible assumption
  (with_reducible apply keeps_sendDecided); exact rfl
  repeat first | with_reducible exact Keeps.refl _ _ | with_reducible assumption

theorem keeps_decideGroup (resync : Bool) (target : Nat) (s : State) (g : Nat) {mk : Nat} {s0 : State} (he : mk &&& 0xFFFFFFFE77FF = mk) (hg : Keeps mk s0 s) :
    Keeps mk s0 (decideGroup resync target s g) := by
  refine Keeps.via ?_ he hg
  unfold decideGroup
  try dsimp -zeta only
  ((try lift_lets); intro xL; clear_value xL)
  (intro xL; subst xL; try dsimp -zeta only)
  ((try lift_lets); intro xL; clear_value xL)
  (intro xL; clear_value xL)
  (intro xL; subst xL)
  split
  split
  (with_reducible apply keeps_sendDecided); exact rfl
  (with_reducible apply Keeps.in_sch); exact rfl
  · exact fun _ => rfl
  repeat first | with_reducible exact Keeps.refl _ _ | with_reducible assumption
  (with_reducible apply Keeps.in_sch); exact rfl
  · exact fun _ => rfl
  repeat first | with_reducible exact Keeps.refl _ _ | with_reducible assumption
  (with_reducible apply keeps_sendDecided); exact rfl
  (with_reducible apply keeps_logNs); exact rfl
  (with_reducible apply Keeps.in_sch); exact rfl
  · exact fun _ => rfl
  repeat first | with_reducible exact Keeps.refl _ _ | with_reducible assumption

theorem keeps_decideTable (cause : Option Nat) (c : Nat) (s : State) {mk : Nat} {s0 : State} (he : mk &&& 0xFFFFFFFE77FF = mk) (hg : Keeps mk s0 s) :
    Keeps mk s0 (decideTable cause c s) := by
  refine Keeps.via ?_ he hg
  unfold decideTable
  try dsimp -zeta only
  ((try lift_lets); intro xL; clear_value xL)
  (intro xL; subst xL)
  (intro sL; with_reducible refine Keeps.cut sL ?_ ?_; rotate_left; (intro kL; clear_value sL); rotate_right; subst sL; try dsimp -zeta only)
  (with_reducible apply Keeps.in_sch); exact rfl
  · exact fun _ => rfl
  repeat first | with_reducible exact Keeps.refl _ _ | with_reducible assumption
  split
  (with_reducible apply keeps_logNs); exact rfl
  ((with_reducible apply Keeps.fold); (intro _ _))
  (with_reducible apply keeps_decideGroup); exact rfl
  repeat first | with_reducible exact Keeps.refl _ _ | with_reducible assumption
  ((with_reducible apply Keeps.fold); (intro _ _))
  (with_reducible apply keeps_decideGroup); exact rfl
  repeat first | with_reducible exact Keeps.refl _ _ | with_reducible assumption

theorem keeps_offerDetection (ep : Nat) (kind : Nat) (dir : Nat) (speed : Nat) (td : Nat) (s : State) {mk : Nat} {s0 : State} (he : mk &&& 0xFDFFFFEC01D1 = mk) (hg : Keeps mk s0 s) :
    Keeps mk s0 (offerDetection ep kind dir speed td s) := by
  refine Keeps.via ?_ he hg
  unfold offerDetection
  try dsimp -zeta only
  ((try lift_lets); intro xL; clear_value xL)
  (intro xL; clear_value xL)
  split
  (with_reducible apply keeps_logLim); exact rfl
  repeat first | with_reducible exact Keeps.refl _ _ | with_reducible assumption
  ((with_reducible apply Keeps.fold); (intro _ _))
  split
  repeat first | with_reducible exact Keeps.refl _ _ | with_reducible assumption
  ((with_reducible apply Keeps.fold); (intro _ _))
  (with_reducible apply keeps_offerOr); exact rfl
  repeat first | with_reducible exact Keeps.refl _ _ | with_reducible assumption

theorem keeps_execDetect (n : Nat) (s : State) (t : State) (h : execDetect n s = .next t) : Keeps 0xFDFFFFEC01D1 s t := by
  unfold execDetect at h
  injection h with h
  subst h
  try dsimp -zeta only
  ((try lift_lets); intro sL; with_reducible refine Keeps.cut sL ?_ ?_; rotate_left; (intro kL; clear_value sL); rotate_right; subst sL; try dsimp -zeta only)
  (with_reducible apply keeps_popRing); exact rfl
  repeat first | with_reducible exact Keeps.refl _ _ | with_reducible assumption
  split
  repeat first | with_reducible exact Keeps.refl _ _ | with_reducible assumption
  ((try lift_lets); intro xL; clear_value xL)
  (intro xL; clear_value xL)
  split
  repeat first | with_reducible exact Keeps.refl _ _ | with_reducible assumption
  ((try lift_lets); intro xL; clear_value xL)
  split
  (with_reducible apply keeps_checkStale); exact rfl
  (with_reducible apply keeps_updGates); exact rfl
  (with_reducible apply Keeps.in_sch); exact rfl
  · exact fun _ => rfl
  repeat first | with_reducible exact Keeps.refl _ _ | with_reducible assumption
  split
  repeat first | with_reducible exact Keeps.refl _ _ | with_reducible assumption
  split
  (with_reducible apply Keeps.set_chd); exact rfl
  repeat first | with_reducible exact Keeps.refl _ _ | with_reducible assumption
  split
  (with_reducible apply keeps_offerDetection); exact rfl
  repeat first | with_reducible exact Keeps.refl _ _ | with_reducible assumption

theorem keeps_execGroupRepeat (id : Nat) (s : State) (t : State) (h : execGroupRepeat id s = .next t) : Keeps 0xFFFFFFFF01FF s t := by
  unfold execGroupRepeat at h
  injection h with h
  subst h
  try dsimp -zeta only
  split
  repeat first | with_reducible exact Keeps.refl _ _ | with_reducible assumption
  split
  repeat first | with_reducible exact Keeps.refl _ _ | with_reducible assumption
  split
  (with_reducible apply keeps_endGroup); exact rfl
  repeat first | with_reducible exact Keeps.refl _ _ | with_reducible assumption
  ((try lift_lets); intro xL; clear_value xL)
  (intro sL; with_reducible refine Keeps.cut sL ?_ ?_; rotate_left; (intro kL; clear_value sL); rotate_right; subst sL; try dsimp -zeta only)
  (with_reducible apply keeps_endGroup); exact rfl
  repeat first | with_reducible exact Keeps.refl _ _ | with_reducible assumption
  split
  split
  split
  (with_reducible apply keeps_compensate); exact rfl
  repeat first | with_reducible exact Keeps.refl _ _ | with_reducible assumption
  split
  repeat first | with_reducible exact Keeps.refl _ _ | with_reducible assumption
  split
  (with_reducible apply keeps_sendRepeat); exact rfl
  (with_reducible apply keeps_updGroup); exact rfl
  repeat first | with_reducible exact Keeps.refl _ _ | with_reducible assumption

theorem keeps_sendLater (s : State) {mk : Nat} {s0 : State} (he : mk &&& 0xFFFFFFFE7FFF = mk) (hg : Keeps mk s0 s) :
    Keeps mk s0 (sendLater s) := by
  refine Keeps.via ?_ he hg
  unfold sendLater
  try dsimp -zeta only
  ((try lift_lets); intro xL; clear_value xL)
  (intro xL; subst xL)
  ((with_reducible apply Keeps.fold); (intro _ _))
  (with_reducible apply keeps_sendGroupLevel); exact rfl
  repeat first | with_reducible exact Keeps.refl _ _ | with_reducible assumption
  (with_reducible apply Keeps.in_sch); exact rfl
  · exact fun _ => rfl
  repeat first | with_reducible exact Keeps.refl _ _ | with_reducible assumption

theorem keeps_execSchDecide (s : State) (t : State) (h : execSchDecide s = .next t) : Keeps 0xFFFFFFFE77FF s t := by
  unfold execSchDecide at h
  injection h with h
  subst h
  try dsimp -zeta only
  ((try lift_lets); intro xL; clear_value xL)
  (intro xL; clear_value xL)
  (intro xL; clear_value xL)
  (intro xL; clear_value xL)
  (intro xL; subst xL)
  (intro sL; with_reducible refine Keeps.cut sL ?_ ?_; rotate_left; (intro kL; clear_value sL); rotate_right; subst sL; try dsimp -zeta only)
  (with_reducible apply Keeps.in_sch); exact rfl
  · exact fun _ => rfl
  repeat first | with_reducible exact Keeps.refl _ _ | with_reducible assumption
  split
  repeat first | with_reducible exact Keeps.refl _ _ | with_reducible assumption
  split
  repeat first | with_reducible exact Keeps.refl _ _ | with_reducible assumption
  split
  split
  (with_reducible apply Keeps.in_sch); exact rfl
  · exact fun _ => rfl
  (with_reducible apply keeps_checkStale); exact rfl
  (with_reducible apply keeps_updGates); exact rfl
  (with_reducible apply keeps_noteTz); exact rfl
  (with_reducible apply keeps_logNs); exact rfl
  repeat first | with_reducible exact Keeps.refl _ _ | with_reducible assumption
  (with_reducible apply Keeps.in_sch); exact rfl
  · exact fun _ => rfl
  (with_reducible apply keeps_checkStale); exact rfl
  (with_reducible apply keeps_updGates); exact rfl
  (with_reducible apply keeps_noteTz); exact rfl
  repeat first | with_reducible exact Keeps.refl _ _ | with_reducible assumption
  split
  (with_reducible apply Keeps.in_sch); exact rfl
  · exact fun _ => rfl
  (with_reducible apply keeps_checkStale); exact rfl
  (with_reducible apply keeps_updGates); exact rfl
  (with_reducible apply keeps_noteTz); exact rfl
  (with_reducible apply keeps_logNs); exact rfl
  repeat first | with_reducible exact Keeps.refl _ _ | with_reducible assumption
  (with_reducible apply Keeps.in_sch); exact rfl
  · exact fun _ => rfl
  (with_reducible apply keeps_checkStale); exact rfl
  (with_reducible apply keeps_updGates); exact rfl
  (with_reducible apply keeps_noteTz); exact rfl
  repeat first | with_reducible exact Keeps.refl _ _ | with_reducible assumption
  (with_reducible apply keeps_noteNoSolar); exact rfl
  (with_reducible apply keeps_decideFallback); exact rfl
  (with_reducible apply keeps_sendLater); exact rfl
  (with_reducible apply keeps_checkStale); exact rfl
  (with_reducible apply keeps_updGates); exact rfl
  (with_reducible apply keeps_noteTz); exact rfl
  split
  (with_reducible apply keeps_logNs); exact rfl
  repeat first | with_reducible exact Keeps.refl _ _ | with_reducible assumption
  (with_reducible apply keeps_noteNoSolar); exact rfl
  (with_reducible apply keeps_decideTable); exact rfl
  (with_reducible apply keeps_sendLater); exact rfl
  (with_reducible apply keeps_checkStale); exact rfl
  (with_reducible apply keeps_updGates); exact rfl
  (with_reducible apply keeps_noteTz); exact rfl
  split
  (with_reducible apply keeps_logNs); exact rfl
  repeat first | with_reducible exact Keeps.refl _ _ | with_reducible assumption

end Sys2Proof.Laws
end

