-- ==== Sys2Proof/Laws/Frames/SchedCmd.lean ====
section
/-!
SUPPORT. Frames of the operations of Machine/SchedCmd.lean.
-/
set_option Elab.async false
namespace Sys2Proof.Laws
open Sys2Proof Sys2Proof.Machine

theorem keeps_actSchEntryRead (r : Req) (s : State) {mk : Nat} {s0 : State} (he : mk &&& 0xFFFFFFFFF9FF = mk) (hg : Keeps mk s0 s) :
    Keeps mk s0 (actSchEntryRead r s) := by
  refine Keeps.via ?_ he hg
  unfold actSchEntryRead
  try dsimp -zeta only
  ((try lift_lets); intro xL; clear_value xL)
  split
  (with_reducible apply keeps_ok); exact rfl
  repeat first | with_reducible exact Keeps.refl _ _ | with_reducible assumption
  ((try lift_lets); intro xL; clear_value xL)
  (with_reducible apply keeps_ok); exact rfl
  repeat first | with_reducible exact Keeps.refl _ _ | with_reducible assumption

theorem keeps_actSchEvaluate (r : Req) (s : State) {mk : Nat} {s0 : State} (he : mk &&& 0xFFFFFFFFF9FF = mk) (hg : Keeps mk s0 s) :
    Keeps mk s0 (actSchEvaluate r s) := by
  refine Keeps.via ?_ he hg
  unfold actSchEvaluate
  try dsimp -zeta only
  ((try lift_lets); intro xL; clear_value xL)
  (intro xL; clear_value xL)
  (intro xL; clear_value xL)
  (intro xL; clear_value xL)
  (intro xL; clear_value xL)
  (intro xL; clear_value xL)
  (intro xL; clear_value xL)
  (intro xL; clear_value xL)
  split
  (with_reducible apply keeps_ok); exact rfl
  repeat first | with_reducible exact Keeps.refl _ _ | with_reducible assumption
  split
  (with_reducible apply keeps_ok); exact rfl
  repeat first | with_reducible exact Keeps.refl _ _ | with_reducible assumption
  split
  (with_reducible apply keeps_ok); exact rfl
  repeat first | with_reducible exact Keeps.refl _ _ | with_reducible assumption
  (with_reducible apply keeps_ok); exact rfl
  repeat first | with_reducible exact Keeps.refl _ _ | with_reducible assumption

theorem keeps_actSchGroupRead (r : Req) (s : State) {mk : Nat} {s0 : State} (he : mk &&& 0xFFFFFFFFF9FF = mk) (hg : Keeps mk s0 s) :
    Keeps mk s0 (actSchGroupRead r s) := by
  refine Keeps.via ?_ he hg
  unfold actSchGroupRead
  try dsimp -zeta only
  ((try lift_lets); intro xL; clear_value xL)
  (intro xL; clear_value xL)
  (intro xL; clear_value xL)
  (intro xL; clear_value xL)
  (intro xL; clear_value xL)
  (intro xL; clear_value xL)
  (with_reducible apply keeps_ok); exact rfl
  repeat first | with_reducible exact Keeps.refl _ _ | with_reducible assumption

theorem keeps_applySchGroupSet (r : Req) (s : State) {mk : Nat} {s0 : State} (he : mk &&& 0xFBFFFFEEF1F3 = mk) (hg : Keeps mk s0 s) :
    Keeps mk s0 (applySchGroupSet r s) := by
  refine Keeps.via ?_ he hg
  unfold applySchGroupSet
  try dsimp -zeta only
  ((try lift_lets); intro xL; clear_value xL)
  (intro xL; clear_value xL)
  (intro xL; clear_value xL)
  (intro xL; clear_value xL)
  (intro xL; subst xL)
  (intro sL; with_reducible refine Keeps.cut sL ?_ ?_; rotate_left; (intro kL; clear_value sL); rotate_right; subst sL; try dsimp -zeta only)
  (with_reducible apply keeps_markStored); exact rfl
  split
  (with_reducible apply Keeps.set_sch); exact rfl
  repeat first | with_reducible exact Keeps.refl _ _ | with_reducible assumption
  (with_reducible apply Keeps.set_sch); exact rfl
  repeat first | with_reducible exact Keeps.refl _ _ | with_reducible assumption
  split
  (with_reducible apply keeps_logNs); exact rfl
  repeat first | with_reducible exact Keeps.refl _ _ | with_reducible assumption
  (with_reducible apply keeps_evalAuto); exact rfl
  (with_reducible apply keeps_ownerChange); exact rfl
  (with_reducible apply keeps_logNs); exact rfl
  repeat first | with_reducible exact Keeps.refl _ _ | with_reducible assumption

theorem keeps_applySchGroupMembers (r : Req) (s : State) {mk : Nat} {s0 : State} (he : mk &&& 0xFDFFFFFF37FF = mk) (hg : Keeps mk s0 s) :
    Keeps mk s0 (applySchGroupMembers r s) := by
  refine Keeps.via ?_ he hg
  unfold applySchGroupMembers updEp
  try dsimp -zeta only
  ((try lift_lets); intro sL; with_reducible refine Keeps.cut sL ?_ ?_; rotate_left; (intro kL; clear_value sL); rotate_right; subst sL; try dsimp -zeta only)
  ((with_reducible apply Keeps.fold); (intro _ _))
  split
  repeat first | with_reducible exact Keeps.refl _ _ | with_reducible assumption
  split
  split
  repeat first | with_reducible exact Keeps.refl _ _ | with_reducible assumption
  (with_reducible apply keeps_slotsChanged); exact rfl
  (with_reducible apply keeps_writeRec); exact rfl
  split
  repeat first | with_reducible exact Keeps.refl _ _ | with_reducible assumption
  (with_reducible apply Keeps.set_lat); exact rfl
  repeat first | with_reducible exact Keeps.refl _ _ | with_reducible assumption
  (with_reducible apply keeps_logNs); exact rfl
  (with_reducible apply keeps_logNs); exact rfl
  repeat first | with_reducible exact Keeps.refl _ _ | with_reducible assumption

theorem keeps_applySchEntrySet (r : Req) (s : State) {mk : Nat} {s0 : State} (he : mk &&& 0xFFFFFFFEF3FF = mk) (hg : Keeps mk s0 s) :
    Keeps mk s0 (applySchEntrySet r s) := by
  refine Keeps.via ?_ he hg
  unfold applySchEntrySet
  try dsimp -zeta only
  ((try lift_lets); intro xL; clear_value xL)
  (intro xL; clear_value xL)
  (intro xL; clear_value xL)
  (intro xL; clear_value xL)
  (intro xL; subst xL)
  (with_reducible apply keeps_logNs); exact rfl
  (with_reducible apply keeps_markStored); exact rfl
  (with_reducible apply Keeps.in_sch); exact rfl
  · exact fun _ => rfl
  repeat first | with_reducible exact Keeps.refl _ _ | with_reducible assumption

theorem keeps_applySchEntryClear (r : Req) (s : State) {mk : Nat} {s0 : State} (he : mk &&& 0xFFFFFFFEF3FF = mk) (hg : Keeps mk s0 s) :
    Keeps mk s0 (applySchEntryClear r s) := by
  refine Keeps.via ?_ he hg
  unfold applySchEntryClear
  try dsimp -zeta only
  ((try lift_lets); intro xL; clear_value xL)
  (intro xL; subst xL)
  (with_reducible apply keeps_logNs); exact rfl
  (with_reducible apply keeps_markStored); exact rfl
  (with_reducible apply Keeps.in_sch); exact rfl
  · exact fun _ => rfl
  repeat first | with_reducible exact Keeps.refl _ _ | with_reducible assumption

theorem keeps_applySchSite (r : Req) (s : State) {mk : Nat} {s0 : State} (he : mk &&& 0xFFFFFFFEF3FF = mk) (hg : Keeps mk s0 s) :
    Keeps mk s0 (applySchSite r s) := by
  refine Keeps.via ?_ he hg
  unfold applySchSite
  try dsimp -zeta only
  ((try lift_lets); intro xL; clear_value xL)
  (intro xL; subst xL)
  (with_reducible apply keeps_logNs); exact rfl
  (with_reducible apply keeps_markStored); exact rfl
  (with_reducible apply Keeps.in_sch); exact rfl
  · exact fun _ => rfl
  repeat first | with_reducible exact Keeps.refl _ _ | with_reducible assumption

theorem keeps_applySchTzRule (r : Req) (s : State) {mk : Nat} {s0 : State} (he : mk &&& 0xFFFFFFFEF3FF = mk) (hg : Keeps mk s0 s) :
    Keeps mk s0 (applySchTzRule r s) := by
  refine Keeps.via ?_ he hg
  unfold applySchTzRule
  try dsimp -zeta only
  ((try lift_lets); intro xL; clear_value xL)
  (intro xL; clear_value xL)
  (intro xL; clear_value xL)
  (intro xL; subst xL)
  (with_reducible apply keeps_logNs); exact rfl
  (with_reducible apply keeps_markStored); exact rfl
  (with_reducible apply Keeps.in_sch); exact rfl
  · exact fun _ => rfl
  repeat first | with_reducible exact Keeps.refl _ _ | with_reducible assumption

theorem keeps_applySchFallback (r : Req) (s : State) {mk : Nat} {s0 : State} (he : mk &&& 0xFFFFFFFEF3FF = mk) (hg : Keeps mk s0 s) :
    Keeps mk s0 (applySchFallback r s) := by
  refine Keeps.via ?_ he hg
  unfold applySchFallback
  try dsimp -zeta only
  ((try lift_lets); intro xL; clear_value xL)
  (intro xL; subst xL)
  (with_reducible apply keeps_logNs); exact rfl
  (with_reducible apply keeps_markStored); exact rfl
  (with_reducible apply Keeps.in_sch); exact rfl
  · exact fun _ => rfl
  repeat first | with_reducible exact Keeps.refl _ _ | with_reducible assumption

theorem keeps_durable (media : Bool) (apply : Req → State → State) (r : Req) (s : State) {mk : Nat} {s0 : State}
    (ha : ∀ r s, Keeps mk s (apply r s)) (he : mk &&& 0xFFFFFFFFF9FF = mk) (hg : Keeps mk s0 s) :
    Keeps mk s0 (durable media apply r s) := by
  refine Keeps.step ?_ hg
  unfold durable
  split
  · exact keeps_ok _ _ _ (by rw [← he, Nat.and_assoc]; rfl) (ha _ _)
  · exact keeps_failReq _ _ _ (by rw [← he, Nat.and_assoc]; rfl) (Keeps.refl _ _)

theorem keeps_execSchGroupSet (s : State) (t : State) (h : execSchGroupSet s = .next t) : Keeps 0xF7FFFFFFF1DF s t := by
  unfold execSchGroupSet at h
  injection h with h
  subst h
  try dsimp -zeta only
  ((with_reducible apply keeps_serve); (intro _ _))
  (with_reducible apply keeps_storeAtBoundary); exact rfl
  repeat first | with_reducible exact Keeps.refl _ _ | with_reducible assumption
  exact (rfl : (_ : Nat) &&& _ = _)
  repeat first | with_reducible exact Keeps.refl _ _ | with_reducible assumption

theorem keeps_execSchGroupMembers (media : Bool) (s : State) (t : State) (h : execSchGroupMembers media s = .next t) : Keeps 0xF5FFFFFF31FF s t := by
  unfold execSchGroupMembers at h
  injection h with h
  subst h
  try dsimp -zeta only
  ((with_reducible apply keeps_serve); (intro _ _))
  ((with_reducible apply keeps_durable); (intro _ _))
  (with_reducible apply keeps_applySchGroupMembers); exact rfl
  repeat first | with_reducible exact Keeps.refl _ _ | with_reducible assumption
  exact (rfl : (_ : Nat) &&& _ = _)
  repeat first | with_reducible exact Keeps.refl _ _ | with_reducible assumption
  exact (rfl : (_ : Nat) &&& _ = _)
  repeat first | with_reducible exact Keeps.refl _ _ | with_reducible assumption

theorem keeps_execSchGroupRead (s : State) (t : State) (h : execSchGroupRead s = .next t) : Keeps 0xF7FFFFFFF9FF s t := by
  unfold execSchGroupRead at h
  injection h with h
  subst h
  try dsimp -zeta only
  ((with_reducible apply keeps_serve); (intro _ _))
  (with_reducible apply keeps_actSchGroupRead); exact rfl
  repeat first | with_reducible exact Keeps.refl _ _ | with_reducible assumption
  exact (rfl : (_ : Nat) &&& _ = _)
  repeat first | with_reducible exact Keeps.refl _ _ | with_reducible assumption

theorem keeps_execSchEntrySet (s : State) (t : State) (h : execSchEntrySet s = .next t) : Keeps 0xF7FFFFFFF1DF s t := by
  unfold execSchEntrySet at h
  injection h with h
  subst h
  try dsimp -zeta only
  ((with_reducible apply keeps_serve); (intro _ _))
  (with_reducible apply keeps_storeAtBoundary); exact rfl
  repeat first | with_reducible exact Keeps.refl _ _ | with_reducible assumption
  exact (rfl : (_ : Nat) &&& _ = _)
  repeat first | with_reducible exact Keeps.refl _ _ | with_reducible assumption

theorem keeps_execSchEntryClear (s : State) (t : State) (h : execSchEntryClear s = .next t) : Keeps 0xF7FFFFFFF1DF s t := by
  unfold execSchEntryClear at h
  injection h with h
  subst h
  try dsimp -zeta only
  ((with_reducible apply keeps_serve); (intro _ _))
  (with_reducible apply keeps_storeAtBoundary); exact rfl
  repeat first | with_reducible exact Keeps.refl _ _ | with_reducible assumption
  exact (rfl : (_ : Nat) &&& _ = _)
  repeat first | with_reducible exact Keeps.refl _ _ | with_reducible assumption

theorem keeps_execSchEntryRead (s : State) (t : State) (h : execSchEntryRead s = .next t) : Keeps 0xF7FFFFFFF9FF s t := by
  unfold execSchEntryRead at h
  injection h with h
  subst h
  try dsimp -zeta only
  ((with_reducible apply keeps_serve); (intro _ _))
  (with_reducible apply keeps_actSchEntryRead); exact rfl
  repeat first | with_reducible exact Keeps.refl _ _ | with_reducible assumption
  exact (rfl : (_ : Nat) &&& _ = _)
  repeat first | with_reducible exact Keeps.refl _ _ | with_reducible assumption

theorem keeps_execSchSite (s : State) (t : State) (h : execSchSite s = .next t) : Keeps 0xF7FFFFFFF1DF s t := by
  unfold execSchSite at h
  injection h with h
  subst h
  try dsimp -zeta only
  ((with_reducible apply keeps_serve); (intro _ _))
  (with_reducible apply keeps_storeAtBoundary); exact rfl
  repeat first | with_reducible exact Keeps.refl _ _ | with_reducible assumption
  exact (rfl : (_ : Nat) &&& _ = _)
  repeat first | with_reducible exact Keeps.refl _ _ | with_reducible assumption

theorem keeps_execSchTzRule (s : State) (t : State) (h : execSchTzRule s = .next t) : Keeps 0xF7FFFFFFF1DF s t := by
  unfold execSchTzRule at h
  injection h with h
  subst h
  try dsimp -zeta only
  ((with_reducible apply keeps_serve); (intro _ _))
  (with_reducible apply keeps_storeAtBoundary); exact rfl
  repeat first | with_reducible exact Keeps.refl _ _ | with_reducible assumption
  exact (rfl : (_ : Nat) &&& _ = _)
  repeat first | with_reducible exact Keeps.refl _ _ | with_reducible assumption

theorem keeps_execSchFallback (s : State) (t : State) (h : execSchFallback s = .next t) : Keeps 0xF7FFFFFFF1DF s t := by
  unfold execSchFallback at h
  injection h with h
  subst h
  try dsimp -zeta only
  ((with_reducible apply keeps_serve); (intro _ _))
  (with_reducible apply keeps_storeAtBoundary); exact rfl
  repeat first | with_reducible exact Keeps.refl _ _ | with_reducible assumption
  exact (rfl : (_ : Nat) &&& _ = _)
  repeat first | with_reducible exact Keeps.refl _ _ | with_reducible assumption

theorem keeps_execSchEvaluate (s : State) (t : State) (h : execSchEvaluate s = .next t) : Keeps 0xF7FFFFFFF9FF s t := by
  unfold execSchEvaluate at h
  injection h with h
  subst h
  try dsimp -zeta only
  ((with_reducible apply keeps_serve); (intro _ _))
  (with_reducible apply keeps_actSchEvaluate); exact rfl
  repeat first | with_reducible exact Keeps.refl _ _ | with_reducible assumption
  exact (rfl : (_ : Nat) &&& _ = _)
  repeat first | with_reducible exact Keeps.refl _ _ | with_reducible assumption

end Sys2Proof.Laws
end

