-- ==== Sys2Proof/Laws/Frames/ChdCmd.lean ====
section
/-!
SUPPORT. Frames of the operations of Machine/ChdCmd.lean.
-/
set_option Elab.async false
namespace Sys2Proof.Laws
open Sys2Proof Sys2Proof.Machine

theorem keeps_actChdCorridorRead (r : Req) (s : State) {mk : Nat} {s0 : State} (he : mk &&& 0xFFFFFFFFF9FF = mk) (hg : Keeps mk s0 s) :
    Keeps mk s0 (actChdCorridorRead r s) := by
  refine Keeps.via ?_ he hg
  unfold actChdCorridorRead
  try dsimp -zeta only
  ((try lift_lets); intro xL; clear_value xL)
  split
  repeat first | with_reducible exact Keeps.refl _ _ | with_reducible assumption
  ((try lift_lets); intro xL; clear_value xL)
  (intro xL; clear_value xL)
  (intro xL; clear_value xL)
  (with_reducible apply keeps_ok); exact rfl
  repeat first | with_reducible exact Keeps.refl _ _ | with_reducible assumption

theorem keeps_keepChunk (r : Req) (s : State) {mk : Nat} {s0 : State} (he : mk &&& 0xFFFFFFFDFFFF = mk) (hg : Keeps mk s0 s) :
    Keeps mk s0 (keepChunk r s) := by
  refine Keeps.via ?_ he hg
  unfold keepChunk
  try dsimp -zeta only
  ((try lift_lets); intro xL; clear_value xL)
  (intro xL; clear_value xL)
  split
  (with_reducible apply Keeps.set_chd); exact rfl
  repeat first | with_reducible exact Keeps.refl _ _ | with_reducible assumption
  (with_reducible apply Keeps.set_chd); exact rfl
  repeat first | with_reducible exact Keeps.refl _ _ | with_reducible assumption

theorem keeps_actChdCorridorSet (r : Req) (s : State) {mk : Nat} {s0 : State} (he : mk &&& 0xFFFFFFFDF1DF = mk) (hg : Keeps mk s0 s) :
    Keeps mk s0 (actChdCorridorSet r s) := by
  refine Keeps.via ?_ he hg
  unfold actChdCorridorSet
  try dsimp -zeta only
  ((try lift_lets); intro xL; clear_value xL)
  split
  (with_reducible apply keeps_ok); exact rfl
  (with_reducible apply keeps_keepChunk); exact rfl
  repeat first | with_reducible exact Keeps.refl _ _ | with_reducible assumption
  split
  (with_reducible apply keeps_ok); exact rfl
  ((with_reducible apply keeps_tlPost); (with_reducible assumption); exact rfl)
  (with_reducible apply keeps_keepChunk); exact rfl
  repeat first | with_reducible exact Keeps.refl _ _ | with_reducible assumption
  (with_reducible apply keeps_failReq); exact rfl
  (with_reducible apply keeps_tlFull); exact rfl
  repeat first | with_reducible exact Keeps.refl _ _ | with_reducible assumption

theorem keeps_actChdInject (r : Req) (s : State) {mk : Nat} {s0 : State} (he : mk &&& 0xFDFFFFEC01D1 = mk) (hg : Keeps mk s0 s) :
    Keeps mk s0 (actChdInject r s) := by
  refine Keeps.via ?_ he hg
  unfold actChdInject
  try dsimp -zeta only
  ((try lift_lets); intro xL; clear_value xL)
  (intro xL; clear_value xL)
  (intro xL; subst xL; try dsimp -zeta only)
  split
  repeat first | with_reducible exact Keeps.refl _ _ | with_reducible assumption
  split
  repeat first | with_reducible exact Keeps.refl _ _ | with_reducible assumption
  split
  (with_reducible apply keeps_failReq); exact rfl
  repeat first | with_reducible exact Keeps.refl _ _ | with_reducible assumption
  (with_reducible apply keeps_failReq); exact rfl
  (with_reducible apply keeps_tlFull); exact rfl
  repeat first | with_reducible exact Keeps.refl _ _ | with_reducible assumption
  ((try lift_lets); intro sL; with_reducible refine Keeps.cut sL ?_ ?_; rotate_left; (intro kL; clear_value sL); rotate_right; subst sL; try dsimp -zeta only)
  ((with_reducible apply Keeps.fold); (intro _ _))
  (with_reducible apply keeps_offerOr); exact rfl
  repeat first | with_reducible exact Keeps.refl _ _ | with_reducible assumption
  (with_reducible apply keeps_chdEval); exact rfl
  ((with_reducible apply keeps_offer); (with_reducible assumption); exact rfl)
  repeat first | with_reducible exact Keeps.refl _ _ | with_reducible assumption
  (with_reducible apply keeps_ok); exact rfl
  repeat first | with_reducible exact Keeps.refl _ _ | with_reducible assumption

theorem keeps_actChdWaves (r : Req) (s : State) {mk : Nat} {s0 : State} (he : mk &&& 0xFFFFFFFFF9FF = mk) (hg : Keeps mk s0 s) :
    Keeps mk s0 (actChdWaves r s) := by
  refine Keeps.via ?_ he hg
  unfold actChdWaves
  try dsimp -zeta only
  ((try lift_lets); intro xL; clear_value xL)
  (intro xL; clear_value xL)
  (intro xL; clear_value xL)
  (with_reducible apply keeps_ok); exact rfl
  repeat first | with_reducible exact Keeps.refl _ _ | with_reducible assumption

theorem keeps_applyChdConfig (r : Req) (s : State) {mk : Nat} {s0 : State} (he : mk &&& 0xFFFFFFFDF3FF = mk) (hg : Keeps mk s0 s) :
    Keeps mk s0 (applyChdConfig r s) := by
  refine Keeps.via ?_ he hg
  unfold applyChdConfig
  try dsimp -zeta only
  ((try lift_lets); intro xL; clear_value xL)
  (with_reducible apply keeps_logEv); exact rfl
  (with_reducible apply keeps_markStored); exact rfl
  (with_reducible apply Keeps.set_chd); exact rfl
  repeat first | with_reducible exact Keeps.refl _ _ | with_reducible assumption

theorem keeps_endWaves (k : Nat) (s : State) {mk : Nat} {s0 : State} (he : mk &&& 0xFFFFFFFDFFDF = mk) (hg : Keeps mk s0 s) :
    Keeps mk s0 (endWaves k s) := by
  refine Keeps.via ?_ he hg
  unfold endWaves
  try dsimp -zeta only
  ((with_reducible apply Keeps.fold); (intro _ _))
  (with_reducible apply keeps_dropWave); exact rfl
  repeat first | with_reducible exact Keeps.refl _ _ | with_reducible assumption

theorem keeps_retire (k : Nat) (old : Corridor) (s : State) {mk : Nat} {s0 : State} (he : mk &&& 0xFFFFFFFD77DF = mk) (hg : Keeps mk s0 s) :
    Keeps mk s0 (retire k old s) := by
  refine Keeps.via ?_ he hg
  unfold retire
  try dsimp -zeta only
  ((try lift_lets); intro sL; with_reducible refine Keeps.cut sL ?_ ?_; rotate_left; (intro kL; clear_value sL); rotate_right; subst sL; try dsimp -zeta only)
  (with_reducible apply keeps_endWaves); exact rfl
  repeat first | with_reducible exact Keeps.refl _ _ | with_reducible assumption
  split
  (with_reducible apply keeps_sendCorridor); exact rfl
  repeat first | with_reducible exact Keeps.refl _ _ | with_reducible assumption

theorem keeps_applyChdCorridorClear (r : Req) (s : State) {mk : Nat} {s0 : State} (he : mk &&& 0xFFFFFFED71D3 = mk) (hg : Keeps mk s0 s) :
    Keeps mk s0 (applyChdCorridorClear r s) := by
  refine Keeps.via ?_ he hg
  unfold applyChdCorridorClear
  try dsimp -zeta only
  ((try lift_lets); intro xL; clear_value xL)
  (intro xL; clear_value xL)
  (intro sL; with_reducible refine Keeps.cut sL ?_ ?_; rotate_left; (intro kL; clear_value sL); rotate_right; subst sL; try dsimp -zeta only)
  (with_reducible apply keeps_markStored); exact rfl
  (with_reducible apply Keeps.set_chd); exact rfl
  repeat first | with_reducible exact Keeps.refl _ _ | with_reducible assumption
  split
  repeat first | with_reducible exact Keeps.refl _ _ | with_reducible assumption
  ((try lift_lets); intro sL; with_reducible refine Keeps.cut sL ?_ ?_; rotate_left; (intro kL; clear_value sL); rotate_right; subst sL; try dsimp -zeta only)
  (with_reducible apply keeps_logNs); exact rfl
  (with_reducible apply keeps_retire); exact rfl
  repeat first | with_reducible exact Keeps.refl _ _ | with_reducible assumption
  (with_reducible apply keeps_evalAuto); exact rfl
  (with_reducible apply keeps_ownerChange); exact rfl
  repeat first | with_reducible exact Keeps.refl _ _ | with_reducible assumption

theorem keeps_applyChdCorridorSet (r : Req) (s : State) {mk : Nat} {s0 : State} (he : mk &&& 0xFFFFFFED71D3 = mk) (hg : Keeps mk s0 s) :
    Keeps mk s0 (applyChdCorridorSet r s) := by
  refine Keeps.via ?_ he hg
  unfold applyChdCorridorSet
  try dsimp -zeta only
  ((try lift_lets); intro xL; clear_value xL)
  (intro sL; with_reducible refine Keeps.cut sL ?_ ?_; rotate_left; (intro kL; clear_value sL); rotate_right; subst sL; try dsimp -zeta only)
  (with_reducible apply keeps_keepChunk); exact rfl
  repeat first | with_reducible exact Keeps.refl _ _ | with_reducible assumption
  split
  repeat first | with_reducible exact Keeps.refl _ _ | with_reducible assumption
  split
  split
  (with_reducible apply keeps_logNs); exact rfl
  (with_reducible apply keeps_retire); exact rfl
  (with_reducible apply keeps_markStored); exact rfl
  (with_reducible apply Keeps.set_chd); exact rfl
  repeat first | with_reducible exact Keeps.refl _ _ | with_reducible assumption
  (with_reducible apply keeps_evalAuto); exact rfl
  (with_reducible apply keeps_ownerChange); exact rfl
  (with_reducible apply keeps_logNs); exact rfl
  (with_reducible apply keeps_retire); exact rfl
  (with_reducible apply keeps_markStored); exact rfl
  (with_reducible apply Keeps.set_chd); exact rfl
  repeat first | with_reducible exact Keeps.refl _ _ | with_reducible assumption
  split
  (with_reducible apply keeps_logNs); exact rfl
  (with_reducible apply keeps_markStored); exact rfl
  (with_reducible apply Keeps.set_chd); exact rfl
  repeat first | with_reducible exact Keeps.refl _ _ | with_reducible assumption
  (with_reducible apply keeps_evalAuto); exact rfl
  (with_reducible apply keeps_ownerChange); exact rfl
  (with_reducible apply keeps_logNs); exact rfl
  (with_reducible apply keeps_markStored); exact rfl
  (with_reducible apply Keeps.set_chd); exact rfl
  repeat first | with_reducible exact Keeps.refl _ _ | with_reducible assumption

theorem keeps_execChdCorridorSet (s : State) (t : State) (h : execChdCorridorSet s = .next t) : Keeps 0xF7FFFFFDF1DF s t := by
  unfold execChdCorridorSet at h
  injection h with h
  subst h
  try dsimp -zeta only
  ((with_reducible apply keeps_serve); (intro _ _))
  (with_reducible apply keeps_actChdCorridorSet); exact rfl
  repeat first | with_reducible exact Keeps.refl _ _ | with_reducible assumption
  exact (rfl : (_ : Nat) &&& _ = _)
  repeat first | with_reducible exact Keeps.refl _ _ | with_reducible assumption

theorem keeps_execChdCorridorClear (s : State) (t : State) (h : execChdCorridorClear s = .next t) : Keeps 0xF7FFFFFFF1DF s t := by
  unfold execChdCorridorClear at h
  injection h with h
  subst h
  try dsimp -zeta only
  ((with_reducible apply keeps_serve); (intro _ _))
  (with_reducible apply keeps_storeAtBoundary); exact rfl
  repeat first | with_reducible exact Keeps.refl _ _ | with_reducible assumption
  exact (rfl : (_ : Nat) &&& _ = _)
  repeat first | with_reducible exact Keeps.refl _ _ | with_reducible assumption

theorem keeps_execChdCorridorRead (s : State) (t : State) (h : execChdCorridorRead s = .next t) : Keeps 0xF7FFFFFFF9FF s t := by
  unfold execChdCorridorRead at h
  injection h with h
  subst h
  try dsimp -zeta only
  ((with_reducible apply keeps_serve); (intro _ _))
  (with_reducible apply keeps_actChdCorridorRead); exact rfl
  repeat first | with_reducible exact Keeps.refl _ _ | with_reducible assumption
  exact (rfl : (_ : Nat) &&& _ = _)
  repeat first | with_reducible exact Keeps.refl _ _ | with_reducible assumption

theorem keeps_execChdConfig (s : State) (t : State) (h : execChdConfig s = .next t) : Keeps 0xF7FFFFFFF1DF s t := by
  unfold execChdConfig at h
  injection h with h
  subst h
  try dsimp -zeta only
  ((with_reducible apply keeps_serve); (intro _ _))
  (with_reducible apply keeps_storeAtBoundary); exact rfl
  repeat first | with_reducible exact Keeps.refl _ _ | with_reducible assumption
  exact (rfl : (_ : Nat) &&& _ = _)
  repeat first | with_reducible exact Keeps.refl _ _ | with_reducible assumption

theorem keeps_execChdWaves (s : State) (t : State) (h : execChdWaves s = .next t) : Keeps 0xF7FFFFFFF9FF s t := by
  unfold execChdWaves at h
  injection h with h
  subst h
  try dsimp -zeta only
  ((with_reducible apply keeps_serve); (intro _ _))
  (with_reducible apply keeps_actChdWaves); exact rfl
  repeat first | with_reducible exact Keeps.refl _ _ | with_reducible assumption
  exact (rfl : (_ : Nat) &&& _ = _)
  repeat first | with_reducible exact Keeps.refl _ _ | with_reducible assumption

theorem keeps_execChdInject (s : State) (t : State) (h : execChdInject s = .next t) : Keeps 0xF5FFFFEC01D1 s t := by
  unfold execChdInject at h
  injection h with h
  subst h
  try dsimp -zeta only
  ((with_reducible apply keeps_serve); (intro _ _))
  (with_reducible apply keeps_actChdInject); exact rfl
  repeat first | with_reducible exact Keeps.refl _ _ | with_reducible assumption
  exact (rfl : (_ : Nat) &&& _ = _)
  repeat first | with_reducible exact Keeps.refl _ _ | with_reducible assumption

end Sys2Proof.Laws
end

