-- ==== Sys2Proof/Laws/Frames/LatCmd.lean ====
section
/-!
SUPPORT. Frames of the operations of Machine/LatCmd.lean.
-/
set_option Elab.async false
namespace Sys2Proof.Laws
open Sys2Proof Sys2Proof.Machine

theorem keeps_applyLatAdd (r : Req) (s : State) {mk : Nat} {s0 : State} (he : mk &&& 0xFDFFFFEFB5F3 = mk) (hg : Keeps mk s0 s) :
    Keeps mk s0 (applyLatAdd r s) := by
  refine Keeps.via ?_ he hg
  unfold applyLatAdd
  try dsimp -zeta only
  ((try lift_lets); intro xL; clear_value xL)
  (intro xL; subst xL)
  (intro sL; with_reducible refine Keeps.cut sL ?_ ?_; rotate_left; (intro kL; clear_value sL); rotate_right; subst sL; try dsimp -zeta only)
  (with_reducible apply keeps_writeRec); exact rfl
  (with_reducible apply Keeps.set_lat); exact rfl
  repeat first | with_reducible exact Keeps.refl _ _ | with_reducible assumption
  (with_reducible apply keeps_evalAuto); exact rfl
  (with_reducible apply keeps_ownerChange); exact rfl
  repeat first | with_reducible exact Keeps.refl _ _ | with_reducible assumption

theorem keeps_actLatAdd (media : Bool) (r : Req) (s : State) {mk : Nat} {s0 : State} (he : mk &&& 0xFDFFFFEFB1F3 = mk) (hg : Keeps mk s0 s) :
    Keeps mk s0 (actLatAdd media r s) := by
  refine Keeps.via ?_ he hg
  unfold actLatAdd
  try dsimp -zeta only
  split
  (with_reducible apply keeps_ok); exact rfl
  (with_reducible apply keeps_applyLatAdd); exact rfl
  repeat first | with_reducible exact Keeps.refl _ _ | with_reducible assumption
  (with_reducible apply keeps_failReq); exact rfl
  repeat first | with_reducible exact Keeps.refl _ _ | with_reducible assumption

theorem keeps_startCkpt (org : Option Origin) (s : State) {mk : Nat} {s0 : State} (he : mk &&& 0xFFFFFFFFBFFF = mk) (hg : Keeps mk s0 s) :
    Keeps mk s0 (startCkpt org s) := by
  refine Keeps.via ?_ he hg
  unfold startCkpt
  try dsimp -zeta only
  ((try lift_lets); intro xL; subst xL)
  (with_reducible apply Keeps.in_lat); exact rfl
  · exact fun _ => rfl
  repeat first | with_reducible exact Keeps.refl _ _ | with_reducible assumption

theorem keeps_actLatCheckpoint (r : Req) (s : State) {mk : Nat} {s0 : State} (he : mk &&& 0xFFFFFFFFBDFF = mk) (hg : Keeps mk s0 s) :
    Keeps mk s0 (actLatCheckpoint r s) := by
  refine Keeps.via ?_ he hg
  unfold actLatCheckpoint
  try dsimp -zeta only
  (with_reducible apply keeps_startCkpt); exact rfl
  (with_reducible apply keeps_acceptN); exact rfl
  repeat first | with_reducible exact Keeps.refl _ _ | with_reducible assumption

theorem keeps_actLatFind (r : Req) (s : State) {mk : Nat} {s0 : State} (he : mk &&& 0xFFFFFFFFF9FF = mk) (hg : Keeps mk s0 s) :
    Keeps mk s0 (actLatFind r s) := by
  refine Keeps.via ?_ he hg
  unfold actLatFind
  try dsimp -zeta only
  split
  (with_reducible apply keeps_ok); exact rfl
  repeat first | with_reducible exact Keeps.refl _ _ | with_reducible assumption

theorem keeps_applyLatJoinPolicy (r : Req) (s : State) {mk : Nat} {s0 : State} (he : mk &&& 0xFFFFFFFFBFFF = mk) (hg : Keeps mk s0 s) :
    Keeps mk s0 (applyLatJoinPolicy r s) := by
  refine Keeps.via ?_ he hg
  unfold applyLatJoinPolicy
  try dsimp -zeta only
  ((try lift_lets); intro xL; clear_value xL)
  (intro xL; clear_value xL)
  (intro xL; subst xL)
  split
  (with_reducible apply Keeps.in_lat); exact rfl
  · exact fun _ => rfl
  repeat first | with_reducible exact Keeps.refl _ _ | with_reducible assumption
  (with_reducible apply Keeps.in_lat); exact rfl
  · exact fun _ => rfl
  repeat first | with_reducible exact Keeps.refl _ _ | with_reducible assumption

theorem keeps_actLatJoinPolicy (r : Req) (s : State) {mk : Nat} {s0 : State} (he : mk &&& 0xFFFFFFFFB9FF = mk) (hg : Keeps mk s0 s) :
    Keeps mk s0 (actLatJoinPolicy r s) := by
  refine Keeps.via ?_ he hg
  unfold actLatJoinPolicy
  try dsimp -zeta only
  (with_reducible apply keeps_ok); exact rfl
  (with_reducible apply keeps_applyLatJoinPolicy); exact rfl
  repeat first | with_reducible exact Keeps.refl _ _ | with_reducible assumption

theorem keeps_actLatKeyLoad (r : Req) (s : State) {mk : Nat} {s0 : State} (he : mk &&& 0xFFFFFFFFF1DF = mk) (hg : Keeps mk s0 s) :
    Keeps mk s0 (actLatKeyLoad r s) := by
  refine Keeps.via ?_ he hg
  unfold actLatKeyLoad
  try dsimp -zeta only
  ((try lift_lets); intro xL; clear_value xL)
  (intro sL; with_reducible refine Keeps.cut sL ?_ ?_; rotate_left; (intro kL; clear_value sL); rotate_right; subst sL; try dsimp -zeta only)
  (with_reducible apply keeps_tlPut); exact rfl
  repeat first | with_reducible exact Keeps.refl _ _ | with_reducible assumption
  split
  (with_reducible apply keeps_failReq); exact rfl
  (with_reducible apply keeps_tlFull); exact rfl
  repeat first | with_reducible exact Keeps.refl _ _ | with_reducible assumption
  split
  (with_reducible apply keeps_tlPut); exact rfl
  repeat first | with_reducible exact Keeps.refl _ _ | with_reducible assumption

theorem keeps_actLatRead (r : Req) (s : State) {mk : Nat} {s0 : State} (he : mk &&& 0xFFFFFFFFF9FF = mk) (hg : Keeps mk s0 s) :
    Keeps mk s0 (actLatRead r s) := by
  refine Keeps.via ?_ he hg
  unfold actLatRead
  try dsimp -zeta only
  split
  (with_reducible apply keeps_ok); exact rfl
  repeat first | with_reducible exact Keeps.refl _ _ | with_reducible assumption

theorem keeps_actLatRouteRead (r : Req) (s : State) {mk : Nat} {s0 : State} (he : mk &&& 0xFFFFFFFFF9FF = mk) (hg : Keeps mk s0 s) :
    Keeps mk s0 (actLatRouteRead r s) := by
  refine Keeps.via ?_ he hg
  unfold actLatRouteRead
  try dsimp -zeta only
  ((try lift_lets); intro xL; clear_value xL)
  (intro xL; clear_value xL)
  (intro xL; clear_value xL)
  (intro xL; clear_value xL)
  (intro xL; clear_value xL)
  (intro xL; clear_value xL)
  (intro xL; subst xL; try dsimp -zeta only)
  (intro xL; clear_value xL)
  (with_reducible apply keeps_ok); exact rfl
  repeat first | with_reducible exact Keeps.refl _ _ | with_reducible assumption

theorem keeps_applyLatKeyLoad (r : Req) (s : State) {mk : Nat} {s0 : State} (he : mk &&& 0xFDFFFFFF97DF = mk) (hg : Keeps mk s0 s) :
    Keeps mk s0 (applyLatKeyLoad r s) := by
  refine Keeps.via ?_ he hg
  unfold applyLatKeyLoad updEp
  try dsimp -zeta only
  ((try lift_lets); intro xL; clear_value xL)
  (intro xL; clear_value xL)
  (intro sL; with_reducible refine Keeps.cut sL ?_ ?_; rotate_left; (intro kL; clear_value sL); rotate_right; subst sL; try dsimp -zeta only)
  (with_reducible apply keeps_tlCancel); exact rfl
  repeat first | with_reducible exact Keeps.refl _ _ | with_reducible assumption
  split
  repeat first | with_reducible exact Keeps.refl _ _ | with_reducible assumption
  ((try lift_lets); intro xL; clear_value xL)
  (intro sL; with_reducible refine Keeps.cut sL ?_ ?_; rotate_left; (intro kL; clear_value sL); rotate_right; subst sL; try dsimp -zeta only)
  split
  repeat first | with_reducible exact Keeps.refl _ _ | with_reducible assumption
  (with_reducible apply Keeps.set_lat); exact rfl
  repeat first | with_reducible exact Keeps.refl _ _ | with_reducible assumption
  (with_reducible apply keeps_logNs); exact rfl
  (with_reducible apply keeps_writeRec); exact rfl
  (with_reducible apply keeps_resetIn); exact rfl
  (with_reducible apply keeps_updMd); exact rfl
  split
  (with_reducible apply Keeps.set_lat); exact rfl
  (with_reducible apply keeps_tlPut); exact rfl
  repeat first | with_reducible exact Keeps.refl _ _ | with_reducible assumption
  (with_reducible apply Keeps.set_lat); exact rfl
  repeat first | with_reducible exact Keeps.refl _ _ | with_reducible assumption

theorem keeps_applyLatRemove (r : Req) (s : State) {mk : Nat} {s0 : State} (he : mk &&& 0xFDFFFFEC01F1 = mk) (hg : Keeps mk s0 s) :
    Keeps mk s0 (applyLatRemove r s) := by
  refine Keeps.via ?_ he hg
  unfold applyLatRemove updEp
  try dsimp -zeta only
  ((try lift_lets); intro xL; clear_value xL)
  (intro xL; clear_value xL)
  (intro sL; with_reducible refine Keeps.cut sL ?_ ?_; rotate_left; (intro kL; clear_value sL); rotate_right; subst sL; try dsimp -zeta only)
  ((with_reducible apply Keeps.fold); (intro _ _))
  split
  (with_reducible apply keeps_finishTxn); exact rfl
  repeat first | with_reducible exact Keeps.refl _ _ | with_reducible assumption
  split
  split
  repeat first | with_reducible exact Keeps.refl _ _ | with_reducible assumption
  (with_reducible apply Keeps.set_lat); exact rfl
  repeat first | with_reducible exact Keeps.refl _ _ | with_reducible assumption
  split
  (with_reducible apply keeps_startTxn); exact rfl
  (with_reducible apply keeps_writeRec); exact rfl
  split
  repeat first | with_reducible exact Keeps.refl _ _ | with_reducible assumption
  (with_reducible apply Keeps.set_lat); exact rfl
  repeat first | with_reducible exact Keeps.refl _ _ | with_reducible assumption
  (with_reducible apply keeps_eraseEp); exact rfl
  split
  repeat first | with_reducible exact Keeps.refl _ _ | with_reducible assumption
  (with_reducible apply Keeps.set_lat); exact rfl
  repeat first | with_reducible exact Keeps.refl _ _ | with_reducible assumption

theorem keeps_applyLatUpdate (r : Req) (s : State) {mk : Nat} {s0 : State} (he : mk &&& 0xFDFFFFEF15F3 = mk) (hg : Keeps mk s0 s) :
    Keeps mk s0 (applyLatUpdate r s) := by
  refine Keeps.via ?_ he hg
  unfold applyLatUpdate updEp
  try dsimp -zeta only
  ((try lift_lets); intro xL; clear_value xL)
  (intro xL; subst xL)
  split
  repeat first | with_reducible exact Keeps.refl _ _ | with_reducible assumption
  ((try lift_lets); intro xL; clear_value xL)
  (intro sL; with_reducible refine Keeps.cut sL ?_ ?_; rotate_left; (intro kL; clear_value sL); rotate_right; subst sL; try dsimp -zeta only)
  (with_reducible apply keeps_writeRec); exact rfl
  split
  repeat first | with_reducible exact Keeps.refl _ _ | with_reducible assumption
  (with_reducible apply Keeps.set_lat); exact rfl
  repeat first | with_reducible exact Keeps.refl _ _ | with_reducible assumption
  (with_reducible apply keeps_evalAuto); exact rfl
  (with_reducible apply keeps_ownerChange); exact rfl
  (with_reducible apply keeps_slotsChanged); exact rfl
  split
  (with_reducible apply keeps_openLink); exact rfl
  repeat first | with_reducible exact Keeps.refl _ _ | with_reducible assumption

theorem keeps_writeVolatile (snap : Tbl EpRec) (s : State) {mk : Nat} {s0 : State} (he : mk &&& 0xFFFFFFFFBFFF = mk) (hg : Keeps mk s0 s) :
    Keeps mk s0 (writeVolatile snap s) := by
  refine Keeps.via ?_ he hg
  unfold writeVolatile
  try dsimp -zeta only
  ((try lift_lets); intro xL; subst xL)
  (with_reducible apply Keeps.in_lat); exact rfl
  · exact fun _ => rfl
  repeat first | with_reducible exact Keeps.refl _ _ | with_reducible assumption

theorem keeps_execLinkKeyOverlapEnd (s : State) (t : State) (h : execLinkKeyOverlapEnd s = .next t) : Keeps 0xFDFFFFFFBFDF s t := by
  unfold execLinkKeyOverlapEnd at h
  injection h with h
  subst h
  unfold updEp
  try dsimp -zeta only
  ((with_reducible apply keeps_tlFire); (intro k e g hfg s; dsimp only at hfg; split at hfg <;> cases hfg <;> try dsimp -zeta only))
  (with_reducible apply keeps_writeRec); exact rfl
  (with_reducible apply keeps_resetIn); exact rfl
  split
  repeat first | with_reducible exact Keeps.refl _ _ | with_reducible assumption
  (with_reducible apply Keeps.set_lat); exact rfl
  repeat first | with_reducible exact Keeps.refl _ _ | with_reducible assumption
  exact (rfl : (_ : Nat) &&& _ = _)
  repeat first | with_reducible exact Keeps.refl _ _ | with_reducible assumption

theorem keeps_execLinkKeyLoadApply (media : Bool) (s : State) (t : State) (h : execLinkKeyLoadApply media s = .next t) : Keeps 0xFDFFFFFF91DF s t := by
  unfold execLinkKeyLoadApply at h
  injection h with h
  subst h
  try dsimp -zeta only
  ((with_reducible apply keeps_tlFire); (intro k e g hfg s; dsimp only at hfg; split at hfg <;> cases hfg <;> try dsimp -zeta only))
  split
  (with_reducible apply keeps_failReq); exact rfl
  (with_reducible apply Keeps.set_tl); exact rfl
  repeat first | with_reducible exact Keeps.refl _ _ | with_reducible assumption
  split
  (with_reducible apply keeps_failReq); exact rfl
  (with_reducible apply Keeps.set_tl); exact rfl
  repeat first | with_reducible exact Keeps.refl _ _ | with_reducible assumption
  (with_reducible apply keeps_ok); exact rfl
  (with_reducible apply keeps_applyLatKeyLoad); exact rfl
  (with_reducible apply Keeps.set_tl); exact rfl
  repeat first | with_reducible exact Keeps.refl _ _ | with_reducible assumption
  exact (rfl : (_ : Nat) &&& _ = _)
  repeat first | with_reducible exact Keeps.refl _ _ | with_reducible assumption

theorem keeps_execBackgroundCheckpoint (s : State) (t : State) (h : execBackgroundCheckpoint s = .next t) : Keeps 0xFFFFFFFFBFFF s t := by
  unfold execBackgroundCheckpoint at h
  injection h with h
  subst h
  try dsimp -zeta only
  ((try lift_lets); intro xL; subst xL)
  split
  (with_reducible apply keeps_startCkpt); exact rfl
  (with_reducible apply Keeps.in_lat); exact rfl
  · exact fun _ => rfl
  repeat first | with_reducible exact Keeps.refl _ _ | with_reducible assumption

theorem keeps_execJournalPageWrite (s : State) (t : State) (h : execJournalPageWrite s = .next t) : Keeps 0xFFFFFFFFBFFF s t := by
  unfold execJournalPageWrite at h
  injection h with h
  subst h
  try dsimp -zeta only
  ((try lift_lets); intro xL; clear_value xL)
  (intro xL; clear_value xL)
  (with_reducible apply keeps_confirmCeilings); exact rfl
  split
  (with_reducible apply keeps_writeJournal); exact rfl
  repeat first | with_reducible exact Keeps.refl _ _ | with_reducible assumption

theorem keeps_execJoinPermitExpiry (s : State) (t : State) (h : execJoinPermitExpiry s = .next t) : Keeps 0xFFFFFFFFBFFF s t := by
  unfold execJoinPermitExpiry at h
  injection h with h
  subst h
  try dsimp -zeta only
  ((try lift_lets); intro xL; subst xL)
  (intro xL; clear_value xL)
  split
  repeat first | with_reducible exact Keeps.refl _ _ | with_reducible assumption
  split
  (with_reducible apply Keeps.in_lat); exact rfl
  · exact fun _ => rfl
  repeat first | with_reducible exact Keeps.refl _ _ | with_reducible assumption

theorem keeps_execLatAdd (media : Bool) (s : State) (t : State) (h : execLatAdd media s = .next t) : Keeps 0xF5FFFFEFB1F3 s t := by
  unfold execLatAdd at h
  injection h with h
  subst h
  try dsimp -zeta only
  ((with_reducible apply keeps_serve); (intro _ _))
  (with_reducible apply keeps_actLatAdd); exact rfl
  repeat first | with_reducible exact Keeps.refl _ _ | with_reducible assumption
  exact (rfl : (_ : Nat) &&& _ = _)
  repeat first | with_reducible exact Keeps.refl _ _ | with_reducible assumption

theorem keeps_execLatRemove (media : Bool) (s : State) (t : State) (h : execLatRemove media s = .next t) : Keeps 0xF5FFFFEC01F1 s t := by
  unfold execLatRemove at h
  injection h with h
  subst h
  try dsimp -zeta only
  ((with_reducible apply keeps_serve); (intro _ _))
  ((with_reducible apply keeps_durable); (intro _ _))
  (with_reducible apply keeps_applyLatRemove); exact rfl
  repeat first | with_reducible exact Keeps.refl _ _ | with_reducible assumption
  exact (rfl : (_ : Nat) &&& _ = _)
  repeat first | with_reducible exact Keeps.refl _ _ | with_reducible assumption
  exact (rfl : (_ : Nat) &&& _ = _)
  repeat first | with_reducible exact Keeps.refl _ _ | with_reducible assumption

theorem keeps_execLatRead (s : State) (t : State) (h : execLatRead s = .next t) : Keeps 0xF7FFFFFFF9FF s t := by
  unfold execLatRead at h
  injection h with h
  subst h
  try dsimp -zeta only
  ((with_reducible apply keeps_serve); (intro _ _))
  (with_reducible apply keeps_actLatRead); exact rfl
  repeat first | with_reducible exact Keeps.refl _ _ | with_reducible assumption
  exact (rfl : (_ : Nat) &&& _ = _)
  repeat first | with_reducible exact Keeps.refl _ _ | with_reducible assumption

theorem keeps_execLatUpdate (media : Bool) (s : State) (t : State) (h : execLatUpdate media s = .next t) : Keeps 0xF5FFFFEF11F3 s t := by
  unfold execLatUpdate at h
  injection h with h
  subst h
  try dsimp -zeta only
  ((with_reducible apply keeps_serve); (intro _ _))
  ((with_reducible apply keeps_durable); (intro _ _))
  (with_reducible apply keeps_applyLatUpdate); exact rfl
  repeat first | with_reducible exact Keeps.refl _ _ | with_reducible assumption
  exact (rfl : (_ : Nat) &&& _ = _)
  repeat first | with_reducible exact Keeps.refl _ _ | with_reducible assumption
  exact (rfl : (_ : Nat) &&& _ = _)
  repeat first | with_reducible exact Keeps.refl _ _ | with_reducible assumption

theorem keeps_execLatFind (s : State) (t : State) (h : execLatFind s = .next t) : Keeps 0xF7FFFFFFF9FF s t := by
  unfold execLatFind at h
  injection h with h
  subst h
  try dsimp -zeta only
  ((with_reducible apply keeps_serve); (intro _ _))
  (with_reducible apply keeps_actLatFind); exact rfl
  repeat first | with_reducible exact Keeps.refl _ _ | with_reducible assumption
  exact (rfl : (_ : Nat) &&& _ = _)
  repeat first | with_reducible exact Keeps.refl _ _ | with_reducible assumption

theorem keeps_execLatJoinPolicy (s : State) (t : State) (h : execLatJoinPolicy s = .next t) : Keeps 0xF7FFFFFFB9FF s t := by
  unfold execLatJoinPolicy at h
  injection h with h
  subst h
  try dsimp -zeta only
  ((with_reducible apply keeps_serve); (intro _ _))
  (with_reducible apply keeps_actLatJoinPolicy); exact rfl
  repeat first | with_reducible exact Keeps.refl _ _ | with_reducible assumption
  exact (rfl : (_ : Nat) &&& _ = _)
  repeat first | with_reducible exact Keeps.refl _ _ | with_reducible assumption

theorem keeps_execLatKeyLoad (s : State) (t : State) (h : execLatKeyLoad s = .next t) : Keeps 0xF7FFFFFFF1DF s t := by
  unfold execLatKeyLoad at h
  injection h with h
  subst h
  try dsimp -zeta only
  ((with_reducible apply keeps_serve); (intro _ _))
  (with_reducible apply keeps_actLatKeyLoad); exact rfl
  repeat first | with_reducible exact Keeps.refl _ _ | with_reducible assumption
  exact (rfl : (_ : Nat) &&& _ = _)
  repeat first | with_reducible exact Keeps.refl _ _ | with_reducible assumption

theorem keeps_execLatRouteRead (s : State) (t : State) (h : execLatRouteRead s = .next t) : Keeps 0xF7FFFFFFF9FF s t := by
  unfold execLatRouteRead at h
  injection h with h
  subst h
  try dsimp -zeta only
  ((with_reducible apply keeps_serve); (intro _ _))
  (with_reducible apply keeps_actLatRouteRead); exact rfl
  repeat first | with_reducible exact Keeps.refl _ _ | with_reducible assumption
  exact (rfl : (_ : Nat) &&& _ = _)
  repeat first | with_reducible exact Keeps.refl _ _ | with_reducible assumption

theorem keeps_execLatCheckpoint (s : State) (t : State) (h : execLatCheckpoint s = .next t) : Keeps 0xF7FFFFFFB9FF s t := by
  unfold execLatCheckpoint at h
  injection h with h
  subst h
  try dsimp -zeta only
  ((with_reducible apply keeps_serve); (intro _ _))
  (with_reducible apply keeps_actLatCheckpoint); exact rfl
  repeat first | with_reducible exact Keeps.refl _ _ | with_reducible assumption
  exact (rfl : (_ : Nat) &&& _ = _)
  repeat first | with_reducible exact Keeps.refl _ _ | with_reducible assumption

theorem keeps_execCheckpointComplete (media : Bool) (s : State) (t : State) (h : execCheckpointComplete media s = .next t) : Keeps 0xFFFFFDFFB1FF s t := by
  unfold execCheckpointComplete at h
  injection h with h
  subst h
  try dsimp -zeta only
  ((try lift_lets); intro xL; subst xL)
  (intro sL; with_reducible refine Keeps.cut sL ?_ ?_; rotate_left; (intro kL; clear_value sL); rotate_right; subst sL; try dsimp -zeta only)
  (with_reducible apply Keeps.in_lat); exact rfl
  · exact fun _ => rfl
  repeat first | with_reducible exact Keeps.refl _ _ | with_reducible assumption
  split
  repeat first | with_reducible exact Keeps.refl _ _ | with_reducible assumption
  ((try lift_lets); intro xL; clear_value xL)
  (intro sL; with_reducible refine Keeps.cut sL ?_ ?_; rotate_left; (intro kL; clear_value sL); rotate_right; subst sL; try dsimp -zeta only)
  (with_reducible apply keeps_logNs); exact rfl
  (with_reducible apply keeps_writeVolatile); exact rfl
  repeat first | with_reducible exact Keeps.refl _ _ | with_reducible assumption
  split
  split
  (with_reducible apply keeps_completeFail); exact rfl
  repeat first | with_reducible exact Keeps.refl _ _ | with_reducible assumption
  split
  (with_reducible apply keeps_complete); exact rfl
  repeat first | with_reducible exact Keeps.refl _ _ | with_reducible assumption
  split
  split
  ((with_reducible apply keeps_admitAct); (with_reducible assumption); exact rfl)
  repeat first | with_reducible exact Keeps.refl _ _ | with_reducible assumption
  ((try lift_lets); intro xL; clear_value xL)
  (with_reducible apply Keeps.set_bal); exact rfl
  ((with_reducible apply keeps_admitAct_err); (with_reducible assumption); exact rfl)
  repeat first | with_reducible exact Keeps.refl _ _ | with_reducible assumption

end Sys2Proof.Laws
end

