-- ==== Sys2Proof/Laws/Frames/Keys.lean ====
section
/-!
SUPPORT. Frames of the operations of Machine/Keys.lean.
-/
set_option Elab.async false
namespace Sys2Proof.Laws
open Sys2Proof Sys2Proof.Machine

theorem keeps_putSlot (k : Nat) (x : KeySlot) (s : State) {mk : Nat} {s0 : State} (he : mk &&& 0xFFFEFFBFFFFF = mk) (hg : Keeps mk s0 s) :
    Keeps mk s0 (putSlot k x s) := by
  refine Keeps.via ?_ he hg
  unfold putSlot
  try dsimp -zeta only
  ((try lift_lets); intro xL; subst xL)
  split
  (with_reducible apply Keeps.in_key); exact rfl
  · exact fun _ => rfl
  · exact fun _ => rfl
  · exact fun _ => rfl
  · exact fun _ => rfl
  · exact fun _ => rfl
  · exact fun h => Bool.noConfusion h
  repeat first | with_reducible exact Keeps.refl _ _ | with_reducible assumption
  (with_reducible apply Keeps.in_key); exact rfl
  · exact fun _ => rfl
  · exact fun _ => rfl
  · exact fun _ => rfl
  · exact fun _ => rfl
  · exact fun _ => rfl
  · exact fun h => Bool.noConfusion h
  repeat first | with_reducible exact Keeps.refl _ _ | with_reducible assumption

theorem keeps_endCommit (k : Nat) (status : Nat) (s : State) {mk : Nat} {s0 : State} (he : mk &&& 0xFFFFFDFFF9DF = mk) (hg : Keeps mk s0 s) :
    Keeps mk s0 (endCommit k status s) := by
  refine Keeps.via ?_ he hg
  unfold endCommit
  try dsimp -zeta only
  ((try lift_lets); intro sL; with_reducible refine Keeps.cut sL ?_ ?_; rotate_left; (intro kL; clear_value sL); rotate_right; subst sL; try dsimp -zeta only)
  (with_reducible apply keeps_stopOne); exact rfl
  (with_reducible apply keeps_tlCancel); exact rfl
  repeat first | with_reducible exact Keeps.refl _ _ | with_reducible assumption
  split
  repeat first | with_reducible exact Keeps.refl _ _ | with_reducible assumption
  split
  (with_reducible apply keeps_completeFail); exact rfl
  repeat first | with_reducible exact Keeps.refl _ _ | with_reducible assumption

theorem keeps_groupKeyMoved (k : Nat) (f : Nat × Nat → Nat × Nat) (s : State) {mk : Nat} {s0 : State} (he : mk &&& 0xFFFFFFFFDFFF = mk) (hg : Keeps mk s0 s) :
    Keeps mk s0 (groupKeyMoved k f s) := by
  refine Keeps.via ?_ he hg
  unfold groupKeyMoved
  try dsimp -zeta only
  ((try lift_lets); intro xL; clear_value xL)
  (intro xL; clear_value xL)
  (with_reducible apply Keeps.set_mac); exact rfl
  repeat first | with_reducible exact Keeps.refl _ _ | with_reducible assumption

theorem keeps_firstCommit (k : Nat) (s : State) {mk : Nat} {s0 : State} (he : mk &&& 0xFFFFC7BFF7FB = mk) (hg : Keeps mk s0 s) :
    Keeps mk s0 (firstCommit k s) := by
  refine Keeps.via ?_ he hg
  unfold firstCommit
  try dsimp -zeta only
  ((try lift_lets); intro xL; subst xL)
  (intro xL; subst xL)
  split
  repeat first | with_reducible exact Keeps.refl _ _ | with_reducible assumption
  (with_reducible apply keeps_logNs); exact rfl
  (with_reducible apply Keeps.upd)
  · exact fun _ => rfl
  · exact fun h => Bool.noConfusion h
  · exact fun _ => rfl
  · exact fun _ => rfl
  · exact fun _ => rfl
  · exact fun _ => rfl
  · exact fun _ => rfl
  · exact fun _ => rfl
  · exact fun _ => rfl
  · exact fun _ => rfl
  · exact fun h => Bool.noConfusion h
  · exact fun _ => rfl
  · exact fun _ => rfl
  · exact fun _ => rfl
  · exact fun _ => rfl
  · exact fun _ => rfl
  · exact fun _ => rfl
  · exact fun _ => rfl
  · exact fun _ => rfl
  · exact fun _ => rfl
  · exact fun _ => rfl
  · exact fun h => Bool.noConfusion h
  · exact fun _ => rfl
  · exact fun _ => rfl
  · exact fun _ => rfl
  · exact fun _ => rfl
  · exact fun h => Bool.noConfusion h
  · exact fun h => Bool.noConfusion h
  · exact fun h => Bool.noConfusion h
  · exact fun _ => rfl
  · exact fun _ => rfl
  · exact fun _ => rfl
  · exact fun _ => rfl
  · exact fun _ => rfl
  · exact fun _ => rfl
  · exact fun _ => rfl
  · exact fun _ => rfl
  · exact fun _ => rfl
  · exact fun _ => rfl
  · exact fun _ => rfl
  · exact fun _ => rfl
  · exact fun _ => rfl
  · exact fun _ => rfl
  · exact fun _ => rfl
  · exact fun _ _ h => h
  · exact fun _ h => ⟨h, rfl⟩
  · exact fun _ h => h
  repeat first | with_reducible exact Keeps.refl _ _ | with_reducible assumption

theorem keeps_commitSlot (k : Nat) (c : Nat) (atBoot : Bool) (s : State) {mk : Nat} {s0 : State} (he : mk &&& 0xFFFEC5BFD1DB = mk) (hg : Keeps mk s0 s) :
    Keeps mk s0 (commitSlot k c atBoot s) := by
  refine Keeps.via ?_ he hg
  unfold commitSlot
  try dsimp -zeta only
  ((try lift_lets); intro xL; clear_value xL)
  split
  repeat first | with_reducible exact Keeps.refl _ _ | with_reducible assumption
  ((try lift_lets); intro xL; clear_value xL)
  (intro xL; clear_value xL)
  (intro xL; clear_value xL)
  (intro sL; with_reducible refine Keeps.cut sL ?_ ?_; rotate_left; (intro kL; clear_value sL); rotate_right; subst sL; try dsimp -zeta only)
  (with_reducible apply keeps_putSlot); exact rfl
  (with_reducible apply keeps_tlCancel); exact rfl
  repeat first | with_reducible exact Keeps.refl _ _ | with_reducible assumption
  split
  (with_reducible apply keeps_complete); exact rfl
  (with_reducible apply keeps_logNs); exact rfl
  (with_reducible apply keeps_firstCommit); exact rfl
  split
  split
  split
  (with_reducible apply Keeps.in_key); exact rfl
  · exact fun h => Bool.noConfusion h
  · exact fun h => Bool.noConfusion h
  · exact fun h => Bool.noConfusion h
  · exact fun _ => rfl
  · exact fun _ => rfl
  · exact fun h => Bool.noConfusion h
  (with_reducible apply keeps_groupKeyMoved); exact rfl
  (with_reducible apply keeps_tlPut); exact rfl
  repeat first | with_reducible exact Keeps.refl _ _ | with_reducible assumption
  (with_reducible apply Keeps.in_key); exact rfl
  · exact fun h => Bool.noConfusion h
  · exact fun h => Bool.noConfusion h
  · exact fun h => Bool.noConfusion h
  · exact fun _ => rfl
  · exact fun _ => rfl
  · exact fun h => Bool.noConfusion h
  (with_reducible apply keeps_groupKeyMoved); exact rfl
  repeat first | with_reducible exact Keeps.refl _ _ | with_reducible assumption
  split
  (with_reducible apply Keeps.in_key); exact rfl
  · exact fun h => Bool.noConfusion h
  · exact fun h => Bool.noConfusion h
  · exact fun h => Bool.noConfusion h
  · exact fun _ => rfl
  · exact fun _ => rfl
  · exact fun h => Bool.noConfusion h
  (with_reducible apply keeps_tlPut); exact rfl
  repeat first | with_reducible exact Keeps.refl _ _ | with_reducible assumption
  (with_reducible apply Keeps.in_key); exact rfl
  · exact fun h => Bool.noConfusion h
  · exact fun h => Bool.noConfusion h
  · exact fun h => Bool.noConfusion h
  · exact fun _ => rfl
  · exact fun _ => rfl
  · exact fun h => Bool.noConfusion h
  repeat first | with_reducible exact Keeps.refl _ _ | with_reducible assumption
  (with_reducible apply keeps_stopOne); exact rfl
  split
  (with_reducible apply keeps_groupKeyMoved); exact rfl
  split
  (with_reducible apply keeps_tlPut); exact rfl
  repeat first | with_reducible exact Keeps.refl _ _ | with_reducible assumption
  split
  (with_reducible apply keeps_tlPut); exact rfl
  repeat first | with_reducible exact Keeps.refl _ _ | with_reducible assumption
  (with_reducible apply keeps_logNs); exact rfl
  (with_reducible apply keeps_firstCommit); exact rfl
  split
  split
  split
  (with_reducible apply Keeps.in_key); exact rfl
  · exact fun h => Bool.noConfusion h
  · exact fun h => Bool.noConfusion h
  · exact fun h => Bool.noConfusion h
  · exact fun _ => rfl
  · exact fun _ => rfl
  · exact fun h => Bool.noConfusion h
  (with_reducible apply keeps_groupKeyMoved); exact rfl
  (with_reducible apply keeps_tlPut); exact rfl
  repeat first | with_reducible exact Keeps.refl _ _ | with_reducible assumption
  (with_reducible apply Keeps.in_key); exact rfl
  · exact fun h => Bool.noConfusion h
  · exact fun h => Bool.noConfusion h
  · exact fun h => Bool.noConfusion h
  · exact fun _ => rfl
  · exact fun _ => rfl
  · exact fun h => Bool.noConfusion h
  (with_reducible apply keeps_groupKeyMoved); exact rfl
  repeat first | with_reducible exact Keeps.refl _ _ | with_reducible assumption
  split
  (with_reducible apply Keeps.in_key); exact rfl
  · exact fun h => Bool.noConfusion h
  · exact fun h => Bool.noConfusion h
  · exact fun h => Bool.noConfusion h
  · exact fun _ => rfl
  · exact fun _ => rfl
  · exact fun h => Bool.noConfusion h
  (with_reducible apply keeps_tlPut); exact rfl
  repeat first | with_reducible exact Keeps.refl _ _ | with_reducible assumption
  (with_reducible apply Keeps.in_key); exact rfl
  · exact fun h => Bool.noConfusion h
  · exact fun h => Bool.noConfusion h
  · exact fun h => Bool.noConfusion h
  · exact fun _ => rfl
  · exact fun _ => rfl
  · exact fun h => Bool.noConfusion h
  repeat first | with_reducible exact Keeps.refl _ _ | with_reducible assumption
  (with_reducible apply keeps_stopOne); exact rfl
  split
  (with_reducible apply keeps_groupKeyMoved); exact rfl
  split
  (with_reducible apply keeps_tlPut); exact rfl
  repeat first | with_reducible exact Keeps.refl _ _ | with_reducible assumption
  split
  (with_reducible apply keeps_tlPut); exact rfl
  repeat first | with_reducible exact Keeps.refl _ _ | with_reducible assumption

theorem keeps_endOverlap (k : Nat) (s : State) {mk : Nat} {s0 : State} (he : mk &&& 0xFFFEFFBFD7FF = mk) (hg : Keeps mk s0 s) :
    Keeps mk s0 (endOverlap k s) := by
  refine Keeps.via ?_ he hg
  unfold endOverlap
  try dsimp -zeta only
  ((try lift_lets); intro xL; clear_value xL)
  (intro sL; with_reducible refine Keeps.cut sL ?_ ?_; rotate_left; (intro kL; clear_value sL); rotate_right; subst sL; try dsimp -zeta only)
  (with_reducible apply keeps_putSlot); exact rfl
  repeat first | with_reducible exact Keeps.refl _ _ | with_reducible assumption
  (with_reducible apply keeps_logNs); exact rfl
  split
  (with_reducible apply keeps_groupKeyMoved); exact rfl
  repeat first | with_reducible exact Keeps.refl _ _ | with_reducible assumption

theorem keeps_newRoot (s : State) {mk : Nat} {s0 : State} (he : mk &&& 0xFFFFFFFFFF7D = mk) (hg : Keeps mk s0 s) :
    Keeps mk s0 (newRoot s) := by
  refine Keeps.via ?_ he hg
  unfold newRoot
  try dsimp -zeta only
  ((try lift_lets); intro xL; clear_value xL)
  (with_reducible apply Keeps.set_rtc); exact rfl
  (with_reducible apply keeps_freshNat); exact rfl
  repeat first | with_reducible exact Keeps.refl _ _ | with_reducible assumption

theorem keeps_keyLoss (cause : Nat) (s : State) {mk : Nat} {s0 : State} (he : mk &&& 0xFFFEFD8FD15D = mk) (hg : Keeps mk s0 s) :
    Keeps mk s0 (keyLoss cause s) := by
  refine Keeps.via ?_ he hg
  unfold keyLoss
  try dsimp -zeta only
  ((try lift_lets); intro xL; clear_value xL)
  (intro xL; clear_value xL)
  (intro sL; with_reducible refine Keeps.cut sL ?_ ?_; rotate_left; (intro kL; clear_value sL); rotate_right; subst sL; try dsimp -zeta only)
  ((with_reducible apply Keeps.fold); (intro _ _))
  (with_reducible apply keeps_endCommit); exact rfl
  repeat first | with_reducible exact Keeps.refl _ _ | with_reducible assumption
  (with_reducible apply keeps_ntfOrHold); exact rfl
  (with_reducible apply keeps_logNs); exact rfl
  (with_reducible apply keeps_newRoot); exact rfl
  (with_reducible apply Keeps.upd)
  · exact fun h => Bool.noConfusion h
  · exact fun _ => rfl
  · exact fun _ => rfl
  · exact fun _ => rfl
  · exact fun h => Bool.noConfusion h
  · exact fun _ => rfl
  · exact fun h => Bool.noConfusion h
  · exact fun _ => rfl
  · exact fun h => Bool.noConfusion h
  · exact fun h => Bool.noConfusion h
  · exact fun h => Bool.noConfusion h
  · exact fun _ => rfl
  · exact fun h => Bool.noConfusion h
  · exact fun _ => rfl
  · exact fun _ => rfl
  · exact fun _ => rfl
  · exact fun _ => rfl
  · exact fun _ => rfl
  · exact fun _ => rfl
  · exact fun h => Bool.noConfusion h
  · exact fun h => Bool.noConfusion h
  · exact fun h => Bool.noConfusion h
  · exact fun _ => rfl
  · exact fun _ => rfl
  · exact fun h => Bool.noConfusion h
  · exact fun _ => rfl
  · exact fun _ => rfl
  · exact fun _ => rfl
  · exact fun _ => rfl
  · exact fun _ => rfl
  · exact fun _ => rfl
  · exact fun h => Bool.noConfusion h
  · exact fun _ => rfl
  · exact fun _ => rfl
  · exact fun _ => rfl
  · exact fun _ => rfl
  · exact fun _ => rfl
  · exact fun _ => rfl
  · exact fun _ => rfl
  · exact fun _ => rfl
  · exact fun _ => rfl
  · exact fun _ => rfl
  · exact fun _ => rfl
  · exact fun _ => rfl
  · exact fun _ _ h => h
  · exact fun _ h => ⟨h, rfl⟩
  · exact fun _ h => h
  (with_reducible apply keeps_tlCancel); exact rfl
  ((with_reducible apply Keeps.fold); (intro _ _))
  (with_reducible apply keeps_completeFail); exact rfl
  repeat first | with_reducible exact Keeps.refl _ _ | with_reducible assumption

theorem keeps_loadWorlds (ok0 : Bool) (ok1 : Bool) (s : State) {mk : Nat} {s0 : State} (he : mk &&& 0xFFFF7FBFF7FF = mk) (hg : Keeps mk s0 s) :
    Keeps mk s0 (loadWorlds ok0 ok1 s) := by
  refine Keeps.via ?_ he hg
  unfold loadWorlds
  try dsimp -zeta only
  ((try lift_lets); intro xL; subst xL)
  (intro xL; subst xL; try dsimp -zeta only)
  (intro xL; subst xL; try dsimp -zeta only)
  (intro xL; clear_value xL)
  split
  split
  (with_reducible apply Keeps.in_key); exact rfl
  · exact fun _ => rfl
  · exact fun _ => rfl
  · exact fun _ => rfl
  · exact fun _ => rfl
  · exact fun h => Bool.noConfusion h
  · exact fun _ => rfl
  repeat first | with_reducible exact Keeps.refl _ _ | with_reducible assumption
  split
  (with_reducible apply keeps_logEv); exact rfl
  (with_reducible apply Keeps.in_key); exact rfl
  · exact fun _ => rfl
  · exact fun _ => rfl
  · exact fun _ => rfl
  · exact fun _ => rfl
  · exact fun h => Bool.noConfusion h
  · exact fun _ => rfl
  repeat first | with_reducible exact Keeps.refl _ _ | with_reducible assumption
  (with_reducible apply keeps_logEv); exact rfl
  (with_reducible apply Keeps.in_key); exact rfl
  · exact fun _ => rfl
  · exact fun _ => rfl
  · exact fun _ => rfl
  · exact fun _ => rfl
  · exact fun h => Bool.noConfusion h
  · exact fun _ => rfl
  repeat first | with_reducible exact Keeps.refl _ _ | with_reducible assumption
  split
  (with_reducible apply keeps_logEv); exact rfl
  (with_reducible apply Keeps.in_key); exact rfl
  · exact fun _ => rfl
  · exact fun _ => rfl
  · exact fun _ => rfl
  · exact fun _ => rfl
  · exact fun h => Bool.noConfusion h
  · exact fun _ => rfl
  repeat first | with_reducible exact Keeps.refl _ _ | with_reducible assumption
  split
  (with_reducible apply keeps_logEv); exact rfl
  (with_reducible apply Keeps.in_key); exact rfl
  · exact fun _ => rfl
  · exact fun _ => rfl
  · exact fun _ => rfl
  · exact fun _ => rfl
  · exact fun h => Bool.noConfusion h
  · exact fun _ => rfl
  repeat first | with_reducible exact Keeps.refl _ _ | with_reducible assumption
  (with_reducible apply keeps_logNs); exact rfl
  (with_reducible apply Keeps.in_key); exact rfl
  · exact fun _ => rfl
  · exact fun _ => rfl
  · exact fun _ => rfl
  · exact fun _ => rfl
  · exact fun h => Bool.noConfusion h
  · exact fun _ => rfl
  repeat first | with_reducible exact Keeps.refl _ _ | with_reducible assumption

theorem keeps_resumeKeys (old : State) {mk : Nat} {s0 : State} (he : mk &&& 0xFFFEFDBFFFDF = mk) (hg : Keeps mk s0 old) :
    Keeps mk s0 (resumeKeys old) := by
  refine Keeps.via ?_ he hg
  unfold resumeKeys
  try dsimp -zeta only
  ((try lift_lets); intro xL; subst xL)
  (intro sL; with_reducible refine Keeps.cut sL ?_ ?_; rotate_left; (intro kL; clear_value sL); rotate_right; subst sL; try dsimp -zeta only)
  (with_reducible apply Keeps.in_key); exact rfl
  · exact fun _ => rfl
  · exact fun _ => rfl
  · exact fun _ => rfl
  · exact fun _ => rfl
  · exact fun _ => rfl
  · exact fun h => Bool.noConfusion h
  repeat first | with_reducible exact Keeps.refl _ _ | with_reducible assumption
  ((with_reducible apply Keeps.fold); (intro _ _))
  (with_reducible apply keeps_startAct); exact rfl
  repeat first | with_reducible exact Keeps.refl _ _ | with_reducible assumption
  ((with_reducible apply Keeps.fold); (intro _ _))
  ((try lift_lets); intro xL; clear_value xL)
  (with_reducible apply keeps_tlPut); exact rfl
  (with_reducible apply keeps_putSlot); exact rfl
  repeat first | with_reducible exact Keeps.refl _ _ | with_reducible assumption
  ((with_reducible apply Keeps.fold); (intro _ _))
  ((try lift_lets); intro xL; clear_value xL)
  (with_reducible apply keeps_startAct); exact rfl
  (with_reducible apply keeps_tlPut); exact rfl
  (with_reducible apply keeps_putSlot); exact rfl
  repeat first | with_reducible exact Keeps.refl _ _ | with_reducible assumption

theorem keeps_tamper (i : Nat) (s : State) {mk : Nat} {s0 : State} (he : mk &&& 0xFFFEFD8FD15D = mk) (hg : Keeps mk s0 s) :
    Keeps mk s0 (tamper i s) := by
  refine Keeps.via ?_ he hg
  unfold tamper
  try dsimp -zeta only
  ((try lift_lets); intro xL; clear_value xL)
  (intro xL; clear_value xL)
  (intro xL; clear_value xL)
  (intro sL; with_reducible refine Keeps.cut sL ?_ ?_; rotate_left; (intro kL; clear_value sL); rotate_right; subst sL; try dsimp -zeta only)
  (with_reducible apply keeps_logEv); exact rfl
  (with_reducible apply Keeps.set_rtc); exact rfl
  repeat first | with_reducible exact Keeps.refl _ _ | with_reducible assumption
  split
  repeat first | with_reducible exact Keeps.refl _ _ | with_reducible assumption
  (with_reducible apply keeps_keyLoss); exact rfl
  (with_reducible apply keeps_ntfOrHold); exact rfl
  repeat first | with_reducible exact Keeps.refl _ _ | with_reducible assumption

theorem keeps_sampleTamper (s : State) (i : Nat) {mk : Nat} {s0 : State} (he : mk &&& 0xFFFEFD8FD15D = mk) (hg : Keeps mk s0 s) :
    Keeps mk s0 (sampleTamper s i) := by
  refine Keeps.via ?_ he hg
  unfold sampleTamper
  try dsimp -zeta only
  ((try lift_lets); intro xL; clear_value xL)
  (intro xL; clear_value xL)
  (intro xL; clear_value xL)
  (intro xL; clear_value xL)
  (intro sL; with_reducible refine Keeps.cut sL ?_ ?_; rotate_left; (intro kL; clear_value sL); rotate_right; subst sL; try dsimp -zeta only)
  split
  (with_reducible apply Keeps.set_rtc); exact rfl
  repeat first | with_reducible exact Keeps.refl _ _ | with_reducible assumption
  (with_reducible apply Keeps.set_rtc); exact rfl
  repeat first | with_reducible exact Keeps.refl _ _ | with_reducible assumption
  split
  (with_reducible apply keeps_tamper); exact rfl
  repeat first | with_reducible exact Keeps.refl _ _ | with_reducible assumption

theorem keeps_execTamperSample (open0 : Bool) (open1 : Bool) (s : State) (t : State) (h : execTamperSample open0 open1 s = .next t) : Keeps 0xFFFEFD8FD15D s t := by
  unfold execTamperSample at h
  injection h with h
  subst h
  dsimp only
  split
  (with_reducible apply Keeps.set_rtc); exact rfl
  repeat first | with_reducible exact Keeps.refl _ _ | with_reducible assumption
  ((with_reducible apply Keeps.fold); (intro _ _))
  (with_reducible apply keeps_sampleTamper); exact rfl
  repeat first | with_reducible exact Keeps.refl _ _ | with_reducible assumption
  (with_reducible apply Keeps.set_rtc); exact rfl
  repeat first | with_reducible exact Keeps.refl _ _ | with_reducible assumption

theorem keeps_execKeyCommitEntry (s : State) (t : State) (h : execKeyCommitEntry s = .next t) : Keeps 0xFFFEC5BFD1DB s t := by
  unfold execKeyCommitEntry at h
  injection h with h
  subst h
  refine keeps_tlFire _ _ ?_ rfl (Keeps.refl _ _)
  intro k e g hf s
  try dsimp only at hf
  split at hf <;> first | injection hf with hf; subst hf | cases hf
  exact keeps_commitSlot _ _ _ _ rfl (Keeps.refl _ _)

theorem keeps_execKeyOverlapEnd (s : State) (t : State) (h : execKeyOverlapEnd s = .next t) : Keeps 0xFFFEFFBFD7DF s t := by
  unfold execKeyOverlapEnd at h
  injection h with h
  subst h
  try dsimp -zeta only
  ((with_reducible apply keeps_tlFire); (intro k e g hfg s; dsimp only at hfg; split at hfg <;> cases hfg <;> try dsimp -zeta only))
  split
  (with_reducible apply Keeps.in_key); exact rfl
  · exact fun _ => rfl
  · exact fun _ => rfl
  · exact fun _ => rfl
  · exact fun _ => rfl
  · exact fun _ => rfl
  · exact fun h => Bool.noConfusion h
  repeat first | with_reducible exact Keeps.refl _ _ | with_reducible assumption
  (with_reducible apply keeps_endOverlap); exact rfl
  repeat first | with_reducible exact Keeps.refl _ _ | with_reducible assumption
  exact (rfl : (_ : Nat) &&& _ = _)
  repeat first | with_reducible exact Keeps.refl _ _ | with_reducible assumption

theorem keeps_execKekRewrapComplete (s : State) (t : State) (h : execKekRewrapComplete s = .next t) : Keeps 0xFDFEFDBF97FF s t := by
  unfold execKekRewrapComplete at h
  injection h with h
  subst h
  split
  · exact Keeps.refl _ _
  · split
    · exact Keeps.refl _ _
    · dsimp only
      have k1 : ∀ l : List (Nat × EpRec), ∀ s0 u v, Keeps 0xFDFEFDBF97FF s0 u → Keeps 0xFDFEFDBF97FF s0
          (l.foldl (fun s r => writeRec r.1 (updEp r.1 (fun y => { y with keyCur := rewrapKey v y.keyCur, keyPrev := rewrapKey v y.keyPrev }) s)) u) :=
        fun l s0 u v hu => Keeps.fold _ _ (fun _ _ => keeps_writeRec _ _ rfl (keeps_updEp _ _ _ rfl (Keeps.refl _ _))) hu
      split
      · exact keeps_endOverlap _ _ rfl (keeps_logNs _ _ _ _ rfl (keeps_stopOne _ _ _ rfl (k1 _ _ _ _ (Keeps.in_key rfl (fun _ => rfl)
          (fun _ => rfl) (fun _ => rfl) (fun _ => rfl) (fun _ => rfl) (fun _ => rfl) (Keeps.refl _ _)))))
      · exact keeps_logNs _ _ _ _ rfl (keeps_stopOne _ _ _ rfl (k1 _ _ _ _ (Keeps.in_key rfl (fun _ => rfl)
          (fun _ => rfl) (fun _ => rfl) (fun _ => rfl) (fun _ => rfl) (fun _ => rfl) (Keeps.refl _ _))))

end Sys2Proof.Laws
end

