-- ==== Sys2Proof/Laws/Frames/KeyCmd.lean ====
section
/-!
SUPPORT. Frames of the operations of Machine/KeyCmd.lean.
-/
set_option Elab.async false
namespace Sys2Proof.Laws
open Sys2Proof Sys2Proof.Machine

theorem keeps_actKeyAttest (r : Req) (s : State) {mk : Nat} {s0 : State} (he : mk &&& 0xFFFFFFFFF9FD = mk) (hg : Keeps mk s0 s) :
    Keeps mk s0 (actKeyAttest r s) := by
  refine Keeps.via ?_ he hg
  unfold actKeyAttest
  try dsimp -zeta only
  ((try lift_lets); intro xL; clear_value xL)
  (with_reducible apply keeps_ok); exact rfl
  (with_reducible apply keeps_freshNat); exact rfl
  repeat first | with_reducible exact Keeps.refl _ _ | with_reducible assumption

theorem keeps_actKeyCommit (f0 : Nat) (f1 : Nat) (r : Req) (s : State) {mk : Nat} {s0 : State} (he : mk &&& 0xFFFEFD3FF1DD = mk) (hg : Keeps mk s0 s) :
    Keeps mk s0 (actKeyCommit f0 f1 r s) := by
  refine Keeps.via ?_ he hg
  unfold actKeyCommit
  try dsimp -zeta only
  ((try lift_lets); intro xL; clear_value xL)
  (intro xL; clear_value xL)
  (intro xL; clear_value xL)
  (intro xL; clear_value xL)
  (intro xL; clear_value xL)
  split
  (with_reducible apply keeps_failReq); exact rfl
  (with_reducible apply keeps_tlFull); exact rfl
  repeat first | with_reducible exact Keeps.refl _ _ | with_reducible assumption
  ((with_reducible apply keeps_admitReq); (intro _))
  ((try lift_lets); intro sL; with_reducible refine Keeps.cut sL ?_ ?_; rotate_left; (intro kL; clear_value sL); rotate_right; subst sL; try dsimp -zeta only)
  (with_reducible apply keeps_tlPut); exact rfl
  (with_reducible apply keeps_norWrite); exact rfl
  repeat first | with_reducible exact Keeps.refl _ _ | with_reducible assumption
  split
  (with_reducible apply keeps_failReq); exact rfl
  (with_reducible apply keeps_stopOne); exact rfl
  (with_reducible apply keeps_norWrite); exact rfl
  repeat first | with_reducible exact Keeps.refl _ _ | with_reducible assumption
  (with_reducible apply keeps_accept); exact rfl
  (with_reducible apply keeps_putSlot); exact rfl
  split
  (with_reducible apply Keeps.in_key); exact rfl
  · exact fun _ => rfl
  · exact fun _ => rfl
  · exact fun _ => rfl
  · exact fun _ => rfl
  · exact fun _ => rfl
  · exact fun h => Bool.noConfusion h
  (with_reducible apply keeps_tlPut); exact rfl
  repeat first | with_reducible exact Keeps.refl _ _ | with_reducible assumption
  (with_reducible apply Keeps.in_key); exact rfl
  · exact fun _ => rfl
  · exact fun _ => rfl
  · exact fun _ => rfl
  · exact fun _ => rfl
  · exact fun _ => rfl
  · exact fun h => Bool.noConfusion h
  repeat first | with_reducible exact Keeps.refl _ _ | with_reducible assumption
  exact (rfl : (_ : Nat) &&& _ = _)
  repeat first | with_reducible exact Keeps.refl _ _ | with_reducible assumption

theorem keeps_keyWrite (f0 : Nat) (f1 : Nat) (r : Req) (act : State → State) (s : State) {mk : Nat} {s0 : State}
    (ha : ∀ s, Keeps mk s (act s)) (he : mk &&& 0xFFFFFF7FF1FD = mk) (hg : Keeps mk s0 s) : Keeps mk s0 (keyWrite f0 f1 r act s) := by
  refine Keeps.step ?_ hg
  unfold keyWrite
  split
  next h =>
    split
    · exact (ha _).step (keeps_norWrite_eq h (by rw [← he, Nat.and_assoc]; rfl) (Keeps.refl _ _))
    · exact keeps_failReq _ _ _ (by rw [← he, Nat.and_assoc]; rfl)
        (keeps_norWrite_eq h (by rw [← he, Nat.and_assoc]; rfl) (Keeps.refl _ _))

theorem keeps_actKeyDestroy (f0 : Nat) (f1 : Nat) (r : Req) (s : State) {mk : Nat} {s0 : State} (he : mk &&& 0xFFFEFD3FF1DD = mk) (hg : Keeps mk s0 s) :
    Keeps mk s0 (actKeyDestroy f0 f1 r s) := by
  refine Keeps.via ?_ he hg
  unfold actKeyDestroy
  try dsimp -zeta only
  ((try lift_lets); intro xL; clear_value xL)
  (intro xL; clear_value xL)
  ((with_reducible apply keeps_keyWrite); (intro _))
  ((try lift_lets); intro xL; clear_value xL)
  (intro sL; with_reducible refine Keeps.cut sL ?_ ?_; rotate_left; (intro kL; clear_value sL); rotate_right; subst sL; try dsimp -zeta only)
  (with_reducible apply keeps_endCommit); exact rfl
  repeat first | with_reducible exact Keeps.refl _ _ | with_reducible assumption
  (with_reducible apply keeps_ok); exact rfl
  (with_reducible apply keeps_logNs); exact rfl
  split
  (with_reducible apply keeps_putSlot); exact rfl
  split
  (with_reducible apply Keeps.in_key); exact rfl
  · exact fun _ => rfl
  · exact fun _ => rfl
  · exact fun _ => rfl
  · exact fun _ => rfl
  · exact fun _ => rfl
  · exact fun h => Bool.noConfusion h
  (with_reducible apply keeps_stopOne); exact rfl
  (with_reducible apply keeps_tlCancel); exact rfl
  repeat first | with_reducible exact Keeps.refl _ _ | with_reducible assumption
  (with_reducible apply Keeps.in_key); exact rfl
  · exact fun _ => rfl
  · exact fun _ => rfl
  · exact fun _ => rfl
  · exact fun _ => rfl
  · exact fun _ => rfl
  · exact fun h => Bool.noConfusion h
  (with_reducible apply keeps_tlCancel); exact rfl
  repeat first | with_reducible exact Keeps.refl _ _ | with_reducible assumption
  (with_reducible apply keeps_putSlot); exact rfl
  repeat first | with_reducible exact Keeps.refl _ _ | with_reducible assumption
  exact (rfl : (_ : Nat) &&& _ = _)
  repeat first | with_reducible exact Keeps.refl _ _ | with_reducible assumption

theorem keeps_actKeyGenerate (r : Req) (s : State) {mk : Nat} {s0 : State} (he : mk &&& 0xFFFFFFBFFDFF = mk) (hg : Keeps mk s0 s) :
    Keeps mk s0 (actKeyGenerate r s) := by
  refine Keeps.via ?_ he hg
  unfold actKeyGenerate
  try dsimp -zeta only
  ((try lift_lets); intro xL; subst xL)
  (with_reducible apply keeps_accept); exact rfl
  (with_reducible apply Keeps.in_key); exact rfl
  · exact fun _ => rfl
  · exact fun _ => rfl
  · exact fun _ => rfl
  · exact fun _ => rfl
  · exact fun _ => rfl
  · exact fun _ => rfl
  repeat first | with_reducible exact Keeps.refl _ _ | with_reducible assumption

theorem keeps_actKeyImport (f0 : Nat) (f1 : Nat) (r : Req) (s : State) {mk : Nat} {s0 : State} (he : mk &&& 0xFFFEFF3FF1FD = mk) (hg : Keeps mk s0 s) :
    Keeps mk s0 (actKeyImport f0 f1 r s) := by
  refine Keeps.via ?_ he hg
  unfold actKeyImport
  try dsimp -zeta only
  ((try lift_lets); intro xL; clear_value xL)
  ((with_reducible apply keeps_keyWrite); (intro _))
  ((try lift_lets); intro xL; clear_value xL)
  (with_reducible apply keeps_ok); exact rfl
  (with_reducible apply keeps_logNs); exact rfl
  (with_reducible apply keeps_putSlot); exact rfl
  repeat first | with_reducible exact Keeps.refl _ _ | with_reducible assumption
  exact (rfl : (_ : Nat) &&& _ = _)
  repeat first | with_reducible exact Keeps.refl _ _ | with_reducible assumption

theorem keeps_actKeyInfo (r : Req) (s : State) {mk : Nat} {s0 : State} (he : mk &&& 0xFFFFFFFFF1FF = mk) (hg : Keeps mk s0 s) :
    Keeps mk s0 (actKeyInfo r s) := by
  refine Keeps.via ?_ he hg
  unfold actKeyInfo
  try dsimp -zeta only
  ((try lift_lets); intro xL; clear_value xL)
  (intro xL; clear_value xL)
  (intro xL; subst xL; try dsimp -zeta only)
  (intro xL; clear_value xL)
  (intro xL; clear_value xL)
  split
  (with_reducible apply keeps_ok); exact rfl
  (with_reducible apply keeps_logNs); exact rfl
  repeat first | with_reducible exact Keeps.refl _ _ | with_reducible assumption
  (with_reducible apply keeps_ok); exact rfl
  repeat first | with_reducible exact Keeps.refl _ _ | with_reducible assumption

theorem keeps_actKeyStage (f0 : Nat) (f1 : Nat) (r : Req) (s : State) {mk : Nat} {s0 : State} (he : mk &&& 0xFFFEFF3FF1FD = mk) (hg : Keeps mk s0 s) :
    Keeps mk s0 (actKeyStage f0 f1 r s) := by
  refine Keeps.via ?_ he hg
  unfold actKeyStage
  try dsimp -zeta only
  ((with_reducible apply keeps_keyWrite); (intro _))
  ((try lift_lets); intro xL; clear_value xL)
  (intro xL; clear_value xL)
  (with_reducible apply keeps_ok); exact rfl
  (with_reducible apply keeps_logNs); exact rfl
  (with_reducible apply keeps_putSlot); exact rfl
  repeat first | with_reducible exact Keeps.refl _ _ | with_reducible assumption
  exact (rfl : (_ : Nat) &&& _ = _)
  repeat first | with_reducible exact Keeps.refl _ _ | with_reducible assumption

theorem keeps_actKeyVerify (f0 : Nat) (f1 : Nat) (r : Req) (s : State) {mk : Nat} {s0 : State} (he : mk &&& 0xFFFEFF3FF1FD = mk) (hg : Keeps mk s0 s) :
    Keeps mk s0 (actKeyVerify f0 f1 r s) := by
  refine Keeps.via ?_ he hg
  unfold actKeyVerify
  try dsimp -zeta only
  ((try lift_lets); intro xL; clear_value xL)
  ((with_reducible apply keeps_keyWrite); (intro _))
  ((try lift_lets); intro xL; clear_value xL)
  (intro xL; clear_value xL)
  (intro xL; clear_value xL)
  split
  (with_reducible apply keeps_ok); exact rfl
  (with_reducible apply keeps_putSlot); exact rfl
  repeat first | with_reducible exact Keeps.refl _ _ | with_reducible assumption
  (with_reducible apply keeps_failReq); exact rfl
  (with_reducible apply keeps_logNs); exact rfl
  (with_reducible apply keeps_putSlot); exact rfl
  repeat first | with_reducible exact Keeps.refl _ _ | with_reducible assumption
  exact (rfl : (_ : Nat) &&& _ = _)
  repeat first | with_reducible exact Keeps.refl _ _ | with_reducible assumption

theorem keeps_actKeyWorldSet (f0 : Nat) (f1 : Nat) (r : Req) (s : State) {mk : Nat} {s0 : State} (he : mk &&& 0xFFFFFF3FF1FD = mk) (hg : Keeps mk s0 s) :
    Keeps mk s0 (actKeyWorldSet f0 f1 r s) := by
  refine Keeps.via ?_ he hg
  unfold actKeyWorldSet
  try dsimp -zeta only
  ((try lift_lets); intro xL; clear_value xL)
  (intro xL; clear_value xL)
  (intro xL; clear_value xL)
  split
  split
  (with_reducible apply keeps_ok); exact rfl
  repeat first | with_reducible exact Keeps.refl _ _ | with_reducible assumption
  ((with_reducible apply keeps_keyWrite); (intro _))
  ((try lift_lets); intro xL; clear_value xL)
  (intro xL; clear_value xL)
  (intro xL; subst xL)
  (with_reducible apply keeps_ok); exact rfl
  (with_reducible apply keeps_logNs); exact rfl
  (with_reducible apply Keeps.in_key); exact rfl
  · exact fun _ => rfl
  · exact fun _ => rfl
  · exact fun _ => rfl
  · exact fun _ => rfl
  · exact fun _ => rfl
  · exact fun _ => rfl
  repeat first | with_reducible exact Keeps.refl _ _ | with_reducible assumption
  exact (rfl : (_ : Nat) &&& _ = _)
  repeat first | with_reducible exact Keeps.refl _ _ | with_reducible assumption
  (with_reducible apply keeps_ok); exact rfl
  repeat first | with_reducible exact Keeps.refl _ _ | with_reducible assumption

theorem keeps_freshKey (s : State) {mk : Nat} {s0 : State} (he : mk &&& 0xFFFFFFFFFFFD = mk) (hg : Keeps mk s0 s) :
    Keeps mk s0 (freshKey s).2 := by
  refine Keeps.via ?_ he hg
  unfold freshKey
  try dsimp -zeta only
  (with_reducible apply keeps_freshNat); exact rfl
  repeat first | with_reducible exact Keeps.refl _ _ | with_reducible assumption

theorem keeps_freshKey_eq {s : State} {mk : Nat} {s0 sq : State} {w} (hq : freshKey s = (w, sq)) (he : mk &&& 0xFFFFFFFFFFFD = mk) (hg : Keeps mk s0 s) :
    Keeps mk s0 sq := by
  have := keeps_freshKey (mk := mk) (s0 := s0) s he hg
  rw [hq] at this
  exact this

theorem keeps_execKeyGenerateComplete (pairOk : Bool) (f0 : Nat) (f1 : Nat) (s : State) (t : State) (h : execKeyGenerateComplete pairOk f0 f1 s = .next t) : Keeps 0xFFFEFF3FF1FD s t := by
  unfold execKeyGenerateComplete at h
  injection h with h
  subst h
  try dsimp -zeta only
  ((try lift_lets); intro xL; subst xL)
  (intro xL; clear_value xL)
  split
  repeat first | with_reducible exact Keeps.refl _ _ | with_reducible assumption
  ((try lift_lets); intro sL; with_reducible refine Keeps.cut sL ?_ ?_; rotate_left; (intro kL; clear_value sL); rotate_right; subst sL; try dsimp -zeta only)
  (with_reducible apply Keeps.in_key); exact rfl
  · exact fun _ => rfl
  · exact fun _ => rfl
  · exact fun _ => rfl
  · exact fun _ => rfl
  · exact fun _ => rfl
  · exact fun h => Bool.noConfusion h
  repeat first | with_reducible exact Keeps.refl _ _ | with_reducible assumption
  split
  (with_reducible apply keeps_completeFail); exact rfl
  repeat first | with_reducible exact Keeps.refl _ _ | with_reducible assumption
  split
  (with_reducible apply keeps_completeFail); exact rfl
  (with_reducible apply keeps_norWrite); exact rfl
  repeat first | with_reducible exact Keeps.refl _ _ | with_reducible assumption
  (with_reducible apply keeps_complete); exact rfl
  (with_reducible apply keeps_logEv); exact rfl
  (with_reducible apply keeps_putSlot); exact rfl
  (with_reducible apply keeps_freshKey); exact rfl
  (with_reducible apply keeps_norWrite); exact rfl
  repeat first | with_reducible exact Keeps.refl _ _ | with_reducible assumption

theorem keeps_execKeyGenerate (s : State) (t : State) (h : execKeyGenerate s = .next t) : Keeps 0xF7FFFFBFF9FF s t := by
  unfold execKeyGenerate at h
  injection h with h
  subst h
  try dsimp -zeta only
  ((with_reducible apply keeps_serve); (intro _ _))
  (with_reducible apply keeps_actKeyGenerate); exact rfl
  repeat first | with_reducible exact Keeps.refl _ _ | with_reducible assumption
  exact (rfl : (_ : Nat) &&& _ = _)
  repeat first | with_reducible exact Keeps.refl _ _ | with_reducible assumption

theorem keeps_execKeyImport (f0 : Nat) (f1 : Nat) (s : State) (t : State) (h : execKeyImport f0 f1 s = .next t) : Keeps 0xF7FEFF3FF1FD s t := by
  unfold execKeyImport at h
  injection h with h
  subst h
  try dsimp -zeta only
  ((with_reducible apply keeps_serve); (intro _ _))
  (with_reducible apply keeps_actKeyImport); exact rfl
  repeat first | with_reducible exact Keeps.refl _ _ | with_reducible assumption
  exact (rfl : (_ : Nat) &&& _ = _)
  repeat first | with_reducible exact Keeps.refl _ _ | with_reducible assumption

theorem keeps_execKeyStage (f0 : Nat) (f1 : Nat) (s : State) (t : State) (h : execKeyStage f0 f1 s = .next t) : Keeps 0xF7FEFF3FF1FD s t := by
  unfold execKeyStage at h
  injection h with h
  subst h
  try dsimp -zeta only
  ((with_reducible apply keeps_serve); (intro _ _))
  (with_reducible apply keeps_actKeyStage); exact rfl
  repeat first | with_reducible exact Keeps.refl _ _ | with_reducible assumption
  exact (rfl : (_ : Nat) &&& _ = _)
  repeat first | with_reducible exact Keeps.refl _ _ | with_reducible assumption

theorem keeps_execKeyVerify (f0 : Nat) (f1 : Nat) (s : State) (t : State) (h : execKeyVerify f0 f1 s = .next t) : Keeps 0xF7FEFF3FF1FD s t := by
  unfold execKeyVerify at h
  injection h with h
  subst h
  try dsimp -zeta only
  ((with_reducible apply keeps_serve); (intro _ _))
  (with_reducible apply keeps_actKeyVerify); exact rfl
  repeat first | with_reducible exact Keeps.refl _ _ | with_reducible assumption
  exact (rfl : (_ : Nat) &&& _ = _)
  repeat first | with_reducible exact Keeps.refl _ _ | with_reducible assumption

theorem keeps_execKeyCommit (f0 : Nat) (f1 : Nat) (s : State) (t : State) (h : execKeyCommit f0 f1 s = .next t) : Keeps 0xF7FEFD3FF1DD s t := by
  unfold execKeyCommit at h
  injection h with h
  subst h
  try dsimp -zeta only
  ((with_reducible apply keeps_serve); (intro _ _))
  (with_reducible apply keeps_actKeyCommit); exact rfl
  repeat first | with_reducible exact Keeps.refl _ _ | with_reducible assumption
  exact (rfl : (_ : Nat) &&& _ = _)
  repeat first | with_reducible exact Keeps.refl _ _ | with_reducible assumption

theorem keeps_execKeyAttest (s : State) (t : State) (h : execKeyAttest s = .next t) : Keeps 0xF7FFFFFFF9FD s t := by
  unfold execKeyAttest at h
  injection h with h
  subst h
  try dsimp -zeta only
  ((with_reducible apply keeps_serve); (intro _ _))
  (with_reducible apply keeps_actKeyAttest); exact rfl
  repeat first | with_reducible exact Keeps.refl _ _ | with_reducible assumption
  exact (rfl : (_ : Nat) &&& _ = _)
  repeat first | with_reducible exact Keeps.refl _ _ | with_reducible assumption

theorem keeps_execKeyInfo (s : State) (t : State) (h : execKeyInfo s = .next t) : Keeps 0xF7FFFFFFF1FF s t := by
  unfold execKeyInfo at h
  injection h with h
  subst h
  try dsimp -zeta only
  ((with_reducible apply keeps_serve); (intro _ _))
  (with_reducible apply keeps_actKeyInfo); exact rfl
  repeat first | with_reducible exact Keeps.refl _ _ | with_reducible assumption
  exact (rfl : (_ : Nat) &&& _ = _)
  repeat first | with_reducible exact Keeps.refl _ _ | with_reducible assumption

theorem keeps_execKeyDestroy (f0 : Nat) (f1 : Nat) (s : State) (t : State) (h : execKeyDestroy f0 f1 s = .next t) : Keeps 0xF7FEFD3FF1DD s t := by
  unfold execKeyDestroy at h
  injection h with h
  subst h
  try dsimp -zeta only
  ((with_reducible apply keeps_serve); (intro _ _))
  (with_reducible apply keeps_actKeyDestroy); exact rfl
  repeat first | with_reducible exact Keeps.refl _ _ | with_reducible assumption
  exact (rfl : (_ : Nat) &&& _ = _)
  repeat first | with_reducible exact Keeps.refl _ _ | with_reducible assumption

theorem keeps_execKeyWorldSet (f0 : Nat) (f1 : Nat) (s : State) (t : State) (h : execKeyWorldSet f0 f1 s = .next t) : Keeps 0xF7FFFF3FF1FD s t := by
  unfold execKeyWorldSet at h
  injection h with h
  subst h
  try dsimp -zeta only
  ((with_reducible apply keeps_serve); (intro _ _))
  (with_reducible apply keeps_actKeyWorldSet); exact rfl
  repeat first | with_reducible exact Keeps.refl _ _ | with_reducible assumption
  exact (rfl : (_ : Nat) &&& _ = _)
  repeat first | with_reducible exact Keeps.refl _ _ | with_reducible assumption

end Sys2Proof.Laws
end

