-- ==== Sys2Proof/Laws/Frames/MtrCmd.lean ====
section
/-!
SUPPORT. Frames of the operations of Machine/MtrCmd.lean.
-/
set_option Elab.async false
namespace Sys2Proof.Laws
open Sys2Proof Sys2Proof.Machine

theorem keeps_actMtrBalance (r : Req) (s : State) {mk : Nat} {s0 : State} (he : mk &&& 0xFFFFFFFFF9FF = mk) (hg : Keeps mk s0 s) :
    Keeps mk s0 (actMtrBalance r s) := by
  refine Keeps.via ?_ he hg
  unfold actMtrBalance
  try dsimp -zeta only
  ((try lift_lets); intro xL; subst xL; try dsimp -zeta only)
  (with_reducible apply keeps_ok); exact rfl
  repeat first | with_reducible exact Keeps.refl _ _ | with_reducible assumption

theorem keeps_startCal (r : Req) (s : State) {mk : Nat} {s0 : State} (he : mk &&& 0xFFFFFDFBF1DF = mk) (hg : Keeps mk s0 s) :
    Keeps mk s0 (startCal r s) := by
  refine Keeps.via ?_ he hg
  unfold startCal
  try dsimp -zeta only
  ((try lift_lets); intro xL; clear_value xL)
  (intro xL; clear_value xL)
  (intro xL; clear_value xL)
  (intro xL; clear_value xL)
  split
  (with_reducible apply keeps_acceptN); exact rfl
  (with_reducible apply keeps_logEv); exact rfl
  (with_reducible apply keeps_onFeeder); exact rfl
  repeat first | with_reducible exact Keeps.refl _ _ | with_reducible assumption
  split
  (with_reducible apply keeps_acceptN); exact rfl
  (with_reducible apply keeps_onFeeder); exact rfl
  ((with_reducible apply keeps_tlPost); (with_reducible assumption); exact rfl)
  repeat first | with_reducible exact Keeps.refl _ _ | with_reducible assumption
  (with_reducible apply keeps_failReq); exact rfl
  (with_reducible apply keeps_tlFull); exact rfl
  (with_reducible apply keeps_stopAct); exact rfl
  repeat first | with_reducible exact Keeps.refl _ _ | with_reducible assumption

theorem keeps_actMtrCalibrate (r : Req) (s : State) {mk : Nat} {s0 : State} (he : mk &&& 0xFFFFFDFBF1DF = mk) (hg : Keeps mk s0 s) :
    Keeps mk s0 (actMtrCalibrate r s) := by
  refine Keeps.via ?_ he hg
  unfold actMtrCalibrate
  try dsimp -zeta only
  ((with_reducible apply keeps_admitReq); (intro _))
  (with_reducible apply keeps_startCal); exact rfl
  repeat first | with_reducible exact Keeps.refl _ _ | with_reducible assumption
  exact (rfl : (_ : Nat) &&& _ = _)
  repeat first | with_reducible exact Keeps.refl _ _ | with_reducible assumption

theorem keeps_actMtrIntervals (r : Req) (s : State) {mk : Nat} {s0 : State} (he : mk &&& 0xFFFFFFFFF9FF = mk) (hg : Keeps mk s0 s) :
    Keeps mk s0 (actMtrIntervals r s) := by
  refine Keeps.via ?_ he hg
  unfold actMtrIntervals
  try dsimp -zeta only
  ((try lift_lets); intro xL; clear_value xL)
  (intro xL; clear_value xL)
  (intro xL; clear_value xL)
  (intro xL; clear_value xL)
  (intro xL; clear_value xL)
  (intro xL; clear_value xL)
  (with_reducible apply keeps_ok); exact rfl
  repeat first | with_reducible exact Keeps.refl _ _ | with_reducible assumption

theorem keeps_actMtrRead (r : Req) (s : State) {mk : Nat} {s0 : State} (he : mk &&& 0xFFFFFFFFF9FF = mk) (hg : Keeps mk s0 s) :
    Keeps mk s0 (actMtrRead r s) := by
  refine Keeps.via ?_ he hg
  unfold actMtrRead
  try dsimp -zeta only
  ((try lift_lets); intro xL; clear_value xL)
  (intro xL; clear_value xL)
  (intro xL; subst xL; try dsimp -zeta only)
  (intro xL; clear_value xL)
  (with_reducible apply keeps_ok); exact rfl
  repeat first | with_reducible exact Keeps.refl _ _ | with_reducible assumption

theorem keeps_mtrConfigured (r : Req) (old : List Word) (s : State) {mk : Nat} {s0 : State} (he : mk &&& 0xFFFFFFFFF3FF = mk) (hg : Keeps mk s0 s) :
    Keeps mk s0 (mtrConfigured r old s) := by
  refine Keeps.via ?_ he hg
  unfold mtrConfigured
  try dsimp -zeta only
  (with_reducible apply keeps_logEv); exact rfl
  (with_reducible apply keeps_markStored); exact rfl
  repeat first | with_reducible exact Keeps.refl _ _ | with_reducible assumption

theorem keeps_applyMtrFeederConfig (r : Req) (s : State) {mk : Nat} {s0 : State} (he : mk &&& 0xFFFFFDFBF1DF = mk) (hg : Keeps mk s0 s) :
    Keeps mk s0 (applyMtrFeederConfig r s) := by
  refine Keeps.via ?_ he hg
  unfold applyMtrFeederConfig
  try dsimp -zeta only
  ((try lift_lets); intro xL; clear_value xL)
  (intro xL; clear_value xL)
  (intro sL; with_reducible refine Keeps.cut sL ?_ ?_; rotate_left; (intro kL; clear_value sL); rotate_right; subst sL; try dsimp -zeta only)
  (with_reducible apply keeps_abandonCal); exact rfl
  repeat first | with_reducible exact Keeps.refl _ _ | with_reducible assumption
  (with_reducible apply keeps_mtrConfigured); exact rfl
  split
  (with_reducible apply keeps_onFeeder); exact rfl
  split
  (with_reducible apply Keeps.set_mtr); exact rfl
  (with_reducible apply keeps_logEv); exact rfl
  (with_reducible apply keeps_onFeeder); exact rfl
  repeat first | with_reducible exact Keeps.refl _ _ | with_reducible assumption
  (with_reducible apply Keeps.set_mtr); exact rfl
  repeat first | with_reducible exact Keeps.refl _ _ | with_reducible assumption
  split
  (with_reducible apply keeps_openInterval); exact rfl
  split
  (with_reducible apply Keeps.set_mtr); exact rfl
  (with_reducible apply keeps_logEv); exact rfl
  (with_reducible apply keeps_onFeeder); exact rfl
  repeat first | with_reducible exact Keeps.refl _ _ | with_reducible assumption
  (with_reducible apply Keeps.set_mtr); exact rfl
  repeat first | with_reducible exact Keeps.refl _ _ | with_reducible assumption
  split
  (with_reducible apply Keeps.set_mtr); exact rfl
  (with_reducible apply keeps_logEv); exact rfl
  (with_reducible apply keeps_onFeeder); exact rfl
  repeat first | with_reducible exact Keeps.refl _ _ | with_reducible assumption
  (with_reducible apply Keeps.set_mtr); exact rfl
  repeat first | with_reducible exact Keeps.refl _ _ | with_reducible assumption

theorem keeps_applyMtrInputConfig (r : Req) (s : State) {mk : Nat} {s0 : State} (he : mk &&& 0xFFFFFFFBF3FF = mk) (hg : Keeps mk s0 s) :
    Keeps mk s0 (applyMtrInputConfig r s) := by
  refine Keeps.via ?_ he hg
  unfold applyMtrInputConfig
  try dsimp -zeta only
  ((try lift_lets); intro sL; with_reducible refine Keeps.cut sL ?_ ?_; rotate_left; (intro kL; clear_value sL); rotate_right; subst sL; try dsimp -zeta only)
  (with_reducible apply Keeps.set_mtr); exact rfl
  repeat first | with_reducible exact Keeps.refl _ _ | with_reducible assumption
  (with_reducible apply keeps_mtrConfigured); exact rfl
  split
  (with_reducible apply Keeps.set_mtr); exact rfl
  repeat first | with_reducible exact Keeps.refl _ _ | with_reducible assumption

theorem keeps_applyMtrPulseConfig (r : Req) (s : State) {mk : Nat} {s0 : State} (he : mk &&& 0xFFFFFFFBF3FF = mk) (hg : Keeps mk s0 s) :
    Keeps mk s0 (applyMtrPulseConfig r s) := by
  refine Keeps.via ?_ he hg
  unfold applyMtrPulseConfig
  try dsimp -zeta only
  ((try lift_lets); intro xL; clear_value xL)
  (with_reducible apply keeps_mtrConfigured); exact rfl
  (with_reducible apply Keeps.set_mtr); exact rfl
  repeat first | with_reducible exact Keeps.refl _ _ | with_reducible assumption

theorem keeps_execMeterCalApply (s : State) (t : State) (h : execMeterCalApply s = .next t) : Keeps 0xFFFFFDFBF1DF s t := by
  unfold execMeterCalApply at h
  injection h with h
  subst h
  try dsimp -zeta only
  split
  repeat first | with_reducible exact Keeps.refl _ _ | with_reducible assumption
  ((with_reducible apply keeps_tlFire); (intro k e g hfg s; dsimp only at hfg; split at hfg <;> cases hfg <;> try dsimp -zeta only))
  split
  repeat first | with_reducible exact Keeps.refl _ _ | with_reducible assumption
  (with_reducible apply keeps_complete); exact rfl
  (with_reducible apply keeps_logEv); exact rfl
  (with_reducible apply keeps_markStored); exact rfl
  (with_reducible apply keeps_stopAct); exact rfl
  (with_reducible apply keeps_onFeeder); exact rfl
  repeat first | with_reducible exact Keeps.refl _ _ | with_reducible assumption
  exact (rfl : (_ : Nat) &&& _ = _)
  repeat first | with_reducible exact Keeps.refl _ _ | with_reducible assumption

theorem keeps_execMeterMeasureEnd (f : Nat) (s : State) (t : State) (h : execMeterMeasureEnd f s = .next t) : Keeps 0xFFFFFDFBF9FF s t := by
  unfold execMeterMeasureEnd at h
  injection h with h
  subst h
  try dsimp -zeta only
  ((try lift_lets); intro xL; subst xL; try dsimp -zeta only)
  split
  repeat first | with_reducible exact Keeps.refl _ _ | with_reducible assumption
  ((try lift_lets); intro xL; clear_value xL)
  (intro xL; clear_value xL)
  split
  (with_reducible apply keeps_complete); exact rfl
  (with_reducible apply keeps_stopAct); exact rfl
  (with_reducible apply keeps_onFeeder); exact rfl
  repeat first | with_reducible exact Keeps.refl _ _ | with_reducible assumption

theorem keeps_execMtrInputConfig (s : State) (t : State) (h : execMtrInputConfig s = .next t) : Keeps 0xF7FFFFFFF1DF s t := by
  unfold execMtrInputConfig at h
  injection h with h
  subst h
  try dsimp -zeta only
  ((with_reducible apply keeps_serve); (intro _ _))
  (with_reducible apply keeps_storeAtBoundary); exact rfl
  repeat first | with_reducible exact Keeps.refl _ _ | with_reducible assumption
  exact (rfl : (_ : Nat) &&& _ = _)
  repeat first | with_reducible exact Keeps.refl _ _ | with_reducible assumption

theorem keeps_execMtrFeederConfig (s : State) (t : State) (h : execMtrFeederConfig s = .next t) : Keeps 0xF7FFFFFFF1DF s t := by
  unfold execMtrFeederConfig at h
  injection h with h
  subst h
  try dsimp -zeta only
  ((with_reducible apply keeps_serve); (intro _ _))
  (with_reducible apply keeps_storeAtBoundary); exact rfl
  repeat first | with_reducible exact Keeps.refl _ _ | with_reducible assumption
  exact (rfl : (_ : Nat) &&& _ = _)
  repeat first | with_reducible exact Keeps.refl _ _ | with_reducible assumption

theorem keeps_execMtrRead (s : State) (t : State) (h : execMtrRead s = .next t) : Keeps 0xF7FFFFFFF9FF s t := by
  unfold execMtrRead at h
  injection h with h
  subst h
  try dsimp -zeta only
  ((with_reducible apply keeps_serve); (intro _ _))
  (with_reducible apply keeps_actMtrRead); exact rfl
  repeat first | with_reducible exact Keeps.refl _ _ | with_reducible assumption
  exact (rfl : (_ : Nat) &&& _ = _)
  repeat first | with_reducible exact Keeps.refl _ _ | with_reducible assumption

theorem keeps_execMtrIntervals (s : State) (t : State) (h : execMtrIntervals s = .next t) : Keeps 0xF7FFFFFFF9FF s t := by
  unfold execMtrIntervals at h
  injection h with h
  subst h
  try dsimp -zeta only
  ((with_reducible apply keeps_serve); (intro _ _))
  (with_reducible apply keeps_actMtrIntervals); exact rfl
  repeat first | with_reducible exact Keeps.refl _ _ | with_reducible assumption
  exact (rfl : (_ : Nat) &&& _ = _)
  repeat first | with_reducible exact Keeps.refl _ _ | with_reducible assumption

theorem keeps_execMtrPulseConfig (s : State) (t : State) (h : execMtrPulseConfig s = .next t) : Keeps 0xF7FFFFFFF1DF s t := by
  unfold execMtrPulseConfig at h
  injection h with h
  subst h
  try dsimp -zeta only
  ((with_reducible apply keeps_serve); (intro _ _))
  (with_reducible apply keeps_storeAtBoundary); exact rfl
  repeat first | with_reducible exact Keeps.refl _ _ | with_reducible assumption
  exact (rfl : (_ : Nat) &&& _ = _)
  repeat first | with_reducible exact Keeps.refl _ _ | with_reducible assumption

theorem keeps_execMtrCalibrate (s : State) (t : State) (h : execMtrCalibrate s = .next t) : Keeps 0xF7FFFDFBF1DF s t := by
  unfold execMtrCalibrate at h
  injection h with h
  subst h
  try dsimp -zeta only
  ((with_reducible apply keeps_serve); (intro _ _))
  (with_reducible apply keeps_actMtrCalibrate); exact rfl
  repeat first | with_reducible exact Keeps.refl _ _ | with_reducible assumption
  exact (rfl : (_ : Nat) &&& _ = _)
  repeat first | with_reducible exact Keeps.refl _ _ | with_reducible assumption

theorem keeps_execMtrBalance (s : State) (t : State) (h : execMtrBalance s = .next t) : Keeps 0xF7FFFFFFF9FF s t := by
  unfold execMtrBalance at h
  injection h with h
  subst h
  try dsimp -zeta only
  ((with_reducible apply keeps_serve); (intro _ _))
  (with_reducible apply keeps_actMtrBalance); exact rfl
  repeat first | with_reducible exact Keeps.refl _ _ | with_reducible assumption
  exact (rfl : (_ : Nat) &&& _ = _)
  repeat first | with_reducible exact Keeps.refl _ _ | with_reducible assumption

end Sys2Proof.Laws
end

