-- ==== Sys2Proof/Laws/Frames/Sign.lean ====
section
/-!
SUPPORT. Frames of the operations of Machine/Sign.lean.
-/
set_option Elab.async false
namespace Sys2Proof.Laws
open Sys2Proof Sys2Proof.Machine

theorem keeps_startShift (s : State) {mk : Nat} {s0 : State} (he : mk &&& 0xFFFFFFF7FFFF = mk) (hg : Keeps mk s0 s) :
    Keeps mk s0 (startShift s) := by
  refine Keeps.via ?_ he hg
  unfold startShift
  try dsimp -zeta only
  ((try lift_lets); intro xL; clear_value xL)
  (with_reducible apply Keeps.set_sgn); exact rfl
  repeat first | with_reducible exact Keeps.refl _ _ | with_reducible assumption

theorem keeps_recompute (s : State) {mk : Nat} {s0 : State} (he : mk &&& 0xFFFFFFF7FFFF = mk) (hg : Keeps mk s0 s) :
    Keeps mk s0 (recompute s) := by
  refine Keeps.via ?_ he hg
  unfold recompute
  try dsimp -zeta only
  ((try lift_lets); intro xL; clear_value xL)
  (intro xL; clear_value xL)
  (intro xL; clear_value xL)
  (intro xL; clear_value xL)
  (with_reducible apply Keeps.set_sgn); exact rfl
  repeat first | with_reducible exact Keeps.refl _ _ | with_reducible assumption

theorem keeps_setRecord (r : FailRecord) (s : State) {mk : Nat} {s0 : State} (he : mk &&& 0xFFFFFFF7FFFF = mk) (hg : Keeps mk s0 s) :
    Keeps mk s0 (setRecord r s) := by
  refine Keeps.via ?_ he hg
  unfold setRecord
  try dsimp -zeta only
  ((try lift_lets); intro xL; clear_value xL)
  (with_reducible apply Keeps.set_sgn); exact rfl
  repeat first | with_reducible exact Keeps.refl _ _ | with_reducible assumption

theorem keeps_sgnWithdraw (s : State) {mk : Nat} {s0 : State} (he : mk &&& 0xFFFFFFF7FFFF = mk) (hg : Keeps mk s0 s) :
    Keeps mk s0 (sgnWithdraw s) := by
  refine Keeps.via ?_ he hg
  unfold sgnWithdraw
  try dsimp -zeta only
  ((try lift_lets); intro xL; clear_value xL)
  (with_reducible apply Keeps.set_sgn); exact rfl
  repeat first | with_reducible exact Keeps.refl _ _ | with_reducible assumption

theorem keeps_execSgnCycleUpdate (cur : List Nat) (s : State) (t : State) (h : execSgnCycleUpdate cur s = .next t) : Keeps 0xFFFFFFF7FFFF s t := by
  unfold execSgnCycleUpdate at h
  injection h with h
  subst h
  try dsimp -zeta only
  ((try lift_lets); intro xL; clear_value xL)
  (intro sL; with_reducible refine Keeps.cut sL ?_ ?_; rotate_left; (intro kL; clear_value sL); rotate_right; subst sL; try dsimp -zeta only)
  (with_reducible apply keeps_recompute); exact rfl
  (with_reducible apply Keeps.set_sgn); exact rfl
  repeat first | with_reducible exact Keeps.refl _ _ | with_reducible assumption
  split
  split
  repeat first | with_reducible exact Keeps.refl _ _ | with_reducible assumption
  (with_reducible apply Keeps.set_sgn); exact rfl
  repeat first | with_reducible exact Keeps.refl _ _ | with_reducible assumption
  split
  repeat first | with_reducible exact Keeps.refl _ _ | with_reducible assumption
  (with_reducible apply Keeps.set_sgn); exact rfl
  repeat first | with_reducible exact Keeps.refl _ _ | with_reducible assumption

theorem keeps_failFunction (k : Nat) (short : Bool) (s : State) (n : Nat) {mk : Nat} {s0 : State} (he : mk &&& 0xFFFFFFF7F5FF = mk) (hg : Keeps mk s0 s) :
    Keeps mk s0 (failFunction k short s n) := by
  refine Keeps.via ?_ he hg
  unfold failFunction
  try dsimp -zeta only
  ((try lift_lets); intro xL; clear_value xL)
  (intro xL; subst xL; try dsimp -zeta only)
  (intro xL; clear_value xL)
  (intro xL; clear_value xL)
  (intro sL; with_reducible refine Keeps.cut sL ?_ ?_; rotate_left; (intro kL; clear_value sL); rotate_right; subst sL; try dsimp -zeta only)
  (with_reducible apply keeps_setRecord); exact rfl
  repeat first | with_reducible exact Keeps.refl _ _ | with_reducible assumption
  split
  (with_reducible apply keeps_setRecord); exact rfl
  repeat first | with_reducible exact Keeps.refl _ _ | with_reducible assumption
  (with_reducible apply keeps_notifyBlock); exact rfl
  (with_reducible apply keeps_logNs); exact rfl
  repeat first | with_reducible exact Keeps.refl _ _ | with_reducible assumption

theorem keeps_memberFault (k : Nat) (short : Bool) (s : State) {mk : Nat} {s0 : State} (he : mk &&& 0xFFFFFFF7F5FF = mk) (hg : Keeps mk s0 s) :
    Keeps mk s0 (memberFault k short s) := by
  refine Keeps.via ?_ he hg
  unfold memberFault
  try dsimp -zeta only
  ((try lift_lets); intro xL; clear_value xL)
  (intro xL; clear_value xL)
  (intro xL; clear_value xL)
  (intro xL; clear_value xL)
  (intro sL; with_reducible refine Keeps.cut sL ?_ ?_; rotate_left; (intro kL; clear_value sL); rotate_right; subst sL; try dsimp -zeta only)
  split
  (with_reducible apply keeps_logEv); exact rfl
  (with_reducible apply keeps_setRecord); exact rfl
  repeat first | with_reducible exact Keeps.refl _ _ | with_reducible assumption
  ((with_reducible apply Keeps.fold); (intro _ _))
  (with_reducible apply keeps_failFunction); exact rfl
  repeat first | with_reducible exact Keeps.refl _ _ | with_reducible assumption
  (with_reducible apply keeps_recompute); exact rfl
  (with_reducible apply Keeps.set_sgn); exact rfl
  repeat first | with_reducible exact Keeps.refl _ _ | with_reducible assumption

theorem keeps_execStringFault (k : Nat) (ps : List StringPeriod) (s : State) (t : State) (h : execStringFault k ps s = .next t) : Keeps 0xFFFFFFF7F5FF s t := by
  unfold execStringFault at h
  injection h with h
  subst h
  try dsimp -zeta only
  ((try lift_lets); intro xL; clear_value xL)
  split
  split
  (with_reducible apply keeps_memberFault); exact rfl
  repeat first | with_reducible exact Keeps.refl _ _ | with_reducible assumption
  split
  (with_reducible apply keeps_memberFault); exact rfl
  repeat first | with_reducible exact Keeps.refl _ _ | with_reducible assumption

theorem keeps_execSinkFault (k : Nat) (ps : List SinkPeriod) (s : State) (t : State) (h : execSinkFault k ps s = .next t) : Keeps 0xFFFFFFF7F5FF s t := by
  unfold execSinkFault at h
  injection h with h
  subst h
  try dsimp -zeta only
  ((try lift_lets); intro xL; clear_value xL)
  split
  split
  (with_reducible apply keeps_memberFault); exact rfl
  repeat first | with_reducible exact Keeps.refl _ _ | with_reducible assumption
  split
  (with_reducible apply keeps_memberFault); exact rfl
  repeat first | with_reducible exact Keeps.refl _ _ | with_reducible assumption

theorem keeps_execSgnLevelApply (s : State) (t : State) (h : execSgnLevelApply s = .next t) : Keeps 0xFFFFFFF7FFDF s t := by
  unfold execSgnLevelApply at h
  injection h with h
  subst h
  try dsimp -zeta only
  ((with_reducible apply keeps_tlFire); (intro k e g hfg s; dsimp only at hfg; split at hfg <;> cases hfg <;> try dsimp -zeta only))
  (with_reducible apply keeps_recompute); exact rfl
  (with_reducible apply Keeps.set_sgn); exact rfl
  repeat first | with_reducible exact Keeps.refl _ _ | with_reducible assumption
  exact (rfl : (_ : Nat) &&& _ = _)
  repeat first | with_reducible exact Keeps.refl _ _ | with_reducible assumption

theorem keeps_latchFlip (late : Bool) (timeout : Bool) (s : State) {mk : Nat} {s0 : State} (he : mk &&& 0xFFFFFFF7F5FF = mk) (hg : Keeps mk s0 s) :
    Keeps mk s0 (latchFlip late timeout s) := by
  refine Keeps.via ?_ he hg
  unfold latchFlip
  try dsimp -zeta only
  ((try lift_lets); intro xL; clear_value xL)
  (intro xL; clear_value xL)
  (intro sL; with_reducible refine Keeps.cut sL ?_ ?_; rotate_left; (intro kL; clear_value sL); rotate_right; subst sL; try dsimp -zeta only)
  split
  (with_reducible apply Keeps.set_sgn); exact rfl
  repeat first | with_reducible exact Keeps.refl _ _ | with_reducible assumption
  (with_reducible apply Keeps.set_sgn); exact rfl
  repeat first | with_reducible exact Keeps.refl _ _ | with_reducible assumption
  (with_reducible apply keeps_notifyBlock); exact rfl
  repeat first | with_reducible exact Keeps.refl _ _ | with_reducible assumption

theorem keeps_latchAt (timeout : Bool) (s : State) {mk : Nat} {s0 : State} (he : mk &&& 0xFFFFFFF7F5FF = mk) (hg : Keeps mk s0 s) :
    Keeps mk s0 (latchAt timeout s) := by
  refine Keeps.via ?_ he hg
  unfold latchAt
  try dsimp -zeta only
  ((try lift_lets); intro xL; clear_value xL)
  split
  repeat first | with_reducible exact Keeps.refl _ _ | with_reducible assumption
  split
  (with_reducible apply keeps_latchFlip); exact rfl
  repeat first | with_reducible exact Keeps.refl _ _ | with_reducible assumption
  (with_reducible apply Keeps.set_sgn); exact rfl
  repeat first | with_reducible exact Keeps.refl _ _ | with_reducible assumption

theorem keeps_execMatrixLatch (e : Option SyncEdge) (s : State) (t : State) (h : execMatrixLatch e s = .next t) : Keeps 0xFFFFFFF7F5DF s t := by
  unfold execMatrixLatch at h
  injection h with h
  subst h
  split
  · refine keeps_tlFire _ _ ?_ rfl (Keeps.refl _ _)
    intro k e g hf s
    try dsimp only at hf
    split at hf <;> first | injection hf with hf; subst hf | cases hf
    exact keeps_latchAt _ _ rfl (Keeps.refl _ _)
  · dsimp only
    repeat' split
    all_goals first
      | exact keeps_latchAt _ _ rfl (Keeps.set_sgn rfl (Keeps.refl _ _))
      | exact Keeps.set_sgn rfl (Keeps.refl _ _)
      | exact Keeps.refl _ _

theorem keeps_execSyncTimeout (s : State) (t : State) (h : execSyncTimeout s = .next t) : Keeps 0xFFFFFFF7F5FF s t := by
  unfold execSyncTimeout at h
  injection h with h
  subst h
  try dsimp -zeta only
  ((try lift_lets); intro xL; clear_value xL)
  split
  repeat first | with_reducible exact Keeps.refl _ _ | with_reducible assumption
  split
  (with_reducible apply keeps_latchAt); exact rfl
  (with_reducible apply keeps_logLim); exact rfl
  (with_reducible apply Keeps.set_sgn); exact rfl
  repeat first | with_reducible exact Keeps.refl _ _ | with_reducible assumption

theorem keeps_execMatrixShiftEnd (s : State) (t : State) (h : execMatrixShiftEnd s = .next t) : Keeps 0xFFFFFFF7F5FF s t := by
  unfold execMatrixShiftEnd at h
  injection h with h
  subst h
  try dsimp -zeta only
  ((try lift_lets); intro xL; clear_value xL)
  (intro sL; with_reducible refine Keeps.cut sL ?_ ?_; rotate_left; (intro kL; clear_value sL); rotate_right; subst sL; try dsimp -zeta only)
  (with_reducible apply Keeps.set_sgn); exact rfl
  repeat first | with_reducible exact Keeps.refl _ _ | with_reducible assumption
  split
  repeat first | with_reducible exact Keeps.refl _ _ | with_reducible assumption
  split
  repeat first | with_reducible exact Keeps.refl _ _ | with_reducible assumption
  split
  split
  (with_reducible apply keeps_latchFlip); exact rfl
  repeat first | with_reducible exact Keeps.refl _ _ | with_reducible assumption

theorem keeps_execMatrixRefresh (s : State) (t : State) (h : execMatrixRefresh s = .next t) : Keeps 0xFFFFFFF7FFFF s t := by
  unfold execMatrixRefresh at h
  injection h with h
  subst h
  try dsimp -zeta only
  ((try lift_lets); intro xL; clear_value xL)
  split
  (with_reducible apply Keeps.set_sgn); exact rfl
  repeat first | with_reducible exact Keeps.refl _ _ | with_reducible assumption

theorem keeps_trackColour (m : List Nat) (s : State) {mk : Nat} {s0 : State} (he : mk &&& 0xFFFFFFF7F7FD = mk) (hg : Keeps mk s0 s) :
    Keeps mk s0 (trackColour m s) := by
  refine Keeps.via ?_ he hg
  unfold trackColour
  try dsimp -zeta only
  ((try lift_lets); intro xL; clear_value xL)
  (intro xL; subst xL; try dsimp -zeta only)
  (intro xL; clear_value xL)
  (intro xL; clear_value xL)
  (intro xL; clear_value xL)
  (intro xL; clear_value xL)
  (intro sL; with_reducible refine Keeps.cut sL ?_ ?_; rotate_left; (intro kL; clear_value sL); rotate_right; subst sL; try dsimp -zeta only)
  (with_reducible apply Keeps.set_sgn); exact rfl
  (with_reducible apply keeps_freshNat); exact rfl
  repeat first | with_reducible exact Keeps.refl _ _ | with_reducible assumption
  split
  (with_reducible apply Keeps.set_sgn); exact rfl
  repeat first | with_reducible exact Keeps.refl _ _ | with_reducible assumption
  split
  (with_reducible apply Keeps.set_sgn); exact rfl
  repeat first | with_reducible exact Keeps.refl _ _ | with_reducible assumption
  ((with_reducible apply Keeps.fold); (intro _ _))
  split
  repeat first | with_reducible exact Keeps.refl _ _ | with_reducible assumption
  (with_reducible apply keeps_logLim); exact rfl
  repeat first | with_reducible exact Keeps.refl _ _ | with_reducible assumption

theorem keeps_sensorEvent (r : SensorRead) (onset : Bool) (s : State) {mk : Nat} {s0 : State} (he : mk &&& 0xFFFFFFFFF7FF = mk) (hg : Keeps mk s0 s) :
    Keeps mk s0 (sensorEvent r onset s) := by
  refine Keeps.via ?_ he hg
  unfold sensorEvent
  try dsimp -zeta only
  ((try lift_lets); intro xL; clear_value xL)
  (with_reducible apply keeps_logEv); exact rfl
  repeat first | with_reducible exact Keeps.refl _ _ | with_reducible assumption

theorem keeps_execSensorRead (r : SensorRead) (s : State) (t : State) (h : execSensorRead r s = .next t) : Keeps 0xFFFFFFF7F7FD s t := by
  unfold execSensorRead at h
  injection h with h
  subst h
  try dsimp -zeta only
  ((try lift_lets); intro xL; clear_value xL)
  (intro sL; with_reducible refine Keeps.cut sL ?_ ?_; rotate_left; (intro kL; clear_value sL); rotate_right; subst sL; try dsimp -zeta only)
  (with_reducible apply Keeps.set_sgn); exact rfl
  repeat first | with_reducible exact Keeps.refl _ _ | with_reducible assumption
  split
  split
  (with_reducible apply keeps_trackColour); exact rfl
  (with_reducible apply Keeps.set_sgn); exact rfl
  repeat first | with_reducible exact Keeps.refl _ _ | with_reducible assumption
  split
  (with_reducible apply Keeps.set_sgn); exact rfl
  repeat first | with_reducible exact Keeps.refl _ _ | with_reducible assumption
  (with_reducible apply keeps_sensorEvent); exact rfl
  (with_reducible apply Keeps.set_sgn); exact rfl
  repeat first | with_reducible exact Keeps.refl _ _ | with_reducible assumption

theorem keeps_execSensorRetry (r : SensorRead) (s : State) (t : State) (h : execSensorRetry r s = .next t) : Keeps 0xFFFFFFF7F7FF s t := by
  unfold execSensorRetry at h
  injection h with h
  subst h
  try dsimp -zeta only
  ((try lift_lets); intro xL; clear_value xL)
  split
  split
  (with_reducible apply keeps_sensorEvent); exact rfl
  (with_reducible apply Keeps.set_sgn); exact rfl
  repeat first | with_reducible exact Keeps.refl _ _ | with_reducible assumption
  (with_reducible apply Keeps.set_sgn); exact rfl
  repeat first | with_reducible exact Keeps.refl _ _ | with_reducible assumption

theorem keeps_execNtcMeasure (n : Nat) (x : Nat) (s : State) (t : State) (h : execNtcMeasure n x s = .next t) : Keeps 0xFFFFFFF7F7FF s t := by
  unfold execNtcMeasure at h
  injection h with h
  subst h
  try dsimp -zeta only
  ((try lift_lets); intro xL; clear_value xL)
  (intro xL; clear_value xL)
  (intro xL; clear_value xL)
  (intro xL; clear_value xL)
  (intro xL; clear_value xL)
  (intro xL; clear_value xL)
  (intro sL; with_reducible refine Keeps.cut sL ?_ ?_; rotate_left; (intro kL; clear_value sL); rotate_right; subst sL; try dsimp -zeta only)
  (with_reducible apply Keeps.set_sgn); exact rfl
  repeat first | with_reducible exact Keeps.refl _ _ | with_reducible assumption
  split
  repeat first | with_reducible exact Keeps.refl _ _ | with_reducible assumption
  split
  repeat first | with_reducible exact Keeps.refl _ _ | with_reducible assumption
  (with_reducible apply keeps_logEv); exact rfl
  repeat first | with_reducible exact Keeps.refl _ _ | with_reducible assumption

theorem keeps_updateNtc (s : State) (n : Nat) {mk : Nat} {s0 : State} (he : mk &&& 0xFFFFFFF7F7FF = mk) (hg : Keeps mk s0 s) :
    Keeps mk s0 (updateNtc s n) := by
  refine Keeps.via ?_ he hg
  unfold updateNtc
  try dsimp -zeta only
  ((try lift_lets); intro xL; clear_value xL)
  (intro xL; clear_value xL)
  (intro xL; clear_value xL)
  (intro xL; clear_value xL)
  (intro xL; clear_value xL)
  (intro xL; clear_value xL)
  (intro sL; with_reducible refine Keeps.cut sL ?_ ?_; rotate_left; (intro kL; clear_value sL); rotate_right; subst sL; try dsimp -zeta only)
  (with_reducible apply Keeps.set_sgn); exact rfl
  repeat first | with_reducible exact Keeps.refl _ _ | with_reducible assumption
  split
  repeat first | with_reducible exact Keeps.refl _ _ | with_reducible assumption
  split
  split
  repeat first | with_reducible exact Keeps.refl _ _ | with_reducible assumption
  (with_reducible apply keeps_logEv); exact rfl
  repeat first | with_reducible exact Keeps.refl _ _ | with_reducible assumption
  (with_reducible apply keeps_logEv); exact rfl
  split
  repeat first | with_reducible exact Keeps.refl _ _ | with_reducible assumption
  (with_reducible apply keeps_logEv); exact rfl
  repeat first | with_reducible exact Keeps.refl _ _ | with_reducible assumption

theorem keeps_execDerateUpdate (s : State) (t : State) (h : execDerateUpdate s = .next t) : Keeps 0xFFFFFFF7F7FF s t := by
  unfold execDerateUpdate at h
  injection h with h
  subst h
  try dsimp -zeta only
  ((try lift_lets); intro xL; clear_value xL)
  split
  ((with_reducible apply Keeps.fold); (intro _ _))
  (with_reducible apply keeps_updateNtc); exact rfl
  repeat first | with_reducible exact Keeps.refl _ _ | with_reducible assumption
  (with_reducible apply Keeps.set_sgn); exact rfl
  repeat first | with_reducible exact Keeps.refl _ _ | with_reducible assumption

end Sys2Proof.Laws
end

