-- ==== Sys2Proof/Laws/Frames/SgnCmd.lean ====
section
/-!
SUPPORT. Frames of the operations of Machine/SgnCmd.lean.
-/
set_option Elab.async false
namespace Sys2Proof.Laws
open Sys2Proof Sys2Proof.Machine

theorem keeps_actSgnFlip (r : Req) (s : State) {mk : Nat} {s0 : State} (he : mk &&& 0xFFFFFFF7F1DF = mk) (hg : Keeps mk s0 s) :
    Keeps mk s0 (actSgnFlip r s) := by
  refine Keeps.via ?_ he hg
  unfold actSgnFlip
  try dsimp -zeta only
  ((try lift_lets); intro xL; clear_value xL)
  (intro xL; clear_value xL)
  (intro xL; subst xL; try dsimp -zeta only)
  ((try lift_lets); intro xL; clear_value xL)
  split
  (with_reducible apply keeps_ok); exact rfl
  (with_reducible apply keeps_startShift); exact rfl
  (with_reducible apply Keeps.set_sgn); exact rfl
  repeat first | with_reducible exact Keeps.refl _ _ | with_reducible assumption
  split
  ((try lift_lets); intro xL; clear_value xL)
  (with_reducible apply keeps_ok); exact rfl
  (with_reducible apply keeps_startShift); exact rfl
  (with_reducible apply Keeps.set_sgn); exact rfl
  ((with_reducible apply keeps_tlPost); (with_reducible assumption); exact rfl)
  repeat first | with_reducible exact Keeps.refl _ _ | with_reducible assumption
  (with_reducible apply keeps_failReq); exact rfl
  (with_reducible apply keeps_tlFull); exact rfl
  repeat first | with_reducible exact Keeps.refl _ _ | with_reducible assumption

theorem keeps_actSgnFrameLoad (r : Req) (s : State) {mk : Nat} {s0 : State} (he : mk &&& 0xFFFFFFF7F9FF = mk) (hg : Keeps mk s0 s) :
    Keeps mk s0 (actSgnFrameLoad r s) := by
  refine Keeps.via ?_ he hg
  unfold actSgnFrameLoad
  try dsimp -zeta only
  ((try lift_lets); intro xL; clear_value xL)
  (intro xL; clear_value xL)
  (with_reducible apply keeps_ok); exact rfl
  split
  (with_reducible apply Keeps.set_sgn); exact rfl
  repeat first | with_reducible exact Keeps.refl _ _ | with_reducible assumption
  (with_reducible apply Keeps.set_sgn); exact rfl
  repeat first | with_reducible exact Keeps.refl _ _ | with_reducible assumption

theorem keeps_actSgnLevel (r : Req) (s : State) {mk : Nat} {s0 : State} (he : mk &&& 0xFFFFFFFFF1DF = mk) (hg : Keeps mk s0 s) :
    Keeps mk s0 (actSgnLevel r s) := by
  refine Keeps.via ?_ he hg
  unfold actSgnLevel
  try dsimp -zeta only
  ((try lift_lets); intro xL; clear_value xL)
  (intro xL; clear_value xL)
  split
  (with_reducible apply keeps_failReq); exact rfl
  (with_reducible apply keeps_tlFull); exact rfl
  repeat first | with_reducible exact Keeps.refl _ _ | with_reducible assumption
  split
  (with_reducible apply keeps_respond); exact rfl
  ((with_reducible apply keeps_tlPost); (with_reducible assumption); exact rfl)
  repeat first | with_reducible exact Keeps.refl _ _ | with_reducible assumption
  (with_reducible apply keeps_ok); exact rfl
  ((with_reducible apply keeps_tlPost); (with_reducible assumption); exact rfl)
  repeat first | with_reducible exact Keeps.refl _ _ | with_reducible assumption

theorem keeps_actSgnStatus (r : Req) (s : State) {mk : Nat} {s0 : State} (he : mk &&& 0xFFFFFFFFF9FF = mk) (hg : Keeps mk s0 s) :
    Keeps mk s0 (actSgnStatus r s) := by
  refine Keeps.via ?_ he hg
  unfold actSgnStatus
  try dsimp -zeta only
  ((try lift_lets); intro xL; clear_value xL)
  (intro xL; subst xL; try dsimp -zeta only)
  (intro xL; subst xL; try dsimp -zeta only)
  (intro xL; subst xL; try dsimp -zeta only)
  ((try lift_lets); intro xL; clear_value xL)
  (intro xL; clear_value xL)
  (with_reducible apply keeps_ok); exact rfl
  repeat first | with_reducible exact Keeps.refl _ _ | with_reducible assumption

theorem keeps_sgnConfigured (r : Req) (old : List Word) (s : State) {mk : Nat} {s0 : State} (he : mk &&& 0xFFFFFFFFF3FF = mk) (hg : Keeps mk s0 s) :
    Keeps mk s0 (sgnConfigured r old s) := by
  refine Keeps.via ?_ he hg
  unfold sgnConfigured
  try dsimp -zeta only
  (with_reducible apply keeps_logEv); exact rfl
  (with_reducible apply keeps_markStored); exact rfl
  repeat first | with_reducible exact Keeps.refl _ _ | with_reducible assumption

theorem keeps_applySgnStringConfig (r : Req) (s : State) {mk : Nat} {s0 : State} (he : mk &&& 0xFFFFFFF7F3FF = mk) (hg : Keeps mk s0 s) :
    Keeps mk s0 (applySgnStringConfig r s) := by
  refine Keeps.via ?_ he hg
  unfold applySgnStringConfig
  try dsimp -zeta only
  ((try lift_lets); intro xL; clear_value xL)
  (intro xL; clear_value xL)
  (intro xL; clear_value xL)
  (with_reducible apply keeps_sgnConfigured); exact rfl
  (with_reducible apply Keeps.set_sgn); exact rfl
  repeat first | with_reducible exact Keeps.refl _ _ | with_reducible assumption

theorem keeps_retestFn (n : Nat) (s : State) {mk : Nat} {s0 : State} (he : mk &&& 0xFFFFFFF7FFFF = mk) (hg : Keeps mk s0 s) :
    Keeps mk s0 (retestFn n s) := by
  refine Keeps.via ?_ he hg
  unfold retestFn
  try dsimp -zeta only
  ((try lift_lets); intro xL; clear_value xL)
  split
  repeat first | with_reducible exact Keeps.refl _ _ | with_reducible assumption
  ((try lift_lets); intro xL; clear_value xL)
  (intro xL; subst xL; try dsimp -zeta only)
  (with_reducible apply keeps_setRecord); exact rfl
  repeat first | with_reducible exact Keeps.refl _ _ | with_reducible assumption

theorem keeps_applySgnFunction (r : Req) (s : State) {mk : Nat} {s0 : State} (he : mk &&& 0xFFFFFFF7F3FF = mk) (hg : Keeps mk s0 s) :
    Keeps mk s0 (applySgnFunction r s) := by
  refine Keeps.via ?_ he hg
  unfold applySgnFunction
  try dsimp -zeta only
  ((try lift_lets); intro xL; clear_value xL)
  (intro xL; clear_value xL)
  split
  (with_reducible apply keeps_recompute); exact rfl
  (with_reducible apply keeps_logNs); exact rfl
  (with_reducible apply keeps_retestFn); exact rfl
  repeat first | with_reducible exact Keeps.refl _ _ | with_reducible assumption
  (with_reducible apply keeps_recompute); exact rfl
  (with_reducible apply keeps_sgnConfigured); exact rfl
  split
  (with_reducible apply Keeps.set_sgn); exact rfl
  repeat first | with_reducible exact Keeps.refl _ _ | with_reducible assumption
  (with_reducible apply Keeps.set_sgn); exact rfl
  repeat first | with_reducible exact Keeps.refl _ _ | with_reducible assumption

theorem keeps_applySgnDerate (r : Req) (s : State) {mk : Nat} {s0 : State} (he : mk &&& 0xFFFFFFF7F3FF = mk) (hg : Keeps mk s0 s) :
    Keeps mk s0 (applySgnDerate r s) := by
  refine Keeps.via ?_ he hg
  unfold applySgnDerate
  try dsimp -zeta only
  ((try lift_lets); intro xL; clear_value xL)
  (with_reducible apply keeps_sgnConfigured); exact rfl
  (with_reducible apply Keeps.set_sgn); exact rfl
  repeat first | with_reducible exact Keeps.refl _ _ | with_reducible assumption

theorem keeps_execSgnStringConfig (s : State) (t : State) (h : execSgnStringConfig s = .next t) : Keeps 0xF7FFFFFFF1DF s t := by
  unfold execSgnStringConfig at h
  injection h with h
  subst h
  try dsimp -zeta only
  ((with_reducible apply keeps_serve); (intro _ _))
  (with_reducible apply keeps_storeAtBoundary); exact rfl
  repeat first | with_reducible exact Keeps.refl _ _ | with_reducible assumption
  exact (rfl : (_ : Nat) &&& _ = _)
  repeat first | with_reducible exact Keeps.refl _ _ | with_reducible assumption

theorem keeps_execSgnFunction (s : State) (t : State) (h : execSgnFunction s = .next t) : Keeps 0xF7FFFFFFF1DF s t := by
  unfold execSgnFunction at h
  injection h with h
  subst h
  try dsimp -zeta only
  ((with_reducible apply keeps_serve); (intro _ _))
  (with_reducible apply keeps_storeAtBoundary); exact rfl
  repeat first | with_reducible exact Keeps.refl _ _ | with_reducible assumption
  exact (rfl : (_ : Nat) &&& _ = _)
  repeat first | with_reducible exact Keeps.refl _ _ | with_reducible assumption

theorem keeps_execSgnFrameLoad (s : State) (t : State) (h : execSgnFrameLoad s = .next t) : Keeps 0xF7FFFFF7F9FF s t := by
  unfold execSgnFrameLoad at h
  injection h with h
  subst h
  try dsimp -zeta only
  ((with_reducible apply keeps_serve); (intro _ _))
  (with_reducible apply keeps_actSgnFrameLoad); exact rfl
  repeat first | with_reducible exact Keeps.refl _ _ | with_reducible assumption
  exact (rfl : (_ : Nat) &&& _ = _)
  repeat first | with_reducible exact Keeps.refl _ _ | with_reducible assumption

theorem keeps_execSgnFlip (s : State) (t : State) (h : execSgnFlip s = .next t) : Keeps 0xF7FFFFF7F1DF s t := by
  unfold execSgnFlip at h
  injection h with h
  subst h
  try dsimp -zeta only
  ((with_reducible apply keeps_serve); (intro _ _))
  (with_reducible apply keeps_actSgnFlip); exact rfl
  repeat first | with_reducible exact Keeps.refl _ _ | with_reducible assumption
  exact (rfl : (_ : Nat) &&& _ = _)
  repeat first | with_reducible exact Keeps.refl _ _ | with_reducible assumption

theorem keeps_execSgnLevel (s : State) (t : State) (h : execSgnLevel s = .next t) : Keeps 0xF7FFFFFFF1DF s t := by
  unfold execSgnLevel at h
  injection h with h
  subst h
  try dsimp -zeta only
  ((with_reducible apply keeps_serve); (intro _ _))
  (with_reducible apply keeps_actSgnLevel); exact rfl
  repeat first | with_reducible exact Keeps.refl _ _ | with_reducible assumption
  exact (rfl : (_ : Nat) &&& _ = _)
  repeat first | with_reducible exact Keeps.refl _ _ | with_reducible assumption

theorem keeps_execSgnStatus (s : State) (t : State) (h : execSgnStatus s = .next t) : Keeps 0xF7FFFFFFF9FF s t := by
  unfold execSgnStatus at h
  injection h with h
  subst h
  try dsimp -zeta only
  ((with_reducible apply keeps_serve); (intro _ _))
  (with_reducible apply keeps_actSgnStatus); exact rfl
  repeat first | with_reducible exact Keeps.refl _ _ | with_reducible assumption
  exact (rfl : (_ : Nat) &&& _ = _)
  repeat first | with_reducible exact Keeps.refl _ _ | with_reducible assumption

theorem keeps_execSgnDerate (s : State) (t : State) (h : execSgnDerate s = .next t) : Keeps 0xF7FFFFFFF1DF s t := by
  unfold execSgnDerate at h
  injection h with h
  subst h
  try dsimp -zeta only
  ((with_reducible apply keeps_serve); (intro _ _))
  (with_reducible apply keeps_storeAtBoundary); exact rfl
  repeat first | with_reducible exact Keeps.refl _ _ | with_reducible assumption
  exact (rfl : (_ : Nat) &&& _ = _)
  repeat first | with_reducible exact Keeps.refl _ _ | with_reducible assumption

end Sys2Proof.Laws
end

