-- ==== Sys2Proof/Laws/Frames/Recorder.lean ====
section
/-!
SUPPORT. Frames of the operations of Machine/Recorder.lean.
-/
set_option Elab.async false
namespace Sys2Proof.Laws
open Sys2Proof Sys2Proof.Machine

theorem keeps_actLogAppend (r : Req) (s : State) {mk : Nat} {s0 : State} (he : mk &&& 0xFFFFFFFFF1FF = mk) (hg : Keeps mk s0 s) :
    Keeps mk s0 (actLogAppend r s) := by
  refine Keeps.via ?_ he hg
  unfold actLogAppend
  try dsimp -zeta only
  ((try lift_lets); intro xL; clear_value xL)
  (with_reducible apply keeps_ok); exact rfl
  (with_reducible apply Keeps.set_log); exact rfl
  repeat first | with_reducible exact Keeps.refl _ _ | with_reducible assumption

theorem keeps_reportDrop (s : State) {mk : Nat} {s0 : State} (he : mk &&& 0xFFFFFFFFF7FF = mk) (hg : Keeps mk s0 s) :
    Keeps mk s0 (reportDrop s) := by
  refine Keeps.via ?_ he hg
  unfold reportDrop
  try dsimp -zeta only
  ((try lift_lets); intro xL; clear_value xL)
  (intro xL; clear_value xL)
  (intro xL; clear_value xL)
  split
  repeat first | with_reducible exact Keeps.refl _ _ | with_reducible assumption
  (with_reducible apply keeps_logNs); exact rfl
  (with_reducible apply Keeps.set_log); exact rfl
  repeat first | with_reducible exact Keeps.refl _ _ | with_reducible assumption

theorem keeps_drain (n : Nat) (s : State) {mk : Nat} {s0 : State} (he : mk &&& 0xFFFFFFFFF7FF = mk) (hg : Keeps mk s0 s) :
    Keeps mk s0 (drain n s) := by
  refine Keeps.via ?_ he hg
  unfold drain
  try dsimp -zeta only
  ((try lift_lets); intro xL; clear_value xL)
  (intro xL; clear_value xL)
  (intro xL; clear_value xL)
  (intro xL; clear_value xL)
  (intro xL; clear_value xL)
  (intro xL; clear_value xL)
  (with_reducible apply keeps_reportDrop); exact rfl
  (with_reducible apply Keeps.set_log); exact rfl
  repeat first | with_reducible exact Keeps.refl _ _ | with_reducible assumption

theorem keeps_actLogFreeze (r : Req) (s : State) {mk : Nat} {s0 : State} (he : mk &&& 0xFFFFFDFFF1FF = mk) (hg : Keeps mk s0 s) :
    Keeps mk s0 (actLogFreeze r s) := by
  refine Keeps.via ?_ he hg
  unfold actLogFreeze
  try dsimp -zeta only
  ((try lift_lets); intro xL; clear_value xL)
  (intro xL; clear_value xL)
  ((with_reducible apply keeps_admitReq); (intro _))
  ((try lift_lets); intro xL; clear_value xL)
  (intro sL; with_reducible refine Keeps.cut sL ?_ ?_; rotate_left; (intro kL; clear_value sL); rotate_right; subst sL; try dsimp -zeta only)
  (with_reducible apply keeps_logNs); exact rfl
  repeat first | with_reducible exact Keeps.refl _ _ | with_reducible assumption
  (with_reducible apply keeps_ok); exact rfl
  split
  (with_reducible apply Keeps.set_log); exact rfl
  (with_reducible apply keeps_drain); exact rfl
  repeat first | with_reducible exact Keeps.refl _ _ | with_reducible assumption
  (with_reducible apply Keeps.set_log); exact rfl
  repeat first | with_reducible exact Keeps.refl _ _ | with_reducible assumption
  exact (rfl : (_ : Nat) &&& _ = _)
  repeat first | with_reducible exact Keeps.refl _ _ | with_reducible assumption

theorem keeps_actLogRead (r : Req) (s : State) {mk : Nat} {s0 : State} (he : mk &&& 0xFFFFFFFFF9FF = mk) (hg : Keeps mk s0 s) :
    Keeps mk s0 (actLogRead r s) := by
  refine Keeps.via ?_ he hg
  unfold actLogRead
  try dsimp -zeta only
  ((try lift_lets); intro xL; clear_value xL)
  (intro xL; clear_value xL)
  (intro xL; clear_value xL)
  (intro xL; clear_value xL)
  (intro xL; clear_value xL)
  (intro xL; clear_value xL)
  (intro xL; clear_value xL)
  split
  (with_reducible apply keeps_ok); exact rfl
  repeat first | with_reducible exact Keeps.refl _ _ | with_reducible assumption
  (with_reducible apply keeps_ok); exact rfl
  repeat first | with_reducible exact Keeps.refl _ _ | with_reducible assumption

theorem keeps_actLogStatus (r : Req) (s : State) {mk : Nat} {s0 : State} (he : mk &&& 0xFFFFFFFFF9FF = mk) (hg : Keeps mk s0 s) :
    Keeps mk s0 (actLogStatus r s) := by
  refine Keeps.via ?_ he hg
  unfold actLogStatus
  try dsimp -zeta only
  ((try lift_lets); intro xL; clear_value xL)
  (intro xL; clear_value xL)
  (with_reducible apply keeps_ok); exact rfl
  repeat first | with_reducible exact Keeps.refl _ _ | with_reducible assumption

theorem keeps_endFreeze (p : Fin 4) (cause : Nat) (s : State) {mk : Nat} {s0 : State} (he : mk &&& 0xFFFFFDFFF7FF = mk) (hg : Keeps mk s0 s) :
    Keeps mk s0 (endFreeze p cause s) := by
  refine Keeps.via ?_ he hg
  unfold endFreeze
  try dsimp -zeta only
  ((try lift_lets); intro xL; clear_value xL)
  split
  repeat first | with_reducible exact Keeps.refl _ _ | with_reducible assumption
  (with_reducible apply keeps_logNs); exact rfl
  (with_reducible apply keeps_stopAct); exact rfl
  (with_reducible apply Keeps.set_log); exact rfl
  repeat first | with_reducible exact Keeps.refl _ _ | with_reducible assumption

theorem keeps_actLogThaw (r : Req) (s : State) {mk : Nat} {s0 : State} (he : mk &&& 0xFFFFFDFFF1FF = mk) (hg : Keeps mk s0 s) :
    Keeps mk s0 (actLogThaw r s) := by
  refine Keeps.via ?_ he hg
  unfold actLogThaw
  try dsimp -zeta only
  split
  repeat first | with_reducible exact Keeps.refl _ _ | with_reducible assumption
  (with_reducible apply keeps_ok); exact rfl
  (with_reducible apply keeps_endFreeze); exact rfl
  repeat first | with_reducible exact Keeps.refl _ _ | with_reducible assumption

theorem keeps_applyLogSeverity (r : Req) (s : State) {mk : Nat} {s0 : State} (he : mk &&& 0xFFFFFFFFF3FF = mk) (hg : Keeps mk s0 s) :
    Keeps mk s0 (applyLogSeverity r s) := by
  refine Keeps.via ?_ he hg
  unfold applyLogSeverity
  try dsimp -zeta only
  ((try lift_lets); intro xL; clear_value xL)
  (intro xL; clear_value xL)
  (intro xL; clear_value xL)
  (intro xL; clear_value xL)
  (intro xL; clear_value xL)
  (intro xL; clear_value xL)
  (intro xL; clear_value xL)
  (with_reducible apply keeps_markStored); exact rfl
  (with_reducible apply keeps_logNs); exact rfl
  (with_reducible apply Keeps.set_log); exact rfl
  repeat first | with_reducible exact Keeps.refl _ _ | with_reducible assumption

theorem keeps_badBlock (part : Nat) (block : Nat) (cause : Nat) (s : State) {mk : Nat} {s0 : State} (he : mk &&& 0xFFFFFF7FF7FF = mk) (hg : Keeps mk s0 s) :
    Keeps mk s0 (badBlock part block cause s) := by
  refine Keeps.via ?_ he hg
  unfold badBlock
  try dsimp -zeta only
  ((try lift_lets); intro xL; clear_value xL)
  (intro xL; clear_value xL)
  (intro xL; clear_value xL)
  (intro sL; with_reducible refine Keeps.cut sL ?_ ?_; rotate_left; (intro kL; clear_value sL); rotate_right; subst sL; try dsimp -zeta only)
  (with_reducible apply keeps_logNs); exact rfl
  (with_reducible apply Keeps.set_mem); exact rfl
  repeat first | with_reducible exact Keeps.refl _ _ | with_reducible assumption
  split
  split
  (with_reducible apply Keeps.set_log); exact rfl
  (with_reducible apply keeps_logNs); exact rfl
  repeat first | with_reducible exact Keeps.refl _ _ | with_reducible assumption
  (with_reducible apply Keeps.set_log); exact rfl
  repeat first | with_reducible exact Keeps.refl _ _ | with_reducible assumption
  split
  (with_reducible apply keeps_logNs); exact rfl
  repeat first | with_reducible exact Keeps.refl _ _ | with_reducible assumption

theorem keeps_execAppenderRun (s : State) (t : State) (h : execAppenderRun s = .next t) : Keeps 0xFFFFFFFFF7FF s t := by
  unfold execAppenderRun at h
  injection h with h
  subst h
  try dsimp -zeta only
  ((try lift_lets); intro xL; clear_value xL)
  (intro xL; clear_value xL)
  split
  (with_reducible apply Keeps.set_log); exact rfl
  repeat first | with_reducible exact Keeps.refl _ _ | with_reducible assumption

theorem keeps_execPageProgram (programOk : Bool) (s : State) (t : State) (h : execPageProgram programOk s = .next t) : Keeps 0xFFFFFF7FF7FF s t := by
  unfold execPageProgram at h
  injection h with h
  subst h
  try dsimp -zeta only
  ((try lift_lets); intro xL; clear_value xL)
  split
  split
  (with_reducible apply Keeps.set_log); exact rfl
  repeat first | with_reducible exact Keeps.refl _ _ | with_reducible assumption
  split
  (with_reducible apply keeps_reportDrop); exact rfl
  (with_reducible apply Keeps.set_log); exact rfl
  repeat first | with_reducible exact Keeps.refl _ _ | with_reducible assumption
  (with_reducible apply keeps_badBlock); exact rfl
  (with_reducible apply keeps_logNs); exact rfl
  (with_reducible apply Keeps.set_log); exact rfl
  repeat first | with_reducible exact Keeps.refl _ _ | with_reducible assumption

theorem keeps_execFreezeExpiry (p : Fin 4) (s : State) (t : State) (h : execFreezeExpiry p s = .next t) : Keeps 0xFFFFFDFFF7FF s t := by
  unfold execFreezeExpiry at h
  injection h with h
  subst h
  try dsimp -zeta only
  split
  split
  (with_reducible apply keeps_endFreeze); exact rfl
  repeat first | with_reducible exact Keeps.refl _ _ | with_reducible assumption

theorem keeps_execLogStatus (s : State) (t : State) (h : execLogStatus s = .next t) : Keeps 0xF7FFFFFFF9FF s t := by
  unfold execLogStatus at h
  injection h with h
  subst h
  try dsimp -zeta only
  ((with_reducible apply keeps_serve); (intro _ _))
  (with_reducible apply keeps_actLogStatus); exact rfl
  repeat first | with_reducible exact Keeps.refl _ _ | with_reducible assumption
  exact (rfl : (_ : Nat) &&& _ = _)
  repeat first | with_reducible exact Keeps.refl _ _ | with_reducible assumption

theorem keeps_execLogRead (s : State) (t : State) (h : execLogRead s = .next t) : Keeps 0xF7FFFFFFF9FF s t := by
  unfold execLogRead at h
  injection h with h
  subst h
  try dsimp -zeta only
  ((with_reducible apply keeps_serve); (intro _ _))
  (with_reducible apply keeps_actLogRead); exact rfl
  repeat first | with_reducible exact Keeps.refl _ _ | with_reducible assumption
  exact (rfl : (_ : Nat) &&& _ = _)
  repeat first | with_reducible exact Keeps.refl _ _ | with_reducible assumption

theorem keeps_execLogFreeze (s : State) (t : State) (h : execLogFreeze s = .next t) : Keeps 0xF7FFFDFFF1FF s t := by
  unfold execLogFreeze at h
  injection h with h
  subst h
  try dsimp -zeta only
  ((with_reducible apply keeps_serve); (intro _ _))
  (with_reducible apply keeps_actLogFreeze); exact rfl
  repeat first | with_reducible exact Keeps.refl _ _ | with_reducible assumption
  exact (rfl : (_ : Nat) &&& _ = _)
  repeat first | with_reducible exact Keeps.refl _ _ | with_reducible assumption

theorem keeps_execLogThaw (s : State) (t : State) (h : execLogThaw s = .next t) : Keeps 0xF7FFFDFFF1FF s t := by
  unfold execLogThaw at h
  injection h with h
  subst h
  try dsimp -zeta only
  ((with_reducible apply keeps_serve); (intro _ _))
  (with_reducible apply keeps_actLogThaw); exact rfl
  repeat first | with_reducible exact Keeps.refl _ _ | with_reducible assumption
  exact (rfl : (_ : Nat) &&& _ = _)
  repeat first | with_reducible exact Keeps.refl _ _ | with_reducible assumption

theorem keeps_execLogSeverity (s : State) (t : State) (h : execLogSeverity s = .next t) : Keeps 0xF7FFFFFFF1DF s t := by
  unfold execLogSeverity at h
  injection h with h
  subst h
  try dsimp -zeta only
  ((with_reducible apply keeps_serve); (intro _ _))
  (with_reducible apply keeps_storeAtBoundary); exact rfl
  repeat first | with_reducible exact Keeps.refl _ _ | with_reducible assumption
  exact (rfl : (_ : Nat) &&& _ = _)
  repeat first | with_reducible exact Keeps.refl _ _ | with_reducible assumption

theorem keeps_execLogAppend (s : State) (t : State) (h : execLogAppend s = .next t) : Keeps 0xF7FFFFFFF1FF s t := by
  unfold execLogAppend at h
  injection h with h
  subst h
  try dsimp -zeta only
  ((with_reducible apply keeps_serve); (intro _ _))
  (with_reducible apply keeps_actLogAppend); exact rfl
  repeat first | with_reducible exact Keeps.refl _ _ | with_reducible assumption
  exact (rfl : (_ : Nat) &&& _ = _)
  repeat first | with_reducible exact Keeps.refl _ _ | with_reducible assumption

theorem keeps_resumeAppends (s : State) {mk : Nat} {s0 : State} (he : mk &&& 0xFFFFFFFFF7FF = mk) (hg : Keeps mk s0 s) :
    Keeps mk s0 (resumeAppends s) := by
  refine Keeps.via ?_ he hg
  unfold resumeAppends
  try dsimp -zeta only
  ((try lift_lets); intro xL; clear_value xL)
  split
  (with_reducible apply keeps_logNs); exact rfl
  (with_reducible apply Keeps.set_log); exact rfl
  repeat first | with_reducible exact Keeps.refl _ _ | with_reducible assumption

end Sys2Proof.Laws
end

