-- ==== Sys2Proof/Laws/Frames/Ports.lean ====
section
/-!
SUPPORT. Frames of the operations of Machine/Ports.lean.
-/
set_option Elab.async false
namespace Sys2Proof.Laws
open Sys2Proof Sys2Proof.Machine

theorem keeps_framed (p : Fin 4) (s : State) {mk : Nat} {s0 : State} (he : mk &&& 0xFFFFFFEFF5F3 = mk) (hg : Keeps mk s0 s) :
    Keeps mk s0 (framed p s) := by
  refine Keeps.via ?_ he hg
  unfold framed
  try dsimp -zeta only
  ((try lift_lets); intro xL; clear_value xL)
  (intro sL; with_reducible refine Keeps.cut sL ?_ ?_; rotate_left; (intro kL; clear_value sL); rotate_right; subst sL; try dsimp -zeta only)
  split
  (with_reducible apply Keeps.set_wd); exact rfl
  repeat first | with_reducible exact Keeps.refl _ _ | with_reducible assumption
  (with_reducible apply Keeps.set_wd); exact rfl
  repeat first | with_reducible exact Keeps.refl _ _ | with_reducible assumption
  split
  (with_reducible apply keeps_evalAuto); exact rfl
  repeat first | with_reducible exact Keeps.refl _ _ | with_reducible assumption
  (with_reducible apply keeps_evalAuto); exact rfl
  split
  (with_reducible apply keeps_notifyPorts); exact rfl
  (with_reducible apply keeps_logNs); exact rfl
  repeat first | with_reducible exact Keeps.refl _ _ | with_reducible assumption

theorem keeps_commitMsg (p : Fin 4) (k : Nat) (s : State) {mk : Nat} {s0 : State} (he : mk &&& 0xFFFFFFEFF5F3 = mk) (hg : Keeps mk s0 s) :
    Keeps mk s0 (commitMsg p k s) := by
  refine Keeps.via ?_ he hg
  unfold commitMsg
  try dsimp -zeta only
  (with_reducible apply keeps_framed); exact rfl
  (with_reducible apply keeps_onPort); exact rfl
  · exact fun h => fits_refresh (fits_setReq h)
  repeat first | with_reducible exact Keeps.refl _ _ | with_reducible assumption

theorem keeps_execReqDataPush (p : Fin 4) (q : Fin 4) (w : Word) (s : State) (t : State) (h : execReqDataPush p q w s = .next t) : Keeps 0xFFFFFFFFFDFF s t := by
  unfold execReqDataPush at h
  injection h with h
  subst h
  try dsimp -zeta only
  split
  (with_reducible apply keeps_onPort); exact rfl
  · exact fun h => fits_pushWord h
  repeat first | with_reducible exact Keeps.refl _ _ | with_reducible assumption

theorem keeps_frameError (p : Fin 4) (k : Nat) (code : Nat) (s : State) {mk : Nat} {s0 : State} (he : mk &&& 0xFFFFFFFFF5FF = mk) (hg : Keeps mk s0 s) :
    Keeps mk s0 (frameError p k code s) := by
  refine Keeps.via ?_ he hg
  unfold frameError
  try dsimp -zeta only
  ((try lift_lets); intro sL; with_reducible refine Keeps.cut sL ?_ ?_; rotate_left; (intro kL; clear_value sL); rotate_right; subst sL; try dsimp -zeta only)
  (with_reducible apply keeps_onPort); exact rfl
  · exact fun h => fits_dropStagedWords h
  repeat first | with_reducible exact Keeps.refl _ _ | with_reducible assumption
  (with_reducible apply keeps_logLim); exact rfl
  repeat first | with_reducible exact Keeps.refl _ _ | with_reducible assumption

theorem keeps_writeCommit (p : Fin 4) (k : Nat) (w : Word) (s : State) {mk : Nat} {s0 : State} (he : mk &&& 0xFFFFFFEFF5F3 = mk) (hg : Keeps mk s0 s) :
    Keeps mk s0 (writeCommit p k w s) := by
  refine Keeps.via ?_ he hg
  unfold writeCommit
  try dsimp -zeta only
  ((try lift_lets); intro xL; clear_value xL)
  split
  (with_reducible apply keeps_onPort); exact rfl
  · exact fun h => fits_dropStagedWords h
  repeat first | with_reducible exact Keeps.refl _ _ | with_reducible assumption
  split
  repeat first | with_reducible exact Keeps.refl _ _ | with_reducible assumption
  split
  (with_reducible apply keeps_commitMsg); exact rfl
  repeat first | with_reducible exact Keeps.refl _ _ | with_reducible assumption
  (with_reducible apply keeps_frameError); exact rfl
  repeat first | with_reducible exact Keeps.refl _ _ | with_reducible assumption

theorem keeps_execReqCommit (p : Fin 4) (q : Fin 4) (w : Word) (s : State) (t : State) (h : execReqCommit p q w s = .next t) : Keeps 0xFFFFFFEFF5F3 s t := by
  unfold execReqCommit at h
  injection h with h
  subst h
  try dsimp -zeta only
  split
  (with_reducible apply keeps_onPort); exact rfl
  · exact fun h => h
  (with_reducible apply keeps_writeCommit); exact rfl
  repeat first | with_reducible exact Keeps.refl _ _ | with_reducible assumption

theorem keeps_execReqAbort (p : Fin 4) (q : Fin 4) (s : State) (t : State) (h : execReqAbort p q s = .next t) : Keeps 0xFFFFFFFFFDFF s t := by
  unfold execReqAbort at h
  injection h with h
  subst h
  try dsimp -zeta only
  split
  (with_reducible apply keeps_onPort); exact rfl
  · exact fun h => fits_dropStagedWords h
  repeat first | with_reducible exact Keeps.refl _ _ | with_reducible assumption

theorem keeps_execIntStatClear (p : Fin 4) (w : Word) (s : State) (t : State) (h : execIntStatClear p w s = .next t) : Keeps 0xFFFFFFFFFDFF s t := by
  unfold execIntStatClear at h
  injection h with h
  subst h
  try dsimp -zeta only
  split
  (with_reducible apply keeps_onPort); exact rfl
  · exact fun h => h
  repeat first | with_reducible exact Keeps.refl _ _ | with_reducible assumption

theorem keeps_execHeldMessagePlace (p : Fin 4) (r : Fin 2) (s : State) (t : State) (h : execHeldMessagePlace p r s = .next t) : Keeps 0xFFFFFFFFFDFF s t := by
  unfold execHeldMessagePlace at h
  injection h with h
  subst h
  try dsimp -zeta only
  split
  repeat first | with_reducible exact Keeps.refl _ _ | with_reducible assumption
  split
  (with_reducible apply keeps_onPort); exact rfl
  · intro h; exact fits_heldPlace h (by assumption)
  repeat first | with_reducible exact Keeps.refl _ _ | with_reducible assumption

theorem keeps_execNtfLostPlace (p : Fin 4) (s : State) (t : State) (h : execNtfLostPlace p s = .next t) : Keeps 0xFFFFFFFFF5FF s t := by
  unfold execNtfLostPlace at h
  injection h with h
  subst h
  try dsimp -zeta only
  ((try lift_lets); intro xL; clear_value xL)
  split
  (with_reducible apply keeps_notify); exact rfl
  (with_reducible apply keeps_onPort); exact rfl
  · exact fun h => h
  repeat first | with_reducible exact Keeps.refl _ _ | with_reducible assumption

end Sys2Proof.Laws
end

