-- ==== Sys2Proof/Laws/Frames/Sys.lean ====
section
/-!
SUPPORT. Frames of the operations of Machine/Sys.lean.
-/
set_option Elab.async false
namespace Sys2Proof.Laws
open Sys2Proof Sys2Proof.Machine

theorem keeps_actSysCaps (r : Req) (s : State) {mk : Nat} {s0 : State} (he : mk &&& 0xFFFFFFFFF9FF = mk) (hg : Keeps mk s0 s) :
    Keeps mk s0 (actSysCaps r s) := by
  refine Keeps.via ?_ he hg
  unfold actSysCaps
  try dsimp -zeta only
  ((try lift_lets); intro xL; clear_value xL)
  (intro xL; clear_value xL)
  (intro xL; clear_value xL)
  (with_reducible apply keeps_ok); exact rfl
  repeat first | with_reducible exact Keeps.refl _ _ | with_reducible assumption

theorem keeps_dropOpen (p : Fin 4) (cause : Nat) (s : State) {mk : Nat} {s0 : State} (he : mk &&& 0xFFFFFFFFF5FF = mk) (hg : Keeps mk s0 s) :
    Keeps mk s0 (dropOpen p cause s) := by
  refine Keeps.via ?_ he hg
  unfold dropOpen
  try dsimp -zeta only
  split
  repeat first | with_reducible exact Keeps.refl _ _ | with_reducible assumption
  (with_reducible apply keeps_logNs); exact rfl
  (with_reducible apply keeps_onPort); exact rfl
  · exact fun h => h
  repeat first | with_reducible exact Keeps.refl _ _ | with_reducible assumption

theorem keeps_dropAccepted (p : Fin 4) (cause : Nat) (a : Accepted) (s : State) {mk : Nat} {s0 : State} (he : mk &&& 0xFFFFFFFFF1DF = mk) (hg : Keeps mk s0 s) :
    Keeps mk s0 (dropAccepted p cause a s) := by
  refine Keeps.via ?_ he hg
  unfold dropAccepted
  try dsimp -zeta only
  ((try lift_lets); intro sL; with_reducible refine Keeps.cut sL ?_ ?_; rotate_left; (intro kL; clear_value sL); rotate_right; subst sL; try dsimp -zeta only)
  (with_reducible apply keeps_tlCancel); exact rfl
  (with_reducible apply keeps_onPort); exact rfl
  · exact fun h => h
  repeat first | with_reducible exact Keeps.refl _ _ | with_reducible assumption
  split
  (with_reducible apply keeps_logNs); exact rfl
  repeat first | with_reducible exact Keeps.refl _ _ | with_reducible assumption
  (with_reducible apply keeps_complete); exact rfl
  (with_reducible apply keeps_logNs); exact rfl
  repeat first | with_reducible exact Keeps.refl _ _ | with_reducible assumption

theorem keeps_actSysCfgAbort (r : Req) (s : State) {mk : Nat} {s0 : State} (he : mk &&& 0xFFFFFFFFF1DF = mk) (hg : Keeps mk s0 s) :
    Keeps mk s0 (actSysCfgAbort r s) := by
  refine Keeps.via ?_ he hg
  unfold actSysCfgAbort
  try dsimp -zeta only
  ((try lift_lets); intro xL; clear_value xL)
  (intro xL; clear_value xL)
  (intro xL; clear_value xL)
  split
  (with_reducible apply keeps_ok); exact rfl
  (with_reducible apply keeps_dropOpen); exact rfl
  repeat first | with_reducible exact Keeps.refl _ _ | with_reducible assumption
  split
  (with_reducible apply keeps_ok); exact rfl
  (with_reducible apply keeps_dropAccepted); exact rfl
  repeat first | with_reducible exact Keeps.refl _ _ | with_reducible assumption

theorem keeps_actSysCfgBegin (r : Req) (s : State) {mk : Nat} {s0 : State} (he : mk &&& 0xFFFFFFFFF9FF = mk) (hg : Keeps mk s0 s) :
    Keeps mk s0 (actSysCfgBegin r s) := by
  refine Keeps.via ?_ he hg
  unfold actSysCfgBegin
  try dsimp -zeta only
  (with_reducible apply keeps_ok); exact rfl
  (with_reducible apply keeps_onPort); exact rfl
  · exact fun h => h
  repeat first | with_reducible exact Keeps.refl _ _ | with_reducible assumption

theorem keeps_actSysCfgCommit (r : Req) (s : State) {mk : Nat} {s0 : State} (he : mk &&& 0xFFFFFFFFF1DF = mk) (hg : Keeps mk s0 s) :
    Keeps mk s0 (actSysCfgCommit r s) := by
  refine Keeps.via ?_ he hg
  unfold actSysCfgCommit
  try dsimp -zeta only
  split
  repeat first | with_reducible exact Keeps.refl _ _ | with_reducible assumption
  split
  (with_reducible apply keeps_failReq); exact rfl
  (with_reducible apply keeps_logNs); exact rfl
  (with_reducible apply keeps_onPort); exact rfl
  · exact fun h => h
  repeat first | with_reducible exact Keeps.refl _ _ | with_reducible assumption
  split
  (with_reducible apply keeps_failReq); exact rfl
  (with_reducible apply keeps_tlFull); exact rfl
  repeat first | with_reducible exact Keeps.refl _ _ | with_reducible assumption
  (with_reducible apply keeps_accept); exact rfl
  (with_reducible apply keeps_onPort); exact rfl
  · exact fun h => h
  ((with_reducible apply keeps_tlPost); (with_reducible assumption); exact rfl)
  repeat first | with_reducible exact Keeps.refl _ _ | with_reducible assumption

theorem keeps_actSysIdent (r : Req) (s : State) {mk : Nat} {s0 : State} (he : mk &&& 0xFFFFFFFFF9FF = mk) (hg : Keeps mk s0 s) :
    Keeps mk s0 (actSysIdent r s) := by
  refine Keeps.via ?_ he hg
  unfold actSysIdent
  try dsimp -zeta only
  (with_reducible apply keeps_ok); exact rfl
  repeat first | with_reducible exact Keeps.refl _ _ | with_reducible assumption

theorem keeps_dropSets (p : Fin 4) (cause : Nat) (s : State) {mk : Nat} {s0 : State} (he : mk &&& 0xFFFFFFFFF1DF = mk) (hg : Keeps mk s0 s) :
    Keeps mk s0 (dropSets p cause s) := by
  refine Keeps.via ?_ he hg
  unfold dropSets
  try dsimp -zeta only
  ((try lift_lets); intro sL; with_reducible refine Keeps.cut sL ?_ ?_; rotate_left; (intro kL; clear_value sL); rotate_right; subst sL; try dsimp -zeta only)
  (with_reducible apply keeps_dropOpen); exact rfl
  repeat first | with_reducible exact Keeps.refl _ _ | with_reducible assumption
  ((with_reducible apply Keeps.fold); (intro _ _))
  (with_reducible apply keeps_dropAccepted); exact rfl
  repeat first | with_reducible exact Keeps.refl _ _ | with_reducible assumption

theorem keeps_actSysMode (r : Req) (s : State) {mk : Nat} {s0 : State} (he : mk &&& 0xFEFFFFFFF1D3 = mk) (hg : Keeps mk s0 s) :
    Keeps mk s0 (actSysMode r s) := by
  refine Keeps.via ?_ he hg
  unfold actSysMode
  try dsimp -zeta only
  ((try lift_lets); intro xL; subst xL)
  (intro sL; with_reducible refine Keeps.cut sL ?_ ?_; rotate_left; (intro kL; clear_value sL); rotate_right; subst sL; try dsimp -zeta only)
  ((with_reducible apply Keeps.fold); (intro _ _))
  (with_reducible apply keeps_dropSets); exact rfl
  repeat first | with_reducible exact Keeps.refl _ _ | with_reducible assumption
  split
  (with_reducible apply keeps_ok); exact rfl
  (with_reducible apply keeps_settleMode); exact rfl
  (with_reducible apply Keeps.in_pwr); exact rfl
  · exact fun _ => rfl
  · exact fun _ => rfl
  · exact fun _ => rfl
  · exact fun h => Bool.noConfusion h
  repeat first | with_reducible exact Keeps.refl _ _ | with_reducible assumption
  (with_reducible apply keeps_ok); exact rfl
  (with_reducible apply keeps_settleMode); exact rfl
  (with_reducible apply Keeps.in_pwr); exact rfl
  · exact fun _ => rfl
  · exact fun _ => rfl
  · exact fun _ => rfl
  · exact fun h => Bool.noConfusion h
  repeat first | with_reducible exact Keeps.refl _ _ | with_reducible assumption

theorem keeps_actSysNop (r : Req) (s : State) {mk : Nat} {s0 : State} (he : mk &&& 0xFFFFFFFFF9FF = mk) (hg : Keeps mk s0 s) :
    Keeps mk s0 (actSysNop r s) := by
  refine Keeps.via ?_ he hg
  unfold actSysNop
  try dsimp -zeta only
  (with_reducible apply keeps_ok); exact rfl
  repeat first | with_reducible exact Keeps.refl _ _ | with_reducible assumption

theorem keeps_setEff (v : Nat) (s : State) {mk : Nat} {s0 : State} (he : mk &&& 0xFFFFFFFFFFFB = mk) (hg : Keeps mk s0 s) :
    Keeps mk s0 (setEff v s) := by
  refine Keeps.via ?_ he hg
  unfold setEff
  try dsimp -zeta only
  ((try lift_lets); intro xL; subst xL)
  (with_reducible apply Keeps.in_pwr); exact rfl
  · exact fun _ => rfl
  · exact fun _ => rfl
  · exact fun _ => rfl
  · exact fun _ => rfl
  repeat first | with_reducible exact Keeps.refl _ _ | with_reducible assumption

theorem keeps_applyEff (s : State) {mk : Nat} {s0 : State} (he : mk &&& 0xFFFFFFFFF7FB = mk) (hg : Keeps mk s0 s) :
    Keeps mk s0 (applyEff s) := by
  refine Keeps.via ?_ he hg
  unfold applyEff
  try dsimp -zeta only
  ((try lift_lets); intro xL; clear_value xL)
  (intro xL; clear_value xL)
  (intro sL; with_reducible refine Keeps.cut sL ?_ ?_; rotate_left; (intro kL; clear_value sL); rotate_right; subst sL; try dsimp -zeta only)
  (with_reducible apply keeps_setEff); exact rfl
  repeat first | with_reducible exact Keeps.refl _ _ | with_reducible assumption
  split
  (with_reducible apply keeps_logNs); exact rfl
  repeat first | with_reducible exact Keeps.refl _ _ | with_reducible assumption

theorem keeps_applySysPower (r : Req) (s : State) {mk : Nat} {s0 : State} (he : mk &&& 0xFFFFFFFFF3FB = mk) (hg : Keeps mk s0 s) :
    Keeps mk s0 (applySysPower r s) := by
  refine Keeps.via ?_ he hg
  unfold applySysPower
  try dsimp -zeta only
  ((try lift_lets); intro xL; subst xL)
  split
  (with_reducible apply keeps_applyEff); exact rfl
  (with_reducible apply keeps_markStored); exact rfl
  (with_reducible apply Keeps.in_pwr); exact rfl
  · exact fun _ => rfl
  · exact fun _ => rfl
  · exact fun _ => rfl
  · exact fun _ => rfl
  repeat first | with_reducible exact Keeps.refl _ _ | with_reducible assumption

theorem keeps_noteVin (vin : Nat) (s : State) {mk : Nat} {s0 : State} (he : mk &&& 0xFFFFFFFFFFFB = mk) (hg : Keeps mk s0 s) :
    Keeps mk s0 (noteVin vin s) := by
  refine Keeps.via ?_ he hg
  unfold noteVin
  try dsimp -zeta only
  ((try lift_lets); intro xL; subst xL)
  split
  (with_reducible apply Keeps.in_pwr); exact rfl
  · exact fun _ => rfl
  · exact fun _ => rfl
  · exact fun _ => rfl
  · exact fun _ => rfl
  repeat first | with_reducible exact Keeps.refl _ _ | with_reducible assumption
  (with_reducible apply Keeps.in_pwr); exact rfl
  · exact fun _ => rfl
  · exact fun _ => rfl
  · exact fun _ => rfl
  · exact fun _ => rfl
  repeat first | with_reducible exact Keeps.refl _ _ | with_reducible assumption

theorem keeps_actSysPower (r : Req) (s : State) {mk : Nat} {s0 : State} (he : mk &&& 0xFFFFFFFFF1F9 = mk) (hg : Keeps mk s0 s) :
    Keeps mk s0 (actSysPower r s) := by
  refine Keeps.via ?_ he hg
  unfold actSysPower
  try dsimp -zeta only
  ((try lift_lets); intro sL; with_reducible refine Keeps.cut sL ?_ ?_; rotate_left; (intro kL; clear_value sL); rotate_right; subst sL; try dsimp -zeta only)
  (with_reducible apply keeps_applySysPower); exact rfl
  repeat first | with_reducible exact Keeps.refl _ _ | with_reducible assumption
  (with_reducible apply keeps_ok); exact rfl
  (with_reducible apply keeps_freshNat); exact rfl
  repeat first | with_reducible exact Keeps.refl _ _ | with_reducible assumption

theorem keeps_actSysReset (r : Req) (s : State) {mk : Nat} {s0 : State} (he : mk &&& 0xFFFFFFFFF9FB = mk) (hg : Keeps mk s0 s) :
    Keeps mk s0 (actSysReset r s) := by
  refine Keeps.via ?_ he hg
  unfold actSysReset
  try dsimp -zeta only
  ((try lift_lets); intro xL; subst xL)
  (with_reducible apply keeps_ok); exact rfl
  (with_reducible apply Keeps.in_pwr); exact rfl
  · exact fun _ => rfl
  · exact fun _ => rfl
  · exact fun _ => rfl
  · exact fun _ => rfl
  repeat first | with_reducible exact Keeps.refl _ _ | with_reducible assumption

theorem keeps_actSysSettings (r : Req) (s : State) {mk : Nat} {s0 : State} (he : mk &&& 0xFFFFFFFFF9FD = mk) (hg : Keeps mk s0 s) :
    Keeps mk s0 (actSysSettings r s) := by
  refine Keeps.via ?_ he hg
  unfold actSysSettings
  try dsimp -zeta only
  ((try lift_lets); intro xL; clear_value xL)
  (with_reducible apply keeps_ok); exact rfl
  (with_reducible apply keeps_freshNat); exact rfl
  repeat first | with_reducible exact Keeps.refl _ _ | with_reducible assumption

theorem keeps_actSysShelf (r : Req) (s : State) {mk : Nat} {s0 : State} (he : mk &&& 0xFFFFFFFFF9FB = mk) (hg : Keeps mk s0 s) :
    Keeps mk s0 (actSysShelf r s) := by
  refine Keeps.via ?_ he hg
  unfold actSysShelf
  try dsimp -zeta only
  ((try lift_lets); intro xL; subst xL)
  (with_reducible apply keeps_ok); exact rfl
  (with_reducible apply Keeps.in_pwr); exact rfl
  · exact fun _ => rfl
  · exact fun _ => rfl
  · exact fun _ => rfl
  · exact fun _ => rfl
  repeat first | with_reducible exact Keeps.refl _ _ | with_reducible assumption

theorem keeps_actSysStatus (r : Req) (s : State) {mk : Nat} {s0 : State} (he : mk &&& 0xFFFFFFFFF9FF = mk) (hg : Keeps mk s0 s) :
    Keeps mk s0 (actSysStatus r s) := by
  refine Keeps.via ?_ he hg
  unfold actSysStatus
  try dsimp -zeta only
  ((try lift_lets); intro xL; subst xL; try dsimp -zeta only)
  (with_reducible apply keeps_ok); exact rfl
  repeat first | with_reducible exact Keeps.refl _ _ | with_reducible assumption

theorem keeps_actSysWatchdog (r : Req) (s : State) {mk : Nat} {s0 : State} (he : mk &&& 0xFFFFFFEFF1F3 = mk) (hg : Keeps mk s0 s) :
    Keeps mk s0 (actSysWatchdog r s) := by
  refine Keeps.via ?_ he hg
  unfold actSysWatchdog
  try dsimp -zeta only
  ((try lift_lets); intro xL; clear_value xL)
  (intro xL; clear_value xL)
  (intro xL; clear_value xL)
  (intro xL; clear_value xL)
  (intro xL; clear_value xL)
  (intro sL; with_reducible refine Keeps.cut sL ?_ ?_; rotate_left; (intro kL; clear_value sL); rotate_right; subst sL; try dsimp -zeta only)
  (with_reducible apply keeps_logNs); exact rfl
  (with_reducible apply keeps_markStored); exact rfl
  (with_reducible apply Keeps.set_wd); exact rfl
  repeat first | with_reducible exact Keeps.refl _ _ | with_reducible assumption
  split
  (with_reducible apply keeps_ok); exact rfl
  repeat first | with_reducible exact Keeps.refl _ _ | with_reducible assumption
  (with_reducible apply keeps_ok); exact rfl
  (with_reducible apply keeps_evalAuto); exact rfl
  repeat first | with_reducible exact Keeps.refl _ _ | with_reducible assumption

theorem keeps_followThreshold (old : State) (s : State) {mk : Nat} {s0 : State} (he : mk &&& 0xFFFFFFFFF7FB = mk) (hg : Keeps mk s0 s) :
    Keeps mk s0 (followThreshold old s) := by
  refine Keeps.via ?_ he hg
  unfold followThreshold
  try dsimp -zeta only
  split
  repeat first | with_reducible exact Keeps.refl _ _ | with_reducible assumption
  (with_reducible apply keeps_applyEff); exact rfl
  repeat first | with_reducible exact Keeps.refl _ _ | with_reducible assumption

theorem keeps_execSysNop (s : State) (t : State) (h : execSysNop s = .next t) : Keeps 0xF7FFFFFFF9FF s t := by
  unfold execSysNop at h
  injection h with h
  subst h
  try dsimp -zeta only
  ((with_reducible apply keeps_serve); (intro _ _))
  (with_reducible apply keeps_actSysNop); exact rfl
  repeat first | with_reducible exact Keeps.refl _ _ | with_reducible assumption
  exact (rfl : (_ : Nat) &&& _ = _)
  repeat first | with_reducible exact Keeps.refl _ _ | with_reducible assumption

theorem keeps_execSysIdent (s : State) (t : State) (h : execSysIdent s = .next t) : Keeps 0xF7FFFFFFF9FF s t := by
  unfold execSysIdent at h
  injection h with h
  subst h
  try dsimp -zeta only
  ((with_reducible apply keeps_serve); (intro _ _))
  (with_reducible apply keeps_actSysIdent); exact rfl
  repeat first | with_reducible exact Keeps.refl _ _ | with_reducible assumption
  exact (rfl : (_ : Nat) &&& _ = _)
  repeat first | with_reducible exact Keeps.refl _ _ | with_reducible assumption

theorem keeps_execSysCaps (s : State) (t : State) (h : execSysCaps s = .next t) : Keeps 0xF7FFFFFFF9FF s t := by
  unfold execSysCaps at h
  injection h with h
  subst h
  try dsimp -zeta only
  ((with_reducible apply keeps_serve); (intro _ _))
  (with_reducible apply keeps_actSysCaps); exact rfl
  repeat first | with_reducible exact Keeps.refl _ _ | with_reducible assumption
  exact (rfl : (_ : Nat) &&& _ = _)
  repeat first | with_reducible exact Keeps.refl _ _ | with_reducible assumption

theorem keeps_execSysStatus (s : State) (t : State) (h : execSysStatus s = .next t) : Keeps 0xF7FFFFFFF9FF s t := by
  unfold execSysStatus at h
  injection h with h
  subst h
  try dsimp -zeta only
  ((with_reducible apply keeps_serve); (intro _ _))
  (with_reducible apply keeps_actSysStatus); exact rfl
  repeat first | with_reducible exact Keeps.refl _ _ | with_reducible assumption
  exact (rfl : (_ : Nat) &&& _ = _)
  repeat first | with_reducible exact Keeps.refl _ _ | with_reducible assumption

theorem keeps_execSysReset (s : State) (t : State) (h : execSysReset s = .next t) : Keeps 0xF7FFFFFFF9FB s t := by
  unfold execSysReset at h
  injection h with h
  subst h
  try dsimp -zeta only
  ((with_reducible apply keeps_serve); (intro _ _))
  (with_reducible apply keeps_actSysReset); exact rfl
  repeat first | with_reducible exact Keeps.refl _ _ | with_reducible assumption
  exact (rfl : (_ : Nat) &&& _ = _)
  repeat first | with_reducible exact Keeps.refl _ _ | with_reducible assumption

theorem keeps_execSysShelf (s : State) (t : State) (h : execSysShelf s = .next t) : Keeps 0xF7FFFFFFF9FB s t := by
  unfold execSysShelf at h
  injection h with h
  subst h
  try dsimp -zeta only
  ((with_reducible apply keeps_serve); (intro _ _))
  (with_reducible apply keeps_actSysShelf); exact rfl
  repeat first | with_reducible exact Keeps.refl _ _ | with_reducible assumption
  exact (rfl : (_ : Nat) &&& _ = _)
  repeat first | with_reducible exact Keeps.refl _ _ | with_reducible assumption

theorem keeps_execSysWatchdog (s : State) (t : State) (h : execSysWatchdog s = .next t) : Keeps 0xF7FFFFEFF1F3 s t := by
  unfold execSysWatchdog at h
  injection h with h
  subst h
  try dsimp -zeta only
  ((with_reducible apply keeps_serve); (intro _ _))
  (with_reducible apply keeps_actSysWatchdog); exact rfl
  repeat first | with_reducible exact Keeps.refl _ _ | with_reducible assumption
  exact (rfl : (_ : Nat) &&& _ = _)
  repeat first | with_reducible exact Keeps.refl _ _ | with_reducible assumption

theorem keeps_execSysMode (s : State) (t : State) (h : execSysMode s = .next t) : Keeps 0xF6FFFFFFF1D3 s t := by
  unfold execSysMode at h
  injection h with h
  subst h
  try dsimp -zeta only
  ((with_reducible apply keeps_serve); (intro _ _))
  (with_reducible apply keeps_actSysMode); exact rfl
  repeat first | with_reducible exact Keeps.refl _ _ | with_reducible assumption
  exact (rfl : (_ : Nat) &&& _ = _)
  repeat first | with_reducible exact Keeps.refl _ _ | with_reducible assumption

theorem keeps_execSysPower (s : State) (t : State) (h : execSysPower s = .next t) : Keeps 0xF7FFFFFFF1F9 s t := by
  unfold execSysPower at h
  injection h with h
  subst h
  try dsimp -zeta only
  ((with_reducible apply keeps_serve); (intro _ _))
  (with_reducible apply keeps_actSysPower); exact rfl
  repeat first | with_reducible exact Keeps.refl _ _ | with_reducible assumption
  exact (rfl : (_ : Nat) &&& _ = _)
  repeat first | with_reducible exact Keeps.refl _ _ | with_reducible assumption

theorem keeps_execSysCfgBegin (s : State) (t : State) (h : execSysCfgBegin s = .next t) : Keeps 0xF7FFFFFFF9FF s t := by
  unfold execSysCfgBegin at h
  injection h with h
  subst h
  try dsimp -zeta only
  ((with_reducible apply keeps_serve); (intro _ _))
  (with_reducible apply keeps_actSysCfgBegin); exact rfl
  repeat first | with_reducible exact Keeps.refl _ _ | with_reducible assumption
  exact (rfl : (_ : Nat) &&& _ = _)
  repeat first | with_reducible exact Keeps.refl _ _ | with_reducible assumption

theorem keeps_execSysCfgCommit (s : State) (t : State) (h : execSysCfgCommit s = .next t) : Keeps 0xF7FFFFFFF1DF s t := by
  unfold execSysCfgCommit at h
  injection h with h
  subst h
  try dsimp -zeta only
  ((with_reducible apply keeps_serve); (intro _ _))
  (with_reducible apply keeps_actSysCfgCommit); exact rfl
  repeat first | with_reducible exact Keeps.refl _ _ | with_reducible assumption
  exact (rfl : (_ : Nat) &&& _ = _)
  repeat first | with_reducible exact Keeps.refl _ _ | with_reducible assumption

theorem keeps_execSysCfgAbort (s : State) (t : State) (h : execSysCfgAbort s = .next t) : Keeps 0xF7FFFFFFF1DF s t := by
  unfold execSysCfgAbort at h
  injection h with h
  subst h
  try dsimp -zeta only
  ((with_reducible apply keeps_serve); (intro _ _))
  (with_reducible apply keeps_actSysCfgAbort); exact rfl
  repeat first | with_reducible exact Keeps.refl _ _ | with_reducible assumption
  exact (rfl : (_ : Nat) &&& _ = _)
  repeat first | with_reducible exact Keeps.refl _ _ | with_reducible assumption

theorem keeps_execSysSettings (s : State) (t : State) (h : execSysSettings s = .next t) : Keeps 0xF7FFFFFFF9FD s t := by
  unfold execSysSettings at h
  injection h with h
  subst h
  try dsimp -zeta only
  ((with_reducible apply keeps_serve); (intro _ _))
  (with_reducible apply keeps_actSysSettings); exact rfl
  repeat first | with_reducible exact Keeps.refl _ _ | with_reducible assumption
  exact (rfl : (_ : Nat) &&& _ = _)
  repeat first | with_reducible exact Keeps.refl _ _ | with_reducible assumption

theorem keeps_execCfgSetTimeout (p : Fin 4) (s : State) (t : State) (h : execCfgSetTimeout p s = .next t) : Keeps 0xFFFFFFFFF5FF s t := by
  unfold execCfgSetTimeout at h
  injection h with h
  subst h
  try dsimp -zeta only
  split
  split
  (with_reducible apply keeps_dropOpen); exact rfl
  repeat first | with_reducible exact Keeps.refl _ _ | with_reducible assumption

end Sys2Proof.Laws
end

