-- ==== Sys2Proof/Laws/Frames/Image.lean ====
section
/-!
SUPPORT. Frames of the operations of Machine/Image.lean.
-/
set_option Elab.async false
namespace Sys2Proof.Laws
open Sys2Proof Sys2Proof.Machine

theorem keeps_actLatImageLoad (r : Req) (s : State) {mk : Nat} {s0 : State} (he : mk &&& 0xFFFFFFFFB1FF = mk) (hg : Keeps mk s0 s) :
    Keeps mk s0 (actLatImageLoad r s) := by
  refine Keeps.via ?_ he hg
  unfold actLatImageLoad
  try dsimp -zeta only
  ((try lift_lets); intro xL; clear_value xL)
  (intro xL; subst xL)
  split
  repeat first | with_reducible exact Keeps.refl _ _ | with_reducible assumption
  ((try lift_lets); intro xL; clear_value xL)
  (intro xL; clear_value xL)
  (intro sL; with_reducible refine Keeps.cut sL ?_ ?_; rotate_left; (intro kL; clear_value sL); rotate_right; subst sL; try dsimp -zeta only)
  (with_reducible apply keeps_logNs); exact rfl
  split
  (with_reducible apply Keeps.in_lat); exact rfl
  · exact fun _ => rfl
  repeat first | with_reducible exact Keeps.refl _ _ | with_reducible assumption
  (with_reducible apply Keeps.in_lat); exact rfl
  · exact fun _ => rfl
  repeat first | with_reducible exact Keeps.refl _ _ | with_reducible assumption
  split
  (with_reducible apply keeps_ok); exact rfl
  (with_reducible apply Keeps.in_lat); exact rfl
  · exact fun _ => rfl
  repeat first | with_reducible exact Keeps.refl _ _ | with_reducible assumption
  split
  (with_reducible apply keeps_ok); exact rfl
  repeat first | with_reducible exact Keeps.refl _ _ | with_reducible assumption
  (with_reducible apply keeps_failReq); exact rfl
  repeat first | with_reducible exact Keeps.refl _ _ | with_reducible assumption

theorem keeps_actLatImageSend (r : Req) (s : State) {mk : Nat} {s0 : State} (he : mk &&& 0xFFFFFFFFBDFF = mk) (hg : Keeps mk s0 s) :
    Keeps mk s0 (actLatImageSend r s) := by
  refine Keeps.via ?_ he hg
  unfold actLatImageSend
  try dsimp -zeta only
  ((try lift_lets); intro xL; clear_value xL)
  (intro xL; subst xL)
  split
  repeat first | with_reducible exact Keeps.refl _ _ | with_reducible assumption
  ((try lift_lets); intro xL; clear_value xL)
  (with_reducible apply keeps_acceptN); exact rfl
  (with_reducible apply Keeps.in_lat); exact rfl
  · exact fun _ => rfl
  repeat first | with_reducible exact Keeps.refl _ _ | with_reducible assumption

theorem keeps_updSend (id : Nat) (f : ImgSend → ImgSend) (s : State) {mk : Nat} {s0 : State} (he : mk &&& 0xFFFFFFFFBFFF = mk) (hg : Keeps mk s0 s) :
    Keeps mk s0 (updSend id f s) := by
  refine Keeps.via ?_ he hg
  unfold updSend
  try dsimp -zeta only
  ((try lift_lets); intro xL; subst xL)
  (with_reducible apply Keeps.in_lat); exact rfl
  · exact fun _ => rfl
  repeat first | with_reducible exact Keeps.refl _ _ | with_reducible assumption

theorem keeps_updTarget (x : ImgSend) (ep : Nat) (f : ImgTarget → ImgTarget) (s : State) {mk : Nat} {s0 : State} (he : mk &&& 0xFFFFFFFFBFFF = mk) (hg : Keeps mk s0 s) :
    Keeps mk s0 (updTarget x ep f s) := by
  refine Keeps.via ?_ he hg
  unfold updTarget
  try dsimp -zeta only
  (with_reducible apply keeps_updSend); exact rfl
  repeat first | with_reducible exact Keeps.refl _ _ | with_reducible assumption

theorem keeps_execImageNack (n : Nat) (s : State) (t : State) (h : execImageNack n s = .next t) : Keeps 0xFFFFFFFFAFFF s t := by
  unfold execImageNack at h
  injection h with h
  subst h
  try dsimp -zeta only
  ((try lift_lets); intro sL; with_reducible refine Keeps.cut sL ?_ ?_; rotate_left; (intro kL; clear_value sL); rotate_right; subst sL; try dsimp -zeta only)
  (with_reducible apply keeps_popRing); exact rfl
  repeat first | with_reducible exact Keeps.refl _ _ | with_reducible assumption
  split
  repeat first | with_reducible exact Keeps.refl _ _ | with_reducible assumption
  ((try lift_lets); intro xL; clear_value xL)
  split
  repeat first | with_reducible exact Keeps.refl _ _ | with_reducible assumption
  split
  repeat first | with_reducible exact Keeps.refl _ _ | with_reducible assumption
  (with_reducible apply keeps_updTarget); exact rfl
  repeat first | with_reducible exact Keeps.refl _ _ | with_reducible assumption

theorem keeps_execImgReport (n : Nat) (s : State) (t : State) (h : execImgReport n s = .next t) : Keeps 0xFFFFFFFFAFFF s t := by
  unfold execImgReport at h
  injection h with h
  subst h
  try dsimp -zeta only
  ((try lift_lets); intro sL; with_reducible refine Keeps.cut sL ?_ ?_; rotate_left; (intro kL; clear_value sL); rotate_right; subst sL; try dsimp -zeta only)
  (with_reducible apply keeps_popRing); exact rfl
  repeat first | with_reducible exact Keeps.refl _ _ | with_reducible assumption
  split
  repeat first | with_reducible exact Keeps.refl _ _ | with_reducible assumption
  split
  repeat first | with_reducible exact Keeps.refl _ _ | with_reducible assumption
  split
  repeat first | with_reducible exact Keeps.refl _ _ | with_reducible assumption
  (with_reducible apply keeps_updTarget); exact rfl
  repeat first | with_reducible exact Keeps.refl _ _ | with_reducible assumption

theorem keeps_stageImage (x : ImgSend) (train : Bool) (target : Option Nat) (app : List Nat) (s : State) {mk : Nat} {s0 : State} (he : mk &&& 0xFFFFFFFFA7FF = mk) (hg : Keeps mk s0 s) :
    Keeps mk s0 (stageImage x train target app s) := by
  refine Keeps.via ?_ he hg
  unfold stageImage
  try dsimp -zeta only
  ((with_reducible apply Keeps.fold); (intro _ _))
  ((try lift_lets); intro xL; clear_value xL)
  (intro xL; clear_value xL)
  (intro xL; clear_value xL)
  (with_reducible apply keeps_stageFrame); exact rfl
  (with_reducible apply keeps_takeFlood); exact rfl
  repeat first | with_reducible exact Keeps.refl _ _ | with_reducible assumption

theorem keeps_imgStep (x : ImgSend) (i : Image) (s : State) {mk : Nat} {s0 : State} (he : mk &&& 0xFFFFFFFFA1FF = mk) (hg : Keeps mk s0 s) :
    Keeps mk s0 (imgStep x i s) := by
  refine Keeps.via ?_ he hg
  unfold imgStep
  try dsimp -zeta only
  ((try lift_lets); intro xL; clear_value xL)
  (intro xL; clear_value xL)
  (intro xL; subst xL; try dsimp -zeta only)
  (intro xL; subst xL)
  split
  (with_reducible apply keeps_updSend); exact rfl
  (with_reducible apply keeps_stageImage); exact rfl
  repeat first | with_reducible exact Keeps.refl _ _ | with_reducible assumption
  split
  (with_reducible apply keeps_updSend); exact rfl
  repeat first | with_reducible exact Keeps.refl _ _ | with_reducible assumption
  (with_reducible apply keeps_updSend); exact rfl
  (with_reducible apply keeps_stageImage); exact rfl
  repeat first | with_reducible exact Keeps.refl _ _ | with_reducible assumption
  (with_reducible apply keeps_updSend); exact rfl
  (with_reducible apply keeps_stageImage); exact rfl
  repeat first | with_reducible exact Keeps.refl _ _ | with_reducible assumption
  split
  repeat first | with_reducible exact Keeps.refl _ _ | with_reducible assumption
  split
  (with_reducible apply keeps_updSend); exact rfl
  repeat first | with_reducible exact Keeps.refl _ _ | with_reducible assumption
  (with_reducible apply keeps_updSend); exact rfl
  repeat first | with_reducible exact Keeps.refl _ _ | with_reducible assumption
  (with_reducible apply keeps_updSend); exact rfl
  (with_reducible apply keeps_stageImage); exact rfl
  repeat first | with_reducible exact Keeps.refl _ _ | with_reducible assumption
  split
  (with_reducible apply keeps_updSend); exact rfl
  repeat first | with_reducible exact Keeps.refl _ _ | with_reducible assumption
  (with_reducible apply keeps_updSend); exact rfl
  (with_reducible apply keeps_stageImage); exact rfl
  repeat first | with_reducible exact Keeps.refl _ _ | with_reducible assumption
  (with_reducible apply keeps_complete); exact rfl
  (with_reducible apply keeps_logEv); exact rfl
  (with_reducible apply Keeps.in_lat); exact rfl
  · exact fun _ => rfl
  repeat first | with_reducible exact Keeps.refl _ _ | with_reducible assumption

theorem keeps_execImagePhase (id : Nat) (s : State) (t : State) (h : execImagePhase id s = .next t) : Keeps 0xFFFFFFFFA1FF s t := by
  unfold execImagePhase at h
  injection h with h
  subst h
  try dsimp -zeta only
  split
  repeat first | with_reducible exact Keeps.refl _ _ | with_reducible assumption
  split
  split
  repeat first | with_reducible exact Keeps.refl _ _ | with_reducible assumption
  (with_reducible apply keeps_imgStep); exact rfl
  repeat first | with_reducible exact Keeps.refl _ _ | with_reducible assumption

theorem keeps_execLatImageLoad (s : State) (t : State) (h : execLatImageLoad s = .next t) : Keeps 0xF7FFFFFFB1FF s t := by
  unfold execLatImageLoad at h
  injection h with h
  subst h
  try dsimp -zeta only
  ((with_reducible apply keeps_serve); (intro _ _))
  (with_reducible apply keeps_actLatImageLoad); exact rfl
  repeat first | with_reducible exact Keeps.refl _ _ | with_reducible assumption
  exact (rfl : (_ : Nat) &&& _ = _)
  repeat first | with_reducible exact Keeps.refl _ _ | with_reducible assumption

theorem keeps_execLatImageSend (s : State) (t : State) (h : execLatImageSend s = .next t) : Keeps 0xF7FFFFFFB9FF s t := by
  unfold execLatImageSend at h
  injection h with h
  subst h
  try dsimp -zeta only
  ((with_reducible apply keeps_serve); (intro _ _))
  (with_reducible apply keeps_actLatImageSend); exact rfl
  repeat first | with_reducible exact Keeps.refl _ _ | with_reducible assumption
  exact (rfl : (_ : Nat) &&& _ = _)
  repeat first | with_reducible exact Keeps.refl _ _ | with_reducible assumption

end Sys2Proof.Laws
end

