-- ==== Sys2Proof/Laws/Frames/TxnCmd.lean ====
section
/-!
SUPPORT. Frames of the operations of Machine/TxnCmd.lean.
-/
set_option Elab.async false
namespace Sys2Proof.Laws
open Sys2Proof Sys2Proof.Machine

theorem keeps_cancelTxn (t : Txn) (s : State) {mk : Nat} {s0 : State} (he : mk &&& 0xFDFFFFEC01F1 = mk) (hg : Keeps mk s0 s) :
    Keeps mk s0 (cancelTxn t s) := by
  refine Keeps.via ?_ he hg
  unfold cancelTxn
  try dsimp -zeta only
  split
  (with_reducible apply keeps_updTxn); exact rfl
  repeat first | with_reducible exact Keeps.refl _ _ | with_reducible assumption
  (with_reducible apply keeps_updTxn); exact rfl
  repeat first | with_reducible exact Keeps.refl _ _ | with_reducible assumption
  (with_reducible apply keeps_finishTxn); exact rfl
  repeat first | with_reducible exact Keeps.refl _ _ | with_reducible assumption

theorem keeps_actTxnCancel (r : Req) (s : State) {mk : Nat} {s0 : State} (he : mk &&& 0xFDFFFFEC01F1 = mk) (hg : Keeps mk s0 s) :
    Keeps mk s0 (actTxnCancel r s) := by
  refine Keeps.via ?_ he hg
  unfold actTxnCancel
  try dsimp -zeta only
  ((try lift_lets); intro xL; clear_value xL)
  (intro xL; clear_value xL)
  (intro xL; clear_value xL)
  (intro xL; clear_value xL)
  (intro xL; clear_value xL)
  (intro xL; clear_value xL)
  (intro sL; with_reducible refine Keeps.cut sL ?_ ?_; rotate_left; (intro kL; clear_value sL); rotate_right; subst sL; try dsimp -zeta only)
  ((with_reducible apply Keeps.fold); (intro _ _))
  split
  (with_reducible apply keeps_cancelTxn); exact rfl
  repeat first | with_reducible exact Keeps.refl _ _ | with_reducible assumption
  (with_reducible apply keeps_ok); exact rfl
  ((with_reducible apply Keeps.fold); (intro _ _))
  split
  (with_reducible apply keeps_endGroup); exact rfl
  repeat first | with_reducible exact Keeps.refl _ _ | with_reducible assumption
  (with_reducible apply keeps_updGroup); exact rfl
  repeat first | with_reducible exact Keeps.refl _ _ | with_reducible assumption
  ((with_reducible apply Keeps.fold); (intro _ _))
  (with_reducible apply keeps_completeFail); exact rfl
  repeat first | with_reducible exact Keeps.refl _ _ | with_reducible assumption
  (with_reducible apply Keeps.set_txn); exact rfl
  repeat first | with_reducible exact Keeps.refl _ _ | with_reducible assumption

theorem keeps_actTxnStatus (r : Req) (old : State) {mk : Nat} {s0 : State} (he : mk &&& 0xFFFFFFFF79FF = mk) (hg : Keeps mk s0 old) :
    Keeps mk s0 (actTxnStatus r old) := by
  refine Keeps.via ?_ he hg
  unfold actTxnStatus
  try dsimp -zeta only
  ((try lift_lets); intro sL; with_reducible refine Keeps.cut sL ?_ ?_; rotate_left; (intro kL; clear_value sL); rotate_right; subst sL; try dsimp -zeta only)
  (with_reducible apply keeps_rollRates); exact rfl
  repeat first | with_reducible exact Keeps.refl _ _ | with_reducible assumption
  (with_reducible apply keeps_ok); exact rfl
  repeat first | with_reducible exact Keeps.refl _ _ | with_reducible assumption

theorem keeps_txnFull (r : Req) (s : State) {mk : Nat} {s0 : State} (he : mk &&& 0xFFFFFFFFF7FF = mk) (hg : Keeps mk s0 s) :
    Keeps mk s0 (txnFull r s) := by
  refine Keeps.via ?_ he hg
  unfold txnFull
  try dsimp -zeta only
  (with_reducible apply keeps_logLimK); exact rfl
  repeat first | with_reducible exact Keeps.refl _ _ | with_reducible assumption

theorem keeps_issueGroup (r : Req) (cyc : Nat) (compat : Bool) (lead : Nat) (s : State) {mk : Nat} {s0 : State} (he : mk &&& 0xFFFFFFFF79FF = mk) (hg : Keeps mk s0 s) :
    Keeps mk s0 (issueGroup r cyc compat lead s) := by
  refine Keeps.via ?_ he hg
  unfold issueGroup
  try dsimp -zeta only
  ((try lift_lets); intro xL; clear_value xL)
  (intro xL; clear_value xL)
  (intro xL; clear_value xL)
  (intro xL; clear_value xL)
  (intro xL; clear_value xL)
  (intro xL; clear_value xL)
  (intro xL; clear_value xL)
  (intro sL; with_reducible refine Keeps.cut sL ?_ ?_; rotate_left; (intro kL; clear_value sL); rotate_right; subst sL; try dsimp -zeta only)
  (with_reducible apply keeps_newGroup); exact rfl
  repeat first | with_reducible exact Keeps.refl _ _ | with_reducible assumption
  split
  split
  split
  (with_reducible apply keeps_endGroup); exact rfl
  repeat first | with_reducible exact Keeps.refl _ _ | with_reducible assumption
  ((with_reducible apply Keeps.fold); (intro _ _))
  (with_reducible apply keeps_startTxnIn); exact rfl
  repeat first | with_reducible exact Keeps.refl _ _ | with_reducible assumption
  (with_reducible apply keeps_newGroup); exact rfl
  repeat first | with_reducible exact Keeps.refl _ _ | with_reducible assumption

theorem keeps_issueReq (r : Req) (cyc : Nat) (compat : Bool) (lead : Nat) (s : State) {mk : Nat} {s0 : State} (he : mk &&& 0xFFFFFFFF79FF = mk) (hg : Keeps mk s0 s) :
    Keeps mk s0 (issueReq r cyc compat lead s) := by
  refine Keeps.via ?_ he hg
  unfold issueReq
  try dsimp -zeta only
  ((try lift_lets); intro xL; clear_value xL)
  (intro xL; clear_value xL)
  split
  (with_reducible apply keeps_startTxnIn); exact rfl
  repeat first | with_reducible exact Keeps.refl _ _ | with_reducible assumption
  split
  (with_reducible apply keeps_startTxnIn); exact rfl
  repeat first | with_reducible exact Keeps.refl _ _ | with_reducible assumption
  (with_reducible apply keeps_issueGroup); exact rfl
  repeat first | with_reducible exact Keeps.refl _ _ | with_reducible assumption

theorem keeps_advanceSeq (p : Fin 4) (n : Nat) (s : State) {mk : Nat} {s0 : State}
    (he : mk &&& 0xFFFFFFFF71FF = mk) (hg : Keeps mk s0 s) : Keeps mk s0 (advanceSeq p n s) := by
  refine Keeps.via ?_ he hg
  clear he hg
  induction n generalizing s with
  | zero => exact Keeps.refl _ _
  | succ n ih =>
    unfold advanceSeq
    dsimp only
    split
    · exact Keeps.set_txn rfl (Keeps.refl _ _)
    · refine Keeps.step (ih _) ?_
      split
      · refine keeps_completeFail _ _ _ rfl ?_
        split
        · exact keeps_txnFull _ _ rfl (Keeps.set_txn rfl (Keeps.set_txn rfl (Keeps.refl _ _)))
        · exact Keeps.set_txn rfl (Keeps.set_txn rfl (Keeps.refl _ _))
      · exact keeps_issueReq _ _ _ _ _ rfl (Keeps.set_txn rfl (Keeps.set_txn rfl (Keeps.refl _ _)))

theorem keeps_applyTxnOrderMode (r : Req) (s : State) {mk : Nat} {s0 : State} (he : mk &&& 0xFFFFFFFF73FF = mk) (hg : Keeps mk s0 s) :
    Keeps mk s0 (applyTxnOrderMode r s) := by
  refine Keeps.via ?_ he hg
  unfold applyTxnOrderMode
  try dsimp -zeta only
  ((try lift_lets); intro xL; clear_value xL)
  (intro xL; clear_value xL)
  (with_reducible apply keeps_logNs); exact rfl
  (with_reducible apply keeps_markStored); exact rfl
  (with_reducible apply Keeps.set_txn); exact rfl
  repeat first | with_reducible exact Keeps.refl _ _ | with_reducible assumption

theorem keeps_applyTxnRetryPolicy (r : Req) (s : State) {mk : Nat} {s0 : State} (he : mk &&& 0xFFFFFFFF73FF = mk) (hg : Keeps mk s0 s) :
    Keeps mk s0 (applyTxnRetryPolicy r s) := by
  refine Keeps.via ?_ he hg
  unfold applyTxnRetryPolicy
  try dsimp -zeta only
  ((try lift_lets); intro xL; clear_value xL)
  (with_reducible apply keeps_logEv); exact rfl
  (with_reducible apply keeps_markStored); exact rfl
  (with_reducible apply Keeps.set_txn); exact rfl
  repeat first | with_reducible exact Keeps.refl _ _ | with_reducible assumption

theorem keeps_execSeqWaitExpiry (p : Fin 4) (s : State) (t : State) (h : execSeqWaitExpiry p s = .next t) : Keeps 0xFFFFFFFF71FF s t := by
  unfold execSeqWaitExpiry at h
  injection h with h
  subst h
  try dsimp -zeta only
  ((try lift_lets); intro xL; clear_value xL)
  (intro xL; clear_value xL)
  split
  repeat first | with_reducible exact Keeps.refl _ _ | with_reducible assumption
  ((try lift_lets); intro sL; with_reducible refine Keeps.cut sL ?_ ?_; rotate_left; (intro kL; clear_value sL); rotate_right; subst sL; try dsimp -zeta only)
  (with_reducible apply Keeps.set_txn); exact rfl
  repeat first | with_reducible exact Keeps.refl _ _ | with_reducible assumption
  (with_reducible apply keeps_completeFail); exact rfl
  (with_reducible apply keeps_logLimK); exact rfl
  repeat first | with_reducible exact Keeps.refl _ _ | with_reducible assumption

theorem keeps_takeTxn (r : Req) (s : State) {mk : Nat} {s0 : State} (he : mk &&& 0xFFFFFFFF71FF = mk) (hg : Keeps mk s0 s) :
    Keeps mk s0 (takeTxn r s) := by
  refine Keeps.via ?_ he hg
  unfold takeTxn
  try dsimp -zeta only
  ((try lift_lets); intro sL; with_reducible refine Keeps.cut sL ?_ ?_; rotate_left; (intro kL; clear_value sL); rotate_right; subst sL; try dsimp -zeta only)
  (with_reducible apply keeps_accept); exact rfl
  repeat first | with_reducible exact Keeps.refl _ _ | with_reducible assumption
  split
  (with_reducible apply keeps_issueReq); exact rfl
  repeat first | with_reducible exact Keeps.refl _ _ | with_reducible assumption
  split
  (with_reducible apply keeps_advanceSeq); exact rfl
  (with_reducible apply keeps_issueReq); exact rfl
  repeat first | with_reducible exact Keeps.refl _ _ | with_reducible assumption
  (with_reducible apply Keeps.set_txn); exact rfl
  repeat first | with_reducible exact Keeps.refl _ _ | with_reducible assumption

theorem keeps_serveTxn (code : Nat) (chk : Req → State → Option Fail) (s : State) {mk : Nat} {s0 : State} (he : mk &&& 0xF7FFFFFF71FF = mk) (hg : Keeps mk s0 s) :
    Keeps mk s0 (serveTxn code chk s) := by
  refine Keeps.via ?_ he hg
  unfold serveTxn
  try dsimp -zeta only
  ((with_reducible apply keeps_serve); (intro _ _))
  split
  (with_reducible apply keeps_takeTxn); exact rfl
  repeat first | with_reducible exact Keeps.refl _ _ | with_reducible assumption
  ((try lift_lets); intro sL; with_reducible refine Keeps.cut sL ?_ ?_; rotate_left; (intro kL; clear_value sL); rotate_right; subst sL; try dsimp -zeta only)
  split
  (with_reducible apply keeps_logLimK); exact rfl
  repeat first | with_reducible exact Keeps.refl _ _ | with_reducible assumption
  split
  (with_reducible apply keeps_txnFull); exact rfl
  repeat first | with_reducible exact Keeps.refl _ _ | with_reducible assumption
  (with_reducible apply keeps_failReq); exact rfl
  repeat first | with_reducible exact Keeps.refl _ _ | with_reducible assumption
  exact (rfl : (_ : Nat) &&& _ = _)
  repeat first | with_reducible exact Keeps.refl _ _ | with_reducible assumption

theorem keeps_execTxnSend (s : State) (t : State) (h : execTxnSend s = .next t) : Keeps 0xF7FFFFFF71FF s t := by
  unfold execTxnSend at h
  injection h with h
  subst h
  try dsimp -zeta only
  (with_reducible apply keeps_serveTxn); exact rfl
  repeat first | with_reducible exact Keeps.refl _ _ | with_reducible assumption

theorem keeps_execTxnLevel (s : State) (t : State) (h : execTxnLevel s = .next t) : Keeps 0xF7FFFFFF71FF s t := by
  unfold execTxnLevel at h
  injection h with h
  subst h
  try dsimp -zeta only
  (with_reducible apply keeps_serveTxn); exact rfl
  repeat first | with_reducible exact Keeps.refl _ _ | with_reducible assumption

theorem keeps_execTxnGroupLevel (s : State) (t : State) (h : execTxnGroupLevel s = .next t) : Keeps 0xF7FFFFFF71FF s t := by
  unfold execTxnGroupLevel at h
  injection h with h
  subst h
  try dsimp -zeta only
  (with_reducible apply keeps_serveTxn); exact rfl
  repeat first | with_reducible exact Keeps.refl _ _ | with_reducible assumption

theorem keeps_execTxnCancel (s : State) (t : State) (h : execTxnCancel s = .next t) : Keeps 0xF5FFFFEC01F1 s t := by
  unfold execTxnCancel at h
  injection h with h
  subst h
  try dsimp -zeta only
  ((with_reducible apply keeps_serve); (intro _ _))
  (with_reducible apply keeps_actTxnCancel); exact rfl
  repeat first | with_reducible exact Keeps.refl _ _ | with_reducible assumption
  exact (rfl : (_ : Nat) &&& _ = _)
  repeat first | with_reducible exact Keeps.refl _ _ | with_reducible assumption

theorem keeps_execTxnStatus (s : State) (t : State) (h : execTxnStatus s = .next t) : Keeps 0xF7FFFFFF79FF s t := by
  unfold execTxnStatus at h
  injection h with h
  subst h
  refine keeps_serve _ _ _ _ (fun r s => ?_) rfl (Keeps.refl _ _)
  exact keeps_actTxnStatus r s rfl (Keeps.refl _ _)

theorem keeps_execTxnOrderMode (s : State) (t : State) (h : execTxnOrderMode s = .next t) : Keeps 0xF7FFFFFFF1DF s t := by
  unfold execTxnOrderMode at h
  injection h with h
  subst h
  try dsimp -zeta only
  ((with_reducible apply keeps_serve); (intro _ _))
  (with_reducible apply keeps_storeAtBoundary); exact rfl
  repeat first | with_reducible exact Keeps.refl _ _ | with_reducible assumption
  exact (rfl : (_ : Nat) &&& _ = _)
  repeat first | with_reducible exact Keeps.refl _ _ | with_reducible assumption

theorem keeps_execTxnRetryPolicy (s : State) (t : State) (h : execTxnRetryPolicy s = .next t) : Keeps 0xF7FFFFFFF1DF s t := by
  unfold execTxnRetryPolicy at h
  injection h with h
  subst h
  try dsimp -zeta only
  ((with_reducible apply keeps_serve); (intro _ _))
  (with_reducible apply keeps_storeAtBoundary); exact rfl
  repeat first | with_reducible exact Keeps.refl _ _ | with_reducible assumption
  exact (rfl : (_ : Nat) &&& _ = _)
  repeat first | with_reducible exact Keeps.refl _ _ | with_reducible assumption

end Sys2Proof.Laws
end

