-- ==== Sys2Proof/Laws/Frames/Sets.lean ====
section
/-!
SUPPORT. Frames of the operations of Machine/Sets.lean.
-/
set_option Elab.async false
namespace Sys2Proof.Laws
open Sys2Proof Sys2Proof.Machine

theorem keeps_actSysSettingsReset (r : Req) (s : State) {mk : Nat} {s0 : State} (he : mk &&& 0xFFFFFFFFF1DF = mk) (hg : Keeps mk s0 s) :
    Keeps mk s0 (actSysSettingsReset r s) := by
  refine Keeps.via ?_ he hg
  unfold actSysSettingsReset
  try dsimp -zeta only
  ((try lift_lets); intro xL; clear_value xL)
  (intro xL; clear_value xL)
  split
  (with_reducible apply keeps_ok); exact rfl
  ((with_reducible apply keeps_tlPost); (with_reducible assumption); exact rfl)
  repeat first | with_reducible exact Keeps.refl _ _ | with_reducible assumption
  (with_reducible apply keeps_failReq); exact rfl
  (with_reducible apply keeps_tlFull); exact rfl
  repeat first | with_reducible exact Keeps.refl _ _ | with_reducible assumption

theorem keeps_markSet (id : Nat) (v : Nat) (s : State) {mk : Nat} {s0 : State} (he : mk &&& 0xFFFFFFFFFBFF = mk) (hg : Keeps mk s0 s) :
    Keeps mk s0 (markSet id v s) := by
  refine Keeps.via ?_ he hg
  unfold markSet
  try dsimp -zeta only
  ((try lift_lets); intro xL; subst xL)
  (with_reducible apply Keeps.in_cmd); exact rfl
  · exact fun _ => rfl
  repeat first | with_reducible exact Keeps.refl _ _ | with_reducible assumption

theorem keeps_putSettings (c : Settings) (s : State) {mk : Nat} {s0 : State} (he : mk &&& 0xFBFFFF4047E3 = mk) (hg : Keeps mk s0 s) :
    Keeps mk s0 (putSettings c s) := by
  refine Keeps.via ?_ he hg
  unfold putSettings
  try dsimp -zeta only
  ((try lift_lets); intro xL; subst xL)
  (intro xL; clear_value xL)
  (intro xL; clear_value xL)
  (intro xL; clear_value xL)
  (intro xL; clear_value xL)
  (intro xL; subst xL)
  (intro xL; clear_value xL)
  (intro xL; clear_value xL)
  (intro xL; clear_value xL)
  (intro xL; clear_value xL)
  (intro xL; clear_value xL)
  (intro xL; clear_value xL)
  (intro xL; subst xL)
  (intro xL; clear_value xL)
  (intro xL; clear_value xL)
  (intro xL; clear_value xL)
  (intro xL; clear_value xL)
  (intro xL; clear_value xL)
  (with_reducible apply Keeps.upd)
  · exact fun _ => rfl
  · exact fun h => Bool.noConfusion h
  · exact fun h => Bool.noConfusion h
  · exact fun h => Bool.noConfusion h
  · exact fun _ => rfl
  · exact fun _ => rfl
  · exact fun _ => rfl
  · exact fun _ => rfl
  · exact fun _ => rfl
  · exact fun _ => rfl
  · exact fun h => Bool.noConfusion h
  · exact fun h => Bool.noConfusion h
  · exact fun h => Bool.noConfusion h
  · exact fun _ => rfl
  · exact fun h => Bool.noConfusion h
  · exact fun h => Bool.noConfusion h
  · exact fun h => Bool.noConfusion h
  · exact fun h => Bool.noConfusion h
  · exact fun h => Bool.noConfusion h
  · exact fun h => Bool.noConfusion h
  · exact fun h => Bool.noConfusion h
  · exact fun _ => rfl
  · exact fun h => Bool.noConfusion h
  · exact fun _ => rfl
  · exact fun _ => rfl
  · exact fun _ => rfl
  · exact fun _ => rfl
  · exact fun _ => rfl
  · exact fun _ => rfl
  · exact fun _ => rfl
  · exact fun _ => rfl
  · exact fun _ => rfl
  · exact fun _ => rfl
  · exact fun _ => rfl
  · exact fun _ => rfl
  · exact fun _ => rfl
  · exact fun _ => rfl
  · exact fun _ => rfl
  · exact fun _ => rfl
  · exact fun _ => rfl
  · exact fun _ => rfl
  · exact fun h => Bool.noConfusion h
  · exact fun _ => rfl
  · exact fun _ => rfl
  · exact fun _ _ h => h
  · exact fun _ h => ⟨h, rfl⟩
  · exact fun _ h => h
  repeat first | with_reducible exact Keeps.refl _ _ | with_reducible assumption

theorem keeps_applyMemScrub (r : Req) (s : State) {mk : Nat} {s0 : State} (he : mk &&& 0xFFFFFF7FF3FF = mk) (hg : Keeps mk s0 s) :
    Keeps mk s0 (applyMemScrub r s) := by
  refine Keeps.via ?_ he hg
  unfold applyMemScrub
  try dsimp -zeta only
  ((try lift_lets); intro xL; clear_value xL)
  (intro sL; with_reducible refine Keeps.cut sL ?_ ?_; rotate_left; (intro kL; clear_value sL); rotate_right; subst sL; try dsimp -zeta only)
  (with_reducible apply keeps_markStored); exact rfl
  (with_reducible apply Keeps.set_mem); exact rfl
  repeat first | with_reducible exact Keeps.refl _ _ | with_reducible assumption
  (with_reducible apply keeps_logEv); exact rfl
  repeat first | with_reducible exact Keeps.refl _ _ | with_reducible assumption

theorem keeps_applyS (r : Req) (s : State) {mk : Nat} {s0 : State} (he : mk &&& 0xF9FFFD400141 = mk) (hg : Keeps mk s0 s) :
    Keeps mk s0 (applyS r s) := by
  refine Keeps.via ?_ he hg
  unfold applyS
  try dsimp -zeta only
  split
  (with_reducible apply keeps_applySysPower); exact rfl
  repeat first | with_reducible exact Keeps.refl _ _ | with_reducible assumption
  (with_reducible apply keeps_applyTtConfig); exact rfl
  repeat first | with_reducible exact Keeps.refl _ _ | with_reducible assumption
  (with_reducible apply keeps_applyRtcTrim); exact rfl
  repeat first | with_reducible exact Keeps.refl _ _ | with_reducible assumption
  (with_reducible apply keeps_applyRadBandPlan); exact rfl
  repeat first | with_reducible exact Keeps.refl _ _ | with_reducible assumption
  (with_reducible apply keeps_applyRadFeConfig); exact rfl
  repeat first | with_reducible exact Keeps.refl _ _ | with_reducible assumption
  (with_reducible apply keeps_applyRadEngineConfig); exact rfl
  repeat first | with_reducible exact Keeps.refl _ _ | with_reducible assumption
  (with_reducible apply keeps_applyMacBeaconConfig); exact rfl
  repeat first | with_reducible exact Keeps.refl _ _ | with_reducible assumption
  (with_reducible apply keeps_applyMacSleepyConfig); exact rfl
  repeat first | with_reducible exact Keeps.refl _ _ | with_reducible assumption
  (with_reducible apply keeps_applyLatAdd); exact rfl
  repeat first | with_reducible exact Keeps.refl _ _ | with_reducible assumption
  (with_reducible apply keeps_applyLatRemove); exact rfl
  repeat first | with_reducible exact Keeps.refl _ _ | with_reducible assumption
  (with_reducible apply keeps_applyLatUpdate); exact rfl
  repeat first | with_reducible exact Keeps.refl _ _ | with_reducible assumption
  (with_reducible apply keeps_applyLatJoinPolicy); exact rfl
  repeat first | with_reducible exact Keeps.refl _ _ | with_reducible assumption
  (with_reducible apply keeps_applyLatKeyLoad); exact rfl
  repeat first | with_reducible exact Keeps.refl _ _ | with_reducible assumption
  (with_reducible apply keeps_applyTxnOrderMode); exact rfl
  repeat first | with_reducible exact Keeps.refl _ _ | with_reducible assumption
  (with_reducible apply keeps_applyTxnRetryPolicy); exact rfl
  repeat first | with_reducible exact Keeps.refl _ _ | with_reducible assumption
  (with_reducible apply keeps_applySchGroupSet); exact rfl
  repeat first | with_reducible exact Keeps.refl _ _ | with_reducible assumption
  (with_reducible apply keeps_applySchGroupMembers); exact rfl
  repeat first | with_reducible exact Keeps.refl _ _ | with_reducible assumption
  (with_reducible apply keeps_applySchEntrySet); exact rfl
  repeat first | with_reducible exact Keeps.refl _ _ | with_reducible assumption
  (with_reducible apply keeps_applySchEntryClear); exact rfl
  repeat first | with_reducible exact Keeps.refl _ _ | with_reducible assumption
  (with_reducible apply keeps_applySchSite); exact rfl
  repeat first | with_reducible exact Keeps.refl _ _ | with_reducible assumption
  (with_reducible apply keeps_applySchTzRule); exact rfl
  repeat first | with_reducible exact Keeps.refl _ _ | with_reducible assumption
  (with_reducible apply keeps_applySchFallback); exact rfl
  repeat first | with_reducible exact Keeps.refl _ _ | with_reducible assumption
  (with_reducible apply keeps_applyChdCorridorSet); exact rfl
  repeat first | with_reducible exact Keeps.refl _ _ | with_reducible assumption
  (with_reducible apply keeps_applyChdCorridorClear); exact rfl
  repeat first | with_reducible exact Keeps.refl _ _ | with_reducible assumption
  (with_reducible apply keeps_applyChdConfig); exact rfl
  repeat first | with_reducible exact Keeps.refl _ _ | with_reducible assumption
  (with_reducible apply keeps_applyMtrInputConfig); exact rfl
  repeat first | with_reducible exact Keeps.refl _ _ | with_reducible assumption
  (with_reducible apply keeps_applyMtrFeederConfig); exact rfl
  repeat first | with_reducible exact Keeps.refl _ _ | with_reducible assumption
  (with_reducible apply keeps_applyMtrPulseConfig); exact rfl
  repeat first | with_reducible exact Keeps.refl _ _ | with_reducible assumption
  (with_reducible apply keeps_applySgnStringConfig); exact rfl
  repeat first | with_reducible exact Keeps.refl _ _ | with_reducible assumption
  (with_reducible apply keeps_applySgnFunction); exact rfl
  repeat first | with_reducible exact Keeps.refl _ _ | with_reducible assumption
  (with_reducible apply keeps_applySgnDerate); exact rfl
  repeat first | with_reducible exact Keeps.refl _ _ | with_reducible assumption
  (with_reducible apply keeps_applyCanConfig); exact rfl
  repeat first | with_reducible exact Keeps.refl _ _ | with_reducible assumption
  (with_reducible apply keeps_applyCanBufferConfig); exact rfl
  repeat first | with_reducible exact Keeps.refl _ _ | with_reducible assumption
  (with_reducible apply keeps_applyLogSeverity); exact rfl
  repeat first | with_reducible exact Keeps.refl _ _ | with_reducible assumption
  (with_reducible apply keeps_applyMemScrub); exact rfl
  repeat first | with_reducible exact Keeps.refl _ _ | with_reducible assumption
  (with_reducible apply keeps_applyIoDinConfig); exact rfl
  repeat first | with_reducible exact Keeps.refl _ _ | with_reducible assumption
  (with_reducible apply keeps_applyIoDoutConfig); exact rfl
  repeat first | with_reducible exact Keeps.refl _ _ | with_reducible assumption

theorem keeps_runSet {media : Bool} {l : List Req} {k : Nat} {s sq : State} {mk : Nat} {s0 : State} (h : runSet media l k s = .ok sq)
    (he : mk &&& 0xF9FFFD400141 = mk) (hg : Keeps mk s0 s) : Keeps mk s0 sq := by
  refine Keeps.via ?_ he hg
  clear he hg
  induction l generalizing k s with
  | nil => unfold runSet at h; cases h; exact Keeps.refl _ _
  | cons r t ih =>
    unfold runSet at h
    split at h
    · cases h
    · split at h
      · cases h
      · exact (ih h).step (keeps_applyS _ _ rfl (Keeps.refl _ _))

theorem keeps_applySet (media : Bool) (p : Fin 4) (commit : Nat) (s : State) {mk : Nat} {s0 : State} (he : mk &&& 0xF9FFFD400141 = mk) (hg : Keeps mk s0 s) :
    Keeps mk s0 (applySet media p commit s) := by
  refine Keeps.via ?_ he hg
  unfold applySet
  try dsimp -zeta only
  ((try lift_lets); intro xL; subst xL; try dsimp -zeta only)
  split
  repeat first | with_reducible exact Keeps.refl _ _ | with_reducible assumption
  ((try lift_lets); intro xL; clear_value xL)
  split
  (with_reducible apply keeps_complete); exact rfl
  (with_reducible apply keeps_logNs); exact rfl
  (with_reducible apply keeps_onPort); exact rfl
  · exact fun h => h
  ((with_reducible apply keeps_runSet); (with_reducible assumption); exact rfl)
  repeat first | with_reducible exact Keeps.refl _ _ | with_reducible assumption
  (with_reducible apply keeps_complete); exact rfl
  (with_reducible apply keeps_logNs); exact rfl
  (with_reducible apply keeps_onPort); exact rfl
  · exact fun h => h
  repeat first | with_reducible exact Keeps.refl _ _ | with_reducible assumption

theorem keeps_liveFe (k : Nat) (c : Option FeCfg) (s : State) {mk : Nat} {s0 : State} (he : mk &&& 0xFFFFFFFFEFFF = mk) (hg : Keeps mk s0 s) :
    Keeps mk s0 (liveFe k c s) := by
  refine Keeps.via ?_ he hg
  unfold liveFe
  try dsimp -zeta only
  (with_reducible apply keeps_fixGain); exact rfl
  (with_reducible apply keeps_updFe); exact rfl
  repeat first | with_reducible exact Keeps.refl _ _ | with_reducible assumption

theorem keeps_livePlan (p : Option BandPlan) (s : State) {mk : Nat} {s0 : State} (he : mk &&& 0xFDFFFFEC01F1 = mk) (hg : Keeps mk s0 s) :
    Keeps mk s0 (livePlan p s) := by
  refine Keeps.via ?_ he hg
  unfold livePlan
  try dsimp -zeta only
  split
  repeat first | with_reducible exact Keeps.refl _ _ | with_reducible assumption
  (with_reducible apply keeps_enterAll); exact rfl
  (with_reducible apply keeps_purgeDisabled); exact rfl
  (with_reducible apply keeps_storePlan); exact rfl
  repeat first | with_reducible exact Keeps.refl _ _ | with_reducible assumption

theorem keeps_liveCe (c : Settings) (s : State) (n : Nat) {mk : Nat} {s0 : State} (he : mk &&& 0xFDFFFFEC01F1 = mk) (hg : Keeps mk s0 s) :
    Keeps mk s0 (liveCe c s n) := by
  refine Keeps.via ?_ he hg
  unfold liveCe
  try dsimp -zeta only
  ((try lift_lets); intro xL; clear_value xL)
  (intro sL; with_reducible refine Keeps.cut sL ?_ ?_; rotate_left; (intro kL; clear_value sL); rotate_right; subst sL; try dsimp -zeta only)
  (with_reducible apply keeps_applyCe); exact rfl
  repeat first | with_reducible exact Keeps.refl _ _ | with_reducible assumption
  (with_reducible apply keeps_restartMac); exact rfl
  (with_reducible apply keeps_updMd); exact rfl
  split
  repeat first | with_reducible exact Keeps.refl _ _ | with_reducible assumption
  (with_reducible apply keeps_updCe); exact rfl
  repeat first | with_reducible exact Keeps.refl _ _ | with_reducible assumption

theorem keeps_liveChord (c : Settings) (s : State) {mk : Nat} {s0 : State} (he : mk &&& 0xFFFFFFED75D3 = mk) (hg : Keeps mk s0 s) :
    Keeps mk s0 (liveChord c s) := by
  refine Keeps.via ?_ he hg
  unfold liveChord
  try dsimp -zeta only
  ((try lift_lets); intro xL; clear_value xL)
  (intro xL; clear_value xL)
  (intro sL; with_reducible refine Keeps.cut sL ?_ ?_; rotate_left; (intro kL; clear_value sL); rotate_right; subst sL; try dsimp -zeta only)
  (with_reducible apply Keeps.set_chd); exact rfl
  repeat first | with_reducible exact Keeps.refl _ _ | with_reducible assumption
  (with_reducible apply keeps_evalAuto); exact rfl
  ((with_reducible apply Keeps.fold); (intro _ _))
  split
  repeat first | with_reducible exact Keeps.refl _ _ | with_reducible assumption
  (with_reducible apply keeps_retire); exact rfl
  repeat first | with_reducible exact Keeps.refl _ _ | with_reducible assumption

theorem keeps_liveMeter (c : Settings) (s : State) {mk : Nat} {s0 : State} (he : mk &&& 0xFFFFFDFBF9DF = mk) (hg : Keeps mk s0 s) :
    Keeps mk s0 (liveMeter c s) := by
  refine Keeps.via ?_ he hg
  unfold liveMeter
  try dsimp -zeta only
  ((try lift_lets); intro sL; with_reducible refine Keeps.cut sL ?_ ?_; rotate_left; (intro kL; clear_value sL); rotate_right; subst sL; try dsimp -zeta only)
  ((with_reducible apply Keeps.fold); (intro _ _))
  (with_reducible apply keeps_abandonCal); exact rfl
  repeat first | with_reducible exact Keeps.refl _ _ | with_reducible assumption
  ((with_reducible apply Keeps.fold); (intro _ _))
  split
  (with_reducible apply keeps_onFeeder); exact rfl
  repeat first | with_reducible exact Keeps.refl _ _ | with_reducible assumption
  split
  (with_reducible apply keeps_openInterval); exact rfl
  repeat first | with_reducible exact Keeps.refl _ _ | with_reducible assumption
  (with_reducible apply Keeps.set_mtr); exact rfl
  repeat first | with_reducible exact Keeps.refl _ _ | with_reducible assumption

theorem keeps_liveSign (c : Settings) (s : State) {mk : Nat} {s0 : State} (he : mk &&& 0xFFFFFFF7FFFF = mk) (hg : Keeps mk s0 s) :
    Keeps mk s0 (liveSign c s) := by
  refine Keeps.via ?_ he hg
  unfold liveSign
  try dsimp -zeta only
  ((try lift_lets); intro xL; clear_value xL)
  (intro xL; clear_value xL)
  (with_reducible apply keeps_recompute); exact rfl
  (with_reducible apply Keeps.set_sgn); exact rfl
  repeat first | with_reducible exact Keeps.refl _ _ | with_reducible assumption

theorem keeps_liveCan (p : Nat) (c : Settings) (s : State) {mk : Nat} {s0 : State} (he : mk &&& 0xFFFFFFDFF9FF = mk) (hg : Keeps mk s0 s) :
    Keeps mk s0 (liveCan p c s) := by
  refine Keeps.via ?_ he hg
  unfold liveCan
  try dsimp -zeta only
  ((try lift_lets); intro xL; clear_value xL)
  (intro sL; with_reducible refine Keeps.cut sL ?_ ?_; rotate_left; (intro kL; clear_value sL); rotate_right; subst sL; try dsimp -zeta only)
  (with_reducible apply keeps_endAllFrames); exact rfl
  repeat first | with_reducible exact Keeps.refl _ _ | with_reducible assumption
  (with_reducible apply keeps_onCan); exact rfl
  repeat first | with_reducible exact Keeps.refl _ _ | with_reducible assumption

theorem keeps_liveIo (c : Settings) (s : State) {mk : Nat} {s0 : State} (he : mk &&& 0xFFFFFFEFFFFF = mk) (hg : Keeps mk s0 s) :
    Keeps mk s0 (liveIo c s) := by
  refine Keeps.via ?_ he hg
  unfold liveIo
  try dsimp -zeta only
  ((try lift_lets); intro xL; clear_value xL)
  (with_reducible apply Keeps.set_io); exact rfl
  repeat first | with_reducible exact Keeps.refl _ _ | with_reducible assumption

theorem keeps_liveSet (id : Nat) (c : Settings) (s : State) {mk : Nat} {s0 : State} (he : mk &&& 0xF9FFFD4001C1 = mk) (hg : Keeps mk s0 s) :
    Keeps mk s0 (liveSet id c s) := by
  refine Keeps.via ?_ he hg
  unfold liveSet
  try dsimp -zeta only
  ((try lift_lets); intro xL; clear_value xL)
  (intro xL; subst xL)
  (intro xL; clear_value xL)
  (intro xL; clear_value xL)
  (intro xL; subst xL)
  (intro xL; clear_value xL)
  (intro xL; clear_value xL)
  (intro xL; clear_value xL)
  (intro xL; clear_value xL)
  split
  (with_reducible apply keeps_applyTtCfg); exact rfl
  (with_reducible apply keeps_tlCancel); exact rfl
  repeat first | with_reducible exact Keeps.refl _ _ | with_reducible assumption
  (with_reducible apply keeps_liveFe); exact rfl
  (with_reducible apply keeps_livePlan); exact rfl
  repeat first | with_reducible exact Keeps.refl _ _ | with_reducible assumption
  (with_reducible apply keeps_liveFe); exact rfl
  repeat first | with_reducible exact Keeps.refl _ _ | with_reducible assumption
  ((with_reducible apply Keeps.fold); (intro _ _))
  (with_reducible apply keeps_liveCe); exact rfl
  repeat first | with_reducible exact Keeps.refl _ _ | with_reducible assumption
  (with_reducible apply Keeps.set_txn); exact rfl
  repeat first | with_reducible exact Keeps.refl _ _ | with_reducible assumption
  (with_reducible apply keeps_evalAuto); exact rfl
  (with_reducible apply Keeps.set_sch); exact rfl
  repeat first | with_reducible exact Keeps.refl _ _ | with_reducible assumption
  (with_reducible apply keeps_liveChord); exact rfl
  repeat first | with_reducible exact Keeps.refl _ _ | with_reducible assumption
  (with_reducible apply keeps_liveMeter); exact rfl
  repeat first | with_reducible exact Keeps.refl _ _ | with_reducible assumption
  (with_reducible apply keeps_liveSign); exact rfl
  repeat first | with_reducible exact Keeps.refl _ _ | with_reducible assumption
  (with_reducible apply keeps_liveCan); exact rfl
  repeat first | with_reducible exact Keeps.refl _ _ | with_reducible assumption
  (with_reducible apply keeps_liveCan); exact rfl
  repeat first | with_reducible exact Keeps.refl _ _ | with_reducible assumption
  (with_reducible apply keeps_liveIo); exact rfl
  repeat first | with_reducible exact Keeps.refl _ _ | with_reducible assumption
  (with_reducible apply Keeps.set_log); exact rfl
  repeat first | with_reducible exact Keeps.refl _ _ | with_reducible assumption
  (with_reducible apply Keeps.set_mem); exact rfl
  repeat first | with_reducible exact Keeps.refl _ _ | with_reducible assumption
  (with_reducible apply keeps_followThreshold); exact rfl
  (with_reducible apply Keeps.upd)
  · exact fun h => Bool.noConfusion h
  · exact fun h => Bool.noConfusion h
  · exact fun h => Bool.noConfusion h
  · exact fun h => Bool.noConfusion h
  · exact fun h => Bool.noConfusion h
  · exact fun _ => rfl
  · exact fun _ => rfl
  · exact fun _ => rfl
  · exact fun h => Bool.noConfusion h
  · exact fun h => Bool.noConfusion h
  · exact fun h => Bool.noConfusion h
  · exact fun h => Bool.noConfusion h
  · exact fun h => Bool.noConfusion h
  · exact fun h => Bool.noConfusion h
  · exact fun h => Bool.noConfusion h
  · exact fun h => Bool.noConfusion h
  · exact fun h => Bool.noConfusion h
  · exact fun h => Bool.noConfusion h
  · exact fun h => Bool.noConfusion h
  · exact fun h => Bool.noConfusion h
  · exact fun h => Bool.noConfusion h
  · exact fun _ => rfl
  · exact fun h => Bool.noConfusion h
  · exact fun _ => rfl
  · exact fun h => Bool.noConfusion h
  · exact fun _ => rfl
  · exact fun _ => rfl
  · exact fun _ => rfl
  · exact fun _ => rfl
  · exact fun _ => rfl
  · exact fun _ => rfl
  · exact fun _ => rfl
  · exact fun _ => rfl
  · exact fun _ => rfl
  · exact fun _ => rfl
  · exact fun _ => rfl
  · exact fun _ => rfl
  · exact fun _ => rfl
  · exact fun _ => rfl
  · exact fun _ => rfl
  · exact fun h => Bool.noConfusion h
  · exact fun h => Bool.noConfusion h
  · exact fun _ => rfl
  · exact fun _ => rfl
  · exact fun _ _ h => h
  · exact fun _ h => ⟨h, rfl⟩
  · exact fun _ h => h
  repeat first | with_reducible exact Keeps.refl _ _ | with_reducible assumption

theorem keeps_resetSet (id : Nat) (s : State) {mk : Nat} {s0 : State} (he : mk &&& 0xF9FFFD4001C1 = mk) (hg : Keeps mk s0 s) :
    Keeps mk s0 (resetSet id s) := by
  refine Keeps.via ?_ he hg
  unfold resetSet
  try dsimp -zeta only
  ((try lift_lets); intro xL; clear_value xL)
  (with_reducible apply keeps_logEv); exact rfl
  (with_reducible apply keeps_markSet); exact rfl
  (with_reducible apply keeps_liveSet); exact rfl
  repeat first | with_reducible exact Keeps.refl _ _ | with_reducible assumption

theorem keeps_execConfigEntryApply (s : State) (t : State) (h : execConfigEntryApply s = .next t) : Keeps 0xF9FFFD400141 s t := by
  unfold execConfigEntryApply at h
  injection h with h
  subst h
  refine keeps_tlFire _ _ ?_ rfl (Keeps.refl _ _)
  intro k e g hf s
  try dsimp only at hf
  split at hf <;> first | injection hf with hf; subst hf | cases hf
  · exact keeps_applyS _ _ rfl (Keeps.refl _ _)
  · exact keeps_resetSet _ _ rfl (Keeps.refl _ _)

theorem keeps_execSysSettingsReset (s : State) (t : State) (h : execSysSettingsReset s = .next t) : Keeps 0xF7FFFFFFF1DF s t := by
  unfold execSysSettingsReset at h
  injection h with h
  subst h
  try dsimp -zeta only
  ((with_reducible apply keeps_serve); (intro _ _))
  (with_reducible apply keeps_actSysSettingsReset); exact rfl
  repeat first | with_reducible exact Keeps.refl _ _ | with_reducible assumption
  exact (rfl : (_ : Nat) &&& _ = _)
  repeat first | with_reducible exact Keeps.refl _ _ | with_reducible assumption

theorem keeps_execCfgSetApply (media : Bool) (s : State) (t : State) (h : execCfgSetApply media s = .next t) : Keeps 0xF9FFFD400141 s t := by
  unfold execCfgSetApply at h
  injection h with h
  subst h
  refine keeps_tlFire _ _ ?_ rfl (Keeps.refl _ _)
  intro k e g hf s
  try dsimp only at hf
  split at hf <;> first | injection hf with hf; subst hf | cases hf
  exact keeps_applySet _ _ _ _ rfl (Keeps.refl _ _)

end Sys2Proof.Laws
end

