-- ==== Sys2Proof/Laws/Frames/Reset.lean ====
section
/-!
SUPPORT. Frames of the operations of Machine/Reset.lean.
-/
set_option Elab.async false
namespace Sys2Proof.Laws
open Sys2Proof Sys2Proof.Machine

theorem keeps_applyStored (s : State) {mk : Nat} {s0 : State} (he : mk &&& 0xF9FFFD400141 = mk) (hg : Keeps mk s0 s) :
    Keeps mk s0 (applyStored s) := by
  refine Keeps.via ?_ he hg
  unfold applyStored
  try dsimp -zeta only
  ((try lift_lets); intro xL; clear_value xL)
  split
  repeat first | with_reducible exact Keeps.refl _ _ | with_reducible assumption
  ((with_reducible apply Keeps.fold); (intro _ _))
  split
  repeat first | with_reducible exact Keeps.refl _ _ | with_reducible assumption
  split
  (with_reducible apply keeps_applyS); exact rfl
  (with_reducible apply keeps_tlRemove); exact rfl
  repeat first | with_reducible exact Keeps.refl _ _ | with_reducible assumption
  (with_reducible apply keeps_resetSet); exact rfl
  (with_reducible apply keeps_tlRemove); exact rfl
  repeat first | with_reducible exact Keeps.refl _ _ | with_reducible assumption

theorem keeps_clearUnits (cold : Bool) (s : State) {mk : Nat} {s0 : State} (he : mk &&& 0xE7E6FC000805 = mk) (hg : Keeps mk s0 s) :
    Keeps mk s0 (clearUnits cold s) := by
  refine Keeps.via ?_ he hg
  unfold clearUnits
  try dsimp -zeta only
  ((try lift_lets); intro xL; clear_value xL)
  (intro xL; subst xL)
  (intro xL; clear_value xL)
  (intro xL; subst xL)
  (intro xL; clear_value xL)
  (intro xL; clear_value xL)
  (intro xL; clear_value xL)
  (intro xL; subst xL)
  (intro xL; clear_value xL)
  (intro xL; subst xL)
  (intro xL; clear_value xL)
  (with_reducible apply Keeps.upd)
  · exact fun h => Bool.noConfusion h
  · exact fun _ => rfl
  · exact fun h => Bool.noConfusion h
  · exact fun h => Bool.noConfusion h
  · exact fun h => Bool.noConfusion h
  · exact fun h => Bool.noConfusion h
  · exact fun h => Bool.noConfusion h
  · exact fun h => Bool.noConfusion h
  · exact fun h => Bool.noConfusion h
  · exact fun h => Bool.noConfusion h
  · exact fun _ => rfl
  · exact fun h => Bool.noConfusion h
  · exact fun h => Bool.noConfusion h
  · exact fun h => Bool.noConfusion h
  · exact fun h => Bool.noConfusion h
  · exact fun h => Bool.noConfusion h
  · exact fun h => Bool.noConfusion h
  · exact fun h => Bool.noConfusion h
  · exact fun h => Bool.noConfusion h
  · exact fun h => Bool.noConfusion h
  · exact fun h => Bool.noConfusion h
  · exact fun h => Bool.noConfusion h
  · exact fun h => Bool.noConfusion h
  · exact fun h => Bool.noConfusion h
  · exact fun h => Bool.noConfusion h
  · exact fun _ => rfl
  · exact fun _ => rfl
  · exact fun _ => rfl
  · exact fun _ => rfl
  · exact fun _ => rfl
  · exact fun _ => rfl
  · exact fun h => Bool.noConfusion h
  · exact fun _ => rfl
  · exact fun _ => rfl
  · exact fun h => Bool.noConfusion h
  · exact fun h => Bool.noConfusion h
  · exact fun _ => rfl
  · exact fun _ => rfl
  · exact fun _ => rfl
  · exact fun _ => rfl
  · exact fun _ => rfl
  · exact fun _ => rfl
  · exact fun h => Bool.noConfusion h
  · exact fun h => Bool.noConfusion h
  · exact fun _ p _ => fits_all p
  · exact fun _ h => Bool.noConfusion h
  · exact fun _ _ => (by decide : 0 < 65536 * 40000000)
  repeat first | with_reducible exact Keeps.refl _ _ | with_reducible assumption

theorem keeps_endWithdrawals (s : State) {mk : Nat} {s0 : State} (he : mk &&& 0xFFFFFFFFF7FF = mk) (hg : Keeps mk s0 s) :
    Keeps mk s0 (endWithdrawals s) := by
  refine Keeps.via ?_ he hg
  unfold endWithdrawals
  try dsimp -zeta only
  ((with_reducible apply Keeps.fold); (intro _ _))
  split
  (with_reducible apply keeps_logEv); exact rfl
  repeat first | with_reducible exact Keeps.refl _ _ | with_reducible assumption

theorem keeps_dropAllSets (s : State) {mk : Nat} {s0 : State} (he : mk &&& 0xFFFFFFFFF1DF = mk) (hg : Keeps mk s0 s) :
    Keeps mk s0 (dropAllSets s) := by
  refine Keeps.via ?_ he hg
  unfold dropAllSets
  try dsimp -zeta only
  ((with_reducible apply Keeps.fold); (intro _ _))
  (with_reducible apply keeps_dropSets); exact rfl
  repeat first | with_reducible exact Keeps.refl _ _ | with_reducible assumption

theorem keeps_closeUnits (s : State) {mk : Nat} {s0 : State} (he : mk &&& 0xFFFFFFFFF1DF = mk) (hg : Keeps mk s0 s) :
    Keeps mk s0 (closeUnits s) := by
  refine Keeps.via ?_ he hg
  unfold closeUnits
  try dsimp -zeta only
  ((try lift_lets); intro sL; with_reducible refine Keeps.cut sL ?_ ?_; rotate_left; (intro kL; clear_value sL); rotate_right; subst sL; try dsimp -zeta only)
  (with_reducible apply keeps_endWithdrawals); exact rfl
  (with_reducible apply keeps_dropAllSets); exact rfl
  repeat first | with_reducible exact Keeps.refl _ _ | with_reducible assumption
  split
  split
  (with_reducible apply keeps_logEv); exact rfl
  repeat first | with_reducible exact Keeps.refl _ _ | with_reducible assumption
  split
  (with_reducible apply keeps_logEv); exact rfl
  repeat first | with_reducible exact Keeps.refl _ _ | with_reducible assumption

theorem keeps_haltUnits (cold : Bool) (s : State) {mk : Nat} {s0 : State} (he : mk &&& 0xE1E6FC000001 = mk) (hg : Keeps mk s0 s) :
    Keeps mk s0 (haltUnits cold s) := by
  refine Keeps.via ?_ he hg
  unfold haltUnits
  try dsimp -zeta only
  ((try lift_lets); intro sL; with_reducible refine Keeps.cut sL ?_ ?_; rotate_left; (intro kL; clear_value sL); rotate_right; subst sL; try dsimp -zeta only)
  (with_reducible apply keeps_applyStored); exact rfl
  repeat first | with_reducible exact Keeps.refl _ _ | with_reducible assumption
  (with_reducible apply keeps_clearUnits); exact rfl
  (with_reducible apply keeps_closeUnits); exact rfl
  (with_reducible apply Keeps.set_log); exact rfl
  repeat first | with_reducible exact Keeps.refl _ _ | with_reducible assumption

theorem keeps_flushIncomplete (step : Nat) (lost : Nat) (s : State) {mk : Nat} {s0 : State} (he : mk &&& 0xFFFFFFFFF7F9 = mk) (hg : Keeps mk s0 s) :
    Keeps mk s0 (flushIncomplete step lost s) := by
  refine Keeps.via ?_ he hg
  unfold flushIncomplete
  try dsimp -zeta only
  ((try lift_lets); intro sL; with_reducible refine Keeps.cut sL ?_ ?_; rotate_left; (intro kL; clear_value sL); rotate_right; subst sL; try dsimp -zeta only)
  (with_reducible apply keeps_logNs); exact rfl
  (with_reducible apply keeps_freshNat); exact rfl
  repeat first | with_reducible exact Keeps.refl _ _ | with_reducible assumption
  (with_reducible apply Keeps.in_pwr); exact rfl
  · exact fun _ => rfl
  · exact fun _ => rfl
  · exact fun _ => rfl
  · exact fun _ => rfl
  repeat first | with_reducible exact Keeps.refl _ _ | with_reducible assumption

theorem keeps_enterReset (cold : Bool) (cause : Nat) (next : BootStep) (keepPu : Bool) (s : State) {mk : Nat} {s0 : State} (he : mk &&& 0xE126FC000001 = mk) (hg : Keeps mk s0 s) :
    Keeps mk s0 (enterReset cold cause next keepPu s) := by
  refine Keeps.via ?_ he hg
  unfold enterReset
  try dsimp -zeta only
  ((try lift_lets); intro xL; clear_value xL)
  (intro sL; with_reducible refine Keeps.cut sL ?_ ?_; rotate_left; (intro kL; clear_value sL); rotate_right; subst sL; try dsimp -zeta only)
  (with_reducible apply keeps_haltUnits); exact rfl
  repeat first | with_reducible exact Keeps.refl _ _ | with_reducible assumption
  split
  (with_reducible apply keeps_flushIncomplete); exact rfl
  (with_reducible apply keeps_reportMode); exact rfl
  split
  (with_reducible apply Keeps.in_pwr); exact rfl
  · exact fun _ => rfl
  · exact fun h => Bool.noConfusion h
  · exact fun h => Bool.noConfusion h
  · exact fun _ => rfl
  repeat first | with_reducible exact Keeps.refl _ _ | with_reducible assumption
  (with_reducible apply Keeps.in_pwr); exact rfl
  · exact fun _ => rfl
  · exact fun h => Bool.noConfusion h
  · exact fun h => Bool.noConfusion h
  · exact fun _ => rfl
  repeat first | with_reducible exact Keeps.refl _ _ | with_reducible assumption
  (with_reducible apply keeps_reportMode); exact rfl
  split
  (with_reducible apply Keeps.in_pwr); exact rfl
  · exact fun _ => rfl
  · exact fun h => Bool.noConfusion h
  · exact fun h => Bool.noConfusion h
  · exact fun _ => rfl
  repeat first | with_reducible exact Keeps.refl _ _ | with_reducible assumption
  (with_reducible apply Keeps.in_pwr); exact rfl
  · exact fun _ => rfl
  · exact fun h => Bool.noConfusion h
  · exact fun h => Bool.noConfusion h
  · exact fun _ => rfl
  repeat first | with_reducible exact Keeps.refl _ _ | with_reducible assumption

theorem keeps_internalReset (cold : Bool) (cause : Nat) (s : State) {mk : Nat} {s0 : State} (he : mk &&& 0xE126FC000001 = mk) (hg : Keeps mk s0 s) :
    Keeps mk s0 (internalReset cold cause s) := by
  refine Keeps.via ?_ he hg
  unfold internalReset
  try dsimp -zeta only
  split
  (with_reducible apply keeps_logNs); exact rfl
  (with_reducible apply keeps_enterReset); exact rfl
  repeat first | with_reducible exact Keeps.refl _ _ | with_reducible assumption

end Sys2Proof.Laws
end

