-- ==== Sys2Proof/Laws/Frames/Memory.lean ====
section
/-!
SUPPORT. Frames of the operations of Machine/Memory.lean.
-/
set_option Elab.async false
namespace Sys2Proof.Laws
open Sys2Proof Sys2Proof.Machine

theorem keeps_onMem (m : Nat) (f : MemState → MemState) (s : State) {mk : Nat} {s0 : State} (he : mk &&& 0xFFFFFF7FFFFF = mk) (hg : Keeps mk s0 s) :
    Keeps mk s0 (onMem m f s) := by
  refine Keeps.via ?_ he hg
  unfold onMem
  try dsimp -zeta only
  ((try lift_lets); intro xL; clear_value xL)
  (with_reducible apply Keeps.set_mem); exact rfl
  repeat first | with_reducible exact Keeps.refl _ _ | with_reducible assumption

theorem keeps_endFlip (res : Nat) (a : FlipArm) (s : State) {mk : Nat} {s0 : State} (he : mk &&& 0xFFFFFF7FF7FF = mk) (hg : Keeps mk s0 s) :
    Keeps mk s0 (endFlip res a s) := by
  refine Keeps.via ?_ he hg
  unfold endFlip
  try dsimp -zeta only
  ((try lift_lets); intro xL; clear_value xL)
  (with_reducible apply keeps_logNs); exact rfl
  (with_reducible apply Keeps.set_mem); exact rfl
  repeat first | with_reducible exact Keeps.refl _ _ | with_reducible assumption

theorem keeps_raiseCeiling (ep : Nat) (s : State) {mk : Nat} {s0 : State} (he : mk &&& 0xFFFFFFFFBFFF = mk) (hg : Keeps mk s0 s) :
    Keeps mk s0 (raiseCeiling ep s) := by
  refine Keeps.via ?_ he hg
  unfold raiseCeiling
  try dsimp -zeta only
  ((try lift_lets); intro xL; subst xL)
  (intro xL; clear_value xL)
  (with_reducible apply Keeps.in_lat); exact rfl
  · exact fun _ => rfl
  repeat first | with_reducible exact Keeps.refl _ _ | with_reducible assumption

theorem keeps_loseRec (ep : Nat) (s : State) {mk : Nat} {s0 : State} (he : mk &&& 0xFDFFFFEC01F1 = mk) (hg : Keeps mk s0 s) :
    Keeps mk s0 (loseRec ep s) := by
  refine Keeps.via ?_ he hg
  unfold loseRec
  try dsimp -zeta only
  ((try lift_lets); intro xL; clear_value xL)
  (with_reducible apply keeps_dropEp); exact rfl
  ((with_reducible apply Keeps.fold); (intro _ _))
  split
  (with_reducible apply keeps_finishTxn); exact rfl
  repeat first | with_reducible exact Keeps.refl _ _ | with_reducible assumption

theorem keeps_losePage (page : Nat) (eps : List Nat) (s : State) {mk : Nat} {s0 : State} (he : mk &&& 0xFDFFFFEC01F1 = mk) (hg : Keeps mk s0 s) :
    Keeps mk s0 (losePage page eps s) := by
  refine Keeps.via ?_ he hg
  unfold losePage
  try dsimp -zeta only
  (with_reducible apply keeps_evalAuto); exact rfl
  (with_reducible apply keeps_logNs); exact rfl
  ((with_reducible apply Keeps.fold); (intro _ _))
  (with_reducible apply keeps_loseRec); exact rfl
  repeat first | with_reducible exact Keeps.refl _ _ | with_reducible assumption

theorem keeps_memFault (mem : Nat) (kind : Nat) (region : Nat) (addr : Nat) (s : State) {mk : Nat} {s0 : State} (he : mk &&& 0xFFFFFFCFF5FF = mk) (hg : Keeps mk s0 s) :
    Keeps mk s0 (memFault mem kind region addr s) := by
  refine Keeps.via ?_ he hg
  unfold memFault
  try dsimp -zeta only
  (with_reducible apply keeps_ntfOrHold); exact rfl
  repeat first | with_reducible exact Keeps.refl _ _ | with_reducible assumption

theorem keeps_noteDue (mem : Nat) (region : Nat) (addr : Nat) (s : State) {mk : Nat} {s0 : State} (he : mk &&& 0xFFFFFF4FF5FF = mk) (hg : Keeps mk s0 s) :
    Keeps mk s0 (noteDue mem region addr s) := by
  refine Keeps.via ?_ he hg
  unfold noteDue
  try dsimp -zeta only
  split
  repeat first | with_reducible exact Keeps.refl _ _ | with_reducible assumption
  split
  (with_reducible apply keeps_memFault); exact rfl
  (with_reducible apply keeps_logNs); exact rfl
  (with_reducible apply keeps_onMem); exact rfl
  repeat first | with_reducible exact Keeps.refl _ _ | with_reducible assumption

theorem keeps_noteCe (mem : Nat) (region : Nat) (addr : Nat) (bit : Nat) (s : State) {mk : Nat} {s0 : State} (he : mk &&& 0xFFFFFF4FF5FF = mk) (hg : Keeps mk s0 s) :
    Keeps mk s0 (noteCe mem region addr bit s) := by
  refine Keeps.via ?_ he hg
  unfold noteCe
  try dsimp -zeta only
  ((try lift_lets); intro sL; with_reducible refine Keeps.cut sL ?_ ?_; rotate_left; (intro kL; clear_value sL); rotate_right; subst sL; try dsimp -zeta only)
  (with_reducible apply keeps_onMem); exact rfl
  repeat first | with_reducible exact Keeps.refl _ _ | with_reducible assumption
  (with_reducible apply keeps_noteDue); exact rfl
  (with_reducible apply keeps_logLimK); exact rfl
  repeat first | with_reducible exact Keeps.refl _ _ | with_reducible assumption

theorem keeps_noteUe (mem : Nat) (region : Nat) (addr : Nat) (s : State) {mk : Nat} {s0 : State} (he : mk &&& 0xFFFFFF4FF5FF = mk) (hg : Keeps mk s0 s) :
    Keeps mk s0 (noteUe mem region addr s) := by
  refine Keeps.via ?_ he hg
  unfold noteUe
  try dsimp -zeta only
  (with_reducible apply keeps_noteDue); exact rfl
  (with_reducible apply keeps_onMem); exact rfl
  repeat first | with_reducible exact Keeps.refl _ _ | with_reducible assumption

theorem keeps_readFlip (mem : Nat) (m : MemRead) (a : FlipArm) (s : State) {mk : Nat} {s0 : State} (he : mk &&& 0xFFFFFF4FF5FD = mk) (hg : Keeps mk s0 s) :
    Keeps mk s0 (readFlip mem m a s) := by
  refine Keeps.via ?_ he hg
  unfold readFlip
  try dsimp -zeta only
  ((try lift_lets); intro xL; clear_value xL)
  (intro sL; with_reducible refine Keeps.cut sL ?_ ?_; rotate_left; (intro kL; clear_value sL); rotate_right; subst sL; try dsimp -zeta only)
  split
  repeat first | with_reducible exact Keeps.refl _ _ | with_reducible assumption
  (with_reducible apply Keeps.set_mem); exact rfl
  repeat first | with_reducible exact Keeps.refl _ _ | with_reducible assumption
  (with_reducible apply Keeps.set_mem); exact rfl
  repeat first | with_reducible exact Keeps.refl _ _ | with_reducible assumption
  split
  (with_reducible apply keeps_endFlip); exact rfl
  (with_reducible apply keeps_noteCe); exact rfl
  repeat first | with_reducible exact Keeps.refl _ _ | with_reducible assumption
  (with_reducible apply keeps_endFlip); exact rfl
  (with_reducible apply keeps_noteUe); exact rfl
  repeat first | with_reducible exact Keeps.refl _ _ | with_reducible assumption
  split
  (with_reducible apply keeps_endFlip); exact rfl
  repeat first | with_reducible exact Keeps.refl _ _ | with_reducible assumption
  (with_reducible apply keeps_logNs); exact rfl
  (with_reducible apply keeps_endFlip); exact rfl
  (with_reducible apply keeps_freshNat); exact rfl
  (with_reducible apply keeps_freshNat); exact rfl
  repeat first | with_reducible exact Keeps.refl _ _ | with_reducible assumption

theorem keeps_retirePage (cause : Nat) (region : Nat) (addr : Nat) (f0 : Nat) (f1 : Nat) (s : State) {mk : Nat} {s0 : State} (he : mk &&& 0xFFFFFF4FF5FD = mk) (hg : Keeps mk s0 s) :
    Keeps mk s0 (retirePage cause region addr f0 f1 s).1 := by
  refine Keeps.via ?_ he hg
  unfold retirePage
  try dsimp -zeta only
  ((try lift_lets); intro xL; clear_value xL)
  (intro xL; clear_value xL)
  (intro xL; clear_value xL)
  (intro sL; with_reducible refine Keeps.cut sL ?_ ?_; rotate_left; (intro kL; clear_value sL); rotate_right; subst sL; try dsimp -zeta only)
  (with_reducible apply Keeps.set_mem); exact rfl
  (with_reducible apply keeps_norWrite); exact rfl
  repeat first | with_reducible exact Keeps.refl _ _ | with_reducible assumption
  split
  repeat first | with_reducible exact Keeps.refl _ _ | with_reducible assumption
  split
  split
  repeat first | with_reducible exact Keeps.refl _ _ | with_reducible assumption
  (with_reducible apply keeps_memFault); exact rfl
  (with_reducible apply keeps_logEv); exact rfl
  (with_reducible apply Keeps.set_mem); exact rfl
  repeat first | with_reducible exact Keeps.refl _ _ | with_reducible assumption
  (with_reducible apply keeps_memFault); exact rfl
  (with_reducible apply keeps_logNs); exact rfl
  repeat first | with_reducible exact Keeps.refl _ _ | with_reducible assumption

theorem keeps_retirePage_eq {cause : Nat} {region : Nat} {addr : Nat} {f0 : Nat} {f1 : Nat} {s : State} {mk : Nat} {s0 sq : State} {w} (hq : retirePage cause region addr f0 f1 s = (sq, w)) (he : mk &&& 0xFFFFFF4FF5FD = mk) (hg : Keeps mk s0 s) :
    Keeps mk s0 sq := by
  have := keeps_retirePage (mk := mk) (s0 := s0) cause region addr f0 f1 s he hg
  rw [hq] at this
  exact this

theorem keeps_handleCe (mem : Nat) (region : Nat) (addr : Nat) (bit : Nat) (f0 : Nat) (f1 : Nat) (s : State) {mk : Nat} {s0 : State} (he : mk &&& 0xFFFFFF4FF5FD = mk) (hg : Keeps mk s0 s) :
    Keeps mk s0 (handleCe mem region addr bit f0 f1 s) := by
  refine Keeps.via ?_ he hg
  unfold handleCe
  try dsimp -zeta only
  ((try lift_lets); intro sL; with_reducible refine Keeps.cut sL ?_ ?_; rotate_left; (intro kL; clear_value sL); rotate_right; subst sL; try dsimp -zeta only)
  (with_reducible apply keeps_noteCe); exact rfl
  repeat first | with_reducible exact Keeps.refl _ _ | with_reducible assumption
  split
  split
  (with_reducible apply keeps_retirePage); exact rfl
  repeat first | with_reducible exact Keeps.refl _ _ | with_reducible assumption

theorem keeps_loseBackup (s : State) {mk : Nat} {s0 : State} (he : mk &&& 0xFFFFFFFFFF7F = mk) (hg : Keeps mk s0 s) :
    Keeps mk s0 (loseBackup s) := by
  refine Keeps.via ?_ he hg
  unfold loseBackup
  try dsimp -zeta only
  ((try lift_lets); intro xL; clear_value xL)
  (with_reducible apply Keeps.set_rtc); exact rfl
  repeat first | with_reducible exact Keeps.refl _ _ | with_reducible assumption

theorem keeps_ueQueue (n : Nat) (sub : Nat) (idx : Nat) (s : State) {mk : Nat} {s0 : State} (he : mk &&& 0xFDFFFFEC01F1 = mk) (hg : Keeps mk s0 s) :
    Keeps mk s0 (ueQueue n sub idx s) := by
  refine Keeps.via ?_ he hg
  unfold ueQueue
  try dsimp -zeta only
  split
  (with_reducible apply keeps_updCe); exact rfl
  repeat first | with_reducible exact Keeps.refl _ _ | with_reducible assumption
  split
  split
  repeat first | with_reducible exact Keeps.refl _ _ | with_reducible assumption
  ((try lift_lets); intro sL; with_reducible refine Keeps.cut sL ?_ ?_; rotate_left; (intro kL; clear_value sL); rotate_right; subst sL; try dsimp -zeta only)
  (with_reducible apply keeps_takeIndirect); exact rfl
  repeat first | with_reducible exact Keeps.refl _ _ | with_reducible assumption
  split
  (with_reducible apply keeps_failTxn); exact rfl
  repeat first | with_reducible exact Keeps.refl _ _ | with_reducible assumption
  (with_reducible apply keeps_updMd); exact rfl
  (with_reducible apply keeps_freshNat); exact rfl
  repeat first | with_reducible exact Keeps.refl _ _ | with_reducible assumption

theorem keeps_reloadRec (ep : Nat) (s : State) {mk : Nat} {s0 : State} (he : mk &&& 0xFDFFFFFFBFFF = mk) (hg : Keeps mk s0 s) :
    Keeps mk s0 (reloadRec ep s) := by
  refine Keeps.via ?_ he hg
  unfold reloadRec updEp
  try dsimp -zeta only
  ((try lift_lets); intro xL; subst xL)
  split
  repeat first | with_reducible exact Keeps.refl _ _ | with_reducible assumption
  (with_reducible apply keeps_raiseCeiling); exact rfl
  split
  repeat first | with_reducible exact Keeps.refl _ _ | with_reducible assumption
  (with_reducible apply Keeps.set_lat); exact rfl
  repeat first | with_reducible exact Keeps.refl _ _ | with_reducible assumption

theorem keeps_ueImage (slot : Nat) (s : State) {mk : Nat} {s0 : State} (he : mk &&& 0xFFFFFFFFB1FF = mk) (hg : Keeps mk s0 s) :
    Keeps mk s0 (ueImage slot s) := by
  refine Keeps.via ?_ he hg
  unfold ueImage
  try dsimp -zeta only
  ((try lift_lets); intro xL; subst xL)
  (intro sL; with_reducible refine Keeps.cut sL ?_ ?_; rotate_left; (intro kL; clear_value sL); rotate_right; subst sL; try dsimp -zeta only)
  (with_reducible apply Keeps.in_lat); exact rfl
  · exact fun _ => rfl
  repeat first | with_reducible exact Keeps.refl _ _ | with_reducible assumption
  ((with_reducible apply Keeps.fold); (intro _ _))
  (with_reducible apply keeps_complete); exact rfl
  (with_reducible apply keeps_logEv); exact rfl
  repeat first | with_reducible exact Keeps.refl _ _ | with_reducible assumption

theorem keeps_ueSched (s : State) {mk : Nat} {s0 : State} (he : mk &&& 0xFFFFFFFEFFFF = mk) (hg : Keeps mk s0 s) :
    Keeps mk s0 (ueSched s) := by
  refine Keeps.via ?_ he hg
  unfold ueSched
  try dsimp -zeta only
  ((try lift_lets); intro xL; subst xL)
  (with_reducible apply Keeps.in_sch); exact rfl
  · exact fun _ => rfl
  repeat first | with_reducible exact Keeps.refl _ _ | with_reducible assumption

theorem keeps_ueSignRam (sub : Nat) (s : State) {mk : Nat} {s0 : State} (he : mk &&& 0xFFFFFFF7FFFF = mk) (hg : Keeps mk s0 s) :
    Keeps mk s0 (ueSignRam sub s) := by
  refine Keeps.via ?_ he hg
  unfold ueSignRam
  try dsimp -zeta only
  ((try lift_lets); intro xL; clear_value xL)
  split
  (with_reducible apply Keeps.set_sgn); exact rfl
  repeat first | with_reducible exact Keeps.refl _ _ | with_reducible assumption
  split
  (with_reducible apply Keeps.set_sgn); exact rfl
  repeat first | with_reducible exact Keeps.refl _ _ | with_reducible assumption
  (with_reducible apply keeps_sgnWithdraw); exact rfl
  repeat first | with_reducible exact Keeps.refl _ _ | with_reducible assumption

theorem keeps_ueCan (p : Nat) (b : Nat) (sub : Nat) (s : State) {mk : Nat} {s0 : State} (he : mk &&& 0xFFFFFFDFF9FF = mk) (hg : Keeps mk s0 s) :
    Keeps mk s0 (ueCan p b sub s) := by
  refine Keeps.via ?_ he hg
  unfold ueCan
  try dsimp -zeta only
  split
  split
  (with_reducible apply keeps_onBuf); exact rfl
  repeat first | with_reducible exact Keeps.refl _ _ | with_reducible assumption
  (with_reducible apply keeps_endFrame); exact rfl
  repeat first | with_reducible exact Keeps.refl _ _ | with_reducible assumption

theorem keeps_ueStaged (idx : Nat) (s : State) {mk : Nat} {s0 : State} (he : mk &&& 0xFFFFFFFFF7FF = mk) (hg : Keeps mk s0 s) :
    Keeps mk s0 (ueStaged idx s) := by
  refine Keeps.via ?_ he hg
  unfold ueStaged
  try dsimp -zeta only
  ((try lift_lets); intro xL; clear_value xL)
  split
  repeat first | with_reducible exact Keeps.refl _ _ | with_reducible assumption
  split
  (with_reducible apply Keeps.set_log); exact rfl
  repeat first | with_reducible exact Keeps.refl _ _ | with_reducible assumption
  (with_reducible apply Keeps.set_log); exact rfl
  repeat first | with_reducible exact Keeps.refl _ _ | with_reducible assumption

theorem keeps_ueRegion (m : MemRead) (s : State) {mk : Nat} {s0 : State} (he : mk &&& 0xFDFFFEC001C1 = mk) (hg : Keeps mk s0 s) :
    Keeps mk s0 (ueRegion m s) := by
  refine Keeps.via ?_ he hg
  unfold ueRegion
  try dsimp -zeta only
  ((try lift_lets); intro xL; subst xL)
  (intro xL; clear_value xL)
  (intro xL; subst xL)
  (intro xL; clear_value xL)
  split
  split
  split
  (with_reducible apply keeps_logNs); exact rfl
  (with_reducible apply Keeps.in_upd); exact rfl
  · exact fun _ => rfl
  · exact fun _ => rfl
  (with_reducible apply keeps_freshNat); exact rfl
  repeat first | with_reducible exact Keeps.refl _ _ | with_reducible assumption
  split
  (with_reducible apply keeps_logNs); exact rfl
  (with_reducible apply Keeps.in_upd); exact rfl
  · exact fun _ => rfl
  · exact fun _ => rfl
  (with_reducible apply keeps_freshNat); exact rfl
  repeat first | with_reducible exact Keeps.refl _ _ | with_reducible assumption
  (with_reducible apply Keeps.in_tt); exact rfl
  · exact fun _ => rfl
  · exact fun _ => rfl
  · exact fun _ => rfl
  repeat first | with_reducible exact Keeps.refl _ _ | with_reducible assumption
  (with_reducible apply keeps_ueQueue); exact rfl
  repeat first | with_reducible exact Keeps.refl _ _ | with_reducible assumption
  (with_reducible apply keeps_ueQueue); exact rfl
  repeat first | with_reducible exact Keeps.refl _ _ | with_reducible assumption
  split
  (with_reducible apply keeps_reloadRec); exact rfl
  repeat first | with_reducible exact Keeps.refl _ _ | with_reducible assumption
  (with_reducible apply keeps_losePage); exact rfl
  (with_reducible apply keeps_freshNat); exact rfl
  repeat first | with_reducible exact Keeps.refl _ _ | with_reducible assumption
  (with_reducible apply keeps_ueImage); exact rfl
  repeat first | with_reducible exact Keeps.refl _ _ | with_reducible assumption
  (with_reducible apply keeps_ueSched); exact rfl
  repeat first | with_reducible exact Keeps.refl _ _ | with_reducible assumption
  (with_reducible apply keeps_chdReturn); exact rfl
  (with_reducible apply keeps_chdWithdraw); exact rfl
  repeat first | with_reducible exact Keeps.refl _ _ | with_reducible assumption
  (with_reducible apply Keeps.set_mtr); exact rfl
  repeat first | with_reducible exact Keeps.refl _ _ | with_reducible assumption
  (with_reducible apply keeps_ueSignRam); exact rfl
  repeat first | with_reducible exact Keeps.refl _ _ | with_reducible assumption
  (with_reducible apply keeps_ueCan); exact rfl
  repeat first | with_reducible exact Keeps.refl _ _ | with_reducible assumption
  (with_reducible apply keeps_ueCan); exact rfl
  repeat first | with_reducible exact Keeps.refl _ _ | with_reducible assumption
  (with_reducible apply keeps_ueStaged); exact rfl
  repeat first | with_reducible exact Keeps.refl _ _ | with_reducible assumption
  (with_reducible apply keeps_updMd); exact rfl
  repeat first | with_reducible exact Keeps.refl _ _ | with_reducible assumption

theorem keeps_ueEngine (n : Nat) (sub : Nat) (s : State) {mk : Nat} {s0 : State} (he : mk &&& 0xFDFFFFEC01F1 = mk) (hg : Keeps mk s0 s) :
    Keeps mk s0 (ueEngine n sub s) := by
  refine Keeps.via ?_ he hg
  unfold ueEngine
  try dsimp -zeta only
  split
  split
  (with_reducible apply keeps_settleCe); exact rfl
  (with_reducible apply keeps_updCe); exact rfl
  repeat first | with_reducible exact Keeps.refl _ _ | with_reducible assumption
  split
  split
  (with_reducible apply keeps_withdrawFrames); exact rfl
  repeat first | with_reducible exact Keeps.refl _ _ | with_reducible assumption

theorem keeps_ueMeter (s : State) {mk : Nat} {s0 : State} (he : mk &&& 0xFFFFFFFBF7FF = mk) (hg : Keeps mk s0 s) :
    Keeps mk s0 (ueMeter s) := by
  refine Keeps.via ?_ he hg
  unfold ueMeter
  try dsimp -zeta only
  ((try lift_lets); intro xL; clear_value xL)
  ((with_reducible apply Keeps.fold); (intro _ _))
  split
  (with_reducible apply keeps_logEv); exact rfl
  (with_reducible apply keeps_flagInterval); exact rfl
  repeat first | with_reducible exact Keeps.refl _ _ | with_reducible assumption
  (with_reducible apply Keeps.set_mtr); exact rfl
  repeat first | with_reducible exact Keeps.refl _ _ | with_reducible assumption

theorem keeps_ueMemory (mem : Nat) (m : MemRead) (s : State) {mk : Nat} {s0 : State} (he : mk &&& 0xFDFFFFC001F1 = mk) (hg : Keeps mk s0 s) :
    Keeps mk s0 (ueMemory mem m s) := by
  refine Keeps.via ?_ he hg
  unfold ueMemory
  try dsimp -zeta only
  split
  (with_reducible apply keeps_ueEngine); exact rfl
  repeat first | with_reducible exact Keeps.refl _ _ | with_reducible assumption
  (with_reducible apply keeps_ueEngine); exact rfl
  repeat first | with_reducible exact Keeps.refl _ _ | with_reducible assumption
  (with_reducible apply keeps_ueMeter); exact rfl
  repeat first | with_reducible exact Keeps.refl _ _ | with_reducible assumption
  (with_reducible apply keeps_sgnWithdraw); exact rfl
  repeat first | with_reducible exact Keeps.refl _ _ | with_reducible assumption
  (with_reducible apply keeps_ueCan); exact rfl
  repeat first | with_reducible exact Keeps.refl _ _ | with_reducible assumption
  (with_reducible apply keeps_ueCan); exact rfl
  repeat first | with_reducible exact Keeps.refl _ _ | with_reducible assumption

theorem keeps_handleUe (mem : Nat) (m : MemRead) (f0 : Nat) (f1 : Nat) (s : State) {mk : Nat} {s0 : State} (he : mk &&& 0xE126FC000001 = mk) (hg : Keeps mk s0 s) :
    Keeps mk s0 (handleUe mem m f0 f1 s) := by
  refine Keeps.via ?_ he hg
  unfold handleUe
  try dsimp -zeta only
  ((try lift_lets); intro xL; clear_value xL)
  (intro sL; with_reducible refine Keeps.cut sL ?_ ?_; rotate_left; (intro kL; clear_value sL); rotate_right; subst sL; try dsimp -zeta only)
  (with_reducible apply keeps_logEv); exact rfl
  (with_reducible apply keeps_noteUe); exact rfl
  repeat first | with_reducible exact Keeps.refl _ _ | with_reducible assumption
  split
  (with_reducible apply keeps_internalReset); exact rfl
  split
  (with_reducible apply keeps_loseBackup); exact rfl
  split
  (with_reducible apply keeps_retirePage); exact rfl
  repeat first | with_reducible exact Keeps.refl _ _ | with_reducible assumption
  split
  (with_reducible apply keeps_retirePage); exact rfl
  repeat first | with_reducible exact Keeps.refl _ _ | with_reducible assumption
  split
  (with_reducible apply keeps_retirePage); exact rfl
  (with_reducible apply keeps_ueRegion); exact rfl
  (with_reducible apply keeps_memFault); exact rfl
  repeat first | with_reducible exact Keeps.refl _ _ | with_reducible assumption
  (with_reducible apply keeps_ueMemory); exact rfl
  (with_reducible apply keeps_memFault); exact rfl
  repeat first | with_reducible exact Keeps.refl _ _ | with_reducible assumption

theorem keeps_readWord (mem : Nat) (m : MemRead) (f0 : Nat) (f1 : Nat) (s : State) {mk : Nat} {s0 : State} (he : mk &&& 0xE126FC000001 = mk) (hg : Keeps mk s0 s) :
    Keeps mk s0 (readWord mem m f0 f1 s) := by
  refine Keeps.via ?_ he hg
  unfold readWord
  try dsimp -zeta only
  ((try lift_lets); intro xL; clear_value xL)
  split
  (with_reducible apply keeps_readFlip); exact rfl
  repeat first | with_reducible exact Keeps.refl _ _ | with_reducible assumption
  split
  repeat first | with_reducible exact Keeps.refl _ _ | with_reducible assumption
  (with_reducible apply keeps_handleCe); exact rfl
  repeat first | with_reducible exact Keeps.refl _ _ | with_reducible assumption
  (with_reducible apply keeps_handleUe); exact rfl
  repeat first | with_reducible exact Keeps.refl _ _ | with_reducible assumption

theorem keeps_execScrubRead (mem : Nat) (m : MemRead) (s : State) (t : State) (h : execScrubRead mem m s = .next t) : Keeps 0xE126FC000001 s t := by
  unfold execScrubRead at h
  injection h with h
  subst h
  try dsimp -zeta only
  split
  (with_reducible apply keeps_readWord); exact rfl
  repeat first | with_reducible exact Keeps.refl _ _ | with_reducible assumption

theorem keeps_patrol (words : Nat) (s : State) {mk : Nat} {s0 : State} (he : mk &&& 0xFFFFFD7FF7FF = mk) (hg : Keeps mk s0 s) :
    Keeps mk s0 (patrol words s) := by
  refine Keeps.via ?_ he hg
  unfold patrol
  try dsimp -zeta only
  ((try lift_lets); intro xL; clear_value xL)
  (intro sL; with_reducible refine Keeps.cut sL ?_ ?_; rotate_left; (intro kL; clear_value sL); rotate_right; subst sL; try dsimp -zeta only)
  (with_reducible apply keeps_logNs); exact rfl
  (with_reducible apply Keeps.set_mem); exact rfl
  repeat first | with_reducible exact Keeps.refl _ _ | with_reducible assumption
  split
  (with_reducible apply Keeps.set_mem); exact rfl
  repeat first | with_reducible exact Keeps.refl _ _ | with_reducible assumption
  split
  repeat first | with_reducible exact Keeps.refl _ _ | with_reducible assumption
  split
  (with_reducible apply keeps_stopAct); exact rfl
  repeat first | with_reducible exact Keeps.refl _ _ | with_reducible assumption

theorem keeps_execDramPatrol (words : Nat) (m : MemRead) (f0 : Nat) (f1 : Nat) (s : State) (t : State) (h : execDramPatrol words m f0 f1 s = .next t) : Keeps 0xE126FC000001 s t := by
  unfold execDramPatrol at h
  injection h with h
  subst h
  try dsimp -zeta only
  ((try lift_lets); intro xL; clear_value xL)
  (intro xL; clear_value xL)
  (intro sL; with_reducible refine Keeps.cut sL ?_ ?_; rotate_left; (intro kL; clear_value sL); rotate_right; subst sL; try dsimp -zeta only)
  split
  (with_reducible apply Keeps.set_mem); exact rfl
  repeat first | with_reducible exact Keeps.refl _ _ | with_reducible assumption
  (with_reducible apply Keeps.set_mem); exact rfl
  repeat first | with_reducible exact Keeps.refl _ _ | with_reducible assumption
  split
  (with_reducible apply keeps_readWord); exact rfl
  (with_reducible apply keeps_patrol); exact rfl
  repeat first | with_reducible exact Keeps.refl _ _ | with_reducible assumption

theorem keeps_execFlipTimeout (writtenAt : Option Nat) (s : State) (t : State) (h : execFlipTimeout writtenAt s = .next t) : Keeps 0xFFFFFF7FF7FF s t := by
  unfold execFlipTimeout at h
  injection h with h
  subst h
  try dsimp -zeta only
  split
  repeat first | with_reducible exact Keeps.refl _ _ | with_reducible assumption
  split
  split
  (with_reducible apply keeps_endFlip); exact rfl
  repeat first | with_reducible exact Keeps.refl _ _ | with_reducible assumption
  split
  (with_reducible apply keeps_endFlip); exact rfl
  repeat first | with_reducible exact Keeps.refl _ _ | with_reducible assumption

end Sys2Proof.Laws
end

