-- ==== Sys2Proof/Laws/Frames/MemCmd.lean ====
section
/-!
SUPPORT. Frames of the operations of Machine/MemCmd.lean.
-/
set_option Elab.async false
namespace Sys2Proof.Laws
open Sys2Proof Sys2Proof.Machine

theorem keeps_actMemErrors (r : Req) (s : State) {mk : Nat} {s0 : State} (he : mk &&& 0xFFFFFF7FF9FF = mk) (hg : Keeps mk s0 s) :
    Keeps mk s0 (actMemErrors r s) := by
  refine Keeps.via ?_ he hg
  unfold actMemErrors
  try dsimp -zeta only
  ((try lift_lets); intro xL; clear_value xL)
  (intro xL; clear_value xL)
  (intro sL; with_reducible refine Keeps.cut sL ?_ ?_; rotate_left; (intro kL; clear_value sL); rotate_right; subst sL; try dsimp -zeta only)
  split
  (with_reducible apply keeps_onMem); exact rfl
  repeat first | with_reducible exact Keeps.refl _ _ | with_reducible assumption
  split
  (with_reducible apply keeps_ok); exact rfl
  repeat first | with_reducible exact Keeps.refl _ _ | with_reducible assumption
  (with_reducible apply keeps_ok); exact rfl
  repeat first | with_reducible exact Keeps.refl _ _ | with_reducible assumption

theorem keeps_actMemFlip (r : Req) (s : State) {mk : Nat} {s0 : State} (he : mk &&& 0xFFFFFF7FF1FF = mk) (hg : Keeps mk s0 s) :
    Keeps mk s0 (actMemFlip r s) := by
  refine Keeps.via ?_ he hg
  unfold actMemFlip
  try dsimp -zeta only
  ((try lift_lets); intro xL; clear_value xL)
  (intro xL; clear_value xL)
  (intro xL; clear_value xL)
  (intro xL; clear_value xL)
  (intro xL; clear_value xL)
  (intro sL; with_reducible refine Keeps.cut sL ?_ ?_; rotate_left; (intro kL; clear_value sL); rotate_right; subst sL; try dsimp -zeta only)
  (with_reducible apply Keeps.set_mem); exact rfl
  repeat first | with_reducible exact Keeps.refl _ _ | with_reducible assumption
  split
  (with_reducible apply keeps_ok); exact rfl
  (with_reducible apply keeps_endFlip); exact rfl
  repeat first | with_reducible exact Keeps.refl _ _ | with_reducible assumption
  (with_reducible apply keeps_ok); exact rfl
  (with_reducible apply Keeps.set_mem); exact rfl
  repeat first | with_reducible exact Keeps.refl _ _ | with_reducible assumption

theorem keeps_actMemRepair (r : Req) (s : State) {mk : Nat} {s0 : State} (he : mk &&& 0xFFFFFD7FF1FF = mk) (hg : Keeps mk s0 s) :
    Keeps mk s0 (actMemRepair r s) := by
  refine Keeps.via ?_ he hg
  unfold actMemRepair
  try dsimp -zeta only
  ((try lift_lets); intro xL; clear_value xL)
  (intro xL; clear_value xL)
  (intro xL; subst xL; try dsimp -zeta only)
  ((try lift_lets); intro xL; clear_value xL)
  split
  ((with_reducible apply keeps_admitReq); (intro _))
  ((try lift_lets); intro xL; clear_value xL)
  (with_reducible apply keeps_acceptN); exact rfl
  (with_reducible apply Keeps.set_mem); exact rfl
  repeat first | with_reducible exact Keeps.refl _ _ | with_reducible assumption
  exact (rfl : (_ : Nat) &&& _ = _)
  repeat first | with_reducible exact Keeps.refl _ _ | with_reducible assumption
  (with_reducible apply keeps_acceptN); exact rfl
  (with_reducible apply Keeps.set_mem); exact rfl
  repeat first | with_reducible exact Keeps.refl _ _ | with_reducible assumption

theorem keeps_actMemScrub (r : Req) (s : State) {mk : Nat} {s0 : State} (he : mk &&& 0xFFFFFD7FF1DF = mk) (hg : Keeps mk s0 s) :
    Keeps mk s0 (actMemScrub r s) := by
  refine Keeps.via ?_ he hg
  unfold actMemScrub
  try dsimp -zeta only
  ((try lift_lets); intro xL; clear_value xL)
  split
  (with_reducible apply keeps_storeAtBoundary); exact rfl
  repeat first | with_reducible exact Keeps.refl _ _ | with_reducible assumption
  split
  ((with_reducible apply keeps_admitReq); (intro _))
  ((try lift_lets); intro xL; clear_value xL)
  (with_reducible apply keeps_ok); exact rfl
  (with_reducible apply keeps_logNs); exact rfl
  (with_reducible apply Keeps.set_mem); exact rfl
  repeat first | with_reducible exact Keeps.refl _ _ | with_reducible assumption
  exact (rfl : (_ : Nat) &&& _ = _)
  repeat first | with_reducible exact Keeps.refl _ _ | with_reducible assumption
  (with_reducible apply keeps_ok); exact rfl
  (with_reducible apply keeps_stopAct); exact rfl
  (with_reducible apply keeps_logNs); exact rfl
  (with_reducible apply Keeps.set_mem); exact rfl
  repeat first | with_reducible exact Keeps.refl _ _ | with_reducible assumption

theorem keeps_actMemStatus (r : Req) (s : State) {mk : Nat} {s0 : State} (he : mk &&& 0xFFFFFFFFF9FD = mk) (hg : Keeps mk s0 s) :
    Keeps mk s0 (actMemStatus r s) := by
  refine Keeps.via ?_ he hg
  unfold actMemStatus
  try dsimp -zeta only
  ((try lift_lets); intro xL; clear_value xL)
  (intro xL; clear_value xL)
  (intro xL; clear_value xL)
  (with_reducible apply keeps_ok); exact rfl
  (with_reducible apply keeps_freshNat); exact rfl
  repeat first | with_reducible exact Keeps.refl _ _ | with_reducible assumption

theorem keeps_execFailureRecordWrite (f0 : Nat) (f1 : Nat) (s : State) (t : State) (h : execFailureRecordWrite f0 f1 s = .next t) : Keeps 0xFFFFFF77F7FD s t := by
  unfold execFailureRecordWrite at h
  injection h with h
  subst h
  try dsimp -zeta only
  ((try lift_lets); intro xL; clear_value xL)
  split
  split
  (with_reducible apply Keeps.set_sgn); exact rfl
  (with_reducible apply keeps_norWrite); exact rfl
  repeat first | with_reducible exact Keeps.refl _ _ | with_reducible assumption
  (with_reducible apply keeps_norWrite); exact rfl
  repeat first | with_reducible exact Keeps.refl _ _ | with_reducible assumption

theorem keeps_logRepaired (x : RepairRun) (code : Word) (s : State) {mk : Nat} {s0 : State} (he : mk &&& 0xFFFFFFFFF7FF = mk) (hg : Keeps mk s0 s) :
    Keeps mk s0 (logRepaired x code s) := by
  refine Keeps.via ?_ he hg
  unfold logRepaired
  try dsimp -zeta only
  (with_reducible apply keeps_logEv); exact rfl
  repeat first | with_reducible exact Keeps.refl _ _ | with_reducible assumption

theorem keeps_execMemRepairComplete (programmed : Bool) (f0 : Nat) (f1 : Nat) (s : State) (t : State) (h : execMemRepairComplete programmed f0 f1 s = .next t) : Keeps 0xFFFFFD4FF1FD s t := by
  unfold execMemRepairComplete at h
  injection h with h
  subst h
  split
  · exact Keeps.refl _ _
  · next x rest _ =>
    dsimp only
    split
    · have k1 := keeps_retirePage 2 0x1F (x.addr / 8) f0 f1 { s with mem := { s.mem with runs := rest } } (mk := 0xFFFFFD4FF1FD) rfl
        (Keeps.set_mem rfl (Keeps.refl _ _))
      generalize retirePage 2 0x1F (x.addr / 8) f0 f1 { s with mem := { s.mem with runs := rest } } = a at k1 ⊢
      obtain ⟨s1, good⟩ := a
      dsimp only at k1 ⊢
      generalize (if repairedAt s1 0 (x.addr / 8) = true then wd 0 else Config.itemCode evMemRepaired 2) = w
      split
      · exact keeps_complete _ _ _ _ rfl (keeps_logRepaired _ _ _ rfl k1)
      · exact keeps_completeFail _ _ _ rfl (keeps_logRepaired _ _ _ rfl k1)
    · have k2 : Keeps 0xFFFFFD4FF1FD s (if x.kind < 2 then
          stopAct 2 x.mem { s with mem := { s.mem with runs := rest, fieldLeft := s.mem.fieldLeft - 1 } }
          else { s with mem := { s.mem with runs := rest, fieldLeft := s.mem.fieldLeft - 1 } }) := by
        split
        · exact keeps_stopAct _ _ _ rfl (Keeps.set_mem rfl (Keeps.refl _ _))
        · exact Keeps.set_mem rfl (Keeps.refl _ _)
      generalize (if x.kind < 2 then
          stopAct 2 x.mem { s with mem := { s.mem with runs := rest, fieldLeft := s.mem.fieldLeft - 1 } }
          else { s with mem := { s.mem with runs := rest, fieldLeft := s.mem.fieldLeft - 1 } }) = s2 at k2 ⊢
      split
      · exact keeps_completeFail _ _ _ rfl (keeps_logRepaired _ _ _ rfl k2)
      · exact keeps_complete _ _ _ _ rfl (keeps_logRepaired _ _ _ rfl (keeps_onMem _ _ _ rfl k2))

theorem keeps_lostPage (part : Nat) (block : Nat) (page : Nat) (items : List Nat) (s : State) {mk : Nat} {s0 : State} (he : mk &&& 0xFDFFFFE801F1 = mk) (hg : Keeps mk s0 s) :
    Keeps mk s0 (lostPage part block page items s) := by
  refine Keeps.via ?_ he hg
  unfold lostPage
  try dsimp -zeta only
  ((try lift_lets); intro xL; clear_value xL)
  (intro xL; clear_value xL)
  split
  split
  (with_reducible apply keeps_logNs); exact rfl
  (with_reducible apply keeps_logNs); exact rfl
  (with_reducible apply Keeps.set_log); exact rfl
  repeat first | with_reducible exact Keeps.refl _ _ | with_reducible assumption
  split
  (with_reducible apply keeps_losePage); exact rfl
  repeat first | with_reducible exact Keeps.refl _ _ | with_reducible assumption
  (with_reducible apply keeps_logNs); exact rfl
  (with_reducible apply Keeps.set_mtr); exact rfl
  repeat first | with_reducible exact Keeps.refl _ _ | with_reducible assumption

theorem keeps_reclaimStep (part : Nat) (block : Nat) (job : NandJob) (s : State) {mk : Nat} {s0 : State} (he : mk &&& 0xFDFFFD6801F1 = mk) (hg : Keeps mk s0 s) :
    Keeps mk s0 (reclaimStep part block job s) := by
  refine Keeps.via ?_ he hg
  unfold reclaimStep
  try dsimp -zeta only
  ((try lift_lets); intro xL; clear_value xL)
  (intro xL; clear_value xL)
  split
  split
  repeat first | with_reducible exact Keeps.refl _ _ | with_reducible assumption
  split
  ((with_reducible apply keeps_admitAct); (with_reducible assumption); exact rfl)
  repeat first | with_reducible exact Keeps.refl _ _ | with_reducible assumption
  ((try lift_lets); intro xL; clear_value xL)
  (with_reducible apply Keeps.set_bal); exact rfl
  ((with_reducible apply keeps_admitAct_err); (with_reducible assumption); exact rfl)
  repeat first | with_reducible exact Keeps.refl _ _ | with_reducible assumption
  split
  (with_reducible apply keeps_resumeAppends); exact rfl
  (with_reducible apply Keeps.set_log); exact rfl
  repeat first | with_reducible exact Keeps.refl _ _ | with_reducible assumption
  ((try lift_lets); intro sL; with_reducible refine Keeps.cut sL ?_ ?_; rotate_left; (intro kL; clear_value sL); rotate_right; subst sL; try dsimp -zeta only)
  (with_reducible apply Keeps.set_mem); exact rfl
  repeat first | with_reducible exact Keeps.refl _ _ | with_reducible assumption
  (with_reducible apply Keeps.in_pwr); exact rfl
  · exact fun _ => rfl
  · exact fun _ => rfl
  · exact fun _ => rfl
  · exact fun _ => rfl
  split
  (with_reducible apply keeps_logLimK); exact rfl
  repeat first | with_reducible exact Keeps.refl _ _ | with_reducible assumption
  (with_reducible apply keeps_badBlock); exact rfl
  repeat first | with_reducible exact Keeps.refl _ _ | with_reducible assumption
  (with_reducible apply keeps_lostPage); exact rfl
  repeat first | with_reducible exact Keeps.refl _ _ | with_reducible assumption
  (with_reducible apply keeps_stopAct); exact rfl
  repeat first | with_reducible exact Keeps.refl _ _ | with_reducible assumption

theorem keeps_execNandReclaim (part : Nat) (block : Nat) (erases : Nat) (job : NandJob) (s : State) (t : State) (h : execNandReclaim part block erases job s = .next t) : Keeps 0xFDFFFD6801F1 s t := by
  unfold execNandReclaim at h
  injection h with h
  subst h
  try dsimp -zeta only
  ((try lift_lets); intro xL; clear_value xL)
  split
  (with_reducible apply keeps_reclaimStep); exact rfl
  (with_reducible apply Keeps.set_mem); exact rfl
  repeat first | with_reducible exact Keeps.refl _ _ | with_reducible assumption

theorem keeps_execLatCompact (s : State) (t : State) (h : execLatCompact s = .next t) : Keeps 0xFFFFFDFFBFFF s t := by
  unfold execLatCompact at h
  injection h with h
  subst h
  try dsimp -zeta only
  ((try lift_lets); intro xL; subst xL)
  split
  (with_reducible apply keeps_stopAct); exact rfl
  (with_reducible apply Keeps.in_lat); exact rfl
  · exact fun _ => rfl
  repeat first | with_reducible exact Keeps.refl _ _ | with_reducible assumption

theorem keeps_execMemStatus (s : State) (t : State) (h : execMemStatus s = .next t) : Keeps 0xF7FFFFFFF9FD s t := by
  unfold execMemStatus at h
  injection h with h
  subst h
  try dsimp -zeta only
  ((with_reducible apply keeps_serve); (intro _ _))
  (with_reducible apply keeps_actMemStatus); exact rfl
  repeat first | with_reducible exact Keeps.refl _ _ | with_reducible assumption
  exact (rfl : (_ : Nat) &&& _ = _)
  repeat first | with_reducible exact Keeps.refl _ _ | with_reducible assumption

theorem keeps_execMemErrors (s : State) (t : State) (h : execMemErrors s = .next t) : Keeps 0xF7FFFF7FF9FF s t := by
  unfold execMemErrors at h
  injection h with h
  subst h
  try dsimp -zeta only
  ((with_reducible apply keeps_serve); (intro _ _))
  (with_reducible apply keeps_actMemErrors); exact rfl
  repeat first | with_reducible exact Keeps.refl _ _ | with_reducible assumption
  exact (rfl : (_ : Nat) &&& _ = _)
  repeat first | with_reducible exact Keeps.refl _ _ | with_reducible assumption

theorem keeps_execMemFlip (s : State) (t : State) (h : execMemFlip s = .next t) : Keeps 0xF7FFFF7FF1FF s t := by
  unfold execMemFlip at h
  injection h with h
  subst h
  try dsimp -zeta only
  ((with_reducible apply keeps_serve); (intro _ _))
  (with_reducible apply keeps_actMemFlip); exact rfl
  repeat first | with_reducible exact Keeps.refl _ _ | with_reducible assumption
  exact (rfl : (_ : Nat) &&& _ = _)
  repeat first | with_reducible exact Keeps.refl _ _ | with_reducible assumption

theorem keeps_execMemRepair (s : State) (t : State) (h : execMemRepair s = .next t) : Keeps 0xF7FFFD7FF1FF s t := by
  unfold execMemRepair at h
  injection h with h
  subst h
  try dsimp -zeta only
  ((with_reducible apply keeps_serve); (intro _ _))
  (with_reducible apply keeps_actMemRepair); exact rfl
  repeat first | with_reducible exact Keeps.refl _ _ | with_reducible assumption
  exact (rfl : (_ : Nat) &&& _ = _)
  repeat first | with_reducible exact Keeps.refl _ _ | with_reducible assumption

theorem keeps_execMemScrub (s : State) (t : State) (h : execMemScrub s = .next t) : Keeps 0xF7FFFD7FF1DF s t := by
  unfold execMemScrub at h
  injection h with h
  subst h
  try dsimp -zeta only
  ((with_reducible apply keeps_serve); (intro _ _))
  (with_reducible apply keeps_actMemScrub); exact rfl
  repeat first | with_reducible exact Keeps.refl _ _ | with_reducible assumption
  exact (rfl : (_ : Nat) &&& _ = _)
  repeat first | with_reducible exact Keeps.refl _ _ | with_reducible assumption

end Sys2Proof.Laws
end

