-- ==== Sys2Proof/Laws/Frames/BallastCmd.lean ====
section
/-!
SUPPORT. Frames of the operations of Machine/BallastCmd.lean.
-/
set_option Elab.async false
namespace Sys2Proof.Laws
open Sys2Proof Sys2Proof.Machine

theorem keeps_actMemActivity (r : Req) (s : State) {mk : Nat} {s0 : State} (he : mk &&& 0xFFFFFFFFF9FF = mk) (hg : Keeps mk s0 s) :
    Keeps mk s0 (actMemActivity r s) := by
  refine Keeps.via ?_ he hg
  unfold actMemActivity
  try dsimp -zeta only
  ((try lift_lets); intro xL; clear_value xL)
  (intro xL; subst xL; try dsimp -zeta only)
  (intro xL; subst xL; try dsimp -zeta only)
  (with_reducible apply keeps_ok); exact rfl
  repeat first | with_reducible exact Keeps.refl _ _ | with_reducible assumption

theorem keeps_onWd (block : Nat) (half : Nat) (f : Withdrawal → Withdrawal) (s : State) {mk : Nat} {s0 : State} (he : mk &&& 0xFFFFFDFFFFFF = mk) (hg : Keeps mk s0 s) :
    Keeps mk s0 (onWd block half f s) := by
  refine Keeps.via ?_ he hg
  unfold onWd
  try dsimp -zeta only
  ((try lift_lets); intro xL; clear_value xL)
  (with_reducible apply Keeps.set_bal); exact rfl
  repeat first | with_reducible exact Keeps.refl _ _ | with_reducible assumption

theorem keeps_postEnd (w : Withdrawal) (s : State) {mk : Nat} {s0 : State} (he : mk &&& 0xFFFFFDFFFFDF = mk) (hg : Keeps mk s0 s) :
    Keeps mk s0 (postEnd w s) := by
  refine Keeps.via ?_ he hg
  unfold postEnd
  try dsimp -zeta only
  split
  repeat first | with_reducible exact Keeps.refl _ _ | with_reducible assumption
  (with_reducible apply keeps_onWd); exact rfl
  (with_reducible apply keeps_tlPut); exact rfl
  repeat first | with_reducible exact Keeps.refl _ _ | with_reducible assumption

theorem keeps_actMemRestore (r : Req) (s : State) {mk : Nat} {s0 : State} (he : mk &&& 0xFFFFFDFFFFDF = mk) (hg : Keeps mk s0 s) :
    Keeps mk s0 (actMemRestore r s) := by
  refine Keeps.via ?_ he hg
  unfold actMemRestore
  try dsimp -zeta only
  split
  repeat first | with_reducible exact Keeps.refl _ _ | with_reducible assumption
  (with_reducible apply keeps_postEnd); exact rfl
  (with_reducible apply keeps_onWd); exact rfl
  repeat first | with_reducible exact Keeps.refl _ _ | with_reducible assumption

theorem keeps_actMemWithdraw (r : Req) (s : State) {mk : Nat} {s0 : State} (he : mk &&& 0xFFFFFDFFF1DF = mk) (hg : Keeps mk s0 s) :
    Keeps mk s0 (actMemWithdraw r s) := by
  refine Keeps.via ?_ he hg
  unfold actMemWithdraw
  try dsimp -zeta only
  ((try lift_lets); intro xL; clear_value xL)
  (intro xL; clear_value xL)
  (intro xL; clear_value xL)
  split
  (with_reducible apply keeps_failReq); exact rfl
  (with_reducible apply keeps_tlFull); exact rfl
  repeat first | with_reducible exact Keeps.refl _ _ | with_reducible assumption
  ((with_reducible apply keeps_admitReq); (intro _))
  ((try lift_lets); intro xL; clear_value xL)
  (with_reducible apply keeps_tlPut); exact rfl
  (with_reducible apply Keeps.set_bal); exact rfl
  repeat first | with_reducible exact Keeps.refl _ _ | with_reducible assumption
  exact (rfl : (_ : Nat) &&& _ = _)
  repeat first | with_reducible exact Keeps.refl _ _ | with_reducible assumption

theorem keeps_blockBack (block : Nat) (half : Nat) (since : Nat) (s : State) {mk : Nat} {s0 : State} (he : mk &&& 0xFFFFFFD147FF = mk) (hg : Keeps mk s0 s) :
    Keeps mk s0 (blockBack block half since s) := by
  refine Keeps.via ?_ he hg
  unfold blockBack
  try dsimp -zeta only
  split
  (with_reducible apply keeps_enterAll); exact rfl
  repeat first | with_reducible exact Keeps.refl _ _ | with_reducible assumption
  (with_reducible apply keeps_enterAll); exact rfl
  repeat first | with_reducible exact Keeps.refl _ _ | with_reducible assumption
  (with_reducible apply keeps_enterAll); exact rfl
  ((with_reducible apply Keeps.fold); (intro _ _))
  (with_reducible apply keeps_toResync); exact rfl
  repeat first | with_reducible exact Keeps.refl _ _ | with_reducible assumption
  (with_reducible apply keeps_chdReturn); exact rfl
  repeat first | with_reducible exact Keeps.refl _ _ | with_reducible assumption
  (with_reducible apply keeps_mtrReturn); exact rfl
  repeat first | with_reducible exact Keeps.refl _ _ | with_reducible assumption
  (with_reducible apply keeps_recompute); exact rfl
  repeat first | with_reducible exact Keeps.refl _ _ | with_reducible assumption
  (with_reducible apply keeps_canReturn); exact rfl
  repeat first | with_reducible exact Keeps.refl _ _ | with_reducible assumption
  (with_reducible apply keeps_canReturn); exact rfl
  repeat first | with_reducible exact Keeps.refl _ _ | with_reducible assumption

theorem keeps_engineOff (n : Nat) (s : State) {mk : Nat} {s0 : State} (he : mk &&& 0xFDFFFFEC01F1 = mk) (hg : Keeps mk s0 s) :
    Keeps mk s0 (engineOff n s) := by
  refine Keeps.via ?_ he hg
  unfold engineOff
  try dsimp -zeta only
  ((try lift_lets); intro sL; with_reducible refine Keeps.cut sL ?_ ?_; rotate_left; (intro kL; clear_value sL); rotate_right; subst sL; try dsimp -zeta only)
  split
  repeat first | with_reducible exact Keeps.refl _ _ | with_reducible assumption
  ((try lift_lets); intro sL; with_reducible refine Keeps.cut sL ?_ ?_; rotate_left; (intro kL; clear_value sL); rotate_right; subst sL; try dsimp -zeta only)
  (with_reducible apply keeps_cutCarrier); exact rfl
  repeat first | with_reducible exact Keeps.refl _ _ | with_reducible assumption
  split
  (with_reducible apply keeps_afterCarrier); exact rfl
  (with_reducible apply keeps_updMd); exact rfl
  repeat first | with_reducible exact Keeps.refl _ _ | with_reducible assumption
  split
  (with_reducible apply keeps_frameLeft); exact rfl
  (with_reducible apply keeps_afterCarrier); exact rfl
  repeat first | with_reducible exact Keeps.refl _ _ | with_reducible assumption
  (with_reducible apply keeps_afterCarrier); exact rfl
  repeat first | with_reducible exact Keeps.refl _ _ | with_reducible assumption
  (with_reducible apply keeps_withdrawFrames); exact rfl
  repeat first | with_reducible exact Keeps.refl _ _ | with_reducible assumption

theorem keeps_blockOut (block : Nat) (half : Nat) (fails : Nat) (old : State) (s : State) {mk : Nat} {s0 : State} (he : mk &&& 0xFDFFFDC001D1 = mk) (hg : Keeps mk s0 s) :
    Keeps mk s0 (blockOut block half fails old s) := by
  refine Keeps.via ?_ he hg
  unfold blockOut
  try dsimp -zeta only
  split
  (with_reducible apply keeps_purgeDisabled); exact rfl
  (with_reducible apply keeps_dropInvalid); exact rfl
  (with_reducible apply keeps_stopAll); exact rfl
  repeat first | with_reducible exact Keeps.refl _ _ | with_reducible assumption
  (with_reducible apply keeps_purgeDisabled); exact rfl
  (with_reducible apply keeps_dropInvalid); exact rfl
  (with_reducible apply keeps_stopAll); exact rfl
  repeat first | with_reducible exact Keeps.refl _ _ | with_reducible assumption
  (with_reducible apply keeps_dropInvalid); exact rfl
  ((with_reducible apply Keeps.fold); (intro _ _))
  (with_reducible apply keeps_engineOff); exact rfl
  repeat first | with_reducible exact Keeps.refl _ _ | with_reducible assumption
  (with_reducible apply keeps_chdWithdraw); exact rfl
  repeat first | with_reducible exact Keeps.refl _ _ | with_reducible assumption
  (with_reducible apply keeps_mtrWithdraw); exact rfl
  repeat first | with_reducible exact Keeps.refl _ _ | with_reducible assumption
  (with_reducible apply keeps_sgnWithdraw); exact rfl
  repeat first | with_reducible exact Keeps.refl _ _ | with_reducible assumption
  (with_reducible apply keeps_canWithdraw); exact rfl
  repeat first | with_reducible exact Keeps.refl _ _ | with_reducible assumption
  (with_reducible apply keeps_canWithdraw); exact rfl
  repeat first | with_reducible exact Keeps.refl _ _ | with_reducible assumption
  (with_reducible apply keeps_ioWithdraw); exact rfl
  repeat first | with_reducible exact Keeps.refl _ _ | with_reducible assumption

theorem keeps_endWithdrawal (w : Withdrawal) (s : State) {mk : Nat} {s0 : State} (he : mk &&& 0xFFFFFDD141F3 = mk) (hg : Keeps mk s0 s) :
    Keeps mk s0 (endWithdrawal w s) := by
  refine Keeps.via ?_ he hg
  unfold endWithdrawal
  try dsimp -zeta only
  ((try lift_lets); intro xL; clear_value xL)
  (intro xL; clear_value xL)
  (intro sL; with_reducible refine Keeps.cut sL ?_ ?_; rotate_left; (intro kL; clear_value sL); rotate_right; subst sL; try dsimp -zeta only)
  (with_reducible apply keeps_stopAct); exact rfl
  (with_reducible apply Keeps.set_bal); exact rfl
  repeat first | with_reducible exact Keeps.refl _ _ | with_reducible assumption
  ((with_reducible apply Keeps.fold); (intro _ _))
  (with_reducible apply keeps_ok); exact rfl
  repeat first | with_reducible exact Keeps.refl _ _ | with_reducible assumption
  (with_reducible apply keeps_settleMode); exact rfl
  (with_reducible apply keeps_logNs); exact rfl
  (with_reducible apply keeps_blockBack); exact rfl
  repeat first | with_reducible exact Keeps.refl _ _ | with_reducible assumption

theorem keeps_execMemWithdraw (s : State) (t : State) (h : execMemWithdraw s = .next t) : Keeps 0xF7FFFDFFF1DF s t := by
  unfold execMemWithdraw at h
  injection h with h
  subst h
  try dsimp -zeta only
  ((with_reducible apply keeps_serve); (intro _ _))
  (with_reducible apply keeps_actMemWithdraw); exact rfl
  repeat first | with_reducible exact Keeps.refl _ _ | with_reducible assumption
  exact (rfl : (_ : Nat) &&& _ = _)
  repeat first | with_reducible exact Keeps.refl _ _ | with_reducible assumption

theorem keeps_execMemRestore (s : State) (t : State) (h : execMemRestore s = .next t) : Keeps 0xF7FFFDFFF9DF s t := by
  unfold execMemRestore at h
  injection h with h
  subst h
  try dsimp -zeta only
  ((with_reducible apply keeps_serve); (intro _ _))
  (with_reducible apply keeps_actMemRestore); exact rfl
  repeat first | with_reducible exact Keeps.refl _ _ | with_reducible assumption
  exact (rfl : (_ : Nat) &&& _ = _)
  repeat first | with_reducible exact Keeps.refl _ _ | with_reducible assumption

theorem keeps_execMemActivity (s : State) (t : State) (h : execMemActivity s = .next t) : Keeps 0xF7FFFFFFF9FF s t := by
  unfold execMemActivity at h
  injection h with h
  subst h
  try dsimp -zeta only
  ((with_reducible apply keeps_serve); (intro _ _))
  (with_reducible apply keeps_actMemActivity); exact rfl
  repeat first | with_reducible exact Keeps.refl _ _ | with_reducible assumption
  exact (rfl : (_ : Nat) &&& _ = _)
  repeat first | with_reducible exact Keeps.refl _ _ | with_reducible assumption

theorem keeps_execWithdrawalApply (fails : Nat) (s : State) (t : State) (h : execWithdrawalApply fails s = .next t) : Keeps 0xFDFFFDC001D1 s t := by
  unfold execWithdrawalApply at h
  injection h with h
  subst h
  try dsimp -zeta only
  ((with_reducible apply keeps_tlFire); (intro k e g hfg s; dsimp only at hfg; split at hfg <;> cases hfg <;> try dsimp -zeta only))
  split
  repeat first | with_reducible exact Keeps.refl _ _ | with_reducible assumption
  split
  (with_reducible apply keeps_ok); exact rfl
  (with_reducible apply keeps_settleMode); exact rfl
  (with_reducible apply keeps_logNs); exact rfl
  (with_reducible apply keeps_blockOut); exact rfl
  (with_reducible apply keeps_onWd); exact rfl
  repeat first | with_reducible exact Keeps.refl _ _ | with_reducible assumption
  (with_reducible apply keeps_settleMode); exact rfl
  (with_reducible apply keeps_logNs); exact rfl
  (with_reducible apply keeps_blockOut); exact rfl
  (with_reducible apply keeps_onWd); exact rfl
  repeat first | with_reducible exact Keeps.refl _ _ | with_reducible assumption
  exact (rfl : (_ : Nat) &&& _ = _)
  repeat first | with_reducible exact Keeps.refl _ _ | with_reducible assumption

theorem keeps_execWithdrawalEnd (s : State) (t : State) (h : execWithdrawalEnd s = .next t) : Keeps 0xFFFFFDD141D3 s t := by
  unfold execWithdrawalEnd at h
  injection h with h
  subst h
  split
  · refine keeps_tlFire _ _ ?_ rfl (Keeps.refl _ _)
    intro k e g hf s
    try dsimp only at hf
    split at hf <;> first | injection hf with hf; subst hf | cases hf
    dsimp only
    split
    · exact keeps_endWithdrawal _ _ rfl (Keeps.refl _ _)
    · exact Keeps.refl _ _
  · split
    · exact keeps_postEnd _ _ rfl (Keeps.refl _ _)
    · exact Keeps.refl _ _

theorem keeps_execInternalActivityRestart (act : Nat) (inst : Nat) (s : State) (t : State) (h : execInternalActivityRestart act inst s = .next t) : Keeps 0xFFFFFDFFFFFF s t := by
  unfold execInternalActivityRestart at h
  injection h with h
  subst h
  try dsimp -zeta only
  ((try lift_lets); intro xL; clear_value xL)
  (intro xL; clear_value xL)
  split
  (with_reducible apply keeps_startAct); exact rfl
  (with_reducible apply Keeps.set_bal); exact rfl
  repeat first | with_reducible exact Keeps.refl _ _ | with_reducible assumption

end Sys2Proof.Laws
end

