-- ==== Sys2Proof/Laws/Frames/Bridle.lean ====
section
/-!
SUPPORT. Frames of the operations of Machine/Bridle.lean.
-/
set_option Elab.async false
namespace Sys2Proof.Laws
open Sys2Proof Sys2Proof.Machine

theorem keeps_onUpd (f : Upd → Upd) (s : State) {mk : Nat} {s0 : State} (he : mk &&& 0xFFF9FEFFFFFF = mk) (hg : Keeps mk s0 s) :
    Keeps mk s0 (onUpd f s) := by
  refine Keeps.via ?_ he hg
  unfold onUpd
  try dsimp -zeta only
  (with_reducible apply Keeps.set_upd); exact rfl
  repeat first | with_reducible exact Keeps.refl _ _ | with_reducible assumption

theorem keeps_dropAct (s : State) {mk : Nat} {s0 : State} (he : mk &&& 0xFFFFFCFFFFDF = mk) (hg : Keeps mk s0 s) :
    Keeps mk s0 (dropAct s) := by
  refine Keeps.via ?_ he hg
  unfold dropAct onUpd
  try dsimp -zeta only
  (with_reducible apply Keeps.in_upd); exact rfl
  · exact fun _ => rfl
  · exact fun _ => rfl
  (with_reducible apply keeps_stopAct); exact rfl
  (with_reducible apply keeps_tlCancel); exact rfl
  repeat first | with_reducible exact Keeps.refl _ _ | with_reducible assumption

theorem keeps_endUnopened (cause : Nat) (a : Activation) (s : State) {mk : Nat} {s0 : State} (he : mk &&& 0xFFFFFCFFF1DD = mk) (hg : Keeps mk s0 s) :
    Keeps mk s0 (endUnopened cause a s) := by
  refine Keeps.via ?_ he hg
  unfold endUnopened onUpd
  try dsimp -zeta only
  (with_reducible apply keeps_completeFail); exact rfl
  (with_reducible apply keeps_logNs); exact rfl
  (with_reducible apply Keeps.in_upd); exact rfl
  · exact fun _ => rfl
  · exact fun _ => rfl
  (with_reducible apply keeps_dropAct); exact rfl
  (with_reducible apply keeps_freshNat); exact rfl
  (with_reducible apply keeps_freshNat); exact rfl
  repeat first | with_reducible exact Keeps.refl _ _ | with_reducible assumption

theorem keeps_emptyBank (s : State) {mk : Nat} {s0 : State} (he : mk &&& 0xFFFFFEFFFFFF = mk) (hg : Keeps mk s0 s) :
    Keeps mk s0 (emptyBank s) := by
  refine Keeps.via ?_ he hg
  unfold emptyBank onUpd
  try dsimp -zeta only
  (with_reducible apply Keeps.in_upd); exact rfl
  · exact fun _ => rfl
  · exact fun _ => rfl
  repeat first | with_reducible exact Keeps.refl _ _ | with_reducible assumption

theorem keeps_endSession (s : State) {mk : Nat} {s0 : State} (he : mk &&& 0xFFFFFEFFFFFF = mk) (hg : Keeps mk s0 s) :
    Keeps mk s0 (endSession s) := by
  refine Keeps.via ?_ he hg
  unfold endSession onUpd
  try dsimp -zeta only
  (with_reducible apply Keeps.in_upd); exact rfl
  · exact fun _ => rfl
  · exact fun _ => rfl
  repeat first | with_reducible exact Keeps.refl _ _ | with_reducible assumption

theorem keeps_actUpdAbort (r : Req) (s : State) {mk : Nat} {s0 : State} (he : mk &&& 0xFFFFFCFFF1DD = mk) (hg : Keeps mk s0 s) :
    Keeps mk s0 (actUpdAbort r s) := by
  refine Keeps.via ?_ he hg
  unfold actUpdAbort
  try dsimp -zeta only
  ((try lift_lets); intro sL; with_reducible refine Keeps.cut sL ?_ ?_; rotate_left; (intro kL; clear_value sL); rotate_right; subst sL; try dsimp -zeta only)
  (with_reducible apply keeps_logNs); exact rfl
  (with_reducible apply keeps_ok); exact rfl
  repeat first | with_reducible exact Keeps.refl _ _ | with_reducible assumption
  (with_reducible apply keeps_emptyBank); exact rfl
  (with_reducible apply keeps_endSession); exact rfl
  split
  split
  (with_reducible apply keeps_endUnopened); exact rfl
  repeat first | with_reducible exact Keeps.refl _ _ | with_reducible assumption

theorem keeps_confirmTrial (cause : Nat) (s : State) {mk : Nat} {s0 : State} (he : mk &&& 0xFFFDFEFFF7FF = mk) (hg : Keeps mk s0 s) :
    Keeps mk s0 (confirmTrial cause s) := by
  refine Keeps.via ?_ he hg
  unfold confirmTrial onUpd
  try dsimp -zeta only
  ((try lift_lets); intro xL; subst xL)
  (intro xL; clear_value xL)
  (intro xL; clear_value xL)
  (intro xL; clear_value xL)
  (intro sL; with_reducible refine Keeps.cut sL ?_ ?_; rotate_left; (intro kL; clear_value sL); rotate_right; subst sL; try dsimp -zeta only)
  split
  (with_reducible apply Keeps.in_upd); exact rfl
  · exact fun h => Bool.noConfusion h
  · exact fun _ => rfl
  repeat first | with_reducible exact Keeps.refl _ _ | with_reducible assumption
  (with_reducible apply Keeps.in_upd); exact rfl
  · exact fun h => Bool.noConfusion h
  · exact fun _ => rfl
  repeat first | with_reducible exact Keeps.refl _ _ | with_reducible assumption
  split
  (with_reducible apply keeps_logNs); exact rfl
  (with_reducible apply keeps_logEv); exact rfl
  repeat first | with_reducible exact Keeps.refl _ _ | with_reducible assumption
  (with_reducible apply keeps_logEv); exact rfl
  repeat first | with_reducible exact Keeps.refl _ _ | with_reducible assumption

theorem keeps_swapBank (left : BankSt) (man : List Word) (matrix : Nat × List Nat) (s : State) {mk : Nat} {s0 : State} (he : mk &&& 0xFFFBFCFFF7FF = mk) (hg : Keeps mk s0 s) :
    Keeps mk s0 (swapBank left man matrix s) := by
  refine Keeps.via ?_ he hg
  unfold swapBank
  try dsimp -zeta only
  ((try lift_lets); intro xL; subst xL)
  (intro xL; clear_value xL)
  (intro sL; with_reducible refine Keeps.cut sL ?_ ?_; rotate_left; (intro kL; clear_value sL); rotate_right; subst sL; try dsimp -zeta only)
  (with_reducible apply Keeps.upd)
  · exact fun _ => rfl
  · exact fun _ => rfl
  · exact fun _ => rfl
  · exact fun _ => rfl
  · exact fun _ => rfl
  · exact fun _ => rfl
  · exact fun _ => rfl
  · exact fun _ => rfl
  · exact fun _ => rfl
  · exact fun _ => rfl
  · exact fun h => Bool.noConfusion h
  · exact fun _ => rfl
  · exact fun _ => rfl
  · exact fun _ => rfl
  · exact fun _ => rfl
  · exact fun _ => rfl
  · exact fun _ => rfl
  · exact fun _ => rfl
  · exact fun _ => rfl
  · exact fun _ => rfl
  · exact fun _ => rfl
  · exact fun _ => rfl
  · exact fun _ => rfl
  · exact fun h => Bool.noConfusion h
  · exact fun h => Bool.noConfusion h
  · exact fun _ => rfl
  · exact fun _ => rfl
  · exact fun _ => rfl
  · exact fun _ => rfl
  · exact fun _ => rfl
  · exact fun _ => rfl
  · exact fun _ => rfl
  · exact fun _ => rfl
  · exact fun h => Bool.noConfusion h
  · exact fun _ => rfl
  · exact fun _ => rfl
  · exact fun _ => rfl
  · exact fun _ => rfl
  · exact fun _ => rfl
  · exact fun _ => rfl
  · exact fun _ => rfl
  · exact fun _ => rfl
  · exact fun _ => rfl
  · exact fun _ => rfl
  · exact fun _ _ h => h
  · exact fun _ h => ⟨h, rfl⟩
  · exact fun _ h => h
  repeat first | with_reducible exact Keeps.refl _ _ | with_reducible assumption
  split
  repeat first | with_reducible exact Keeps.refl _ _ | with_reducible assumption
  (with_reducible apply keeps_logNs); exact rfl
  repeat first | with_reducible exact Keeps.refl _ _ | with_reducible assumption

theorem keeps_newSettings (put : Nat → Settings → State → State) (old new : List Word) (s : State) {mk : Nat} {s0 : State}
    (hp : ∀ k c s, Keeps mk s (put k c s)) (he : mk &&& 0xFFFFFFFFF3FF = mk) (hg : Keeps mk s0 s) :
    Keeps mk s0 (newSettings put old new s).1 := by
  refine Keeps.step ?_ hg
  unfold newSettings
  exact Keeps.fold _ _ (fun _ _ => keeps_logNs _ _ _ _ (by rw [← he, Nat.and_assoc]; rfl)
    (keeps_markSet _ _ _ (by rw [← he, Nat.and_assoc]; rfl) (hp _ _ _))) (Keeps.refl _ _)

theorem keeps_newSettings_eq {put : Nat → Settings → State → State} {old new : List Word} {s : State} {mk : Nat} {s0 sq : State} {w}
    (h : newSettings put old new s = (sq, w)) (hp : ∀ k c s, Keeps mk s (put k c s)) (he : mk &&& 0xFFFFFFFFF3FF = mk)
    (hg : Keeps mk s0 s) : Keeps mk s0 sq := by
  have := keeps_newSettings put old new s hp he hg
  rw [h] at this
  exact this

theorem keeps_enterTrial (left : BankSt) (put : Nat → Settings → State → State) (trialS : Nat) (s : State) {mk : Nat} {s0 : State}
    (hp : ∀ k c s, Keeps mk s (put k c s)) (he : mk &&& 0xFFFBFCFFF3FF = mk) (hg : Keeps mk s0 s) :
    Keeps mk s0 (enterTrial left put trialS s).1 := by
  refine Keeps.step ?_ hg
  unfold enterTrial onUpd
  refine keeps_newSettings _ _ _ _ hp (by rw [← he, Nat.and_assoc]; rfl) ?_
  refine Keeps.weaken (n := 0xFFFBFCFFF3FF) ?_ he
  refine Keeps.in_upd rfl (fun _ => rfl) (fun h => Bool.noConfusion h) ?_
  exact keeps_swapBank _ _ _ _ rfl (Keeps.refl _ _)

theorem keeps_enterTrial_eq {left : BankSt} {put : Nat → Settings → State → State} {trialS : Nat} {s : State} {mk : Nat}
    {s0 sq : State} {w} (h : enterTrial left put trialS s = (sq, w)) (hp : ∀ k c s, Keeps mk s (put k c s))
    (he : mk &&& 0xFFFBFCFFF3FF = mk) (hg : Keeps mk s0 s) : Keeps mk s0 sq := by
  have := keeps_enterTrial left put trialS s hp he hg
  rw [h] at this
  exact this

theorem keeps_bootSet (id : Nat) (c : Settings) (s : State) {mk : Nat} {s0 : State} (he : mk &&& 0xFBFFFF4047E3 = mk) (hg : Keeps mk s0 s) :
    Keeps mk s0 (bootSet id c s) := by
  refine Keeps.via ?_ he hg
  unfold bootSet
  try dsimp -zeta only
  (with_reducible apply keeps_followThreshold); exact rfl
  (with_reducible apply keeps_putSettings); exact rfl
  repeat first | with_reducible exact Keeps.refl _ _ | with_reducible assumption

theorem keeps_activateHalted (r : Req) (s : State) {mk : Nat} {s0 : State} (he : mk &&& 0xFBBBFC4041E3 = mk) (hg : Keeps mk s0 s) :
    Keeps mk s0 (activateHalted r s) := by
  refine Keeps.via ?_ he hg
  unfold activateHalted onUpd
  try dsimp -zeta only
  ((try lift_lets); intro xL; clear_value xL)
  (intro xL; clear_value xL)
  (intro xL; subst xL)
  (intro sL; with_reducible refine Keeps.cut sL ?_ ?_; rotate_left; (intro kL; clear_value sL); rotate_right; subst sL; try dsimp -zeta only)
  (with_reducible apply Keeps.upd)
  · exact fun _ => rfl
  · exact fun h => Bool.noConfusion h
  · exact fun h => Bool.noConfusion h
  · exact fun h => Bool.noConfusion h
  · exact fun _ => rfl
  · exact fun _ => rfl
  · exact fun _ => rfl
  · exact fun _ => rfl
  · exact fun h => Bool.noConfusion h
  · exact fun h => Bool.noConfusion h
  · exact fun h => Bool.noConfusion h
  · exact fun h => Bool.noConfusion h
  · exact fun h => Bool.noConfusion h
  · exact fun _ => rfl
  · exact fun h => Bool.noConfusion h
  · exact fun h => Bool.noConfusion h
  · exact fun h => Bool.noConfusion h
  · exact fun h => Bool.noConfusion h
  · exact fun h => Bool.noConfusion h
  · exact fun h => Bool.noConfusion h
  · exact fun h => Bool.noConfusion h
  · exact fun _ => rfl
  · exact fun h => Bool.noConfusion h
  · exact fun h => Bool.noConfusion h
  · exact fun h => Bool.noConfusion h
  · exact fun _ => rfl
  · exact fun _ => rfl
  · exact fun _ => rfl
  · exact fun _ => rfl
  · exact fun _ => rfl
  · exact fun _ => rfl
  · exact fun _ => rfl
  · exact fun _ => rfl
  · exact fun h => Bool.noConfusion h
  · exact fun _ => rfl
  · exact fun _ => rfl
  · exact fun _ => rfl
  · exact fun h => Bool.noConfusion h
  · exact fun _ => rfl
  · exact fun _ => rfl
  · exact fun _ => rfl
  · exact fun h => Bool.noConfusion h
  · exact fun _ => rfl
  · exact fun _ => rfl
  · exact fun _ _ h => h
  · exact fun _ h => ⟨h, rfl⟩
  · exact fun _ h => h
  ((with_reducible apply keeps_enterTrial); (intro _ _ _))
  (with_reducible apply keeps_bootSet); exact rfl
  repeat first | with_reducible exact Keeps.refl _ _ | with_reducible assumption
  exact (rfl : (_ : Nat) &&& _ = _)
  repeat first | with_reducible exact Keeps.refl _ _ | with_reducible assumption
  (with_reducible apply keeps_complete); exact rfl
  (with_reducible apply keeps_acceptN); exact rfl
  (with_reducible apply keeps_reportMode); exact rfl
  (with_reducible apply keeps_logNs); exact rfl
  repeat first | with_reducible exact Keeps.refl _ _ | with_reducible assumption

theorem keeps_actUpdActivate (r : Req) (s : State) {mk : Nat} {s0 : State} (he : mk &&& 0xFBB9FC4041E3 = mk) (hg : Keeps mk s0 s) :
    Keeps mk s0 (actUpdActivate r s) := by
  refine Keeps.via ?_ he hg
  unfold actUpdActivate onUpd
  try dsimp -zeta only
  split
  (with_reducible apply keeps_okN); exact rfl
  (with_reducible apply keeps_confirmTrial); exact rfl
  repeat first | with_reducible exact Keeps.refl _ _ | with_reducible assumption
  split
  (with_reducible apply keeps_activateHalted); exact rfl
  repeat first | with_reducible exact Keeps.refl _ _ | with_reducible assumption
  ((with_reducible apply keeps_admitReq); (intro _))
  ((try lift_lets); intro xL; clear_value xL)
  (with_reducible apply keeps_acceptN); exact rfl
  (with_reducible apply Keeps.set_upd); exact rfl
  repeat first | with_reducible exact Keeps.refl _ _ | with_reducible assumption
  exact (rfl : (_ : Nat) &&& _ = _)
  repeat first | with_reducible exact Keeps.refl _ _ | with_reducible assumption

theorem keeps_logLoadFail (cause : Nat) (item : Option Nat) (s : State) {mk : Nat} {s0 : State} (he : mk &&& 0xFFFFFFFFF7FD = mk) (hg : Keeps mk s0 s) :
    Keeps mk s0 (logLoadFail cause item s) := by
  refine Keeps.via ?_ he hg
  unfold logLoadFail
  try dsimp -zeta only
  split
  (with_reducible apply keeps_logNs); exact rfl
  repeat first | with_reducible exact Keeps.refl _ _ | with_reducible assumption
  (with_reducible apply keeps_logNs); exact rfl
  (with_reducible apply keeps_freshNat); exact rfl
  repeat first | with_reducible exact Keeps.refl _ _ | with_reducible assumption

theorem keeps_actUpdBegin (f : Nat) (r : Req) (s : State) {mk : Nat} {s0 : State} (he : mk &&& 0xFFFFFE7FF1FD = mk) (hg : Keeps mk s0 s) :
    Keeps mk s0 (actUpdBegin f r s) := by
  refine Keeps.via ?_ he hg
  unfold actUpdBegin onUpd
  try dsimp -zeta only
  ((try lift_lets); intro xL; clear_value xL)
  (intro xL; clear_value xL)
  split
  (with_reducible apply keeps_failReq); exact rfl
  (with_reducible apply keeps_logLoadFail); exact rfl
  repeat first | with_reducible exact Keeps.refl _ _ | with_reducible assumption
  (with_reducible apply keeps_failReq); exact rfl
  repeat first | with_reducible exact Keeps.refl _ _ | with_reducible assumption
  split
  (with_reducible apply keeps_ok); exact rfl
  (with_reducible apply keeps_logEv); exact rfl
  (with_reducible apply Keeps.in_upd); exact rfl
  · exact fun _ => rfl
  · exact fun _ => rfl
  (with_reducible apply keeps_norOn); exact rfl
  repeat first | with_reducible exact Keeps.refl _ _ | with_reducible assumption
  (with_reducible apply keeps_failReq); exact rfl
  (with_reducible apply keeps_logLoadFail); exact rfl
  (with_reducible apply keeps_norOn); exact rfl
  repeat first | with_reducible exact Keeps.refl _ _ | with_reducible assumption

theorem keeps_onSess (f : Session → Session) (s : State) {mk : Nat} {s0 : State} (he : mk &&& 0xFFFFFEFFFFFF = mk) (hg : Keeps mk s0 s) :
    Keeps mk s0 (onSess f s) := by
  refine Keeps.via ?_ he hg
  unfold onSess onUpd
  try dsimp -zeta only
  (with_reducible apply Keeps.in_upd); exact rfl
  · exact fun _ => rfl
  · exact fun _ => rfl
  repeat first | with_reducible exact Keeps.refl _ _ | with_reducible assumption

theorem keeps_sessionFail (cause : Nat) (item : Option Nat) (s : State) {mk : Nat} {s0 : State} (he : mk &&& 0xFFFFFEFFF7FD = mk) (hg : Keeps mk s0 s) :
    Keeps mk s0 (sessionFail cause item s) := by
  refine Keeps.via ?_ he hg
  unfold sessionFail onSess onUpd
  try dsimp -zeta only
  (with_reducible apply keeps_logLoadFail); exact rfl
  (with_reducible apply Keeps.in_upd); exact rfl
  · exact fun _ => rfl
  · exact fun _ => rfl
  repeat first | with_reducible exact Keeps.refl _ _ | with_reducible assumption

theorem keeps_actUpdChunk (f : Nat) (r : Req) (s : State) {mk : Nat} {s0 : State} (he : mk &&& 0xFFFFFE7FF1FD = mk) (hg : Keeps mk s0 s) :
    Keeps mk s0 (actUpdChunk f r s) := by
  refine Keeps.via ?_ he hg
  unfold actUpdChunk onSess onUpd
  try dsimp -zeta only
  ((try lift_lets); intro xL; clear_value xL)
  (intro xL; clear_value xL)
  (intro xL; clear_value xL)
  (intro sL; with_reducible refine Keeps.cut sL ?_ ?_; rotate_left; (intro kL; clear_value sL); rotate_right; subst sL; try dsimp -zeta only)
  (with_reducible apply Keeps.in_upd); exact rfl
  · exact fun _ => rfl
  · exact fun _ => rfl
  repeat first | with_reducible exact Keeps.refl _ _ | with_reducible assumption
  split
  (with_reducible apply keeps_failReq); exact rfl
  (with_reducible apply Keeps.in_upd); exact rfl
  · exact fun _ => rfl
  · exact fun _ => rfl
  repeat first | with_reducible exact Keeps.refl _ _ | with_reducible assumption
  split
  (with_reducible apply keeps_failReq); exact rfl
  (with_reducible apply keeps_sessionFail); exact rfl
  repeat first | with_reducible exact Keeps.refl _ _ | with_reducible assumption
  split
  (with_reducible apply keeps_ok); exact rfl
  (with_reducible apply keeps_sessionFail); exact rfl
  (with_reducible apply Keeps.in_upd); exact rfl
  · exact fun _ => rfl
  · exact fun _ => rfl
  (with_reducible apply keeps_norOn); exact rfl
  repeat first | with_reducible exact Keeps.refl _ _ | with_reducible assumption
  (with_reducible apply keeps_ok); exact rfl
  split
  (with_reducible apply Keeps.in_upd); exact rfl
  · exact fun _ => rfl
  · exact fun _ => rfl
  (with_reducible apply keeps_norOn); exact rfl
  repeat first | with_reducible exact Keeps.refl _ _ | with_reducible assumption
  (with_reducible apply keeps_norOn); exact rfl
  repeat first | with_reducible exact Keeps.refl _ _ | with_reducible assumption

theorem keeps_actUpdRollback (r : Req) (s : State) {mk : Nat} {s0 : State} (he : mk &&& 0xFFFFFCFFF1FF = mk) (hg : Keeps mk s0 s) :
    Keeps mk s0 (actUpdRollback r s) := by
  refine Keeps.via ?_ he hg
  unfold actUpdRollback onUpd
  try dsimp -zeta only
  ((with_reducible apply keeps_admitReq); (intro _))
  (with_reducible apply keeps_acceptN); exact rfl
  (with_reducible apply Keeps.in_upd); exact rfl
  · exact fun _ => rfl
  · exact fun _ => rfl
  repeat first | with_reducible exact Keeps.refl _ _ | with_reducible assumption
  exact (rfl : (_ : Nat) &&& _ = _)
  repeat first | with_reducible exact Keeps.refl _ _ | with_reducible assumption

theorem keeps_actUpdStatus (r : Req) (s : State) {mk : Nat} {s0 : State} (he : mk &&& 0xFFFFFFFFF9FF = mk) (hg : Keeps mk s0 s) :
    Keeps mk s0 (actUpdStatus r s) := by
  refine Keeps.via ?_ he hg
  unfold actUpdStatus
  try dsimp -zeta only
  ((try lift_lets); intro xL; subst xL)
  (intro xL; clear_value xL)
  (intro xL; clear_value xL)
  (intro xL; clear_value xL)
  (intro xL; clear_value xL)
  (with_reducible apply keeps_ok); exact rfl
  repeat first | with_reducible exact Keeps.refl _ _ | with_reducible assumption

theorem keeps_actUpdVerify (r : Req) (s : State) {mk : Nat} {s0 : State} (he : mk &&& 0xFFFFFEFFF9FF = mk) (hg : Keeps mk s0 s) :
    Keeps mk s0 (actUpdVerify r s) := by
  refine Keeps.via ?_ he hg
  unfold actUpdVerify onSess onUpd
  try dsimp -zeta only
  split
  (with_reducible apply keeps_failReq); exact rfl
  (with_reducible apply Keeps.in_upd); exact rfl
  · exact fun _ => rfl
  · exact fun _ => rfl
  repeat first | with_reducible exact Keeps.refl _ _ | with_reducible assumption
  (with_reducible apply keeps_acceptN); exact rfl
  (with_reducible apply Keeps.in_upd); exact rfl
  · exact fun _ => rfl
  · exact fun _ => rfl
  repeat first | with_reducible exact Keeps.refl _ _ | with_reducible assumption

theorem keeps_backSettings (put : Nat → Settings → State → State) (crcBad : List Nat) (left new : List Word) (c : Settings)
    (st : Tbl Nat) (s : State) {mk : Nat} {s0 : State}
    (hp : ∀ k c s, Keeps mk s (put k c s)) (he : mk &&& 0xFFFFFFFFFBFF = mk) (hg : Keeps mk s0 s) :
    Keeps mk s0 (backSettings put crcBad left new c st s).1 := by
  refine Keeps.step ?_ hg
  unfold backSettings
  exact Keeps.fold _ _ (fun _ _ => keeps_markSet _ _ _ (by rw [← he, Nat.and_assoc]; rfl) (hp _ _ _)) (Keeps.refl _ _)

theorem keeps_closeWindow (cause : Nat) (open_ : Nat) (s : State) {mk : Nat} {s0 : State} (he : mk &&& 0xFDFFFCCC01D1 = mk) (hg : Keeps mk s0 s) :
    Keeps mk s0 (closeWindow cause open_ s) := by
  refine Keeps.via ?_ he hg
  unfold closeWindow onUpd
  try dsimp -zeta only
  ((try lift_lets); intro sL; with_reducible refine Keeps.cut sL ?_ ?_; rotate_left; (intro kL; clear_value sL); rotate_right; subst sL; try dsimp -zeta only)
  (with_reducible apply keeps_dropAct); exact rfl
  repeat first | with_reducible exact Keeps.refl _ _ | with_reducible assumption
  (with_reducible apply keeps_deliverHeld); exact rfl
  (with_reducible apply keeps_lateContacts); exact rfl
  (with_reducible apply keeps_settleMode); exact rfl
  (with_reducible apply Keeps.in_upd); exact rfl
  · exact fun _ => rfl
  · exact fun _ => rfl
  repeat first | with_reducible exact Keeps.refl _ _ | with_reducible assumption

theorem keeps_enterSession (left : BankSt) (put : Nat → Settings → State → State) (s : State) {mk : Nat} {s0 : State}
    (hp : ∀ k c s, Keeps mk s (put k c s)) (he : mk &&& 0xFFFBFCFFF3FF = mk) (hg : Keeps mk s0 s) :
    Keeps mk s0 (enterSession left put s).1 := by
  refine Keeps.step ?_ hg
  unfold enterSession onUpd
  refine keeps_newSettings _ _ _ _ hp (by rw [← he, Nat.and_assoc]; rfl) ?_
  refine Keeps.weaken (n := 0xFFFBFCFFF3FF) ?_ he
  refine Keeps.in_upd rfl (fun _ => rfl) (fun h => Bool.noConfusion h) ?_
  exact keeps_swapBank _ _ _ _ rfl (Keeps.refl _ _)

theorem keeps_enterSession_eq {left : BankSt} {put : Nat → Settings → State → State} {s : State} {mk : Nat}
    {s0 sq : State} {w} (h : enterSession left put s = (sq, w)) (hp : ∀ k c s, Keeps mk s (put k c s))
    (he : mk &&& 0xFFFBFCFFF3FF = mk) (hg : Keeps mk s0 s) : Keeps mk s0 sq := by
  have := keeps_enterSession left put s hp he hg
  rw [h] at this
  exact this

theorem keeps_enterStandby (left : BankSt) (put : Nat → Settings → State → State) (crcBad : List Nat) (s : State) {mk : Nat} {s0 : State}
    (hp : ∀ k c s, Keeps mk s (put k c s)) (he : mk &&& 0xFFFBFCFFF3FF = mk) (hg : Keeps mk s0 s) :
    Keeps mk s0 (enterStandby left put crcBad s).1 := by
  refine Keeps.step ?_ hg
  unfold enterStandby onUpd
  refine keeps_backSettings _ _ _ _ _ _ _ hp (by rw [← he, Nat.and_assoc]; rfl) ?_
  refine Keeps.weaken (n := 0xFFFBFCFFF3FF) ?_ he
  refine Keeps.in_upd rfl (fun _ => rfl) (fun h => Bool.noConfusion h) ?_
  exact keeps_swapBank _ _ _ _ rfl (Keeps.refl _ _)

theorem keeps_enterStandby_eq {left : BankSt} {put : Nat → Settings → State → State} {crcBad : List Nat} {s : State} {mk : Nat}
    {s0 sq : State} {w} (h : enterStandby left put crcBad s = (sq, w)) (hp : ∀ k c s, Keeps mk s (put k c s))
    (he : mk &&& 0xFFFBFCFFF3FF = mk) (hg : Keeps mk s0 s) : Keeps mk s0 sq := by
  have := keeps_enterStandby left put crcBad s hp he hg
  rw [h] at this
  exact this

theorem keeps_execUpdBegin (f : Nat) (s : State) (t : State) (h : execUpdBegin f s = .next t) : Keeps 0xF7FFFE7FF1FD s t := by
  unfold execUpdBegin at h
  injection h with h
  subst h
  try dsimp -zeta only
  ((with_reducible apply keeps_serve); (intro _ _))
  (with_reducible apply keeps_actUpdBegin); exact rfl
  repeat first | with_reducible exact Keeps.refl _ _ | with_reducible assumption
  exact (rfl : (_ : Nat) &&& _ = _)
  repeat first | with_reducible exact Keeps.refl _ _ | with_reducible assumption

theorem keeps_execUpdChunk (f : Nat) (s : State) (t : State) (h : execUpdChunk f s = .next t) : Keeps 0xF7FFFE7FF1FD s t := by
  unfold execUpdChunk at h
  injection h with h
  subst h
  try dsimp -zeta only
  ((with_reducible apply keeps_serve); (intro _ _))
  (with_reducible apply keeps_actUpdChunk); exact rfl
  repeat first | with_reducible exact Keeps.refl _ _ | with_reducible assumption
  exact (rfl : (_ : Nat) &&& _ = _)
  repeat first | with_reducible exact Keeps.refl _ _ | with_reducible assumption

theorem keeps_execUpdVerify (s : State) (t : State) (h : execUpdVerify s = .next t) : Keeps 0xF7FFFEFFF9FF s t := by
  unfold execUpdVerify at h
  injection h with h
  subst h
  try dsimp -zeta only
  ((with_reducible apply keeps_serve); (intro _ _))
  (with_reducible apply keeps_actUpdVerify); exact rfl
  repeat first | with_reducible exact Keeps.refl _ _ | with_reducible assumption
  exact (rfl : (_ : Nat) &&& _ = _)
  repeat first | with_reducible exact Keeps.refl _ _ | with_reducible assumption

theorem keeps_execUpdVerifyComplete (matched : Nat) (readOk : Bool) (s : State) (t : State) (h : execUpdVerifyComplete matched readOk s = .next t) : Keeps 0xFFFFFEFFF1FD s t := by
  unfold execUpdVerifyComplete at h
  injection h with h
  subst h
  unfold onSess onUpd
  try dsimp -zeta only
  ((try lift_lets); intro xL; clear_value xL)
  (intro sL; with_reducible refine Keeps.cut sL ?_ ?_; rotate_left; (intro kL; clear_value sL); rotate_right; subst sL; try dsimp -zeta only)
  (with_reducible apply Keeps.in_upd); exact rfl
  · exact fun _ => rfl
  · exact fun _ => rfl
  repeat first | with_reducible exact Keeps.refl _ _ | with_reducible assumption
  split
  repeat first | with_reducible exact Keeps.refl _ _ | with_reducible assumption
  split
  (with_reducible apply keeps_completeFail); exact rfl
  (with_reducible apply keeps_sessionFail); exact rfl
  repeat first | with_reducible exact Keeps.refl _ _ | with_reducible assumption
  split
  (with_reducible apply keeps_completeFail); exact rfl
  (with_reducible apply keeps_sessionFail); exact rfl
  repeat first | with_reducible exact Keeps.refl _ _ | with_reducible assumption
  (with_reducible apply keeps_complete); exact rfl
  (with_reducible apply keeps_logEv); exact rfl
  (with_reducible apply Keeps.in_upd); exact rfl
  · exact fun _ => rfl
  · exact fun _ => rfl
  repeat first | with_reducible exact Keeps.refl _ _ | with_reducible assumption

theorem keeps_execUpdActivate (s : State) (t : State) (h : execUpdActivate s = .next t) : Keeps 0xF3B9FC4041E3 s t := by
  unfold execUpdActivate at h
  injection h with h
  subst h
  try dsimp -zeta only
  ((with_reducible apply keeps_serve); (intro _ _))
  (with_reducible apply keeps_actUpdActivate); exact rfl
  repeat first | with_reducible exact Keeps.refl _ _ | with_reducible assumption
  exact (rfl : (_ : Nat) &&& _ = _)
  repeat first | with_reducible exact Keeps.refl _ _ | with_reducible assumption

theorem keeps_execUpdStatus (s : State) (t : State) (h : execUpdStatus s = .next t) : Keeps 0xF7FFFFFFF9FF s t := by
  unfold execUpdStatus at h
  injection h with h
  subst h
  try dsimp -zeta only
  ((with_reducible apply keeps_serve); (intro _ _))
  (with_reducible apply keeps_actUpdStatus); exact rfl
  repeat first | with_reducible exact Keeps.refl _ _ | with_reducible assumption
  exact (rfl : (_ : Nat) &&& _ = _)
  repeat first | with_reducible exact Keeps.refl _ _ | with_reducible assumption

theorem keeps_execUpdRollback (s : State) (t : State) (h : execUpdRollback s = .next t) : Keeps 0xF7FFFCFFF1FF s t := by
  unfold execUpdRollback at h
  injection h with h
  subst h
  try dsimp -zeta only
  ((with_reducible apply keeps_serve); (intro _ _))
  (with_reducible apply keeps_actUpdRollback); exact rfl
  repeat first | with_reducible exact Keeps.refl _ _ | with_reducible assumption
  exact (rfl : (_ : Nat) &&& _ = _)
  repeat first | with_reducible exact Keeps.refl _ _ | with_reducible assumption

theorem keeps_execUpdAbort (s : State) (t : State) (h : execUpdAbort s = .next t) : Keeps 0xF7FFFCFFF1DD s t := by
  unfold execUpdAbort at h
  injection h with h
  subst h
  try dsimp -zeta only
  ((with_reducible apply keeps_serve); (intro _ _))
  (with_reducible apply keeps_actUpdAbort); exact rfl
  repeat first | with_reducible exact Keeps.refl _ _ | with_reducible assumption
  exact (rfl : (_ : Nat) &&& _ = _)
  repeat first | with_reducible exact Keeps.refl _ _ | with_reducible assumption

theorem keeps_execPreparationComplete (s : State) (t : State) (h : execPreparationComplete s = .next t) : Keeps 0xFFFFFEFFF7DF s t := by
  unfold execPreparationComplete at h
  injection h with h
  subst h
  unfold onUpd
  try dsimp -zeta only
  split
  repeat first | with_reducible exact Keeps.refl _ _ | with_reducible assumption
  ((try lift_lets); intro xL; clear_value xL)
  (intro xL; clear_value xL)
  split
  repeat first | with_reducible exact Keeps.refl _ _ | with_reducible assumption
  split
  ((with_reducible apply keeps_tlPost); (with_reducible assumption); exact rfl)
  (with_reducible apply Keeps.in_upd); exact rfl
  · exact fun _ => rfl
  · exact fun _ => rfl
  repeat first | with_reducible exact Keeps.refl _ _ | with_reducible assumption
  (with_reducible apply keeps_tlFull); exact rfl
  repeat first | with_reducible exact Keeps.refl _ _ | with_reducible assumption

theorem keeps_execPreparationDeadline (s : State) (t : State) (h : execPreparationDeadline s = .next t) : Keeps 0xFFFFFCFFF1DD s t := by
  unfold execPreparationDeadline at h
  injection h with h
  subst h
  try dsimp -zeta only
  split
  repeat first | with_reducible exact Keeps.refl _ _ | with_reducible assumption
  split
  repeat first | with_reducible exact Keeps.refl _ _ | with_reducible assumption
  split
  repeat first | with_reducible exact Keeps.refl _ _ | with_reducible assumption
  (with_reducible apply keeps_emptyBank); exact rfl
  (with_reducible apply keeps_endSession); exact rfl
  (with_reducible apply keeps_endUnopened); exact rfl
  repeat first | with_reducible exact Keeps.refl _ _ | with_reducible assumption

theorem keeps_execHandoverOpen (s : State) (t : State) (h : execHandoverOpen s = .next t) : Keeps 0xFFFFFEFFF5D3 s t := by
  unfold execHandoverOpen at h
  injection h with h
  subst h
  unfold onUpd
  try dsimp -zeta only
  ((with_reducible apply keeps_tlFire); (intro k e g hfg s; dsimp only at hfg; split at hfg <;> cases hfg <;> try dsimp -zeta only))
  split
  repeat first | with_reducible exact Keeps.refl _ _ | with_reducible assumption
  (with_reducible apply keeps_settleMode); exact rfl
  split
  (with_reducible apply Keeps.in_upd); exact rfl
  · exact fun _ => rfl
  · exact fun _ => rfl
  repeat first | with_reducible exact Keeps.refl _ _ | with_reducible assumption
  (with_reducible apply Keeps.in_upd); exact rfl
  · exact fun _ => rfl
  · exact fun _ => rfl
  repeat first | with_reducible exact Keeps.refl _ _ | with_reducible assumption
  exact (rfl : (_ : Nat) &&& _ = _)
  repeat first | with_reducible exact Keeps.refl _ _ | with_reducible assumption

theorem keeps_execEngineChangeover (n : Nat) (s : State) (t : State) (h : execEngineChangeover n s = .next t) : Keeps 0xFFFFFEFFFFFF s t := by
  unfold execEngineChangeover at h
  injection h with h
  subst h
  unfold onUpd
  try dsimp -zeta only
  split
  (with_reducible apply Keeps.in_upd); exact rfl
  · exact fun _ => rfl
  · exact fun _ => rfl
  repeat first | with_reducible exact Keeps.refl _ _ | with_reducible assumption

theorem keeps_execFirmwareReady (s : State) (t : State) (h : execFirmwareReady s = .next t) : Keeps 0xFFFFFEFFFFFF s t := by
  unfold execFirmwareReady at h
  injection h with h
  subst h
  unfold onUpd
  try dsimp -zeta only
  split
  repeat first | with_reducible exact Keeps.refl _ _ | with_reducible assumption
  split
  (with_reducible apply Keeps.in_upd); exact rfl
  · exact fun _ => rfl
  · exact fun _ => rfl
  repeat first | with_reducible exact Keeps.refl _ _ | with_reducible assumption

theorem keeps_execHandoverClose (crcBad : List Nat) (s : State) (t : State) (h : execHandoverClose crcBad s = .next t) : Keeps 0xF9FBFC4001C1 s t := by
  unfold execHandoverClose at h
  injection h with h
  subst h
  unfold onUpd
  try dsimp -zeta only
  ((try lift_lets); intro xL; clear_value xL)
  (intro xL; clear_value xL)
  (intro xL; clear_value xL)
  (intro xL; clear_value xL)
  (intro sL; with_reducible refine Keeps.cut sL ?_ ?_; rotate_left; (intro kL; clear_value sL); rotate_right; subst sL; try dsimp -zeta only)
  (with_reducible apply Keeps.in_upd); exact rfl
  · intro _; with_reducible rfl
  · exact fun h => Bool.noConfusion h
  (with_reducible apply keeps_closeWindow); exact rfl
  repeat first | with_reducible exact Keeps.refl _ _ | with_reducible assumption
  split
  repeat first | with_reducible exact Keeps.refl _ _ | with_reducible assumption
  ((try lift_lets); intro sL; with_reducible refine Keeps.cut sL ?_ ?_; rotate_left; (intro kL; clear_value sL); rotate_right; subst sL; try dsimp -zeta only)
  (with_reducible apply Keeps.in_upd); exact rfl
  · intro _; with_reducible rfl
  · exact fun h => Bool.noConfusion h
  ((with_reducible apply keeps_enterTrial); (intro _ _ _))
  (with_reducible apply keeps_liveSet); exact rfl
  repeat first | with_reducible exact Keeps.refl _ _ | with_reducible assumption
  exact (rfl : (_ : Nat) &&& _ = _)
  (with_reducible apply keeps_closeWindow); exact rfl
  repeat first | with_reducible exact Keeps.refl _ _ | with_reducible assumption
  split
  repeat first | with_reducible exact Keeps.refl _ _ | with_reducible assumption
  split
  split
  repeat first | with_reducible exact Keeps.refl _ _ | with_reducible assumption
  split
  (with_reducible apply keeps_complete); exact rfl
  (with_reducible apply keeps_logEv); exact rfl
  ((with_reducible apply keeps_enterStandby); (intro _ _ _))
  (with_reducible apply keeps_liveSet); exact rfl
  repeat first | with_reducible exact Keeps.refl _ _ | with_reducible assumption
  exact (rfl : (_ : Nat) &&& _ = _)
  (with_reducible apply keeps_closeWindow); exact rfl
  repeat first | with_reducible exact Keeps.refl _ _ | with_reducible assumption
  (with_reducible apply keeps_complete); exact rfl
  (with_reducible apply keeps_logNs); exact rfl
  repeat first | with_reducible exact Keeps.refl _ _ | with_reducible assumption
  split
  repeat first | with_reducible exact Keeps.refl _ _ | with_reducible assumption
  (with_reducible apply keeps_completeFail); exact rfl
  (with_reducible apply keeps_logNs); exact rfl
  repeat first | with_reducible exact Keeps.refl _ _ | with_reducible assumption

theorem keeps_execHandoverTimeout (resumes : Bool) (crcBad : List Nat) (s : State) (t : State) (h : execHandoverTimeout resumes crcBad s = .next t) : Keeps 0xE122FC000001 s t := by
  unfold execHandoverTimeout at h
  injection h with h
  subst h
  unfold onUpd
  try dsimp -zeta only
  ((try lift_lets); intro xL; clear_value xL)
  split
  repeat first | with_reducible exact Keeps.refl _ _ | with_reducible assumption
  split
  repeat first | with_reducible exact Keeps.refl _ _ | with_reducible assumption
  split
  (with_reducible apply keeps_logEv); exact rfl
  ((with_reducible apply keeps_enterStandby); (intro _ _ _))
  (with_reducible apply keeps_bootSet); exact rfl
  repeat first | with_reducible exact Keeps.refl _ _ | with_reducible assumption
  exact (rfl : (_ : Nat) &&& _ = _)
  (with_reducible apply keeps_internalReset); exact rfl
  repeat first | with_reducible exact Keeps.refl _ _ | with_reducible assumption
  split
  (with_reducible apply Keeps.in_upd); exact rfl
  · exact fun _ => rfl
  · exact fun h => Bool.noConfusion h
  repeat first | with_reducible exact Keeps.refl _ _ | with_reducible assumption
  (with_reducible apply keeps_internalReset); exact rfl
  repeat first | with_reducible exact Keeps.refl _ _ | with_reducible assumption

theorem keeps_execTrialConfirm (s : State) (t : State) (h : execTrialConfirm s = .next t) : Keeps 0xFFFDFEFFF7FF s t := by
  unfold execTrialConfirm at h
  injection h with h
  subst h
  try dsimp -zeta only
  split
  (with_reducible apply keeps_confirmTrial); exact rfl
  repeat first | with_reducible exact Keeps.refl _ _ | with_reducible assumption

end Sys2Proof.Laws
end

