-- ==== Sys2Proof/Laws/Frames/Take.lean ====
section
/-!
SUPPORT. Frames of the operations of Machine/Take.lean.
-/
set_option Elab.async false
namespace Sys2Proof.Laws
open Sys2Proof Sys2Proof.Machine

theorem keeps_stage (r : Req) (o : CfgSet) (s : State) {mk : Nat} {s0 : State} (he : mk &&& 0xFFFFFFFFF9FF = mk) (hg : Keeps mk s0 s) :
    Keeps mk s0 (stage r o s) := by
  refine Keeps.via ?_ he hg
  unfold stage
  try dsimp -zeta only
  ((try lift_lets); intro xL; subst xL; try dsimp -zeta only)
  (intro xL; clear_value xL)
  split
  (with_reducible apply keeps_failReq); exact rfl
  (with_reducible apply keeps_onPort); exact rfl
  · exact fun h => h
  repeat first | with_reducible exact Keeps.refl _ _ | with_reducible assumption
  (with_reducible apply keeps_endOrdered); exact rfl
  (with_reducible apply keeps_accept); exact rfl
  (with_reducible apply keeps_onPort); exact rfl
  · exact fun h => h
  repeat first | with_reducible exact Keeps.refl _ _ | with_reducible assumption

theorem keeps_beginReq (r : Req) (s : State) {mk : Nat} {s0 : State} (he : mk &&& 0xF7FFFFFFF9FF = mk) (hg : Keeps mk s0 s) :
    Keeps mk s0 (beginReq r s) := by
  refine Keeps.via ?_ he hg
  unfold beginReq
  try dsimp -zeta only
  ((try lift_lets); intro xL; subst xL)
  (intro sL; with_reducible refine Keeps.cut sL ?_ ?_; rotate_left; (intro kL; clear_value sL); rotate_right; subst sL; try dsimp -zeta only)
  (with_reducible apply Keeps.set_cmd); exact rfl
  repeat first | with_reducible exact Keeps.refl _ _ | with_reducible assumption
  split
  (with_reducible apply keeps_failReq); exact rfl
  repeat first | with_reducible exact Keeps.refl _ _ | with_reducible assumption
  split
  split
  (with_reducible apply keeps_stage); exact rfl
  repeat first | with_reducible exact Keeps.refl _ _ | with_reducible assumption

theorem keeps_releaseLock (m : RMsg) (s : State) {mk : Nat} {s0 : State} (he : mk &&& 0xFFFFFFDFFFFF = mk) (hg : Keeps mk s0 s) :
    Keeps mk s0 (releaseLock m s) := by
  refine Keeps.via ?_ he hg
  unfold releaseLock
  try dsimp -zeta only
  split
  split
  (with_reducible apply keeps_canUnlock); exact rfl
  repeat first | with_reducible exact Keeps.refl _ _ | with_reducible assumption

theorem keeps_discardAll (p : Fin 4) (r : Nat) (s : State) {mk : Nat} {s0 : State} (he : mk &&& 0xFFFFFFDFFDFF = mk) (hg : Keeps mk s0 s) :
    Keeps mk s0 (discardAll p r s) := by
  refine Keeps.via ?_ he hg
  unfold discardAll
  try dsimp -zeta only
  ((with_reducible apply Keeps.fold); (intro _ _))
  (with_reducible apply keeps_releaseLock); exact rfl
  repeat first | with_reducible exact Keeps.refl _ _ | with_reducible assumption
  (with_reducible apply keeps_onPort); exact rfl
  · exact fun h => fits_refresh (fits_setRet h fun _ => Nat.zero_le _)
  repeat first | with_reducible exact Keeps.refl _ _ | with_reducible assumption

theorem keeps_discardHead (p : Fin 4) (r : Nat) (s : State) {mk : Nat} {s0 : State} (he : mk &&& 0xFFFFFFDFFDFF = mk) (hg : Keeps mk s0 s) :
    Keeps mk s0 (discardHead p r s) := by
  refine Keeps.via ?_ he hg
  unfold discardHead
  try dsimp -zeta only
  split
  repeat first | with_reducible exact Keeps.refl _ _ | with_reducible assumption
  (with_reducible apply keeps_releaseLock); exact rfl
  (with_reducible apply keeps_onPort); exact rfl
  · exact fun h => fits_dropHead h
  repeat first | with_reducible exact Keeps.refl _ _ | with_reducible assumption

theorem keeps_popLock (r : Nat) (q : PortSt) (s : State) {mk : Nat} {s0 : State} (he : mk &&& 0xFFFFFFDFFFFF = mk) (hg : Keeps mk s0 s) :
    Keeps mk s0 (popLock r q s) := by
  refine Keeps.via ?_ he hg
  unfold popLock
  try dsimp -zeta only
  ((try lift_lets); intro xL; clear_value xL)
  split
  repeat first | with_reducible exact Keeps.refl _ _ | with_reducible assumption
  split
  repeat first | with_reducible exact Keeps.refl _ _ | with_reducible assumption
  (with_reducible apply keeps_releaseLock); exact rfl
  repeat first | with_reducible exact Keeps.refl _ _ | with_reducible assumption

theorem keeps_execRspDiscardHead (p : Fin 4) (r : Fin 2) (s : State) (t : State) (h : execRspDiscardHead p r s = .next t) : Keeps 0xFFFFFFDFFDFF s t := by
  unfold execRspDiscardHead at h
  injection h with h
  subst h
  try dsimp -zeta only
  split
  (with_reducible apply keeps_onPort); exact rfl
  · exact fun h => h
  (with_reducible apply keeps_discardHead); exact rfl
  repeat first | with_reducible exact Keeps.refl _ _ | with_reducible assumption

theorem keeps_execRspDiscardAll (p : Fin 4) (r : Fin 2) (s : State) (t : State) (h : execRspDiscardAll p r s = .next t) : Keeps 0xFFFFFFDFFDFF s t := by
  unfold execRspDiscardAll at h
  injection h with h
  subst h
  try dsimp -zeta only
  split
  (with_reducible apply keeps_onPort); exact rfl
  · exact fun h => h
  (with_reducible apply keeps_discardAll); exact rfl
  repeat first | with_reducible exact Keeps.refl _ _ | with_reducible assumption

theorem keeps_flushPort (p : Fin 4) (s : State) {mk : Nat} {s0 : State} (he : mk &&& 0xFFFFFDDF71DF = mk) (hg : Keeps mk s0 s) :
    Keeps mk s0 (flushPort p s) := by
  refine Keeps.via ?_ he hg
  unfold flushPort
  try dsimp -zeta only
  ((try lift_lets); intro xL; clear_value xL)
  (intro xL; clear_value xL)
  (intro sL; with_reducible refine Keeps.cut sL ?_ ?_; rotate_left; (intro kL; clear_value sL); rotate_right; subst sL; try dsimp -zeta only)
  ((with_reducible apply Keeps.fold); (intro _ _))
  (with_reducible apply keeps_releaseLock); exact rfl
  repeat first | with_reducible exact Keeps.refl _ _ | with_reducible assumption
  (with_reducible apply keeps_onPort); exact rfl
  · exact fun _ => ⟨Nat.zero_le _, Nat.zero_le _⟩
  repeat first | with_reducible exact Keeps.refl _ _ | with_reducible assumption
  (with_reducible apply keeps_endFreeze); exact rfl
  (with_reducible apply keeps_dropSets); exact rfl
  (with_reducible apply Keeps.set_txn); exact rfl
  (with_reducible apply keeps_logNs); exact rfl
  repeat first | with_reducible exact Keeps.refl _ _ | with_reducible assumption

theorem keeps_execPortFlush (p : Fin 4) (s : State) (t : State) (h : execPortFlush p s = .next t) : Keeps 0xFFFFFDDF71DF s t := by
  unfold execPortFlush at h
  injection h with h
  subst h
  try dsimp -zeta only
  split
  (with_reducible apply keeps_onPort); exact rfl
  · exact fun h => h
  (with_reducible apply keeps_flushPort); exact rfl
  repeat first | with_reducible exact Keeps.refl _ _ | with_reducible assumption

theorem keeps_writeReg (p : Fin 4) (off : Nat) (w : Word) (s : State) {mk : Nat} {s0 : State} (he : mk &&& 0xFFFFFDCF71D3 = mk) (hg : Keeps mk s0 s) :
    Keeps mk s0 (writeReg p off w s) := by
  refine Keeps.via ?_ he hg
  unfold writeReg
  try dsimp -zeta only
  ((try lift_lets); intro sL; with_reducible refine Keeps.cut sL ?_ ?_; rotate_left; (intro kL; clear_value sL); rotate_right; subst sL; try dsimp -zeta only)
  (with_reducible apply keeps_onPort); exact rfl
  · exact fun h => h
  repeat first | with_reducible exact Keeps.refl _ _ | with_reducible assumption
  split
  split
  (with_reducible apply keeps_flushPort); exact rfl
  repeat first | with_reducible exact Keeps.refl _ _ | with_reducible assumption
  split
  (with_reducible apply keeps_onPort); exact rfl
  · exact fun h => h
  repeat first | with_reducible exact Keeps.refl _ _ | with_reducible assumption
  split
  (with_reducible apply keeps_onPort); exact rfl
  · exact fun h => h
  repeat first | with_reducible exact Keeps.refl _ _ | with_reducible assumption
  split
  split
  (with_reducible apply keeps_onPort); exact rfl
  · exact fun h => fits_pushWord h
  repeat first | with_reducible exact Keeps.refl _ _ | with_reducible assumption
  split
  (with_reducible apply keeps_writeCommit); exact rfl
  repeat first | with_reducible exact Keeps.refl _ _ | with_reducible assumption
  split
  split
  (with_reducible apply keeps_discardAll); exact rfl
  repeat first | with_reducible exact Keeps.refl _ _ | with_reducible assumption
  split
  (with_reducible apply keeps_discardHead); exact rfl
  repeat first | with_reducible exact Keeps.refl _ _ | with_reducible assumption

theorem keeps_takeMsg (p : Fin 4) (k : Nat) (s : State) {mk : Nat} {s0 : State} (he : mk &&& 0xF7FFFFFFF9FF = mk) (hg : Keeps mk s0 s) :
    Keeps mk s0 (takeMsg p k s) := by
  refine Keeps.via ?_ he hg
  unfold takeMsg
  try dsimp -zeta only
  ((try lift_lets); intro xL; clear_value xL)
  (intro xL; clear_value xL)
  (intro xL; clear_value xL)
  (intro xL; clear_value xL)
  (intro xL; clear_value xL)
  (intro xL; subst xL)
  (intro sL; with_reducible refine Keeps.cut sL ?_ ?_; rotate_left; (intro kL; clear_value sL); rotate_right; subst sL; try dsimp -zeta only)
  (with_reducible apply keeps_onPort); exact rfl
  · exact fun h => h
  split
  split
  (with_reducible apply Keeps.set_cmd); exact rfl
  repeat first | with_reducible exact Keeps.refl _ _ | with_reducible assumption
  (with_reducible apply Keeps.set_cmd); exact rfl
  repeat first | with_reducible exact Keeps.refl _ _ | with_reducible assumption
  split
  (with_reducible apply Keeps.set_cmd); exact rfl
  repeat first | with_reducible exact Keeps.refl _ _ | with_reducible assumption
  (with_reducible apply Keeps.set_cmd); exact rfl
  repeat first | with_reducible exact Keeps.refl _ _ | with_reducible assumption
  split
  (with_reducible apply keeps_beginReq); exact rfl
  repeat first | with_reducible exact Keeps.refl _ _ | with_reducible assumption

theorem keeps_execRequestTake (s : State) (t : State) (h : execRequestTake s = .next t) : Keeps 0xF7FFFFFFF9FF s t := by
  unfold execRequestTake at h
  injection h with h
  subst h
  try dsimp -zeta only
  ((try lift_lets); intro sL; with_reducible refine Keeps.cut sL ?_ ?_; rotate_left; (intro kL; clear_value sL); rotate_right; subst sL; try dsimp -zeta only)
  (with_reducible apply Keeps.set_ports); exact rfl
  · exact fun k hk => fits_map (fun _ h => fits_judge h) k hk
  repeat first | with_reducible exact Keeps.refl _ _ | with_reducible assumption
  split
  split
  (with_reducible apply keeps_takeMsg); exact rfl
  repeat first | with_reducible exact Keeps.refl _ _ | with_reducible assumption
  split
  (with_reducible apply keeps_takeMsg); exact rfl
  repeat first | with_reducible exact Keeps.refl _ _ | with_reducible assumption

theorem keeps_execOrderedExecutionStart (s : State) (t : State) (h : execOrderedExecutionStart s = .next t) : Keeps 0xF7FFFFFFF9FF s t := by
  unfold execOrderedExecutionStart at h
  injection h with h
  subst h
  try dsimp -zeta only
  ((try lift_lets); intro xL; subst xL; try dsimp -zeta only)
  (intro xL; subst xL)
  split
  repeat first | with_reducible exact Keeps.refl _ _ | with_reducible assumption
  split
  (with_reducible apply keeps_beginReq); exact rfl
  (with_reducible apply Keeps.set_cmd); exact rfl
  repeat first | with_reducible exact Keeps.refl _ _ | with_reducible assumption

theorem keeps_stagedView (o : CfgSet) (s : State) {mk : Nat} {s0 : State} (he : mk &&& 0xFFFFFFFDFFFF = mk) (hg : Keeps mk s0 s) :
    Keeps mk s0 (stagedView o s) := by
  refine Keeps.via ?_ he hg
  unfold stagedView
  try dsimp -zeta only
  ((with_reducible apply Keeps.fold); (intro _ _))
  split
  (with_reducible apply keeps_keepChunk); exact rfl
  repeat first | with_reducible exact Keeps.refl _ _ | with_reducible assumption

end Sys2Proof.Laws
end

