-- ==== Sys2Proof/Laws/Frames/Tick.lean ====
section
/-!
SUPPORT. Frames of the operations of Machine/Tick.lean.
-/
set_option Elab.async false
namespace Sys2Proof.Laws
open Sys2Proof Sys2Proof.Machine

theorem keeps_listenTick (s : State) {mk : Nat} {s0 : State} (he : mk &&& 0xFFFFFFFFEFFF = mk) (hg : Keeps mk s0 s) :
    Keeps mk s0 (listenTick s) := by
  refine Keeps.via ?_ he hg
  unfold listenTick
  try dsimp -zeta only
  ((try lift_lets); intro xL; clear_value xL)
  (with_reducible apply Keeps.set_rad); exact rfl
  repeat first | with_reducible exact Keeps.refl _ _ | with_reducible assumption

theorem keeps_phrTick (s : State) {mk : Nat} {s0 : State} (he : mk &&& 0xFFFFFFFFEFFF = mk) (hg : Keeps mk s0 s) :
    Keeps mk s0 (phrTick s) := by
  refine Keeps.via ?_ he hg
  unfold phrTick
  try dsimp -zeta only
  ((try lift_lets); intro xL; clear_value xL)
  (with_reducible apply Keeps.set_rad); exact rfl
  repeat first | with_reducible exact Keeps.refl _ _ | with_reducible assumption

theorem keeps_rtcTick (s : State) {mk : Nat} {s0 : State} (he : mk &&& 0xFFFFFFFFFF7D = mk) (hg : Keeps mk s0 s) :
    Keeps mk s0 (rtcTick s) := by
  refine Keeps.via ?_ he hg
  unfold rtcTick
  try dsimp -zeta only
  ((try lift_lets); intro xL; subst xL)
  (intro xL; subst xL)
  split
  repeat first | with_reducible exact Keeps.refl _ _ | with_reducible assumption
  split
  (with_reducible apply Keeps.set_clk); exact rfl
  · exact fun h => h
  repeat first | with_reducible exact Keeps.refl _ _ | with_reducible assumption
  (with_reducible apply keeps_crystalTick); exact rfl
  (with_reducible apply Keeps.set_clk); exact rfl
  · exact fun h => h
  repeat first | with_reducible exact Keeps.refl _ _ | with_reducible assumption

theorem keeps_trialTick (s : State) {mk : Nat} {s0 : State} (he : mk &&& 0xFFFFFEFFFFFF = mk) (hg : Keeps mk s0 s) :
    Keeps mk s0 (trialTick s) := by
  refine Keeps.via ?_ he hg
  unfold trialTick
  try dsimp -zeta only
  ((try lift_lets); intro xL; subst xL)
  split
  (with_reducible apply Keeps.in_upd); exact rfl
  · exact fun _ => rfl
  · exact fun _ => rfl
  repeat first | with_reducible exact Keeps.refl _ _ | with_reducible assumption

theorem keeps_ttTick (s : State) {mk : Nat} {s0 : State} (he : mk &&& 0xBFF7FFFFFFED = mk) (hg : Keeps mk s0 s) :
    Keeps mk s0 (ttTick s) := by
  refine Keeps.via ?_ he hg
  unfold ttTick
  split
  · dsimp only
    have k1 : ∀ (n : Nat) x, x.running = s.tt.running → x.reserve = s.tt.reserve →
        Keeps 0xBFF7FFFFFFED s { s with clk := { s.clk with ttAcc := n % ttUnit }, tt := x } :=
      fun n x h1 h2 => Keeps.count_tt (s := { s with clk := { s.clk with ttAcc := n % ttUnit } }) rfl (fun h => Bool.noConfusion h)
        (fun _ => h1) (fun _ => h2) (Keeps.set_clk rfl (fun _ => Nat.mod_lt _ (by decide)) (Keeps.refl _ _))
    have k2 : ∀ x : Tether, x.slewTick.running = x.running ∧ x.slewTick.reserve = x.reserve := by
      intro x
      unfold Tether.slewTick
      split
      · dsimp only
        split <;> exact ⟨rfl, rfl⟩
      · exact ⟨rfl, rfl⟩
    exact k1 _ _ (k2 _).1 (k2 _).2
  · exact Keeps.refl _ _

theorem keeps_tick (s : State) {mk : Nat} {s0 : State} (he : mk &&& 0xBFF7FEFFCF6D = mk) (hg : Keeps mk s0 s) :
    Keeps mk s0 (tick s) := by
  refine Keeps.via ?_ he hg
  unfold tick
  try dsimp -zeta only
  ((try lift_lets); intro sL; with_reducible refine Keeps.cut sL ?_ ?_; rotate_left; (intro kL; clear_value sL); rotate_right; subst sL; try dsimp -zeta only)
  (with_reducible apply keeps_stampAir); exact rfl
  (with_reducible apply keeps_phrTick); exact rfl
  (with_reducible apply keeps_listenTick); exact rfl
  (with_reducible apply keeps_trialTick); exact rfl
  (with_reducible apply keeps_rtcTick); exact rfl
  (with_reducible apply keeps_ttTick); exact rfl
  repeat first | with_reducible exact Keeps.refl _ _ | with_reducible assumption
  (with_reducible apply Keeps.set_clk); exact rfl
  · exact fun h => h
  repeat first | with_reducible exact Keeps.refl _ _ | with_reducible assumption

end Sys2Proof.Laws
end

