-- ==== Sys2Proof/Laws/Frames/Window.lean ====
section
/-!
SUPPORT. Frames of the operations of Machine/Window.lean.
-/
set_option Elab.async false
namespace Sys2Proof.Laws
open Sys2Proof Sys2Proof.Machine

theorem keeps_readSnap (p : Fin 4) (s : State) {mk : Nat} {s0 : State} (he : mk &&& 0xFFFFFFFFFDFF = mk) (hg : Keeps mk s0 s) :
    Keeps mk s0 (readSnap p s).2 := by
  refine Keeps.via ?_ he hg
  unfold readSnap
  try dsimp -zeta only
  (with_reducible apply keeps_onPort); exact rfl
  · exact fun h => h
  repeat first | with_reducible exact Keeps.refl _ _ | with_reducible assumption

theorem keeps_readSnap_eq {p : Fin 4} {s : State} {mk : Nat} {s0 sq : State} {w} (hq : readSnap p s = (w, sq)) (he : mk &&& 0xFFFFFFFFFDFF = mk) (hg : Keeps mk s0 s) :
    Keeps mk s0 sq := by
  have := keeps_readSnap (mk := mk) (s0 := s0) p s he hg
  rw [hq] at this
  exact this

theorem keeps_readShadow (p : Fin 4) (i : Nat) (s : State) {mk : Nat} {s0 : State} (he : mk &&& 0xFFFFFFFFFEFF = mk) (hg : Keeps mk s0 s) :
    Keeps mk s0 (readShadow p i s).2 := by
  refine Keeps.via ?_ he hg
  unfold readShadow
  try dsimp -zeta only
  (with_reducible apply Keeps.set_shadow); exact rfl
  repeat first | with_reducible exact Keeps.refl _ _ | with_reducible assumption

theorem keeps_readShadow_eq {p : Fin 4} {i : Nat} {s : State} {mk : Nat} {s0 sq : State} {w} (hq : readShadow p i s = (w, sq)) (he : mk &&& 0xFFFFFFFFFEFF = mk) (hg : Keeps mk s0 s) :
    Keeps mk s0 sq := by
  have := keeps_readShadow (mk := mk) (s0 := s0) p i s he hg
  rw [hq] at this
  exact this

theorem keeps_readPop (p : Fin 4) (r : Nat) (s : State) {mk : Nat} {s0 : State} (he : mk &&& 0xFFFFFFDFFDFF = mk) (hg : Keeps mk s0 s) :
    Keeps mk s0 (readPop p r s).2 := by
  refine Keeps.via ?_ he hg
  unfold readPop
  have k := keeps_popLock r (s.ports.get p) s (mk := 0xFFFFFFDFFFFF) rfl (Keeps.refl _ s)
  have hp : (popLock r (s.ports.get p) s).ports = s.ports := k.get 9 rfl
  have hf : Fits ((popLock r (s.ports.get p) s).ports.get p) → Fits (popWord r (s.ports.get p)).1 := by
    rw [hp]; exact fun x => fits_popWord x
  exact keeps_onPort _ _ _ rfl hf (k.weaken rfl)

theorem keeps_readPop_eq {p : Fin 4} {r : Nat} {s : State} {mk : Nat} {s0 sq : State} {w} (hq : readPop p r s = (w, sq)) (he : mk &&& 0xFFFFFFDFFDFF = mk) (hg : Keeps mk s0 s) :
    Keeps mk s0 sq := by
  have := keeps_readPop (mk := mk) (s0 := s0) p r s he hg
  rw [hq] at this
  exact this

theorem keeps_readFull (p : Fin 4) (off : Nat) (s : State) {mk : Nat} {s0 : State} (he : mk &&& 0xFFFFFFDFFCFF = mk) (hg : Keeps mk s0 s) :
    Keeps mk s0 (readFull p off s).2 := by
  refine Keeps.via ?_ he hg
  unfold readFull
  try dsimp -zeta only
  split
  repeat first | with_reducible exact Keeps.refl _ _ | with_reducible assumption
  split
  (with_reducible apply keeps_readSnap); exact rfl
  repeat first | with_reducible exact Keeps.refl _ _ | with_reducible assumption
  split
  (with_reducible apply keeps_readShadow); exact rfl
  repeat first | with_reducible exact Keeps.refl _ _ | with_reducible assumption
  split
  (with_reducible apply keeps_readPop); exact rfl
  repeat first | with_reducible exact Keeps.refl _ _ | with_reducible assumption
  split
  (with_reducible apply keeps_readPop); exact rfl
  repeat first | with_reducible exact Keeps.refl _ _ | with_reducible assumption

theorem keeps_readFull_eq {p : Fin 4} {off : Nat} {s : State} {mk : Nat} {s0 sq : State} {w} (hq : readFull p off s = (w, sq)) (he : mk &&& 0xFFFFFFDFFCFF = mk) (hg : Keeps mk s0 s) :
    Keeps mk s0 sq := by
  have := keeps_readFull (mk := mk) (s0 := s0) p off s he hg
  rw [hq] at this
  exact this

theorem keeps_readLane (p : Fin 4) (off : Nat) (lane : Lane) (s : State) {mk : Nat} {s0 : State} (he : mk &&& 0xFFFFFFDFFCFF = mk) (hg : Keeps mk s0 s) :
    Keeps mk s0 (readLane p off lane s) := by
  refine Keeps.via ?_ he hg
  unfold readLane
  try dsimp -zeta only
  split
  repeat first | with_reducible exact Keeps.refl _ _ | with_reducible assumption
  split
  (with_reducible apply keeps_onPort); exact rfl
  · exact fun h => h
  (with_reducible apply keeps_readFull); exact rfl
  repeat first | with_reducible exact Keeps.refl _ _ | with_reducible assumption
  split
  repeat first | with_reducible exact Keeps.refl _ _ | with_reducible assumption
  (with_reducible apply keeps_onPort); exact rfl
  · exact fun h => h
  (with_reducible apply keeps_readFull); exact rfl
  repeat first | with_reducible exact Keeps.refl _ _ | with_reducible assumption
  split
  repeat first | with_reducible exact Keeps.refl _ _ | with_reducible assumption
  (with_reducible apply keeps_onPort); exact rfl
  · exact fun h => h
  repeat first | with_reducible exact Keeps.refl _ _ | with_reducible assumption

theorem keeps_execTtSnapLoRead (p : Fin 4) (lane : Lane) (s : State) (t : State) (h : execTtSnapLoRead p lane s = .next t) : Keeps 0xFFFFFFDFFCFF s t := by
  unfold execTtSnapLoRead at h
  injection h with h
  subst h
  try dsimp -zeta only
  (with_reducible apply keeps_readLane); exact rfl
  repeat first | with_reducible exact Keeps.refl _ _ | with_reducible assumption

theorem keeps_execRtcShadowRead (p : Fin 4) (reg : Fin 3) (lane : Lane) (s : State) (t : State) (h : execRtcShadowRead p reg lane s = .next t) : Keeps 0xFFFFFFDFFCFF s t := by
  unfold execRtcShadowRead at h
  injection h with h
  subst h
  try dsimp -zeta only
  (with_reducible apply keeps_readLane); exact rfl
  repeat first | with_reducible exact Keeps.refl _ _ | with_reducible assumption

theorem keeps_execRspDataPop (p : Fin 4) (r : Fin 2) (lane : Lane) (s : State) (t : State) (h : execRspDataPop p r lane s = .next t) : Keeps 0xFFFFFFDFFCFF s t := by
  unfold execRspDataPop at h
  injection h with h
  subst h
  try dsimp -zeta only
  (with_reducible apply keeps_readLane); exact rfl
  repeat first | with_reducible exact Keeps.refl _ _ | with_reducible assumption

theorem keeps_writeLane (p : Fin 4) (off : Nat) (w : Word) (lane : Lane) (s : State) {mk : Nat} {s0 : State} (he : mk &&& 0xFFFFFDCF71D3 = mk) (hg : Keeps mk s0 s) :
    Keeps mk s0 (writeLane p off w lane s) := by
  refine Keeps.via ?_ he hg
  unfold writeLane
  try dsimp -zeta only
  split
  repeat first | with_reducible exact Keeps.refl _ _ | with_reducible assumption
  split
  (with_reducible apply keeps_onPort); exact rfl
  · exact fun h => h
  (with_reducible apply keeps_writeReg); exact rfl
  repeat first | with_reducible exact Keeps.refl _ _ | with_reducible assumption
  split
  repeat first | with_reducible exact Keeps.refl _ _ | with_reducible assumption
  (with_reducible apply keeps_onPort); exact rfl
  · exact fun h => h
  repeat first | with_reducible exact Keeps.refl _ _ | with_reducible assumption
  split
  repeat first | with_reducible exact Keeps.refl _ _ | with_reducible assumption
  split
  (with_reducible apply keeps_onPort); exact rfl
  · exact fun h => h
  split
  (with_reducible apply keeps_writeReg); exact rfl
  repeat first | with_reducible exact Keeps.refl _ _ | with_reducible assumption

theorem keeps_spiWord (p : Fin 4) (bad : Bool) (off : Nat) (s : State) {mk : Nat} {s0 : State} (he : mk &&& 0xFFFFFFDFFCFF = mk) (hg : Keeps mk s0 s) :
    Keeps mk s0 (spiWord p bad off s).2 := by
  refine Keeps.via ?_ he hg
  unfold spiWord
  try dsimp -zeta only
  split
  repeat first | with_reducible exact Keeps.refl _ _ | with_reducible assumption
  (with_reducible apply keeps_readFull); exact rfl
  repeat first | with_reducible exact Keeps.refl _ _ | with_reducible assumption

theorem keeps_spiWord_eq {p : Fin 4} {bad : Bool} {off : Nat} {s : State} {mk : Nat} {s0 sq : State} {w} (hq : spiWord p bad off s = (w, sq)) (he : mk &&& 0xFFFFFFDFFCFF = mk) (hg : Keeps mk s0 s) :
    Keeps mk s0 sq := by
  have := keeps_spiWord (mk := mk) (s0 := s0) p bad off s he hg
  rw [hq] at this
  exact this

theorem keeps_spiReads (p : Fin 4) (w : Nat) (start : Nat) (bad : Bool) (rest : Nat) (n : Nat) (off : Nat) (s : State) {mk : Nat} {s0 : State}
    (he : mk &&& 0xFFFFFFDFFCFF = mk) (hg : Keeps mk s0 s) : Keeps mk s0 (spiReads p w start bad rest n off s).2 := by
  refine Keeps.via ?_ he hg
  clear he hg
  induction n generalizing off s with
  | zero => exact Keeps.refl _ _
  | succ n ih =>
    unfold spiReads
    exact (ih _ _).step (keeps_spiWord _ _ _ _ rfl (Keeps.refl _ _))

theorem keeps_spiReads_eq {p : Fin 4} {w : Nat} {start : Nat} {bad : Bool} {rest : Nat} {n : Nat} {off : Nat} {s : State} {mk : Nat}
    {s0 sq : State} {o} (hq : spiReads p w start bad rest n off s = (o, sq)) (he : mk &&& 0xFFFFFFDFFCFF = mk) (hg : Keeps mk s0 s) :
    Keeps mk s0 sq := by
  have := keeps_spiReads p w start bad rest n off s he hg
  rw [hq] at this
  exact this

theorem keeps_spiWrites (p : Fin 4) (w : Nat) (start : Nat) (n : Nat) (off : Nat) (cs : List (BitVec 4)) (s : State) {mk : Nat} {s0 : State}
    (he : mk &&& 0xFFFFFDCF71D3 = mk) (hg : Keeps mk s0 s) : Keeps mk s0 (spiWrites p w start n off cs s) := by
  refine Keeps.via ?_ he hg
  clear he hg
  induction n generalizing off cs s with
  | zero => exact Keeps.refl _ _
  | succ n ih =>
    unfold spiWrites
    refine (ih _ _ _).step ?_
    split
    · exact keeps_writeReg _ _ _ _ rfl (Keeps.refl _ _)
    · exact Keeps.refl _ _

theorem keeps_spiRun (p : Fin 4) (o : SpiOp) (cs : List (BitVec 4)) (s : State) {mk : Nat} {s0 : State}
    (he : mk &&& 0xFFFFFDCF70D3 = mk) (hg : Keeps mk s0 s) : Keeps mk s0 (spiRun p o cs s) := by
  refine Keeps.via ?_ he hg
  unfold spiRun
  dsimp only
  split
  · exact keeps_onPort _ _ _ rfl (fun h => h) (keeps_spiReads _ _ _ _ _ _ _ _ rfl (Keeps.refl _ _))
  · refine keeps_onPort _ _ _ rfl (fun h => h) ?_
    split
    · exact Keeps.refl _ _
    · exact keeps_spiWrites _ _ _ _ _ _ _ rfl (Keeps.refl _ _)

theorem keeps_spiTransfer (p : Fin 4) (cs : List (BitVec 4)) (s : State) {mk : Nat} {s0 : State} (he : mk &&& 0xFFFFFDCF70D3 = mk) (hg : Keeps mk s0 s) :
    Keeps mk s0 (spiTransfer p cs s) := by
  refine Keeps.via ?_ he hg
  unfold spiTransfer
  try dsimp -zeta only
  split
  repeat first | with_reducible exact Keeps.refl _ _ | with_reducible assumption
  split
  (with_reducible apply keeps_spiRun); exact rfl
  repeat first | with_reducible exact Keeps.refl _ _ | with_reducible assumption
  (with_reducible apply keeps_onPort); exact rfl
  · exact fun h => h
  repeat first | with_reducible exact Keeps.refl _ _ | with_reducible assumption

theorem keeps_execRegisterWrite (p : Fin 4) (off : Nat) (w : Word) (a : Access) (s : State) (t : State) (h : execRegisterWrite p off w a s = .next t) : Keeps 0xFFFFFDCF70D3 s t := by
  unfold execRegisterWrite at h
  injection h with h
  subst h
  try dsimp -zeta only
  split
  (with_reducible apply keeps_writeLane); exact rfl
  repeat first | with_reducible exact Keeps.refl _ _ | with_reducible assumption
  (with_reducible apply keeps_readLane); exact rfl
  repeat first | with_reducible exact Keeps.refl _ _ | with_reducible assumption
  (with_reducible apply keeps_spiTransfer); exact rfl
  repeat first | with_reducible exact Keeps.refl _ _ | with_reducible assumption

end Sys2Proof.Laws
end

