-- ==== Sys2Proof/Laws/Masks.lean ====
section
/-!
SUPPORT. The frame of every command: what `exec` leaves as it is, as one mask per constructor.
-/
set_option Elab.async false
namespace Sys2Proof.Laws
open Sys2Proof Sys2Proof.Machine

/-- The mask of a command. -/
def execMask (c : Instr) : Nat :=
  match c with
  | .vinOnRise _ => 0xFFBFFFFFF57B
  | .railsGood => 0xFFBFFFFFFFFB
  | .strapSample _ _ _ => 0xFF9FDFBFF7FB
  | .fuseMapLoad _ => 0xFFBFFF7FF5FB
  | .retentionCheck _ _ _ => 0xFFBE058FD159
  | .vbakMeasure _ => 0xFFFFFFFFF77F
  | .bankVerify _ _ _ => 0xFBBBFC4041E3
  | .windowAlive _ _ => 0xAFA7FF7BE5E9
  | .latticeRestore _ => 0xFDBFFFEC01D1
  | .bootEnd => 0xFFBEFD8FC5D3
  | .pfwAssert _ _ => 0xFD7FFDE801F1
  | .pfwAbort _ => 0xFF7FFFFFA5F3
  | .brownOut _ => 0xFF7FFFFFA5F3
  | .vinLoss _ => 0xE126FC000001
  | .pfwEffRestore _ => 0xFFFFFFFFFFFB
  | .evVinSurge _ => 0xFFFFFFFFF7FB
  | .viohChange _ => 0xFFFFFFFFFFFB
  | .resetNAssert _ => 0xE126FC000001
  | .resetNRelease => 0xFFBFFFFFF7FB
  | .railFault => 0xE126FC000001
  | .coreWatchdogExpiry => 0xE126FC000001
  | .lockstepMismatch _ => 0xE126FC000001
  | .firewallViolation _ _ _ _ => 0xE126FC000001
  | .retentionTokenLoss _ _ => 0xFFFFFFFFFF7F
  | .bakSwitchOver => 0xFFFFFFFFFF7F
  | .hostWatchdogExpiry _ => 0xFFFFFFEFF5F3
  | .zcEdge _ => 0xFFFFFFFF75E3
  | .meterCrossing _ => 0xFFFFFFFF75E3
  | .holdoverEntry => 0xFFFFFFFFF5E3
  | .secondarySwitch => 0xFFFFFFFFF7CF
  | .primaryReturn => 0xFFFFFFFFF7CF
  | .evTtHoldoverLong => 0xFFFFFFFFF7EF
  | .reservationWrite _ _ => 0xEFFFFF7FF7ED
  | .evTtReserveFail => 0xEFFFFFFFF7EF
  | .reserveCeilingReached => 0xEFFFFFFFFFEF
  | .anchorCapture => 0xFFFFFFFFFFEF
  | .ttConfigApply => 0xFFFFFFFFFFCF
  | .configEntryApply => 0xF9FFFD400141
  | .ttAlarmFire => 0xFFFFFFFFF59F
  | .ttSnapLoRead _ _ => 0xFFFFFFDFFCFF
  | .ttStatus => 0xF7FFFFFFF9FF
  | .ttConfig => 0xF7FFFFFFF1CF
  | .ttConvert => 0xF7FFFFFFF9FF
  | .ttAnchors => 0xF7FFFFFFF9FF
  | .ttAlarm => 0xF7FFFFFFF19F
  | .ttAlarmCancel => 0xF7FFFFFFF99F
  | .ttQueue => 0xF7FFFFFFF9FF
  | .rtcCorrectionWindow _ _ _ => 0xFFFFFFFFF77F
  | .rtcShadowRead _ _ _ => 0xFFFFFFDFFCFF
  | .rtcShadowTimeout _ => 0xFFFFFFFFFEFF
  | .rtcSetCommit => 0xFFFFFFFFF16F
  | .oscStopDetect _ _ => 0xFFFFFFFFF77F
  | .evLbv _ _ => 0xFFFFFFFFF77F
  | .tamperSample _ _ => 0xFFFEFD8FD15D
  | .rtcStatus => 0xF7FFFFFFF9FF
  | .rtcSet => 0xF7FFFFFFF97F
  | .rtcFlags => 0xF7FFFFFFF17F
  | .rtcTrim => 0xF7FFFFFFF17F
  | .bramRead => 0xF7FFFFFFF9FF
  | .bramWrite => 0xF7FFFFFFF97F
  | .tamperConfig => 0xF7FFFFFFF17F
  | .reqDataPush _ _ _ => 0xFFFFFFFFFDFF
  | .reqCommit _ _ _ => 0xFFFFFFEFF5F3
  | .reqAbort _ _ => 0xFFFFFFFFFDFF
  | .rspDataPop _ _ _ => 0xFFFFFFDFFCFF
  | .rspDiscardHead _ _ => 0xFFFFFFDFFDFF
  | .rspDiscardAll _ _ => 0xFFFFFFDFFDFF
  | .portFlush _ => 0xFFFFFDDF71DF
  | .intStatClear _ _ => 0xFFFFFFFFFDFF
  | .registerWrite _ _ _ _ => 0xFFFFFDCF70D3
  | .requestTake => 0xF7FFFFFFF9FF
  | .orderedExecutionStart => 0xF7FFFFFFF9FF
  | .heldMessagePlace _ _ => 0xFFFFFFFFFDFF
  | .ntfLostPlace _ => 0xFFFFFFFFF5FF
  | .sysNop => 0xF7FFFFFFF9FF
  | .sysIdent => 0xF7FFFFFFF9FF
  | .sysCaps => 0xF7FFFFFFF9FF
  | .sysStatus => 0xF7FFFFFFF9FF
  | .sysReset => 0xF7FFFFFFF9FB
  | .softwareReset => 0xE126FC000001
  | .sysShelf => 0xF7FFFFFFF9FB
  | .sysWatchdog => 0xF7FFFFEFF1F3
  | .sysMode => 0xF6FFFFFFF1D3
  | .sysPower => 0xF7FFFFFFF1F9
  | .sysCfgBegin => 0xF7FFFFFFF9FF
  | .sysCfgCommit => 0xF7FFFFFFF1DF
  | .sysCfgAbort => 0xF7FFFFFFF1DF
  | .sysSettings => 0xF7FFFFFFF9FD
  | .sysSettingsReset => 0xF7FFFFFFF1DF
  | .cfgSetApply _ => 0xF9FFFD400141
  | .cfgSetTimeout _ => 0xFFFFFFFFF5FF
  | .radStatus => 0xF7FFFFFFF9FF
  | .radBandPlan => 0xF7FFFFFFF1DF
  | .radFeConfig => 0xF7FFFFFFF1DF
  | .radEngineConfig => 0xF7FFFFFFF1DF
  | .radCalStatus => 0xF7FFFFFFF9FF
  | .radCalSweep => 0xF5FFFDEC01F1
  | .radTxTest => 0xF7FFFFFFE1FF
  | .calSweepEnd _ _ => 0xFFFFFDFFE1F3
  | .txTestEnd _ _ => 0xFFFFFFFFE1FF
  | .feRetune _ _ => 0xFDFFFFEC01F1
  | .shrDetect _ _ => 0xFDFFFFEC01F1
  | .frameReceived _ _ => 0xFDFFFFEC01F1
  | .enhancedAck _ => 0xFDFFFFEC01F1
  | .ackReceived _ _ => 0xFDFFFFEC01F1
  | .ackTimeout _ => 0xFDFFFFEC01F1
  | .carrierAdmit _ => 0xFDFFFFFF87FD
  | .lbtAttempt _ _ _ => 0xFDFFFFEC01F1
  | .transmitEnd _ _ => 0xFDFFFFEC01F1
  | .frameDeadline _ => 0xFDFFFFEC01F1
  | .dutyBinAdvance => 0xFFFFFFFFEFFF
  | .vswrRecovery _ => 0xFFFFFFFFE7FF
  | .paTemperatureChange _ _ => 0xFFFFFFFFE7FF
  | .rxCalPublish _ _ _ _ _ => 0xFFFFFFFFEFFF
  | .rxCalAdopt _ => 0xFFFFFFFFEFFF
  | .gainStepChange _ _ _ => 0xFFFFFFFFEFFF
  | .evFeGainForced _ _ => 0xFFFFFFFFE7FF
  | .dpdApply _ _ => 0xFFFFFFFFEFFF
  | .dpdTimeout _ => 0xFFFFFFFFEFFF
  | .evFeFault _ _ => 0xFDFFFFEC01F1
  | .feRelockRetry _ _ => 0xFFFFFFFFEFFF
  | .beaconDue _ => 0xFFFFFFFFC5FF
  | .backupBeacon _ => 0xFFFFFFFFC5FF
  | .extraBeacon _ => 0xFFFFFFFFC7FF
  | .linkSweep _ => 0xFFFFFFFFD7FF
  | .pollMiss _ => 0xFFFFFFFFD7FF
  | .greetingRound _ => 0xFFFFFFFFC5FF
  | .macEngineStatus => 0xF7FFFFFFF9FF
  | .macBeaconConfig => 0xF7FFFFFFF1DF
  | .macSleepyConfig => 0xF7FFFFFFF1DF
  | .macLinkState => 0xF7FFFFFFD1FF
  | .macRawSend => 0xF7FFFFFFC1FF
  | .joinReq _ _ => 0xFDFFFFFF27FF
  | .rejoin _ _ => 0xFDFFFFFF05FF
  | .confirm _ => 0xFDFFFFEC01F1
  | .energy _ => 0xFDFFFFFBAFFF
  | .detect _ => 0xFDFFFFEC01D1
  | .imageNack _ => 0xFFFFFFFFAFFF
  | .imgReport _ => 0xFFFFFFFFAFFF
  | .report _ => 0xFDFFFFEC01F1
  | .txnAttempt _ => 0xFDFFFFEC01F1
  | .txnConfirmTimeout _ => 0xFDFFFFEC01F1
  | .txnBackoffEnd _ => 0xFDFFFFEC01F1
  | .txnDeadline _ => 0xFDFFFFEC01F1
  | .seqWaitExpiry _ => 0xFFFFFFFF71FF
  | .groupRepeat _ => 0xFFFFFFFF01FF
  | .linkKeyOverlapEnd => 0xFDFFFFFFBFDF
  | .linkKeyLoadApply _ => 0xFDFFFFFF91DF
  | .backgroundCheckpoint => 0xFFFFFFFFBFFF
  | .journalPageWrite => 0xFFFFFFFFBFFF
  | .joinPermitExpiry => 0xFFFFFFFFBFFF
  | .imagePhase _ => 0xFFFFFFFFA1FF
  | .latAdd _ => 0xF5FFFFEFB1F3
  | .latRemove _ => 0xF5FFFFEC01F1
  | .latRead => 0xF7FFFFFFF9FF
  | .latUpdate _ => 0xF5FFFFEF11F3
  | .latFind => 0xF7FFFFFFF9FF
  | .latJoinPolicy => 0xF7FFFFFFB9FF
  | .latKeyLoad => 0xF7FFFFFFF1DF
  | .latRouteRead => 0xF7FFFFFFF9FF
  | .latImageLoad => 0xF7FFFFFFB1FF
  | .latImageSend => 0xF7FFFFFFB9FF
  | .latCheckpoint => 0xF7FFFFFFB9FF
  | .txnSend => 0xF7FFFFFF71FF
  | .txnLevel => 0xF7FFFFFF71FF
  | .txnGroupLevel => 0xF7FFFFFF71FF
  | .txnCancel => 0xF5FFFFEC01F1
  | .txnStatus => 0xF7FFFFFF79FF
  | .txnOrderMode => 0xF7FFFFFFF1DF
  | .txnRetryPolicy => 0xF7FFFFFFF1DF
  | .schDecide => 0xFFFFFFFE77FF
  | .chdEvaluation => 0xFDFFFFEC01D1
  | .waveEnd => 0xFDFFFFEC01D1
  | .schGroupSet => 0xF7FFFFFFF1DF
  | .schGroupMembers _ => 0xF5FFFFFF31FF
  | .schGroupRead => 0xF7FFFFFFF9FF
  | .schEntrySet => 0xF7FFFFFFF1DF
  | .schEntryClear => 0xF7FFFFFFF1DF
  | .schEntryRead => 0xF7FFFFFFF9FF
  | .schSite => 0xF7FFFFFFF1DF
  | .schTzRule => 0xF7FFFFFFF1DF
  | .schFallback => 0xF7FFFFFFF1DF
  | .schEvaluate => 0xF7FFFFFFF9FF
  | .chdCorridorSet => 0xF7FFFFFDF1DF
  | .chdCorridorClear => 0xF7FFFFFFF1DF
  | .chdCorridorRead => 0xF7FFFFFFF9FF
  | .chdConfig => 0xF7FFFFFFF1DF
  | .chdWaves => 0xF7FFFFFFF9FF
  | .chdInject => 0xF5FFFFEC01D1
  | .meterCycleEnd _ => 0xFFFFFFFBF77F
  | .evMeterOverrange _ _ => 0xFFFFFFFBF7FF
  | .evMeterInputFault _ _ _ => 0xFFFFFFFBF7FF
  | .intervalClose => 0xFFFFFFFBF7FF
  | .meterSave _ => 0xFFFFFFFBF7FF
  | .meterSaveRetry _ => 0xFFFFFFFBF7FF
  | .pulseStart _ => 0xFFFFFFFBFFFF
  | .meterCalApply => 0xFFFFFDFBF1DF
  | .meterMeasureEnd _ => 0xFFFFFDFBF9FF
  | .mtrInputConfig => 0xF7FFFFFFF1DF
  | .mtrFeederConfig => 0xF7FFFFFFF1DF
  | .mtrRead => 0xF7FFFFFFF9FF
  | .mtrIntervals => 0xF7FFFFFFF9FF
  | .mtrPulseConfig => 0xF7FFFFFFF1DF
  | .mtrCalibrate => 0xF7FFFDFBF1DF
  | .mtrBalance => 0xF7FFFFFFF9FF
  | .sgnCycleUpdate _ => 0xFFFFFFF7FFFF
  | .stringFault _ _ => 0xFFFFFFF7F5FF
  | .sinkFault _ _ => 0xFFFFFFF7F5FF
  | .failureRecordWrite _ _ => 0xFFFFFF77F7FD
  | .sgnLevelApply => 0xFFFFFFF7FFDF
  | .matrixLatch _ => 0xFFFFFFF7F5DF
  | .syncTimeout => 0xFFFFFFF7F5FF
  | .matrixShiftEnd => 0xFFFFFFF7F5FF
  | .matrixRefresh => 0xFFFFFFF7FFFF
  | .sensorRead _ => 0xFFFFFFF7F7FD
  | .sensorRetry _ => 0xFFFFFFF7F7FF
  | .ntcMeasure _ _ => 0xFFFFFFF7F7FF
  | .derateUpdate => 0xFFFFFFF7F7FF
  | .sgnStringConfig => 0xF7FFFFFFF1DF
  | .sgnFunction => 0xF7FFFFFFF1DF
  | .sgnFrameLoad => 0xF7FFFFF7F9FF
  | .sgnFlip => 0xF7FFFFF7F1DF
  | .sgnLevel => 0xF7FFFFFFF1DF
  | .sgnStatus => 0xF7FFFFFFF9FF
  | .sgnDerate => 0xF7FFFFFFF1DF
  | .dinSample _ _ => 0xFFFFFFCFF5FF
  | .evDinStuck _ => 0xFFFFFFEFF7FF
  | .chatterWindowEnd _ => 0xFFFFFFEFF7FF
  | .evDoutFault _ _ => 0xFFFFFFEFF7FF
  | .doutApply => 0xFFFFFFEFF7DF
  | .doutReturn => 0xFFFFFFEFF7DF
  | .ioDinConfig => 0xF7FFFFFFF1DF
  | .ioDinRead => 0xF7FFFFFFF9FF
  | .ioDoutSet => 0xF7FFFFEFF1DF
  | .ioDoutConfig => 0xF7FFFFFFF1DF
  | .ioStatus => 0xF7FFFFFFF9FF
  | .canFrameReceived _ _ => 0xFFFFFFCFF5FD
  | .canAttemptEnd _ _ _ => 0xFFFFFFCFF1FF
  | .canRecovered _ => 0xFFFFFFCFF5FF
  | .canDetectDwell _ => 0xFFFFFFDFFFFF
  | .canConfig => 0xF7FFFFFFF1DF
  | .canBufferConfig => 0xF7FFFFFFF1DF
  | .canSend => 0xF7FFFFDFF9FF
  | .canCancel _ => 0xF7FFFFDFF9FF
  | .canRead => 0xF7FFFFDFF9FF
  | .canStatus => 0xF7FFFFFFF9FF
  | .canRecover => 0xF7FFFFDFF9FF
  | .appenderRun => 0xFFFFFFFFF7FF
  | .pageProgram _ => 0xFFFFFF7FF7FF
  | .freezeExpiry _ => 0xFFFFFDFFF7FF
  | .logStatus => 0xF7FFFFFFF9FF
  | .logRead => 0xF7FFFFFFF9FF
  | .logFreeze => 0xF7FFFDFFF1FF
  | .logThaw => 0xF7FFFDFFF1FF
  | .logSeverity => 0xF7FFFFFFF1DF
  | .logAppend => 0xF7FFFFFFF1FF
  | .keyCommitEntry => 0xFFFEC5BFD1DB
  | .keyOverlapEnd => 0xFFFEFFBFD7DF
  | .kekRewrapComplete => 0xFDFEFDBF97FF
  | .keyGenerateComplete _ _ _ => 0xFFFEFF3FF1FD
  | .keyGenerate => 0xF7FFFFBFF9FF
  | .keyImport _ _ => 0xF7FEFF3FF1FD
  | .keyStage _ _ => 0xF7FEFF3FF1FD
  | .keyVerify _ _ => 0xF7FEFF3FF1FD
  | .keyCommit _ _ => 0xF7FEFD3FF1DD
  | .keyAttest => 0xF7FFFFFFF9FD
  | .keyInfo => 0xF7FFFFFFF1FF
  | .keyDestroy _ _ => 0xF7FEFD3FF1DD
  | .keyWorldSet _ _ => 0xF7FFFF3FF1FD
  | .scrubRead _ _ => 0xE126FC000001
  | .dramPatrol _ _ _ _ => 0xE126FC000001
  | .flipTimeout _ => 0xFFFFFF7FF7FF
  | .memRepairComplete _ _ _ => 0xFFFFFD4FF1FD
  | .nandReclaim _ _ _ _ => 0xFDFFFD6801F1
  | .latCompact => 0xFFFFFDFFBFFF
  | .memStatus => 0xF7FFFFFFF9FD
  | .memErrors => 0xF7FFFF7FF9FF
  | .memFlip => 0xF7FFFF7FF1FF
  | .memRepair => 0xF7FFFD7FF1FF
  | .memScrub => 0xF7FFFD7FF1DF
  | .memWithdraw => 0xF7FFFDFFF1DF
  | .memRestore => 0xF7FFFDFFF9DF
  | .memActivity => 0xF7FFFFFFF9FF
  | .withdrawalApply _ => 0xFDFFFDC001D1
  | .withdrawalEnd => 0xFFFFFDD141D3
  | .internalActivityRestart _ _ => 0xFFFFFDFFFFFF
  | .updBegin _ => 0xF7FFFE7FF1FD
  | .updChunk _ => 0xF7FFFE7FF1FD
  | .updVerify => 0xF7FFFEFFF9FF
  | .updVerifyComplete _ _ => 0xFFFFFEFFF1FD
  | .updActivate => 0xF3B9FC4041E3
  | .updStatus => 0xF7FFFFFFF9FF
  | .updRollback => 0xF7FFFCFFF1FF
  | .updAbort => 0xF7FFFCFFF1DD
  | .preparationComplete => 0xFFFFFEFFF7DF
  | .preparationDeadline => 0xFFFFFCFFF1DD
  | .handoverOpen => 0xFFFFFEFFF5D3
  | .engineChangeover _ => 0xFFFFFEFFFFFF
  | .firmwareReady => 0xFFFFFEFFFFFF
  | .handoverClose _ => 0xF9FBFC4001C1
  | .handoverTimeout _ _ => 0xE122FC000001
  | .trialConfirm => 0xFFFDFEFFF7FF
  | .indirectAttemptExpiry _ => 0xFDFFFFEC01F1
  | .dataTimingSearchEnd _ => 0xFFFFFFCFF5FF
  | .canReceiveError _ _ _ => 0xFFFFFFDFF7FF
  | .checkpointComplete _ => 0xFFFFFDFFB1FF

/-- What a command keeps. -/
theorem keeps_exec (c : Instr) (s t : State) (h : exec c s = .next t) : Keeps (execMask c) s t := by
  cases c with
  | vinOnRise x0 => exact keeps_execVinOnRise x0 s t h
  | railsGood => exact keeps_execRailsGood s t h
  | strapSample x0 x1 x2 => exact keeps_execStrapSample x0 x1 x2 s t h
  | fuseMapLoad x0 => exact keeps_execFuseMapLoad x0 s t h
  | retentionCheck x0 x1 x2 => exact keeps_execRetentionCheck x0 x1 x2 s t h
  | vbakMeasure x0 => exact keeps_execVbakMeasure x0 s t h
  | bankVerify x0 x1 x2 => exact keeps_execBankVerify x0 x1 x2 s t h
  | windowAlive x0 x1 => exact keeps_execWindowAlive x0 x1 s t h
  | latticeRestore x0 => exact keeps_execLatticeRestore x0 s t h
  | bootEnd => exact keeps_execBootEnd s t h
  | pfwAssert x0 x1 => exact keeps_execPfwAssert x0 x1 s t h
  | pfwAbort x0 => exact keeps_execPfwAbort x0 s t h
  | brownOut x0 => exact keeps_execBrownOut x0 s t h
  | vinLoss x0 => exact keeps_execVinLoss x0 s t h
  | pfwEffRestore x0 => exact keeps_execPfwEffRestore x0 s t h
  | evVinSurge x0 => exact keeps_execEvVinSurge x0 s t h
  | viohChange x0 => exact keeps_execViohChange x0 s t h
  | resetNAssert x0 => exact keeps_execResetNAssert x0 s t h
  | resetNRelease => exact keeps_execResetNRelease s t h
  | railFault => exact keeps_execRailFault s t h
  | coreWatchdogExpiry => exact keeps_execCoreWatchdogExpiry s t h
  | lockstepMismatch x0 => exact keeps_execLockstepMismatch x0 s t h
  | firewallViolation x0 x1 x2 x3 => exact keeps_execFirewallViolation x0 x1 x2 x3 s t h
  | retentionTokenLoss x0 x1 => exact keeps_execRetentionTokenLoss x0 x1 s t h
  | bakSwitchOver => exact keeps_execBakSwitchOver s t h
  | hostWatchdogExpiry x0 => exact keeps_execHostWatchdogExpiry x0 s t h
  | zcEdge x0 => exact keeps_execZcEdge x0 s t h
  | meterCrossing x0 => exact keeps_execMeterCrossing x0 s t h
  | holdoverEntry => exact keeps_execHoldoverEntry s t h
  | secondarySwitch => exact keeps_execSecondarySwitch s t h
  | primaryReturn => exact keeps_execPrimaryReturn s t h
  | evTtHoldoverLong => exact keeps_execEvTtHoldoverLong s t h
  | reservationWrite x0 x1 => exact keeps_execReservationWrite x0 x1 s t h
  | evTtReserveFail => exact keeps_execEvTtReserveFail s t h
  | reserveCeilingReached => exact keeps_execReserveCeilingReached s t h
  | anchorCapture => exact keeps_execAnchorCapture s t h
  | ttConfigApply => exact keeps_execTtConfigApply s t h
  | configEntryApply => exact keeps_execConfigEntryApply s t h
  | ttAlarmFire => exact keeps_execTtAlarmFire s t h
  | ttSnapLoRead x0 x1 => exact keeps_execTtSnapLoRead x0 x1 s t h
  | ttStatus => exact keeps_execTtStatus s t h
  | ttConfig => exact keeps_execTtConfig s t h
  | ttConvert => exact keeps_execTtConvert s t h
  | ttAnchors => exact keeps_execTtAnchors s t h
  | ttAlarm => exact keeps_execTtAlarm s t h
  | ttAlarmCancel => exact keeps_execTtAlarmCancel s t h
  | ttQueue => exact keeps_execTtQueue s t h
  | rtcCorrectionWindow x0 x1 x2 => exact keeps_execRtcCorrectionWindow x0 x1 x2 s t h
  | rtcShadowRead x0 x1 x2 => exact keeps_execRtcShadowRead x0 x1 x2 s t h
  | rtcShadowTimeout x0 => exact keeps_execRtcShadowTimeout x0 s t h
  | rtcSetCommit => exact keeps_execRtcSetCommit s t h
  | oscStopDetect x0 x1 => exact keeps_execOscStopDetect x0 x1 s t h
  | evLbv x0 x1 => exact keeps_execEvLbv x0 x1 s t h
  | tamperSample x0 x1 => exact keeps_execTamperSample x0 x1 s t h
  | rtcStatus => exact keeps_execRtcStatus s t h
  | rtcSet => exact keeps_execRtcSet s t h
  | rtcFlags => exact keeps_execRtcFlags s t h
  | rtcTrim => exact keeps_execRtcTrim s t h
  | bramRead => exact keeps_execBramRead s t h
  | bramWrite => exact keeps_execBramWrite s t h
  | tamperConfig => exact keeps_execTamperConfig s t h
  | reqDataPush x0 x1 x2 => exact keeps_execReqDataPush x0 x1 x2 s t h
  | reqCommit x0 x1 x2 => exact keeps_execReqCommit x0 x1 x2 s t h
  | reqAbort x0 x1 => exact keeps_execReqAbort x0 x1 s t h
  | rspDataPop x0 x1 x2 => exact keeps_execRspDataPop x0 x1 x2 s t h
  | rspDiscardHead x0 x1 => exact keeps_execRspDiscardHead x0 x1 s t h
  | rspDiscardAll x0 x1 => exact keeps_execRspDiscardAll x0 x1 s t h
  | portFlush x0 => exact keeps_execPortFlush x0 s t h
  | intStatClear x0 x1 => exact keeps_execIntStatClear x0 x1 s t h
  | registerWrite x0 x1 x2 x3 => exact keeps_execRegisterWrite x0 x1 x2 x3 s t h
  | requestTake => exact keeps_execRequestTake s t h
  | orderedExecutionStart => exact keeps_execOrderedExecutionStart s t h
  | heldMessagePlace x0 x1 => exact keeps_execHeldMessagePlace x0 x1 s t h
  | ntfLostPlace x0 => exact keeps_execNtfLostPlace x0 s t h
  | sysNop => exact keeps_execSysNop s t h
  | sysIdent => exact keeps_execSysIdent s t h
  | sysCaps => exact keeps_execSysCaps s t h
  | sysStatus => exact keeps_execSysStatus s t h
  | sysReset => exact keeps_execSysReset s t h
  | softwareReset => exact keeps_execSoftwareReset s t h
  | sysShelf => exact keeps_execSysShelf s t h
  | sysWatchdog => exact keeps_execSysWatchdog s t h
  | sysMode => exact keeps_execSysMode s t h
  | sysPower => exact keeps_execSysPower s t h
  | sysCfgBegin => exact keeps_execSysCfgBegin s t h
  | sysCfgCommit => exact keeps_execSysCfgCommit s t h
  | sysCfgAbort => exact keeps_execSysCfgAbort s t h
  | sysSettings => exact keeps_execSysSettings s t h
  | sysSettingsReset => exact keeps_execSysSettingsReset s t h
  | cfgSetApply x0 => exact keeps_execCfgSetApply x0 s t h
  | cfgSetTimeout x0 => exact keeps_execCfgSetTimeout x0 s t h
  | radStatus => exact keeps_execRadStatus s t h
  | radBandPlan => exact keeps_execRadBandPlan s t h
  | radFeConfig => exact keeps_execRadFeConfig s t h
  | radEngineConfig => exact keeps_execRadEngineConfig s t h
  | radCalStatus => exact keeps_execRadCalStatus s t h
  | radCalSweep => exact keeps_execRadCalSweep s t h
  | radTxTest => exact keeps_execRadTxTest s t h
  | calSweepEnd x0 x1 => exact keeps_execCalSweepEnd x0 x1 s t h
  | txTestEnd x0 x1 => exact keeps_execTxTestEnd x0 x1 s t h
  | feRetune x0 x1 => exact keeps_execFeRetune x0 x1 s t h
  | shrDetect x0 x1 => exact keeps_execShrDetect x0 x1 s t h
  | frameReceived x0 x1 => exact keeps_execFrameReceived x0 x1 s t h
  | enhancedAck x0 => exact keeps_execEnhancedAck x0 s t h
  | ackReceived x0 x1 => exact keeps_execAckReceived x0 x1 s t h
  | ackTimeout x0 => exact keeps_execAckTimeout x0 s t h
  | carrierAdmit x0 => exact keeps_execCarrierAdmit x0 s t h
  | lbtAttempt x0 x1 x2 => exact keeps_execLbtAttempt x0 x1 x2 s t h
  | transmitEnd x0 x1 => exact keeps_execTransmitEnd x0 x1 s t h
  | frameDeadline x0 => exact keeps_execFrameDeadline x0 s t h
  | dutyBinAdvance => exact keeps_execDutyBinAdvance s t h
  | vswrRecovery x0 => exact keeps_execVswrRecovery x0 s t h
  | paTemperatureChange x0 x1 => exact keeps_execPaTemperatureChange x0 x1 s t h
  | rxCalPublish x0 x1 x2 x3 x4 => exact keeps_execRxCalPublish x0 x1 x2 x3 x4 s t h
  | rxCalAdopt x0 => exact keeps_execRxCalAdopt x0 s t h
  | gainStepChange x0 x1 x2 => exact keeps_execGainStepChange x0 x1 x2 s t h
  | evFeGainForced x0 x1 => exact keeps_execEvFeGainForced x0 x1 s t h
  | dpdApply x0 x1 => exact keeps_execDpdApply x0 x1 s t h
  | dpdTimeout x0 => exact keeps_execDpdTimeout x0 s t h
  | evFeFault x0 x1 => exact keeps_execEvFeFault x0 x1 s t h
  | feRelockRetry x0 x1 => exact keeps_execFeRelockRetry x0 x1 s t h
  | beaconDue x0 => exact keeps_execBeaconDue x0 s t h
  | backupBeacon x0 => exact keeps_execBackupBeacon x0 s t h
  | extraBeacon x0 => exact keeps_execExtraBeacon x0 s t h
  | linkSweep x0 => exact keeps_execLinkSweep x0 s t h
  | pollMiss x0 => exact keeps_execPollMiss x0 s t h
  | greetingRound x0 => exact keeps_execGreetingRound x0 s t h
  | macEngineStatus => exact keeps_execMacEngineStatus s t h
  | macBeaconConfig => exact keeps_execMacBeaconConfig s t h
  | macSleepyConfig => exact keeps_execMacSleepyConfig s t h
  | macLinkState => exact keeps_execMacLinkState s t h
  | macRawSend => exact keeps_execMacRawSend s t h
  | joinReq x0 x1 => exact keeps_execJoinReq x0 x1 s t h
  | rejoin x0 x1 => exact keeps_execRejoin x0 x1 s t h
  | confirm x0 => exact keeps_execConfirm x0 s t h
  | energy x0 => exact keeps_execEnergy x0 s t h
  | detect x0 => exact keeps_execDetect x0 s t h
  | imageNack x0 => exact keeps_execImageNack x0 s t h
  | imgReport x0 => exact keeps_execImgReport x0 s t h
  | report x0 => exact keeps_execReport x0 s t h
  | txnAttempt x0 => exact keeps_execTxnAttempt x0 s t h
  | txnConfirmTimeout x0 => exact keeps_execTxnConfirmTimeout x0 s t h
  | txnBackoffEnd x0 => exact keeps_execTxnBackoffEnd x0 s t h
  | txnDeadline x0 => exact keeps_execTxnDeadline x0 s t h
  | seqWaitExpiry x0 => exact keeps_execSeqWaitExpiry x0 s t h
  | groupRepeat x0 => exact keeps_execGroupRepeat x0 s t h
  | linkKeyOverlapEnd => exact keeps_execLinkKeyOverlapEnd s t h
  | linkKeyLoadApply x0 => exact keeps_execLinkKeyLoadApply x0 s t h
  | backgroundCheckpoint => exact keeps_execBackgroundCheckpoint s t h
  | journalPageWrite => exact keeps_execJournalPageWrite s t h
  | joinPermitExpiry => exact keeps_execJoinPermitExpiry s t h
  | imagePhase x0 => exact keeps_execImagePhase x0 s t h
  | latAdd x0 => exact keeps_execLatAdd x0 s t h
  | latRemove x0 => exact keeps_execLatRemove x0 s t h
  | latRead => exact keeps_execLatRead s t h
  | latUpdate x0 => exact keeps_execLatUpdate x0 s t h
  | latFind => exact keeps_execLatFind s t h
  | latJoinPolicy => exact keeps_execLatJoinPolicy s t h
  | latKeyLoad => exact keeps_execLatKeyLoad s t h
  | latRouteRead => exact keeps_execLatRouteRead s t h
  | latImageLoad => exact keeps_execLatImageLoad s t h
  | latImageSend => exact keeps_execLatImageSend s t h
  | latCheckpoint => exact keeps_execLatCheckpoint s t h
  | txnSend => exact keeps_execTxnSend s t h
  | txnLevel => exact keeps_execTxnLevel s t h
  | txnGroupLevel => exact keeps_execTxnGroupLevel s t h
  | txnCancel => exact keeps_execTxnCancel s t h
  | txnStatus => exact keeps_execTxnStatus s t h
  | txnOrderMode => exact keeps_execTxnOrderMode s t h
  | txnRetryPolicy => exact keeps_execTxnRetryPolicy s t h
  | schDecide => exact keeps_execSchDecide s t h
  | chdEvaluation => exact keeps_execChdEvaluation s t h
  | waveEnd => exact keeps_execWaveEnd s t h
  | schGroupSet => exact keeps_execSchGroupSet s t h
  | schGroupMembers x0 => exact keeps_execSchGroupMembers x0 s t h
  | schGroupRead => exact keeps_execSchGroupRead s t h
  | schEntrySet => exact keeps_execSchEntrySet s t h
  | schEntryClear => exact keeps_execSchEntryClear s t h
  | schEntryRead => exact keeps_execSchEntryRead s t h
  | schSite => exact keeps_execSchSite s t h
  | schTzRule => exact keeps_execSchTzRule s t h
  | schFallback => exact keeps_execSchFallback s t h
  | schEvaluate => exact keeps_execSchEvaluate s t h
  | chdCorridorSet => exact keeps_execChdCorridorSet s t h
  | chdCorridorClear => exact keeps_execChdCorridorClear s t h
  | chdCorridorRead => exact keeps_execChdCorridorRead s t h
  | chdConfig => exact keeps_execChdConfig s t h
  | chdWaves => exact keeps_execChdWaves s t h
  | chdInject => exact keeps_execChdInject s t h
  | meterCycleEnd x0 => exact keeps_execMeterCycleEnd x0 s t h
  | evMeterOverrange x0 x1 => exact keeps_execEvMeterOverrange x0 x1 s t h
  | evMeterInputFault x0 x1 x2 => exact keeps_execEvMeterInputFault x0 x1 x2 s t h
  | intervalClose => exact keeps_execIntervalClose s t h
  | meterSave x0 => exact keeps_execMeterSave x0 s t h
  | meterSaveRetry x0 => exact keeps_execMeterSaveRetry x0 s t h
  | pulseStart x0 => exact keeps_execPulseStart x0 s t h
  | meterCalApply => exact keeps_execMeterCalApply s t h
  | meterMeasureEnd x0 => exact keeps_execMeterMeasureEnd x0 s t h
  | mtrInputConfig => exact keeps_execMtrInputConfig s t h
  | mtrFeederConfig => exact keeps_execMtrFeederConfig s t h
  | mtrRead => exact keeps_execMtrRead s t h
  | mtrIntervals => exact keeps_execMtrIntervals s t h
  | mtrPulseConfig => exact keeps_execMtrPulseConfig s t h
  | mtrCalibrate => exact keeps_execMtrCalibrate s t h
  | mtrBalance => exact keeps_execMtrBalance s t h
  | sgnCycleUpdate x0 => exact keeps_execSgnCycleUpdate x0 s t h
  | stringFault x0 x1 => exact keeps_execStringFault x0 x1 s t h
  | sinkFault x0 x1 => exact keeps_execSinkFault x0 x1 s t h
  | failureRecordWrite x0 x1 => exact keeps_execFailureRecordWrite x0 x1 s t h
  | sgnLevelApply => exact keeps_execSgnLevelApply s t h
  | matrixLatch x0 => exact keeps_execMatrixLatch x0 s t h
  | syncTimeout => exact keeps_execSyncTimeout s t h
  | matrixShiftEnd => exact keeps_execMatrixShiftEnd s t h
  | matrixRefresh => exact keeps_execMatrixRefresh s t h
  | sensorRead x0 => exact keeps_execSensorRead x0 s t h
  | sensorRetry x0 => exact keeps_execSensorRetry x0 s t h
  | ntcMeasure x0 x1 => exact keeps_execNtcMeasure x0 x1 s t h
  | derateUpdate => exact keeps_execDerateUpdate s t h
  | sgnStringConfig => exact keeps_execSgnStringConfig s t h
  | sgnFunction => exact keeps_execSgnFunction s t h
  | sgnFrameLoad => exact keeps_execSgnFrameLoad s t h
  | sgnFlip => exact keeps_execSgnFlip s t h
  | sgnLevel => exact keeps_execSgnLevel s t h
  | sgnStatus => exact keeps_execSgnStatus s t h
  | sgnDerate => exact keeps_execSgnDerate s t h
  | dinSample x0 x1 => exact keeps_execDinSample x0 x1 s t h
  | evDinStuck x0 => exact keeps_execEvDinStuck x0 s t h
  | chatterWindowEnd x0 => exact keeps_execChatterWindowEnd x0 s t h
  | evDoutFault x0 x1 => exact keeps_execEvDoutFault x0 x1 s t h
  | doutApply => exact keeps_execDoutApply s t h
  | doutReturn => exact keeps_execDoutReturn s t h
  | ioDinConfig => exact keeps_execIoDinConfig s t h
  | ioDinRead => exact keeps_execIoDinRead s t h
  | ioDoutSet => exact keeps_execIoDoutSet s t h
  | ioDoutConfig => exact keeps_execIoDoutConfig s t h
  | ioStatus => exact keeps_execIoStatus s t h
  | canFrameReceived x0 x1 => exact keeps_execCanFrameReceived x0 x1 s t h
  | canAttemptEnd x0 x1 x2 => exact keeps_execCanAttemptEnd x0 x1 x2 s t h
  | canRecovered x0 => exact keeps_execCanRecovered x0 s t h
  | canDetectDwell x0 => exact keeps_execCanDetectDwell x0 s t h
  | canConfig => exact keeps_execCanConfig s t h
  | canBufferConfig => exact keeps_execCanBufferConfig s t h
  | canSend => exact keeps_execCanSend s t h
  | canCancel x0 => exact keeps_execCanCancel x0 s t h
  | canRead => exact keeps_execCanRead s t h
  | canStatus => exact keeps_execCanStatus s t h
  | canRecover => exact keeps_execCanRecover s t h
  | appenderRun => exact keeps_execAppenderRun s t h
  | pageProgram x0 => exact keeps_execPageProgram x0 s t h
  | freezeExpiry x0 => exact keeps_execFreezeExpiry x0 s t h
  | logStatus => exact keeps_execLogStatus s t h
  | logRead => exact keeps_execLogRead s t h
  | logFreeze => exact keeps_execLogFreeze s t h
  | logThaw => exact keeps_execLogThaw s t h
  | logSeverity => exact keeps_execLogSeverity s t h
  | logAppend => exact keeps_execLogAppend s t h
  | keyCommitEntry => exact keeps_execKeyCommitEntry s t h
  | keyOverlapEnd => exact keeps_execKeyOverlapEnd s t h
  | kekRewrapComplete => exact keeps_execKekRewrapComplete s t h
  | keyGenerateComplete x0 x1 x2 => exact keeps_execKeyGenerateComplete x0 x1 x2 s t h
  | keyGenerate => exact keeps_execKeyGenerate s t h
  | keyImport x0 x1 => exact keeps_execKeyImport x0 x1 s t h
  | keyStage x0 x1 => exact keeps_execKeyStage x0 x1 s t h
  | keyVerify x0 x1 => exact keeps_execKeyVerify x0 x1 s t h
  | keyCommit x0 x1 => exact keeps_execKeyCommit x0 x1 s t h
  | keyAttest => exact keeps_execKeyAttest s t h
  | keyInfo => exact keeps_execKeyInfo s t h
  | keyDestroy x0 x1 => exact keeps_execKeyDestroy x0 x1 s t h
  | keyWorldSet x0 x1 => exact keeps_execKeyWorldSet x0 x1 s t h
  | scrubRead x0 x1 => exact keeps_execScrubRead x0 x1 s t h
  | dramPatrol x0 x1 x2 x3 => exact keeps_execDramPatrol x0 x1 x2 x3 s t h
  | flipTimeout x0 => exact keeps_execFlipTimeout x0 s t h
  | memRepairComplete x0 x1 x2 => exact keeps_execMemRepairComplete x0 x1 x2 s t h
  | nandReclaim x0 x1 x2 x3 => exact keeps_execNandReclaim x0 x1 x2 x3 s t h
  | latCompact => exact keeps_execLatCompact s t h
  | memStatus => exact keeps_execMemStatus s t h
  | memErrors => exact keeps_execMemErrors s t h
  | memFlip => exact keeps_execMemFlip s t h
  | memRepair => exact keeps_execMemRepair s t h
  | memScrub => exact keeps_execMemScrub s t h
  | memWithdraw => exact keeps_execMemWithdraw s t h
  | memRestore => exact keeps_execMemRestore s t h
  | memActivity => exact keeps_execMemActivity s t h
  | withdrawalApply x0 => exact keeps_execWithdrawalApply x0 s t h
  | withdrawalEnd => exact keeps_execWithdrawalEnd s t h
  | internalActivityRestart x0 x1 => exact keeps_execInternalActivityRestart x0 x1 s t h
  | updBegin x0 => exact keeps_execUpdBegin x0 s t h
  | updChunk x0 => exact keeps_execUpdChunk x0 s t h
  | updVerify => exact keeps_execUpdVerify s t h
  | updVerifyComplete x0 x1 => exact keeps_execUpdVerifyComplete x0 x1 s t h
  | updActivate => exact keeps_execUpdActivate s t h
  | updStatus => exact keeps_execUpdStatus s t h
  | updRollback => exact keeps_execUpdRollback s t h
  | updAbort => exact keeps_execUpdAbort s t h
  | preparationComplete => exact keeps_execPreparationComplete s t h
  | preparationDeadline => exact keeps_execPreparationDeadline s t h
  | handoverOpen => exact keeps_execHandoverOpen s t h
  | engineChangeover x0 => exact keeps_execEngineChangeover x0 s t h
  | firmwareReady => exact keeps_execFirmwareReady s t h
  | handoverClose x0 => exact keeps_execHandoverClose x0 s t h
  | handoverTimeout x0 x1 => exact keeps_execHandoverTimeout x0 x1 s t h
  | trialConfirm => exact keeps_execTrialConfirm s t h
  | indirectAttemptExpiry x0 => exact keeps_execIndirectAttemptExpiry x0 s t h
  | dataTimingSearchEnd x0 => exact keeps_execDataTimingSearchEnd x0 s t h
  | canReceiveError x0 x1 x2 => exact keeps_execCanReceiveError x0 x1 x2 s t h
  | checkpointComplete x0 => exact keeps_execCheckpointComplete x0 s t h

/-- The bit of a unit in a mask. -/
def partBit : Part → Nat
  | .dev => 0
  | .clk => 1
  | .pwr => 2
  | .wd => 3
  | .tt => 4
  | .tl => 5
  | .alarms => 6
  | .rtc => 7
  | .shadow => 8
  | .ports => 9
  | .cmd => 10
  | .log => 11
  | .rad => 12
  | .mac => 13
  | .lat => 14
  | .txn => 15
  | .sch => 16
  | .chd => 17
  | .mtr => 18
  | .sgn => 19
  | .io => 20
  | .can => 21
  | .key => 22
  | .mem => 23
  | .upd => 24
  | .bal => 25
  | .pending => 26

/-- The units that a mask keeps: only the others change. -/
theorem only_of_keeps {m : Nat} {ps : List Part} {s t : State} (h : Keeps m s t)
    (hb : (.dev :: .pending :: everyUnit).all (fun p => ps.contains p || m.testBit (partBit p)) = true) : OnlyChanges ps s t := by
  intro p hp
  have h2 := List.all_eq_true.mp hb p (by cases p <;> decide)
  have h3 : m.testBit (partBit p) = true := by simpa [hp] using h2
  have := h.get (partBit p) h3
  cases p <;> exact this

end Sys2Proof.Laws
end

