-- ==== Sys2Proof/Laws/Requests.lean ====
section
/-!
SUPPORT. What serving a request, answering it and posting a setting come to.
-/
namespace Sys2Proof.Laws
open Sys2Proof Sys2Proof.Machine

/-- A request that passes its command's checks is acted on. -/
theorem serve_of_runs {code : Nat} {chk : Req → State → Option Fail} {act : Req → State → State} {r : Req} {s : State}
    (h : Runs code chk r s) : serve code chk act s = act r (took r s) := by
  obtain ⟨h1, h2, h3⟩ := h
  unfold serve
  rw [h1]
  simp only [h2, and_self, if_true]
  rw [show chk r { s with cmd := { s.cmd with taken := s.cmd.taken.filter fun x => x.id != r.id } } = none from h3]
  rfl

/-- A request that fails a check is answered with that failure. -/
theorem serve_of_refused {code : Nat} {chk : Req → State → Option Fail} {act : Req → State → State} {r : Req} {f : Fail} {s : State}
    (h : Refused code chk r f s) : serve code chk act s = failReq r f (took r s) := by
  obtain ⟨h1, h2, h3⟩ := h
  unfold serve
  rw [h1]
  simp only [h2, and_self, if_true]
  rw [show chk r { s with cmd := { s.cmd with taken := s.cmd.taken.filter fun x => x.id != r.id } } = some f from h3]
  rfl

/-- No command acts on a request of another opcode. -/
theorem serve_of_other {code : Nat} {chk : Req → State → Option Fail} {act : Req → State → State} {r : Req} {s : State}
    (h1 : firstReady s.cmd.taken = some r) (h2 : r.opcode ≠ code) : serve code chk act s = s := by
  unfold serve; rw [h1]; simp only [h2, false_and, if_false]

/-- No command acts while a handover window is open (R66). -/
theorem serve_of_window {code : Nat} {chk : Req → State → Option Fail} {act : Req → State → State} {s : State}
    (h1 : s.upd.windowOpen = true) : serve code chk act s = s := by
  unfold serve
  cases firstReady s.cmd.taken with
  | none => rfl
  | some r => simp [h1]

/-- No command acts where no request may execute. -/
theorem serve_of_none {code : Nat} {chk : Req → State → Option Fail} {act : Req → State → State} {s : State}
    (h1 : firstReady s.cmd.taken = none) : serve code chk act s = s := by
  unfold serve; rw [h1]

/-- A post finds room. -/
theorem tlPost_of_room {target rank block : Nat} {kind : TlKind} {s : State} (h : Room block s) :
    tlPost target rank block kind s = some (tlPut target rank block kind true s) := by
  unfold tlPost; rw [if_pos h]

/-- A post is refused. -/
theorem tlPost_of_full {target rank block : Nat} {kind : TlKind} {s : State} (h : tlRoom s.tl block 1 = false) :
    tlPost target rank block kind s = none := by
  unfold tlPost; rw [if_neg (by simp [h])]

/-- A setting change that finds room is answered OK and waits for the next boundary. -/
theorem storeAtBoundary_of_room {block : Nat} {r : Req} {s : State} (h : Room block s) :
    storeAtBoundary block r s = ok r [] (tlPut (nextBoundary s) 3 block (.config r) true s) := by
  unfold storeAtBoundary; rw [tlPost_of_room h]

/-- The due entry of a kind that has a meaning fires and leaves the queue. -/
theorem tlFire_of_due {f : TlKind → TlEntry → Option (State → State)} {s : State} {e : TlEntry} {g : State → State}
    (h : Due e s) (hf : f e.kind e = some g) : tlFire f s = g (tlRemove e.seq s) := by
  unfold tlFire
  rw [show tlDue s = some e from h]
  simp only [hf]

/-- Nothing fires where no entry is due. -/
theorem tlFire_of_none {f : TlKind → TlEntry → Option (State → State)} {s : State} (h : tlDue s = none) : tlFire f s = s := by
  unfold tlFire; rw [h]

/-- An entry of a kind that has no meaning for the command stays. -/
theorem tlFire_of_other {f : TlKind → TlEntry → Option (State → State)} {s : State} {e : TlEntry}
    (h : Due e s) (hf : f e.kind e = none) : tlFire f s = s := by
  unfold tlFire
  rw [show tlDue s = some e from h]
  simp only [hf]

@[simp] theorem took_tt (r : Req) (s : State) : (took r s).tt = s.tt := rfl
@[simp] theorem took_tl (r : Req) (s : State) : (took r s).tl = s.tl := rfl
@[simp] theorem took_ports (r : Req) (s : State) : (took r s).ports = s.ports := rfl
@[simp] theorem took_pwr (r : Req) (s : State) : (took r s).pwr = s.pwr := rfl
@[simp] theorem took_taken (r : Req) (s : State) : (took r s).cmd.taken = s.cmd.taken.filter fun x => x.id != r.id := rfl

end Sys2Proof.Laws
end

