-- ==== Sys2Proof/Laws/State.lean ====
section
/-!
SUPPORT. What each update of one unit leaves and changes, field by field, and how the tables, the lists of units and the values of the four ports
read back.
-/
namespace Sys2Proof.Laws
open Sys2Proof Sys2Proof.Machine

/-! ### Values of the four ports -/

@[simp] theorem get_put_self {α : Type} (q : Quad α) (p : Fin 4) (v : α) : (q.put p v).get p = v := by
  match p with
  | 0 => rfl
  | 1 => rfl
  | 2 => rfl
  | 3 => rfl

theorem get_put_ne {α : Type} (q : Quad α) {p r : Fin 4} (v : α) (h : r ≠ p) : (q.put p v).get r = q.get r := by
  revert h
  match p, r with
  | 0, 0 | 1, 1 | 2, 2 | 3, 3 => exact fun h => absurd rfl h
  | 0, 1 | 0, 2 | 0, 3 | 1, 0 | 1, 2 | 1, 3 | 2, 0 | 2, 1 | 2, 3 | 3, 0 | 3, 1 | 3, 2 => exact fun _ => rfl

@[simp] theorem get_upd_self {α : Type} (q : Quad α) (p : Fin 4) (f : α → α) : (q.upd p f).get p = f (q.get p) := get_put_self q p _

theorem get_upd_ne {α : Type} (q : Quad α) {p r : Fin 4} (f : α → α) (h : r ≠ p) : (q.upd p f).get r = q.get r := get_put_ne q _ h

@[simp] theorem get_map {α β : Type} (q : Quad α) (f : α → β) (p : Fin 4) : (q.map f).get p = f (q.get p) := by
  match p with
  | 0 => rfl
  | 1 => rfl
  | 2 => rfl
  | 3 => rfl

@[simp] theorem get_all {α : Type} (v : α) (p : Fin 4) : (Quad.all v).get p = v := by
  match p with
  | 0 => rfl
  | 1 => rfl
  | 2 => rfl
  | 3 => rfl

/-! ### Lists of units -/

@[simp] theorem length_updAt {α : Type} (l : List α) (n : Nat) (f : α → α) : (updAt l n f).length = l.length := by
  induction l generalizing n with
  | nil => rfl
  | cons x xs ih => cases n <;> simp [updAt, ih]

theorem getElem?_updAt {α : Type} (l : List α) (n k : Nat) (f : α → α) :
    (updAt l n f)[k]? = if k = n then l[k]?.map f else l[k]? := by
  induction l generalizing n k with
  | nil => simp [updAt]
  | cons x xs ih => cases n <;> cases k <;> simp [updAt, ih]

theorem getD_updAt_self {α : Type} {l : List α} {n : Nat} (f : α → α) (d : α) (h : n < l.length) :
    (updAt l n f).getD n d = f (l.getD n d) := by
  simp only [List.getD_eq_getElem?_getD, getElem?_updAt, if_true]
  simp [h]

theorem getD_updAt_ne {α : Type} (l : List α) {n k : Nat} (f : α → α) (d : α) (h : k ≠ n) : (updAt l n f).getD k d = l.getD k d := by
  simp [List.getD_eq_getElem?_getD, getElem?_updAt, h]

/-! ### Tables by number -/

@[simp] theorem tget_tset_self {α : Type} (t : Tbl α) (k : Nat) (v : α) : tget (tset t k v) k = some v := by
  induction t with
  | nil => simp [tset, tget]
  | cons x t ih =>
    obtain ⟨k', v'⟩ := x
    simp only [tset]
    split
    · simp [tget]
    · split
      · simp [tget]
      · simp_all [tget]

theorem tget_tset_ne {α : Type} (t : Tbl α) {k j : Nat} (v : α) (h : j ≠ k) : tget (tset t k v) j = tget t j := by
  induction t with
  | nil => simp [tset, tget, Ne.symm h]
  | cons x t ih =>
    obtain ⟨k', v'⟩ := x
    simp only [tset]
    split
    · subst_vars; simp only [tget, if_neg (Ne.symm h)]
    · split
      · simp only [tget, Ne.symm h, if_false]
        split
        · rw [if_neg (by omega), if_pos (by omega)]
        · rfl
      · simp only [tget, ih]

theorem rising_cons {α : Type} (x : Nat × α) (t : Tbl α) :
    Tbl.rising (x :: t) = true ↔ (∀ y, t.head? = some y → x.1 < y.1) ∧ Tbl.rising t = true := by
  cases t <;> simp [Tbl.rising]

theorem head_tset {α : Type} (t : Tbl α) (k : Nat) (v : α) (y : Nat × α) (h : (tset t k v).head? = some y) :
    y.1 = k ∨ t.head?.map Prod.fst = some y.1 := by
  cases t with
  | nil => simp [tset] at h; simp [← h]
  | cons x t =>
    obtain ⟨k', v'⟩ := x
    simp only [tset] at h
    split at h
    · simp at h; simp [← h]
    · split at h
      · simp at h; simp [← h]
      · simp at h; simp [← h]

/-- Writing an entry keeps a table in its canonical form. -/
theorem rising_tset {α : Type} (t : Tbl α) (k : Nat) (v : α) (h : Tbl.rising t = true) : Tbl.rising (tset t k v) = true := by
  induction t with
  | nil => rfl
  | cons x t ih =>
    obtain ⟨k', v'⟩ := x
    have h' := (rising_cons _ _).mp h
    simp only [tset]
    split
    · subst_vars; exact (rising_cons _ _).mpr h'
    · split
      · exact (rising_cons _ _).mpr ⟨by simp; omega, h⟩
      · refine (rising_cons _ _).mpr ⟨fun y hy => ?_, ih h'.2⟩
        rcases head_tset t k v y hy with e | e
        · simp only; omega
        · cases t with
          | nil => simp at e
          | cons z t => simp at e; have := h'.1 z rfl; simp only at this ⊢; omega

/-! ### Updates of one unit -/

@[simp] theorem onPort_dev (p : Fin 4) (f : PortSt → PortSt) (s : State) : (onPort p f s).dev = s.dev := rfl
@[simp] theorem onPort_clk (p : Fin 4) (f : PortSt → PortSt) (s : State) : (onPort p f s).clk = s.clk := rfl
@[simp] theorem onPort_pwr (p : Fin 4) (f : PortSt → PortSt) (s : State) : (onPort p f s).pwr = s.pwr := rfl
@[simp] theorem onPort_wd (p : Fin 4) (f : PortSt → PortSt) (s : State) : (onPort p f s).wd = s.wd := rfl
@[simp] theorem onPort_tt (p : Fin 4) (f : PortSt → PortSt) (s : State) : (onPort p f s).tt = s.tt := rfl
@[simp] theorem onPort_tl (p : Fin 4) (f : PortSt → PortSt) (s : State) : (onPort p f s).tl = s.tl := rfl
@[simp] theorem onPort_alarms (p : Fin 4) (f : PortSt → PortSt) (s : State) : (onPort p f s).alarms = s.alarms := rfl
@[simp] theorem onPort_rtc (p : Fin 4) (f : PortSt → PortSt) (s : State) : (onPort p f s).rtc = s.rtc := rfl
@[simp] theorem onPort_shadow (p : Fin 4) (f : PortSt → PortSt) (s : State) : (onPort p f s).shadow = s.shadow := rfl
@[simp] theorem onPort_ports (p : Fin 4) (f : PortSt → PortSt) (s : State) : (onPort p f s).ports = s.ports.upd p f := rfl
@[simp] theorem onPort_cmd (p : Fin 4) (f : PortSt → PortSt) (s : State) : (onPort p f s).cmd = s.cmd := rfl
@[simp] theorem onPort_log (p : Fin 4) (f : PortSt → PortSt) (s : State) : (onPort p f s).log = s.log := rfl
@[simp] theorem onPort_rad (p : Fin 4) (f : PortSt → PortSt) (s : State) : (onPort p f s).rad = s.rad := rfl
@[simp] theorem onPort_mac (p : Fin 4) (f : PortSt → PortSt) (s : State) : (onPort p f s).mac = s.mac := rfl
@[simp] theorem onPort_lat (p : Fin 4) (f : PortSt → PortSt) (s : State) : (onPort p f s).lat = s.lat := rfl
@[simp] theorem onPort_txn (p : Fin 4) (f : PortSt → PortSt) (s : State) : (onPort p f s).txn = s.txn := rfl
@[simp] theorem onPort_sch (p : Fin 4) (f : PortSt → PortSt) (s : State) : (onPort p f s).sch = s.sch := rfl
@[simp] theorem onPort_chd (p : Fin 4) (f : PortSt → PortSt) (s : State) : (onPort p f s).chd = s.chd := rfl
@[simp] theorem onPort_mtr (p : Fin 4) (f : PortSt → PortSt) (s : State) : (onPort p f s).mtr = s.mtr := rfl
@[simp] theorem onPort_sgn (p : Fin 4) (f : PortSt → PortSt) (s : State) : (onPort p f s).sgn = s.sgn := rfl
@[simp] theorem onPort_io (p : Fin 4) (f : PortSt → PortSt) (s : State) : (onPort p f s).io = s.io := rfl
@[simp] theorem onPort_can (p : Fin 4) (f : PortSt → PortSt) (s : State) : (onPort p f s).can = s.can := rfl
@[simp] theorem onPort_key (p : Fin 4) (f : PortSt → PortSt) (s : State) : (onPort p f s).key = s.key := rfl
@[simp] theorem onPort_mem (p : Fin 4) (f : PortSt → PortSt) (s : State) : (onPort p f s).mem = s.mem := rfl
@[simp] theorem onPort_upd (p : Fin 4) (f : PortSt → PortSt) (s : State) : (onPort p f s).upd = s.upd := rfl
@[simp] theorem onPort_bal (p : Fin 4) (f : PortSt → PortSt) (s : State) : (onPort p f s).bal = s.bal := rfl
@[simp] theorem onPort_pending (p : Fin 4) (f : PortSt → PortSt) (s : State) : (onPort p f s).pending = s.pending := rfl

@[simp] theorem onUpd_dev (f : Upd → Upd) (s : State) : (onUpd f s).dev = s.dev := rfl
@[simp] theorem onUpd_clk (f : Upd → Upd) (s : State) : (onUpd f s).clk = s.clk := rfl
@[simp] theorem onUpd_pwr (f : Upd → Upd) (s : State) : (onUpd f s).pwr = s.pwr := rfl
@[simp] theorem onUpd_wd (f : Upd → Upd) (s : State) : (onUpd f s).wd = s.wd := rfl
@[simp] theorem onUpd_tt (f : Upd → Upd) (s : State) : (onUpd f s).tt = s.tt := rfl
@[simp] theorem onUpd_tl (f : Upd → Upd) (s : State) : (onUpd f s).tl = s.tl := rfl
@[simp] theorem onUpd_alarms (f : Upd → Upd) (s : State) : (onUpd f s).alarms = s.alarms := rfl
@[simp] theorem onUpd_rtc (f : Upd → Upd) (s : State) : (onUpd f s).rtc = s.rtc := rfl
@[simp] theorem onUpd_shadow (f : Upd → Upd) (s : State) : (onUpd f s).shadow = s.shadow := rfl
@[simp] theorem onUpd_ports (f : Upd → Upd) (s : State) : (onUpd f s).ports = s.ports := rfl
@[simp] theorem onUpd_cmd (f : Upd → Upd) (s : State) : (onUpd f s).cmd = s.cmd := rfl
@[simp] theorem onUpd_log (f : Upd → Upd) (s : State) : (onUpd f s).log = s.log := rfl
@[simp] theorem onUpd_rad (f : Upd → Upd) (s : State) : (onUpd f s).rad = s.rad := rfl
@[simp] theorem onUpd_mac (f : Upd → Upd) (s : State) : (onUpd f s).mac = s.mac := rfl
@[simp] theorem onUpd_lat (f : Upd → Upd) (s : State) : (onUpd f s).lat = s.lat := rfl
@[simp] theorem onUpd_txn (f : Upd → Upd) (s : State) : (onUpd f s).txn = s.txn := rfl
@[simp] theorem onUpd_sch (f : Upd → Upd) (s : State) : (onUpd f s).sch = s.sch := rfl
@[simp] theorem onUpd_chd (f : Upd → Upd) (s : State) : (onUpd f s).chd = s.chd := rfl
@[simp] theorem onUpd_mtr (f : Upd → Upd) (s : State) : (onUpd f s).mtr = s.mtr := rfl
@[simp] theorem onUpd_sgn (f : Upd → Upd) (s : State) : (onUpd f s).sgn = s.sgn := rfl
@[simp] theorem onUpd_io (f : Upd → Upd) (s : State) : (onUpd f s).io = s.io := rfl
@[simp] theorem onUpd_can (f : Upd → Upd) (s : State) : (onUpd f s).can = s.can := rfl
@[simp] theorem onUpd_key (f : Upd → Upd) (s : State) : (onUpd f s).key = s.key := rfl
@[simp] theorem onUpd_mem (f : Upd → Upd) (s : State) : (onUpd f s).mem = s.mem := rfl
@[simp] theorem onUpd_upd (f : Upd → Upd) (s : State) : (onUpd f s).upd = f s.upd := rfl
@[simp] theorem onUpd_bal (f : Upd → Upd) (s : State) : (onUpd f s).bal = s.bal := rfl
@[simp] theorem onUpd_pending (f : Upd → Upd) (s : State) : (onUpd f s).pending = s.pending := rfl

@[simp] theorem onSess_dev (f : Session → Session) (s : State) : (onSess f s).dev = s.dev := rfl
@[simp] theorem onSess_clk (f : Session → Session) (s : State) : (onSess f s).clk = s.clk := rfl
@[simp] theorem onSess_pwr (f : Session → Session) (s : State) : (onSess f s).pwr = s.pwr := rfl
@[simp] theorem onSess_wd (f : Session → Session) (s : State) : (onSess f s).wd = s.wd := rfl
@[simp] theorem onSess_tt (f : Session → Session) (s : State) : (onSess f s).tt = s.tt := rfl
@[simp] theorem onSess_tl (f : Session → Session) (s : State) : (onSess f s).tl = s.tl := rfl
@[simp] theorem onSess_alarms (f : Session → Session) (s : State) : (onSess f s).alarms = s.alarms := rfl
@[simp] theorem onSess_rtc (f : Session → Session) (s : State) : (onSess f s).rtc = s.rtc := rfl
@[simp] theorem onSess_shadow (f : Session → Session) (s : State) : (onSess f s).shadow = s.shadow := rfl
@[simp] theorem onSess_ports (f : Session → Session) (s : State) : (onSess f s).ports = s.ports := rfl
@[simp] theorem onSess_cmd (f : Session → Session) (s : State) : (onSess f s).cmd = s.cmd := rfl
@[simp] theorem onSess_log (f : Session → Session) (s : State) : (onSess f s).log = s.log := rfl
@[simp] theorem onSess_rad (f : Session → Session) (s : State) : (onSess f s).rad = s.rad := rfl
@[simp] theorem onSess_mac (f : Session → Session) (s : State) : (onSess f s).mac = s.mac := rfl
@[simp] theorem onSess_lat (f : Session → Session) (s : State) : (onSess f s).lat = s.lat := rfl
@[simp] theorem onSess_txn (f : Session → Session) (s : State) : (onSess f s).txn = s.txn := rfl
@[simp] theorem onSess_sch (f : Session → Session) (s : State) : (onSess f s).sch = s.sch := rfl
@[simp] theorem onSess_chd (f : Session → Session) (s : State) : (onSess f s).chd = s.chd := rfl
@[simp] theorem onSess_mtr (f : Session → Session) (s : State) : (onSess f s).mtr = s.mtr := rfl
@[simp] theorem onSess_sgn (f : Session → Session) (s : State) : (onSess f s).sgn = s.sgn := rfl
@[simp] theorem onSess_io (f : Session → Session) (s : State) : (onSess f s).io = s.io := rfl
@[simp] theorem onSess_can (f : Session → Session) (s : State) : (onSess f s).can = s.can := rfl
@[simp] theorem onSess_key (f : Session → Session) (s : State) : (onSess f s).key = s.key := rfl
@[simp] theorem onSess_mem (f : Session → Session) (s : State) : (onSess f s).mem = s.mem := rfl
@[simp] theorem onSess_upd (f : Session → Session) (s : State) : (onSess f s).upd = { s.upd with session := f s.upd.session } := rfl
@[simp] theorem onSess_bal (f : Session → Session) (s : State) : (onSess f s).bal = s.bal := rfl
@[simp] theorem onSess_pending (f : Session → Session) (s : State) : (onSess f s).pending = s.pending := rfl

@[simp] theorem updMd_dev (n : Nat) (f : MacEng → MacEng) (s : State) : (updMd n f s).dev = s.dev := rfl
@[simp] theorem updMd_clk (n : Nat) (f : MacEng → MacEng) (s : State) : (updMd n f s).clk = s.clk := rfl
@[simp] theorem updMd_pwr (n : Nat) (f : MacEng → MacEng) (s : State) : (updMd n f s).pwr = s.pwr := rfl
@[simp] theorem updMd_wd (n : Nat) (f : MacEng → MacEng) (s : State) : (updMd n f s).wd = s.wd := rfl
@[simp] theorem updMd_tt (n : Nat) (f : MacEng → MacEng) (s : State) : (updMd n f s).tt = s.tt := rfl
@[simp] theorem updMd_tl (n : Nat) (f : MacEng → MacEng) (s : State) : (updMd n f s).tl = s.tl := rfl
@[simp] theorem updMd_alarms (n : Nat) (f : MacEng → MacEng) (s : State) : (updMd n f s).alarms = s.alarms := rfl
@[simp] theorem updMd_rtc (n : Nat) (f : MacEng → MacEng) (s : State) : (updMd n f s).rtc = s.rtc := rfl
@[simp] theorem updMd_shadow (n : Nat) (f : MacEng → MacEng) (s : State) : (updMd n f s).shadow = s.shadow := rfl
@[simp] theorem updMd_ports (n : Nat) (f : MacEng → MacEng) (s : State) : (updMd n f s).ports = s.ports := rfl
@[simp] theorem updMd_cmd (n : Nat) (f : MacEng → MacEng) (s : State) : (updMd n f s).cmd = s.cmd := rfl
@[simp] theorem updMd_log (n : Nat) (f : MacEng → MacEng) (s : State) : (updMd n f s).log = s.log := rfl
@[simp] theorem updMd_rad (n : Nat) (f : MacEng → MacEng) (s : State) : (updMd n f s).rad = s.rad := rfl
@[simp] theorem updMd_mac (n : Nat) (f : MacEng → MacEng) (s : State) : (updMd n f s).mac = { s.mac with engs := updAt s.mac.engs n f } := rfl
@[simp] theorem updMd_lat (n : Nat) (f : MacEng → MacEng) (s : State) : (updMd n f s).lat = s.lat := rfl
@[simp] theorem updMd_txn (n : Nat) (f : MacEng → MacEng) (s : State) : (updMd n f s).txn = s.txn := rfl
@[simp] theorem updMd_sch (n : Nat) (f : MacEng → MacEng) (s : State) : (updMd n f s).sch = s.sch := rfl
@[simp] theorem updMd_chd (n : Nat) (f : MacEng → MacEng) (s : State) : (updMd n f s).chd = s.chd := rfl
@[simp] theorem updMd_mtr (n : Nat) (f : MacEng → MacEng) (s : State) : (updMd n f s).mtr = s.mtr := rfl
@[simp] theorem updMd_sgn (n : Nat) (f : MacEng → MacEng) (s : State) : (updMd n f s).sgn = s.sgn := rfl
@[simp] theorem updMd_io (n : Nat) (f : MacEng → MacEng) (s : State) : (updMd n f s).io = s.io := rfl
@[simp] theorem updMd_can (n : Nat) (f : MacEng → MacEng) (s : State) : (updMd n f s).can = s.can := rfl
@[simp] theorem updMd_key (n : Nat) (f : MacEng → MacEng) (s : State) : (updMd n f s).key = s.key := rfl
@[simp] theorem updMd_mem (n : Nat) (f : MacEng → MacEng) (s : State) : (updMd n f s).mem = s.mem := rfl
@[simp] theorem updMd_upd (n : Nat) (f : MacEng → MacEng) (s : State) : (updMd n f s).upd = s.upd := rfl
@[simp] theorem updMd_bal (n : Nat) (f : MacEng → MacEng) (s : State) : (updMd n f s).bal = s.bal := rfl
@[simp] theorem updMd_pending (n : Nat) (f : MacEng → MacEng) (s : State) : (updMd n f s).pending = s.pending := rfl

@[simp] theorem onCan_dev (p : Nat) (f : CanPort → CanPort) (s : State) : (onCan p f s).dev = s.dev := rfl
@[simp] theorem onCan_clk (p : Nat) (f : CanPort → CanPort) (s : State) : (onCan p f s).clk = s.clk := rfl
@[simp] theorem onCan_pwr (p : Nat) (f : CanPort → CanPort) (s : State) : (onCan p f s).pwr = s.pwr := rfl
@[simp] theorem onCan_wd (p : Nat) (f : CanPort → CanPort) (s : State) : (onCan p f s).wd = s.wd := rfl
@[simp] theorem onCan_tt (p : Nat) (f : CanPort → CanPort) (s : State) : (onCan p f s).tt = s.tt := rfl
@[simp] theorem onCan_tl (p : Nat) (f : CanPort → CanPort) (s : State) : (onCan p f s).tl = s.tl := rfl
@[simp] theorem onCan_alarms (p : Nat) (f : CanPort → CanPort) (s : State) : (onCan p f s).alarms = s.alarms := rfl
@[simp] theorem onCan_rtc (p : Nat) (f : CanPort → CanPort) (s : State) : (onCan p f s).rtc = s.rtc := rfl
@[simp] theorem onCan_shadow (p : Nat) (f : CanPort → CanPort) (s : State) : (onCan p f s).shadow = s.shadow := rfl
@[simp] theorem onCan_ports (p : Nat) (f : CanPort → CanPort) (s : State) : (onCan p f s).ports = s.ports := rfl
@[simp] theorem onCan_cmd (p : Nat) (f : CanPort → CanPort) (s : State) : (onCan p f s).cmd = s.cmd := rfl
@[simp] theorem onCan_log (p : Nat) (f : CanPort → CanPort) (s : State) : (onCan p f s).log = s.log := rfl
@[simp] theorem onCan_rad (p : Nat) (f : CanPort → CanPort) (s : State) : (onCan p f s).rad = s.rad := rfl
@[simp] theorem onCan_mac (p : Nat) (f : CanPort → CanPort) (s : State) : (onCan p f s).mac = s.mac := rfl
@[simp] theorem onCan_lat (p : Nat) (f : CanPort → CanPort) (s : State) : (onCan p f s).lat = s.lat := rfl
@[simp] theorem onCan_txn (p : Nat) (f : CanPort → CanPort) (s : State) : (onCan p f s).txn = s.txn := rfl
@[simp] theorem onCan_sch (p : Nat) (f : CanPort → CanPort) (s : State) : (onCan p f s).sch = s.sch := rfl
@[simp] theorem onCan_chd (p : Nat) (f : CanPort → CanPort) (s : State) : (onCan p f s).chd = s.chd := rfl
@[simp] theorem onCan_mtr (p : Nat) (f : CanPort → CanPort) (s : State) : (onCan p f s).mtr = s.mtr := rfl
@[simp] theorem onCan_sgn (p : Nat) (f : CanPort → CanPort) (s : State) : (onCan p f s).sgn = s.sgn := rfl
@[simp] theorem onCan_io (p : Nat) (f : CanPort → CanPort) (s : State) : (onCan p f s).io = s.io := rfl
@[simp] theorem onCan_can (p : Nat) (f : CanPort → CanPort) (s : State) : (onCan p f s).can = updAt s.can p f := rfl
@[simp] theorem onCan_key (p : Nat) (f : CanPort → CanPort) (s : State) : (onCan p f s).key = s.key := rfl
@[simp] theorem onCan_mem (p : Nat) (f : CanPort → CanPort) (s : State) : (onCan p f s).mem = s.mem := rfl
@[simp] theorem onCan_upd (p : Nat) (f : CanPort → CanPort) (s : State) : (onCan p f s).upd = s.upd := rfl
@[simp] theorem onCan_bal (p : Nat) (f : CanPort → CanPort) (s : State) : (onCan p f s).bal = s.bal := rfl
@[simp] theorem onCan_pending (p : Nat) (f : CanPort → CanPort) (s : State) : (onCan p f s).pending = s.pending := rfl

@[simp] theorem onBuf_dev (p b : Nat) (f : CanBuf → CanBuf) (s : State) : (onBuf p b f s).dev = s.dev := rfl
@[simp] theorem onBuf_clk (p b : Nat) (f : CanBuf → CanBuf) (s : State) : (onBuf p b f s).clk = s.clk := rfl
@[simp] theorem onBuf_pwr (p b : Nat) (f : CanBuf → CanBuf) (s : State) : (onBuf p b f s).pwr = s.pwr := rfl
@[simp] theorem onBuf_wd (p b : Nat) (f : CanBuf → CanBuf) (s : State) : (onBuf p b f s).wd = s.wd := rfl
@[simp] theorem onBuf_tt (p b : Nat) (f : CanBuf → CanBuf) (s : State) : (onBuf p b f s).tt = s.tt := rfl
@[simp] theorem onBuf_tl (p b : Nat) (f : CanBuf → CanBuf) (s : State) : (onBuf p b f s).tl = s.tl := rfl
@[simp] theorem onBuf_alarms (p b : Nat) (f : CanBuf → CanBuf) (s : State) : (onBuf p b f s).alarms = s.alarms := rfl
@[simp] theorem onBuf_rtc (p b : Nat) (f : CanBuf → CanBuf) (s : State) : (onBuf p b f s).rtc = s.rtc := rfl
@[simp] theorem onBuf_shadow (p b : Nat) (f : CanBuf → CanBuf) (s : State) : (onBuf p b f s).shadow = s.shadow := rfl
@[simp] theorem onBuf_ports (p b : Nat) (f : CanBuf → CanBuf) (s : State) : (onBuf p b f s).ports = s.ports := rfl
@[simp] theorem onBuf_cmd (p b : Nat) (f : CanBuf → CanBuf) (s : State) : (onBuf p b f s).cmd = s.cmd := rfl
@[simp] theorem onBuf_log (p b : Nat) (f : CanBuf → CanBuf) (s : State) : (onBuf p b f s).log = s.log := rfl
@[simp] theorem onBuf_rad (p b : Nat) (f : CanBuf → CanBuf) (s : State) : (onBuf p b f s).rad = s.rad := rfl
@[simp] theorem onBuf_mac (p b : Nat) (f : CanBuf → CanBuf) (s : State) : (onBuf p b f s).mac = s.mac := rfl
@[simp] theorem onBuf_lat (p b : Nat) (f : CanBuf → CanBuf) (s : State) : (onBuf p b f s).lat = s.lat := rfl
@[simp] theorem onBuf_txn (p b : Nat) (f : CanBuf → CanBuf) (s : State) : (onBuf p b f s).txn = s.txn := rfl
@[simp] theorem onBuf_sch (p b : Nat) (f : CanBuf → CanBuf) (s : State) : (onBuf p b f s).sch = s.sch := rfl
@[simp] theorem onBuf_chd (p b : Nat) (f : CanBuf → CanBuf) (s : State) : (onBuf p b f s).chd = s.chd := rfl
@[simp] theorem onBuf_mtr (p b : Nat) (f : CanBuf → CanBuf) (s : State) : (onBuf p b f s).mtr = s.mtr := rfl
@[simp] theorem onBuf_sgn (p b : Nat) (f : CanBuf → CanBuf) (s : State) : (onBuf p b f s).sgn = s.sgn := rfl
@[simp] theorem onBuf_io (p b : Nat) (f : CanBuf → CanBuf) (s : State) : (onBuf p b f s).io = s.io := rfl
@[simp] theorem onBuf_can (p b : Nat) (f : CanBuf → CanBuf) (s : State) : (onBuf p b f s).can = updAt s.can p fun c => { c with bufs := updAt c.bufs b f } := rfl
@[simp] theorem onBuf_key (p b : Nat) (f : CanBuf → CanBuf) (s : State) : (onBuf p b f s).key = s.key := rfl
@[simp] theorem onBuf_mem (p b : Nat) (f : CanBuf → CanBuf) (s : State) : (onBuf p b f s).mem = s.mem := rfl
@[simp] theorem onBuf_upd (p b : Nat) (f : CanBuf → CanBuf) (s : State) : (onBuf p b f s).upd = s.upd := rfl
@[simp] theorem onBuf_bal (p b : Nat) (f : CanBuf → CanBuf) (s : State) : (onBuf p b f s).bal = s.bal := rfl
@[simp] theorem onBuf_pending (p b : Nat) (f : CanBuf → CanBuf) (s : State) : (onBuf p b f s).pending = s.pending := rfl

@[simp] theorem onDin_dev (k : Nat) (f : Din → Din) (s : State) : (onDin k f s).dev = s.dev := rfl
@[simp] theorem onDin_clk (k : Nat) (f : Din → Din) (s : State) : (onDin k f s).clk = s.clk := rfl
@[simp] theorem onDin_pwr (k : Nat) (f : Din → Din) (s : State) : (onDin k f s).pwr = s.pwr := rfl
@[simp] theorem onDin_wd (k : Nat) (f : Din → Din) (s : State) : (onDin k f s).wd = s.wd := rfl
@[simp] theorem onDin_tt (k : Nat) (f : Din → Din) (s : State) : (onDin k f s).tt = s.tt := rfl
@[simp] theorem onDin_tl (k : Nat) (f : Din → Din) (s : State) : (onDin k f s).tl = s.tl := rfl
@[simp] theorem onDin_alarms (k : Nat) (f : Din → Din) (s : State) : (onDin k f s).alarms = s.alarms := rfl
@[simp] theorem onDin_rtc (k : Nat) (f : Din → Din) (s : State) : (onDin k f s).rtc = s.rtc := rfl
@[simp] theorem onDin_shadow (k : Nat) (f : Din → Din) (s : State) : (onDin k f s).shadow = s.shadow := rfl
@[simp] theorem onDin_ports (k : Nat) (f : Din → Din) (s : State) : (onDin k f s).ports = s.ports := rfl
@[simp] theorem onDin_cmd (k : Nat) (f : Din → Din) (s : State) : (onDin k f s).cmd = s.cmd := rfl
@[simp] theorem onDin_log (k : Nat) (f : Din → Din) (s : State) : (onDin k f s).log = s.log := rfl
@[simp] theorem onDin_rad (k : Nat) (f : Din → Din) (s : State) : (onDin k f s).rad = s.rad := rfl
@[simp] theorem onDin_mac (k : Nat) (f : Din → Din) (s : State) : (onDin k f s).mac = s.mac := rfl
@[simp] theorem onDin_lat (k : Nat) (f : Din → Din) (s : State) : (onDin k f s).lat = s.lat := rfl
@[simp] theorem onDin_txn (k : Nat) (f : Din → Din) (s : State) : (onDin k f s).txn = s.txn := rfl
@[simp] theorem onDin_sch (k : Nat) (f : Din → Din) (s : State) : (onDin k f s).sch = s.sch := rfl
@[simp] theorem onDin_chd (k : Nat) (f : Din → Din) (s : State) : (onDin k f s).chd = s.chd := rfl
@[simp] theorem onDin_mtr (k : Nat) (f : Din → Din) (s : State) : (onDin k f s).mtr = s.mtr := rfl
@[simp] theorem onDin_sgn (k : Nat) (f : Din → Din) (s : State) : (onDin k f s).sgn = s.sgn := rfl
@[simp] theorem onDin_io (k : Nat) (f : Din → Din) (s : State) : (onDin k f s).io = { s.io with din := updAt s.io.din k f } := rfl
@[simp] theorem onDin_can (k : Nat) (f : Din → Din) (s : State) : (onDin k f s).can = s.can := rfl
@[simp] theorem onDin_key (k : Nat) (f : Din → Din) (s : State) : (onDin k f s).key = s.key := rfl
@[simp] theorem onDin_mem (k : Nat) (f : Din → Din) (s : State) : (onDin k f s).mem = s.mem := rfl
@[simp] theorem onDin_upd (k : Nat) (f : Din → Din) (s : State) : (onDin k f s).upd = s.upd := rfl
@[simp] theorem onDin_bal (k : Nat) (f : Din → Din) (s : State) : (onDin k f s).bal = s.bal := rfl
@[simp] theorem onDin_pending (k : Nat) (f : Din → Din) (s : State) : (onDin k f s).pending = s.pending := rfl

@[simp] theorem onDout_dev (k : Nat) (f : Dout → Dout) (s : State) : (onDout k f s).dev = s.dev := rfl
@[simp] theorem onDout_clk (k : Nat) (f : Dout → Dout) (s : State) : (onDout k f s).clk = s.clk := rfl
@[simp] theorem onDout_pwr (k : Nat) (f : Dout → Dout) (s : State) : (onDout k f s).pwr = s.pwr := rfl
@[simp] theorem onDout_wd (k : Nat) (f : Dout → Dout) (s : State) : (onDout k f s).wd = s.wd := rfl
@[simp] theorem onDout_tt (k : Nat) (f : Dout → Dout) (s : State) : (onDout k f s).tt = s.tt := rfl
@[simp] theorem onDout_tl (k : Nat) (f : Dout → Dout) (s : State) : (onDout k f s).tl = s.tl := rfl
@[simp] theorem onDout_alarms (k : Nat) (f : Dout → Dout) (s : State) : (onDout k f s).alarms = s.alarms := rfl
@[simp] theorem onDout_rtc (k : Nat) (f : Dout → Dout) (s : State) : (onDout k f s).rtc = s.rtc := rfl
@[simp] theorem onDout_shadow (k : Nat) (f : Dout → Dout) (s : State) : (onDout k f s).shadow = s.shadow := rfl
@[simp] theorem onDout_ports (k : Nat) (f : Dout → Dout) (s : State) : (onDout k f s).ports = s.ports := rfl
@[simp] theorem onDout_cmd (k : Nat) (f : Dout → Dout) (s : State) : (onDout k f s).cmd = s.cmd := rfl
@[simp] theorem onDout_log (k : Nat) (f : Dout → Dout) (s : State) : (onDout k f s).log = s.log := rfl
@[simp] theorem onDout_rad (k : Nat) (f : Dout → Dout) (s : State) : (onDout k f s).rad = s.rad := rfl
@[simp] theorem onDout_mac (k : Nat) (f : Dout → Dout) (s : State) : (onDout k f s).mac = s.mac := rfl
@[simp] theorem onDout_lat (k : Nat) (f : Dout → Dout) (s : State) : (onDout k f s).lat = s.lat := rfl
@[simp] theorem onDout_txn (k : Nat) (f : Dout → Dout) (s : State) : (onDout k f s).txn = s.txn := rfl
@[simp] theorem onDout_sch (k : Nat) (f : Dout → Dout) (s : State) : (onDout k f s).sch = s.sch := rfl
@[simp] theorem onDout_chd (k : Nat) (f : Dout → Dout) (s : State) : (onDout k f s).chd = s.chd := rfl
@[simp] theorem onDout_mtr (k : Nat) (f : Dout → Dout) (s : State) : (onDout k f s).mtr = s.mtr := rfl
@[simp] theorem onDout_sgn (k : Nat) (f : Dout → Dout) (s : State) : (onDout k f s).sgn = s.sgn := rfl
@[simp] theorem onDout_io (k : Nat) (f : Dout → Dout) (s : State) : (onDout k f s).io = { s.io with dout := updAt s.io.dout k f } := rfl
@[simp] theorem onDout_can (k : Nat) (f : Dout → Dout) (s : State) : (onDout k f s).can = s.can := rfl
@[simp] theorem onDout_key (k : Nat) (f : Dout → Dout) (s : State) : (onDout k f s).key = s.key := rfl
@[simp] theorem onDout_mem (k : Nat) (f : Dout → Dout) (s : State) : (onDout k f s).mem = s.mem := rfl
@[simp] theorem onDout_upd (k : Nat) (f : Dout → Dout) (s : State) : (onDout k f s).upd = s.upd := rfl
@[simp] theorem onDout_bal (k : Nat) (f : Dout → Dout) (s : State) : (onDout k f s).bal = s.bal := rfl
@[simp] theorem onDout_pending (k : Nat) (f : Dout → Dout) (s : State) : (onDout k f s).pending = s.pending := rfl

@[simp] theorem onMem_dev (m : Nat) (f : MemState → MemState) (s : State) : (onMem m f s).dev = s.dev := rfl
@[simp] theorem onMem_clk (m : Nat) (f : MemState → MemState) (s : State) : (onMem m f s).clk = s.clk := rfl
@[simp] theorem onMem_pwr (m : Nat) (f : MemState → MemState) (s : State) : (onMem m f s).pwr = s.pwr := rfl
@[simp] theorem onMem_wd (m : Nat) (f : MemState → MemState) (s : State) : (onMem m f s).wd = s.wd := rfl
@[simp] theorem onMem_tt (m : Nat) (f : MemState → MemState) (s : State) : (onMem m f s).tt = s.tt := rfl
@[simp] theorem onMem_tl (m : Nat) (f : MemState → MemState) (s : State) : (onMem m f s).tl = s.tl := rfl
@[simp] theorem onMem_alarms (m : Nat) (f : MemState → MemState) (s : State) : (onMem m f s).alarms = s.alarms := rfl
@[simp] theorem onMem_rtc (m : Nat) (f : MemState → MemState) (s : State) : (onMem m f s).rtc = s.rtc := rfl
@[simp] theorem onMem_shadow (m : Nat) (f : MemState → MemState) (s : State) : (onMem m f s).shadow = s.shadow := rfl
@[simp] theorem onMem_ports (m : Nat) (f : MemState → MemState) (s : State) : (onMem m f s).ports = s.ports := rfl
@[simp] theorem onMem_cmd (m : Nat) (f : MemState → MemState) (s : State) : (onMem m f s).cmd = s.cmd := rfl
@[simp] theorem onMem_log (m : Nat) (f : MemState → MemState) (s : State) : (onMem m f s).log = s.log := rfl
@[simp] theorem onMem_rad (m : Nat) (f : MemState → MemState) (s : State) : (onMem m f s).rad = s.rad := rfl
@[simp] theorem onMem_mac (m : Nat) (f : MemState → MemState) (s : State) : (onMem m f s).mac = s.mac := rfl
@[simp] theorem onMem_lat (m : Nat) (f : MemState → MemState) (s : State) : (onMem m f s).lat = s.lat := rfl
@[simp] theorem onMem_txn (m : Nat) (f : MemState → MemState) (s : State) : (onMem m f s).txn = s.txn := rfl
@[simp] theorem onMem_sch (m : Nat) (f : MemState → MemState) (s : State) : (onMem m f s).sch = s.sch := rfl
@[simp] theorem onMem_chd (m : Nat) (f : MemState → MemState) (s : State) : (onMem m f s).chd = s.chd := rfl
@[simp] theorem onMem_mtr (m : Nat) (f : MemState → MemState) (s : State) : (onMem m f s).mtr = s.mtr := rfl
@[simp] theorem onMem_sgn (m : Nat) (f : MemState → MemState) (s : State) : (onMem m f s).sgn = s.sgn := rfl
@[simp] theorem onMem_io (m : Nat) (f : MemState → MemState) (s : State) : (onMem m f s).io = s.io := rfl
@[simp] theorem onMem_can (m : Nat) (f : MemState → MemState) (s : State) : (onMem m f s).can = s.can := rfl
@[simp] theorem onMem_key (m : Nat) (f : MemState → MemState) (s : State) : (onMem m f s).key = s.key := rfl
@[simp] theorem onMem_mem (m : Nat) (f : MemState → MemState) (s : State) : (onMem m f s).mem = { s.mem with mems := updAt s.mem.mems m f } := rfl
@[simp] theorem onMem_upd (m : Nat) (f : MemState → MemState) (s : State) : (onMem m f s).upd = s.upd := rfl
@[simp] theorem onMem_bal (m : Nat) (f : MemState → MemState) (s : State) : (onMem m f s).bal = s.bal := rfl
@[simp] theorem onMem_pending (m : Nat) (f : MemState → MemState) (s : State) : (onMem m f s).pending = s.pending := rfl

@[simp] theorem onFeeder_dev (k : Nat) (f : Feeder → Feeder) (s : State) : (onFeeder k f s).dev = s.dev := rfl
@[simp] theorem onFeeder_clk (k : Nat) (f : Feeder → Feeder) (s : State) : (onFeeder k f s).clk = s.clk := rfl
@[simp] theorem onFeeder_pwr (k : Nat) (f : Feeder → Feeder) (s : State) : (onFeeder k f s).pwr = s.pwr := rfl
@[simp] theorem onFeeder_wd (k : Nat) (f : Feeder → Feeder) (s : State) : (onFeeder k f s).wd = s.wd := rfl
@[simp] theorem onFeeder_tt (k : Nat) (f : Feeder → Feeder) (s : State) : (onFeeder k f s).tt = s.tt := rfl
@[simp] theorem onFeeder_tl (k : Nat) (f : Feeder → Feeder) (s : State) : (onFeeder k f s).tl = s.tl := rfl
@[simp] theorem onFeeder_alarms (k : Nat) (f : Feeder → Feeder) (s : State) : (onFeeder k f s).alarms = s.alarms := rfl
@[simp] theorem onFeeder_rtc (k : Nat) (f : Feeder → Feeder) (s : State) : (onFeeder k f s).rtc = s.rtc := rfl
@[simp] theorem onFeeder_shadow (k : Nat) (f : Feeder → Feeder) (s : State) : (onFeeder k f s).shadow = s.shadow := rfl
@[simp] theorem onFeeder_ports (k : Nat) (f : Feeder → Feeder) (s : State) : (onFeeder k f s).ports = s.ports := rfl
@[simp] theorem onFeeder_cmd (k : Nat) (f : Feeder → Feeder) (s : State) : (onFeeder k f s).cmd = s.cmd := rfl
@[simp] theorem onFeeder_log (k : Nat) (f : Feeder → Feeder) (s : State) : (onFeeder k f s).log = s.log := rfl
@[simp] theorem onFeeder_rad (k : Nat) (f : Feeder → Feeder) (s : State) : (onFeeder k f s).rad = s.rad := rfl
@[simp] theorem onFeeder_mac (k : Nat) (f : Feeder → Feeder) (s : State) : (onFeeder k f s).mac = s.mac := rfl
@[simp] theorem onFeeder_lat (k : Nat) (f : Feeder → Feeder) (s : State) : (onFeeder k f s).lat = s.lat := rfl
@[simp] theorem onFeeder_txn (k : Nat) (f : Feeder → Feeder) (s : State) : (onFeeder k f s).txn = s.txn := rfl
@[simp] theorem onFeeder_sch (k : Nat) (f : Feeder → Feeder) (s : State) : (onFeeder k f s).sch = s.sch := rfl
@[simp] theorem onFeeder_chd (k : Nat) (f : Feeder → Feeder) (s : State) : (onFeeder k f s).chd = s.chd := rfl
@[simp] theorem onFeeder_mtr (k : Nat) (f : Feeder → Feeder) (s : State) : (onFeeder k f s).mtr = { s.mtr with feeders := updAt s.mtr.feeders k f } := rfl
@[simp] theorem onFeeder_sgn (k : Nat) (f : Feeder → Feeder) (s : State) : (onFeeder k f s).sgn = s.sgn := rfl
@[simp] theorem onFeeder_io (k : Nat) (f : Feeder → Feeder) (s : State) : (onFeeder k f s).io = s.io := rfl
@[simp] theorem onFeeder_can (k : Nat) (f : Feeder → Feeder) (s : State) : (onFeeder k f s).can = s.can := rfl
@[simp] theorem onFeeder_key (k : Nat) (f : Feeder → Feeder) (s : State) : (onFeeder k f s).key = s.key := rfl
@[simp] theorem onFeeder_mem (k : Nat) (f : Feeder → Feeder) (s : State) : (onFeeder k f s).mem = s.mem := rfl
@[simp] theorem onFeeder_upd (k : Nat) (f : Feeder → Feeder) (s : State) : (onFeeder k f s).upd = s.upd := rfl
@[simp] theorem onFeeder_bal (k : Nat) (f : Feeder → Feeder) (s : State) : (onFeeder k f s).bal = s.bal := rfl
@[simp] theorem onFeeder_pending (k : Nat) (f : Feeder → Feeder) (s : State) : (onFeeder k f s).pending = s.pending := rfl

@[simp] theorem updCe_dev (n : Nat) (f : Engine → Engine) (s : State) : (updCe n f s).dev = s.dev := rfl
@[simp] theorem updCe_clk (n : Nat) (f : Engine → Engine) (s : State) : (updCe n f s).clk = s.clk := rfl
@[simp] theorem updCe_pwr (n : Nat) (f : Engine → Engine) (s : State) : (updCe n f s).pwr = s.pwr := rfl
@[simp] theorem updCe_wd (n : Nat) (f : Engine → Engine) (s : State) : (updCe n f s).wd = s.wd := rfl
@[simp] theorem updCe_tt (n : Nat) (f : Engine → Engine) (s : State) : (updCe n f s).tt = s.tt := rfl
@[simp] theorem updCe_tl (n : Nat) (f : Engine → Engine) (s : State) : (updCe n f s).tl = s.tl := rfl
@[simp] theorem updCe_alarms (n : Nat) (f : Engine → Engine) (s : State) : (updCe n f s).alarms = s.alarms := rfl
@[simp] theorem updCe_rtc (n : Nat) (f : Engine → Engine) (s : State) : (updCe n f s).rtc = s.rtc := rfl
@[simp] theorem updCe_shadow (n : Nat) (f : Engine → Engine) (s : State) : (updCe n f s).shadow = s.shadow := rfl
@[simp] theorem updCe_ports (n : Nat) (f : Engine → Engine) (s : State) : (updCe n f s).ports = s.ports := rfl
@[simp] theorem updCe_cmd (n : Nat) (f : Engine → Engine) (s : State) : (updCe n f s).cmd = s.cmd := rfl
@[simp] theorem updCe_log (n : Nat) (f : Engine → Engine) (s : State) : (updCe n f s).log = s.log := rfl
@[simp] theorem updCe_rad (n : Nat) (f : Engine → Engine) (s : State) : (updCe n f s).rad = { s.rad with ces := updAt s.rad.ces n f } := rfl
@[simp] theorem updCe_mac (n : Nat) (f : Engine → Engine) (s : State) : (updCe n f s).mac = s.mac := rfl
@[simp] theorem updCe_lat (n : Nat) (f : Engine → Engine) (s : State) : (updCe n f s).lat = s.lat := rfl
@[simp] theorem updCe_txn (n : Nat) (f : Engine → Engine) (s : State) : (updCe n f s).txn = s.txn := rfl
@[simp] theorem updCe_sch (n : Nat) (f : Engine → Engine) (s : State) : (updCe n f s).sch = s.sch := rfl
@[simp] theorem updCe_chd (n : Nat) (f : Engine → Engine) (s : State) : (updCe n f s).chd = s.chd := rfl
@[simp] theorem updCe_mtr (n : Nat) (f : Engine → Engine) (s : State) : (updCe n f s).mtr = s.mtr := rfl
@[simp] theorem updCe_sgn (n : Nat) (f : Engine → Engine) (s : State) : (updCe n f s).sgn = s.sgn := rfl
@[simp] theorem updCe_io (n : Nat) (f : Engine → Engine) (s : State) : (updCe n f s).io = s.io := rfl
@[simp] theorem updCe_can (n : Nat) (f : Engine → Engine) (s : State) : (updCe n f s).can = s.can := rfl
@[simp] theorem updCe_key (n : Nat) (f : Engine → Engine) (s : State) : (updCe n f s).key = s.key := rfl
@[simp] theorem updCe_mem (n : Nat) (f : Engine → Engine) (s : State) : (updCe n f s).mem = s.mem := rfl
@[simp] theorem updCe_upd (n : Nat) (f : Engine → Engine) (s : State) : (updCe n f s).upd = s.upd := rfl
@[simp] theorem updCe_bal (n : Nat) (f : Engine → Engine) (s : State) : (updCe n f s).bal = s.bal := rfl
@[simp] theorem updCe_pending (n : Nat) (f : Engine → Engine) (s : State) : (updCe n f s).pending = s.pending := rfl

@[simp] theorem setAlarm_dev (p : Fin 4) (h : Nat) (a : AlarmState) (s : State) : (setAlarm p h a s).dev = s.dev := rfl
@[simp] theorem setAlarm_clk (p : Fin 4) (h : Nat) (a : AlarmState) (s : State) : (setAlarm p h a s).clk = s.clk := rfl
@[simp] theorem setAlarm_pwr (p : Fin 4) (h : Nat) (a : AlarmState) (s : State) : (setAlarm p h a s).pwr = s.pwr := rfl
@[simp] theorem setAlarm_wd (p : Fin 4) (h : Nat) (a : AlarmState) (s : State) : (setAlarm p h a s).wd = s.wd := rfl
@[simp] theorem setAlarm_tt (p : Fin 4) (h : Nat) (a : AlarmState) (s : State) : (setAlarm p h a s).tt = s.tt := rfl
@[simp] theorem setAlarm_tl (p : Fin 4) (h : Nat) (a : AlarmState) (s : State) : (setAlarm p h a s).tl = s.tl := rfl
@[simp] theorem setAlarm_rtc (p : Fin 4) (h : Nat) (a : AlarmState) (s : State) : (setAlarm p h a s).rtc = s.rtc := rfl
@[simp] theorem setAlarm_shadow (p : Fin 4) (h : Nat) (a : AlarmState) (s : State) : (setAlarm p h a s).shadow = s.shadow := rfl
@[simp] theorem setAlarm_ports (p : Fin 4) (h : Nat) (a : AlarmState) (s : State) : (setAlarm p h a s).ports = s.ports := rfl
@[simp] theorem setAlarm_cmd (p : Fin 4) (h : Nat) (a : AlarmState) (s : State) : (setAlarm p h a s).cmd = s.cmd := rfl
@[simp] theorem setAlarm_log (p : Fin 4) (h : Nat) (a : AlarmState) (s : State) : (setAlarm p h a s).log = s.log := rfl
@[simp] theorem setAlarm_rad (p : Fin 4) (h : Nat) (a : AlarmState) (s : State) : (setAlarm p h a s).rad = s.rad := rfl
@[simp] theorem setAlarm_mac (p : Fin 4) (h : Nat) (a : AlarmState) (s : State) : (setAlarm p h a s).mac = s.mac := rfl
@[simp] theorem setAlarm_lat (p : Fin 4) (h : Nat) (a : AlarmState) (s : State) : (setAlarm p h a s).lat = s.lat := rfl
@[simp] theorem setAlarm_txn (p : Fin 4) (h : Nat) (a : AlarmState) (s : State) : (setAlarm p h a s).txn = s.txn := rfl
@[simp] theorem setAlarm_sch (p : Fin 4) (h : Nat) (a : AlarmState) (s : State) : (setAlarm p h a s).sch = s.sch := rfl
@[simp] theorem setAlarm_chd (p : Fin 4) (h : Nat) (a : AlarmState) (s : State) : (setAlarm p h a s).chd = s.chd := rfl
@[simp] theorem setAlarm_mtr (p : Fin 4) (h : Nat) (a : AlarmState) (s : State) : (setAlarm p h a s).mtr = s.mtr := rfl
@[simp] theorem setAlarm_sgn (p : Fin 4) (h : Nat) (a : AlarmState) (s : State) : (setAlarm p h a s).sgn = s.sgn := rfl
@[simp] theorem setAlarm_io (p : Fin 4) (h : Nat) (a : AlarmState) (s : State) : (setAlarm p h a s).io = s.io := rfl
@[simp] theorem setAlarm_can (p : Fin 4) (h : Nat) (a : AlarmState) (s : State) : (setAlarm p h a s).can = s.can := rfl
@[simp] theorem setAlarm_key (p : Fin 4) (h : Nat) (a : AlarmState) (s : State) : (setAlarm p h a s).key = s.key := rfl
@[simp] theorem setAlarm_mem (p : Fin 4) (h : Nat) (a : AlarmState) (s : State) : (setAlarm p h a s).mem = s.mem := rfl
@[simp] theorem setAlarm_upd (p : Fin 4) (h : Nat) (a : AlarmState) (s : State) : (setAlarm p h a s).upd = s.upd := rfl
@[simp] theorem setAlarm_bal (p : Fin 4) (h : Nat) (a : AlarmState) (s : State) : (setAlarm p h a s).bal = s.bal := rfl
@[simp] theorem setAlarm_pending (p : Fin 4) (h : Nat) (a : AlarmState) (s : State) : (setAlarm p h a s).pending = s.pending := rfl

@[simp] theorem setIssued_dev (ep : Nat) (l : List Issued) (s : State) : (setIssued ep l s).dev = s.dev := rfl
@[simp] theorem setIssued_clk (ep : Nat) (l : List Issued) (s : State) : (setIssued ep l s).clk = s.clk := rfl
@[simp] theorem setIssued_pwr (ep : Nat) (l : List Issued) (s : State) : (setIssued ep l s).pwr = s.pwr := rfl
@[simp] theorem setIssued_wd (ep : Nat) (l : List Issued) (s : State) : (setIssued ep l s).wd = s.wd := rfl
@[simp] theorem setIssued_tt (ep : Nat) (l : List Issued) (s : State) : (setIssued ep l s).tt = s.tt := rfl
@[simp] theorem setIssued_tl (ep : Nat) (l : List Issued) (s : State) : (setIssued ep l s).tl = s.tl := rfl
@[simp] theorem setIssued_alarms (ep : Nat) (l : List Issued) (s : State) : (setIssued ep l s).alarms = s.alarms := rfl
@[simp] theorem setIssued_rtc (ep : Nat) (l : List Issued) (s : State) : (setIssued ep l s).rtc = s.rtc := rfl
@[simp] theorem setIssued_shadow (ep : Nat) (l : List Issued) (s : State) : (setIssued ep l s).shadow = s.shadow := rfl
@[simp] theorem setIssued_ports (ep : Nat) (l : List Issued) (s : State) : (setIssued ep l s).ports = s.ports := rfl
@[simp] theorem setIssued_cmd (ep : Nat) (l : List Issued) (s : State) : (setIssued ep l s).cmd = s.cmd := rfl
@[simp] theorem setIssued_log (ep : Nat) (l : List Issued) (s : State) : (setIssued ep l s).log = s.log := rfl
@[simp] theorem setIssued_rad (ep : Nat) (l : List Issued) (s : State) : (setIssued ep l s).rad = s.rad := rfl
@[simp] theorem setIssued_mac (ep : Nat) (l : List Issued) (s : State) : (setIssued ep l s).mac = s.mac := rfl
@[simp] theorem setIssued_lat (ep : Nat) (l : List Issued) (s : State) : (setIssued ep l s).lat = s.lat := rfl
@[simp] theorem setIssued_txn (ep : Nat) (l : List Issued) (s : State) : (setIssued ep l s).txn = s.txn := rfl
@[simp] theorem setIssued_sch (ep : Nat) (l : List Issued) (s : State) : (setIssued ep l s).sch = s.sch := rfl
@[simp] theorem setIssued_mtr (ep : Nat) (l : List Issued) (s : State) : (setIssued ep l s).mtr = s.mtr := rfl
@[simp] theorem setIssued_sgn (ep : Nat) (l : List Issued) (s : State) : (setIssued ep l s).sgn = s.sgn := rfl
@[simp] theorem setIssued_io (ep : Nat) (l : List Issued) (s : State) : (setIssued ep l s).io = s.io := rfl
@[simp] theorem setIssued_can (ep : Nat) (l : List Issued) (s : State) : (setIssued ep l s).can = s.can := rfl
@[simp] theorem setIssued_key (ep : Nat) (l : List Issued) (s : State) : (setIssued ep l s).key = s.key := rfl
@[simp] theorem setIssued_mem (ep : Nat) (l : List Issued) (s : State) : (setIssued ep l s).mem = s.mem := rfl
@[simp] theorem setIssued_upd (ep : Nat) (l : List Issued) (s : State) : (setIssued ep l s).upd = s.upd := rfl
@[simp] theorem setIssued_bal (ep : Nat) (l : List Issued) (s : State) : (setIssued ep l s).bal = s.bal := rfl
@[simp] theorem setIssued_pending (ep : Nat) (l : List Issued) (s : State) : (setIssued ep l s).pending = s.pending := rfl

@[simp] theorem putSlot_dev (k : Nat) (x : KeySlot) (s : State) : (putSlot k x s).dev = s.dev := rfl
@[simp] theorem putSlot_clk (k : Nat) (x : KeySlot) (s : State) : (putSlot k x s).clk = s.clk := rfl
@[simp] theorem putSlot_pwr (k : Nat) (x : KeySlot) (s : State) : (putSlot k x s).pwr = s.pwr := rfl
@[simp] theorem putSlot_wd (k : Nat) (x : KeySlot) (s : State) : (putSlot k x s).wd = s.wd := rfl
@[simp] theorem putSlot_tt (k : Nat) (x : KeySlot) (s : State) : (putSlot k x s).tt = s.tt := rfl
@[simp] theorem putSlot_tl (k : Nat) (x : KeySlot) (s : State) : (putSlot k x s).tl = s.tl := rfl
@[simp] theorem putSlot_alarms (k : Nat) (x : KeySlot) (s : State) : (putSlot k x s).alarms = s.alarms := rfl
@[simp] theorem putSlot_rtc (k : Nat) (x : KeySlot) (s : State) : (putSlot k x s).rtc = s.rtc := rfl
@[simp] theorem putSlot_shadow (k : Nat) (x : KeySlot) (s : State) : (putSlot k x s).shadow = s.shadow := rfl
@[simp] theorem putSlot_ports (k : Nat) (x : KeySlot) (s : State) : (putSlot k x s).ports = s.ports := rfl
@[simp] theorem putSlot_cmd (k : Nat) (x : KeySlot) (s : State) : (putSlot k x s).cmd = s.cmd := rfl
@[simp] theorem putSlot_log (k : Nat) (x : KeySlot) (s : State) : (putSlot k x s).log = s.log := rfl
@[simp] theorem putSlot_rad (k : Nat) (x : KeySlot) (s : State) : (putSlot k x s).rad = s.rad := rfl
@[simp] theorem putSlot_mac (k : Nat) (x : KeySlot) (s : State) : (putSlot k x s).mac = s.mac := rfl
@[simp] theorem putSlot_lat (k : Nat) (x : KeySlot) (s : State) : (putSlot k x s).lat = s.lat := rfl
@[simp] theorem putSlot_txn (k : Nat) (x : KeySlot) (s : State) : (putSlot k x s).txn = s.txn := rfl
@[simp] theorem putSlot_sch (k : Nat) (x : KeySlot) (s : State) : (putSlot k x s).sch = s.sch := rfl
@[simp] theorem putSlot_chd (k : Nat) (x : KeySlot) (s : State) : (putSlot k x s).chd = s.chd := rfl
@[simp] theorem putSlot_mtr (k : Nat) (x : KeySlot) (s : State) : (putSlot k x s).mtr = s.mtr := rfl
@[simp] theorem putSlot_sgn (k : Nat) (x : KeySlot) (s : State) : (putSlot k x s).sgn = s.sgn := rfl
@[simp] theorem putSlot_io (k : Nat) (x : KeySlot) (s : State) : (putSlot k x s).io = s.io := rfl
@[simp] theorem putSlot_can (k : Nat) (x : KeySlot) (s : State) : (putSlot k x s).can = s.can := rfl
@[simp] theorem putSlot_mem (k : Nat) (x : KeySlot) (s : State) : (putSlot k x s).mem = s.mem := rfl
@[simp] theorem putSlot_upd (k : Nat) (x : KeySlot) (s : State) : (putSlot k x s).upd = s.upd := rfl
@[simp] theorem putSlot_bal (k : Nat) (x : KeySlot) (s : State) : (putSlot k x s).bal = s.bal := rfl
@[simp] theorem putSlot_pending (k : Nat) (x : KeySlot) (s : State) : (putSlot k x s).pending = s.pending := rfl

@[simp] theorem setRecord_dev (r : FailRecord) (s : State) : (setRecord r s).dev = s.dev := rfl
@[simp] theorem setRecord_clk (r : FailRecord) (s : State) : (setRecord r s).clk = s.clk := rfl
@[simp] theorem setRecord_pwr (r : FailRecord) (s : State) : (setRecord r s).pwr = s.pwr := rfl
@[simp] theorem setRecord_wd (r : FailRecord) (s : State) : (setRecord r s).wd = s.wd := rfl
@[simp] theorem setRecord_tt (r : FailRecord) (s : State) : (setRecord r s).tt = s.tt := rfl
@[simp] theorem setRecord_tl (r : FailRecord) (s : State) : (setRecord r s).tl = s.tl := rfl
@[simp] theorem setRecord_alarms (r : FailRecord) (s : State) : (setRecord r s).alarms = s.alarms := rfl
@[simp] theorem setRecord_rtc (r : FailRecord) (s : State) : (setRecord r s).rtc = s.rtc := rfl
@[simp] theorem setRecord_shadow (r : FailRecord) (s : State) : (setRecord r s).shadow = s.shadow := rfl
@[simp] theorem setRecord_ports (r : FailRecord) (s : State) : (setRecord r s).ports = s.ports := rfl
@[simp] theorem setRecord_cmd (r : FailRecord) (s : State) : (setRecord r s).cmd = s.cmd := rfl
@[simp] theorem setRecord_log (r : FailRecord) (s : State) : (setRecord r s).log = s.log := rfl
@[simp] theorem setRecord_rad (r : FailRecord) (s : State) : (setRecord r s).rad = s.rad := rfl
@[simp] theorem setRecord_mac (r : FailRecord) (s : State) : (setRecord r s).mac = s.mac := rfl
@[simp] theorem setRecord_lat (r : FailRecord) (s : State) : (setRecord r s).lat = s.lat := rfl
@[simp] theorem setRecord_txn (r : FailRecord) (s : State) : (setRecord r s).txn = s.txn := rfl
@[simp] theorem setRecord_sch (r : FailRecord) (s : State) : (setRecord r s).sch = s.sch := rfl
@[simp] theorem setRecord_chd (r : FailRecord) (s : State) : (setRecord r s).chd = s.chd := rfl
@[simp] theorem setRecord_mtr (r : FailRecord) (s : State) : (setRecord r s).mtr = s.mtr := rfl
@[simp] theorem setRecord_io (r : FailRecord) (s : State) : (setRecord r s).io = s.io := rfl
@[simp] theorem setRecord_can (r : FailRecord) (s : State) : (setRecord r s).can = s.can := rfl
@[simp] theorem setRecord_key (r : FailRecord) (s : State) : (setRecord r s).key = s.key := rfl
@[simp] theorem setRecord_mem (r : FailRecord) (s : State) : (setRecord r s).mem = s.mem := rfl
@[simp] theorem setRecord_upd (r : FailRecord) (s : State) : (setRecord r s).upd = s.upd := rfl
@[simp] theorem setRecord_bal (r : FailRecord) (s : State) : (setRecord r s).bal = s.bal := rfl
@[simp] theorem setRecord_pending (r : FailRecord) (s : State) : (setRecord r s).pending = s.pending := rfl

@[simp] theorem tlRemove_dev (q : Nat) (s : State) : (tlRemove q s).dev = s.dev := rfl
@[simp] theorem tlRemove_clk (q : Nat) (s : State) : (tlRemove q s).clk = s.clk := rfl
@[simp] theorem tlRemove_pwr (q : Nat) (s : State) : (tlRemove q s).pwr = s.pwr := rfl
@[simp] theorem tlRemove_wd (q : Nat) (s : State) : (tlRemove q s).wd = s.wd := rfl
@[simp] theorem tlRemove_tt (q : Nat) (s : State) : (tlRemove q s).tt = s.tt := rfl
@[simp] theorem tlRemove_alarms (q : Nat) (s : State) : (tlRemove q s).alarms = s.alarms := rfl
@[simp] theorem tlRemove_rtc (q : Nat) (s : State) : (tlRemove q s).rtc = s.rtc := rfl
@[simp] theorem tlRemove_shadow (q : Nat) (s : State) : (tlRemove q s).shadow = s.shadow := rfl
@[simp] theorem tlRemove_ports (q : Nat) (s : State) : (tlRemove q s).ports = s.ports := rfl
@[simp] theorem tlRemove_cmd (q : Nat) (s : State) : (tlRemove q s).cmd = s.cmd := rfl
@[simp] theorem tlRemove_log (q : Nat) (s : State) : (tlRemove q s).log = s.log := rfl
@[simp] theorem tlRemove_rad (q : Nat) (s : State) : (tlRemove q s).rad = s.rad := rfl
@[simp] theorem tlRemove_mac (q : Nat) (s : State) : (tlRemove q s).mac = s.mac := rfl
@[simp] theorem tlRemove_lat (q : Nat) (s : State) : (tlRemove q s).lat = s.lat := rfl
@[simp] theorem tlRemove_txn (q : Nat) (s : State) : (tlRemove q s).txn = s.txn := rfl
@[simp] theorem tlRemove_sch (q : Nat) (s : State) : (tlRemove q s).sch = s.sch := rfl
@[simp] theorem tlRemove_chd (q : Nat) (s : State) : (tlRemove q s).chd = s.chd := rfl
@[simp] theorem tlRemove_mtr (q : Nat) (s : State) : (tlRemove q s).mtr = s.mtr := rfl
@[simp] theorem tlRemove_sgn (q : Nat) (s : State) : (tlRemove q s).sgn = s.sgn := rfl
@[simp] theorem tlRemove_io (q : Nat) (s : State) : (tlRemove q s).io = s.io := rfl
@[simp] theorem tlRemove_can (q : Nat) (s : State) : (tlRemove q s).can = s.can := rfl
@[simp] theorem tlRemove_key (q : Nat) (s : State) : (tlRemove q s).key = s.key := rfl
@[simp] theorem tlRemove_mem (q : Nat) (s : State) : (tlRemove q s).mem = s.mem := rfl
@[simp] theorem tlRemove_upd (q : Nat) (s : State) : (tlRemove q s).upd = s.upd := rfl
@[simp] theorem tlRemove_bal (q : Nat) (s : State) : (tlRemove q s).bal = s.bal := rfl
@[simp] theorem tlRemove_pending (q : Nat) (s : State) : (tlRemove q s).pending = s.pending := rfl

end Sys2Proof.Laws
end

