-- ==== Sys2Proof/Tests/Slice0.lean ====
section
/-!
SUPPORT. Tests of single steps, and witnesses: for each clause of each statement a concrete state and operands that meet its hypotheses.
-/
set_option Elab.async false
namespace Sys2Proof.Tests
open Sys2Proof Sys2Proof.Machine

/-- The module after BOOT, commissioned, in RUN with TT locked; every port present and secure. -/
def up : State :=
  { State.reset with
    pwr := { initPower with bootStep := .done, mode := .run, commissioned := true, straps := 0x10#8, vin := 2400, pgood := true, pfwN := true }
    tt := { initTether with running := true, state := .locked, tt := 4096 * 1000 }
    log := { initLog with started := true, staging := true }
    key := { initKeys with worlds := { initWorlds with ports := 14 } } }

/-- A request of H0, ready to execute: the queue, the opcode and the payload. -/
def req (q code : Nat) (payload : List Word) : Req :=
  { port := 0, queue := q, words := packW [(code, 16), (payload.length, 0)] :: 7#32 :: 0#32 :: payload, id := 1, resRsp := 0, resNtf := 0
    target := none, ready := true }

/-- A state in which the request is the one that executes next. -/
def give (r : Req) (s : State) : State := { s with cmd := { s.cmd with taken := [r] } }

/-- The module at a step of BOOT. -/
def bootAt (b : BootStep) : State := { up with pwr := { up.pwr with bootStep := b, mode := .boot } }

/-- A request of H0 in the queue its opcode belongs in. -/
def go (code : Nat) (payload : List Word) : Req :=
  req (match opRow code with | some row => row.home.getD 1 | none => 1) code payload

/-- The request of this opcode and payload, taken, passes the command's checks. -/
abbrev Goes (code : Nat) (chk : Req → State → Option Fail) (payload : List Word) (s : State) : Prop :=
  Runs code chk (go code payload) (give (go code payload) s)

/-- A request of H0 with an apply-at-cycle target, cycle 1,001. -/
def goAt (code : Nat) (payload : List Word) : Req :=
  { go code payload with words := packW [(code, 16), (payload.length, 0)] :: 7#32 :: packW [(1, 30), (1001, 0)] :: payload, target := some 1001 }

/-! ### Well-formed commands -/

/-- A command names an engine, input, output or port beyond those there are. -/
theorem test_wf_units :
    [Instr.shrDetect 64 0, .enhancedAck 64, .ackTimeout 64, .lbtAttempt 64 0 0, .frameDeadline 64, .rxCalAdopt 64, .beaconDue 64,
      .backupBeacon 64, .extraBeacon 64, .linkSweep 64, .pollMiss 262144, .greetingRound 64, .joinReq 64 false, .rejoin 64 false, .confirm 64,
      .energy 64, .detect 64, .imageNack 64, .imgReport 64, .report 64, .engineChangeover 64, .txTestEnd 64 default, .transmitEnd 64 default,
      .ackReceived 64 default, .frameReceived 64 default, .pulseStart 8, .meterMeasureEnd 4, .stringFault 16 [], .sinkFault 8 [], .evDinStuck 16,
      .chatterWindowEnd 16, .evDoutFault 8 false, .canFrameReceived 2 default, .canAttemptEnd 2 0 .sent, .canRecovered 2, .canDetectDwell 2,
      .dataTimingSearchEnd 2, .canReceiveError 2 false false, .scrubRead 16 default, .nandReclaim 3 0 0 .start].all (fun i => !i.wf) = true := by
  decide +kernel

/-- A command holds a number beyond its range. -/
theorem test_wf_ranges :
    [Instr.pfwAssert 0 8, .firewallViolation true 0 0 0, .firewallViolation true 0 0x15 0, .firewallViolation false 32 1 0, .meterCrossing 0x10,
      .meterCrossing 0x20, .meterCrossing 0x14, .registerWrite 0 4096 0 (.write .word), .registerWrite 0 4096 0 (.read .low), .registerWrite 0 4 1 (.read .word),
      .registerWrite 0 4 0 (.serial []), .registerWrite 0 0 1 (.serial []),
      .latticeRestore ⟨false, [16384]⟩,
      .meterCycleEnd (List.replicate 5 ⟨[[], [], []], []⟩), .meterCycleEnd [⟨[[], []], []⟩], .evMeterOverrange 32 0, .evMeterOverrange 0 10001,
      .evMeterInputFault 32 0 false, .sgnCycleUpdate (List.replicate 26 0), .ntcMeasure 2 0, .ntcMeasure 0 4096, .dinSample 65536 0,
      .dinSample 0 65536, .internalActivityRestart 7 0, .updVerifyComplete 128 true, .dramPatrol 0 { (default : MemRead) with region := 32 } 0 0,
      .frameReceived 0 default, .ackReceived 0 { (default : AirFrame) with psdu := List.replicate 2048 0 },
      .canFrameReceived 0 { (default : CanStored) with dlc := 16 },
      .canFrameReceived 0 { (default : CanStored) with id := 2048 },
      .canFrameReceived 0 { (default : CanStored) with ide := true, id := 2 ^ 29 }].all (fun i => !i.wf) = true := by
  decide +kernel

/-- Each is well-formed at the end of its range. -/
theorem test_wf_accepts :
    [Instr.pfwAssert 0 7, .firewallViolation true 0 0x14 0, .firewallViolation false 31 1 0, .meterCrossing 0x11, .meterCrossing 0x1F,
      .registerWrite 0 4095 0 (.write .high), .registerWrite 3 0 0 (.serial [15]), .latticeRestore ⟨true, [16383]⟩, .shrDetect 63 0, .pollMiss 262143, .meterCycleEnd (List.replicate 4 ⟨[[], [], []], []⟩),
      .evMeterOverrange 31 10000, .pulseStart 7, .sgnCycleUpdate (List.replicate 25 0), .ntcMeasure 1 4095, .dinSample 65535 65535,
      .internalActivityRestart 8 0, .internalActivityRestart 9 0, .updVerifyComplete 127 true, .scrubRead 15 default,
      .frameReceived 63 { (default : AirFrame) with psdu := List.replicate 2047 0 }, .frameReceived 0 { (default : AirFrame) with psdu := [0] },
      .canFrameReceived 1 { (default : CanStored) with ide := true, id := 2 ^ 29 - 1, dlc := 15 }, .sysNop].all (fun i => i.wf) = true := by
  decide +kernel

/-! ### Power and BOOT -/

/-- The front of a queue; `AStepRunsTheFrontCommand`. -/
theorem witness_queue : { up with pending := [Instr.sysNop] }.pending = .sysNop :: [] ∧ up.pending = [] := by decide +kernel

/-- Premises of the invariants: a port whose queues fit, a phase accumulator and a rate within bounds, at 65 Hz and the largest slew. -/
theorem witness_invariants : QueuesFit (up.ports.get 3) ∧ up.clk.ttAcc < ttUnit ∧
    { up.tt with freq := 65 * 65536, cycAdj := -32 }.freq * (4096 - (-32 : Int)).toNat ≤ ttUnit ∧ DebugClosed up := by decide +kernel

/-- `SupplyEventsActByTheirRules`, clause by clause. -/
theorem witness_supply :
    (alive State.reset = false ∧ State.reset.dev.vinOn ≤ 750) ∧ (bootAt .rails).pwr.bootStep = .rails ∧ (alive up = true ∧ 7500 < 7501) ∧
    (let s := { up with pwr := { up.pwr with vPfwEff := 85, pfwOkSince := some 0 }, clk := { up.clk with ticks := 2400000000 } }
     s.pwr.pfwOkSince = some 0 ∧ alive s = true ∧ s.pwr.vPfwEff < pfwThreshold s ∧ pfwThreshold s * 10 + 50 ≤ pfwThreshold s * 10 + 50 ∧
       0 + 2400000000 ≤ s.clk.ticks) ∧
    (bootAt .inReset).pwr.bootStep = .inReset ∧ Pad.host (.hIrqN 1) ≠ none ∧
    (Pad.block .mxOeN = some 0x0C ∧ blockPresent { up.dev with variant := .c }.variant 0x0C = false ∧
      padState { up with dev := { up.dev with variant := .c } } .mxOeN = .zPd) ∧ blockPresent up.dev.variant 0x0C = true ∧
    (alive up = true ∧ 679 < up.dev.vinOff) := by decide +kernel

/-- `BootStepsLeadOneToTheNext`: the verification step with a bank that passes; the other clauses ask for the step alone. -/
theorem witness_boot :
    (let s := bootAt .verify
     s.pwr.bootStep = .verify ∧ s.upd.floor ≤ manRollback s.upd.active ∧ s.upd.trial = false) ∧
    ((bootAt .secure).rtc.token = false ∧ (bootAt .secure).pwr.fromShelf = false ∧ (bootAt .secure).pwr.bootStep = .secure) ∧
    (bootAt .phase).pwr.bootStep = .phase ∧ (bootAt .fuses).pwr.bootStep = .fuses ∧ (bootAt .load).pwr.bootStep = .load ∧
    (bootAt .restore).pwr.bootStep = .restore ∧ (bootAt .finish).pwr.bootStep = .finish := by decide +kernel

/-- Power fail after step 7, 200 ms after the assertion. -/
def failing : State :=
  { up with pwr := { up.pwr with flush := ⟨true, 7, 0⟩, mark := some 7, pfwN := false }, clk := { up.clk with ticks := 8000000 } }

/-- `PowerFailRunsTheFlushSequence`. -/
theorem witness_powerFail :
    (alive up = true ∧ fwRuns up = true ∧ 899 < up.pwr.vPfwEff * 10 ∧ up.pwr.flush.pfw = false) ∧
    (failing.pwr.flush.pfw = true ∧ failing.pwr.flush.step = 7 ∧ failing.pwr.vPfwEff * 10 + failing.dev.pfwHyst ≤ 950) ∧
    (failing.dev.vinOff ≤ 880 ∧ 880 < failing.pwr.vPfwEff * 10 + failing.dev.pfwHyst ∧
      effRule (pfwThreshold failing) 880 * 10 < 880 ∧ failing.pwr.flush.since + 8000000 ≤ failing.clk.ticks) ∧
    (alive up = true ∧ 679 < up.dev.vinOff) := by decide +kernel

/-- `EveryResetEntersBootWithItsCause`. -/
theorem witness_resets :
    (10 ≤ 10 ∧ alive up = true ∧ up.pwr.bootStep ≠ .inReset) ∧
    ({ up with pwr := { up.pwr with resetAt := some 0 } }.pwr.resetAt = some 0 ∧ 0 ≤ up.clk.ticks) ∧
    fwRuns up = true ∧ securePairRuns up = true ∧
    (let s := { up with key := { up.key with worlds := { up.key.worlds with ports := 0 } } }
     accessorSecure s 0x03 3 = false ∧ (if true then partSecure s 0x0B else regionSecure s 0x0B) = true) := by decide +kernel

/-- `WatchdogExpiryMarksTheHostSilent`, at the deadline. -/
theorem witness_watchdog :
    let s := { up with wd := up.wd.put 2 { timeout := 60, running := true, expired := false, deadline := 0 } }
    served s = true ∧ s.upd.windowOpen = false ∧ (s.wd.get 2).running = true ∧ (s.wd.get 2).expired = false ∧
      (s.wd.get 2).deadline ≤ s.clk.ticks := by decide +kernel

/-! ### Tether -/

/-- A state 20 ms after a crossing of ZC_IN, with the phase `ph`, in a lock state, with runs of good and bad crossings. -/
def crossing (st : Lock) (good bad ph : Nat) : State :=
  { up with
    clk := { up.clk with ticks := 800000 }
    tt := { up.tt with tt := 4096 * 1000 + ph, state := st, good := good, bad := List.replicate bad (some 65)
                       prim := { initSource with last := some 0, period := some 800000, run := 20, qualified := true, lastQual := some 999 } } }

/-- `CrossingsAreJudgedBySource`. -/
theorem witness_crossings :
    (let s := { crossing .locked 0 0 0 with clk := { up.clk with ticks := 599999 } }
     s.tt.cfg.primary = 1 ∧ s.tt.prim.glitch (s.clk.ticks - s.tt.cfg.zcDelay * 40) = true) ∧
    (let s := { crossing .locked 0 0 0 with clk := { up.clk with ticks := 600000 } }
     s.tt.running = true ∧ s.tt.cfg.primary = 1 ∧ s.tt.prim.glitch (s.clk.ticks - s.tt.cfg.zcDelay * 40) = false) ∧
    (let s := { up with
       mtr := { up.mtr with feeders := List.replicate 4 { initFeeder with cfg := { initFeederCfg with enable := true } } }
       tt := { up.tt with cfg := { up.tt.cfg with primary := 0x11 } } }
     s.tt.running = true ∧ 0x11 ≤ 0x11 ∧ 0x11 ≤ 0x1F ∧ meterSourceOk s 0x11 = true ∧ s.tt.cfg.primary = 0x11 ∧
       s.tt.prim.glitch s.clk.ticks = false) ∧
    meterSourceOk up 0x1F = false := by decide +kernel

/-- `LockStatesFollowTheTable`, each clause at the edge of its range. -/
theorem witness_lockStates :
    (PrimaryCrossing (crossing .free 7 0 8) 800000 8 ∧ (8 : Int).natAbs ≤ 8 ∧ (crossing .free 7 0 8).tt.good + 1 = 8 ∧
      (crossing .free 7 0 8).tt.state = .free) ∧
    (PrimaryCrossing (crossing .holdover 6 0 8) 800000 8 ∧ (crossing .holdover 6 0 8).tt.good + 1 < 8) ∧
    (PrimaryCrossing (crossing .holdover 0 0 9) 800000 9 ∧ 8 < (9 : Int).natAbs) ∧
    (PrimaryCrossing (crossing .locked 0 3 65) 800000 65 ∧ 64 < (65 : Int).natAbs ∧ (crossing .locked 0 3 65).tt.bad.length = 3) ∧
    (PrimaryCrossing (crossing .locked 0 3 4032) 800000 (-64) ∧ (-64 : Int).natAbs ≤ 64) ∧
    (PrimaryCrossing (crossing .slew 7 0 4088) 800000 (-8) ∧ (crossing .slew 7 0 4088).tt.slewLeft = 0 ∧
      (crossing .slew 7 0 4088).tt.state = .slew) ∧
    (let s := { crossing .locked 0 0 0 with tt := { (crossing .locked 0 0 0).tt with tt := 4096 * 1004 } }
     s.tt.running = true ∧ s.tt.state = .locked ∧ noSource s = true) ∧
    (crossing .free 0 0 0).tt.state = .free := by decide +kernel

/-- `TetherKeepsItsSourcesCeilingAndAnchors`. -/
theorem witness_tether :
    (let s := { up with tt := { up.tt with cfg := { up.tt.cfg with secondary := 0x15 }
                                           sec := { initSource with qualified := true, lastQual := some 999 } } }
     s.tt.running = true ∧ s.tt.onSecondary = false ∧ s.tt.cfg.secondary ≠ 0 ∧ s.tt.prim.silent (cycOf s) = true ∧
       s.tt.sec.live (cycOf s) = true ∧ s.tt.switching = false ∧ Room 1 s) ∧
    (let s := { up with tt := { up.tt with onSecondary := true, prim := { initSource with streak := 256, last := some 0, lastQual := some 999 } } }
     s.tt.running = true ∧ s.tt.onSecondary = true ∧ 256 ≤ s.tt.prim.streak ∧ s.tt.prim.silent (cycOf s) = false ∧ s.tt.switching = false ∧
       Room 1 s) ∧
    (∀ b, let s : State := { up with tl := ⟨[⟨4096 * 1000, 0, 0, 1, false, .source b, true⟩], 1, 1⟩, tt := { up.tt with switching := true } }
      s.tt.switching = true ∧ Due ⟨4096 * 1000, 0, 0, 1, false, .source b, true⟩ s) ∧
    (let s := { up with tt := { up.tt with state := .holdover }, clk := { up.clk with ticks := 60 * 2400000000 } }
     s.tt.running = true ∧ s.tt.state = .holdover ∧ s.tt.cfg.holdAlarm ≠ 0 ∧ s.tt.longLogged = false ∧
       s.tt.cfg.holdAlarm ≤ (s.clk.ticks - s.tt.holdTick) / 2400000000) ∧
    (up.tt.running = true ∧ up.tt.reserve.ceiling < (cycOf up / 2 ^ 20 + 2) * 2 ^ 20) ∧
    (let s := { up with tt := { up.tt with tt := 4096 * (2 ^ 19 + 5), reserve := { up.tt.reserve with pend := some (9, 5) } } }
     s.tt.reserve.pend = some (9, 5) ∧ 5 + 2 ^ 19 * (s.tt.reserve.logged + 1) ≤ cycOf s) ∧
    up.tt.reserve.ceiling ≤ cycOf up ∧
    (let s := { up with tt := { up.tt with tt := 4096 * 1024 } }
     s.tt.running = true ∧ ttPh s.tt.tt = 0 ∧ cycOf s % 1024 = 0 ∧ s.tt.anchorCyc ≠ some (cycOf s)) := by decide +kernel

/-- A state with one entry of the timeline queue, due now. -/
def due (k : TlKind) : State := { up with tl := ⟨[⟨4096 * 1000, 3, 0, 1, false, k, true⟩], 1, 1⟩ }

/-- `DueEntriesFireOnce`. -/
theorem witness_due :
    (let s := { due .ttConfig with tt := { up.tt with cfgNext := some initTtCfg } }
     Due ⟨4096 * 1000, 3, 0, 1, false, .ttConfig, true⟩ s ∧ s.tt.cfgNext = some initTtCfg) ∧
    Due ⟨4096 * 1000, 3, 0, 1, false, .config (req 1 0x0705 [0]), true⟩ (due (.config (req 1 0x0705 [0]))) ∧
    (let s := { due (.alarm 2 15) with alarms := up.alarms.put 2 (List.replicate 16 (.armed (4096 * 1000) 5)) }
     Due ⟨4096 * 1000, 3, 0, 1, false, .alarm 2 15, true⟩ s ∧ (s.alarms.get 2).getD 15 .never = .armed (4096 * 1000) 5) := by
  decide +kernel

/-- `TtCommandsAnswer`. -/
theorem witness_tt :
    (let r := req 1 0x0201 []; Runs 0x0201 (ttChecks 0x0201 0 1) r (give r up)) ∧
    (let r := req 1 0x0202 [0x01004000, 0, 0x05A00000]; Runs 0x0202 chkTtConfig r (give r up) ∧ Room 1 (give r up)) ∧
    (let r := req 1 0x0203 [0, 4096 * 1000, 0]
     let s := give r { up with tt := { up.tt with anchors := [⟨4096 * 1000, 10, 0, true, false, false, false, 0, 0⟩] } }
     Runs 0x0203 chkTtConvert r s ∧ (convertReq r (took r s)).isOk = true) ∧
    (let r := req 1 0x0204 []; Runs 0x0204 (ttChecks 0x0204 0 1) r (give r up)) ∧
    (let r := req 1 0x0205 [4096 * 1001, 0, 77]
     Runs 0x0205 chkTtAlarm r (give r up) ∧ freeHandle ((give r up).alarms.get r.port) = some 0) ∧
    (let r := req 1 0x0206 [15]
     Runs 0x0206 chkTtAlarmCancel r
       (give r { up with alarms := up.alarms.put 0 (List.replicate 16 (.armed (4096 * 1001) 5)) })) ∧
    (let r := req 1 0x0207 []; Runs 0x0207 (ttChecks 0x0207 0 1) r (give r up)) ∧
    portUp up 2 = true := by decide +kernel

/-! ### The backup domain -/

/-- `BackupDomainEventsActByTheirRules`, at the limits. -/
theorem witness_backupEvents :
    (let s := { up with rtc := { up.rtc with winTick := 2 ^ 21, winWhole := true } }
     2 ^ 21 ≤ s.rtc.winTick ∧ tcxoRuns s = true ∧ s.rtc.winWhole = true ∧ (-10000 : Int).natAbs ≤ 10000 ∧ 10000 < (10001 : Int).natAbs) ∧
    (let s := { State.reset with rtc := { initRtc with winTick := 2 ^ 21 } }
     2 ^ 21 ≤ s.rtc.winTick ∧ powered s = false) ∧
    (let s := { up with rtc := { up.rtc with winTick := 2 ^ 21, winWhole := false } }
     2 ^ 21 ≤ s.rtc.winTick ∧ powered s = true ∧ s.rtc.winWhole = false ∧ up.rtc.osc ≠ .faulted ∧ 100 < (-101 : Int).natAbs ∧
       (100 : Int).natAbs ≤ 100) ∧
    ({ up with rtc := { up.rtc with onCell := true } }.rtc.onCell = true ∧ 1999 < 2000 ∧ 1000 < 1001 ∧ up.pwr.mode ≠ .shelf) ∧
    (1799 < 1200 ∨ (1799 < 1800 ∧ 50 < 51)) ∧ (1800 ≤ 1200 ∨ (1200 ≤ 1200 ∧ 50 ≤ 50)) ∧
    (let s := { State.reset with pwr := { initPower with mode := .keep }, rtc := { initRtc with onCell := false } }
     s.rtc.onCell = false ∧ s.pwr.mode ≠ .shelf ∧ s.pwr.vin < s.dev.vinOff) ∧
    (powered up = true ∧ { up with clk := { up.clk with ticks := 3600 * 40000000 } }.rtc.vbakTick + 3600 * 40000000 ≤ 3600 * 40000000) := by
  decide +kernel

/-- `ShadowsShowOneInstant`: a port whose shadow is not frozen, one whose shadow times out, one whose does not yet. -/
theorem witness_shadows :
    let s := { up with shadow := up.shadow.put 1 { initShadow with frozen := true }, clk := { up.clk with ticks := 40000000 } }
    portUp s 0 = true ∧ (s.shadow.get 0).frozen = false ∧ portUp s 1 = true ∧ (s.shadow.get 1).frozen = true ∧
      (s.shadow.get 1).since + 40000000 ≤ s.clk.ticks ∧ up.clk.ticks < (s.shadow.get 1).since + 40000000 := by decide +kernel

/-- A state with a write of the RTC staged for an instant of TT. -/
def staged : State := { up with rtc := { up.rtc with staged := some ⟨2, 100, 4096 * 2000, true, ⟨0, 0, 9, false, 0, 0x0221⟩⟩ } }

/-- `BackupDomainCommandsAct`. -/
theorem witness_backupCommands :
    (Goes 0x0221 chkRtcSet [0x20000000, 100, 0, 0] up ∧ fld ((go 0x0221 [0x20000000, 100, 0, 0]).w 3) 31 30 ≠ 3) ∧
    (Goes 0x0221 chkRtcSet [packW [(3, 30)], 0, 0, 0] staged ∧ fld ((go 0x0221 [packW [(3, 30)], 0, 0, 0]).w 3) 31 30 = 3 ∧
      (staged.rtc.staged.map (·.mode)) = some 2) ∧
    (let s := { staged with rtc := { staged.rtc with commitDue := true } }
     (s.rtc.staged.map (·.sec)) = some 100 ∧ s.rtc.commitDue = true ∧ s.rtc.waitCancel = []) ∧
    up.rtc.staged = none ∧ staged.rtc.commitDue = false ∧
    Goes 0x0220 (ttChecks 0x0220 0 2) [] up ∧ Goes 0x0222 chkRtcFlags [15] up ∧ Goes 0x0223 chkRtcTrim [packW [(65336, 16)]] up ∧
    Goes 0x0224 chkBramRead [packW [(0, 4), (15, 0)]] up ∧ Goes 0x0225 chkBramWrite [packW [(15, 4), (0, 0)], 5] up ∧
    Goes 0x0226 chkTamperConfig [packW [(9, 0)]] { up with rtc := { up.rtc with tampOpen := 2 } } := by decide +kernel

/-! ### Ports -/

/-- A state whose port 1 has these words staged in Q1. -/
def stage (ws : List Word) (poisoned : Bool) : State :=
  { up with ports := up.ports.put 1 { initPort with q1 := ⟨ws, poisoned, [], 0⟩ } }

/-- `CommitsAreJudgedInOrder`: a push with and without room, and a commit for each outcome. -/
theorem witness_commits :
    portUp (stage [] false) 1 = true ∧ 0 < reqFree ((stage [] false).ports.get 1) 1 ∧
    (((stage [] false).ports.get 1).req 1).staged.length < 1024 ∧
    1024 ≤ (((stage (List.replicate 1024 0) false).ports.get 1).req 1).staged.length ∧
    (bit 0x80000000#32 31 = true ∧ bit 0#32 31 = false ∧ (((stage [] false).ports.get 1).req 1).staged = []) ∧
    (((stage [0] true).ports.get 1).req 1).staged ≠ [] ∧
    frameCode (((stage [0] true).ports.get 1).req 1) 1 = 3 ∧ frameCode (((stage [0, 0, 0] false).ports.get 1).req 1) 4 = 1 ∧
    frameCode (((stage [0, 0] false).ports.get 1).req 1) 2 = 4 ∧ frameCode (((stage [1, 0, 0] false).ports.get 1).req 1) 3 = 2 ∧
    frameCode (((stage [0, 0, 0] false).ports.get 1).req 1) 3 = 0 := by decide +kernel

/-- A state in which port 2 has a SYS.NOP committed in the queue. -/
def waiting (k : Nat) : State :=
  { up with ports := up.ports.put 2 (initPort.setReq k { emptyReqQ with msgs := [[0x01000000, 7, 0]] }) }

/-- `RequestsAreTakenFromTheFront`. -/
theorem witness_takes :
    (takesOpen (waiting 0) = true ∧ cmdIdle (waiting 0) = true ∧ pickPort (waiting 0) 3 true = some (2, 0) ∧
      ((waiting 0).ports.get 2).openSet = none ∧ (opRow (fld (wAt ((((waiting 0).ports.get 2).req 0).msgs.headD []) 0) 31 16)).isSome = true) ∧
    (pickPort (waiting 3) 3 true = none ∧ pickPort (waiting 3) 3 false = some (2, 3)) ∧
    (((waiting 0).ports.get 2).pause = false ∧ ((waiting 0).ports.get 2).takeBlocked = false ∧
      ((waiting 0).ports.get 2).q0.msgs ≠ [] ∧ reserveFits ((waiting 0).ports.get 2) 0 = true) ∧
    takesOpen (bootAt .load) = false ∧ cmdIdle (give (req 1 0x0100 []) up) = false ∧
    (let r : Req := { req 1 0x0601 [] with ready := false }
     let s := { up with cmd := { up.cmd with taken := [r], ordered := [(0, 1)] } }
     (s.cmd.taken.find? (fun x => !x.ready && (s.cmd.ordered.find? fun y => y.1 == x.port) == some (x.port, x.id))) = some r ∧
       cmdIdle s = true ∧ (s.ports.get r.port).openSet = none ∧ (opRow r.opcode).isSome = true) := by decide +kernel

/-- A message of three words. -/
def msg : RMsg := ⟨[0x01000000, 7, 0], none⟩

/-- A port with two messages in both return queues, `n` words of the first already popped, and one held. -/
def returning (n : Nat) : State :=
  { up with ports := up.ports.put 3 { initPort with rsp := ⟨[msg, msg], n, [⟨msg, 4, 5, true⟩]⟩, ntf := ⟨[msg], n, []⟩, lostSince := 3
                                                    reserved := 9 } }

/-- `ReturnQueuesGiveMessagesInOrder`. -/
theorem witness_returns :
    (portUp (returning 1) 3 = true ∧ (((returning 1).ports.get 3).ret 0).msgs = msg :: [msg] ∧
      (((returning 1).ports.get 3).ret 0).popped + 1 < msg.words.length) ∧
    ((((returning 2).ports.get 3).ret 1).msgs = msg :: [] ∧ msg.words.length ≤ (((returning 2).ports.get 3).ret 1).popped + 1 ∧
      msg.canLock = none) ∧
    (portUp up 0 = true ∧ ((up.ports.get 0).ret 1).msgs = []) ∧
    ((((returning 0).ports.get 3).ret 0).held = ⟨msg, 4, 5, true⟩ :: [] ∧
      ((returning 0).ports.get 3).mayPlace 0 ⟨msg, 4, 5, true⟩ = true) ∧
    (((returning 0).ports.get 3).lostSince ≠ 0 ∧ retUsed ((returning 0).ports.get 3).ntf + 4 ≤ retCap 1) ∧
    (portUp (returning 0) 3 = true ∧ ((returning 0).ports.get 3).accepted = []) := by decide +kernel

/-- `ResponsesArePlacedOrHeldInOrder`. -/
theorem witness_produce :
    (let q := (up.ports.get 0); (q.ret 0).held = [] ∧ q.mayPlace 0 ⟨msg, 4, 5, true⟩ = true ∧ QueuesFit q) ∧
    (let q := ((returning 0).ports.get 3)
     (q.ret 0).held ≠ [] ∧ (∃ x ∈ q.rsp.held, x.isRsp = true ∧ x.id = 5) ∧ q.mayPlace 1 ⟨msg, 4, 5, false⟩ = false) := by decide +kernel

/-- `WindowWritesActOnTheirRegister`: bit 4 of CTRL is FLUSH; on H2 halves latched for INT_EN and for RSP_STAT. -/
theorem witness_window :
    portUp up 1 = true ∧ bit 0x101#32 4 = false ∧ (1 : Fin 4) ≠ 2 ∧
    (let s := { up with
       pwr := { up.pwr with straps := 0x10#8, viohGood := true }
       ports := up.ports.put 2 { initPort with writeLatch := some (0x024, 3), readLatch := some (0x014, 9) } }
     portUp s 2 = true ∧ (s.ports.get 2).writeLatch = some (0x024, 3) ∧ (s.ports.get 2).readLatch = some (wordOff 0x017, 9)) ∧
    (up.ports.get 1).writeLatch = none := by decide +kernel

/-- Transactions of H1 in that statement: WRITE to INT_EN and to 0x1000, QREAD of IDENT, and an opcode that does not exist. -/
theorem witness_serial :
    (let op : List (BitVec 4) := [0, 0, 0, 0, 0, 0, 1, 0]
     let ad : List (BitVec 4) := List.replicate 10 0 ++ [1, 0, 0, 1, 0, 0]
     op.length = 8 ∧ ad.length = 16 ∧ serialNat 1 op = 0x02 ∧ serialNat 1 ad = 0x24) ∧
    0x1000 ≤ serialNat 1 ([0, 0, 0, 1] ++ List.replicate 12 0) ∧
    (serialNat 1 [1, 1, 1, 0, 1, 0, 1, 1] = 0xEB ∧ serialNat 4 [0, 0, 0, 4] < 0x1000) ∧
    (let cs : List (BitVec 4) := List.replicate 8 0
     8 ≤ cs.length ∧ spiOp 1 (serialNat 1 (cs.take 8)) = none) := by decide +kernel

/-- A port after a command. -/
def portAfter (c : Instr) (p : Fin 4) : Option PortSt := match exec c up with | .next t => some (t.ports.get p) | _ => none

/-- A whole word of H1 to INT_EN, and a QREAD of the port's identification, four lines wide. -/
theorem test_serial :
    ((portAfter (.registerWrite 1 0 0 (.serial ([0, 0, 0, 0, 0, 0, 1, 0] ++ (List.replicate 10 0 ++ [1, 0, 0, 1, 0, 0]) ++
      (List.replicate 31 0 ++ [1])))) 1).map (·.intEn) = some 1#32) ∧
    ((portAfter (.registerWrite 1 0 0 (.serial ([1, 1, 1, 0, 1, 0, 1, 1] ++ [0, 0, 0, 0] ++ List.replicate 16 0))) 1).map (·.shifted) =
      some (some (serialOut 4 (regValue up 1 0)))) := by decide +kernel

/-! ### Settings -/

/-- A state with group 1 defined and entry 0 of the table for it, both of H0. -/
def sched : State :=
  { up with sch := { up.sch with groups := [(1, ⟨1, 500⟩)], entries := [(0, ⟨[0x80800400, 0, 0, 0, 0, 0, 0, 0], true⟩)] } }

/-- `SettingsWaitForTheBoundary`: a request that passes for each setting command, and room for its change. -/
theorem witness_settings_radio :
    Goes 0x0302 chkRadBandPlan [0] up ∧ Goes 0x0303 chkRadFeConfig [869500, 0, 0] up ∧
    Goes 0x0304 chkRadEngineConfig [packW [(1, 26), (8, 0)], 869525000, packW [(3, 8)]] up ∧
    Goes 0x0402 chkMacBeaconConfig [0, 20, 0, 0, packW [(1, 14), (2, 6)], packW [(1, 14)]] up ∧
    Goes 0x0403 chkMacSleepyConfig [2, packW [(2, 16), (1, 8), (1, 4), (1, 0)], packW [(4500, 16), (1, 0)], packW [(4, 24)]] up ∧
    Goes 0x0606 chkTxnOrderMode [packW [(1, 16)]] up ∧
    Goes 0x0607 chkTxnRetryPolicy [packW [(1, 28), (1, 24), (1, 16), (32767, 0)], packW [(1000, 16), (8, 8), (250, 0)]] up := by decide +kernel

/-- The same for schedules and Chord. -/
theorem witness_settings_schedules :
    Goes 0x0701 chkSchGroupSet [packW [(1, 28), (1000, 18), (4094, 0)]] up ∧
    Goes 0x0704 chkSchEntrySet [1, packW [(1, 31), (1, 23), (1, 10)], packW [(1, 21)], 0, 0, 0, 0, packW [(0xFFF, 20)], 0] sched ∧
    Goes 0x0705 chkSchEntryClear [0] sched ∧
    Goes 0x0707 chkSchSite [wd 90000000, wd (2 ^ 32 - 180000000), packW [(10, 0)], packW [(60, 16)]] up ∧
    Goes 0x0708 chkSchTzRule [0, 0, packW [(60, 16)], 0, 0] up ∧ Goes 0x0709 chkSchFallback [0xFFF, 0, 0, 0, 0, 0] up ∧
    Goes 0x0802 chkChdCorridorClear [1023] { up with chd := { up.chd with corridors := [(1023, { (default : Corridor) with owner := 1 })] } } ∧
    Goes 0x0804 chkChdConfig [packW [(50, 24), (1000, 14)]] up := by decide +kernel

/-- The same for metering, the sign drive, cabinet I/O, CAN and the recorder. -/
theorem witness_settings_drive :
    Goes 0x0901 chkMtrInputConfig [packW [(2, 30)], packW [(1, 24), (5, 16), (1, 8)]] up ∧
    Goes 0x0902 chkMtrFeederConfig [0, 0, 0, packW [(10, 16), (1, 0)], packW [(1, 16)], packW [(1, 16)], 0] up ∧
    Goes 0x0905 chkMtrPulseConfig [0, 1000000, packW [(2, 16)]] up ∧
    Goes 0x0A01 chkSgnStringConfig [packW [(1, 29), (7, 24)], packW [(50, 16)], 0] up ∧ Goes 0x0A02 chkSgnFunction [packW [(31, 27)], 0, 0] up ∧
    Goes 0x0A07 chkSgnDerate [0, packW [(1, 16), (6000, 0)], 1, packW [(1, 16)]] up ∧
    Goes 0x1001 chkIoDinConfig [packW [(15, 28), (1, 17)], 50, packW [(1, 16)]] up ∧ Goes 0x1004 chkIoDoutConfig [packW [(7, 29)]] up ∧
    Goes 0x0B01 chkCanConfig [packW [(1, 31)], packW [(1, 27), (62, 19), (15, 12), (15, 5)], packW [(1, 27), (14, 22), (5, 18), (5, 14)], packW [(100, 16)]] up ∧
    Goes 0x0B02 chkCanBufferConfig [packW [(1, 31), (63, 25), (2, 23)], 0, 0] up ∧
    Goes 0x0C05 chkLogSeverity [packW [(2, 30), (4, 27)]] up ∧ (List.range 17).all (fun b => tlRoom up.tl b 1) = true := by decide +kernel

/-! ### SYS commands and configuration sets -/

/-- In COMMISSION. -/
def comm : State := { up with pwr := { up.pwr with mode := .commission, commissioned := false }, sch := sched.sch }

/-- `SystemReadsAnswer`, for each variant. -/
theorem witness_sysReads :
    Goes 0x0100 (sysChecks 0x0100 0) [] up ∧ Goes 0x0101 (sysChecks 0x0101 0) [] up ∧ Goes 0x0102 (sysChecks 0x0102 0) [] up ∧
    up.dev.variant = .a ∧ Goes 0x0102 (sysChecks 0x0102 0) [] { up with dev := { up.dev with variant := .b } } ∧
    Goes 0x0102 (sysChecks 0x0102 0) [] { up with dev := { up.dev with variant := .c } } ∧ Goes 0x0103 (sysChecks 0x0103 0) [] up ∧
    Goes 0x010C (sysChecks 0x010C 0) [] up ∧ (Goes 0x0108 chkSysPower [0] up ∧ bit ((go 0x0108 [0]).w 3) 31 = false) := by decide +kernel

/-- `SystemCommandsAct`. -/
theorem witness_sysActs :
    Goes 0x0104 chkSysReset [0xB007C0DE] up ∧ Goes 0x0105 chkSysShelf [0x5E1F0000] comm ∧
    (Goes 0x0106 chkSysWatchdog [0] up ∧ fld ((go 0x0106 [0]).w 3) 16 0 = 0) ∧
    (Goes 0x0106 chkSysWatchdog [86400] up ∧ fld ((go 0x0106 [86400]).w 3) 16 0 ≠ 0) ∧
    (Goes 0x0107 chkSysMode [4] comm ∧ fld ((go 0x0107 [4]).w 3) 2 0 = 4) ∧
    (Goes 0x0107 chkSysMode [3] up ∧ fld ((go 0x0107 [3]).w 3) 2 0 ≠ 4 ∧
      (∀ p : Fin 4, (up.ports.get p).openSet = none ∧ (up.ports.get p).accepted = []) ∧ served up = true ∧ up.upd.windowOpen = false) ∧
    (Goes 0x0108 chkSysPower [packW [(1, 31), (660, 0)]] up ∧ bit ((go 0x0108 [packW [(1, 31), (660, 0)]]).w 3) 31 = true) := by
  decide +kernel

/-- A set of one command that H0 has open. -/
def oneSet : CfgSet := ⟨5, 1, [go 0x0705 [0]], none, 4, 0⟩

/-- H0 has the set open. -/
def opened : State := { sched with ports := up.ports.put 0 { initPort with openSet := some oneSet } }

/-- H0's set has been accepted and its entry is due. -/
def acceptedSet : State :=
  { due (.cfgSet 0 1) with ports := up.ports.put 0 { initPort with accepted := [⟨5, oneSet.staged, ⟨0, 7, 1, false, 0, 0x010A⟩⟩] }, sch := sched.sch }

/-- `SetsApplyWholeOrNotAtAll`: the last clause but two with a set whose command finds nothing to clear. -/
theorem witness_sets :
    Goes 0x0109 chkSysCfgBegin [5, 16384] up ∧
    (let w := [5#32, crc32c (oneSet.staged.map fun x => x.words).flatten]
     Goes 0x010A chkSysCfgCommit w opened ∧ setCheck (go 0x010A w) oneSet = none ∧ Room 3 opened) ∧
    (let w := [5#32, 0#32]
     Goes 0x010A chkSysCfgCommit w opened ∧ (setCheck (go 0x010A w) oneSet).isSome = true) ∧
    (Goes 0x010B chkSysCfgAbort [5] opened ∧ (opened.ports.get 0).openSet = some oneSet ∧ oneSet.id = ((go 0x010B [5]).w 3).toNat) ∧
    (Goes 0x010B chkSysCfgAbort [5] acceptedSet ∧ (acceptedSet.ports.get 0).openSet = none ∧
      ((acceptedSet.ports.get 0).accepted.find? fun x => x.id == 5).isSome = true) ∧
    (oneSet.since + 600 * 40000000 ≤ 600 * 40000000) ∧
    (Due ⟨4096 * 1000, 3, 0, 1, false, .cfgSet 0 1, true⟩ acceptedSet ∧
      ((acceptedSet.ports.get 0).accepted.find? fun x => x.origin.id == 1).isSome = true ∧ (runSet true oneSet.staged 1 (tlRemove 0 acceptedSet)).isOk = true) ∧
    (runSet true oneSet.staged 1 (tlRemove 0 { acceptedSet with sch := up.sch })).isOk = false ∧
    (Goes 0x010D chkSysSettingsReset [0x10] comm ∧ fld ((go 0x010D [0x10]).w 3) 7 0 ≤ 0x10 ∧ Room 0x10 comm) ∧
    Due ⟨4096 * 1000, 3, 0, 1, false, .settingsReset 9, true⟩ (due (.settingsReset 9)) := by decide +kernel

/-! ### Radio -/

/-- FE0 tuned for transmission and reception under a delivered plan, the duty windows empty; `x` changes FE0 further. -/
def onPlan (plan centre : Nat) (x : FrontEnd → FrontEnd) : State :=
  { up with
    clk := { up.clk with ticks := 4000000000 }
    rad := { up.rad with stored := some (deliveredPlan plan), fillLeft := 0, dutySec := 100
                         fe0 := x { initFe with cfg := some ⟨0, false, centre, 0, 0, false, 0⟩, centre := centre, role := 0 } } }

/-- The same under plan 0 at 869.0 MHz. -/
def onAir (x : FrontEnd → FrontEnd) : State := onPlan 0 869000 x

/-- The same with engine 0 changed. -/
def withCe (x : Engine → Engine) : State := updCe 0 x (onAir id)

/-- A data frame of 40 octets with a deadline far away. -/
def frame : Frame := ⟨2, 4096 * 2000, 40, 0, .raw 1, none, none, 0, 0, none, default⟩

/-- `FrontEndsFollowTheirRules`. -/
theorem witness_frontEnds :
    ((feOf up 0).carriers = [] ∧ (feOf up 0).centre ≠ (feCfg up 0).centre) ∧
    (let s := onAir fun f => { f with carriers := [⟨0, .raw 1, false, 28, 869525000, 0, 1⟩] }
     (feOf s 0).carriers ≠ [] ∧ (feOf s 0).dpdPend = none) ∧
    (let s := onAir fun f => { f with fbV := 1, vswrLow := List.replicate 10 1600000000 }
     (feOf s 0).fbV ≠ 0 ∧ 2400000000 ≤ s.clk.ticks ∧ (feOf s 0).vswrBad ≤ s.clk.ticks - 2400000000 ∧ 10 ≤ (feOf s 0).vswrLow.length ∧
       ∀ t ∈ (feOf s 0).vswrLow, 0 < t ∧ s.clk.ticks - 2400000000 ≤ t) ∧
    (feOf (onAir id) 0).fault = false ∧
    (let s := onAir fun f => { f with fault := true, faultTick := 3960000000 }
     (feOf s 0).fault = true ∧ (feOf s 0).faultTick + 40000000 ≤ s.clk.ticks) ∧
    (let s := onAir fun f => { f with dpdPend := some 3600000000 }
     (feOf s 0).dpdPend = some 3600000000 ∧ 3600000000 + 400000000 ≤ s.clk.ticks) ∧
    (∀ e ∈ { up.rad with ces := [{ Engine.empty with st := .receive }] }.ces, e.st = .receive) ∧
    (0 < up.rad.ces.length ∧ (ceOf up 0).st ≠ .receive) ∧
    (let s := withCe fun e => { e with rx := some ⟨true, false, false, false, 0, none, false⟩ }
     0 < s.rad.ces.length ∧ (ceOf s 0).rx = some ⟨true, false, false, false, 0, none, false⟩ ∧ (feCfg s 0).gainMode = false ∧ (feOf s 0).gainStep ≠ 15 ∧ soleRx s 0 ≠ []) ∧
    ((feCfg (onAir id) 0).gainMode = false ∧ (feOf (onAir id) 0).gainStep ≠ 15 ∧ ∀ e ∈ (onAir id).rad.ces, e.rx = none) ∧
    (let s := onAir fun f => { f with gainPend := some (3, 3998000000) }
     (feOf s 0).gainPend = some (3, 3998000000) ∧ 3998000000 + 2000000 ≤ s.clk.ticks) := by decide +kernel

/-- Engine 0 listens before it sends the frame. -/
def listening (busy : Nat) : State :=
  withCe fun e => { e with tx := [frame], st := .access, adm := some ⟨0, { frame with busy := busy }, 28, 4000000000, 4000000000⟩ }

/-- A carrier of engine 0 that ends at the tick. -/
def sending (stop : Nat) : State :=
  updCe 0 (fun e => { e with adm := some ⟨0, frame, 28, 0, 0⟩, st := .transmit })
    (onAir fun f => { f with carriers := [⟨0, .raw 1, false, 28, 869525000, 3999000000, stop⟩] })

/-- `FramesAreAdmittedListenedForAndSent`: admission and listening. -/
theorem witness_admission :
    (let s := updCe 0 (fun e => { e with tx := [frame] }) (onPlan 1 902000 id)
     let u := enterAll (revokeAdm s)
     headOf u 0 = some (0, frame) ∧ admits u 0 (framePower u 0 0 frame) = true ∧
       protects u 0 frame = false ∧ needsLbt (schedTrain 0 frame u).2 0 (schedTrain 0 frame u).1 = false ∧ 0 < s.mac.engs.length) ∧
    (let s := updCe 0 (fun e => { e with tx := [frame] }) (onAir fun f => { f with dpdStop := true })
     let u := enterAll (revokeAdm s)
     headOf u 0 = some (0, frame) ∧ admits u 0 (framePower u 0 0 frame) = false) ∧
    (let s := { listening 0 with rad := { (listening 0).rad with fe0 := { (listening 0).rad.fe0 with fault := true } } }
     (ceOf s 0).adm.isSome = true ∧ (ceOf s 0).st = .access ∧ feClosed s 0 = true) ∧
    (let s := { listening 0 with rad := { (listening 0).rad with fe0 := { (listening 0).rad.fe0 with retuneUntil := 4000000001 } } }
     0 < s.rad.ces.length ∧ (ceOf s 0).st = .access ∧ 4000000000 ≤ s.clk.ticks ∧ hears s 0 frame = false) ∧
    (let s := listening 0
     (ceOf s 0).st = .access ∧ (∀ e ∈ s.rad.ces, ∀ x, e.adm = some x → feClosed s x.fe = false) ∧ branchAt s 0 (frameFreq s 0 frame) (phyWidth (ceCfg s 0).phy) = true ∧
       (subOf (planOf s) (frameFreq s 0 frame) (phyWidth (ceCfg s 0).phy)).isSome = true ∧ protects s 0 frame = false ∧
       feSends s 0 (frameFreq s 0 frame) (phyWidth (ceCfg s 0).phy) = true ∧ txd s 0 = 0 ∧
       -2000 - (feCfg s 0).gain + (feCfg s 0).loss < -10 * 87 ∧ -10 * 87 ≤ -400 - (feCfg s 0).gain + (feCfg s 0).loss ∧
       0 + 1 < (ceCfg s 0).tries) := by decide +kernel

/-- `FramesAreAdmittedListenedForAndSent`: the end of a carrier, a deadline, reception, acknowledgement and the duty bins. -/
theorem witness_air :
    (let s := sending 4000000000
     (carrierOf s 0).isSome = true ∧ (FrameSrc.raw 1) ≠ .test ∧ 4000000000 ≤ s.clk.ticks ∧ (ceOf s 0).adm.isSome = true) ∧
    ((carrierOf (sending 4000000001) 0).isSome = true ∧ (sending 4000000001).clk.ticks < 4000000001) ∧
    (let s := withCe fun e => { e with tx := [{ frame with deadline := 4096 * 1000 }] }
     (ceOf s 0).adm = none ∧ (ceOf s 0).st = .rest ∧ ((ceOf s 0).tx.find? fun x => decide (x.deadline ≤ s.tt.tt)).isSome = true) ∧
    (branch (onAir id) 0 0 = true ∧ branch (onAir id) 0 1 = false ∧ (ceOf (onAir id) 0).st = .rest ∧ (ceOf (onAir id) 0).adm = none) ∧
    (let s := updMd 0 (fun m => { m with ack := some ⟨4000000800, 5, 1, 5, false, .short 9, none⟩ }) (onAir id)
     (mdOf s 0).ack = some ⟨4000000800, 5, 1, 5, false, .short 9, none⟩ ∧ ackBlocked s 0 = false ∧ outReady s 5 = true ∧ 4000000800 ≤ s.clk.ticks + 800 ∧ s.clk.ticks + 800 ≤ 4000000800 + 400 ∧
       txd s 0 = 0 ∧ dutyHeld s 0 0 0 = false ∧
       ((sendFes s 0).findSome? fun k => (ackPower s k 0).map fun p => (k, p)).isSome = true) ∧
    (let s := updMd 0 (fun m => { m with ack := some ⟨4000000800, 5, 1, 5, false, .short 9, none⟩ })
       (withCe fun e => { e with st := .receive, rx := some ⟨true, false, false, false, 4000000000, none, false⟩ })
     (mdOf s 0).ack = some ⟨4000000800, 5, 1, 5, false, .short 9, none⟩ ∧ ackBlocked s 0 = true ∧
       (ceOf s 0).rx = some ⟨true, false, false, false, s.clk.ticks, none, false⟩) ∧
    (let s := updMd 0 (fun m => { m with air := some { (default : AirTx) with phr := 4000000000 } }) (sending 4000001000)
     0 < s.mac.engs.length ∧ (ceOf s 0).st = .transmit ∧ (mdOf s 0).air = some { (default : AirTx) with phr := 4000000000 } ∧
       4000000000 = s.clk.ticks) ∧
    (let s := updMd 0 (fun m => { m with wait := some ⟨{ frame with src := .txn 4 }, 3999950000⟩ }) (onAir id)
     (mdOf s 0).wait = some ⟨{ frame with src := .txn 4 }, 3999950000⟩ ∧ 3999950000 + 50000 ≤ s.clk.ticks) ∧
    (let s := { onAir id with rad := { (onAir id).rad with dutySec := 99 } }
     s.rad.dutySec < s.clk.ticks / 40000000) := by decide +kernel

/-- In COMMISSION on the air, CE1 not enabled. -/
def testing : State := { onAir id with pwr := comm.pwr }

/-- `RadCommandsAct`. -/
theorem witness_radCommands :
    (Goes 0x0301 chkRadStatus [0] up ∧ Goes 0x0301 chkRadStatus [1] up ∧ Goes 0x0301 chkRadStatus [2] up ∧ Goes 0x0301 chkRadStatus [3] up ∧
      (planOf up).isSome = true ∧ planOf { up with pwr := { up.pwr with straps := 0x13#8 } } = none) ∧
    Goes 0x0305 chkRadCalStatus [] up ∧
    (Goes 0x0306 chkRadCalSweep [2] up ∧ (admitAct 6 0 up).isOk = true) ∧
    (Goes 0x0307 chkRadTxTest [packW [(1, 26)], 0, 0] (updCe 1 (fun e => { e with test := some default }) testing) ∧
      fld ((go 0x0307 [packW [(1, 26)], 0, 0]).w 5) 23 0 = 0) ∧
    (let w := [packW [(1, 26)], 869525000#32, packW [(28, 24), (1000, 0)]]
     Goes 0x0307 chkRadTxTest w testing ∧ fld ((go 0x0307 w).w 5) 23 0 ≠ 0 ∧ fld ((go 0x0307 w).w 3) 31 26 < testing.rad.ces.length ∧
       (subOf (planOf testing) 869525000 (phyWidth (testPhy (go 0x0307 w)))).isSome = true) ∧
    (let s := onAir fun f => { f with sweep := some ⟨false, 3840000000, default⟩ }
     (feOf s 0).sweep = some ⟨false, 3840000000, default⟩ ∧ 3840000000 + 160000000 ≤ s.clk.ticks) ∧
    (feOf up 0).sweep = none ∧
    (let s := withCe fun e => { e with test := some { (default : TxTest) with stop := 4000000000 } }
     (ceOf s 0).test = some { (default : TxTest) with stop := 4000000000 } ∧ 4000000000 ≤ s.clk.ticks) := by decide +kernel

/-! ### MAC -/

/-- A key-encryption slot with the key of RFC 3394, 4.1. -/
def kek : KeySlot :=
  { (default : KeySlot) with st := .active, usage := 1, engines := 2 ^ 64 - 1, active := some [0x00010203, 0x04050607, 0x08090A0B, 0x0C0D0E0F] }

/-- A mains-powered Lantern of engine 0, ACTIVE, owned by H0, with a link key. -/
def lantern : EpRec :=
  { (default : EpRec) with st := .active, owner := 1, cls := 1, short := 9, eui := 77, mains := true, kekSlot := 1, secLevel := 5
                           keyCur := some (List.replicate 6 0), groups := List.replicate 8 0xFFF }

/-- On the air with endpoint 5, its key unwrapped. -/
def net (x : EpRec → EpRec) : State :=
  updMd 0 (fun m => { m with cache := [⟨5, List.replicate 6 0, [1, 2, 3, 4]⟩] })
    { onAir id with lat := { up.lat with recs := [(5, x lantern)] }, key := { up.key with slots := [(1, kek)] } }

/-- The same with a link in a state, heard at cycle 900. -/
def linked (st : LinkSt) (x : EpRec → EpRec) : State :=
  { net x with mac := { (net x).mac with links := [(5, { (default : Link) with st := st, heard := 900 })] } }

/-- At the phase of engine 0's beacon, `d` cycles after its nominal start, its MAC changed. -/
def atBeacon (d : Nat) (x : MacEng → MacEng) : State :=
  updMd 0 x { onAir id with tt := { up.tt with tt := 4096 * (1500 + d) + 1024 } }

/-- `BeaconsAndLinksKeepTheirTimes`. -/
theorem witness_beacons :
    (let s := atBeacon 9 id
     served s = true ∧ ceOn s 0 = true ∧ (bcnOf s 0).en = true ∧ s.tt.running = true ∧ (mdOf s 0).from_ ≤ 1500 ∧
       latestStart s (bcnOf s 0) = some 1500 ∧ (mdOf s 0).lastStart ≠ some 1500 ∧ (mdOf s 0).misses < 3 ∧ bcnKeyOk s 0 (bcnOf s 0) = true ∧
       s.tt.tt < startTt (bcnOf s 0) 1500 + (bcnOf s 0).window * 4096 ∧ txRoom s 0 = true) ∧
    (let s := atBeacon 4 fun m => { m with misses := 3 }
     latestStart s (bcnOf s 0) = some 1500 ∧ 3 ≤ (mdOf s 0).misses ∧
       s.tt.tt < startTt (bcnOf s 0) 1500 + (bcnOf s 0).window / 2 * 4096) ∧
    (let s := updMd 0 (fun m => { m with bcn := some { bcnOf up 0 with offset := 1 } }) { up with tt := { up.tt with tt := 4096 } }
     cycOf { s with tt := { s.tt with tt := 0 } } < (bcnOf s 0).offset % (bcnOf s 0).bp ∧
       latestStart { s with tt := { s.tt with tt := 0 } } (bcnOf s 0) = none) ∧
    (let s := atBeacon 0 fun m => { m with lastStart := some 1500 }
     latestStart s (bcnOf s 0) = some 1500 ∧ (mdOf s 0).lastStart = some 1500) ∧
    (let s := atBeacon 9 fun m => { m with half := some (1500, 2), bcn := some { bcnOf up 0 with backup := 868300000 } }
     (mdOf s 0).half = some (1500, 2) ∧ (bcnOf s 0).backup ≠ 0 ∧ s.tt.tt < startTt (bcnOf s 0) 1500 + (bcnOf s 0).window * 4096 ∧
       startTt (bcnOf s 0) 1500 + (bcnOf s 0).window / 2 * 4096 ≤ s.tt.tt ∧ bcnKeyOk s 0 (bcnOf s 0) = true ∧ txRoom s 0 = true ∧ ceOn s 0 = true ∧ ∀ f ∈ (ceOf s 0).tx, f.src ≠ .beacon 1500 true) ∧
    (let s := atBeacon 4 fun m => { m with half := some (1500, 2), bcn := some { bcnOf up 0 with backup := 868300000 } }
     (mdOf s 0).half = some (1500, 2) ∧ (bcnOf s 0).backup ≠ 0 ∧ s.tt.tt < startTt (bcnOf s 0) 1500 + (bcnOf s 0).window / 2 * 4096) ∧
    (let s := atBeacon 10 fun m => { m with half := some (1500, 2) }
     startTt (bcnOf s 0) 1500 + (bcnOf s 0).window * 4096 ≤ s.tt.tt) ∧
    (let s := atBeacon 9 fun m => { m with request := some 1500 }
     (mdOf s 0).request = some 1500 ∧ ceOn s 0 = true ∧ (bcnOf s 0).en = true ∧ bcnKeyOk s 0 (bcnOf s 0) = true ∧
       (mdOf s 0).extraIn ≠ some (periodOf s (bcnOf s 0)) ∧ txRoom s 0 = true ∧ cycOf s < 1500 + 50) := by decide +kernel

/-- `BeaconsAndLinksKeepTheirTimes`, the links. -/
theorem witness_links :
    ({ up with upd := { up.upd with windowOpen := true } }.upd.windowOpen = true ∧ 63 < up.mac.engs.length ∧ up.upd.windowOpen = false) ∧
    (let s := linked .poll fun r => { r with sleepy := 1, pollInt := 33 }
     (linkOf s 5).isSome = true ∧ (epOf s 5).isSome = true ∧ 900 + (slpOf s 0).pollMiss * 33 ≤ cycOf s) ∧
    ((linkOf (linked .lost id) 5).map (·.st) = some .lost ∧ LinkSt.lost ≠ .poll) ∧
    (let s := linked .resync fun r => { r with sleepy := 2, sp := 50 }
     ceOn s 0 = true ∧ greetDue (updMd 0 (fun m => { m with greetAt := some 1000 }) s) 0 = true ∧ (∀ f ∈ (ceOf s 0).tx, f.src ≠ .greeting) ∧
       resyncOn s 0 ≠ [] ∧ (∀ x ∈ resyncOn s 0, x.2.rounds < (slpOf s 0).greetTries) ∧ txRoom s 0 = true ∧ bcnKeyOk s 0 (bcnOf s 0) = true ∧
       0 < s.mac.engs.length) ∧ comm.pwr.mode = .commission ∧
    ({ frame with src := .beacon 1500 true }.src = .beacon 1500 true ∧ { frame with src := .txn 3, peer := some 5 }.peer = some 5 ∧
      (epOf (net id) 5).isSome = true) := by decide +kernel

/-- A frame as it stands on the air: octets with their FCS of 2 octets, heard on FE0. -/
def onWire (l : List Nat) : AirFrame := ⟨(l ++ fcs2 l).map (BitVec.ofNat 8), false, -60, -120, 40⟩

/-- The header of a data frame (or another type) from short address `src` to the module, secured at a level with frame counter 3. -/
def mhrFrom (type pan src level : Nat) : List Nat := mhrOctets type false true false 6 pan (.short 0) (.short src) level 3 none

/-- Engine 0 receives on FE0, `k` messages in its ring. -/
def receiving (k : Nat) (x : EpRec → EpRec) : State :=
  updCe 0 (fun e => { e with rx := some ⟨true, false, false, false, 0, some 5, false⟩, st := .receive, ring := List.replicate k default }) (net x)

/-- The link key of endpoint 5 as the engine holds it. -/
def linkKey (s : State) : List Nat := octetsOfWords ((curKey s 0 5 lantern).getD [])

/-- A secured data frame of endpoint 5: an empty network header and two octets of a message. -/
def sealedFrame : AirFrame := onWire (mhrFrom 1 0xD600 9 5 ++ ccmSeal (linkKey (net id)) 77 3 5 (mhrFrom 1 0xD600 9 5) [0, 0x80, 1])

/-- As it was read. -/
def readBy (s : State) (a : AirFrame) : MacFrame := readFrame s 0 none a

/-- `ReceivedFramesAreFilteredInOrder`: the stages before security. -/
theorem witness_filter :
    (ceOf (onAir id) 0).rx = none ∧
    (let r : Reception := ⟨true, false, false, false, 0, some 5, false⟩
     (ceOf (receiving 3 id) 0).rx = some r ∧ overrun (ceOf (receiving 3 id) 0) r = false ∧ overrun (ceOf (receiving 3 id) 0) { r with full := true } = true) ∧
    (let s := receiving 3 id
     (readBy s { onWire (mhrFrom 1 0xD600 9 0) with psdu := [1, 2, 3] }).fcsOk = false ∧ (readBy s (onWire (mhrFrom 1 0xD600 9 0))).fcsOk = true ∧
       formatOk (readBy s (onWire (mhrFrom 0 0xD600 9 0))) = false ∧ formatOk (readBy s (onWire (mhrFrom 1 1 9 0))) = true ∧
       addrOk s 0 (readBy s (onWire (mhrFrom 1 1 9 0))) = false ∧ addrOk s 0 (readBy s (onWire (mhrFrom 1 0xD600 9 0))) = true ∧
       isBeaconReq (readBy s (onWire (mhrFrom 3 0xD600 9 0 ++ [7]))) = true ∧ isBeaconReq (readBy s (onWire (mhrFrom 1 0xD600 9 0))) = false ∧
       secAccepted (readBy s (onWire (mhrFrom 1 0xD600 9 0))) = false ∧ startTt (bcnOf s 0) 0 + (bcnOf s 0).window * 4096 ≤ s.tt.tt ∧
       latestStart s (bcnOf s 0) = some 0) := by decide +kernel

/-- The same statement, frame security: a frame that verifies, the same with a MIC that fails, one from an unknown address, one from an endpoint of
another engine. -/
theorem witness_security :
    let s := receiving 3 id
    let f := readBy s sealedFrame
    f.fcsOk = true ∧ formatOk f = true ∧ addrOk s 0 f = true ∧ isBeaconReq f = false ∧ secAccepted f = true ∧
      addrEp s 0 f.src = some (5, lantern) ∧ isChild 0 lantern = true ∧ f.micCur = true ∧ f.payload = [0, 0x80, 1] ∧
      (verify 0 5 lantern f s).isOk = true ∧ (verify 0 5 lantern { f with micCur := false, micPrev := false } s).isOk = false ∧
      addrEp s 0 (.short 8) = none ∧ isChild 0 { lantern with engine := 1 } = false := by decide +kernel

/-- An Enhanced ACK from endpoint 5 with sequence number 4, secured with counter 3. -/
def ackHead : List Nat := mhrOctets 2 false false false 4 0xD600 (.short 0) (.short 9) 5 3 none

/-- Engine 0 has sent a frame of transaction 9 to endpoint 5 and waits for its acknowledgement; it is heard `d` ticks after the frame. -/
def awaiting (f : Frame) (d : Nat) : State :=
  updMd 0 (fun m => { m with wait := some ⟨f, 3999000000⟩, raws := [⟨1, true, ⟨0, 0, 9, false, 0, 0x0405⟩, mhrOctets 1 false true false 4 0xD600 .absent
      (.short 0) 0 0 none, 0, false, 0, 0⟩] })
    { net id with clk := { up.clk with ticks := 3999000000 + d } }

/-- The same statement: acknowledgements, and indirect attempts. -/
theorem witness_acks :
    (mdOf up 0).wait = none ∧
    (let g := { frame with src := .txn 9, ackFrom := some 5, dsn := 4 }
     let a := onWire (ackHead ++ ccmSeal (linkKey (net id)) 77 3 5 ackHead [])
     let s := awaiting g (38000 + airTicks (ceCfg (net id) 0) (ceCfg (net id) 0).preamble a.psdu.length)
     let f := readFrame s 0 (awaited s 0 g) a
     awaited s 0 g = some (5, lantern) ∧ f.fcsOk = true ∧ f.type = 2 ∧ f.version = 2 ∧ f.parses = true ∧ f.octets = a.psdu.length ∧
       f.src = .short lantern.short ∧ f.seq = g.dsn ∧ f.level = lantern.secLevel ∧
       (verify 0 5 lantern f (updMd 0 (fun m => { m with wait := none }) (settleCe 0 s))).isOk = true) ∧
    (let a := onWire (mhrOctets 2 false false false 4 0xD600 .absent .absent 0 0 none)
     let s := awaiting frame (49999 + airTicks (ceCfg (net id) 0) (ceCfg (net id) 0).preamble a.psdu.length)
     let f := readFrame s 0 (awaited s 0 frame) a
     frame.src = .raw 1 ∧ awaited s 0 frame = none ∧ f.fcsOk = true ∧ f.type = 2 ∧ f.version = 2 ∧ f.parses = true ∧ f.src = .absent ∧ f.level = 0 ∧
       (rawHead s 0 1).level = 0 ∧ f.seq = (rawHead s 0 1).seq ∧ 3999000000 + 38000 ≤ s.clk.ticks - airTicks (ceCfg s 0) (ceCfg s 0).preamble f.octets ∧
       s.clk.ticks - airTicks (ceCfg s 0) (ceCfg s 0).preamble f.octets < 3999000000 + 50000) ∧
    (let t : Txn := { (default : Txn) with id := 4, st := .sent, until_ := 4096 * 1000 }
     let s := { up with txn := { up.txn with txns := [t] } }
     txnOf s 4 = some t ∧ t.st = .sent ∧ t.until_ ≠ 0 ∧ t.until_ ≤ s.tt.tt ∧ 4096 * 1000 - 1 < t.until_) := by decide +kernel

/-- `MacCommandsAnswer`. -/
theorem witness_mac :
    Goes 0x0401 chkMacEngineStatus [63] up ∧ Goes 0x0404 chkMacLinkState [5] (linked .poll id) ∧ (linkOf (linked .poll id) 5).isSome = true ∧
    (let s := linked .tracked fun r => { r with sleepy := 2, sp := 2, eps := 65535 }
     (epOf s 5).isSome = true ∧ (linkOf s 5).map (·.st) = some .tracked ∧
       inGuard s ((linkOf s 5).getD default) ((epOf s 5).getD default) = false) ∧
    (Goes 0x0404 chkMacLinkState [5] (net id) ∧ (epOf (net id) 5).isSome = true ∧ linkOf (net id) 5 = none) ∧
    (let w := [packW [(0, 26), (32767, 0)], 0#32, 3#32, packW [(0x20, 16), (1, 24)]]
     Goes 0x0405 chkMacRawSend w (onAir id) ∧ bit ((go 0x0405 w).w 3) 24 = false ∧ fld ((go 0x0405 w).w 3) 31 26 < (onAir id).mac.engs.length) ∧
    (let w := [packW [(0, 26), (1, 24), (1, 0)], packW [(0xFFFF, 16), (45000, 0)], 3#32, packW [(0x20, 16), (1, 24)]]
     Goes 0x0405 chkMacRawSend w (onAir id) ∧ bit ((go 0x0405 w).w 3) 24 = true ∧ fld ((go 0x0405 w).w 4) 15 0 ≠ 0) := by decide +kernel

/-! ### Lattice and transactions -/

/-- A verified message from EUI 77 with these application octets at the front of engine 0's ring. -/
def heard (app : List Nat) (x : EpRec → EpRec) : State :=
  updCe 0 (fun e => { e with ring := [{ (default : RxMsg) with ep := some 5, eui := 77, level := 5, verified := true, own := true, app := app }] }) (net x)

/-- The message itself. -/
def heardMsg (app : List Nat) : RxMsg := { (default : RxMsg) with ep := some 5, eui := 77, level := 5, verified := true, own := true, app := app }

/-- A policy for joining. -/
def policy (permit : Nat) (s : State) : State := { s with lat := { s.lat with policy := { s.lat.policy with permit := permit } } }

/-- `JoinsAreJudgedInOrder`: each outcome of a join. -/
theorem witness_joins :
    (let s := heard [5, 0, 0] fun r => { r with eui := 78 }
     Head 5 0 (heardMsg [5, 0, 0]) s ∧ byEui s 77 = none) ∧
    (let s := heard [5, 0, 0] id
     byEui s 77 = some (5, lantern) ∧ lantern.st ≠ .provisioned) ∧
    (let r := { lantern with st := .provisioned, keyCur := none }
     let s := heard [5, 0, 0] fun _ => r
     byEui s 77 = some (5, r) ∧ r.st = .provisioned ∧ (∀ t ∈ s.txn.txns, ¬(t.ep = 5 ∧ t.kind = .joinRsp false)) ∧ r.keyCur = none) ∧
    (let r := { lantern with st := .provisioned }
     let s := heard [5, 0, 0, 1, 2, 3, 4, 5, 0] fun _ => r
     r.keyCur ≠ none ∧ joinSecure { heardMsg [5, 0, 0] with verified := false } r = false ∧ joinSecure (heardMsg [5, 0, 0]) r = true ∧
       (policy 0 s).lat.policy.permit ≠ 1 ∧ s.lat.policy.permit = 1 ∧ policyOk s 0 r.cls = true ∧
       (msgBody (heardMsg [5, 0, 0, 1, 2, 3, 4, 5, 0])).getD 5 0 / 4 % 4 ≠ 3 ∧ txnRoom s 1 = true) ∧
    { up with upd := { up.upd with windowOpen := true } }.upd.windowOpen = true := by decide +kernel

/-- `JoinsAreJudgedInOrder`: rejoins. -/
theorem witness_rejoins :
    (let r := { lantern with st := .removing }
     let s := heard [7, 0, 0] fun _ => r
     Head 7 0 (heardMsg [7, 0, 0]) s ∧ byEui s 77 = some (5, r) ∧ epOf s 5 = some r ∧ r.st ≠ .active ∧ r.st ≠ .orphan) ∧
    (let s := policy 0 (heard [7, 0, 0] id)
     byEui s 77 = some (5, lantern) ∧ epOf s 5 = some lantern ∧ lantern.st = .active ∧ lantern.keyCur ≠ none ∧ 5 = lantern.secLevel ∧
       s.lat.policy.permit = 0) ∧
    (let s := heard [7, 0, 0] fun r => { r with st := .orphan }
     s.lat.policy.permit ≠ 0 ∧ policyOk s 0 1 = true ∧ (msgBody (heardMsg [7, 0, 0])).getD 5 0 / 4 % 4 ≠ 3 ∧ txnRoom s 1 = true) := by
  decide +kernel

/-- A transaction of endpoint 5. -/
def txn4 : Txn := { (default : Txn) with id := 4, kind := .level, ep := 5, st := .queued, deadline := 5000, tid := 7 }

/-- A state with that transaction, changed. -/
def withTxn (x : Txn → Txn) (s : State) : State := { s with txn := { s.txn with txns := [x txn4] } }

/-- `EndpointMessagesActOnTheirUnit`. -/
theorem witness_messages :
    (let s := withTxn (fun t => { t with attempts := 1 }) (heard [2, 0, 0, 7, 0] id)
     Head 2 0 (heardMsg [2, 0, 0, 7, 0]) s ∧ (byTid s 5 ((msgBody (heardMsg [2, 0, 0, 7, 0])).getD 0 0) false).isSome = true) ∧
    (Head 2 0 (heardMsg [2, 0, 0, 7]) (heard [2, 0, 0, 7] id) ∧ byTid (heard [2, 0, 0, 7] id) 5 7 false = none) ∧
    (Head 0x10 0 (heardMsg [0x10, 0, 0, 1]) (heard [0x10, 0, 0, 1] id) ∧ trusted (heardMsg [0x10, 0, 0, 1]) = some 5 ∧ epOf (heard [0x10, 0, 0, 1] id) 5 = some lantern ∧
      up.dev.variant ≠ .c) ∧
    (let s := heard [0x11, 0, 0, 1] id
     Head 0x11 0 (heardMsg [0x11, 0, 0, 1]) s ∧ (msgBody (heardMsg [0x11, 0, 0, 1])).getD 0 0 < 2 ∧ chdRuns s = true ∧ s.chd.on = true ∧
       chdRuns { s with pwr := comm.pwr } = false ∧ epOf s 5 = some lantern ∧ firstDetect s (detectTt s (heardMsg [0x11, 0, 0, 1]) 0) 5 = true) ∧
    -- an earlier detection waits at the head of engine 1's ring
    (let m := { heardMsg [0x11, 0, 0, 1] with tt := 4096 * 1000 }
     let s := updCe 1 (fun e => { e with ring := [heardMsg [0x11, 0, 0, 1]] }) (updCe 0 (fun e => { e with ring := [m] }) (net id))
     Head 0x11 0 m s ∧ trusted m = some 5 ∧ firstDetect s (detectTt s m 0) 5 = false) ∧
    (Head 0x11 0 (heardMsg [0x11, 0, 0, 2]) (heard [0x11, 0, 0, 2] id) ∧ (msgBody (heardMsg [0x11, 0, 0, 2])).getD 0 0 = 2) ∧
    (let x : ImgSend := { (default : ImgSend) with targets := [⟨5, [], false, none⟩] }
     let s := { heard [0x23, 0, 0] id with lat := { (net id).lat with sends := [x] } }
     Head 0x23 0 (heardMsg [0x23, 0, 0]) s ∧ sendOf s 5 = some x) ∧
    (let s := withTxn (fun t => { t with attempts := 1, query := true }) (heard [0x80, 7, 0] id)
     Head 0x80 0 (heardMsg [0x80, 7, 0]) s ∧ (byTid s 5 (msgTid (heardMsg [0x80, 7, 0])) true).isSome = true) ∧
    byTid (heard [0x80, 7, 0] id) 5 7 true = none := by decide +kernel

/-- `EndpointMessagesActOnTheirUnit`: messages that are not authenticated, or came another way. -/
theorem witness_untrusted :
    ∀ op ∈ [2, 0x10, 0x11, 0x23, 0x24, 0x80], ∀ v ∈ [true, false],
      let m := { heardMsg [op, 7, 0] with verified := v, own := !v }
      Head op 0 m (updCe 0 (fun e => { e with ring := [m] }) (net id)) ∧ trusted m = none := by decide +kernel

/-- `TransactionsEndWithOneOutcome`: the attempt. -/
theorem witness_attempts :
    (let s := withTxn (fun t => { t with target := some 2000 }) { net id with tt := { up.tt with state := .holdover } }
     txnOf s 4 = some { txn4 with target := some 2000 } ∧ s.upd.windowOpen = false ∧ epOf s 5 = some lantern ∧
       deferNow s { txn4 with target := some 2000 } lantern = true) ∧
    (let s := withTxn id (net id)
     txnOf s 4 = some txn4 ∧ deferNow s txn4 lantern = false ∧ reachable s txn4 lantern = true ∧ kindInMode s txn4 = true ∧
       txRoom s lantern.engine = true ∧ keyExhausted { lantern with outCtr := 0xFFFFF000 } = true ∧ keyExhausted lantern = false ∧
       peerOf s txn4 lantern = 5 ∧ exhaustedAt s 5 = false ∧ lantern.viaRouter = false ∧
       linkKeyUsable s 5 = true ∧ linkKeyUsable { s with key := up.key } 5 = false ∧ txn4.target = none) ∧
    holdFlag (net id) = false ∧
    (cycOf (net id) + (net id).txn.retry.lead ≤ 1010 ∧ 1009 < cycOf (net id) + (net id).txn.retry.lead) := by decide +kernel

/-- Endpoint 5 behind router 6, whose next counter is `n`, with a confirmed ceiling for endpoint 5. -/
def routed (n ceiling : Nat) : State :=
  let s := net fun r => { r with viaRouter := true, route := 1 }
  { s with lat := { s.lat with recs := s.lat.recs ++ [(6, { lantern with eui := 78, cls := 2, outCtr := n })],
                               routes := [(1, { (default : Route) with hops := [(9, 6)] })],
                               ctr := { s.lat.ctr with ceilings := [(5, ceiling)] } } }

/-- `TransactionsEndWithOneOutcome`: an attempt over a router, its key at its end and not, with the counter confirmed or waiting. -/
theorem witness_routedAttempts :
    let r := { lantern with viaRouter := true, route := 1 }
    epOf (routed 0 2) 5 = some r ∧ keyExhausted r = false ∧ peerOf (routed 0 2) txn4 r = 6 ∧ reachable (routed 0 2) txn4 r = true ∧
    exhaustedAt (routed 0xFFFFF000 2) 6 = true ∧ exhaustedAt (routed 0 2) 6 = false ∧
    linkKeyUsable (routed 0 2) 5 = true ∧ linkKeyUsable (routed 0 2) 6 = false ∧
    (let s := updMd 0 (fun m => { m with cache := m.cache ++ [⟨6, List.replicate 6 0, [1, 2, 3, 4]⟩] }) (routed 0 2)
     linkKeyUsable s 6 = true ∧ outReady s 5 = true) ∧ outReady (routed 0 1) 5 = false := by decide +kernel

/-- `TransactionsEndWithOneOutcome`: the ends of its waits, at their instants. -/
theorem witness_ends :
    { txn4 with until_ := 4096 * 1000 }.until_ ≤ up.tt.tt ∧ up.tt.tt < { txn4 with until_ := 4096 * 1000 + 1 }.until_ ∧
    up.txn.retry.maxTries ≤ { txn4 with attempts := 4 }.attempts ∧ { txn4 with attempts := 3 }.attempts < up.txn.retry.maxTries ∧
    cycOf up < { txn4 with deadline := 1001 }.deadline ∧ { txn4 with deadline := 1000 }.deadline ≤ cycOf up ∧ txn4.cancelled = false ∧
    (let t := { txn4 with strict := true, target := some 1009 }
     t.attempts = 0 ∧ lateTarget up t = true ∧ lateTarget up { t with target := some 1010 } = false) ∧
    (let s := updMd 0 (fun m => { m with indirect := [{ (default : Indirect) with src := .txn 4 }] }) (withTxn id (net id))
     (mdOf s (engOf s 5)).indirect.any (fun i => i.src == .txn 4) = true ∧
       (mdOf (net id) (engOf (net id) 5)).indirect.any (fun i => i.src == .txn 4) = false) ∧
    txnOf (withTxn (fun t => { t with st := .held }) up) 4 = some { txn4 with st := .held } := by decide +kernel

/-- A group message that has been sent `n` times. -/
def groupMsg (n : Nat) : GroupMsg := { (default : GroupMsg) with id := 4, group := 1, repeat_ := 2, sent := n, at_ := 1000 }

/-- `GapsAndGroupsRunTheirCourse`. -/
theorem witness_gaps :
    (let h : SeqHeld := ⟨go 0x0601 [], 750, false, 760⟩
     let s := { up with txn := { up.txn with seqHeld := up.txn.seqHeld.put 0 [h] } }
     (s.txn.seqHeld.get 0).find? (fun h => decide (h.cyc + s.txn.seqWait ≤ cycOf s)) = some h ∧
       (s.txn.seqHeld.get 1).find? (fun h => decide (h.cyc + s.txn.seqWait ≤ cycOf s)) = none) ∧
    (let s := { net id with txn := { up.txn with groups := [groupMsg 1] } }
     s.txn.groups.find? (fun g => g.id == 4) = some (groupMsg 1) ∧ (groupMsg 1).compat = false ∧ (groupMsg 1).target = none ∧
       (groupMsg 1).sent < (groupMsg 1).repeat_ ∧ (groupMsg 1).at_ ≤ cycOf s ∧ (groupEngines s 1 (groupMsg 1).scope).all (txRoom s) = true) ∧
    (cycOf up < { groupMsg 1 with at_ := 1001 }.at_ ∧ (groupMsg 2).repeat_ ≤ (groupMsg 2).sent ∧ (groupMsg 2).out = 0 ∧
      (groupMsg 2).sched = false) := by decide +kernel

/-- A request with a sequence number `n`. -/
def seqReq (code n : Nat) (payload : List Word) : Req :=
  { go code payload with words := packW [(code, 16), (payload.length, 0)] :: 7#32 :: packW [(1, 28), (n, 16)] :: payload }

/-- `TransactionCommandsAct`. -/
theorem witness_txn :
    (Goes 0x0601 chkTxnSend [5, 1, packW [(0x80, 24)]] (net id) ∧ (go 0x0601 [5, 1, packW [(0x80, 24)]]).cseq = false) ∧
    Goes 0x0602 chkTxnLevel [5, packW [(1000, 16)], 0] (net id) ∧
    (let s := { net id with sch := sched.sch }
     Goes 0x0603 chkTxnGroupLevel [1, packW [(1000, 16)], 0] s ∧ orderMode s ≠ 1) ∧
    (let r := seqReq 0x0602 1 [5, packW [(1000, 16)], 0]
     Runs 0x0602 chkTxnLevel r (give r (net id)) ∧ r.cseq = true ∧ seqDist r (give r (net id)) ≠ 0) ∧
    Goes 0x0604 chkTxnCancel [4] up ∧ Goes 0x0605 chkTxnStatus [] up := by decide +kernel

/-- An image in the cache, loaded up to its last word or verified. -/
def image (ok : Bool) : Image := ⟨List.replicate 23 0, 96, ok⟩

/-- With that image in slot 1. -/
def imaged (ok : Bool) : State := { net id with lat := { (net id).lat with images := [(1, image ok)] } }

/-- `LatticeCommandsAnswer`, the records. -/
theorem witness_lat :
    Goes 0x0501 chkLatAdd [packW [(1, 24), (1, 20), (6, 0)], 0, 78, packW [(5, 29)], 0] (net id) ∧ Goes 0x0502 chkLatRemove [5] (net id) ∧
    (Goes 0x0504 chkLatUpdate [5, 0, 0, 0, 0, 0, 0, 0, 0, 0] (net id) ∧ (epOf (net id) 5).isSome = true) ∧
    Goes 0x0503 chkLatRead [5] (net id) ∧ (Goes 0x0505 chkLatFind [0, 0, 77] (net id) ∧ (findEp (go 0x0505 [0, 0, 77]) (net id)).isSome = true) ∧
    Goes 0x0508 chkLatRouteRead [packW [(1, 31)]] (net id) ∧ Goes 0x0508 chkLatRouteRead [5] (net id) ∧
    (let w := [packW [(1, 30), (60, 0)], 0#32, 0#32, 2#32, packW [(24, 14)]]
     Goes 0x0506 chkLatJoinPolicy w up ∧ fld ((go 0x0506 w).w 3) 31 30 = 1 ∧ fld ((go 0x0506 w).w 3) 15 0 ≠ 0) := by decide +kernel

/-- `LatticeCommandsAnswer`, images and checkpoints. -/
theorem witness_images :
    (Goes 0x0509 chkLatImageLoad [packW [(1, 26), (23, 0)], 0, 0] (imaged false) ∧
      imgLoaded (go 0x0509 [packW [(1, 26), (23, 0)], 0, 0]) (imaged false) = some (image false) ∧
      bit ((go 0x0509 [packW [(1, 26), (23, 0)], 0, 0]).w 4) 30 = false) ∧
    (Goes 0x050A chkLatImageSend [packW [(1, 26)], 4095, packW [(64, 16), (1, 8)], packW [(1, 16)]] (imaged true) ∧
      tget (imaged true).lat.images 1 = some (image true)) ∧
    Goes 0x050B chkLatCheckpoint [] up := by decide +kernel

/-- RFC 3394, 4.1: the wrapped key unwraps to the key data. -/
theorem test_keyUnwrap :
    kwUnwrap [0x00010203, 0x04050607, 0x08090A0B, 0x0C0D0E0F]
      [0x1FA68B0A, 0x8112B447, 0xAEF34BD8, 0xFB5A7B82, 0x9D3E8623, 0x71D2CFE5] =
      some [0x00112233, 0x44556677, 0x8899AABB, 0xCCDDEEFF] := by decide +kernel

/-- `LatticeCommandsAnswer`: a link key wrapped under the slot's key, without an overlap and with one. -/
theorem witness_keyLoad (w : Nat) (h : w = 0 ∨ w = 5) :
    let p := [packW [(1, 22), (5, 0)], packW [(w, 16)], 0x1FA68B0A, 0x8112B447, 0xAEF34BD8, 0xFB5A7B82, 0x9D3E8623, 0x71D2CFE5]
    Goes 0x0507 chkLatKeyLoad p (net id) ∧ fld ((go 0x0507 p).w 4) 31 16 = w ∧ tlRoom (net id).tl 0x07 2 = true := by
  obtain rfl | rfl := h <;> decide +kernel

/-- `RecordsAreKeptDurably`. -/
theorem witness_records :
    (let r := go 0x0507 [5, 0]
     let s := { due (.linkKeyLoad r) with lat := (net id).lat }
     Due ⟨4096 * 1000, 3, 0, 1, false, .linkKeyLoad r, true⟩ s ∧ epOf s (fld (r.w 3) 17 0) = some lantern ∧
       epOf (due (.linkKeyLoad r)) (fld (r.w 3) 17 0) = none) ∧
    Due ⟨4096 * 1000, 3, 0, 1, false, .linkKeyEnd 5, true⟩ { due (.linkKeyEnd 5) with lat := (net id).lat } ∧
    (up.lat.ckpt = none ∧ served up = true ∧ up.lat.ckptTick + up.lat.policy.ckptH * 3600 * 40000000 ≤ 24 * 3600 * 40000000 ∧
      up.clk.ticks < up.lat.ckptTick + up.lat.policy.ckptH * 3600 * 40000000) ∧
    (let c : Ckpt := ⟨some default, 0, 1000, []⟩
     { up with lat := { up.lat with ckpt := some c } }.lat.ckpt = some c ∧ c.org = some default) ∧
    (let x := { up.lat.ctr with openPage := [(5, 0, 1)], openCyc := 936 }
     x.openPage ≠ [] ∧ x.openCyc + 64 ≤ cycOf up ∧ x.pages.length < 255) ∧
    -- the write of a new ceiling begins 1,024 counters before the old one, and the next page confirms it
    (let s := { net (fun r => { r with outCtr := 3071 }) with lat :=
        { (net fun r => { r with outCtr := 3071 }).lat with ctr := { up.lat.ctr with ceilings := [(5, 4096)] } } }
     (epOf s 5).map (fun r => r.outCtr) = some 3071 ∧ ceilingOf s 5 = 4096 ∧ ceilingOf s 5 ≤ 3071 + 1025 ∧ tget s.lat.ctr.pend 5 = none ∧
       (takeOut 5 s).lat.ctr.pend = [(5, 8192)]) ∧
    (let s := net fun r => { r with st := .removing }
     Tbl.rising s.lat.recs = true ∧ s.lat.recs.length = 1 ∧ (endRemovals s).lat.recs = []) ∧
    (∃ a ∈ (startAct 8 0 up).bal.running, a.act = 8) ∧ (some 0 = some 0 ∧ 0 ≤ up.clk.ticks ∧ up.lat.policy.permit = 1) ∧
    (let x : ImgSend := { (default : ImgSend) with slot := 1, phase := .repair 0 [], at_ := 1001 }
     let s := { imaged true with lat := { (imaged true).lat with sends := [x] } }
     s.lat.sends.find? (fun x => x.org.id == 0) = some x ∧ tget s.lat.images 1 = some (image true) ∧ s.upd.windowOpen = false ∧
       imgBusy s x = false ∧ cycOf s < x.at_) := by decide +kernel

/-! ### Schedules and Chord -/

/-- `TheScheduleWinnerIsTheFirstHighest`: a group with an active entry and one without. -/
theorem witness_winner :
    (let s := { sched with sch := { sched.sch with entries := [(0, ⟨[0x80800400, packW [(3, 30), (3, 28), (127, 21)], 0, 2000, 0, 0, 0, 0], true⟩)] } }
     (winnerAt s 1 1000).isSome = true) ∧
    winnerAt up 1 1000 = none ∧ (7 < 8 ∧ ¬ 8 < 8 ∧ 8 ≤ 8) := by decide +kernel

/-- A corridor of 100 dm both ways. -/
def corridor : Corridor :=
  { (default : Corridor) with owner := 1, enable := true, dirMask := 3, length := 100, vDefault := 100, vMin := 1, vMax := 1000, ahead := 10, behind := 10 }

/-- With that corridor. -/
def withCorridor : State := { net id with chd := { up.chd with corridors := [(1, corridor)] } }

/-- `SchedulesAndChordAct`: the engines. -/
theorem witness_engines :
    (let s := { comm with sch := { comm.sch with run := .table } }
     s.upd.windowOpen = false ∧ served s = true ∧ s.tt.running = true ∧ schWant s = .idle ∧ s.sch.run = .table ∧
       tlAhead s (cycOf s * 4096) 4 = false) ∧
    tlAhead (due (.waveEnd 0)) (cycOf (due (.waveEnd 0)) * 4096) 4 = true ∧
    (let s := { sched with sch := { sched.sch with run := .table, lastCyc := 999 } }
     schWant s = .table ∧ s.sch.run = .table ∧ s.sch.lastCyc < cycOf s ∧ tlAhead s (cycOf s * 4096) 4 = false) ∧
    (let s := { sched with sch := { sched.sch with run := .table, lastCyc := 1000 } }
     schWant s = s.sch.run ∧ cycOf s ≤ s.sch.lastCyc) ∧
    (up.pwr.mode ≠ .commission ∧ up.chd.every ∣ cycOf up ∧ cycOf up ≠ up.chd.lastEval ∧ up.tt.running = true ∧ up.chd.issued = []) ∧
    (comm.pwr.mode = .commission ∧ { up.chd with waves := [(0, default)] }.waves ≠ []) ∧
    Due ⟨4096 * 1000, 3, 0, 1, false, .waveEnd 0, true⟩ (due (.waveEnd 0)) := by decide +kernel

/-- `SchedulesAndChordAct`: the SCH commands. -/
theorem witness_sch :
    (let s := { net id with sch := sched.sch }
     Goes 0x0702 chkSchGroupMembers [1, 1, 5] s ∧ namedEps (go 0x0702 [1, 1, 5]) = [5] ∧ (epOf s 5).isSome = true ∧
       (newSlots (go 0x0702 [1, 1, 5]) lantern.groups).isOk = true) ∧
    Goes 0x0703 chkSchGroupRead [4095, 0] sched ∧ (Goes 0x0706 chkSchEntryRead [1] sched ∧ tget sched.sch.entries 1 = none) ∧
    (Goes 0x0706 chkSchEntryRead [0] sched ∧ (tget sched.sch.entries 0).isSome = true) ∧
    Goes 0x070A chkSchEvaluate [1] sched ∧ Goes 0x070A chkSchEvaluate [packW [(2, 30)]] sched ∧ Goes 0x070A chkSchEvaluate [packW [(3, 30)]] sched := by
  decide +kernel

/-- An image of a corridor with one sensor and one Lantern, of 12 words. -/
def corridorImage : List Word := corridorWords { corridor with sensors := [⟨false, 6, 0⟩], lanterns := [⟨5, 99⟩] }

/-- `SchedulesAndChordAct`: the CHD commands. -/
theorem witness_chd :
    Goes 0x0801 chkChdCorridorSet [packW [(1, 31)], packW [(0, 16), (12, 0)], 0] up ∧
    (let s := { net id with lat := { (net id).lat with recs := [(5, lantern), (6, { lantern with cls := 2, eui := 78 })] } }
     Goes 0x0801 chkChdCorridorSet (packW [(3, 30)] :: 12#32 :: corridorImage) s ∧
       bit ((go 0x0801 (packW [(3, 30)] :: 12#32 :: corridorImage)).w 3) 30 = true ∧ Room 0x0A s) ∧
    Goes 0x0803 chkChdCorridorRead [1, 0] withCorridor ∧
    (corridorOf withCorridor 1).isSome = true ∧ (Goes 0x0805 chkChdWaves [1] up ∧ up.chd.waves.all (fun w => w.2.corridor != 1) = true) ∧
    (Goes 0x0806 chkChdInject [packW [(1, 28), (99, 10), (1, 0)], 0] withCorridor ∧
      dirsOf corridor (fld ((go 0x0806 [packW [(1, 28), (99, 10), (1, 0)], 0]).w 3) 29 28) false = [false]) := by decide +kernel

/-! ### Metering -/

/-- Feeder 0 runs, with an interval open; `x` changes metering further. -/
def metered (x : Meter → Meter) : State :=
  { up with
    clk := { up.clk with ticks := 36000000000 }
    mtr := x { up.mtr with
      cyc := some 999
      feeders := updAt up.mtr.feeders 0 fun f => { f with cfg := { f.cfg with enable := true, v := [0, 1, 2], i := [3, 4, 5] }
                                                          interval := some { (default : Interval) with intMin := 15 } }
      inputs := List.replicate 32 ⟨true, false, false, 0, false, 0, 0⟩ } }

/-- A calibration. -/
def calRun (mode done : Nat) : CalRun := { (default : CalRun) with mode := mode, phase := 1, n := 50, done := done }

/-- `EnergyIsNeitherNettedNorLost`. -/
theorem witness_energy :
    0 < (metered id).mtr.feeders.length ∧ initPulse.owed + (initPulse.acc + 0 * initPulse.const) / (10 ^ 9 * mtrMicro) < 2 ^ 32 ∧
    (let s := metered fun m => { m with feeders := updAt m.feeders 0 fun f => { f with closeFlags := 1 } }
     closeDue s 0 = some false ∧ (feeder s 0).interval.isSome = true ∧ (feeder s 0).cfg.enable = true) := by decide +kernel

/-- `MeteringKeepsItsTimes`: cycles, inputs and intervals. -/
theorem witness_metering :
    (mtrRuns (metered id) = true ∧ (metered id).tt.running = true ∧ (metered id).mtr.cyc = some 999 ∧ 999 < cycOf (metered id)) ∧
    (cycOf (metered fun m => { m with cyc := some 1000 }) ≤ 1000) ∧
    (((metered id).mtr.inputs.getD 0 default).enable = true ∧ 9500 < 9501 ∧ servedBy (metered id) 0 = [(0, 0)]) ∧
    (256 ≤ 256 ∧ (metered id).mtr.faults.testBit 31 = false ∧ 255 < 256) ∧
    (let s := { up with mtr := { up.mtr with cut := [[1]] } }
     s.upd.windowOpen = false ∧ windowAlive s = true ∧ (∀ f < 4, closeDue s f = none) ∧ s.mtr.cut ≠ [] ∧
       tlAhead s (s.mtr.cyc.getD 0 * 4096) 4 = false) ∧
    (let s := { due (.waveEnd 0) with mtr := { up.mtr with cyc := some 1000 } }
     tlAhead s (s.mtr.cyc.getD 0 * 4096) 4 = true) ∧
    ((∀ f < 4, closeDue up f = none) ∧ up.mtr.cut = []) := by decide +kernel

/-- `MeteringKeepsItsTimes`: saves, pulses and calibrations. -/
theorem witness_saves :
    (let s := metered id
     mtrRuns s = true ∧ s.mtr.cyc ≠ none ∧ s.upd.windowOpen = false ∧ s.mtr.lastSave + s.mtr.global.saveMin * 60 * 40000000 ≤ s.clk.ticks) ∧
    (let s := metered fun m => { m with retryAt := some 36000000000 }
     s.mtr.retryAt = some 36000000000 ∧ 36000000000 ≤ s.clk.ticks ∧ 2 < 3) ∧ (metered id).mtr.retryAt = none ∧
    (let s := metered fun m => { m with pulses := List.replicate 8 { initPulse with enable := true, owed := 1, lowTo := 36000000000 } }
     7 < s.mtr.pulses.length ∧ (s.mtr.pulses.getD 7 default).enable = true ∧ 1 ≤ (s.mtr.pulses.getD 7 default).owed ∧
       (s.mtr.pulses.getD 7 default).lowTo ≤ s.clk.ticks) ∧
    (up.mtr.pulses.getD 0 default).owed = 0 ∧
    (let s := { due (.calApply 0) with mtr := { up.mtr with cyc := some 1000, feeders := updAt up.mtr.feeders 0 fun f => { f with cal := some (calRun 0 0) } } }
     s.mtr.cyc = some (cycOf s) ∧ Due ⟨4096 * 1000, 3, 0, 1, false, .calApply 0, true⟩ s ∧ (feeder s 0).cal = some (calRun 0 0)) ∧
    ((calRun 1 50).mode = 1 ∧ (calRun 1 50).n ≤ (calRun 1 50).done ∧ (calRun 1 49).done < (calRun 1 49).n) := by decide +kernel

/-- `MeteringCommandsAnswer`. -/
theorem witness_mtr :
    Goes 0x0903 chkMtrRead [0] (metered id) ∧ Goes 0x0904 chkMtrIntervals [15, 0] (metered id) ∧ Goes 0x0907 chkMtrBalance [] (metered id) ∧
    (Goes 0x0906 chkMtrCalibrate [packW [(1, 30), (1, 26)], 30000, 0] (metered id) ∧ blockers up.bal 5 = []) ∧
    (Goes 0x0906 chkMtrCalibrate [packW [(2, 30), (3, 26)], 0, 0] (metered id) ∧ Room 0x0B (metered id)) := by decide +kernel

/-! ### Sign drive -/

/-- String 0 enabled, function 1 of it alone; `x` changes the sign drive further. -/
def sign (x : Sign → Sign) : State :=
  { up with sgn := x { up.sgn with strings := updAt up.sgn.strings 0 (fun _ => ⟨true, 100, 1000, 0, 0⟩)
                                   sinks := updAt up.sgn.sinks 7 (fun _ => ⟨true, 20, 0⟩), fns := [(1, ⟨1, 0, 0, 0, 15⟩)]
                                   matrix := { up.sgn.matrix with enable := true, len := 16, div := 2, refresh := 50 } } }

/-- A period of a string that shows OPEN, and one of a sink that shows SHORT. -/
def openPeriod : StringPeriod := ⟨16000, 0, true, 0, 0⟩

/-- `AMemberFaultFailsEveryFunction`. -/
theorem witness_faults :
    ((sign id).sgn.fns = [(1, ⟨1, 0, 0, 0, 15⟩)] ∧ (1 : Nat).testBit 0 = true ∧ watched (sign id) 0 = true ∧
      threeOf (stringShort ((sign id).sgn.strings.getD 0 default)) (List.replicate 3 openPeriod) = false ∧
      threeOf (stringOpen ((sign id).sgn.strings.getD 0 default)) (List.replicate 3 openPeriod) = true) ∧
    threeOf (stringShort ((sign id).sgn.strings.getD 0 default)) (List.replicate 3 ⟨16000, 0, false, 1000000, 0⟩) = true ∧
    watched (sign id) 1 = false ∧ (watched (sign id) 23 = true ∧
      threeOf (fun p : SinkPeriod => decide (0 < p.onNs) && decide (6000 < p.padMv)) (List.replicate 3 ⟨1, 0, 6001⟩) = true ∧
      threeOf (fun p : SinkPeriod => decide (0 < p.onNs) && decide (6000 < p.padMv)) (List.replicate 3 ⟨16000, 99, 499⟩) = false ∧
      threeOf (sinkOpen ((sign id).sgn.sinks.getD 7 default)) (List.replicate 3 ⟨16000, 99, 499⟩) = true) ∧
    fnFailed (memberFault 0 false (sign id)).sgn 1 = true := by decide +kernel

/-- `SignEventsKeepTheirTimes`: cycles, records, levels and flips. -/
theorem witness_signEvents :
    (sgnUp (sign id) = true ∧ (sign id).sgn.lastCyc = none ∧ (∀ c, (some 999 : Option Nat) = some c → c < cycOf up) ∧ cycOf up ≤ 1000) ∧
    (let s := memberFault 0 false (sign id)
     s.sgn.dirty.isSome = true ∧ fwRuns s = true ∧ (norWrite 5 0 0 s).2 = true ∧ (norWrite 5 9 9 s).2 = false) ∧
    Due ⟨4096 * 1000, 3, 0, 1, false, .sgnLevel 1 500, true⟩ (due (.sgnLevel 1 500)) ∧
    (let s := { due .sgnFlip with sgn := { up.sgn with flip := some ⟨0, 1000, false, false⟩ } }
     Due ⟨4096 * 1000, 3, 0, 1, false, .sgnFlip, true⟩ s ∧ s.sgn.flip = some ⟨0, 1000, false, false⟩ ∧ s.sgn.shiftEnd = none) ∧
    (let s := sign fun g => { g with flip := some ⟨1, 1000, false, false⟩ }
     s.dev.variant = .a ∧ syncQualified s ⟨true, 1000⟩ = true ∧ syncQualified s ⟨true, 999⟩ = false ∧ 1000 * 4096 ≤ s.tt.tt) ∧
    (let s := sign fun g => { g with flip := some ⟨1, 950, false, false⟩ }
     950 + s.sgn.matrix.syncTimeout ≤ cycOf s ∧ cycOf s < 951 + s.sgn.matrix.syncTimeout) := by decide +kernel

/-- `SignEventsKeepTheirTimes`: the shift, the refresh, the sensor and derating. -/
theorem witness_signTimes :
    (let s := sign fun g => { g with shiftEnd := some 0, flip := some ⟨1, 1000, true, false⟩ }
     s.sgn.shiftEnd = some 0 ∧ 0 ≤ s.clk.ticks ∧ s.sgn.flip = some ⟨1, 1000, true, false⟩) ∧
    (let s := sign fun g => { g with lastRefresh := 950 }
     sgnUp s = true ∧ s.sgn.matrix.enable = true ∧ s.sgn.matrix.refresh ≠ 0 ∧ s.sgn.flip = none ∧
       s.sgn.lastRefresh + s.sgn.matrix.refresh ≤ cycOf s) ∧
    (let s := sign fun g => { g with sensor := { g.sensor with enable := true }, lastRead := 975, nackRun := 1, sensorInit := some (1, 2) }
     s.sgn.sensor.enable = true ∧ s.sgn.sensorFault = false ∧ s.sgn.lastRead + s.sgn.sensor.cyc ≤ cycOf s ∧ s.sgn.nackRun < 2 ∧ 2 ≤ 2 ∧
       s.sgn.sensorInit.getD (s.sgn.sensor.initReg, s.sgn.sensor.initVal) = (1, 2)) ∧
    (let s := { sign (fun g => { g with sensor := { g.sensor with enable := true }, sensorFault := true }) with clk := { up.clk with ticks := 40000000 } }
     s.sgn.sensorFault = true ∧ s.sgn.sensorTick + 40000000 ≤ s.clk.ticks) ∧
    (1 < 2 ∧ 1 < up.sgn.ntc.length ∧ up.dev.variant = .a ∧ windowAlive up = true ∧ ntcValid 0 = false ∧
      (up.sgn.ntc.getD 1 default).cfg.enable = false) ∧
    (served up = true ∧ { up.sgn with lastDerate := 936 }.lastDerate + 64 ≤ cycOf up ∧ cycOf up < { up.sgn with lastDerate := 937 }.lastDerate + 64) := by
  decide +kernel

/-- A frame of 16 octets. -/
def signFrame : List Word := [1, 2, 3, 4]

/-- `SignCommandsAct`. -/
theorem witness_sgn :
    (let w := packW [(3, 30)] :: crcOctets (wordOctets signFrame) :: signFrame
     Goes 0x0A03 chkSgnFrameLoad w (sign id) ∧ bit ((go 0x0A03 w).w 3) 30 = true) ∧
    (Goes 0x0A03 chkSgnFrameLoad [packW [(1, 31)], 0, 1] (sign id) ∧ bit ((go 0x0A03 [packW [(1, 31)], 0, 1]).w 3) 30 = false) ∧
    (let s := sign fun g => { g with ready := true }
     (Goes 0x0A04 chkSgnFlip [packW [(1, 30)]] s ∧ fld ((go 0x0A04 [packW [(1, 30)]]).w 3) 31 30 = 1) ∧
       Goes 0x0A04 chkSgnFlip [0] s ∧ fld ((go 0x0A04 [0]).w 3) 31 30 ≠ 1 ∧ Room 0x0C s) ∧
    (Goes 0x0A05 chkSgnLevel [packW [(1, 27), (1000, 0)]] (sign id) ∧ (List.range 25).all (fun k => !(((tget (sign id).sgn.fns 1).getD default).members.testBit k &&
      outThermal (sign id).sgn k)) = true) ∧
    Goes 0x0A06 chkSgnStatus [] (sign id) := by decide +kernel

/-! ### Cabinet I/O and CAN -/

/-- Input 0 valid and active since tick 0. -/
def dins (x : Din → Din) : State :=
  { up with io := { up.io with sampleIdx := some 63999
                               din := List.replicate 16 (x { initDin with valid := true, level := true, cfg := { initDinCfg with stuckS := 1 } }) } }

/-- An entry of DOUT command 0, or its return on output 7, due. -/
def dout (k : TlKind) : State := { due k with io := { up.io with douts := [(0, ⟨0x81, 0x80, 0, 0x80, 0⟩)] } }

/-- `CabinetInputsAndOutputsFollowTheirRules`: the inputs. -/
theorem witness_inputs :
    (windowAlive (dins id) = true ∧ (dins id).tt.running = true ∧ (dins id).io.sampleIdx = some 63999 ∧ 63999 < (dins id).tt.tt / 64 ∧
      15 < (dins id).io.din.length ∧ (dinOf (dins id) 0).cfg.enable = true) ∧
    ((dins id).tt.tt / 64 ≤ 64000) ∧
    ((dinOf (dins id) 0).valid = true ∧ (dinOf (dins id) 0).level = true ∧ (dinOf (dins id) 0).stuck = false ∧
      (dinOf (dins id) 0).cfg.stuckS ≠ 0 ∧ (dinOf (dins id) 0).activeTick + (dinOf (dins id) 0).cfg.stuckS * 40000000 ≤ 40000000 ∧
      (dins id).clk.ticks < (dinOf (dins id) 0).activeTick + (dinOf (dins id) 0).cfg.stuckS * 40000000) ∧
    (let s := { dins id with tt := { up.tt with tt := 4096 * 3000 } }
     (dinOf s 0).chatK < cycOf s / Nat.max (dinOf s 0).cfg.chatWin 1) := by decide +kernel

/-- `CabinetInputsAndOutputsFollowTheirRules`: the outputs and the commands. -/
theorem witness_outputs :
    (7 < up.io.dout.length ∧ (doutOf up 7).fault = false) ∧ (doutOf { up with io := { up.io with dout := [{ initDout with fault := true }] } } 0).fault = true ∧
    (Due ⟨4096 * 1000, 3, 0, 1, false, .dout 0, true⟩ (dout (.dout 0)) ∧ (tget (dout (.dout 0)).io.douts 0).isSome = true ∧
      heldOff (dout (.dout 0)) 7 = false ∧ withdrawn (dout (.dout 0)) 0x0F = false) ∧
    (Due ⟨4096 * 1000, 3, 0, 1, false, .doutReturn 0 7, true⟩ (dout (.doutReturn 0 7)) ∧ tget (due (.doutReturn 0 7)).io.douts 0 = none) ∧
    Goes 0x1002 chkIoDinRead [] up ∧ Goes 0x1005 chkIoStatus [] up ∧
    (Goes 0x1003 chkIoDoutSet [packW [(0xFF, 24), (0x80, 16), (1, 0)]] up ∧ tlRoom up.tl 0x0F (0 + popCount 8 0xFF) = true) ∧
    (let r := goAt 0x1003 [packW [(1, 24), (1, 16)]]
     Runs 0x1003 chkIoDoutSet r (give r up) ∧ r.aac = true ∧ fld (r.w 3) 15 0 = 0 ∧ tlRoom up.tl 0x0F 1 = true) := by decide +kernel

/-- CAN0 in an operating mode, buffer 63 sending frame `0x7FF`, buffer 1 receiving everything; `x` changes the port further. -/
def can (mode : Nat) (x : CanPort → CanPort) : State :=
  { up with can := updAt up.can 0 fun c => x { c with
      cfg := { c.cfg with opmode := mode }, bus := .on
      bufs := updAt (updAt c.bufs 63 fun b => { b with kind := 2, tx := some { (default : CanTx) with id := 0x7FF } }) 1
        fun b => { b with kind := 1, mask := 0 } } }

/-- A data frame. -/
def canFrame : CanStored := { (default : CanStored) with id := 5 }

/-- `CanPortsFollowTheirRules`: reception. -/
theorem witness_canReceive :
    (0 < (can 1 id).can.length ∧ canMode (can 1 id) 0 ≠ 0 ∧ canMode (can 1 id) 0 ≠ 3 ∧ (canOf (can 1 id) 0).bus = .on ∧ canFrame.fdf = false) ∧
    (let s := can 1 fun c => { c with cfg := { c.cfg with fdEn := false } }
     canMode s 0 = 1 ∧ (canOf s 0).bus = .on ∧ { canFrame with fdf := true }.fdf = true ∧ (canOf s 0).cfg.fdEn = false) ∧
    (canOf (can 1 fun c => { c with cfg := { c.cfg with fdEn := true } }) 0).cfg.fdEn = true ∧
    (((List.range 64).filter fun b => (bufOf (can 1 id) 0 b).accepts canFrame).find? (fun b => (bufOf (can 1 id) 0 b).free) = some 1 ∧
      (bufOf (can 1 id) 0 1).ntf = false) ∧
    (let s := can 1 fun c => { c with bufs := updAt c.bufs 1 fun b => { b with locked := true, frame := some canFrame } }
     ((List.range 64).filter fun b => (bufOf s 0 b).accepts canFrame).find? (fun b => (bufOf s 0 b).free) = none ∧
       ((List.range 64).filter fun b => (bufOf s 0 b).accepts canFrame).head? = some 1) ∧
    (List.range 64).all (fun b => !(bufOf up 0 b).accepts canFrame) = true ∧ canMode up 1 = 0 := by decide +kernel

/-- `CanPortsFollowTheirRules`: transmission, recovery and detection. -/
theorem witness_canSend :
    (offered (canOf (can 1 id) 0) 0 = some 63 ∧ ((bufOf (can 1 id) 0 63).tx.map (·.cancels)) = some [] ∧
      (canOf (can 1 fun c => { c with tec := 247 }) 0).tec + 8 ≤ 255 ∧ 255 < (canOf (can 1 fun c => { c with tec := 248 }) 0).tec + 8) ∧
    offered (canOf up 0) 0 = none ∧ (canOf (can 1 fun c => { c with bus := .recovering }) 0).bus = .recovering ∧ (canOf (can 1 id) 0).bus ≠ .recovering ∧
    (let s := { can 3 id with clk := { up.clk with ticks := 500 * 40000 } }
     canMode s 0 = 3 ∧ (canOf s 0).detect.nom = none ∧ (canOf s 0).detect.since + (canOf s 0).cfg.dwell * 40000 ≤ s.clk.ticks) ∧
    (let s := { can 3 (fun c => { c with detect := { c.detect with nom := some c.cfg.nom } }) with clk := { up.clk with ticks := 2000 * 40000 } }
     (canOf s 0).detect.nom ≠ none ∧ (canOf s 0).detect.found = false ∧
       (canOf s 0).detect.since + 4 * (canOf s 0).cfg.dwell * 40000 ≤ s.clk.ticks) := by decide +kernel

/-- `CanPortsFollowTheirRules`: the commands. -/
theorem witness_canCommands :
    (let w := [packW [(62, 25)], 0x7FF#32]
     Goes 0x0B03 chkCanSend w (can 1 fun c => { c with bufs := updAt c.bufs 62 fun b => { b with kind := 2 } }) ∧ canPortOf (go 0x0B03 w) = 0 ∧
       canBufOf (go 0x0B03 w) < (canOf (can 1 id) 0).bufs.length) ∧
    (Goes 0x0B04 chkCanCancel [packW [(63, 25)]] (can 1 id) ∧ (bufOf (can 1 id) 0 63).tx.isSome = true) ∧
    (let s := can 1 fun c => { c with bufs := updAt c.bufs 1 fun b => { b with frame := some canFrame } }
     Goes 0x0B05 chkCanRead [packW [(1, 25)]] s ∧ (bufOf s 0 1).frame = some canFrame) ∧
    Goes 0x0B06 chkCanStatus [0] up ∧ Goes 0x0B07 chkCanRecover [0] (can 1 fun c => { c with bus := .off }) := by decide +kernel

/-! ### Recorder -/

/-- The recorder with a record in the log and one in the open page. -/
def logged (x : Recorder → Recorder) : State :=
  { up with log := x { up.log with log := [⟨1, 3, [0x101]⟩], page := [⟨2, 3, [0x101]⟩], pageCyc := 936, cnt := { up.log.cnt with nextSeq := 3 } } }

/-- `RecordsAreNumberedAndKeptWithinCapacity`. -/
theorem witness_records_kept :
    octetsOf (logged id).log.log ≤ logCap ∧ octetsOf (logged id).log.log + octets ⟨9, 2, [0]⟩ ≤ logCap ∧
    (2 < { up.log with minSev := 3 }.minSev ∧ up.log.minSev ≤ 0) ∧ appendsOk (logged id) = true := by decide +kernel

/-- `TheRecorderAppendsAndAnswers`. -/
theorem witness_recorder :
    appendsOk (bootAt .restore) = true ∧ appendsOk (logged fun l => { l with started := false }) = false ∧
    ((logged id).log.page ≠ [] ∧ (logged id).log.pageCyc + 64 ≤ cycOf (logged id) ∧ (logged id).log.freePages ≠ 0 ∧
      (logged fun l => { l with freePages := 0 }).log.freePages = 0 ∧ (logged id).mem.nandSpare ≠ 0 ∧
      { (logged id) with mem := { up.mem with nandSpare := 0 } }.mem.nandSpare = 0) ∧
    (let s := logged fun l => { l with freeze := up.log.freeze.put 1 (some ⟨0, 1, 2⟩) }
     s.log.freeze.get 1 = some ⟨0, 1, 2⟩ ∧ 0 ≤ s.clk.ticks ∧ s.clk.ticks < 1) ∧
    Goes 0x0C01 chkLogStatus [] up ∧ (Goes 0x0C02 chkLogRead [0xFF, 0, 0xFFFFFF00] up ∧ up.log.log = []) ∧
    (Goes 0x0C02 chkLogRead [0xFF, 1, 0xFFFFFF00] (logged id) ∧ (logged id).log.log ≠ []) ∧
    (Goes 0x0C03 chkLogFreeze [3600] up ∧ blockers up.bal 7 = []) ∧
    (let s := logged fun l => { l with freeze := up.log.freeze.put 0 (some ⟨5, 1, 2⟩) }
     Goes 0x0C04 chkLogThaw [] s ∧ (s.log.freeze.get 0).isSome = true) ∧
    Goes 0x0C06 chkLogAppend [packW [(7, 21), (0x80, 0)]] up := by decide +kernel

/-! ### Keys -/

/-- A transport key, exportable group key and a slot in a state with a shadow. -/
def keyed (st : SlotSt) (x : KeySlot → KeySlot) : State :=
  { up with key := { up.key with slots := [(1, x { kek with st := st, shadow := some [5, 6, 7, 8] }),
      (2, { kek with usage := 4, alg := 1, active := some (List.replicate 8 3) })] } }

/-- A pending commit. -/
def keyPend (w : Nat) : KeyPend := ⟨1000, 1000, 0, w, none⟩

/-- With an entry of the timeline queue that is due. -/
def keyDue (k : TlKind) (s : State) : State := { s with tl := (due k).tl }

/-- `ACommitMovesTheShadow`. -/
theorem witness_commit :
    (let s := keyDue (.keyCommit 1) (keyed .pending fun x => { x with pend := some (keyPend 36000) })
     Due ⟨4096 * 1000, 3, 0, 1, false, .keyCommit 1, true⟩ s ∧ (keySlot s 1).pend = some (keyPend 36000) ∧ (keySlot s 1).active ≠ none ∧
       0 < (keyPend 36000).w ∧ s.key.everCommitted = false) ∧
    (keySlot (keyed .pending fun x => { x with active := none }) 1).active = none ∧ (keyPend 0).w = 0 ∧
    (keySlot (keyed .active id) 1).pend = none ∧
    (let s := keyDue (.keyOverlapEnd 1) (keyed .overlap id)
     Due ⟨4096 * 1000, 3, 0, 1, false, .keyOverlapEnd 1, true⟩ s ∧ ∀ w ∈ s.key.rewraps, w.slot ≠ 1) ∧
    (∃ w ∈ ([⟨1, 0, false⟩] : List Rewrap), w.slot = 1) := by decide +kernel

/-- `KeyCommandsAct`: generation, import, staging and proof. -/
theorem witness_keyIn :
    Goes 0x0D01 chkKeyGenerate [packW [(5, 28), (3, 0)]] up ∧
    (let g : Generating := ⟨3, default, 0⟩
     { up.key with gens := [g] }.gens = g :: [] ∧ g.slot ≠ 0 ∧ (norWrite 2 0 0 { up with key := { up.key with gens := [] } }).2 = true) ∧
    (let w := packW [(0, 30), (3, 0)] :: packW [(2, 28)] :: 1#32 :: 0#32 :: (List.replicate 16 0 ++ [1, 2, 3, 4])
     Goes 0x0D02 (chkPutKey 0x0D02 false) w comm ∧ reqSlot (go 0x0D02 w) ≠ 0 ∧ (norWrite 2 0 0 comm).2 = true ∧ (norWrite 2 9 9 comm).2 = false) ∧
    (let w := packW [(0, 30), (1, 0)] :: 0#32 :: 0#32 :: 0#32 :: (List.replicate 16 0 ++ [1, 2, 3, 4])
     Goes 0x0D03 (chkPutKey 0x0D03 true) w { keyed .active id with pwr := comm.pwr }) ∧
    Goes 0x0D04 chkKeyVerify [1, 0, 0, 0, 0, 0, 0] (keyed .staged fun x => { x with vfail := 2 }) ∧
    2 ≤ (keySlot (keyed .staged fun x => { x with vfail := 2 }) 1).vfail := by decide +kernel

/-- `KeyCommandsAct`: commit, attestation, export, destruction and worlds. -/
theorem witness_keyOut :
    (Goes 0x0D05 chkKeyCommit [1, 36000] (keyed .verified id) ∧ tlRoom (keyed .verified id).tl 0x11 2 = true ∧ blockers up.bal 3 = [] ∧
      (norWrite 2 0 0 (startAct 3 1 (keyed .verified id))).2 = true) ∧
    Goes 0x0D06 chkKeyAttest (1 :: List.replicate 8 0) (keyed .active id) ∧
    (Goes 0x0D07 chkKeyInfo [1] (keyed .active id) ∧ bit ((go 0x0D07 [1]).w 3) 31 = false) ∧
    (Goes 0x0D07 chkKeyInfo [packW [(1, 31), (2, 10), (1, 0)]] (keyed .active fun x => { x with exportable := true }) ∧
      bit ((go 0x0D07 [packW [(1, 31), (2, 10), (1, 0)]]).w 3) 31 = true) ∧
    (Goes 0x0D08 chkKeyDestroy [packW [(1, 31), (1, 0)]] (keyed .active id) ∧ bit ((go 0x0D08 [packW [(1, 31), (1, 0)]]).w 3) 31 = true) ∧
    (Goes 0x0D08 chkKeyDestroy [1] (keyed .staged id) ∧ bit ((go 0x0D08 [1]).w 3) 31 = false) ∧
    (Goes 0x0D09 chkKeyWorldSet [packW [(1, 31)], 2, 2] comm ∧ (go 0x0D09 [packW [(1, 31)], 2, 2]).w 4 ≠ 0) ∧
    (Goes 0x0D09 chkKeyWorldSet [packW [(1, 31)], 0, 0] up ∧ (go 0x0D09 [packW [(1, 31)], 0, 0]).w 4 = 0) ∧
    (Goes 0x0D09 chkKeyWorldSet [0, 0, 0] up ∧ bit ((go 0x0D09 [0, 0, 0]).w 3) 31 = false) := by decide +kernel

/-- `KeyCommandsAct`: rewraps and tamper. -/
theorem witness_tamper :
    ([(⟨1, 0, false⟩ : Rewrap)] = ⟨1, 0, false⟩ :: [] ∧ up.upd.windowOpen = false ∧ served up = true ∧
      (net id).lat.recs.filter (fun r => r.2.kekSlot == 1 && (r.2.keyCur.isSome || r.2.keyPrev.isSome)) = [(5, lantern)]) ∧
    (up.key.rewraps = [] ∧ up.clk.xtal < up.rtc.tampTick + 1024) ∧
    (let s := { up with clk := { up.clk with xtal := 1024 }, rtc := { up.rtc with tampCfg := 0x10 } }
     s.pwr.mode ≠ .shelf ∧ s.rtc.tampTick + 1024 ≤ s.clk.xtal ∧ tampState s.rtc.tampCfg (b2n true + 2 * b2n true) 0 = false ∧
       tampState s.rtc.tampCfg (b2n true + 2 * b2n false) 1 = false ∧ tampState s.rtc.tampCfg (b2n true + 2 * b2n true) 1 = true ∧
       s.rtc.tampRun.2 + 1 = tampFilt s.rtc.tampCfg 1 ∧ powered s = true ∧ powered { s with pwr := State.reset.pwr } = false) := by decide +kernel

/-! ### Memory integrity -/

/-- A read of a memory outside DRAM with this verdict. -/
def readOf (v : Verdict) : MemRead := ⟨0, 0x1F, 0, 0, 0, v, false, .clean⟩

/-- A flip armed in DRAM at the module's start, so many ticks ago. -/
def flipped (ago : Nat) : State :=
  { up with clk := { up.clk with ticks := ago }, mem := { up.mem with flip := some ⟨1, 0, 0, 0, 0, 0, 0⟩ } }

/-- A repair in progress: a row of the channel engines' context. -/
def repairing : State := { up with mem := { up.mem with runs := [⟨(go 0x0E04 []).origin, 5, 0, 0, 0⟩] } }

/-- So many DRAM pages retired, from page 0 on. -/
def retiredTo (n : Nat) : State := { up with mem := { up.mem with retired := (List.range n).map fun k => ⟨k, 0, true⟩ } }

/-- `MemoryErrorsAreCountedAndContained`: reads, the patrol and flips. -/
theorem witness_memReads :
    (memRuns up 1 = true ∧ memRuns up 0 = true ∧ memPresent up.dev.variant 1 = true ∧ 1 < up.mem.mems.length ∧ up.mem.flip = none) ∧
    ((readOf .clean).v = .clean ∧ (readOf (.corrected 3)).v = .corrected 3 ∧ (readOf .uncorrectable).v = .uncorrectable) ∧
    ueReset 1 0x1F = some (false, 0x0C) ∧ (memPresent up.dev.variant 5 = true ∧ ueReset 5 0x1F = none) ∧
    (up.mem.passAt + 10 < passWords up ∧ 0 < passWords up ∧ passWords up ≤ up.mem.passAt + passWords up) ∧
    (let s := { up with mem := { up.mem with high := true } }
     s.mem.high = true ∧ s.clk.ticks < s.mem.highSince + 600 * 40000000) ∧
    (up.mem.high = false ∧ up.mem.highSince + 600 * 40000000 ≤ (flipped 24000000000).clk.ticks) ∧
    (flipped 39999999).clk.ticks < 0 + 40000000 ∧ 0 + 40000000 ≤ (flipped 40000000).clk.ticks ∧
    (memWithdrawn (flipped 2440000000) 0 = false ∧ 0 ≤ 40000000 ∧ 40000000 ≤ 0 + 40000000 ∧
      40000000 + 60 * 40000000 ≤ (flipped 2440000000).clk.ticks) := by decide +kernel

/-- `MemoryErrorsAreCountedAndContained`: retirement, repairs and reclaim. -/
theorem witness_memUpkeep :
    (∃ r ∈ (retiredTo 1).mem.retired, r.page = dramPage 0) ∧ (∀ r ∈ up.mem.retired, r.page ≠ dramPage 0) ∧
    (retiredTo 127).mem.retired.length < 128 ∧
    ((∀ r ∈ (retiredTo 128).mem.retired, r.page ≠ dramPage 0x6FFFFFFF) ∧ 128 ≤ (retiredTo 128).mem.retired.length) ∧
    (∃ x, repairing.mem.runs = x :: [] ∧ x.kind ≠ 3 ∧ x.mem < repairing.mem.mems.length) ∧ up.mem.runs = [] ∧
    (fwRuns up = true ∧ up.upd.windowOpen = false ∧ logFrozen up = false ∧ reclaiming up 0 = false ∧ blockers up.bal 9 = []) ∧
    logFrozen { up with log := { up.log with freeze := up.log.freeze.put 0 (some default) } } = true := by
  refine ⟨by decide +kernel, by decide +kernel, by decide +kernel, by decide +kernel, ⟨_, rfl, ?_, ?_⟩, rfl, ?_, ?_⟩ <;> decide +kernel

/-- A withdrawal of the first front end. -/
def wdrawn (x : Withdrawal → Withdrawal) : State :=
  { up with bal := { up.bal with withdrawals := [x ⟨4, 0, 0, 10, some (go 0x0E06 []), [], true, 0, false, false⟩] } }

/-- `MaintenanceCommandsAct`: memories. -/
theorem witness_memCommands :
    Goes 0x0E01 chkMemStatus [] up ∧
    (Goes 0x0E02 chkMemErrors [0] up ∧ bit ((go 0x0E02 [0]).w 3) 27 = false ∧ bit ((go 0x0E02 [0]).w 3) 26 = false) ∧
    (Goes 0x0E02 chkMemErrors [packW [(1, 26)]] up ∧ bit ((go 0x0E02 [packW [(1, 26)]]).w 3) 26 = true) ∧
    (Goes 0x0E02 chkMemErrors [packW [(1, 27)]] up ∧ bit ((go 0x0E02 [packW [(1, 27)]]).w 3) 27 = true) ∧
    (Goes 0x0E03 chkMemFlip [packW [(1, 28), (1, 26)]] up ∧ fld ((go 0x0E03 [packW [(1, 28), (1, 26)]]).w 3) 27 26 ≠ 0) ∧
    (Goes 0x0E03 chkMemFlip [packW [(1, 28)]] (flipped 10) ∧ fld ((go 0x0E03 [packW [(1, 28)]]).w 3) 27 26 = 0) := by decide +kernel

/-- `MaintenanceCommandsAct`: repair, scrubbing and activities. -/
theorem witness_memUpkeepCommands :
    (Goes 0x0E04 chkMemRepair [packW [(3, 26)], 0x100000] up ∧ blockers up.bal 2 = []) ∧
    (let w := [packW [(24, 22), (2, 14), (2, 6)]]
     Goes 0x0E05 chkMemScrub w up ∧ scrubOp (go 0x0E05 w) = 0 ∧ Room 0x13 up) ∧
    (Goes 0x0E05 chkMemScrub [packW [(1, 30)]] up ∧ scrubOp (go 0x0E05 [packW [(1, 30)]]) = 1 ∧ blockers up.bal 1 = []) ∧
    (Goes 0x0E05 chkMemScrub [packW [(2, 30)]] { up with mem := { up.mem with high := true } } ∧ 2 ≤ scrubOp (go 0x0E05 [packW [(2, 30)]])) ∧
    Goes 0x0E08 chkMemActivity [] up := by decide +kernel

/-- `MaintenanceCommandsAct`: withdrawals and activities that wait. -/
theorem witness_withdrawals :
    (Goes 0x0E06 chkMemWithdraw [packW [(4, 24), (60, 0)]] up ∧ tlRoom up.tl 0x14 1 = true ∧ blockers up.bal 10 = []) ∧
    (∃ w, Goes 0x0E07 chkMemRestore [packW [(4, 24)]] (wdrawn id) ∧
      wdFind (give (go 0x0E07 [packW [(4, 24)]]) (wdrawn id)) 4 0 = some w ∧ w.ending = false) ∧
    (let s := { wdrawn fun w => { w with active := false, block := 9 } with tl := (due (.withdraw 9 0)).tl }
     Due ⟨4096 * 1000, 3, 0, 1, false, .withdraw 9 0, true⟩ s ∧ ∃ w, wdFind s 9 0 = some w ∧ w.req = some (go 0x0E06 [])) ∧
    (let s := { wdrawn id with tl := (due (.withdrawEnd 4 0)).tl }
     Due ⟨4096 * 1000, 3, 0, 1, false, .withdrawEnd 4 0, true⟩ s ∧ ∃ w, wdFind s 4 0 = some w) ∧
    (let s := { wdrawn id with clk := { up.clk with ticks := 400000000 } }
     tlDue s = none ∧ ∃ w, s.bal.withdrawals.find? (fun w => w.expired s.clk.ticks) = some w) ∧
    (tlDue (wdrawn id) = none ∧ (wdrawn id).bal.withdrawals.find? (fun w => w.expired (wdrawn id).clk.ticks) = none) ∧
    (let s := { up with bal := { up.bal with waitCompact := true, waitReclaim := true } }
     s.bal.waitCompact = true ∧ s.bal.waitReclaim = true ∧ blockers s.bal 8 = [] ∧ blockers s.bal 9 = [] ∧ s.upd.windowOpen = false ∧
       logFrozen s = false) ∧
    up.bal.waitCompact = false := by
  refine ⟨by decide +kernel, ⟨_, by decide +kernel, rfl, by decide +kernel⟩, ⟨by decide +kernel, _, rfl, rfl⟩, ⟨by decide +kernel, _, rfl⟩,
    ⟨by decide +kernel, _, rfl⟩, by decide +kernel, by decide +kernel, by decide +kernel⟩

/-! ### Updates -/

/-- A session or bank in a state, with an activation or without one. -/
def bridle (a : Option Activation) (x : Session → Session) : State :=
  { up with upd := { up.upd with act := a, session := x { initSession with st := .preparing } } }

/-- An activation of a completed session for cycle 2,000, or a rollback. -/
def activation (x : Activation → Activation) : Activation := x ⟨false, (go 0x0F04 []).origin, some 2000, false, 3600, none, false⟩

/-- The window opened at cycle 990, engine 3 late, TT at cycle 1,000. -/
def window (x : Activation → Activation) (opened : Nat) : State :=
  { bridle (some (activation x)) id with upd := { (bridle (some (activation x)) id).upd with windowOpen := true, openCyc := opened, late := 8 } }

/-- `TheHandoverWindowChangesSets`. -/
theorem witness_handover :
    (up.upd.act = none ∧ up.upd.late.testBit 3 = false) ∧
    (activation id).prepared = false ∧ served (bridle (some (activation id)) id) = true ∧ up.tt.tt ≤ (2000 - 1) * 4096 ∧ tlRoom up.tl 0x12 1 = true ∧
    (let full := fun n sec => List.replicate n (⟨0, 3, 0, 0x11, sec, .handover, true⟩ : TlEntry)
     tlRoom { up.tl with entries := full 7104 false ++ full 1024 true } 0x12 1 = false) ∧
    ((activation fun a => { a with target := some 1001 }).prepared = false ∧ (1001 - 1) * 4096 ≤ up.tt.tt) ∧
    Due ⟨4096 * 1000, 3, 0, 1, false, .handover, true⟩ { bridle (some (activation id)) id with tl := (due .handover).tl } ∧
    ((window id 993).upd.windowOpen = true ∧ (activation id).ready = none ∧ (activation id).timedOut = false ∧
      (window id 993).tt.tt ≤ (993 + 7) * 4096 ∧ (990 + 7) * 4096 ≤ (window id 990).tt.tt ∧ alive (window id 990) = true ∧
      (window id 990).pwr.bootStep ≠ .inReset ∧ (activation fun a => { a with rollback := true }).rollback = true) ∧
    (cycOf up ≤ 1000 ∧ 999 < cycOf up) ∧ (992 + 8) * 4096 ≤ up.tt.tt ∧
    ((window id 993).upd.late.testBit 3 = true ∧ engineBusy (window id 993) 3 = false ∧
      engineBusy (withCe fun e => { e with st := .receive }) 0 = true) ∧
    (Due ⟨4096 * 1000, 3, 0, 1, false, .keyCommit 1, true⟩ (keyDue (.keyCommit 1) up) ∧ TlKind.keyCommit 1 ≠ .handover) := by
  decide +kernel

/-- SHA-256 of four octets 0. -/
def zeroHash : List Word :=
  [0xDF3F6198, 0x04A92FDB, 0x4057192D, 0xC43DD748, 0xEA778ADC, 0x52BC498C, 0xE80524C0, 0x14B81119]

/-- A manifest of seven parts of four octets for variant A; the hash of part 0 is that of four octets 0. -/
def manifest : List Word :=
  [0x4D414E31, packW [(1, 24), (7, 20), (86, 0)], packW [(2, 24)], 0, packW [(1, 24), (1, 8), (1, 0)]] ++ List.replicate 11 0 ++
    ((List.range 7).map fun k => packW [(k + 1, 24)] :: 4 :: if k = 0 then zeroHash else List.replicate 8 0).flatten

/-- r, which is also s, of a signature of its digest: s = e ÷ 6, worked out outside for the key below. -/
def half : List Word := [0xCABF5FB7, 0xD9D55DD0, 0x7F7823B7, 0x9408FA8B, 0x63E90EB5, 0x3B3774C4, 0xC7A615E7, 0xA053E569]

/-- A part whose update key is the point with x-coordinate r less 6G. -/
def signed : State :=
  { up with dev := { up.dev with updateKey :=
      [0x3826A0F9, 0x26A3E7A7, 0xE17B2118, 0x0199428E, 0x984D5C5E, 0x27E3B27F, 0x02F9FD6B, 0x1134B9D0,
        0x48B20B19, 0x1C26994B, 0x097B9390, 0xA93B9EF7, 0xC27522A3, 0x00FBB19A, 0x3FCFDADC, 0x1BF3AF63] } }

/-- The request that begins its update. -/
def beginReq : List Word := packW [(86, 0)] :: manifest ++ half ++ half

/-- The session it opens. -/
def loading (x : Session → Session) : State :=
  bridle none fun y => x { y with st := .loading, man := manifest, parts := List.replicate 7 [] }

/-- `UpdateCommandsAct`: a signed set is accepted, another is not. -/
theorem witness_begin :
    (Goes 0x0F01 chkUpdBegin beginReq signed ∧ beginReject (go 0x0F01 beginReq) (took (go 0x0F01 beginReq) (give (go 0x0F01 beginReq) signed)) = none ∧
      (norOn 1 0 0 signed).2 = true ∧ (norOn 1 0 9 signed).2 = false) ∧
    (Goes 0x0F01 chkUpdBegin beginReq up ∧ beginReject (go 0x0F01 beginReq) (took (go 0x0F01 beginReq) (give (go 0x0F01 beginReq) up)) ≠ none) := by
  decide +kernel

/-- `UpdateCommandsAct`: chunks and verification. -/
theorem witness_chunk :
    (Goes 0x0F02 chkUpdChunk [0, 0] (loading id) ∧ (loading id).upd.session.media = false ∧
      (gotWords (loading id).upd.session 0 ++ [0#32]).length = partWords (loading id).upd.session.man 0 ∧
      sha256 ((octetsOfWords [0#32]).take (partLen manifest 0)) = partHash manifest 0) ∧
    (Goes 0x0F02 chkUpdChunk [packW [(1, 28)], 0] (loading id) ∧ sha256 ((octetsOfWords [0#32]).take (partLen manifest 1)) ≠ partHash manifest 1) ∧
    (Goes 0x0F02 chkUpdChunk [0, 0] (loading fun x => { x with media := true, st := .failed })) ∧
    Goes 0x0F03 chkUpdVerify [] (loading fun x => { x with st := .loaded }) ∧
    Goes 0x0F03 chkUpdVerify [] (loading fun x => { x with st := .failed, media := true }) ∧
    (∀ k, k < manN manifest → (0x7F).testBit k = true) ∧
    (2 < manN manifest ∧ (3).testBit 2 = false ∧ ∀ j, j < 2 → (3).testBit j = true) ∧ up.upd.session.verify = none := by
  refine ⟨by decide +kernel, by decide +kernel, by decide +kernel, by decide +kernel, by decide +kernel, ?_, by decide +kernel, rfl⟩
  have : manN manifest = 7 := by decide +kernel
  rw [this]; decide

/-- `UpdateCommandsAct`: activation, confirmation, rollback and the end of a session. -/
theorem witness_activate :
    (Goes 0x0F04 chkUpdActivate [packW [(1, 30)], 0] (bridle none fun x => { x with st := .trial }) ∧ actOp (go 0x0F04 [packW [(1, 30)], 0]) = 1) ∧
    (Goes 0x0F04 chkUpdActivate [0, 0] (bridle none fun x => { x with st := .verified }) ∧ actOp (go 0x0F04 [0, 0]) ≠ 1 ∧ blockers up.bal 4 = []) ∧
    (let s := bridle none fun x => { x with st := .verified }
     Goes 0x0F04 chkUpdActivate [0, 0] { s with pwr := { (bootAt .halted).pwr with bootHalt := true } }) ∧
    Goes 0x0F05 chkUpdStatus [] up ∧
    Goes 0x0F06 chkUpdRollback [] { up with upd := { up.upd with other := .standby } } ∧
    Goes 0x0F07 chkUpdAbort [] (loading id) ∧
    (let s := { up with upd := { up.upd with trial := true, trialS := 60, trialRun := 60 * 40000000 } }
     s.upd.trial = true ∧ served s = true ∧ s.upd.trialS * 40000000 ≤ s.upd.trialRun) ∧ up.upd.trial = false := by decide +kernel

end Sys2Proof.Tests
end

section
/-!
PROOFS. The RTC shadows of the ports (R100, R101): what a read does to its port's copy, what a whole-word access of a shadow register comes
to, and what the timeout does.
-/
namespace Sys2Proof.Proofs
open Sys2Proof Sys2Proof.Machine Sys2Proof.Laws

/-! ### The copy of one port -/

/-- The copy that serves a read: the one that stands, else one frozen now. -/
def servingCopy (h : Shadow) (r : Rtc) (ticks : Nat) : Shadow := if h.frozen then h else h.freeze r ticks

theorem servingCopy_of_frozen {h : Shadow} (hf : h.frozen = true) (r : Rtc) (ticks : Nat) : servingCopy h r ticks = h := if_pos hf

theorem servingCopy_of_released {h : Shadow} (hf : h.frozen = false) (r : Rtc) (ticks : Nat) :
    servingCopy h r ticks = h.freeze r ticks := if_neg (by simp [hf])

section
variable (h : Shadow) (r : Rtc) (ticks i : Nat)

@[simp] theorem freeze_readMask : (h.freeze r ticks).readMask = 0 := rfl

@[simp] theorem read_word : (h.read r ticks i).2 = (servingCopy h r ticks).reg i := rfl
@[simp] theorem read_lo : (h.read r ticks i).1.lo = (servingCopy h r ticks).lo := rfl
@[simp] theorem read_hi : (h.read r ticks i).1.hi = (servingCopy h r ticks).hi := rfl
@[simp] theorem read_ff : (h.read r ticks i).1.ff = (servingCopy h r ticks).ff := rfl
@[simp] theorem read_reg (j : Nat) : (h.read r ticks i).1.reg j = (servingCopy h r ticks).reg j := rfl
@[simp] theorem read_since : (h.read r ticks i).1.since = (servingCopy h r ticks).since := rfl
@[simp] theorem read_staleNext : (h.read r ticks i).1.staleNext = (servingCopy h r ticks).staleNext := rfl
@[simp] theorem read_readMask : (h.read r ticks i).1.readMask = setBit (servingCopy h r ticks).readMask i true := rfl

/-- A read releases the copy that serves it when it is the last of the three registers, or when it shows `STALE`. -/
theorem read_releases_iff : (h.read r ticks i).1.frozen = false ↔
    setBit (servingCopy h r ticks).readMask i true = 7 ∨ (i = 2 ∧ bit (servingCopy h r ticks).ff 7 = true) := by
  change (!(_ == 7 || (i == 2 && _))) = false ↔ _
  rw [Bool.not_eq_false', Bool.or_eq_true, Bool.and_eq_true, beq_iff_eq, beq_iff_eq]
  rfl

end

theorem setBit_zero_true (i : Nat) : setBit 0 i true = 2 ^ i := by simp [setBit]

/-- One register read is not all three. -/
theorem two_pow_reg_ne_seven (reg : Fin 3) : 2 ^ reg.val ≠ 7 := by revert reg; decide

/-! ### A whole word read -/

/-- A window that is alive belongs to a module that is powered. -/
theorem alive_of_windowAlive {s : State} (h : windowAlive s = true) : alive s = true := by
  have hoff : s.pwr.bootStep ≠ .off := by
    intro e
    simp [windowAlive, e] at h
  simpa [alive] using hoff

/-- The pads of a port whose window is up can carry an access. -/
theorem portReach_of_portUp {s : State} {p : Fin 4} (h : portUp s p = true) : portReach s p = true := by
  simp only [portUp, Bool.and_eq_true] at h
  obtain ⟨⟨hw, hp⟩, hv⟩ := h
  simp [portReach, alive_of_windowAlive hw, hp, hv]

/-- The three shadow registers stand at +0x040 to +0x048. -/
theorem readFull_of_shadowRegister {s : State} {p : Fin 4} (h : portUp s p = true) (reg : Fin 3) :
    readFull p (0x040 + 4 * reg.val) s = readShadow p reg.val s := by
  match reg with
  | 0 | 1 | 2 => simp [readFull, h]

/-- The state after a read of a shadow register: the port's copy has been read, and its word is on the port's data lines. -/
def afterShadowRead (p : Fin 4) (i : Nat) (s : State) : State :=
  onPort p (fun q => { breakPair q with readData := ((s.shadow.get p).read s.rtc s.clk.ticks i).2 })
    { s with shadow := s.shadow.put p ((s.shadow.get p).read s.rtc s.clk.ticks i).1 }

theorem exec_rtcShadowRead_word {s : State} {p : Fin 4} (h : portUp s p = true) (reg : Fin 3) :
    exec (.rtcShadowRead p reg .word) s = .next (afterShadowRead p reg.val s) := by
  change Host.Outcome.next (readLane p (0x040 + 4 * reg.val) .word s) = _
  simp only [readLane, portReach_of_portUp h, readFull_of_shadowRegister h]
  rfl

section
variable (p : Fin 4) (i : Nat) (s : State)

@[simp] theorem afterShadowRead_rtc : (afterShadowRead p i s).rtc = s.rtc := rfl

@[simp] theorem afterShadowRead_shadow_self :
    (afterShadowRead p i s).shadow.get p = ((s.shadow.get p).read s.rtc s.clk.ticks i).1 := get_put_self ..

@[simp] theorem afterShadowRead_readData :
    ((afterShadowRead p i s).ports.get p).readData = (servingCopy (s.shadow.get p) s.rtc s.clk.ticks).reg i := by
  simp [afterShadowRead]

/-- Shadows and windows of different ports are independent (R100). -/
theorem afterShadowRead_other {q : Fin 4} (h : q ≠ p) :
    (afterShadowRead p i s).shadow.get q = s.shadow.get q ∧ (afterShadowRead p i s).ports.get q = s.ports.get q :=
  ⟨get_put_ne _ _ h, get_upd_ne _ _ h⟩

end

/-! ### The timeout -/

/-- The state after a copy is released by its timeout. -/
def afterShadowTimeout (p : Fin 4) (s : State) : State :=
  { s with shadow := s.shadow.put p { s.shadow.get p with frozen := false, staleNext := true } }

theorem exec_rtcShadowTimeout_of_due {s : State} {p : Fin 4} (hf : (s.shadow.get p).frozen = true)
    (hd : (s.shadow.get p).since + 40000000 ≤ s.clk.ticks) : exec (.rtcShadowTimeout p) s = .next (afterShadowTimeout p s) :=
  congrArg Host.Outcome.next (if_pos (by simp [hf, hd]))

theorem exec_rtcShadowTimeout_of_not_due {s : State} {p : Fin 4}
    (h : (s.shadow.get p).frozen = false ∨ s.clk.ticks < (s.shadow.get p).since + 40000000) :
    exec (.rtcShadowTimeout p) s = .next s := by
  refine congrArg Host.Outcome.next (if_neg ?_)
  rcases h with hf | hd
  · simp [hf]
  · simp [Nat.not_le.mpr hd]

theorem afterShadowTimeout_only (p : Fin 4) (s : State) : OnlyChanges [.shadow] s (afterShadowTimeout p s) := by
  intro u hu
  cases u with
  | shadow => exact absurd (List.mem_singleton_self _) hu
  | _ => rfl

/-! ### The obligation -/

/-- Settles O19: a read comes to `afterShadowRead`, whose copy is `servingCopy`, fresh or standing; a timeout to `afterShadowTimeout`. -/
theorem shadowsShowOneInstant : Obligations.ShadowsShowOneInstant := by
  intro s p hup
  refine ⟨fun reg hf => ?fresh, fun reg hf => ?standing, fun hf hd => ?due, exec_rtcShadowTimeout_of_not_due⟩
  case fresh =>
    refine ⟨_, exec_rtcShadowRead_word hup reg, ?_⟩
    simp only [afterShadowRead_shadow_self, afterShadowRead_readData, read_lo, read_hi, read_ff, read_reg, read_since,
      read_staleNext, read_readMask, read_releases_iff, servingCopy_of_released hf, freeze_readMask, setBit_zero_true,
      two_pow_reg_ne_seven, false_or, true_and]
    exact ⟨rfl, rfl, rfl, rfl, rfl, rfl, fun q => afterShadowRead_other p reg.val s⟩
  case standing =>
    refine ⟨_, exec_rtcShadowRead_word hup reg, ?_⟩
    simp only [afterShadowRead_shadow_self, afterShadowRead_readData, read_lo, read_hi, read_ff, read_since,
      read_staleNext, read_readMask, read_releases_iff, servingCopy_of_frozen hf, true_and]
    exact ⟨rfl, fun q => afterShadowRead_other p reg.val s⟩
  case due =>
    refine ⟨_, exec_rtcShadowTimeout_of_due hf hd, ?_, ?_, fun q hq => get_put_ne _ _ hq, afterShadowTimeout_only p s⟩
    all_goals simp [afterShadowTimeout]

end Sys2Proof.Proofs
end

section
/-!
PROOFS. Request queues (R133 to R136): what a push and the four ends of a commit do to the port that is written, and that what a framed
message sets off (notifications, AUTONOMOUS, the mode) leaves the request queues and the restarted watchdog alone.
-/
namespace Sys2Proof.Proofs
open Sys2Proof Sys2Proof.Machine Sys2Proof.Laws

/-! ### The request queues of one port -/

section
variable (q : PortSt) (k : Nat)

@[simp] theorem req_setReq_self (v : ReqQueue) : (q.setReq k v).req k = v := by
  unfold PortSt.setReq PortSt.req
  by_cases h0 : k = 0
  · simp only [h0, if_true]
  by_cases h1 : k = 1
  · simp only [h1, if_true, Nat.one_ne_zero, if_false]
  by_cases h2 : k = 2
  · simp only [h2, if_true, if_false, Nat.reduceEqDiff]
  · simp only [h0, h1, h2, if_false]

@[simp] theorem frameErrs_setReq (v : ReqQueue) : (q.setReq k v).frameErrs = q.frameErrs := by
  unfold PortSt.setReq
  split
  · rfl
  split
  · rfl
  split <;> rfl

@[simp] theorem req_setRet (r : Nat) (v : RetQueue) : (q.setRet r v).req k = q.req k := by
  unfold PortSt.setRet
  split <;> rfl

@[simp] theorem frameErrs_setRet (r : Nat) (v : RetQueue) : (q.setRet r v).frameErrs = q.frameErrs := by
  unfold PortSt.setRet
  split <;> rfl

@[simp] theorem req_refresh : q.refresh.req k = q.req k := rfl
@[simp] theorem frameErrs_refresh : q.refresh.frameErrs = q.frameErrs := rfl
@[simp] theorem req_setInt (i : Nat) : (q.setInt i).req k = q.req k := rfl
@[simp] theorem frameErrs_setInt (i : Nat) : (q.setInt i).frameErrs = q.frameErrs := rfl
@[simp] theorem req_breakWrite : (breakWrite q).req k = q.req k := rfl
@[simp] theorem frameErrs_breakWrite : (breakWrite q).frameErrs = q.frameErrs := rfl
@[simp] theorem intStat_breakWrite : (breakWrite q).intStat = q.intStat := rfl

@[simp] theorem req_putMsg (r : Nat) (m : RMsg) : (q.putMsg r m).req k = q.req k := by simp [PortSt.putMsg]
@[simp] theorem frameErrs_putMsg (r : Nat) (m : RMsg) : (q.putMsg r m).frameErrs = q.frameErrs := by simp [PortSt.putMsg]

/-! ### What a push and a commit make of the port -/

theorem pushWord_of_room {w : Word} (hfree : 0 < reqFree q k) (hstaged : (q.req k).staged.length < 1024) :
    pushWord k w q = (q.setReq k { q.req k with staged := (q.req k).staged ++ [w] }).refresh := if_pos ⟨hfree, hstaged⟩

theorem pushWord_of_full {w : Word} (h : reqFree q k = 0 ∨ 1024 ≤ (q.req k).staged.length) :
    pushWord k w q = q.setReq k { q.req k with poisoned := true } := if_neg (by omega)

/-- A staged word takes one word of `FREE`. -/
theorem reqFree_stage (w : Word) :
    reqFree (q.setReq k { q.req k with staged := (q.req k).staged ++ [w] }).refresh k = reqFree q k - 1 := by
  simp only [reqFree, req_refresh, req_setReq_self, List.length_append, List.length_singleton]
  omega

@[simp] theorem reqFree_breakWrite : reqFree (breakWrite q) k = reqFree q k := rfl

@[simp] theorem req_dropStagedWords : (dropStagedWords k q).req k = { q.req k with staged := [], poisoned := false } := by
  simp [dropStagedWords]

@[simp] theorem frameErrs_dropStagedWords : (dropStagedWords k q).frameErrs = q.frameErrs := by simp [dropStagedWords]

/-- The port after a framing error (R135). -/
def misframed (code : Nat) : PortSt :=
  { (dropStagedWords k q).setInt 12 with frameErrs := sat 8 (q.frameErrs + 1), lastErr := code, lastErrQ := k }

@[simp] theorem req_misframed (code : Nat) : (misframed q k code).req k = { q.req k with staged := [], poisoned := false } :=
  req_dropStagedWords q k

/-- A framing error sets `FRAME_ERR`, bit 12 of `INT_STAT`. -/
theorem intStat_misframed (code : Nat) : (misframed q k code).intStat.getLsbD 12 = true := by
  change ((dropStagedWords k q).intStat ||| wd (2 ^ 12)).getLsbD 12 = true
  simp [wd]

/-- The port after a commit of a framed message (R136). -/
def committed : PortSt :=
  (q.setReq k { q.req k with staged := [], msgs := (q.req k).msgs ++ [(q.req k).staged] }).refresh

@[simp] theorem req_committed :
    (committed q k).req k = { q.req k with staged := [], msgs := (q.req k).msgs ++ [(q.req k).staged] } := by simp [committed]

@[simp] theorem frameErrs_committed : (committed q k).frameErrs = q.frameErrs := by simp [committed]

end

/-! ### The framing error codes -/

/-- Each code of R134 is given exactly where its check is the first that applies. -/
theorem frameCode_iff (x : ReqQueue) (n : Nat) :
    (frameCode x n = 0 ↔ x.poisoned = false ∧ n = x.staged.length ∧ 3 ≤ x.staged.length ∧
      x.staged.length = 3 + fld (wAt x.staged 0) 15 0) ∧
    (frameCode x n = 3 ↔ x.poisoned = true) ∧
    (frameCode x n = 1 ↔ x.poisoned = false ∧ n ≠ x.staged.length) ∧
    (frameCode x n = 4 ↔ x.poisoned = false ∧ n = x.staged.length ∧ x.staged.length < 3) ∧
    (frameCode x n = 2 ↔ x.poisoned = false ∧ n = x.staged.length ∧ 3 ≤ x.staged.length ∧
      x.staged.length ≠ 3 + fld (wAt x.staged 0) 15 0) := by
  by_cases overrun : x.poisoned = true
  · simp [frameCode, overrun]
  by_cases count : n ≠ x.staged.length
  · simp [frameCode, overrun, count]
  rw [ne_eq, Decidable.not_not] at count
  by_cases short : x.staged.length < 3
  · have hshort : ¬ 3 ≤ x.staged.length := by omega
    simp [frameCode, overrun, count, short, hshort]
  have hlong : 3 ≤ x.staged.length := by omega
  by_cases length : x.staged.length = 3 + fld (wAt x.staged 0) 15 0
  · simp [frameCode, overrun, count, short, hlong, ← length]
  · simp [frameCode, overrun, count, short, hlong, length]

/-! ### What notifications, logs and mode changes leave of the ports' request side -/

/-- Every port's request queues and count of framing errors are the same. -/
structure RequestsStand (s t : State) : Prop where
  req : ∀ p k, (t.ports.get p).req k = (s.ports.get p).req k
  frameErrs : ∀ p, (t.ports.get p).frameErrs = (s.ports.get p).frameErrs

theorem RequestsStand.of_ports {s t : State} (h : t.ports = s.ports) : RequestsStand s t :=
  ⟨fun _ _ => by rw [h], fun _ => by rw [h]⟩

theorem RequestsStand.refl (s : State) : RequestsStand s s := .of_ports rfl

theorem RequestsStand.trans {s t u : State} (h : RequestsStand s t) (g : RequestsStand t u) : RequestsStand s u :=
  ⟨fun p k => (g.req p k).trans (h.req p k), fun p => (g.frameErrs p).trans (h.frameErrs p)⟩

theorem RequestsStand.foldl {α : Type} {s : State} {f : State → α → State} (l : List α) (h : ∀ t x, RequestsStand t (f t x)) :
    RequestsStand s (l.foldl f s) :=
  List.foldlRecOn l f (RequestsStand.refl s) fun t ht x _ => ht.trans (h t x)

/-- A port changed in what is not its request side. -/
theorem RequestsStand.onPort {p : Fin 4} {f : PortSt → PortSt} {s : State} (hreq : ∀ q k, (f q).req k = q.req k)
    (herrs : ∀ q, (f q).frameErrs = q.frameErrs) : RequestsStand s (onPort p f s) := by
  have port (p' : Fin 4) : (Machine.onPort p f s).ports.get p' = s.ports.get p' ∨
      (Machine.onPort p f s).ports.get p' = f (s.ports.get p') := by
    by_cases h : p' = p
    · exact .inr (h ▸ get_upd_self ..)
    · exact .inl (get_upd_ne _ _ h)
  exact ⟨fun p' k => (port p').elim (fun h => by rw [h]) fun h => by rw [h, hreq],
    fun p' => (port p').elim (fun h => by rw [h]) fun h => by rw [h, herrs]⟩

section
variable (q : PortSt) (code src : Nat) (cyc : Word) (payload : List Word) (i : Option Nat)

theorem req_notify (k : Nat) : (q.notify code src cyc payload i).req k = q.req k := by
  unfold PortSt.notify
  extract_lets m q1
  have h : q1.req k = q.req k := rfl
  split
  · cases i <;> simp [h]
  · exact h

theorem frameErrs_notify : (q.notify code src cyc payload i).frameErrs = q.frameErrs := by
  unfold PortSt.notify
  extract_lets m q1
  have h : q1.frameErrs = q.frameErrs := rfl
  split
  · cases i <;> simp [h]
  · exact h

end

section
variable (s : State)

theorem logNs_ports (code inst : Nat) (content : List Nat) : (logNs code inst content s).ports = s.ports :=
  (keeps_logNs code inst content s (mk := 0xFFFFFFFFF7FF) rfl (Keeps.refl _ s)).get 9 rfl

theorem logLim_ports (code inst : Nat) (content : Nat → List Word) : (logLim code inst content s).ports = s.ports :=
  (keeps_logLim code inst content s (mk := 0xFFFFFFFFF7FF) rfl (Keeps.refl _ s)).get 9 rfl

theorem logLim_wd (code inst : Nat) (content : Nat → List Word) : (logLim code inst content s).wd = s.wd :=
  (keeps_logLim code inst content s (mk := 0xFFFFFFFFF7FF) rfl (Keeps.refl _ s)).get 3 rfl

theorem restartAll_ports : (restartAll s).ports = s.ports :=
  (keeps_restartAll s (mk := 0xFFFFFFFFFFF7) rfl (Keeps.refl _ s)).get 9 rfl

theorem applySafe_ports (cause mask : Nat) (prior : Bool) : (applySafe cause mask prior s).ports = s.ports :=
  (keeps_applySafe cause mask prior s (mk := 0xFFFFFFEFF7FF) rfl (Keeps.refl _ s)).get 9 rfl

theorem applySafe_wd (cause mask : Nat) (prior : Bool) : (applySafe cause mask prior s).wd = s.wd :=
  (keeps_applySafe cause mask prior s (mk := 0xFFFFFFEFF7FF) rfl (Keeps.refl _ s)).get 3 rfl

theorem reportMode_wd (oldMode : Mode) (oldFlags cause : Nat) : (reportMode oldMode oldFlags cause s).wd = s.wd :=
  (keeps_reportMode oldMode oldFlags cause s (mk := 0xFFFFFFFFF5FF) rfl (Keeps.refl _ s)).get 3 rfl

theorem notify_stand (p : Fin 4) (code src : Nat) (payload : List Word) (i : Option Nat) :
    RequestsStand s (notify p code src payload s i) := by
  have placed : RequestsStand s (onPort p (fun q => q.notify code src (cycLo s) payload i) s) :=
    .onPort (fun q k => req_notify q code src _ payload i k) fun q => frameErrs_notify q code src _ payload i
  unfold notify notifyAt
  dsimp only
  split
  · exact placed
  · exact placed.trans (.of_ports (logLim_ports ..))

theorem notifyPorts_stand (test : Fin 4 → Bool) (code src : Nat) (payload : List Word) :
    RequestsStand s (notifyPorts test code src payload s) := by
  refine .foldl allPorts fun t p => ?_
  split
  · exact notify_stand t p code src payload none
  · exact .refl t

theorem reportMode_stand (oldMode : Mode) (oldFlags cause : Nat) : RequestsStand s (reportMode oldMode oldFlags cause s) := by
  unfold reportMode
  have logged := RequestsStand.of_ports (logNs_ports s evModeChange 0xFF
    [modeCode oldMode, modeCode s.pwr.mode, oldFlags, flagsByte s, cause])
  split
  · exact .refl s
  dsimp only
  split
  · exact logged
  · refine logged.trans (.foldl allPorts fun t p => ?_)
    split
    · exact notify_stand t p ..
    · exact .refl t

end

/-! ### What a change of mode leaves of a running watchdog -/

/-- Every watchdog that runs keeps its time and its silence; it may stop. -/
def RunningTimesStand (s t : State) : Prop :=
  ∀ p, (s.wd.get p).running = true →
    (t.wd.get p).expired = (s.wd.get p).expired ∧ (t.wd.get p).deadline = (s.wd.get p).deadline

theorem RunningTimesStand.of_wd {s t : State} (h : t.wd = s.wd) : RunningTimesStand s t := fun _ _ => by rw [h]; exact ⟨rfl, rfl⟩

theorem mem_allPorts (p : Fin 4) : p ∈ allPorts := by revert p; decide

/-- While one watchdog runs, not all are stopped: no change of mode starts them (R68). -/
theorem not_all_stopped {s : State} {p : Fin 4} (h : (s.wd.get p).running = true) :
    ¬ allPorts.all (fun p => !(s.wd.get p).running) = true := by
  intro hall
  simpa [h] using List.all_eq_true.mp hall p (mem_allPorts p)

/-- A settled mode is reported from a state that differs in the power unit and the watchdogs alone. -/
theorem settleMode_reports (old : State) (cause : Nat) (s : State) :
    ∃ t, settleMode old cause s = reportMode old.pwr.mode (flagsByte old) cause t ∧ t.ports = s.ports ∧ RunningTimesStand s t := by
  unfold settleMode
  split
  · exact ⟨s, rfl, rfl, .of_wd rfl⟩
  extract_lets m started _ t _
  suffices h : t.ports = s.ports ∧ RunningTimesStand s t from ⟨_, rfl, h⟩
  subst t
  split
  · next starts =>
    exact ⟨restartAll_ports s, fun _ hrun => absurd (Bool.and_eq_true_iff.mp starts).2 (not_all_stopped hrun)⟩
  split
  · refine ⟨rfl, fun p _ => ?_⟩
    rw [get_map]
    exact ⟨rfl, rfl⟩
  split
  · next starts =>
    refine ⟨?_, fun _ hrun => absurd (Bool.and_eq_true_iff.mp starts).2 (not_all_stopped hrun)⟩
    refine List.foldlRecOn allPorts _ (motive := fun t : State => t.ports = s.ports) rfl fun t ht p _ => ?_
    split <;> exact ht
  · exact ⟨rfl, .of_wd rfl⟩

theorem settleMode_stand (old : State) (cause : Nat) (s : State) : RequestsStand s (settleMode old cause s) := by
  obtain ⟨t, ht, hports, -⟩ := settleMode_reports old cause s
  rw [ht]
  exact (RequestsStand.of_ports hports).trans (reportMode_stand t ..)

theorem settleMode_times (old : State) (cause : Nat) (s : State) : RunningTimesStand s (settleMode old cause s) := by
  obtain ⟨t, ht, -, htimes⟩ := settleMode_reports old cause s
  intro p hrun
  rw [ht, reportMode_wd]
  exact htimes p hrun

theorem evalAuto_stand (clearCause : Nat) (s : State) : RequestsStand s (evalAuto clearCause s) := by
  unfold evalAuto
  extract_lets a _ t
  split
  · exact .refl s
  have settled : RequestsStand s t :=
    .trans (t := { s with pwr := { s.pwr with autonomous := a } }) (.of_ports rfl) (settleMode_stand s _ _)
  split
  · exact settled.trans (.of_ports (applySafe_ports ..))
  · exact settled

theorem evalAuto_times (clearCause : Nat) (s : State) : RunningTimesStand s (evalAuto clearCause s) := by
  unfold evalAuto
  extract_lets a _ t
  split
  · exact .of_wd rfl
  have settled : RunningTimesStand s t := settleMode_times s _ { s with pwr := { s.pwr with autonomous := a } }
  split
  · intro p hrun
    rw [applySafe_wd]
    exact settled p hrun
  · exact settled

/-! ### What a framed message does -/

theorem framed_stand (p : Fin 4) (s : State) : RequestsStand s (framed p s) := by
  unfold framed
  extract_lets w t u
  split
  · exact evalAuto_stand _ s
  have told : RequestsStand s u := by
    subst u
    split
    · exact .trans (.of_ports (logNs_ports t ..)) (notifyPorts_stand ..)
    · exact .of_ports rfl
  exact told.trans (evalAuto_stand _ u)

/-- A running watchdog is restarted with its full timeout (R68), and what follows lets the new time stand. -/
theorem framed_restarts {p : Fin 4} {s : State} (hrun : (s.wd.get p).running = true) :
    ((framed p s).wd.get p).expired = false ∧
      ((framed p s).wd.get p).deadline = s.clk.ticks + (s.wd.get p).timeout * 40000000 := by
  unfold framed
  extract_lets w t u
  have hw : w.running = true := hrun
  rw [if_neg (by simp [hw])]
  have htold : u.wd = t.wd := by
    subst u
    split
    · exact (keeps_notifyPorts _ _ _ _ _ (mk := 0xFFFFFFFFF5FF) rfl (keeps_logNs _ _ _ t rfl (Keeps.refl _ t))).get 3 rfl
    · rfl
  have hu : u.wd.get p = w.restart s.clk.ticks := by
    rw [htold]
    exact (get_put_self ..).trans (if_pos hw)
  obtain ⟨hexp, hdead⟩ := evalAuto_times evHostResumed u p (by rw [hu]; rfl)
  rw [hexp, hdead, hu]
  exact ⟨rfl, rfl⟩

/-! ### A write to a port that is up -/

theorem onPort_only (p : Fin 4) (f : PortSt → PortSt) (s : State) : OnlyChanges [.ports] s (onPort p f s) := by
  intro u hu
  cases u with
  | ports => exact absurd (List.mem_singleton_self _) hu
  | _ => rfl

theorem frameError_ports (p : Fin 4) (k code : Nat) (s : State) :
    (frameError p k code s).ports = s.ports.upd p fun q => misframed q k code := logLim_ports ..

theorem frameError_wd (p : Fin 4) (k code : Nat) (s : State) : (frameError p k code s).wd = s.wd := logLim_wd ..

section
variable {s : State} {p k : Fin 4} {w : Word}

theorem writeCommit_abort (h : bit w 31 = true) : writeCommit p k.val w s = onPort p (dropStagedWords k.val) s := if_pos h

theorem writeCommit_nothing (h : bit w 31 = false) (hnone : ((s.ports.get p).req k.val).staged = []) :
    writeCommit p k.val w s = s := by simp [writeCommit, h, hnone]

theorem writeCommit_misframed {c : Nat} (h : bit w 31 = false) (hsome : ((s.ports.get p).req k.val).staged ≠ []) (hc : c ≠ 0)
    (hcode : frameCode ((s.ports.get p).req k.val) (fld w 10 0) = c) : writeCommit p k.val w s = frameError p k.val c s := by
  simp [writeCommit, h, hsome, hcode]

theorem writeCommit_framed (h : bit w 31 = false) (hsome : ((s.ports.get p).req k.val).staged ≠ [])
    (hcode : frameCode ((s.ports.get p).req k.val) (fld w 10 0) = 0) :
    writeCommit p k.val w s = framed p (onPort p (fun q => committed q k.val) s) := by
  simp only [writeCommit, h, hcode, List.isEmpty_iff, hsome]
  rfl

variable (hup : portUp s p = true)
include hup

theorem exec_reqDataPush_of_up : exec (.reqDataPush p k w) s = .next (onPort p (fun q => breakWrite (pushWord k.val w q)) s) :=
  congrArg Host.Outcome.next (if_pos hup)

theorem exec_reqAbort_of_up : exec (.reqAbort p k) s = .next (onPort p (fun q => breakWrite (dropStagedWords k.val q)) s) :=
  congrArg Host.Outcome.next (if_pos hup)

theorem exec_reqCommit_of_up : exec (.reqCommit p k w) s = .next (onPort p breakWrite (writeCommit p k.val w s)) :=
  congrArg Host.Outcome.next (if_pos hup)

end

/-! ### The obligation -/

/-- Settles O21: on a port that is up a write comes to one of six ends (`pushWord` with and without room, `dropStagedWords`, nothing,
`misframed`, `committed`), and what a framed message sets off keeps the queues and the restarted watchdog. -/
theorem commitsAreJudgedInOrder : Obligations.CommitsAreJudgedInOrder := by
  intro s p k hup
  refine ⟨fun w hfree hstaged => ?room, fun w hfull => ?full, ?abortCommand, fun w hw hnone => ?nothing,
    fun w c hw hsome hc hcode => ?misframed, fun w hw hsome hcode => ?framed, fun w hw => ?abort, frameCode_iff⟩
  case room =>
    refine ⟨_, exec_reqDataPush_of_up hup, ?_, ?_, ?_, fun q hq => get_upd_ne _ _ hq, onPort_only p _ s⟩
    all_goals simp [pushWord_of_room _ _ hfree hstaged, reqFree_stage]
  case full =>
    refine ⟨_, exec_reqDataPush_of_up hup, ?_, ?_, onPort_only p _ s⟩
    all_goals simp [pushWord_of_full _ _ hfull]
  case abortCommand =>
    exact ⟨_, exec_reqAbort_of_up hup, by simp⟩
  case nothing =>
    refine ⟨_, exec_reqCommit_of_up hup, ?_⟩
    rw [writeCommit_nothing hw hnone]
    exact ⟨by simp, by simp, by simp, onPort_only p _ s⟩
  case misframed =>
    refine ⟨_, exec_reqCommit_of_up hup, ?_⟩
    rw [writeCommit_misframed hw hsome hc hcode]
    simp only [onPort_ports, get_upd_self, onPort_wd, frameError_ports, frameError_wd, req_breakWrite, req_misframed,
      intStat_breakWrite, intStat_misframed, true_and, and_true]
    exact ⟨rfl, rfl, rfl⟩
  case framed =>
    refine ⟨_, exec_reqCommit_of_up hup, ?_⟩
    rw [writeCommit_framed hw hsome hcode]
    have stand := framed_stand p (onPort p (fun q => committed q k.val) s)
    have restarted : (s.wd.get p).running = true → _ := framed_restarts (s := onPort p (fun q => committed q k.val) s)
    simp only [onPort_ports, get_upd_self, req_breakWrite, frameErrs_breakWrite, stand.req, stand.frameErrs, req_committed,
      frameErrs_committed, true_and]
    exact restarted
  case abort =>
    refine ⟨_, exec_reqCommit_of_up hup, ?_⟩
    rw [writeCommit_abort hw]
    simp

end Sys2Proof.Proofs
end

section
/-!
PROOFS. What every step keeps: the units a command may reach (O2), what is final (O3), the sizes of the return queues (O4) and the count of
Tether (O5). Each rests on the frame of the commands, `keeps_exec`.
-/
namespace Sys2Proof.Proofs
open Sys2Proof Sys2Proof.Machine Sys2Proof.Laws

/-! ### A step -/

theorem step_of_empty {s : State} (h : s.pending = []) : step s = .next (tick s) := by
  unfold step
  rw [h]

theorem step_of_cons {s : State} {c : Instr} {rest : List Instr} (h : s.pending = c :: rest) :
    step s = exec c { s with pending := rest } := by
  unfold step
  rw [h]

/-- A step is a tick, or a command on the state with a shorter queue. -/
theorem step_cases {s t : State} (h : step s = .next t) :
    t = tick s ∨ ∃ c rest, exec c { s with pending := rest } = .next t := by
  cases hp : s.pending with
  | nil => exact .inl (Host.Outcome.next.inj ((step_of_empty hp).symm.trans h)).symm
  | cons c rest => exact .inr ⟨c, rest, (step_of_cons hp).symm.trans h⟩

/-- A command keeps a part that its mask selects. -/
theorem agree_exec {c : Instr} {s t : State} (k : Nat) (h : exec c s = .next t) (hk : (execMask c).testBit k = true) : Agree k s t :=
  (keeps_exec c s t h).get k hk

/-- A tick keeps a part that its mask selects. -/
theorem agree_tick {k : Nat} (s : State) (hk : Nat.testBit 0xBFF7FEFFCF6D k = true) : Agree k s (tick s) :=
  (keeps_tick s rfl (Keeps.refl 0xBFF7FEFFCF6D s)).get k hk

/-- Settles O1: `step` matches on the queue, and the table has no word for a command. -/
theorem aStepRunsTheFrontCommand : Obligations.AStepRunsTheFrontCommand :=
  fun _ => ⟨fun _ _ => step_of_cons, step_of_empty, fun _ _ => ⟨rfl, rfl⟩⟩

/-- Every unit that `mayChange` does not list has its bit in the mask of the command. -/
theorem mayChange_covers_execMask (c : Instr) :
    (.dev :: .pending :: everyUnit).all (fun p => (mayChange c).contains p || (execMask c).testBit (partBit p)) = true := by
  cases c <;> dsimp only [mayChange, execMask] <;> decide

/-- Settles O2: the units that `mayChange` leaves out are among those that the command's mask keeps. -/
theorem eachCommandChangesOnlyItsUnits : Obligations.EachCommandChangesOnlyItsUnits :=
  ⟨fun c s t h => only_of_keeps (keeps_exec c s t h) (mayChange_covers_execMask c),
    fun s => only_of_keeps (keeps_tick s rfl (Keeps.refl 0xBFF7FEFFCF6D s)) (by decide)⟩

/-! ### The return queues -/

/-- No command places a message that does not fit. -/
theorem execMask_fits (c : Instr) : (execMask c).testBit 45 = true := by
  cases c <;> dsimp only [execMask] <;> decide

/-- Settles O4: part 45 of every command's mask and of a tick's says that no message is placed where it does not fit. -/
theorem returnQueuesStayWithinTheirSizes : Obligations.ReturnQueuesStayWithinTheirSizes := by
  intro s t hfit h
  obtain rfl | ⟨c, rest, hc⟩ := step_cases h
  · exact fun p => agree_tick (k := 45) s (by decide) p (hfit p)
  · exact fun p => agree_exec 45 hc (execMask_fits c) p (hfit p)

/-! ### The count of Tether -/

/-- No command but the start of Tether steps the count or starts it. -/
theorem execMask_count (c : Instr) (h : ∀ f0 f1, c ≠ .windowAlive f0 f1) : (execMask c).testBit 46 = true := by
  cases c with
  | windowAlive f0 f1 => exact absurd rfl (h f0 f1)
  | _ => dsimp only [execMask]; decide

/-- No command makes the part of a phase unit gone by a whole one. -/
theorem execMask_remainder (c : Instr) : (execMask c).testBit 47 = true := by
  cases c <;> dsimp only [execMask] <;> decide

/-- The slew does not touch the count. -/
theorem slewTick_tt (x : Tether) : x.slewTick.tt = x.tt := by
  unfold Tether.slewTick
  split
  · dsimp only
    split <;> rfl
  · rfl

theorem ttTick_tt_of_running {s : State} (h : s.tt.running = true) :
    (ttTick s).tt.tt = s.tt.tt + (s.clk.ttAcc + s.tt.rate * (4096 - s.tt.cycAdj).toNat) / ttUnit := by
  unfold ttTick
  rw [if_pos h]
  exact slewTick_tt _

theorem ttTick_of_stopped {s : State} (h : s.tt.running = false) : ttTick s = s := by
  unfold ttTick
  rw [if_neg (by simp [h])]

/-- The other parts of a tick leave Tether as `ttTick` leaves it. -/
theorem tick_tt (s : State) : (tick s).tt = (ttTick s).tt := by
  have rest : Keeps 0x10 (ttTick s) (tick s) := by
    unfold tick
    extract_lets s1
    have timed : Keeps 0x10 (ttTick s) s1 :=
      keeps_stampAir _ rfl <| keeps_phrTick _ rfl <| keeps_listenTick _ rfl <| keeps_trialTick _ rfl <|
        keeps_rtcTick _ rfl (Keeps.refl 0x10 (ttTick s))
    clear_value s1
    exact Keeps.set_clk rfl (fun h => h) timed
  exact rest.get 4 (by decide)

/-- One phase unit takes at least one tick: the count moves by 0 or 1. -/
theorem tick_moves_count {s : State} (hacc : s.clk.ttAcc < ttUnit) (hrate : s.tt.rate * (4096 - s.tt.cycAdj).toNat ≤ ttUnit) :
    s.tt.tt ≤ (tick s).tt.tt ∧ (tick s).tt.tt ≤ s.tt.tt + 1 := by
  rw [tick_tt]
  cases hrun : s.tt.running with
  | false => simp [ttTick_of_stopped hrun]
  | true =>
    rw [ttTick_tt_of_running hrun]
    have carry : (s.clk.ttAcc + s.tt.rate * (4096 - s.tt.cycAdj).toNat) / ttUnit < 2 :=
      Nat.div_lt_of_lt_mul (by omega)
    generalize (s.clk.ttAcc + s.tt.rate * (4096 - s.tt.cycAdj).toNat) / ttUnit = n at carry
    omega

/-- Settles O5: part 46 of every command's mask but WINDOW_ALIVE's keeps the count of a running Tether, part 47 of all the remainder. -/
theorem theCountTakesEveryValueInOrder : Obligations.TheCountTakesEveryValueInOrder := by
  refine ⟨fun c s t h hrun hne => ?count, fun s t h hacc => ?remainder, fun s => tick_moves_count⟩
  case count => exact agree_exec 46 h (execMask_count c hne) hrun
  case remainder =>
    obtain rfl | ⟨c, rest, hc⟩ := step_cases h
    · exact agree_tick (k := 47) s (by decide) hacc
    · exact agree_exec 47 hc (execMask_remainder c) hacc

end Sys2Proof.Proofs
end

section
/-!
PROOFS. What is final and what is guarded (R40, R417, R484): the keys under a retention check and a key commit, the floor under a
confirmation and an activation, and the commands that reach each guarded field.
-/
namespace Sys2Proof.Proofs
open Sys2Proof Sys2Proof.Machine Sys2Proof.Laws

/-! ### What serving a request and firing an entry come to -/

/-- A command of a request leaves the state, answers the first check that fails, or acts. -/
theorem serve_cases (code : Nat) (chk : Req → State → Option Fail) (act : Req → State → State) (s : State) :
    serve code chk act s = s ∨ (∃ r f, Refused code chk r f s ∧ serve code chk act s = failReq r f (took r s)) ∨
      ∃ r, Runs code chk r s ∧ serve code chk act s = act r (took r s) := by
  cases hready : firstReady s.cmd.taken with
  | none => exact .inl (serve_of_none hready)
  | some r =>
    by_cases hcode : r.opcode = code ∧ s.upd.windowOpen = false
    · cases hchk : chk r (took r s) with
      | some f => exact .inr (.inl ⟨r, f, ⟨hready, hcode, hchk⟩, serve_of_refused ⟨hready, hcode, hchk⟩⟩)
      | none => exact .inr (.inr ⟨r, ⟨hready, hcode, hchk⟩, serve_of_runs ⟨hready, hcode, hchk⟩⟩)
    · refine .inl ?_
      unfold serve
      simp only [hready, hcode, if_false]

/-- An entry event leaves the state, or the due entry fires and leaves the queue. -/
theorem tlFire_cases {f : TlKind → TlEntry → Option (State → State)} {s : State} :
    tlFire f s = s ∨ ∃ e g, Due e s ∧ f e.kind e = some g ∧ tlFire f s = g (tlRemove e.seq s) := by
  cases hdue : tlDue s with
  | none => exact .inl (tlFire_of_none hdue)
  | some e =>
    cases hf : f e.kind e with
    | none => exact .inl (tlFire_of_other hdue hf)
    | some g => exact .inr ⟨e, g, hdue, hf, tlFire_of_due hdue hf⟩

/-! ### What a retention check and a key commit leave of the keys -/

/-- The fields of the key store that no check at BOOT changes: the commit flag, the debug port and the factory identity. -/
abbrev keysMask : Nat := 0x78000000

theorem keeps_keysMask {s t : State} (h : t.key = s.key) : Keeps keysMask s t := by
  refine ⟨fun k hk => ?_⟩
  unfold Agree
  split
  case h_28 | h_29 | h_30 | h_31 => rw [h]
  case h_49 => trivial
  all_goals exact absurd hk (by decide)

theorem execRetentionCheck_keys (ok0 ok1 memOk : Bool) {s t : State} (h : execRetentionCheck ok0 ok1 memOk s = .next t) :
    Keeps keysMask s t := by
  unfold execRetentionCheck at h
  injection h with h
  subst h
  split
  · extract_lets pwr log s1 s2
    have h1 : Keeps keysMask s s1 := by
      have cleared {x : State} (hx : x.key = s.key) (cause code : Nat) (content : List Nat) :
          Keeps keysMask s (rootCheck cause (logNs code 0xFF content (clearDomain x))) :=
        keeps_rootCheck _ _ rfl (keeps_logNs _ _ _ _ rfl (keeps_clearDomain _ rfl (keeps_keysMask hx)))
      subst s1
      split
      · refine cleared ?_ ..
        rfl
      split
      · refine cleared ?_ ..
        rfl
      · exact keeps_rootCheck _ _ rfl (Keeps.refl _ s)
    have h2 : Keeps keysMask s s2 := keeps_loadWorlds _ _ _ rfl h1
    refine Keeps.step (t := s2) (keeps_keysMask ?_) h2
    rfl
  · exact Keeps.refl _ s

/-- The debug port after a step: as it was, or locked and closed by a committed key. -/
def DebugStandsOrCloses (s t : State) : Prop :=
  (t.key.everCommitted = s.key.everCommitted ∧ t.key.debugLock = s.key.debugLock ∧ t.key.debugOpen = s.key.debugOpen) ∨
    (t.key.everCommitted = true ∧ t.key.debugLock = true ∧ t.key.debugOpen = false)

/-- The three fields of the debug port keep their values. -/
theorem DebugStandsOrCloses.of_keeps {s t : State} (h : Keeps 0x38000000 s t) : DebugStandsOrCloses s t :=
  .inl ⟨h.get 27 (by decide), h.get 28 (by decide), h.get 29 (by decide)⟩

theorem DebugStandsOrCloses.trans {s t u : State} (h : DebugStandsOrCloses s t) (g : DebugStandsOrCloses t u) :
    DebugStandsOrCloses s u := by
  obtain ⟨gc, gl, go⟩ | g := g
  · unfold DebugStandsOrCloses at *
    rwa [gc, gl, go]
  · exact .inr g

theorem firstCommit_debug (k : Nat) (s : State) : DebugStandsOrCloses s (firstCommit k s) := by
  unfold firstCommit
  split
  · exact .of_keeps (Keeps.refl _ s)
  · exact DebugStandsOrCloses.trans (.inr (by exact ⟨rfl, rfl, rfl⟩)) (.of_keeps (keeps_logNs _ _ _ _ rfl (Keeps.refl _ _)))

theorem commitSlot_debug (k c : Nat) (atBoot : Bool) (s : State) : DebugStandsOrCloses s (commitSlot k c atBoot s) := by
  unfold commitSlot
  extract_lets x
  split
  · exact .of_keeps (Keeps.refl _ s)
  extract_lets ended fin y s1 s2 s3 key s4 s5
  have h1 : Keeps 0x38000000 s s1 := keeps_putSlot _ _ _ rfl (keeps_tlCancel _ _ rfl (Keeps.refl _ s))
  have h2 : Keeps 0x38000000 s s2 := by
    subst s2
    split
    · exact keeps_tlPut _ _ _ _ _ _ rfl h1
    · exact h1
  have h3 : Keeps 0x38000000 s s3 := by
    subst s3
    split
    · exact keeps_groupKeyMoved _ _ _ rfl h2
    · exact h2
  have h4 : Keeps 0x38000000 s s4 := by
    subst s4
    split
    · subst key
      clear_value s3
      exact Keeps.in_key rfl (fun _ => rfl) (fun _ => rfl) (fun _ => rfl) (fun _ => rfl) (fun _ => rfl) (fun _ => rfl) h3
    · exact keeps_stopOne _ _ _ rfl h3
  clear_value s4
  have h5 : DebugStandsOrCloses s s5 :=
    (DebugStandsOrCloses.of_keeps h4).trans
      ((firstCommit_debug k s4).trans (.of_keeps (keeps_logNs _ _ _ _ rfl (Keeps.refl _ _))))
  split
  · exact h5.trans (.of_keeps (keeps_complete _ _ _ _ rfl (Keeps.refl _ _)))
  · exact h5

theorem execKeyCommitEntry_debug {s t : State} (h : execKeyCommitEntry s = .next t) : DebugStandsOrCloses s t := by
  unfold execKeyCommitEntry at h
  injection h with h
  subst h
  obtain hnone | ⟨e, g, -, hg, hfire⟩ := tlFire_cases (s := s)
  · rw [hnone]
    exact .of_keeps (Keeps.refl _ s)
  · rw [hfire]
    have removed : DebugStandsOrCloses s (tlRemove e.seq s) := .of_keeps (keeps_tlRemove _ _ rfl (Keeps.refl _ s))
    split at hg
    · obtain rfl := Option.some.inj hg
      exact removed.trans (commitSlot_debug ..)
    · nomatch hg

/-! ### What a confirmation and an activation do to the floor -/

/-- A confirmation keeps the floor or raises it (R483). -/
theorem confirmTrial_floor (cause : Nat) (s : State) : s.upd.floor ≤ (confirmTrial cause s).upd.floor := by
  unfold confirmTrial
  extract_lets u want raise floor s1 s2
  have raised : s.upd.floor ≤ floor := by
    subst floor raise u
    split
    · next h => exact Nat.le_of_lt (of_decide_eq_true (Bool.and_eq_true_iff.mp h).1)
    · exact Nat.le_refl _
  have logged : Keeps 0x200000000 s1 s2 := keeps_logEv _ _ _ _ rfl (Keeps.refl _ s1)
  split
  · exact Nat.le_trans raised (Nat.le_of_eq ((keeps_logNs _ _ _ s2 rfl logged).get 33 (by decide)).symm)
  · exact Nat.le_trans raised (Nat.le_of_eq (logged.get 33 (by decide)).symm)

theorem execTrialConfirm_floor {s t : State} (h : execTrialConfirm s = .next t) : s.upd.floor ≤ t.upd.floor := by
  unfold execTrialConfirm at h
  injection h with h
  subst h
  split
  · exact confirmTrial_floor 0 s
  · exact Nat.le_refl _

/-- An activation confirms a trial, starts a set in BOOT or is admitted: none of them lowers the floor. -/
theorem actUpdActivate_floor (r : Req) (s : State) : s.upd.floor ≤ (actUpdActivate r s).upd.floor := by
  unfold actUpdActivate
  split
  · have answered : Keeps 0x200000000 (confirmTrial 1 s) (okN r [] (confirmTrial 1 s)) := keeps_okN _ _ _ rfl (Keeps.refl _ _)
    exact Nat.le_trans (confirmTrial_floor 1 s) (Nat.le_of_eq (answered.get 33 (by decide)).symm)
  split
  · have started : Keeps 0x200000000 s (activateHalted r s) := keeps_activateHalted _ _ rfl (Keeps.refl _ _)
    exact Nat.le_of_eq (Eq.symm (started.get 33 (by decide)))
  · have admitted (k : State → State) (hk : ∀ x, Keeps 0x200000000 x (k x)) :
        Keeps 0x200000000 s (admitReq 4 (bankEntered s) r k s) := keeps_admitReq _ _ _ _ _ hk rfl (Keeps.refl _ s)
    refine Nat.le_of_eq (Eq.symm ((admitted _ fun x => ?_).get 33 (by decide)))
    exact keeps_acceptN _ _ rfl (Keeps.in_upd rfl (fun _ => rfl) (fun _ => rfl) (Keeps.refl _ x))

theorem execUpdActivate_floor {s t : State} (h : execUpdActivate s = .next t) : s.upd.floor ≤ t.upd.floor := by
  unfold execUpdActivate at h
  injection h with h
  subst h
  obtain hrest | ⟨r, f, -, hfail⟩ | ⟨r, -, hact⟩ := serve_cases 0x0F04 chkUpdActivate actUpdActivate s
  · exact Nat.le_of_eq (congrArg (fun t => t.upd.floor) hrest.symm)
  · rw [hfail]
    have failed : Keeps 0x200000000 (took r s) (failReq r f (took r s)) := keeps_failReq _ _ _ rfl (Keeps.refl _ _)
    exact Nat.le_of_eq (Eq.symm (failed.get 33 (by decide)))
  · rw [hact]
    exact actUpdActivate_floor r (took r s)

/-! ### What is guarded -/

/-- Each guarded field is kept by every command but those that the spec names for it. -/
theorem execMask_worlds (c : Instr) (h : ∀ a b d, c ≠ .retentionCheck a b d) : (execMask c).testBit 31 = true := by
  cases c with
  | retentionCheck a b d => exact absurd rfl (h a b d)
  | _ => dsimp only [execMask]; decide

theorem execMask_straps (c : Instr) (h : ∀ x y z, c ≠ .strapSample x y z) : (execMask c).testBit 37 = true := by
  cases c with
  | strapSample x y z => exact absurd rfl (h x y z)
  | _ => dsimp only [execMask]; decide

theorem execMask_commissioned (c : Instr) (h : c ≠ .sysMode) : (execMask c).testBit 40 = true := by
  cases c with
  | sysMode => exact absurd rfl h
  | _ => dsimp only [execMask]; decide

theorem execMask_active (c : Instr) (hact : c ≠ .updActivate) (hclose : ∀ l, c ≠ .handoverClose l)
    (htime : ∀ b l, c ≠ .handoverTimeout b l) (hverify : ∀ a b l, c ≠ .bankVerify a b l) : (execMask c).testBit 34 = true := by
  cases c with
  | updActivate => exact absurd rfl hact
  | handoverClose l => exact absurd rfl (hclose l)
  | handoverTimeout b l => exact absurd rfl (htime b l)
  | bankVerify a b l => exact absurd rfl (hverify a b l)
  | _ => dsimp only [execMask]; decide

theorem execMask_floor (c : Instr) (hconf : c ≠ .trialConfirm) (hact : c ≠ .updActivate) : (execMask c).testBit 33 = true := by
  cases c with
  | trialConfirm => exact absurd rfl hconf
  | updActivate => exact absurd rfl hact
  | _ => dsimp only [execMask]; decide

theorem execMask_identity (c : Instr) (h : ∀ a b d, c ≠ .retentionCheck a b d) : (execMask c).testBit 30 = true := by
  cases c with
  | retentionCheck a b d => exact absurd rfl (h a b d)
  | _ => dsimp only [execMask]; decide

theorem execMask_debug (c : Instr) (hret : ∀ a b d, c ≠ .retentionCheck a b d) (hcommit : c ≠ .keyCommitEntry)
    (hstrap : ∀ x y z, c ≠ .strapSample x y z) : execMask c &&& 0x38000000 = 0x38000000 := by
  cases c with
  | retentionCheck a b d => exact absurd rfl (hret a b d)
  | keyCommitEntry => exact absurd rfl hcommit
  | strapSample x y z => exact absurd rfl (hstrap x y z)
  | _ => dsimp only [execMask]; decide

/-- Only a key commit and the sampling of the straps reach the debug port. -/
theorem exec_debug_kept {c : Instr} {s t : State} (h : exec c s = .next t) (hcommit : c ≠ .keyCommitEntry)
    (hstrap : ∀ x y z, c ≠ .strapSample x y z) : Keeps 0x38000000 s t := by
  by_cases hret : ∃ a b d, c = .retentionCheck a b d
  · obtain ⟨a, b, d, rfl⟩ := hret
    exact (execRetentionCheck_keys a b d h).weaken (by decide)
  · simp only [not_exists] at hret
    exact (keeps_exec c s t h).weaken (by rw [Nat.and_comm]; exact execMask_debug c hret hcommit hstrap)

/-- STRAP_SAMPLE keeps the commit flag and the lock; a locked port is closed (R40). -/
theorem execStrapSample_debug {a b : BitVec 8} {x : LastSample} {s t : State} (h : execStrapSample a b x s = .next t) :
    t.key.everCommitted = s.key.everCommitted ∧ t.key.debugLock = s.key.debugLock ∧
      (s.key.debugLock = true → s.key.debugOpen = false → t.key.debugOpen = false) := by
  have kept := keeps_execStrapSample a b x s t h
  refine ⟨kept.get 27 (by decide), kept.get 28 (by decide), fun hlock hopen => ?_⟩
  unfold execStrapSample at h
  injection h with h
  subst h
  split
  · extract_lets w bad pwr key s1
    have rest : Keeps 0x20000000 s1 (applyEff (noteVin x.vin (if bad then logNs evStrapUnstable 0xFF [a.toNat, b.toNat, x.straps.toNat] s1
        else s1))) := by
      refine keeps_applyEff _ rfl (keeps_noteVin _ _ rfl ?_)
      split
      · exact keeps_logNs _ _ _ _ rfl (Keeps.refl _ s1)
      · exact Keeps.refl _ s1
    have sampled : s1.key.debugOpen = (w.getLsbD 7 && !s.key.debugLock) := rfl
    rw [show _ = _ from rest.get 29 (by decide), sampled, hlock, Bool.not_true, Bool.and_false]
  · exact hopen

/-- Every command leaves what is final (R40, R417, R484). -/
theorem exec_nothingUndone {c : Instr} {s t : State} (h : exec c s = .next t) : NothingUndone s t ∧ (DebugClosed s → DebugClosed t) := by
  have part : t.dev = s.dev := agree_exec 0 h (by cases c <;> dsimp only [execMask] <;> decide)
  have identity : t.key.identity = s.key.identity := by
    by_cases hret : ∃ a b d, c = .retentionCheck a b d
    · obtain ⟨a, b, d, rfl⟩ := hret
      exact (execRetentionCheck_keys a b d h).get 30 (by decide)
    · simp only [not_exists] at hret
      exact agree_exec 30 h (execMask_identity c hret)
  have floor : s.upd.floor ≤ t.upd.floor := by
    by_cases hconf : c = .trialConfirm
    · subst hconf
      exact execTrialConfirm_floor h
    by_cases hact : c = .updActivate
    · subst hact
      exact execUpdActivate_floor h
    exact Nat.le_of_eq (Eq.symm (agree_exec 33 h (execMask_floor c hconf hact)))
  have standing : DebugStandsOrCloses s t ∨ ∃ x y z, c = .strapSample x y z := by
    by_cases hcommit : c = .keyCommitEntry
    · subst hcommit
      exact .inl (execKeyCommitEntry_debug h)
    by_cases hstrap : ∃ x y z, c = .strapSample x y z
    · exact .inr hstrap
    simp only [not_exists] at hstrap
    exact .inl (.of_keeps (exec_debug_kept h hcommit hstrap))
  obtain (⟨hc, hl, ho⟩ | ⟨hc, hl, ho⟩) | ⟨x, y, z, rfl⟩ := standing
  · refine ⟨⟨part, floor, hc.trans, hl.trans, identity⟩, fun closed => ?_⟩
    unfold DebugClosed
    rwa [hc, hl, ho]
  · exact ⟨⟨part, floor, fun _ => hc, fun _ => hl, identity⟩, fun _ _ => ⟨hl, ho⟩⟩
  · obtain ⟨hc, hl, ho⟩ := execStrapSample_debug h
    refine ⟨⟨part, floor, hc.trans, hl.trans, identity⟩, fun closed hcommitted => ?_⟩
    obtain ⟨hlock, hopen⟩ := closed (hc.symm.trans hcommitted)
    exact ⟨hl.trans hlock, ho hlock hopen⟩

/-- A tick leaves what is final. -/
theorem tick_nothingUndone (s : State) : NothingUndone s (tick s) ∧ (DebugClosed s → DebugClosed (tick s)) := by
  have key : (tick s).key = s.key := agree_tick (k := 22) s (by decide)
  have floor : (tick s).upd.floor = s.upd.floor := agree_tick (k := 33) s (by decide)
  refine ⟨⟨agree_tick (k := 0) s (by decide), Nat.le_of_eq floor.symm, ?_, ?_, ?_⟩, ?_⟩
  · exact (congrArg Keys.everCommitted key).trans
  · exact (congrArg Keys.debugLock key).trans
  · exact congrArg Keys.identity key
  · unfold DebugClosed
    rw [key]
    exact id

/-- Settles O3: a step is a tick or a command, and each guarded field is in the mask of every command but those named for it. -/
theorem noStepUndoesWhatIsFinal : Obligations.NoStepUndoesWhatIsFinal := by
  refine ⟨fun s t h => ?final, fun c s t h =>
    ⟨fun hne => ?worlds, fun hne => ?straps, fun hne => ?commissioned, fun hne => ?active, fun hne => ?floor, fun hne => ?debugOpen,
      fun hne => ?everCommitted⟩⟩
  case final =>
    obtain rfl | ⟨c, rest, hc⟩ := step_cases h
    · exact tick_nothingUndone s
    · obtain ⟨⟨part, floor, committed, locked, identity⟩, closed⟩ := exec_nothingUndone hc
      exact ⟨⟨part, floor, committed, locked, identity⟩, closed⟩
  case worlds =>
    refine Classical.byContradiction fun hnot => ?_
    simp only [not_exists] at hnot
    exact hne (agree_exec 31 h (execMask_worlds c hnot))
  case straps =>
    refine Classical.byContradiction fun hnot => ?_
    simp only [not_exists] at hnot
    exact hne (agree_exec 37 h (execMask_straps c hnot))
  case commissioned =>
    refine Classical.byContradiction fun hnot => ?_
    exact hne (agree_exec 40 h (execMask_commissioned c hnot))
  case active =>
    refine Classical.byContradiction fun hnot => ?_
    simp only [not_or, not_exists] at hnot
    obtain ⟨hact, hclose, htime, hverify⟩ := hnot
    exact hne (agree_exec 34 h (execMask_active c hact hclose htime hverify))
  case floor =>
    refine Classical.byContradiction fun hnot => ?_
    obtain ⟨hconf, hact⟩ := not_or.mp hnot
    exact hne (agree_exec 33 h (execMask_floor c hconf hact))
  case debugOpen =>
    refine Classical.byContradiction fun hnot => ?_
    obtain ⟨hcommit, hstrap⟩ := not_or.mp hnot
    simp only [not_exists] at hstrap
    exact hne ((exec_debug_kept h hcommit hstrap).get 29 (by decide))
  case everCommitted =>
    refine Classical.byContradiction fun hcommit => ?_
    by_cases hstrap : ∃ x y z, c = .strapSample x y z
    · obtain ⟨x, y, z, rfl⟩ := hstrap
      exact hne (execStrapSample_debug h).1
    · simp only [not_exists] at hstrap
      exact hne ((exec_debug_kept h hcommit hstrap).get 27 (by decide))

end Sys2Proof.Proofs
end

section
/-!
PROOFS. The delivered module.
-/
namespace Sys2Proof.Proofs
open Sys2Proof Sys2Proof.Machine Sys2Proof.Laws

/-- The delivered module has no committed key, so its debug port need not be locked. -/
theorem debugClosed_reset : DebugClosed State.reset := fun h => by nomatch h

/-- Settles O6: each field is that of `State.reset` as written; the return queues are empty (`fits_all`). -/
theorem theDeliveredModule : Obligations.TheDeliveredModule := by
  refine ⟨rfl, rfl, rfl, rfl, rfl, rfl, rfl, rfl, rfl, rfl, rfl, rfl, rfl, rfl, rfl, rfl, rfl, rfl, rfl, rfl, rfl, rfl, rfl, rfl, rfl,
    rfl, rfl, rfl, rfl, rfl, rfl, rfl, rfl, rfl, debugClosed_reset, fits_all, by decide⟩

end Sys2Proof.Proofs
end

section
/-!
PROOFS. What the shared operations come to: a change of mode into or out of BOOT makes a record and nothing else; what a record, a
notification and a change of mode leave unchanged.
-/
namespace Sys2Proof.Proofs
open Sys2Proof Sys2Proof.Machine Sys2Proof.Laws

/-- A change of mode into or out of BOOT is at most one more record (R65). -/
theorem reportMode_of_boot {oldMode : Mode} {s : State} (h : oldMode = .boot ∨ s.pwr.mode = .boot) (oldFlags cause : Nat) :
    ∃ lg, reportMode oldMode oldFlags cause s = { s with log := lg } := by
  unfold reportMode
  split
  · exact ⟨s.log, rfl⟩
  · extract_lets s1
    exact ⟨_, rfl⟩

end Sys2Proof.Proofs
end

section
/-!
PROOFS. Supply and pads (R6, R28 to R31, R43 to R46, R54, R56): what each supply event comes to, and what a pad shows without supply,
without VIOH, without its unit, and at the release of PGOOD.
-/
namespace Sys2Proof.Proofs
open Sys2Proof Sys2Proof.Machine Sys2Proof.Laws

/-! ### Supply -/

theorem bootStep_ne_off {s : State} (h : alive s = true) : s.pwr.bootStep ≠ .off := by
  intro e
  simp [alive, e] at h

section
variable {s : State} {vin : Nat}

/-- A rise of VIN powers the part up (R56): at most the log beside the supply and the source of BAK. -/
theorem exec_vinOnRise (hoff : alive s = false) (hon : s.dev.vinOn ≤ vin) :
    ∃ lg, exec (.vinOnRise vin) s = .next { s with
      pwr := { s.pwr with
        vin := vin, bootStep := if s.pwr.resetLow then .inReset else .rails, mode := .boot
        cause := if s.pwr.shelfArmed then 0xB else if s.rtc.token then 0xA else 1
        puCause := some (if s.pwr.shelfArmed then 0xB else if s.rtc.token then 0xA else 1)
        bootFlags := if s.pwr.mark = some 7 then 0 else 2, sealed := false, fromShelf := s.pwr.shelfArmed, shelfArmed := false }
      rtc := { s.rtc with onCell := false, winWhole := false }
      log := lg } := by
  change ∃ lg, execVinOnRise vin s = _
  unfold execVinOnRise
  rw [if_neg (by simp [hoff, hon])]
  extract_lets shelf cause pwr0 pwr rtc s1
  obtain ⟨lg, hlg⟩ := reportMode_of_boot (oldMode := s.pwr.mode) (s := logNs evReset 0xFF [cause] s1) (.inr rfl) (flagsByte s) 0
  exact ⟨lg, congrArg Host.Outcome.next hlg⟩

theorem exec_railsGood (h : s.pwr.bootStep = .rails) : exec .railsGood s = .next { s with pwr := { s.pwr with
    pgood := true, v33aux := true, bootStep := .phase, pfwN := decide (s.pwr.vPfwEff * 10 ≤ s.pwr.vin) } } :=
  congrArg Host.Outcome.next (if_pos (by simp [h]))

theorem exec_evVinSurge (halive : alive s = true) (hsurge : 7500 < vin) :
    exec (.evVinSurge vin) s = .next (logNs evVinSurge 0xFF [vin / 50] (noteVin vin s)) :=
  congrArg Host.Outcome.next (if_pos (by simp [halive, hsurge]))

/-- The 60 s of R45 are over: V_PFW_EFF takes its configured value. -/
theorem exec_pfwEffRestore {t0 : Nat} (hsince : s.pwr.pfwOkSince = some t0) (halive : alive s = true)
    (hlow : s.pwr.vPfwEff < pfwThreshold s) (hvin : pfwThreshold s * 10 + 50 ≤ vin) (htime : t0 + 2400000000 ≤ s.clk.ticks) :
    exec (.pfwEffRestore vin) s = .next (setEff (pfwThreshold s) (noteVin vin s)) := by
  refine congrArg Host.Outcome.next ((if_neg (by simp [halive])).trans ?_)
  simp only [hsince]
  exact if_pos (by simp [hlow, hvin, htime])

theorem exec_resetNRelease (h : s.pwr.bootStep = .inReset) :
    ∃ lg, exec .resetNRelease s = .next { s with
      pwr := { s.pwr with
        resetLow := false, bootStep := if s.pwr.pgood then .phase else .rails, cause := s.pwr.puCause.getD 3 }
      log := lg } :=
  ⟨_, congrArg Host.Outcome.next (if_pos (by simp [h]))⟩

/-- A loss of VIN leaves the module unpowered (R49, R50). -/
theorem exec_vinLoss (halive : alive s = true) (hlow : vin < s.dev.vinOff) :
    ∃ t, exec (.vinLoss vin) s = .next t ∧ t.pwr.bootStep = .off ∧ t.pwr.pgood = false ∧ t.pwr.v33aux = false ∧ t.pwr.pfwN = false ∧
      t.pwr.mode = (if s.pwr.shelfArmed then .shelf else .keep) :=
  ⟨_, congrArg Host.Outcome.next (if_neg (by simp [halive, hlow])), rfl, rfl, rfl, rfl, rfl⟩

end

/-! ### Pads -/

/-- No pad of a unit that a variant may lack is a pad of a host port. -/
theorem host_of_block {x : Pad} {b : Nat} (h : x.block = some b) : x.host = none := by
  cases x <;> simp_all [Pad.block, Pad.host]

section
variable {s : State} {x : Pad}

theorem padState_of_powered (h : s.pwr.bootStep ≠ .off) :
    padState s x = if x.host.isSome && !s.pwr.viohGood then .z else if padAbsent s x then .zPd else padLive s x :=
  if_neg (by simpa using h)

/-- Unpowered, a pad other than PGOOD, PFW_N and the tamper inputs is high-impedance (R6). -/
theorem padState_of_unpowered (h : s.pwr.bootStep = .off) (hpgood : x ≠ .pgood) (hpfwN : x ≠ .pfwN) (htamp : ∀ k, x ≠ .tamp k) :
    padState s x = .z := by
  unfold padState
  rw [if_pos (by simp [h])]
  split
  · exact absurd rfl hpgood
  · exact absurd rfl hpfwN
  · exact absurd rfl (htamp _)
  · rfl

theorem padState_of_viohLost (hvioh : s.pwr.viohGood = false) (hhost : x.host ≠ none) : padState s x = .z := by
  by_cases hoff : s.pwr.bootStep = .off
  · refine padState_of_unpowered hoff ?_ ?_ ?_
    · rintro rfl
      exact hhost rfl
    · rintro rfl
      exact hhost rfl
    · rintro k rfl
      exact hhost rfl
  · rw [padState_of_powered hoff, if_pos]
    simp [hvioh, Option.isSome_iff_ne_none.mpr hhost]

/-- A pad of an absent unit is pulled down (R6, R29). -/
theorem padState_of_absent {b : Nat} (hblock : x.block = some b) (hoff : s.pwr.bootStep ≠ .off)
    (habsent : blockPresent s.dev.variant b = false) : padState s x = .zPd := by
  rw [padState_of_powered hoff, if_neg (by simp [host_of_block hblock]), if_pos]
  simp [padAbsent, hblock, habsent]

end

/-- The state with good rails, in which the straps have not been sampled (R44). -/
def railsUp (s : State) : State := { s with pwr := { s.pwr with
  pgood := true, v33aux := true, bootStep := .phase, pfwN := decide (s.pwr.vPfwEff * 10 ≤ s.pwr.vin) } }

section
variable (s : State)

theorem railsUp_powered : (railsUp s).pwr.bootStep ≠ .off := by simp [railsUp]

/-- A pad of a present unit, of no host port, is live as soon as the rails are good. -/
theorem padState_railsUp_of_present {x : Pad} (hhost : x.host = none) (hblock : ∀ b, x.block = some b → blockPresent s.dev.variant b = true) :
    padState (railsUp s) x = padLive (railsUp s) x := by
  have present : padAbsent (railsUp s) x = false := by
    cases hb : x.block with
    | none => simp [padAbsent, hb, hhost]
    | some b => simp [padAbsent, hb, hhost, railsUp, hblock b hb]
  rw [padState_of_powered (railsUp_powered s), if_neg (by simp [hhost]), if_neg (by simp [present])]

/-- Before the straps are sampled H2 is pulled down, where VIOH is good (R29, R37). -/
theorem padState_railsUp_h2A (k : Nat) : padState (railsUp s) (.h2A k) = if s.pwr.viohGood then .zPd else .z := by
  rw [padState_of_powered (railsUp_powered s)]
  have absent : padAbsent (railsUp s) (.h2A k) = true := by simp [padAbsent, Pad.host, Pad.block, strapsSampled, railsUp]
  have vioh : (railsUp s).pwr.viohGood = s.pwr.viohGood := rfl
  cases hvioh : s.pwr.viohGood <;> simp [absent, Pad.host, vioh, hvioh]

theorem padState_railsUp_h3Miso : padState (railsUp s) .h3Miso = .z := by
  rw [padState_of_powered (railsUp_powered s), if_neg (c := padAbsent _ _ = true) (by simp [padAbsent, Pad.host, Pad.block])]
  exact ite_self _

theorem padState_railsUp_hIrqN (hvioh : s.pwr.viohGood = true) : padState (railsUp s) (.hIrqN 0) = .zPu := by
  rw [padState_of_powered (railsUp_powered s), if_neg (by simp [railsUp, hvioh]), if_neg (by simp [padAbsent, Pad.host, Pad.block])]
  change irqPad (railsUp s) 0 = _
  unfold irqPad
  exact if_pos (by simp [windowAlive, railsUp])

theorem sgnUp_railsUp : sgnUp (railsUp s) = false := by simp [sgnUp, served, railsUp]

end

/-! ### The obligation -/

/-- Settles O8: each supply event comes to the state written in its lemma, and each pad to the clause of `padState` that applies. -/
theorem supplyEventsActByTheirRules : Obligations.SupplyEventsActByTheirRules := by
  intro s
  refine ⟨fun vin hoff hon => ?rise, exec_railsGood, fun vin => exec_evVinSurge, fun good => rfl,
    fun vin t0 hsince halive hlow hvin htime => ?restore, fun hreset => ?release, fun x hhost => ?vioh,
    fun x b => padState_of_absent, fun hrails => ?rails, fun vin halive hlow => ?unpowered⟩
  case rise =>
    obtain ⟨lg, hlg⟩ := exec_vinOnRise hoff hon
    exact ⟨_, hlg, rfl, rfl, rfl, rfl, rfl, rfl, rfl, rfl, rfl, rfl, rfl, rfl, rfl, rfl, rfl⟩
  case restore =>
    exact ⟨_, exec_pfwEffRestore hsince halive hlow hvin htime, rfl, rfl, rfl, rfl, rfl, rfl⟩
  case release =>
    obtain ⟨lg, hlg⟩ := exec_resetNRelease hreset
    exact ⟨_, hlg, rfl, rfl, rfl, rfl, rfl, rfl, rfl, rfl⟩
  case vioh =>
    exact ⟨_, rfl, padState_of_viohLost rfl hhost⟩
  case rails =>
    have live {x : Pad} (hhost : x.host = none) (hblock : x.block = none) : padState (railsUp s) x = padLive (railsUp s) x :=
      padState_railsUp_of_present s hhost (by simp [hblock])
    refine ⟨railsUp s, exec_railsGood hrails, live rfl rfl, live rfl rfl, live rfl rfl, live rfl rfl, padState_railsUp_h3Miso s,
      padState_railsUp_h2A s, padState_railsUp_hIrqN s, fun hsign => ?sign⟩
    have signLive {x : Pad} (hhost : x.host = none) (hblock : x.block = some 0x0C) :
        padState (railsUp s) x = padLive (railsUp s) x :=
      padState_railsUp_of_present s hhost (by simp [hblock, hsign])
    refine ⟨(signLive rfl rfl).trans ?_, fun k => (signLive rfl rfl).trans ?_⟩
    · simp [padLive, sgnUp_railsUp]
    · simp [padLive, sgnUp_railsUp]
  case unpowered =>
    obtain ⟨t, ht, hoff, -⟩ := exec_vinLoss halive hlow
    refine ⟨t, ht, ?_, ?_, fun x => padState_of_unpowered hoff⟩
    all_goals simp [padState, hoff]

end Sys2Proof.Proofs
end

section
/-!
PROOFS. The steps of BOOT: the clause on RETENTION_CHECK says that the ports stand, and a loss of the key store completes the generations
that are under way, on their ports.
-/
namespace Sys2Proof.Proofs
open Sys2Proof Sys2Proof.Machine Sys2Proof.Laws

/-- BOOT step 4 without a retention token, with slot 1 in service and the generation of a key for it under way. -/
def generatingAtRetentionLoss : State := { State.reset with
  pwr := { State.reset.pwr with bootStep := .secure }
  key := { State.reset.key with
    slots := [(1, { emptySlot with st := .active })]
    gens := [⟨1, { port := 0, tag := 0, id := 0, ntf := true, resNtf := 0, opcode := 0x0E01 }, 0⟩] } }

/-- The messages in H0's notification queue. -/
def h0Notifications (s : State) : Nat := (s.ports.get 0).ntf.msgs.length

/-- The generation is completed KEY_INVALID on H0 (R429). -/
theorem retentionCheck_completes_generation :
    (match exec (.retentionCheck true true true) generatingAtRetentionLoss with
      | .next t => h0Notifications t
      | _ => 0) = 1 := by decide +kernel

/-- Refutes O9: where the retention check finds the key store lost (R429), it answers the generations under way, so the ports change. -/
theorem not_bootStepsLeadOneToTheNext : ¬ Obligations.BootStepsLeadOneToTheNext := by
  intro h
  obtain ⟨-, -, -, check, -⟩ := h generatingAtRetentionLoss
  obtain ⟨t, ht, -, -, -, hports, -⟩ := check true true true rfl
  have completed := retentionCheck_completes_generation
  simp only [ht, h0Notifications, hports] at completed
  exact absurd completed (by decide)

end Sys2Proof.Proofs
end

section
/-!
PROOFS. The power-fail state: PFW_N is released only with good rails (R46), which the clause on PFW_ABORT leaves out.
-/
namespace Sys2Proof.Proofs
open Sys2Proof Sys2Proof.Machine Sys2Proof.Laws

/-- The wait after flush step 7 in a module whose rails are not good. -/
def waitingWithoutRails : State := { State.reset with
  pwr := { State.reset.pwr with bootStep := .done, pgood := false, pfwN := false, flush := ⟨true, 7, 0⟩ } }

/-- VIN above the release level ends the power-fail state and leaves PFW_N low. -/
theorem pfwAbort_without_rails :
    (match exec (.pfwAbort 10000) waitingWithoutRails with
      | .next t => t.pwr.pfwN
      | _ => true) = false := by decide +kernel

/-- Refutes O10: a powered module without good rails does not release PFW_N at PFW_ABORT. -/
theorem not_powerFailRunsTheFlushSequence : ¬ Obligations.PowerFailRunsTheFlushSequence := by
  intro h
  obtain ⟨-, abort, -⟩ := h waitingWithoutRails
  obtain ⟨t, ht, -, -, hpfwN, -⟩ := abort 10000 rfl rfl rfl (by decide)
  have low := pfwAbort_without_rails
  simp only [ht, hpfwN] at low
  exact absurd low (by decide)

end Sys2Proof.Proofs
end

section
/-!
PROOFS. Resets (R54 to R58): the state in which a reset enters BOOT, and the condition of each reset from within.
-/
namespace Sys2Proof.Proofs
open Sys2Proof Sys2Proof.Machine Sys2Proof.Laws

/-- BOOT entered by a reset (R55): its first step and cause; the host windows at their reset values, no request taken; DRAM sealed only at a
warm reset (R57). -/
structure EntersBoot (cold : Bool) (cause : Nat) (next : BootStep) (t : State) : Prop where
  bootStep : t.pwr.bootStep = next
  mode : t.pwr.mode = .boot
  cause : t.pwr.cause = cause
  resetAt : t.pwr.resetAt = none
  sealed : cold = true → t.pwr.sealed = false
  ports : t.ports = Quad.all initPort
  taken : t.cmd.taken = []

/-- A loss of records is logged and flagged, and touches nothing of the reset (R50, R57). -/
theorem EntersBoot.flushIncomplete {cold : Bool} {cause : Nat} {next : BootStep} {t : State} (h : EntersBoot cold cause next t)
    (step lost : Nat) : EntersBoot cold cause next (flushIncomplete step lost t) :=
  ⟨h.bootStep, h.mode, h.cause, h.resetAt, h.sealed, h.ports, h.taken⟩

theorem EntersBoot.logNs {cold : Bool} {cause : Nat} {next : BootStep} {t : State} (h : EntersBoot cold cause next t)
    (code inst : Nat) (content : List Nat) : EntersBoot cold cause next (logNs code inst content t) :=
  ⟨h.bootStep, h.mode, h.cause, h.resetAt, h.sealed, h.ports, h.taken⟩

theorem enterReset_entersBoot (cold : Bool) (cause : Nat) (next : BootStep) (keepPu : Bool) (s : State) :
    EntersBoot cold cause next (enterReset cold cause next keepPu s) := by
  unfold enterReset
  extract_lets lost s1 sealed pwr1 pwr s2
  have entered : EntersBoot cold cause next s2 := by
    obtain ⟨lg, hlg⟩ := reportMode_of_boot (oldMode := s.pwr.mode) (s := { s1 with pwr := pwr }) (.inr rfl) (flagsByte s) (resetCause s)
    rw [show s2 = _ from hlg]
    refine ⟨rfl, rfl, rfl, rfl, fun hcold => ?_, rfl, rfl⟩
    change (!cold && (s.pwr.sealed || s.pwr.bootStep == .finish || served s)) = false
    rw [hcold]
    rfl
  split
  · exact entered.flushIncomplete ..
  · exact entered

section
variable {s : State}

theorem internalReset_entersBoot (cold : Bool) (cause : Nat) (halive : alive s = true) (hreset : s.pwr.bootStep ≠ .inReset) :
    EntersBoot cold cause .phase (internalReset cold cause s) := by
  unfold internalReset
  rw [if_pos (by simp [halive, hreset])]
  exact (enterReset_entersBoot ..).logNs ..

/-- The secure pair runs only in a powered module out of RESET_N. -/
theorem alive_of_securePairRuns (h : securePairRuns s = true) : alive s = true ∧ s.pwr.bootStep ≠ .inReset := by
  unfold securePairRuns at h
  unfold alive
  split at h <;> simp_all

theorem alive_of_fwRuns (h : fwRuns s = true) : alive s = true ∧ s.pwr.bootStep ≠ .inReset := by
  unfold fwRuns at h
  unfold alive
  split at h <;> simp_all

/-- A reset that firmware, a pair or the firewall brings about. -/
theorem internalReset_of_runs (cold : Bool) (cause : Nat) (h : alive s = true ∧ s.pwr.bootStep ≠ .inReset) :
    EntersBoot cold cause .phase (internalReset cold cause s) := internalReset_entersBoot cold cause h.1 h.2

/-- RESET_N low for 10 µs (R54). -/
theorem exec_resetNAssert {us : Nat} (hus : 10 ≤ us) (halive : alive s = true) (hreset : s.pwr.bootStep ≠ .inReset) :
    ∃ t, exec (.resetNAssert us) s = .next { t with pwr := { t.pwr with resetLow := true } } ∧ EntersBoot false 3 .inReset t := by
  have run : alive { s with clk := { s.clk with free := s.clk.free + 1 } } = true := halive
  refine ⟨_, congrArg Host.Outcome.next ((if_pos (.inl hus)).trans ?_), enterReset_entersBoot false 3 .inReset s.pwr.puCause.isSome
    { s with clk := { s.clk with free := s.clk.free + 1 } }⟩
  dsimp only
  rw [if_pos (by simp [run, hreset])]

theorem exec_railFault (halive : alive s = true) (hreset : s.pwr.bootStep ≠ .inReset) :
    ∃ t, exec .railFault s = .next (railsDown t) ∧ EntersBoot true 2 .rails t :=
  ⟨_, congrArg Host.Outcome.next ((if_neg (by simp [halive])).trans (if_neg (by simp [hreset]))), (enterReset_entersBoot ..).logNs ..⟩

theorem exec_softwareReset {t0 : Nat} (hat : s.pwr.resetAt = some t0) (hdue : t0 ≤ s.clk.ticks) :
    exec .softwareReset s = .next (internalReset false 4 s) := by
  change execSoftwareReset s = _
  unfold execSoftwareReset
  rw [hat]
  exact congrArg Host.Outcome.next (if_pos hdue)

theorem exec_firewallViolation {part : Bool} {item block inst : Nat} (hrun : fwRuns s = true)
    (hacc : accessorSecure s block inst = false) (htarget : (if part then partSecure s item else regionSecure s item) = true) :
    exec (.firewallViolation part item block inst) s =
      .next (internalReset false 0xD (logNs evWorldViolation 0xFF [item, block] s)) :=
  congrArg Host.Outcome.next (if_pos (by simp only [hrun, hacc, htarget]; rfl))

end

/-- Settles O11: every reset enters BOOT by `enterReset`, with its own cause. -/
theorem everyResetEntersBootWithItsCause : Obligations.EveryResetEntersBootWithItsCause := by
  intro s
  refine ⟨fun us hus halive hreset => ?pin, fun halive hreset => ?rails, fun t0 hat hdue halive hreset => ?software, fun hrun => ?watchdog,
    fun hrun => ?control, fun hrun => ?secure, fun part item block inst hrun hacc htarget => ?firewall⟩
  case pin =>
    obtain ⟨t, ht, boot⟩ := exec_resetNAssert hus halive hreset
    exact ⟨_, ht, rfl, boot.bootStep, boot.mode, boot.cause, boot.ports, boot.taken⟩
  case rails =>
    obtain ⟨t, ht, boot⟩ := exec_railFault halive hreset
    exact ⟨_, ht, boot.bootStep, boot.mode, boot.cause, rfl, boot.sealed rfl, boot.ports⟩
  case software =>
    have boot := internalReset_entersBoot false 4 halive hreset
    exact ⟨_, exec_softwareReset hat hdue, boot.bootStep, boot.mode, boot.cause, boot.resetAt, boot.ports⟩
  case watchdog =>
    have boot := internalReset_of_runs false 5 (alive_of_fwRuns hrun)
    exact ⟨_, congrArg Host.Outcome.next (if_pos hrun), boot.bootStep, boot.mode, boot.cause, boot.ports⟩
  case control =>
    have boot := internalReset_of_runs false 6 (alive_of_fwRuns hrun)
    exact ⟨_, congrArg Host.Outcome.next (if_pos hrun), boot.bootStep, boot.cause, boot.ports⟩
  case secure =>
    have boot := internalReset_of_runs true 7 (alive_of_securePairRuns hrun)
    exact ⟨_, congrArg Host.Outcome.next (if_pos hrun), boot.bootStep, boot.cause, boot.sealed rfl, boot.ports⟩
  case firewall =>
    have boot := internalReset_of_runs (s := logNs evWorldViolation 0xFF [item, block] s) false 0xD (alive_of_fwRuns hrun)
    exact ⟨_, exec_firewallViolation hrun hacc htarget, boot.bootStep, boot.cause, boot.ports⟩

end Sys2Proof.Proofs
end

section
/-!
PROOFS. The expiry of a host watchdog (R68, R69): the port is marked, and AUTONOMOUS is evaluated in the state so marked.
-/
namespace Sys2Proof.Proofs
open Sys2Proof Sys2Proof.Machine Sys2Proof.Laws

/-- AUTONOMOUS depends on the straps, the owners of lighting and the watchdogs. -/
theorem autoCond_congr {s t : State} (straps : t.pwr.straps = s.pwr.straps) (wd : t.wd = s.wd) (lat : t.lat = s.lat)
    (sch : t.sch = s.sch) (chd : t.chd = s.chd) : autoCond t = autoCond s := by
  have owner : lightOwner t = lightOwner s := by
    funext p
    simp only [lightOwner, portPresent, straps, lat, sch, chd]
  simp only [autoCond, owner, wd]

/-- While a watchdog runs, a change of mode restarts none and so leaves AUTONOMOUS. -/
theorem settleMode_autonomous (old : State) (cause : Nat) {s : State} {p : Fin 4} (hrun : (s.wd.get p).running = true) :
    (settleMode old cause s).pwr.autonomous = s.pwr.autonomous := by
  have reported (x : State) (mode flags : _) : (reportMode mode flags cause x).pwr = x.pwr :=
    (keeps_reportMode mode flags cause x rfl (Keeps.refl 4 x)).get 2 rfl
  unfold settleMode
  split
  · rw [reported]
  extract_lets m started pwr s1 pwr1
  rw [reported]
  change s1.pwr.autonomous = _
  subst s1
  rw [if_neg fun h => not_all_stopped hrun (Bool.and_eq_true_iff.mp h).2]
  split
  · rfl
  rw [if_neg fun h => not_all_stopped hrun (Bool.and_eq_true_iff.mp h).2]

/-- Evaluated while a watchdog runs, AUTONOMOUS is its condition. -/
theorem evalAuto_autonomous (clearCause : Nat) {s : State} {p : Fin 4} (hrun : (s.wd.get p).running = true) :
    (evalAuto clearCause s).pwr.autonomous = autoCond s := by
  unfold evalAuto
  extract_lets a pwr s1
  split
  · next h => exact h.symm
  have settled : s1.pwr.autonomous = a := settleMode_autonomous (s := { s with pwr := { s.pwr with autonomous := a } }) s _ hrun
  split
  · exact (congrArg Power.autonomous ((keeps_applySafe _ _ _ s1 rfl (Keeps.refl 4 s1)).get 2 rfl)).trans settled
  · exact settled

/-- The state in which a port has just been found silent. -/
def silent (p : Fin 4) (s : State) : State := { s with wd := s.wd.put p { s.wd.get p with expired := true } }

/-- A deadline that has come marks its port, tells the other ports and evaluates AUTONOMOUS (R68, R69). -/
theorem exec_hostWatchdogExpiry {s : State} {p : Fin 4} (hserved : served s = true) (hwindow : s.upd.windowOpen = false)
    (hrun : (s.wd.get p).running = true) (hexp : (s.wd.get p).expired = false) (hdue : (s.wd.get p).deadline ≤ s.clk.ticks) :
    exec (.hostWatchdogExpiry p) s =
      .next (evalAuto 0 (notifyPorts (fun x => x != p) 0x0104 0 [wd p.val] (logNs evHostSilent p.val [p.val] (silent p s)))) :=
  congrArg Host.Outcome.next (if_pos (by simp [hserved, hwindow, hrun, hexp, hdue]))

/-- Settles O12: the marked watchdog still runs, so no change of mode restarts it and AUTONOMOUS is the condition of the marked state. -/
theorem watchdogExpiryMarksTheHostSilent : Obligations.WatchdogExpiryMarksTheHostSilent := by
  intro s p hserved hwindow hrun hexp hdue
  have h := exec_hostWatchdogExpiry hserved hwindow hrun hexp hdue
  generalize hu : notifyPorts (fun x => x != p) 0x0104 0 [wd p.val] (logNs evHostSilent p.val [p.val] (silent p s)) = u at h
  have told : Keeps 0x3C00C (silent p s) u := by
    rw [← hu]
    exact keeps_notifyPorts _ _ _ _ _ rfl (keeps_logNs _ _ _ _ rfl (Keeps.refl _ _))
  have hwd : u.wd = (silent p s).wd := told.get 3 rfl
  have marked : u.wd.get p = { s.wd.get p with expired := true } := by
    rw [hwd]
    exact get_put_self ..
  have running : (u.wd.get p).running = true := by
    rw [marked]
    exact hrun
  have kept := keeps_execHostWatchdogExpiry p s _ h
  refine ⟨_, h, ?_, ?_, kept.get 22 rfl, kept.get 24 rfl, kept.get 14 rfl, kept.get 16 rfl, kept.get 4 (by decide)⟩
  · rw [(evalAuto_times 0 u p running).1, marked]
  · rw [evalAuto_autonomous 0 running]
    exact autoCond_congr (congrArg Power.straps (told.get 2 rfl)) hwd (told.get 14 rfl) (told.get 16 rfl) (told.get 17 rfl)

end Sys2Proof.Proofs
end

section
/-!
PROOFS. Crossings and lock states (R71 to R81): what a crossing of the primary does to Tether, case by case of its state, and that the
sources, the configuration, the count and its reservation stand through it.
-/
namespace Sys2Proof.Proofs
open Sys2Proof Sys2Proof.Machine Sys2Proof.Laws

/-! ### Entries to LOCKED and SLEW -/

/-- The check of the nominal frequency touches its own flag alone (R76). -/
theorem checkNominal_tt (s : State) : ∃ b, (checkNominal s).tt = { s.tt with nomMismatch := b } := by
  unfold checkNominal
  split
  · exact ⟨true, rfl⟩
  · exact ⟨s.tt.nomMismatch, rfl⟩

theorem settleMode_tt (old : State) (cause : Nat) (s : State) : (settleMode old cause s).tt = s.tt :=
  (keeps_settleMode old cause s rfl (Keeps.refl 0x10 s)).get 4 (by decide)

theorem enterLocked_tt (s : State) : ∃ b, (enterLocked s).tt = { s.tt with
    state := .locked, since := cycOf s, slewLeft := 0, slewAcc := 0, cycAdj := 0, good := 0, bad := [], nomMismatch := b } := by
  unfold enterLocked
  extract_lets tt s1
  obtain ⟨b, hb⟩ := checkNominal_tt (settleMode s evTtLocked (logNs evTtLocked 0xFF [lockCode s.tt.state, s1.tt.freq, activeCode s.tt] s1))
  exact ⟨b, by rw [hb, settleMode_tt]; rfl⟩

/-- HOLD is kept by a slew out of FREE or HOLDOVER (R78, R79). -/
def slewHolds (x : Lock) : Bool := match x with | .free => true | .holdover => true | _ => false

theorem enterSlew_tt (e : Int) (s : State) : (enterSlew e s).tt = { Tether.startSlew e s.tt with
    state := .slew, slewHold := slewHolds s.tt.state, since := cycOf s, rate := s.tt.freq, good := 0, bad := [] } := by
  unfold enterSlew
  extract_lets hold tt s1 marks
  split
  · rw [settleMode_tt]
    rfl
  · rw [settleMode_tt]
    rfl

/-! ### A qualified crossing of the active source -/

section
variable {s : State} {e : Int} (p : Nat)

/-- FREE or HOLDOVER: an error within the lock limit is counted. -/
theorem phaseStep_free_counts (hst : s.tt.state = .free ∨ s.tt.state = .holdover) (he : e.natAbs ≤ 8) (hgood : s.tt.good + 1 < 8) :
    (phaseStep e p s).tt.state = s.tt.state ∧ (phaseStep e p s).tt.good = s.tt.good + 1 := by
  have hin : inLock e = true := by simp [inLock, he]
  have hnot : ¬ 8 ≤ s.tt.good + 1 := by omega
  unfold phaseStep
  obtain h | h := hst
  all_goals
    simp only [h, hin, if_true, hnot, if_false, and_self]

/-- FREE or HOLDOVER: the eighth such crossing locks. -/
theorem phaseStep_free_locks (hst : s.tt.state = .free ∨ s.tt.state = .holdover) (he : e.natAbs ≤ 8) (hgood : s.tt.good + 1 = 8) :
    ∃ x : State, phaseStep e p s = enterLocked x ∧ x.tt.phaseErr = e := by
  have hin : inLock e = true := by simp [inLock, he]
  unfold phaseStep
  obtain h | h := hst
  all_goals
    simp only [h, hin, if_true]
    rw [if_pos (by simp [hgood])]
    exact ⟨_, rfl, rfl⟩

/-- FREE or HOLDOVER: a larger error is slewed away. -/
theorem phaseStep_free_slews (hst : s.tt.state = .free ∨ s.tt.state = .holdover) (he : 8 < e.natAbs) :
    ∃ x : State, phaseStep e p s = enterSlew e x ∧ x.tt.state = s.tt.state := by
  have hin : inLock e = false := by simp [inLock, he]
  unfold phaseStep
  obtain h | h := hst
  all_goals
    simp only [h, hin, Bool.false_eq_true, if_false]
    exact ⟨_, rfl, rfl⟩

/-- LOCKED: the fourth crossing in a row beyond 64 pu is a step of the phase. -/
theorem phaseStep_locked_slews (hst : s.tt.state = .locked) (he : 64 < e.natAbs) (hbad : s.tt.bad.length = 3) :
    ∃ x : State, phaseStep e p s = enterSlew e x ∧ x.tt.state = .locked := by
  unfold phaseStep
  simp only [hst]
  by_cases hout : 512 < e.natAbs
  · simp only [hout, decide_true, if_true]
    rw [if_pos (by simp [hbad])]
    exact ⟨_, rfl, rfl⟩
  · simp only [hout, decide_false, Bool.false_eq_true, if_false, he, if_true]
    rw [if_pos (by simp [followLoop, hbad])]
    exact ⟨_, rfl, rfl⟩

/-- LOCKED: within 64 pu the count of bad crossings starts afresh. -/
theorem phaseStep_locked_follows (hst : s.tt.state = .locked) (he : e.natAbs ≤ 64) :
    ∃ x : State, phaseStep e p s = checkNominal x ∧ x.tt.state = .locked ∧ x.tt.bad = [] := by
  have hout : ¬ 512 < e.natAbs := by omega
  have hbad : ¬ 64 < e.natAbs := by omega
  unfold phaseStep
  simp only [hst, hout, hbad, decide_false, Bool.false_eq_true, if_false]
  exact ⟨_, rfl, rfl, rfl⟩

/-- SLEW: nothing is left to remove, and the eighth crossing in a row is within the lock limit. -/
theorem phaseStep_slew_locks (hst : s.tt.state = .slew) (he : e.natAbs ≤ 8) (hleft : s.tt.slewLeft = 0) (hgood : s.tt.good + 1 = 8) :
    ∃ x : State, phaseStep e p s = enterLocked x := by
  have hin : inLock e = true := by simp [inLock, he]
  unfold phaseStep
  simp only [hst, hin, if_true, hleft, hgood]
  exact ⟨_, rfl⟩

end

/-! ### What stands through a crossing -/

/-- The sources, the configuration, the count, its reservation and the anchors are the same. -/
structure SourcesStand (x y : Tether) : Prop where
  prim : y.prim = x.prim
  sec : y.sec = x.sec
  cfg : y.cfg = x.cfg
  tt : y.tt = x.tt
  reserve : y.reserve = x.reserve
  anchors : y.anchors = x.anchors

theorem SourcesStand.refl (x : Tether) : SourcesStand x x := ⟨rfl, rfl, rfl, rfl, rfl, rfl⟩

theorem SourcesStand.trans {x y z : Tether} (h : SourcesStand x y) (g : SourcesStand y z) : SourcesStand x z :=
  ⟨g.prim.trans h.prim, g.sec.trans h.sec, g.cfg.trans h.cfg, g.tt.trans h.tt, g.reserve.trans h.reserve, g.anchors.trans h.anchors⟩

theorem checkNominal_sources (s : State) : SourcesStand s.tt (checkNominal s).tt := by
  obtain ⟨b, hb⟩ := checkNominal_tt s
  rw [hb]
  exact ⟨rfl, rfl, rfl, rfl, rfl, rfl⟩

theorem enterLocked_sources (s : State) : SourcesStand s.tt (enterLocked s).tt := by
  obtain ⟨b, hb⟩ := enterLocked_tt s
  rw [hb]
  exact ⟨rfl, rfl, rfl, rfl, rfl, rfl⟩

theorem enterSlew_sources (e : Int) (s : State) : SourcesStand s.tt (enterSlew e s).tt := by
  rw [enterSlew_tt]
  exact ⟨rfl, rfl, rfl, rfl, rfl, rfl⟩

theorem startSlew_sources (e : Int) (x : Tether) : SourcesStand x (x.startSlew e) := ⟨rfl, rfl, rfl, rfl, rfl, rfl⟩

theorem followLoop_sources (e : Int) (p : Nat) (x : Tether) : SourcesStand x (followLoop e p x) := ⟨rfl, rfl, rfl, rfl, rfl, rfl⟩

/-- A qualified crossing moves the lock, the loop and the slew only. -/
theorem phaseStep_sources (e : Int) (p : Nat) (s : State) : SourcesStand s.tt (phaseStep e p s).tt := by
  unfold phaseStep
  extract_lets +onlyGivenNames tt x
  have hx : SourcesStand s.tt x.tt := ⟨rfl, rfl, rfl, rfl, rfl, rfl⟩
  clear_value x
  split
  · extract_lets out t bad s1
    have h1 : SourcesStand s.tt s1.tt := by
      refine hx.trans (SourcesStand.trans (y := t) ?_ ⟨rfl, rfl, rfl, rfl, rfl, rfl⟩)
      subst t
      split
      · exact .refl _
      · exact followLoop_sources ..
    split
    · exact h1.trans (enterSlew_sources ..)
    · exact h1.trans (checkNominal_sources _)
  · extract_lets f tt1 t good t2 s1 tt2
    have h1 : SourcesStand s.tt s1.tt := by
      refine hx.trans (SourcesStand.trans (y := t2) ?_ ⟨rfl, rfl, rfl, rfl, rfl, rfl⟩)
      subst t2
      split
      · exact ⟨rfl, rfl, rfl, rfl, rfl, rfl⟩
      · exact ⟨rfl, rfl, rfl, rfl, rfl, rfl⟩
    split
    · refine h1.trans (SourcesStand.trans ?_ (enterLocked_sources _))
      exact ⟨rfl, rfl, rfl, rfl, rfl, rfl⟩
    · exact h1
  · extract_lets tt1 t s1 tt2
    have h1 : SourcesStand s.tt s1.tt := hx.trans ⟨rfl, rfl, rfl, rfl, rfl, rfl⟩
    split
    · split
      · refine h1.trans (SourcesStand.trans ?_ (enterLocked_sources _))
        exact ⟨rfl, rfl, rfl, rfl, rfl, rfl⟩
      · exact h1
    · refine hx.trans (SourcesStand.trans ?_ (enterSlew_sources _ _))
      exact ⟨rfl, rfl, rfl, rfl, rfl, rfl⟩

/-! ### A crossing of the primary -/

section
variable {s : State} {stamp : Nat}

/-- Tether with the primary's crossing judged (R73). -/
def primJudged (stamp : Nat) (s : State) : State :=
  { s with tt := { s.tt with prim := (s.tt.prim.judge stamp (ttAt s stamp) (cycOf s)).1 } }

theorem crossing_glitch (h : s.tt.prim.glitch stamp = true) : crossing false stamp s = s := if_pos h

/-- A crossing that is no glitch is judged; what follows the judgement leaves the sources. -/
theorem crossing_sources (h : s.tt.prim.glitch stamp = false) :
    SourcesStand (primJudged stamp s).tt (crossing false stamp s).tt := by
  unfold crossing
  simp only [Bool.false_eq_true, if_false, h, Bool.false_and]
  split
  · split
    · exact ⟨rfl, rfl, rfl, rfl, rfl, rfl⟩
    · exact .refl _
  · split
    · exact phaseStep_sources _ _ (primJudged stamp s)
    · exact .refl _

/-- A qualified crossing of the active primary is a step of the phase (R77). -/
theorem crossing_qualified {p : Nat} (hglitch : s.tt.prim.glitch stamp = false)
    (hper : (s.tt.prim.judge stamp (ttAt s stamp) (cycOf s)).2 = some p) (hact : s.tt.onSecondary = false)
    (hlive : (s.tt.prim.judge stamp (ttAt s stamp) (cycOf s)).1.live (cycOf s) = true) :
    crossing false stamp s = phaseStep (wrapPu (ttPh (ttAt s stamp))) p (primJudged stamp s) := by
  unfold crossing
  simp only [Bool.false_eq_true, if_false, hglitch, Bool.false_and, hper, hact, hlive, beq_self_eq_true, Bool.and_self, if_true, Int.sub_zero,
    primJudged]

end

/-- The stamp of an edge of ZC_IN now: moved back by ZC_DELAY (R71). -/
def zcStamp (s : State) : Nat := s.clk.ticks - s.tt.cfg.zcDelay * 40

section
variable {s : State}

theorem exec_zcEdge_other : exec (.zcEdge s.tt.cfg.zcPol) s = .next s := congrArg Host.Outcome.next (if_neg (by simp))

theorem exec_zcEdge_primary (hrun : s.tt.running = true) (hprim : s.tt.cfg.primary = 1) :
    exec (.zcEdge (!s.tt.cfg.zcPol)) s = .next (crossing false (zcStamp s) s) := by
  refine congrArg Host.Outcome.next ((if_pos ?_).trans (if_pos hprim))
  simp [hrun]

theorem exec_zcEdge_stopped (hrun : s.tt.running = false) (rising : Bool) : exec (.zcEdge rising) s = .next s :=
  congrArg Host.Outcome.next (if_neg (by simp [hrun]))

theorem exec_meterCrossing_primary {src : Nat} (hrun : s.tt.running = true) (hlo : 0x11 ≤ src) (hhi : src ≤ 0x1F)
    (hok : meterSourceOk s src = true) (hprim : s.tt.cfg.primary = src) :
    exec (.meterCrossing src) s = .next (crossing false s.clk.ticks s) := by
  refine congrArg Host.Outcome.next ((if_pos ?_).trans (if_pos hprim))
  simp [hrun, hlo, hhi, hok]

theorem exec_meterCrossing_absent {src : Nat} (hok : meterSourceOk s src = false) : exec (.meterCrossing src) s = .next s :=
  congrArg Host.Outcome.next (if_neg (by simp [hok]))

end

/-- Settles O13: an edge that counts is a `crossing` of the primary, and what follows its judgement leaves the sources. -/
theorem crossingsAreJudgedBySource : Obligations.CrossingsAreJudgedBySource := by
  intro s
  refine ⟨exec_zcEdge_other, fun hprim hglitch => ?glitch, fun hrun hprim hglitch => ?edge,
    fun src hrun hlo hhi hok hprim hglitch => ?meter, fun src => exec_meterCrossing_absent⟩
  case glitch =>
    cases hrun : s.tt.running with
    | false => exact exec_zcEdge_stopped hrun _
    | true => exact (exec_zcEdge_primary hrun hprim).trans (congrArg Host.Outcome.next (crossing_glitch hglitch))
  case edge =>
    obtain ⟨prim, sec, cfg, tt, reserve, anchors⟩ := crossing_sources (stamp := zcStamp s) hglitch
    exact ⟨_, exec_zcEdge_primary hrun hprim, prim, sec, cfg, tt, reserve, anchors⟩
  case meter =>
    obtain ⟨prim, sec, cfg, tt, -, -⟩ := crossing_sources hglitch
    exact ⟨_, exec_meterCrossing_primary hrun hlo hhi hok hprim, prim, sec, cfg, tt⟩

/-! ### Holdover -/

section
variable {s : State}

theorem exec_holdoverEntry (hrun : s.tt.running = true) (hst : s.tt.state = .locked ∨ s.tt.state = .slew) (hnone : noSource s = true) :
    ∃ t, exec .holdoverEntry s = .next t ∧ t.tt = { s.tt with
      state := .holdover, since := cycOf s, rate := s.tt.freq, slewLeft := 0, slewAcc := 0, cycAdj := 0, good := 0, bad := []
      holdTick := s.clk.ticks, longLogged := false } := by
  refine ⟨_, congrArg Host.Outcome.next (if_pos ?_), settleMode_tt ..⟩
  obtain h | h := hst <;> simp [hrun, hnone, h]

theorem exec_holdoverEntry_unlocked (hst : s.tt.state = .free ∨ s.tt.state = .holdover) : exec .holdoverEntry s = .next s := by
  refine congrArg Host.Outcome.next (if_neg ?_)
  obtain h | h := hst <;> simp [h]

/-- The crossing of `PrimaryCrossing` is a step of the phase. -/
theorem exec_zcEdge_of_primaryCrossing {p : Nat} {e : Int} (h : PrimaryCrossing s p e) :
    exec (.zcEdge (!s.tt.cfg.zcPol)) s = .next (phaseStep e p (primJudged (zcStamp s) s)) := by
  obtain ⟨hrun, hprim, hact, hglitch, hper, hlive, he⟩ := h
  rw [he]
  have hcross := crossing_qualified (stamp := zcStamp s) hglitch hper hact hlive
  exact (exec_zcEdge_primary hrun hprim).trans (congrArg Host.Outcome.next hcross)

end

/-- Settles O14: a crossing of the primary is `phaseStep`, whose cases are the rows of the table of lock states. -/
theorem lockStatesFollowTheTable : Obligations.LockStatesFollowTheTable := by
  intro s p e
  have step (h : PrimaryCrossing s p e) := exec_zcEdge_of_primaryCrossing h
  refine ⟨fun h hst he hgood => ?locks, fun h hst he hgood => ?counts, fun h hst he => ?slews, fun h hst he hbad => ?steps,
    fun h hst he => ?follows, fun h hst he hleft hgood => ?slewEnds, fun hrun hst hnone => ?holdover, exec_holdoverEntry_unlocked⟩
  case locks =>
    obtain ⟨x, hx, herr⟩ := phaseStep_free_locks p (s := primJudged (zcStamp s) s) hst he hgood
    obtain ⟨b, hb⟩ := enterLocked_tt x
    refine ⟨_, step h, ?_⟩
    rw [hx, hb]
    exact ⟨rfl, rfl, herr⟩
  case counts => exact ⟨_, step h, phaseStep_free_counts p (s := primJudged (zcStamp s) s) hst he hgood⟩
  case slews =>
    obtain ⟨x, hx, hstate⟩ := phaseStep_free_slews p (s := primJudged (zcStamp s) s) hst he
    refine ⟨_, step h, ?_⟩
    rw [hx, enterSlew_tt]
    refine ⟨rfl, ?_, rfl, rfl⟩
    change slewHolds x.tt.state = true
    rw [hstate]
    obtain h | h := hst
    · exact congrArg slewHolds h
    · exact congrArg slewHolds h
  case steps =>
    obtain ⟨x, hx, hstate⟩ := phaseStep_locked_slews p (s := primJudged (zcStamp s) s) hst he hbad
    refine ⟨_, step h, ?_⟩
    rw [hx, enterSlew_tt]
    exact ⟨rfl, congrArg slewHolds hstate, rfl⟩
  case follows =>
    obtain ⟨x, hx, hstate, hbad⟩ := phaseStep_locked_follows p (s := primJudged (zcStamp s) s) hst he
    obtain ⟨b, hb⟩ := checkNominal_tt x
    refine ⟨_, step h, ?_⟩
    rw [hx, hb]
    exact ⟨hstate, hbad⟩
  case slewEnds =>
    obtain ⟨x, hx⟩ := phaseStep_slew_locks p (s := primJudged (zcStamp s) s) hst he hleft hgood
    obtain ⟨b, hb⟩ := enterLocked_tt x
    refine ⟨_, step h, ?_⟩
    rw [hx, hb]
  case holdover =>
    obtain ⟨t, ht, htt⟩ := exec_holdoverEntry hrun hst hnone
    refine ⟨t, ht, ?_⟩
    rw [htt]
    exact ⟨rfl, rfl, rfl, rfl, rfl⟩

end Sys2Proof.Proofs
end

section
/-! PROOFS. Tether's sources, its reservation and anchors (O15), the entries that fall due (O16) and the commands of Tether (O17). -/
namespace Sys2Proof.Proofs
open Sys2Proof Sys2Proof.Machine Sys2Proof.Laws

/-! ### Switches of the source -/

section
variable {s : State} {toSec : Bool}

theorem postSwitch_of_room (h : Room 1 s) : postSwitch toSec s =
    { tlPut (nextBoundary s) 0 1 (.source toSec) true s with tt := { s.tt with switching := true } } := by
  unfold postSwitch
  rw [tlPost_of_room h]
  rfl

theorem fireSwitch_of_due {e : TlEntry} (hdue : Due e s) (hkind : e.kind = .source toSec) :
    fireSwitch toSec s = switchSource toSec (tlRemove e.seq s) :=
  tlFire_of_due hdue (by simp [hkind])

theorem switchSource_secondary : switchSource true s = logNs evTtSource 0xFF
    [s.tt.cfg.primary, s.tt.cfg.secondary, ofSigned 32 (usedOffset s.tt), b2n (!(learnedOffset s.tt).isSome)]
    { s with tt := { s.tt with onSecondary := true, switching := false, good := 0 } } := rfl

theorem switchSource_primary : switchSource false s = logNs evTtSource 0xFF
    [s.tt.cfg.secondary, s.tt.cfg.primary, 0, b2n (!(learnedOffset s.tt).isSome)]
    { s with tt := { s.tt with onSecondary := false, switching := false, good := 0 } } := rfl

theorem b2n_not (b : Bool) : b2n (!b) = if b then 0 else 1 := by cases b <;> rfl

theorem exec_secondarySwitch_posts (hrun : s.tt.running = true) (hprim : s.tt.onSecondary = false) (hsec : s.tt.cfg.secondary ≠ 0)
    (hsilent : s.tt.prim.silent (cycOf s) = true) (hlive : s.tt.sec.live (cycOf s) = true) (hfree : s.tt.switching = false) :
    exec .secondarySwitch s = .next (postSwitch true s) :=
  congrArg Host.Outcome.next (if_pos (by simp [hrun, hprim, hsec, hsilent, hlive, hfree]))

theorem exec_secondarySwitch_fires (h : s.tt.switching = true) : exec .secondarySwitch s = .next (fireSwitch true s) :=
  congrArg Host.Outcome.next (if_neg (by simp [h]))

theorem exec_primaryReturn_posts (hrun : s.tt.running = true) (hsec : s.tt.onSecondary = true) (hstreak : 256 ≤ s.tt.prim.streak)
    (hsilent : s.tt.prim.silent (cycOf s) = false) (hfree : s.tt.switching = false) :
    exec .primaryReturn s = .next (postSwitch false s) :=
  congrArg Host.Outcome.next (if_pos (by simp [hrun, hsec, hstreak, hsilent, hfree]))

theorem exec_primaryReturn_fires (h : s.tt.switching = true) : exec .primaryReturn s = .next (fireSwitch false s) :=
  congrArg Host.Outcome.next (if_neg (by simp [h]))

end

/-! ### The reservation and the anchors -/

section
variable {s : State}

theorem exec_evTtHoldoverLong_of_due (hrun : s.tt.running = true) (hst : s.tt.state = .holdover) (halarm : s.tt.cfg.holdAlarm ≠ 0)
    (hlog : s.tt.longLogged = false) (hlong : s.tt.cfg.holdAlarm ≤ (s.clk.ticks - s.tt.holdTick) / 2400000000) :
    exec .evTtHoldoverLong s = .next (logNs evTtHoldoverLong 0xFF
      [(s.clk.ticks - s.tt.holdTick) / 2400000000, (s.clk.ticks - s.tt.lastQualTick) / 80000000]
      { s with tt := { s.tt with longLogged := true } }) :=
  congrArg Host.Outcome.next (if_pos (by simp [hrun, hst, halarm, hlog, hlong]))

/-- A write in which no sector fails reads back from both rings. -/
theorem exec_reservationWrite_confirmed (hrun : s.tt.running = true) (hdue : s.tt.reserve.ceiling < ceilingDue s) :
    exec (.reservationWrite 0 0) s =
      .next { s with tt := { s.tt with reserve :=
        { s.tt.reserve.write (ceilingDue s) true true with pend := none, logged := 0 } } } :=
  congrArg Host.Outcome.next (if_pos (by simp [hrun, hdue]))

theorem exec_evTtReserveFail_of_due {c trig : Nat} (hpend : s.tt.reserve.pend = some (c, trig))
    (hdue : trig + 2 ^ 19 * (s.tt.reserve.logged + 1) ≤ cycOf s) :
    exec .evTtReserveFail s = .next (logNs evTtReserveFail 0xFF [c, cycOf s - trig]
      { s with tt := { s.tt with reserve := { s.tt.reserve with logged := s.tt.reserve.logged + 1 } } }) := by
  refine congrArg Host.Outcome.next ?_
  rw [hpend]
  exact if_pos hdue

theorem exec_reserveCeilingReached_of_due (hrun : s.tt.running = true) (hdue : s.tt.reserve.ceiling ≤ cycOf s) :
    exec .reserveCeilingReached s = .next { s with tt := { s.tt with reserve := { s.tt.reserve with lost := true } } } :=
  congrArg Host.Outcome.next (if_pos (by simp [hrun, hdue]))

theorem exec_anchorCapture_of_due (hrun : s.tt.running = true) (hph : ttPh s.tt.tt = 0) (hcyc : cycOf s % 1024 = 0)
    (hnew : s.tt.anchorCyc ≠ some (cycOf s)) :
    exec .anchorCapture s = .next { pushAnchor s with tt := { (pushAnchor s).tt with anchorCyc := some (cycOf s) } } :=
  congrArg Host.Outcome.next (if_pos (by simp [hrun, hph, hcyc, hnew]))

end

/-- Settles O15: each event's guard holds under its hypotheses, and its rule is the state named. -/
theorem tetherKeepsItsSourcesCeilingAndAnchors : Obligations.TetherKeepsItsSourcesCeilingAndAnchors := by
  intro s
  refine ⟨fun hrun hprim hsec hsilent hlive hfree hroom => ?_, fun e hsw hdue hkind => ?_,
    fun hrun hsec hstreak hsilent hfree hroom => ?_, fun e hsw hdue hkind => ?_, exec_evTtHoldoverLong_of_due,
    exec_reservationWrite_confirmed, fun c trig => exec_evTtReserveFail_of_due, exec_reserveCeilingReached_of_due,
    fun hrun hph hcyc hnew => ?_⟩
  · refine ⟨_, exec_secondarySwitch_posts hrun hprim hsec hsilent hlive hfree, ?_⟩
    rw [postSwitch_of_room hroom]
    exact ⟨rfl, rfl⟩
  · rw [exec_secondarySwitch_fires hsw, fireSwitch_of_due hdue hkind, switchSource_secondary, b2n_not]
    simp only [tlRemove_tt]
    rfl
  · refine ⟨_, exec_primaryReturn_posts hrun hsec hstreak hsilent hfree, ?_⟩
    rw [postSwitch_of_room hroom]
    exact ⟨rfl, rfl⟩
  · rw [exec_primaryReturn_fires hsw, fireSwitch_of_due hdue hkind, switchSource_primary, b2n_not]
    simp only [tlRemove_tt]
    rfl
  · exact ⟨_, exec_anchorCapture_of_due hrun hph hcyc hnew, rfl, by simp [pushAnchor]; omega, rfl, rfl⟩

/-! ### Entries that fall due -/

section
variable {s : State} {e : TlEntry}

theorem exec_ttConfigApply_of_due {c : TtCfg} (hdue : Due e s) (hkind : e.kind = .ttConfig) (hnext : s.tt.cfgNext = some c) :
    exec .ttConfigApply s = .next (applyTtCfg c (tlRemove e.seq s)) := by
  refine congrArg Host.Outcome.next ((tlFire_of_due hdue (by rw [hkind])).trans ?_)
  rw [show (tlRemove e.seq s).tt.cfgNext = some c from hnext]

theorem exec_configEntryApply_of_due {r : Req} (hdue : Due e s) (hkind : e.kind = .config r) :
    exec .configEntryApply s = .next (applyS r (tlRemove e.seq s)) :=
  congrArg Host.Outcome.next (tlFire_of_due hdue (by rw [hkind]))

theorem exec_ttAlarmFire_of_due {p : Fin 4} {h target cookie : Nat} (hdue : Due e s) (hkind : e.kind = .alarm p h)
    (harmed : (s.alarms.get p).getD h .never = .armed target cookie) :
    exec .ttAlarmFire s = .next (notify p 0x0201 1 ([wd h, wd cookie] ++ ttWords e.target) (setAlarm p h .fired (tlRemove e.seq s))) := by
  refine congrArg Host.Outcome.next ((tlFire_of_due hdue (by rw [hkind])).trans ?_)
  rw [show (alarmsOf (tlRemove e.seq s) p).getD h .never = .armed target cookie from harmed]

end

/-- Settles O16: the due entry's kind has a meaning for its event alone. -/
theorem dueEntriesFireOnce : Obligations.DueEntriesFireOnce := fun _ _ hdue =>
  ⟨fun _ hkind hnext => exec_ttConfigApply_of_due hdue hkind hnext, fun _ hkind => exec_configEntryApply_of_due hdue hkind,
    fun _ _ _ _ hkind harmed => ⟨_, exec_ttAlarmFire_of_due hdue hkind harmed, rfl⟩⟩

/-! ### The commands of Tether -/

section
variable {r : Req} {s : State}

theorem actTtConfig_of_room (h : Room 1 s) : actTtConfig r s =
    ok r [] (logEv evTtConfig r.port.val ([wd r.port.val] ++ ttCfgWords (s.tt.cfgNext.getD s.tt.cfg) ++ ttCfgWords (ttCfgOf r))
      (markStored 1 { tlPut (nextBoundary s) 0 1 .ttConfig true s with tt := { s.tt with cfgNext := some (ttCfgOf r) } })) := by
  unfold actTtConfig
  rw [tlPost_of_room h]
  rfl

theorem actTtConvert_of_ok {c : Conv} {out : List Word} {d : Nat} (h : convertReq r s = .ok (c, out, d)) : actTtConvert r s =
    ok r ([packW [(b2n (c.used.any fun a => a.osf), 3), (b2n (c.used.any fun a => a.stepped), 2),
      (b2n (c.used.any fun a => !a.locked), 1), (b2n c.extra, 0)]] ++ out ++ [wd (errBound c d)]) s := by
  unfold actTtConvert
  rw [h]

theorem actTtAlarm_of_free {h : Nat} (hfree : freeHandle (s.alarms.get r.port) = some h) : actTtAlarm r s =
    ok r [wd h] (tlPut (alarmTarget r) 7 3 (.alarm r.port h) true
      (setAlarm r.port h (.armed (alarmTarget r) (r.w 5).toNat) s)) := by
  unfold actTtAlarm
  rw [show freeHandle (alarmsOf s r.port) = some h from hfree]

/-- The alarm that a TT.ALARM_CANCEL names is the only entry of its kind that goes. -/
theorem alarmCancelled_iff (p : Fin 4) (h : Nat) (k : TlKind) :
    (!(match k with | .alarm p' h' => p' == p && h' == h | _ => false)) = (k != .alarm p h) := by
  cases k with
  | alarm p' h' => rw [bne, Bool.eq_iff_iff]; simp [Decidable.imp_iff_not_or]
  | _ => rfl

theorem readFull_snap {p : Fin 4} (h : portUp s p = true) : readFull p 0x030 s = readSnap p s := by
  unfold readFull
  simp [h]

/-- A read of TT_SNAP_LO by a port that is up (R94). -/
theorem exec_ttSnapLoRead_word {p : Fin 4} (h : portUp s p = true) : exec (.ttSnapLoRead p .word) s =
    .next (onPort p (fun q => { breakPair q with readData := lo32 s.tt.tt }) (onPort p (fun q => { q with snap := s.tt.tt }) s)) := by
  refine congrArg Host.Outcome.next ?_
  unfold readLane
  simp only [portReach_of_portUp h, Bool.not_true, Bool.false_eq_true, if_false, readFull_snap h, readSnap]

end

/-- Settles O17: each command's action with its checks passed, and the read of TT_SNAP_LO. -/
theorem ttCommandsAnswer : Obligations.TtCommandsAnswer := by
  intro r s
  refine ⟨fun h => ⟨_, _, congrArg Host.Outcome.next (serve_of_runs h), rfl, rfl⟩, fun h hroom => ?_, fun c out d h hconv => ?_,
    fun h => congrArg Host.Outcome.next (serve_of_runs h), fun hd h hfree => ?_, fun h => ?_,
    fun h => congrArg Host.Outcome.next (serve_of_runs h), fun p h => ?_⟩
  · exact ⟨_, congrArg Host.Outcome.next ((serve_of_runs h).trans (actTtConfig_of_room (s := took r s) hroom)), rfl, rfl, rfl⟩
  · exact congrArg Host.Outcome.next ((serve_of_runs h).trans (actTtConvert_of_ok hconv))
  · exact ⟨_, congrArg Host.Outcome.next ((serve_of_runs h).trans (actTtAlarm_of_free (s := took r s) hfree)), rfl, rfl⟩
  · refine ⟨_, congrArg Host.Outcome.next (serve_of_runs h), rfl, ?_⟩
    exact congrArg (fun f => s.tl.entries.filter f) (funext fun e => alarmCancelled_iff _ _ e.kind)
  · refine ⟨_, exec_ttSnapLoRead_word h, ?_, ?_, fun q hq => ?_⟩
    · simp [onPort, get_upd_self, lo32]
    · simp [onPort, get_upd_self, breakPair]
    · simp [onPort, get_upd_ne _ _ hq]

end Sys2Proof.Proofs
end

section
/-! PROOFS. The events of the backup domain (O18) and its commands (O20). -/
namespace Sys2Proof.Proofs
open Sys2Proof Sys2Proof.Machine Sys2Proof.Laws

/-! ### The correction window -/

/-- The RTC with the correction of the window just ended (R99), `ticks` into the next one. -/
def corrected (ticks : Nat) (c : Int) (src : Nat) (aging temp : Int) (s : State) : Rtc :=
  { s.rtc with winTick := ticks, corr := clampI (-20000) 20000 c, corrSrc := src,
               corrN := roundDiv (clampI (-20000) 20000 c * 2097152) 100000000, winWhole := tcxoRuns s, aging := aging, temp := temp }

/-- The correction from a measurement against the TCXO, which AGING learns from. -/
def measured (ticks : Nat) (m temp : Int) (s : State) : State :=
  { s with rtc := corrected ticks (s.rtc.trim * 10 - m) 0 (s.rtc.aging + (m - Config.factory temp) - roundDiv s.rtc.aging 1024) temp s }

/-- The correction from the factory curve and AGING. -/
def fromCurve (ticks : Nat) (temp : Int) (s : State) : State :=
  { s with rtc := corrected ticks (s.rtc.trim * 10 - (Config.factory temp + roundDiv s.rtc.aging 1024)) 1 s.rtc.aging temp s }

section
variable {s : State} {m temp : Int} {bakOk : Bool}

/-- With a whole window against the TCXO the correction comes from the measurement. -/
theorem exec_correctionWindow_whole (hend : 2 ^ 21 ≤ s.rtc.winTick) (htcxo : tcxoRuns s = true) (hwhole : s.rtc.winWhole = true) :
    ∃ ticks, exec (.rtcCorrectionWindow m temp bakOk) s =
      .next (if 10000 < m.natAbs then oscFault (m / 100) (measured ticks m temp s) else measured ticks m temp s) :=
  ⟨s.rtc.winTick - 2 ^ 21, congrArg Host.Outcome.next ((if_neg (Nat.not_lt.mpr hend)).trans (if_pos (by simp [htcxo, hwhole])))⟩

/-- Without one it comes from the factory curve and AGING while BAK is good. -/
theorem exec_correctionWindow_curve (hend : 2 ^ 21 ≤ s.rtc.winTick) (hnone : tcxoRuns s = false ∨ s.rtc.winWhole = false)
    (hbak : (powered s || bakOk) = true) : ∃ ticks, exec (.rtcCorrectionWindow m temp bakOk) s =
      .next (fromCurve ticks temp s) := by
  refine ⟨s.rtc.winTick - 2 ^ 21,
    congrArg Host.Outcome.next ((if_neg (Nat.not_lt.mpr hend)).trans ((if_neg ?_).trans (if_pos hbak)))⟩
  obtain h | h := hnone <;> simp [h]

/-- On the cell with BAK too low there is none. -/
theorem exec_correctionWindow_none (hend : 2 ^ 21 ≤ s.rtc.winTick) (hoff : powered s = false) :
    ∃ ticks, exec (.rtcCorrectionWindow m temp false) s = .next { s with rtc := corrected ticks 0 2 s.rtc.aging temp s } := by
  refine ⟨s.rtc.winTick - 2 ^ 21,
    congrArg Host.Outcome.next ((if_neg (Nat.not_lt.mpr hend)).trans ((if_neg ?_).trans (if_neg ?_)))⟩
  · simp [tcxoRuns, hoff]
  · simp [hoff]

theorem tcxoStands_of_unpowered (h : powered s = false) : tcxoRuns s = false := by simp [tcxoRuns, h]

end

/-! ### The oscillator -/

section
variable {s : State} {ms : Nat} {ppm : Int}

theorem exec_oscStopDetect_running (hshelf : s.pwr.mode ≠ .shelf) : exec (.oscStopDetect ⟨true, ms⟩ ppm) s = .next (oscRuns ppm s) :=
  congrArg Host.Outcome.next ((if_neg (by simp [hshelf])).trans (if_pos rfl))

theorem exec_oscStopDetect_stopped (hshelf : s.pwr.mode ≠ .shelf) : exec (.oscStopDetect ⟨false, ms⟩ ppm) s = .next (oscStopped ms s) :=
  congrArg Host.Outcome.next ((if_neg (by simp [hshelf])).trans (if_neg (by simp)))

theorem exec_oscStopDetect_fault (hms : 1 ≤ ms) (hshelf : s.pwr.mode ≠ .shelf) (hnew : s.rtc.osc ≠ .faulted) :
    exec (.oscStopDetect ⟨false, ms⟩ ppm) s = .next (oscFault ms { s with rtc := { s.rtc with osc := .faulted } }) :=
  (exec_oscStopDetect_stopped hshelf).trans (congrArg Host.Outcome.next ((if_neg (by simp [hnew])).trans (if_pos hms)))

theorem exec_oscStopDetect_wrong (hppm : 100 < ppm.natAbs) (hshelf : s.pwr.mode ≠ .shelf) (htcxo : tcxoRuns s = true)
    (hwhole : s.rtc.winWhole = true) :
    exec (.oscStopDetect ⟨true, ms⟩ ppm) s = .next (oscFault ppm { s with rtc := { s.rtc with osc := .runs } }) := by
  refine (exec_oscStopDetect_running hshelf).trans (congrArg Host.Outcome.next (if_pos ?_))
  show (tcxoRuns s && s.rtc.winWhole && decide (100 < ppm.natAbs)) = true
  simp [htcxo, hppm, hwhole]

theorem exec_oscStopDetect_runs (hshelf : s.pwr.mode ≠ .shelf) (h : ppm.natAbs ≤ 100 ∨ tcxoRuns s = false ∨ s.rtc.winWhole = false) :
    exec (.oscStopDetect ⟨true, ms⟩ ppm) s = .next { s with rtc := { s.rtc with osc := .runs } } := by
  refine (exec_oscStopDetect_running hshelf).trans (congrArg Host.Outcome.next (if_neg ?_))
  show ¬(tcxoRuns s && s.rtc.winWhole && decide (100 < ppm.natAbs)) = true
  obtain h | h | h := h
  · simp [Nat.not_lt.mpr h]
  · simp [h]
  · simp [h]

end

/-! ### The cell -/

section
variable {s : State} {mv us : Nat}

theorem exec_evLbv_of_low (hcell : s.rtc.onCell = true) (hmv : mv < 2000) (hus : 1000 < us) (hshelf : s.pwr.mode ≠ .shelf) :
    exec (.evLbv mv us) s = .next (logEv evLbv 0xFF (rtcWords s.rtc.sec s.rtc.frac ++ [wd (mv / 10)])
      { s with rtc := { s.rtc with lbv := true } }) :=
  congrArg Host.Outcome.next (if_pos (by simp [hcell, hmv, hus, hshelf]))

theorem exec_retentionTokenLoss_of_low (h : mv < 1200 ∨ (mv < 1800 ∧ 50 < us)) :
    exec (.retentionTokenLoss us mv) s = .next { s with rtc := { s.rtc with token := false } } :=
  congrArg Host.Outcome.next (if_pos (by simpa using h))

theorem exec_retentionTokenLoss_of_kept (h : 1800 ≤ mv ∨ (1200 ≤ mv ∧ us ≤ 50)) : exec (.retentionTokenLoss us mv) s = .next s :=
  congrArg Host.Outcome.next (if_neg (by simp; omega))

theorem exec_bakSwitchOver_of_low (hcell : s.rtc.onCell = false) (hshelf : s.pwr.mode ≠ .shelf) (hvin : s.pwr.vin < s.dev.vinOff) :
    exec .bakSwitchOver s = .next { s with rtc := { s.rtc with
      onCell := true
      swoCount := sat 16 (s.rtc.swoCount + 1)
      swoStamp := if s.rtc.swoValid then s.rtc.swoStamp else (s.rtc.sec, s.rtc.frac)
      swoValid := true
      winWhole := false } } :=
  congrArg Host.Outcome.next (if_neg (by simp [hcell, hshelf, hvin]))

theorem exec_vbakMeasure_of_due (hpow : powered s = true)
    (hdue : s.pwr.bootStep = .secure ∨ s.rtc.vbakTick + 3600 * 40000000 ≤ s.clk.ticks) :
    ∃ t, exec (.vbakMeasure mv) s = .next t ∧ t.rtc = { s.rtc with
      vbakMv := mv
      vbakTick := s.clk.ticks
      cellLow := if mv < 2400 then true else if 2500 ≤ mv then false else s.rtc.cellLow } := by
  refine ⟨_, congrArg Host.Outcome.next (if_pos ?_), ?_⟩
  · obtain h | h := hdue
    · simp [hpow, h]
    · rw [hpow, Bool.true_and, Bool.or_eq_true]
      exact .inr (decide_eq_true h)
  · extract_lets low s1
    split <;> rfl

end

/-- Settles O18: each event's rule in each of its cases. -/
theorem backupDomainEventsActByTheirRules : Obligations.BackupDomainEventsActByTheirRules := by
  intro s
  refine ⟨fun m temp bakOk hend htcxo hwhole hm => ?measured, fun m temp bakOk hend htcxo hwhole hm => ?wrong,
    fun m temp hend hoff => ?onCell, fun m temp hend hoff => ?low, fun m temp hend hpow hnone => ?curve,
    fun ms ppm hms hshelf hnew => exec_oscStopDetect_fault hms hshelf hnew,
    fun ms ppm hppm hshelf htcxo hwhole => exec_oscStopDetect_wrong hppm hshelf htcxo hwhole,
    fun ms ppm hshelf h => exec_oscStopDetect_runs hshelf h, fun mv us hcell hmv hus hshelf => ?lbv,
    fun us mv => exec_retentionTokenLoss_of_low, fun us mv => exec_retentionTokenLoss_of_kept, fun hcell hshelf hvin => ?switchOver,
    fun mv hpow hdue => ?measure⟩
  case measured =>
    obtain ⟨ticks, h⟩ := exec_correctionWindow_whole (m := m) (temp := temp) (bakOk := bakOk) hend htcxo hwhole
    rw [if_neg (Nat.not_lt.mpr hm)] at h
    exact ⟨_, h, rfl, rfl, rfl, rfl, rfl, rfl, rfl⟩
  case wrong =>
    obtain ⟨ticks, h⟩ := exec_correctionWindow_whole (m := m) (temp := temp) (bakOk := bakOk) hend htcxo hwhole
    rw [if_pos hm] at h
    exact ⟨_, h, rfl, rfl⟩
  case onCell =>
    obtain ⟨ticks, h⟩ := exec_correctionWindow_curve (bakOk := true) hend (.inl (tcxoStands_of_unpowered hoff)) (by simp)
    exact ⟨_, h, rfl, rfl, rfl, rfl⟩
  case low =>
    obtain ⟨ticks, h⟩ := exec_correctionWindow_none hend hoff
    exact ⟨_, h, rfl, rfl, rfl⟩
  case curve =>
    obtain ⟨ticks, h⟩ := exec_correctionWindow_curve (bakOk := false) hend hnone (by simp [hpow])
    exact ⟨_, h, rfl, rfl⟩
  case lbv => exact ⟨_, exec_evLbv_of_low hcell hmv hus hshelf, rfl, rfl⟩
  case switchOver => exact ⟨_, exec_bakSwitchOver_of_low hcell hshelf hvin, rfl, rfl, rfl, rfl, rfl, rfl, rfl⟩
  case measure =>
    obtain ⟨t, ht, hrtc⟩ := exec_vbakMeasure_of_due hpow hdue
    exact ⟨t, ht, by rw [hrtc], by rw [hrtc], by rw [hrtc]⟩

/-! ### Setting the time -/

section
variable {r : Req} {s : State}

/-- The write that a TT.RTC_SET stages (R104). -/
def stagedWrite (r : Req) : RtcWrite :=
  ⟨fld (r.w 3) 31 30, rtcSetSec r, if fld (r.w 3) 31 30 = 1 then rtcSetSAt r else rtcSetTt r, bit (r.w 3) 29,
    r.origin (decide (fld (r.w 3) 31 30 ≠ 0))⟩

theorem acceptN_rtc : (acceptN r s).rtc = s.rtc := by
  unfold acceptN
  split <;> rfl

theorem actRtcSet_stages (h : fld (r.w 3) 31 30 ≠ 3) :
    (actRtcSet r s).rtc = { s.rtc with staged := some (stagedWrite r), lastWrite := 0 } := by
  unfold actRtcSet
  simp only [h, if_false]
  split
  · exact acceptN_rtc
  · rfl

theorem actRtcSet_cancels {w : RtcWrite} (h : fld (r.w 3) 31 30 = 3) (hsome : s.rtc.staged = some w) (hlater : w.mode ≠ 0) :
    actRtcSet r s = okN r [] (endOrdered w.org.port w.org.id
      { s with rtc := { s.rtc with staged := none, commitDue := false, lastWrite := 2 } }) := by
  unfold actRtcSet
  simp only [h, if_true, hsome, hlater, if_false]

theorem exec_rtcSetCommit_of_due {w : RtcWrite} (hsome : s.rtc.staged = some w) (hdue : s.rtc.commitDue = true) :
    exec .rtcSetCommit s = .next (commitRtc w s) := by
  refine congrArg Host.Outcome.next ?_
  rw [hsome]
  exact if_pos hdue

theorem exec_rtcSetCommit_of_none (h : s.rtc.staged = none) : exec .rtcSetCommit s = .next s := by
  refine congrArg Host.Outcome.next ?_
  rw [h]

theorem exec_rtcSetCommit_of_not_due (h : s.rtc.commitDue = false) : exec .rtcSetCommit s = .next s := by
  refine congrArg Host.Outcome.next ?_
  simp only [h, Bool.false_eq_true, if_false]
  split <;> rfl

/-- The RTC that a commit leaves. -/
def committedRtc (w : RtcWrite) (r : Rtc) : Rtc :=
  { r with sec := w.sec, frac := 0, lbv := false, osf := r.osf && !w.clearOsf, staged := none, commitDue := false, lastWrite := 1,
           waitCancel := [] }

theorem commitRtc_rtc {w : RtcWrite} (h : s.rtc.waitCancel = []) : (commitRtc w s).rtc = committedRtc w s.rtc := by
  simp only [commitRtc, h, List.foldl_nil]
  rfl

theorem commitRtc_tt {w : RtcWrite} (h : s.rtc.waitCancel = []) :
    (commitRtc w s).tt = (stepAnchors { s with rtc := committedRtc w s.rtc }).tt := by
  simp only [commitRtc, h, List.foldl_nil]
  rfl

/-- The anchors older than the commit's own are marked as stepped (R93). -/
theorem stepAnchors_tail : ∀ a ∈ (stepAnchors s).tt.anchors.tail, a.stepped = true := by
  intro a ha
  have hmem : a ∈ s.tt.anchors.map fun a => { a with stepped := true } :=
    List.mem_of_mem_take (i := 63) (by simpa [stepAnchors, pushAnchor] using ha)
  obtain ⟨b, -, rfl⟩ := List.mem_map.mp hmem
  rfl

theorem actRtcFlags_eq : ∃ t, actRtcFlags r s = ok r [packW [(s.rtc.swoCount, 16), (rtcFlags s.rtc, 8),
      (s.rtc.swoStamp.1 / 2 ^ 32 % 256, 0)], wd s.rtc.swoStamp.1, packW [(s.rtc.swoStamp.2, 16)]] t ∧
    t.rtc = { s.rtc with
      lbv := s.rtc.lbv && !bit (r.w 3) 0
      osf := s.rtc.osf && !bit (r.w 3) 1
      tampLatched := if bit (r.w 3) 2 then 0 else s.rtc.tampLatched
      tampered := s.rtc.tampered && !bit (r.w 3) 2
      tampStamp := if bit (r.w 3) 2 then (0, 0) else s.rtc.tampStamp
      swoStamp := if bit (r.w 3) 3 then (0, 0) else s.rtc.swoStamp
      swoCount := if bit (r.w 3) 3 then 0 else s.rtc.swoCount
      swoValid := s.rtc.swoValid && !bit (r.w 3) 3 } := by
  refine ⟨_, rfl, ?_⟩
  split <;> rfl

end

/-- Settles O20: the RTC commands' actions with their checks passed, and the commit. -/
theorem backupDomainCommandsAct : Obligations.BackupDomainCommandsAct := by
  intro r s
  refine ⟨fun h hmode => ?stage, fun w h hmode hsome hlater => ?cancel, fun w hsome hdue hwait => ?commit, exec_rtcSetCommit_of_none,
    exec_rtcSetCommit_of_not_due, fun h => congrArg Host.Outcome.next (serve_of_runs h), fun h => ?flags, fun h => ?trim,
    fun h => congrArg Host.Outcome.next (serve_of_runs h), fun h => congrArg Host.Outcome.next (serve_of_runs h), fun h => ?tamper⟩
  case stage =>
    refine ⟨_, congrArg Host.Outcome.next (serve_of_runs h), ?_⟩
    rw [actRtcSet_stages hmode]
    exact ⟨rfl, rfl, rfl, rfl⟩
  case cancel =>
    exact ⟨_, congrArg Host.Outcome.next ((serve_of_runs h).trans (actRtcSet_cancels (s := took r s) hmode hsome hlater)), rfl, rfl, rfl⟩
  case commit =>
    refine ⟨_, exec_rtcSetCommit_of_due hsome hdue, ?_⟩
    rw [commitRtc_rtc hwait, commitRtc_tt hwait]
    exact ⟨rfl, rfl, rfl, rfl, rfl, rfl, rfl, rfl, stepAnchors_tail, rfl⟩
  case flags =>
    obtain ⟨t, ht, hrtc⟩ := actRtcFlags_eq (r := r) (s := took r s)
    refine ⟨t, congrArg Host.Outcome.next ((serve_of_runs h).trans ht), ?_⟩
    rw [hrtc]
    exact ⟨rfl, rfl, rfl, rfl, rfl, rfl, rfl, rfl, rfl⟩
  case trim => exact ⟨_, congrArg Host.Outcome.next (serve_of_runs h), rfl⟩
  case tamper => exact ⟨_, congrArg Host.Outcome.next (serve_of_runs h), rfl⟩

end Sys2Proof.Proofs
end

section
/-! PROOFS. The taking of requests (O22), the return queues (O23) and the placing of responses (O24). -/
namespace Sys2Proof.Proofs
open Sys2Proof Sys2Proof.Machine Sys2Proof.Laws

/-! ### Rules of one port's queues -/

section
variable {s : State} {q : PortSt} {p : Fin 4}

/-- The port that `onPort` changes. -/
theorem port_onPort_self (p : Fin 4) (f : PortSt → PortSt) (s : State) : (onPort p f s).ports.get p = f (s.ports.get p) := get_upd_self ..

theorem port_onPort_ne {p r : Fin 4} (f : PortSt → PortSt) (s : State) (h : r ≠ p) : (onPort p f s).ports.get r = s.ports.get r :=
  get_upd_ne _ f h

theorem ret_setRet (r : Nat) (v : RetQueue) (q : PortSt) : (q.setRet r v).ret r = v := by
  unfold PortSt.setRet PortSt.ret
  split <;> rfl

theorem ret_setRet_ne {r r' : Fin 2} (h : r' ≠ r) (v : RetQueue) (q : PortSt) : (q.setRet r.val v).ret r'.val = q.ret r'.val := by
  match r, r', h with
  | 0, 1, _ | 1, 0, _ => rfl
  | 0, 0, h | 1, 1, h => exact absurd rfl h

theorem ret_refresh (r : Nat) (q : PortSt) : q.refresh.ret r = q.ret r := rfl

theorem setRet_reserved (r : Nat) (v : RetQueue) (q : PortSt) : (q.setRet r v).reserved = q.reserved := by
  unfold PortSt.setRet
  split <;> rfl

theorem ret_dropHead (r : Nat) (q : PortSt) : (dropHead r q).ret r = { q.ret r with msgs := (q.ret r).msgs.tail, popped := 0 } :=
  ret_setRet ..

theorem ret_placeHeld (r : Nat) (h : Held) (q : PortSt) :
    (q.placeHeld r h).ret r = { q.ret r with msgs := (q.ret r).msgs ++ [h.msg] } := ret_setRet ..

theorem ret_placeHeld_ne {r r' : Fin 2} (h : r' ≠ r) (x : Held) (q : PortSt) : (q.placeHeld r.val x).ret r'.val = q.ret r'.val :=
  ret_setRet_ne h ..

theorem req_takeFrom {k : Nat} (hk : k < 4) (q : PortSt) :
    (PortSt.takeFrom k q).req k = { q.req k with msgs := (q.req k).msgs.tail, passed := 0 } := by
  match k, hk with
  | 0, _ | 1, _ | 2, _ | 3, _ => rfl

theorem judge_openSet (s : State) (q : PortSt) : (q.judge s).openSet = q.openSet := by
  unfold PortSt.judge
  split <;> rfl

theorem judge_req (s : State) (q : PortSt) (k : Nat) : (q.judge s).req k = q.req k := by
  unfold PortSt.judge
  split <;> rfl

theorem judge_reserved (s : State) (q : PortSt) : (q.judge s).reserved = q.reserved := by
  unfold PortSt.judge
  split <;> rfl

theorem judge_inflight (s : State) (q : PortSt) : (q.judge s).inflight = q.inflight := by
  unfold PortSt.judge
  split <;> rfl

end

/-! ### The take -/

section
variable {s : State} {p : Fin 4} {k : Nat}

theorem beginReq_waits {r : Req} (hset : (s.ports.get r.port).openSet = none) (hrow : (opRow r.opcode).isSome = true) :
    beginReq r s = s := by
  obtain ⟨row, hrow⟩ := Option.isSome_iff_exists.mp hrow
  unfold beginReq
  simp only [hrow, hset]

/-- The request that a take makes of the message in front (R141, R158). -/
def takenReq (p : Fin 4) (k : Nat) (s : State) : Req :=
  let m := ((s.ports.get p).req k).msgs.headD []
  { port := p, queue := k, words := m, target := takeTarget s m, id := s.cmd.nextId
    ready := !bit (wAt m 2) 31 || !(s.cmd.ordered.any fun x => x.1 == p), resRsp := (reserveFor m).1, resNtf := (reserveFor m).2 }

/-- The port after the take of its message. -/
def takenPort (k : Nat) (q : PortSt) : PortSt :=
  let n := reserveFor ((q.req k).msgs.headD [])
  { PortSt.takeFrom k q with reserved := q.reserved + n.1 + n.2, inflight := q.inflight + 1 }

/-- A take appends the request, and its execution waits for the row that executes it. -/
theorem takeMsg_of_row (hset : (s.ports.get p).openSet = none)
    (hrow : (opRow (fld (wAt (((s.ports.get p).req k).msgs.headD []) 0) 31 16)).isSome = true) :
    (takeMsg p k s).cmd.taken = s.cmd.taken ++ [takenReq p k s] ∧ (takeMsg p k s).ports.get p = takenPort k (s.ports.get p) := by
  unfold takeMsg
  extract_lets +onlyGivenNames m n ordered ready r c s1
  have hport : s1.ports.get p = takenPort k (s.ports.get p) := port_onPort_self ..
  have htaken : s1.cmd.taken = s.cmd.taken ++ [takenReq p k s] := rfl
  have hopen : (s1.ports.get r.port).openSet = none := (congrArg PortSt.openSet hport).trans hset
  split
  · rw [beginReq_waits hopen hrow]
    exact ⟨htaken, hport⟩
  · exact ⟨htaken, hport⟩

/-- The state in which a take decision has judged every port. -/
def judged (s : State) : State := { s with ports := s.ports.map fun q => q.judge s }

theorem judged_port (s : State) (p : Fin 4) : (judged s).ports.get p = (s.ports.get p).judge s := get_map ..

theorem exec_requestTake_of_pick (hopen : takesOpen s = true) (hidle : cmdIdle s = true)
    (hpick : pickPort s s.cmd.rrUrgent true = some (p, k) ∨
      (pickPort s s.cmd.rrUrgent true = none ∧ pickPort s s.cmd.rrOther false = some (p, k))) :
    exec .requestTake s = .next (takeMsg p k (judged s)) := by
  refine congrArg Host.Outcome.next ((if_pos (by simp [hopen, hidle])).trans ?_)
  obtain h | ⟨h, h'⟩ := hpick
  · simp only [h]
    rfl
  · simp only [h, h']
    rfl

theorem exec_requestTake_of_closed (h : takesOpen s = false ∨ cmdIdle s = false) : exec .requestTake s = .next s := by
  refine congrArg Host.Outcome.next (if_neg ?_)
  obtain h | h := h <;> simp [h]

theorem mem_portsAfter (last : Nat) (p : Fin 4) : p ∈ portsAfter last := by
  rw [portsAfter, List.mem_map]
  have hp := p.isLt
  have hcases : ∃ d ∈ [1, 2, 3, 4], (last + d) % 4 = p.val := by
    simp only [List.mem_cons, List.not_mem_nil, or_false, exists_eq_or_imp, exists_eq_left]
    omega
  obtain ⟨d, hd, heq⟩ := hcases
  exact ⟨d, hd, Fin.ext heq⟩

/-- Where some port offers an urgent message whose reservation fits, some port's urgent message is chosen (R138). -/
theorem pickPort_urgent (last : Nat) (hnext : nextQueue s (s.ports.get p) = some 0) (hfits : reserveFits (s.ports.get p) 0 = true) :
    ∃ p', pickPort s last true = some (p', 0) := by
  have hsome : (pickPort s last true).isSome = true := by
    rw [pickPort, List.isSome_findSome?, List.any_eq_true]
    exact ⟨p, mem_portsAfter last p, by simp [hnext, hfits]⟩
  obtain ⟨⟨p', k'⟩, hpick⟩ := Option.isSome_iff_exists.mp hsome
  obtain ⟨p0, -, h0⟩ := List.exists_of_findSome?_eq_some hpick
  have hk : k' = 0 := by
    dsimp only at h0
    split at h0
    · split at h0
      case isTrue k0 hk0 hc =>
        simp at hc h0
        omega
      case isFalse => exact absurd h0 (by simp)
    · exact absurd h0 (by simp)
  exact ⟨p', by rw [hpick, hk]⟩

theorem nextQueue_urgent (hpause : (s.ports.get p).pause = false) (hblocked : (s.ports.get p).takeBlocked = false)
    (hmsg : (s.ports.get p).q0.msgs ≠ []) : nextQueue s (s.ports.get p) = some 0 := by
  have hopen : queueOpen s (s.ports.get p) 0 = true := by simp [queueOpen, PortSt.req, hmsg]
  simp [nextQueue, hpause, hblocked, hopen]

theorem exec_orderedExecutionStart_of_free {r : Req} (hidle : cmdIdle s = true) (hopen : takesOpen s = true)
    (hfind : s.cmd.taken.find? (fun x => !x.ready && (s.cmd.ordered.find? fun y => y.1 == x.port) == some (x.port, x.id)) = some r)
    (hset : (s.ports.get r.port).openSet = none) (hrow : (opRow r.opcode).isSome = true) :
    exec .orderedExecutionStart s = .next
      { s with cmd := { s.cmd with taken := s.cmd.taken.map fun x => if x.id = r.id then { x with ready := true } else x } } := by
  refine congrArg Host.Outcome.next ?_
  simp only [hfind, hidle, hopen, Bool.and_self, if_true]
  exact beginReq_waits hset hrow

end

/-- Settles O22: a take decision takes the message that `pickPort` chooses. -/
theorem requestsAreTakenFromTheFront : Obligations.RequestsAreTakenFromTheFront := by
  intro s
  refine ⟨fun p k row hopen hidle hk hpick hset hrow => ?take,
    fun p hpause hblocked hmsg hfits => pickPort_urgent _ (nextQueue_urgent hpause hblocked hmsg) hfits,
    fun h => exec_requestTake_of_closed (.inl h), fun h => exec_requestTake_of_closed (.inr h),
    fun r hfind hidle hopen hset hrow => ⟨_, exec_orderedExecutionStart_of_free hidle hopen hfind hset hrow, rfl, rfl⟩⟩
  have hport := judged_port s p
  have hmsgs : ((judged s).ports.get p).req k = (s.ports.get p).req k := by rw [hport, judge_req]
  have hres : reserveFor (((s.ports.get p).req k).msgs.headD []) = (row.rsp, row.ntf) := by simp only [reserveFor, hrow]
  obtain ⟨htaken, hget⟩ := takeMsg_of_row (s := judged s) (p := p) (k := k) (by rw [hport, judge_openSet, hset]) (by rw [hmsgs, hrow]; rfl)
  refine ⟨_, takenReq p k (judged s), exec_requestTake_of_pick hopen hidle hpick, htaken, rfl, rfl, ?_, rfl, ?_, ?_, ?_, ?_, ?_, ?_⟩
  · simp only [takenReq, hmsgs]
  · simp only [takenReq, hmsgs]
    rfl
  · simp only [takenReq, hmsgs, hres]
  · simp only [takenReq, hmsgs, hres]
  · rw [hget]
    exact congrArg ReqQueue.msgs (req_takeFrom hk _) |>.trans (by simp only [hmsgs])
  · simp only [hget, takenPort, hmsgs, hres]
    rw [hport, judge_reserved]
  · simp only [hget, takenPort]
    rw [hport, judge_inflight]

/-! ### The return queues -/

section
variable {s : State} {p : Fin 4} {r : Fin 2}

theorem readFull_rspData (h : portUp s p = true) (r : Fin 2) : readFull p (rspDataOff r.val) s = readPop p r.val s := by
  match r with
  | 0 | 1 => simp [readFull, h, rspDataOff]

/-- A pop by a port that is up. -/
theorem exec_rspDataPop_word (h : portUp s p = true) (r : Fin 2) : exec (.rspDataPop p r .word) s =
    .next (onPort p (fun q => { breakPair q with readData := (readPop p r.val s).1 }) (readPop p r.val s).2) := by
  refine congrArg Host.Outcome.next ?_
  unfold readLane
  simp only [portReach_of_portUp h, Bool.not_true, Bool.false_eq_true, if_false, readFull_rspData h]

/-- The port after a pop. -/
theorem exec_rspDataPop_port (h : portUp s p = true) (r : Fin 2) : ∃ t, exec (.rspDataPop p r .word) s = .next t ∧
    t.ports.get p = { breakPair (popWord r.val (s.ports.get p)).1 with readData := (popWord r.val (s.ports.get p)).2 } := by
  refine ⟨_, exec_rspDataPop_word h r, ?_⟩
  rw [port_onPort_self]
  exact congrArg (fun q : PortSt => { breakPair q with readData := (popWord r.val (s.ports.get p)).2 }) (port_onPort_self ..)

theorem ret_readOut (r : Nat) (w : Word) (q : PortSt) : PortSt.ret { breakPair q with readData := w } r = q.ret r := rfl

theorem popWord_inside {q : PortSt} {r : Nat} {m : RMsg} {rest : List RMsg} (hmsgs : (q.ret r).msgs = m :: rest)
    (hlen : (q.ret r).popped + 1 < m.words.length) :
    popWord r q = (q.setRet r { q.ret r with popped := (q.ret r).popped + 1 }, wAt m.words (q.ret r).popped) := by
  simp only [popWord, hmsgs, hlen, if_true]

theorem popWord_last {q : PortSt} {r : Nat} {m : RMsg} {rest : List RMsg} (hmsgs : (q.ret r).msgs = m :: rest)
    (hlen : m.words.length ≤ (q.ret r).popped + 1) : popWord r q = (dropHead r q, wAt m.words (q.ret r).popped) := by
  simp only [popWord, hmsgs, Nat.not_lt.mpr hlen, if_false]

theorem popWord_empty {q : PortSt} {r : Nat} (hmsgs : (q.ret r).msgs = []) : popWord r q = (q, 0) := by
  simp only [popWord, hmsgs]

theorem releaseLock_none {m : RMsg} (h : m.canLock = none) : releaseLock m s = s := by
  unfold releaseLock
  rw [h]

theorem releaseLock_ports (m : RMsg) (s : State) : (releaseLock m s).ports = s.ports :=
  (keeps_releaseLock m s (mk := 0x200) (s0 := s) rfl (Keeps.refl 0x200 s)).get 9 (by decide)

theorem releaseLocks_ports (l : List RMsg) (s : State) : (l.foldl (fun s m => releaseLock m s) s).ports = s.ports := by
  induction l generalizing s with
  | nil => rfl
  | cons m l ih => exact (ih _).trans (releaseLock_ports m s)

theorem discardHead_free {m : RMsg} {rest : List RMsg} {r : Nat} (hmsgs : ((s.ports.get p).ret r).msgs = m :: rest)
    (hfree : m.canLock = none) : discardHead p r s = onPort p (dropHead r) s := by
  simp only [discardHead, hmsgs, releaseLock_none hfree]

theorem exec_rspDiscardHead_of_up (h : portUp s p = true) :
    exec (.rspDiscardHead p r) s = .next (onPort p breakWrite (discardHead p r.val s)) := congrArg Host.Outcome.next (if_pos h)

theorem exec_rspDiscardAll_of_up (h : portUp s p = true) :
    exec (.rspDiscardAll p r) s = .next (onPort p breakWrite (discardAll p r.val s)) := congrArg Host.Outcome.next (if_pos h)

theorem ret_breakWrite (r : Nat) (q : PortSt) : (breakWrite q).ret r = q.ret r := rfl

theorem discardAll_ret (r : Nat) :
    ((discardAll p r s).ports.get p).ret r = { (s.ports.get p).ret r with msgs := [], popped := 0 } := by
  rw [discardAll, releaseLocks_ports, port_onPort_self]
  exact ret_setRet ..

theorem exec_heldMessagePlace_of_first {h : Held} {rest : List Held} (hheld : ((s.ports.get p).ret r.val).held = h :: rest)
    (hplace : (s.ports.get p).mayPlace r.val h = true) : exec (.heldMessagePlace p r) s =
      .next (onPort p (fun q => (q.setRet r.val { q.ret r.val with held := rest }).placeHeld r.val h) s) := by
  refine congrArg Host.Outcome.next ?_
  simp only [hheld, hplace, if_true]

/-- The notification that tells of lost ones. -/
def lostMsg (q : PortSt) (cyc : Word) : RMsg :=
  ⟨[packW [(1, 31), (0x0103, 16), (1, 0)], packW [(0, 24), (q.nseq, 0)], cyc, wd q.lostSince], none⟩

theorem notify_lost {q : PortSt} (cyc : Word) (hroom : retUsed q.ntf + 4 ≤ retCap 1) :
    PortSt.notify { q with lostSince := 0 } 0x0103 0 cyc [wd q.lostSince] none =
      PortSt.putMsg { q with lostSince := 0, nseq := (q.nseq + 1) % 2 ^ 24 } 1 (lostMsg q cyc) :=
  if_pos (decide_eq_true hroom)

theorem notifyAt_port (cyc : Word) (code src : Nat) (payload : List Word) (i : Option Nat) :
    (notifyAt cyc p code src payload s i).ports.get p = (s.ports.get p).notify code src cyc payload i := by
  unfold notifyAt
  extract_lets old s1
  split
  · exact port_onPort_self ..
  · rw [logLim_ports]
    exact port_onPort_self ..

theorem exec_ntfLostPlace_of_room (hlost : (s.ports.get p).lostSince ≠ 0) (hroom : retUsed (s.ports.get p).ntf + 4 ≤ retCap 1) :
    ∃ t cyc, exec (.ntfLostPlace p) s = .next t ∧ t.ports.get p = PortSt.putMsg
      { s.ports.get p with lostSince := 0, nseq := ((s.ports.get p).nseq + 1) % 2 ^ 24 } 1 (lostMsg (s.ports.get p) cyc) := by
  refine ⟨_, cycLo s, congrArg Host.Outcome.next (if_pos (by simp [hlost, hroom])), ?_⟩
  rw [notify, notifyAt_port, port_onPort_self]
  exact notify_lost _ hroom

/-! #### The flush -/

theorem dropOpen_port (cause : Nat) (s : State) : (dropOpen p cause s).ports.get p = { s.ports.get p with openSet := none } := by
  unfold dropOpen
  split
  · next h => rw [← h]
  · rw [logNs_ports, port_onPort_self]

theorem dropSets_port (cause : Nat) (h : (s.ports.get p).accepted = []) :
    (dropSets p cause s).ports.get p = { s.ports.get p with openSet := none } := by
  unfold dropSets
  extract_lets s1
  have hport : s1.ports.get p = { s.ports.get p with openSet := none } := dropOpen_port cause s
  rw [show (s1.ports.get p).accepted = [] by rw [hport]; exact h]
  exact hport

theorem endFreeze_ports (cause : Nat) (s : State) : (endFreeze p cause s).ports = s.ports :=
  (keeps_endFreeze p cause s (mk := 0x200) (s0 := s) rfl (Keeps.refl 0x200 s)).get 9 (by decide)

/-- The port that a flush leaves, no set of it being accepted. -/
def flushedPort (q : PortSt) : PortSt := { flushQueues q with takeBlocked := false, blockedQ := 0, openSet := none }

theorem flushPort_port (h : (s.ports.get p).accepted = []) : (flushPort p s).ports.get p = flushedPort (s.ports.get p) := by
  unfold flushPort
  extract_lets q gone s1 s2 x
  have h1 : s1.ports.get p = { flushQueues (s.ports.get p) with takeBlocked := false, blockedQ := 0 } := by
    rw [show s1.ports = _ from releaseLocks_ports gone _, port_onPort_self]
  have h2 : s2.ports.get p = { flushQueues (s.ports.get p) with takeBlocked := false, blockedQ := 0 } := by
    rw [show s2.ports = s1.ports from logNs_ports .., h1]
  rw [endFreeze_ports, dropSets_port]
  · rw [show ({ s2 with txn := { s2.txn with expect := s2.txn.expect.put p 0 } } : State).ports.get p = _ from h2]
    rfl
  · rw [show ({ s2 with txn := { s2.txn with expect := s2.txn.expect.put p 0 } } : State).ports.get p = _ from h2]
    exact h

theorem flushPort_wd : (flushPort p s).wd = s.wd :=
  (keeps_flushPort p s (mk := 8) (s0 := s) rfl (Keeps.refl 8 s)).get 3 (by decide)

theorem req_flushedPort (q : PortSt) (k : Fin 4) : (flushedPort q).req k.val = emptyReqQ := by
  match k with
  | 0 | 1 | 2 | 3 => rfl

theorem exec_portFlush_of_up (h : portUp s p = true) : exec (.portFlush p) s = .next (onPort p breakWrite (flushPort p s)) :=
  congrArg Host.Outcome.next (if_pos h)

end

/-- Settles O23: the port that each row leaves. -/
theorem returnQueuesGiveMessagesInOrder : Obligations.ReturnQueuesGiveMessagesInOrder := by
  intro s p
  refine ⟨fun r m rest hup hmsgs hlen => ?inside, fun r m rest hup hmsgs hlen hfree => ?last, fun r hup hmsgs => ?empty,
    fun r m rest hup hmsgs hfree => ?head, fun r hup => ?all, fun r h rest hheld hplace => ?place, fun hlost hroom => ?lost,
    fun hup hacc => ?flush⟩
  case inside =>
    obtain ⟨t, ht, hport⟩ := exec_rspDataPop_port hup r
    refine ⟨t, ht, ?_⟩
    rw [hport, popWord_inside hmsgs hlen, ret_readOut, ret_setRet]
    exact ⟨rfl, hmsgs, rfl⟩
  case last =>
    obtain ⟨t, ht, hport⟩ := exec_rspDataPop_port hup r
    refine ⟨t, ht, ?_⟩
    rw [hport, popWord_last hmsgs hlen, ret_readOut, ret_dropHead, hmsgs]
    exact ⟨rfl, rfl, rfl⟩
  case empty =>
    obtain ⟨t, ht, hport⟩ := exec_rspDataPop_port hup r
    refine ⟨t, ht, ?_⟩
    rw [hport, popWord_empty hmsgs, ret_readOut]
    exact ⟨rfl, hmsgs⟩
  case head =>
    refine ⟨_, exec_rspDiscardHead_of_up hup, ?_⟩
    rw [discardHead_free hmsgs hfree, port_onPort_self, port_onPort_self, ret_breakWrite, ret_dropHead, hmsgs]
    exact ⟨rfl, rfl, rfl⟩
  case all =>
    refine ⟨_, exec_rspDiscardAll_of_up hup, ?_⟩
    rw [port_onPort_self, ret_breakWrite, discardAll_ret]
    exact ⟨rfl, rfl, rfl⟩
  case place =>
    refine ⟨_, exec_heldMessagePlace_of_first hheld hplace, ?_⟩
    rw [port_onPort_self, ret_placeHeld, ret_setRet]
    exact ⟨rfl, rfl, congrArg (· - h.frees) (setRet_reserved ..)⟩
  case lost =>
    obtain ⟨t, cyc, ht, hport⟩ := exec_ntfLostPlace_of_room hlost hroom
    refine ⟨t, lostMsg (s.ports.get p) cyc, ht, ?_⟩
    rw [hport]
    exact ⟨rfl, rfl, rfl⟩
  case flush =>
    refine ⟨_, exec_portFlush_of_up hup, ?_⟩
    rw [port_onPort_self, flushPort_port hacc]
    refine ⟨fun k => ?_, rfl, rfl, rfl, rfl, flushPort_wd⟩
    rw [show (breakWrite (flushedPort (s.ports.get p))).req k.val = emptyReqQ from req_flushedPort (s.ports.get p) k]
    exact ⟨rfl, rfl, rfl⟩

/-! ### The placing of responses -/

section
variable {q : PortSt} {r : Nat} {h : Held}

theorem produce_placed (hnone : (q.ret r).held = []) (hplace : q.mayPlace r h = true) : q.produce r h = q.placeHeld r h :=
  if_pos (by simp [hnone, hplace])

theorem produce_held (hwait : (q.ret r).held ≠ [] ∨ q.mayPlace r h = false) :
    q.produce r h = q.setRet r { q.ret r with held := (q.ret r).held ++ [h] } := by
  refine if_neg ?_
  obtain h | h := hwait <;> simp [h]

theorem produce_other {r r' : Fin 2} (hne : r' ≠ r) : (q.produce r.val h).ret r'.val = q.ret r'.val := by
  unfold PortSt.produce
  split
  · exact ret_placeHeld_ne hne ..
  · exact ret_setRet_ne hne ..

/-- A completion waits for the placing of its ACCEPTED response (R144). -/
theorem mayPlace_of_waiting (hcompletion : h.isRsp = false) (hheld : ∃ x ∈ q.rsp.held, x.isRsp = true ∧ x.id = h.id) :
    q.mayPlace r h = false := by
  obtain ⟨x, hmem, hrsp, hid⟩ := hheld
  have hany : (q.rsp.held.any fun x => x.isRsp && x.id == h.id) = true := List.any_eq_true.mpr ⟨x, hmem, by simp [hrsp, hid]⟩
  simp [PortSt.mayPlace, hcompletion, hany]

end

/-- Settles O24, with the capacity of the queues kept as `fits_produce` and `fits_notify` state it. -/
theorem responsesArePlacedOrHeldInOrder : Obligations.ResponsesArePlacedOrHeldInOrder := by
  intro q r h
  refine ⟨fun hnone hplace => ?placed, fun hwait => ?held, fun r' hne => produce_other hne,
    fun hplace => of_decide_eq_true (fits_of_mayPlace hplace), mayPlace_of_waiting, fits_produce, fun _ _ _ _ _ => fits_notify⟩
  case placed =>
    rw [produce_placed hnone hplace, ret_placeHeld]
    exact ⟨rfl, hnone, rfl⟩
  case held =>
    rw [produce_held hwait, ret_setRet]
    exact ⟨rfl, rfl, setRet_reserved ..⟩

end Sys2Proof.Proofs
end

section
/-! PROOFS. Accesses to the window (O25): by words, by halves and by serial transactions. -/
namespace Sys2Proof.Proofs
open Sys2Proof Sys2Proof.Machine Sys2Proof.Laws

section
variable {s : State} {p : Fin 4} {off : Nat} {w : Word}

/-! ### Writes -/

theorem exec_write_word (h : portUp s p = true) :
    exec (.registerWrite p off w (.write .word)) s = .next (onPort p breakWrite (writeReg p (wordOff off) w s)) :=
  congrArg Host.Outcome.next (if_neg (by simp [h]))

theorem exec_write_low (h : portUp s p = true) (hp : p = 2) : exec (.registerWrite p off w (.write .low)) s =
    .next (onPort p (fun q => { q with writeLatch := some (wordOff off, w.toNat % 65536) }) s) :=
  congrArg Host.Outcome.next ((if_neg (by simp [h])).trans (if_neg (by simp [hp])))

theorem exec_write_high_alone (h : portUp s p = true) (hnone : (s.ports.get p).writeLatch = none) :
    exec (.registerWrite p off w (.write .high)) s = .next s := by
  refine congrArg Host.Outcome.next ((if_neg (by simp [h])).trans ?_)
  simp only [hnone, ite_self]

theorem exec_write_high_pair {lo : Nat} (h : portUp s p = true) (hp : p = 2) (hlatch : (s.ports.get p).writeLatch = some (wordOff off, lo)) :
    exec (.registerWrite p off w (.write .high)) s =
      .next (onPort p breakWrite (writeReg p (wordOff off) (wd (w.toNat % 65536 * 65536 + lo)) s)) := by
  refine congrArg Host.Outcome.next ((if_neg (by simp [h])).trans ((if_neg (by simp [hp])).trans ?_))
  simp only [hlatch, if_true]

theorem exec_write_half_other (h : portUp s p = true) (hp : p ≠ 2) :
    exec (.registerWrite p off w (.write .low)) s = .next s ∧ exec (.registerWrite p off w (.write .high)) s = .next s :=
  ⟨congrArg Host.Outcome.next ((if_neg (by simp [h])).trans (if_pos hp)),
    congrArg Host.Outcome.next ((if_neg (by simp [h])).trans (if_pos hp))⟩

theorem wordOff_idem (off : Nat) : wordOff (off / 4 * 4) = wordOff off := by
  unfold wordOff
  omega

theorem writeReg_intEn : writeReg p 0x024 w s = onPort p (fun q => { q with intEn := w &&& 0xF0F3#32 }) s := by
  simp [writeReg]

theorem writeReg_ctrl (h : bit w 4 = false) : writeReg p 0x010 w s = onPort p (fun q => { q with pause := bit w 8, irqOutEn := bit w 0 }) s := by
  simp [writeReg, h]

theorem writeReg_portStat : writeReg p 0x014 w s = s := by simp [writeReg]

/-- The latches of the half accesses are no register. -/
theorem regValue_latch (v : Option (Nat × Nat)) (s : State) (p : Fin 4) (o : Nat) :
    regValue (onPort p (fun q => { q with writeLatch := v }) s) p o = regValue s p o := by
  unfold regValue portStat
  simp only [port_onPort_self]
  rfl

theorem exec_intStatClear_of_up (h : portUp s p = true) :
    exec (.intStatClear p w) s = .next (onPort p (fun q => breakWrite (clearInt w q)) s) := congrArg Host.Outcome.next (if_pos h)

/-! ### Reads -/

theorem exec_read_word (h : portUp s p = true) : exec (.registerWrite p off w (.read .word)) s =
    .next (onPort p (fun q => { breakPair q with readData := (readFull p (wordOff off) s).1 }) (readFull p (wordOff off) s).2) :=
  congrArg Host.Outcome.next (if_neg (by simp [portReach_of_portUp h]))

theorem exec_read_low (h : portUp s p = true) (hp : p = 2) : exec (.registerWrite p off w (.read .low)) s =
    .next (onPort p (fun q => { breakPair q with
      readData := wd ((readFull p (wordOff off) s).1.toNat % 65536)
      readLatch := some (wordOff off, (readFull p (wordOff off) s).1.toNat / 65536) }) (readFull p (wordOff off) s).2) :=
  congrArg Host.Outcome.next ((if_neg (by simp [portReach_of_portUp h])).trans (if_neg (by simp [hp])))

theorem exec_read_high (h : portUp s p = true) (hp : p = 2) : exec (.registerWrite p off w (.read .high)) s =
    .next (onPort p (fun q => { breakPair q with readData := wd (readHigh s p (wordOff off)) }) s) :=
  congrArg Host.Outcome.next ((if_neg (by simp [portReach_of_portUp h])).trans (if_neg (by simp [hp])))

theorem exec_read_half_other (h : portUp s p = true) (hp : p ≠ 2) :
    exec (.registerWrite p off w (.read .low)) s = .next s ∧ exec (.registerWrite p off w (.read .high)) s = .next s :=
  ⟨congrArg Host.Outcome.next ((if_neg (by simp [portReach_of_portUp h])).trans (if_pos hp)),
    congrArg Host.Outcome.next ((if_neg (by simp [portReach_of_portUp h])).trans (if_pos hp))⟩

theorem readHigh_latched {hi : Nat} (h : (s.ports.get p).readLatch = some (off, hi)) : readHigh s p off = hi := by
  simp only [readHigh, h, if_true]

/-! ### Serial transactions -/

theorem exec_serial_parallel (cs : List (BitVec 4)) : exec (.registerWrite 2 off w (.serial cs)) s = .next s :=
  congrArg Host.Outcome.next (if_pos rfl)

theorem exec_serial (h : portUp s p = true) (hp : p ≠ 2) (cs : List (BitVec 4)) : exec (.registerWrite p off w (.serial cs)) s =
    .next (match (if cs.length < 8 then none else spiOp p (serialNat 1 (cs.take 8))) with
      | some o => spiRun p o (cs.drop 8) s
      | none => onPort p (fun q => { q with shifted := none }) s) :=
  congrArg Host.Outcome.next (if_neg (by simp [portReach_of_portUp h, hp]))

theorem exec_serial_ignored (h : portUp s p = true) (hp : p ≠ 2) {cs : List (BitVec 4)} (hlen : 8 ≤ cs.length)
    (hnone : spiOp p (serialNat 1 (cs.take 8)) = none) :
    exec (.registerWrite p off w (.serial cs)) s = .next (onPort p (fun q => { q with shifted := none }) s) := by
  rw [exec_serial h hp, if_neg (by omega), hnone]

/-- A transaction whose first eight clocks spell an opcode runs it on the rest. -/
theorem exec_serial_runs (h : portUp s p = true) (hp : p ≠ 2) {op rest : List (BitVec 4)} {o : SpiOp} (hlen : op.length = 8)
    (hop : spiOp p (serialNat 1 op) = some o) : exec (.registerWrite p off w (.serial (op ++ rest))) s = .next (spiRun p o rest s) := by
  rw [exec_serial h hp, if_neg (by simp [hlen]), List.take_left' hlen, List.drop_left' hlen, hop]

/-- A WRITE in the window writes its whole words. -/
theorem spiRun_write {ad d : List (BitVec 4)} (hlen : ad.length = 16) (hin : serialNat 1 ad < 0x1000) : spiRun p .write (ad ++ d) s =
    onPort p (fun q => { q with shifted := some [] })
      (spiWrites p 1 (wordOff (serialNat 1 ad)) (d.length / 32) (wordOff (serialNat 1 ad)) d s) := by
  unfold spiRun
  simp only [SpiOp.lines, SpiOp.dummy, SpiOp.reads, SpiOp.clocks, Nat.div_one, Nat.add_zero, List.take_left' hlen, List.drop_left' hlen,
    Bool.false_eq_true, if_false, Nat.mod_eq_of_lt hin, Nat.not_le.mpr hin, decide_false]

/-- A WRITE beyond the window writes nothing. -/
theorem spiRun_write_beyond {ad d : List (BitVec 4)} (hlen : ad.length = 16) (hout : 0x1000 ≤ serialNat 1 ad) :
    spiRun p .write (ad ++ d) s = onPort p (fun q => { q with shifted := some [] }) s := by
  unfold spiRun
  simp only [SpiOp.lines, SpiOp.dummy, SpiOp.reads, SpiOp.clocks, Nat.div_one, Nat.add_zero, List.take_left' hlen, List.drop_left' hlen,
    Bool.false_eq_true, if_false, hout, decide_true, if_true]

/-- A QREAD in the window shifts its word out. -/
theorem spiRun_qread {ad dum d : List (BitVec 4)} (had : ad.length = 4) (hdum : dum.length = 8) (hd : d.length = 8)
    (hin : serialNat 4 ad < 0x1000) : spiRun p .qread (ad ++ dum ++ d) s =
    onPort p (fun q => { q with shifted := some (serialOut 4 (readFull p (wordOff (serialNat 4 ad)) s).1) })
      (readFull p (wordOff (serialNat 4 ad)) s).2 := by
  have hhead : (ad ++ dum).length = 12 := by simp [had, hdum]
  have haddr : (ad ++ dum ++ d).take 4 = ad := by rw [List.append_assoc, List.take_left' had]
  have hdata : (ad ++ dum ++ d).drop 12 = d := List.drop_left' hhead
  unfold spiRun
  simp only [SpiOp.lines, SpiOp.dummy, SpiOp.reads, SpiOp.clocks, Nat.reduceDiv, Nat.reduceAdd, haddr, hdata, hd, Nat.mod_eq_of_lt hin,
    Nat.not_le.mpr hin, decide_false, if_true, Nat.reduceMod, spiReads, spiWord, Bool.false_eq_true, if_false, List.take_zero, List.append_nil]

theorem spiWrites_one (h : portUp s p = true) {start : Nat} {w0 : List (BitVec 4)} (hlen : w0.length = 32) :
    spiWrites p 1 start 1 start w0 s = writeReg p start (wd (serialNat 1 w0)) s := by
  simp [spiWrites, h, List.take_of_length_le (Nat.le_of_eq hlen)]

theorem spiWrites_two (h : portUp s p = true) {start : Nat} {w0 w1 : List (BitVec 4)} (h0 : w0.length = 32) (h1 : w1.length = 32) :
    spiWrites p 1 start 2 start (w0 ++ w1) s =
      (if portUp (writeReg p start (wd (serialNat 1 w0)) s) p then
        writeReg p (spiNext start start) (wd (serialNat 1 w1)) (writeReg p start (wd (serialNat 1 w0)) s)
       else writeReg p start (wd (serialNat 1 w0)) s) := by
  simp only [spiWrites, Nat.div_one, List.take_left' h0, List.drop_left' h0, h, if_true, List.take_of_length_le (Nat.le_of_eq h1)]

theorem spiOp_write : spiOp p 0x02 = some .write := rfl

theorem spiOp_qread (h : p ≠ 3) : spiOp p 0xEB = some .qread := by simp [spiOp, h]

theorem spiOp_iff (op : Nat) : (spiOp p op = some .read ↔ op = 0x0B) ∧ (spiOp p op = some .write ↔ op = 0x02) ∧
    (spiOp p op = some .qread ↔ op = 0xEB ∧ p ≠ 3) ∧ (spiOp p op = some .qwrite ↔ op = 0x38 ∧ p ≠ 3) := by
  unfold spiOp
  split
  case isTrue h => simp [h]
  case isFalse hread =>
    split
    case isTrue h => simp [h]
    case isFalse hwrite =>
      split
      case isTrue h => simp [h]
      case isFalse hqread =>
        split
        case isTrue h => simp [h]
        case isFalse hqwrite => simp [hread, hwrite, hqread, hqwrite]

theorem spiNext_eq (start off : Nat) :
    spiNext start off = if start ∈ [0x100, 0x120, 0x140, 0x160, 0x184, 0x1A4] then off else (off + 4) % 0x1000 := by
  simp [spiNext, reqDataOff, rspDataOff]

end

/-- Settles O25: `writeLane`, `readLane` and `spiTransfer` in the cases of the statement. -/
theorem windowWritesActOnTheirRegister : Obligations.WindowWritesActOnTheirRegister := by
  intro s p hup
  refine ⟨fun w => ?clear, fun w => ?intEn, fun w h => ?ctrl, fun w => ?portStat, fun off w lane => ?aligned, fun off w hp => ?low,
    fun off w => exec_write_high_alone hup, fun lo w hp hlatch => ?pair, fun off w hp => ?half, fun off => ?readWord, fun off hp => ?readLow,
    fun off hi hp hlatch => ?readHigh, fun cs hp => ?parallel, fun cs hp hlen => exec_serial_ignored hup hp hlen, fun op => spiOp_iff op,
    fun op ad w0 w1 hp hop had h0 h1 hcode hin => ?write, fun op ad dum w0 hp hp3 hop had hdum h0 hcode hin => ?qread,
    fun op ad w0 hp hop had hcode hout => ?beyond, spiNext_eq⟩
  case clear =>
    refine ⟨_, exec_intStatClear_of_up hup, ?_, fun q hq => port_onPort_ne _ s hq, onPort_only _ _ _⟩
    rw [port_onPort_self]
    rfl
  case intEn =>
    refine ⟨_, exec_write_word hup, ?_⟩
    rw [show wordOff 0x024 = 0x024 from rfl, writeReg_intEn, port_onPort_self, port_onPort_self]
    exact ⟨rfl, rfl⟩
  case ctrl =>
    refine ⟨_, exec_write_word hup, ?_⟩
    rw [show wordOff 0x010 = 0x010 from rfl, writeReg_ctrl h, port_onPort_self, port_onPort_self]
    exact ⟨rfl, rfl, rfl⟩
  case portStat =>
    refine ⟨_, exec_write_word hup, ?_⟩
    rw [show wordOff 0x014 = 0x014 from rfl, writeReg_portStat]
    exact ⟨regValue_latch none s p _, onPort_only _ _ _⟩
  case aligned =>
    refine congrArg Host.Outcome.next ?_
    rw [wordOff_idem]
  case low =>
    refine ⟨_, exec_write_low hup hp, ?_, fun o => regValue_latch _ s p o⟩
    rw [port_onPort_self]
  case pair =>
    refine ⟨_, exec_write_high_pair hup hp hlatch, ?_⟩
    rw [show wordOff 0x024 = 0x024 from rfl, writeReg_intEn, port_onPort_self, port_onPort_self]
    exact ⟨rfl, rfl⟩
  case half =>
    obtain ⟨hwl, hwh⟩ := exec_write_half_other (off := off) (w := w) hup hp
    obtain ⟨hrl, hrh⟩ := exec_read_half_other (off := off) (w := 0) hup hp
    exact ⟨hwl, hwh, hrl, hrh⟩
  case readWord =>
    refine ⟨_, exec_read_word hup, ?_⟩
    rw [port_onPort_self]
    exact ⟨rfl, rfl, rfl⟩
  case readLow =>
    refine ⟨_, exec_read_low hup hp, ?_⟩
    rw [port_onPort_self]
    exact ⟨rfl, rfl⟩
  case readHigh =>
    refine ⟨_, exec_read_high hup hp, ?_⟩
    rw [port_onPort_self, readHigh_latched hlatch]
    exact ⟨rfl, rfl⟩
  case parallel =>
    rw [hp]
    exact exec_serial_parallel cs
  case write =>
    have runs (d : List (BitVec 4)) : exec (.registerWrite p 0 0 (.serial (op ++ ad ++ d))) s = .next (spiRun p .write (ad ++ d) s) := by
      rw [List.append_assoc]
      exact exec_serial_runs hup hp hop (by rw [hcode, spiOp_write])
    refine ⟨?_, fun cut hcut => ?_, _, _, rfl, rfl, ?_⟩
    · rw [runs, spiRun_write had hin, h0, spiWrites_one hup h0]
    · rw [runs, spiRun_write had hin, Nat.div_eq_of_lt hcut]
      rfl
    · rw [runs, spiRun_write had hin, List.length_append, h0, h1, spiWrites_two hup h0 h1]
  case qread =>
    refine ⟨_, ?_, rfl⟩
    rw [List.append_assoc, List.append_assoc, exec_serial_runs hup hp hop (by rw [hcode, spiOp_qread hp3]), ← List.append_assoc,
      spiRun_qread had hdum h0 hin]
  case beyond =>
    rw [List.append_assoc, exec_serial_runs hup hp hop (by rw [hcode, spiOp_write]), spiRun_write_beyond had hout]

end Sys2Proof.Proofs
end

section
/-! PROOFS. The setting commands (O26), the SYS commands (O27, O28) and configuration sets (O29). -/
namespace Sys2Proof.Proofs
open Sys2Proof Sys2Proof.Machine Sys2Proof.Laws

/-! ### Settings that wait for the boundary -/

/-- An entry of a block below those of the secure reserve (R86). -/
theorem tlPut_of_open_block {block : Nat} (h : block < 0x11) (target rank : Nat) (kind : TlKind) (s : State) :
    tlPut target rank block kind true s = { s with tl := ⟨s.tl.entries ++ [⟨target, rank, s.tl.nextSeq, block, false, kind, true⟩],
      s.tl.nextSeq + 1, Nat.max s.tl.peak (s.tl.entries.length + 1)⟩ } := by
  have hopen : decide (0x11 ≤ block) = false := decide_eq_false (by omega)
  simp only [tlPut, hopen, Bool.false_and, List.length_append, List.length_cons, List.length_nil]

/-- A setting command whose action stores its change for the boundary. -/
theorem setting_waits {code block : Nat} {chk : Req → State → Option Fail} {act : Req → State → State} {r : Req} {s : State}
    (hact : act r = storeAtBoundary block r) (hblock : block < 0x11) (h : Runs code chk r s) (hroom : Room block s) :
    serve code chk act s = ok r [] (stored block r s) := by
  have hroom' : Room block (took r s) := hroom
  rw [serve_of_runs h, hact, storeAtBoundary_of_room hroom', tlPut_of_open_block hblock]
  rfl

theorem canBlock_open (p : Nat) : canBlock p < 0x11 := by
  unfold canBlock
  omega

theorem feBlock_open (w : Word) : 4 + fld w 31 31 < 0x11 := by
  unfold fld
  omega

/-- Settles O26: each command's action is `storeAtBoundary` of its block. -/
theorem settingsWaitForTheBoundary : Obligations.SettingsWaitForTheBoundary := by
  intro r s
  refine ⟨?_, ?_, ?_, ?_, ?_, ?_, ?_, ?_, ?_, ?_, ?_, ?_, ?_, ?_, ?_, ?_, ?_, ?_, ?_, ?_, ?_, ?_, ?_, ?_, ?_, ?_⟩
  case refine_2 => exact fun h hroom => congrArg Host.Outcome.next (setting_waits rfl (feBlock_open _) h hroom)
  case refine_24 | refine_25 => exact fun h hroom => congrArg Host.Outcome.next (setting_waits rfl (canBlock_open _) h hroom)
  all_goals exact fun h hroom => congrArg Host.Outcome.next (setting_waits rfl (by decide) h hroom)

/-! ### The SYS commands that read -/

section
variable {r : Req} {s : State}

theorem actSysCaps_a (h : s.dev.variant = .a) : actSysCaps r s = ok r [caps0 s, caps1 s, 0xFFFFFFFF#32, 0xFFFFFFFF#32,
    packW [(0x7F, 16), (0xF, 8), (7, 4), (0xF, 0)], packW [(2047, 16), (8, 8)], packW [(0x41, 24), (2, 16), (1792, 0)]] s := by
  simp only [actSysCaps, h]
  rfl

theorem actSysCaps_b (h : s.dev.variant = .b) : actSysCaps r s = ok r [caps0 s, caps1 s, 0xFFFFFFFF#32, 0,
    packW [(7, 4), (0xF, 0)], packW [(2047, 16), (8, 8)], packW [(0x42, 24), (2, 16), (1792, 0)]] s := by
  simp only [actSysCaps, h]
  rfl

theorem actSysCaps_c (h : s.dev.variant = .c) : actSysCaps r s = ok r [caps0 s, caps1 s, 0xFFFFFFFF#32, 0xFFFFFFFF#32,
    packW [(0x7F, 16), (0xF, 8), (7, 4), (0xF, 0)], packW [(2047, 16), (8, 8)], packW [(0x43, 24), (2, 16), (1792, 0)]] s := by
  simp only [actSysCaps, h]
  rfl

theorem applySysPower_read (h : bit (r.w 3) 31 = false) : applySysPower r s = s := if_neg (by simp [h])

end

/-- Settles O27: the reading commands' actions. -/
theorem systemReadsAnswer : Obligations.SystemReadsAnswer := by
  intro r s
  refine ⟨fun h => congrArg Host.Outcome.next (serve_of_runs h), fun h => congrArg Host.Outcome.next (serve_of_runs h),
    fun h hv => congrArg Host.Outcome.next ((serve_of_runs h).trans (actSysCaps_a (s := took r s) hv)),
    fun h hv => congrArg Host.Outcome.next ((serve_of_runs h).trans (actSysCaps_b (s := took r s) hv)),
    fun h hv => congrArg Host.Outcome.next ((serve_of_runs h).trans (actSysCaps_c (s := took r s) hv)),
    fun h => congrArg Host.Outcome.next (serve_of_runs h),
    fun h => ⟨Config.freeNat s.clk.free, _, congrArg Host.Outcome.next (serve_of_runs h), rfl⟩, fun h hread => ?_⟩
  refine ⟨Config.freeNat s.clk.free, _, congrArg Host.Outcome.next ((serve_of_runs h).trans ?_), rfl⟩
  unfold actSysPower
  rw [applySysPower_read hread]
  rfl

/-! ### What a settled mode leaves of the supply unit and the watchdogs -/

/-- The supply unit is the same but for the mode and AUTONOMOUS. -/
def SameSupply (s t : State) : Prop := ∃ m a, t.pwr = { s.pwr with mode := m, autonomous := a }

theorem SameSupply.of_pwr {s t : State} (h : t.pwr = s.pwr) : SameSupply s t := ⟨s.pwr.mode, s.pwr.autonomous, h⟩

theorem SameSupply.trans {s t u : State} (h : SameSupply s t) (g : SameSupply t u) : SameSupply s u := by
  obtain ⟨m, a, h⟩ := h
  obtain ⟨m', a', g⟩ := g
  exact ⟨m', a', by rw [g, h]⟩

/-- Every watchdog keeps its stored timeout. -/
def SameTimeouts (s t : State) : Prop := ∀ p : Fin 4, (t.wd.get p).timeout = (s.wd.get p).timeout

theorem SameTimeouts.of_wd {s t : State} (h : t.wd = s.wd) : SameTimeouts s t := fun p => by rw [h]

theorem SameTimeouts.trans {s t u : State} (h : SameTimeouts s t) (g : SameTimeouts t u) : SameTimeouts s u :=
  fun p => (g p).trans (h p)

theorem SameTimeouts.of_upd (f : Watchdog → Watchdog) (hf : ∀ w, (f w).timeout = w.timeout) (p : Fin 4) (s : State) :
    SameTimeouts s { s with wd := s.wd.upd p f } := by
  intro q
  by_cases h : q = p
  · rw [h]
    exact (congrArg Watchdog.timeout (get_upd_self s.wd p f)).trans (hf _)
  · exact congrArg Watchdog.timeout (get_upd_ne s.wd f h)

theorem restartAll_timeouts (s : State) : SameTimeouts s (restartAll s) := by
  refine List.foldlRecOn allPorts _ (motive := fun t => SameTimeouts s t) (.of_wd rfl) fun t ht p _ => ?_
  split
  · exact ht.trans (.of_upd (fun w => w.restart t.clk.ticks) (fun _ => rfl) p t)
  · exact ht

section
variable (old : State) (cause : Nat) (s : State)

/-- A settled mode is reported from a state with the watchdogs and the supply unit it leaves. -/
theorem settleMode_reported : ∃ t, settleMode old cause s = reportMode old.pwr.mode (flagsByte old) cause t ∧
    SameSupply s t ∧ SameTimeouts s t := by
  unfold settleMode
  split
  · exact ⟨s, rfl, .of_pwr rfl, .of_wd rfl⟩
  extract_lets m started pwr s1 pwr1
  suffices h : SameSupply s s1 ∧ SameTimeouts s s1 by
    obtain ⟨supply, times⟩ := h
    exact ⟨_, rfl, supply.trans ⟨modeNow s1, s1.pwr.autonomous, rfl⟩, times⟩
  have restarted : started.pwr = s.pwr := (keeps_restartAll s rfl (Keeps.refl 4 s)).get 2 rfl
  subst s1
  split
  · exact ⟨⟨s.pwr.mode, _, by rw [← restarted]⟩, restartAll_timeouts s⟩
  split
  · exact ⟨.of_pwr rfl, fun p => (congrArg Watchdog.timeout (get_map s.wd _ p)).trans rfl⟩
  split
  · refine List.foldlRecOn allPorts _ (motive := fun t => SameSupply s t ∧ SameTimeouts s t) ⟨.of_pwr rfl, .of_wd rfl⟩
      fun t ht p _ => ?_
    split
    · exact ⟨ht.1.trans (.of_pwr rfl), ht.2.trans (.of_upd (fun w => w.resume t.clk.ticks) (fun _ => rfl) p t)⟩
    · exact ht
  · exact ⟨.of_pwr rfl, .of_wd rfl⟩

theorem reportMode_pwr (oldMode : Mode) (oldFlags : Nat) : (reportMode oldMode oldFlags cause s).pwr = s.pwr :=
  (keeps_reportMode oldMode oldFlags cause s (mk := 4) rfl (Keeps.refl _ s)).get 2 rfl

theorem settleMode_supply : SameSupply s (settleMode old cause s) := by
  obtain ⟨t, ht, supply, -⟩ := settleMode_reported old cause s
  rw [ht]
  exact supply.trans (.of_pwr (reportMode_pwr ..))

theorem settleMode_timeouts : SameTimeouts s (settleMode old cause s) := by
  obtain ⟨t, ht, -, times⟩ := settleMode_reported old cause s
  rw [ht]
  exact times.trans (.of_wd (reportMode_wd ..))

theorem evalAuto_timeouts : SameTimeouts s (evalAuto cause s) := by
  unfold evalAuto
  extract_lets a _ t
  split
  · exact .of_wd rfl
  have settled : SameTimeouts s t := settleMode_timeouts s _ { s with pwr := { s.pwr with autonomous := a } }
  split
  · exact settled.trans (.of_wd (applySafe_wd ..))
  · exact settled

end

/-- A module that is not commissioned settles into COMMISSION, its watchdogs stopped (R63). -/
theorem settleMode_commission (old : State) (cause : Nat) {s : State} (hserved : served s = true) (hwin : s.upd.windowOpen = false)
    (hcomm : s.pwr.commissioned = false) : (settleMode old cause s).pwr.mode = .commission ∧
      ∀ p : Fin 4, ((settleMode old cause s).wd.get p).running = false := by
  have hmode : modeNow s = .commission := by simp [modeNow, hwin, hcomm]
  have hstopped : modeNow { s with wd := s.wd.map fun w => { w with running := false } } = .commission := hmode
  unfold settleMode
  simp only [hserved, hmode, wdMode, Bool.not_true, Bool.false_eq_true, if_false, Bool.false_and, if_true]
  refine ⟨?_, fun p => ?_⟩
  · rw [reportMode_pwr]
    exact hstopped
  · rw [reportMode_wd]
    exact congrArg Watchdog.running (get_map ..)

/-! ### The SYS commands that act -/

section
variable {r : Req} {s : State}

theorem actSysWatchdog_reads (h : fld (r.w 3) 16 0 = 0) : actSysWatchdog r s = ok r [wd (s.wd.get (wdPort r)).timeout] s := if_pos h

/-- The watchdog with its new timeout, restarted where it runs. -/
def retimed (n ticks : Nat) (w : Watchdog) : Watchdog :=
  if w.running && !w.expired then { w with timeout := n }.restart ticks else { w with timeout := n }

theorem retimed_timeout (n ticks : Nat) (w : Watchdog) : (retimed n ticks w).timeout = n := by
  unfold retimed
  split <;> rfl

/-- The state with the new timeout, before AUTONOMOUS is judged. -/
def watchdogSet (p : Fin 4) (n : Nat) (s : State) : State :=
  logNs evWatchdogSet p.val [p.val, (s.wd.get p).timeout, n]
    (markStored 0xFF { s with wd := s.wd.put p (retimed n s.clk.ticks (s.wd.get p)) })

theorem actSysWatchdog_sets (h : fld (r.w 3) 16 0 ≠ 0) : actSysWatchdog r s =
    ok r [wd (s.wd.get (wdPort r)).timeout] (evalAuto 0 (watchdogSet (wdPort r) (fld (r.w 3) 16 0) s)) := if_neg h

theorem watchdogSet_timeout (p : Fin 4) (n : Nat) : ((evalAuto 0 (watchdogSet p n s)).wd.get p).timeout = n := by
  rw [evalAuto_timeouts]
  exact (congrArg Watchdog.timeout (get_put_self ..)).trans (retimed_timeout ..)

theorem dropSets_none {p : Fin 4} (cause : Nat) (hopen : (s.ports.get p).openSet = none) (hacc : (s.ports.get p).accepted = []) :
    dropSets p cause s = s := by
  simp only [dropSets, dropOpen, hopen, hacc, List.foldl_nil]

theorem actSysMode_commissions (h : fld (r.w 3) 2 0 = 4) : actSysMode r s =
    ok r [] (settleMode s 0 { s with pwr := { s.pwr with commissioned := true } }) := if_pos h

theorem actSysMode_returns (h : fld (r.w 3) 2 0 ≠ 4)
    (hnone : ∀ p : Fin 4, (s.ports.get p).openSet = none ∧ (s.ports.get p).accepted = []) : actSysMode r s =
    ok r [] (settleMode s 0 { s with pwr := { s.pwr with commissioned := false } }) := by
  have hdrop (p : Fin 4) : dropSets p 3 s = s := dropSets_none 3 (hnone p).1 (hnone p).2
  simp only [actSysMode, h, if_false, allPorts, List.foldl_cons, List.foldl_nil, hdrop]

theorem settleMode_commissioned (old : State) (cause : Nat) (s : State) :
    (settleMode old cause s).pwr.commissioned = s.pwr.commissioned := by
  obtain ⟨m, a, h⟩ := settleMode_supply old cause s
  rw [h]

/-- The units that a settled mode leaves. -/
theorem settleMode_units (old : State) (cause : Nat) (s : State) : (settleMode old cause s).key = s.key ∧
    (settleMode old cause s).lat = s.lat ∧ (settleMode old cause s).sch = s.sch := by
  have h := keeps_settleMode old cause s (mk := 0xFFFFFFFFF5F3) rfl (Keeps.refl _ s)
  exact ⟨h.get 22 rfl, h.get 14 rfl, h.get 16 rfl⟩

theorem applyEff_vPfwEff : (applyEff s).pwr.vPfwEff = effRule (pfwThreshold s) s.pwr.vin ∧ (applyEff s).pwr.vin = s.pwr.vin ∧
    (applyEff s).pwr.pfwStored = s.pwr.pfwStored := by
  unfold applyEff
  extract_lets thr v s1
  split <;> exact ⟨rfl, rfl, rfl⟩

/-- SYS.POWER answers three words, and leaves the supply unit as its write does. -/
theorem actSysPower_answers (r : Req) (s : State) : ∃ t ws, actSysPower r s = ok r ws t ∧ t.pwr = (applySysPower r s).pwr ∧ ws.length = 3 :=
  ⟨_, _, rfl, rfl, rfl⟩

theorem applySysPower_write (h : bit (r.w 3) 31 = true) : applySysPower r s =
    applyEff (markStored 0xFF { s with pwr := { s.pwr with pfwStored := some (fld (r.w 3) 9 0) } }) := if_pos h

end

/-- Settles O28: the acting commands' actions. -/
theorem systemCommandsAct : Obligations.SystemCommandsAct := by
  intro r s
  refine ⟨fun h => congrArg Host.Outcome.next (serve_of_runs h), fun h => congrArg Host.Outcome.next (serve_of_runs h),
    fun h hread => congrArg Host.Outcome.next ((serve_of_runs h).trans (actSysWatchdog_reads (s := took r s) hread)),
    fun h hset => ?watchdog, fun h hmode => ?commission, fun h hmode hnone => ?back, fun h hwrite => ?power⟩
  case watchdog =>
    refine ⟨_, congrArg Host.Outcome.next ((serve_of_runs h).trans (actSysWatchdog_sets (s := took r s) hset)), watchdogSet_timeout .., ?_⟩
    have kept := keeps_evalAuto 0 (watchdogSet (wdPort r) (fld (r.w 3) 16 0) (took r s)) (mk := 0xFFFFFFEFF5F3) rfl (Keeps.refl _ _)
    exact ⟨kept.get 4 rfl, kept.get 22 rfl, kept.get 14 rfl⟩
  case commission =>
    refine ⟨_, congrArg Host.Outcome.next ((serve_of_runs h).trans (actSysMode_commissions (s := took r s) hmode)), ?_, ?_⟩
    · rw [settleMode_commissioned]
    · exact settleMode_units _ _ _
  case back =>
    refine ⟨_, congrArg Host.Outcome.next ((serve_of_runs h).trans (actSysMode_returns (s := took r s) hmode hnone)), ?_,
      fun hserved hwin => settleMode_commission _ _ hserved hwin rfl, ?_⟩
    · rw [settleMode_commissioned]
    · exact settleMode_units _ _ _
  case power =>
    obtain ⟨heff, hvin, hstored⟩ := applyEff_vPfwEff
      (s := markStored 0xFF { took r s with pwr := { s.pwr with pfwStored := some (fld (r.w 3) 9 0) } })
    obtain ⟨t, ws, ht, hpwr, hlen⟩ := actSysPower_answers r (took r s)
    rw [applySysPower_write hwrite] at hpwr
    refine ⟨t, ws, congrArg Host.Outcome.next ((serve_of_runs h).trans ht), ?_⟩
    rw [hpwr]
    exact ⟨hstored, hvin, heff, hlen⟩

/-! ### Configuration sets -/

section
variable {r : Req} {s : State} {o : CfgSet}

/-- A commit whose checks pass accepts the set, to be applied at its target cycle (R171, R172). -/
theorem actSysCfgCommit_accepts (hopen : (s.ports.get r.port).openSet = some o) (hcheck : setCheck r o = none) (hroom : Room 3 s) :
    actSysCfgCommit r s = accept r (onPort r.port (fun q => { q with
      openSet := none, accepted := q.accepted ++ [⟨o.id, o.staged, r.origin true⟩], lastSet := some o.id })
      (tlPut (targetCyc r s * 4096) 3 3 (.cfgSet r.port r.id) true s)) := by
  simp only [actSysCfgCommit, hopen, hcheck, tlPost_of_room hroom]

theorem actSysCfgCommit_refuses {f : Fail} (hopen : (s.ports.get r.port).openSet = some o) (hcheck : setCheck r o = some f) :
    actSysCfgCommit r s = failReq r f (logNs evCfgCommit r.port.val [r.port.val, o.id, f.status, 0]
      (onPort r.port (fun q => { q with openSet := none }) s)) := by
  simp only [actSysCfgCommit, hopen, hcheck]

theorem dropOpen_some {p : Fin 4} (cause : Nat) (hopen : (s.ports.get p).openSet = some o) : dropOpen p cause s =
    logNs evCfgDiscarded p.val [p.val, o.id, cause] (onPort p (fun q => { q with openSet := none }) s) := by
  simp only [dropOpen, hopen]

theorem actSysCfgAbort_open (hopen : (s.ports.get r.port).openSet = some o) (hid : o.id = (r.w 3).toNat) :
    actSysCfgAbort r s = ok r [] (dropOpen r.port 0 s) := by
  simp only [actSysCfgAbort, hopen, hid, beq_self_eq_true, if_true]

theorem actSysCfgAbort_accepted {a : Accepted} (hopen : (s.ports.get r.port).openSet = none)
    (hfind : ((s.ports.get r.port).accepted.find? fun x => x.id == (r.w 3).toNat) = some a) :
    actSysCfgAbort r s = ok r [] (dropAccepted r.port 0 a s) := by
  simp only [actSysCfgAbort, hopen, hfind, Bool.false_eq_true, if_false]

theorem exec_cfgSetTimeout_of_due {p : Fin 4} (hopen : (s.ports.get p).openSet = some o) (hdue : o.since + 600 * 40000000 ≤ s.clk.ticks) :
    exec (.cfgSetTimeout p) s = .next (dropOpen p 4 s) := by
  refine congrArg Host.Outcome.next ?_
  simp only [hopen, hdue, if_true]

theorem exec_cfgSetApply_of_due {media : Bool} {e : TlEntry} {p : Fin 4} {commit : Nat} (hdue : Due e s) (hkind : e.kind = .cfgSet p commit) :
    exec (.cfgSetApply media) s = .next (applySet media p commit (tlRemove e.seq s)) :=
  congrArg Host.Outcome.next (tlFire_of_due hdue (by rw [hkind]))

/-- Every command of the set takes effect (R173). -/
theorem applySet_whole {media : Bool} {p : Fin 4} {a : Accepted} {t : State}
    (hfind : ((s.ports.get p).accepted.find? fun x => x.origin.id == a.origin.id) = some a) (hrun : runSet media a.staged 1 s = .ok t) :
    applySet media p a.origin.id s = complete a.origin stOk (setWords a.staged.length 0xFFFF (cycOf s) 0)
      (logNs evCfgCommit p.val [p.val, a.id, stOk, a.staged.length]
        (onPort p (fun q => { q with accepted := q.accepted.filter fun x => x.origin.id != a.origin.id }) t)) := by
  simp only [applySet, hfind, hrun]

/-- No command of the set takes effect (R173). -/
theorem applySet_nothing {media : Bool} {p : Fin 4} {a : Accepted} {k : Nat} {f : Fail}
    (hfind : ((s.ports.get p).accepted.find? fun x => x.origin.id == a.origin.id) = some a)
    (hrun : runSet media a.staged 1 s = .error (k, f)) :
    applySet media p a.origin.id s = complete a.origin f.status (setWords 0 k 0 (detail f))
      (logNs evCfgCommit p.val [p.val, a.id, f.status, 0]
        (onPort p (fun q => { q with accepted := q.accepted.filter fun x => x.origin.id != a.origin.id }) s)) := by
  simp only [applySet, hfind, hrun]

/-- A settings reset of a unit's set is queued for the next boundary (R175). -/
theorem actSysSettingsReset_queues (hid : fld (r.w 3) 7 0 ≤ 0x10) (hroom : Room (fld (r.w 3) 7 0) s) : actSysSettingsReset r s =
    ok r [] (tlPut (nextBoundary s) 3 (fld (r.w 3) 7 0) (.settingsReset (fld (r.w 3) 7 0)) true s) := by
  have hset : fld (r.w 3) 7 0 ≠ 0xFF := by omega
  simp only [actSysSettingsReset, hset, if_false, tlPost_of_room hroom]

theorem exec_configEntryApply_of_reset {e : TlEntry} {id : Nat} (hdue : Due e s) (hkind : e.kind = .settingsReset id) :
    exec .configEntryApply s = .next (resetSet id (tlRemove e.seq s)) :=
  congrArg Host.Outcome.next (tlFire_of_due hdue (by rw [hkind]))

end

/-- Settles O29: the commands of sets, their entry and the settings reset. -/
theorem setsApplyWholeOrNotAtAll : Obligations.SetsApplyWholeOrNotAtAll := by
  intro s
  refine ⟨fun r h => congrArg Host.Outcome.next (serve_of_runs h), fun r o h hopen hcheck hroom => ?accepts,
    fun r o f h hopen hcheck => ?refuses, fun r o h hopen hid => ?abortOpen, fun r a h hopen hfind => ?abortAccepted,
    fun p o hopen hdue => ?timeout, fun media e p a t hdue hkind hfind hrun => ?whole,
    fun media e p a k f hdue hkind hfind hrun => ?nothing, fun r h hid hroom => ?queues, fun e id hdue hkind => ?reset⟩
  case accepts =>
    have hact := actSysCfgCommit_accepts (s := took r s) hopen hcheck hroom
    refine ⟨_, congrArg Host.Outcome.next ((serve_of_runs h).trans hact), ?_⟩
    rw [port_onPort_self]
    exact ⟨rfl, rfl, rfl, rfl⟩
  case refuses =>
    refine ⟨_, congrArg Host.Outcome.next ((serve_of_runs h).trans (actSysCfgCommit_refuses (s := took r s) hopen hcheck)), ?_⟩
    rw [logNs_ports, port_onPort_self]
    exact ⟨rfl, rfl, rfl⟩
  case abortOpen =>
    refine congrArg Host.Outcome.next ((serve_of_runs h).trans ((actSysCfgAbort_open (s := took r s) hopen hid).trans ?_))
    rw [dropOpen_some (s := took r s) 0 hopen]
  case abortAccepted => exact congrArg Host.Outcome.next ((serve_of_runs h).trans (actSysCfgAbort_accepted (s := took r s) hopen hfind))
  case timeout => rw [exec_cfgSetTimeout_of_due hopen hdue, dropOpen_some 4 hopen]
  case whole => exact (exec_cfgSetApply_of_due hdue hkind).trans (congrArg Host.Outcome.next (applySet_whole (s := tlRemove e.seq s) hfind hrun))
  case nothing =>
    have happly := applySet_nothing (s := tlRemove e.seq s) hfind hrun
    refine ⟨_, (exec_cfgSetApply_of_due hdue hkind).trans (congrArg Host.Outcome.next happly), ?_⟩
    have hport := keeps_onPort p (fun q => { q with accepted := q.accepted.filter fun x => x.origin.id != a.origin.id })
      (tlRemove e.seq s) (mk := 0xFFFFFFFFF1DF) (s0 := s) rfl id (keeps_tlRemove _ _ rfl (Keeps.refl _ s))
    exact only_of_keeps (keeps_complete _ _ _ _ rfl (keeps_logNs _ _ _ _ rfl hport)) (by decide)
  case queues =>
    have hact := actSysSettingsReset_queues (s := took r s) hid hroom
    rw [tlPut_of_open_block (by omega)] at hact
    exact ⟨_, congrArg Host.Outcome.next ((serve_of_runs h).trans hact), rfl⟩
  case reset => exact exec_configEntryApply_of_reset hdue hkind

end Sys2Proof.Proofs
end

section
/-! PROOFS. The front ends (O30): what an operation on a front end or an engine leaves, and the rules of each event. -/
namespace Sys2Proof.Proofs
open Sys2Proof Sys2Proof.Machine Sys2Proof.Laws

/-! ### Front ends and engines -/

section
variable {s : State} {k n : Nat}

@[simp] theorem feOf_updFe_self (k : Nat) (f : FrontEnd → FrontEnd) (s : State) : feOf (updFe k f s) k = f (feOf s k) := by
  unfold feOf updFe
  split <;> rfl

@[simp] theorem updFe_ces (k : Nat) (f : FrontEnd → FrontEnd) (s : State) : (updFe k f s).rad.ces = s.rad.ces := by
  unfold updFe
  split <;> rfl

@[simp] theorem updFe_stored (k : Nat) (f : FrontEnd → FrontEnd) (s : State) : (updFe k f s).rad.stored = s.rad.stored := by
  unfold updFe
  split <;> rfl

@[simp] theorem ceOf_updFe (k : Nat) (f : FrontEnd → FrontEnd) (s : State) (n : Nat) : ceOf (updFe k f s) n = ceOf s n := by
  unfold ceOf
  rw [updFe_ces]

@[simp] theorem feOf_updCe (n : Nat) (f : Engine → Engine) (s : State) (k : Nat) : feOf (updCe n f s) k = feOf s k := rfl

theorem feOf_logNs (code inst : Nat) (content : List Nat) (s : State) (k : Nat) : feOf (logNs code inst content s) k = feOf s k := rfl

theorem getD_of_length_le {α : Type} {l : List α} {k : Nat} (d : α) (h : l.length ≤ k) : l.getD k d = d := by
  rw [List.getD_eq_getElem?_getD, List.getElem?_eq_none h, Option.getD_none]

theorem getD_of_lt_length {α : Type} {l : List α} {k : Nat} (d : α) (h : k < l.length) : l.getD k d = l[k] := by
  rw [List.getD_eq_getElem?_getD, List.getElem?_eq_getElem h, Option.getD_some]

theorem ceOf_updCe_self (f : Engine → Engine) (h : n < s.rad.ces.length) : ceOf (updCe n f s) n = f (ceOf s n) := getD_updAt_self f _ h

theorem ceOf_updCe_ne {m : Nat} (f : Engine → Engine) (s : State) (h : m ≠ n) : ceOf (updCe n f s) m = ceOf s m := getD_updAt_ne _ f _ h

theorem ceOf_out (h : s.rad.ces.length ≤ n) : ceOf s n = Engine.empty := getD_of_length_le _ h

/-- An engine that is in the list, or the empty one. -/
theorem ceOf_mem (s : State) (n : Nat) : ceOf s n ∈ s.rad.ces ∨ s.rad.ces.length ≤ n := by
  by_cases h : n < s.rad.ces.length
  · left
    rw [ceOf, getD_of_lt_length _ h]
    exact List.getElem_mem h
  · exact .inr (Nat.le_of_not_lt h)

theorem updAt_of_length_le {α : Type} {l : List α} {n : Nat} (f : α → α) (h : l.length ≤ n) : updAt l n f = l := by
  refine List.ext_getElem? fun i => ?_
  rw [getElem?_updAt]
  split
  · next hi =>
    rw [hi, List.getElem?_eq_none h]
    rfl
  · rfl

theorem updCe_out (f : Engine → Engine) (h : s.rad.ces.length ≤ n) : updCe n f s = s := by
  unfold updCe
  rw [updAt_of_length_le f h]

/-! ### Retune, foldback and temperature -/

theorem exec_feRetune_of_idle {fe : Fin 2} {us : Nat} (hidle : (feOf s fe.val).carriers = [])
    (hnew : (feOf s fe.val).centre ≠ (feCfg s fe.val).centre ∨ (feOf s fe.val).role ≠ (feCfg s fe.val).role) :
    exec (.feRetune fe us) s = .next (purgeDisabled s (logUncovered s 0 (dropInvalid (updFe fe.val (fun f => { f with
      centre := (feCfg s fe.val).centre, role := (feCfg s fe.val).role, retuneUntil := s.clk.ticks + min us 200 * 40 }) s)))) := by
  refine congrArg Host.Outcome.next (if_pos ?_)
  obtain h | h := hnew <;> simp [hidle, h]

theorem exec_feRetune_of_busy {fe : Fin 2} {us : Nat} (hbusy : (feOf s fe.val).carriers ≠ []) : exec (.feRetune fe us) s = .next s :=
  congrArg Host.Outcome.next (if_neg (by simp [hbusy]))

theorem setFbV_fe (k v : Nat) (s : State) : (feOf (setFbV k v s) k).fbV = v := by
  unfold setFbV
  extract_lets o
  split
  · next h => exact h
  · rw [feOf_logNs, feOf_updFe_self]

theorem exec_vswrRecovery_of_good {fe : Fin 2} (hfb : (feOf s fe.val).fbV ≠ 0) (hticks : 2400000000 ≤ s.clk.ticks)
    (hbad : (feOf s fe.val).vswrBad ≤ s.clk.ticks - 2400000000) (hlen : 10 ≤ (feOf s fe.val).vswrLow.length)
    (hlow : ∀ t ∈ (feOf s fe.val).vswrLow, 0 < t ∧ s.clk.ticks - 2400000000 ≤ t) :
    exec (.vswrRecovery fe) s = .next (setFbV fe.val 0 s) := by
  refine congrArg Host.Outcome.next (if_pos ?_)
  have hmem : (feOf s fe.val).vswrLow.getD 9 0 ∈ (feOf s fe.val).vswrLow := by
    rw [getD_of_lt_length _ (show 9 < _ from hlen)]
    exact List.getElem_mem _
  obtain ⟨hpos, hrecent⟩ := hlow _ hmem
  have hmatch : (match (feOf s fe.val).vswrLow.getD 9 0 with | 0 => false | t => decide (s.clk.ticks - 2400000000 ≤ t)) = true := by
    split
    · next h => exact absurd h (by omega)
    · exact decide_eq_true hrecent
  simp only [hfb, hbad, hticks, bne_iff_ne, ne_eq, not_false_eq_true, decide_true, Bool.and_true, Bool.and_eq_true, true_and]
  exact hmatch

/-- A record that an event may leave is no part of a front end. -/
theorem feOf_logged (c : Prop) [Decidable c] (code inst : Nat) (content : List Nat) (s : State) (k : Nat) :
    feOf (if c then logNs code inst content s else s) k = feOf s k := by
  split <;> rfl

/-- The tests on a front end note its highest temperature (R207). -/
def heatTests (k : Nat) (x : Int) (s : State) : State :=
  { s with rad := { s.rad with ces := s.rad.ces.map fun e => { e with
    test := e.test.map fun y => if y.fe = k then { y with peakTemp := max y.peakTemp x } else y } } }

theorem feOf_heatTests (j : Nat) (x : Int) (s : State) (k : Nat) : feOf (heatTests j x s) k = feOf s k := rfl

/-- The thermal foldback and the stop that a temperature of the power amplifier sets (R207). -/
def heated (x : Int) (f : FrontEnd) : FrontEnd :=
  { f with
    paTemp := x, fbT := if x ≤ 105 then 0 else ((x - 105 + 1) / 2).toNat
    thermStop := if 125 ≤ x then true else if x < 115 then false else f.thermStop }

theorem exec_paTemperatureChange (fe : Fin 2) (x : Int) (s : State) : ∃ t, exec (.paTemperatureChange fe x) s = .next t ∧
    feOf t fe.val = heated x (feOf s fe.val) :=
  ⟨_, rfl, (feOf_logged _ _ _ _ (heatTests fe.val x (updFe fe.val (fun f => { f with
      paTemp := x, fbT := (heated x (feOf s fe.val)).fbT, thermStop := (heated x (feOf s fe.val)).thermStop }) s)) _).trans
    ((feOf_heatTests ..).trans (feOf_updFe_self ..))⟩

/-! ### Faults and predistortion -/

theorem exec_evFeFault_new {fe : Fin 2} {pa : Bool} (h : (feOf s fe.val).fault = false) : exec (.evFeFault fe pa) s =
    .next (logNs (evFeFault + 256 * fe.val) 0xFF [b2n pa] (purgeDisabled s (dropInvalid
      (stopAll fe.val 4 (updFe fe.val (fun f => { f with fault := true, faultTick := s.clk.ticks }) s))))) :=
  congrArg Host.Outcome.next (if_neg (by simp [h]))

theorem exec_feRelockRetry_of_due {fe : Fin 2} {ok : Bool} (hfault : (feOf s fe.val).fault = true)
    (hdue : (feOf s fe.val).faultTick + 40000000 ≤ s.clk.ticks) :
    exec (.feRelockRetry fe ok) s = .next (updFe fe.val (fun f => { f with fault := !ok, faultTick := s.clk.ticks }) s) :=
  congrArg Host.Outcome.next (if_pos (by simp [hfault, hdue]))

theorem updFe_only (k : Nat) (f : FrontEnd → FrontEnd) (s : State) : OnlyChanges [.rad] s (updFe k f s) :=
  only_of_keeps (keeps_updFe k f s (mk := 0xFFFFFFFFEFFF) rfl (Keeps.refl _ s)) (by decide)

/-- A faulted front end admits nothing (R215). -/
theorem admits_of_fault (h : (feOf s k).fault = true) (p : Int) : admits s k p = false := by simp [admits, feClosed, feServes, h]

theorem admits_of_dpdStop (h : (feOf s k).dpdStop = true) (p : Int) : admits s k p = false := by simp [admits, h]

theorem exec_dpdApply_of_idle {fe : Fin 2} {st : Fin 3} (h : (feOf s fe.val).carriers = []) : ∃ sets, exec (.dpdApply fe st) s =
    .next (updFe fe.val (fun f => { f with dpdSets := sets, dpdPend := none, dpdStop := false, dpdCyc := cycOf s, dpdState := st.val }) s) :=
  ⟨_, congrArg Host.Outcome.next (if_pos (by simp [h]))⟩

theorem exec_dpdApply_of_busy {fe : Fin 2} {st : Fin 3} (h : (feOf s fe.val).carriers ≠ []) : ∃ sets, exec (.dpdApply fe st) s =
    .next (updFe fe.val (fun f => { f with dpdSets := sets, dpdPend := f.dpdPend.or (some s.clk.ticks), dpdState := 3 }) s) :=
  ⟨_, congrArg Host.Outcome.next (if_neg (by simp [h]))⟩

theorem exec_dpdTimeout_of_due {fe : Fin 2} {t0 : Nat} (hpend : (feOf s fe.val).dpdPend = some t0) (hdue : t0 + 400000000 ≤ s.clk.ticks) :
    exec (.dpdTimeout fe) s = .next (updFe fe.val (fun f => { f with dpdStop := true }) s) := by
  refine congrArg Host.Outcome.next ?_
  simp only [hpend, hdue, if_true]

/-! ### Receive calibration -/

/-- While every engine receives, none adopts a new set (R209). -/
theorem adopt_none {l : List Nat} (h : ∀ e ∈ s.rad.ces, e.st = .receive) :
    l.foldl (fun s n => if (ceOf s n).st == .receive then s else adoptRx n s) s = s := by
  refine List.foldlRecOn l _ (motive := fun t => t = s) rfl fun t ht n _ => ?_
  subst ht
  split
  · rfl
  · next hst =>
    obtain hmem | hout := ceOf_mem t n
    · exact absurd (h _ hmem) (by simpa using hst)
    · exact updCe_out _ hout

/-- The front end with a new receive set. -/
def published (a ph di dq : Int) (cyc : Nat) (f : FrontEnd) : FrontEnd :=
  { f with rxSets := f.rxSets + 1, iqAmp := a, iqPhase := ph, dcI := di, dcQ := dq, rxCyc := cyc }

theorem exec_rxCalPublish_receiving {fe : Fin 2} {a ph di dq : Int} (h : ∀ e ∈ s.rad.ces, e.st = .receive) :
    exec (.rxCalPublish fe a ph di dq) s = .next (updFe fe.val (published a ph di dq (cycOf s)) s) :=
  congrArg Host.Outcome.next (adopt_none (by rwa [updFe_ces]))

theorem exec_rxCalAdopt_of_free (h : (ceOf s n).st ≠ .receive) : exec (.rxCalAdopt n) s = .next (adoptRx n s) :=
  congrArg Host.Outcome.next (if_neg (by simpa using h))

/-! ### Gain -/

theorem exec_gainStepChange_waits {fe : Fin 2} {step : Fin 16} {h : Nat} (hmode : (feCfg s fe.val).gainMode = false)
    (hstep : (feOf s fe.val).gainStep ≠ step.val) (hsole : soleRx s fe.val ≠ []) : exec (.gainStepChange fe step h) s =
    .next (updFe fe.val (fun f => { f with
      gainPend := some (step.val, match f.gainPend with | some (_, t) => t | none => s.clk.ticks) })
      (updFe fe.val (fun f => { f with headroom := h }) s)) :=
  congrArg Host.Outcome.next ((if_neg (by simp [hmode, hstep])).trans (if_neg (by simp [hsole])))

theorem exec_gainStepChange_made {fe : Fin 2} {step : Fin 16} {h : Nat} (hmode : (feCfg s fe.val).gainMode = false)
    (hstep : (feOf s fe.val).gainStep ≠ step.val) (hsole : soleRx s fe.val = []) : exec (.gainStepChange fe step h) s =
    .next (changeGain fe.val step.val (updFe fe.val (fun f => { f with headroom := h }) s)) :=
  congrArg Host.Outcome.next ((if_neg (by simp [hmode, hstep])).trans (if_pos (by simp [hsole])))

theorem rx_none (h : ∀ e ∈ s.rad.ces, e.rx = none) (n : Nat) : (ceOf s n).rx = none := by
  obtain hmem | hout := ceOf_mem s n
  · exact h _ hmem
  · rw [ceOf_out hout]
    rfl

theorem soleRx_none (h : ∀ e ∈ s.rad.ces, e.rx = none) (k : Nat) : soleRx s k = [] := by
  unfold soleRx
  refine List.filter_eq_nil_iff.2 fun n _ => ?_
  rw [rx_none h]
  exact Bool.false_ne_true

/-- A gain change while nothing is received (R210). -/
theorem changeGain_silent (h : ∀ e ∈ s.rad.ces, e.rx = none) (k step : Nat) : ∃ changes drops : FrontEnd → Nat, changeGain k step s =
    updFe k (fun f => { f with gainStep := step, gainChanges := changes f, gainPend := none, branchDrops := drops f }) s := by
  have hnone : (List.range 64).filter (fun n => (ceOf s n).rx.isSome) = [] := by
    refine List.filter_eq_nil_iff.2 fun n _ => ?_
    rw [rx_none h]
    exact Bool.false_ne_true
  refine ⟨fun f => sat 20 (f.gainChanges + 1), fun f => sat 16 (f.branchDrops + 0), ?_⟩
  unfold changeGain
  rw [hnone]
  rfl

theorem exec_evFeGainForced_of_due {fe : Fin 2} {clip : Bool} {step t0 : Nat} (hpend : (feOf s fe.val).gainPend = some (step, t0))
    (hmode : (feCfg s fe.val).gainMode = false) (hdue : clip = true ∨ t0 + 2000000 ≤ s.clk.ticks) :
    exec (.evFeGainForced fe clip) s = .next (logLim (evFeGainForced + 256 * fe.val) 0xFF
      (fun c => [wd (b2n clip), wd (soleRx s fe.val).length, wd c])
      (updFe fe.val (fun f => { f with forced := sat 16 (f.forced + 1) }) (changeGain fe.val step
        (if clip then updFe fe.val (fun f => { f with clips := f.clips + 1 }) s else s)))) := by
  have hdue : (clip || decide (t0 + 2000000 ≤ s.clk.ticks)) = true := by simpa using hdue
  refine congrArg Host.Outcome.next ?_
  simp only [hpend, hmode, hdue, Bool.not_true, Bool.or_self, Bool.false_eq_true, if_false]

theorem feOf_logLim (code inst : Nat) (content : Nat → List Word) (s : State) (k : Nat) : feOf (logLim code inst content s) k = feOf s k := by
  have h : (logLim code inst content s).rad = s.rad := (keeps_logLim code inst content s (mk := 0x1000) rfl (Keeps.refl _ s)).get 12 rfl
  unfold feOf
  rw [h]

/-- A branch whose gain changed in the frame is out of it (R183, R210). -/
theorem branch_markGain {r : Reception} (hn : n < s.rad.ces.length) (hrx : (ceOf s n).rx = some r) (fe : Fin 2) :
    branch (markGain fe.val n s) n fe.val = false := by
  have hbad : gainBad (ceOf (markGain fe.val n s) n) fe.val = true := by
    unfold markGain gainBad
    rw [ceOf_updCe_self _ hn]
    simp only [hrx, Option.map_some]
    split <;> rfl
  simp [branch, hbad]

theorem exec_shrDetect_invalid {br : Fin 2} (h : branch s n br.val = false) : exec (.shrDetect n br) s = .next s :=
  congrArg Host.Outcome.next (if_pos (by simp [h]))

end

/-- Settles O30: the rule of each event of a front end. -/
theorem frontEndsFollowTheirRules : Obligations.FrontEndsFollowTheirRules := by
  intro s fe
  refine ⟨fun us => exec_feRetune_of_idle, fun us => exec_feRetune_of_busy, fun hfb hticks hbad hlen hlow => ?vswr, fun x => ?heat,
    fun pa => exec_evFeFault_new, fun ok hfault hdue => ⟨_, exec_feRelockRetry_of_due hfault hdue, ?relock, updFe_only _ _ _⟩,
    admits_of_fault, fun st h => ?dpdIdle, fun st h hpend => ?dpdBusy, fun t0 hpend hdue => ?dpdTimeout,
    fun a ph di dq h => ?publish, fun n hn h => ?adopt, fun step h hmode hstep hsole => ?gainWaits,
    fun step h hmode hstep hrx => ?gainMade, fun step t0 clip hpend hmode hdue hrx => ?forced, fun n r hn hrx => ?gone⟩
  case vswr =>
    refine ⟨_, exec_vswrRecovery_of_good hfb hticks hbad hlen hlow, setFbV_fe .., ?_⟩
    exact only_of_keeps (keeps_setFbV _ _ s (mk := 0xFFFFFFFFE7FF) rfl (Keeps.refl _ s)) (by decide)
  case heat =>
    obtain ⟨t, ht, hfe⟩ := exec_paTemperatureChange fe x s
    refine ⟨t, ht, by rw [hfe]; rfl, ?_, by rw [hfe]; rfl⟩
    rw [hfe, show x - 104 = x - 105 + 1 by omega]
    rfl
  case relock => rw [feOf_updFe_self]
  case dpdIdle =>
    obtain ⟨sets, ht⟩ := exec_dpdApply_of_idle (st := st) h
    refine ⟨_, ht, ?_⟩
    rw [feOf_updFe_self]
    exact ⟨rfl, rfl, rfl, rfl⟩
  case dpdBusy =>
    obtain ⟨sets, ht⟩ := exec_dpdApply_of_busy (st := st) h
    refine ⟨_, ht, ?_⟩
    rw [feOf_updFe_self]
    exact ⟨by simp [hpend], rfl⟩
  case dpdTimeout => exact ⟨_, exec_dpdTimeout_of_due hpend hdue, admits_of_dpdStop (by rw [feOf_updFe_self])⟩
  case publish =>
    refine ⟨_, exec_rxCalPublish_receiving h, ?_⟩
    rw [feOf_updFe_self, updFe_ces]
    exact ⟨rfl, rfl, rfl, rfl, rfl, rfl⟩
  case adopt =>
    refine ⟨_, exec_rxCalAdopt_of_free h, ?_⟩
    rw [adoptRx, ceOf_updCe_self _ hn]
    exact ⟨rfl, rfl⟩
  case gainWaits =>
    refine ⟨_, exec_gainStepChange_waits hmode hstep hsole, ?_⟩
    rw [feOf_updFe_self, feOf_updFe_self]
    exact ⟨rfl, rfl, rfl⟩
  case gainMade =>
    obtain ⟨changes, drops, hgain⟩ := changeGain_silent
      (s := updFe fe.val (fun f => { f with headroom := h }) s) (by rwa [updFe_ces]) fe.val step.val
    refine ⟨_, exec_gainStepChange_made hmode hstep (soleRx_none hrx _), ?_⟩
    rw [hgain, feOf_updFe_self]
    exact ⟨rfl, rfl⟩
  case forced =>
    have hclip : ((feOf (if clip then updFe fe.val (fun f => { f with clips := f.clips + 1 }) s else s) fe.val)).forced =
        (feOf s fe.val).forced := by
      split
      · rw [feOf_updFe_self]
      · rfl
    obtain ⟨changes, drops, hgain⟩ := changeGain_silent
      (s := if clip then updFe fe.val (fun f => { f with clips := f.clips + 1 }) s else s)
      (by
        split
        · rwa [updFe_ces]
        · exact hrx) fe.val step
    refine ⟨_, exec_evFeGainForced_of_due hpend hmode hdue, ?_⟩
    rw [feOf_logLim, feOf_updFe_self, hgain, feOf_updFe_self]
    exact ⟨rfl, rfl, congrArg (fun n => sat 16 (n + 1)) hclip⟩
  case gone =>
    have hout := branch_markGain hn hrx fe
    exact ⟨hout, exec_shrDetect_invalid hout⟩

end Sys2Proof.Proofs
end

section
/-! PROOFS. Frames on the air (O31): admission, listening, the carrier and its end. -/
namespace Sys2Proof.Proofs
open Sys2Proof Sys2Proof.Machine Sys2Proof.Laws

/-! ### Fields that an operation leaves -/

section
variable {α : Type} {s : State}

/-- A field that a change of an engine leaves is the same on every engine. -/
theorem ceOf_updCe_field (g : Engine → α) {f : Engine → Engine} (hf : ∀ e, g (f e) = g e) (m : Nat) (s : State) (n : Nat) :
    g (ceOf (updCe m f s) n) = g (ceOf s n) := by
  by_cases hn : n = m
  · by_cases hlen : m < s.rad.ces.length
    · rw [hn, ceOf_updCe_self f hlen, hf]
    · rw [updCe_out f (Nat.le_of_not_lt hlen)]
  · rw [ceOf_updCe_ne f s hn]

/-- A field that a change of a front end leaves is the same on both. -/
theorem feOf_updFe_field (g : FrontEnd → α) {f : FrontEnd → FrontEnd} (hf : ∀ x, g (f x) = g x) (k : Nat) (s : State) (j : Nat) :
    g (feOf (updFe k f s) j) = g (feOf s j) := by
  unfold feOf updFe
  split <;> split <;> simp [hf]

theorem mdOf_updMd_self {n : Nat} (f : MacEng → MacEng) (h : n < s.mac.engs.length) : mdOf (updMd n f s) n = f (mdOf s n) :=
  getD_updAt_self f _ h

theorem mdOf_updMd_ne {n m : Nat} (f : MacEng → MacEng) (s : State) (h : n ≠ m) : mdOf (updMd m f s) n = mdOf s n := getD_updAt_ne _ f _ h

theorem updMd_out {n : Nat} (f : MacEng → MacEng) (h : s.mac.engs.length ≤ n) : updMd n f s = s := by
  unfold updMd
  rw [updAt_of_length_le f h]

theorem mdOf_updMd_field (g : MacEng → α) {f : MacEng → MacEng} (hf : ∀ e, g (f e) = g e) (m : Nat) (s : State) (n : Nat) :
    g (mdOf (updMd m f s) n) = g (mdOf s n) := by
  by_cases hn : n = m
  · by_cases hlen : m < s.mac.engs.length
    · rw [hn, mdOf_updMd_self f hlen, hf]
    · rw [updMd_out f (Nat.le_of_not_lt hlen)]
  · rw [mdOf_updMd_ne f s hn]

@[simp] theorem length_updMd (n : Nat) (f : MacEng → MacEng) (s : State) : (updMd n f s).mac.engs.length = s.mac.engs.length :=
  length_updAt ..

@[simp] theorem length_updCe (n : Nat) (f : Engine → Engine) (s : State) : (updCe n f s).rad.ces.length = s.rad.ces.length :=
  length_updAt ..

end

/-! ### Carriers -/

/-- Both front ends have the same carriers. -/
def SameCarriers (s t : State) : Prop := ∀ k, (feOf t k).carriers = (feOf s k).carriers

namespace SameCarriers

theorem refl (s : State) : SameCarriers s s := fun _ => rfl

theorem trans {s t u : State} (h : SameCarriers s t) (g : SameCarriers t u) : SameCarriers s u := fun k => (g k).trans (h k)

theorem of_rad {s t : State} (h0 : t.rad.fe0 = s.rad.fe0) (h1 : t.rad.fe1 = s.rad.fe1) : SameCarriers s t := fun k => by
  unfold feOf
  rw [h0, h1]

theorem foldl {β : Type} {s : State} (l : List β) {f : State → β → State} (h : ∀ t x, SameCarriers t (f t x)) : SameCarriers s (l.foldl f s) :=
  List.foldlRecOn l f (motive := fun t => SameCarriers s t) (.refl s) fun t ht x _ => ht.trans (h t x)

end SameCarriers

theorem updCe_carriers (n : Nat) (f : Engine → Engine) (s : State) : SameCarriers s (updCe n f s) := .of_rad rfl rfl

theorem dropRx_carriers (k : Nat) (gain : Bool) (n : Nat) (s : State) : SameCarriers s (dropRx k gain n s) := by
  unfold dropRx
  split
  · exact .refl s
  extract_lets r'
  split
  · exact .refl s
  split
  · exact updCe_carriers _ _ s
  · refine (updCe_carriers n _ s).trans fun j => feOf_updFe_field FrontEnd.carriers (fun x => ?_) ..
    split <;> rfl

theorem dropInvalid_carriers (s : State) : SameCarriers s (dropInvalid s) := by
  unfold dropInvalid
  refine .foldl _ fun t k => .foldl _ fun t' n => ?_
  split
  · exact dropRx_carriers _ _ _ _
  · exact .refl t'

theorem enterAccess_carriers (n : Nat) (s : State) : SameCarriers s (enterAccess n s) := by
  unfold enterAccess
  extract_lets e s1
  split
  · exact .of_rad rfl rfl
  · exact .refl s

theorem enterAll_carriers (s : State) : SameCarriers s (enterAll s) := .foldl _ fun t n => enterAccess_carriers n t

theorem revokeAdm_carriers (s : State) : SameCarriers s (revokeAdm s) := .of_rad rfl rfl

/-- A launch appends the carrier to its front end (R182). -/
theorem launch_carriers (n k : Nat) (src : FrameSrc) (ack : Bool) (p : Int) (freq ticks : Nat) (s : State) :
    (feOf (launch n k src ack p freq ticks s) k).carriers =
      (feOf s k).carriers ++ [⟨n, src, ack, p, freq, s.clk.ticks + 800, s.clk.ticks + 800 + ticks⟩] := by
  unfold launch
  extract_lets start s1
  rw [dropInvalid_carriers, updCe_carriers]
  exact congrArg FrontEnd.carriers (feOf_updFe_self ..)

/-! ### The frame as it is formed -/

section
variable {s : State} {n : Nat}

theorem useCur_engs (n ep : Nat) (s : State) : (useCur n ep s).mac.engs.length = s.mac.engs.length := by
  unfold useCur
  split
  · rfl
  split
  · exact length_updMd ..
  · rfl

theorem takeOut_mac (ep : Nat) (s : State) : (takeOut ep s).mac = s.mac :=
  (keeps_takeOut ep s (mk := 0x2000) (s0 := s) rfl (Keeps.refl _ s)).get 13 (by decide)

/-- A frame is formed in the engine's place for what it sends, for the start given. -/
theorem formFrame_setAir (n : Nat) (f : Frame) (start : Nat) (s : State) : ∃ x y, formFrame n f start s = setAir n x y ∧ x.start = start ∧
    y.mac.engs.length = s.mac.engs.length := by
  have hslot (k : Nat) : (takeSeq n (takeSlot k s)).mac.engs.length = s.mac.engs.length := length_updMd ..
  have hbeacon (k : Nat) (p : Prop) [Decidable p] : (takeSeq n (if p then s else takeSlot k s)).mac.engs.length = s.mac.engs.length := by
    split
    · exact length_updMd ..
    · exact hslot k
  unfold formFrame
  dsimp only
  split
  · exact ⟨_, _, rfl, rfl, rfl⟩
  · exact ⟨_, _, rfl, rfl, hbeacon _ _⟩
  · exact ⟨_, _, rfl, rfl, hbeacon _ _⟩
  · exact ⟨_, _, rfl, rfl, hbeacon _ _⟩
  split
  · split
    · exact ⟨_, _, rfl, rfl, rfl⟩
    · refine ⟨_, _, rfl, rfl, ?_⟩
      rw [takeSeq, length_updMd, takeOut_mac, useCur_engs]
  · exact ⟨_, _, rfl, rfl, hslot _⟩

theorem mdOf_formFrame (hn : n < s.mac.engs.length) (f : Frame) (start : Nat) :
    ∃ x, (mdOf (formFrame n f start s) n).air = some x ∧ x.start = start := by
  obtain ⟨x, y, hform, hstart, hlen⟩ := formFrame_setAir n f start s
  refine ⟨x, ?_, hstart⟩
  rw [hform, setAir, mdOf_updMd_self _ (by omega)]

theorem formFrame_units (n : Nat) (f : Frame) (start : Nat) (s : State) :
    (formFrame n f start s).clk = s.clk ∧ (formFrame n f start s).rad = s.rad := by
  have h := keeps_formFrame n f start s (mk := 0xFDFFFFFF9FFF) (s0 := s) rfl (Keeps.refl _ s)
  exact ⟨h.get 1 rfl, h.get 12 rfl⟩

theorem launch_mac (n k : Nat) (src : FrameSrc) (ack : Bool) (p : Int) (freq ticks : Nat) (s : State) :
    (launch n k src ack p freq ticks s).mac = s.mac :=
  (keeps_launch n k src ack p freq ticks s (mk := 0x2000) (s0 := s) rfl (Keeps.refl _ s)).get 13 (by decide)

/-- An admitted frame that starts is a carrier of its front end from 20 µs on (R182). -/
theorem startFrame_carriers (n : Nat) (a : Admission) (s : State) : (feOf (startFrame n a s) a.fe).carriers = (feOf s a.fe).carriers ++
    [⟨n, a.frame.src, false, a.power, frameFreq s n a.frame, s.clk.ticks + 800, s.clk.ticks + 800 + frameTicks s n a.frame⟩] := by
  obtain ⟨hclk, hrad⟩ := formFrame_units n a.frame (s.clk.ticks + 800) s
  unfold startFrame
  rw [launch_carriers, hclk]
  unfold feOf
  rw [hrad]

theorem startFrame_air (hn : n < s.mac.engs.length) (a : Admission) :
    ∃ x, (mdOf (startFrame n a s) n).air = some x ∧ x.start = s.clk.ticks + 800 := by
  obtain ⟨x, hair, hstart⟩ := mdOf_formFrame hn a.frame (s.clk.ticks + 800)
  refine ⟨x, ?_, hstart⟩
  unfold startFrame mdOf
  rw [launch_mac]
  exact hair

/-! ### The train as it is scheduled -/

theorem noteAdrift_mac (n k : Nat) (s : State) : (noteAdrift n k s).mac = s.mac :=
  (keeps_noteAdrift n k s (mk := 0x2000) (s0 := s) rfl (Keeps.refl _ s)).get 13 (by decide)

theorem updLink_engs (ep : Nat) (f : Link → Link) (s : State) : (updLink ep f s).mac.engs = s.mac.engs := by
  unfold updLink
  split <;> rfl

theorem driftLinks_engs (n : Nat) (eps : List Nat) (s : State) : (driftLinks n eps s).mac.engs = s.mac.engs := by
  unfold driftLinks
  extract_lets go
  split
  · rfl
  rw [noteAdrift_mac]
  exact List.foldlRecOn go _ (motive := fun t : State => t.mac.engs = s.mac.engs) rfl fun t ht e _ => (updLink_engs ..).trans ht

theorem driftLinks_rad (n : Nat) (eps : List Nat) (s : State) : (driftLinks n eps s).rad = s.rad :=
  (keeps_driftLinks n eps s (mk := 0x1000) (s0 := s) rfl (Keeps.refl _ s)).get 12 (by decide)

theorem driftLinks_clk (n : Nat) (eps : List Nat) (s : State) : (driftLinks n eps s).clk = s.clk :=
  (keeps_driftLinks n eps s (mk := 2) (s0 := s) rfl (Keeps.refl _ s)).get 1 (by decide)

theorem driftLinks_pwr (n : Nat) (eps : List Nat) (s : State) : (driftLinks n eps s).pwr = s.pwr :=
  (keeps_driftLinks n eps s (mk := 4) (s0 := s) rfl (Keeps.refl _ s)).get 2 (by decide)

/-- What admission and timing read of a state: the front ends, the configurations of the engines, the clock and the MACs. -/
structure SameTiming (s t : State) : Prop where
  fe (k : Nat) : feOf t k = feOf s k
  cfg (n : Nat) : (ceOf t n).cfg = (ceOf s n).cfg
  stored : t.rad.stored = s.rad.stored
  pwr : t.pwr = s.pwr
  clk : t.clk = s.clk
  engs : t.mac.engs = s.mac.engs

namespace SameTiming

variable {t : State}

theorem refl (s : State) : SameTiming s s := ⟨fun _ => rfl, fun _ => rfl, rfl, rfl, rfl, rfl⟩

theorem trans {u : State} (h : SameTiming s t) (g : SameTiming t u) : SameTiming s u :=
  ⟨fun k => (g.fe k).trans (h.fe k), fun n => (g.cfg n).trans (h.cfg n), g.stored.trans h.stored, g.pwr.trans h.pwr, g.clk.trans h.clk,
    g.engs.trans h.engs⟩

theorem of_updCe {f : Engine → Engine} (hf : ∀ e, (f e).cfg = e.cfg) (m : Nat) (s : State) : SameTiming s (updCe m f s) :=
  ⟨fun _ => rfl, fun n => ceOf_updCe_field Engine.cfg hf m s n, rfl, rfl, rfl, rfl⟩

theorem ceCfg (h : SameTiming s t) (n : Nat) : ceCfg t n = ceCfg s n := by
  unfold Machine.ceCfg planOf strapPlan
  rw [h.cfg, h.stored, h.pwr]

theorem frameFreq (h : SameTiming s t) (n : Nat) (f : Frame) : frameFreq t n f = frameFreq s n f := by
  unfold Machine.frameFreq
  rw [h.ceCfg]

theorem frameTicks (h : SameTiming s t) (n : Nat) (f : Frame) : frameTicks t n f = frameTicks s n f := by
  unfold Machine.frameTicks wufOf
  rw [h.ceCfg, h.engs]

end SameTiming

/-- The schedule of a train changes how long it lasts, and nothing that its timing reads (R242). -/
theorem schedTrain_timing (n : Nat) (f : Frame) (s : State) : SameTiming s (schedTrain n f s).2 ∧ (schedTrain n f s).1.src = f.src ∧
    (schedTrain n f s).1.freq = f.freq := by
  unfold schedTrain
  extract_lets eps s1 g
  split
  · exact ⟨.refl s, rfl, rfl⟩
  · have h1 : SameTiming s s1 := by
      refine ⟨fun k => ?_, fun n => ?_, ?_, driftLinks_pwr .., driftLinks_clk .., driftLinks_engs ..⟩
      · unfold feOf
        rw [show s1.rad = s.rad from driftLinks_rad ..]
      · unfold ceOf
        rw [show s1.rad = s.rad from driftLinks_rad ..]
      · rw [show s1.rad = s.rad from driftLinks_rad ..]
    exact ⟨h1.trans (.of_updCe (f := fun e => { e with tx := e.tx.map fun x => if x == f then g else x }) (fun _ => rfl) n s1), rfl, rfl⟩

end

end Sys2Proof.Proofs
end

section
/-! PROOFS. Frames on the air (O31): the clauses. -/
namespace Sys2Proof.Proofs
open Sys2Proof Sys2Proof.Machine Sys2Proof.Laws

section
variable {s : State} {n : Nat}

/-! ### Admission -/

theorem enterAll_revokeAdm_units (s : State) : (enterAll (revokeAdm s)).clk = s.clk ∧ (enterAll (revokeAdm s)).mac = s.mac := by
  have h := keeps_enterAll (revokeAdm s) (mk := 0xFFFFFFFFEFFF) (s0 := s) rfl (keeps_revokeAdm s rfl (Keeps.refl _ s))
  exact ⟨h.get 1 rfl, h.get 13 rfl⟩

theorem exec_carrierAdmit_starts {f : Frame} {u : State} (hu : u = enterAll (revokeAdm s)) (hhead : headOf u 0 = some (n, f))
    (hadm : admits u 0 (framePower u 0 n f) = true) (hprot : protects u 0 f = false)
    (hlbt : needsLbt (schedTrain n f u).2 n (schedTrain n f u).1 = false) :
    ∃ t, exec (.carrierAdmit 0) s = .next t ∧
      (feOf t 0).carriers = (feOf s 0).carriers ++ [⟨n, f.src, false, framePower u 0 n f, frameFreq u n f,
        s.clk.ticks + 800, s.clk.ticks + 800 + frameTicks u n (schedTrain n f u).1⟩] ∧
      (n < s.mac.engs.length → ∃ x, (mdOf t n).air = some x ∧ x.start = s.clk.ticks + 800) := by
  obtain ⟨hclk, hmac⟩ := enterAll_revokeAdm_units s
  obtain ⟨htrain, hsrc, hfreq⟩ := schedTrain_timing n f u
  let g := (schedTrain n f u).1
  let v := (schedTrain n f u).2
  let a : Admission := ⟨0, g, framePower u 0 n f, v.clk.ticks, v.clk.ticks⟩
  let w := updCe n (fun e => { e with adm := some a }) v
  have hw : SameTiming u w := htrain.trans (.of_updCe (f := fun e => { e with adm := some a }) (fun _ => rfl) n v)
  have hticks : w.clk.ticks = s.clk.ticks := by rw [hw.clk, hu, hclk]
  refine ⟨startFrame n a w, ?_, ?_, fun hn => ?_⟩
  · unfold exec execCarrierAdmit
    simp [← hu, hhead, hadm, hprot, hlbt, w, a, g, v]
  · rw [startFrame_carriers, hw.fe, hw.frameFreq, hw.frameTicks, hticks, hsrc]
    have hcarriers : (feOf u a.fe).carriers = (feOf s 0).carriers := by
      rw [hu]
      exact ((revokeAdm_carriers s).trans (enterAll_carriers _)) 0
    rw [hcarriers]
    unfold frameFreq
    rw [hfreq]
  · have hn' : n < w.mac.engs.length := by rw [hw.engs, hu, hmac]; exact hn
    obtain ⟨x, hair, hstart⟩ := startFrame_air hn' a
    exact ⟨x, hair, hstart.trans (by rw [hticks])⟩

theorem exec_carrierAdmit_waits {f : Frame} {u : State} (hu : u = enterAll (revokeAdm s)) (hhead : headOf u 0 = some (n, f))
    (h : admits u 0 (framePower u 0 n f) = false ∨ protects u 0 f = true) : exec (.carrierAdmit 0) s = .next u := by
  unfold exec execCarrierAdmit
  rcases h with h | h <;> simp [← hu, hhead, h]

/-- An engine that holds anything is one of the module's. -/
theorem lt_engines_of_adm {a : Admission} (hadm : (ceOf s n).adm = some a) : n < s.rad.ces.length := by
  refine Nat.lt_of_not_le fun hle => ?_
  rw [ceOf_out hle] at hadm
  cases hadm

/-- What is left of an engine's admission where its front end has closed. -/
def openAdm (s : State) (e : Engine) : Engine :=
  match e.adm with
  | some a => if e.st == .access && feClosed s a.fe then { e with adm := none } else e
  | none => e

theorem revokeAdm_eq (s : State) : revokeAdm s = { s with rad := { s.rad with ces := s.rad.ces.map (openAdm s) } } := rfl

theorem ceOf_map {f : Engine → Engine} (hn : n < s.rad.ces.length) :
    ceOf { s with rad := { s.rad with ces := s.rad.ces.map f } } n = f (ceOf s n) := by
  simp [ceOf, hn]

theorem ceOf_revokeAdm_closed {a : Admission} (hadm : (ceOf s n).adm = some a) (hst : (ceOf s n).st = .access) (hclosed : feClosed s a.fe = true) :
    (ceOf (revokeAdm s) n).adm = none := by
  rw [revokeAdm_eq, ceOf_map (lt_engines_of_adm hadm), openAdm]
  simp [hadm, hst, hclosed]

theorem revokeAdm_of_open (h : ∀ e ∈ s.rad.ces, ∀ x, e.adm = some x → feClosed s x.fe = false) : revokeAdm s = s := by
  have hmap : s.rad.ces.map (openAdm s) = s.rad.ces := by
    refine (List.map_congr_left fun e he => ?_).trans (List.map_id _)
    unfold openAdm
    split
    next a ha => simp [h e he a ha]
    next => rfl
  rw [revokeAdm_eq, hmap]

/-! ### Listening before talk -/

section
variable {br : Fin 2} {peak : Int} {a : Admission} {b : SubBand}

theorem lbt_ready (hst : (ceOf s n).st = .access) (hdue : a.due ≤ s.clk.ticks)
    (hbranch : branchAt s br.val (frameFreq s n a.frame) (phyWidth (ceCfg s n).phy) = true) :
    ((ceOf s n).st != .access || decide (s.clk.ticks < a.due) || !branchAt s br.val (frameFreq s n a.frame) (phyWidth (ceCfg s n).phy)) =
      false := by simp [hst, hbranch, hdue]

theorem exec_lbtAttempt_starts (hadm : (ceOf s n).adm = some a) (hst : (ceOf s n).st = .access) (hdue : a.due ≤ s.clk.ticks)
    (hopen : ∀ e ∈ s.rad.ces, ∀ x, e.adm = some x → feClosed s x.fe = false)
    (hbranch : branchAt s br.val (frameFreq s n a.frame) (phyWidth (ceCfg s n).phy) = true)
    (hsub : subOf (planOf s) (frameFreq s n a.frame) (phyWidth (ceCfg s n).phy) = some b)
    (hpeak : peak - (feCfg s br.val).gain + (feCfg s br.val).loss < -10 * b.thr) (hprot : protects s a.fe a.frame = false)
    (hsends : feSends s a.fe (frameFreq s n a.frame) (phyWidth (ceCfg s n).phy) = true) (htxd : txd s n = 0) :
    exec (.lbtAttempt n br peak) s = .next (startFrame n a s) := by
  unfold exec execLbtAttempt
  simp only [revokeAdm_of_open hopen, hadm, lbt_ready hst hdue hbranch, hsub, if_pos hpeak, hprot, hsends, htxd]
  rfl

theorem randWait_rad (s : State) : (randWait s).2.rad = s.rad := rfl

theorem exec_lbtAttempt_busy (hn : n < s.rad.ces.length) (hadm : (ceOf s n).adm = some a) (hst : (ceOf s n).st = .access) (hdue : a.due ≤ s.clk.ticks)
    (hopen : ∀ e ∈ s.rad.ces, ∀ x, e.adm = some x → feClosed s x.fe = false)
    (hbranch : branchAt s br.val (frameFreq s n a.frame) (phyWidth (ceCfg s n).phy) = true)
    (hsub : subOf (planOf s) (frameFreq s n a.frame) (phyWidth (ceCfg s n).phy) = some b)
    (hpeak : -10 * b.thr ≤ peak - (feCfg s br.val).gain + (feCfg s br.val).loss) (htries : a.frame.busy + 1 < (ceCfg s n).tries) :
    ∃ t, exec (.lbtAttempt n br peak) s = .next t ∧ (ceOf t n).st = .access ∧
      (ceOf t n).adm.map (fun x => x.frame.busy) = some (a.frame.busy + 1) ∧ t.rad.fe0 = s.rad.fe0 ∧ t.rad.fe1 = s.rad.fe1 := by
  let g := { a.frame with busy := a.frame.busy + 1 }
  let s1 := updCe n (fun e => { e with tx := e.tx.map fun x => if x == a.frame then g else x }) s
  let s2 := (randWait s1).2
  let s3 := (randWait s2).2
  have hce : ceOf s3 n = ceOf s1 n := rfl
  have hn3 : n < s3.rad.ces.length := by
    have : s3.rad.ces.length = s.rad.ces.length := length_updCe ..
    omega
  refine ⟨updCe n (fun e => { e with adm := some { a with
      frame := g
      listen := s.clk.ticks + (randWait s1).1
      due := s.clk.ticks + (randWait s1).1 + listenTicks s + (randWait s2).1 } }) s3, ?_, ?_, ?_, rfl, rfl⟩
  · unfold exec execLbtAttempt
    simp only [revokeAdm_of_open hopen, hadm, lbt_ready hst hdue hbranch, hsub, if_neg (Int.not_lt.2 hpeak), if_neg (Nat.not_le.2 htries)]
    rfl
  · rw [ceOf_updCe_self _ hn3]
    exact (congrArg Engine.st (hce.trans (ceOf_updCe_self _ hn))).trans hst
  · rw [ceOf_updCe_self _ hn3]
    rfl

end

/-! ### The end of a carrier and of a deadline -/

theorem ceOf_logNs (code inst : Nat) (content : List Nat) (s : State) (n : Nat) : ceOf (logNs code inst content s) n = ceOf s n := rfl

theorem updCe_only (n : Nat) (f : Engine → Engine) (s : State) : OnlyChanges [.rad] s (updCe n f s) :=
  only_of_keeps (keeps_updCe n f s (mk := 0xFFFFFFFFEFFF) rfl (Keeps.refl _ s)) (by decide)

theorem noteDuty_adm (m : Nat) (s : State) (n : Nat) : (ceOf (noteDuty m s) n).adm = (ceOf s n).adm := by
  unfold noteDuty
  extract_lets e waits open_ c
  split
  · rw [ceOf_logNs]
    exact ceOf_updCe_field Engine.adm (f := fun e => { e with dutyLogged := some s.rad.dutySec }) (fun _ => rfl) ..
  · rfl

theorem stopCarrier_adm (m k : Nat) (c : Carrier) (s : State) (n : Nat) : (ceOf (stopCarrier m k c s) n).adm = (ceOf s n).adm := by
  unfold stopCarrier countAir
  rw [noteDuty_adm, ceOf_updCe_field Engine.adm (fun e => (rfl : ({ e with duty := addAir 700 _ _ e.duty } : Engine).adm = _)), endCarrier,
    ceOf_updFe]

theorem setFbV_ce (k v : Nat) (s : State) (n : Nat) : ceOf (setFbV k v s) n = ceOf s n := by
  unfold setFbV
  extract_lets o
  split
  · rfl
  · exact (ceOf_logNs ..).trans (ceOf_updFe ..)

theorem measureVswr_ce (k v : Nat) (s : State) (n : Nat) : ceOf (measureVswr k v s) n = ceOf s n := by
  unfold measureVswr
  extract_lets s1 f
  have h1 : ceOf s1 n = ceOf s n := ceOf_updFe ..
  split
  · rw [setFbV_ce, h1]
  split
  · rw [setFbV_ce, h1]
  · exact h1

theorem measureAclr_ce (k : Nat) (m : TxMeas) (s : State) (n : Nat) : ceOf (measureAclr k m s) n = ceOf s n := by
  unfold measureAclr
  extract_lets f bad good s1
  have h1 : ceOf s1 n = ceOf s n := ceOf_updFe ..
  split
  · exact (ceOf_logNs ..).trans ((ceOf_updFe ..).trans h1)
  split
  · exact (ceOf_updFe ..).trans h1
  · exact h1

theorem measureCarrier_ce (k ticks : Nat) (m : TxMeas) (s : State) (n : Nat) : ceOf (measureCarrier k ticks m s) n = ceOf s n := by
  unfold measureCarrier
  rw [measureAclr_ce]
  split
  · exact measureVswr_ce ..
  · rfl

theorem exec_transmitEnd_sent {k : Nat} {m : TxMeas} {c : Carrier} {a : Admission} (hc : carrierOf s n = some (k, c)) (hsrc : c.src ≠ .test)
    (hstop : c.stop ≤ s.clk.ticks) (hack : c.ack = false) (hadm : (ceOf s n).adm = some a) :
    exec (.transmitEnd n m) s = .next (frameLeft n a.frame 0 (afterCarrier n
      (measureCarrier k (c.stop - c.start) m (stopCarrier n k c s)))) := by
  have hadm1 : (ceOf (measureCarrier k (c.stop - c.start) m (stopCarrier n k c s)) n).adm = some a := by
    rw [measureCarrier_ce, stopCarrier_adm, hadm]
  unfold exec execTransmitEnd
  simp [hc, hsrc, Nat.not_lt.2 hstop, hack, hadm1]

theorem exec_transmitEnd_early {k : Nat} {m : TxMeas} {c : Carrier} (hc : carrierOf s n = some (k, c)) (hstop : s.clk.ticks < c.stop) :
    exec (.transmitEnd n m) s = .next s := by
  unfold exec execTransmitEnd
  simp [hc, hstop]

/-- An attempt that a passed deadline ends. -/
def leaveAttempt (f : Frame) (e : Engine) : Engine :=
  match e.adm with
  | some a => if a.frame == f && e.st == .access then { e with adm := none, st := .rest } else e
  | none => if e.st == .access && nextFrame e == some f then { e with st := .rest } else e

theorem leaveAttempt_tx (f : Frame) (e : Engine) : (leaveAttempt f e).tx = e.tx := by
  unfold leaveAttempt
  split <;> split <;> rfl

theorem exec_frameDeadline_leaves {f : Frame} (hadm : (ceOf s n).adm = none)
    (hf : (ceOf s n).tx.find? (fun x => decide (x.deadline ≤ s.tt.tt)) = some f) :
    ∃ u, exec (.frameDeadline n) s = .next (enterAccess n (frameLeft n f
        (if txd s n ≠ 0 then 4 else if dutyHeld s n f.cls (frameTicks s n f) then 3 else 2) u)) ∧
      (ceOf u n).tx = (ceOf s n).tx ∧ OnlyChanges [.rad] s u := by
  refine ⟨updCe n (leaveAttempt f) s, ?_, ceOf_updCe_field Engine.tx (leaveAttempt_tx f) .., updCe_only _ _ _⟩
  have hpred : ∀ x : Frame, (decide (x.deadline ≤ s.tt.tt) && (none : Option Frame) != some x) = decide (x.deadline ≤ s.tt.tt) := fun x => by simp
  unfold exec execFrameDeadline
  simp only [hadm, hpred, hf, deadlineOut, bne_iff_ne]
  rfl

/-! ### Reception and acknowledgements -/

theorem exec_shrDetect_receives {br : Fin 2} (hn : n < s.rad.ces.length) (hbranch : branch s n br.val = true) (hst : (ceOf s n).st = .rest)
    (hadm : (ceOf s n).adm = none) : ∃ t, exec (.shrDetect n br) s = .next t ∧ (ceOf t n).st = .receive ∧ (ceOf t n).rx.isSome = true ∧
      (ceOf t n).tx = (ceOf s n).tx := by
  have hn1 : n < (adoptRx n s).rad.ces.length := by rw [adoptRx, length_updCe]; exact hn
  obtain ⟨r, hr⟩ : ∃ r, exec (.shrDetect n br) s = .next (updCe n (fun e => { e with st := .receive, rx := some r }) (adoptRx n s)) := by
    unfold exec execShrDetect
    simp only [hbranch, hst, hadm, Bool.not_true, Bool.false_eq_true, if_false]
    exact ⟨_, rfl⟩
  refine ⟨_, hr, ?_⟩
  rw [ceOf_updCe_self _ hn1, adoptRx, ceOf_updCe_self _ hn]
  exact ⟨rfl, rfl, rfl⟩

theorem exec_enhancedAck_sent {k : Nat} {p : Int} {a : AckDue} (hack : (mdOf s n).ack = some a) (hat : a.at_ ≤ s.clk.ticks + 800)
    (hlate : s.clk.ticks + 800 ≤ a.at_ + 400) (htxd : txd s n = 0) (hduty : dutyHeld s n 0 0 = false) (hblocked : ackBlocked s n = false)
    (hkey : a.keyIdx.isSome = true ∨ outReady s a.ep = true)
    (hp : (sendFes s n).findSome? (fun k => (ackPower s k n).map fun p => (k, p)) = some (k, p)) :
    exec (.enhancedAck n) s = .next (launch n k .ack true p (ceCfg s n).freq
      (airTicks (ceCfg s n) (ceCfg s n).preamble (ackOctets a)) (formAck n a (s.clk.ticks + 800)
        (airTicks (ceCfg s n) (ceCfg s n).preamble (ackOctets a)) (updCe n (fun e => { e with adm := none }) s))) := by
  have hheld : (a.keyIdx.isNone && !outReady s a.ep) = false := by
    rcases hkey with h | h
    · rw [← Option.not_isSome, h]; rfl
    · rw [h]; simp
  unfold exec execEnhancedAck
  simp only [hack, Nat.not_lt.2 hat, Nat.not_lt.2 hlate, htxd, hduty, hblocked, hheld, hp]
  rfl

theorem ackSkip_eq {a : AckDue} (hack : (mdOf s n).ack = some a) (k : Nat) :
    execEnhancedAck.skip n k s = restageTrain n a.ep (updFe k (fun f => { f with ackSkipped := sat 16 (f.ackSkipped + 1) })
      (updMd n (fun m => { m with ack := none }) s)) := by
  unfold execEnhancedAck.skip
  simp only [hack]

theorem exec_enhancedAck_skipped {a : AckDue} (hack : (mdOf s n).ack = some a) (hat : a.at_ ≤ s.clk.ticks + 800) (hblocked : ackBlocked s n = true) :
    ∃ k, exec (.enhancedAck n) s = .next (restageTrain n a.ep (updFe k (fun f => { f with ackSkipped := sat 16 (f.ackSkipped + 1) })
      (updMd n (fun m => { m with ack := none }) s))) := by
  cases hp : (sendFes s n).findSome? (fun k => (ackPower s k n).map fun p => (k, p)) with
  | none =>
    refine ⟨(sendFes s n).headD 0, ?_⟩
    unfold exec execEnhancedAck
    simp only [hack, Nat.not_lt.2 hat, hp, if_false, ackSkip_eq hack]
  | some kp =>
    refine ⟨kp.1, ?_⟩
    unfold exec execEnhancedAck
    simp [hack, Nat.not_lt.2 hat, hp, hblocked, ackSkip_eq hack]

theorem exec_ackTimeout_txn {w : AckWait} {id : Nat} (hw : (mdOf s n).wait = some w) (hsince : w.since + 50000 ≤ s.clk.ticks)
    (hcls : w.frame.cls = 2) (hsrc : w.frame.src = .txn id) :
    exec (.ackTimeout n) s = .next (failTxn id (updMd n (fun m => { m with wait := none }) s)) := by
  unfold exec execAckTimeout
  simp only [hw, Nat.not_lt.2 hsince, hcls, hsrc, if_false]

/-! ### Time -/

/-- The second that follows in the duty windows (R200). -/
def dutySecond (s : State) : State := { s with rad := { s.rad with
  dutySec := s.rad.dutySec + 1
  fillLeft := s.rad.fillLeft - 1
  ces := s.rad.ces.map fun e => { e with duty := e.duty.filter fun b => decide (s.rad.dutySec + 1 < b.1 + 3600) }
  testAir := s.rad.testAir.filter fun t => decide (s.rad.dutySec + 1 < t.2.1 + 3600) } }

theorem exec_dutyBinAdvance (h : s.rad.dutySec < s.clk.ticks / 40000000) :
    ∃ t, exec .dutyBinAdvance s = .next t ∧ t.rad.dutySec = s.rad.dutySec + 1 ∧
      (∀ e ∈ t.rad.ces, ∀ b ∈ e.duty, s.rad.dutySec + 1 < b.1 + 3600) ∧ t.rad.fillLeft = s.rad.fillLeft - 1 ∧ OnlyChanges [.rad] s t := by
  have hexec : exec .dutyBinAdvance s = .next (dutySecond s) := congrArg Host.Outcome.next (if_pos h)
  refine ⟨_, hexec, rfl, fun e he b hb => ?_, rfl, only_of_keeps (keeps_execDutyBinAdvance s _ hexec) (by decide)⟩
  obtain ⟨e', -, rfl⟩ := List.mem_map.1 he
  exact of_decide_eq_true (List.mem_filter.1 hb).2

/-- While an engine hears on no branch its attempt lasts longer (R199). -/
theorem listenTick_adm {a : Admission} (hadm : (ceOf s n).adm = some a) (hst : (ceOf s n).st = .access) (hlisten : a.listen ≤ s.clk.ticks)
    (hhears : hears s n a.frame = false) : (ceOf (listenTick s) n).adm = some { a with due := a.due + 1 } := by
  have hn := lt_engines_of_adm hadm
  unfold ceOf at hadm hst ⊢
  simp only [listenTick, List.getD_eq_getElem?_getD, List.getElem?_mapIdx, List.getElem?_eq_getElem hn, Option.map_some, Option.getD_some] at *
  simp [hadm, hst, hlisten, hhears]

/-- At the end of its PHR a received frame is stamped (R191, R192). -/
theorem phrTick_rx {r : Reception} (hn : n < s.rad.ces.length) (hrx : (ceOf s n).rx = some r) (hphr : r.phr = s.clk.ticks) :
    (ceOf (phrTick s) n).rx = some { r with phrTt := some s.tt.tt, full := decide (258 ≤ (ceOf s n).ring.length) } := by
  rw [phrTick, ceOf_map hn]
  simp [hrx, hphr]

/-- What a frame on the air is made of does not hang on what has been sent. -/
theorem psduOf_updMd_sent (m : Nat) (l : List Nat) (s : State) (n : Nat) (x : AirTx) :
    psduOf (updMd m (fun e => { e with sent := l }) s) n x = psduOf s n x := by
  have hbcn : bcnOf (updMd m (fun e => { e with sent := l }) s) n = bcnOf s n := by
    unfold bcnOf
    rw [mdOf_updMd_field MacEng.bcn (by exact fun _ => rfl)]
  have hslp : slpOf (updMd m (fun e => { e with sent := l }) s) n = slpOf s n := by
    unfold slpOf
    rw [mdOf_updMd_field MacEng.slp (by exact fun _ => rfl)]
  unfold psduOf tetherIe
  rw [hbcn, hslp]
  rfl

/-- What an engine that sends does to what it has sent (R14). -/
def stampOne (s : State) (n : Nat) : State :=
  match (ceOf s n).st, (mdOf s n).air with
  | .transmit, some x => (match airNow s n x with | some l => updMd n (fun m => { m with sent := l }) s | none => s)
  | _, _ => s

theorem stampOne_cases (s : State) (n : Nat) : stampOne s n = s ∨ ∃ l, stampOne s n = updMd n (fun m => { m with sent := l }) s := by
  unfold stampOne
  split
  · split
    · exact .inr ⟨_, rfl⟩
    · exact .inl rfl
  · exact .inl rfl

/-- Between the stamps of two engines: nothing that a frame is made of differs. -/
structure SameAir (s t : State) : Prop where
  rad : t.rad = s.rad
  clk : t.clk = s.clk
  len : t.mac.engs.length = s.mac.engs.length
  air (n : Nat) : (mdOf t n).air = (mdOf s n).air
  psdu (n : Nat) (x : AirTx) : psduOf t n x = psduOf s n x

theorem stampOne_air (s : State) (m : Nat) : SameAir s (stampOne s m) := by
  rcases stampOne_cases s m with h | ⟨l, h⟩ <;> rw [h]
  · exact ⟨rfl, rfl, rfl, fun _ => rfl, fun _ _ => rfl⟩
  · exact ⟨rfl, rfl, length_updMd .., fun n => mdOf_updMd_field MacEng.air (f := fun e => { e with sent := l }) (fun _ => rfl) m s n,
      fun n x => psduOf_updMd_sent m l s n x⟩

theorem stampOne_sent_other {m : Nat} (s : State) (h : n ≠ m) : (mdOf (stampOne s m) n).sent = (mdOf s n).sent := by
  rcases stampOne_cases s m with hm | ⟨l, hm⟩ <;> rw [hm]
  rw [mdOf_updMd_ne _ _ h]

theorem stampOne_sent {x : AirTx} (hn : n < s.mac.engs.length) (hst : (ceOf s n).st = .transmit) (hair : (mdOf s n).air = some x)
    (hphr : x.phr = s.clk.ticks) : (mdOf (stampOne s n) n).sent = psduOf s n x := by
  have hnow : airNow s n x = some (psduOf s n x) := by simp [airNow, hphr]
  unfold stampOne
  simp only [hst, hair, hnow]
  rw [mdOf_updMd_self _ hn]

/-- The engines below `k` have stamped what they send. -/
theorem stamped_below {x : AirTx} (hn : n < s.mac.engs.length) (hst : (ceOf s n).st = .transmit) (hair : (mdOf s n).air = some x)
    (hphr : x.phr = s.clk.ticks) (k : Nat) : SameAir s ((List.range k).foldl stampOne s) ∧
      (n < k → (mdOf ((List.range k).foldl stampOne s) n).sent = psduOf s n x) := by
  induction k with
  | zero => exact ⟨⟨rfl, rfl, rfl, fun _ => rfl, fun _ _ => rfl⟩, fun h => absurd h (by omega)⟩
  | succ k ih =>
    obtain ⟨hsame, hsent⟩ := ih
    rw [List.range_succ, List.foldl_append]
    generalize (List.range k).foldl stampOne s = t at hsame hsent
    have hone := stampOne_air t k
    refine ⟨⟨hone.rad.trans hsame.rad, hone.clk.trans hsame.clk, hone.len.trans hsame.len, fun m => (hone.air m).trans (hsame.air m),
      fun m y => (hone.psdu m y).trans (hsame.psdu m y)⟩, fun hk => ?_⟩
    by_cases hnk : n = k
    · subst hnk
      refine (stampOne_sent (x := x) ?_ ?_ ?_ ?_).trans (hsame.psdu n x)
      · rw [hsame.len]; exact hn
      · rw [ceOf, hsame.rad]; exact hst
      · rw [hsame.air, hair]
      · rw [hsame.clk, hphr]
    · exact (stampOne_sent_other t hnk).trans (hsent (by omega))

theorem stampAir_sent {x : AirTx} (hn : n < s.mac.engs.length) (h64 : n < 64) (hst : (ceOf s n).st = .transmit) (hair : (mdOf s n).air = some x)
    (hphr : x.phr = s.clk.ticks) : (mdOf (stampAir s) n).sent = psduOf s n x :=
  (stamped_below hn hst hair hphr 64).2 h64

/-- The Tether IE begins with the cycle, the phase, the lock state and the epoch (R14, R228). -/
theorem tetherIe_stamp (s : State) (n : Nat) (g b : Bool) : ((tetherIe s n g b).drop 6).take 7 =
    octLe 4 (cycOf s) ++ oct16 (ttPh s.tt.tt + 4096 * lockCode s.tt.state) ++ [s.tt.reserve.epoch % 256] := by
  simp only [tetherIe, vendorIe, headerIe, oct16, octLe, List.cons_append, List.nil_append, List.drop_succ_cons, List.drop_zero,
    List.take_succ_cons, List.take_zero]

end

/-- Settles O31: a clause each of the lemmas above, with FE0's admission, the end of a carrier and the ends of PHRs. -/
theorem framesAreAdmittedListenedForAndSent : Obligations.FramesAreAdmittedListenedForAndSent := by
  unfold Obligations.FramesAreAdmittedListenedForAndSent
  intro s
  exact ⟨fun n f u hu hhead hadm hprot hlbt => exec_carrierAdmit_starts hu hhead hadm hprot hlbt,
    fun n f u hu hhead h => exec_carrierAdmit_waits hu hhead h,
    fun n a hadm hst hclosed => ceOf_revokeAdm_closed hadm hst hclosed,
    fun n br peak a b hadm hst hdue hopen hbranch hsub hpeak hprot hsends htxd =>
      exec_lbtAttempt_starts hadm hst hdue hopen hbranch hsub hpeak hprot hsends htxd,
    fun n br peak a b hn hadm hst hdue hopen hbranch hsub hpeak htries =>
      exec_lbtAttempt_busy hn hadm hst hdue hopen hbranch hsub hpeak htries,
    fun n k m c a hc hsrc hstop hack hadm => exec_transmitEnd_sent hc hsrc hstop hack hadm,
    fun n k m c hc hstop => exec_transmitEnd_early hc hstop,
    fun n f hadm _ hf => exec_frameDeadline_leaves hadm hf,
    fun n br hn hbranch hst hadm => exec_shrDetect_receives hn hbranch hst hadm,
    fun n br hbranch => exec_shrDetect_invalid hbranch,
    fun n k p a hack hat hlate htxd hduty hblocked hkey hp => exec_enhancedAck_sent hack hat hlate htxd hduty hblocked hkey hp,
    fun n a hack hat hblocked => exec_enhancedAck_skipped hack hat hblocked,
    fun n w id hw hsince hcls hsrc => exec_ackTimeout_txn hw hsince hcls hsrc,
    exec_dutyBinAdvance,
    fun n a _ hadm hst hlisten hhears => listenTick_adm hadm hst hlisten hhears,
    fun n x hn h64 hst hair hphr => stampAir_sent hn h64 hst hair hphr,
    fun n r hn hrx hphr => phrTick_rx hn hrx hphr,
    fun n g b => tetherIe_stamp s n g b⟩

end Sys2Proof.Proofs
end

section
/-! PROOFS. The RAD commands, sweeps and transmit tests (O32). -/
namespace Sys2Proof.Proofs
open Sys2Proof Sys2Proof.Machine Sys2Proof.Laws

section
variable {r : Req} {s : State} {n : Nat}

theorem planLen_eq (p : Option BandPlan) : (match p with | some b => b.subs.length | none => 0) = p.elim 0 fun b => b.subs.length := by
  cases p <;> rfl

theorem exec_radStatus_live (h : Runs 0x0301 chkRadStatus r s) (hv : fld (r.w 3) 1 0 = 0) :
    exec .radStatus s = .next (ok r (packW [(planCode (planOf s), 24), ((planOf s).elim 0 fun b => b.subs.length, 16), (0, 8)] ::
      (feStatus s 0 ++ feStatus s 1 ++ ((List.range 64).map (ceStatus s)).flatten)) (took r s)) := by
  refine (congrArg Host.Outcome.next (serve_of_runs h)).trans ?_
  rw [← planLen_eq]
  unfold actRadStatus
  simp only [hv]
  rfl

theorem exec_radStatus_noPlan (h : Runs 0x0301 chkRadStatus r s) (hv : fld (r.w 3) 1 0 = 3) (hplan : planOf s = none) :
    exec .radStatus s = .next (ok r [packW [(0xFF, 24), (0, 16), (3, 8)], 0] (took r s)) := by
  refine (congrArg Host.Outcome.next (serve_of_runs h)).trans ?_
  unfold actRadStatus
  simp only [hv, show planOf (took r s) = none from hplan]
  rfl

theorem exec_radStatus_plan {b : BandPlan} (h : Runs 0x0301 chkRadStatus r s) (hv : fld (r.w 3) 1 0 = 3) (hplan : planOf s = some b) :
    exec .radStatus s = .next (ok r (packW [(b.id, 24), (b.subs.length, 16), (3, 8)] :: packW [(b.tListen, 16), (b.backoffMax, 0)] ::
      (b.subs.map subWords).flatten) (took r s)) := by
  refine (congrArg Host.Outcome.next (serve_of_runs h)).trans ?_
  unfold actRadStatus
  simp only [hv, show planOf (took r s) = some b from hplan]
  rfl

theorem length_engineWords (c : Nat → Prop) [DecidablePred c] (f : Nat → CeCfg) (g : Nat → Nat) (l : List Nat) :
    ((l.map fun k => if c (g k) then ceWords (g k) (f (g k)) else [0, 0, 0]).flatten).length = 3 * l.length := by
  induction l with
  | nil => rfl
  | cons k l ih =>
    rw [List.map_cons, List.flatten_cons, List.length_append, ih, List.length_cons]
    split
    · simp [ceWords]; omega
    · simp; omega

theorem exec_radStatus_configs (h : Runs 0x0301 chkRadStatus r s) (hv : fld (r.w 3) 1 0 = 1 ∨ fld (r.w 3) 1 0 = 2) :
    ∃ ws, exec .radStatus s = .next (ok r ws (took r s)) ∧ ws.length = 101 := by
  have hact := serve_of_runs (act := actRadStatus) h
  unfold actRadStatus at hact
  rcases hv with hv | hv <;>
  · simp only [hv] at hact
    refine ⟨_, congrArg Host.Outcome.next hact, ?_⟩
    rw [List.length_cons, List.length_append, List.length_append,
      length_engineWords (fun i => i < engineCount (took r s).dev.variant) (ceCfg (took r s))]
    rfl

theorem exec_radCalSweep_starts {u : State} (h : Runs 0x0306 chkRadCalSweep r s) (hadmit : admitAct 6 (fld (r.w 3) 0 0) (took r s) = .ok u) :
    ∃ v, exec .radCalSweep s = .next (settleMode u 0 (purgeDisabled u (dropInvalid (stopAll (fld (r.w 3) 0 0) 5 v)))) ∧
      (feOf v (fld (r.w 3) 0 0)).sweep = some ⟨bit (r.w 3) 1, u.clk.ticks, r.origin⟩ ∧ withdrawn v (4 + fld (r.w 3) 0 0) = true := by
  let k := fld (r.w 3) 0 0
  let s1 := acceptN r (updFe k (fun f => { f with sweep := some ⟨bit (r.w 3) 1, u.clk.ticks, r.origin⟩ }) u)
  refine ⟨{ s1 with bal := { s1.bal with withdrawals := s1.bal.withdrawals ++ [⟨4 + k, 0, r.port, 0, none, [], true, u.clk.ticks, true, false⟩] } },
    (congrArg Host.Outcome.next (serve_of_runs h)).trans ?_, ?_, ?_⟩
  · unfold actRadCalSweep admitReq
    simp only [hadmit]
    rfl
  · have hrad : s1.rad = (updFe k (fun f => { f with sweep := some ⟨bit (r.w 3) 1, u.clk.ticks, r.origin⟩ }) u).rad :=
      (keeps_acceptN r _ (mk := 0x1000) rfl (Keeps.refl _ _)).get 12 rfl
    have := congrArg FrontEnd.sweep (feOf_updFe_self k (fun f => { f with sweep := some ⟨bit (r.w 3) 1, u.clk.ticks, r.origin⟩ }) u)
    refine Eq.trans ?_ this
    unfold feOf
    rw [hrad]
  · unfold withdrawn
    rw [List.any_append]
    simp [k]

theorem exec_radTxTest_stops (h : Runs 0x0307 chkRadTxTest r s) (hdur : fld (r.w 5) 23 0 = 0) :
    exec .radTxTest s = .next (okN r [] (updCe (fld (r.w 3) 31 26)
      (fun e => { e with test := e.test.map fun t => { t with stopReq := true } }) (took r s))) :=
  (congrArg Host.Outcome.next (serve_of_runs h)).trans (congrArg Host.Outcome.next (if_pos hdur))

theorem logEv_carriers (code inst : Nat) (content : List Word) (s : State) : SameCarriers s (logEv code inst content s) := .of_rad rfl rfl

theorem exec_radTxTest_starts {b : SubBand} (h : Runs 0x0307 chkRadTxTest r s) (hdur : fld (r.w 5) 23 0 ≠ 0)
    (hsub : subOf (planOf s) (r.w 4).toNat (phyWidth (testPhy r)) = some b) :
    ∃ t c, exec .radTxTest s = .next t ∧ (feOf t (fld (r.w 3) 25 25)).carriers = (feOf s (fld (r.w 3) 25 25)).carriers ++ [c] ∧
      c.ce = fld (r.w 3) 31 26 ∧ c.src = .test ∧ c.freq = (r.w 4).toNat ∧ c.start = s.clk.ticks + 800 ∧
      c.stop = s.clk.ticks + 800 + fld (r.w 5) 23 0 * 40000 := by
  let n := fld (r.w 3) 31 26
  let k := fld (r.w 3) 25 25
  let u := took r s
  let p := pEff u k b (sfld (r.w 5) 31 24)
  let start := u.clk.ticks + 800
  let t : TxTest := ⟨k, fld (r.w 3) 15 8, (r.w 4).toNat, p, start, start + fld (r.w 5) 23 0 * 40000, false, (feOf u k).paTemp, r.origin⟩
  let c : Carrier := ⟨n, .test, false, p, (r.w 4).toNat, start, t.stop⟩
  let s1 := updFe k (fun x => { x with carriers := x.carriers ++ [c], started := inc32 x.started }) (updCe n (fun e => { e with test := some t }) u)
  refine ⟨logEv evCeTxTest n [wd n, wd k, wd t.pattern, Config.itemCode evCeTxTest 0] (dropInvalid (acceptN r s1)), c,
    (congrArg Host.Outcome.next (serve_of_runs h)).trans ?_, ?_, rfl, rfl, rfl, rfl, rfl⟩
  · unfold actRadTxTest
    simp only [hdur, if_false, show subOf (planOf (took r s)) (r.w 4).toNat (phyWidth (testPhy r)) = some b from hsub]
    rfl
  · have hrad : (acceptN r s1).rad = s1.rad := (keeps_acceptN r _ (mk := 0x1000) rfl (Keeps.refl _ _)).get 12 rfl
    refine ((dropInvalid_carriers (acceptN r s1)).trans (logEv_carriers _ _ _ _) k).trans ?_
    have hfe : feOf (acceptN r s1) k = feOf s1 k := by
      unfold feOf
      rw [hrad]
    rw [hfe]
    exact congrArg FrontEnd.carriers (feOf_updFe_self ..)

/-- A front end as a sweep that measured well leaves it (R213). -/
def sweptWell (sec : Nat) (m : SweepMeas) (f : FrontEnd) : FrontEnd := { f with
  sweep := none
  sweepRes := 0
  sweeps := f.sweeps + 1
  sweepSec := sec
  swept := (m.iqAmp, m.iqPhase, m.dcI, m.dcQ)
  iqAmp := m.iqAmp
  iqPhase := m.iqPhase
  dcI := m.dcI
  dcQ := m.dcQ }

/-- The withdrawal for a sweep taken back (R213). -/
def sweepOver (k : Nat) (s : State) : State :=
  { s with bal := { s.bal with withdrawals := s.bal.withdrawals.filter fun x => !(x.sweep && x.block == 4 + k) } }

/-- The module after a sweep that measured well, before its completion. -/
def afterSweep (k : Nat) (w : Sweep) (m : SweepMeas) (s : State) : State :=
  enterAll (settleMode s (evFeSweep + 256 * k) (logNs (evFeSweep + 256 * k) w.org.port.val [b2n w.full, 0, w.org.port.val]
    (stopAct 6 k (sweepOver k (updFe k (sweptWell s.rtc.sec m) s)))))

theorem afterSweep_keeps (k : Nat) (w : Sweep) (m : SweepMeas) (s : State) : Keeps 0xFFFFFDFFE5F3 s (afterSweep k w m s) :=
  keeps_enterAll _ rfl (keeps_settleMode s _ _ rfl (keeps_logNs _ _ _ _ rfl (keeps_stopAct 6 k _ rfl
    (Keeps.set_bal rfl (keeps_updFe k _ s rfl (Keeps.refl _ s))))))

theorem exec_calSweepEnd_good {fe : Fin 2} {m : SweepMeas} {w : Sweep} (hw : (feOf s fe.val).sweep = some w)
    (hend : w.start + (if w.full then 800000000 else 160000000) ≤ s.clk.ticks) (hres : m.result = 0) :
    ∃ u, exec (.calSweepEnd fe m) s = .next (complete w.org stOk
      (sweepWords fe.val w.full 0 ((s.clk.ticks - w.start) / 40000) s.rtc.sec m) u) ∧ u.key = s.key ∧ u.lat = s.lat := by
  refine ⟨afterSweep fe.val w m s, ?_, (afterSweep_keeps ..).get 22 rfl, (afterSweep_keeps ..).get 14 rfl⟩
  unfold exec execCalSweepEnd
  simp only [hw, decide_eq_true hend, hres, Bool.true_or, Bool.not_true, Bool.false_eq_true, if_false, if_true, show Nat.min 0 2 = 0 from rfl,
    beq_self_eq_true]
  rfl

theorem exec_calSweepEnd_none {fe : Fin 2} {m : SweepMeas} (h : (feOf s fe.val).sweep = none) : exec (.calSweepEnd fe m) s = .next s := by
  unfold exec execCalSweepEnd
  simp only [h]

theorem exec_txTestEnd_lasted {m : TxMeas} {x : TxTest} (hx : (ceOf s n).test = some x) (hstop : x.stop ≤ s.clk.ticks) :
    ∃ u, exec (.txTestEnd n m) s = .next (complete x.org stOk [packW [(0, 24)], packW [(ofSigned 16 m.mean, 16), (sat 16 m.vswr, 0)],
        packW [(m.aclrLo, 16), (m.aclrHi, 0)], wd ((x.stop - x.start) / 40000), wd (ofSigned 8 x.peakTemp)] u) ∧
      u.lat = s.lat ∧ u.txn = s.txn ∧ u.ports = s.ports := by
  let s0 := endCarrier n x.fe (updCe n (fun e => { e with test := none }) s)
  let s1 := if x.stop ≤ x.start then s0 else measureCarrier x.fe (x.stop - x.start) m s0
  have h0 : Keeps 0xFFFFFFFFE7FF s s0 := keeps_endCarrier _ _ _ rfl (keeps_updCe _ _ s rfl (Keeps.refl _ s))
  have h1 : Keeps 0xFFFFFFFFE7FF s s1 := by
    unfold s1
    split
    · exact h0
    · exact keeps_measureCarrier _ _ _ _ rfl h0
  let air := (addAir 700 x.start x.stop []).map fun b => (x.freq, b.1, b.2)
  have h2 := keeps_logNs evCeTxTest n [n, x.fe, x.pattern, 0] _ rfl
    (Keeps.set_rad (x := { s1.rad with testAir := s1.rad.testAir ++ air }) rfl h1)
  refine ⟨_, ?_, h2.get 14 rfl, h2.get 15 rfl, h2.get 9 rfl⟩
  unfold exec execTxTestEnd
  simp only [hx, hstop, if_true, Nat.min_eq_left hstop]
  rfl

end

/-- Settles O32: a clause each of the lemmas above. -/
theorem radCommandsAct : Obligations.RadCommandsAct := by
  unfold Obligations.RadCommandsAct
  intro r s
  exact ⟨exec_radStatus_live, exec_radStatus_noPlan, fun b => exec_radStatus_plan, exec_radStatus_configs,
    fun h => congrArg Host.Outcome.next (serve_of_runs h), fun u => exec_radCalSweep_starts, exec_radTxTest_stops,
    fun b h hdur _ hsub => exec_radTxTest_starts h hdur hsub, fun fe m w => exec_calSweepEnd_good, fun fe m => exec_calSweepEnd_none,
    fun n m x => exec_txTestEnd_lasted⟩

end Sys2Proof.Proofs
end

section
/-! PROOFS. Beacons, link sweeps, missed polls and greetings (O33). -/
namespace Sys2Proof.Proofs
open Sys2Proof Sys2Proof.Machine Sys2Proof.Laws

section
variable {s : State} {n st : Nat}

/-! ### Beacons -/

/-- The conditions under which a nominal start stages its beacon (R230). -/
theorem beaconDue_guard (hserved : served s = true) (hon : ceOn s n = true) (hen : (bcnOf s n).en = true) (hrun : s.tt.running = true)
    (hfrom : (mdOf s n).from_ ≤ st) (hlast : (mdOf s n).lastStart ≠ some st) :
    (!(served s && ceOn s n && (bcnOf s n).en && decide ((mdOf s n).from_ ≤ st) && (mdOf s n).lastStart != some st && s.tt.running)) = false := by
  simp [hserved, hon, hen, hrun, hfrom, hlast]

/-- A nominal start stages its beacon, with the deadline that the misses give (R230, R232). -/
theorem exec_beaconDue_stages {wdw : Nat} (hst : latestStart s (bcnOf s n) = some st) (hserved : served s = true) (hon : ceOn s n = true)
    (hen : (bcnOf s n).en = true) (hrun : s.tt.running = true) (hfrom : (mdOf s n).from_ ≤ st) (hlast : (mdOf s n).lastStart ≠ some st)
    (hkey : bcnKeyOk s n (bcnOf s n) = true) (hroom : txRoom s n = true)
    (hwdw : (if 3 ≤ (mdOf s n).misses then (bcnOf s n).window / 2 else (bcnOf s n).window) = wdw)
    (htt : s.tt.tt < startTt (bcnOf s n) st + wdw * 4096) :
    exec (.beaconDue n) s = .next (stageFrame n (bcnFrame (bcnOf s n) (.beacon st false)
      (startTt (bcnOf s n) st + wdw * 4096) none) (updMd n (fun m => { m with lastStart := some st }) s)) := by
  unfold exec execBeaconDue
  simp only [hst, beaconDue_guard hserved hon hen hrun hfrom hlast, hkey, hroom, hwdw, Nat.not_le.2 htt]
  rfl

theorem exec_beaconDue_none (h : latestStart s (bcnOf s n) = none) : exec (.beaconDue n) s = .next s := by
  unfold exec execBeaconDue
  simp only [h]

theorem exec_beaconDue_again (hst : latestStart s (bcnOf s n) = some st) (hlast : (mdOf s n).lastStart = some st) :
    exec (.beaconDue n) s = .next s := by
  unfold exec execBeaconDue
  simp [hst, hlast]

theorem latestStart_before_first {c : BcnCfg} (h : cycOf s < c.offset % c.bp) : latestStart s c = none := by
  unfold latestStart
  dsimp only
  split
  next => rfl
  next k hk =>
    have hle : k ≤ cycOf s := by
      split at hk
      · exact Nat.le_of_eq (Option.some.inj hk).symm
      split at hk
      · cases hk
      · have := Option.some.inj hk
        omega
    exact if_pos (by omega)

/-! ### Beacons on the backup channel and extra ones -/

theorem exec_backupBeacon_stages {c : Nat} (hhalf : (mdOf s n).half = some (st, c)) (hbackup : (bcnOf s n).backup ≠ 0)
    (hend : s.tt.tt < startTt (bcnOf s n) st + (bcnOf s n).window * 4096)
    (hmid : startTt (bcnOf s n) st + (bcnOf s n).window / 2 * 4096 ≤ s.tt.tt) (hkey : bcnKeyOk s n (bcnOf s n) = true)
    (hroom : txRoom s n = true) (hon : ceOn s n = true) (hnew : ∀ f ∈ (ceOf s n).tx, f.src ≠ .beacon st true) :
    exec (.backupBeacon n) s = .next (stageFrame n (bcnFrame (bcnOf s n) (.beacon st true)
      (startTt (bcnOf s n) st + (bcnOf s n).window * 4096) (some (bcnOf s n).backup)) s) := by
  have hany : ((ceOf s n).tx.any fun f => f.src == .beacon st true) = false := by
    rw [List.any_eq_false]
    exact fun f hf => by simp [hnew f hf]
  unfold exec execBackupBeacon
  simp only [hhalf, hbackup, decide_eq_false (Nat.not_le.2 hend), if_neg (Nat.not_lt.2 hmid), hkey, hroom, hon, hany]
  rfl

theorem exec_backupBeacon_waits {c : Nat} (hhalf : (mdOf s n).half = some (st, c)) (hbackup : (bcnOf s n).backup ≠ 0)
    (hmid : s.tt.tt < startTt (bcnOf s n) st + (bcnOf s n).window / 2 * 4096) : exec (.backupBeacon n) s = .next s := by
  have hend : ¬ startTt (bcnOf s n) st + (bcnOf s n).window * 4096 ≤ s.tt.tt := by omega
  unfold exec execBackupBeacon
  simp [hhalf, hbackup, hend, hmid]

theorem exec_backupBeacon_missed {c : Nat} (hhalf : (mdOf s n).half = some (st, c))
    (hend : startTt (bcnOf s n) st + (bcnOf s n).window * 4096 ≤ s.tt.tt) : exec (.backupBeacon n) s = .next (beaconOut n st true 2 s) := by
  unfold exec execBackupBeacon
  simp [hhalf, hend]

theorem exec_extraBeacon_stages {r : Nat} (hr : (mdOf s n).request = some r) (hon : ceOn s n = true) (hen : (bcnOf s n).en = true)
    (hkey : bcnKeyOk s n (bcnOf s n) = true) (hextra : (mdOf s n).extraIn ≠ some (periodOf s (bcnOf s n))) (hcyc : cycOf s < r + 50)
    (hroom : txRoom s n = true) :
    ∃ u, exec (.extraBeacon n) s = .next (stageFrame n (bcnFrame (bcnOf s n) .extra ((r + 50) * 4096) none) u) ∧
      (mdOf u n).request = none ∧ (n < s.mac.engs.length → (mdOf u n).extraIn = some (periodOf s (bcnOf s n))) := by
  let s1 := updMd n (fun m => { m with request := none }) s
  refine ⟨updMd n (fun m => { m with extraIn := some (periodOf s (bcnOf s n)) }) s1, ?_, ?_, fun hn => ?_⟩
  · unfold exec execExtraBeacon
    simp [hr, hon, hen, hkey, hextra, Nat.not_le.2 hcyc, hroom, s1]
  · have hn : n < s.mac.engs.length := by
      refine Nat.lt_of_not_le fun hle => ?_
      rw [mdOf, getD_of_length_le _ hle] at hr
      cases hr
    rw [mdOf_updMd_self _ (by rw [length_updMd]; exact hn), mdOf_updMd_self _ hn]
  · rw [mdOf_updMd_self _ (by rw [length_updMd]; exact hn)]

/-! ### Frames as they are formed -/

theorem formFrame_beacon (f : Frame) (start : Nat) (backup : Bool) (hsrc : f.src = .beacon st backup) (hn : n < s.mac.engs.length) :
    ∃ x, (mdOf (formFrame n f start s) n).air = some x ∧ x.start = start ∧ x.stamp = .tether false backup ∧ x.level = (bcnOf s n).sec ∧
      x.counter = slotCtr s (bcnOf s n).keySlot ∧ x.head = mhrOctets 0 false false true (mdOf s n).dsn (bcnOf s n).pan .absent
        (.short (bcnOf s n).short) (bcnOf s n).sec (slotCtr s (bcnOf s n).keySlot) (some (bcnOf s n).keyIdx) := by
  obtain ⟨x, hform, hx⟩ : ∃ x, formFrame n f start s = setAir n x (takeSeq n (if (bcnOf s n).sec = 0 then s else takeSlot (bcnOf s n).keySlot s)) ∧
      x.start = start ∧ x.stamp = .tether false backup ∧ x.level = (bcnOf s n).sec ∧
      x.counter = slotCtr s (bcnOf s n).keySlot ∧ x.head = mhrOctets 0 false false true (mdOf s n).dsn (bcnOf s n).pan .absent
        (.short (bcnOf s n).short) (bcnOf s n).sec (slotCtr s (bcnOf s n).keySlot) (some (bcnOf s n).keyIdx) := by
    unfold formFrame
    simp only [hsrc]
    exact ⟨_, rfl, rfl, rfl, rfl, rfl, rfl⟩
  refine ⟨x, ?_, hx⟩
  rw [hform, setAir, mdOf_updMd_self]
  rw [takeSeq, length_updMd]
  split <;> exact hn

theorem epOf_updEp {ep : Nat} {r : EpRec} (f : EpRec → EpRec) (h : epOf s ep = some r) : epOf (updEp ep f s) ep = some (f r) := by
  unfold epOf at *
  unfold updEp
  simp only [h]
  exact tget_tset_self _ _ _

theorem useCur_lat (n ep : Nat) (s : State) : (useCur n ep s).lat = s.lat :=
  (keeps_useCur n ep s (mk := 0x4000) (s0 := s) rfl (Keeps.refl _ s)).get 14 (by decide)

theorem epOf_takeOut {ep : Nat} {r : EpRec} (h : epOf s ep = some r) : (epOf (takeOut ep s) ep).map (fun y => y.outCtr) = some (r.outCtr + 1) := by
  have hcount (u : State) (hu : epOf u ep = some r) :
      (epOf (updEp ep (fun r => { r with outCtr := r.outCtr + 1 }) u) ep).map (fun y => y.outCtr) = some (r.outCtr + 1) := by
    rw [epOf_updEp _ hu]
    rfl
  unfold takeOut
  simp only [h]
  split <;> exact hcount _ h

theorem formFrame_endpoint {ep : Nat} {r : EpRec} (f : Frame) (start : Nat)
    (hsrc : (∃ i, f.src = .txn i) ∨ f.src = .empty ep ∨ f.src = .copy ep) (hpeer : f.peer = some ep) (hr : epOf s ep = some r)
    (hn : n < s.mac.engs.length) :
    ∃ x, (mdOf (formFrame n f start s) n).air = some x ∧ x.level = r.secLevel ∧ x.counter = r.outCtr ∧ x.payload = f.body.payload ∧
      (epOf (formFrame n f start s) ep).map (fun y => y.outCtr) = some (r.outCtr + 1) := by
  obtain ⟨x, hform, hlevel, hctr, hpay⟩ : ∃ x, formFrame n f start s = setAir n x (takeSeq n (takeOut ep (useCur n ep s))) ∧
      x.level = r.secLevel ∧ x.counter = r.outCtr ∧ x.payload = f.body.payload := by
    unfold formFrame
    rcases hsrc with ⟨i, hsrc⟩ | hsrc | hsrc <;>
    · simp only [hsrc, hpeer, hr]
      exact ⟨_, rfl, rfl, rfl, rfl⟩
  refine ⟨x, ?_, hlevel, hctr, hpay, ?_⟩
  · rw [hform, setAir, mdOf_updMd_self]
    rw [takeSeq, length_updMd, takeOut_mac, useCur_engs]
    exact hn
  · rw [hform]
    refine epOf_takeOut (s := useCur n ep s) ?_
    unfold epOf
    rw [useCur_lat]
    exact hr

/-! ### Links -/

theorem exec_linkSweep_window (h : s.upd.windowOpen = true) : exec (.linkSweep n) s = .next s := congrArg Host.Outcome.next (if_pos h)

theorem exec_linkSweep_expires (hn : n < s.mac.engs.length) (hwin : s.upd.windowOpen = false) :
    ∃ t, exec (.linkSweep n) s = .next t ∧ (∀ i ∈ (mdOf t n).indirect, ∀ ep, i.src = .copy ep → cycOf s < i.until_) ∧
      OnlyChanges [.mac, .log] s t := by
  let s1 := driftLinks n ((linksOn s n).map fun x => x.1) s
  let old := (mdOf s1 n).indirect.filter fun i => (match i.src with | .copy _ => true | _ => false) && decide (i.until_ ≤ cycOf s)
  obtain ⟨c, hexec⟩ : ∃ c, exec (.linkSweep n) s = .next (updCnt n c (takeIndirect n (fun i => old.contains i) s1)) := by
    exact ⟨_, congrArg Host.Outcome.next (if_neg (by simp [hwin]))⟩
  refine ⟨_, hexec, fun i hi ep hsrc => ?_, only_of_keeps (keeps_execLinkSweep n s _ hexec) (by decide)⟩
  have hn1 : n < s1.mac.engs.length := by
    unfold s1
    rw [driftLinks_engs]
    exact hn
  rw [updCnt, mdOf_updMd_self _ (by rw [takeIndirect, length_updMd]; exact hn1), takeIndirect, mdOf_updMd_self _ hn1] at hi
  obtain ⟨hmem, hnot⟩ := List.mem_filter.1 hi
  refine Nat.lt_of_not_le fun hle => ?_
  have hold : i ∈ old := List.mem_filter.2 ⟨hmem, by simp [hsrc, hle]⟩
  simp [hold] at hnot

theorem exec_pollMiss_resync {ep : Nat} {l : Link} {r : EpRec} (hl : linkOf s ep = some l) (hr : epOf s ep = some r) (hst : l.st = .poll)
    (hwin : s.upd.windowOpen = false) (hheard : l.heard + (slpOf s r.engine).pollMiss * r.pollInt ≤ cycOf s) :
    exec (.pollMiss ep) s = .next (toResync r.engine 0 [ep] s) := by
  unfold exec execPollMiss
  simp [hl, hr, hst, hwin, hheard]

theorem exec_pollMiss_other {ep : Nat} {l : Link} {r : EpRec} (hl : linkOf s ep = some l) (hr : epOf s ep = some r) (hst : l.st ≠ .poll) :
    exec (.pollMiss ep) s = .next s := by
  unfold exec execPollMiss
  simp [hl, hr, hst]

/-! ### Greetings -/

/-- A greeting's train and its frame (R244). -/
def greetFrame (s : State) (n sp : Nat) : Frame :=
  { bcnFrame (bcnOf s n) .greeting (s.tt.tt + (slpOf s n).greetInt * 2048) none with
    cls := 1
    trainUs := spUs s sp * 3 / 2 }

theorem resyncOn_updMd (m : Nat) (f : MacEng → MacEng) (s : State) (n : Nat) : resyncOn (updMd m f s) n = resyncOn s n := rfl

theorem exec_greetingRound_stages (hwin : s.upd.windowOpen = false) (hon : ceOn s n = true) (hdue : greetDue s n = true)
    (hnew : ∀ f ∈ (ceOf s n).tx, f.src ≠ .greeting) (hlinks : resyncOn s n ≠ [])
    (htries : ∀ x ∈ resyncOn s n, x.2.rounds < (slpOf s n).greetTries) (hroom : txRoom s n = true) (hkey : bcnKeyOk s n (bcnOf s n) = true)
    (hn : n < s.mac.engs.length) :
    ∃ u f, exec (.greetingRound n) s = .next (stageFrame n f u) ∧ f.cls = 1 ∧ f.src = .greeting ∧
      f.trainUs = spUs s (((resyncOn s n).map fun x => match epOf s x.1 with | some r => r.sp | none => 0).foldl Nat.max
        (slpOf s n).resyncSp) * 3 / 2 ∧
      (mdOf u n).greetAt = some (cycOf s + (slpOf s n).greetInt) ∧ (mdOf u n).greetRound = (mdOf s n).greetRound + 1 := by
  let s0 := updMd n (fun m => { m with fresh := false }) s
  let u := updMd n (fun m => { m with greetAt := some (cycOf s + (slpOf s n).greetInt), greetRound := m.greetRound + 1 }) s0
  have hany : ((ceOf s n).tx.any fun f => f.src == .greeting) = false := by
    rw [List.any_eq_false]
    exact fun f hf => by simp [hnew f hf]
  have hguard : (s.upd.windowOpen || !ceOn s n || !greetDue s n || (ceOf s n).tx.any (fun f => f.src == .greeting)) = false := by
    simp [hwin, hon, hdue, hany]
  have hfilter : (resyncOn s n).filter (fun x => decide ((slpOf s n).greetTries ≤ x.2.rounds)) = [] := by
    rw [List.filter_eq_nil_iff]
    exact fun x hx => by simpa using htries x hx
  have hempty : (resyncOn s n).isEmpty = false := by simpa using hlinks
  have hbcn : bcnOf u n = bcnOf s n := by
    unfold bcnOf u s0
    rw [mdOf_updMd_self _ (by rw [length_updMd]; exact hn), mdOf_updMd_self _ hn]
  have hstage : (txRoom u n && bcnKeyOk u n (bcnOf u n)) = true := by
    rw [hbcn, Bool.and_eq_true]
    exact ⟨hroom, hkey⟩
  refine ⟨u, greetFrame s n _, ?_, rfl, rfl, rfl, ?_, ?_⟩
  · unfold exec execGreetingRound
    simp only [hguard, hfilter, List.foldl_nil, Bool.false_eq_true, if_false, resyncOn_updMd, hempty]
    exact congrArg Host.Outcome.next (if_pos hstage)
  · unfold u s0
    rw [mdOf_updMd_self _ (by rw [length_updMd]; exact hn)]
  · unfold u s0
    rw [mdOf_updMd_self _ (by rw [length_updMd]; exact hn), mdOf_updMd_self _ hn]

theorem exec_greetingRound_commission (h : s.pwr.mode = .commission) : exec (.greetingRound n) s = .next s := by
  have hdue : greetDue s n = false := by
    unfold greetDue
    split <;> simp [h]
  exact congrArg Host.Outcome.next (if_pos (by simp [hdue]))

end

/-- Settles O33: a clause each of the lemmas above. -/
theorem beaconsAndLinksKeepTheirTimes : Obligations.BeaconsAndLinksKeepTheirTimes := by
  unfold Obligations.BeaconsAndLinksKeepTheirTimes
  intro s n
  exact ⟨fun st hst hserved hon hen hrun hfrom hlast hkey hroom =>
      ⟨fun hm htt => exec_beaconDue_stages hst hserved hon hen hrun hfrom hlast hkey hroom (if_neg (by omega)) htt,
       fun hm htt => exec_beaconDue_stages hst hserved hon hen hrun hfrom hlast hkey hroom (if_pos hm) htt⟩,
    exec_beaconDue_none, fun st => exec_beaconDue_again, fun c => latestStart_before_first,
    fun st c => exec_backupBeacon_stages, fun st c => exec_backupBeacon_waits, fun st c => exec_backupBeacon_missed,
    fun r => exec_extraBeacon_stages, fun f start st backup => formFrame_beacon f start backup, fun f start ep r => formFrame_endpoint f start,
    exec_linkSweep_window, exec_linkSweep_expires, fun ep l r => exec_pollMiss_resync, fun ep l r => exec_pollMiss_other,
    exec_greetingRound_stages, exec_greetingRound_commission⟩

end Sys2Proof.Proofs
end

section
/-! PROOFS. Received frames and acknowledgements (O34). -/
namespace Sys2Proof.Proofs
open Sys2Proof Sys2Proof.Machine Sys2Proof.Laws

section
variable {s : State} {n : Nat} {a : AirFrame}

theorem exec_frameReceived_none (h : (ceOf s n).rx = none) : exec (.frameReceived n a) s = .next s := by
  unfold exec execFrameReceived
  simp only [h]

/-! ### The order of the filters: what is done with a frame once the engine's reception is known -/

section
variable {r : Reception} {f : MacFrame} {v : State}

/-- A received frame's signal is noted on its engine (R191). -/
def noteSignal (s : State) (n : Nat) (r : Reception) (f : MacFrame) : State :=
  updCe n (fun e => { e with rssi := (rxMeta s n r f).rssi, snr := (rxMeta s n r f).snr }) s

theorem exec_frameReceived_overrun (hrx : (ceOf s n).rx = some r) (hf : f = readFrame s n none a) (hv : v = noteSignal s n r f)
    (hover : overrun (ceOf s n) r = true) :
    exec (.frameReceived n a) s = .next (settleCe n (logLim evCeRxOverrun n (fun c => [wd n, wd c])
      (updCe n (fun e => { e with overruns := sat 8 (e.overruns + 1) }) v))) := by
  unfold exec execFrameReceived
  simp only [hrx, hover, if_true, ← hf, hv]
  rfl

theorem exec_frameReceived_fcs (hrx : (ceOf s n).rx = some r) (hf : f = readFrame s n none a) (hv : v = noteSignal s n r f)
    (hover : overrun (ceOf s n) r = false) (hfcs : f.fcsOk = false) :
    exec (.frameReceived n a) s = .next (settleCe n (updCe n (fun e => { e with fcsFailed := e.fcsFailed + 1 }) v)) := by
  unfold exec execFrameReceived
  simp only [hrx, hover, ← hf, hfcs, hv]
  rfl

theorem exec_frameReceived_format (hrx : (ceOf s n).rx = some r) (hf : f = readFrame s n none a) (hv : v = noteSignal s n r f)
    (hover : overrun (ceOf s n) r = false) (hfcs : f.fcsOk = true) (hformat : formatOk f = false) :
    exec (.frameReceived n a) s = .next (settleCe n (updCnt n (fun c => { c with filtFormat := inc32 c.filtFormat }) v)) := by
  unfold exec execFrameReceived
  simp only [hrx, hover, ← hf, hfcs, hformat, hv]
  rfl

theorem exec_frameReceived_address (hrx : (ceOf s n).rx = some r) (hf : f = readFrame s n none a) (hv : v = noteSignal s n r f)
    (hover : overrun (ceOf s n) r = false) (hfcs : f.fcsOk = true) (hformat : formatOk f = true) (haddr : addrOk s n f = false) :
    exec (.frameReceived n a) s = .next (settleCe n (updCnt n (fun c => { c with filtAddr := inc32 c.filtAddr }) v)) := by
  unfold exec execFrameReceived
  simp only [hrx, hover, ← hf, hfcs, hformat, haddr, hv]
  rfl

theorem exec_frameReceived_request (hrx : (ceOf s n).rx = some r) (hf : f = readFrame s n none a) (hv : v = noteSignal s n r f)
    (hover : overrun (ceOf s n) r = false) (hfcs : f.fcsOk = true) (hformat : formatOk f = true) (haddr : addrOk s n f = true)
    (hreq : isBeaconReq f = true)
    (houtside : ∀ k, latestStart s (bcnOf s n) = some k → startTt (bcnOf s n) k + (bcnOf s n).window * 4096 ≤ s.tt.tt) :
    exec (.frameReceived n a) s = .next (settleCe n (updMd n (fun m => { m with request := some (cycOf s) }) v)) := by
  unfold exec execFrameReceived
  simp only [hrx, hover, ← hf, hfcs, hformat, haddr, hreq, hv]
  cases hk : latestStart s (bcnOf s n) with
  | none => rfl
  | some k =>
    simp only [decide_eq_false (Nat.not_lt.2 (houtside k hk))]
    rfl

theorem exec_frameReceived_level (hrx : (ceOf s n).rx = some r) (hf : f = readFrame s n none a) (hv : v = noteSignal s n r f)
    (hover : overrun (ceOf s n) r = false) (hfcs : f.fcsOk = true) (hformat : formatOk f = true) (haddr : addrOk s n f = true)
    (hreq : isBeaconReq f = false) (hsec : secAccepted f = false) :
    exec (.frameReceived n a) s = .next (settleCe n (secFail n 0 v)) := by
  unfold exec execFrameReceived
  simp only [hrx, hover, ← hf, hfcs, hformat, haddr, hreq, hsec, hv]
  rfl

/-- What an accepted frame brings, by its source (R219, R221). -/
def acceptedFrame (s : State) (n : Nat) (r : Reception) (f : MacFrame) (v : State) : State :=
  match addrEp s n f.src with
  | some (ep, x) =>
    if isChild n x then
      match verify n ep x f v with
      | .error k => settleCe n (secFail n k v)
      | .ok u => settleCe n (fromChild n ep x f (rxMeta s n r f) u)
    else settleCe n (fromOther n (some (ep, x)) f (rxMeta s n r f) v)
  | none => settleCe n (fromOther n none f (rxMeta s n r f) v)

theorem exec_frameReceived_accepted (hrx : (ceOf s n).rx = some r) (hf : f = readFrame s n none a) (hv : v = noteSignal s n r f)
    (hover : overrun (ceOf s n) r = false) (hfcs : f.fcsOk = true) (hformat : formatOk f = true) (haddr : addrOk s n f = true)
    (hreq : isBeaconReq f = false) (hsec : secAccepted f = true) :
    exec (.frameReceived n a) s = .next (acceptedFrame s n r f v) := by
  unfold exec execFrameReceived
  simp only [hrx, hover, ← hf, hfcs, hformat, haddr, hreq, hsec, hv]
  rfl

theorem acceptedFrame_child {ep : Nat} {x : EpRec} {u : State} (hsrc : addrEp s n f.src = some (ep, x)) (hchild : isChild n x = true)
    (hverify : verify n ep x f v = .ok u) : acceptedFrame s n r f v = settleCe n (fromChild n ep x f (rxMeta s n r f) u) := by
  unfold acceptedFrame
  simp only [hsrc, hchild, hverify, if_true]

theorem acceptedFrame_refused {ep k : Nat} {x : EpRec} (hsrc : addrEp s n f.src = some (ep, x)) (hchild : isChild n x = true)
    (hverify : verify n ep x f v = .error k) : acceptedFrame s n r f v = settleCe n (secFail n k v) := by
  unfold acceptedFrame
  simp only [hsrc, hchild, hverify, if_true]

theorem acceptedFrame_other {ep : Nat} {x : EpRec} (hsrc : addrEp s n f.src = some (ep, x)) (hchild : isChild n x = false) :
    acceptedFrame s n r f v = settleCe n (fromOther n (some (ep, x)) f (rxMeta s n r f) v) := by
  unfold acceptedFrame
  simp only [hsrc, hchild, Bool.false_eq_true, if_false]

theorem acceptedFrame_unknown (hsrc : addrEp s n f.src = none) :
    acceptedFrame s n r f v = settleCe n (fromOther n none f (rxMeta s n r f) v) := by
  unfold acceptedFrame
  simp only [hsrc]

end

/-! ### The ring -/

theorem pushRing_length {t : State} (m : RxMsg) (hrad : t.rad = s.rad) (hn : n < s.rad.ces.length) :
    (ceOf (pushRing n m t) n).ring.length = (ceOf s n).ring.length + 1 := by
  rw [pushRing, ceOf_updCe_self _ (by rw [hrad]; exact hn), List.length_append]
  unfold ceOf
  rw [hrad]
  rfl

/-- Whatever comes from another than a child of the engine enters its ring (R192, R219). -/
theorem fromOther_ring (src : Option (Nat × EpRec)) (f : MacFrame) (m : RxMsg) (hn : n < s.rad.ces.length) :
    (ceOf (fromOther n src f m s) n).ring.length = (ceOf s n).ring.length + 1 := by
  unfold fromOther
  extract_lets s1
  split
  next ep r =>
    dsimp only
    split
    · exact pushRing_length _ rfl hn
    split
    next k _ =>
      refine pushRing_length _ ?_ hn
      exact (keeps_updEp ep _ _ (mk := 0x1000) (s0 := s1) rfl (keeps_acceptCtr ep k f.counter s1 rfl (Keeps.refl _ _))).get 12 rfl
    next => exact pushRing_length _ rfl hn
  next => exact pushRing_length _ rfl hn

/-! ### Enhanced ACKs -/

section
variable {w : AckWait} {f : MacFrame}

theorem exec_ackReceived_none (h : (mdOf s n).wait = none) : exec (.ackReceived n a) s = .next s := by
  unfold exec execAckReceived
  simp only [h]

/-- The tick at which a received frame's SHR began. -/
def shrOf (s : State) (n : Nat) (f : MacFrame) : Nat := s.clk.ticks - airTicks (ceCfg s n) (ceCfg s n).preamble f.octets

/-- The frame is an undamaged Enhanced ACK in its time (R223). -/
def ackShaped (s : State) (n : Nat) (w : AckWait) (f : MacFrame) : Bool :=
  f.fcsOk && f.type == 2 && f.version == 2 && f.parses &&
    (decide (w.since + 38000 ≤ shrOf s n f) && decide (shrOf s n f < w.since + 50000))

/-- The engine once the answer it waits for has come. -/
def ackTaken (s : State) (n : Nat) : State := updMd n (fun m => { m with wait := none }) (settleCe n s)

theorem exec_ackReceived_unfit (hw : (mdOf s n).wait = some w) (hf : f = readFrame s n (awaited s n w.frame) a) (h : ackShaped s n w f = false) :
    exec (.ackReceived n a) s = .next s := by
  unfold exec execAckReceived
  simp only [hw, ← hf]
  exact congrArg Host.Outcome.next (if_pos (by rw [Bool.not_eq_true']; exact h))

theorem ackShaped_damaged (h : f.fcsOk = false ∨ f.type ≠ 2 ∨ f.version ≠ 2 ∨ f.parses = false) : ackShaped s n w f = false := by
  unfold ackShaped
  rcases h with h | h | h | h <;> simp [h]

theorem ackShaped_untimely (h : shrOf s n f < w.since + 38000 ∨ w.since + 50000 ≤ shrOf s n f) : ackShaped s n w f = false := by
  unfold ackShaped
  rcases h with h | h
  · simp [decide_eq_false (Nat.not_le.2 h)]
  · simp [decide_eq_false (Nat.not_lt.2 h)]

theorem ackShaped_fits (hfcs : f.fcsOk = true) (htype : f.type = 2) (hversion : f.version = 2) (hparses : f.parses = true)
    (hfrom : w.since + 38000 ≤ shrOf s n f) (hto : shrOf s n f < w.since + 50000) : ackShaped s n w f = true := by
  unfold ackShaped
  simp [hfcs, htype, hversion, hparses, decide_eq_true hfrom, decide_eq_true hto]

theorem exec_ackReceived_raw {id : Nat} (hw : (mdOf s n).wait = some w) (hf : f = readFrame s n (awaited s n w.frame) a)
    (h : ackShaped s n w f = true) (hsrc : w.frame.src = .raw id) (hwho : awaited s n w.frame = none) (habsent : f.src = .absent)
    (hlevel : f.level = 0) (hhead : (rawHead s n id).level = 0) (hseq : f.seq = (rawHead s n id).seq) :
    exec (.ackReceived n a) s = .next (rawDone n id 6 f.rssi0 f.snr f.octets (ackTaken s n)) := by
  have hfits (d : Addr) (e : Nat) : ackFits f d e (rawHead s n id).seq (rawHead s n id).level = true := by
    simp [ackFits, habsent, hseq, hlevel, hhead]
  unfold exec execAckReceived
  simp only [hw, ← hf]
  refine congrArg Host.Outcome.next ((if_neg (by rw [Bool.not_eq_true', Bool.not_eq_false]; exact h)).trans ?_)
  rw [hsrc, hwho]
  unfold rawAcked
  simp only [hfits, hlevel]
  rfl

theorem exec_ackReceived_endpoint {ep : Nat} {r : EpRec} (hw : (mdOf s n).wait = some w) (hf : f = readFrame s n (awaited s n w.frame) a)
    (h : ackShaped s n w f = true) (hsrc : ∀ id, w.frame.src ≠ .raw id) (hwho : awaited s n w.frame = some (ep, r)) :
    exec (.ackReceived n a) s = .next (if !ackFits f (.short r.short) r.eui w.frame.dsn r.secLevel then s
      else match verify n ep r f (ackTaken s n) with | .error k => secFail n k s | .ok u => acked n ep w.frame f u) := by
  unfold exec execAckReceived
  simp only [hw, ← hf]
  refine congrArg Host.Outcome.next ((if_neg (by rw [Bool.not_eq_true', Bool.not_eq_false]; exact h)).trans ?_)
  rw [hwho]
  split
  next id hraw => exact absurd hraw (hsrc id)
  next hnone _ => cases hnone
  next heq _ =>
    cases heq
    rfl

theorem ackFits_endpoint {r : EpRec} {seq : Nat} (haddr : f.src = .absent ∨ f.src = .short r.short ∨ f.src = .ext r.eui) (hseq : f.seq = seq)
    (hlevel : f.level = r.secLevel) : ackFits f (.short r.short) r.eui seq r.secLevel = true := by
  unfold ackFits
  rcases haddr with h | h | h <;> simp [h, hseq, hlevel]

theorem ackFits_other {r : EpRec} {seq : Nat} (h : f.seq ≠ seq ∨ f.level ≠ r.secLevel) : ackFits f (.short r.short) r.eui seq r.secLevel = false := by
  unfold ackFits
  rcases h with h | h <;> simp [h]

end

theorem exec_indirectAttemptExpiry_fails {id : Nat} {t : Txn} (ht : txnOf s id = some t) (hst : t.st = .sent) (hne : t.until_ ≠ 0)
    (huntil : t.until_ ≤ s.tt.tt) : exec (.indirectAttemptExpiry id) s = .next (failTxn id s) := by
  unfold exec execIndirectAttemptExpiry
  simp [ht, hst, hne, huntil]

theorem exec_indirectAttemptExpiry_early {id : Nat} {t : Txn} (ht : txnOf s id = some t) (huntil : s.tt.tt < t.until_) :
    exec (.indirectAttemptExpiry id) s = .next s := by
  unfold exec execIndirectAttemptExpiry
  simp [ht, Nat.not_le.2 huntil]

end

/-- Settles O34: the filters in their order, the ring, and the acknowledgement in its time. -/
theorem receivedFramesAreFilteredInOrder : Obligations.ReceivedFramesAreFilteredInOrder := by
  unfold Obligations.ReceivedFramesAreFilteredInOrder
  intro s n a
  refine ⟨exec_frameReceived_none, fun r f v hrx hf hv => ⟨exec_frameReceived_overrun hrx hf hv, exec_frameReceived_fcs hrx hf hv, fun hover hfcs => ?_⟩,
    fun src f m => fromOther_ring src f m, exec_ackReceived_none, fun w f hw hf => ?_,
    fun id t => exec_indirectAttemptExpiry_fails, fun id t => exec_indirectAttemptExpiry_early⟩
  · refine ⟨exec_frameReceived_format hrx hf hv hover hfcs, exec_frameReceived_address hrx hf hv hover hfcs,
      exec_frameReceived_request hrx hf hv hover hfcs, exec_frameReceived_level hrx hf hv hover hfcs, fun hformat haddr hreq hsec => ?_⟩
    have haccepted := exec_frameReceived_accepted hrx hf hv hover hfcs hformat haddr hreq hsec
    exact ⟨fun ep x u hsrc hchild hverify => haccepted.trans (congrArg Host.Outcome.next (acceptedFrame_child hsrc hchild hverify)),
      fun ep x k hsrc hchild hverify => haccepted.trans (congrArg Host.Outcome.next (acceptedFrame_refused hsrc hchild hverify)),
      fun ep x hsrc hchild => haccepted.trans (congrArg Host.Outcome.next (acceptedFrame_other hsrc hchild)),
      fun hsrc => haccepted.trans (congrArg Host.Outcome.next (acceptedFrame_unknown hsrc))⟩
  · refine ⟨fun h => exec_ackReceived_unfit hw hf (ackShaped_damaged h), fun h => exec_ackReceived_unfit hw hf (ackShaped_untimely h),
      fun hfcs htype hversion hparses hfrom hto => ?_⟩
    have hshape : ackShaped s n w f = true := ackShaped_fits hfcs htype hversion hparses hfrom hto
    refine ⟨fun id => exec_ackReceived_raw hw hf hshape, fun ep r u hsrc hwho haddr hseq hlevel hverify => ?_,
      fun ep r hsrc hwho hother => ?_⟩
    · refine (exec_ackReceived_endpoint hw hf hshape hsrc hwho).trans ?_
      rw [ackFits_endpoint haddr hseq hlevel, show verify n ep r f (ackTaken s n) = .ok u from hverify]
      rfl
    · refine (exec_ackReceived_endpoint hw hf hshape hsrc hwho).trans ?_
      rw [ackFits_other hother]
      rfl

end Sys2Proof.Proofs
end

section
/-! PROOFS. The MAC commands that read, and MAC.RAW_SEND (O35). -/
namespace Sys2Proof.Proofs
open Sys2Proof Sys2Proof.Machine Sys2Proof.Laws

section
variable {r : Req} {s : State}

/-- A link that is within its guard, or is none, does not drift (R243). -/
theorem driftLinks_none {ep : Nat} (n : Nat) (h : linkOf s ep = none) : driftLinks n [ep] s = s := by
  unfold driftLinks
  simp [h]

theorem linkOf_updLink {ep : Nat} {l : Link} (f : Link → Link) (h : linkOf s ep = some l) : linkOf (updLink ep f s) ep = some (f l) := by
  unfold updLink
  simp only [h]
  exact tget_tset_self _ _ _

theorem linkOf_noteAdrift (n k : Nat) (s : State) (ep : Nat) : linkOf (noteAdrift n k s) ep = linkOf s ep := by
  unfold linkOf
  rw [noteAdrift_mac]

/-- A TRACKED link whose guard is exceeded drifts (R243). -/
theorem driftLinks_drifts {ep : Nat} {x : EpRec} {l : Link} (n : Nat) (hx : epOf s ep = some x) (hl : linkOf s ep = some l)
    (hst : l.st = .tracked) (hguard : inGuard s l x = false) : (linkOf (driftLinks n [ep] s) ep).map (fun y => y.st) = some .adrift := by
  have hgo : driftLinks n [ep] s = noteAdrift n 1 (updLink ep (fun l => { l with st := .adrift }) s) := by
    unfold driftLinks
    simp [List.filter, hx, hl, hst, hguard]
  rw [hgo, linkOf_noteAdrift, linkOf_updLink _ hl]
  rfl

theorem exec_macEngineStatus (h : Runs 0x0401 chkMacEngineStatus r s) :
    ∃ ws, exec .macEngineStatus s = .next (ok r ([packW [(fld (r.w 3) 5 0, 26), (b2n (mdOf s (fld (r.w 3) 5 0)).onBackup, 25),
          (sat 8 (mdOf s (fld (r.w 3) 5 0)).misses, 16), ((bcnOf s (fld (r.w 3) 5 0)).pan, 0)],
        packW [((bcnOf s (fld (r.w 3) 5 0)).short, 16), (sat 16 (sleepyPop s (fld (r.w 3) 5 0)), 0)],
        packW [(sat 16 (linkCount s (fld (r.w 3) 5 0) .poll), 16), (sat 16 (linkCount s (fld (r.w 3) 5 0) .tracked), 0)],
        packW [(sat 16 (linkCount s (fld (r.w 3) 5 0) .adrift), 16), (sat 16 (linkCount s (fld (r.w 3) 5 0) .resync), 0)],
        packW [(sat 16 (linkCount s (fld (r.w 3) 5 0) .lost), 16), (sat 16 (mdOf s (fld (r.w 3) 5 0)).indirect.length, 0)]] ++ ws)
      (took r s)) ∧ ws.length = 24 := by
  have hact := serve_of_runs (act := actMacEngineStatus) h
  unfold actMacEngineStatus at hact
  dsimp only at hact
  rw [List.append_assoc] at hact
  exact ⟨_, congrArg Host.Outcome.next hact, rfl⟩

theorem exec_macLinkState_link {x : EpRec} {l : Link} {u : State} (h : Runs 0x0404 chkMacLinkState r s)
    (hu : u = driftLinks (engOf (took r s) (fld (r.w 3) 17 0)) [fld (r.w 3) 17 0] (took r s)) (hx : epOf u (fld (r.w 3) 17 0) = some x)
    (hl : linkOf u (fld (r.w 3) 17 0) = some l) :
    exec .macLinkState s = .next (ok r
      [ packW [(x.engine, 26), (linkCode l.st, 23), (b2n l.mains, 22), (l.alignSrc, 20), (fld (r.w 3) 17 0, 0)],
        packW [(x.short, 16), (if x.sleepy = 2 then x.sp else 0, 0)], wd (l.contactTt / 4096), wd (tAlign u l / 4096),
        wd (sat 32 (guardUs u l x.eps)), packW [(x.eps, 16), (if x.sleepy = 1 then x.pollInt else 0, 0)],
        packW [(sat 16 (indirectOf u x.engine (fld (r.w 3) 17 0)).length, 16), (sat 8 l.fails, 8), (sat 8 l.rounds, 0)],
        wd (sat 32 (if x.sleepy = 2 then trainUs u l x else 0)), packW [(ofSigned 8 l.rssi, 24), (ofSigned 8 l.snr, 16)] ] u) := by
  refine (congrArg Host.Outcome.next (serve_of_runs h)).trans ?_
  unfold actMacLinkState
  simp only [← hu, hx, hl]

theorem exec_macLinkState_none {x : EpRec} (h : Runs 0x0404 chkMacLinkState r s) (hx : epOf s (fld (r.w 3) 17 0) = some x)
    (hl : linkOf s (fld (r.w 3) 17 0) = none) :
    exec .macLinkState s = .next (ok r (wd (fld (r.w 3) 17 0) :: List.replicate 8 0) (took r s)) := by
  have hl' : linkOf (took r s) (fld (r.w 3) 17 0) = none := hl
  have hx' : epOf (took r s) (fld (r.w 3) 17 0) = some x := hx
  refine (congrArg Host.Outcome.next (serve_of_runs h)).trans ?_
  unfold actMacLinkState
  simp only [driftLinks_none _ hl', hx', hl']

/-- What a raw frame is staged as (R249). -/
theorem exec_macRawSend_data (h : Runs 0x0405 chkMacRawSend r s) (hdata : bit (r.w 3) 24 = false) (hn : fld (r.w 3) 31 26 < s.mac.engs.length) :
    ∃ u f, exec .macRawSend s = .next (stageFrame (fld (r.w 3) 31 26) f (acceptN r u)) ∧ f.cls = 2 ∧ f.trainUs = 0 ∧
      f.deadline = s.tt.tt + fld (r.w 3) 15 0 * 4096 ∧ f.octets = rawLen r + 4 ∧ f.src = .raw s.mac.nextRaw ∧
      f.body.payload = (List.range (rawLen r)).map (rawOctet r) ∧
      (mdOf u (fld (r.w 3) 31 26)).raws = (mdOf s (fld (r.w 3) 31 26)).raws ++ [⟨s.mac.nextRaw, bit (r.w 3) 25, r.origin,
        (List.range (rawLen r)).map (rawOctet r), fld (r.w 4) 31 16, false, 0, 0⟩] := by
  have hact := serve_of_runs (act := actMacRawSend) h
  unfold actMacRawSend at hact
  simp only [hdata, Bool.not_false, if_true, Bool.false_eq_true, if_false, Bool.false_and] at hact
  refine ⟨_, _, congrArg Host.Outcome.next hact, rfl, rfl, rfl, rfl, rfl, rfl, ?_⟩
  exact congrArg MacEng.raws (mdOf_updMd_self _ hn)

theorem exec_macRawSend_train (h : Runs 0x0405 chkMacRawSend r s) (htrain : bit (r.w 3) 24 = true) (hms : fld (r.w 4) 15 0 ≠ 0) :
    ∃ u f, exec .macRawSend s = .next (stageFrame (fld (r.w 3) 31 26) f (acceptN r u)) ∧ f.cls = 1 ∧
      f.trainUs = fld (r.w 4) 15 0 * 1000 ∧ f.deadline = s.tt.tt + fld (r.w 3) 15 0 * 4096 := by
  have hact := serve_of_runs (act := actMacRawSend) h
  unfold actMacRawSend at hact
  simp only [htrain, Bool.not_true, Bool.false_eq_true, if_false, if_true, hms, ne_eq, not_false_eq_true] at hact
  exact ⟨_, _, congrArg Host.Outcome.next hact, rfl, rfl, rfl⟩

end

/-- Settles O35: a clause each of the lemmas above. -/
theorem macCommandsAnswer : Obligations.MacCommandsAnswer := by
  unfold Obligations.MacCommandsAnswer
  intro r s
  exact ⟨exec_macEngineStatus, fun x l u => exec_macLinkState_link, fun x l => driftLinks_drifts _, fun x => exec_macLinkState_none,
    exec_macRawSend_data, exec_macRawSend_train⟩

end Sys2Proof.Proofs
end

section
/-! PROOFS. Joins and rejoins (O36). -/
namespace Sys2Proof.Proofs
open Sys2Proof Sys2Proof.Machine Sys2Proof.Laws

/-! ### Endpoints that have a record -/

/-- The same endpoints have a record. -/
def SameRecs (s t : State) : Prop := ∀ ep, (epOf t ep).isSome = (epOf s ep).isSome

namespace SameRecs

variable {s t : State}

theorem refl (s : State) : SameRecs s s := fun _ => rfl

theorem trans {u : State} (h : SameRecs s t) (g : SameRecs t u) : SameRecs s u := fun ep => (g ep).trans (h ep)

theorem of_recs (h : t.lat.recs = s.lat.recs) : SameRecs s t := fun ep => by
  unfold epOf
  rw [h]

theorem of_lat (h : t.lat = s.lat) : SameRecs s t := of_recs (congrArg Lattice.recs h)

theorem updEp (ep : Nat) (f : EpRec → EpRec) (s : State) : SameRecs s (updEp ep f s) := fun e => by
  unfold Machine.updEp
  split
  next => rfl
  next r hr =>
    unfold epOf
    by_cases he : e = ep
    · rw [he, tget_tset_self, hr]
      rfl
    · rw [tget_tset_ne _ _ he]

theorem foldl {β : Type} (l : List β) {f : State → β → State} (h : ∀ t x, SameRecs t (f t x)) : SameRecs s (l.foldl f s) :=
  List.foldlRecOn l f (motive := fun t => SameRecs s t) (.refl s) fun t ht x _ => ht.trans (h t x)

/-- An endpoint with a record still has one. -/
theorem record {ep : Nat} {r : EpRec} (h : SameRecs s t) (hr : epOf s ep = some r) : ∃ x, epOf t ep = some x :=
  Option.isSome_iff_exists.1 ((h ep).trans (by rw [hr]; rfl))

end SameRecs

theorem updRoute_recs (id : Nat) (f : Route → Route) (s : State) : SameRecs s (updRoute id f s) := by
  unfold updRoute
  split
  · exact .refl s
  · exact .of_recs rfl

theorem moveTo_recs (n ep : Nat) (s : State) : SameRecs s (moveTo n ep s) := by
  unfold moveTo
  split
  · exact .refl s
  split
  · exact .refl s
  · exact .updEp ep _ s

/-- A path learned moves endpoints, and drops none (R266). -/
theorem learnRoute_recs (n router : Nat) (path : List Nat) (s : State) : SameRecs s (learnRoute n router path s) := by
  unfold learnRoute
  extract_lets same old oldAlt l0 s0 id us s2 rt l3 s3 s1
  clear_value same old oldAlt id us rt
  have h1 : SameRecs s s1 := by
    unfold s1
    split
    · exact .refl s
    · have h0 : SameRecs s s0 := by
        unfold s0
        split
        · exact .refl s
        · exact .of_recs rfl
      have h2 : SameRecs s0 s2 := by
        unfold s2
        split
        · exact updRoute_recs _ _ s0
        · exact .refl s0
      refine (h0.trans (h2.trans (.of_recs (t := s3) rfl))).trans (SameRecs.trans ?_ (.of_recs rfl))
      exact .foldl us fun t e => (SameRecs.updEp e _ t).trans (moveTo_recs n e _)
  split
  · exact h1
  split
  · exact h1
  extract_lets s4
  split
  · exact h1
  · refine h1.trans (.trans ?_ (.of_recs rfl))
    exact (updRoute_recs _ _ s1).trans (.foldl _ fun t e => .updEp e _ t)

theorem acceptCtr_recs (ep key ctr : Nat) (s : State) : SameRecs s (acceptCtr ep key ctr s) := by
  unfold acceptCtr
  extract_lets s1 c l s2
  have h1 : SameRecs s s1 := .updEp ep _ s
  refine h1.trans ?_
  split
  · unfold writeJournal
    extract_lets c'
    split
    · exact .of_recs rfl
    · exact .of_recs rfl
  · exact .of_recs rfl

theorem writeRec_recs (ep : Nat) (s : State) : SameRecs s (writeRec ep s) := .of_recs rfl

theorem countUsers_recs (s : State) : SameRecs s (countUsers s) := .of_recs rfl

theorem startTxn_recs (kind : TxnKind) (ep : Nat) (org : Option Origin) (query strict : Bool) (app : List Nat) (target : Option Nat)
    (deadline : Nat) (s : State) : SameRecs s (startTxn kind ep org query strict app target deadline s) := .of_lat rfl

/-- A join or rejoin that is admitted keeps every record (R256). -/
theorem admitJoin_recs (rejoin : Bool) (n ep : Nat) (r : EpRec) (m : RxMsg) (s : State) : SameRecs s (admitJoin rejoin n ep r m s) := by
  unfold admitJoin
  extract_lets path s0
  split
  next r' denied _ =>
  extract_lets s1 s1' s2 pop s3
  have h0 : SameRecs s s0 := by
    unfold s0
    split
    · exact learnRoute_recs _ _ _ s
    · exact .refl s
  have h1 : SameRecs s s1 := h0.trans (.updEp ep _ s0)
  have h1' : SameRecs s s1' := by
    have hctr : SameRecs s1 (if rejoin then s1 else acceptCtr ep 0 m.counter s1) := by
      split
      · exact .refl s1
      · exact acceptCtr_recs _ _ _ s1
    exact (h1.trans hctr).trans ((writeRec_recs ep _).trans (countUsers_recs _))
  have h2 : SameRecs s1' s2 := by
    unfold s2
    split
    · exact .of_lat ((keeps_logLim _ _ _ s1' (mk := 0x4000) (s0 := s1') rfl (Keeps.refl _ _)).get 14 rfl)
    · exact .refl s1'
  have h3 : SameRecs s2 s3 := by
    unfold s3
    split
    · exact .of_lat ((keeps_revokePoll n pop s2 (mk := 0x4000) (s0 := s2) rfl (Keeps.refl _ _)).get 14 rfl)
    · exact .refl s2
  exact (h1'.trans (h2.trans h3)).trans (startTxn_recs _ _ _ _ _ _ _ _ _)

theorem admitJoin_answers (n ep : Nat) (r : EpRec) (m : RxMsg) (s : State) :
    ∃ u x, admitJoin false n ep r m s = startTxn (.joinRsp false) ep none false false x none (ownDeadline u) u ∧ x.getD 0 0 = 6 ∧ x.getD 3 0 = n := by
  unfold admitJoin
  exact ⟨_, _, rfl, rfl, rfl⟩

/-! ### The judgement -/

theorem isNone_of_ne {α : Type} {o : Option α} (h : o ≠ none) : o.isNone = false :=
  Bool.eq_false_iff.2 fun h0 => h (Option.isNone_iff_eq_none.1 h0)


section
variable {s : State} {n : Nat} {media : Bool} {m : RxMsg} {ep : Nat} {r : EpRec}

/-- The message at the front of a ring that is read (R263). -/
theorem headMsg_of_head {op : Nat} (p : Nat → Bool) (h : Head op n m s) (hp : p op = true) : headMsg s n p = some m := by
  obtain ⟨hwin, hhead, hop⟩ := h
  unfold headMsg
  simp only [hwin, hhead, hop, hp, Bool.false_eq_true, if_false, if_true]

theorem headMsg_window (p : Nat → Bool) (h : s.upd.windowOpen = true) : headMsg s n p = none := if_pos h

theorem joinHead (h : Head 5 n m s) : headMsg s n (fun op => op == 5) = some m := headMsg_of_head _ h rfl

theorem rejoinHead (h : Head 7 n m s) : headMsg s n (fun op => op == 7) = some m := headMsg_of_head _ h rfl

theorem exec_joinReq_unknown (h : Head 5 n m s) (heui : byEui s m.eui = none) :
    exec (.joinReq n media) s = .next (refuseJoin m.eui 0 (popRing n s)) := by
  unfold exec execJoinReq
  simp only [joinHead h, heui]

theorem exec_joinReq_state (h : Head 5 n m s) (heui : byEui s m.eui = some (ep, r)) (hst : r.st ≠ .provisioned) :
    exec (.joinReq n media) s = .next (refuseJoin m.eui 0 (popRing n s)) := by
  unfold exec execJoinReq
  simp [joinHead h, heui, hst]

/-- The endpoint may join: it is provisioned, and no answer to it is under way (R256). -/
theorem joinFree (hst : r.st = .provisioned) (hfree : ∀ t ∈ s.txn.txns, ¬(t.ep = ep ∧ t.kind = .joinRsp false)) :
    (r.st != .provisioned || s.txn.txns.any (fun t => t.ep == ep && t.kind == .joinRsp false)) = false := by
  rw [Bool.or_eq_false_iff, List.any_eq_false]
  exact ⟨by simp [hst], fun t ht => by simpa using hfree t ht⟩

theorem exec_joinReq_noKey (h : Head 5 n m s) (heui : byEui s m.eui = some (ep, r)) (hst : r.st = .provisioned)
    (hfree : ∀ t ∈ s.txn.txns, ¬(t.ep = ep ∧ t.kind = .joinRsp false)) (hkey : r.keyCur = none) :
    exec (.joinReq n media) s = .next (refuseJoin m.eui 1 (popRing n s)) := by
  unfold exec execJoinReq
  simp only [joinHead h, heui, joinFree hst hfree, hkey]
  rfl

theorem exec_joinReq_insecure (h : Head 5 n m s) (heui : byEui s m.eui = some (ep, r)) (hst : r.st = .provisioned)
    (hfree : ∀ t ∈ s.txn.txns, ¬(t.ep = ep ∧ t.kind = .joinRsp false)) (hkey : r.keyCur ≠ none) (hsecure : joinSecure m r = false) :
    exec (.joinReq n media) s = .next (refuseJoin m.eui 2 (popRing n s)) := by
  have hnone : r.keyCur.isNone = false := isNone_of_ne hkey
  unfold exec execJoinReq
  simp only [joinHead h, heui, joinFree hst hfree, hnone, hsecure]
  rfl

theorem exec_joinReq_policy (h : Head 5 n m s) (heui : byEui s m.eui = some (ep, r)) (hst : r.st = .provisioned)
    (hfree : ∀ t ∈ s.txn.txns, ¬(t.ep = ep ∧ t.kind = .joinRsp false)) (hkey : r.keyCur ≠ none) (hsecure : joinSecure m r = true)
    (hpermit : s.lat.policy.permit ≠ 1) : exec (.joinReq n media) s = .next (refuseJoin m.eui 3 (popRing n s)) := by
  have hnone : r.keyCur.isNone = false := isNone_of_ne hkey
  have hpolicy : (s.lat.policy.permit != 1) = true := by simpa using hpermit
  unfold exec execJoinReq
  simp only [joinHead h, heui, joinFree hst hfree, hnone, hsecure, hpolicy]
  rfl

theorem exec_joinReq_admitted (h : Head 5 n m s) (heui : byEui s m.eui = some (ep, r)) (hst : r.st = .provisioned)
    (hfree : ∀ t ∈ s.txn.txns, ¬(t.ep = ep ∧ t.kind = .joinRsp false)) (hkey : r.keyCur ≠ none) (hsecure : joinSecure m r = true)
    (hpermit : s.lat.policy.permit = 1) (hpolicy : policyOk s n r.cls = true) (hmode : (msgBody m).getD 5 0 / 4 % 4 ≠ 3) (hmedia : media = true)
    (hroom : txnRoom s 1 = true) :
    ∃ u x, exec (.joinReq n media) s = .next (startTxn (.joinRsp false) ep none false false x none (ownDeadline u) u) ∧
      x.getD 0 0 = 6 ∧ x.getD 3 0 = n := by
  have hnone : r.keyCur.isNone = false := isNone_of_ne hkey
  have hexec : exec (.joinReq n media) s = .next (admitJoin false n ep r m (popRing n s)) := by
    have hok : (s.lat.policy.permit != 1 || !policyOk s n r.cls || (msgBody m).getD 5 0 / 4 % 4 == 3) = false := by
      rw [Bool.or_eq_false_iff, Bool.or_eq_false_iff]
      exact ⟨⟨by simp [hpermit], by simp [hpolicy]⟩, beq_eq_false_iff_ne.2 hmode⟩
    unfold exec execJoinReq
    simp only [joinHead h, heui, joinFree hst hfree, hnone, hsecure, hok, hmedia, hroom]
    rfl
  obtain ⟨u, x, hanswer, hop, heng⟩ := admitJoin_answers n ep r m (popRing n s)
  exact ⟨u, x, hexec.trans (congrArg Host.Outcome.next hanswer), hop, heng⟩

/-! ### Rejoins -/

theorem exec_rejoin_state (h : Head 7 n m s) (heui : byEui s m.eui = some (ep, r)) (hactive : r.st ≠ .active) (horphan : r.st ≠ .orphan) :
    exec (.rejoin n media) s = .next (refuseJoin m.eui 0 (popRing n s)) := by
  unfold exec execRejoin
  simp [rejoinHead h, heui, hactive, horphan]

/-- An endpoint with a key that rejoins under it (R257). -/
theorem rejoin_sound (hst : r.st = .active ∨ r.st = .orphan) (hkey : r.keyCur ≠ none) (hver : m.verified = true)
    (hlevel : m.routed = true ∨ m.level = r.secLevel) : (!(r.st == .active || r.st == .orphan)) = false ∧ r.keyCur.isNone = false ∧
      (!(m.verified && (m.routed || m.level == r.secLevel))) = false := by
  refine ⟨?_, isNone_of_ne hkey, ?_⟩
  · rcases hst with h | h <;> simp [h]
  · rcases hlevel with h | h <;> simp [h, hver]

theorem exec_rejoin_policy (h : Head 7 n m s) (heui : byEui s m.eui = some (ep, r)) (hst : r.st = .active ∨ r.st = .orphan)
    (hkey : r.keyCur ≠ none) (hver : m.verified = true) (hlevel : m.routed = true ∨ m.level = r.secLevel) (hpermit : s.lat.policy.permit = 0) :
    exec (.rejoin n media) s = .next (refuseJoin m.eui 3 (popRing n s)) := by
  obtain ⟨h1, h2, h3⟩ := rejoin_sound hst hkey hver hlevel
  unfold exec execRejoin
  simp only [rejoinHead h, heui, h1, h2, h3, hpermit]
  rfl

theorem moveQueue_recs (old ep : Nat) (s : State) : SameRecs s (moveQueue old ep s) :=
  .of_lat ((keeps_moveQueue old ep s (mk := 0x4000) (s0 := s) rfl (Keeps.refl _ s)).get 14 rfl)

theorem openLink_recs (ep : Nat) (s : State) : epOf (openLink ep s) ep = epOf s ep := by
  unfold openLink
  split
  · rfl
  split <;> rfl

theorem exec_rejoin_admitted (h : Head 7 n m s) (heui : byEui s m.eui = some (ep, r)) (hr : epOf s ep = some r)
    (hst : r.st = .active ∨ r.st = .orphan) (hkey : r.keyCur ≠ none) (hver : m.verified = true) (hlevel : m.routed = true ∨ m.level = r.secLevel)
    (hpermit : s.lat.policy.permit ≠ 0) (hpolicy : policyOk s n r.cls = true) (hmode : (msgBody m).getD 5 0 / 4 % 4 ≠ 3)
    (hmedia : media = true) (hroom : txnRoom s 1 = true) :
    ∃ u x, exec (.rejoin n media) s = .next (notifyOwners x.owner 0x0501 [packW [(n, 26), (1, 25), (ep, 0)], wd x.short] u) ∧
      epOf u ep = some x ∧ x.st = .active := by
  obtain ⟨h1, h2, h3⟩ := rejoin_sound hst hkey hver hlevel
  have hok : (s.lat.policy.permit == 0 || !policyOk s n r.cls || (msgBody m).getD 5 0 / 4 % 4 == 3) = false := by
    rw [Bool.or_eq_false_iff, Bool.or_eq_false_iff]
    exact ⟨⟨by simp [hpermit], by simp [hpolicy]⟩, beq_eq_false_iff_ne.2 hmode⟩
  let s2 := if r.engine != n then moveQueue r.engine ep (closeLink ep (popRing n s)) else popRing n s
  let s3 := openLink ep (updEp ep (fun r => { r with st := .active }) (admitJoin true n ep r m s2))
  have h2recs : SameRecs s s2 := by
    unfold s2
    split
    · exact (SameRecs.of_lat (t := closeLink ep (popRing n s)) rfl).trans (moveQueue_recs _ _ _)
    · exact .of_lat rfl
  obtain ⟨y, hy⟩ := (h2recs.trans (admitJoin_recs true n ep r m s2)).record hr
  have hx : epOf s3 ep = some { y with st := .active } := (openLink_recs ep _).trans (epOf_updEp _ hy)
  refine ⟨logNs evEpRejoined r.engine [ep, r.engine, y.engine, r.parent, y.parent] s3, { y with st := .active }, ?_, hx, rfl⟩
  unfold exec execRejoin
  simp only [rejoinHead h, heui, h1, h2, h3, hok, hmedia, hroom]
  refine congrArg Host.Outcome.next ?_
  change (match epOf s3 ep with | none => s3 | some x => _) = _
  rw [hx]

theorem exec_joins_window (h : s.upd.windowOpen = true) : exec (.joinReq n media) s = .next s ∧ exec (.rejoin n media) s = .next s := by
  constructor
  · unfold exec execJoinReq
    simp only [headMsg_window _ h]
  · unfold exec execRejoin
    simp only [headMsg_window _ h]

end

/-- Settles O36: the judgement of a join in its order, of a rejoin, and the window. -/
theorem joinsAreJudgedInOrder : Obligations.JoinsAreJudgedInOrder := by
  unfold Obligations.JoinsAreJudgedInOrder
  intro s n media m
  refine ⟨fun h => ⟨exec_joinReq_unknown h, fun ep r heui => ⟨exec_joinReq_state h heui, fun hst hfree => ?_⟩⟩,
    fun h ep r heui hr => ?_, exec_joins_window⟩
  · exact ⟨exec_joinReq_noKey h heui hst hfree, exec_joinReq_insecure h heui hst hfree, exec_joinReq_policy h heui hst hfree,
      exec_joinReq_admitted h heui hst hfree⟩
  · exact ⟨exec_rejoin_state h heui, exec_rejoin_policy h heui, exec_rejoin_admitted h heui hr⟩

end Sys2Proof.Proofs
end

section
/-! PROOFS. Messages of an endpoint (O37). -/
namespace Sys2Proof.Proofs
open Sys2Proof Sys2Proof.Machine Sys2Proof.Laws

section
variable {s : State} {n ep : Nat} {m : RxMsg}

/-! ### Confirms -/

theorem exec_confirm_settles {t : Txn} (htrust : trusted m = some ep) (h : Head 2 n m s) (ht : byTid s ep ((msgBody m).getD 0 0) false = some t) :
    exec (.confirm n) s =
      .next (confirmTxn t ((msgBody m).getD 1 0) ⟨[], le16 (msgBody m) 2, m.tt / 4096, m.rssi, m.snr⟩ (popRing n s)) := by
  unfold exec execConfirm
  simp only [headMsg_of_head (fun op => op == 2) h rfl, htrust, show byTid (popRing n s) ep ((msgBody m).getD 0 0) false = some t from ht]

theorem exec_confirm_dropped (htrust : trusted m = some ep) (h : Head 2 n m s) (ht : byTid s ep ((msgBody m).getD 0 0) false = none) :
    exec (.confirm n) s = .next (popRing n s) := by
  unfold exec execConfirm
  simp only [headMsg_of_head (fun op => op == 2) h rfl, htrust, show byTid (popRing n s) ep ((msgBody m).getD 0 0) false = none from ht]

/-! ### Energy reports -/

theorem ring_popRing (s : State) (n : Nat) : (ceOf (popRing n s) n).ring = (ceOf s n).ring.tail := by
  by_cases hn : n < s.rad.ces.length
  · rw [popRing, ceOf_updCe_self _ hn]
  · rw [popRing, updCe_out _ (Nat.le_of_not_lt hn), ceOf_out (Nat.le_of_not_lt hn)]
    rfl

theorem noteReport_units (ep cyc energy : Nat) (s : State) :
    (noteReport ep cyc energy s).lat = s.lat ∧ (noteReport ep cyc energy s).rad = s.rad := by
  unfold noteReport
  split <;> exact ⟨rfl, rfl⟩

theorem reports_noteReport (cyc energy : Nat) (h : s.dev.variant ≠ .c) :
    tget (noteReport ep cyc energy s).mtr.reports ep = some (((tget s.mtr.reports ep).getD []) ++ [(cyc, energy)]) := by
  unfold noteReport
  rw [if_neg h]
  exact tget_tset_self _ _ _

theorem updEp_units (ep : Nat) (f : EpRec → EpRec) (s : State) :
    (updEp ep f s).dev = s.dev ∧ (updEp ep f s).mtr = s.mtr ∧ (updEp ep f s).rad = s.rad := by
  unfold updEp
  split <;> exact ⟨rfl, rfl, rfl⟩

theorem exec_energy_updates {x : EpRec} (htrust : trusted m = some ep) (h : Head 0x10 n m s) (hx : epOf s ep = some x) :
    ∃ t y, exec (.energy n) s = .next t ∧ epOf t ep = some y ∧ y.energy = le32 (msgBody m) ∧ y.energyCyc = m.tt / 4096 ∧
      y.st = x.st ∧ (s.dev.variant ≠ .c → tget t.mtr.reports ep =
        some (((tget s.mtr.reports ep).getD []) ++ [(m.tt / 4096, le32 (msgBody m))])) ∧ (ceOf t n).ring = (ceOf s n).ring.tail := by
  let u := updEp ep (fun r => { r with energy := le32 (msgBody m), energyCyc := m.tt / 4096 }) (popRing n s)
  obtain ⟨hdev, hmtr, hrad⟩ := updEp_units ep (fun r => { r with energy := le32 (msgBody m), energyCyc := m.tt / 4096 }) (popRing n s)
  obtain ⟨hlat, hrad'⟩ := noteReport_units ep (m.tt / 4096) (le32 (msgBody m)) u
  refine ⟨noteReport ep (m.tt / 4096) (le32 (msgBody m)) u, { x with energy := le32 (msgBody m), energyCyc := m.tt / 4096 }, ?_, ?_,
    rfl, rfl, rfl, fun hv => ?_, ?_⟩
  · unfold exec execEnergy
    simp only [headMsg_of_head (fun op => op == 0x10) h rfl, htrust]
    rfl
  · unfold epOf
    rw [hlat]
    exact epOf_updEp (s := popRing n s) _ hx
  · have hv' : u.dev.variant ≠ .c := fun hc => hv ((congrArg Device.variant hdev).symm.trans hc)
    rw [reports_noteReport _ _ hv', show u.mtr = s.mtr from hmtr]
  · unfold ceOf
    rw [hrad', show u.rad = (popRing n s).rad from hrad]
    exact ring_popRing s n

/-! ### Detections and lux -/

theorem detectHead (h : Head 0x11 n m s) : headMsg s n (fun op => op == 0x11) = some m := headMsg_of_head _ h rfl

theorem exec_detect_discards (htrust : trusted m = some ep) (h : Head 0x11 n m s) (hkind : (msgBody m).getD 0 0 < 2)
    (hoff : chdRuns s = false ∨ s.chd.on = false) :
    exec (.detect n) s = .next { popRing n s with chd := { s.chd with discarded := s.chd.discarded + 1 } } := by
  have hguard : (!chdRuns (popRing n s) || !(popRing n s).chd.on) = true := by
    rw [Bool.or_eq_true, Bool.not_eq_true', Bool.not_eq_true']
    exact hoff
  unfold exec execDetect
  simp only [detectHead h, htrust, if_neg (show ¬ (msgBody m).getD 0 0 = 2 by omega), if_neg (show ¬ 2 < (msgBody m).getD 0 0 by omega), hguard]
  rfl

theorem exec_detect_runs {x : EpRec} (htrust : trusted m = some ep) (h : Head 0x11 n m s) (hkind : (msgBody m).getD 0 0 < 2)
    (hruns : chdRuns s = true) (hon : s.chd.on = true) (hx : epOf s ep = some x) :
    exec (.detect n) s = .next (if firstDetect s (detectTt s m x.hops) ep then
      offerDetection ep ((msgBody m).getD 0 0) ((msgBody m).getD 1 0) (le16 (msgBody m) 2) (detectTt (popRing n s) m x.hops) (popRing n s) else s) := by
  have hguard : (!chdRuns (popRing n s) || !(popRing n s).chd.on) = false := by
    rw [show chdRuns (popRing n s) = true from hruns, show (popRing n s).chd.on = true from hon]
    rfl
  unfold exec execDetect
  simp only [detectHead h, htrust, if_neg (show ¬ (msgBody m).getD 0 0 = 2 by omega), if_neg (show ¬ 2 < (msgBody m).getD 0 0 by omega), hguard,
    show epOf (popRing n s) ep = some x from hx]
  rfl

theorem exec_detect_lux (htrust : trusted m = some ep) (h : Head 0x11 n m s) (hkind : (msgBody m).getD 0 0 = 2) :
    ∃ t, exec (.detect n) s = .next t ∧ tget t.sch.lux ep = some ⟨le16 (msgBody m) 6, m.tt / 4096, s.clk.ticks⟩ ∧ t.chd = s.chd := by
  let u : State := { popRing n s with sch := { s.sch with lux := tset s.sch.lux ep ⟨le16 (msgBody m) 6, m.tt / 4096, s.clk.ticks⟩ } }
  have hlux : (checkStale (updGates u)).sch.lux = u.sch.lux := by
    unfold checkStale
    extract_lets gs s1
    refine List.foldlRecOn gs _ (motive := fun t : State => t.sch.lux = u.sch.lux) rfl fun t ht g _ => ?_
    split
    · exact ht
    · exact ht
  have hchd : (checkStale (updGates u)).chd = s.chd :=
    (keeps_checkStale _ (mk := 0x20000) (s0 := u) rfl (keeps_updGates u rfl (Keeps.refl _ u))).get 17 rfl
  refine ⟨checkStale (updGates u), ?_, ?_, hchd⟩
  · unfold exec execDetect
    simp only [detectHead h, htrust, hkind]
    rfl
  · rw [hlux]
    exact tget_tset_self _ _ _

/-! ### Images -/

theorem exec_imageNack_missing {x : ImgSend} (htrust : trusted m = some ep) (h : Head 0x23 n m s) (hx : sendOf s ep = some x) :
    exec (.imageNack n) s = .next (updTarget x ep (fun t => { t with
      missing := t.missing ++ nackBlocks (msgBody m)
      complete := t.complete || (nackBlocks (msgBody m)).isEmpty }) (popRing n s)) := by
  unfold exec execImageNack
  simp only [headMsg_of_head (fun op => op == 0x23) h rfl, htrust, show sendOf (popRing n s) ep = some x from hx]

theorem exec_imgReport_result {x : ImgSend} (htrust : trusted m = some ep) (h : Head 0x24 n m s) (hx : sendOf s ep = some x) :
    exec (.imgReport n) s = .next (updTarget x ep (fun t => { t with report := some ((msgBody m).getD 0 0) }) (popRing n s)) := by
  unfold exec execImgReport
  simp only [headMsg_of_head (fun op => op == 0x24) h rfl, htrust, show sendOf (popRing n s) ep = some x from hx]

/-! ### Reports and replies -/

/-- The messages that the report rule reads: none of those with a rule of their own (R263, R289). -/
def reportOp (op : Nat) : Bool := !([2, 5, 7, 0x10, 0x11, 0x23, 0x24].contains op)

theorem reportOp_of_host {op : Nat} (h : 0x80 ≤ op) : reportOp op = true := by
  unfold reportOp
  rw [Bool.not_eq_true', ← Bool.not_eq_true, List.contains_iff_mem]
  intro hmem
  have : ∀ k ∈ [2, 5, 7, 0x10, 0x11, 0x23, 0x24], k < 0x80 := by decide
  exact absurd (this op hmem) (Nat.not_lt.2 h)

theorem exec_report_reply {op : Nat} {t : Txn} (htrust : trusted m = some ep) (h : Head op n m s) (hop : 0x80 ≤ op)
    (ht : byTid s ep (msgTid m) true = some t) (hroute : t.route = none) :
    exec (.report n) s = .next (finishTxn t stOk 0 ⟨op :: msgBody m, 0, m.tt / 4096, m.rssi, m.snr⟩ (popRing n s)) := by
  have hhead : headMsg s n (fun op => !([2, 5, 7, 0x10, 0x11, 0x23, 0x24].contains op)) = some m := headMsg_of_head reportOp h (reportOp_of_host hop)
  unfold exec execReport
  simp only [hhead, htrust, h.2.2, decide_eq_true hop, show byTid (popRing n s) ep (msgTid m) true = some t from ht, hroute]

theorem exec_report_owners {op : Nat} {x : EpRec} (htrust : trusted m = some ep) (h : Head op n m s) (hop : 0x80 ≤ op)
    (ht : byTid s ep (msgTid m) true = none) (hx : epOf s ep = some x) :
    exec (.report n) s = .next (notifyOwners x.owner 0x0503 (reportWords ep m) (popRing n s)) := by
  have hhead : headMsg s n (fun op => !([2, 5, 7, 0x10, 0x11, 0x23, 0x24].contains op)) = some m := headMsg_of_head reportOp h (reportOp_of_host hop)
  unfold exec execReport
  simp only [hhead, htrust, h.2.2, decide_eq_true hop, show byTid (popRing n s) ep (msgTid m) true = none from ht,
    show epOf (popRing n s) ep = some x from hx]

/-! ### Messages that are not trusted -/

/-- A message that is not trusted only leaves the ring (R257). -/
theorem exec_untrusted (htrust : trusted m = none) :
    (Head 2 n m s → exec (.confirm n) s = .next (popRing n s)) ∧ (Head 0x10 n m s → exec (.energy n) s = .next (popRing n s)) ∧
    (Head 0x11 n m s → exec (.detect n) s = .next (popRing n s)) ∧ (Head 0x23 n m s → exec (.imageNack n) s = .next (popRing n s)) ∧
    (Head 0x24 n m s → exec (.imgReport n) s = .next (popRing n s)) ∧
    ∀ op, Head op n m s → 0x80 ≤ op → exec (.report n) s = .next (popRing n s) := by
  refine ⟨fun h => ?_, fun h => ?_, fun h => ?_, fun h => ?_, fun h => ?_, fun op h hop => ?_⟩
  · unfold exec execConfirm
    simp only [headMsg_of_head (fun op => op == 2) h rfl, htrust]
  · unfold exec execEnergy
    simp only [headMsg_of_head (fun op => op == 0x10) h rfl, htrust]
  · unfold exec execDetect
    simp only [detectHead h, htrust]
  · unfold exec execImageNack
    simp only [headMsg_of_head (fun op => op == 0x23) h rfl, htrust]
  · unfold exec execImgReport
    simp only [headMsg_of_head (fun op => op == 0x24) h rfl, htrust]
  · have hhead : headMsg s n (fun op => !([2, 5, 7, 0x10, 0x11, 0x23, 0x24].contains op)) = some m := headMsg_of_head reportOp h (reportOp_of_host hop)
    unfold exec execReport
    simp only [hhead, htrust]

end

/-- Settles O37: each message at the front of a ring by its own rule. -/
theorem endpointMessagesActOnTheirUnit : Obligations.EndpointMessagesActOnTheirUnit := by
  unfold Obligations.EndpointMessagesActOnTheirUnit
  intro s n m ep
  refine ⟨fun htrust => ⟨fun h t => exec_confirm_settles htrust h, exec_confirm_dropped htrust, fun h x => exec_energy_updates htrust h,
    exec_detect_discards htrust, fun h hkind hruns hon x hx hfirst => ?_, fun h hkind hruns hon x hx hfirst => ?_, exec_detect_lux htrust,
    fun h x => exec_imageNack_missing htrust h, fun h x => exec_imgReport_result htrust h, fun op t => exec_report_reply htrust,
    fun op x => exec_report_owners htrust⟩, exec_untrusted⟩
  · rw [exec_detect_runs htrust h hkind hruns hon hx, hfirst]
    rfl
  · rw [exec_detect_runs htrust h hkind hruns hon hx, hfirst]
    rfl

end Sys2Proof.Proofs
end

section
/-! PROOFS. Transactions: attempts, time-outs and the one outcome (O38). -/
namespace Sys2Proof.Proofs
open Sys2Proof Sys2Proof.Machine Sys2Proof.Laws

section
variable {s : State} {id : Nat} {t : Txn} {r : EpRec}

/-! ### Attempts -/

/-- An attempt is made on a transaction that waits, outside a window (R270). -/
theorem exec_txnAttempt_attempts (ht : txnOf s id = some t) (hwin : s.upd.windowOpen = false)
    (hst : t.st = .queued ∨ (t.st = .deferred ∧ holdFlag s = false)) : exec (.txnAttempt id) s = .next (attemptTxn t s) := by
  unfold exec execTxnAttempt
  rcases hst with hst | ⟨hst, hhold⟩
  · simp only [ht, hwin, hst, Bool.false_eq_true, if_false]
  · simp only [ht, hwin, hst, hhold, Bool.false_eq_true, if_false]

theorem attemptTxn_defers (hr : epOf s t.ep = some r) (hdefer : deferNow s t r = true) :
    attemptTxn t s = updTxn t.id (fun t => { t with st := .deferred }) s := by
  unfold attemptTxn
  simp only [hr, hdefer, if_true]

/-- What an attempt on an endpoint that can be reached comes to (R270). -/
def reachedTxn (t : Txn) (r : EpRec) (s : State) : State :=
  if keyExhausted r then finishTxn t stKeyInvalid 0 noRes (logNs evEpKeyExhausted 0xFF [t.ep] s)
  else if exhaustedAt s (peerOf s t r) then finishTxn t stKeyInvalid 0 noRes (logNs evEpKeyExhausted 0xFF [peerOf s t r] s)
  else if !linkKeyUsable s t.ep || !linkKeyUsable s (peerOf s t r) then finishTxn t stKeyInvalid 0 noRes s
  else if r.viaRouter && !outReady s t.ep then s
  else if lateTarget s t && t.strict then
    if t.attempts = 0 then finishTxn t stDeferred 0 noRes s else finishTxn t stAbandoned 1 noRes s
  else stageTxn (sentTxn t r s) r (updTxn t.id (fun _ => sentTxn t r s) (updEp t.ep (fun x => { x with tid := (sentTxn t r s).tid })
    { s with txn := { s.txn with attempts := inc32 s.txn.attempts } }))
where
  /-- The transaction with its attempt under way (R270, R277). -/
  sentTxn (t : Txn) (r : EpRec) (s : State) : Txn := { t with
    st := .sent
    attempts := t.attempts + 1
    tid := if t.attempts = 0 then (r.tid + 1) % 256 else t.tid
    hops := r.hops
    until_ := 0
    route := if r.viaRouter then some r.route else none
    target := if lateTarget s t then t.target.map (retag s t) else t.target }

theorem attemptTxn_reached (hr : epOf s t.ep = some r) (hdefer : deferNow s t r = false) (hreach : reachable s t r = true)
    (hmode : kindInMode s t = true) (hroom : txRoom s r.engine = true) : attemptTxn t s = reachedTxn t r s := by
  have hguard : (!(reachable s t r && kindInMode s t && ((!goesNow t r && r.sleepy == 1) || txRoom s r.engine))) = false := by
    simp [hreach, hmode, hroom]
  unfold attemptTxn
  simp only [hr, hdefer, hguard, Bool.false_eq_true, if_false]
  rfl

theorem reachedTxn_exhausted (h : keyExhausted r = true) :
    reachedTxn t r s = finishTxn t stKeyInvalid 0 noRes (logNs evEpKeyExhausted 0xFF [t.ep] s) := if_pos h

theorem reachedTxn_peerExhausted (hkey : keyExhausted r = false) (h : exhaustedAt s (peerOf s t r) = true) :
    reachedTxn t r s = finishTxn t stKeyInvalid 0 noRes (logNs evEpKeyExhausted 0xFF [peerOf s t r] s) := by
  unfold reachedTxn
  simp only [hkey, h, Bool.false_eq_true, if_false, if_true]

theorem reachedTxn_unusable (hkey : keyExhausted r = false) (hpeer : exhaustedAt s (peerOf s t r) = false)
    (h : linkKeyUsable s t.ep = false ∨ linkKeyUsable s (peerOf s t r) = false) : reachedTxn t r s = finishTxn t stKeyInvalid 0 noRes s := by
  have hguard : (!linkKeyUsable s t.ep || !linkKeyUsable s (peerOf s t r)) = true := by rcases h with h | h <;> simp [h]
  unfold reachedTxn
  simp only [hkey, hpeer, hguard, Bool.false_eq_true, if_false, if_true]

/-- With usable keys (R260, R277). -/
theorem reachedTxn_usable (hkey : keyExhausted r = false) (hpeer : exhaustedAt s (peerOf s t r) = false) (hown : linkKeyUsable s t.ep = true)
    (hnext : linkKeyUsable s (peerOf s t r) = true) :
    reachedTxn t r s = (if r.viaRouter && !outReady s t.ep then s
      else if lateTarget s t && t.strict then
        if t.attempts = 0 then finishTxn t stDeferred 0 noRes s else finishTxn t stAbandoned 1 noRes s
      else stageTxn (reachedTxn.sentTxn t r s) r (updTxn t.id (fun _ => reachedTxn.sentTxn t r s)
        (updEp t.ep (fun x => { x with tid := (reachedTxn.sentTxn t r s).tid })
          { s with txn := { s.txn with attempts := inc32 s.txn.attempts } }))) := by
  unfold reachedTxn
  simp only [hkey, hpeer, hown, hnext, Bool.not_true, Bool.or_false, Bool.false_eq_true, if_false]

theorem ready_guard (h : r.viaRouter = false ∨ outReady s t.ep = true) : (r.viaRouter && !outReady s t.ep) = false := by
  rcases h with h | h <;> simp [h]

theorem updEp_txn (ep : Nat) (f : EpRec → EpRec) (s : State) : (updEp ep f s).txn = s.txn := by
  unfold updEp
  split <;> rfl

theorem exec_txnAttempt_stages (hexec : exec (.txnAttempt id) s = .next (reachedTxn t r s)) (hkey : keyExhausted r = false)
    (hpeer : exhaustedAt s (peerOf s t r) = false) (hown : linkKeyUsable s t.ep = true) (hnext : linkKeyUsable s (peerOf s t r) = true)
    (hready : r.viaRouter = false ∨ outReady s t.ep = true) (hintime : ∀ g, t.target = some g → cycOf s + s.txn.retry.lead ≤ g) :
    ∃ t1 u, exec (.txnAttempt id) s = .next (stageTxn t1 r u) ∧ t1.st = .sent ∧ t1.attempts = t.attempts + 1 ∧
      t1.tid = (if t.attempts = 0 then (r.tid + 1) % 256 else t.tid) ∧ t1.target = t.target ∧ t1.id = t.id ∧ t1.app = t.app ∧
      u.txn.attempts = inc32 s.txn.attempts := by
  have hlate : lateTarget s t = false := by
    unfold lateTarget
    split
    next g hg => exact decide_eq_false (Nat.not_lt.2 (hintime g hg))
    next => rfl
  have hstage := reachedTxn_usable hkey hpeer hown hnext
  rw [ready_guard hready, hlate, if_neg Bool.false_ne_true, Bool.false_and, if_neg Bool.false_ne_true] at hstage
  refine ⟨_, _, hexec.trans (congrArg Host.Outcome.next hstage), rfl, rfl, rfl, ?_, rfl, rfl, ?_⟩
  · unfold reachedTxn.sentTxn
    rw [hlate]
    rfl
  · exact congrArg TxnEng.attempts (updEp_txn t.ep _ _)

theorem reachedTxn_late {g : Nat} (hkey : keyExhausted r = false) (hpeer : exhaustedAt s (peerOf s t r) = false)
    (hown : linkKeyUsable s t.ep = true) (hnext : linkKeyUsable s (peerOf s t r) = true) (hready : r.viaRouter = false ∨ outReady s t.ep = true)
    (htarget : t.target = some g) (hlate : g < cycOf s + s.txn.retry.lead) (hstrict : t.strict = true) :
    reachedTxn t r s = if t.attempts = 0 then finishTxn t stDeferred 0 noRes s else finishTxn t stAbandoned 1 noRes s := by
  have h : (lateTarget s t && t.strict) = true := by simp [lateTarget, htarget, hlate, hstrict]
  rw [reachedTxn_usable hkey hpeer hown hnext, ready_guard hready, h]
  rfl

theorem reachedTxn_waits (hkey : keyExhausted r = false) (hpeer : exhaustedAt s (peerOf s t r) = false) (hown : linkKeyUsable s t.ep = true)
    (hnext : linkKeyUsable s (peerOf s t r) = true) (hvia : r.viaRouter = true) (hout : outReady s t.ep = false) : reachedTxn t r s = s := by
  rw [reachedTxn_usable hkey hpeer hown hnext, hvia, hout]
  rfl

/-! ### Time-outs -/

theorem exec_txnConfirmTimeout_fails (ht : txnOf s id = some t) (hst : t.st = .await) (huntil : t.until_ ≤ s.tt.tt) :
    exec (.txnConfirmTimeout id) s = .next (failTxn id s) := by
  unfold exec execTxnConfirmTimeout
  simp [ht, hst, huntil]

theorem exec_txnConfirmTimeout_early (ht : txnOf s id = some t) (huntil : s.tt.tt < t.until_) : exec (.txnConfirmTimeout id) s = .next s := by
  unfold exec execTxnConfirmTimeout
  simp [ht, Nat.not_le.2 huntil]

theorem exec_txnBackoffEnd_last (ht : txnOf s id = some t) (hst : t.st = .backoff) (htries : s.txn.retry.maxTries ≤ t.attempts) :
    exec (.txnBackoffEnd id) s = .next (finishTxn t stAbandoned 1 noRes s) := by
  unfold exec execTxnBackoffEnd
  simp [ht, hst, htries]

theorem exec_txnBackoffEnd_again (ht : txnOf s id = some t) (hst : t.st = .backoff) (htries : t.attempts < s.txn.retry.maxTries)
    (huntil : t.until_ ≤ s.tt.tt) : exec (.txnBackoffEnd id) s = .next (updTxn id (fun t => { t with st := .queued }) s) := by
  unfold exec execTxnBackoffEnd
  simp [ht, hst, Nat.not_le.2 htries, huntil]

/-! ### The deadline -/

theorem exec_txnDeadline_early (ht : txnOf s id = some t) (h : cycOf s < t.deadline) : exec (.txnDeadline id) s = .next s := by
  unfold exec execTxnDeadline
  simp [ht, h]

/-- At its deadline a transaction ends by the first row that applies (R272). -/
theorem exec_txnDeadline_ends {u : State} (ht : txnOf s id = some t) (h : t.deadline ≤ cycOf s)
    (hu : u = (if (mdOf s (engOf s t.ep)).indirect.any (fun i => i.src == .txn t.id) then
      updCnt (engOf s t.ep) (fun c => { c with indirectExp := inc32 c.indirectExp }) s else s)) :
    exec (.txnDeadline id) s = .next (if t.st == .deferred || (t.strict && t.attempts == 0 && lateTarget s t) then finishTxn t stDeferred 0 noRes u
      else if t.st == .held then finishTxn t stOrderHeld 0 noRes u
      else if t.attempts = 0 then finishTxn t stUnreachable 0 noRes u
      else finishTxn t stAbandoned (if t.cancelled then 2 else 5) noRes u) := by
  unfold exec execTxnDeadline
  simp only [ht, if_neg (Nat.not_lt.2 h), ← hu]

theorem deferredRow_of_late (h : t.st = .deferred ∨ (t.strict = true ∧ t.attempts = 0 ∧ lateTarget s t = true)) :
    (t.st == .deferred || (t.strict && t.attempts == 0 && lateTarget s t)) = true := by
  rcases h with h | ⟨h1, h2, h3⟩
  · simp [h]
  · simp [h1, h2, h3]

theorem not_deferredRow (hst : t.st ≠ .deferred) (h : t.strict = false ∨ t.attempts ≠ 0 ∨ lateTarget s t = false) :
    (t.st == .deferred || (t.strict && t.attempts == 0 && lateTarget s t)) = false := by
  rcases h with h | h | h <;> simp [hst, h]

end

/-- Settles O38: what an attempt comes to, the time-outs, and the rows of the deadline in their order. -/
theorem transactionsEndWithOneOutcome : Obligations.TransactionsEndWithOneOutcome := by
  unfold Obligations.TransactionsEndWithOneOutcome
  intro s id t ht
  refine ⟨fun r hwin hst hr hdefer => ?_, fun r hwin hst hr hdefer hreach hmode hroom => ?_, exec_txnConfirmTimeout_fails ht,
    exec_txnConfirmTimeout_early ht, exec_txnBackoffEnd_last ht, exec_txnBackoffEnd_again ht, exec_txnDeadline_early ht, fun u hdl hu => ?_⟩
  · exact (exec_txnAttempt_attempts ht hwin (.inl hst)).trans (congrArg Host.Outcome.next (attemptTxn_defers hr hdefer))
  · have hexec : exec (.txnAttempt id) s = .next (reachedTxn t r s) :=
      (exec_txnAttempt_attempts ht hwin hst).trans (congrArg Host.Outcome.next (attemptTxn_reached hr hdefer hreach hmode hroom))
    exact ⟨fun hkey => hexec.trans (congrArg Host.Outcome.next (reachedTxn_exhausted hkey)),
      fun hkey hpeer => hexec.trans (congrArg Host.Outcome.next (reachedTxn_peerExhausted hkey hpeer)),
      fun hkey hpeer h => hexec.trans (congrArg Host.Outcome.next (reachedTxn_unusable hkey hpeer h)),
      exec_txnAttempt_stages hexec,
      fun g hkey hpeer hown hnext hready htarget hlate hstrict =>
        hexec.trans (congrArg Host.Outcome.next (reachedTxn_late hkey hpeer hown hnext hready htarget hlate hstrict)),
      fun hkey hpeer hown hnext hvia hout => hexec.trans (congrArg Host.Outcome.next (reachedTxn_waits hkey hpeer hown hnext hvia hout))⟩
  · have hexec := exec_txnDeadline_ends ht hdl hu
    refine ⟨fun h => ?_, fun h => ⟨fun hst => ?_, fun hdef hheld hatt => ?_, fun hdef hheld hatt => ?_⟩⟩
    · rw [hexec, deferredRow_of_late h]
      rfl
    · rw [hexec, not_deferredRow (by rw [hst]; decide) h, hst]
      rfl
    · rw [hexec, not_deferredRow hdef h, beq_eq_false_iff_ne.2 hheld, if_neg Bool.false_ne_true, if_neg Bool.false_ne_true, if_pos hatt]
    · rw [hexec, not_deferredRow hdef h, beq_eq_false_iff_ne.2 hheld, if_neg Bool.false_ne_true, if_neg Bool.false_ne_true, if_neg hatt]

end Sys2Proof.Proofs
end

section
/-! PROOFS. Sequence gaps, group messages and the TXN commands (O39, O40). -/
namespace Sys2Proof.Proofs
open Sys2Proof Sys2Proof.Machine Sys2Proof.Laws

section
variable {s : State} {id : Nat} {g : GroupMsg}

/-! ### Sequence gaps -/

theorem exec_seqWaitExpiry_gap {p : Fin 4} {h : SeqHeld} (hh : (s.txn.seqHeld.get p).find? (fun h => decide (h.cyc + s.txn.seqWait ≤ cycOf s)) = some h) :
    ∃ u, exec (.seqWaitExpiry p) s = .next (completeFail (h.req.origin true) ⟨12, stSeqGap, 0xFFFF, 0⟩ u) ∧
      u.txn.seqHeld.get p = (s.txn.seqHeld.get p).filter (fun x => x.req.id != h.req.id) ∧ OnlyChanges [.txn, .log] s u := by
  let s1 : State := { s with txn := { s.txn with seqHeld := s.txn.seqHeld.upd p fun l => l.filter fun x => x.req.id != h.req.id } }
  let content (n : Nat) : List Word := [wd p.val, wd (s.txn.expect.get p), wd h.req.seqNo, wd n]
  have hkeeps := keeps_logLimK evSeqGap 0xFF p.val 1 content s1 (mk := 0xFFFFFFFF77FF) rfl (Keeps.set_txn rfl (Keeps.refl _ s))
  refine ⟨logLimK evSeqGap 0xFF p.val 1 content s1, ?_, ?_, only_of_keeps hkeeps (by decide)⟩
  · unfold exec execSeqWaitExpiry
    simp only [hh]
    rfl
  · have htxn : (logLimK evSeqGap 0xFF p.val 1 content s1).txn = s1.txn :=
      (keeps_logLimK evSeqGap 0xFF p.val 1 content s1 (mk := 0x8000) rfl (Keeps.refl _ s1)).get 15 rfl
    rw [htxn]
    exact get_upd_self ..

theorem exec_seqWaitExpiry_none {p : Fin 4} (h : (s.txn.seqHeld.get p).find? (fun h => decide (h.cyc + s.txn.seqWait ≤ cycOf s)) = none) :
    exec (.seqWaitExpiry p) s = .next s := by
  unfold exec execSeqWaitExpiry
  simp only [h]

/-! ### Group messages -/

/-- A native group message without a target is sent, waits for its time, or ends (R273). -/
theorem exec_groupRepeat (hg : s.txn.groups.find? (fun g => g.id == id) = some g) (hcompat : g.compat = false) (hwin : s.upd.windowOpen = false)
    (htarget : g.target = none) :
    exec (.groupRepeat id) s = .next (if g.repeat_ ≤ g.sent then
        (if g.out = 0 then (if g.sched then compensate g (endGroup g stOk 0 s) else endGroup g stOk 0 s) else s)
      else if cycOf s < g.at_ then s
      else if (groupEngines s g.group g.scope).all (txRoom s) then sendRepeat g (updGroup id (fun _ => g) s) else s) := by
  have hretag : (if g.sent = 0 then retagGroup g s else some g) = some g := by
    unfold retagGroup
    rw [htarget]
    split <;> rfl
  unfold exec execGroupRepeat
  simp only [hg, hcompat, hwin, hretag, htarget, Bool.or_false, Bool.false_eq_true, if_false, decide_eq_true_eq]

end

/-- Settles O39: gaps at their time, and a group message's repetitions and end. -/
theorem gapsAndGroupsRunTheirCourse : Obligations.GapsAndGroupsRunTheirCourse := by
  unfold Obligations.GapsAndGroupsRunTheirCourse
  intro s
  refine ⟨fun p h => exec_seqWaitExpiry_gap, fun p => exec_seqWaitExpiry_none, fun id g hg hcompat hwin htarget => ?_⟩
  have hexec := exec_groupRepeat hg hcompat hwin htarget
  refine ⟨fun hsent hat hroom => ?_, fun hsent hat => ?_, fun hsent hout hsched => ?_⟩
  · rw [hexec, if_neg (Nat.not_le.2 hsent), if_neg (Nat.not_lt.2 hat), if_pos hroom]
  · rw [hexec, if_neg (Nat.not_le.2 hsent), if_pos hat]
  · rw [hexec, if_pos hsent, if_pos hout, hsched, if_neg Bool.false_ne_true]

/-! ### The TXN commands -/

section
variable {r : Req} {s : State} {code : Nat} {chk : Req → State → Option Fail}

/-- A transaction command that passes its checks is taken (R274). -/
theorem serveTxn_of_runs (h : Runs code chk r s) : serveTxn code chk s = takeTxn r (took r s) := by
  obtain ⟨hready, hcode, hchk⟩ := h
  unfold serveTxn
  rw [serve_of_runs (chk := fun _ _ => none) ⟨hready, hcode, rfl⟩]
  simp only [hchk]

theorem accept_txn (r : Req) (s : State) : (accept r s).txn = s.txn :=
  (keeps_accept r s (mk := 0x8000) rfl (Keeps.refl _ s)).get 15 rfl

theorem accept_lat (r : Req) (s : State) : (accept r s).lat = s.lat :=
  (keeps_accept r s (mk := 0x4000) rfl (Keeps.refl _ s)).get 14 rfl

theorem txnDeadline_accept (d cyc : Nat) (r : Req) (s : State) : txnDeadline d cyc (accept r s) = txnDeadline d cyc s := by
  unfold txnDeadline
  rw [accept_txn]

/-- Out of sequence order, a command enters issue order at once (R274). -/
theorem takeTxn_unordered (h : r.cseq = false) :
    takeTxn r s = issueReq r (cycOf s) (orderMode s == 1) (cycOf s + s.txn.retry.lead) (accept r s) := by
  unfold takeTxn
  simp only [h, Bool.not_false, if_true]

theorem exec_txnSend_issued (h : Runs 0x0601 chkTxnSend r s) (hseq : r.cseq = false) :
    exec .txnSend s = .next (startTxnIn (orderMode s == 1) .send (fld (r.w 3) 17 0) (some (r.origin true)) (bit (r.w 3) 31) (bit (r.w 3) 30)
      (sendOctets r) (txnTarget r (!bit (r.w 3) 31) (orderMode s == 1) (cycOf s + s.txn.retry.lead))
      (txnDeadline (fld (r.w 4) 31 16) (cycOf s) s) (accept r (took r s))) := by
  refine (congrArg Host.Outcome.next ((serveTxn_of_runs h).trans (takeTxn_unordered hseq))).trans ?_
  unfold issueReq
  rw [if_pos h.2.1.1, txnDeadline_accept]
  rfl

theorem exec_txnLevel_issued (h : Runs 0x0602 chkTxnLevel r s) (hseq : r.cseq = false) :
    exec .txnLevel s = .next (startTxnIn (orderMode s == 1) .level (fld (r.w 3) 17 0) (some (r.origin true)) false (bit (r.w 3) 31)
      (levelApp (fld (r.w 4) 31 16) (fld (r.w 4) 15 0)) (txnTarget r true (orderMode s == 1) (cycOf s + s.txn.retry.lead))
      (txnDeadline (fld (r.w 5) 31 16) (cycOf s) s) (accept r (took r s))) := by
  have hop : r.opcode = 0x0602 := h.2.1.1
  refine (congrArg Host.Outcome.next ((serveTxn_of_runs h).trans (takeTxn_unordered hseq))).trans ?_
  unfold issueReq
  rw [if_neg (by rw [hop]; decide), if_pos hop, txnDeadline_accept]
  rfl

theorem exec_txnGroupLevel_native (h : Runs 0x0603 chkTxnGroupLevel r s) (hseq : r.cseq = false) (horder : orderMode s ≠ 1) :
    ∃ t g, exec .txnGroupLevel s = .next t ∧ t.txn.groups = s.txn.groups ++ [g] ∧ g.id = s.txn.nextId ∧ g.group = fld (r.w 3) 11 0 ∧
      g.app = levelApp (fld (r.w 4) 31 16) (fld (r.w 4) 15 0) ∧ g.target = r.target ∧ g.sent = 0 ∧
      g.repeat_ = (if fld (r.w 5) 15 8 = 0 then s.txn.retry.repeat_ else fld (r.w 5) 15 8) := by
  have hop : r.opcode = 0x0603 := h.2.1.1
  have horder' : (orderMode (took r s) == 1) = false := beq_eq_false_iff_ne.2 horder
  have hissue := (serveTxn_of_runs h).trans (takeTxn_unordered hseq)
  unfold issueReq at hissue
  rw [if_neg (by rw [hop]; decide), if_neg (by rw [hop]; decide), horder'] at hissue
  unfold issueGroup newGroup at hissue
  simp only [Bool.false_eq_true, if_false, accept_txn] at hissue
  exact ⟨_, _, congrArg Host.Outcome.next hissue, rfl, rfl, rfl, rfl, rfl, rfl, rfl⟩

/-- A command ahead of its sequence number waits, with the ordering mode and the target of its take (R274, R276). -/
theorem serveTxn_waits (h : Runs code chk r s) (hseq : r.cseq = true) (hdist : seqDist r s ≠ 0) :
    ∃ t, serveTxn code chk s = t ∧ t.txn.seqHeld.get r.port = s.txn.seqHeld.get r.port ++
        [⟨r, cycOf s, orderMode s == 1, cycOf s + s.txn.retry.lead⟩] ∧
      t.txn.txns = s.txn.txns ∧ t.txn.groups = s.txn.groups := by
  have hdist' : seqDist r (took r s) ≠ 0 := hdist
  refine ⟨_, serveTxn_of_runs h, ?_⟩
  unfold takeTxn
  simp only [hseq, Bool.not_true, Bool.false_eq_true, if_false, hdist', get_upd_self, accept_txn]
  exact ⟨rfl, rfl, rfl⟩

/-- A new transaction is last, and is held exactly where an older control transaction of its endpoint has not ended (R275). -/
theorem startTxn_last (kind : TxnKind) (ep : Nat) (org : Option Origin) (query strict : Bool) (app : List Nat) (target : Option Nat)
    (deadline : Nat) (s : State) :
    ∃ x, (startTxn kind ep org query strict app target deadline s).txn.txns = s.txn.txns ++ [x] ∧ x.id = s.txn.nextId ∧ x.ep = ep ∧
      (x.st = .held ↔ x.control = true ∧ ∃ u ∈ s.txn.txns, u.ep = ep ∧ u.control = true ∧ u.id < s.txn.nextId) := by
  let t : Txn := ⟨s.txn.nextId, kind, ep, org, query, strict, app, target, deadline, orderMode s == 1, .queued, 0, 0, false, none, 0, 0⟩
  have hheld : heldBy s.txn.txns t = true ↔ t.control = true ∧ ∃ u ∈ s.txn.txns, u.ep = ep ∧ u.control = true ∧ u.id < s.txn.nextId := by
    simp [heldBy, t, and_assoc]
  refine ⟨if heldBy s.txn.txns t then { t with st := .held } else t, rfl, ?_, ?_, ?_⟩
  · split <;> rfl
  · split <;> rfl
  · split
    next h => exact ⟨fun _ => hheld.1 h, fun _ => rfl⟩
    next h => exact ⟨fun hst => absurd hst (show TxnSt.queued ≠ TxnSt.held by decide), fun hc => absurd (hheld.2 hc) h⟩

theorem exec_txnCancel_answers (h : Runs 0x0604 chkTxnCancel r s) : ∃ u n, exec .txnCancel s = .next (ok r [n] u) :=
  ⟨_, _, congrArg Host.Outcome.next (serve_of_runs h)⟩

theorem rollRates_txns (s : State) : (rollRates s).txn.txns = s.txn.txns ∧ (rollRates s).txn.peak = s.txn.peak := by
  unfold rollRates
  extract_lets w next
  split <;> exact ⟨rfl, rfl⟩

theorem exec_txnStatus_answers (h : Runs 0x0605 chkTxnStatus r s) : ∃ u ws, exec .txnStatus s = .next (ok r ws u) ∧ ws.length = 17 ∧
    ws.getD 0 0 = packW [(sat 16 s.txn.txns.length, 16), (sat 16 s.txn.peak, 0)] ∧ u.txn.txns = s.txn.txns := by
  obtain ⟨htxns, hpeak⟩ := rollRates_txns (took r s)
  refine ⟨rollRates (took r s), _, congrArg Host.Outcome.next (serve_of_runs h), rfl, ?_, htxns⟩
  rw [show s.txn.txns = (rollRates (took r s)).txn.txns from htxns.symm, show s.txn.peak = (rollRates (took r s)).txn.peak from hpeak.symm]
  rfl

end

/-- Settles O40: a clause each of the lemmas above. -/
theorem transactionCommandsAct : Obligations.TransactionCommandsAct := by
  unfold Obligations.TransactionCommandsAct
  intro r s
  exact ⟨exec_txnSend_issued, exec_txnLevel_issued, exec_txnGroupLevel_native, fun code chk _ h => serveTxn_waits h,
    fun kind ep org query strict app target deadline => startTxn_last kind ep org query strict app target deadline s,
    exec_txnCancel_answers, exec_txnStatus_answers⟩

end Sys2Proof.Proofs
end

section
/-! PROOFS. The LAT commands (O41). -/
namespace Sys2Proof.Proofs
open Sys2Proof Sys2Proof.Machine Sys2Proof.Laws

section
variable {r : Req} {s : State}

theorem ok_lat (r : Req) (ws : List Word) (s : State) : (ok r ws s).lat = s.lat :=
  (keeps_ok r ws s (mk := 0x4000) rfl (Keeps.refl _ s)).get 14 rfl

theorem acceptN_lat (r : Req) (s : State) : (acceptN r s).lat = s.lat :=
  (keeps_acceptN r s (mk := 0x4000) rfl (Keeps.refl _ s)).get 14 rfl

theorem acceptN_clk (r : Req) (s : State) : (acceptN r s).clk = s.clk :=
  (keeps_acceptN r s (mk := 2) rfl (Keeps.refl _ s)).get 1 rfl

theorem acceptN_tt (r : Req) (s : State) : (acceptN r s).tt = s.tt :=
  (keeps_acceptN r s (mk := 0x10) rfl (Keeps.refl _ s)).get 4 rfl

/-! ### Records -/

theorem exec_latAdd (h : Runs 0x0501 chkLatAdd r s) :
    exec (.latAdd true) s = .next (ok r [wd (addIndex r (took r s))] (applyLatAdd r (took r s))) ∧
      exec (.latAdd false) s = .next (failReq r ⟨13, stMedia, 0xFFFF, 0⟩ (took r s)) :=
  ⟨congrArg Host.Outcome.next (serve_of_runs (act := actLatAdd true) h), congrArg Host.Outcome.next (serve_of_runs (act := actLatAdd false) h)⟩

theorem exec_latRemove (h : Runs 0x0502 chkLatRemove r s) :
    exec (.latRemove true) s = .next (ok r [] (applyLatRemove r (took r s))) ∧
      exec (.latRemove false) s = .next (failReq r ⟨13, stMedia, 0xFFFF, 0⟩ (took r s)) :=
  ⟨congrArg Host.Outcome.next (serve_of_runs (act := durable true applyLatRemove) h),
    congrArg Host.Outcome.next (serve_of_runs (act := durable false applyLatRemove) h)⟩

/-- What a change of slots or owners does besides leaves the records (R289, R294). -/
theorem ownersTold_lat (ep : Nat) (x : EpRec) (old new : Nat) (s : State) :
    (evalAuto 0 (ownerChange 3 ep r old new (slotsChanged ep x s))).lat = s.lat :=
  (keeps_evalAuto 0 _ (mk := 0x4000) (s0 := s) rfl (keeps_ownerChange 3 ep r old new _ rfl
    (keeps_slotsChanged ep x s rfl (Keeps.refl _ s)))).get 14 rfl

theorem openLink_lat (ep : Nat) (s : State) : (openLink ep s).lat = s.lat :=
  (keeps_openLink ep s (mk := 0x4000) rfl (Keeps.refl _ s)).get 14 rfl

/-- LAT.UPDATE leaves the record as the request changes it (R252). -/
theorem epOf_applyLatUpdate {x : EpRec} (hx : epOf s (fld (r.w 3) 17 0) = some x) :
    epOf (applyLatUpdate r s) (fld (r.w 3) 17 0) = some (updatedRec r x) := by
  unfold applyLatUpdate
  simp only [hx]
  unfold epOf
  rw [ownersTold_lat]
  split
  · rw [openLink_lat]
    exact epOf_updEp _ hx
  · exact epOf_updEp _ hx

theorem exec_latUpdate {x : EpRec} (h : Runs 0x0504 chkLatUpdate r s) (hx : epOf s (fld (r.w 3) 17 0) = some x) :
    (∃ t y, exec (.latUpdate true) s = .next t ∧ epOf t (fld (r.w 3) 17 0) = some y ∧ y.groups = (updatedRec r x).groups ∧
      y.owner = (updatedRec r x).owner ∧ y.feeder = (updatedRec r x).feeder) ∧
    exec (.latUpdate false) s = .next (failReq r ⟨13, stMedia, 0xFFFF, 0⟩ (took r s)) := by
  refine ⟨⟨ok r [] (applyLatUpdate r (took r s)), updatedRec r x, congrArg Host.Outcome.next (serve_of_runs (act := durable true applyLatUpdate) h),
    ?_, rfl, rfl, rfl⟩, congrArg Host.Outcome.next (serve_of_runs (act := durable false applyLatUpdate) h)⟩
  unfold epOf
  rw [ok_lat]
  exact epOf_applyLatUpdate (s := took r s) hx

theorem exec_latRead {x : EpRec} (h : Runs 0x0503 chkLatRead r s) (hx : epOf s (fld (r.w 3) 17 0) = some x) :
    exec .latRead s = .next (ok r (recWordsOf x (portSecure s r.port)) (took r s)) := by
  refine (congrArg Host.Outcome.next (serve_of_runs h)).trans ?_
  unfold actLatRead
  simp only [show epOf (took r s) (fld (r.w 3) 17 0) = some x from hx]
  rfl

theorem exec_latFind {ep : Nat} {x : EpRec} (h : Runs 0x0505 chkLatFind r s) (hx : findEp r s = some (ep, x)) :
    exec .latFind s = .next (ok r [packW [(epCode x.st, 29), (ep, 0)], hi32 x.eui, lo32 x.eui, packW [(x.engine, 26), (x.short, 0)],
      packW [(x.owner, 24), (x.cls, 16)]] (took r s)) := by
  refine (congrArg Host.Outcome.next (serve_of_runs h)).trans ?_
  unfold actLatFind
  simp only [show findEp r (took r s) = some (ep, x) from hx]

theorem length_routeWords (p : Option Route) : (routeWords p).length = 16 := by
  cases p <;> rfl

theorem exec_latRouteRead (h : Runs 0x0508 chkLatRouteRead r s) : ∃ ws, exec .latRouteRead s = .next (ok r ws (took r s)) ∧ ws.length = 37 ∧
    (bit (r.w 3) 31 = true → (ws.drop 5).take 16 = routeWords (routeOf s (fld (r.w 3) 15 0))) := by
  refine ⟨_, congrArg Host.Outcome.next (serve_of_runs h), ?_, fun hroute => ?_⟩
  · rw [List.length_append, List.length_append, length_routeWords, length_routeWords]
    rfl
  · rw [List.append_assoc, List.drop_append_of_le_length (by exact Nat.le_refl 5)]
    rw [show (if bit (r.w 3) 31 then fld (r.w 3) 15 0 else _) = fld (r.w 3) 15 0 from if_pos hroute]
    exact List.take_left' (length_routeWords _)

/-! ### The join policy and link keys -/

theorem exec_latJoinPolicy (h : Runs 0x0506 chkLatJoinPolicy r s) : ∃ t, exec .latJoinPolicy s = .next t ∧ t.lat.policy.permit = fld (r.w 3) 31 30 ∧
    t.lat.policy.classes = fld (r.w 6) 15 0 ∧
    (fld (r.w 3) 15 0 ≠ 0 → t.lat.permitEnd = some (s.clk.ticks + fld (r.w 3) 15 0 * 40000000)) ∧ t.lat.recs = s.lat.recs := by
  refine ⟨_, congrArg Host.Outcome.next (serve_of_runs h), ?_⟩
  unfold actLatJoinPolicy
  rw [ok_lat]
  exact ⟨rfl, rfl, fun hd => if_pos hd, rfl⟩

theorem exec_latKeyLoad_alone (h : Runs 0x0507 chkLatKeyLoad r s) (hw : fld (r.w 4) 31 16 = 0) (hroom : tlRoom s.tl 0x07 1 = true) :
    exec .latKeyLoad s = .next (tlPut (nextBoundary s) 3 0x07 (.linkKeyLoad r) true (took r s)) := by
  refine (congrArg Host.Outcome.next (serve_of_runs h)).trans ?_
  unfold actLatKeyLoad
  rw [hw]
  exact congrArg Host.Outcome.next (if_neg (by rw [Bool.not_eq_true', Bool.not_eq_false]; exact hroom))

theorem exec_latKeyLoad_overlap (h : Runs 0x0507 chkLatKeyLoad r s) (hw : 0 < fld (r.w 4) 31 16) (hroom : tlRoom s.tl 0x07 2 = true) :
    exec .latKeyLoad s = .next (tlPut (nextBoundary s) 4 0x07 (.linkKeyEnd (fld (r.w 3) 17 0)) false
      (tlPut (nextBoundary s) 3 0x07 (.linkKeyLoad r) true (took r s))) := by
  refine (congrArg Host.Outcome.next (serve_of_runs h)).trans ?_
  unfold actLatKeyLoad
  simp only [decide_eq_true hw]
  exact congrArg Host.Outcome.next (if_neg (by rw [Bool.not_eq_true', Bool.not_eq_false]; exact hroom))

/-! ### Images and checkpoints -/

theorem exec_latImageLoad {i : Image} (h : Runs 0x0509 chkLatImageLoad r s) (hi : imgLoaded r s = some i) (hlast : bit (r.w 4) 30 = false) :
    ∃ t j, exec .latImageLoad s = .next t ∧ tget t.lat.images (fld (r.w 3) 31 26) = some j ∧ j.words = i.words ++ r.words.drop 5 ∧
      j.ok = i.ok := by
  have hact := serve_of_runs (act := actLatImageLoad) h
  unfold actLatImageLoad at hact
  simp only [show imgLoaded r (took r s) = some i from hi, hlast, Bool.not_false, if_true] at hact
  refine ⟨_, { i with words := i.words ++ r.words.drop 5 }, congrArg Host.Outcome.next hact, ?_, rfl, rfl⟩
  rw [ok_lat]
  exact tget_tset_self _ _ _

theorem exec_latImageSend {i : Image} (h : Runs 0x050A chkLatImageSend r s) (hi : tget s.lat.images (fld (r.w 3) 31 26) = some i) :
    ∃ t x, exec .latImageSend s = .next t ∧ t.lat.sends = s.lat.sends ++ [x] ∧ x.slot = fld (r.w 3) 31 26 ∧ x.phase = .announce ∧
      x.targets = imgTargets s (fld (r.w 4) 11 0) i.words := by
  have hact := serve_of_runs (act := actLatImageSend) h
  unfold actLatImageSend at hact
  simp only [show tget (took r s).lat.images (fld (r.w 3) 31 26) = some i from hi] at hact
  exact ⟨_, _, congrArg Host.Outcome.next hact, congrArg Lattice.sends (acceptN_lat ..), rfl, rfl, rfl⟩

theorem exec_latCheckpoint (h : Runs 0x050B chkLatCheckpoint r s) : ∃ t, exec .latCheckpoint s = .next t ∧
    t.lat.ckpt = some ⟨some r.origin, s.clk.ticks, cycOf s, s.lat.recs⟩ := by
  refine ⟨_, congrArg Host.Outcome.next (serve_of_runs h), ?_⟩
  unfold actLatCheckpoint startCkpt cycOf
  rw [acceptN_lat, acceptN_clk, acceptN_tt]
  rfl

end

/-- Settles O41: a clause each of the lemmas above. -/
theorem latticeCommandsAnswer : Obligations.LatticeCommandsAnswer := by
  unfold Obligations.LatticeCommandsAnswer
  intro r s
  exact ⟨exec_latAdd, exec_latRemove, fun x => exec_latUpdate, fun x => exec_latRead, fun ep x => exec_latFind, exec_latRouteRead,
    exec_latJoinPolicy, exec_latKeyLoad_alone, exec_latKeyLoad_overlap, fun i => exec_latImageLoad, fun i => exec_latImageSend, exec_latCheckpoint⟩

end Sys2Proof.Proofs
end

section
/-! PROOFS. Tables in their canonical form, and removals that a reset cut short (R258, for O42). -/
namespace Sys2Proof.Proofs
open Sys2Proof Sys2Proof.Machine Sys2Proof.Laws

/-! ### Tables in their canonical form -/

section
variable {α : Type} {t : Tbl α} {k j : Nat} {v : α}

/-- The keys of a canonical table rise from any entry to any later one. -/
theorem rising_iff_pairwise (t : Tbl α) : Tbl.rising t = true ↔ t.Pairwise fun a b => a.1 < b.1 := by
  induction t with
  | nil => simp [Tbl.rising]
  | cons x t ih =>
    rw [rising_cons, List.pairwise_cons, ih]
    refine and_congr_left fun hp => ?_
    cases t with
    | nil => simp
    | cons y t =>
      have htail := (List.pairwise_cons.1 hp).1
      constructor
      · intro h z hz
        have hxy : x.1 < y.1 := h y rfl
        rcases List.mem_cons.1 hz with rfl | hz
        · exact hxy
        · exact Nat.lt_trans hxy (htail z hz)
      · intro h z hz
        exact h z (List.mem_of_mem_head? hz)

theorem tget_of_below (h : ∀ y ∈ t, k < y.1) : tget t k = none := by
  cases t with
  | nil => rfl
  | cons x t =>
    have hx : k < x.1 := h x (List.mem_cons_self ..)
    unfold tget
    rw [if_neg (by omega), if_pos hx]

theorem tget_of_mem (ht : Tbl.rising t = true) (h : (k, v) ∈ t) : tget t k = some v := by
  rw [rising_iff_pairwise] at ht
  induction t with
  | nil => cases h
  | cons x t ih =>
    obtain ⟨hhead, htail⟩ := List.pairwise_cons.1 ht
    unfold tget
    rcases List.mem_cons.1 h with rfl | h
    · exact if_pos rfl
    · have : x.1 < k := hhead _ h
      rw [if_neg (by omega), if_neg (by omega), ih htail h]

theorem sublist_tdel (t : Tbl α) (k : Nat) : (tdel t k).Sublist t := by
  induction t with
  | nil => exact .refl _
  | cons x t ih =>
    unfold tdel
    split
    · exact List.sublist_cons_self ..
    · exact ih.cons_cons x

theorem rising_tdel (ht : Tbl.rising t = true) (k : Nat) : Tbl.rising (tdel t k) = true := by
  rw [rising_iff_pairwise] at *
  exact ht.sublist (sublist_tdel t k)

theorem tget_tdel_self (ht : Tbl.rising t = true) (k : Nat) : tget (tdel t k) k = none := by
  rw [rising_iff_pairwise] at ht
  induction t with
  | nil => rfl
  | cons x t ih =>
    obtain ⟨hhead, htail⟩ := List.pairwise_cons.1 ht
    unfold tdel
    split
    next hk => exact tget_of_below fun y hy => hk ▸ hhead y hy
    next hk =>
      unfold tget
      rw [if_neg hk, ih htail]
      split <;> rfl

theorem tget_tdel_ne (ht : Tbl.rising t = true) (h : j ≠ k) : tget (tdel t k) j = tget t j := by
  rw [rising_iff_pairwise] at ht
  induction t with
  | nil => rfl
  | cons x t ih =>
    obtain ⟨hhead, htail⟩ := List.pairwise_cons.1 ht
    simp only [tdel]
    split
    next hk =>
      simp only [tget]
      rw [if_neg (by omega)]
      split
      next hj => exact tget_of_below fun y hy => by have := hhead y hy; omega
      next => rfl
    next hk =>
      simp only [tget]
      rw [ih htail]

end

/-! ### Removals -/

/-- The records are in canonical form, and those being removed are of the endpoints listed. -/
def RemovingIn (l : List Nat) (s : State) : Prop :=
  Tbl.rising s.lat.recs = true ∧ ∀ ep r, epOf s ep = some r → r.st = .removing → ep ∈ l

namespace RemovingIn

variable {l : List Nat} {s t : State}

theorem of_recs (h : RemovingIn l s) (hrecs : t.lat.recs = s.lat.recs) : RemovingIn l t := by
  unfold RemovingIn epOf at *
  rw [hrecs]
  exact h

theorem of_lat (h : RemovingIn l s) (hlat : t.lat = s.lat) : RemovingIn l t := h.of_recs (congrArg Lattice.recs hlat)

/-- A change of a record that does not start a removal. -/
theorem updEp (h : RemovingIn l s) (ep : Nat) {f : EpRec → EpRec} (hf : ∀ r, (f r).st ≠ .removing) : RemovingIn l (updEp ep f s) := by
  unfold Machine.updEp
  split
  next => exact h
  next r hr =>
    refine ⟨rising_tset _ _ _ h.1, fun e x hx hst => ?_⟩
    unfold epOf at hx
    by_cases he : e = ep
    · rw [he, tget_tset_self] at hx
      exact absurd (Option.some.inj hx ▸ hst) (hf r)
    · rw [tget_tset_ne _ _ he] at hx
      exact h.2 e x hx hst

theorem updRoute (h : RemovingIn l s) (id : Nat) (f : Route → Route) : RemovingIn l (updRoute id f s) := by
  unfold Machine.updRoute
  split
  · exact h
  · exact h.of_recs rfl

theorem notifyOwners (h : RemovingIn l s) (owner code : Nat) (ws : List Word) : RemovingIn l (notifyOwners owner code ws s) :=
  h.of_lat ((keeps_notifyOwners owner code ws s (mk := 0x4000) (s0 := s) rfl (Keeps.refl _ s)).get 14 rfl)

theorem logNs (h : RemovingIn l s) (code inst : Nat) (content : List Nat) : RemovingIn l (logNs code inst content s) := h.of_lat rfl

/-- A route that breaks orphans endpoints, and removes none (R267). -/
theorem breakRoute (h : RemovingIn l s) (id : Nat) : RemovingIn l (breakRoute id s) := by
  unfold Machine.breakRoute
  extract_lets us orphaned s1 s2
  refine RemovingIn.logNs ?_ ..
  refine List.foldlRecOn orphaned _ (motive := RemovingIn l) (h.updRoute id _) fun t ht e _ => ?_
  split
  · exact (ht.updEp e fun _ => show EpSt.orphan ≠ EpSt.removing by decide).notifyOwners ..
  · exact ht

/-- The record of an endpoint dropped. -/
theorem dropEp {ep : Nat} (h : RemovingIn (ep :: l) s) : RemovingIn l (dropEp ep s) := by
  unfold Machine.dropEp
  split
  next hnone =>
    refine ⟨h.1, fun e r hr hst => ?_⟩
    rcases List.mem_cons.1 (h.2 e r hr hst) with rfl | hmem
    · rw [hnone] at hr
      cases hr
    · exact hmem
  next r hr =>
    extract_lets broken s1 s2 lx ll lm s3
    have h1 : s1.lat = s.lat :=
      (keeps_dropFromCorridors ep _ (mk := 0x4000) (s0 := s) rfl (keeps_closeLink ep s rfl (Keeps.refl _ s))).get 14 rfl
    have h3 : RemovingIn l s3 := by
      have hrecs : s3.lat.recs = tdel s.lat.recs ep := congrArg (fun x : Lattice => tdel x.recs ep) h1
      unfold RemovingIn epOf
      rw [hrecs]
      refine ⟨rising_tdel h.1 ep, fun e x hx hst => ?_⟩
      have he : e ≠ ep := fun he => by
        rw [he, tget_tdel_self h.1] at hx
        cases hx
      rw [tget_tdel_ne h.1 he] at hx
      exact (List.mem_cons.1 (h.2 e x hx hst)).resolve_left he
    refine RemovingIn.of_recs ?_ rfl
    exact List.foldlRecOn broken _ (motive := RemovingIn l) h3 fun t ht id _ => ht.breakRoute id

end RemovingIn

/-- The removals of a list of endpoints completed (R258). -/
theorem removals_completed (l : List (Nat × EpRec)) {s : State} (h : RemovingIn (l.map Prod.fst) s) :
    RemovingIn [] (l.foldl (fun s x => logNs evEpRemoved 0xFF [x.1, 0xFF, 0] (dropEp x.1 s)) s) := by
  induction l generalizing s with
  | nil => exact h
  | cons x l ih => exact ih (h.dropEp.logNs ..)

theorem epOf_mem {s : State} {ep : Nat} {r : EpRec} (h : epOf s ep = some r) : (ep, r) ∈ s.lat.recs := by
  unfold epOf at h
  revert h
  induction s.lat.recs with
  | nil => exact fun h => nomatch h
  | cons x t ih =>
    unfold tget
    split
    next hk => exact fun h => by rw [← hk, ← Option.some.inj h]; exact List.mem_cons_self ..
    split
    · exact fun h => nomatch h
    · exact fun h => List.mem_cons_of_mem _ (ih h)

theorem endRemovals_completes {s : State} (h : Tbl.rising s.lat.recs = true) : ∀ x ∈ (endRemovals s).lat.recs, x.2.st ≠ .removing := by
  have hstart : RemovingIn ((s.lat.recs.filter fun x => x.2.st == .removing).map Prod.fst) s :=
    ⟨h, fun ep r hr hst => List.mem_map.2 ⟨(ep, r), List.mem_filter.2 ⟨epOf_mem hr, by simp [hst]⟩, rfl⟩⟩
  obtain ⟨hrising, hnone⟩ := removals_completed _ hstart
  exact fun x hx hst => by simpa using hnone x.1 x.2 (tget_of_mem hrising hx) hst

end Sys2Proof.Proofs
end

section
/-! PROOFS. Link keys, checkpoints, the journal, counters and images (O42). -/
namespace Sys2Proof.Proofs
open Sys2Proof Sys2Proof.Machine Sys2Proof.Laws

section
variable {s : State}

/-! ### Link keys -/

/-- The state in which the entry of a link key acts: its own entry and the end reserved for it taken out (R259). -/
def keyEntry (e : TlEntry) (ep : Nat) (s : State) : State :=
  { tlRemove e.seq s with tl := { (tlRemove e.seq s).tl with
    entries := (tlRemove e.seq s).tl.entries.filter fun e => !(isLinkEnd ep e.kind && !e.active) } }

theorem keyEntry_lat (e : TlEntry) (ep : Nat) (s : State) : (keyEntry e ep s).lat = s.lat := rfl

theorem exec_linkKeyLoadApply {e : TlEntry} {r : Req} (media : Bool) (hdue : Due e s) (hkind : e.kind = .linkKeyLoad r) :
    exec (.linkKeyLoadApply media) s = .next
      (if (epOf s (fld (r.w 3) 17 0)).isNone then failReq r ⟨10, stNoEndpoint, 3, 0⟩ (keyEntry e (fld (r.w 3) 17 0) s)
       else if !media then failReq r ⟨13, stMedia, 0xFFFF, 0⟩ (keyEntry e (fld (r.w 3) 17 0) s)
       else ok r [] (applyLatKeyLoad r (keyEntry e (fld (r.w 3) 17 0) s))) :=
  congrArg Host.Outcome.next ((tlFire_of_due hdue (by rw [hkind])).trans rfl)

/-- A record once a link key has been loaded (R259). -/
def loadedRec (r : Req) (s : State) (x : EpRec) : EpRec :=
  match x.keyCur with
  | none => { x with
      keyCur := some (storedKey r s)
      inCur := 0
      outCtr := 0
      kekSlot := fld (r.w 3) 31 22 }
  | some old => { x with
      keyPrev := if fld (r.w 4) 31 16 = 0 then none else some old
      inPrev := if fld (r.w 4) 31 16 = 0 then 0 else x.inCur
      prevValid := decide (0 < fld (r.w 4) 31 16)
      overlapEnd := cycOf s + fld (r.w 4) 31 16
      keyCur := some (storedKey r s)
      inCur := 0
      outCtr := 0
      kekSlot := fld (r.w 3) 31 22 }

theorem loadedRec_fresh (r : Req) (s : State) (x : EpRec) :
    (loadedRec r s x).outCtr = 0 ∧ (loadedRec r s x).inCur = 0 ∧ (loadedRec r s x).keyCur ≠ none := by
  unfold loadedRec
  split <;> exact ⟨rfl, rfl, Option.some_ne_none _⟩

theorem loadedRec_overlap {r : Req} {x : EpRec} (s : State) (hw : 0 < fld (r.w 4) 31 16) (hkey : x.keyCur ≠ none) :
    (loadedRec r s x).keyPrev = x.keyCur ∧ (loadedRec r s x).prevValid = true ∧ (loadedRec r s x).inPrev = x.inCur := by
  unfold loadedRec
  split
  next h => exact absurd h hkey
  next old h => exact ⟨(if_neg (by omega)).trans h.symm, decide_eq_true hw, if_neg (by omega)⟩

/-- What follows the new record in the loading of a link key: its end, its ceiling, its replay counters and its page (R259). -/
def storeLoaded (r : Req) (fin : Nat) (y : EpRec) (s0 : State) : State :=
  let ep := fld (r.w 3) 17 0
  let s1 := updEp ep (fun _ => y) s0
  let s2 := if y.prevValid then tlPut (fin * 4096) 4 0x07 (.linkKeyEnd ep) true s1 else s1
  let s3 := updMd y.engine (fun m => { m with cache := m.cache.filter fun c => c.ep != ep })
    { s2 with lat := { s2.lat with ctr := { s2.lat.ctr with
      ceilings := tset s2.lat.ctr.ceilings ep 4096
      pend := tdel s2.lat.ctr.pend ep } } }
  logNs evLinkKeyLoaded r.port.val [ep, r.port.val, fld (r.w 4) 31 16] (writeRec ep (resetIn ep y.inCur y.inPrev s3))

theorem storeLoaded_recs (r : Req) (fin : Nat) (y : EpRec) (s0 : State) :
    (storeLoaded r fin y s0).lat.recs = (updEp (fld (r.w 3) 17 0) (fun _ => y) s0).lat.recs := by
  unfold storeLoaded
  dsimp only
  split <;> rfl

theorem applyLatKeyLoad_of_some {r : Req} {x : EpRec} (hx : epOf s (fld (r.w 3) 17 0) = some x) :
    applyLatKeyLoad r s = storeLoaded r (cycOf s + fld (r.w 4) 31 16) (loadedRec r s x) (tlCancel (isLinkEnd (fld (r.w 3) 17 0)) s) := by
  unfold applyLatKeyLoad loadedRec
  simp only [show epOf (tlCancel (isLinkEnd (fld (r.w 3) 17 0)) s) (fld (r.w 3) 17 0) = some x from hx]
  cases x.keyCur <;> rfl

theorem epOf_applyLatKeyLoad {r : Req} {x : EpRec} (hx : epOf s (fld (r.w 3) 17 0) = some x) :
    epOf (applyLatKeyLoad r s) (fld (r.w 3) 17 0) = some (loadedRec r s x) := by
  rw [applyLatKeyLoad_of_some hx, epOf, storeLoaded_recs]
  exact epOf_updEp (s := tlCancel (isLinkEnd (fld (r.w 3) 17 0)) s) _ hx

theorem exec_linkKeyLoadApply_record {e : TlEntry} {r : Req} {x : EpRec} (hdue : Due e s) (hkind : e.kind = .linkKeyLoad r)
    (hx : epOf s (fld (r.w 3) 17 0) = some x) :
    (∃ u, exec (.linkKeyLoadApply false) s = .next (failReq r ⟨13, stMedia, 0xFFFF, 0⟩ u) ∧ u.lat = s.lat) ∧
    (∃ u y, exec (.linkKeyLoadApply true) s = .next (ok r [] u) ∧ epOf u (fld (r.w 3) 17 0) = some y ∧ y.outCtr = 0 ∧ y.inCur = 0 ∧
      y.keyCur ≠ none ∧ (0 < fld (r.w 4) 31 16 → x.keyCur ≠ none → y.keyPrev = x.keyCur ∧ y.prevValid = true ∧ y.inPrev = x.inCur)) := by
  have hsome : ¬ (epOf s (fld (r.w 3) 17 0)).isNone = true := by rw [hx]; exact Bool.false_ne_true
  obtain ⟨hout, hin, hkey⟩ := loadedRec_fresh r (keyEntry e (fld (r.w 3) 17 0) s) x
  refine ⟨⟨_, (exec_linkKeyLoadApply false hdue hkind).trans (congrArg Host.Outcome.next (if_neg hsome)), rfl⟩, ?_⟩
  refine ⟨_, _, (exec_linkKeyLoadApply true hdue hkind).trans (congrArg Host.Outcome.next (if_neg hsome)),
    epOf_applyLatKeyLoad (s := keyEntry e (fld (r.w 3) 17 0) s) hx, hout, hin, hkey, fun hw hold => loadedRec_overlap _ hw hold⟩

/-- The previous key and its counter dropped at the end of the overlap (R259). -/
def dropOldKey (ep : Nat) (s : State) : State :=
  writeRec ep (resetIn ep (match epOf s ep with | some x => x.inCur | none => 0) 0
    (updEp ep (fun x => { x with keyPrev := none, inPrev := 0, prevValid := false }) s))

theorem exec_linkKeyOverlapEnd_drops {e : TlEntry} {ep : Nat} {x : EpRec} (hdue : Due e s) (hkind : e.kind = .linkKeyEnd ep)
    (hx : epOf s ep = some x) : ∃ t y, exec .linkKeyOverlapEnd s = .next t ∧ epOf t ep = some y ∧ y.keyPrev = none ∧ y.prevValid = false ∧
      y.keyCur = x.keyCur ∧ y.inCur = x.inCur := by
  have hexec : exec .linkKeyOverlapEnd s = .next (dropOldKey ep (tlRemove e.seq s)) :=
    congrArg Host.Outcome.next ((tlFire_of_due hdue (by rw [hkind]; rfl)).trans rfl)
  exact ⟨_, _, hexec, epOf_updEp (s := tlRemove e.seq s) (fun x => { x with keyPrev := none, inPrev := 0, prevValid := false }) hx,
    rfl, rfl, rfl, rfl⟩

/-! ### Checkpoints and the journal -/

theorem exec_backgroundCheckpoint_starts (hnone : s.lat.ckpt = none) (hserved : served s = true)
    (hdue : s.lat.ckptTick + s.lat.policy.ckptH * 3600 * 40000000 ≤ s.clk.ticks) :
    ∃ t, exec .backgroundCheckpoint s = .next t ∧ t.lat.ckpt = some ⟨none, s.clk.ticks, cycOf s, s.lat.recs⟩ :=
  ⟨startCkpt none { s with lat := { s.lat with ckptTick := s.clk.ticks } },
    congrArg Host.Outcome.next (if_pos (by rw [hnone, hserved, decide_eq_true hdue]; rfl)), rfl⟩

theorem exec_backgroundCheckpoint_early (h : s.clk.ticks < s.lat.ckptTick + s.lat.policy.ckptH * 3600 * 40000000) :
    exec .backgroundCheckpoint s = .next s :=
  congrArg Host.Outcome.next (if_neg (by rw [decide_eq_false (Nat.not_le.2 h), Bool.and_false]; exact Bool.false_ne_true))

theorem exec_checkpointComplete_asked {c : Ckpt} {o : Origin} (hc : s.lat.ckpt = some c) (ho : c.org = some o) :
    (∃ u, exec (.checkpointComplete true) s = .next (complete o stOk [wd c.snap.length, wd c.cyc, wd ((s.clk.ticks - c.start) / 40000)] u) ∧
      u.lat.nand = s.lat.nand.map (fun x => (x.1, match tget c.snap x.1 with | some v => withVolatile x.2 v | none => x.2)) ∧
      u.lat.ckpt = none) ∧
    ∃ u, exec (.checkpointComplete false) s = .next (completeFail o ⟨13, stMedia, 0xFFFF, 0⟩ u) ∧ u.lat.nand = s.lat.nand := by
  constructor
  · refine ⟨logNs evLatCheckpoint 0xFF [c.snap.length, (s.clk.ticks - c.start) / 40000]
      (writeVolatile c.snap { s with lat := { s.lat with ckpt := none } }), ?_, rfl, rfl⟩
    unfold exec execCheckpointComplete
    simp only [hc, ho, Bool.not_true, Bool.false_eq_true, if_false]
  · refine ⟨{ s with lat := { s.lat with ckpt := none } }, ?_, rfl⟩
    unfold exec execCheckpointComplete
    simp only [hc, ho, Bool.not_false, if_true]

theorem writeJournal_pages (h : s.lat.ctr.openPage ≠ []) : (writeJournal s).lat.ctr.openPage = [] ∧
    (s.lat.ctr.pages.length < 255 → (writeJournal s).lat.ctr.pages = s.lat.ctr.pages ++ [s.lat.ctr.openPage]) := by
  have hne : s.lat.ctr.openPage.isEmpty = false := by simpa using h
  unfold writeJournal
  simp only [hne, Bool.false_eq_true, if_false, List.length_append, List.length_singleton, true_and, decide_eq_true_eq]
  exact fun hlen => if_neg (by omega)

theorem exec_journalPageWrite_writes (hopen : s.lat.ctr.openPage ≠ [])
    (hdue : pageEntries ≤ s.lat.ctr.openPage.length ∨ s.lat.ctr.openCyc + 64 ≤ cycOf s) :
    ∃ t, exec .journalPageWrite s = .next t ∧ t.lat.ctr.openPage = [] ∧
      (s.lat.ctr.pages.length < 255 → t.lat.ctr.pages = s.lat.ctr.pages ++ [s.lat.ctr.openPage]) := by
  have hguard : (decide (pageEntries ≤ s.lat.ctr.openPage.length) ||
      (!s.lat.ctr.openPage.isEmpty && decide (s.lat.ctr.openCyc + 64 ≤ cycOf s))) = true := by
    rcases hdue with h | h <;> simp [h, hopen]
  exact ⟨confirmCeilings (writeJournal s), congrArg (fun t => Host.Outcome.next (confirmCeilings t)) (if_pos hguard), writeJournal_pages hopen⟩

/-! ### Counters -/

theorem updEp_ctr (ep : Nat) (f : EpRec → EpRec) (s : State) : (updEp ep f s).lat.ctr = s.lat.ctr := by
  unfold updEp
  split <;> rfl

theorem takeOut_ceiling {ep : Nat} {x : EpRec} (hx : epOf s ep = some x) (hnear : ceilingOf s ep ≤ x.outCtr + 1025)
    (hpend : tget s.lat.ctr.pend ep = none) :
    tget (takeOut ep s).lat.ctr.pend ep = some (ceilingOf s ep + 4096) ∧ ceilingOf (takeOut ep s) ep = ceilingOf s ep := by
  have hguard : ceilingOf s ep ≤ x.outCtr + 1025 ∧ (tget s.lat.ctr.pend ep).isNone = true := ⟨hnear, by rw [hpend]; rfl⟩
  unfold ceilingOf at hguard ⊢
  unfold takeOut ceilingOf
  simp only [hx, updEp_ctr]
  rw [if_pos hguard]
  exact ⟨tget_tset_self _ _ _, rfl⟩

theorem writeJournal_ctr (s : State) : (writeJournal s).lat.ctr.pend = s.lat.ctr.pend ∧ (writeJournal s).lat.ctr.ceilings = s.lat.ctr.ceilings := by
  unfold writeJournal
  dsimp only
  split <;> exact ⟨rfl, rfl⟩

theorem exec_journalPageWrite_confirms {ep c : Nat} (hpend : s.lat.ctr.pend = [(ep, c)]) :
    ∃ t, exec .journalPageWrite s = .next t ∧ t.lat.ctr.pend = [] ∧ ceilingOf t ep = c := by
  have hceil (u : State) (hu : u.lat.ctr.pend = [(ep, c)]) : ceilingOf (confirmCeilings u) ep = c := by
    unfold ceilingOf confirmCeilings
    simp only [hu, List.foldl_cons, List.foldl_nil, tget_tset_self]
    rfl
  refine ⟨_, rfl, rfl, hceil _ ?_⟩
  split
  · exact (writeJournal_ctr s).1.trans hpend
  · exact hpend

theorem exec_latCompact_compacts (hwin : s.upd.windowOpen = false) (h : ∃ a ∈ s.bal.running, a.act = 8) :
    ∃ t, exec .latCompact s = .next t ∧ t.lat.superseded = 0 ∧ OnlyChanges [.lat, .bal] s t := by
  have hany : (s.bal.running.any fun a => a.act == 8) = true := by
    obtain ⟨a, ha, hact⟩ := h
    exact List.any_eq_true.2 ⟨a, ha, by simp [hact]⟩
  have hexec : exec .latCompact s = .next (stopAct 8 0xFF { s with lat := { s.lat with superseded := 0 } }) :=
    congrArg Host.Outcome.next (if_pos (by rw [hwin, hany]; rfl))
  exact ⟨_, hexec, rfl, only_of_keeps (keeps_execLatCompact s _ hexec) (by decide)⟩

/-! ### Joining time and images -/

theorem exec_joinPermitExpiry_ends {c : Nat} (hc : s.lat.permitEnd = some c) (hdue : c ≤ s.clk.ticks) :
    ∃ t, exec .joinPermitExpiry s = .next t ∧ t.lat.policy.permit = 2 ∧ t.lat.permitEnd = none := by
  refine ⟨{ s with lat := { s.lat with permitEnd := none, policy := { s.lat.policy with permit := 2 } } }, ?_, rfl, rfl⟩
  unfold exec execJoinPermitExpiry
  simp only [hc, hdue, if_true]

theorem exec_joinPermitExpiry_early {c : Nat} (hc : s.lat.permitEnd = some c) (hdue : s.clk.ticks < c) : exec .joinPermitExpiry s = .next s := by
  unfold exec execJoinPermitExpiry
  simp only [hc, Nat.not_le.2 hdue, if_false]

section
variable {id : Nat} {x : ImgSend} {i : Image}

theorem exec_imagePhase_steps (hx : s.lat.sends.find? (fun x => x.org.id == id) = some x) (hi : tget s.lat.images x.slot = some i)
    (hwin : s.upd.windowOpen = false) (hbusy : imgBusy s x = false) : exec (.imagePhase id) s = .next (imgStep x i s) := by
  unfold exec execImagePhase
  simp only [hx, hi, hwin, hbusy, Bool.or_false, Bool.false_eq_true, if_false]

theorem imgStep_announce (h : x.phase = .announce) : imgStep x i s = updSend x.org.id (fun x => { x with phase := .blocks 0 })
    (stageImage x true none ([0x20] ++ oct16 (imgVersion i.words) ++ oct16 x.block ++ oct16 (imgBlocks x i) ++ [imgClass i.words] ++
      oct16 (imgHw i.words)) s) := by
  unfold imgStep
  simp only [h]

theorem imgStep_block {b : Nat} (h : x.phase = .blocks b) (hb : b < imgBlocks x i) : imgStep x i s = updSend x.org.id
    (fun x => { x with phase := .blocks (b + 1), sent := x.sent + 1 }) (stageImage x false none ([0x21] ++ oct16 b ++ blockData x i b) s) := by
  unfold imgStep
  simp only [h, Nat.not_le.2 hb, if_false]

theorem imgStep_done (h : x.phase = .done) : ∃ u, imgStep x i s = complete x.org stOk (imgWords x) u ∧
    u.lat.sends = s.lat.sends.filter (fun z => z.org.id != x.org.id) := by
  unfold imgStep
  simp only [h]
  exact ⟨_, rfl, rfl⟩

theorem imgStep_repair_waits {q : Nat} (h : x.phase = .repair q []) (hat : cycOf s < x.at_) : imgStep x i s = s := by
  unfold imgStep
  simp only [h, hat, if_true]

end

end

/-- Settles O42: a clause each of the lemmas above, and the removals of the file before. -/
theorem recordsAreKeptDurably : Obligations.RecordsAreKeptDurably := by
  unfold Obligations.RecordsAreKeptDurably
  intro s
  refine ⟨fun e r hdue hkind hnone => ⟨keyEntry e (fld (r.w 3) 17 0) s,
      (exec_linkKeyLoadApply true hdue hkind).trans (congrArg Host.Outcome.next (if_pos (by rw [hnone]; rfl))), rfl⟩,
    fun e r x => exec_linkKeyLoadApply_record, fun e ep x => exec_linkKeyOverlapEnd_drops, exec_backgroundCheckpoint_starts,
    exec_backgroundCheckpoint_early, fun c o => exec_checkpointComplete_asked, exec_journalPageWrite_writes,
    fun ep x hx => ⟨epOf_takeOut hx, takeOut_ceiling hx⟩, fun ep c => exec_journalPageWrite_confirms, exec_latCompact_compacts,
    fun c => exec_joinPermitExpiry_ends, fun c => exec_joinPermitExpiry_early, fun id x i hx hi hwin hbusy => ?_, endRemovals_completes⟩
  have hexec := exec_imagePhase_steps hx hi hwin hbusy
  refine ⟨fun h => hexec.trans (congrArg Host.Outcome.next (imgStep_announce h)),
    fun b h hb => hexec.trans (congrArg Host.Outcome.next (imgStep_block h hb)), fun h => ?_,
    fun q h hat => hexec.trans (congrArg Host.Outcome.next (imgStep_repair_waits h hat))⟩
  obtain ⟨u, hdone, hsends⟩ := imgStep_done (i := i) (s := s) h
  exact ⟨u, hexec.trans (congrArg Host.Outcome.next hdone), hsends⟩

end Sys2Proof.Proofs
end

section
/-! PROOFS. The winner of a schedule group and the lux gate (O43). -/
namespace Sys2Proof.Proofs
open Sys2Proof Sys2Proof.Machine Sys2Proof.Laws

/-- R304's order of candidates for a group as one number: the priority first, then whether the entry names the group. -/
def standing (g : Nat) (x : SchEntry) : Nat := 2 * x.prio + b2n (x.group == g)

theorem standing_lt_iff (g : Nat) (x y : SchEntry) :
    standing g x < standing g y ↔ x.prio < y.prio ∨ (x.prio = y.prio ∧ x.group ≠ g ∧ y.group = g) := by
  unfold standing b2n
  by_cases hx : x.group = g <;> by_cases hy : y.group = g <;> simp [hx, hy] <;> omega

theorem standing_le_iff (g : Nat) (x y : SchEntry) :
    standing g x ≤ standing g y ↔ x.prio < y.prio ∨ (x.prio = y.prio ∧ (x.group = g → y.group = g)) := by
  unfold standing b2n
  by_cases hx : x.group = g <;> by_cases hy : y.group = g <;> simp [hx, hy] <;> omega

theorem beats_iff (g : Nat) (x y : SchEntry) : beats g x y = true ↔ standing g x < standing g y := by
  rw [standing_lt_iff]
  unfold beats
  simp [and_assoc]

/-- The better of the best so far and the next candidate (R304). -/
def better (g : Nat) (m : Option (Nat × SchEntry)) (x : Nat × SchEntry) : Option (Nat × SchEntry) :=
  match m with
  | none => some x
  | some b => if beats g b.2 x.2 then some x else some b

theorem winnerAt_eq (s : State) (g c : Nat) : winnerAt s g c =
    (s.sch.entries.filter fun x => (x.2.group == g || x.2.group == 4095) && x.2.active s c).foldl (better g) none := rfl

/-- `w` is the first of the highest candidates of a list. -/
def FirstHighest (g : Nat) (l : List (Nat × SchEntry)) (w : Nat × SchEntry) : Prop :=
  ∃ a b, l = a ++ w :: b ∧ (∀ y ∈ a, standing g y.2 < standing g w.2) ∧ ∀ y ∈ b, standing g y.2 ≤ standing g w.2

theorem foldl_better_some (g : Nat) (l : List (Nat × SchEntry)) (b : Nat × SchEntry) :
    ∃ w, l.foldl (better g) (some b) = some w ∧ FirstHighest g (b :: l) w := by
  induction l generalizing b with
  | nil => exact ⟨b, rfl, [], [], rfl, by simp, by simp⟩
  | cons x t ih =>
    by_cases hbeat : beats g b.2 x.2 = true
    · obtain ⟨w, hw, l1, l2, hl, hlt, hle⟩ := ih x
      have hbx := (beats_iff g b.2 x.2).1 hbeat
      have hxw : standing g x.2 ≤ standing g w.2 := by
        rcases List.mem_append.1 (hl ▸ List.mem_cons_self : x ∈ l1 ++ w :: l2) with h | h
        · exact Nat.le_of_lt (hlt x h)
        · rcases List.mem_cons.1 h with rfl | h
          · exact Nat.le_refl _
          · exact hle x h
      refine ⟨w, by rw [List.foldl_cons, better, if_pos hbeat]; exact hw, b :: l1, l2, by rw [hl]; rfl, fun y hy => ?_, hle⟩
      rcases List.mem_cons.1 hy with rfl | hy
      · exact Nat.lt_of_lt_of_le hbx hxw
      · exact hlt y hy
    · have hxb : standing g x.2 ≤ standing g b.2 := Nat.not_lt.1 fun h => hbeat ((beats_iff g b.2 x.2).2 h)
      obtain ⟨w, hw, l1, l2, hl, hlt, hle⟩ := ih b
      have hfold : (x :: t).foldl (better g) (some b) = some w := by rw [List.foldl_cons, better, if_neg hbeat]; exact hw
      cases l1 with
      | nil =>
        obtain ⟨rfl, rfl⟩ := List.cons.inj hl
        refine ⟨b, hfold, [], x :: t, rfl, by simp, fun y hy => ?_⟩
        rcases List.mem_cons.1 hy with rfl | hy
        · exact hxb
        · exact hle y hy
      | cons z l1 =>
        obtain ⟨rfl, rfl⟩ := List.cons.inj hl
        have hbw := hlt b List.mem_cons_self
        refine ⟨w, hfold, b :: x :: l1, l2, rfl, fun y hy => ?_, hle⟩
        rcases List.mem_cons.1 hy with rfl | hy
        · exact hbw
        · rcases List.mem_cons.1 hy with rfl | hy
          · exact Nat.lt_of_le_of_lt hxb hbw
          · exact hlt y (List.mem_cons_of_mem _ hy)

theorem foldl_better_firstHighest {g : Nat} {l : List (Nat × SchEntry)} {w : Nat × SchEntry} (h : l.foldl (better g) none = some w) :
    FirstHighest g l w := by
  cases l with
  | nil => exact absurd h (by simp)
  | cons x t =>
    obtain ⟨v, hv, hfirst⟩ := foldl_better_some g t x
    obtain rfl : v = w := Option.some.inj (hv.symm.trans h)
    exact hfirst

theorem foldl_better_none {g : Nat} {l : List (Nat × SchEntry)} (h : l.foldl (better g) none = none) : l = [] := by
  cases l with
  | nil => rfl
  | cons x t =>
    obtain ⟨v, hv, -⟩ := foldl_better_some g t x
    exact absurd (hv.symm.trans h) (Option.some_ne_none v)

section
variable {s : State} {g c : Nat}

/-- An entry takes part in the choice of a group's winner (R304). -/
theorem takesPart_iff (x : SchEntry) :
    ((x.group == g || x.group == 4095) && x.active s c) = true ↔ (x.group = g ∨ x.group = 4095) ∧ x.active s c = true := by
  simp

theorem winnerAt_some {k : Nat} {x : SchEntry} (h : winnerAt s g c = some (k, x)) :
    ∃ l m, s.sch.entries = l ++ (k, x) :: m ∧ (x.group = g ∨ x.group = 4095) ∧ x.active s c = true ∧
      (∀ y ∈ l, (y.2.group = g ∨ y.2.group = 4095) → y.2.active s c = true → standing g y.2 < standing g x) ∧
      ∀ y ∈ m, (y.2.group = g ∨ y.2.group = 4095) → y.2.active s c = true → standing g y.2 ≤ standing g x := by
  obtain ⟨a, b, hab, hlt, hle⟩ := foldl_better_firstHighest ((winnerAt_eq s g c).symm.trans h)
  obtain ⟨l, n, hentries, ha, hn⟩ := List.filter_eq_append_iff.1 hab
  obtain ⟨l', m, rfl, hnone, htakes, hb⟩ := List.filter_eq_cons_iff.1 hn
  obtain ⟨hgroup, hactive⟩ := (takesPart_iff x).1 htakes
  refine ⟨l ++ l', m, by rw [hentries, List.append_assoc], hgroup, hactive, fun y hy hg hact => ?_, fun y hy hg hact => ?_⟩
  · rcases List.mem_append.1 hy with hy | hy
    · exact hlt y (ha ▸ List.mem_filter.2 ⟨hy, (takesPart_iff y.2).2 ⟨hg, hact⟩⟩)
    · exact absurd ((takesPart_iff y.2).2 ⟨hg, hact⟩) (hnone y hy)
  · exact hle y (hb ▸ List.mem_filter.2 ⟨hy, (takesPart_iff y.2).2 ⟨hg, hact⟩⟩)

theorem winnerAt_none (h : winnerAt s g c = none) :
    ∀ y ∈ s.sch.entries, (y.2.group = g ∨ y.2.group = 4095) → y.2.active s c = false := by
  intro y hy hg
  have hnil := List.filter_eq_nil_iff.1 (foldl_better_none ((winnerAt_eq s g c).symm.trans h)) y hy
  exact Bool.eq_false_iff.2 fun hact => hnil ((takesPart_iff y.2).2 ⟨hg, hact⟩)

theorem resolveAt_of_winner {k : Nat} {x : SchEntry} (h : winnerAt s g c = some (k, x)) : resolveAt s g c = ⟨x.level, some k, x.fade⟩ := by
  unfold resolveAt
  rw [h]

theorem resolveAt_of_none (h : winnerAt s g c = none) : resolveAt s g c = ⟨(groupOf s g).level, none, 0⟩ := by
  unfold resolveAt
  rw [h]

end

theorem gateNext_some (v on off : Nat) (was : Bool) :
    (v < on → gateNext (some v) on off was = true) ∧ (on ≤ v → off ≤ v → gateNext (some v) on off was = false) ∧
      (on ≤ v → v < off → gateNext (some v) on off was = was) :=
  ⟨fun h => if_pos h, fun hon hoff => (if_neg (Nat.not_lt.2 hon)).trans (if_pos hoff),
    fun hon hoff => (if_neg (Nat.not_lt.2 hon)).trans (if_neg (Nat.not_le.2 hoff))⟩

/-- Settles O43: the winner is the first of the highest candidates by `standing`, by induction on the table. -/
theorem theScheduleWinnerIsTheFirstHighest : Obligations.TheScheduleWinnerIsTheFirstHighest := by
  unfold Obligations.TheScheduleWinnerIsTheFirstHighest
  intro s g c
  refine ⟨fun k x h => ?_, fun h => ⟨winnerAt_none h, resolveAt_of_none h⟩, fun v on off was => ?_⟩
  · obtain ⟨l, m, hentries, hgroup, hactive, hlt, hle⟩ := winnerAt_some h
    rw [resolveAt_of_winner h]
    exact ⟨rfl, rfl, rfl, l, m, hentries, hgroup, hactive, fun y hy hg hact => (standing_lt_iff g y.2 x).1 (hlt y hy hg hact),
      fun y hy hg hact => (standing_le_iff g y.2 x).1 (hle y hy hg hact)⟩
  · obtain ⟨hopen, hclose, hkeep⟩ := gateNext_some v on off was
    exact ⟨hopen, hclose, hkeep, rfl⟩

end Sys2Proof.Proofs
end

section
/-! PROOFS. What the schedule engine decides (O44). -/
namespace Sys2Proof.Proofs
open Sys2Proof Sys2Proof.Machine Sys2Proof.Laws

/-- Two states whose schedule engines run alike: what it does, the last cycle decided, and whether a resync is due. -/
def SameRun (s t : State) : Prop := t.sch.run = s.sch.run ∧ t.sch.lastCyc = s.sch.lastCyc ∧ t.sch.resync = s.sch.resync

theorem SameRun.refl (s : State) : SameRun s s := ⟨rfl, rfl, rfl⟩

theorem SameRun.trans {s t u : State} (h : SameRun s t) (g : SameRun t u) : SameRun s u :=
  ⟨g.1.trans h.1, g.2.1.trans h.2.1, g.2.2.trans h.2.2⟩

theorem SameRun.of_sch {s t : State} (h : t.sch = s.sch) : SameRun s t := by
  unfold SameRun
  rw [h]
  exact ⟨rfl, rfl, rfl⟩

theorem SameRun.fold {α : Type} {f : State → α → State} {l : List α} {s u : State} (h : ∀ t x, SameRun t (f t x)) (hu : SameRun s u) :
    SameRun s (l.foldl f u) :=
  List.foldlRecOn l f (motive := fun t => SameRun s t) hu fun t ht x _ => ht.trans (h t x)

/-! ### The operations of an evaluation leave the run alone -/

theorem noteTz_run (s : State) : SameRun s (noteTz s) := by
  unfold noteTz
  extract_lets r now s1
  clear_value now
  split
  · exact ⟨rfl, rfl, rfl⟩
  · split <;> exact ⟨rfl, rfl, rfl⟩

theorem updGates_run (s : State) : SameRun s (updGates s) := ⟨rfl, rfl, rfl⟩

theorem checkStale_run (s : State) : SameRun s (checkStale s) := by
  unfold checkStale
  dsimp only
  refine .fold (fun t g => ?_) ⟨rfl, rfl, rfl⟩
  split <;> exact ⟨rfl, rfl, rfl⟩

theorem sendGroupLevel_run (g level fade scope : Nat) (target : Option Nat) (s : State) : SameRun s (sendGroupLevel g level fade scope target s) :=
  .of_sch ((keeps_sendGroupLevel g level fade scope target s (mk := 0x10000) (s0 := s) rfl (Keeps.refl _ s)).get 16 rfl)

theorem sendLater_run (s : State) : SameRun s (sendLater s) := by
  unfold sendLater
  dsimp only
  exact .fold (fun t x => sendGroupLevel_run x.group x.level x.fade x.scope none t) ⟨rfl, rfl, rfl⟩

theorem sendDecided_run (g level fade scope target : Nat) (s : State) : SameRun s (sendDecided g level fade scope target s) := by
  unfold sendDecided
  split
  · exact ⟨rfl, rfl, rfl⟩
  · exact sendGroupLevel_run ..

theorem decideGroup_run (resync : Bool) (target : Nat) (s : State) (g : Nat) : SameRun s (decideGroup resync target s g) := by
  unfold decideGroup
  dsimp only
  split
  · split
    · refine SameRun.trans ?_ (sendDecided_run ..)
      exact ⟨rfl, rfl, rfl⟩
    · exact ⟨rfl, rfl, rfl⟩
  · refine SameRun.trans ?_ (sendDecided_run ..)
    exact ⟨rfl, rfl, rfl⟩

theorem logLim_sch (code inst : Nat) (content : Nat → List Word) (s : State) : (logLim code inst content s).sch = s.sch :=
  (keeps_logLim code inst content s (mk := 0x10000) (s0 := s) rfl (Keeps.refl _ s)).get 16 rfl

theorem noteSolar_run (k kind : Nat) (d : Int) (s : State) : SameRun s (noteSolar k kind d s) := by
  unfold noteSolar
  split
  · exact .refl s
  · refine SameRun.trans ?_ (.of_sch (logLim_sch ..))
    exact ⟨rfl, rfl, rfl⟩

theorem noteNoSolar_run (fallback : Bool) (d : Int) (s : State) : SameRun s (noteNoSolar fallback d s) := by
  unfold noteNoSolar
  dsimp only
  split
  · refine SameRun.trans ?_ (noteSolar_run ..)
    exact ⟨rfl, rfl, rfl⟩
  · refine .fold (fun t x => ?_) ⟨rfl, rfl, rfl⟩
    split
    · exact noteSolar_run ..
    · exact .refl t

/-- The table decided for a cycle is the last one decided, and the resync is over. -/
theorem decideTable_run (cause : Option Nat) (c : Nat) (s : State) : (decideTable cause c s).sch.run = s.sch.run ∧
    (decideTable cause c s).sch.lastCyc = c ∧ (decideTable cause c s).sch.resync = false := by
  have hfold := SameRun.fold (l := schedGroups s) (decideGroup_run cause.isSome (c + schLead s)) (.refl { s with sch := { s.sch with
    resync := false
    lastCyc := c
    decided := s.sch.decided.filter fun x => (schedGroups s).contains x.1 } })
  unfold decideTable
  dsimp only
  split <;> exact hfold

/-! ### SCH_DECIDE (R306, R311) -/

section
variable {s : State}

/-- The state in which a table run starts to decide: the zone, the gates and the reports brought up to date. -/
def decideFrom (want : SchRun) (s : State) : State := checkStale (updGates (noteTz { s with sch := { s.sch with run := want } }))

theorem decideFrom_run (want : SchRun) (s : State) :
    (decideFrom want s).sch.run = want ∧ (decideFrom want s).sch.lastCyc = s.sch.lastCyc := by
  obtain ⟨hrun, hlast, -⟩ := ((noteTz_run { s with sch := { s.sch with run := want } }).trans (updGates_run _)).trans (checkStale_run _)
  exact ⟨hrun, hlast⟩

theorem exec_schDecide_behind (h : tlAhead s (cycOf s * 4096) 4 = true) : exec .schDecide s = .next s :=
  congrArg Host.Outcome.next (if_pos (by rw [h, Bool.or_true]))

theorem exec_schDecide_decided (hwant : schWant s = s.sch.run) (hlast : cycOf s ≤ s.sch.lastCyc) : exec .schDecide s = .next s := by
  refine congrArg Host.Outcome.next ?_
  split
  · rfl
  · exact if_pos ⟨hwant.symm, hlast⟩

section
variable (hwin : s.upd.windowOpen = false) (hserved : served s = true) (hrun : s.tt.running = true)
  (hahead : tlAhead s (cycOf s * 4096) 4 = false) (hold : s.sch.run = .table)
include hwin hserved hrun hahead hold

theorem exec_schDecide_idle (hwant : schWant s = .idle) : ∃ t, exec .schDecide s = .next t ∧ t.sch.run = .idle ∧
    t.sch.lastCyc = cycOf s ∧ t.sch.decided = [] ∧ t.sch.later = [] ∧ OnlyChanges [.log, .sch] s t := by
  have hexec : exec .schDecide s = .next { decideFrom .idle s with sch := { (decideFrom .idle s).sch with
      lastCyc := cycOf s
      decided := []
      later := [] } } := by
    unfold exec execSchDecide
    simp only [hwin, hserved, hrun, hahead, hwant, hold, Bool.not_true, Bool.or_false, Bool.false_eq_true, if_false, reduceCtorEq, false_and]
    rfl
  have hkeep : Keeps 0xFBFFFFFEF7FF s (decideFrom .idle s) :=
    keeps_checkStale _ rfl (keeps_updGates _ rfl (keeps_noteTz _ rfl (.set_sch rfl (.refl _ s))))
  exact ⟨_, hexec, (decideFrom_run .idle s).1, rfl, rfl, rfl, only_of_keeps (Keeps.set_sch rfl hkeep) (by decide)⟩

theorem exec_schDecide_table (hwant : schWant s = .table) (hlast : s.sch.lastCyc < cycOf s) : ∃ t, exec .schDecide s = .next t ∧
    t.sch.run = .table ∧ t.sch.lastCyc = s.sch.lastCyc + 1 ∧ t.sch.resync = false ∧ OnlyChanges [.log, .txn, .sch] s t := by
  have hexec : exec .schDecide s = .next (noteNoSolar false
      (localDay (sendLater (decideFrom .table s)).sch.tz (instOf (sendLater (decideFrom .table s))
        (s.sch.lastCyc + 1 + schLead (sendLater (decideFrom .table s))) / 65536))
      (decideTable (if s.sch.resync then some 3 else none) (s.sch.lastCyc + 1) (sendLater (decideFrom .table s)))) := by
    unfold exec execSchDecide
    simp only [hwin, hserved, hrun, hahead, hwant, hold, Nat.not_le.2 hlast, Bool.not_true, Bool.or_false, Bool.false_eq_true, if_false,
      if_true, reduceCtorEq, false_and, and_false]
    rfl
  obtain ⟨hfrom, -⟩ := decideFrom_run .table s
  obtain ⟨hsend, -, -⟩ := sendLater_run (decideFrom .table s)
  obtain ⟨hrun', hlast', hresync'⟩ := decideTable_run (if s.sch.resync then some 3 else none) (s.sch.lastCyc + 1) (sendLater (decideFrom .table s))
  obtain ⟨hnote, hnotelast, hnoteresync⟩ := noteNoSolar_run false
    (localDay (sendLater (decideFrom .table s)).sch.tz (instOf (sendLater (decideFrom .table s))
      (s.sch.lastCyc + 1 + schLead (sendLater (decideFrom .table s))) / 65536))
    (decideTable (if s.sch.resync then some 3 else none) (s.sch.lastCyc + 1) (sendLater (decideFrom .table s)))
  exact ⟨_, hexec, hnote.trans (hrun'.trans (hsend.trans hfrom)), hnotelast.trans hlast', hnoteresync.trans hresync',
    only_of_keeps (keeps_execSchDecide s _ hexec) (by decide)⟩

end

end

end Sys2Proof.Proofs
end

section
/-! PROOFS. Chord, and the SCH and CHD commands (O44). -/
namespace Sys2Proof.Proofs
open Sys2Proof Sys2Proof.Machine Sys2Proof.Laws

section
variable {r : Req} {s : State}

/-! ### Evaluations and the ends of waves (R319, R321) -/

theorem setIssued_waves (ep : Nat) (l : List Issued) (s : State) : (setIssued ep l s).chd.waves = s.chd.waves := rfl

theorem logLim_chd (code inst : Nat) (content : Nat → List Word) (s : State) : (logLim code inst content s).chd = s.chd :=
  (keeps_logLim code inst content s (mk := 0x20000) (s0 := s) rfl (Keeps.refl _ s)).get 17 rfl

theorem startTxn_chd (kind : TxnKind) (ep : Nat) (org : Option Origin) (query strict : Bool) (app : List Nat) (target : Option Nat)
    (deadline : Nat) (s : State) : (startTxn kind ep org query strict app target deadline s).chd = s.chd :=
  (keeps_startTxn kind ep org query strict app target deadline s (mk := 0x20000) (s0 := s) rfl (Keeps.refl _ s)).get 17 rfl

theorem sendKept_waves (ep : Nat) (s : State) : (sendKept ep s).chd.waves = s.chd.waves := by
  refine List.foldlRecOn (issuedTo s ep) _ (motive := fun t : State => t.chd.waves = s.chd.waves) rfl fun t ht i _ => ?_
  split
  · exact ht
  · split
    · rw [logLim_chd]
      exact ht
    · rw [setIssued_waves, startTxn_chd]
      exact ht

/-- The changes that HOLD kept, sent where Chord runs (R306). -/
def sendAllKept (s : State) : State := if chdRuns s then (s.chd.issued.map Prod.fst).foldl (fun s ep => sendKept ep s) s else s

theorem sendAllKept_waves (s : State) : (sendAllKept s).chd.waves = s.chd.waves := by
  unfold sendAllKept
  split
  · exact List.foldlRecOn _ _ (motive := fun t : State => t.chd.waves = s.chd.waves) rfl fun t ht ep _ => (sendKept_waves ep t).trans ht
  · rfl

theorem sendAllKept_none (h : s.chd.issued = []) : sendAllKept s = s := by
  unfold sendAllKept
  rw [h]
  exact ite_self s

theorem exec_chdEvaluation_evaluates (hmode : s.pwr.mode ≠ .commission) (hevery : s.chd.every ∣ cycOf s)
    (hnew : cycOf s ≠ s.chd.lastEval) (hrun : s.tt.running = true) : ∃ u, exec .chdEvaluation s = .next (chdEval u) ∧
      u.chd.lastEval = cycOf s ∧ u.chd.waves = s.chd.waves ∧
      (s.chd.issued = [] → u = { s with chd := { s.chd with lastEval := cycOf s } }) := by
  have hon : (s.pwr.mode == Mode.commission) = false := beq_eq_false_iff_ne.2 hmode
  have hexec : exec .chdEvaluation s = .next (chdEval { sendAllKept s with chd := { (sendAllKept s).chd with lastEval := cycOf s } }) := by
    unfold exec execChdEvaluation
    simp only [hon, Bool.false_and, Bool.false_eq_true, if_false, Nat.mod_eq_zero_of_dvd hevery, decide_true, bne_iff_ne.2 hnew, hrun,
      Bool.true_and, if_true]
    rfl
  exact ⟨_, hexec, rfl, sendAllKept_waves s, fun hnone => by rw [sendAllKept_none hnone]⟩

theorem dropWave_waves (id : Nat) (s : State) : (dropWave id s).chd.waves = tdel s.chd.waves id := rfl

theorem dropWave_issued (id : Nat) (s : State) : (dropWave id s).chd.issued = s.chd.issued := rfl

theorem foldl_dropWave_waves (l : Tbl Wave) (s : State) (h : s.chd.waves = l) :
    ((l.map Prod.fst).foldl (fun s i => dropWave i s) s).chd.waves = [] := by
  induction l generalizing s with
  | nil => exact h
  | cons x t ih => exact ih (dropWave x.1 s) (by rw [dropWave_waves, h, tdel, if_pos rfl])

theorem exec_chdEvaluation_commission (hmode : s.pwr.mode = .commission) (hwaves : s.chd.waves ≠ []) :
    ∃ t, exec .chdEvaluation s = .next t ∧ t.chd.waves = [] ∧ t.chd.issued = [] ∧ OnlyChanges [.tl, .chd] s t := by
  have hguard : (s.pwr.mode == Mode.commission && !s.chd.waves.isEmpty) = true := by
    rw [hmode, List.isEmpty_eq_false_iff.2 hwaves]
    rfl
  refine ⟨_, congrArg Host.Outcome.next (if_pos hguard), foldl_dropWave_waves _ _ rfl, ?_, ?_⟩
  · exact List.foldlRecOn _ _ (motive := fun t : State => t.chd.issued = []) rfl fun t ht i _ => (dropWave_issued i t).trans ht
  · exact only_of_keeps (Keeps.fold (m := 0xFFFFFFFDFFDF) _ _ (fun t i => keeps_dropWave i t rfl (Keeps.refl _ t))
      (Keeps.set_chd rfl (Keeps.refl _ s))) (by decide)

theorem exec_waveEnd_drops {e : TlEntry} {id : Nat} (hdue : Due e s) (hkind : e.kind = .waveEnd id) :
    exec .waveEnd s = .next (chdEval (dropWave id (tlRemove e.seq s))) :=
  congrArg Host.Outcome.next ((tlFire_of_due hdue (by rw [hkind])).trans rfl)

/-! ### The SCH commands -/

theorem slotsChanged_lat (ep : Nat) (old : EpRec) (s : State) : (slotsChanged ep old s).lat = s.lat :=
  (keeps_slotsChanged ep old s (mk := 0x4000) (s0 := s) rfl (Keeps.refl _ s)).get 14 rfl

theorem applySchGroupMembers_one {ep : Nat} {x : EpRec} {l : List Nat} (hnamed : namedEps r = [ep]) (hx : epOf s ep = some x)
    (hslots : newSlots r x.groups = .ok l) (hne : l ≠ x.groups) : epOf (applySchGroupMembers r s) ep = some { x with groups := l } := by
  have happly : (applySchGroupMembers r s).lat.recs = (updEp ep (fun y => { y with groups := l }) s).lat.recs := by
    unfold applySchGroupMembers
    simp only [hnamed, List.foldl_cons, List.foldl_nil, hx, hslots, if_neg hne]
    change (slotsChanged ep x _).lat.recs = _
    rw [slotsChanged_lat]
    rfl
  rw [epOf, happly]
  exact epOf_updEp (s := s) (fun y => { y with groups := l }) hx

theorem exec_schGroupMembers (h : Runs 0x0702 chkSchGroupMembers r s) :
    (∃ u, exec (.schGroupMembers true) s = .next (ok r [] u) ∧
      ∀ ep x l, namedEps r = [ep] → epOf s ep = some x → newSlots r x.groups = .ok l → l ≠ x.groups →
        ∃ y, epOf u ep = some y ∧ y.groups = l) ∧
    exec (.schGroupMembers false) s = .next (failReq r ⟨13, stMedia, 0xFFFF, 0⟩ (took r s)) :=
  ⟨⟨applySchGroupMembers r (took r s), congrArg Host.Outcome.next (serve_of_runs h),
      fun _ x l hnamed hx hslots hne => ⟨{ x with groups := l }, applySchGroupMembers_one (s := took r s) hnamed hx hslots hne, rfl⟩⟩,
    congrArg Host.Outcome.next (serve_of_runs h)⟩

theorem exec_schGroupRead (h : Runs 0x0703 chkSchGroupRead r s) : ∃ ws, exec .schGroupRead s = .next (ok r ([
      packW [((groupOf s (fld (r.w 3) 11 0)).owner, 28), ((groupOf s (fld (r.w 3) 11 0)).level, 18),
        (b2n ((groupOf s (fld (r.w 3) 11 0)).owner != 0 || fld (r.w 3) 11 0 == 4095), 17), (fld (r.w 3) 11 0, 0)],
      wd (members s (fld (r.w 3) 11 0)).length, wd (slot0Members s (fld (r.w 3) 11 0))] ++ ws) (took r s)) ∧
    ws.drop 2 = (((members s (fld (r.w 3) 11 0)).filter fun e => decide (fld (r.w 4) 17 0 ≤ e)).take 1016).map wd :=
  ⟨_ :: _ :: List.map wd _, congrArg Host.Outcome.next (serve_of_runs h), rfl⟩

theorem exec_schEntryRead (h : Runs 0x0706 chkSchEntryRead r s) :
    (tget s.sch.entries (fld (r.w 3) 11 0) = none →
      exec .schEntryRead s = .next (ok r (wd (fld (r.w 3) 11 0) :: List.replicate 8 0) (took r s))) ∧
    (∀ x, tget s.sch.entries (fld (r.w 3) 11 0) = some x → ∃ w, exec .schEntryRead s = .next (ok r (w :: x.words) (took r s)) ∧
      (x.expired s = true → w = packW [(3, 30), (b2n (x.luxGate && x.gateOpen), 29), (fld (r.w 3) 11 0, 0)])) := by
  have hact := serve_of_runs (act := actSchEntryRead) h
  unfold actSchEntryRead at hact
  constructor
  · intro hnone
    simp only [show tget (took r s).sch.entries (fld (r.w 3) 11 0) = none from hnone] at hact
    exact congrArg Host.Outcome.next hact
  · intro x hx
    simp only [show tget (took r s).sch.entries (fld (r.w 3) 11 0) = some x from hx] at hact
    exact ⟨_, congrArg Host.Outcome.next hact, fun hexp => by rw [if_pos (show x.expired (took r s) = true from hexp)]⟩

theorem exec_schEvaluate (h : Runs 0x070A chkSchEvaluate r s) :
    (fld (r.w 3) 31 30 = 0 → ∃ ws, exec .schEvaluate s = .next (ok r (packW
      [((baseAt s (fld (r.w 3) 11 0) (cycOf s)).level, 22), (b2n (baseAt s (fld (r.w 3) 11 0) (cycOf s)).winner.isNone, 21),
        (b2n s.pwr.autonomous, 20), ((baseAt s (fld (r.w 3) 11 0) (cycOf s)).winner.getD 0, 0)] :: ws) (took r s)) ∧ ws.length = 3) ∧
    (fld (r.w 3) 31 30 = 1 → exec .schEvaluate s = .next (ok r (sunWords s (r.w 4)) (took r s))) ∧
    (fld (r.w 3) 31 30 = 2 → ∃ ws, exec .schEvaluate s = .next (ok r (packW
      [((luxOf s (fld (r.w 3) 11 0)).getD 0, 16), (sat 16 (luxReports s (fld (r.w 3) 11 0)).length, 0)] :: ws) (took r s)) ∧
      ws.length = 2) ∧
    (fld (r.w 3) 31 30 = 3 → exec .schEvaluate s = .next (ok r [dateWord (localDay s.sch.tz (rtcS s)),
      wd (localAt s.sch.tz (rtcS s) % 86400).toNat, tzWord s (rtcS s)] (took r s))) := by
  have hexec : exec .schEvaluate s = .next (actSchEvaluate r (took r s)) := congrArg Host.Outcome.next (serve_of_runs h)
  refine ⟨fun hm => ⟨[_, _, _], hexec.trans (congrArg Host.Outcome.next (if_pos hm)), rfl⟩, fun hm => ?_, fun hm => ?_, fun hm => ?_⟩
  · exact hexec.trans (congrArg Host.Outcome.next ((if_neg (by omega)).trans (if_pos hm)))
  · exact ⟨[_, _], hexec.trans (congrArg Host.Outcome.next ((if_neg (by omega)).trans ((if_neg (by omega)).trans (if_pos hm)))), rfl⟩
  · exact hexec.trans (congrArg Host.Outcome.next ((if_neg (by omega)).trans ((if_neg (by omega)).trans (if_neg (by omega)))))

/-! ### The CHD commands -/

theorem exec_chdCorridorSet_chunk (h : Runs 0x0801 chkChdCorridorSet r s) (hlast : bit (r.w 3) 30 = false) :
    exec .chdCorridorSet s = .next (ok r [] (keepChunk r (took r s))) :=
  congrArg Host.Outcome.next ((serve_of_runs h).trans (if_pos (by rw [hlast]; rfl)))

/-- The request that waits for the boundary with the whole image of a corridor. -/
def wholeImage (r : Req) (s : State) : Req := { r with words := r.words.take 5 ++ imgWith s r }

theorem exec_chdCorridorSet_whole (h : Runs 0x0801 chkChdCorridorSet r s) (hlast : bit (r.w 3) 30 = true) (hroom : Room 0x0A s) :
    ∃ u f, exec .chdCorridorSet s = .next (ok r [] u) ∧
      u.tl.entries = s.tl.entries ++ [⟨nextBoundary s, 3, s.tl.nextSeq, 0x0A, false, .config f, true⟩] ∧
      f.words = r.words.take 5 ++ imgWith s r := by
  have hpost : tlPost (nextBoundary (took r s)) 3 0x0A (.config (wholeImage r s)) (keepChunk r (took r s)) =
      some (tlPut (nextBoundary (took r s)) 3 0x0A (.config (wholeImage r s)) true (keepChunk r (took r s))) := if_pos hroom
  have hact : actChdCorridorSet r (took r s) =
      ok r [] (tlPut (nextBoundary (took r s)) 3 0x0A (.config (wholeImage r s)) true (keepChunk r (took r s))) := by
    unfold actChdCorridorSet
    simp only [hlast, Bool.not_true, Bool.false_eq_true, if_false]
    exact congrArg (fun o => match o with
      | some s1 => ok r [] s1
      | none => failReq r ⟨13, stFull, 0xFFFF, 0⟩ (tlFull 0x0A 2 (took r s))) hpost
  refine ⟨_, wholeImage r s, congrArg Host.Outcome.next ((serve_of_runs h).trans hact), ?_, rfl⟩
  rw [tlPut_of_open_block (by omega)]
  rfl

theorem exec_chdCorridorRead {c : Corridor} (h : Runs 0x0803 chkChdCorridorRead r s) (hc : corridorOf s (chdNum r) = some c) :
    ∃ a b, exec .chdCorridorRead s = .next (ok r (a :: b :: ((corridorWords c).drop (fld (r.w 4) 15 0)).take 1019) (took r s)) := by
  have hact := serve_of_runs (act := actChdCorridorRead) h
  unfold actChdCorridorRead at hact
  simp only [show corridorOf (took r s) (chdNum r) = some c from hc] at hact
  exact ⟨_, _, congrArg Host.Outcome.next hact⟩

theorem exec_chdWaves (h : Runs 0x0805 chkChdWaves r s) : ∃ w ws, exec .chdWaves s = .next (ok r (w :: ws) (took r s)) ∧
    (bit (r.w 3) 23 = false → s.chd.waves.all (fun w => w.2.corridor != chdNum r) = true → ws = []) := by
  refine ⟨_, _, congrArg Host.Outcome.next (serve_of_runs h), fun hall hother => ?_⟩
  have hnone : ((took r s).chd.waves.filter fun w => bit (r.w 3) 23 || w.2.corridor == chdNum r) = [] := by
    refine List.filter_eq_nil_iff.2 fun w hw => ?_
    have hne : w.2.corridor ≠ chdNum r := bne_iff_ne.1 (List.all_eq_true.1 hother w hw)
    simp [hall, hne]
  rw [hnone]
  rfl

/-- The wave that CHD.INJECT offers in a direction. -/
def injected (r : Req) (s : State) (d : Bool) : Offer :=
  ⟨chdNum r, fld (r.w 3) 31 30 == 1, d, fld (r.w 3) 25 10, fld (r.w 4) 31 16,
    (match r.target with | some t => t * 4096 | none => s.tt.tt), 0x3FFFF, true⟩

/-- What CHD.INJECT answers to an offer in its only direction. -/
def answerOffer (r : Req) (c : Corridor) (u : State) : Offered → State
  | .limit => failReq r ⟨13, stWaveLimit, 0xFFFF, 0⟩ u
  | .noEntry => failReq r ⟨13, stFull, 0xFFFF, 0⟩ (tlFull 0x0A 2 u)
  | .wave id merged s1 =>
    let w := (tget s1.chd.waves id).getD default
    ok r [packW [(id, 24), (b2n merged, 23), ((c.lanterns.filter fun l => (w.span s1 c l.pos).isSome).length, 0)],
      wd ((injected r u false).td / 4096), wd w.endCyc] (chdEval s1)

theorem actChdInject_one {c : Corridor} {d : Bool} (hc : corridorOf s (chdNum r) = some c) (hdirs : dirsOf c (fld (r.w 3) 29 28) false = [d]) :
    actChdInject r s = answerOffer r c s (offer (injected r s d) c s) := by
  unfold actChdInject
  simp only [hc, hdirs, List.foldl_nil]
  rfl

theorem exec_chdInject {c : Corridor} {d : Bool} (h : Runs 0x0806 chkChdInject r s) (hc : corridorOf s (chdNum r) = some c)
    (hdirs : dirsOf c (fld (r.w 3) 29 28) false = [d]) :
    (offer (injected r (took r s) d) c (took r s) = .limit →
      exec .chdInject s = .next (failReq r ⟨13, stWaveLimit, 0xFFFF, 0⟩ (took r s))) ∧
    (offer (injected r (took r s) d) c (took r s) = .noEntry →
      exec .chdInject s = .next (failReq r ⟨13, stFull, 0xFFFF, 0⟩ (tlFull 0x0A 2 (took r s)))) ∧
    (∀ id m u, offer (injected r (took r s) d) c (took r s) = .wave id m u →
      ∃ w x, exec .chdInject s = .next (ok r [w, x, wd ((tget u.chd.waves id).getD default).endCyc] (chdEval u))) := by
  have hexec : exec .chdInject s = .next (answerOffer r c (took r s) (offer (injected r (took r s) d) c (took r s))) :=
    congrArg Host.Outcome.next ((serve_of_runs h).trans (actChdInject_one (s := took r s) hc hdirs))
  refine ⟨fun ho => ?_, fun ho => ?_, fun id m u ho => ?_⟩
  all_goals rw [ho] at hexec
  · exact hexec
  · exact hexec
  · exact ⟨_, _, hexec⟩

end

/-- Settles O44: a clause each of the lemmas above and of the file before. -/
theorem schedulesAndChordAct : Obligations.SchedulesAndChordAct := by
  unfold Obligations.SchedulesAndChordAct
  intro r s
  exact ⟨exec_schDecide_behind,
    fun hwin hserved hrun hahead hwant hold => exec_schDecide_idle hwin hserved hrun hahead hold hwant,
    fun hwin hserved hrun hahead hwant hold => exec_schDecide_table hwin hserved hrun hahead hold hwant, exec_schDecide_decided, exec_chdEvaluation_evaluates,
    exec_chdEvaluation_commission, fun e id => exec_waveEnd_drops, exec_schGroupMembers, exec_schGroupRead, exec_schEntryRead,
    exec_schEvaluate, fun h => ⟨exec_chdCorridorSet_chunk h, exec_chdCorridorSet_whole h⟩, fun c => exec_chdCorridorRead, exec_chdWaves,
    fun c d => exec_chdInject⟩

end Sys2Proof.Proofs
end

section
/-! PROOFS. The energy of a cycle, pulses and intervals (O45). -/
namespace Sys2Proof.Proofs
open Sys2Proof Sys2Proof.Machine Sys2Proof.Laws

/-! ### One feeder -/

theorem feeder_onFeeder_self {s : State} {f : Nat} (g : Feeder → Feeder) (hf : f < s.mtr.feeders.length) :
    feeder (onFeeder f g s) f = g (feeder s f) := getD_updAt_self g default hf

theorem feeder_onFeeder_ne {f k : Nat} (g : Feeder → Feeder) (s : State) (h : k ≠ f) : feeder (onFeeder f g s) k = feeder s k :=
  getD_updAt_ne s.mtr.feeders g default h

theorem onFeeder_length (f : Nat) (g : Feeder → Feeder) (s : State) : (onFeeder f g s).mtr.feeders.length = s.mtr.feeders.length :=
  length_updAt ..

/-! ### One cycle (R332 to R334) -/

theorem toNat_or_neg_toNat_eq_zero (p : Int) : p.toNat = 0 ∨ (-p).toNat = 0 := by omega

theorem Energies.zero_add (a : Energies) : Energies.zero.add a = a := by
  simp [Energies.add, Energies.zero]

theorem phaseCycle_one_direction (m : Meter) (c : FeederCfg) (k : Coef) (ph ticks : Nat) (l : List MtrSample) :
    ((phaseCycle m c k ph ticks l).e.ai = 0 ∨ (phaseCycle m c k ph ticks l).e.ae = 0) ∧
    ((phaseCycle m c k ph ticks l).e.rp = 0 ∨ (phaseCycle m c k ph ticks l).e.rn = 0) :=
  ⟨toNat_or_neg_toNat_eq_zero _, toNat_or_neg_toNat_eq_zero _⟩

theorem after_e (r : PhaseReg) (x : PhaseCycle) : (r.after x).e = r.e.add x.e := rfl

/-- Each cycle is counted once, in the direction of its energy. -/
theorem after_counts (r : PhaseReg) (x : PhaseCycle) : (r.after x).impCyc + (r.after x).expCyc = r.impCyc + r.expCyc + 1 := by
  show r.impCyc + b2n (decide (0 ≤ x.p)) + (r.expCyc + b2n (!decide (0 ≤ x.p))) = _
  cases decide (0 ≤ x.p) with
  | true => exact Nat.add_right_comm ..
  | false => rfl

/-- The phases of a feeder over the cycle that ends. -/
def cyclePhase (f ticks : Nat) (c : FeederCycle) (s : State) (ph : Nat) : PhaseCycle :=
  phaseCycle s.mtr (feeder s f).cfg ((feeder s f).coef.getD ph default) ph ticks (c.phases.getD ph [])

/-- The energy of all phases over a cycle. -/
def cycleTotal (f ticks : Nat) (c : FeederCycle) (s : State) : Energies :=
  ((cyclePhase f ticks c s 0).e.add (cyclePhase f ticks c s 1).e).add (cyclePhase f ticks c s 2).e

theorem feederCycle_energies (f cyc ticks : Nat) (c : FeederCycle) (s : State) : (feederCycle f cyc ticks c s).2 =
    [cycleTotal f ticks c s, (cyclePhase f ticks c s 0).e, (cyclePhase f ticks c s 1).e, (cyclePhase f ticks c s 2).e] := by
  show (((Energies.zero.add (cyclePhase f ticks c s 0).e).add _).add _) :: _ = _
  rw [Energies.zero_add]
  rfl

theorem foldl_feeders (l : List Nat) (g : State → Nat → State) (hg : ∀ t x, (g t x).mtr = t.mtr) (s : State) :
    (l.foldl g s).mtr = s.mtr :=
  List.foldlRecOn l g (motive := fun t : State => t.mtr = s.mtr) rfl fun t ht x _ => (hg t x).trans ht

/-- A feeder after a cycle: its total and its phases have grown, and no other feeder has changed. -/
theorem feederCycle_feeder (f cyc ticks : Nat) (c : FeederCycle) (s : State) :
    ∃ g : Feeder → Feeder, (feederCycle f cyc ticks c s).1.mtr = (onFeeder f g s).mtr ∧
      (g (feeder s f)).total = (feeder s f).total.add (cycleTotal f ticks c s) ∧
      (g (feeder s f)).ph = (List.range 3).map fun ph => ((feeder s f).ph.getD ph default).after (cyclePhase f ticks c s ph) := by
  unfold feederCycle
  extract_lets x ps tot regs nSq loss fault hold flags cal s1 s2
  have hs2 : s2.mtr = s1.mtr := foldl_feeders _ _ (fun t ph => by dsimp only; split <;> rfl) s1
  have htot : tot = cycleTotal f ticks c s := by
    show (((Energies.zero.add (cyclePhase f ticks c s 0).e).add _).add _) = _
    rw [Energies.zero_add]
    rfl
  exact ⟨_, hs2, congrArg (fun e => (feeder s f).total.add e) htot, rfl⟩

theorem feederCycle_lossless (f cyc ticks : Nat) (c : FeederCycle) (s : State) (hf : f < s.mtr.feeders.length) :
    ∃ t es, feederCycle f cyc ticks c s = (t, es) ∧ es.length = 4 ∧
      (feeder t f).total = (feeder s f).total.add (es.getD 0 Energies.zero) ∧
      (es.getD 0 Energies.zero) = ((es.getD 1 Energies.zero).add (es.getD 2 Energies.zero)).add (es.getD 3 Energies.zero) ∧
      (∀ p < 3, ((feeder t f).ph.getD p default).e = ((feeder s f).ph.getD p default).e.add (es.getD (p + 1) Energies.zero) ∧
        ((feeder t f).ph.getD p default).impCyc + ((feeder t f).ph.getD p default).expCyc =
          ((feeder s f).ph.getD p default).impCyc + ((feeder s f).ph.getD p default).expCyc + 1) ∧
      (∀ g, g ≠ f → feeder t g = feeder s g) := by
  obtain ⟨g, hmtr, htotal, hph⟩ := feederCycle_feeder f cyc ticks c s
  have hfeeder (k : Nat) : feeder (feederCycle f cyc ticks c s).1 k = feeder (onFeeder f g s) k :=
    congrArg (fun m : Meter => m.feeders.getD k default) hmtr
  have hself : feeder (feederCycle f cyc ticks c s).1 f = g (feeder s f) := (hfeeder f).trans (feeder_onFeeder_self g hf)
  refine ⟨(feederCycle f cyc ticks c s).1, (feederCycle f cyc ticks c s).2, rfl, ?_⟩
  rw [feederCycle_energies, hself, htotal, hph]
  refine ⟨rfl, rfl, rfl, fun p hp => ?_, fun k hk => (hfeeder k).trans (feeder_onFeeder_ne g s hk)⟩
  have hphase : ((List.range 3).map fun ph => ((feeder s f).ph.getD ph default).after (cyclePhase f ticks c s ph)).getD p default =
      ((feeder s f).ph.getD p default).after (cyclePhase f ticks c s p) := by
    rw [List.getD_eq_getElem?_getD, List.getElem?_map, List.getElem?_range hp]
    rfl
  rw [hphase, after_counts, after_e]
  refine ⟨congrArg _ ?_, rfl⟩
  match p, hp with
  | 0, _ => rfl
  | 1, _ => rfl
  | 2, _ => rfl

/-! ### Pulses (R342) -/

theorem account_lossless (p : PulseOut) (e ticks : Nat) (h : p.owed + (p.acc + e * p.const) / (10 ^ 9 * mtrMicro) < 2 ^ 32) :
    (p.account e ticks).acc < 10 ^ 9 * mtrMicro ∧
    (p.account e ticks).owed * (10 ^ 9 * mtrMicro) + (p.account e ticks).acc = p.owed * (10 ^ 9 * mtrMicro) + p.acc + e * p.const := by
  have hunit : 0 < 10 ^ 9 * mtrMicro := by
    unfold mtrMicro
    decide
  have howed : (p.account e ticks).owed = p.owed + (p.acc + e * p.const) / (10 ^ 9 * mtrMicro) := if_pos h
  refine ⟨Nat.mod_lt _ hunit, ?_⟩
  rw [howed, show (p.account e ticks).acc = (p.acc + e * p.const) % (10 ^ 9 * mtrMicro) from rfl, Nat.add_mul, Nat.add_assoc,
    Nat.div_add_mod', Nat.add_assoc]

/-! ### Intervals (R339 to R341) -/

section
variable {s : State} {f : Nat} {v : Interval}

theorem cutInterval_cuts (flags : Nat) (hv : (feeder s f).interval = some v) :
    (cutInterval f flags s).mtr.cut = s.mtr.cut ++ [intervalWords s.mtr.nextSeq f (v.quality ||| flags) v (feeder s f).total] ∧
    (cutInterval f flags s).mtr.nextSeq = (s.mtr.nextSeq + 1) % 2 ^ 32 := by
  unfold cutInterval
  simp only [hv]
  exact ⟨rfl, rfl⟩

/-- A feeder whose open interval is closed. -/
def closeWith (c : Closed) (x : Feeder) : Feeder := { x with
  interval := none
  closeFlags := 0
  closed := (c :: x.closed).take 5 }

theorem cutInterval_feeders (flags : Nat) (hv : (feeder s f).interval = some v) :
    ∃ c, (cutInterval f flags s).mtr.feeders = (onFeeder f (closeWith c) s).mtr.feeders := by
  unfold cutInterval
  simp only [hv]
  exact ⟨_, rfl⟩

theorem cutInterval_feeder (flags : Nat) (hf : f < s.mtr.feeders.length) (hv : (feeder s f).interval = some v) :
    (feeder (cutInterval f flags s) f).total = (feeder s f).total ∧ (feeder (cutInterval f flags s) f).cfg = (feeder s f).cfg ∧
    (cutInterval f flags s).mtr.feeders.length = s.mtr.feeders.length := by
  obtain ⟨c, hfeeders⟩ := cutInterval_feeders flags hv
  have hself : feeder (cutInterval f flags s) f = closeWith c (feeder s f) :=
    (congrArg (fun l : List Feeder => l.getD f default) hfeeders).trans (feeder_onFeeder_self (closeWith c) hf)
  rw [hself, hfeeders, onFeeder_length]
  exact ⟨rfl, rfl, rfl⟩

theorem openInterval_feeder (flags : Nat) (hf : f < s.mtr.feeders.length) :
    (feeder (openInterval f flags s) f).total = (feeder s f).total ∧
    ∃ w, (feeder (openInterval f flags s) f).interval = some w ∧ w.start = (feeder s f).total ∧ w.cycles = 0 := by
  unfold openInterval
  rw [feeder_onFeeder_self _ hf]
  exact ⟨rfl, _, rfl, rfl, rfl⟩

theorem openInterval_cut (flags : Nat) : (openInterval f flags s).mtr.cut = s.mtr.cut ∧
    (openInterval f flags s).mtr.nextSeq = s.mtr.nextSeq := ⟨rfl, rfl⟩

/-- A due close cuts the open interval and, while the feeder is enabled, opens the next. -/
theorem closeOne_of_due {whole : Bool} (hdue : closeDue s f = some whole) : ∃ flags first, closeOne s f =
    if (feeder (cutInterval f flags s) f).cfg.enable then openInterval f first (cutInterval f flags s) else cutInterval f flags s := by
  unfold closeOne
  simp only [hdue]
  exact ⟨_, _, rfl⟩

theorem closeOne_lossless {whole : Bool} (hf : f < s.mtr.feeders.length) (hdue : closeDue s f = some whole)
    (hv : (feeder s f).interval = some v) :
    ∃ q, (closeOne s f).mtr.cut = s.mtr.cut ++ [intervalWords s.mtr.nextSeq f q v (feeder s f).total] ∧
      (closeOne s f).mtr.nextSeq = (s.mtr.nextSeq + 1) % 2 ^ 32 ∧ (feeder (closeOne s f) f).total = (feeder s f).total ∧
      ((feeder s f).cfg.enable = true → ∃ w, (feeder (closeOne s f) f).interval = some w ∧ w.start = (feeder s f).total ∧ w.cycles = 0) := by
  obtain ⟨flags, first, hclose⟩ := closeOne_of_due hdue
  obtain ⟨hcut, hseq⟩ := cutInterval_cuts flags hv
  obtain ⟨htotal, hcfg, hlen⟩ := cutInterval_feeder flags hf hv
  rw [hclose, hcfg]
  cases henable : (feeder s f).cfg.enable with
  | false => exact ⟨_, hcut, hseq, htotal, fun h => absurd h Bool.false_ne_true⟩
  | true =>
    obtain ⟨htotal', w, hw, hstart, hcyc⟩ := openInterval_feeder (s := cutInterval f flags s) first (hlen ▸ hf)
    exact ⟨_, hcut, hseq, htotal'.trans htotal, fun _ => ⟨w, hw, hstart.trans htotal, hcyc⟩⟩

end

/-- Settles O45: a clause each of the lemmas above. -/
theorem energyIsNeitherNettedNorLost : Obligations.EnergyIsNeitherNettedNorLost := by
  unfold Obligations.EnergyIsNeitherNettedNorLost
  exact ⟨phaseCycle_one_direction, feederCycle_lossless, account_lossless, fun s f whole v => closeOne_lossless⟩

end Sys2Proof.Proofs
end

section
/-! PROOFS. The times of metering (O46). -/
namespace Sys2Proof.Proofs
open Sys2Proof Sys2Proof.Machine Sys2Proof.Laws

section
variable {s : State}

/-! ### The end of a cycle (R332 to R336, R346) -/

/-- Two states whose metering latched the same boundary. -/
def SameLatch (s t : State) : Prop := t.mtr.cyc = s.mtr.cyc ∧ t.mtr.latch = s.mtr.latch

theorem SameLatch.trans {s t u : State} (h : SameLatch s t) (g : SameLatch t u) : SameLatch s u := ⟨g.1.trans h.1, g.2.trans h.2⟩

theorem SameLatch.of_mtr {s t : State} (h : t.mtr = s.mtr) : SameLatch s t :=
  ⟨congrArg Meter.cyc h, congrArg Meter.latch h⟩

theorem logLim_mtr (code inst : Nat) (content : Nat → List Word) (s : State) : (logLim code inst content s).mtr = s.mtr :=
  (keeps_logLim code inst content s (mk := 0x40000) (s0 := s) rfl (Keeps.refl _ s)).get 18 rfl

theorem accountPulses_latch (es : List (List Energies)) (ticks : Nat) (s : State) : SameLatch s (accountPulses es ticks s) := by
  refine List.foldlRecOn (List.range 8) _ (motive := fun t => SameLatch s t) ⟨rfl, rfl⟩ fun t ht k _ => ht.trans ?_
  dsimp only
  split
  · exact ⟨rfl, rfl⟩
  · split
    · refine SameLatch.trans ?_ (.of_mtr (logLim_mtr ..))
      exact ⟨rfl, rfl⟩
    · exact ⟨rfl, rfl⟩

/-- The residue that is written is that of the metering state left behind (R346). -/
theorem writeResidue_residue (s : State) : (writeResidue s).rtc.residue = some (residueWords (writeResidue s).mtr) := rfl

theorem writeResidue_latch (s : State) : SameLatch s (writeResidue s) := by
  unfold writeResidue
  extract_lets m now m1
  have hm1 : m1.cyc = m.cyc ∧ m1.latch = m.latch := by
    unfold m1
    split <;> exact ⟨rfl, rfl⟩
  exact hm1

theorem noteStep_latch (s : State) : SameLatch s (noteStep s) := by
  unfold noteStep
  split <;> exact ⟨rfl, rfl⟩

theorem getD_map_total {l : List Feeder} {g : Feeder → Feeder} (hg : ∀ x, (g x).total = x.total) (f : Nat) :
    ((l.map g).getD f default).total = (l.getD f default).total := by
  rw [List.getD_eq_getElem?_getD, List.getD_eq_getElem?_getD, List.getElem?_map]
  cases l[f]? with
  | none => rfl
  | some x => exact hg x

theorem residueWords_of_totals {m n : Meter} (hbase : n.base = m.base) (hseq : n.baseSeq = m.baseSeq) (hcount : n.baseN = m.baseN)
    (htotal : ∀ f, (n.feeders.getD f default).total = (m.feeders.getD f default).total) : residueWords n = residueWords m := by
  unfold residueWords
  simp only [hbase, hseq, hcount, htotal]

theorem noteStep_residue (s : State) : (noteStep s).rtc = s.rtc ∧ residueWords (noteStep s).mtr = residueWords s.mtr := by
  unfold noteStep
  split
  · exact ⟨rfl, rfl⟩
  · refine ⟨rfl, residueWords_of_totals rfl rfl rfl fun f => getD_map_total (fun x => ?_) f⟩
    split <;> rfl

/-- The feeders over the cycle that ends, with the energies of each (R332). -/
def cycleFeeders (c : List FeederCycle) (s : State) : State × List (List Energies) :=
  (List.range 4).foldl (fun (a : State × List (List Energies)) f =>
    if (feeder a.1 f).cfg.enable && !s.mtr.discard then
      let (s', e) := feederCycle f (cycOf s - 1) (s.clk.ticks - s.mtr.tick) (c.getD f ⟨[], []⟩) a.1
      (s', a.2 ++ [e])
    else (a.1, a.2 ++ [[]])) (closeAll (if s.mtr.reload then reloadMeter s else s), [])

/-- The feeders' cycle leaves the clock, Tether and the RTC alone. -/
theorem keeps_cycleFeeders (c : List FeederCycle) (s : State) : Keeps 0xFFFFFFFBF7FF s (cycleFeeders c s).1 := by
  have hstart : Keeps 0xFFFFFFFBF7FF s (closeAll (if s.mtr.reload then reloadMeter s else s)) := by
    refine keeps_closeAll _ rfl ?_
    split
    · exact keeps_reloadMeter _ rfl (Keeps.refl _ s)
    · exact Keeps.refl _ s
  refine List.foldlRecOn (List.range 4) _ (motive := fun a : State × List (List Energies) => Keeps 0xFFFFFFFBF7FF s a.1) hstart fun a ha f _ => ?_
  dsimp only
  split
  · exact keeps_feederCycle f _ _ _ a.1 rfl ha
  · exact ha

/-- The end of a cycle, once its feeders are done: the new latch, the pulses, the residue and a written RTC. -/
def endCycle (ticks : Nat) (p : State × List (List Energies)) : State :=
  noteStep (writeResidue (accountPulses p.2 ticks (latchCycle { p.1 with mtr := { p.1.mtr with discard := false } })))

theorem endCycle_latch (ticks : Nat) (p : State × List (List Energies)) : (endCycle ticks p).mtr.cyc = some (cycOf p.1) ∧
    (endCycle ticks p).mtr.latch = (p.1.rtc.sec, p.1.rtc.frac, rtcFlags p.1.rtc) :=
  ((accountPulses_latch p.2 ticks (latchCycle { p.1 with mtr := { p.1.mtr with discard := false } })).trans
    (writeResidue_latch _)).trans (noteStep_latch _)

theorem endCycle_residue (ticks : Nat) (p : State × List (List Energies)) :
    (endCycle ticks p).rtc.residue = some (residueWords (endCycle ticks p).mtr) := by
  unfold endCycle
  generalize accountPulses p.2 ticks _ = t
  rw [(noteStep_residue (writeResidue t)).1, (noteStep_residue (writeResidue t)).2, writeResidue_residue]

theorem cycleFeeders_times (c : List FeederCycle) (s : State) : cycOf (cycleFeeders c s).1 = cycOf s ∧ (cycleFeeders c s).1.rtc = s.rtc := by
  have htt : (cycleFeeders c s).1.tt = s.tt := (keeps_cycleFeeders c s).get 4 rfl
  exact ⟨congrArg (fun t : Tether => t.tt / 4096) htt, (keeps_cycleFeeders c s).get 7 rfl⟩

theorem exec_meterCycleEnd_closes {c : List FeederCycle} {last : Nat} (hruns : mtrRuns s = true) (hrun : s.tt.running = true)
    (hcyc : s.mtr.cyc = some last) (hlast : last < cycOf s) : ∃ t, exec (.meterCycleEnd c) s = .next t ∧ t.mtr.cyc = some (cycOf s) ∧
      t.mtr.latch = (s.rtc.sec, s.rtc.frac, rtcFlags s.rtc) ∧ t.rtc.residue = some (residueWords t.mtr) ∧
      OnlyChanges [.rtc, .log, .mtr] s t := by
  have hexec : exec (.meterCycleEnd c) s = .next (endCycle (s.clk.ticks - s.mtr.tick) (cycleFeeders c s)) := by
    unfold exec execMeterCycleEnd
    simp only [hruns, hrun, hcyc, Nat.not_le.2 hlast, Bool.and_true, Bool.not_true, Bool.false_eq_true, if_false]
    unfold cycleFeeders
    generalize List.foldl _ _ (List.range 4) = p
    rfl
  obtain ⟨hcyc', hlatch⟩ := endCycle_latch (s.clk.ticks - s.mtr.tick) (cycleFeeders c s)
  rw [(cycleFeeders_times c s).1] at hcyc'
  rw [(cycleFeeders_times c s).2] at hlatch
  exact ⟨_, hexec, hcyc', hlatch, endCycle_residue _ _,
    only_of_keeps (keeps_execMeterCycleEnd c s _ hexec) (by decide)⟩

theorem exec_meterCycleEnd_early {c : List FeederCycle} {last : Nat} (hcyc : s.mtr.cyc = some last) (hlast : cycOf s ≤ last) :
    exec (.meterCycleEnd c) s = .next s := by
  unfold exec execMeterCycleEnd
  simp only [hcyc, hlast, if_true, ite_self]

/-! ### Inputs (R335) -/

theorem exec_evMeterOverrange_one {k d f ch : Nat} (hruns : mtrRuns s = true) (hon : (s.mtr.inputs.getD k default).enable = true)
    (hd : 9500 < d ∨ d < 500) (hserved : servedBy s k = [(f, ch)]) :
    exec (.evMeterOverrange k d) s = .next (logLim evMeterOverrange f (fun n => [wd f, wd ch, wd n]) (flagInterval qOverrange f s)) := by
  have hout : (decide (9500 < d) || decide (d < 500)) = true := by simpa using hd
  unfold exec execEvMeterOverrange
  simp only [hruns, hon, hout, hserved, Bool.and_true, if_true, List.foldl_cons, List.foldl_nil]

theorem exec_evMeterOverrange_within {k d : Nat} (hlo : 500 ≤ d) (hhi : d ≤ 9500) : exec (.evMeterOverrange k d) s = .next s :=
  congrArg Host.Outcome.next (if_neg (by
    rw [decide_eq_false (Nat.not_lt.2 hhi), decide_eq_false (Nat.not_lt.2 hlo), Bool.or_false, Bool.and_false]
    exact Bool.false_ne_true))

theorem foldl_flagInterval_faults (l : List (Nat × Nat)) (u : State) :
    (l.foldl (fun s x => flagInterval qFault x.1 s) u).mtr.faults = u.mtr.faults :=
  List.foldlRecOn l _ (motive := fun t : State => t.mtr.faults = u.mtr.faults) rfl fun _ ht _ _ => ht

theorem exec_evMeterInputFault_marks {k idle : Nat} {locked : Bool} (hruns : mtrRuns s = true)
    (hon : (s.mtr.inputs.getD k default).enable = true) (hidle : 256 ≤ idle) (hok : s.mtr.faults.testBit k = false) :
    ∃ t, exec (.evMeterInputFault k idle locked) s = .next t ∧ t.mtr.faults = setBit s.mtr.faults k true ∧
      OnlyChanges [.mtr, .log] s t := by
  have hfault : (decide (256 ≤ idle) || (s.mtr.inputs.getD k default).manch && !locked) = true := by
    rw [decide_eq_true hidle, Bool.true_or]
  have hexec : exec (.evMeterInputFault k idle locked) s = .next ((servedBy s k).foldl (fun s x => flagInterval qFault x.1 s)
      (logEv evMeterInputFault k [wd k, wd (b2n (!true))] { s with mtr := { s.mtr with faults := setBit s.mtr.faults k true } })) := by
    unfold exec execEvMeterInputFault
    simp only [hruns, hon, hfault, hok, Bool.and_true, Bool.false_bne, if_true]
  exact ⟨_, hexec, foldl_flagInterval_faults _ _, only_of_keeps (keeps_execEvMeterInputFault k idle locked s _ hexec) (by decide)⟩

theorem exec_evMeterInputFault_good {k idle : Nat} (hidle : idle < 256) (hok : s.mtr.faults.testBit k = false) :
    exec (.evMeterInputFault k idle true) s = .next s :=
  congrArg Host.Outcome.next (if_neg (by
    rw [hok, decide_eq_false (Nat.not_le.2 hidle), Bool.not_true, Bool.and_false, Bool.or_false, bne_self_eq_false, Bool.and_false]
    exact Bool.false_ne_true))

/-! ### Intervals (R339 to R341) -/

theorem exec_intervalClose_behind (h : tlAhead s (s.mtr.cyc.getD 0 * 4096) 4 = true) : exec .intervalClose s = .next s :=
  congrArg Host.Outcome.next (if_pos (by rw [h, Bool.or_true]))

theorem closeDue_none (h : ∀ f < 4, closeDue s f = none) : ((List.range 4).filter fun f => (closeDue s f).isSome) = [] := by
  refine List.filter_eq_nil_iff.2 fun f hf => ?_
  rw [h f (List.mem_range.1 hf)]
  exact Bool.false_ne_true

theorem judgeDue_records (s : State) (f : Nat) : (judgeDue s f).mtr.cut = s.mtr.cut ∧ (judgeDue s f).mtr.ring = s.mtr.ring := by
  unfold judgeDue
  split
  · exact ⟨rfl, rfl⟩
  · dsimp only
    split <;> exact ⟨rfl, rfl⟩

theorem foldl_judgeDue_records (l : List Nat) (s : State) : (l.foldl judgeDue s).mtr.cut = s.mtr.cut ∧ (l.foldl judgeDue s).mtr.ring = s.mtr.ring :=
  List.foldlRecOn l judgeDue (motive := fun t : State => t.mtr.cut = s.mtr.cut ∧ t.mtr.ring = s.mtr.ring) ⟨rfl, rfl⟩ fun t ht f _ =>
    ⟨(judgeDue_records t f).1.trans ht.1, (judgeDue_records t f).2.trans ht.2⟩

/-- The records cut moved to the ring, which keeps its newest 65,536 (R341). -/
def storeCut (s : State) : State := { s with mtr := { s.mtr with
  cut := []
  ring := (s.mtr.ring ++ s.mtr.cut).drop (s.mtr.ring.length + s.mtr.cut.length - 65536) } }

theorem storeCut_records (s : State) : (storeCut s).mtr.cut = [] ∧
    (storeCut s).mtr.ring = (s.mtr.ring ++ s.mtr.cut).drop (s.mtr.ring.length + s.mtr.cut.length - 65536) := by
  simp only [storeCut, and_self]

theorem pruneReports_records (s : State) : (pruneReports s).mtr.cut = s.mtr.cut ∧ (pruneReports s).mtr.ring = s.mtr.ring := ⟨rfl, rfl⟩

theorem exec_intervalClose_keeps (hwin : s.upd.windowOpen = false) (halive : windowAlive s = true)
    (hahead : tlAhead s (s.mtr.cyc.getD 0 * 4096) 4 = false) (hdue : ∀ f < 4, closeDue s f = none) (hcut : s.mtr.cut ≠ []) :
    ∃ t, exec .intervalClose s = .next t ∧ t.mtr.cut = [] ∧
      t.mtr.ring = (s.mtr.ring ++ s.mtr.cut).drop (s.mtr.ring.length + s.mtr.cut.length - 65536) := by
  have hexec : exec .intervalClose s = .next (pruneReports ((s.mtr.cut.map fun r => fld (wAt r 2) 23 22).foldl judgeDue (storeCut s))) := by
    unfold exec execIntervalClose
    simp only [hwin, halive, hahead, closeDue_none hdue, List.foldl_nil, List.isEmpty_eq_false_iff.2 hcut, Bool.not_true, Bool.or_false,
      Bool.false_eq_true, if_false]
    rfl
  obtain ⟨hcut', hring⟩ := foldl_judgeDue_records (s.mtr.cut.map fun r => fld (wAt r 2) 23 22) (storeCut s)
  obtain ⟨hnone, hstored⟩ := storeCut_records s
  obtain ⟨hprune, hpruned⟩ := pruneReports_records ((s.mtr.cut.map fun r => fld (wAt r 2) 23 22).foldl judgeDue (storeCut s))
  exact ⟨_, hexec, hprune.trans (hcut'.trans hnone), hpruned.trans (hring.trans hstored)⟩

theorem exec_intervalClose_none (hdue : ∀ f < 4, closeDue s f = none) (hcut : s.mtr.cut = []) : exec .intervalClose s = .next s := by
  unfold exec execIntervalClose
  simp only [closeDue_none hdue, List.foldl_nil, hcut, List.isEmpty_nil, if_true, ite_self]

/-! ### Saves (R344) -/

theorem trySave_done {fails : Nat} (trigger : Nat) (h : fails < 3) :
    (trySave trigger fails s).mtr.saves.head? = some (saveNow s.mtr s.tt.reserve.epoch) ∧ (trySave trigger fails s).mtr.saveDue = false ∧
    (trySave trigger fails s).mtr.lastSave = s.clk.ticks ∧ (trySave trigger fails s).mtr.rebase = true ∧
    (trySave trigger fails s).mtr.retryAt = none ∧ (trySave trigger fails s).log = s.log := by
  unfold trySave
  rw [if_pos h]
  obtain ⟨n, hn⟩ : ∃ n, 256 - fails = n + 1 := ⟨255 - fails, by omega⟩
  rw [hn]
  exact ⟨rfl, rfl, rfl, rfl, rfl, rfl⟩

theorem trySave_failed {fails : Nat} (trigger : Nat) (h : 3 ≤ fails) : (trySave trigger fails s).mtr.saves = s.mtr.saves.take 253 ∧
    (trySave trigger fails s).mtr.retryAt = some (s.clk.ticks + 60 * 40000000) := by
  unfold trySave
  simp only [Nat.not_lt.2 h, if_false]
  exact ⟨rfl, rfl⟩

theorem exec_meterSave_tries (fails : Nat) (hruns : mtrRuns s = true) (hcyc : s.mtr.cyc ≠ none) (hwin : s.upd.windowOpen = false)
    (hdue : s.mtr.saveDue = true ∨ s.mtr.lastSave + s.mtr.global.saveMin * 60 * 40000000 ≤ s.clk.ticks) :
    ∃ trigger, exec (.meterSave fails) s = .next (trySave trigger fails s) := by
  have hsome : s.mtr.cyc.isSome = true := Option.isSome_iff_ne_none.2 hcyc
  unfold exec execMeterSave
  simp only [hruns, hsome, hwin, Bool.not_false, Bool.and_true, if_true]
  cases hnow : s.mtr.saveDue with
  | true => exact ⟨3, by simp only [if_true]⟩
  | false =>
    rw [hnow] at hdue
    exact ⟨0, by simp only [Bool.false_eq_true, if_false, hdue.resolve_left Bool.false_ne_true, if_true]⟩

theorem exec_meterSave_saves (fails : Nat) (hruns : mtrRuns s = true) (hcyc : s.mtr.cyc ≠ none) (hwin : s.upd.windowOpen = false)
    (hdue : s.mtr.saveDue = true ∨ s.mtr.lastSave + s.mtr.global.saveMin * 60 * 40000000 ≤ s.clk.ticks) :
    (fails < 3 → ∃ t, exec (.meterSave fails) s = .next t ∧ t.mtr.saves.head? = some (saveNow s.mtr s.tt.reserve.epoch) ∧
      t.mtr.saveDue = false ∧ t.mtr.lastSave = s.clk.ticks ∧ t.mtr.rebase = true ∧ t.log = s.log) ∧
    (3 ≤ fails → ∃ t, exec (.meterSave fails) s = .next t ∧ t.mtr.saves = s.mtr.saves.take 253 ∧
      t.mtr.retryAt = some (s.clk.ticks + 60 * 40000000)) := by
  obtain ⟨trigger, hexec⟩ := exec_meterSave_tries fails hruns hcyc hwin hdue
  refine ⟨fun h => ?_, fun h => ⟨_, hexec, trySave_failed trigger h⟩⟩
  obtain ⟨hsaves, hnone, hlast, hrebase, -, hlog⟩ := trySave_done (s := s) trigger h
  exact ⟨_, hexec, hsaves, hnone, hlast, hrebase, hlog⟩

theorem exec_meterSaveRetry_saves {fails c : Nat} (hc : s.mtr.retryAt = some c) (hdue : c ≤ s.clk.ticks) (hruns : mtrRuns s = true)
    (h : fails < 3) : ∃ t, exec (.meterSaveRetry fails) s = .next t ∧
      t.mtr.saves.head? = some (saveNow s.mtr s.tt.reserve.epoch) ∧ t.mtr.retryAt = none := by
  have hexec : exec (.meterSaveRetry fails) s = .next (trySave 4 fails s) := by
    unfold exec execMeterSaveRetry
    simp only [hc, hruns, hdue, decide_true, Bool.and_self, if_true]
  obtain ⟨hsaves, -, -, -, hretry, -⟩ := trySave_done (s := s) 4 h
  exact ⟨_, hexec, hsaves, hretry⟩

theorem exec_meterSaveRetry_none (fails : Nat) (hc : s.mtr.retryAt = none) : exec (.meterSaveRetry fails) s = .next s := by
  unfold exec execMeterSaveRetry
  simp only [hc]

/-! ### Pulses (R343) -/

/-- A pulse begun: one fewer is owed, and the high and the low time follow. -/
def beginPulse (p : PulseOut) (ticks : Nat) : PulseOut := { p with
  owed := p.owed - 1
  highTo := ticks + p.w
  lowTo := ticks + 2 * p.w }

theorem exec_pulseStart_starts {k : Nat} (hruns : mtrRuns s = true) (hk : k < s.mtr.pulses.length)
    (hon : (s.mtr.pulses.getD k default).enable = true) (howed : 1 ≤ (s.mtr.pulses.getD k default).owed)
    (hlow : (s.mtr.pulses.getD k default).lowTo ≤ s.clk.ticks) :
    ∃ t, exec (.pulseStart k) s = .next t ∧ (t.mtr.pulses.getD k default).owed = (s.mtr.pulses.getD k default).owed - 1 ∧
      (t.mtr.pulses.getD k default).highTo = s.clk.ticks + (s.mtr.pulses.getD k default).w ∧
      (t.mtr.pulses.getD k default).lowTo = s.clk.ticks + 2 * (s.mtr.pulses.getD k default).w ∧ OnlyChanges [.mtr] s t := by
  have hexec : exec (.pulseStart k) s = .next { s with mtr := { s.mtr with
      pulses := updAt s.mtr.pulses k fun p => beginPulse p s.clk.ticks } } :=
    congrArg Host.Outcome.next (if_pos (by rw [hruns, hon, decide_eq_true howed, decide_eq_true hlow]; rfl))
  have hself : (updAt s.mtr.pulses k fun p => beginPulse p s.clk.ticks).getD k default = beginPulse (s.mtr.pulses.getD k default) s.clk.ticks :=
    getD_updAt_self _ _ hk
  exact ⟨_, hexec, congrArg PulseOut.owed hself, congrArg PulseOut.highTo hself, congrArg PulseOut.lowTo hself,
    only_of_keeps (keeps_execPulseStart k s _ hexec) (by decide)⟩

theorem exec_pulseStart_rests {k : Nat}
    (h : (s.mtr.pulses.getD k default).owed = 0 ∨ s.clk.ticks < (s.mtr.pulses.getD k default).lowTo) : exec (.pulseStart k) s = .next s := by
  refine congrArg Host.Outcome.next (if_neg ?_)
  rcases h with h | h
  · rw [h]
    simp
  · rw [decide_eq_false (Nat.not_le.2 h), Bool.and_false]
    exact Bool.false_ne_true

/-! ### Calibrations (R338) -/

/-- A feeder once a calibration has been applied. -/
def calibrated (c : CalRun) (cyc : Nat) (x : Feeder) : Feeder := { x with
  coef := updAt x.coef (c.phase - 1) fun _ => c.coef
  cal := none
  calMark := some cyc }

theorem exec_meterCalApply_applies {e : TlEntry} {f : Nat} {c : CalRun} (hcyc : s.mtr.cyc = some (cycOf s)) (hdue : Due e s)
    (hkind : e.kind = .calApply f) (hf : f < s.mtr.feeders.length) (hc : (feeder s f).cal = some c) :
    ∃ u, exec .meterCalApply s = .next (complete c.org stOk
        ([c.word3, wd c.target] ++ coefWords ((feeder s f).coef.getD (c.phase - 1) default)) u) ∧
      (feeder u f).coef = updAt (feeder s f).coef (c.phase - 1) (fun _ => c.coef) ∧ (feeder u f).cal = none ∧
      (feeder u f).calMark = some (cycOf s) := by
  let s1 := onFeeder f (calibrated c (cycOf s)) (tlRemove e.seq s)
  let u := logEv evMeterCal c.org.port.val ([wd c.org.port.val, wd f, wd c.phase, wd c.mode] ++
    coefWords ((feeder s f).coef.getD (c.phase - 1) default) ++ coefWords c.coef ++ [wd c.target]) (markStored 0x0B (stopAct 5 f s1))
  have hself : feeder u f = calibrated c (cycOf s) (feeder s f) := feeder_onFeeder_self (s := tlRemove e.seq s) (calibrated c (cycOf s)) hf
  refine ⟨u, ?_, congrArg Feeder.coef hself, congrArg Feeder.cal hself, congrArg Feeder.calMark hself⟩
  have hnow : ¬ s.mtr.cyc.getD (cycOf s) < cycOf s := by rw [hcyc]; exact Nat.lt_irrefl _
  refine congrArg Host.Outcome.next ((if_neg hnow).trans ((tlFire_of_due hdue (by rw [hkind])).trans ?_))
  simp only [show (feeder (tlRemove e.seq s) f).cal = some c from hc]
  rfl

/-- What a measurement run answers after its first two words: its energies, means and cycles. -/
def calMeasured (c : CalRun) : List Word :=
  [ hi32 (ofSigned 64 (roundDiv c.p mtrMicro)), wd (ofSigned 64 (roundDiv c.p mtrMicro)), hi32 (ofSigned 64 (roundDiv c.q mtrMicro)),
    wd (ofSigned 64 (roundDiv c.q mtrMicro)), wd (c.vSum / Nat.max c.done 1), wd (c.iSum / Nat.max c.done 1), wd c.done ]

theorem exec_meterMeasureEnd_ends {f : Nat} {c : CalRun} (hf : f < s.mtr.feeders.length) (hc : (feeder s f).cal = some c)
    (hmode : c.mode = 1) (hdone : c.n ≤ c.done) :
    ∃ u ws, exec (.meterMeasureEnd f) s = .next (complete c.org stOk (c.word3 :: wd c.target :: ws) u) ∧ ws.length = 7 ∧
      (feeder u f).cal = none := by
  let u := stopAct 5 f (onFeeder f (fun x => { x with cal := none }) s)
  have hself : feeder u f = { feeder s f with cal := none } := feeder_onFeeder_self (s := s) (fun x => { x with cal := none }) hf
  have hexec : exec (.meterMeasureEnd f) s = .next (complete c.org stOk (c.word3 :: wd c.target :: calMeasured c) u) := by
    unfold exec execMeterMeasureEnd
    simp only [hc, hmode, hdone, decide_true, Bool.and_self, if_true]
    rfl
  exact ⟨u, calMeasured c, hexec, rfl, congrArg Feeder.cal hself⟩

theorem exec_meterMeasureEnd_early {f : Nat} {c : CalRun} (hc : (feeder s f).cal = some c) (hdone : c.done < c.n) :
    exec (.meterMeasureEnd f) s = .next s := by
  unfold exec execMeterMeasureEnd
  simp only [hc, Nat.not_le.2 hdone, decide_false, Bool.and_false, Bool.false_eq_true, if_false]

end

/-- Settles O46: a clause each of the lemmas above. -/
theorem meteringKeepsItsTimes : Obligations.MeteringKeepsItsTimes := by
  unfold Obligations.MeteringKeepsItsTimes
  intro s
  exact ⟨fun c last => exec_meterCycleEnd_closes, fun c last => exec_meterCycleEnd_early, fun k d f ch => exec_evMeterOverrange_one,
    fun k d => exec_evMeterOverrange_within, fun k idle locked => exec_evMeterInputFault_marks, fun k idle => exec_evMeterInputFault_good,
    exec_intervalClose_behind, exec_intervalClose_keeps, exec_intervalClose_none, exec_meterSave_saves,
    fun fails c => exec_meterSaveRetry_saves, exec_meterSaveRetry_none, fun k => exec_pulseStart_starts, fun k => exec_pulseStart_rests,
    fun e f c => exec_meterCalApply_applies, fun f c => exec_meterMeasureEnd_ends, fun f c => exec_meterMeasureEnd_early⟩

end Sys2Proof.Proofs
end

section
/-! PROOFS. The metering commands (O47). -/
namespace Sys2Proof.Proofs
open Sys2Proof Sys2Proof.Machine Sys2Proof.Laws

section
variable {r : Req} {s : State}

/-- An activity that nothing running forbids starts (R489). -/
theorem admitAct_free {act : Nat} (inst : Nat) (h : blockers s.bal act = []) : admitAct act inst s = .ok (startAct act inst s) := by
  unfold admitAct
  simp only [h, List.filter_nil, List.isEmpty_nil, List.foldl_nil, List.head?_nil]
  split <;> rfl

theorem admitReq_free {act : Nat} (inst : Nat) (r : Req) (k : State → State) (h : blockers s.bal act = []) :
    admitReq act inst r k s = k (startAct act inst s) := by
  unfold admitReq
  rw [admitAct_free inst h]

theorem exec_mtrRead (h : Runs 0x0903 chkMtrRead r s) : ∃ w ws, exec .mtrRead s = .next (ok r ([w] ++
      ttWords (s.mtr.cyc.getD (cycOf s) * 4096) ++
      [wd s.mtr.latch.1, packW [(s.mtr.latch.2.1, 16), (s.mtr.latch.2.2, 8), (s.mtr.latch.1 / 2 ^ 32 % 256, 0)]] ++
      regWords (feeder s (fld (r.w 3) 1 0)) ++ ws) (took r s)) ∧ ws.length = 17 := by
  have hact := serve_of_runs (act := actMtrRead) h
  unfold actMtrRead at hact
  simp only [List.append_assoc] at hact ⊢
  exact ⟨_, _, congrArg Host.Outcome.next hact, rfl⟩

theorem exec_mtrIntervals (h : Runs 0x0904 chkMtrIntervals r s) : ∃ a b c, exec .mtrIntervals s = .next (ok r ([a, b, c] ++
      ((s.mtr.ring.filter fun x => decide ((r.w 4).toNat ≤ recSeq x) &&
        (if fld (r.w 3) 3 0 = 0 then 15 else fld (r.w 3) 3 0).testBit (fld (wAt x 2) 23 22)).take 101).flatten) (took r s)) :=
  ⟨_, _, _, congrArg Host.Outcome.next (serve_of_runs h)⟩

/-- The nine words of a feeder's balance, zeros without one (R350). -/
def balanceWords (b : Option Balance) : List Word :=
  match b with
  | none => List.replicate 9 0
  | some b => [ packW [(b.result, 30), (b.quality, 0)], wd b.seq, wd b.startSec, wd (ofSigned 32 b.ef), wd (ofSigned 32 b.eEst),
      wd (ofSigned 32 b.d), packW [(b.nAll, 0)], packW [(b.nCov, 0)], wd (ofSigned 32 b.tol) ]

theorem length_balanceWords (b : Option Balance) : (balanceWords b).length = 9 := by
  cases b <;> rfl

theorem drop_take_balances {g : Nat → List Word} (hg : ∀ f, (g f).length = 9) {f : Nat} (hf : f < 4) :
    (((List.range 4).map g).flatten.drop (9 * f)).take 9 = g f := by
  have hflat : ((List.range 4).map g).flatten = g 0 ++ (g 1 ++ (g 2 ++ g 3)) := by simp [List.range_succ]
  rw [hflat]
  match f, hf with
  | 0, _ => rw [Nat.mul_zero, List.drop_zero, ← hg 0, List.take_left']; rfl
  | 1, _ => rw [List.drop_left' (hg 0), ← hg 1, List.take_left']; rfl
  | 2, _ => rw [← List.append_assoc, List.drop_left' (by rw [List.length_append, hg, hg]), ← hg 2, List.take_left']; rfl
  | 3, _ => rw [← List.append_assoc, ← List.append_assoc, List.drop_left' (by simp [hg]), ← hg 3, List.take_length]

theorem exec_mtrBalance (h : Runs 0x0907 chkMtrBalance r s) : ∃ ws, exec .mtrBalance s = .next
      (ok r (wd (maskOf 4 fun f => (feeder s f).balance.isSome) :: ws) (took r s)) ∧ ws.length = 36 ∧
    ∀ f < 4, (feeder s f).balance = none → (ws.drop (9 * f)).take 9 = List.replicate 9 0 := by
  refine ⟨((List.range 4).map fun f => balanceWords (feeder s f).balance).flatten, congrArg Host.Outcome.next (serve_of_runs h), ?_,
    fun f hf hnone => ?_⟩
  · simp [List.range_succ, length_balanceWords]
  · rw [drop_take_balances (fun f => length_balanceWords _) hf, hnone]
    rfl

/-- The calibration that MTR.CALIBRATE begins (R338). -/
def calRunOf (r : Req) (s : State) : CalRun :=
  ⟨r.origin, r.w 3, fld (r.w 3) 31 30, fld (r.w 3) 27 26, calCoef r, targetCyc r s,
    if fld (r.w 3) 31 30 = 1 then (r.w 4).toNat else 0, 0, 0, 0, 0, 0⟩

theorem exec_mtrCalibrate_starts (h : Runs 0x0906 chkMtrCalibrate r s) (hfree : blockers s.bal 5 = []) :
    exec .mtrCalibrate s = .next (startCal r (startAct 5 (fld (r.w 3) 29 28) (took r s))) :=
  congrArg Host.Outcome.next ((serve_of_runs h).trans (admitReq_free (s := took r s) _ r (startCal r) hfree))

theorem exec_mtrCalibrate_measures (h : Runs 0x0906 chkMtrCalibrate r s) (hfree : blockers s.bal 5 = [])
    (hf : fld (r.w 3) 29 28 < s.mtr.feeders.length) (hmode : fld (r.w 3) 31 30 = 1) :
    ∃ u c, exec .mtrCalibrate s = .next (acceptN r u) ∧ (feeder u (fld (r.w 3) 29 28)).cal = some c ∧
      c.n = (r.w 4).toNat ∧ c.done = 0 ∧ c.target = targetCyc r s ∧ u.tl = s.tl := by
  let u0 := onFeeder (fld (r.w 3) 29 28) (fun x => { x with cal := some (calRunOf r s) }) (startAct 5 (fld (r.w 3) 29 28) (took r s))
  let u := logEv evMeterCal r.port.val [wd r.port.val, wd (fld (r.w 3) 29 28), wd (fld (r.w 3) 27 26), wd (fld (r.w 3) 31 30), r.w 4,
    wd (targetCyc r s)] u0
  have hself : feeder u (fld (r.w 3) 29 28) = { feeder s (fld (r.w 3) 29 28) with cal := some (calRunOf r s) } :=
    feeder_onFeeder_self (s := startAct 5 (fld (r.w 3) 29 28) (took r s)) (fun x => { x with cal := some (calRunOf r s) }) hf
  exact ⟨u, calRunOf r s, (exec_mtrCalibrate_starts h hfree).trans (congrArg Host.Outcome.next (if_pos hmode)),
    congrArg Feeder.cal hself, if_pos hmode, rfl, rfl, rfl⟩

theorem exec_mtrCalibrate_posts (h : Runs 0x0906 chkMtrCalibrate r s) (hfree : blockers s.bal 5 = [])
    (hf : fld (r.w 3) 29 28 < s.mtr.feeders.length) (hmode : fld (r.w 3) 31 30 ≠ 1) (hroom : Room 0x0B s) :
    ∃ u c, exec .mtrCalibrate s = .next (acceptN r u) ∧ (feeder u (fld (r.w 3) 29 28)).cal = some c ∧ c.coef = calCoef r ∧
      c.target = targetCyc r s ∧
      u.tl.entries = s.tl.entries ++ [⟨targetCyc r s * 4096, 3, s.tl.nextSeq, 0x0B, false, .calApply (fld (r.w 3) 29 28), true⟩] := by
  let s1 := tlPut (targetCyc r s * 4096) 3 0x0B (.calApply (fld (r.w 3) 29 28)) true (startAct 5 (fld (r.w 3) 29 28) (took r s))
  have hpost : tlPost (targetCyc r s * 4096) 3 0x0B (.calApply (fld (r.w 3) 29 28)) (startAct 5 (fld (r.w 3) 29 28) (took r s)) = some s1 :=
    if_pos hroom
  have hact : startCal r (startAct 5 (fld (r.w 3) 29 28) (took r s)) =
      acceptN r (onFeeder (fld (r.w 3) 29 28) (fun x => { x with cal := some (calRunOf r s) }) s1) := by
    refine (if_neg hmode).trans ?_
    rw [show tlPost (targetCyc r (startAct 5 (fld (r.w 3) 29 28) (took r s)) * 4096) 3 0x0B (.calApply (fld (r.w 3) 29 28))
      (startAct 5 (fld (r.w 3) 29 28) (took r s)) = some s1 from hpost]
    rfl
  refine ⟨onFeeder (fld (r.w 3) 29 28) (fun x => { x with cal := some (calRunOf r s) }) s1, calRunOf r s,
    (exec_mtrCalibrate_starts h hfree).trans (congrArg Host.Outcome.next hact), ?_, rfl, rfl, ?_⟩
  · exact congrArg Feeder.cal (feeder_onFeeder_self (s := s1) (fun x => { x with cal := some (calRunOf r s) }) hf)
  · show s1.tl.entries = _
    unfold s1
    rw [tlPut_of_open_block (by omega)]
    rfl

end

/-- Settles O47: a clause each of the lemmas above. -/
theorem meteringCommandsAnswer : Obligations.MeteringCommandsAnswer := by
  unfold Obligations.MeteringCommandsAnswer
  intro r s
  exact ⟨exec_mtrRead, exec_mtrIntervals, exec_mtrBalance, fun h hfree hf =>
    ⟨exec_mtrCalibrate_measures h hfree hf, exec_mtrCalibrate_posts h hfree hf⟩⟩

end Sys2Proof.Proofs
end

section
/-! PROOFS. Member faults of the sign drive (O48). -/
namespace Sys2Proof.Proofs
open Sys2Proof Sys2Proof.Machine Sys2Proof.Laws

/-! ### Masks and tables -/

theorem add_two_pow_div_succ {m i : Nat} (h : m.testBit i = false) : (m + 2 ^ i) / 2 ^ (i + 1) = m / 2 ^ (i + 1) := by
  have heven : m / 2 ^ i % 2 = 0 := by simpa [Nat.testBit_eq_decide_div_mod_eq] using h
  rw [Nat.pow_succ, ← Nat.div_div_eq_div_mul, ← Nat.div_div_eq_div_mul, Nat.add_div_right _ (Nat.two_pow_pos i)]
  omega

theorem testBit_setBit_true (m i j : Nat) : (setBit m i true).testBit j = (m.testBit j || decide (j = i)) := by
  unfold setBit
  by_cases hset : m.testBit i = true
  · rw [if_pos hset]
    by_cases hj : j = i
    · rw [hj, hset, Bool.true_or]
    · rw [decide_eq_false hj, Bool.or_false]
  · rw [if_neg hset, if_pos rfl]
    have hclear : m.testBit i = false := Bool.eq_false_iff.2 hset
    rcases Nat.lt_trichotomy j i with hj | rfl | hj
    · rw [Nat.add_comm, Nat.testBit_two_pow_add_gt hj, decide_eq_false (by omega), Bool.or_false]
    · rw [Nat.add_comm, Nat.testBit_two_pow_add_eq, hclear, decide_eq_true rfl]
      rfl
    · obtain ⟨d, rfl⟩ := Nat.exists_eq_add_of_lt hj
      rw [decide_eq_false (by omega), Bool.or_false, show i + d + 1 = d + (i + 1) by omega, ← Nat.testBit_div_two_pow,
        ← Nat.testBit_div_two_pow, add_two_pow_div_succ hclear]

/-- A key written to a table takes the place of its old value, or stands where it had none. -/
theorem tset_place {α : Type} (t : Tbl α) (k : Nat) (v : α) :
    (∃ x l m, tget t k = some x ∧ t = l ++ (k, x) :: m ∧ tset t k v = l ++ (k, v) :: m) ∨
    (∃ l m, tget t k = none ∧ t = l ++ m ∧ tset t k v = l ++ (k, v) :: m) := by
  induction t with
  | nil => exact .inr ⟨[], [], rfl, rfl, rfl⟩
  | cons y t ih =>
    obtain ⟨k', v'⟩ := y
    unfold tset tget
    by_cases hk : k' = k
    · subst hk
      exact .inl ⟨v', [], t, if_pos rfl, rfl, if_pos rfl⟩
    · rw [if_neg hk, if_neg hk]
      by_cases hlt : k < k'
      · exact .inr ⟨[], (k', v') :: t, if_pos hlt, rfl, if_pos hlt⟩
      · rw [if_neg hlt, if_neg hlt]
        rcases ih with ⟨x, l, m, hget, ht, hset⟩ | ⟨l, m, hget, ht, hset⟩
        · exact .inl ⟨x, (k', v') :: l, m, hget, by rw [ht]; rfl, by rw [hset]; rfl⟩
        · exact .inr ⟨(k', v') :: l, m, hget, by rw [ht]; rfl, by rw [hset]; rfl⟩

theorem any_tset_new {α : Type} {p : Nat × α → Bool} (t : Tbl α) {k : Nat} {v : α} (h : p (k, v) = true) : (tset t k v).any p = true := by
  rcases tset_place t k v with ⟨x, l, m, -, -, hset⟩ | ⟨l, m, -, -, hset⟩ <;> rw [hset] <;> simp [h]

theorem any_tset_old {α : Type} {p : Nat × α → Bool} {t : Tbl α} {k : Nat} {v : α} (h : t.any p = true)
    (hv : ∀ x, tget t k = some x → p (k, x) = true → p (k, v) = true) : (tset t k v).any p = true := by
  rcases tset_place t k v with ⟨x, l, m, hget, ht, hset⟩ | ⟨l, m, -, ht, hset⟩
  · rw [ht] at h
    rw [hset]
    simp only [List.any_append, List.any_cons, Bool.or_eq_true] at h ⊢
    exact h.imp_right fun h => h.imp_left (hv x hget)
  · rw [ht] at h
    rw [hset]
    simp only [List.any_append, List.any_cons, Bool.or_eq_true] at h ⊢
    exact h.imp_right .inr

/-! ### Latches -/

/-- The members that a failed function records with a kind of fault. -/
def failedMask (x : Failed) (short : Bool) : Nat := if short then x.shortM else x.openM

/-- The members recorded with a kind of fault outside any function. -/
def looseMask (r : FailRecord) (short : Bool) : Nat := if short then r.looseShort else r.looseOpen

/-- A member is latched with a kind of fault. -/
def latchedAs (short : Bool) (r : FailRecord) (k : Nat) : Bool :=
  (looseMask r short).testBit k || r.fns.any fun x => (failedMask x.2 short).testBit k

theorem latchedM_iff (r : FailRecord) (k : Nat) : latchedM r k = true ↔ ∃ short, latchedAs short r k = true := by
  unfold latchedM
  rw [Bool.or_eq_true]
  exact ⟨fun h => h.elim (fun h => ⟨false, h⟩) fun h => ⟨true, h⟩, fun ⟨short, h⟩ => by
    cases short with
    | false => exact .inl h
    | true => exact .inr h⟩

/-- A function's record with one more faulty member. -/
def addMember (k : Nat) (short : Bool) (x : Failed) : Failed :=
  if short then { x with shortM := setBit x.shortM k true } else { x with openM := setBit x.openM k true }

theorem addMember_mask (k : Nat) (short kind : Bool) (x : Failed) (j : Nat) :
    (failedMask (addMember k short x) kind).testBit j = ((failedMask x kind).testBit j || (decide (kind = short) && decide (j = k))) := by
  cases short <;> cases kind
  case false.false => exact testBit_setBit_true x.openM k j
  case true.true => exact testBit_setBit_true x.shortM k j
  case false.true => exact (Bool.or_false _).symm
  case true.false => exact (Bool.or_false _).symm

/-! ### One function failed (R361) -/

/-- What a failure of members leaves of the sign drive: no failure and no latch is lost, and the record is due. -/
structure FailsMore (s t : State) : Prop where
  failed : ∀ n, fnFailed s.sgn n = true → fnFailed t.sgn n = true
  latched : ∀ short j, latchedAs short s.sgn.rec_ j = true → latchedAs short t.sgn.rec_ j = true
  fns : t.sgn.fns = s.sgn.fns

theorem FailsMore.refl (s : State) : FailsMore s s := ⟨fun _ h => h, fun _ _ h => h, rfl⟩

theorem FailsMore.trans {s t u : State} (h : FailsMore s t) (g : FailsMore t u) : FailsMore s u :=
  ⟨fun n hn => g.failed n (h.failed n hn), fun short j hj => g.latched short j (h.latched short j hj), g.fns.trans h.fns⟩

section
variable (k : Nat) (short : Bool) (s : State) (n : Nat)

/-- The record of a function that a member's fault makes fail. -/
def failedOf : Failed :=
  addMember k short ((tget s.sgn.rec_.fns n).getD ⟨((tget s.sgn.fns n).getD default).members, ((tget s.sgn.fns n).getD default).cut, 0, 0⟩)

theorem notifyBlock_sgn (block code : Nat) (payload : List Word) (s : State) : (notifyBlock block code payload s).sgn = s.sgn :=
  (keeps_notifyBlock block code payload s (mk := 0x80000) (s0 := s) rfl (Keeps.refl _ s)).get 19 rfl

theorem failFunction_sgn : (failFunction k short s n).sgn =
    (setRecord { s.sgn.rec_ with fns := tset s.sgn.rec_.fns n (failedOf k short s n) } s).sgn := by
  unfold failFunction failedOf
  cases hn : tget s.sgn.rec_.fns n with
  | some x =>
    simp only [hn]
    rfl
  | none =>
    simp only [hn]
    rw [notifyBlock_sgn]
    rfl

theorem failFunction_failed : fnFailed (failFunction k short s n).sgn n = true := by
  unfold fnFailed
  rw [failFunction_sgn]
  exact congrArg Option.isSome (tget_tset_self s.sgn.rec_.fns n _)

theorem failFunction_latched : latchedAs short (failFunction k short s n).sgn.rec_ k = true := by
  rw [failFunction_sgn]
  refine Bool.or_eq_true_iff.2 (.inr (any_tset_new s.sgn.rec_.fns ?_))
  show (failedMask (failedOf k short s n) short).testBit k = true
  unfold failedOf
  rw [addMember_mask]
  simp

theorem failFunction_more : FailsMore s (failFunction k short s n) := by
  constructor
  case failed =>
    intro m hm
    by_cases hmn : m = n
    · rw [hmn]
      exact failFunction_failed k short s n
    · unfold fnFailed at hm ⊢
      rw [failFunction_sgn]
      exact (congrArg Option.isSome (tget_tset_ne s.sgn.rec_.fns _ hmn)).trans hm
  case latched =>
    intro kind j hj
    rw [failFunction_sgn]
    refine Bool.or_eq_true_iff.2 ((Bool.or_eq_true_iff.1 hj).imp id fun hany => any_tset_old hany fun x hx hbit => ?_)
    show (failedMask (failedOf k short s n) kind).testBit j = true
    unfold failedOf
    rw [hx, addMember_mask]
    exact Bool.or_eq_true_iff.2 (.inl hbit)
  case fns =>
    rw [failFunction_sgn]
    rfl

theorem failFunction_dirty : (failFunction k short s n).sgn.dirty ≠ none := by
  rw [failFunction_sgn]
  exact Option.some_ne_none _

end

section
variable {k : Nat} {short : Bool} {s : State}

/-- Functions failed one after the other: each has failed, nothing is lost, and the member is latched. -/
theorem foldl_failFunction (l : List Nat) (s : State) : FailsMore s (l.foldl (failFunction k short) s) ∧
    (∀ n ∈ l, fnFailed (l.foldl (failFunction k short) s).sgn n = true) ∧
    (l ≠ [] → latchedAs short (l.foldl (failFunction k short) s).sgn.rec_ k = true ∧ (l.foldl (failFunction k short) s).sgn.dirty ≠ none) := by
  induction l generalizing s with
  | nil => exact ⟨.refl s, by simp, fun h => absurd rfl h⟩
  | cons n t ih =>
    obtain ⟨hmore, hfailed, hlatched⟩ := ih (failFunction k short s n)
    refine ⟨(failFunction_more k short s n).trans hmore, fun m hm => ?_, fun _ => ?_⟩
    · rcases List.mem_cons.1 hm with rfl | hm
      · exact hmore.failed _ (failFunction_failed k short s _)
      · exact hfailed m hm
    · cases t with
      | nil => exact ⟨failFunction_latched k short s n, failFunction_dirty k short s n⟩
      | cons m t => exact hlatched (List.cons_ne_nil m t)

/-- A member latched outside any function (R361). -/
def latchLoose (k : Nat) (short : Bool) (r : FailRecord) : FailRecord :=
  if short then { r with looseShort := setBit r.looseShort k true } else { r with looseOpen := setBit r.looseOpen k true }

theorem latchLoose_as (k : Nat) (short kind : Bool) (r : FailRecord) (j : Nat) :
    latchedAs kind (latchLoose k short r) j = (latchedAs kind r j || (decide (kind = short) && decide (j = k))) := by
  have hloose : (looseMask (latchLoose k short r) kind).testBit j = ((looseMask r kind).testBit j || (decide (kind = short) && decide (j = k))) := by
    cases short <;> cases kind
    case false.false => exact testBit_setBit_true r.looseOpen k j
    case true.true => exact testBit_setBit_true r.looseShort k j
    case false.true => exact (Bool.or_false _).symm
    case true.false => exact (Bool.or_false _).symm
  have hfns : (latchLoose k short r).fns = r.fns := by cases short <;> rfl
  unfold latchedAs
  rw [hloose, hfns, Bool.or_right_comm]

theorem latchLoose_fns (k : Nat) (short : Bool) (r : FailRecord) : (latchLoose k short r).fns = r.fns := by
  cases short <;> rfl

/-- The functions that a fault of a member makes fail: those that contain it, and the failed ones that did. -/
def faultyFns (k : Nat) (s : State) : List Nat :=
  let fns := (s.sgn.fns.filter fun x => x.2.members.testBit k).map Prod.fst
  fns ++ ((s.sgn.rec_.fns.filter fun x => x.2.members.testBit k).map Prod.fst).filter fun n => !fns.contains n

/-- The state before the duties of a member fault are set. -/
def faultMarked (k : Nat) (short : Bool) (s : State) : State :=
  if (faultyFns k s).isEmpty then logEv evSgnStringFault k [wd k, wd (b2n short)] (setRecord (latchLoose k short s.sgn.rec_) s)
  else (faultyFns k s).foldl (failFunction k short) s

theorem memberFault_eq (k : Nat) (short : Bool) (s : State) : memberFault k short s =
    recompute { faultMarked k short s with sgn := { (faultMarked k short s).sgn with changed := true } } := rfl

theorem faultMarked_marks (k : Nat) (short : Bool) (s : State) : FailsMore s (faultMarked k short s) ∧
    (∀ n ∈ faultyFns k s, fnFailed (faultMarked k short s).sgn n = true) ∧
    latchedAs short (faultMarked k short s).sgn.rec_ k = true ∧ (faultMarked k short s).sgn.dirty ≠ none := by
  unfold faultMarked
  split
  next hnone =>
    have hnil : faultyFns k s = [] := List.isEmpty_iff.1 hnone
    refine ⟨⟨fun n hn => ?_, fun kind j hj => ?_, rfl⟩, by simp [hnil], ?_, Option.some_ne_none _⟩
    · show (tget (latchLoose k short s.sgn.rec_).fns n).isSome = true
      rw [latchLoose_fns]
      exact hn
    · show latchedAs kind (latchLoose k short s.sgn.rec_) j = true
      rw [latchLoose_as, hj, Bool.true_or]
    · show latchedAs short (latchLoose k short s.sgn.rec_) k = true
      rw [latchLoose_as, decide_eq_true rfl, decide_eq_true rfl, Bool.and_self, Bool.or_true]
  next hsome =>
    obtain ⟨hmore, hfailed, hlatched⟩ := foldl_failFunction (k := k) (short := short) (faultyFns k s) s
    obtain ⟨hk, hdirty⟩ := hlatched fun h => hsome (List.isEmpty_iff.2 h)
    exact ⟨hmore, hfailed, hk, hdirty⟩

theorem dutyOf_zero (gain f : Nat) : dutyOf 0 gain f = 0 := by
  unfold dutyOf
  rw [Nat.zero_mul, Nat.zero_mul, Nat.zero_mul]

theorem dutiesNow_of_latched (h : latchedM s.sgn.rec_ k = true) : (dutiesNow s).getD k 0 = 0 := by
  unfold dutiesNow
  rw [List.getD_eq_getElem?_getD, List.getElem?_map]
  by_cases hk : k < 25
  · rw [List.getElem?_range hk]
    have hlevel : outLevel s.sgn (cycOf s) k = 0 := if_pos h
    show (if _ then dutyOf (outLevel s.sgn (cycOf s) k) _ _ else 0) = 0
    rw [hlevel, dutyOf_zero, ite_self]
  · rw [List.getElem?_eq_none (by simpa using hk)]
    rfl

theorem memberFault_marks (k : Nat) (short : Bool) (s : State) :
    (∀ x ∈ s.sgn.fns, x.2.members.testBit k = true → fnFailed (memberFault k short s).sgn x.1 = true) ∧
    (∀ n, fnFailed s.sgn n = true → fnFailed (memberFault k short s).sgn n = true) ∧
    latchedM (memberFault k short s).sgn.rec_ k = true ∧ (∀ j, latchedM s.sgn.rec_ j = true → latchedM (memberFault k short s).sgn.rec_ j = true) ∧
    (memberFault k short s).sgn.duty.getD k 0 = 0 ∧ (memberFault k short s).sgn.dirty ≠ none ∧ (memberFault k short s).sgn.fns = s.sgn.fns := by
  obtain ⟨hmore, hfailed, hk, hdirty⟩ := faultMarked_marks k short s
  have hlatched : latchedM (faultMarked k short s).sgn.rec_ k = true := (latchedM_iff _ k).2 ⟨short, hk⟩
  rw [memberFault_eq]
  refine ⟨fun x hx hbit => hfailed x.1 ?_, hmore.failed, hlatched, fun j hj => ?_, ?_, hdirty, hmore.fns⟩
  · exact List.mem_append_left _ (List.mem_map_of_mem (List.mem_filter.2 ⟨hx, hbit⟩))
  · obtain ⟨kind, hkind⟩ := (latchedM_iff _ j).1 hj
    exact (latchedM_iff _ j).2 ⟨kind, hmore.latched kind j hkind⟩
  · exact dutiesNow_of_latched (s := { faultMarked k short s with sgn := { (faultMarked k short s).sgn with changed := true } }) hlatched

/-! ### Qualification (R359, R360) -/

theorem threeOf_few {α : Type} (test : α → Bool) {l : List α} (h : l.length < 3) : threeOf test l = false := by
  unfold threeOf
  rw [decide_eq_false (Nat.not_le.2 h), Bool.false_and]

theorem exec_stringFault_watched {ps : List StringPeriod} (hk : k < 16) (hwatched : watched s k = true) :
    exec (.stringFault k ps) s = .next
      (if threeOf (stringShort (s.sgn.strings.getD k default)) ps then memberFault k true s
       else if threeOf (stringOpen (s.sgn.strings.getD k default)) ps then memberFault k false s else s) :=
  congrArg Host.Outcome.next (if_pos (by rw [decide_eq_true hk, hwatched]; rfl))

theorem exec_stringFault (ps : List StringPeriod) (hk : k < 16) (hwatched : watched s k = true) :
    (threeOf (stringShort (s.sgn.strings.getD k default)) ps = true → exec (.stringFault k ps) s = .next (memberFault k true s)) ∧
    (threeOf (stringShort (s.sgn.strings.getD k default)) ps = false → threeOf (stringOpen (s.sgn.strings.getD k default)) ps = true →
      exec (.stringFault k ps) s = .next (memberFault k false s)) ∧
    (ps.length < 3 → exec (.stringFault k ps) s = .next s) := by
  rw [exec_stringFault_watched hk hwatched]
  refine ⟨fun hshort => ?_, fun hshort hopen => ?_, fun hfew => ?_⟩
  · rw [hshort]
    rfl
  · rw [hshort, hopen]
    rfl
  · rw [threeOf_few _ hfew, threeOf_few _ hfew]
    rfl

theorem exec_stringFault_unwatched (ps : List StringPeriod) (h : watched s k = false) : exec (.stringFault k ps) s = .next s :=
  congrArg Host.Outcome.next (if_neg (by rw [h, Bool.and_false]; exact Bool.false_ne_true))

/-- A sink's period shows SHORT (R360). -/
def sinkShort (p : SinkPeriod) : Bool := decide (0 < p.onNs) && decide (6000 < p.padMv)

theorem exec_sinkFault_watched {ps : List SinkPeriod} (hk : k < 8) (hwatched : watched s (16 + k) = true) :
    exec (.sinkFault k ps) s = .next
      (if threeOf sinkShort ps then memberFault (16 + k) true s
       else if threeOf (sinkOpen (s.sgn.sinks.getD k default)) ps then memberFault (16 + k) false s else s) :=
  congrArg Host.Outcome.next (if_pos (by rw [decide_eq_true hk, hwatched]; rfl))

theorem exec_sinkFault (ps : List SinkPeriod) (hk : k < 8) (hwatched : watched s (16 + k) = true) :
    (threeOf sinkShort ps = true → exec (.sinkFault k ps) s = .next (memberFault (16 + k) true s)) ∧
    (threeOf sinkShort ps = false → threeOf (sinkOpen (s.sgn.sinks.getD k default)) ps = true →
      exec (.sinkFault k ps) s = .next (memberFault (16 + k) false s)) := by
  rw [exec_sinkFault_watched hk hwatched]
  refine ⟨fun hshort => ?_, fun hshort hopen => ?_⟩
  · rw [hshort]
    rfl
  · rw [hshort, hopen]
    rfl

end

/-- Settles O48: what each failed function keeps, by induction on the functions that fail, and the qualification of a fault. -/
theorem aMemberFaultFailsEveryFunction : Obligations.AMemberFaultFailsEveryFunction := by
  unfold Obligations.AMemberFaultFailsEveryFunction
  intro s k
  exact ⟨fun short => memberFault_marks k short s, fun ps => exec_stringFault ps, exec_stringFault_unwatched, fun ps => exec_sinkFault ps⟩

end Sys2Proof.Proofs
end

section
/-! PROOFS. The events of the sign drive (O49). -/
namespace Sys2Proof.Proofs
open Sys2Proof Sys2Proof.Machine Sys2Proof.Laws

section
variable {s : State}

/-! ### Duties, levels and the failure record -/

theorem recompute_duty (s : State) : (recompute s).sgn.duty = dutiesNow (recompute s) := rfl

/-- What the duties of a cycle are computed from: its boundary and the currents measured (R356). -/
def cycleBegun (cur : List Nat) (s : State) : State := { s with sgn := { s.sgn with
  lastCyc := some (cycOf s)
  current := cur } }

/-- The short on-times in a row of the strings (R359). -/
def untestedNow (s : State) : List Nat := (List.range 16).map fun k =>
  if outEnabled s.sgn k && decide (onTicks s (s.sgn.duty.getD k 0) < 640) then Nat.min 4096 (s.sgn.untested.getD k 0 + 1) else 0

theorem exec_sgnCycleUpdate_sets (cur : List Nat) (hup : sgnUp s = true) (hnew : ∀ c, s.sgn.lastCyc = some c → c < cycOf s) :
    ∃ t, exec (.sgnCycleUpdate cur) s = .next t ∧ t.sgn.lastCyc = some (cycOf s) ∧ t.sgn.current = cur ∧ t.sgn.duty = dutiesNow s ∧
      OnlyChanges [.sgn] s t := by
  have hexec : exec (.sgnCycleUpdate cur) s = .next { recompute (cycleBegun cur s) with
      sgn := { (recompute (cycleBegun cur s)).sgn with untested := untestedNow (recompute (cycleBegun cur s)) } } := by
    unfold exec execSgnCycleUpdate
    cases hlast : s.sgn.lastCyc with
    | none =>
      simp only [hup, Bool.not_true, Bool.or_false, Bool.false_eq_true, if_false]
      rfl
    | some c =>
      simp only [hup, Nat.not_le.2 (hnew c hlast), decide_false, Bool.not_true, Bool.or_false, Bool.false_eq_true, if_false]
      rfl
  exact ⟨_, hexec, rfl, rfl, rfl, only_of_keeps (keeps_execSgnCycleUpdate cur s _ hexec) (by decide)⟩

theorem exec_sgnCycleUpdate_early {cur : List Nat} {c : Nat} (hlast : s.sgn.lastCyc = some c) (hc : cycOf s ≤ c) :
    exec (.sgnCycleUpdate cur) s = .next s := by
  unfold exec execSgnCycleUpdate
  simp only [hlast, hc, decide_true, Bool.or_true, if_true]

theorem exec_failureRecordWrite {f0 f1 d : Nat} (hdirty : s.sgn.dirty = some d) (hruns : fwRuns s = true) :
    ((norWrite 5 f0 f1 s).2 = true → ∃ t, exec (.failureRecordWrite f0 f1) s = .next t ∧ t.sgn.nor = s.sgn.rec_ ∧ t.sgn.dirty = none) ∧
    ((norWrite 5 f0 f1 s).2 = false → ∃ t, exec (.failureRecordWrite f0 f1) s = .next t ∧ t.sgn = s.sgn) := by
  have hsgn : (norWrite 5 f0 f1 s).1.sgn = s.sgn := (keeps_norWrite 5 f0 f1 s (mk := 0x80000) (s0 := s) rfl (Keeps.refl _ s)).get 19 rfl
  have hguard : (s.sgn.dirty.isSome && fwRuns s) = true := by rw [hdirty, hruns]; rfl
  refine ⟨fun hgood => ⟨_, congrArg Host.Outcome.next ((if_pos hguard).trans (if_pos hgood)), congrArg Sign.rec_ hsgn, rfl⟩,
    fun hbad => ⟨_, congrArg Host.Outcome.next ((if_pos hguard).trans (if_neg (Bool.eq_false_iff.1 hbad))), hsgn⟩⟩

theorem exec_sgnLevelApply_applies {e : TlEntry} {fn l : Nat} (hdue : Due e s) (hkind : e.kind = .sgnLevel fn l) :
    ∃ t, exec .sgnLevelApply s = .next t ∧ t.sgn.levels = updAt s.sgn.levels fn (fun _ => l) ∧ t.sgn.duty = dutiesNow t ∧
      OnlyChanges [.tl, .sgn] s t := by
  have hexec : exec .sgnLevelApply s = .next (recompute { tlRemove e.seq s with sgn := { s.sgn with
      levels := updAt s.sgn.levels fn fun _ => l } }) :=
    congrArg Host.Outcome.next ((tlFire_of_due hdue (by rw [hkind])).trans rfl)
  exact ⟨_, hexec, rfl, recompute_duty _, only_of_keeps (keeps_execSgnLevelApply s _ hexec) (by decide)⟩

/-! ### The matrix (R366, R367) -/

/-- The sign drive after the latch pulse of a flip. -/
theorem latchFlip_latches (late timeout : Bool) (s : State) : (latchFlip late timeout s).sgn.shown = !s.sgn.shown ∧
    (latchFlip late timeout s).sgn.flip = none ∧ (latchFlip late timeout s).sgn.lastLatch = cycOf s ∧
    (latchFlip late timeout s).sgn.shiftEnd = s.sgn.shiftEnd ∧ (latchFlip late timeout s).sgn.lastSync = s.sgn.lastSync ∧
    (latchFlip late timeout s).sgn.syncTimeouts = s.sgn.syncTimeouts := by
  unfold latchFlip
  dsimp only
  rw [notifyBlock_sgn]
  exact ⟨rfl, rfl, rfl, rfl, rfl, rfl⟩

theorem latchAt_idle {f : Flip} (timeout : Bool) (hf : s.sgn.flip = some f) (hshift : s.sgn.shiftEnd = none) :
    latchAt timeout s = latchFlip false timeout s := by
  unfold latchAt
  simp only [hf, hshift, Option.isNone_none, if_true]

theorem latchAt_shifting {f : Flip} {k : Nat} (timeout : Bool) (hf : s.sgn.flip = some f) (hshift : s.sgn.shiftEnd = some k) :
    latchAt timeout s = { s with sgn := { s.sgn with flip := some { f with due := true, timeout := timeout } } } := by
  unfold latchAt
  simp only [hf, hshift, Option.isNone_some, Bool.false_eq_true, if_false]

theorem exec_matrixLatch_entry {e : TlEntry} (hdue : Due e s) (hkind : e.kind = .sgnFlip) :
    exec (.matrixLatch none) s = .next (latchAt false (tlRemove e.seq s)) :=
  congrArg Host.Outcome.next ((tlFire_of_due hdue (by rw [hkind])).trans rfl)

theorem exec_matrixLatch_flips {e : TlEntry} {f : Flip} (hdue : Due e s) (hkind : e.kind = .sgnFlip) (hf : s.sgn.flip = some f)
    (hshift : s.sgn.shiftEnd = none) : ∃ t, exec (.matrixLatch none) s = .next t ∧ t.sgn.shown = !s.sgn.shown ∧ t.sgn.flip = none ∧
      t.sgn.lastLatch = cycOf s := by
  obtain ⟨hshown, hflip, hlatch, -⟩ := latchFlip_latches false false (tlRemove e.seq s)
  exact ⟨_, (exec_matrixLatch_entry hdue hkind).trans (congrArg Host.Outcome.next (latchAt_idle (s := tlRemove e.seq s) false hf hshift)),
    hshown, hflip, hlatch⟩

theorem exec_matrixLatch_waits {e : TlEntry} {f : Flip} {k : Nat} (hdue : Due e s) (hkind : e.kind = .sgnFlip) (hf : s.sgn.flip = some f)
    (hshift : s.sgn.shiftEnd = some k) : ∃ t, exec (.matrixLatch none) s = .next t ∧ t.sgn.shown = s.sgn.shown ∧
      t.sgn.flip = some { f with due := true, timeout := false } :=
  ⟨_, (exec_matrixLatch_entry hdue hkind).trans (congrArg Host.Outcome.next (latchAt_shifting (s := tlRemove e.seq s) false hf hshift)),
    rfl, rfl⟩

/-- The qualified edge on SYNC_IN noted (R366). -/
def syncSeen (s : State) : State := { s with sgn := { s.sgn with
  lastSync := cycOf s
  lastSyncTick := some s.clk.ticks } }

theorem exec_matrixLatch_sync {x : SyncEdge} {f : Flip} (hvar : s.dev.variant = .a) (hedge : syncQualified s x = true)
    (hf : s.sgn.flip = some f) (hmode : f.mode = 1) (hwait : f.due = false) (htarget : f.target * 4096 ≤ s.tt.tt)
    (hshift : s.sgn.shiftEnd = none) : ∃ t, exec (.matrixLatch (some x)) s = .next t ∧ t.sgn.shown = !s.sgn.shown ∧
      t.sgn.flip = none ∧ t.sgn.lastSync = cycOf s := by
  have hexec : exec (.matrixLatch (some x)) s = .next (latchAt false (syncSeen s)) := by
    unfold exec execMatrixLatch
    simp only [hvar, hedge, hf, hmode, hwait, htarget, beq_self_eq_true, Bool.and_self, and_self, if_true, syncSeen]
  obtain ⟨hshown, hflip, -, -, hsync, -⟩ := latchFlip_latches false false (syncSeen s)
  exact ⟨_, hexec.trans (congrArg Host.Outcome.next (latchAt_idle (s := syncSeen s) false hf hshift)), hshown, hflip, hsync⟩

theorem exec_matrixLatch_unqualified {x : SyncEdge} (h : syncQualified s x = false) : exec (.matrixLatch (some x)) s = .next s :=
  congrArg Host.Outcome.next (if_neg (by rw [h, Bool.and_false]; exact Bool.false_ne_true))

/-- A flip whose edge on SYNC_IN did not come, counted and logged (R366). -/
def syncMissed (f : Flip) (s : State) : State := logLim evSgnSyncTimeout 0xFF (fun n => [wd f.target, wd n])
  { s with sgn := { s.sgn with syncTimeouts := sat 16 (s.sgn.syncTimeouts + 1) } }

theorem syncMissed_sgn (f : Flip) (s : State) : (syncMissed f s).sgn = { s.sgn with syncTimeouts := sat 16 (s.sgn.syncTimeouts + 1) } :=
  (keeps_logLim _ _ _ _ (mk := 0x80000) rfl (Keeps.refl _ _)).get 19 rfl

theorem exec_syncTimeout_flips {f : Flip} (hf : s.sgn.flip = some f) (hmode : f.mode = 1) (hwait : f.due = false)
    (hlate : f.target + s.sgn.matrix.syncTimeout ≤ cycOf s) (hshift : s.sgn.shiftEnd = none) :
    ∃ t, exec .syncTimeout s = .next t ∧ t.sgn.shown = !s.sgn.shown ∧ t.sgn.syncTimeouts = sat 16 (s.sgn.syncTimeouts + 1) := by
  have hexec : exec .syncTimeout s = .next (latchAt true (syncMissed f s)) := by
    unfold exec execSyncTimeout
    simp only [hf, hmode, hwait, hlate, and_self, if_true, syncMissed]
  have hsgn := syncMissed_sgn f s
  have hlatch : latchAt true (syncMissed f s) = latchFlip false true (syncMissed f s) :=
    latchAt_idle true (by rw [hsgn]; exact hf) (by rw [hsgn]; exact hshift)
  obtain ⟨hshown, -, -, -, -, htimeouts⟩ := latchFlip_latches false true (syncMissed f s)
  rw [hsgn] at hshown htimeouts
  exact ⟨_, hexec.trans (congrArg Host.Outcome.next hlatch), hshown, htimeouts⟩

theorem exec_syncTimeout_early {f : Flip} (hf : s.sgn.flip = some f) (hearly : cycOf s < f.target + s.sgn.matrix.syncTimeout) :
    exec .syncTimeout s = .next s := by
  unfold exec execSyncTimeout
  simp only [hf, Nat.not_le.2 hearly, and_false, if_false]

theorem exec_matrixShiftEnd_ends {k : Nat} (hshift : s.sgn.shiftEnd = some k) (hk : k ≤ s.clk.ticks) :
    (∀ f, s.sgn.flip = some f → f.due = true → ∃ t, exec .matrixShiftEnd s = .next t ∧ t.sgn.shiftEnd = none ∧ t.sgn.shown = !s.sgn.shown ∧
      t.sgn.flip = none) ∧
    (∀ f, s.sgn.flip = some f → f.due = false → ∃ t, exec .matrixShiftEnd s = .next t ∧ t.sgn.shiftEnd = none ∧
      t.sgn.shown = s.sgn.shown) := by
  constructor
  · intro f hf hdue
    have hexec : exec .matrixShiftEnd s = .next (latchFlip true f.timeout { s with sgn := { s.sgn with shiftEnd := none } }) := by
      unfold exec execMatrixShiftEnd
      simp only [hshift, Nat.not_lt.2 hk, hf, hdue, if_true, if_false]
    obtain ⟨hshown, hflip, -, hend, -⟩ := latchFlip_latches true f.timeout { s with sgn := { s.sgn with shiftEnd := none } }
    exact ⟨_, hexec, hend, hshown, hflip⟩
  · intro f hf hdue
    refine ⟨{ s with sgn := { s.sgn with shiftEnd := none } }, ?_, rfl, rfl⟩
    unfold exec execMatrixShiftEnd
    simp only [hshift, Nat.not_lt.2 hk, hf, hdue, Bool.false_eq_true, if_false]

theorem exec_matrixRefresh_refreshes (hup : sgnUp s = true) (hon : s.sgn.matrix.enable = true) (hset : s.sgn.matrix.refresh ≠ 0)
    (hflip : s.sgn.flip = none) (hdue : s.sgn.lastRefresh + s.sgn.matrix.refresh ≤ cycOf s) :
    ∃ t, exec .matrixRefresh s = .next t ∧ t.sgn.refreshes = sat 16 (s.sgn.refreshes + 1) ∧ t.sgn.lastLatch = cycOf s ∧
      t.sgn.shown = s.sgn.shown :=
  ⟨{ s with sgn := { s.sgn with refreshes := sat 16 (s.sgn.refreshes + 1), lastRefresh := cycOf s, lastLatch := cycOf s } },
    congrArg Host.Outcome.next (if_pos (by rw [hup, hon, bne_iff_ne.2 hset, hflip, decide_eq_true hdue]; rfl)), rfl, rfl, rfl⟩

theorem exec_matrixRefresh_waits (hflip : s.sgn.flip ≠ none) : exec .matrixRefresh s = .next s := by
  have hsome : s.sgn.flip.isNone = false := Option.isNone_eq_false_iff.2 (Option.isSome_iff_ne_none.2 hflip)
  exact congrArg Host.Outcome.next (if_neg (by rw [hsome, Bool.and_false, Bool.false_and]; exact Bool.false_ne_true))

/-! ### The light sensor (R368, R369) -/

theorem sensorEvent_sgn (r : SensorRead) (onset : Bool) (s : State) : (sensorEvent r onset s).sgn = s.sgn := rfl

theorem exec_sensorRead_reads (hup : sgnUp s = true) (hon : s.sgn.sensor.enable = true) (hok : s.sgn.sensorFault = false)
    (hdue : s.sgn.lastRead + s.sgn.sensor.cyc ≤ cycOf s) :
    (∀ i, i = s.sgn.sensorInit.getD (s.sgn.sensor.initReg, s.sgn.sensor.initVal) →
      (∀ m, exec (.sensorRead (.ok m)) s = .next (trackColour m { s with sgn := { s.sgn with
        lastRead := cycOf s, nackRun := 0, sensorInit := some i } })) ∧
      (s.sgn.nackRun < 2 → exec (.sensorRead .timeout) s = .next { s with sgn := { s.sgn with
        lastRead := cycOf s, nackRun := s.sgn.nackRun + 1, sensorInit := some i } })) ∧
    (2 ≤ s.sgn.nackRun → ∃ t, exec (.sensorRead .timeout) s = .next t ∧ t.sgn.sensorFault = true ∧ t.sgn.sensorInit = none ∧
      t.sgn.gains = s.sgn.gains ∧ t.sgn.sensorFaults = sat 16 (s.sgn.sensorFaults + 1)) := by
  have hguard : (sgnUp s && s.sgn.sensor.enable && !s.sgn.sensorFault && decide (s.sgn.lastRead + s.sgn.sensor.cyc ≤ cycOf s)) = true := by
    rw [hup, hon, hok, decide_eq_true hdue]
    rfl
  refine ⟨fun i hi => ⟨fun m => ?_, fun hfew => ?_⟩, fun hmany =>
    ⟨_, congrArg Host.Outcome.next ((if_pos hguard).trans (if_neg (by omega))), rfl, rfl, rfl, rfl⟩⟩
  · rw [hi]
    exact congrArg Host.Outcome.next (if_pos hguard)
  · rw [hi]
    exact congrArg Host.Outcome.next ((if_pos hguard).trans (if_pos (by omega)))

theorem exec_sensorRetry_ends (m : List Nat) (hup : sgnUp s = true) (hon : s.sgn.sensor.enable = true) (hfault : s.sgn.sensorFault = true)
    (hdue : s.sgn.sensorTick + 40000000 ≤ s.clk.ticks) : ∃ t, exec (.sensorRetry (.ok m)) s = .next t ∧ t.sgn.sensorFault = false ∧
      t.sgn.gains = s.sgn.gains ∧ t.sgn.sensorInit = some (s.sgn.sensor.initReg, s.sgn.sensor.initVal) := by
  have hexec : exec (.sensorRetry (.ok m)) s = .next (sensorEvent (.ok m) false { s with sgn := { s.sgn with
      sensorFault := false
      lastRead := cycOf s
      sensorInit := some (s.sgn.sensor.initReg, s.sgn.sensor.initVal)
      anyLit := false
      anyLow := false
      changed := true } }) := by
    unfold exec execSensorRetry
    simp only [hup, hon, hfault, hdue, decide_true, Bool.and_self, if_true]
  exact ⟨_, hexec, rfl, rfl, rfl⟩

theorem exec_sensorRetry_good (m : SensorRead) (hok : s.sgn.sensorFault = false) : exec (.sensorRetry m) s = .next s :=
  congrArg Host.Outcome.next (if_neg (by rw [hok, Bool.and_false, Bool.false_and]; exact Bool.false_ne_true))

/-! ### Derating (R370, R371) -/

/-- An NTC after a reading (R370). -/
def ntcAfter (x : Nat) (t : Ntc) : Ntc :=
  let run := if ntcValid x then t.validRun + 1 else 0
  let fault := if ntcValid x then t.fault && decide (run < 64) else true
  { t with
    readings := (x :: t.readings).take 64
    validRun := run
    fault := fault
    temp := ntcTemp t.cfg ((x :: t.readings).take 64).sum ((x :: t.readings).take 64).length
    f := if fault && t.cfg.enable then t.cfg.fMin else t.f }

theorem ntcAfter_invalid {x : Nat} (t : Ntc) (h : ntcValid x = false) : (ntcAfter x t).fault = true := by
  show (if ntcValid x = true then _ else true) = true
  rw [h]
  rfl

theorem ntcAfter_factor (x : Nat) (t : Ntc) :
    (ntcAfter x t).f = if (ntcAfter x t).fault = true ∧ t.cfg.enable = true then t.cfg.fMin else t.f :=
  ite_congr (Bool.and_eq_true _ _) (fun _ => rfl) fun _ => rfl

theorem exec_ntcMeasure_keeps {n x : Nat} (hn : n < 2) (hlen : n < s.sgn.ntc.length) (hvar : s.dev.variant = .a)
    (halive : windowAlive s = true) :
    ∃ t, exec (.ntcMeasure n x) s = .next t ∧ (t.sgn.ntc.getD n default).readings = (x :: (s.sgn.ntc.getD n default).readings).take 64 ∧
      (ntcValid x = false → (t.sgn.ntc.getD n default).fault = true) ∧
      (t.sgn.ntc.getD n default).f = (if (t.sgn.ntc.getD n default).fault = true ∧ (s.sgn.ntc.getD n default).cfg.enable = true then
        (s.sgn.ntc.getD n default).cfg.fMin else (s.sgn.ntc.getD n default).f) := by
  have hguard : ¬ (decide (2 ≤ n) || s.dev.variant != .a || !windowAlive s) = true := by
    rw [decide_eq_false (Nat.not_le.2 hn), hvar, halive]
    exact Bool.false_ne_true
  obtain ⟨t, hexec, hntc⟩ : ∃ t, exec (.ntcMeasure n x) s = .next t ∧
      t.sgn.ntc = updAt s.sgn.ntc n (fun _ => ntcAfter x (s.sgn.ntc.getD n default)) := by
    refine ⟨_, congrArg Host.Outcome.next (if_neg hguard), ?_⟩
    extract_lets t rd run fault t1 s1
    split <;> rfl
  have hself : t.sgn.ntc.getD n default = ntcAfter x (s.sgn.ntc.getD n default) := by
    rw [hntc]
    exact getD_updAt_self _ _ hlen
  refine ⟨t, hexec, ?_⟩
  rw [hself]
  exact ⟨rfl, ntcAfter_invalid _, ntcAfter_factor x _⟩

/-- An NTC's factor rises by at most 20 in an update, and the other NTC stays. -/
theorem updateNtc_factor (s : State) (n k : Nat) :
    ((updateNtc s n).sgn.ntc.getD k default).f ≤ (s.sgn.ntc.getD k default).f + (if k = n then 20 else 0) ∧
    (updateNtc s n).sgn.lastDerate = s.sgn.lastDerate := by
  unfold updateNtc
  extract_lets t shut want f der src s1 ev s2
  split
  · exact ⟨Nat.le_add_right _ _, rfl⟩
  · have hs2 : s2.sgn = s1.sgn := by
      unfold s2
      split <;> rfl
    have hlast : (if shut = t.shutdown then s2 else ev (2 + b2n shut) s2).sgn = s1.sgn := by
      split <;> exact hs2
    have hf : f ≤ t.f + 20 := by
      unfold f
      split
      · omega
      · exact Nat.min_le_right _ _
    rw [hlast]
    refine ⟨?_, rfl⟩
    show ((updAt s.sgn.ntc n fun t => { t with f := f, shutdown := shut, derating := der }).getD k default).f ≤ _
    by_cases hk : k = n
    · rw [if_pos hk, hk]
      by_cases hlen : n < s.sgn.ntc.length
      · rw [getD_updAt_self _ _ hlen]
        exact hf
      · rw [updAt_of_length_le _ (Nat.not_lt.1 hlen)]
        exact Nat.le_add_right _ _
    · rw [getD_updAt_ne _ _ _ hk]
      exact Nat.le_add_right _ _

theorem exec_derateUpdate_updates (hvar : s.dev.variant = .a) (hserved : served s = true) (hdue : s.sgn.lastDerate + 64 ≤ cycOf s) :
    ∃ t, exec .derateUpdate s = .next t ∧ t.sgn.lastDerate = cycOf s ∧
      (∀ n, (t.sgn.ntc.getD n default).f ≤ (s.sgn.ntc.getD n default).f + 20 ∨ 1 < n) := by
  let u : State := { s with sgn := { s.sgn with lastDerate := cycOf s } }
  have hexec : exec .derateUpdate s = .next (updateNtc (updateNtc u 0) 1) :=
    congrArg Host.Outcome.next (if_pos (by rw [hvar, hserved, decide_eq_true hdue]; rfl))
  refine ⟨_, hexec, (updateNtc_factor (updateNtc u 0) 1 0).2.trans (updateNtc_factor u 0 0).2, fun n => ?_⟩
  have hsecond := (updateNtc_factor (updateNtc u 0) 1 n).1
  have hfirst : ((updateNtc u 0).sgn.ntc.getD n default).f ≤ (s.sgn.ntc.getD n default).f + (if n = 0 then 20 else 0) :=
    (updateNtc_factor u 0 n).1
  by_cases hn : 1 < n
  · exact .inr hn
  · left
    split at hfirst <;> split at hsecond <;> omega

theorem exec_derateUpdate_early (h : cycOf s < s.sgn.lastDerate + 64) : exec .derateUpdate s = .next s :=
  congrArg Host.Outcome.next (if_neg (by rw [decide_eq_false (Nat.not_le.2 h), Bool.and_false]; exact Bool.false_ne_true))

end

/-- Settles O49: a clause each of the lemmas above. -/
theorem signEventsKeepTheirTimes : Obligations.SignEventsKeepTheirTimes := by
  unfold Obligations.SignEventsKeepTheirTimes
  intro s
  exact ⟨exec_sgnCycleUpdate_sets, fun cur c => exec_sgnCycleUpdate_early, fun f0 f1 d => exec_failureRecordWrite,
    fun e fn l => exec_sgnLevelApply_applies, fun e f => exec_matrixLatch_flips, fun e f k => exec_matrixLatch_waits,
    fun x f => exec_matrixLatch_sync, fun x => exec_matrixLatch_unqualified, fun f => exec_syncTimeout_flips,
    fun f => exec_syncTimeout_early, fun k => exec_matrixShiftEnd_ends, exec_matrixRefresh_refreshes, exec_matrixRefresh_waits,
    exec_sensorRead_reads, exec_sensorRetry_ends, exec_sensorRetry_good, fun n x => exec_ntcMeasure_keeps, exec_derateUpdate_updates,
    exec_derateUpdate_early⟩

end Sys2Proof.Proofs
end

section
/-! PROOFS. The SGN commands (O50). -/
namespace Sys2Proof.Proofs
open Sys2Proof Sys2Proof.Machine Sys2Proof.Laws

section
variable {r : Req} {s : State}

theorem ok_sgn (r : Req) (ws : List Word) (s : State) : (ok r ws s).sgn = s.sgn :=
  (keeps_ok r ws s (mk := 0x80000) (s0 := s) rfl (Keeps.refl _ s)).get 19 rfl

theorem ok_tl (r : Req) (ws : List Word) (s : State) : (ok r ws s).tl = s.tl :=
  (keeps_ok r ws s (mk := 0x20) (s0 := s) rfl (Keeps.refl _ s)).get 5 rfl

/-! ### Frames -/

theorem setBack_buffers (g : Sign) (l : List Word) : (g.setBack l).back = l ∧ (g.setBack l).front = g.front := by
  unfold Sign.setBack Sign.back Sign.front
  cases g.shown <;> exact ⟨rfl, rfl⟩

/-- The sign drive once a chunk of a frame has been loaded (R372). -/
def chunkLoaded (r : Req) (g : Sign) : Sign := { g.setBack (frameAfter r g) with
  loading := !bit (r.w 3) 30
  ready := if bit (r.w 3) 30 then true else g.ready && !bit (r.w 3) 31 }

theorem exec_sgnFrameLoad (h : Runs 0x0A03 chkSgnFrameLoad r s) : ∃ t, exec .sgnFrameLoad s = .next t ∧ t.sgn.back = frameAfter r s.sgn ∧
    t.sgn.front = s.sgn.front ∧ (bit (r.w 3) 30 = true → t.sgn.ready = true ∧ t.sgn.loading = false) ∧
    (bit (r.w 3) 30 = false → bit (r.w 3) 31 = true → t.sgn.ready = false) := by
  have hexec : exec .sgnFrameLoad s = .next (ok r [] { took r s with sgn := chunkLoaded r s.sgn }) :=
    congrArg Host.Outcome.next (serve_of_runs h)
  refine ⟨_, hexec, ?_⟩
  rw [ok_sgn]
  obtain ⟨hback, hfront⟩ := setBack_buffers s.sgn (frameAfter r s.sgn)
  refine ⟨hback, hfront, fun hlast => ⟨if_pos hlast, ?_⟩, fun hlast hfirst => ?_⟩
  · show (!bit (r.w 3) 30) = false
    rw [hlast]
    rfl
  · show (if bit (r.w 3) 30 = true then true else s.sgn.ready && !bit (r.w 3) 31) = false
    rw [hlast, hfirst, Bool.not_true, Bool.and_false]
    rfl

/-! ### Flips -/

/-- A flip armed, its shift begun (R366). -/
def flipArmed (r : Req) (target : Nat) (s : State) : State :=
  startShift { s with sgn := { s.sgn with flip := some ⟨fld (r.w 3) 31 30, target, false, false⟩ } }

theorem exec_sgnFlip_sync (h : Runs 0x0A04 chkSgnFlip r s) (hmode : fld (r.w 3) 31 30 = 1) :
    ∃ t, exec .sgnFlip s = .next t ∧ t.sgn.flip = some ⟨1, targetCyc r s, false, false⟩ ∧ t.tl = s.tl ∧
      t.sgn.shiftEnd = some (s.clk.ticks + s.sgn.matrix.len * s.sgn.matrix.div) ∧ t.sgn.shown = s.sgn.shown := by
  have hexec : exec .sgnFlip s = .next (ok r [] (flipArmed r (targetCyc r s) (took r s))) :=
    congrArg Host.Outcome.next ((serve_of_runs h).trans (if_pos hmode))
  refine ⟨_, hexec, ?_⟩
  rw [ok_sgn, ok_tl]
  refine ⟨?_, rfl, rfl, rfl⟩
  show some (⟨fld (r.w 3) 31 30, targetCyc r s, false, false⟩ : Flip) = _
  rw [hmode]

/-- An entry of rank 6 of the sign drive posted for a target. -/
theorem tlPost_sign (target : Nat) (kind : TlKind) (hroom : Room 0x0C s) :
    tlPost target 6 0x0C kind s = some (tlPut target 6 0x0C kind true s) := if_pos hroom

theorem exec_sgnFlip_posts (h : Runs 0x0A04 chkSgnFlip r s) (hmode : fld (r.w 3) 31 30 ≠ 1) (hroom : Room 0x0C s) :
    ∃ t, exec .sgnFlip s = .next t ∧ t.sgn.flip = some ⟨fld (r.w 3) 31 30, targetCyc r s, false, false⟩ ∧
      t.tl.entries = s.tl.entries ++ [⟨targetCyc r s * 4096, 6, s.tl.nextSeq, 0x0C, false, .sgnFlip, true⟩] ∧
      t.sgn.shown = s.sgn.shown := by
  have hact := serve_of_runs (act := actSgnFlip) h
  unfold actSgnFlip at hact
  simp only [hmode, if_false, tlPost_sign (s := took r s) _ _ hroom, tlPut_of_open_block (show 0x0C < 0x11 by decide)] at hact
  refine ⟨_, congrArg Host.Outcome.next hact, ?_⟩
  rw [ok_sgn, ok_tl]
  exact ⟨rfl, rfl, rfl⟩

/-! ### Levels and status -/

/-- A member of the function that SGN.LEVEL names is thermally shut down. -/
def memberShut (r : Req) (s : State) : Bool :=
  (List.range 25).any fun k => ((tget s.sgn.fns (fld (r.w 3) 31 27)).getD default).members.testBit k && outThermal s.sgn k

theorem exec_sgnLevel_stores (h : Runs 0x0A05 chkSgnLevel r s) (hroom : Room 0x0C s) : exec .sgnLevel s = .next
    (if memberShut r s then respond r stDerated [detail ⟨12, stDerated, 0xFFFF, 0⟩]
        (tlPut (targetCyc r s * 4096) 6 0x0C (.sgnLevel (fld (r.w 3) 31 27) (fld (r.w 3) 9 0)) true (took r s))
      else ok r [] (tlPut (targetCyc r s * 4096) 6 0x0C (.sgnLevel (fld (r.w 3) 31 27) (fld (r.w 3) 9 0)) true (took r s))) := by
  have hact := serve_of_runs (act := actSgnLevel) h
  unfold actSgnLevel at hact
  simp only [tlPost_sign (s := took r s) _ _ hroom] at hact
  exact congrArg Host.Outcome.next hact

theorem exec_sgnLevel_waits (h : Runs 0x0A05 chkSgnLevel r s) (hroom : Room 0x0C s) : ∃ t, exec .sgnLevel s = .next t ∧
    t.tl.entries = s.tl.entries ++
      [⟨targetCyc r s * 4096, 6, s.tl.nextSeq, 0x0C, false, .sgnLevel (fld (r.w 3) 31 27) (fld (r.w 3) 9 0), true⟩] ∧ t.sgn = s.sgn := by
  refine ⟨_, exec_sgnLevel_stores h hroom, ?_⟩
  rw [tlPut_of_open_block (show 0x0C < 0x11 by decide)]
  have hkeep (t u : State) (ht : Keeps 0x80020 u t) : t.tl = u.tl ∧ t.sgn = u.sgn := ⟨ht.get 5 rfl, ht.get 19 rfl⟩
  split
  · obtain ⟨htl, hsgn⟩ := hkeep _ _ (keeps_respond r stDerated [detail ⟨12, stDerated, 0xFFFF, 0⟩] _ rfl (Keeps.refl _ _))
    rw [htl, hsgn]
    exact ⟨rfl, rfl⟩
  · rw [ok_tl, ok_sgn]
    exact ⟨rfl, rfl⟩

theorem exec_sgnLevel_ok (h : Runs 0x0A05 chkSgnLevel r s) (hroom : Room 0x0C s)
    (hcool : (List.range 25).all (fun k => !(((tget s.sgn.fns (fld (r.w 3) 31 27)).getD default).members.testBit k &&
      outThermal s.sgn k)) = true) :
    exec .sgnLevel s = .next
      (ok r [] (tlPut (targetCyc r s * 4096) 6 0x0C (.sgnLevel (fld (r.w 3) 31 27) (fld (r.w 3) 9 0)) true (took r s))) := by
  have hnone : memberShut r s = false := by
    unfold memberShut
    exact Bool.eq_false_iff.2 fun hshut => by
      obtain ⟨k, hk, hbit⟩ := List.any_eq_true.1 hshut
      have := List.all_eq_true.1 hcool k hk
      rw [hbit] at this
      exact Bool.false_ne_true this
  rw [exec_sgnLevel_stores h hroom, hnone]
  rfl

theorem exec_sgnStatus (h : Runs 0x0A06 chkSgnStatus r s) : ∃ ws, exec .sgnStatus s = .next (ok r ([wd (maskOf 32 (fnFailed s.sgn)),
      wd (maskOf 32 fun n => (tget s.sgn.fns n).isSome)] ++ (List.range 24).map (fun k =>
        packW [(outState s.sgn k, 29), (outColour s.sgn k, 27), (s.sgn.duty.getD k 0, 16), (sat 16 (s.sgn.current.getD k 0), 0)]) ++ ws)
    (took r s)) ∧ ws.length = 9 :=
  ⟨_, congrArg Host.Outcome.next (serve_of_runs h), rfl⟩

end

/-- Settles O50: a clause each of the lemmas above. -/
theorem signCommandsAct : Obligations.SignCommandsAct := by
  unfold Obligations.SignCommandsAct
  intro r s
  exact ⟨exec_sgnFrameLoad, exec_sgnFlip_sync, exec_sgnFlip_posts, exec_sgnLevel_waits, exec_sgnLevel_ok, exec_sgnStatus⟩

end Sys2Proof.Proofs
end

section
/-! PROOFS. Digital inputs and outputs (O51). -/
namespace Sys2Proof.Proofs
open Sys2Proof Sys2Proof.Machine Sys2Proof.Laws

/-! ### Folds whose steps each act on their own element -/

section
variable {β : Type} {get : State → Nat → β} {f : State → Nat → State} {k : Nat}

theorem foldl_other (hother : ∀ t j, k ≠ j → get (f t j) k = get t k) {l : List Nat} (hk : k ∉ l) (s : State) :
    get (l.foldl f s) k = get s k := by
  induction l generalizing s with
  | nil => rfl
  | cons j l ih =>
    obtain ⟨hkj, hkl⟩ : k ≠ j ∧ k ∉ l := by simpa using hk
    exact (ih hkl (f s j)).trans (hother s j hkj)

/-- An element of a list without repetitions changes in its own step alone. -/
theorem foldl_own (hother : ∀ t j, k ≠ j → get (f t j) k = get t k) {l : List Nat} (hnodup : l.Nodup) (hk : k ∈ l) (s : State) :
    ∃ l1 : List Nat, get (l1.foldl f s) k = get s k ∧ get (l.foldl f s) k = get (f (l1.foldl f s) k) k := by
  obtain ⟨l1, l2, rfl⟩ := List.append_of_mem hk
  rw [List.nodup_append] at hnodup
  obtain ⟨-, hsecond, hdisjoint⟩ := hnodup
  refine ⟨l1, foldl_other hother (fun h => hdisjoint k h k List.mem_cons_self rfl) s, ?_⟩
  rw [List.foldl_append, List.foldl_cons]
  exact foldl_other hother (List.nodup_cons.1 hsecond).1 _

end

section
variable {s : State} {k : Nat}

/-! ### Inputs (R376 to R378) -/

theorem dinOf_onDin_self (f : Din → Din) (hk : k < s.io.din.length) : dinOf (onDin k f s) k = f (dinOf s k) := getD_updAt_self f default hk

theorem dinOf_onDin_ne {j : Nat} (f : Din → Din) (s : State) (h : k ≠ j) : dinOf (onDin j f s) k = dinOf s k :=
  getD_updAt_ne s.io.din f default h

/-- The number of inputs and the instant of the last sample stay. -/
def SameSampling (s t : State) : Prop :=
  t.io.din.length = s.io.din.length ∧ t.io.sampleIdx = s.io.sampleIdx ∧ t.io.sampleTt = s.io.sampleTt ∧ t.tt = s.tt ∧ t.clk = s.clk

theorem SameSampling.trans {s t u : State} (h : SameSampling s t) (g : SameSampling t u) : SameSampling s u :=
  ⟨g.1.trans h.1, g.2.1.trans h.2.1, g.2.2.1.trans h.2.2.1, g.2.2.2.1.trans h.2.2.2.1, g.2.2.2.2.trans h.2.2.2.2⟩

theorem SameSampling.of_onDin (j : Nat) (f : Din → Din) (s : State) : SameSampling s (onDin j f s) :=
  ⟨length_updAt .., rfl, rfl, rfl, rfl⟩

theorem ntfOrHold_din (h : HeldNtf) (s : State) : SameSampling s (ntfOrHold h s) ∧ ∀ k, dinOf (ntfOrHold h s) k = dinOf s k := by
  unfold ntfOrHold
  split
  · exact ⟨⟨rfl, rfl, rfl, rfl, rfl⟩, fun _ => rfl⟩
  · have hkeep := keeps_sendNtf h s (mk := 0x100012) rfl (Keeps.refl _ s)
    have hio : (sendNtf h s).io = s.io := hkeep.get 20 rfl
    refine ⟨⟨by rw [hio], by rw [hio], by rw [hio], hkeep.get 4 rfl, hkeep.get 1 rfl⟩, fun k => ?_⟩
    unfold dinOf
    rw [hio]

/-- The edge of a qualified change counts, and touches no other input. -/
theorem dinEdge_din (j : Nat) (s : State) : SameSampling s (dinEdge j s) ∧
    ∀ k, dinOf (dinEdge j s) k = dinOf (onDin j (fun d => { d with edges := sat 16 (d.edges + 1) }) s) k := by
  unfold dinEdge
  dsimp only
  split
  · exact ⟨(SameSampling.of_onDin j _ s).trans (ntfOrHold_din _ _).1, (ntfOrHold_din _ _).2⟩
  · exact ⟨.of_onDin j _ s, fun _ => rfl⟩

/-- An input whose level is qualified (R377). -/
def qualified (d : Din) (ticks : Nat) : Din := { d with
  level := d.raw
  valid := true
  activeTick := ticks
  stuck := d.stuck && d.raw }

section
variable (levels trans : Nat)

/-- An input as the sample of its pad leaves it. -/
def sampled (s : State) (j : Nat) : Din := (dinOf s j).sample (levels.testBit j != (dinOf s j).cfg.pol) (trans.testBit j) s.tt.tt

theorem sampleDin_other (t : State) (j : Nat) (h : k ≠ j) : dinOf (sampleDin levels trans t j) k = dinOf t k := by
  unfold sampleDin
  dsimp only
  split
  · rfl
  · split
    · split
      · exact ((dinEdge_din j _).2 k).trans ((dinOf_onDin_ne _ _ h).trans (dinOf_onDin_ne _ t h))
      · exact dinOf_onDin_ne _ t h
    · exact dinOf_onDin_ne _ t h

theorem sampleDin_sampling (t : State) (j : Nat) : SameSampling t (sampleDin levels trans t j) := by
  unfold sampleDin
  dsimp only
  split
  · exact ⟨rfl, rfl, rfl, rfl, rfl⟩
  · split
    · split
      · exact (SameSampling.of_onDin j _ t).trans (dinEdge_din j _).1
      · exact .of_onDin j _ t
    · exact .of_onDin j _ t

theorem sampleDin_self (hk : k < s.io.din.length) :
    ((dinOf s k).cfg.enable = false → dinOf (sampleDin levels trans s k) k = dinOf s k) ∧
    ((dinOf s k).cfg.enable = true → (sampled levels trans s k).qualifies = false →
      dinOf (sampleDin levels trans s k) k = sampled levels trans s k) ∧
    ((dinOf s k).cfg.enable = true → (sampled levels trans s k).qualifies = true →
      (dinOf (sampleDin levels trans s k) k).level = (sampled levels trans s k).raw ∧ (dinOf (sampleDin levels trans s k) k).valid = true ∧
      (dinOf (sampleDin levels trans s k) k).edges =
        (if (sampled levels trans s k).valid then sat 16 ((sampled levels trans s k).edges + 1) else (sampled levels trans s k).edges)) := by
  have hset (d : Din) : dinOf (onDin k (fun _ => d) s) k = d := dinOf_onDin_self (fun _ => d) hk
  refine ⟨fun hoff => ?_, fun hon hnot => ?_, fun hon hq => ?_⟩
  · exact congrArg (fun t => dinOf t k) (if_pos (by rw [hoff]; rfl))
  · have hstep : sampleDin levels trans s k = onDin k (fun _ => sampled levels trans s k) s :=
      (if_neg (by rw [hon]; exact Bool.false_ne_true)).trans (if_neg (Bool.eq_false_iff.1 hnot))
    rw [hstep]
    exact hset _
  · have hstep : sampleDin levels trans s k = if (sampled levels trans s k).valid then
        dinEdge k (onDin k (fun _ => qualified (sampled levels trans s k) s.clk.ticks) s)
        else onDin k (fun _ => qualified (sampled levels trans s k) s.clk.ticks) s :=
      (if_neg (by rw [hon]; exact Bool.false_ne_true)).trans (if_pos hq)
    rw [hstep]
    cases hv : (sampled levels trans s k).valid with
    | false =>
      simp only [Bool.false_eq_true, if_false, hset]
      exact ⟨rfl, rfl, rfl⟩
    | true =>
      have hedge := (dinEdge_din k (onDin k (fun _ => qualified (sampled levels trans s k) s.clk.ticks) s)).2 k
      rw [dinOf_onDin_self _ ((length_updAt s.io.din k _).symm ▸ hk), hset] at hedge
      simp only [if_true, hedge]
      exact ⟨rfl, rfl, rfl⟩

theorem exec_dinSample {i : Nat} (halive : windowAlive s = true) (hrun : s.tt.running = true) (hi : s.io.sampleIdx = some i)
    (hnew : i < s.tt.tt / 64) (hk : k < 16) (hlen : k < s.io.din.length) :
    ∃ t d, exec (.dinSample levels trans) s = .next t ∧ t.io.sampleIdx = some (s.tt.tt / 64) ∧ t.io.sampleTt = s.tt.tt / 64 * 64 ∧
      d = (dinOf s k).sample (levels.testBit k != (dinOf s k).cfg.pol) (trans.testBit k) s.tt.tt ∧
      ((dinOf s k).cfg.enable = false → dinOf t k = dinOf s k) ∧
      ((dinOf s k).cfg.enable = true → d.qualifies = false → dinOf t k = d) ∧
      ((dinOf s k).cfg.enable = true → d.qualifies = true → (dinOf t k).level = d.raw ∧ (dinOf t k).valid = true ∧
        (dinOf t k).edges = (if d.valid then sat 16 (d.edges + 1) else d.edges)) := by
  let u : State := { s with io := { s.io with sampleTt := s.tt.tt / 64 * 64, sampleIdx := some (s.tt.tt / 64) } }
  have hexec : exec (.dinSample levels trans) s = .next ((List.range 16).foldl (sampleDin levels trans) u) := by
    unfold exec execDinSample
    simp only [halive, hrun, hi, Nat.not_le.2 hnew, decide_false, Bool.not_true, Bool.or_false, Bool.false_eq_true, if_false,
      Option.isSome_some, if_true]
    rfl
  have hsampling (l : List Nat) : SameSampling u (l.foldl (sampleDin levels trans) u) :=
    List.foldlRecOn l _ (motive := fun t => SameSampling u t) ⟨rfl, rfl, rfl, rfl, rfl⟩ fun t ht j _ => ht.trans (sampleDin_sampling levels trans t j)
  obtain ⟨l1, hbefore, hown⟩ := foldl_own (get := dinOf) (f := sampleDin levels trans) (sampleDin_other levels trans) List.nodup_range
    (List.mem_range.2 hk) u
  obtain ⟨hlen', -, -, htt, -⟩ := hsampling l1
  obtain ⟨-, hidx, hat, -, -⟩ := hsampling (List.range 16)
  have hself := sampleDin_self levels trans (s := l1.foldl (sampleDin levels trans) u) (k := k) (hlen'.symm ▸ hlen)
  have hdin : dinOf (l1.foldl (sampleDin levels trans) u) k = dinOf s k := hbefore
  have hsampled : sampled levels trans (l1.foldl (sampleDin levels trans) u) k =
      (dinOf s k).sample (levels.testBit k != (dinOf s k).cfg.pol) (trans.testBit k) s.tt.tt := by
    unfold sampled
    rw [hdin, htt]
  rw [hdin, hsampled, ← hown] at hself
  exact ⟨_, _, hexec, hidx, hat, rfl, hself⟩

theorem exec_dinSample_early {i : Nat} (hi : s.io.sampleIdx = some i) (hearly : s.tt.tt / 64 ≤ i) : exec (.dinSample levels trans) s = .next s := by
  unfold exec execDinSample
  simp only [hi, hearly, decide_true, Bool.or_true, if_true]

end

theorem exec_evDinStuck (hk : k < s.io.din.length) (hon : (dinOf s k).cfg.enable = true) (hvalid : (dinOf s k).valid = true)
    (hlevel : (dinOf s k).level = true) (hstuck : (dinOf s k).stuck = false) (hset : (dinOf s k).cfg.stuckS ≠ 0) :
    ((dinOf s k).activeTick + (dinOf s k).cfg.stuckS * 40000000 ≤ s.clk.ticks →
      ∃ t, exec (.evDinStuck k) s = .next t ∧ dinOf t k = { dinOf s k with stuck := true } ∧ OnlyChanges [.log, .io] s t) ∧
    (s.clk.ticks < (dinOf s k).activeTick + (dinOf s k).cfg.stuckS * 40000000 → exec (.evDinStuck k) s = .next s) := by
  refine ⟨fun hdue => ?_, fun hearly => ?_⟩
  · have hexec : exec (.evDinStuck k) s = .next
        (logNs evDinStuck k [k, (dinOf s k).cfg.stuckS] (onDin k (fun d => { d with stuck := true }) s)) := by
      unfold exec execEvDinStuck
      simp only [hon, hvalid, hlevel, hstuck, hset, hdue, ne_eq, not_false_eq_true, decide_true, Bool.not_false, Bool.and_self, if_true]
    exact ⟨_, hexec, dinOf_onDin_self (s := s) (fun d => { d with stuck := true }) hk,
      only_of_keeps (keeps_execEvDinStuck k s _ hexec) (by decide)⟩
  · exact congrArg Host.Outcome.next (if_neg (by
      rw [decide_eq_false (Nat.not_le.2 hearly), Bool.and_false]
      exact Bool.false_ne_true))

theorem exec_chatterWindowEnd (hk : k < s.io.din.length) (hon : (dinOf s k).cfg.enable = true)
    (hend : (dinOf s k).chatK < cycOf s / Nat.max (dinOf s k).cfg.chatWin 1) :
    ∃ t, exec (.chatterWindowEnd k) s = .next t ∧ (dinOf t k).chatCount = 0 ∧
      (dinOf t k).chatter = decide ((dinOf s k).cfg.chatMin ≤ (dinOf s k).chatCount) ∧ (dinOf t k).level = (dinOf s k).level := by
  have hguard : ((dinOf s k).cfg.enable && decide ((dinOf s k).chatK < cycOf s / Nat.max (dinOf s k).cfg.chatWin 1)) = true := by
    rw [hon, decide_eq_true hend]
    rfl
  have hself := dinOf_onDin_self (s := s) (k := k) (fun d => { d with
    chatCount := 0
    chatter := decide ((dinOf s k).cfg.chatMin ≤ (dinOf s k).chatCount)
    chatK := cycOf s / Nat.max (dinOf s k).cfg.chatWin 1 }) hk
  obtain ⟨t, hexec, hdin⟩ : ∃ t, exec (.chatterWindowEnd k) s = .next t ∧ dinOf t k = dinOf (onDin k (fun d => { d with
      chatCount := 0
      chatter := decide ((dinOf s k).cfg.chatMin ≤ (dinOf s k).chatCount)
      chatK := cycOf s / Nat.max (dinOf s k).cfg.chatWin 1 }) s) k := by
    refine ⟨_, congrArg Host.Outcome.next (if_pos hguard), ?_⟩
    dsimp only
    split <;> rfl
  rw [hself] at hdin
  refine ⟨t, hexec, ?_⟩
  rw [hdin]
  exact ⟨rfl, rfl, rfl⟩

/-! ### Outputs (R379 to R381) -/

theorem doutOf_onDout_self (f : Dout → Dout) (hk : k < s.io.dout.length) : doutOf (onDout k f s) k = f (doutOf s k) :=
  getD_updAt_self f default hk

theorem doutOf_onDout_ne {j : Nat} (f : Dout → Dout) (s : State) (h : k ≠ j) : doutOf (onDout j f s) k = doutOf s k :=
  getD_updAt_ne s.io.dout f default h

/-- What the effect of a DOUT value on one output rests on, and no DOUT value changes. -/
def SameHolds (s t : State) : Prop :=
  t.io.dout.length = s.io.dout.length ∧ (∀ k, heldOff t k = heldOff s k) ∧ withdrawn t 0x0F = withdrawn s 0x0F

theorem SameHolds.trans {s t u : State} (h : SameHolds s t) (g : SameHolds t u) : SameHolds s u :=
  ⟨g.1.trans h.1, fun k => (g.2.1 k).trans (h.2.1 k), g.2.2.trans h.2.2⟩

/-- An output told its value (R380). -/
def told (w v : Bool) (d : Dout) : Dout := { d with
  cmd := v
  out := if w then d.out else v }

theorem SameHolds.of_told (w v : Bool) (j : Nat) (s : State) : SameHolds s (onDout j (told w v) s) := by
  refine ⟨length_updAt .., fun k => ?_, rfl⟩
  have hfault : (doutOf (onDout j (told w v) s) k).fault = (doutOf s k).fault := by
    by_cases hkj : k = j
    · subst hkj
      by_cases hlen : k < s.io.dout.length
      · rw [doutOf_onDout_self _ hlen]
        rfl
      · have hout : (updAt s.io.dout k (told w v)).length ≤ k := by
          rw [length_updAt]
          exact Nat.not_lt.1 hlen
        have hself : doutOf (onDout k (told w v) s) k = default := getD_of_length_le _ hout
        rw [hself, show doutOf s k = default from getD_of_length_le _ (Nat.not_lt.1 hlen)]
    · rw [doutOf_onDout_ne _ s hkj]
  exact congrArg (cutHeld s k || ·) hfault

section
variable (mask value target : Nat)

/-- A DOUT value taking effect on one output of its mask. -/
def doutStep (s : State) (k : Nat) : State :=
  if !mask.testBit k then s
  else if value.testBit k && heldOff s k then
    logEv evDoutRefused k [wd k, wd target, Config.itemCode evDoutRefused (b2n (!cutHeld s k))] s
  else onDout k (told (withdrawn s 0x0F) (value.testBit k)) s

theorem applyDout_eq (s : State) : applyDout mask value target s = (List.range 8).foldl (doutStep mask value target) s := rfl

theorem doutStep_holds (t : State) (j : Nat) : SameHolds t (doutStep mask value target t j) := by
  unfold doutStep
  split
  · exact ⟨rfl, fun _ => rfl, rfl⟩
  · split
    · exact ⟨rfl, fun _ => rfl, rfl⟩
    · exact .of_told _ _ j t

theorem doutStep_other (t : State) (j : Nat) (h : k ≠ j) : doutOf (doutStep mask value target t j) k = doutOf t k := by
  unfold doutStep
  split
  · rfl
  · split
    · rfl
    · exact doutOf_onDout_ne _ t h

theorem doutStep_self (hk : k < s.io.dout.length) :
    (mask.testBit k = false → doutOf (doutStep mask value target s k) k = doutOf s k) ∧
    (value.testBit k = true → heldOff s k = true → doutOf (doutStep mask value target s k) k = doutOf s k) ∧
    (mask.testBit k = true → (value.testBit k = true → heldOff s k = false) →
      doutOf (doutStep mask value target s k) k = told (withdrawn s 0x0F) (value.testBit k) (doutOf s k)) := by
  refine ⟨fun hmask => ?_, fun hvalue hheld => ?_, fun hmask hfree => ?_⟩
  · exact congrArg (fun t => doutOf t k) (if_pos (by rw [hmask]; rfl))
  · unfold doutStep
    rw [hvalue, hheld]
    split <;> rfl
  · have hguard : (value.testBit k && heldOff s k) = false := by
      cases hv : value.testBit k with
      | false => rfl
      | true => exact hfree hv
    have hstep : doutStep mask value target s k = onDout k (told (withdrawn s 0x0F) (value.testBit k)) s :=
      (if_neg (by rw [hmask]; exact Bool.false_ne_true)).trans (if_neg (Bool.eq_false_iff.1 hguard))
    rw [hstep]
    exact doutOf_onDout_self _ hk

/-- What a DOUT value makes of each output. -/
theorem applyDout_dout (hk : k < 8) (hlen : k < s.io.dout.length) :
    (mask.testBit k = false → doutOf (applyDout mask value target s) k = doutOf s k) ∧
    (value.testBit k = true → heldOff s k = true → doutOf (applyDout mask value target s) k = doutOf s k) ∧
    (mask.testBit k = true → (value.testBit k = true → heldOff s k = false) →
      doutOf (applyDout mask value target s) k = told (withdrawn s 0x0F) (value.testBit k) (doutOf s k)) := by
  have hholds (l : List Nat) : SameHolds s (l.foldl (doutStep mask value target) s) :=
    List.foldlRecOn l _ (motive := fun t => SameHolds s t) ⟨rfl, fun _ => rfl, rfl⟩ fun t ht j _ => ht.trans (doutStep_holds mask value target t j)
  obtain ⟨l1, hbefore, hown⟩ := foldl_own (get := doutOf) (f := doutStep mask value target) (doutStep_other mask value target) List.nodup_range
    (List.mem_range.2 hk) s
  obtain ⟨hlen1, hheld, hwd⟩ := hholds l1
  have hself := doutStep_self mask value target (s := l1.foldl (doutStep mask value target) s) (k := k) (hlen1.symm ▸ hlen)
  rw [hbefore, hheld, hwd, ← hown] at hself
  exact hself

/-- Outputs outside the mask stay, also those that do not exist. -/
theorem applyDout_unmasked (hmask : mask.testBit k = false) (s : State) : doutOf (applyDout mask value target s) k = doutOf s k := by
  rw [applyDout_eq]
  refine List.foldlRecOn _ _ (motive := fun t => doutOf t k = doutOf s k) rfl fun t ht j _ => ?_
  by_cases hkj : k = j
  · subst hkj
    exact (congrArg (fun t => doutOf t k) (if_pos (by rw [hmask]; rfl))).trans ht
  · exact (doutStep_other mask value target t j hkj).trans ht

end

theorem exec_evDoutFault (hk : k < 8) (hlen : k < s.io.dout.length) (hnot : (doutOf s k).fault = false) :
    ∃ t, exec (.evDoutFault k true) s = .next t ∧ (doutOf t k).fault = true ∧ doutOn t k = false ∧ OnlyChanges [.log, .io] s t := by
  have hexec : exec (.evDoutFault k true) s = .next
      (logEv evDoutFault k [wd k, wd (b2n true)] (onDout k (fun d => { d with fault := true }) s)) :=
    congrArg Host.Outcome.next (if_pos (by rw [hnot, decide_eq_true hk]; rfl))
  have hfault : (doutOf (logEv evDoutFault k [wd k, wd (b2n true)] (onDout k (fun d => { d with fault := true }) s)) k).fault = true :=
    congrArg Dout.fault (doutOf_onDout_self (s := s) (fun d => { d with fault := true }) hlen)
  refine ⟨_, hexec, hfault, ?_, only_of_keeps (keeps_execEvDoutFault k true s _ hexec) (by decide)⟩
  unfold doutOn heldOff
  rw [hfault, Bool.or_true, Bool.not_true, Bool.and_false, Bool.false_and]

theorem exec_evDoutFault_latched {b : Bool} (hfault : (doutOf s k).fault = true) : exec (.evDoutFault k b) s = .next s :=
  congrArg Host.Outcome.next (if_neg (by
    rw [hfault, Bool.not_true, Bool.and_false, Bool.false_and]
    exact Bool.false_ne_true))

theorem fireDout_dout {id : Nat} {c : DoutCmd} (hc : tget s.io.douts id = some c) (k : Nat) :
    doutOf (fireDout id s) k = doutOf (applyDout c.mask c.value (cycOf s) s) k := by
  unfold fireDout
  simp only [hc]
  generalize (if c.dur = 0 then 0 else changedFrom (applyDout c.mask c.value (cycOf s) s) c.mask (doutCmds s)) = back
  split <;> rfl

theorem exec_doutApply {e : TlEntry} {id : Nat} {c : DoutCmd} (hdue : Due e s) (hkind : e.kind = .dout id) (hc : tget s.io.douts id = some c)
    (hk : k < 8) (hlen : k < s.io.dout.length) :
    ∃ t, exec .doutApply s = .next t ∧ (c.mask.testBit k = false → doutOf t k = doutOf s k) ∧
      (c.value.testBit k = true → heldOff s k = true → doutOf t k = doutOf s k) ∧
      (c.mask.testBit k = true → (c.value.testBit k = true → heldOff s k = false) → (doutOf t k).cmd = c.value.testBit k ∧
        (withdrawn s 0x0F = false → (doutOf t k).out = c.value.testBit k)) := by
  obtain ⟨hunmasked, hrefused, htold⟩ := applyDout_dout c.mask c.value (cycOf s) (s := tlRemove e.seq s) hk hlen
  refine ⟨_, congrArg Host.Outcome.next ((tlFire_of_due hdue (by rw [hkind])).trans rfl), ?_⟩
  rw [fireDout_dout (s := tlRemove e.seq s) hc k]
  refine ⟨hunmasked, hrefused, fun hmask hfree => ?_⟩
  rw [show cycOf (tlRemove e.seq s) = cycOf s from rfl, htold hmask hfree]
  refine ⟨rfl, fun hin => ?_⟩
  exact if_neg (Bool.eq_false_iff.1 hin)

theorem exec_doutReturn {e : TlEntry} {id o : Nat} {c : DoutCmd} (hdue : Due e s) (hkind : e.kind = .doutReturn id o)
    (hc : tget s.io.douts id = some c) (ho : o < 8) (hlen : o < s.io.dout.length) (hfree : c.prev.testBit o = true → heldOff s o = false) :
    ∃ t, exec .doutReturn s = .next t ∧ (doutOf t o).cmd = c.prev.testBit o ∧ ∀ k, k ≠ o → doutOf t k = doutOf s k := by
  obtain ⟨t, hexec, hdout⟩ : ∃ t, exec .doutReturn s = .next t ∧
      ∀ k, doutOf t k = doutOf (applyDout (2 ^ o) c.prev (cycOf s) (tlRemove e.seq s)) k := by
    refine ⟨_, congrArg Host.Outcome.next (tlFire_of_due hdue (by rw [hkind])), fun k => ?_⟩
    simp only [show tget (tlRemove e.seq s).io.douts id = some c from hc]
    rfl
  refine ⟨t, hexec, ?_, fun k hk => ?_⟩
  · rw [hdout, (applyDout_dout (2 ^ o) c.prev (cycOf s) (s := tlRemove e.seq s) ho hlen).2.2 (Nat.testBit_two_pow_self ..) hfree]
    rfl
  · rw [hdout]
    exact applyDout_unmasked _ _ _ (Nat.testBit_two_pow_of_ne (Ne.symm hk)) (tlRemove e.seq s)

theorem exec_doutReturn_dropped {e : TlEntry} {id o : Nat} (hdue : Due e s) (hkind : e.kind = .doutReturn id o)
    (hnone : tget s.io.douts id = none) : exec .doutReturn s = .next (tlRemove e.seq s) := by
  refine congrArg Host.Outcome.next ((tlFire_of_due hdue (by rw [hkind])).trans ?_)
  simp only [show tget (tlRemove e.seq s).io.douts id = none from hnone]

/-! ### The IO commands (R394) -/

theorem postDout_of_room {mask dur target id : Nat} {own : Bool}
    (hroom : tlRoom s.tl 0x0F (b2n own + (if dur = 0 then 0 else popCount 8 mask)) = true) :
    ∃ u, postDout id mask dur target own s = some u ∧ (dur = 0 → u = if own then tlPut target 6 0x0F (.dout id) true s else s) :=
  ⟨_, if_pos hroom, fun hdur => if_pos hdur⟩

theorem exec_ioDoutSet {r : Req} (h : Runs 0x1003 chkIoDoutSet r s)
    (hroom : tlRoom s.tl 0x0F (b2n r.aac + (if fld (r.w 3) 15 0 = 0 then 0 else popCount 8 (fld (r.w 3) 31 24))) = true) :
    ∃ u, exec .ioDoutSet s = .next (ok r [] u) ∧
      (r.aac = true → fld (r.w 3) 15 0 = 0 →
        u.tl.entries = s.tl.entries ++ [⟨targetCyc r s * 4096, 6, s.tl.nextSeq, 0x0F, false, .dout s.io.nextDout, true⟩] ∧
        u.io.dout = s.io.dout) ∧
      (r.aac = false → fld (r.w 3) 15 0 = 0 → ∀ k < 8, k < s.io.dout.length → (fld (r.w 3) 31 24).testBit k = true →
        ((fld (r.w 3) 23 16).testBit k = true → heldOff s k = false) → (doutOf u k).cmd = (fld (r.w 3) 23 16).testBit k) := by
  obtain ⟨v, hpost, hv⟩ := postDout_of_room (s := took r s) (id := s.io.nextDout)
    (target := if r.aac then targetCyc r s * 4096 else s.tt.tt) hroom
  have hact := serve_of_runs (act := applyIoDoutSet) h
  unfold applyIoDoutSet at hact
  simp only [show postDout (took r s).io.nextDout (fld (r.w 3) 31 24) (fld (r.w 3) 15 0)
    (if r.aac then targetCyc r (took r s) * 4096 else (took r s).tt.tt) r.aac (took r s) = some v from hpost] at hact
  refine ⟨_, congrArg Host.Outcome.next hact, fun haac hdur => ?_, fun haac hdur k hk hlen hmask hfree => ?_⟩
  · have hown : v = tlPut (targetCyc r s * 4096) 6 0x0F (.dout s.io.nextDout) true (took r s) := by
      rw [hv hdur, haac]
      rfl
    rw [tlPut_of_open_block (by omega)] at hown
    subst hown
    rw [haac]
    exact ⟨rfl, rfl⟩
  · have hown : v = took r s := by
      rw [hv hdur, haac]
      rfl
    subst hown
    rw [haac]
    let c : DoutCmd := ⟨fld (r.w 3) 31 24, fld (r.w 3) 23 16, fld (r.w 3) 15 0, 0, 0⟩
    let u : State := { took r s with io := { (took r s).io with
      nextDout := s.io.nextDout + 1
      douts := tset (took r s).io.douts s.io.nextDout c } }
    have hfire := (fireDout_dout (s := u) (id := s.io.nextDout) (tget_tset_self _ _ _) k).trans
      ((applyDout_dout c.mask c.value (cycOf u) (s := u) hk hlen).2.2 hmask hfree)
    exact congrArg Dout.cmd hfire

theorem exec_ioDinRead {r : Req} (h : Runs 0x1002 chkIoDinRead r s) : exec .ioDinRead s = .next (ok r
    [ packW [(maskOf 16 fun k => (dinOf s k).valid && (dinOf s k).level, 16), (maskOf 16 fun k => (dinOf s k).raw, 0)],
      packW [(maskOf 16 fun k => (dinOf s k).stuck, 16), (maskOf 16 fun k => (dinOf s k).valid, 0)],
      packW [(maskOf 16 fun k => (dinOf s k).chatter, 16), (maskOf 16 fun k => (dinOf s k).cfg.enable, 0)],
      wd (ttCyc s.io.sampleTt), wd (ttPh s.io.sampleTt) ] (took r s)) := congrArg Host.Outcome.next (serve_of_runs h)

theorem exec_ioStatus {r : Req} (h : Runs 0x1005 chkIoStatus r s) : ∃ ws, exec .ioStatus s = .next (ok r
    (packW [(doutCmds s, 24), (maskOf 8 (doutOn s), 16), (maskOf 8 fun k => (doutOf s k).fault, 8), (maskOf 8 (cutHeld s), 0)] :: ws) (took r s)) ∧
    ws.length = 8 := by
  refine ⟨(List.range 8).map fun k => packW [((dinOf s (2 * k)).edges, 16), ((dinOf s (2 * k + 1)).edges, 0)],
    congrArg Host.Outcome.next (serve_of_runs h), ?_⟩
  rw [List.length_map, List.length_range]

end

/-- Settles O51: each input and each output acts in its own step of the sample or of the DOUT value. -/
theorem cabinetInputsAndOutputsFollowTheirRules : Obligations.CabinetInputsAndOutputsFollowTheirRules := by
  unfold Obligations.CabinetInputsAndOutputsFollowTheirRules
  intro s
  exact ⟨fun l x i k halive hrun hi hnew hk hlen => exec_dinSample l x halive hrun hi hnew hk hlen,
    fun l x i hi hearly => exec_dinSample_early l x hi hearly,
    fun k hk hon hvalid hlevel hstuck hset => exec_evDinStuck hk hon hvalid hlevel hstuck hset,
    fun k hk hon hend => exec_chatterWindowEnd hk hon hend,
    fun k hk hlen hnot => exec_evDoutFault hk hlen hnot,
    fun k b hfault => exec_evDoutFault_latched hfault,
    fun e id c k hdue hkind hc hk hlen => exec_doutApply hdue hkind hc hk hlen,
    fun e id o c hdue hkind hc ho hlen hfree => exec_doutReturn hdue hkind hc ho hlen hfree,
    fun e id o hdue hkind hnone => exec_doutReturn_dropped hdue hkind hnone,
    fun r h => exec_ioDinRead h, fun r h => exec_ioStatus h, fun r h hroom => exec_ioDoutSet h hroom⟩

end Sys2Proof.Proofs
end

section
/-! PROOFS. The CAN ports (O52). -/
namespace Sys2Proof.Proofs
open Sys2Proof Sys2Proof.Machine Sys2Proof.Laws

section
variable {s : State} {p b : Nat}

/-! ### One port and one buffer -/

theorem canOf_onCan_self (f : CanPort → CanPort) (hp : p < s.can.length) : canOf (onCan p f s) p = f (canOf s p) := getD_updAt_self f default hp

theorem onCan_length (q : Nat) (f : CanPort → CanPort) (s : State) : (onCan q f s).can.length = s.can.length := length_updAt ..

theorem canOf_onBuf (f : CanBuf → CanBuf) (hp : p < s.can.length) :
    canOf (onBuf p b f s) p = { canOf s p with bufs := updAt (canOf s p).bufs b f } := canOf_onCan_self _ hp

theorem bufOf_onBuf_self (f : CanBuf → CanBuf) (hp : p < s.can.length) (hb : b < (canOf s p).bufs.length) :
    bufOf (onBuf p b f s) p b = f (bufOf s p b) := by
  unfold bufOf
  rw [canOf_onBuf f hp]
  exact getD_updAt_self f default hb

theorem bufOf_onBuf_ne (f : CanBuf → CanBuf) (hp : p < s.can.length) {c : Nat} (h : c ≠ b) : bufOf (onBuf p b f s) p c = bufOf s p c := by
  unfold bufOf
  rw [canOf_onBuf f hp]
  exact getD_updAt_ne _ f default h

/-- A buffer that is not as a new one exists. -/
theorem buf_exists (h : bufOf s p b ≠ default) : p < s.can.length ∧ b < (canOf s p).bufs.length := by
  have hb : b < (canOf s p).bufs.length := by
    refine Classical.byContradiction fun hout => ?_
    exact h (getD_of_length_le _ (Nat.not_lt.1 hout))
  refine ⟨?_, hb⟩
  refine Classical.byContradiction fun hout => ?_
  have hport : canOf s p = default := getD_of_length_le _ (Nat.not_lt.1 hout)
  rw [hport] at hb
  exact absurd hb (Nat.not_lt_zero b)

theorem buf_exists_of_accepts {f : CanStored} (h : (bufOf s p b).accepts f = true) : p < s.can.length ∧ b < (canOf s p).bufs.length :=
  buf_exists fun hd => by
    rw [hd] at h
    exact Bool.false_ne_true h

theorem buf_exists_of_tx (h : (bufOf s p b).tx ≠ none) : p < s.can.length ∧ b < (canOf s p).bufs.length :=
  buf_exists fun hd => h (by rw [hd]; rfl)

/-! ### What leaves the ports as they are -/

theorem logLimK_can (code key inst n : Nat) (content : Nat → List Word) (s : State) : (logLimK code key inst n content s).can = s.can :=
  (keeps_logLimK code key inst n content s (mk := 0x200000) (s0 := s) rfl (Keeps.refl _ s)).get 21 rfl

theorem logEv_can (code inst : Nat) (content : List Word) (s : State) : (logEv code inst content s).can = s.can := rfl

theorem logNs_can (code inst : Nat) (content : List Nat) (s : State) : (logNs code inst content s).can = s.can := rfl

theorem canNtf_can (q code : Nat) (payload : List Word) (s : State) : (canNtf q code payload s).can = s.can := by
  unfold canNtf ntfOrHold
  split
  · rfl
  · exact (keeps_placeNtf _ s (mk := 0x200000) (s0 := s) rfl (Keeps.refl _ s)).get 21 rfl

theorem canOf_of_can {t : State} (h : t.can = s.can) (p : Nat) : canOf t p = canOf s p := congrArg (fun l => l.getD p default) h

theorem canOf_setErr (tec rec_ : Nat) (hp : p < s.can.length) : canOf (setErr p tec rec_ s) p = { canOf s p with tec := tec, rec_ := rec_ } := by
  have hset := canOf_onCan_self (s := s) (fun c => { c with tec := tec, rec_ := rec_ }) hp
  unfold setErr
  dsimp only
  split
  · exact hset
  · exact (canOf_of_can (logLimK_can ..) p).trans hset

theorem setErr_length (q tec rec_ : Nat) (s : State) : (setErr q tec rec_ s).can.length = s.can.length := by
  unfold setErr
  dsimp only
  split
  · exact onCan_length ..
  · rw [logLimK_can]
    exact onCan_length ..

/-! ### Reception (R382, R385, R386, R392) -/

theorem detectFrame_of_mode {f : CanStored} (h : (canOf s p).cfg.opmode ≠ 3) : detectFrame p f s = s := if_pos (.inl h)

theorem opmode_of_mode {m : Nat} (h : canMode s p = m) (hm : m ≠ 0) : (canOf s p).cfg.opmode = m := by
  unfold canMode at h
  split at h
  · exact h
  · exact absurd h.symm hm

theorem onBus_of_on (hmode : canMode s p ≠ 0) (hon : (canOf s p).bus = .on) : canOffBus s p = false := by
  unfold canOffBus
  rw [hon, beq_eq_false_iff_ne.2 hmode]
  rfl

theorem exec_canFrameReceived {f : CanStored} (hp : p < s.can.length) (hmode : canMode s p ≠ 0) (hsearch : canMode s p ≠ 3)
    (hon : (canOf s p).bus = .on) (hfd : f.fdf = false ∨ (canOf s p).cfg.fdEn = true) :
    ∃ u, exec (.canFrameReceived p f) s = .next (storeFrame p f u) ∧ (canOf u p).received = inc32 (canOf s p).received ∧
      (canOf u p).ackRun = 0 ∧ (canOf u p).lone = false ∧ (canOf u p).bufs = (canOf s p).bufs ∧ (canOf u p).tec = (canOf s p).tec := by
  have hform : (f.fdf && !(canOf s p).cfg.fdEn) = false := by
    obtain h | h := hfd <;> rw [h]
    · rfl
    · exact Bool.and_false _
  obtain ⟨v, r, hexec, hv, hlen⟩ : ∃ v r, exec (.canFrameReceived p f) s = .next (storeFrame p f (detectFrame p f
      (onCan p (fun c => { c.good with received := inc32 c.received }) v))) ∧ canOf v p = { canOf s p with rec_ := r } ∧
      p < v.can.length := by
    unfold exec execCanFrameReceived
    simp only [onBus_of_on hmode hon, hform, Bool.false_eq_true, if_false]
    by_cases hone : canMode s p = 1
    · rw [if_pos hone]
      exact ⟨_, _, rfl, canOf_setErr (s := (freshNat s).2) _ _ hp, (setErr_length ..).symm ▸ hp⟩
    · rw [if_neg hone]
      exact ⟨s, (canOf s p).rec_, rfl, rfl, hp⟩
  have hu := canOf_onCan_self (s := v) (fun c => { c.good with received := inc32 c.received }) hlen
  rw [hv] at hu
  refine ⟨_, hexec, ?_⟩
  rw [detectFrame_of_mode (by rw [hu]; exact fun h => hsearch (by rw [← h]; exact (opmode_of_mode rfl hmode).symm)), hu]
  exact ⟨rfl, rfl, rfl, rfl, rfl⟩

theorem exec_canFrameReceived_off {f : CanStored} (hmode : canMode s p = 0) : exec (.canFrameReceived p f) s = .next s :=
  congrArg Host.Outcome.next (if_pos (by unfold canOffBus; rw [hmode]; rfl))

theorem exec_canFrameReceived_form {f : CanStored} (hmode : canMode s p = 1) (hon : (canOf s p).bus = .on) (hfdf : f.fdf = true)
    (hoff : (canOf s p).cfg.fdEn = false) : exec (.canFrameReceived p f) s = exec (.canReceiveError p false f.brs) s := by
  have hbus : canOffBus s p = false := onBus_of_on (by rw [hmode]; exact Nat.one_ne_zero) hon
  have hreceived : exec (.canFrameReceived p f) s = .next (rxError p false f.brs s) := congrArg Host.Outcome.next
    ((if_neg (Bool.eq_false_iff.1 hbus)).trans (if_pos (by rw [hfdf, hoff]; rfl)))
  exact hreceived.trans (congrArg Host.Outcome.next (if_neg (Bool.eq_false_iff.1 hbus))).symm

theorem exec_canReceiveError {eight brs : Bool} (hp : p < s.can.length) (hmode : canMode s p = 1) (hon : (canOf s p).bus = .on) :
    ∃ t, exec (.canReceiveError p eight brs) s = .next t ∧ (canOf t p).rec_ = Nat.min 255 ((canOf s p).rec_ + if eight then 8 else 1) ∧
      (canOf t p).tec = (canOf s p).tec ∧ (canOf t p).errFrames = sat 16 ((canOf s p).errFrames + 1) ∧ (canOf t p).bus = .on := by
  have hbus : canOffBus s p = false := onBus_of_on (by rw [hmode]; exact Nat.one_ne_zero) hon
  refine ⟨_, congrArg Host.Outcome.next ((if_neg (Bool.eq_false_iff.1 hbus)).trans (if_pos hmode)), ?_⟩
  rw [canOf_setErr _ _ (by rw [onCan_length]; exact hp), canOf_onCan_self _ hp]
  exact ⟨rfl, rfl, rfl, hon⟩

/-! ### Storing (R386, R387) -/

section
variable {f : CanStored}

theorem storeFrame_free (hfind : ((List.range 64).filter fun b => (bufOf s p b).accepts f).find? (fun b => (bufOf s p b).free) = some b)
    (hntf : (bufOf s p b).ntf = false) :
    (bufOf (storeFrame p f s) p b).frame = some f ∧ ∀ c, c ≠ b → bufOf (storeFrame p f s) p c = bufOf s p c := by
  have haccepts : (bufOf s p b).accepts f = true := (List.mem_filter.1 (List.mem_of_find?_eq_some hfind)).2
  obtain ⟨hp, hb⟩ := buf_exists_of_accepts haccepts
  have hstore : storeFrame p f s = onBuf p b (fun x => { x with frame := some f }) s := by
    unfold storeFrame
    simp only [show ((List.range 64).filter fun b => ((canOf s p).bufs.getD b default).accepts f).find?
      (fun b => ((canOf s p).bufs.getD b default).free) = some b from hfind]
    exact if_pos (by rw [show ((canOf s p).bufs.getD b default).ntf = false from hntf]; rfl)
  rw [hstore]
  exact ⟨congrArg CanBuf.frame (bufOf_onBuf_self _ hp hb), fun c hc => bufOf_onBuf_ne _ hp hc⟩

theorem storeFrame_full (hfind : ((List.range 64).filter fun b => (bufOf s p b).accepts f).find? (fun b => (bufOf s p b).free) = none)
    (hhead : ((List.range 64).filter fun b => (bufOf s p b).accepts f).head? = some b) :
    (bufOf (storeFrame p f s) p b).frame = (bufOf s p b).frame ∧ (bufOf (storeFrame p f s) p b).dropped = sat 16 ((bufOf s p b).dropped + 1) ∧
      (canOf (storeFrame p f s) p).overruns = sat 16 ((canOf s p).overruns + 1) := by
  have haccepts : (bufOf s p b).accepts f = true := (List.mem_filter.1 (List.mem_of_head? hhead)).2
  obtain ⟨hp, hb⟩ := buf_exists_of_accepts haccepts
  have hport : canOf (storeFrame p f s) p = { canOf s p with
      bufs := updAt (canOf s p).bufs b fun x => { x with dropped := sat 16 (x.dropped + 1) }
      overruns := sat 16 ((canOf s p).overruns + 1) } := by
    unfold storeFrame
    simp only [show ((List.range 64).filter fun b => ((canOf s p).bufs.getD b default).accepts f).find?
      (fun b => ((canOf s p).bufs.getD b default).free) = none from hfind,
      show ((List.range 64).filter fun b => ((canOf s p).bufs.getD b default).accepts f).head? = some b from hhead]
    rw [canOf_of_can (logLimK_can ..), canOf_onCan_self _ (by rw [onBuf, onCan_length]; exact hp), canOf_onBuf _ hp]
  have hbuf : bufOf (storeFrame p f s) p b = { bufOf s p b with dropped := sat 16 ((bufOf s p b).dropped + 1) } := by
    rw [bufOf, hport]
    exact getD_updAt_self _ default hb
  rw [hbuf, hport]
  exact ⟨rfl, rfl, rfl⟩

theorem storeFrame_unmatched (hp : p < s.can.length) (hnone : (List.range 64).all (fun b => !(bufOf s p b).accepts f) = true) :
    (canOf (storeFrame p f s) p).unmatched = sat 16 ((canOf s p).unmatched + 1) ∧ (canOf (storeFrame p f s) p).bufs = (canOf s p).bufs := by
  have hempty : (List.range 64).filter (fun b => ((canOf s p).bufs.getD b default).accepts f) = [] :=
    List.filter_eq_nil_iff.2 fun b hb => Bool.eq_false_iff.1 ((Bool.not_eq_true' _).mp (List.all_eq_true.1 hnone b hb))
  have hstore : storeFrame p f s = onCan p (fun c => { c with unmatched := sat 16 (c.unmatched + 1) }) s := by
    unfold storeFrame
    simp only [hempty, List.find?_nil, List.head?_nil]
  rw [hstore, canOf_onCan_self _ hp]
  exact ⟨rfl, rfl⟩

end

/-! ### Pending frames (R389 to R391) -/

theorem complete_can (o : Origin) (status : Nat) (payload : List Word) (s : State) : (complete o status payload s).can = s.can :=
  (keeps_complete o status payload s (mk := 0x200000) (s0 := s) rfl (Keeps.refl _ s)).get 21 rfl

theorem ok_can (r : Req) (payload : List Word) (s : State) : (ok r payload s).can = s.can :=
  (keeps_ok r payload s (mk := 0x200000) (s0 := s) rfl (Keeps.refl _ s)).get 21 rfl

theorem acceptN_can (r : Req) (s : State) : (acceptN r s).can = s.can :=
  (keeps_acceptN r s (mk := 0x200000) (s0 := s) rfl (Keeps.refl _ s)).get 21 rfl

theorem bufOf_of_can {t : State} (h : t.can = s.can) (p b : Nat) : bufOf t p b = bufOf s p b :=
  congrArg (fun c : CanPort => c.bufs.getD b default) (canOf_of_can h p)

/-- A buffer without its pending frame. -/
def txGone (x : CanBuf) : CanBuf := { x with tx := none }

section
variable (status : Nat) (sof : Option Nat)

theorem endFrame_none (h : (bufOf s p b).tx = none) : endFrame p b status sof s = s := by
  unfold endFrame
  simp only [h]

theorem endFrame_can {x : CanTx} (h : (bufOf s p b).tx = some x) : (endFrame p b status sof s).can = (onBuf p b txGone s).can := by
  unfold endFrame
  simp only [h]
  refine List.foldlRecOn _ _ (motive := fun t : State => t.can = (onBuf p b txGone s).can) ?_ fun t ht r _ => (ok_can ..).trans ht
  exact complete_can ..

theorem endFrame_tx : (bufOf (endFrame p b status sof s) p b).tx = none := by
  cases h : (bufOf s p b).tx with
  | none =>
    rw [endFrame_none status sof h]
    exact h
  | some x =>
    obtain ⟨hp, hb⟩ := buf_exists_of_tx (h ▸ Option.some_ne_none x)
    rw [bufOf_of_can (endFrame_can status sof h), bufOf_onBuf_self _ hp hb]
    rfl

theorem endFrame_other {c : Nat} (hc : c ≠ b) : (bufOf (endFrame p b status sof s) p c).tx = (bufOf s p c).tx := by
  cases h : (bufOf s p b).tx with
  | none => rw [endFrame_none status sof h]
  | some x =>
    obtain ⟨hp, -⟩ := buf_exists_of_tx (h ▸ Option.some_ne_none x)
    rw [bufOf_of_can (endFrame_can status sof h), bufOf_onBuf_ne _ hp hc]

/-- What a pending frame's end leaves of its port: all but the buffers. -/
theorem endFrame_port : ∃ bufs, canOf (endFrame p b status sof s) p = { canOf s p with bufs := bufs } := by
  cases h : (bufOf s p b).tx with
  | none =>
    rw [endFrame_none status sof h]
    exact ⟨_, rfl⟩
  | some x =>
    obtain ⟨hp, -⟩ := buf_exists_of_tx (h ▸ Option.some_ne_none x)
    rw [canOf_of_can (endFrame_can status sof h), canOf_onBuf _ hp]
    exact ⟨_, rfl⟩

end

theorem endAllFrames_port (p status : Nat) (s : State) : ∃ bufs, canOf (endAllFrames p status s) p = { canOf s p with bufs := bufs } := by
  unfold endAllFrames
  refine List.foldlRecOn _ _ (motive := fun t => ∃ bufs, canOf t p = { canOf s p with bufs := bufs }) ⟨_, rfl⟩ fun t ⟨bufs, ht⟩ b _ => ?_
  obtain ⟨bufs', hend⟩ := endFrame_port (s := t) (p := p) (b := b) status none
  exact ⟨bufs', hend.trans (by rw [ht])⟩

theorem endAllFrames_tx (status : Nat) (hb : b < 64) (s : State) : (bufOf (endAllFrames p status s) p b).tx = none := by
  obtain ⟨l1, -, hown⟩ := foldl_own (get := fun t c => (bufOf t p c).tx) (f := fun t c => endFrame p c status none t)
    (fun t c hc => endFrame_other status none hc) List.nodup_range (List.mem_range.2 hb) s
  exact hown.trans (endFrame_tx status none)

theorem busOff_off (hp : p < s.can.length) (hb : b < 64) : (canOf (busOff p s) p).bus = .off ∧ (bufOf (busOff p s) p b).tx = none := by
  have hcan : (busOff p s).can = (endAllFrames p stBusOff (onCan p (fun c => { c with bus := .off, offSince := s.clk.ticks }) s)).can := by
    unfold busOff
    rw [canNtf_can]
    exact logEv_can ..
  obtain ⟨bufs, hend⟩ := endAllFrames_port p stBusOff (onCan p (fun c => { c with bus := .off, offSince := s.clk.ticks }) s)
  rw [canOf_of_can hcan, bufOf_of_can hcan, hend, canOf_onCan_self _ hp]
  exact ⟨rfl, endAllFrames_tx _ hb _⟩

/-! ### Transmission (R389 to R392) -/

/-- A fold that keeps its value or takes the next element ends with an element of its list. -/
theorem mem_of_foldl_pick {α : Type} {f : Option α → α → Option α} (hf : ∀ m y, f m y = m ∨ f m y = some y) {l : List α} {m : Option α} {x : α}
    (h : l.foldl f m = some x) : m = some x ∨ x ∈ l := by
  induction l generalizing m with
  | nil => exact .inl h
  | cons y l ih =>
    obtain hm | hmem := ih h
    · obtain hkeep | htake := hf m y
      · exact .inl (hkeep.symm.trans hm)
      · exact .inr (Option.some.inj (htake.symm.trans hm) ▸ List.mem_cons_self)
    · exact .inr (List.mem_cons_of_mem y hmem)

/-- The frame that arbitration offers is pending in its buffer. -/
theorem offered_pending {sof : Nat} (h : offered (canOf s p) sof = some b) : b < 64 ∧ (bufOf s p b).tx ≠ none := by
  unfold offered at h
  obtain ⟨⟨c, rank⟩, hfold, hfst⟩ := Option.map_eq_some_iff.1 h
  have hcb : c = b := hfst
  subst hcb
  have hpick := mem_of_foldl_pick (fun m y => by
    cases m with
    | none => exact .inr rfl
    | some z =>
      by_cases hlt : y.2 < z.2
      · exact .inr (if_pos hlt)
      · exact .inl (if_neg hlt)) hfold
  obtain ⟨j, hj, hpending⟩ := List.mem_filterMap.1 (hpick.resolve_left (fun h => nomatch h))
  cases htx : ((canOf s p).bufs.getD j default).tx with
  | none => simp only [htx, reduceCtorEq] at hpending
  | some t =>
    simp only [htx] at hpending
    split at hpending
    · obtain ⟨rfl, -⟩ := Prod.mk.inj (Option.some.inj hpending)
      exact ⟨List.mem_range.1 hj, by rw [bufOf, htx]; exact Option.some_ne_none t⟩
    · exact nomatch hpending

/-- A pending frame whose attempt counts. -/
def attempted (ack : Bool) (x : CanBuf) : CanBuf := { x with
  tx := x.tx.map fun t => { t with attempts := t.attempts + 1, ackErrs := t.ackErrs + b2n ack } }

theorem attempted_tx (hp : p < s.can.length) {x : CanTx} (hx : (bufOf s p b).tx = some x) :
    (bufOf (onBuf p b (attempted false) s) p b).tx = some { x with attempts := x.attempts + 1 } := by
  obtain ⟨-, hb⟩ := buf_exists_of_tx (hx ▸ Option.some_ne_none x)
  rw [bufOf_onBuf_self _ hp hb, attempted, hx]
  rfl

/-- A port whose attempt ended in an error. -/
def inError (p b tec rec_ : Nat) (s : State) : State :=
  setErr p tec rec_ (onCan p (fun c => { c with errFrames := sat 16 (c.errFrames + 1) }) (onBuf p b (attempted false) s))

theorem inError_port (hp : p < s.can.length) {x : CanTx} (hx : (bufOf s p b).tx = some x) (tec : Nat) :
    (∃ bufs errs, canOf (inError p b tec (canOf s p).rec_ s) p = { canOf s p with bufs := bufs, errFrames := errs, tec := tec }) ∧
    (bufOf (inError p b tec (canOf s p).rec_ s) p b).tx ≠ none ∧ p < (inError p b tec (canOf s p).rec_ s).can.length := by
  have hbuf : p < (onBuf p b (attempted false) s).can.length := by
    rw [onBuf, onCan_length]
    exact hp
  have hport : canOf (inError p b tec (canOf s p).rec_ s) p = { canOf (onBuf p b (attempted false) s) p with
      errFrames := sat 16 ((canOf (onBuf p b (attempted false) s) p).errFrames + 1)
      tec := tec
      rec_ := (canOf s p).rec_ } := by
    rw [inError, canOf_setErr _ _ (by rw [onCan_length]; exact hbuf), canOf_onCan_self _ hbuf]
  refine ⟨⟨_, _, hport.trans (by rw [canOf_onBuf _ hp])⟩, ?_, ?_⟩
  · rw [bufOf, hport]
    exact fun hnone => Option.some_ne_none _ ((attempted_tx hp hx).symm.trans hnone)
  · rw [inError, setErr_length, onCan_length]
    exact hbuf

section
variable {sof : Nat} (hp : p < s.can.length) (hmode : canMode s p = 1) (hon : (canOf s p).bus = .on) (hoff : offered (canOf s p) sof = some b)
include hp hmode hon hoff

theorem exec_canAttemptEnd_sent : ∃ t, exec (.canAttemptEnd p sof .sent) s = .next t ∧ (bufOf t p b).tx = none ∧
    (canOf t p).tec = (canOf s p).tec - 1 ∧ (canOf t p).sent = inc32 (canOf s p).sent := by
  have hbuf : p < (onBuf p b (attempted false) s).can.length := by
    rw [onBuf, onCan_length]
    exact hp
  have hexec : exec (.canAttemptEnd p sof .sent) s = .next (endFrame p b stOk (some sof) (setErr p ((canOf s p).tec - 1) (canOf s p).rec_
      (onCan p (fun c => { c.good with sent := inc32 c.sent }) (onBuf p b (attempted false) s)))) := by
    unfold exec execCanAttemptEnd
    simp only [hmode, hon, hoff, ne_eq, not_true_eq_false, reduceCtorEq, or_self, if_false]
    rfl
  refine ⟨_, hexec, endFrame_tx .., ?_⟩
  obtain ⟨bufs, hend⟩ := endFrame_port (p := p) (b := b) (s := setErr p ((canOf s p).tec - 1) (canOf s p).rec_
      (onCan p (fun c => { c.good with sent := inc32 c.sent }) (onBuf p b (attempted false) s))) stOk (some sof)
  rw [hend, canOf_setErr _ _ (by rw [onCan_length]; exact hbuf), canOf_onCan_self _ hbuf, canOf_onBuf _ hp]
  exact ⟨rfl, rfl⟩

variable {x : CanTx} (hx : (bufOf s p b).tx = some x) (hnone : x.cancels = [])
include hx hnone

theorem exec_canAttemptEnd_lost : ∃ t, exec (.canAttemptEnd p sof .lost) s = .next t ∧
    (bufOf t p b).tx = some { x with attempts := x.attempts + 1 } ∧ (canOf t p).tec = (canOf s p).tec := by
  have hself := attempted_tx hp hx
  have hexec : exec (.canAttemptEnd p sof .lost) s = .next (onBuf p b (attempted false) s) := by
    unfold attempted at hself ⊢
    unfold exec execCanAttemptEnd
    simp only [hmode, hon, hoff, ne_eq, not_true_eq_false, reduceCtorEq, or_self, if_false, hself, hnone, List.isEmpty_nil, Bool.not_true,
      Bool.false_eq_true]
  refine ⟨_, hexec, hself, ?_⟩
  rw [canOf_onBuf _ hp]

theorem exec_canAttemptEnd_error : exec (.canAttemptEnd p sof (.error false)) s = .next
    (if 255 < (canOf s p).tec + 8 then busOff p (inError p b ((canOf s p).tec + 8) (canOf s p).rec_ s)
     else inError p b ((canOf s p).tec + 8) (canOf s p).rec_ s) := by
  have hself := attempted_tx hp hx
  unfold inError attempted at *
  unfold exec execCanAttemptEnd
  simp only [hmode, hon, hoff, ne_eq, not_true_eq_false, reduceCtorEq, or_self, if_false, hself, hnone, List.isEmpty_nil, Bool.not_true,
    Bool.false_eq_true]

theorem exec_canAttemptEnd_active (htec : (canOf s p).tec + 8 ≤ 255) : ∃ t, exec (.canAttemptEnd p sof (.error false)) s = .next t ∧
    (canOf t p).tec = (canOf s p).tec + 8 ∧ (canOf t p).bus = .on ∧ (bufOf t p b).tx ≠ none := by
  obtain ⟨⟨bufs, errs, hport⟩, htx, -⟩ := inError_port hp hx ((canOf s p).tec + 8)
  refine ⟨_, (exec_canAttemptEnd_error hp hmode hon hoff hx hnone).trans (congrArg Host.Outcome.next (if_neg (Nat.not_lt.2 htec))), ?_⟩
  rw [hport]
  exact ⟨rfl, hon, htx⟩

theorem exec_canAttemptEnd_busOff (htec : 255 < (canOf s p).tec + 8) : ∃ t, exec (.canAttemptEnd p sof (.error false)) s = .next t ∧
    (canOf t p).bus = .off ∧ (bufOf t p b).tx = none := by
  obtain ⟨-, -, hlen⟩ := inError_port hp hx ((canOf s p).tec + 8)
  exact ⟨_, (exec_canAttemptEnd_error hp hmode hon hoff hx hnone).trans (congrArg Host.Outcome.next (if_pos htec)),
    busOff_off hlen (offered_pending hoff).1⟩

end

theorem exec_canAttemptEnd_none {sof : Nat} {e : CanEnd} (hnone : offered (canOf s p) sof = none) : exec (.canAttemptEnd p sof e) s = .next s := by
  unfold exec execCanAttemptEnd
  simp only [hnone, ite_self]

theorem exec_canRecovered (hp : p < s.can.length) (hmode : canMode s p = 1) (hrec : (canOf s p).bus = .recovering) :
    ∃ t, exec (.canRecovered p) s = .next t ∧ (canOf t p).bus = .on ∧ (canOf t p).tec = 0 ∧ (canOf t p).rec_ = 0 := by
  refine ⟨_, congrArg Host.Outcome.next (if_pos ⟨hmode, hrec⟩), ?_⟩
  rw [canOf_of_can (canNtf_can ..), canOf_of_can (logNs_can ..), canOf_onCan_self _ hp]
  exact ⟨rfl, rfl, rfl⟩

theorem exec_canRecovered_not (h : (canOf s p).bus ≠ .recovering) : exec (.canRecovered p) s = .next s :=
  congrArg Host.Outcome.next (if_neg fun hr => h hr.2)

/-! ### Rate detection (R385) -/

theorem exec_canDetectDwell (hp : p < s.can.length) (hmode : canMode s p = 3) (hnom : (canOf s p).detect.nom = none)
    (hdwell : (canOf s p).detect.since + (canOf s p).cfg.dwell * 40000 ≤ s.clk.ticks) :
    ∃ t, exec (.canDetectDwell p) s = .next t ∧ (canOf t p).detect.cand = ((canOf s p).detect.cand + 1) % 8 ∧
      (canOf t p).detect.since = s.clk.ticks ∧ OnlyChanges [.can] s t := by
  have hexec : exec (.canDetectDwell p) s = .next (onCan p (fun c => { c with detect := { c.detect with
      cand := (c.detect.cand + 1) % 8
      since := s.clk.ticks } }) s) := congrArg Host.Outcome.next (if_pos ⟨hmode, hnom, hdwell⟩)
  refine ⟨_, hexec, ?_, ?_, only_of_keeps (keeps_execCanDetectDwell p s _ hexec) (by decide)⟩ <;> rw [canOf_onCan_self _ hp]

theorem exec_dataTimingSearchEnd (hp : p < s.can.length) (hmode : canMode s p = 3) (hnom : (canOf s p).detect.nom ≠ none)
    (hfound : (canOf s p).detect.found = false) (hend : (canOf s p).detect.since + 4 * (canOf s p).cfg.dwell * 40000 ≤ s.clk.ticks) :
    ∃ t, exec (.dataTimingSearchEnd p) s = .next t ∧ (canOf t p).detect.found = true ∧
      (canOf t p).detect.nom = (canOf s p).detect.nom := by
  refine ⟨_, congrArg Host.Outcome.next (if_pos ⟨hmode, Option.isSome_iff_ne_none.2 hnom, hfound, hend⟩), ?_⟩
  have hcan : (rateFound p s).can = (onCan p (fun c => { c with detect := { c.detect with found := true } }) s).can := by
    unfold rateFound
    rw [canNtf_can]
    exact logEv_can ..
  rw [canOf_of_can hcan, canOf_onCan_self _ hp]
  exact ⟨rfl, rfl⟩

/-! ### The CAN commands (R395) -/

section
variable {r : Req} (hport : canPortOf r = p) (hp : p < s.can.length) (hb : canBufOf r < (canOf s p).bufs.length)
include hport hp hb

theorem exec_canSend (h : Runs 0x0B03 chkCanSend r s) : ∃ u t, exec .canSend s = .next (acceptN r u) ∧ (bufOf u p (canBufOf r)).tx = some t ∧
    t.id = (r.w 4).toNat ∧ t.data = r.words.drop 5 ∧ t.attempts = 0 ∧ t.since = s.tt.tt := by
  subst hport
  have hact := serve_of_runs (act := actCanSend) h
  unfold actCanSend at hact
  exact ⟨_, _, congrArg Host.Outcome.next hact, congrArg CanBuf.tx (bufOf_onBuf_self (s := took r s) _ hp hb), rfl, rfl, rfl, rfl⟩

theorem exec_canCancel (h : Runs 0x0B04 chkCanCancel r s) : ∃ t, exec (.canCancel false) s = .next t ∧ (bufOf t p (canBufOf r)).tx = none := by
  subst hport
  exact ⟨_, congrArg Host.Outcome.next (serve_of_runs (act := actCanCancel false) h), endFrame_tx _ _⟩

theorem exec_canCancel_started {x : CanTx} (h : Runs 0x0B04 chkCanCancel r s) (hx : (bufOf s p (canBufOf r)).tx = some x) :
    ∃ t, exec (.canCancel true) s = .next t ∧ (bufOf t p (canBufOf r)).tx = some { x with cancels := x.cancels ++ [r] } ∧
      t.ports = s.ports := by
  subst hport
  have hact := serve_of_runs (act := actCanCancel true) h
  unfold actCanCancel at hact
  refine ⟨_, congrArg Host.Outcome.next hact, ?_, rfl⟩
  have hself := bufOf_onBuf_self (s := took r s) (fun x => { x with tx := x.tx.map fun t => { t with cancels := t.cancels ++ [r] } }) hp hb
  refine (congrArg CanBuf.tx hself).trans ?_
  rw [show (bufOf (took r s) (canPortOf r) (canBufOf r)).tx = some x from hx]
  rfl

theorem exec_canRead {f : CanStored} (h : Runs 0x0B05 chkCanRead r s) (hf : (bufOf s p (canBufOf r)).frame = some f) :
    ∃ u, exec .canRead s = .next (respondMsg r stOk (frameWords (canBufOf r) (bufOf s p (canBufOf r)) f) (some (p, canBufOf r)) u) ∧
      bufOf u p (canBufOf r) = { bufOf s p (canBufOf r) with locked := true, dropped := 0 } := by
  subst hport
  have hact : actCanRead r (took r s) = respondMsg r stOk (frameWords (canBufOf r) (bufOf s (canPortOf r) (canBufOf r)) f)
      (some (canPortOf r, canBufOf r)) (onBuf (canPortOf r) (canBufOf r) (fun x => { x with locked := true, dropped := 0 }) (took r s)) := by
    unfold actCanRead
    simp only [show (bufOf (took r s) (canPortOf r) (canBufOf r)).frame = some f from hf]
    rfl
  exact ⟨_, congrArg Host.Outcome.next ((serve_of_runs (act := actCanRead) h).trans hact), bufOf_onBuf_self (s := took r s) _ hp hb⟩

theorem exec_canStatus (h : Runs 0x0B06 chkCanStatus r s) : ∃ w, exec .canStatus s = .next (ok r [ w, nomWord (canOf s p).nomNow,
    dataWord (canOf s p).dataNow, wd (canOf s p).sent, wd (canOf s p).received, packW [((canOf s p).ackRun, 16), ((canOf s p).errFrames, 0)],
    packW [((canOf s p).unmatched, 16), ((canOf s p).overruns, 0)] ] (took r s)) := by
  subst hport
  have hact := serve_of_runs (act := actCanStatus) h
  unfold actCanStatus at hact
  exact ⟨_, congrArg Host.Outcome.next hact⟩

theorem exec_canRecover (h : Runs 0x0B07 chkCanRecover r s) : ∃ u, exec .canRecover s = .next (ok r [] u) ∧ (canOf u p).bus = .recovering ∧
    (canOf u p).recoverPort = r.port := by
  subst hport
  have hself := canOf_onCan_self (s := took r s) (fun c => { c with bus := .recovering, recoverPort := r.port }) hp
  exact ⟨_, congrArg Host.Outcome.next (serve_of_runs (act := actCanRecover) h), congrArg CanPort.bus hself, congrArg CanPort.recoverPort hself⟩

end

end

/-- Settles O52: a frame acts on the buffer that accepts or offers it, and the end of an attempt on the port's error counters. -/
theorem canPortsFollowTheirRules : Obligations.CanPortsFollowTheirRules := by
  unfold Obligations.CanPortsFollowTheirRules
  intro s p hp
  exact ⟨fun f hmode hsearch hon hfd => exec_canFrameReceived hp hmode hsearch hon hfd,
    fun f b hfind hntf => storeFrame_free hfind hntf,
    fun f b hfind hhead => storeFrame_full hfind hhead,
    fun f hnone => storeFrame_unmatched hp hnone,
    fun f hmode => exec_canFrameReceived_off hmode,
    fun f hmode hon hfdf hoff => exec_canFrameReceived_form hmode hon hfdf hoff,
    fun sof b hmode hon hoff => ⟨exec_canAttemptEnd_sent hp hmode hon hoff, fun x hx hnone =>
      ⟨exec_canAttemptEnd_lost hp hmode hon hoff hx hnone, exec_canAttemptEnd_active hp hmode hon hoff hx hnone,
        exec_canAttemptEnd_busOff hp hmode hon hoff hx hnone⟩⟩,
    fun sof e hnone => exec_canAttemptEnd_none hnone,
    fun hmode hrec => exec_canRecovered hp hmode hrec, exec_canRecovered_not,
    exec_canDetectDwell hp, exec_dataTimingSearchEnd hp,
    fun eight brs hmode hon => exec_canReceiveError hp hmode hon,
    fun r hport hb => ⟨exec_canSend hport hp hb, fun h => ⟨exec_canCancel hport hp hb h, fun x hx => exec_canCancel_started hport hp hb h hx⟩,
      fun f h hf => exec_canRead hport hp hb h hf, exec_canStatus hport hp hb, exec_canRecover hport hp hb⟩⟩

end Sys2Proof.Proofs
end

section
/-! PROOFS. The recorder's log, pages and staging (O53). -/
namespace Sys2Proof.Proofs
open Sys2Proof Sys2Proof.Machine Sys2Proof.Laws

theorem octetsOf_append (l m : List Rec) : octetsOf (l ++ m) = octetsOf l + octetsOf m := by
  unfold octetsOf
  rw [List.map_append, List.sum_append]

theorem octetsOf_cons (r : Rec) (l : List Rec) : octetsOf (r :: l) = octets r + octetsOf l := by
  unfold octetsOf
  rw [List.map_cons, List.sum_cons]

theorem octetsOf_filter_le (f : Rec → Bool) (l : List Rec) : octetsOf (l.filter f) ≤ octetsOf l := by
  induction l with
  | nil => exact Nat.le_refl _
  | cons r l ih =>
    rw [List.filter_cons, octetsOf_cons]
    split
    · rw [octetsOf_cons]
      exact Nat.add_le_add_left ih _
    · exact Nat.le_trans ih (Nat.le_add_left ..)

/-! ### Displacing (R402) -/

section
variable (sev room : Nat)

/-- `kept` octets of records that stay stand before the list. Where the eligible records suffice, enough of them go. -/
theorem displaceLog_fits {l : List Rec} {kept : Nat}
    (h : kept + octetsOf l ≤ room + octetsOf (l.filter fun x => decide (x.sev ≤ sev))) :
    kept + octetsOf (displaceLog sev room l (kept + octetsOf l)).1 ≤ room := by
  induction l generalizing kept with
  | nil => exact h
  | cons r l ih =>
    unfold displaceLog
    rw [octetsOf_cons] at h ⊢
    split
    next hroom => rwa [octetsOf_cons]
    next =>
      by_cases hsev : r.sev ≤ sev
      · rw [List.filter_cons_of_pos (by simpa using hsev), octetsOf_cons] at h
        rw [if_pos hsev, show kept + (octets r + octetsOf l) - octets r = kept + octetsOf l by omega]
        exact ih (by omega)
      · rw [List.filter_cons_of_neg (by simpa using hsev)] at h
        rw [if_neg hsev, show kept + (octets r + octetsOf l) = kept + octets r + octetsOf l by omega, octetsOf_cons, ← Nat.add_assoc]
        exact ih (by omega)

theorem displaceLog_above (l : List Rec) (held : Nat) :
    (displaceLog sev room l held).1.filter (fun x => decide (sev < x.sev)) = l.filter (fun x => decide (sev < x.sev)) := by
  induction l generalizing held with
  | nil => rfl
  | cons r l ih =>
    unfold displaceLog
    split
    next => rfl
    next =>
      by_cases hsev : r.sev ≤ sev
      · rw [if_pos hsev, List.filter_cons_of_neg (by simpa using hsev)]
        exact ih _
      · rw [if_neg hsev, List.filter_cons_of_pos (by simpa using hsev), List.filter_cons_of_pos (by simpa using hsev)]
        exact congrArg (r :: ·) (ih _)

theorem displaceLog_sublist (l : List Rec) (held : Nat) : (displaceLog sev room l held).1.Sublist l := by
  induction l generalizing held with
  | nil => exact .slnil
  | cons r l ih =>
    unfold displaceLog
    split
    next => exact .refl _
    next =>
      split
      next => exact (ih _).cons r
      next => exact (ih _).cons_cons r

end

/-! ### Appending (R402) -/

/-- What an append does: the record joins the log, displaces others before it does, or is dropped. -/
theorem appendRec_cases (lg : Recorder) (r : Rec) :
    (octetsOf lg.log + octets r ≤ logCap ∧ (appendRec lg r).log = lg.log ++ [r]) ∨
    (logCap < octetsOf lg.log + octets r ∧ octetsOf lg.log + octets r - logCap ≤ octetsOf (lg.log.filter fun x => decide (x.sev ≤ r.sev)) ∧
      (appendRec lg r).log = (displaceLog r.sev (logCap - octets r) lg.log (octetsOf lg.log)).1 ++ [r]) ∨
    (logCap < octetsOf lg.log + octets r ∧ (appendRec lg r).log = lg.log) := by
  unfold appendRec
  dsimp only
  split
  next h => exact .inl ⟨h, rfl⟩
  next h =>
    split
    next he => exact .inr (.inl ⟨Nat.not_le.1 h, he, rfl⟩)
    next => exact .inr (.inr ⟨Nat.not_le.1 h, rfl⟩)

theorem appendRec_fits (lg : Recorder) (r : Rec) (hcap : octetsOf lg.log ≤ logCap) : octetsOf (appendRec lg r).log ≤ logCap := by
  obtain ⟨hroom, hlog⟩ | ⟨hfull, helig, hlog⟩ | ⟨-, hlog⟩ := appendRec_cases lg r
  · rw [hlog, octetsOf_append]
    exact hroom
  · have hle := octetsOf_filter_le (fun x => decide (x.sev ≤ r.sev)) lg.log
    have hfits := displaceLog_fits r.sev (logCap - octets r) (l := lg.log) (kept := 0) (by omega)
    simp only [Nat.zero_add] at hfits
    rw [hlog, octetsOf_append, show octetsOf [r] = octets r from rfl]
    omega
  · rwa [hlog]

theorem appendRec_above (lg : Recorder) (r : Rec) :
    (appendRec lg r).log.filter (fun x => decide (r.sev < x.sev)) = lg.log.filter (fun x => decide (r.sev < x.sev)) := by
  have hself : [r].filter (fun x => decide (r.sev < x.sev)) = [] := List.filter_cons_of_neg (by simp)
  obtain ⟨-, hlog⟩ | ⟨-, -, hlog⟩ | ⟨-, hlog⟩ := appendRec_cases lg r <;> rw [hlog]
  · rw [List.filter_append, hself, List.append_nil]
  · rw [List.filter_append, hself, List.append_nil, displaceLog_above]

theorem appendRec_mem (lg : Recorder) (r : Rec) : ∀ x ∈ (appendRec lg r).log, x = r ∨ x ∈ lg.log := by
  intro x hx
  obtain ⟨-, hlog⟩ | ⟨-, -, hlog⟩ | ⟨-, hlog⟩ := appendRec_cases lg r <;> rw [hlog] at hx
  · exact (List.mem_append.1 hx).symm.imp_left List.mem_singleton.1
  · exact (List.mem_append.1 hx).symm.imp List.mem_singleton.1 (displaceLog_sublist ..).mem
  · exact .inr hx

theorem appendRec_of_room (lg : Recorder) (r : Rec) (h : octetsOf lg.log + octets r ≤ logCap) : (appendRec lg r).log = lg.log ++ [r] := by
  unfold appendRec
  exact congrArg Recorder.log (if_pos h)

/-! ### Creating (R399, R400) -/

section
variable (st : Stamp) (sev : Nat) (host deferred : Bool) (code inst : Nat) (content : List Word) (lg : Recorder)

theorem create_filtered (h : sev < lg.minSev) : Recorder.create st sev host deferred code inst content lg =
    { lg with cnt := { lg.cnt with filtered := inc32 lg.cnt.filtered } } := if_pos h

theorem create_numbered (h : lg.minSev ≤ sev) :
    (Recorder.create st sev host deferred code inst content lg).cnt.nextSeq = (lg.cnt.nextSeq + 1) % 2 ^ 48 ∧
    (Recorder.create st sev host deferred code inst content lg).log = lg.log := by
  have hcreate : Recorder.create st sev host deferred code inst content lg =
      Recorder.enter { lg with cnt := { lg.cnt with nextSeq := (lg.cnt.nextSeq + 1) % 2 ^ 48 } }
        ⟨lg.cnt.nextSeq, sev, recWords st sev host deferred code inst lg.cnt.nextSeq content⟩ := if_neg (Nat.not_lt.2 h)
  rw [hcreate]
  exact ⟨rfl, rfl⟩

end

/-! ### The appender (R404, R405) -/

/-- Filling the page takes records from staging into the page, and nothing else. -/
theorem fillPage_moves (n : Nat) (lg : Recorder) : (fillPage n lg).page ++ (fillPage n lg).staged = lg.page ++ lg.staged ∧
    (fillPage n lg).log = lg.log ∧ (fillPage n lg).cnt = lg.cnt := by
  induction n generalizing lg with
  | zero => exact ⟨rfl, rfl, rfl⟩
  | succ n ih =>
    unfold fillPage
    cases hstaged : lg.staged with
    | nil => exact ⟨by dsimp only; rw [hstaged], rfl, rfl⟩
    | cons r t =>
      dsimp only
      split
      · obtain ⟨hrecords, hlog, hcnt⟩ := ih { lg with page := lg.page ++ [r], staged := t }
        refine ⟨hrecords.trans ?_, hlog, hcnt⟩
        rw [List.append_assoc]
        rfl
      · exact ⟨by rw [hstaged], rfl, rfl⟩

theorem exec_appenderRun {s : State} (h : appendsOk s = true) : ∃ t, exec .appenderRun s = .next t ∧
    t.log.page ++ t.log.staged = s.log.page ++ s.log.staged ∧ t.log.log = s.log.log ∧ t.log.cnt = s.log.cnt ∧ OnlyChanges [.log] s t := by
  obtain ⟨lg, hlg, hexec⟩ : ∃ lg : Recorder, (lg.page = s.log.page ∧ lg.staged = s.log.staged ∧ lg.log = s.log.log ∧ lg.cnt = s.log.cnt) ∧
      exec .appenderRun s = .next { s with log := fillPage lg.staged.length lg } := by
    refine ⟨_, ?_, congrArg Host.Outcome.next (if_pos h)⟩
    split <;> exact ⟨rfl, rfl, rfl, rfl⟩
  obtain ⟨hpage, hstaged, hlog, hcnt⟩ := hlg
  obtain ⟨hmoves, hlog', hcnt'⟩ := fillPage_moves lg.staged.length lg
  exact ⟨_, hexec, hmoves.trans (by rw [hpage, hstaged]), hlog'.trans hlog, hcnt'.trans hcnt,
    only_of_keeps (keeps_execAppenderRun s _ hexec) (by decide)⟩

/-- Settles O53: the eligible records of the log, which an append needs, cover what it displaces; the page takes staging in order. -/
theorem recordsAreNumberedAndKeptWithinCapacity : Obligations.RecordsAreNumberedAndKeptWithinCapacity := by
  unfold Obligations.RecordsAreNumberedAndKeptWithinCapacity
  exact ⟨appendRec_fits, fun lg r => ⟨appendRec_above lg r, appendRec_mem lg r, appendRec_of_room lg r⟩,
    fun st sev host deferred code inst content lg =>
      ⟨create_filtered st sev host deferred code inst content lg, create_numbered st sev host deferred code inst content lg⟩,
    fun s h => exec_appenderRun h⟩

end Sys2Proof.Proofs
end

section
/-! PROOFS. Pages, freezes and the LOG commands (O54). -/
namespace Sys2Proof.Proofs
open Sys2Proof Sys2Proof.Machine Sys2Proof.Laws

/-! ### What a new record leaves of the recorder -/

/-- The log, the open page, the free pages and the freezing ports are the same; what the freezes counted may differ. -/
def SameStore (a b : Recorder) : Prop :=
  b.log = a.log ∧ b.page = a.page ∧ b.freePages = a.freePages ∧ b.appendBlocked = a.appendBlocked ∧
    ∀ p, (b.freeze.get p).isSome = (a.freeze.get p).isSome

theorem SameStore.trans {a b c : Recorder} (h : SameStore a b) (g : SameStore b c) : SameStore a c :=
  ⟨g.1.trans h.1, g.2.1.trans h.2.1, g.2.2.1.trans h.2.2.1, g.2.2.2.1.trans h.2.2.2.1, fun p => (g.2.2.2.2 p).trans (h.2.2.2.2 p)⟩

theorem isSome_map_freeze (q : Quad (Option Freeze)) (f : Freeze → Freeze) (p : Fin 4) :
    ((q.map fun x => x.map f).get p).isSome = (q.get p).isSome := by
  rw [show (q.map fun x => x.map f).get p = (q.get p).map f by match p with | 0 | 1 | 2 | 3 => rfl]
  exact Option.isSome_map ..

theorem create_store (st : Stamp) (sev : Nat) (host deferred : Bool) (code inst : Nat) (content : List Word) (lg : Recorder) :
    SameStore lg (Recorder.create st sev host deferred code inst content lg) := by
  unfold Recorder.create
  split
  · exact ⟨rfl, rfl, rfl, rfl, fun _ => rfl⟩
  · exact ⟨rfl, rfl, rfl, rfl, fun p => (isSome_map_freeze ..).trans (isSome_map_freeze ..)⟩

theorem reportOvf_store (st : Stamp) (lg : Recorder) : SameStore lg (lg.reportOvf st) := by
  unfold Recorder.reportOvf
  dsimp only
  split
  · exact ⟨rfl, rfl, rfl, rfl, fun _ => rfl⟩
  · exact create_store ..

theorem logEv_store (code inst : Nat) (content : List Word) (s : State) : SameStore s.log (logEv code inst content s).log := by
  show SameStore s.log (s.log.event (stampOf s) code inst content)
  unfold Recorder.event
  split
  · exact (create_store ..).trans (reportOvf_store ..)
  · exact ⟨rfl, rfl, rfl, rfl, fun _ => rfl⟩

theorem logNs_store (code inst : Nat) (content : List Nat) (s : State) : SameStore s.log (logNs code inst content s).log := logEv_store ..

section
variable {s : State}

/-- A retired block takes a spare, or 63 pages of the recorder where none is left; nothing stored is lost. -/
theorem badBlock_store (part block cause : Nat) (s : State) : ((badBlock part block cause s).log.log = s.log.log ∧
      (badBlock part block cause s).log.page = s.log.page ∧
      (badBlock part block cause s).log.freePages = if s.mem.nandSpare = 0 ∧ part = 0 then s.log.freePages - 63 else s.log.freePages) ∧
    (badBlock part block cause s).mem.nandBad = sat 16 (s.mem.nandBad + 1) ∧
    (badBlock part block cause s).mem.nandSpare = s.mem.nandSpare - 1 := by
  unfold badBlock
  extract_lets m spare low s1 s2
  have h1 : SameStore s.log s1.log := logNs_store ..
  have h2 : SameStore s.log s2.log ∧ s2.mem = s1.mem := by
    by_cases hlow : low = true
    · rw [show s2 = logNs evNandSpareLow 0xFF [spare] s1 from if_pos hlow]
      exact ⟨h1.trans (logNs_store ..), rfl⟩
    · rw [show s2 = s1 from if_neg hlow]
      exact ⟨h1, rfl⟩
  obtain ⟨⟨hlog, hpage, hpages, -, -⟩, hmem⟩ := h2
  split
  · exact ⟨⟨hlog, hpage, congrArg (· - 63) hpages⟩, congrArg MemInt.nandBad hmem, congrArg MemInt.nandSpare hmem⟩
  · exact ⟨⟨hlog, hpage, hpages⟩, congrArg MemInt.nandBad hmem, congrArg MemInt.nandSpare hmem⟩

/-! ### Pages (R403, R404, R463) -/

theorem exec_appender_rests (h : appendsOk s = false) : exec .appenderRun s = .next s ∧ ∀ b, exec (.pageProgram b) s = .next s := by
  refine ⟨congrArg Host.Outcome.next (if_neg (Bool.eq_false_iff.1 h)), fun b => congrArg Host.Outcome.next (if_neg ?_)⟩
  rw [h]
  exact Bool.false_ne_true

section
variable (happend : appendsOk s = true) (hpage : s.log.page ≠ []) (hdue : pageFull s.log = true ∨ s.log.pageCyc + 64 ≤ cycOf s)
include happend hpage hdue

/-- A page that is full or 64 cycles old is programmed. -/
theorem page_due : (appendsOk s && !s.log.page.isEmpty && (pageFull s.log || decide (s.log.pageCyc + 64 ≤ cycOf s))) = true := by
  rw [happend, List.isEmpty_eq_false_iff.2 hpage]
  simpa using hdue

theorem exec_pageProgram (hfree : s.log.freePages ≠ 0) :
    exec (.pageProgram true) s = .next (reportDrop { s with log := programPage s.log }) :=
  congrArg Host.Outcome.next ((if_pos (page_due happend hpage hdue)).trans ((if_neg hfree).trans (if_pos rfl)))

theorem exec_pageProgram_full (hfull : s.log.freePages = 0) (b : Bool) :
    ∃ t, exec (.pageProgram b) s = .next t ∧ t.log.appendBlocked = true ∧ t.log.log = s.log.log :=
  ⟨_, congrArg Host.Outcome.next ((if_pos (page_due happend hpage hdue)).trans (if_pos hfull)), rfl, rfl⟩

/-- A page that fails costs its place and its block, and is kept. -/
theorem exec_pageProgram_failed (hfree : s.log.freePages ≠ 0) : ∃ t, exec (.pageProgram false) s = .next t ∧ t.log.log = s.log.log ∧
    t.log.page = s.log.page ∧ t.log.freePages = s.log.freePages - (if s.mem.nandSpare = 0 then 64 else 1) ∧
    t.mem.nandBad = sat 16 (s.mem.nandBad + 1) ∧ t.mem.nandSpare = s.mem.nandSpare - 1 := by
  obtain ⟨b, content, hexec⟩ : ∃ b content, exec (.pageProgram false) s = .next (badBlock 0 b 0
      (logNs evLogMedia 0xFF content { s with log := { s.log with freePages := s.log.freePages - 1 } })) :=
    ⟨_, _, congrArg Host.Outcome.next ((if_pos (page_due happend hpage hdue)).trans ((if_neg hfree).trans (if_neg Bool.false_ne_true)))⟩
  obtain ⟨hlog, hpage', hpages, -, -⟩ := logNs_store evLogMedia 0xFF content
    { s with log := { s.log with freePages := s.log.freePages - 1 } }
  obtain ⟨⟨hlog2, hpage2, hpages2⟩, hmem⟩ := badBlock_store 0 b 0 (logNs evLogMedia 0xFF content
    { s with log := { s.log with freePages := s.log.freePages - 1 } })
  refine ⟨_, hexec, hlog2.trans hlog, hpage2.trans hpage', ?_, hmem⟩
  rw [hpages2, hpages]
  show (if s.mem.nandSpare = 0 ∧ 0 = 0 then s.log.freePages - 1 - 63 else s.log.freePages - 1) = _
  simp only [and_true]
  split <;> omega

end

/-! ### Freezes (R407, R408) -/

section
variable {p : Fin 4} {f : Freeze} (hf : s.log.freeze.get p = some f)
include hf

/-- The end of a freeze leaves the other ports' freezes. -/
theorem endFreeze_freeze (cause : Nat) : (endFreeze p cause s).log.freeze.get p = none ∧
    ∀ q, q ≠ p → ((endFreeze p cause s).log.freeze.get q).isSome = (s.log.freeze.get q).isSome := by
  have hend : endFreeze p cause s = logNs evLogThaw p.val [p.val, cause, f.staged, f.lost]
      (stopAct 7 p.val { s with log := { s.log with freeze := s.log.freeze.put p none } }) := by
    unfold endFreeze
    simp only [hf]
  obtain ⟨-, -, -, -, hfreeze⟩ := logNs_store evLogThaw p.val [p.val, cause, f.staged, f.lost]
    (stopAct 7 p.val { s with log := { s.log with freeze := s.log.freeze.put p none } })
  rw [hend]
  refine ⟨Option.not_isSome_iff_eq_none.1 ?_, fun q hq => (hfreeze q).trans ?_⟩
  · rw [hfreeze p, show (stopAct 7 p.val { s with log := { s.log with freeze := s.log.freeze.put p none } }).log.freeze.get p = none from
      get_put_self ..]
    exact Bool.false_ne_true
  · exact congrArg Option.isSome (get_put_ne _ _ hq)

theorem exec_freezeExpiry : (f.until_ ≤ s.clk.ticks → ∃ t, exec (.freezeExpiry p) s = .next t ∧ t.log.freeze.get p = none ∧
      ∀ q, q ≠ p → (t.log.freeze.get q).isSome = (s.log.freeze.get q).isSome) ∧
    (s.clk.ticks < f.until_ → exec (.freezeExpiry p) s = .next s) := by
  have hexec : exec (.freezeExpiry p) s = .next (if f.until_ ≤ s.clk.ticks then endFreeze p 1 s else s) := by
    unfold exec execFreezeExpiry
    simp only [hf]
  exact ⟨fun hdue => ⟨_, hexec.trans (congrArg Host.Outcome.next (if_pos hdue)), endFreeze_freeze hf 1⟩,
    fun hearly => hexec.trans (congrArg Host.Outcome.next (if_neg (Nat.not_le.2 hearly)))⟩

end

/-! ### The LOG commands (R410, R413) -/

section
variable {r : Req}

theorem exec_logStatus (h : Runs 0x0C01 chkLogStatus r s) : ∃ w ws, exec .logStatus s = .next (ok r ([w, wd (logEnds s.log).1,
    wd (logEnds s.log).2, wd s.log.log.length, wd (octetsOf s.log.log)] ++ ws) (took r s)) := by
  have hact := serve_of_runs (act := actLogStatus) h
  unfold actLogStatus at hact
  simp only [List.cons_append, List.nil_append] at hact ⊢
  exact ⟨_, _, congrArg Host.Outcome.next hact⟩

theorem exec_logRead_empty (h : Runs 0x0C02 chkLogRead r s) (hempty : s.log.log = []) : ∃ w, exec .logRead s = .next
    (ok r [w, wd (Nat.max (readFrom r) s.log.cnt.nextSeq), packW [(1, 31)]] (took r s)) := by
  have hact := (serve_of_runs (act := actLogRead) h).trans (if_pos (show (took r s).log.log.isEmpty = true from List.isEmpty_iff.2 hempty))
  exact ⟨_, congrArg Host.Outcome.next hact⟩

theorem exec_logRead (h : Runs 0x0C02 chkLogRead r s) (hsome : s.log.log ≠ []) :
    ∃ w x y ws, exec .logRead s = .next (ok r (w :: x :: y :: ws) (took r s)) ∧
      ws = ((s.log.log.filter fun x => decide (Nat.max (readFrom r) (logEnds s.log).1 ≤ x.seq)).foldl (readStep r s)
        ⟨[], 0, Nat.max (readFrom r) (logEnds s.log).1, 0, false⟩).out := by
  have hact := (serve_of_runs (act := actLogRead) h).trans
    (if_neg (show ¬ (took r s).log.log.isEmpty = true from fun he => hsome (List.isEmpty_iff.1 he)))
  exact ⟨_, _, _, _, congrArg Host.Outcome.next hact, rfl⟩

/-- The freeze of the port stands from the end of the command on. -/
theorem exec_logFreeze (h : Runs 0x0C03 chkLogFreeze r s) (hfree : blockers s.bal 7 = []) :
    ∃ u w, exec .logFreeze s = .next (ok r [w] u) ∧
      u.log.freeze.get r.port = some ⟨s.clk.ticks + (if fld (r.w 3) 15 0 = 0 then 600 else fld (r.w 3) 15 0) * 40000000, 0, 0⟩ := by
  have hact := (serve_of_runs (act := actLogFreeze) h).trans (admitReq_free r.port.val r _ (s := took r s) hfree)
  dsimp only at hact
  refine ⟨_, _, congrArg Host.Outcome.next hact, (get_put_self ..).trans ?_⟩
  have hclk (c : Bool) (t : State) : (if c then drain stagingCap t else t).clk = t.clk := by
    cases c with
    | false => rfl
    | true => exact (keeps_drain stagingCap t (mk := 2) (s0 := t) rfl (Keeps.refl _ t)).get 1 rfl
  rw [hclk]
  rfl

theorem exec_logThaw {f : Freeze} (h : Runs 0x0C04 chkLogThaw r s) (hf : s.log.freeze.get r.port = some f) :
    exec .logThaw s = .next (ok r [packW [(sat 16 f.staged, 16), (sat 16 f.lost, 0)]] (endFreeze r.port 0 (took r s))) := by
  refine congrArg Host.Outcome.next ((serve_of_runs (act := actLogThaw) h).trans ?_)
  unfold actLogThaw
  simp only [show (took r s).log.freeze.get r.port = some f from hf]

theorem exec_logAppend (h : Runs 0x0C06 chkLogAppend r s) : ∃ u, exec .logAppend s = .next (ok r [] u) ∧ OnlyChanges [.cmd, .log] s u ∧
    u.log = (Recorder.create (stampOf s) (fld (r.w 3) 23 21) true false (0x0300 + fld (r.w 3) 7 0) r.port.val (r.words.drop 4)
      s.log).reportOvf (stampOf s) := by
  exact ⟨_, congrArg Host.Outcome.next (serve_of_runs (act := actLogAppend) h),
    only_of_keeps (Keeps.set_log (mk := 0xF7FFFFFFF3FF) rfl (Keeps.set_cmd rfl (Keeps.refl _ s))) (by decide), rfl⟩

end

end

/-- Settles O54: what the recorder counts of a new record never touches the log, the open page or the freezing ports. -/
theorem theRecorderAppendsAndAnswers : Obligations.TheRecorderAppendsAndAnswers := by
  unfold Obligations.TheRecorderAppendsAndAnswers
  intro s
  exact ⟨exec_appender_rests, fun happend hpage hdue => ⟨exec_pageProgram happend hpage hdue,
      exec_pageProgram_failed happend hpage hdue, exec_pageProgram_full happend hpage hdue⟩,
    fun p f hf => exec_freezeExpiry hf, fun r h => exec_logStatus h, fun r h hempty => exec_logRead_empty h hempty,
    fun r h hsome => exec_logRead h hsome, fun r h hfree => exec_logFreeze h hfree, fun r f h hf => exec_logThaw h hf,
    fun r h => exec_logAppend h⟩

end Sys2Proof.Proofs
end

section
/-! PROOFS. Commits and overlap windows of the key store (O55). -/
namespace Sys2Proof.Proofs
open Sys2Proof Sys2Proof.Machine Sys2Proof.Laws

section
variable {s : State} {k : Nat}

/-! ### Slots -/

/-- The slots and the identity key are the same. -/
def SameSlots (s t : State) : Prop := t.key.slots = s.key.slots ∧ t.key.identity = s.key.identity

theorem keySlot_of_slots {t : State} (h : SameSlots s t) (j : Nat) : keySlot t j = keySlot s j := by
  obtain ⟨hslots, hidentity⟩ := h
  unfold keySlot identitySlot slotOf
  rw [hslots, hidentity]

theorem keySlot_putSlot_self {x : KeySlot} (hk : k ≠ 0) (hx : x.st ≠ .empty) : keySlot (putSlot k x s) k = x := by
  unfold keySlot slotOf putSlot
  simp only [hk, hx, if_false, tget_tset_self, Option.getD_some]

theorem keySlot_putSlot_ne {x : KeySlot} {j : Nat} (hx : x.st ≠ .empty) (hj : j ≠ k) : keySlot (putSlot k x s) j = keySlot s j := by
  unfold keySlot slotOf putSlot identitySlot
  simp only [hx, if_false, tget_tset_ne _ _ hj]

/-! ### The entry of a commit (R423) -/

/-- A slot whose commit takes effect in cycle `c`, `sec` being the time. -/
def inService (x : KeySlot) (p : KeyPend) (c sec : Nat) : KeySlot := { x with
  st := if x.active.isSome && decide (0 < p.w) then .overlap else .active
  active := x.shadow
  origin := x.shadowOrigin
  prev := if x.active.isSome && decide (0 < p.w) then x.active else none
  shadow := none
  gen := (x.gen + 1) % 65536
  vfail := 0
  commitCyc := c
  commitSec := sec
  overlapEnd := if x.active.isSome && decide (0 < p.w) then c + p.w else 0
  w := p.w
  pend := none }

theorem inService_st (x : KeySlot) (p : KeyPend) (c sec : Nat) : (inService x p c sec).st ≠ .empty := by
  unfold inService
  dsimp only
  split <;> exact fun h => nomatch h

/-- What a step after a commit's new slot leaves: the slots, the identity key and the entries of the queue. -/
def SameEntries (s t : State) : Prop := SameSlots s t ∧ t.tl = s.tl

theorem SameEntries.trans {s t u : State} (h : SameEntries s t) (g : SameEntries t u) : SameEntries s u :=
  ⟨⟨g.1.1.trans h.1.1, g.1.2.trans h.1.2⟩, g.2.trans h.2⟩

theorem firstCommit_entries (s : State) : SameEntries s (firstCommit k s) := by
  unfold firstCommit
  split <;> exact ⟨⟨rfl, rfl⟩, rfl⟩

theorem firstCommit_locks (s : State) : (firstCommit k s).key.everCommitted = true ∧
    (s.key.everCommitted = false → (firstCommit k s).key.debugLock = true ∧ (firstCommit k s).key.debugOpen = false) := by
  unfold firstCommit
  by_cases hever : s.key.everCommitted = true
  · rw [if_pos hever]
    exact ⟨hever, fun h => absurd (hever.symm.trans h) (by decide)⟩
  · rw [if_neg hever]
    exact ⟨rfl, fun _ => ⟨rfl, rfl⟩⟩

theorem complete_key (o : Origin) (status : Nat) (payload : List Word) (s : State) : (complete o status payload s).key = s.key ∧
    (complete o status payload s).tl = s.tl :=
  have hkeep := keeps_complete o status payload s (mk := 0x400020) (s0 := s) rfl (Keeps.refl _ s)
  ⟨hkeep.get 22 rfl, hkeep.get 5 rfl⟩

theorem commitSlot_of_none {c : Nat} {boot : Bool} (h : (keySlot s k).pend = none) : commitSlot k c boot s = s := by
  unfold commitSlot
  simp only [h]

/-- A commit puts the slot into service; with an overlap it posts the window's end; what follows leaves slots and queue. -/
theorem commitSlot_chain {p : KeyPend} {c : Nat} {boot : Bool} (hp : (keySlot s k).pend = some p) : ∃ u,
    u.key = (putSlot k (inService (keySlot s k) p c s.rtc.sec) s).key ∧
    (((keySlot s k).active.isSome && decide (0 < p.w)) = true →
      ∃ x ∈ u.tl.entries, x.kind = .keyOverlapEnd k ∧ x.target = (c + p.w) * 4096 ∧ x.rank = 4 ∧ x.active = true) ∧
    ∃ v, SameEntries u v ∧ v.key.everCommitted = u.key.everCommitted ∧
      SameEntries (firstCommit k v) (commitSlot k c boot s) ∧ (commitSlot k c boot s).key = (firstCommit k v).key := by
  obtain ⟨t, ht⟩ : ∃ t, commitSlot k c boot s = t := ⟨_, rfl⟩
  rw [ht]
  unfold commitSlot at ht
  extract_lets x at ht
  rw [show x.pend = some p from hp] at ht
  dsimp -zeta -zetaHave only at ht
  extract_lets ended fin y s1 s2 s3 keys s4 s5 at ht
  have h24 : SameEntries s2 s4 ∧ s4.key.everCommitted = s2.key.everCommitted := by
    have h3 : SameEntries s2 s3 ∧ s3.key = s2.key := by
      show SameEntries s2 (if x.usage = 2 then _ else s2) ∧ (if x.usage = 2 then _ else s2).key = s2.key
      split <;> exact ⟨⟨⟨rfl, rfl⟩, rfl⟩, rfl⟩
    have h4 : SameEntries s3 s4 ∧ s4.key.everCommitted = s3.key.everCommitted := by
      show SameEntries s3 (if (decide (x.usage = 1) && ended) = true then _ else _) ∧
        (if (decide (x.usage = 1) && ended) = true then _ else _ : State).key.everCommitted = s3.key.everCommitted
      split <;> exact ⟨⟨⟨rfl, rfl⟩, rfl⟩, rfl⟩
    exact ⟨h3.1.trans h4.1, h4.2.trans (congrArg Keys.everCommitted h3.2)⟩
  refine ⟨s2, ?_, fun hend => ?_, s4, ?_, ?_, ?_⟩
  · show (if ended then _ else s1).key = s1.key
    split <;> rfl
  · have h2 : s2 = tlPut (fin * 4096) 4 0x11 (.keyOverlapEnd k) true s1 := if_pos hend
    have hfin : fin = c + p.w := if_pos hend
    rw [h2, hfin]
    exact ⟨_, List.mem_append_right _ List.mem_cons_self, rfl, rfl, rfl, rfl⟩
  · exact h24.1
  · exact h24.2
  · subst ht
    cases p.org with
    | none => exact ⟨⟨⟨rfl, rfl⟩, rfl⟩, rfl⟩
    | some o =>
      obtain ⟨hkey, htl⟩ := complete_key o stOk [packW [(slotCode y.st, 29), (k, 0)], wd c, wd fin] s5
      exact ⟨⟨⟨congrArg Keys.slots hkey, congrArg Keys.identity hkey⟩, htl⟩, hkey⟩

/-- What a commit does to the key store and the queue. -/
theorem commitSlot_commits {p : KeyPend} {c : Nat} {boot : Bool} (hk : k ≠ 0) (hp : (keySlot s k).pend = some p) :
    keySlot (commitSlot k c boot s) k = inService (keySlot s k) p c s.rtc.sec ∧
    (∀ j, j ≠ k → keySlot (commitSlot k c boot s) j = keySlot s j) ∧ (commitSlot k c boot s).key.identity = s.key.identity ∧
    (((keySlot s k).active.isSome && decide (0 < p.w)) = true → ∃ x ∈ (commitSlot k c boot s).tl.entries, x.kind = .keyOverlapEnd k ∧
      x.target = (c + p.w) * 4096 ∧ x.rank = 4 ∧ x.active = true) ∧
    (commitSlot k c boot s).key.everCommitted = true ∧
    (s.key.everCommitted = false → (commitSlot k c boot s).key.debugLock = true ∧ (commitSlot k c boot s).key.debugOpen = false) := by
  obtain ⟨u, hkey, hentry, v, huv, hever, hvt, htkey⟩ := commitSlot_chain (c := c) (boot := boot) hp
  have hst := inService_st (keySlot s k) p c s.rtc.sec
  obtain ⟨hslots, htl⟩ := (huv.trans (firstCommit_entries v)).trans hvt
  have hput : SameSlots (putSlot k (inService (keySlot s k) p c s.rtc.sec) s) (commitSlot k c boot s) :=
    ⟨hslots.1.trans (congrArg Keys.slots hkey), hslots.2.trans (congrArg Keys.identity hkey)⟩
  obtain ⟨hcommitted, hlocked⟩ := firstCommit_locks (k := k) v
  refine ⟨(keySlot_of_slots hput k).trans (keySlot_putSlot_self hk hst), fun j hj => (keySlot_of_slots hput j).trans (keySlot_putSlot_ne hst hj),
    hput.2, fun hend => ?_, by rw [htkey]; exact hcommitted, fun hfirst => ?_⟩
  · rw [htl]
    exact hentry hend
  · rw [htkey]
    exact hlocked (hever.trans ((congrArg Keys.everCommitted hkey).trans hfirst))

section
variable {e : TlEntry} (hk : k ≠ 0) (hdue : Due e s)
include hdue

include hk in
theorem exec_keyCommitEntry {p : KeyPend} (hkind : e.kind = .keyCommit k) (hp : (keySlot s k).pend = some p) :
    ∃ t, exec .keyCommitEntry s = .next t ∧ (keySlot t k).active = (keySlot s k).shadow ∧ (keySlot t k).shadow = none ∧
      (keySlot t k).gen = ((keySlot s k).gen + 1) % 65536 ∧ (keySlot t k).commitCyc = e.target / 4096 ∧
      (keySlot t k).usage = (keySlot s k).usage ∧ (keySlot t k).pend = none ∧
      (((keySlot s k).active = none ∨ p.w = 0) → (keySlot t k).st = .active ∧ (keySlot t k).prev = none) ∧
      ((keySlot s k).active ≠ none → 0 < p.w → (keySlot t k).st = .overlap ∧ (keySlot t k).prev = (keySlot s k).active ∧
        (keySlot t k).overlapEnd = e.target / 4096 + p.w ∧
        ∃ x ∈ t.tl.entries, x.kind = .keyOverlapEnd k ∧ x.target = (e.target / 4096 + p.w) * 4096 ∧ x.rank = 4 ∧ x.active = true) ∧
      t.key.everCommitted = true ∧ (s.key.everCommitted = false → t.key.debugLock = true ∧ t.key.debugOpen = false) ∧
      (∀ j, j ≠ k → keySlot t j = keySlot s j) ∧ t.key.identity = s.key.identity := by
  obtain ⟨boot, hexec⟩ : ∃ boot, exec .keyCommitEntry s = .next (commitSlot k (e.target / 4096) boot (tlRemove e.seq s)) :=
    ⟨_, congrArg Host.Outcome.next (tlFire_of_due hdue (by rw [hkind]))⟩
  obtain ⟨hself, hother, hidentity, hentry, hever, hfirst⟩ := commitSlot_commits (c := e.target / 4096) (boot := boot) (s := tlRemove e.seq s) hk hp
  refine ⟨_, hexec, ?_⟩
  rw [hself]
  refine ⟨rfl, rfl, rfl, rfl, rfl, rfl, fun hnone => ?_, fun hsome hw => ?_, hever, hfirst, hother, hidentity⟩
  · have hend : ¬ ((keySlot s k).active.isSome && decide (0 < p.w)) = true := by
      obtain h | h := hnone <;> rw [h]
      · exact Bool.false_ne_true
      · rw [decide_eq_false (Nat.lt_irrefl 0), Bool.and_false]
        exact Bool.false_ne_true
    exact ⟨if_neg hend, if_neg hend⟩
  · have hend : ((keySlot s k).active.isSome && decide (0 < p.w)) = true := by
      rw [Option.isSome_iff_ne_none.2 hsome, decide_eq_true hw]
      rfl
    exact ⟨if_pos hend, if_pos hend, if_pos hend, hentry hend⟩

theorem exec_keyCommitEntry_idle (hkind : e.kind = .keyCommit k) (hnone : (keySlot s k).pend = none) :
    exec .keyCommitEntry s = .next (tlRemove e.seq s) :=
  congrArg Host.Outcome.next ((tlFire_of_due hdue (by rw [hkind])).trans (commitSlot_of_none hnone))

theorem exec_keyCommitEntry_other (hkind : ∀ j, e.kind ≠ .keyCommit j) : exec .keyCommitEntry s = .next s := by
  refine congrArg Host.Outcome.next ?_
  unfold tlFire
  simp only [show tlDue s = some e from hdue]

/-! ### The end of an overlap window (R423 to R425) -/

include hk in
theorem exec_keyOverlapEnd (hkind : e.kind = .keyOverlapEnd k) (hidle : ∀ w ∈ s.key.rewraps, w.slot ≠ k) :
    ∃ t, exec .keyOverlapEnd s = .next t ∧ (keySlot t k).st = .active ∧ (keySlot t k).prev = none ∧
      (keySlot t k).active = (keySlot s k).active := by
  have hany : (s.key.rewraps.any fun w => w.slot == k) = false := by simpa using hidle
  obtain ⟨t, hexec, hslots⟩ : ∃ t, exec .keyOverlapEnd s = .next t ∧ SameSlots (putSlot k { keySlot s k with
      st := .active
      prev := none
      overlapEnd := 0 } s) t := by
    refine ⟨_, congrArg Host.Outcome.next (tlFire_of_due hdue (by rw [hkind])), ?_⟩
    rw [if_neg (Bool.eq_false_iff.1 (show ((tlRemove e.seq s).key.rewraps.any fun w => w.slot == k) = false from hany))]
    unfold endOverlap
    dsimp only
    split <;> exact ⟨rfl, rfl⟩
  refine ⟨t, hexec, ?_⟩
  rw [keySlot_of_slots hslots, keySlot_putSlot_self hk (by exact fun h => nomatch h)]
  exact ⟨rfl, rfl, rfl⟩

theorem exec_keyOverlapEnd_extended (hkind : e.kind = .keyOverlapEnd k) (hrewrap : ∃ w ∈ s.key.rewraps, w.slot = k) :
    ∃ t, exec .keyOverlapEnd s = .next t ∧ keySlot t k = keySlot s k ∧ (∀ w ∈ t.key.rewraps, w.slot = k → w.extended = true) := by
  have hany : (s.key.rewraps.any fun w => w.slot == k) = true := by simpa using hrewrap
  refine ⟨_, congrArg Host.Outcome.next (tlFire_of_due hdue (by rw [hkind])), ?_⟩
  rw [if_pos (show ((tlRemove e.seq s).key.rewraps.any fun w => w.slot == k) = true from hany)]
  refine ⟨keySlot_of_slots ⟨rfl, rfl⟩ k, ?_⟩
  intro w hw hslot
  obtain ⟨w', -, rfl⟩ := List.mem_map.1 hw
  split at hslot
  next h => rw [if_pos h]
  next h => exact absurd hslot h

end

end

/-- Settles O55: what follows the shadow's move in a commit leaves the slots, the identity key and the posted end of the window. -/
theorem aCommitMovesTheShadow : Obligations.ACommitMovesTheShadow := by
  unfold Obligations.ACommitMovesTheShadow
  intro s e k hk hdue
  exact ⟨fun p hkind hp => exec_keyCommitEntry hk hdue hkind hp, exec_keyCommitEntry_idle hdue, exec_keyOverlapEnd hk hdue,
    exec_keyOverlapEnd_extended hdue, exec_keyCommitEntry_other hdue⟩

end Sys2Proof.Proofs
end

section
/-!
PROOFS. The KEY commands: the clause on the destruction of a shadow holds of every table of slots, also of one that lists a slot twice,
which no reachable state has.
-/
namespace Sys2Proof.Proofs
open Sys2Proof Sys2Proof.Machine Sys2Proof.Laws

/-- KEY.DESTROY of slot 1's shadow, taken from H0. -/
def destroyShadowRequest : Req :=
  { port := 0, queue := 1, words := [packW [(0x0D08, 16), (1, 0)], 7, 0, 1], id := 1, resRsp := 0, resNtf := 0, target := none, ready := true }

/-- A slot without a key in service and with a shadow. -/
def stagedSlot : KeySlot := { emptySlot with
  st := .staged
  shadow := some [1, 2, 3, 4] }

/-- A module in service whose table of slots lists slot 1 twice, and that is about to execute KEY.DESTROY. -/
def slotListedTwice : State := { State.reset with
  pwr := { State.reset.pwr with bootStep := .done, mode := .run, commissioned := true, vin := 2400, pgood := true, pfwN := true }
  key := { State.reset.key with slots := [(1, stagedSlot), (1, stagedSlot)] }
  cmd := { State.reset.cmd with taken := [destroyShadowRequest] } }

theorem destroyShadow_runs : Runs 0x0D08 chkKeyDestroy destroyShadowRequest slotListedTwice := by decide +kernel

/-- The destruction removes the first listing of the slot; the second one, with its shadow, is read from then on. -/
theorem destroyShadow_leaves_listing :
    (match exec (.keyDestroy 0 0) slotListedTwice with
      | .next t => (keySlot t 1).shadow
      | _ => none) = some [1, 2, 3, 4] := by decide +kernel

/-- Refutes O56: KEY.DESTROY leaves a shadow in a slot that the table lists twice. -/
theorem not_keyCommandsAct : ¬ Obligations.KeyCommandsAct := by
  intro h
  obtain ⟨-, -, hwritten, -⟩ := h destroyShadowRequest slotListedTwice 0 0
  obtain ⟨-, -, -, -, hshadow, -⟩ := hwritten (by decide +kernel) (by decide +kernel)
  obtain ⟨u, hexec, hnone, -⟩ := hshadow destroyShadow_runs (by decide +kernel)
  have hleft := destroyShadow_leaves_listing
  have hslot : (keySlot (ok destroyShadowRequest [] u) 1).shadow = (keySlot u 1).shadow := congrArg KeySlot.shadow
    (keySlot_of_slots ⟨rfl, rfl⟩ 1)
  have hone : reqSlot destroyShadowRequest = 1 := by decide +kernel
  rw [hone] at hnone
  simp only [hexec, hslot, hnone] at hleft
  exact nomatch hleft

end Sys2Proof.Proofs
end

section
/-! PROOFS. Memory errors, the patrol, the checker test, retirement, repair and reclaim (O57). -/
namespace Sys2Proof.Proofs
open Sys2Proof Sys2Proof.Machine Sys2Proof.Laws

section
variable {s : State} {k : Nat}

/-! ### One memory's counts (R445 to R447) -/

theorem memOf_onMem_self (f : MemState → MemState) (hk : k < s.mem.mems.length) : memOf (onMem k f s) k = f (memOf s k) :=
  getD_updAt_self f default hk

theorem memOf_onMem_ne {j : Nat} (f : MemState → MemState) (s : State) (h : j ≠ k) : memOf (onMem k f s) j = memOf s j :=
  getD_updAt_ne _ f default h

/-- The counts of memory `k` are `ce` and `ue`; the other memories and the retired pages are as in `s`. -/
def Counted (k ce ue : Nat) (s t : State) : Prop :=
  (memOf t k).ce = ce ∧ (memOf t k).ue = ue ∧ (∀ j, j ≠ k → memOf t j = memOf s j) ∧ t.mem.retired = s.mem.retired ∧
    t.mem.mems.length = s.mem.mems.length

theorem Counted.of_mem {ce ue : Nat} {t u : State} (h : Counted k ce ue s t) (hu : u.mem = t.mem) : Counted k ce ue s u := by
  unfold Counted memOf at *
  rwa [hu]

theorem Counted.onMem {ce ue : Nat} {t : State} (h : Counted k ce ue s t) (hk : k < s.mem.mems.length) (f : MemState → MemState)
    (hf : (f (memOf t k)).ce = ce ∧ (f (memOf t k)).ue = ue) : Counted k ce ue s (onMem k f t) := by
  obtain ⟨-, -, hother, hretired, hlen⟩ := h
  refine ⟨?_, ?_, fun j hj => (memOf_onMem_ne f t hj).trans (hother j hj), hretired, (length_updAt ..).trans hlen⟩ <;>
    rw [memOf_onMem_self f (hlen.symm ▸ hk)]
  · exact hf.1
  · exact hf.2

theorem enter_counts (addr bit cyc : Nat) (ue : Bool) (m : MemState) :
    (MemState.enter addr bit cyc ue m).ce = m.ce ∧ (MemState.enter addr bit cyc ue m).ue = m.ue := by
  unfold MemState.enter
  dsimp only
  split
  · exact ⟨rfl, rfl⟩
  · split
    · exact ⟨rfl, rfl⟩
    · split <;> exact ⟨rfl, rfl⟩

theorem memFault_mem (mem kind region addr : Nat) (s : State) : (memFault mem kind region addr s).mem = s.mem :=
  (keeps_memFault mem kind region addr s (mk := 0x800000) (s0 := s) rfl (Keeps.refl _ s)).get 23 rfl

theorem logLimK_mem (code key inst n : Nat) (content : Nat → List Word) (s : State) : (logLimK code key inst n content s).mem = s.mem :=
  (keeps_logLimK code key inst n content s (mk := 0x800000) (s0 := s) rfl (Keeps.refl _ s)).get 23 rfl

/-- Marking a repair candidate leaves the counts. -/
theorem noteDue_counted {ce ue : Nat} {t : State} (h : Counted k ce ue s t) (hk : k < s.mem.mems.length) (region addr : Nat) :
    Counted k ce ue s (noteDue k region addr t) := by
  unfold noteDue
  split
  · exact h
  · split
    · exact (h.onMem hk _ ⟨h.1, h.2.1⟩).of_mem (memFault_mem ..)
    · exact h

theorem noteCe_counted (hk : k < s.mem.mems.length) (region addr bit : Nat) :
    Counted k (inc32 (memOf s k).ce) (memOf s k).ue s (noteCe k region addr bit s) := by
  have hself := memOf_onMem_self (fun m => MemState.enter addr bit (cycOf s) false { m with ce := inc32 m.ce }) hk
  refine noteDue_counted (Counted.of_mem (t := onMem k (fun m => MemState.enter addr bit (cycOf s) false { m with ce := inc32 m.ce }) s)
    ⟨?_, ?_, fun j hj => memOf_onMem_ne _ s hj, rfl, length_updAt ..⟩ (logLimK_mem ..)) hk region addr
  · exact (congrArg MemState.ce hself).trans (enter_counts ..).1
  · exact (congrArg MemState.ue hself).trans (enter_counts ..).2

theorem noteUe_counted (hk : k < s.mem.mems.length) (region addr : Nat) :
    Counted k (memOf s k).ce (inc32 (memOf s k).ue) s (noteUe k region addr s) := by
  have hself := memOf_onMem_self (fun m => MemState.enter addr 0xFF (cycOf s) true { m with ue := inc32 m.ue }) hk
  refine noteDue_counted ⟨?_, ?_, fun j hj => memOf_onMem_ne _ s hj, rfl, length_updAt ..⟩ hk region addr
  · exact (congrArg MemState.ce hself).trans (enter_counts ..).1
  · exact (congrArg MemState.ue hself).trans (enter_counts ..).2

/-! ### Reads of a memory under the checks (R443 to R449) -/

/-- Without an armed flip a word that is read is judged as the checker says. -/
theorem readWord_of_noFlip {m : MemRead} {f0 f1 : Nat} (h : s.mem.flip = none) : readWord k m f0 f1 s =
    match m.v with
    | .clean => s
    | .corrected b => handleCe k m.region m.addr b f0 f1 s
    | .uncorrectable => handleUe k m f0 f1 s := by
  unfold readWord
  simp only [h] <;> rfl

section
variable {m : MemRead} (hruns : memRuns s k = true) (hpresent : memPresent s.dev.variant k = true) (hk0 : k ≠ 0) (hk : k < s.mem.mems.length)
  (hflip : s.mem.flip = none)
include hruns hpresent hk0 hflip

theorem exec_scrubRead : exec (.scrubRead k m) s = .next (match m.v with
    | .clean => s
    | .corrected b => handleCe k 0x1F m.addr b 0 0 s
    | .uncorrectable => handleUe k { m with region := 0x1F } 0 0 s) := by
  have hguard : (memRuns s k && memPresent s.dev.variant k && k != 0) = true := by
    rw [hruns, hpresent, bne_iff_ne.2 hk0]
    rfl
  exact congrArg Host.Outcome.next ((if_pos hguard).trans (readWord_of_noFlip hflip))

theorem exec_scrubRead_clean (hv : m.v = .clean) : exec (.scrubRead k m) s = .next s := by
  rw [exec_scrubRead hruns hpresent hk0 hflip, hv]

include hk

theorem exec_scrubRead_corrected {b : Nat} (hv : m.v = .corrected b) : ∃ t, exec (.scrubRead k m) s = .next t ∧
    (memOf t k).ce = inc32 (memOf s k).ce ∧ (memOf t k).ue = (memOf s k).ue ∧ (∀ j, j ≠ k → memOf t j = memOf s j) ∧
    t.mem.retired = s.mem.retired ∧ t.lat = s.lat ∧ t.key = s.key := by
  have hce : handleCe k 0x1F m.addr b 0 0 s = noteCe k 0x1F m.addr b s := by
    unfold handleCe
    simp only [hk0, false_and, if_false]
    split <;> rfl
  have hexec : exec (.scrubRead k m) s = .next (noteCe k 0x1F m.addr b s) := by
    rw [exec_scrubRead hruns hpresent hk0 hflip, hv]
    exact congrArg Host.Outcome.next hce
  have hkeep := keeps_noteCe k 0x1F m.addr b s (mk := 0x404000) (s0 := s) rfl (Keeps.refl _ s)
  obtain ⟨hce', hue, hother, hretired, -⟩ := noteCe_counted hk 0x1F m.addr b
  exact ⟨_, hexec, hce', hue, hother, hretired, hkeep.get 14 rfl, hkeep.get 22 rfl⟩

/-- An uncorrectable error is counted and logged before its effect. -/
theorem exec_scrubRead_uncorrectable (hv : m.v = .uncorrectable) : ∃ u, (memOf u k).ue = inc32 (memOf s k).ue ∧ u.lat = s.lat ∧
    (∀ cold cause, ueReset k 0x1F = some (cold, cause) → k ≠ 0x0F → exec (.scrubRead k m) s = .next (internalReset cold cause u)) ∧
    (ueReset k 0x1F = none →
      exec (.scrubRead k m) s = .next (ueMemory k { m with region := 0x1F } (memFault k 0 0x1F m.addr u))) := by
  have hexec := exec_scrubRead (m := m) hruns hpresent hk0 hflip
  rw [hv] at hexec
  refine ⟨logEv evMemUe 0xFF [wd k, wd m.addr, wd 0x1F, Config.itemCode evMemUe (if k = 0 then 16 + 0x1F else k)] (noteUe k 0x1F m.addr s),
    (noteUe_counted hk 0x1F m.addr).2.1,
    (keeps_noteUe k 0x1F m.addr s (mk := 0x4000) (s0 := s) rfl (Keeps.refl _ s)).get 14 rfl, fun cold cause hreset hnot => ?_, fun hreset => ?_⟩
  · refine hexec.trans (congrArg Host.Outcome.next ?_)
    unfold handleUe
    simp only [hreset, hk0, hnot, if_false]
  · refine hexec.trans (congrArg Host.Outcome.next ?_)
    unfold handleUe
    simp only [hreset, hk0, if_false]
    rw [hv]

end

/-! ### The patrol (R450, R459) -/

theorem patrol_flip (words : Nat) (s : State) : (patrol words s).mem.flip = s.mem.flip := by
  unfold patrol
  dsimp only
  split
  · rfl
  · split
    · rfl
    · split <;> rfl

theorem exec_dramPatrol {words f0 f1 : Nat} {m : MemRead} (hruns : memRuns s 0 = true) (hflip : s.mem.flip = none) (hv : m.v = .clean)
    (hinj : m.injected = false) : exec (.dramPatrol words m f0 f1) s = .next (patrol words s) := by
  have herr : s.mem.passErrs + (if words = 0 then 0 else 0) = s.mem.passErrs := by split <;> rfl
  have hread : readWord 0 m f0 f1 (patrol words s) = patrol words s := by
    rw [readWord_of_noFlip ((patrol_flip words s).trans hflip), hv]
  unfold exec execDramPatrol
  simp only [hruns, if_true, hinj, Bool.false_eq_true, if_false, hv, herr]
  exact congrArg Host.Outcome.next hread

/-- A pass that goes on, one that waits for its 600 s, and one that ends. -/
theorem patrol_cases (words : Nat) (s : State) :
    (s.mem.passAt + words < passWords s → patrol words s = { s with mem := { s.mem with passAt := s.mem.passAt + words } }) ∧
    (passWords s ≤ s.mem.passAt + words → s.mem.high = true → s.clk.ticks < s.mem.highSince + 600 * 40000000 → patrol words s = s) ∧
    (passWords s ≤ s.mem.passAt + words → s.mem.high = false ∨ s.mem.highSince + 600 * 40000000 ≤ s.clk.ticks →
      (patrol words s).mem.passAt = 0 ∧ (patrol words s).mem.passes = sat 16 (s.mem.passes + 1) ∧
      (patrol words s).mem.passCyc = cycOf s ∧ (patrol words s).mem.high = false) := by
  refine ⟨fun hgo => if_pos hgo, fun hend hhigh hwait => ?_, fun hend hdone => ?_⟩
  · refine (if_neg (Nat.not_lt.2 hend)).trans (if_pos ?_)
    rw [hhigh, decide_eq_true hwait]
    rfl
  · have hnot : ¬ (s.mem.high && decide (s.clk.ticks < s.mem.highSince + 600 * 40000000)) = true := by
      obtain h | h := hdone
      · rw [h]
        exact Bool.false_ne_true
      · rw [decide_eq_false (Nat.not_lt.2 h), Bool.and_false]
        exact Bool.false_ne_true
    unfold patrol
    simp only [Nat.not_lt.2 hend, if_false, hnot]
    cases s.mem.high <;> exact ⟨rfl, rfl, rfl, rfl⟩

/-! ### The checker test (R453) -/

theorem exec_flipTimeout_none {w : Option Nat} (h : s.mem.flip = none) : exec (.flipTimeout w) s = .next s := by
  unfold exec execFlipTimeout
  simp only [h]

theorem exec_flipTimeout_unwritten {a : FlipArm} (h : s.mem.flip = some a) :
    exec (.flipTimeout none) s = .next (if a.since + 40000000 ≤ s.clk.ticks then endFlip 4 a s else s) := by
  unfold exec execFlipTimeout
  simp only [h, ite_self]

theorem exec_flipTimeout_unread {a : FlipArm} {t : Nat} (h : s.mem.flip = some a) (hin : memWithdrawn s a.target = false) (hsince : a.since ≤ t)
    (hwritten : t ≤ a.since + 40000000) (hminute : t + 60 * 40000000 ≤ s.clk.ticks) :
    exec (.flipTimeout (some t)) s = .next (endFlip 5 a s) := by
  unfold exec execFlipTimeout
  simp only [h, hin, Bool.false_eq_true, if_false, hsince, hwritten, hminute, and_self, if_true]

/-! ### Retired pages (R460, R461) -/

theorem norWrite_retired (area f0 f1 : Nat) (s : State) : (norWrite area f0 f1 s).1.mem.retired = s.mem.retired := by
  have hsector (dev : Nat) (a : State × Bool) : (norSector dev area a).1.mem.retired = a.1.mem.retired := by
    unfold norSector
    dsimp only
    show (if dev = 0 then _ else _ : MemInt).retired = _
    split <;> rfl
  have hon (dev f : Nat) (t : State) : (norOn dev area f t).1.mem.retired = t.mem.retired :=
    List.foldlRecOn _ _ (motive := fun a : State × Bool => a.1.mem.retired = t.mem.retired) rfl fun a ha _ _ => (hsector dev a).trans ha
  exact (hon 1 f1 _).trans (hon 0 f0 s)

section
variable (cause region addr f0 f1 : Nat)

theorem retirePage_again (h : ∃ r ∈ s.mem.retired, r.page = dramPage addr) : retirePage cause region addr f0 f1 s = (s, true) :=
  if_pos (by simpa using h)

variable (hnew : ∀ r ∈ s.mem.retired, r.page ≠ dramPage addr)
include hnew

theorem retirePage_new (hroom : s.mem.retired.length < 128) : (retirePage cause region addr f0 f1 s).1.mem.retired =
    s.mem.retired ++ [⟨dramPage addr, cause, (retirePage cause region addr f0 f1 s).2⟩] := by
  have hany : (s.mem.retired.any fun r => r.page == dramPage addr) = false := by simpa using hnew
  unfold retirePage
  simp only [hany, Bool.false_eq_true, if_false, Nat.not_le.2 hroom]
  rw [memFault_mem]
  exact congrArg (· ++ _) (norWrite_retired 3 f0 f1 s)

theorem retirePage_full (hfull : 128 ≤ s.mem.retired.length) : (retirePage cause region addr f0 f1 s).1.mem.retired = s.mem.retired ∧
    (retirePage cause region addr f0 f1 s).2 = false := by
  have hany : (s.mem.retired.any fun r => r.page == dramPage addr) = false := by simpa using hnew
  unfold retirePage
  simp only [hany, Bool.false_eq_true, if_false, hfull, if_true, and_true]
  split
  · rfl
  · rw [memFault_mem]
    rfl

end

/-! ### Repairs (R456, R457) -/

theorem complete_mem (o : Origin) (status : Nat) (payload : List Word) (s : State) : (complete o status payload s).mem = s.mem :=
  (keeps_complete o status payload s (mk := 0x800000) (s0 := s) rfl (Keeps.refl _ s)).get 23 rfl

section
variable {x : RepairRun} {l : List RepairRun} {f0 f1 : Nat} (hruns : s.mem.runs = x :: l) (hkind : x.kind ≠ 3)
include hruns hkind

/-- A memory whose repair holds. -/
def withRepair (x : RepairRun) (y : MemState) : MemState := { y with
  rows := if x.kind = 1 then y.rows else y.rows - 1
  cols := if x.kind = 1 then y.cols - 1 else y.cols
  repairs := y.repairs ++ [⟨x.kind, x.addr, decide (5 ≤ x.mem)⟩] }

/-- The state in which the first repair has ended and taken a fuse entry. -/
def repairEnded (x : RepairRun) (l : List RepairRun) (s : State) : State :=
  let t : State := { s with mem := { s.mem with
    runs := l
    fieldLeft := s.mem.fieldLeft - 1 } }
  if x.kind < 2 then stopAct 2 x.mem t else t

omit hruns hkind in
theorem repairEnded_mem : (repairEnded x l s).mem = { s.mem with
    runs := l
    fieldLeft := s.mem.fieldLeft - 1 } := by
  unfold repairEnded
  dsimp only
  split <;> rfl

theorem exec_memRepairComplete_failed : ∃ u, exec (.memRepairComplete false f0 f1) s = .next (completeFail x.org ⟨13, stVerifyFail, 0xFFFF, 0⟩ u) ∧
    u.mem.fieldLeft = s.mem.fieldLeft - 1 ∧ u.mem.runs = l ∧ u.mem.mems = s.mem.mems := by
  have hexec : exec (.memRepairComplete false f0 f1) s = .next (completeFail x.org ⟨13, stVerifyFail, 0xFFFF, 0⟩
      (logRepaired x (Config.itemCode evMemRepaired 2) (repairEnded x l s))) := by
    unfold exec execMemRepairComplete
    simp only [hruns, hkind, if_false]
    rfl
  refine ⟨_, hexec, ?_⟩
  show (repairEnded x l s).mem.fieldLeft = _ ∧ (repairEnded x l s).mem.runs = _ ∧ (repairEnded x l s).mem.mems = _
  rw [repairEnded_mem]
  exact ⟨rfl, rfl, rfl⟩

theorem exec_memRepairComplete_applied (hmem : x.mem < s.mem.mems.length) : ∃ t, exec (.memRepairComplete true f0 f1) s = .next t ∧
    t.mem.fieldLeft = s.mem.fieldLeft - 1 ∧
    (memOf t x.mem).repairs = (memOf s x.mem).repairs ++ [⟨x.kind, x.addr, decide (5 ≤ x.mem)⟩] := by
  obtain ⟨words, hexec⟩ : ∃ words, exec (.memRepairComplete true f0 f1) s = .next (complete x.org stOk words
      (logRepaired x (wd (b2n (!decide (5 ≤ x.mem)))) (onMem x.mem (withRepair x) (repairEnded x l s)))) := by
    unfold exec execMemRepairComplete
    simp only [hruns, hkind, if_false, Bool.not_true, Bool.false_eq_true]
    exact ⟨_, rfl⟩
  have hmem' : (complete x.org stOk words (logRepaired x (wd (b2n (!decide (5 ≤ x.mem)))) (onMem x.mem (withRepair x) (repairEnded x l s)))).mem =
      (onMem x.mem (withRepair x) (repairEnded x l s)).mem := complete_mem ..
  have hself := memOf_onMem_self (s := repairEnded x l s) (k := x.mem) (withRepair x) (by rw [repairEnded_mem]; exact hmem)
  have hof : memOf (repairEnded x l s) x.mem = memOf s x.mem := by
    unfold memOf
    rw [repairEnded_mem]
  rw [hof] at hself
  refine ⟨_, hexec, ?_, ?_⟩
  · rw [hmem']
    exact congrArg MemInt.fieldLeft repairEnded_mem
  · unfold memOf at *
    rw [hmem', hself]
    rfl

end

theorem exec_memRepairComplete_none {f0 f1 : Nat} {b : Bool} (h : s.mem.runs = []) : exec (.memRepairComplete b f0 f1) s = .next s := by
  unfold exec execMemRepairComplete
  simp only [h]

/-! ### NAND reclaim (R403) -/

section
variable {part block n : Nat} (hfw : fwRuns s = true) (hopen : s.upd.windowOpen = false) (hfrozen : part = 0 → logFrozen s = false)
include hfw hopen hfrozen

theorem exec_nandReclaim (job : NandJob) : exec (.nandReclaim part block n job) s =
    .next (reclaimStep part block job { s with mem := { s.mem with nandErase := Nat.max s.mem.nandErase n } }) := by
  have hthaw : (part == 0 && logFrozen s) = false := by
    by_cases hpart : part = 0
    · rw [hfrozen hpart, Bool.and_false]
    · rw [beq_eq_false_iff_ne.2 hpart]
      rfl
  refine congrArg Host.Outcome.next (if_pos ?_)
  rw [hfw, hopen, hthaw]
  rfl

theorem exec_nandReclaim_start (hidle : reclaiming s part = false) (hfree : blockers s.bal 9 = []) :
    ∃ t, exec (.nandReclaim part block n .start) s = .next t ∧ t.bal.running = s.bal.running ++ [⟨9, part⟩] ∧
      t.mem.nandErase = Nat.max s.mem.nandErase n := by
  have hstep := exec_nandReclaim (block := block) (n := n) hfw hopen hfrozen .start
  unfold reclaimStep at hstep
  simp only [show reclaiming { s with mem := { s.mem with nandErase := Nat.max s.mem.nandErase n } } part = false from hidle,
    Bool.false_eq_true, if_false,
    admitAct_free (s := { s with mem := { s.mem with nandErase := Nat.max s.mem.nandErase n } }) part hfree] at hstep
  exact ⟨_, hstep, rfl, rfl⟩

theorem exec_nandReclaim_finish : ∃ t, exec (.nandReclaim part block n .finish) s = .next t ∧ reclaiming t part = false ∧
    t.mem.nandErase = Nat.max s.mem.nandErase n ∧ OnlyChanges [.mem, .bal] s t := by
  refine ⟨_, exec_nandReclaim hfw hopen hfrozen .finish, ?_, rfl,
    only_of_keeps (keeps_stopAct 9 part _ (mk := 0xFFFFFD7FFFFF) rfl (Keeps.set_mem rfl (Keeps.refl _ s))) (by decide)⟩
  refine List.any_eq_false.2 fun a ha => ?_
  exact Bool.eq_false_iff.1 ((Bool.not_eq_true' _).mp (List.mem_filter.1 ha).2)

end

theorem exec_nandReclaim_frozen {block n : Nat} {job : NandJob} (h : logFrozen s = true) : exec (.nandReclaim 0 block n job) s = .next s := by
  refine congrArg Host.Outcome.next (if_neg ?_)
  rw [h, Bool.and_eq_true]
  exact fun hand => Bool.false_ne_true hand.2

end

/-- Settles O57: a detection is counted in its own memory alone, and nothing that its record brings changes the counts. -/
theorem memoryErrorsAreCountedAndContained : Obligations.MemoryErrorsAreCountedAndContained := by
  unfold Obligations.MemoryErrorsAreCountedAndContained
  intro s
  refine ⟨fun k m hruns hpresent hk0 hk hflip => ⟨exec_scrubRead_clean hruns hpresent hk0 hflip,
      fun b hv => exec_scrubRead_corrected hruns hpresent hk0 hk hflip hv, fun cold cause hv hreset hnot => ?_, fun hv hreset => ?_⟩,
    fun words m f0 f1 hruns hflip hv hinj => ?_, fun w h => exec_flipTimeout_none h,
    fun a h => ⟨fun hearly => (exec_flipTimeout_unwritten h).trans (congrArg Host.Outcome.next (if_neg (Nat.not_le.2 hearly))),
      fun hdue => (exec_flipTimeout_unwritten h).trans (congrArg Host.Outcome.next (if_pos hdue)),
      fun t hin hsince hwritten hminute => exec_flipTimeout_unread h hin hsince hwritten hminute⟩,
    fun a => ⟨rfl, rfl⟩,
    fun cause region addr f0 f1 => ⟨retirePage_again cause region addr f0 f1, retirePage_new cause region addr f0 f1,
      retirePage_full cause region addr f0 f1⟩,
    fun x l f0 f1 hruns hkind => ⟨exec_memRepairComplete_failed hruns hkind, exec_memRepairComplete_applied hruns hkind⟩,
    fun f0 f1 b h => exec_memRepairComplete_none h,
    fun part block n hfw hopen hfrozen => ⟨exec_nandReclaim_start hfw hopen hfrozen, exec_nandReclaim_finish hfw hopen hfrozen⟩,
    fun block n job h => exec_nandReclaim_frozen h⟩
  · obtain ⟨u, hue, hlat, hresets, -⟩ := exec_scrubRead_uncorrectable hruns hpresent hk0 hk hflip hv
    exact ⟨u, hresets cold cause hreset hnot, hue, hlat⟩
  · obtain ⟨u, hue, -, -, hstays⟩ := exec_scrubRead_uncorrectable hruns hpresent hk0 hk hflip hv
    refine ⟨_, hstays hreset, ?_⟩
    unfold memOf at hue ⊢
    rwa [memFault_mem]
  · have hexec := exec_dramPatrol (words := words) (f0 := f0) (f1 := f1) hruns hflip hv hinj
    obtain ⟨hgo, hwaits, hends⟩ := patrol_cases words s
    exact ⟨fun hlt => hexec.trans (congrArg Host.Outcome.next (hgo hlt)),
      fun _ hend hhigh hwait => hexec.trans (congrArg Host.Outcome.next (hwaits hend hhigh hwait)),
      fun _ hend hdone => ⟨_, hexec, hends hend hdone⟩⟩

end Sys2Proof.Proofs
end

section
/-! PROOFS. The MEM commands, withdrawals and internal activities (O58). -/
namespace Sys2Proof.Proofs
open Sys2Proof Sys2Proof.Machine Sys2Proof.Laws

section
variable {s : State} {r : Req}

/-! ### The MEM commands (R452, R455, R459, R466 to R468) -/

theorem exec_memStatus (h : Runs 0x0E01 chkMemStatus r s) : ∃ ws u, exec .memStatus s = .next (ok r ws u) ∧ ws.length = 27 ∧
    OnlyChanges [.cmd, .clk] s u := by
  have hact := serve_of_runs (act := actMemStatus) h
  unfold actMemStatus at hact
  dsimp only at hact
  refine ⟨_, _, congrArg Host.Outcome.next hact, ?_,
    only_of_keeps (keeps_freshNat _ (mk := 0xF7FFFFFFFBFD) rfl (Keeps.set_cmd rfl (Keeps.refl _ s))) (by decide)⟩
  rw [List.length_append, List.length_append, List.length_map, List.length_range]
  rfl

/-- The counts and the table of a memory cleared, where the request asks for it (R467). -/
def errorsRead (r : Req) (s : State) : State :=
  if bit (r.w 3) 26 then onMem (fld (r.w 3) 31 28) (fun x => { x with ce := 0, ue := 0, table := [], ovf := false }) s else s

theorem exec_memErrors_table (h : Runs 0x0E02 chkMemErrors r s) (hlist : bit (r.w 3) 27 = false) : ∃ ws u, exec .memErrors s = .next
      (ok r (packW [(fld (r.w 3) 31 28, 28), (b2n (memOf s (fld (r.w 3) 31 28)).ovf, 27),
        ((memOf s (fld (r.w 3) 31 28)).table.length, 16)] :: wd (memOf s (fld (r.w 3) 31 28)).ce :: wd (memOf s (fld (r.w 3) 31 28)).ue :: ws) u) ∧
    (bit (r.w 3) 26 = true → (memOf u (fld (r.w 3) 31 28)).ce = 0 ∧ (memOf u (fld (r.w 3) 31 28)).ue = 0 ∧
      (memOf u (fld (r.w 3) 31 28)).table = [] ∨ s.mem.mems.length ≤ fld (r.w 3) 31 28) ∧
    (bit (r.w 3) 26 = false → u.mem = s.mem) := by
  have hact := serve_of_runs (act := actMemErrors) h
  have hanswer : actMemErrors r (took r s) = ok r _ (errorsRead r (took r s)) := if_neg (Bool.eq_false_iff.1 hlist)
  rw [hanswer] at hact
  refine ⟨_, _, congrArg Host.Outcome.next hact, fun hclear => ?_, fun hkeep => ?_⟩
  · by_cases hm : fld (r.w 3) 31 28 < s.mem.mems.length
    · have hself := memOf_onMem_self (s := took r s) (fun x => { x with ce := 0, ue := 0, table := [], ovf := false }) hm
      rw [show errorsRead r (took r s) = _ from if_pos hclear, hself]
      exact .inl ⟨rfl, rfl, rfl⟩
    · exact .inr (Nat.not_lt.1 hm)
  · rw [show errorsRead r (took r s) = _ from if_neg (Bool.eq_false_iff.1 hkeep)]
    rfl

theorem exec_memErrors_pages (h : Runs 0x0E02 chkMemErrors r s) (hlist : bit (r.w 3) 27 = true) : ∃ u, exec .memErrors s = .next
    (ok r (wd s.mem.retired.length :: s.mem.retired.map fun p => packW [(p.page, 13), (p.cause, 11)]) u) := by
  have hact := serve_of_runs (act := actMemErrors) h
  have hanswer : actMemErrors r (took r s) = ok r _ (errorsRead r (took r s)) := if_pos hlist
  rw [hanswer] at hact
  exact ⟨_, congrArg Host.Outcome.next hact⟩

theorem exec_memFlip_arms (h : Runs 0x0E03 chkMemFlip r s) (hcount : fld (r.w 3) 27 26 ≠ 0) :
    ∃ u a, exec .memFlip s = .next (ok r [] u) ∧ u.mem.flip = some a ∧ a.count = fld (r.w 3) 27 26 ∧ a.target = fld (r.w 3) 31 28 ∧
      a.since = s.clk.ticks ∧ a.port = r.port ∧ u.mem.flips = sat 16 (s.mem.flips + 1) :=
  ⟨_, _, congrArg Host.Outcome.next ((serve_of_runs (act := actMemFlip) h).trans (if_neg hcount)), rfl, rfl, rfl, rfl, rfl, rfl⟩

theorem exec_memFlip_disarms (h : Runs 0x0E03 chkMemFlip r s) (hcount : fld (r.w 3) 27 26 = 0) :
    ∃ u, exec .memFlip s = .next (ok r [] u) ∧ u.mem.flip = none ∧ u.mem.flipResult = 0 :=
  ⟨_, congrArg Host.Outcome.next ((serve_of_runs (act := actMemFlip) h).trans (if_pos hcount)), rfl, rfl⟩

theorem exec_memRepair (h : Runs 0x0E04 chkMemRepair r s) (hfree : fld (r.w 3) 27 26 < 2 → blockers s.bal 2 = []) :
    ∃ u, exec .memRepair s = .next (acceptN r u) ∧
      u.mem.runs = s.mem.runs ++ [⟨r.origin, fld (r.w 3) 31 28, fld (r.w 3) 27 26, (r.w 4).toNat, s.clk.ticks⟩] := by
  have hact := serve_of_runs (act := actMemRepair) h
  unfold actMemRepair at hact
  dsimp only at hact
  by_cases hkind : fld (r.w 3) 27 26 < 2
  · rw [if_pos hkind, admitReq_free (s := took r s) _ _ _ (hfree hkind)] at hact
    exact ⟨_, congrArg Host.Outcome.next hact, rfl⟩
  · rw [if_neg hkind] at hact
    exact ⟨_, congrArg Host.Outcome.next hact, rfl⟩

section
variable (h : Runs 0x0E05 chkMemScrub r s)
include h

theorem exec_memScrub_stores (hop : scrubOp r = 0) (hroom : Room 0x13 s) :
    exec .memScrub s = .next (ok r [] (tlPut (nextBoundary s) 3 0x13 (.config r) true (took r s))) :=
  congrArg Host.Outcome.next ((serve_of_runs (act := actMemScrub) h).trans ((if_pos hop).trans (storeAtBoundary_of_room hroom)))

theorem exec_memScrub_starts (hop : scrubOp r = 1) (hfree : blockers s.bal 1 = []) : ∃ u, exec .memScrub s = .next (ok r [] u) ∧
    u.mem.high = true ∧ u.mem.highSince = s.clk.ticks ∧ u.mem.passAt = 0 ∧ u.bal.running = s.bal.running ++ [⟨1, 0xFF⟩] := by
  have hact : actMemScrub r (took r s) = admitReq 1 0xFF r _ (took r s) := (if_neg (by rw [hop]; exact Nat.one_ne_zero)).trans (if_pos hop)
  refine ⟨_, congrArg Host.Outcome.next ((serve_of_runs (act := actMemScrub) h).trans (hact.trans (admitReq_free (s := took r s) _ _ _ hfree))),
    rfl, rfl, rfl, rfl⟩

theorem exec_memScrub_ends (hop : 2 ≤ scrubOp r) : ∃ u, exec .memScrub s = .next (ok r [] u) ∧ u.mem.high = false :=
  ⟨_, congrArg Host.Outcome.next ((serve_of_runs (act := actMemScrub) h).trans ((if_neg (by omega)).trans (if_neg (by omega)))), rfl⟩

end

theorem exec_memActivity (h : Runs 0x0E08 chkMemActivity r s) : ∃ ws, exec .memActivity s = .next (ok r ws (took r s)) ∧ ws.length = 15 := by
  have hact := serve_of_runs (act := actMemActivity) h
  unfold actMemActivity at hact
  dsimp only at hact
  refine ⟨_, congrArg Host.Outcome.next hact, ?_⟩
  rw [List.length_append, List.length_append, List.length_map, List.length_range]
  rfl

/-! ### Withdrawals (R492, R493) -/

theorem exec_memWithdraw (h : Runs 0x0E06 chkMemWithdraw r s) (hroom : tlRoom s.tl 0x14 1 = true) (hfree : blockers s.bal 10 = []) :
    ∃ t w x, exec .memWithdraw s = .next t ∧ t.bal.withdrawals = s.bal.withdrawals ++ [w] ∧ w.block = wdBlock r ∧ w.half = wdHalf r ∧
      w.active = false ∧ w.limitS = fld (r.w 3) 16 0 ∧ w.req = some r ∧ t.ports = s.ports ∧ t.tl.entries = s.tl.entries ++ [x] ∧
      x.kind = .withdraw (wdBlock r) (wdHalf r) ∧ x.target = nextBoundary s ∧ x.rank = 3 := by
  have hact : actMemWithdraw r (took r s) = admitReq 10 _ r _ (took r s) :=
    if_neg (by rw [show tlRoom (took r s).tl 0x14 1 = true from hroom]; exact Bool.false_ne_true)
  exact ⟨_, _, _, congrArg Host.Outcome.next ((serve_of_runs (act := actMemWithdraw) h).trans
    (hact.trans (admitReq_free (s := took r s) _ _ _ hfree))), rfl, rfl, rfl, rfl, rfl, rfl, rfl, rfl, rfl, rfl, rfl⟩

/-- The end of a withdrawal, posted once, stands last in the queue. -/
theorem postEnd_posts {w : Withdrawal} (h : w.ending = false) : ∃ x, (postEnd w s).tl.entries = s.tl.entries ++ [x] ∧
    x.kind = .withdrawEnd w.block w.half ∧ x.target = nextBoundary s ∧ (postEnd w s).ports = s.ports := by
  have hpost : postEnd w s = _ := if_neg (Bool.eq_false_iff.1 h)
  rw [hpost]
  exact ⟨_, rfl, rfl, rfl, rfl⟩

theorem wdFind_place {b h : Nat} {w : Withdrawal} (hfind : wdFind s b h = some w) : w ∈ s.bal.withdrawals ∧ w.block = b ∧ w.half = h := by
  have hplace := List.find?_some hfind
  rw [Bool.and_eq_true, beq_iff_eq, beq_iff_eq] at hplace
  exact ⟨List.mem_of_find?_eq_some hfind, hplace⟩

theorem exec_memRestore {w : Withdrawal} (h : Runs 0x0E07 chkMemRestore r s) (hfind : wdFind s (wdBlock r) (wdHalf r) = some w)
    (hending : w.ending = false) : ∃ t x, exec .memRestore s = .next t ∧ t.tl.entries = s.tl.entries ++ [x] ∧
      x.kind = .withdrawEnd (wdBlock r) (wdHalf r) ∧ x.target = nextBoundary s ∧ t.ports = s.ports := by
  have hact : actMemRestore r (took r s) = postEnd w (onWd w.block w.half (fun w => { w with restores := w.restores ++ [r] }) (took r s)) := by
    unfold actMemRestore
    simp only [show wdFind (took r s) (wdBlock r) (wdHalf r) = some w from hfind]
  obtain ⟨-, hblock, hhalf⟩ := wdFind_place hfind
  obtain ⟨x, hentries, hkind, htarget, hports⟩ := postEnd_posts hending
    (s := onWd w.block w.half (fun w => { w with restores := w.restores ++ [r] }) (took r s))
  rw [hblock, hhalf] at hkind
  exact ⟨_, x, congrArg Host.Outcome.next ((serve_of_runs (act := actMemRestore) h).trans hact), hentries, hkind, htarget, hports⟩

section
variable {e : TlEntry} {b h : Nat} {w : Withdrawal}

/-- The entry of a withdrawal answers its request with OK. -/
theorem exec_withdrawalApply {q : Req} {fails : Nat} (hdue : Due e s) (hkind : e.kind = .withdraw b h) (hfind : wdFind s b h = some w)
    (hreq : w.req = some q) : ∃ u, exec (.withdrawalApply fails) s = .next (ok q [] u) ∧
      (b = 9 → ∃ x ∈ u.bal.withdrawals, x.block = b ∧ x.half = h ∧ x.active = true ∧ x.since = s.clk.ticks) := by
  let s0 := tlRemove e.seq s
  let s1 := onWd b h (fun w => { w with active := true, since := s0.clk.ticks, req := none }) s0
  let u := settleMode s0 evBlockWithdrawn (logNs evBlockWithdrawn w.port.val [w.port.val, wdInst b h, w.limitS] (blockOut b h fails s0 s1))
  refine ⟨u, congrArg Host.Outcome.next ((tlFire_of_due hdue (by rw [hkind])).trans ?_), fun hb => ?_⟩
  · simp only [show wdFind (tlRemove e.seq s) b h = some w from hfind, hreq]
    rfl
  · obtain ⟨hmem, hblock, hhalf⟩ := wdFind_place hfind
    subst hb
    have hbal : u.bal = s1.bal := (keeps_settleMode s0 evBlockWithdrawn _ (mk := 0x2000000) rfl (Keeps.refl _ _)).get 25 rfl
    rw [hbal]
    exact ⟨_, List.mem_map_of_mem hmem, by rw [if_pos ⟨hblock, hhalf⟩]; exact ⟨hblock, hhalf, rfl, rfl⟩⟩

theorem exec_withdrawalEnd (hdue : Due e s) (hkind : e.kind = .withdrawEnd b h) (hfind : wdFind s b h = some w) :
    exec .withdrawalEnd s = .next (endWithdrawal w (tlRemove e.seq s)) := by
  obtain ⟨target, rank, seq, block, secure, kind, active⟩ := e
  subst hkind
  unfold exec execWithdrawalEnd
  simp only [show tlDue s = some _ from hdue]
  refine congrArg Host.Outcome.next ((tlFire_of_due hdue rfl).trans ?_)
  simp only [show wdFind (tlRemove seq s) b h = some w from hfind]

theorem exec_withdrawalEnd_expired (hnone : tlDue s = none) (hfind : s.bal.withdrawals.find? (fun w => w.expired s.clk.ticks) = some w) :
    ∃ t x, exec .withdrawalEnd s = .next t ∧ t.tl.entries = s.tl.entries ++ [x] ∧ x.kind = .withdrawEnd w.block w.half ∧
      x.target = nextBoundary s := by
  have hexpired : w.expired s.clk.ticks = true := List.find?_some (p := fun w : Withdrawal => w.expired s.clk.ticks) hfind
  have hending : w.ending = false := by
    unfold Withdrawal.expired at hexpired
    simpa using (Bool.and_eq_true_iff.1 (Bool.and_eq_true_iff.1 hexpired).1).2
  obtain ⟨x, hentries, hkind, htarget, -⟩ := postEnd_posts (s := s) hending
  refine ⟨postEnd w s, x, ?_, hentries, hkind, htarget⟩
  unfold exec execWithdrawalEnd
  simp only [hnone, hfind]

theorem exec_withdrawalEnd_idle (hnone : tlDue s = none) (hfind : s.bal.withdrawals.find? (fun w => w.expired s.clk.ticks) = none) :
    exec .withdrawalEnd s = .next s := by
  unfold exec execWithdrawalEnd
  simp only [hnone, hfind]

end

/-! ### Internal activities (R489) -/

theorem exec_restart_compact {inst : Nat} (hwait : s.bal.waitCompact = true) (hfree : blockers s.bal 8 = []) (hopen : s.upd.windowOpen = false) :
    ∃ t, exec (.internalActivityRestart 8 inst) s = .next t ∧ t.bal.waitCompact = false ∧ t.bal.running = s.bal.running ++ [⟨8, 0xFF⟩] ∧
      OnlyChanges [.bal] s t := by
  have hexec : exec (.internalActivityRestart 8 inst) s = .next (startAct 8 0xFF { s with bal := { s.bal with
      waitCompact := s.bal.waitCompact && 8 != 8
      waitReclaim := s.bal.waitReclaim && 8 != 9 } }) := by
    refine congrArg Host.Outcome.next (if_pos ?_)
    simp only [hwait, hfree, hopen, if_true]
    rfl
  exact ⟨_, hexec, Bool.and_false _, rfl, only_of_keeps (keeps_execInternalActivityRestart 8 inst s _ hexec) (by decide)⟩

theorem exec_restart_reclaim {inst : Nat} (hwait : s.bal.waitReclaim = true) (hfree : blockers s.bal 9 = []) (hopen : s.upd.windowOpen = false)
    (hthaw : inst = 0 → logFrozen s = false) : ∃ t, exec (.internalActivityRestart 9 inst) s = .next t ∧ t.bal.waitReclaim = false ∧
      t.bal.running = s.bal.running ++ [⟨9, inst⟩] := by
  have hguard : (9 == 9 && inst == 0 && logFrozen s) = false := by
    by_cases hinst : inst = 0
    · rw [hthaw hinst, Bool.and_false]
    · rw [beq_eq_false_iff_ne.2 hinst]
      rfl
  have hexec : exec (.internalActivityRestart 9 inst) s = .next (startAct 9 inst { s with bal := { s.bal with
      waitCompact := s.bal.waitCompact && 9 != 8
      waitReclaim := s.bal.waitReclaim && 9 != 9 } }) := by
    refine congrArg Host.Outcome.next (if_pos ?_)
    rw [hguard, hfree, hopen, if_neg (by decide), if_pos rfl, hwait]
    rfl
  exact ⟨_, hexec, Bool.and_false _, rfl⟩

theorem exec_restart_not {inst : Nat} (hwait : s.bal.waitCompact = false) : exec (.internalActivityRestart 8 inst) s = .next s := by
  refine congrArg Host.Outcome.next (if_neg ?_)
  rw [if_pos rfl, hwait]
  exact Bool.false_ne_true

end

/-- Settles O58: a MEM command acts on the unit it names, and a withdrawal's entry, end and limit each on the withdrawal they find. -/
theorem maintenanceCommandsAct : Obligations.MaintenanceCommandsAct := by
  unfold Obligations.MaintenanceCommandsAct
  intro r s
  exact ⟨exec_memStatus, exec_memErrors_table, exec_memErrors_pages, fun h => ⟨exec_memFlip_arms h, exec_memFlip_disarms h⟩,
    exec_memRepair, fun h => ⟨exec_memScrub_stores h, exec_memScrub_starts h, exec_memScrub_ends h⟩,
    exec_memWithdraw, fun w h hfind hending => exec_memRestore h hfind hending, exec_memActivity,
    fun e b h w q fails hdue hkind hfind hreq => exec_withdrawalApply hdue hkind hfind hreq,
    fun e b h w hdue hkind hfind => exec_withdrawalEnd hdue hkind hfind,
    fun w hnone hfind => exec_withdrawalEnd_expired hnone hfind, exec_withdrawalEnd_idle,
    fun inst hwait hfree hopen => exec_restart_compact hwait hfree hopen,
    fun inst hwait hfree hopen hthaw => exec_restart_reclaim hwait hfree hopen hthaw, fun inst hwait => exec_restart_not hwait⟩

end Sys2Proof.Proofs
end

section
/-! PROOFS. The handover window (O59). -/
namespace Sys2Proof.Proofs
open Sys2Proof Sys2Proof.Machine Sys2Proof.Laws

section
variable {s : State}

/-! ### What leaves the update unit as it is -/

theorem complete_upd (o : Origin) (status : Nat) (payload : List Word) (s : State) : (complete o status payload s).upd = s.upd :=
  (keeps_complete o status payload s (mk := 0x1000000) (s0 := s) rfl (Keeps.refl _ s)).get 24 rfl

theorem logEv_upd (code inst : Nat) (content : List Word) (s : State) : (logEv code inst content s).upd = s.upd := rfl

theorem logNs_upd (code inst : Nat) (content : List Nat) (s : State) : (logNs code inst content s).upd = s.upd := rfl

theorem settleMode_upd (old : State) (cause : Nat) (s : State) : (settleMode old cause s).upd = s.upd :=
  (keeps_settleMode old cause s (mk := 0x1000000) rfl (Keeps.refl _ s)).get 24 rfl

/-- The close of a window takes the activation away and notes when it opened. -/
theorem closeWindow_upd (cause o : Nat) (s : State) : ∃ late, (closeWindow cause o s).upd = { s.upd with
    act := none
    windowOpen := false
    lastOpen := o
    lastLate := late } := by
  unfold closeWindow
  extract_lets s1 s2
  have hlate (t : State) : (lateContacts t).upd = t.upd := (keeps_lateContacts t (mk := 0x1000000) (s0 := t) rfl (Keeps.refl _ t)).get 24 rfl
  have hheld (t : State) : (deliverHeld t).upd = t.upd := (keeps_deliverHeld t (mk := 0x1000000) (s0 := t) rfl (Keeps.refl _ t)).get 24 rfl
  rw [hheld, hlate, settleMode_upd]
  exact ⟨_, rfl⟩

/-! ### Banks exchanged (R470, R481 to R485) -/

/-- The update unit after the banks were exchanged. -/
def swapped (left : BankSt) (man : List Word) (s : State) : Upd := { s.upd with
  bank := 1 - s.upd.bank
  active := man
  otherMan := s.upd.active
  other := left
  otherSettings := settingsOf s
  otherStates := s.cmd.setState
  otherMatrix := (s.bal.matrixVer, s.bal.matrix) }

theorem swapBank_upd (left : BankSt) (man : List Word) (matrix : Nat × List Nat) (s : State) :
    (swapBank left man matrix s).upd = swapped left man s := by
  unfold swapBank
  dsimp only
  split <;> rfl

/-- The session's set on trial. -/
def onTrial (trialS : Nat) (u : Upd) : Upd := { u with
  trial := true
  trialS := trialS
  trialRun := 0
  trialBoots := 0
  session := { u.session with
    st := .trial
    verify := none } }

/-- A set in service without a trial; a session in TRIAL has ended. -/
def offTrial (u : Upd) : Upd := { u with
  trial := false
  trialS := 0
  trialRun := 0
  trialBoots := 0
  session := if u.session.st == .trial then initSession else u.session }

section
variable {put : Nat → Settings → State → State} (hput : ∀ k c s, Keeps 0x1000000 s (put k c s))
include hput

theorem enterTrial_upd (left : BankSt) (trialS : Nat) (s : State) :
    (enterTrial left put trialS s).1.upd = onTrial trialS (swapped left s.upd.session.man s) := by
  unfold enterTrial
  extract_lets x s1
  rw [(keeps_newSettings put s.upd.active x.man _ hput rfl (Keeps.refl _ _)).get 24 rfl]
  exact congrArg (fun u : Upd => { onTrial trialS u with session := { s.upd.session with
    st := .trial
    verify := none } }) (swapBank_upd left x.man (sessionMatrix x) s)

theorem enterStandby_upd (left : BankSt) (crcBad : List Nat) (s : State) :
    (enterStandby left put crcBad s).1.upd = offTrial (swapped left s.upd.otherMan s) := by
  unfold enterStandby
  extract_lets u s1
  rw [(keeps_backSettings put crcBad u.active u.otherMan u.otherSettings u.otherStates _ hput rfl (Keeps.refl _ _)).get 24 rfl]
  exact congrArg offTrial (swapBank_upd left u.otherMan u.otherMatrix s)

end

theorem enterReset_upd (cold : Bool) (cause : Nat) (next : BootStep) (keepPu : Bool) (s : State) :
    (enterReset cold cause next keepPu s).upd = s.upd.afterReset := by
  have hstored (t : State) : (applyStored t).upd = t.upd := (keeps_applyStored t (mk := 0x1000000) (s0 := t) rfl (Keeps.refl _ t)).get 24 rfl
  have hclose (t : State) : (closeUnits t).upd = t.upd := (keeps_closeUnits t (mk := 0x1000000) (s0 := t) rfl (Keeps.refl _ t)).get 24 rfl
  have hreport (m : Mode) (f c : Nat) (t : State) : (reportMode m f c t).upd = t.upd :=
    (keeps_reportMode m f c t (mk := 0x1000000) (s0 := t) rfl (Keeps.refl _ t)).get 24 rfl
  have hhalt : (haltUnits cold s).upd = s.upd.afterReset := by
    refine congrArg Upd.afterReset ((hclose _).trans ?_)
    exact hstored s
  unfold enterReset
  extract_lets lost s1 sealed pwr1 pwr s2
  have h2 : s2.upd = s.upd.afterReset := (hreport ..).trans hhalt
  split
  · exact h2
  · exact h2

/-- A reset leaves the sets and the banks where they stand. -/
theorem internalReset_sets (cold : Bool) (cause : Nat) (s : State) : (internalReset cold cause s).upd.active = s.upd.active ∧
    (internalReset cold cause s).upd.otherMan = s.upd.otherMan ∧ (internalReset cold cause s).upd.bank = s.upd.bank := by
  unfold internalReset
  split
  · rw [logNs_upd, enterReset_upd]
    exact ⟨rfl, rfl, rfl⟩
  · exact ⟨rfl, rfl, rfl⟩

/-! ### The cause of a reset stands while the settings of a set are put in place -/

/-- The cause of the last reset and the step of BOOT are the same. -/
def SameBoot (s t : State) : Prop := t.pwr.cause = s.pwr.cause ∧ t.pwr.bootStep = s.pwr.bootStep

theorem SameBoot.trans {s t u : State} (h : SameBoot s t) (g : SameBoot t u) : SameBoot s u := ⟨g.1.trans h.1, g.2.trans h.2⟩

theorem applyEff_boot (s : State) : SameBoot s (applyEff s) := by
  unfold applyEff
  dsimp only
  split <;> exact ⟨rfl, rfl⟩

theorem bootSet_boot (id : Nat) (c : Settings) (s : State) : SameBoot s (bootSet id c s) := by
  unfold bootSet followThreshold
  split
  · exact ⟨rfl, rfl⟩
  · exact SameBoot.trans (t := putSettings (mixSet id c (settingsOf s)) s) ⟨rfl, rfl⟩ (applyEff_boot _)

theorem enterStandby_boot (crcBad : List Nat) (s : State) : SameBoot s (enterStandby .standby bootSet crcBad s).1 := by
  unfold enterStandby
  extract_lets u s1
  have h1 : SameBoot s s1 := by
    show SameBoot s (swapBank .standby u.otherMan u.otherMatrix s)
    unfold swapBank
    dsimp only
    split <;> exact ⟨rfl, rfl⟩
  refine h1.trans ?_
  unfold backSettings
  refine List.foldlRecOn _ _ (motive := fun t : State => SameBoot s1 t) ⟨rfl, rfl⟩ fun t ht id _ => ht.trans ?_
  exact (bootSet_boot id _ t).trans ⟨rfl, rfl⟩

/-! ### Without an activation -/

theorem window_of_none (h : s.upd.act = none) (n : Nat) (b : Bool) (l : List Nat) : exec .preparationComplete s = .next s ∧
    exec .preparationDeadline s = .next s ∧ exec .firmwareReady s = .next s ∧ exec (.handoverTimeout b l) s = .next s ∧
    exec (.handoverClose l) s = .next s ∧ (s.upd.late.testBit n = false → exec (.engineChangeover n) s = .next s) := by
  refine ⟨?_, ?_, ?_, ?_, ?_, fun hlate => congrArg Host.Outcome.next (if_neg ?_)⟩
  · unfold exec execPreparationComplete
    simp only [h]
  · unfold exec execPreparationDeadline
    simp only [h]
  · unfold exec execFirmwareReady
    simp only [h]
  · unfold exec execHandoverTimeout
    simp only [h]
  · unfold exec execHandoverClose
    simp only [h]
  · rw [hlate]
    exact Bool.false_ne_true

section
variable {a : Activation} (hact : s.upd.act = some a)
include hact

/-! ### Preparation (R476, R479) -/

section
variable (hnot : a.prepared = false) (hserved : served s = true) (htime : ∀ c, a.target = some c → s.tt.tt ≤ (c - 1) * 4096)
include hnot hserved htime

/-- The prepared activation, its cycle known. -/
def preparedFor (a : Activation) (s : State) : Activation := { a with
  prepared := true
  target := some (a.target.getD (ceilCyc (s.tt.tt + 8192))) }

/-- The state in which the activation is prepared. -/
def withPrepared (a : Activation) (s : State) : State := onUpd (fun u => { u with act := some (preparedFor a s) }) s

theorem exec_preparationComplete : exec .preparationComplete s = .next (
    match tlPost (a.target.getD (ceilCyc (s.tt.tt + 8192)) * 4096) 2 0x12 .handover (withPrepared a s) with
    | some s1 => s1
    | none => tlFull 0x12 2 s) := by
  have hguard : (a.prepared || !(match a.target with | some t => decide (s.tt.tt ≤ (t - 1) * 4096) | none => true) || !served s) = false := by
    rw [hnot, hserved]
    cases ht : a.target with
    | none => rfl
    | some c => simp only [decide_eq_true (htime c ht), Bool.not_true, Bool.or_false]
  unfold exec execPreparationComplete
  simp only [hact]
  exact congrArg Host.Outcome.next (if_neg (Bool.eq_false_iff.1 hguard))

theorem exec_preparationComplete_full (hfull : tlRoom s.tl 0x12 1 = false) : ∃ t, exec .preparationComplete s = .next t ∧
    t.tl.entries = s.tl.entries ∧ t.upd = s.upd := by
  have hexec := exec_preparationComplete hact hnot hserved htime
  rw [tlPost_of_full (s := withPrepared a s) hfull] at hexec
  have hkeep := keeps_tlFull 0x12 2 s (mk := 0x1000020) (s0 := s) rfl (Keeps.refl _ s)
  exact ⟨_, hexec, congrArg Timeline.entries (hkeep.get 5 rfl), hkeep.get 24 rfl⟩

theorem exec_preparationComplete_posts (hroom : tlRoom s.tl 0x12 1 = true) : ∃ t x, exec .preparationComplete s = .next t ∧
    t.tl.entries = s.tl.entries ++ [x] ∧ x.kind = .handover ∧ x.rank = 2 ∧ x.block = 0x12 ∧
    x.target = a.target.getD (ceilCyc (s.tt.tt + 8192)) * 4096 ∧
    t.upd.act = some { a with prepared := true, target := some (a.target.getD (ceilCyc (s.tt.tt + 8192))) } := by
  have hexec := exec_preparationComplete hact hnot hserved htime
  rw [tlPost_of_room (s := withPrepared a s) hroom] at hexec
  exact ⟨_, _, hexec, rfl, rfl, rfl, rfl, rfl, rfl⟩

end

theorem exec_preparationDeadline {c : Nat} (htarget : a.target = some c) (hnot : a.prepared = false) (hlate : (c - 1) * 4096 ≤ s.tt.tt) :
    ∃ t, exec .preparationDeadline s = .next t ∧ t.upd.session = initSession ∧ t.upd.act = none ∧ t.upd.other = .empty ∧
      t.upd.lastOutcome = 3 ∧ t.upd.active = s.upd.active ∧ t.upd.bank = s.upd.bank := by
  have hexec : exec .preparationDeadline s = .next (emptyBank (endSession (endUnopened 3 a s))) := by
    unfold exec execPreparationDeadline
    simp only [hact, htarget, hnot, decide_eq_false (Nat.not_lt.2 hlate), Bool.or_self, Bool.false_eq_true, if_false]
  have hupd : (endUnopened 3 a s).upd = { s.upd with
      act := none
      lastOutcome := 3 } := complete_upd ..
  refine ⟨_, hexec, rfl, ?_⟩
  show (endUnopened 3 a s).upd.act = none ∧ BankSt.empty = .empty ∧ (endUnopened 3 a s).upd.lastOutcome = 3 ∧
    (endUnopened 3 a s).upd.active = s.upd.active ∧ (endUnopened 3 a s).upd.bank = s.upd.bank
  rw [hupd]
  exact ⟨rfl, rfl, rfl, rfl, rfl⟩

/-! ### The window (R480, R481, R485) -/

theorem exec_handoverOpen {e : TlEntry} (hdue : Due e s) (hkind : e.kind = .handover) : ∃ t, exec .handoverOpen s = .next t ∧
    t.upd.windowOpen = true ∧ t.upd.openCyc = e.target / 4096 ∧ t.upd.late = busyMask s ∧
    (a.rollback = false → t.upd.session.st = .handover) ∧ t.upd.act = some a ∧ t.upd.active = s.upd.active := by
  let s0 := tlRemove e.seq s
  let t := settleMode s0 0 (onUpd (fun u => { u with
    windowOpen := true
    openCyc := e.target / 4096
    late := busyMask s0
    session := if a.rollback then u.session else { u.session with st := .handover } }) s0)
  have hexec : exec .handoverOpen s = .next t := by
    refine congrArg Host.Outcome.next ((tlFire_of_due hdue (by rw [hkind])).trans ?_)
    simp only [show (tlRemove e.seq s).upd.act = some a from hact]
    rfl
  refine ⟨t, hexec, ?_⟩
  rw [show t.upd = _ from settleMode_upd ..]
  exact ⟨rfl, rfl, rfl, fun hroll => congrArg Session.st (if_neg (Bool.eq_false_iff.1 hroll)), hact, rfl⟩

section
variable (hopen : s.upd.windowOpen = true)
include hopen

section
variable (hready : a.ready = none) (hin : a.timedOut = false)
include hready hin

theorem exec_firmwareReady (htime : s.tt.tt ≤ (s.upd.openCyc + 7) * 4096) :
    exec .firmwareReady s = .next { s with upd := { s.upd with act := some { a with ready := some (cycOf s) } } } := by
  unfold exec execFirmwareReady
  simp only [hact]
  refine congrArg Host.Outcome.next (if_pos ?_)
  rw [hopen, hready, hin, decide_eq_true htime]
  rfl

variable (hlate : (s.upd.openCyc + 7) * 4096 ≤ s.tt.tt)
include hlate

/-- What a time-out does, by kind and by whether the old set could resume. -/
theorem exec_handoverTimeout (b : Bool) (crcBad : List Nat) : exec (.handoverTimeout b crcBad) s = .next (
    if a.rollback then logEv evUpdRollback 0xFF [wd 2, wAt s.upd.active 2,
        wAt (enterStandby .standby bootSet crcBad (internalReset false 8 s)).1.upd.active 2,
        wd (enterStandby .standby bootSet crcBad (internalReset false 8 s)).2]
      (enterStandby .standby bootSet crcBad (internalReset false 8 s)).1
    else if b then onUpd (fun u => { u with
      late := maskOf 64 fun n => engineBusy s n && !u.late.testBit n && decide (n < engineCount s.dev.variant)
      act := some { a with timedOut := true } }) s
    else internalReset false 8 s) := by
  unfold exec execHandoverTimeout
  simp only [hact]
  refine congrArg Host.Outcome.next (if_neg ?_)
  rw [hopen, hready, hin, decide_eq_false (Nat.not_lt.2 hlate)]
  exact Bool.false_ne_true

theorem exec_handoverTimeout_rollback (hroll : a.rollback = true) (b : Bool) (crcBad : List Nat) :
    ∃ t, exec (.handoverTimeout b crcBad) s = .next t ∧ t.upd.active = s.upd.otherMan ∧ t.upd.bank = 1 - s.upd.bank ∧
      t.upd.other = .standby ∧ t.upd.trial = false ∧
      (alive s = true → s.pwr.bootStep ≠ .inReset → t.pwr.cause = 8 ∧ t.pwr.bootStep = .phase) := by
  refine ⟨_, (exec_handoverTimeout hact hopen hready hin hlate b crcBad).trans (congrArg Host.Outcome.next (if_pos hroll)), ?_⟩
  rw [logEv_upd, enterStandby_upd (fun k c s => keeps_bootSet k c s rfl (Keeps.refl _ s))]
  obtain ⟨-, hother, hbank⟩ := internalReset_sets false 8 s
  refine ⟨hother, congrArg (1 - ·) hbank, rfl, rfl, fun halive hreset => ?_⟩
  have hboot := internalReset_entersBoot false 8 halive hreset
  obtain ⟨hcause, hstep⟩ := enterStandby_boot crcBad (internalReset false 8 s)
  exact ⟨hcause.trans hboot.cause, hstep.trans hboot.bootStep⟩

theorem exec_handoverTimeout_resets (hroll : a.rollback = false) (crcBad : List Nat) :
    exec (.handoverTimeout false crcBad) s = .next (internalReset false 8 s) :=
  (exec_handoverTimeout hact hopen hready hin hlate false crcBad).trans (congrArg Host.Outcome.next (if_neg (Bool.eq_false_iff.1 hroll)))

theorem exec_handoverTimeout_resumes (hroll : a.rollback = false) (crcBad : List Nat) :
    ∃ t, exec (.handoverTimeout true crcBad) s = .next t ∧ t.upd.act = some { a with timedOut := true } ∧
      t.upd.active = s.upd.active ∧ OnlyChanges [.upd] s t :=
  ⟨_, (exec_handoverTimeout hact hopen hready hin hlate true crcBad).trans (congrArg Host.Outcome.next (if_neg (Bool.eq_false_iff.1 hroll))),
    rfl, rfl, only_of_keeps (Keeps.set_upd (mk := 0xFFF9FEFFFFFF) rfl (Keeps.refl _ s)) (by decide)⟩

end

/-! ### The close of the window (R481, R482, R485) -/

section
variable (crcBad : List Nat)

theorem exec_handoverClose_early {k : Nat} (hready : a.ready = some k) (hk : cycOf s ≤ k) : exec (.handoverClose crcBad) s = .next s := by
  unfold exec execHandoverClose
  simp only [hact, hopen, hready, hk, if_true, Bool.not_true, Bool.false_eq_true, if_false]

section
variable {k : Nat} (hready : a.ready = some k) (hk : k < cycOf s)
include hready hk

/-- The state in which the session's set has taken over on trial. -/
def trialEntered (a : Activation) (s : State) : State :=
  onUpd (fun u => { u with
    lastReset := (enterTrial .standby liveSet a.trialS (closeWindow 0x1204 s.upd.openCyc s)).2
    lastOutcome := 0 }) (enterTrial .standby liveSet a.trialS (closeWindow 0x1204 s.upd.openCyc s)).1

theorem exec_handoverClose_trial (hroll : a.rollback = false) : ∃ t, exec (.handoverClose crcBad) s = .next t ∧ t.upd.windowOpen = false ∧
    t.upd.act = none ∧ t.upd.active = s.upd.session.man ∧ t.upd.otherMan = s.upd.active ∧ t.upd.bank = 1 - s.upd.bank ∧
    t.upd.other = .standby ∧ t.upd.trial = true ∧ t.upd.trialS = a.trialS ∧ t.upd.trialRun = 0 ∧ t.upd.session.st = .trial ∧
    t.upd.floor = s.upd.floor ∧ t.upd.lastOpen = s.upd.openCyc ∧ t.upd.lastOutcome = 0 := by
  obtain ⟨words, content, hexec⟩ : ∃ words content, exec (.handoverClose crcBad) s = .next (complete a.org stOk words
      (logNs evUpdActivate 0xFF content (trialEntered a s))) := by
    unfold exec execHandoverClose
    simp only [hact, hopen, hready, Nat.not_le.2 hk, hroll, Bool.not_true, Bool.false_eq_true, if_false]
    exact ⟨_, _, rfl⟩
  have hupd : (complete a.org stOk words (logNs evUpdActivate 0xFF content (trialEntered a s))).upd =
      { (enterTrial .standby liveSet a.trialS (closeWindow 0x1204 s.upd.openCyc s)).1.upd with
        lastReset := (enterTrial .standby liveSet a.trialS (closeWindow 0x1204 s.upd.openCyc s)).2
        lastOutcome := 0 } := by
    rw [complete_upd, logNs_upd]
    rfl
  obtain ⟨late, hclose⟩ := closeWindow_upd 0x1204 s.upd.openCyc s
  rw [enterTrial_upd (fun k c s => keeps_liveSet k c s rfl (Keeps.refl _ s))] at hupd
  unfold onTrial swapped at hupd
  simp only [hclose] at hupd
  refine ⟨_, hexec, ?_⟩
  rw [hupd]
  exact ⟨rfl, rfl, rfl, rfl, rfl, rfl, rfl, rfl, rfl, rfl, rfl, rfl, rfl⟩

theorem exec_handoverClose_rollback (hroll : a.rollback = true) : ∃ t, exec (.handoverClose crcBad) s = .next t ∧ t.upd.windowOpen = false ∧
    t.upd.act = none ∧ t.upd.active = s.upd.otherMan ∧ t.upd.otherMan = s.upd.active ∧ t.upd.bank = 1 - s.upd.bank ∧
    t.upd.other = .standby ∧ t.upd.trial = false ∧ t.upd.floor = s.upd.floor := by
  obtain ⟨t, hexec, hupd⟩ : ∃ t, exec (.handoverClose crcBad) s = .next t ∧
      t.upd = (enterStandby .standby liveSet crcBad (closeWindow 0x1206 s.upd.openCyc s)).1.upd := by
    unfold exec execHandoverClose
    simp only [hact, hopen, hready, Nat.not_le.2 hk, hroll, Bool.not_true, Bool.false_eq_true, if_false, if_true]
    exact ⟨_, rfl, (complete_upd ..).trans (logEv_upd ..)⟩
  obtain ⟨late, hclose⟩ := closeWindow_upd 0x1206 s.upd.openCyc s
  rw [enterStandby_upd (fun k c s => keeps_liveSet k c s rfl (Keeps.refl _ s))] at hupd
  unfold offTrial swapped at hupd
  simp only [hclose] at hupd
  refine ⟨t, hexec, ?_⟩
  rw [hupd]
  exact ⟨rfl, rfl, rfl, rfl, rfl, rfl, rfl, rfl⟩

end

theorem exec_handoverClose_resumed (hready : a.ready = none) (hout : a.timedOut = true) (htime : (s.upd.openCyc + 8) * 4096 ≤ s.tt.tt) :
    ∃ t, exec (.handoverClose crcBad) s = .next t ∧ t.upd.windowOpen = false ∧ t.upd.act = none ∧ t.upd.active = s.upd.active ∧
      t.upd.bank = s.upd.bank ∧ t.upd.session.st = .verified ∧ t.upd.lastOutcome = 1 := by
  obtain ⟨t, hexec, hupd⟩ : ∃ t, exec (.handoverClose crcBad) s = .next t ∧
      t.upd = { (closeWindow 0x1204 s.upd.openCyc s).upd with
        lastReset := 0
        lastOutcome := 1
        session := { (closeWindow 0x1204 s.upd.openCyc s).upd.session with st := .verified } } := by
    unfold exec execHandoverClose
    simp only [hact, hopen, hready, hout, decide_eq_false (Nat.not_lt.2 htime), Bool.not_true, Bool.or_self, Bool.false_eq_true, if_false]
    exact ⟨_, rfl, complete_upd ..⟩
  obtain ⟨late, hclose⟩ := closeWindow_upd 0x1204 s.upd.openCyc s
  simp only [hclose] at hupd
  refine ⟨t, hexec, ?_⟩
  rw [hupd]
  exact ⟨rfl, rfl, rfl, rfl, rfl, rfl⟩

end

end

end

/-! ### Engines and entries that are no window's -/

theorem exec_engineChangeover {n : Nat} (hlate : s.upd.late.testBit n = true) (hfree : engineBusy s n = false) :
    exec (.engineChangeover n) s = .next { s with upd := { s.upd with late := setBit s.upd.late n false } } :=
  congrArg Host.Outcome.next (if_pos (by rw [hlate, hfree]; rfl))

theorem exec_engineChangeover_busy {n : Nat} (hbusy : engineBusy s n = true) : exec (.engineChangeover n) s = .next s :=
  congrArg Host.Outcome.next (if_neg (by
    rw [hbusy, Bool.not_true, Bool.and_false]
    exact Bool.false_ne_true))

theorem exec_handoverOpen_other {e : TlEntry} (hdue : Due e s) (hkind : e.kind ≠ .handover) : exec .handoverOpen s = .next s := by
  refine congrArg Host.Outcome.next ?_
  unfold tlFire
  simp only [show tlDue s = some e from hdue]

end

/-- Settles O59: what follows the exchange of the banks, the settings put in place and the close's contacts, leaves the update unit. -/
theorem theHandoverWindowChangesSets : Obligations.TheHandoverWindowChangesSets := by
  unfold Obligations.TheHandoverWindowChangesSets
  intro s a
  refine ⟨fun hnone n b l => window_of_none hnone n b l, fun hact => ⟨exec_preparationComplete_full hact, exec_preparationComplete_posts hact,
      fun c htarget hnot hlate => exec_preparationDeadline hact htarget hnot hlate, fun e hdue hkind => exec_handoverOpen hact hdue hkind,
      fun hopen hready hin => ⟨exec_firmwareReady hact hopen hready hin, fun hlate crcBad =>
        ⟨fun hroll b => exec_handoverTimeout_rollback hact hopen hready hin hlate hroll b crcBad,
          fun hroll => ⟨exec_handoverTimeout_resets hact hopen hready hin hlate hroll crcBad,
            exec_handoverTimeout_resumes hact hopen hready hin hlate hroll crcBad⟩⟩⟩,
      fun hopen crcBad => ⟨fun k hready hk => exec_handoverClose_early hact hopen crcBad hready hk,
        fun k hready hk => ⟨exec_handoverClose_trial hact hopen crcBad hready hk, exec_handoverClose_rollback hact hopen crcBad hready hk⟩,
        fun hready hout htime => exec_handoverClose_resumed hact hopen crcBad hready hout htime⟩⟩,
    fun n hlate hfree => exec_engineChangeover hlate hfree, fun n hbusy => exec_engineChangeover_busy hbusy,
    fun e hdue hkind => exec_handoverOpen_other hdue hkind⟩

end Sys2Proof.Proofs
end

section
/-! PROOFS. The UPD commands and the confirmation of a trial (O60). -/
namespace Sys2Proof.Proofs
open Sys2Proof Sys2Proof.Machine Sys2Proof.Laws

section
variable {s : State} {r : Req}

/-! ### What leaves the update unit as it is -/

theorem logLoadFail_upd (cause : Nat) (item : Option Nat) (s : State) : (logLoadFail cause item s).upd = s.upd :=
  (keeps_logLoadFail cause item s (mk := 0x1000000) (s0 := s) rfl (Keeps.refl _ s)).get 24 rfl

theorem norOn_upd (dev area f : Nat) (s : State) : (norOn dev area f s).1.upd = s.upd :=
  (keeps_norOn dev area f s (mk := 0x1000000) (s0 := s) rfl (Keeps.refl _ s)).get 24 rfl

theorem acceptN_upd (r : Req) (s : State) : (acceptN r s).upd = s.upd :=
  (keeps_acceptN r s (mk := 0x1000000) (s0 := s) rfl (Keeps.refl _ s)).get 24 rfl

/-- A session that fails keeps everything but its state and its check. -/
theorem sessionFail_upd (cause : Nat) (item : Option Nat) (s : State) : (sessionFail cause item s).upd =
    { s.upd with session := { s.upd.session with
      st := .failed
      verify := none } } :=
  logLoadFail_upd cause item _

/-! ### UPD.BEGIN (R473 to R476) -/

theorem exec_updBegin_rejected (h : Runs 0x0F01 chkUpdBegin r s) (f : Nat) {fl : Fail} {x : Option (Nat × Option Nat)}
    (hreject : beginReject r (took r s) = some (fl, x)) : ∃ u, exec (.updBegin f) s = .next (failReq r fl u) ∧ u.upd = s.upd := by
  have hact := serve_of_runs (act := actUpdBegin f) h
  unfold actUpdBegin at hact
  rw [hreject] at hact
  cases x with
  | none => exact ⟨_, congrArg Host.Outcome.next hact, rfl⟩
  | some x => exact ⟨_, congrArg Host.Outcome.next hact, logLoadFail_upd x.1 x.2 (took r s)⟩

theorem exec_updBegin_unwritten (h : Runs 0x0F01 chkUpdBegin r s) {f : Nat} (hreject : beginReject r (took r s) = none)
    (hbad : (norOn (1 - s.upd.bank) 0 f (took r s)).2 = false) :
    ∃ u, exec (.updBegin f) s = .next (failReq r ⟨13, stMedia, 0xFFFF, 0⟩ u) ∧ u.upd = s.upd := by
  have hact := serve_of_runs (act := actUpdBegin f) h
  unfold actUpdBegin at hact
  rw [hreject] at hact
  refine ⟨_, congrArg Host.Outcome.next (hact.trans (if_neg (Bool.eq_false_iff.1 hbad))), ?_⟩
  exact (logLoadFail_upd ..).trans (norOn_upd (1 - s.upd.bank) 0 f (took r s))

theorem exec_updBegin_opens (h : Runs 0x0F01 chkUpdBegin r s) {f : Nat} (hreject : beginReject r (took r s) = none)
    (hgood : (norOn (1 - s.upd.bank) 0 f (took r s)).2 = true) :
    ∃ u, exec (.updBegin f) s = .next (ok r [] u) ∧ u.upd.session.st = .loading ∧ u.upd.session.port = r.port ∧
      u.upd.session.man = updMan r ∧ u.upd.session.parts = List.replicate (manN (updMan r)) [] ∧ u.upd.other = .session ∧
      u.upd.otherMan = updMan r ∧ u.upd.active = s.upd.active ∧ u.upd.bank = s.upd.bank := by
  have hact := serve_of_runs (act := actUpdBegin f) h
  unfold actUpdBegin at hact
  rw [hreject] at hact
  have hnor := norOn_upd (1 - s.upd.bank) 0 f (took r s)
  refine ⟨_, congrArg Host.Outcome.next (hact.trans (if_pos hgood)), rfl, rfl, rfl, rfl, rfl, rfl, ?_, ?_⟩
  · show (norOn (1 - s.upd.bank) 0 f (took r s)).1.upd.active = s.upd.active
    rw [hnor]
    rfl
  · show (norOn (1 - s.upd.bank) 0 f (took r s)).1.upd.bank = s.upd.bank
    rw [hnor]
    rfl

/-! ### UPD.CHUNK and UPD.VERIFY (R477, R478) -/

theorem exec_updChunk_media (h : Runs 0x0F02 chkUpdChunk r s) (f : Nat) (hmedia : s.upd.session.media = true) :
    ∃ u, exec (.updChunk f) s = .next (failReq r ⟨13, stMedia, 0xFFFF, 0⟩ u) ∧ u.upd.session = { s.upd.session with media := false } :=
  ⟨_, congrArg Host.Outcome.next ((serve_of_runs (act := actUpdChunk f) h).trans (if_pos hmedia)), rfl⟩

/-- The words of a part with those of the request behind them. -/
def partSoFar (r : Req) (s : State) : List Word := gotWords s.upd.session (chunkPart r) ++ chunkData r

/-- The session with the request's words. -/
def chunked (r : Req) (s : State) : State :=
  onSess (fun x => { x with parts := updAt x.parts (chunkPart r) fun _ => partSoFar r s }) (took r s)

/-- The hash of a part with the request's words behind it. -/
def hashSoFar (r : Req) (s : State) : List Word :=
  sha256 ((octetsOfWords (partSoFar r s)).take (partLen s.upd.session.man (chunkPart r)))

/-- A session is LOADED when every part has come. -/
def wholeLoaded (s : State) : State := if allParts s.upd.session then onSess (fun x => { x with st := .loaded }) s else s

theorem wholeLoaded_session (s : State) : (wholeLoaded s).upd.session.parts = s.upd.session.parts ∧
    (wholeLoaded s).upd.session.st = (if allParts (wholeLoaded s).upd.session then .loaded else s.upd.session.st) := by
  by_cases hall : allParts s.upd.session = true
  · rw [show wholeLoaded s = _ from if_pos hall]
    exact ⟨rfl, (if_pos hall).symm⟩
  · rw [show wholeLoaded s = _ from if_neg hall]
    exact ⟨rfl, (if_neg hall).symm⟩

section
variable (h : Runs 0x0F02 chkUpdChunk r s) (f : Nat) (hmedia : s.upd.session.media = false)
include h hmedia

theorem exec_updChunk_wrong (hwhole : (partSoFar r s).length = partWords s.upd.session.man (chunkPart r))
    (hhash : hashSoFar r s ≠ partHash s.upd.session.man (chunkPart r)) :
    ∃ u, exec (.updChunk f) s = .next (failReq r ⟨13, stVerifyFail, 0xFFFF, chunkPart r⟩ u) ∧ u.upd.session.st = .failed := by
  have hact := (serve_of_runs (act := actUpdChunk f) h).trans (if_neg (Bool.eq_false_iff.1 hmedia))
  refine ⟨_, congrArg Host.Outcome.next (hact.trans (if_pos ?_)), ?_⟩
  · exact Bool.and_eq_true_iff.2 ⟨beq_iff_eq.2 hwhole, bne_iff_ne.2 hhash⟩
  · rw [sessionFail_upd]

theorem exec_updChunk_stored (hright : (partSoFar r s).length ≠ partWords s.upd.session.man (chunkPart r) ∨
      hashSoFar r s = partHash s.upd.session.man (chunkPart r)) :
    ∃ u, exec (.updChunk f) s = .next (ok r [] u) ∧
      u.upd.session.parts = updAt s.upd.session.parts (chunkPart r) (fun _ => partSoFar r s) ∧
      (u.upd.session.st = .failed ∧ u.upd.session.media = true ∨
        u.upd.session.st = (if allParts u.upd.session then .loaded else s.upd.session.st)) := by
  have hact := (serve_of_runs (act := actUpdChunk f) h).trans (if_neg (Bool.eq_false_iff.1 hmedia))
  have hfits : ¬ ((partSoFar r s).length == partWords s.upd.session.man (chunkPart r) &&
      hashSoFar r s != partHash s.upd.session.man (chunkPart r)) = true := by
    rw [Bool.and_eq_true_iff, beq_iff_eq, bne_iff_ne]
    exact fun ⟨hwhole, hhash⟩ => hright.elim (absurd hwhole) hhash
  have hstored := hact.trans (if_neg hfits)
  have hnor := norOn_upd (1 - s.upd.bank) 0 f (chunked r s)
  cases hgood : (norOn (1 - s.upd.bank) 0 f (chunked r s)).2 with
  | false =>
    refine ⟨_, congrArg Host.Outcome.next (hstored.trans (if_pos (congrArg (!·) hgood))), ?_, .inl ?_⟩
    · rw [sessionFail_upd]
      exact congrArg (fun u : Upd => u.session.parts) hnor
    · rw [sessionFail_upd]
      exact ⟨rfl, rfl⟩
  | true =>
    have hwrites := hstored.trans (if_neg (Bool.eq_false_iff.1 (congrArg (!·) hgood)))
    obtain ⟨hparts, hst⟩ := wholeLoaded_session (norOn (1 - s.upd.bank) 0 f (chunked r s)).1
    rw [hnor] at hparts hst
    exact ⟨wholeLoaded (norOn (1 - s.upd.bank) 0 f (chunked r s)).1, congrArg Host.Outcome.next hwrites, hparts, .inr hst⟩

end

theorem exec_updVerify_media (h : Runs 0x0F03 chkUpdVerify r s) (hmedia : s.upd.session.media = true) :
    ∃ u, exec .updVerify s = .next (failReq r ⟨13, stMedia, 0xFFFF, 0⟩ u) ∧ u.upd.session = { s.upd.session with media := false } :=
  ⟨_, congrArg Host.Outcome.next ((serve_of_runs (act := actUpdVerify) h).trans (if_pos hmedia)), rfl⟩

theorem exec_updVerify (h : Runs 0x0F03 chkUpdVerify r s) (hmedia : s.upd.session.media = false) :
    ∃ u, exec .updVerify s = .next (acceptN r u) ∧ u.upd.session.st = .verifying ∧
      u.upd.session.verify = some (r.origin, s.clk.ticks) :=
  ⟨_, congrArg Host.Outcome.next ((serve_of_runs (act := actUpdVerify) h).trans (if_neg (Bool.eq_false_iff.1 hmedia))), rfl, rfl⟩

section
variable {o : Origin} {since : Nat} (hverify : s.upd.session.verify = some (o, since)) {m : Nat}
include hverify

theorem exec_updVerifyComplete_unread : ∃ u, exec (.updVerifyComplete m false) s = .next (completeFail o ⟨13, stMedia, 0xFFFF, 0⟩ u) ∧
    u.upd.session.st = .failed := by
  unfold exec execUpdVerifyComplete
  simp only [hverify, Bool.not_false, if_true]
  refine ⟨_, rfl, ?_⟩
  rw [sessionFail_upd]

theorem exec_updVerifyComplete_good (hall : ∀ k, k < manN s.upd.session.man → m.testBit k = true) :
    ∃ u, exec (.updVerifyComplete m true) s = .next (complete o stOk (wd (manN s.upd.session.man) :: manDigest s.upd.session.man) u) ∧
      u.upd.session.st = .verified ∧ u.upd.session.verify = none ∧ u.upd.active = s.upd.active := by
  have hnone : ((List.range (manN s.upd.session.man)).find? fun k => !m.testBit k) = none :=
    List.find?_eq_none.2 fun k hk => by simp [hall k (List.mem_range.1 hk)]
  unfold exec execUpdVerifyComplete
  simp only [hverify, hnone, Bool.not_true, Bool.false_eq_true, if_false]
  exact ⟨_, rfl, rfl, rfl, rfl⟩

theorem exec_updVerifyComplete_bad {k : Nat} (hk : k < manN s.upd.session.man) (hbit : m.testBit k = false)
    (hbelow : ∀ j, j < k → m.testBit j = true) :
    ∃ u, exec (.updVerifyComplete m true) s = .next (completeFail o ⟨13, stVerifyFail, 0xFFFF, k⟩ u) ∧ u.upd.session.st = .failed := by
  have hfirst : ((List.range (manN s.upd.session.man)).find? fun k => !m.testBit k) = some k :=
    List.find?_range_eq_some.2 ⟨by simp [hbit], List.mem_range.2 hk, fun j hj => by simp [hbelow j hj]⟩
  unfold exec execUpdVerifyComplete
  simp only [hverify, hfirst, Bool.not_true, Bool.false_eq_true, if_false]
  refine ⟨_, rfl, ?_⟩
  rw [sessionFail_upd]

end

theorem exec_updVerifyComplete_none (hverify : s.upd.session.verify = none) (m : Nat) (b : Bool) :
    exec (.updVerifyComplete m b) s = .next s := by
  unfold exec execUpdVerifyComplete
  simp only [hverify]

/-! ### UPD.ACTIVATE and UPD.ROLLBACK (R479, R485, R487) -/

theorem exec_updActivate_confirms (h : Runs 0x0F04 chkUpdActivate r s) (hop : actOp r = 1) :
    exec .updActivate s = .next (okN r [] (confirmTrial 1 (took r s))) :=
  congrArg Host.Outcome.next ((serve_of_runs (act := actUpdActivate) h).trans (if_pos hop))

theorem activateHalted_starts (r : Req) (s : State) : (activateHalted r s).pwr.bootHalt = false ∧
    (activateHalted r s).pwr.bootStep = .verify ∧ (activateHalted r s).upd.active = s.upd.session.man ∧
    (activateHalted r s).upd.bank = 1 - s.upd.bank ∧ (activateHalted r s).upd.trial = true ∧
    (activateHalted r s).upd.trialS = actTrial r := by
  obtain ⟨s1, n, hset⟩ : ∃ s1 n, enterTrial .empty bootSet (actTrial r) s = (s1, n) := ⟨_, _, rfl⟩
  have hupd := enterTrial_upd (fun k c s => keeps_bootSet k c s rfl (Keeps.refl _ s)) .empty (actTrial r) s
  rw [hset] at hupd
  unfold activateHalted
  rw [hset]
  extract_lets flags
  dsimp -zeta only
  extract_lets p s2 s3
  have hkeeps : Keeps 0x1000004 s2 s3 := keeps_reportMode _ _ _ _ rfl (keeps_logNs _ _ _ _ rfl (Keeps.refl _ s2))
  have hends (ws : List Word) : Keeps 0x1000004 s2 (complete r.origin stOk ws (acceptN r s3)) :=
    keeps_complete _ _ _ _ rfl (keeps_acceptN _ _ rfl hkeeps)
  have h2 : s2.pwr.bootHalt = false ∧ s2.pwr.bootStep = .verify ∧ s2.upd.active = s1.upd.active ∧ s2.upd.bank = s1.upd.bank ∧
      s2.upd.trial = s1.upd.trial ∧ s2.upd.trialS = s1.upd.trialS := ⟨rfl, rfl, rfl, rfl, rfl, rfl⟩
  rw [show s1.upd = _ from hupd] at h2
  rw [(hends _).get 2 rfl, (hends _).get 24 rfl]
  exact h2

theorem exec_updActivate_halted (h : Runs 0x0F04 chkUpdActivate r s) (hop : actOp r ≠ 1) (hhalt : s.pwr.bootHalt = true) :
    exec .updActivate s = .next (activateHalted r (took r s)) :=
  congrArg Host.Outcome.next (((serve_of_runs (act := actUpdActivate) h).trans (if_neg hop)).trans (if_pos hhalt))

theorem exec_updActivate_prepares (h : Runs 0x0F04 chkUpdActivate r s) (hop : actOp r ≠ 1) (hhalt : s.pwr.bootHalt = false)
    (hfree : blockers s.bal 4 = []) : ∃ u, exec .updActivate s = .next (acceptN r u) ∧ u.upd.session.st = .preparing ∧
      u.upd.act = some ⟨false, r.origin, r.target, false, actTrial r, none, false⟩ ∧ u.upd.active = s.upd.active ∧
      u.bal.running = s.bal.running ++ [⟨4, 1 - s.upd.bank⟩] := by
  have hact := (serve_of_runs (act := actUpdActivate) h).trans ((if_neg hop).trans (if_neg (Bool.eq_false_iff.1 hhalt)))
  exact ⟨_, congrArg Host.Outcome.next (hact.trans (admitReq_free _ r _ (s := took r s) hfree)), rfl, rfl, rfl, rfl⟩

theorem exec_updRollback (h : Runs 0x0F06 chkUpdRollback r s) (hfree : blockers s.bal 4 = []) :
    ∃ u, exec .updRollback s = .next (acceptN r u) ∧ u.upd.act = some ⟨true, r.origin, none, false, 0, none, false⟩ ∧
      u.upd.session = s.upd.session ∧ u.bal.running = s.bal.running ++ [⟨4, 1 - s.upd.bank⟩] := by
  have hact := serve_of_runs (act := actUpdRollback) h
  exact ⟨_, congrArg Host.Outcome.next (hact.trans (admitReq_free _ r _ (s := took r s) hfree)), rfl, rfl, rfl⟩

/-! ### UPD.STATUS and UPD.ABORT -/

theorem exec_updStatus (h : Runs 0x0F05 chkUpdStatus r s) : ∃ ws, exec .updStatus s = .next (ok r ws (took r s)) ∧ ws.length = 12 := by
  have hact := serve_of_runs (act := actUpdStatus) h
  unfold actUpdStatus at hact
  exact ⟨_, congrArg Host.Outcome.next hact, rfl⟩

/-- An activation that ends before its window leaves the set in service and the floor. -/
theorem endUnopened_sets (cause : Nat) (a : Activation) (s : State) : (endUnopened cause a s).upd.active = s.upd.active ∧
    (endUnopened cause a s).upd.floor = s.upd.floor := by
  have hkeeps := keeps_endUnopened cause a s (mk := 0x600000000) (s0 := s) rfl (Keeps.refl _ s)
  exact ⟨hkeeps.get 34 rfl, hkeeps.get 33 rfl⟩

theorem exec_updAbort (h : Runs 0x0F07 chkUpdAbort r s) : ∃ t, exec .updAbort s = .next t ∧ t.upd.session = initSession ∧
    t.upd.other = .empty ∧ t.upd.otherMan = [] ∧ t.upd.active = s.upd.active ∧ t.upd.floor = s.upd.floor := by
  have hact := serve_of_runs (act := actUpdAbort) h
  unfold actUpdAbort at hact
  extract_lets s1 s2 at hact
  have hs1 : s1.upd = s.upd := by
    show (ok r [] (took r s)).upd = s.upd
    exact (keeps_ok r [] (took r s) (mk := 0x1000000) (s0 := took r s) rfl (Keeps.refl _ _)).get 24 rfl
  have hs2 : s2.upd.active = s1.upd.active ∧ s2.upd.floor = s1.upd.floor := by
    unfold s2
    split
    · split
      · exact endUnopened_sets ..
      · exact ⟨rfl, rfl⟩
    · exact ⟨rfl, rfl⟩
  rw [hs1] at hs2
  exact ⟨_, congrArg Host.Outcome.next hact, rfl, rfl, rfl, hs2.1, hs2.2⟩

/-! ### The confirmation of a trial (R483) -/

theorem exec_trialConfirm (htrial : s.upd.trial = true) (hserved : served s = true) (htime : s.upd.trialS * 40000000 ≤ s.upd.trialRun) :
    exec .trialConfirm s = .next (confirmTrial 0 s) :=
  congrArg Host.Outcome.next (if_pos (by
    rw [htrial, hserved, decide_eq_true htime]
    rfl))

theorem exec_trialConfirm_early (h : s.upd.trial = false ∨ s.upd.trialRun < s.upd.trialS * 40000000) :
    exec .trialConfirm s = .next s := by
  refine congrArg Host.Outcome.next (if_neg ?_)
  rcases h with htrial | hearly
  · rw [htrial]
    exact Bool.false_ne_true
  · rw [decide_eq_false (Nat.not_le.2 hearly), Bool.and_false]
    exact Bool.false_ne_true

/-- The floor after a confirmation: raised to that of the set in service where one raise is left. -/
def confirmedFloor (u : Upd) : Nat :=
  if decide (u.floor < manFloor u.active) && decide (0 < u.floorLeft) then manFloor u.active else u.floor

theorem confirmTrial_upd (c : Nat) (s : State) : (confirmTrial c s).upd = { s.upd with
    trial := false
    trialS := 0
    trialRun := 0
    trialBoots := 0
    other := .standby
    session := initSession
    floor := confirmedFloor s.upd
    floorLeft := if decide (s.upd.floor < manFloor s.upd.active) then s.upd.floorLeft - 1 else s.upd.floorLeft } := by
  unfold confirmTrial
  dsimp only
  split <;> rfl

theorem confirmedFloor_max {u : Upd} (hleft : u.floorLeft ≠ 0) : confirmedFloor u = Nat.max u.floor (manFloor u.active) := by
  unfold confirmedFloor
  rw [decide_eq_true (Nat.pos_of_ne_zero hleft), Bool.and_true]
  by_cases hraise : u.floor < manFloor u.active
  · rw [decide_eq_true hraise]
    exact (Nat.max_eq_right (Nat.le_of_lt hraise)).symm
  · rw [decide_eq_false hraise]
    exact (Nat.max_eq_left (Nat.not_lt.1 hraise)).symm

theorem le_confirmedFloor (u : Upd) : u.floor ≤ confirmedFloor u := by
  unfold confirmedFloor
  split
  next hraise => exact Nat.le_of_lt (of_decide_eq_true (Bool.and_eq_true_iff.1 hraise).1)
  · exact Nat.le_refl _

theorem confirmTrial_confirms (c : Nat) (s : State) : (confirmTrial c s).upd.trial = false ∧ (confirmTrial c s).upd.other = .standby ∧
    (confirmTrial c s).upd.session = initSession ∧ s.upd.floor ≤ (confirmTrial c s).upd.floor ∧
    (s.upd.floorLeft ≠ 0 → (confirmTrial c s).upd.floor = Nat.max s.upd.floor (manFloor s.upd.active)) ∧
    (s.upd.floor < manFloor s.upd.active → (confirmTrial c s).upd.floorLeft = s.upd.floorLeft - 1) ∧
    (manFloor s.upd.active ≤ s.upd.floor → (confirmTrial c s).upd.floorLeft = s.upd.floorLeft) := by
  rw [confirmTrial_upd]
  exact ⟨rfl, rfl, rfl, le_confirmedFloor s.upd, confirmedFloor_max, fun hraise => if_pos (decide_eq_true hraise),
    fun hstands => if_neg (fun hraise => absurd (of_decide_eq_true hraise) (Nat.not_lt.2 hstands))⟩

end

/-- Settles O60: a command's effect on the update unit is read off its action; records, answers and writes to NOR leave that unit. -/
theorem updateCommandsAct : Obligations.UpdateCommandsAct := by
  unfold Obligations.UpdateCommandsAct
  intro r s
  refine ⟨fun h f => ⟨fun fl x => exec_updBegin_rejected h f, exec_updBegin_unwritten h, exec_updBegin_opens h⟩,
    fun h f => ⟨exec_updChunk_media h f, fun hmedia => ⟨exec_updChunk_wrong h f hmedia, exec_updChunk_stored h f hmedia⟩⟩,
    fun h => ⟨exec_updVerify_media h, exec_updVerify h⟩,
    fun o since m hverify => ⟨exec_updVerifyComplete_unread hverify, exec_updVerifyComplete_good hverify,
      fun k hk hbit hbelow => exec_updVerifyComplete_bad hverify hk hbit hbelow⟩,
    fun m b hverify => exec_updVerifyComplete_none hverify m b,
    fun h => ⟨exec_updActivate_confirms h,
      fun hop hhalt => ⟨_, exec_updActivate_halted h hop hhalt, activateHalted_starts r (took r s)⟩, exec_updActivate_prepares h⟩,
    exec_updStatus, exec_updRollback, exec_updAbort, exec_trialConfirm, exec_trialConfirm_early, fun c => confirmTrial_confirms c s⟩

end Sys2Proof.Proofs
end

section
/-! PROOFS. The first failed check answers (O7). -/
namespace Sys2Proof.Proofs
open Sys2Proof Sys2Proof.Machine Sys2Proof.Laws

section
variable {s : State} {r : Req}

/-- A command that serves its opcode answers the first of its checks that fails, and does nothing for another opcode or in a window. -/
theorem answers_of_serve {c : Instr} {code : Nat} {chk : Req → State → Option Fail} {act : Req → State → State}
    (hserve : exec c s = .next (serve code chk act s)) : Answers c code chk r s :=
  ⟨fun _ hrefused => hserve.trans (congrArg Host.Outcome.next (serve_of_refused hrefused)),
    fun hready hother => hserve.trans (congrArg Host.Outcome.next (serve_of_other hready hother)),
    fun hwindow => hserve.trans (congrArg Host.Outcome.next (serve_of_window hwindow))⟩

/-- A transaction command refused for a gap or a full table leaves a record of it. -/
def logRefusal (r : Req) (f : Fail) (s : State) : State :=
  if f.status = stSeqGap then
    logLimK evSeqGap 0xFF r.port.val 1 (fun n => [wd r.port.val, wd (s.txn.expect.get r.port), wd r.seqNo, wd n]) s
  else if f.status = stFull then txnFull r s else s

theorem keeps_logRefusal (r : Req) (f : Fail) (s : State) {mk : Nat} {s0 : State} (he : mk &&& 0xFFFFFFFFF7FF = mk) (hg : Keeps mk s0 s) :
    Keeps mk s0 (logRefusal r f s) := by
  unfold logRefusal
  split
  · exact keeps_logLimK _ _ _ _ _ s he hg
  · split
    · exact keeps_txnFull r s he hg
    · exact hg

theorem serveTxn_of_refused {code : Nat} {chk : Req → State → Option Fail} {f : Fail} (hrefused : Refused code chk r f s) :
    serveTxn code chk s = failReq r f (logRefusal r f (took r s)) := by
  obtain ⟨hready, hcode, hfail⟩ := hrefused
  refine (serve_of_runs ⟨hready, hcode, rfl⟩).trans ?_
  rw [hfail]
  rfl

theorem answers_of_serveTxn {c : Instr} {code : Nat} {chk : Req → State → Option Fail} {f : Fail}
    (hserve : exec c s = .next (serveTxn code chk s)) (hrefused : Refused code chk r f s) :
    ∃ u, exec c s = .next (failReq r f u) ∧ OnlyChanges [.cmd, .log] s u :=
  ⟨_, hserve.trans (congrArg Host.Outcome.next (serveTxn_of_refused hrefused)),
    only_of_keeps (keeps_logRefusal r f (took r s) (mk := 0xF7FFFFFFF3FF) rfl (Keeps.set_cmd rfl (Keeps.refl _ s))) (by decide)⟩

end

/-- Settles O7: each command is the serving of one opcode with its list of checks. -/
theorem theFirstFailedCheckAnswers : Obligations.TheFirstFailedCheckAnswers := by
  unfold Obligations.TheFirstFailedCheckAnswers
  intro r s b b2 n0 n1
  refine ⟨fun f => ⟨answers_of_serveTxn rfl, answers_of_serveTxn rfl, answers_of_serveTxn rfl⟩, ?_⟩
  iterate 126 refine ⟨answers_of_serve rfl, ?_⟩
  exact answers_of_serve rfl

end Sys2Proof.Proofs
end
